-- ==== Sys2Proof/Word.lean ====
section
/-! DEFINITION. The words of the block: 32-bit register words and bytes (R5, R9). -/

-- one theorem after another: in the package as one text, threads that wait for the kernel would fill the memory limit
set_option Elab.async false

namespace Sys2Proof

/-- A register word: peripheral registers are 32 bits wide (R9). -/
abbrev Word := BitVec 32

/-- A byte of memory, of a frame or of a message. -/
abbrev Byte := BitVec 8

/-- A 64-bit register or time value (R11). -/
abbrev DWord := BitVec 64

end Sys2Proof
end

