-- ==== Sys2Proof/Syntax.lean ====
section
/-! DEFINITION. The commands of the block: one constructor per row of the opcode table, with the operands the model gives it (the
table gives none): what the command's event carries from outside. -/

namespace Sys2Proof

/-- How a transition of a gate shows itself (R258): its switching time, and how many hsck after its event the plateau exit lies. -/
structure Switching where
  tsw : Nat
  exit : Nat
  deriving DecidableEq, Repr

/-- A good command frame as a satellite receives it: the reference point `t` (R224) and the alive counter. -/
structure CmdFrame where
  t : Nat
  alive : Fin 16
  deriving DecidableEq, Repr

/-- A good command frame with its opcode. -/
structure OpFrame where
  t : Nat
  alive : Fin 16
  opcode : Fin 16
  deriving DecidableEq, Repr

/-- A bad command frame (R197): the start bit was low, or the select was released before bit 0 was sampled (R223). -/
structure BadFrame where
  t : Nat
  startLow : Bool
  early : Bool
  deriving DecidableEq, Repr

/-- A stage of a halt frame (R226): the first, on hsck 1, where `opening`; the second, on hsck 9, where not. -/
structure HaltStage where
  t : Nat
  opening : Bool
  deriving DecidableEq, Repr

/-- A satellite and its hsck count. -/
structure SatAt where
  k : Fin 8
  now : Nat
  deriving DecidableEq, Repr

/-- The comparator input of a gate (R268, R269): the side, the edge, and the voltages at SCx in mV on the edges up to it, newest last. -/
structure ScSamples where
  high : Bool
  now : Nat
  mv : List Nat
  deriving DecidableEq, Repr

/-- The levels a SHUTDOWN pin readback finds beside HALT_N: GPE, and the BRAKE_REL_N pins that are low, bit j for brake j. -/
structure PinLevels where
  gpe : Bool
  relLow : BitVec 8
  deriving DecidableEq, Repr

/-- A level at an input line and the number of consecutive edges on which it has been registered (R321). -/
structure HeldLevel where
  level : Bool
  held : Nat
  deriving DecidableEq, Repr

/-- A Hall state and the number of consecutive edges on which it has been registered (R321). -/
structure HeldHall where
  state : Fin 8
  held : Nat
  deriving DecidableEq, Repr

/-- A command. -/
inductive Instr
  /-- REGISTER_WRITE (R6). A write to a register that has no row of its own acts according to the access code of each field. -/
  | registerWrite (ten : Fin 8) (port : Fin 6) (a : Nat) (v : Word)
  /-- REG64_LOW_READ (R11). A read of the low word of a 64-bit register copies the high word into the port's holding copy. -/
  | reg64LowRead (ten : Fin 8) (port : Fin 6) (a : Nat)
  /-- REG64_LOW_WRITE (R11). A write of the low word of a 64-bit register is held as the port's pending low word. -/
  | reg64LowWrite (ten : Fin 8) (port : Fin 6) (a : Nat) (v : Word)
  /-- REG64_HIGH_WRITE (R11). A write of the high word of a 64-bit register makes the whole value take effect, together with the pending or present low word. -/
  | reg64HighWrite (ten : Fin 8) (port : Fin 6) (a : Nat) (v : Word)
  /-- INSTRUCTION_FETCH (R139). A core fetches an instruction, checked in the order of the protection checks. -/
  | instructionFetch (c : Fin 4) (addr : Word) (wide : Bool)
  /-- LOAD (R139). A core load is checked for unmapped address, fixed rules, size, windows, rights, ownership and memory errors. -/
  | load (c : Fin 4) (addr : Word) (size : Fin 3) (sgnd fp : Bool) (rd : Fin 32)
  /-- STORE (R139). A core store is checked and either completes or is suppressed with an access fault. -/
  | store (c : Fin 4) (addr : Word) (size : Fin 3) (v : Word)
  /-- AMO (R127). An atomic memory operation acts only on TCM and shared SRAM and otherwise faults. -/
  | amo (c : Fin 4) (op : Fin 9) (addr v : Word) (rd : Fin 32)
  /-- LOAD_RESERVED (R127). An LR loads a word and places a reservation on one aligned 32-bit word. -/
  | loadReserved (c : Fin 4) (addr : Word) (rd : Fin 32)
  /-- STORE_CONDITIONAL (R127). An SC stores only while its reservation holds. -/
  | storeConditional (c : Fin 4) (addr v : Word) (rd : Fin 32)
  /-- CSR_ACCESS (R129). An access to an added CSR runs in M mode only; writes to mtenant and mfaddr are illegal, and writes to mfcause affect only VALID and OVERRUN. -/
  | csrAccess (c : Fin 4) (csr : BitVec 12) (op : Fin 3) (src : Word) (x0 : Bool) (rd : Fin 32)
  /-- FENCE_I (R128). FENCE.I invalidates the instruction cache of the executing core. -/
  | fenceI (c : Fin 4)
  /-- WFI (R134). A background that executes WFI gives up the core until an event of its tenant is taken. -/
  | wfi (c : Fin 4)
  /-- MRET (R165). MRET decrements EXCDEPTH, or pops the top event entry and resumes the entry below. -/
  | mret (c : Fin 4)
  /-- ILLEGAL_INSTRUCTION (R123). An instruction of an absent option raises an illegal-instruction exception. -/
  | illegalInstruction (c : Fin 4)
  /-- BACKGROUND_SLICE_EXPIRY (R134). A background that has held the core for its slice is rotated out for the next ready background. -/
  | backgroundSliceExpiry (c : Fin 4)
  /-- SCRUB_READ (R153). The scrubber reads one memory word every INTERVAL clk, corrects single errors and records double errors. -/
  | scrubRead
  /-- MEMERR_INJECT (R154). A write of MEMERR_INJ arms one- or two-bit error injection into the next full-word store of the writing core. -/
  | memerrInject (ten : Fin 8) (c : Fin 4) (mode : BitVec 2)
  /-- TEN_CORE_WRITE (R130). A write of TEN_CORE assigns a tenant to a core, and is refused for a fifth tenant on a core or an absent core. -/
  | tenCoreWrite (ten : Fin 8) (t : Fin 8) (v : Word)
  /-- EVENT_STROBE (R157). An event source strobes, which sets PEND or, if PEND is already set, COAL. -/
  | eventStrobe (e : BitVec 10)
  /-- EVENT_ENTRY (R162). A core takes the eligible event of lowest level, pushes a stack entry and enters the tenant's handler in 12 CLKC. -/
  | eventEntry (c : Fin 4) (pc : Word)
  /-- EVT_CTL_WRITE (R159). A write of EVT_CTL by any tenant other than the routed one is discarded and counted as foreign. -/
  | evtCtlWrite (ten : Fin 8) (e : BitVec 10) (v : Word)
  /-- DOORBELL (R169). A write of a doorbell number to EVT_SET strobes that doorbell source. -/
  | doorbell (n : BitVec 10)
  /-- DMA_START (R178). START fetches the first descriptor and runs the channel. -/
  | dmaStart (ten : Fin 8) (c : Fin 32)
  /-- DMA_STOP (R178). STOP completes the beat in progress and stops the channel with code PAUSED. -/
  | dmaStop (ten : Fin 8) (c : Fin 32)
  /-- DMA_RESUME (R178). RESUME continues a stopped channel from its recorded resume state. -/
  | dmaResume (ten : Fin 8) (c : Fin 32)
  /-- DMA_ABANDON (R178). ABANDON clears the resume state and leaves the channel IDLE with code DISCARDED. -/
  | dmaAbandon (ten : Fin 8) (c : Fin 32)
  /-- DMA_DESCRIPTOR_FETCH (R173). A channel fetches and validates a 16-byte descriptor. -/
  | dmaDescriptorFetch (c : Fin 32)
  /-- DMA_BEAT (R174). A granted beat checks both addresses, then reads and writes one unit of data. -/
  | dmaBeat
  /-- PSET_SHADOW_WRITE (R182). A write to a group word goes to its shadow and makes the writer the holder. -/
  | psetShadowWrite (g : Fin 3) (a : Fin 8) (k : Fin 10) (ten : Fin 8) (v : Word)
  /-- PSET_COMMIT (R183). COMMIT from the holder copies every shadow word to live on one edge. -/
  | psetCommit (g : Fin 3) (a : Fin 8) (ten : Fin 8)
  /-- PSET_DISCARD (R183). DISCARD from the holder reloads the shadow from live and clears the holder. -/
  | psetDiscard (g : Fin 3) (a : Fin 8) (ten : Fin 8)
  /-- POWER_ON_RESET (R91). Both feeds rise valid and the whole unit is reset. -/
  | powerOnReset (sw : BitVec 8) (lv : BitVec 32)
  /-- SELFTEST_COMPLETE (R118). The supervisor reports its self-test result, and core 0 is released. -/
  | selftestComplete (failed : Option (Fin 8))
  /-- BADGER_LATE_TIMEOUT (R118). With no self-test result within 150 ms, core 0 is released anyway and BADGER_LATE is set. -/
  | badgerLateTimeout
  /-- STO_INPUT_OPEN (R42). A filtered STO channel opens and is a stop demand with reaction STO or SS1-t. -/
  | stoInputOpen (chB : Bool)
  /-- STO_INPUT_CLOSE (R45). A filtered STO channel closes, which counts toward the release condition. -/
  | stoInputClose (chB : Bool)
  /-- STO_DISCREPANCY_TIMEOUT (R44). The STO channels disagree for more than 100 ms and lock-out STO_DISCREPANCY latches. -/
  | stoDiscrepancyTimeout
  /-- SS1_DELAY_EXPIRY (R42). An SS1-t delay of t_SS1 ends in a cut. -/
  | ss1DelayExpiry
  /-- CHANNEL_RELEASE (R39). Once every release condition holds, the supervisor drives GPE_N low and gives the brake permit. -/
  | channelRelease
  /-- HALT_N_RELEASE (R39). HALT_N goes high 20 ms after the release, provided every condition still holds. -/
  | haltNRelease
  /-- SHUTDOWN_READBACK (R40). Every 250 µs the supervisor reads back HALT_N and GPE_N, and latches lock-out after four differing readings. -/
  | shutdownReadback (haltHigh : Bool) (pins : PinLevels)
  /-- BRAKE_FEEDBACK_TIMEOUT (R46). Brake feedback disagrees with BRAKE_REL_N for longer than t_BF, and lock-out BRAKE_FEEDBACK latches. -/
  | brakeFeedbackTimeout (a : Fin 8) (relLow : Bool)
  /-- SLS_WINDOW_END (R49). At the end of each 2 ms SLS window, both speed sources are judged against the limit and against each other. -/
  | slsWindowEnd (tap : Fin 2) (own : Nat)
  /-- SEAL_REREAD (R51). The supervisor rereads the seal switches every 10 ms. -/
  | sealReread (sw : BitVec 8)
  /-- GUARD_INPUT_OPEN (R52). A filtered guard channel opens, which is a stop demand with the guard's reaction or a monitor event. -/
  | guardInputOpen (g : Fin 4) (chB : Bool)
  /-- GUARD_INPUT_CLOSE (R52). A filtered guard channel closes and sets the guard event. -/
  | guardInputClose (g : Fin 4) (chB : Bool)
  /-- GUARD_DISCREPANCY_TIMEOUT (R53). The two channels of a present guard disagree for more than 100 ms, and lock-out latches. -/
  | guardDiscrepancyTimeout (g : Fin 4)
  /-- SCS_LOAD (R55). LOAD copies the staging words into the supervisor, where the set is judged against the accepted CRC. -/
  | scsLoad
  /-- SCS_COMMIT (R56). COMMIT makes the candidate set the accepted set, subject to its conditions. -/
  | scsCommit
  /-- SCS_COMMAND_COMPLETE (R55). An SCS command finishes, BUSY clears and the status fields update. -/
  | scsCommandComplete
  /-- HB_ARM (R58). A write of ARM arms the heartbeat. -/
  | hbArm (arm : Bool)
  /-- HB_CHALLENGE (R58). Every 4 ms the supervisor presents a new challenge and judges the period just ended. -/
  | hbChallenge (chal : BitVec 8)
  /-- HB_RESPONSE (R58). A write of BG_HB_RESP answers the challenge with its complement and the axis mode codes. -/
  | hbResponse (w : Word)
  /-- LOR_PRESS_DISAGREE (R60). A lock-out reset press disagrees between channels for more than 100 ms and the act is voided. -/
  | lorPressDisagree (a : Bool) (b : Bool)
  /-- LOR_PRESS_TIMEOUT (R60). A press held longer than 5 s voids the act. -/
  | lorPressTimeout
  /-- LOR_ACT_RELEASE (R61). On the release edge of a completed act, every latched cause is judged and lock-out is cleared or the reset is refused. -/
  | lorActRelease (pressed : Nat) (released : Nat)
  /-- FIELDBUS_LOR_REQUEST (R62). A write of the key to BG_FBLOR asks for a reset inside the fieldbus window. -/
  | fieldbusLorRequest (key : Word)
  /-- FBLOR_WINDOW_EXPIRY (R62). The fieldbus lock-out reset window closes 60 s after the last refused local act. -/
  | fblorWindowExpiry
  /-- CW_SHUTDOWN (R77). The shutdown command moves the CiA 402 state, or leaves an enabled mode by option code 0x605B. -/
  | cwShutdown (a : Fin 8) (src : Bool) (v : BitVec 16)
  /-- CW_SWITCH_ON (R77). The switch-on command moves the axis to Switched on. -/
  | cwSwitchOn (a : Fin 8) (src : Bool) (v : BitVec 16)
  /-- CW_ENABLE_OPERATION (R81). Enable operation enters the selected mode through the enable sequence, or is refused. -/
  | cwEnableOperation (a : Fin 8) (src : Bool) (v : BitVec 16)
  /-- CW_DISABLE_OPERATION (R80). Disable operation ramps to standstill or fast-halts, as option code 0x605C states. -/
  | cwDisableOperation (a : Fin 8) (src : Bool) (v : BitVec 16)
  /-- CW_DISABLE_VOLTAGE (R77). Disable voltage takes the axis to Switch on disabled with a fast halt. -/
  | cwDisableVoltage (a : Fin 8) (src : Bool) (v : BitVec 16)
  /-- CW_QUICK_STOP (R80). Quick stop enters Quick stop active and ramps to standstill under option code 0x605A. -/
  | cwQuickStop (a : Fin 8) (src : Bool) (v : BitVec 16)
  /-- CW_HALT (R77). Setting the halt bit brings the axis to zero under option code 0x605D. -/
  | cwHalt (a : Fin 8) (src : Bool) (v : BitVec 16)
  /-- CW_FAULT_RESET (R89). A rising bit 7 moves the axis from Fault to Switch on disabled if the cause is gone. -/
  | cwFaultReset (a : Fin 8) (src : Bool) (v : BitVec 16)
  /-- MODE_SELECT_WRITE (R68). A write of AX_MODESEL (0x6060) selects, changes live, or is refused. -/
  | modeSelectWrite (a : Fin 8) (code : BitVec 8)
  /-- CWSRC_WRITE (R71). A write of AX_CWSRC selects the controlword source, and is accepted in SAFE only. -/
  | cwsrcWrite (a : Fin 8) (pdo : Bool)
  /-- AX_INIT_WRITE (R90). Setting AX_CTRL.INIT moves the axis to Switch on disabled, and clearing it in SAFE returns it to Not ready to switch on. -/
  | axInitWrite (a : Fin 8) (v : Bool)
  /-- EMERGENCY_REQUEST_ON (R83). A rising emergency request enters EMERGENCY, makes it pending, or is refused with reason 0x24. -/
  | emergencyRequestOn (a : Fin 8)
  /-- EMERGENCY_REQUEST_OFF (R85). A falling emergency request ramps the axis to standstill and Switch on disabled. -/
  | emergencyRequestOff (a : Fin 8)
  /-- STANDSTILL_REACHED (R79). The speed stays below 0.5 % for 20 ms, and the waiting transition completes with brake set and gates off. -/
  | standstillReached (a : Fin 8)
  /-- PRECHARGE_END (R308). The bootstrap pre-charge time ends, and the enable sequence continues to the brake step. -/
  | prechargeEnd (a : Fin 8)
  /-- BRAKE_LIFT_WAIT_END (R356). T_LIFT ends after the brake release, and the reference ramp of step 3 begins. -/
  | brakeLiftWaitEnd (a : Fin 8)
  /-- SOFTWARE_SYSTEM_RESET (R98). A write of the key to SYS_RST requests a system reset. -/
  | softwareSystemReset (v : Word)
  /-- PRE_RESET_PHASE_END (R94). The pre-reset phase ends when the answers are sent and the halts have run, or after 2 ms, and Haldux enters reset. -/
  | preResetPhaseEnd (n : Nat)
  /-- WATCHDOG_KICK (R97). A write of WDT_KICK reloads the watchdog count. -/
  | watchdogKick (v : Word)
  /-- WATCHDOG_EXPIRY (R97). The watchdog period ends without a kick, and a system reset is requested. -/
  | watchdogExpiry
  /-- RST_N_ASSERT (R95). RST_N held low runs the short pre-reset phase and resets Haldux. -/
  | rstNAssert
  /-- HALDUX_RESET_EXIT (R95). Haldux leaves reset 20 µs after its entry into reset or after the reset line returns high. -/
  | halduxResetExit
  /-- PLL_LOCK (R117). The PLL locks, CLKS runs, the option bytes are loaded, ROLE is measured and the identity is derived. -/
  | pllLock (c : Vector (BitVec 6) 8)
  /-- PLL_LOCK_LOSS (R23). The PLL loses lock, and CLKC, CLKS and SCLK stop until power-on or RST_N. -/
  | pllLockLoss
  /-- BOOT_DONE_SET (R120). A write of 1 by tenant 0 sets BOOT_DONE, locks every RWB field and ends tenant 0. -/
  | bootDoneSet
  /-- TENANT_RESET (R99). A keyed write of TEN_RST stops, cleans up and restarts each named tenant. -/
  | tenantReset (v : Word) (got : List (List Bool))
  /-- PORT_RESET (R100). A keyed write of PORT_RST resets each named port whose axes are in SAFE. -/
  | portReset (v : Word)
  /-- PORT_ENABLE (R190). SP_CTRL.EN takes a port from OFF to STREAM and starts SCLK and the slot grid. -/
  | portEnable (p : Fin 6)
  /-- PORT_DISABLE (R217). SP_CTRL.DIS takes the port to OFF only when LIVE is clear and its axes are in SAFE. -/
  | portDisable (p : Fin 6)
  /-- PORT_RESUME (R214). SP_CTRL.RESUME leaves HALT when its conditions hold, and restarts the slot grid. -/
  | portResume (p : Fin 6)
  /-- PORT_HALT_REQUEST (R213). SP_CTRL.HALTREQ starts a halt of the port 2 clk later. -/
  | portHaltRequest (p : Fin 6)
  /-- CLEAR_REENTERED (R201). SP_CTRL.CLRREENT clears SP_STAT.REENT. -/
  | clearReentered (p : Fin 6)
  /-- HALT_N_FALL (R212). HALT_N registered low starts the halt of every port 9 clk later and forces every axis to SAFE. -/
  | haltNFall
  /-- SP_ALERT_N_FALL (R212). A registered ALERT_N low raises ALERT and, under ALERTACT, halts the port or its scope 7 clk later. -/
  | spAlertNFall (p : Fin 6)
  /-- HALT_START (R212). At halt start the port asserts the halt selects with SDIO low and enters HALT. -/
  | haltStart (p : Fin 6) (bits : List Bool)
  /-- SLOT_BOUNDARY (R203). At each slot boundary the port takes the head engine or tenant entry and sends its frame, or leaves the slot empty. -/
  | slotBoundary (p : Fin 6)
  /-- ALLOFF_SEQUENCE_COMPLETE (R215). The all-off sequence completes and LIVE clears. -/
  | alloffSequenceComplete (p : Fin 6)
  /-- SATELLITE_REPLY (R200). The port classifies a reply received from a satellite. -/
  | satelliteReply (p : Fin 6) (bits : List Bool)
  /-- TENANT_QUEUE_PUSH (R202). A write of SP_TQ_PUSH pushes one word from the tenant-queue owner, or is refused. -/
  | tenantQueuePush (p : Fin 6) (ten : Fin 8) (w : Word)
  /-- RECEIVE_FIFO_POP (R208). A read of SP_RX_POP pops one receive word, or returns 0 and sets POPEMPTY. -/
  | receiveFifoPop (p : Fin 6)
  /-- SAT_ALLOFF (R241). ALLOFF starts the normal turn-off of both gates and cancels every pending event. -/
  | satAlloff (p : Fin 6) (sels : BitVec 8) (t : Nat) (alive : Fin 16) (swH swL : Switching)
  /-- SAT_EDGE (R238). EDGE enters two events for its target slot, or is refused. -/
  | satEdge (p : Fin 6) (k : Fin 8) (t : Nat) (alive : Fin 16) (payload : BitVec 24)
  /-- SAT_EDGE_S (R242). A broadcast EDGE_S is acted on by the satellites whose GROUP matches. -/
  | satEdgeS (p : Fin 6) (sels : BitVec 8) (t : Nat) (alive : Fin 16) (payload : BitVec 24)
  /-- SAT_READ (R235). READ returns a satellite register in the Register payload. -/
  | satRead (p : Fin 6) (k : Fin 8) (f : CmdFrame) (payload : BitVec 24)
  /-- SAT_WRITE (R235). WRITE sets a satellite register, or is refused. -/
  | satWrite (p : Fin 6) (k : Fin 8) (t : Nat) (alive : Fin 16) (payload : BitVec 24) (cmp : Bool)
  /-- SAT_CONFIG_DONE (R245). A write of CTRL.DONE with the whole configuration set written sets CONFIG_DONE and clears BOOT. -/
  | satConfigDone (p : Fin 6) (k : Fin 8) (t : Nat) (alive : Fin 16)
  /-- SAT_FLAGS_CLEAR (R270). A W1C write of FLAGS clears latched flags, refused for SC or UV while their condition persists. -/
  | satFlagsClear (p : Fin 6) (k : Fin 8) (t : Nat) (alive : Fin 16) (bits : BitVec 16) (cmp : Bool)
  /-- SAT_ERRCNT_CLEAR (R254). Any write of ERRCNT clears both error counts. -/
  | satErrcntClear (p : Fin 6) (k : Fin 8) (t : Nat) (alive : Fin 16) (data : BitVec 16)
  /-- SAT_STATUS (R234). STATUS returns the State payload. -/
  | satStatus (p : Fin 6) (k : Fin 8) (f : CmdFrame) (payload : BitVec 24)
  /-- SAT_TLM_START (R251). TLM_START starts a single conversion of the named channel. -/
  | satTlmStart (p : Fin 6) (k : Fin 8) (f : CmdFrame) (payload : BitVec 24)
  /-- SAT_TLM_READ (R249). TLM_READ returns the stored telemetry result of a channel. -/
  | satTlmRead (p : Fin 6) (k : Fin 8) (f : CmdFrame) (payload : BitVec 24)
  /-- SAT_DIAG_START (R275). DIAG_START begins an off-state diagnostic run when both gates are off. -/
  | satDiagStart (p : Fin 6) (k : Fin 8) (t : Nat) (alive : Fin 16) (payload : BitVec 24)
  /-- SAT_DIAG_READ (R278). DIAG_READ returns the diagnostic result and clears DIAG_READY. -/
  | satDiagRead (p : Fin 6) (k : Fin 8) (f : CmdFrame) (payload : BitVec 24)
  /-- SAT_SRESET (R248). SRESET with its key resets the satellite at the select release of its own frame. -/
  | satSreset (p : Fin 6) (k : Fin 8) (f : CmdFrame) (payload : BitVec 24)
  /-- SAT_RESERVED_OPCODE (R231). A good command with a reserved opcode is refused with CMDERR. -/
  | satReservedOpcode (p : Fin 6) (k : Fin 8) (f : OpFrame)
  /-- SAT_BAD_COMMAND (R197). A bad command is ignored and answered with LAST_BAD and the unchanged counter. -/
  | satBadCommand (p : Fin 6) (k : Fin 8) (f : BadFrame)
  /-- SAT_HALT_RECOGNITION (R226). A frame with no start bit and low alive bits is recognised as a halt, which hard-offs both gates and cancels every event. -/
  | satHaltRecognition (p : Fin 6) (k : Fin 8) (h : HaltStage)
  /-- SAT_SELECT_RELEASE (R223). A select release of 5 ns or more ends the satellite's frame and releases SDIO. -/
  | satSelectRelease (p : Fin 6) (k : Fin 8)
  /-- SAT_CLOCK_ABSENCE (R228). No SCLK edge for t_CA turns both gates off through the analog path and latches CA. -/
  | satClockAbsence (p : Fin 6) (x : SatAt)
  /-- SAT_RESET (R243). A link-die supply dip resets the satellite to BOOT with both gates off. -/
  | satReset (p : Fin 6) (k : Fin 8)
  /-- SAT_EDGE_EVENT (R239). On the SCLK edge of a scheduled position, turn-offs and then interlock-checked turn-ons execute. -/
  | satEdgeEvent (p : Fin 6) (k : Fin 8) (swH swL : Switching)
  /-- SAT_TLM_CONVERSION_DONE (R249). A dual-slope conversion ends and stores RESULT with SEQ. -/
  | satTlmConversionDone (p : Fin 6) (k : Fin 8) (result : BitVec 12) (ovr : Bool)
  /-- SAT_DIAG_RUN_DONE (R277). A diagnostic run ends, classifies the output and sets DIAG_READY. -/
  | satDiagRunDone (p : Fin 6) (k : Fin 8) (va : BitVec 12) (vb : BitVec 12) (tb : Nat)
  /-- SAT_UV_ENTRY (R262). A gate supply falls into undervoltage, which turns the gate off and latches UV. -/
  | satUvEntry (p : Fin 6) (k : Fin 8) (high : Bool) (neg : Bool) (now : Nat)
  /-- SAT_GATE_SUPPLY_COLLAPSE (R263). A gate supply below 6 V holds OUT at COM through the passive path. -/
  | satGateSupplyCollapse (p : Fin 6) (k : Fin 8) (high : Bool) (now : Nat)
  /-- SAT_SC_LATCH (R270). FILT consecutive asserted comparator samples latch SC and pull ALERT_N low. -/
  | satScLatch (p : Fin 6) (k : Fin 8) (sc : ScSamples)
  /-- CONTROL_CYCLE_START (R286). An axis control cycle begins on a lead-port slot boundary or on the engine's own timer. -/
  | controlCycleStart (a : Fin 8)
  /-- FILTER_OUTPUT_READY (R291). The modulator filter outputs of an axis are ready, and the engine samples them and runs its fixed 186 clk pipeline. -/
  | filterOutputReady (a : Fin 8) (raw : List Int)
  /-- MODULATOR_STUCK (R292). MDAT shows no transition for 256 MCLK periods, and STUCK is set. -/
  | modulatorStuck (c : Fin 64)
  /-- CLEAR_DEGRADED (R311). ENG_CTRL.CLRDEG restores IMAX and clears DEGRADED and DEGPH. -/
  | clearDegraded (a : Fin 8)
  /-- CLEAR_SCHEDULE (R303). ENG_CTRL.CLRSCHED clears SLIPS, MAXSLIP and QPEAK. -/
  | clearSchedule (a : Fin 8)
  /-- MOD_CAPTURE_POP (R290). A read of MOD_CAPPOP pops one captured filter output. -/
  | modCapturePop
  /-- INC_AB_EDGE (R323). An A or B edge is filtered, decoded and counted, and the speed estimate is updated. -/
  | incAbEdge (n : Fin 8) (a b : HeldLevel)
  /-- INDEX_POINT (R329). An index point records its count and timestamp and computes the deviation. -/
  | indexPoint (n : Fin 8) (z : HeldLevel) (ill : Bool)
  /-- WIRE_FAULT_DETECT (R325). A pair that is not complementary for FILT + 17 edges sets WFLIVE and WIREFAULT. -/
  | wireFaultDetect (c : BitVec 8) (k : Fin 3)
  /-- WIRE_FAULT_CLEAR (R325). A pair that is complementary again for FILT + 17 edges clears WFLIVE. -/
  | wireFaultClear (c : BitVec 8) (k : Fin 3)
  /-- SPEED_STOP_TIMEOUT (R334). No edge for TSTOP ms sets the estimate to 0 and sets STILL. -/
  | speedStopTimeout (c : BitVec 8)
  /-- COUNT_WINDOW_END (R335). A count-mode window ends and the edge frequency is computed. -/
  | countWindowEnd (n : Fin 8)
  /-- HALL_TRANSITION (R338). A Hall state change moves HALL_CNT and the angle, or is flagged illegal. -/
  | hallTransition (h : Fin 8) (v : HeldHall)
  /-- HALL_INVALID_TIMEOUT (R348). A Hall state of 0 or 7 held for 1 ms sets LOSS. -/
  | hallInvalidTimeout (h : Fin 8)
  /-- SSI_READ_START (R343). An SSI read starts on a cycle boundary or the channel's timer, or is skipped while one is in progress. -/
  | ssiReadStart (k : Fin 4) (dat : Bool)
  /-- SSI_READ_COMMAND (R343). SSI_CTRL.READ starts one read when TRIG is 0 and none is in progress. -/
  | ssiReadCommand (k : Fin 4) (dat : Bool)
  /-- SSI_READ_COMPLETE (R342). An SSI read ends and is checked, then stored or counted as failed. -/
  | ssiReadComplete (k : Fin 4) (v : Nat) (eof : Bool) (mono : Bool)
  /-- TAP_SPEED_SEND (R346). Every 1 ms the feedback block sends its estimate of each tapped source to the supervisor and compares the returned value. -/
  | tapSpeedSend (k : Fin 2)
  /-- ARM_REFERENCE (R332). INC_CTRL.ARMREF arms referencing at the next index point. -/
  | armReference (n : Fin 8)
  /-- CLEAR_LOSS (R348). CLRLOSS clears LOSS when the channel is idle and no condition holds. -/
  | clearLoss (c : BitVec 8)
  /-- CLEAR_LOCK (R330). INC_CTRL.CLRLOCK clears LOCKED when the channel is idle. -/
  | clearLock (n : Fin 8)
  /-- CLEAR_ERROR_COUNT (R325). CLRERR clears a channel's error counters. -/
  | clearErrorCount (c : BitVec 8)
  /-- CLEAR_INDEX_RECORD (R333). INC_CTRL.CLRIDX clears the index counters and flags, and re-enables EMCY 0xFF5A. -/
  | clearIndexRecord (n : Fin 8)
  /-- FB_CAPTURE_POP (R351). A read of FB_CAPPOP pops one capture word. -/
  | fbCapturePop
  /-- LAMP_WINDOW_JUDGE (R376). Each 1 ms window of a lit lamp is judged against DARKTH, and the tenth low one sets DARK. -/
  | lampWindowJudge (n : Fin 8) (mA : Nat)
  /-- LAMP_COLD_PULSE (R377). An off lamp is proved by a 200 µs pulse, and a failed pulse sets PROVEFAIL and DARK. -/
  | lampColdPulse (n : Fin 8) (i1 : Nat) (i2 : Nat)
  /-- LAMP_OVERLOAD (R378). An overcurrent turns the lamp switch off and sets OFFLATCH, OVERLOAD and DARK. -/
  | lampOverload (n : Fin 8)
  /-- LAMP_RETRY (R378). LAMP_CTRL.RETRY clears OFFLATCH and resumes the commanded state. -/
  | lampRetry (n : Fin 8)
  /-- LAMP_CLEAR_COUNT (R380). LAMP_CTRL.CLRCNT clears the lamp counters. -/
  | lampClearCount (n : Fin 8)
  /-- AIN_WINDOW (R353). Each 1 ms the AIN samples are averaged, the range is judged and the role output is formed. -/
  | ainWindow (k : Fin 8) (sum : Nat)
  /-- BRAKE_RELEASE_TIMEOUT (R356). BRK_FB has not read lifted when T_REL ends, and BRAKE_NOT_RELEASED is taken. -/
  | brakeReleaseTimeout (a : Fin 8)
  /-- BRK_FB_CHANGE (R360). A filtered BRK_FB change is judged against the output and may raise BRKFB or a drive fault. -/
  | brkFbChange (a : Fin 8) (lifted : Bool)
  /-- BRAKE_SET_TIMEOUT (R359). BRK_FB has not read set by T_SET, and NOTSET and EMCY 0xFF71 are raised. -/
  | brakeSetTimeout (a : Fin 8)
  /-- SLACK_LINE_DETECT (R367). Tension below SLACK for TSLK sets SLACK and applies SLREACT. -/
  | slackLineDetect (a : Fin 8)
  /-- DRUM_OVERSPEED_DETECT (R366). Drum speed above DOS on two ticks is the drive fault DRUM_OVERSPEED. -/
  | drumOverspeedDetect (a : Fin 8)
  /-- EMG_INPUT_CHANGE (R368). A filtered EMG input change raises or drops the emergency request of the axis. -/
  | emgInputChange (a : Fin 8) (level : Bool)
  /-- ERL_ACT_START (R371). An emergency-release press held 0.5 s on both channels starts an act, DRIVEN or FREE. -/
  | erlActStart (k : Fin 4) (pressed : Nat) (released : Nat)
  /-- ERL_ACT_END (R372). Release of the button ends the act, and the brake is set or the request falls. -/
  | erlActEnd (k : Fin 4)
  /-- ERL_ACT_VOID (R371). A channel disagreement over 100 ms voids the act with EMCY 0xFF78. -/
  | erlActVoid (k : Fin 4)
  /-- ERL_GOVERNOR_TICK (R373). Each tick the FREE governor sets or releases the brake by drum speed. -/
  | erlGovernorTick (k : Fin 4)
  /-- GPI_CHANGE (R382). A filtered GPI change with its MASK bit set raises GPIN. -/
  | gpiChange (v : BitVec 8)
  /-- GPO_OVERLOAD (R382). A GPO above 0.7 A for 1 ms is turned off with OVL and EMCY 0xFF79. -/
  | gpoOverload (k : Fin 4)
  /-- RING_ENABLE (R397). RING_CTRL.EN powers the PHYs and enters FORWARD. -/
  | ringEnable
  /-- RING_DISABLE (R397). RING_CTRL.DIS returns the ring to OFF and powers the PHYs down. -/
  | ringDisable
  /-- RING_REJOIN (R397). RING_CTRL.REJOIN moves a unit from DUPLICATE to LISTEN. -/
  | ringRejoin
  /-- RING_CLEAR_COUNT (R421). RING_CTRL.CLRCNT clears the ring counters. -/
  | ringClearCount
  /-- RING_FOREIGN_FRAME (R386). A frame of another EtherType or with a VLAN tag is neither forwarded nor accepted, and is counted. -/
  | ringForeignFrame
  /-- BEACON_TX (R396). The ring master sends a BEACON on both ports once every ring cycle and judges the last cycle. -/
  | beaconTx
  /-- BEACON_RX (R402). A received beacon is forwarded with CORR added and, if accepted, corrects the common time. -/
  | beaconRx (onB : Bool) (fcs : Bool) (f : List (BitVec 8)) (res : Nat) (late : Nat)
  /-- LINKEVT_RX (R399). An accepted LINKEVT reporting a link down makes the master decide BROKEN. -/
  | linkevtRx (onB : Bool) (fcs : Bool) (f : List (BitVec 8))
  /-- RING_LINK_CHANGE (R399). A ring link falls or returns, and a joined unit sends LINKEVT. -/
  | ringLinkChange (onB : Bool) (lk : Bool)
  /-- PDELAY_TX (R401). Every 125 ms a unit sends PDELAY_REQ on each link. -/
  | pdelayTx
  /-- PDELAY_REQ_RX (R401). A neighbour's PDELAY_REQ is answered with PDELAY_RESP. -/
  | pdelayReqRx (onB : Bool) (fcs : Bool) (f : List (BitVec 8)) (late : Nat)
  /-- PDELAY_RESP_RX (R401). A PDELAY_RESP yields a measurement of the link delay. -/
  | pdelayRespRx (onB : Bool) (fcs : Bool) (f : List (BitVec 8)) (late : Nat)
  /-- RING_LISTEN_TIMEOUT (R397). Three cycles in LISTEN end in CLOSED, BROKEN or ELECT. -/
  | ringListenTimeout
  /-- BEACON_LOSS_TIMEOUT (R397). No beacon accepted for three cycles moves a joined unit to ELECT. -/
  | beaconLossTimeout
  /-- ELECTION_TIMEOUT (R398). A unit in ELECT starts sending beacons after 16 − MPRIO cycles. -/
  | electionTimeout
  /-- FSEQ_RECORD_LAPSE (R394). The last accepted FSEQ of a source lapses after 10 ms without a frame. -/
  | fseqRecordLapse (src : BitVec 12)
  /-- GROUP_PERIOD_START (R405). At each group period start a member unit samples ENG_TAVAIL and sends AVAIL. -/
  | groupPeriodStart (g : Fin 16)
  /-- AVAIL_RX (R406). An accepted AVAIL frame is held by the leader for the next share point. -/
  | availRx (onB : Bool) (fcs : Bool) (f : List (BitVec 8))
  /-- SHARE_POINT (R406). The leader decides the included set, divides the group demand and sends SHARE. -/
  | sharePoint (g : Fin 16)
  /-- SHARE_RX (R408). An accepted SHARE frame writes ENG_RREF_TQ of each member axis 38 clk after its FCS. -/
  | shareRx (onB : Bool) (fcs : Bool) (f : List (BitVec 8))
  /-- SYS_PING (R415). PING is ACKed in hardware with its data echoed. -/
  | sysPing (onB : Bool) (fcs : Bool) (f : List (BitVec 8))
  /-- SYS_RESET_UNIT (R417). RESET_UNIT with RSTEN and the key is ACKed and starts a system reset. -/
  | sysResetUnit (onB : Bool) (fcs : Bool) (f : List (BitVec 8))
  /-- SYS_MAIL (R415). MAIL is placed in the receive FIFO and ACKed, or NAKed if there is no room. -/
  | sysMail (onB : Bool) (fcs : Bool) (f : List (BitVec 8))
  /-- SYS_QUERY (R415). QUERY is placed in the receive FIFO for the owning tenant to answer. -/
  | sysQuery (onB : Bool) (fcs : Bool) (f : List (BitVec 8))
  /-- SYS_UNKNOWN_COMMAND (R415). A SYS request with an unknown command is answered with NAK 0x01. -/
  | sysUnknownCommand (onB : Bool) (fcs : Bool) (f : List (BitVec 8))
  /-- SYS_RESP_RX (R416). A SYS response is placed in the receive FIFO and counted if it is a NAK. -/
  | sysRespRx (onB : Bool) (fcs : Bool) (f : List (BitVec 8))
  /-- QUERY_TIMEOUT (R415). A QUERY not answered within 100 ms is NAKed 0x06 by hardware. -/
  | queryTimeout (osrc : BitVec 12) (tid : BitVec 16)
  /-- BRIDGE_PASS (R418). A bridge accepts a SYS frame for a ring behind it and passes it to its peer. -/
  | bridgePass (onB : Bool) (fcs : Bool) (f : List (BitVec 8)) (beyond : Bool)
  /-- RING_TX_PUSH (R416). A write of RING_TXPUSH queues a SYS entry, or a malformed entry is NAKed locally. -/
  | ringTxPush (w : Word)
  /-- RING_RX_POP (R416). A read of RING_RXPOP pops one receive word. -/
  | ringRxPop
  /-- COPY_POINT (R433). At each copy point the duty latches and sends its image, and the standby latches its feedback counters. -/
  | copyPoint
  /-- COPY_DATA_RX (R437). The standby writes DATA bytes of a newer epoch into its free slot, discarding any partial epoch. -/
  | copyDataRx (onB : Bool) (fcs : Bool) (f : List (BitVec 8))
  /-- COPY_TRAILER_RX (R437). The standby receives the TRAILER with the image length and CRC. -/
  | copyTrailerRx (onB : Bool) (fcs : Bool) (f : List (BitVec 8))
  /-- COPY_COMMIT_RX (R437). A valid COMMIT with the image complete and its CRC matching commits the epoch. -/
  | copyCommitRx (onB : Bool) (fcs : Bool) (f : List (BitVec 8))
  /-- PAIR_FRAME_RX (R422). A PAIR frame from the partner is judged against the pairing conditions. -/
  | pairFrameRx (onB : Bool) (fcs : Bool) (f : List (BitVec 8))
  /-- PARTNER_LINE_CHANGE (R427). The filtered TWIN_PCLAIM_N changes level. -/
  | partnerLineChange (high : Bool)
  /-- CLAIM_TAKE (R427). After the partner line has read high for its time, the unit takes the claim. -/
  | claimTake
  /-- CLAIM_TIMER_EXPIRY (R428). The analog claim timer runs out without a retrigger, and the claim is released. -/
  | claimTimerExpiry
  /-- PORTS_QUIET (R431). No SCLK edge on the paired ports for 5 µs sets QUIET and permits streaming. -/
  | portsQuiet (since : List Nat)
  /-- QUIET_CHECK_TIMEOUT (R432). Paired ports not quiet within 100 µs of claiming release the claim with CONFLICT. -/
  | quietCheckTimeout
  /-- CLAIM_CONFLICT (R432). The partner line reads low for 1 ms while the unit holds the claim. -/
  | claimConflict
  /-- HANDOVER_REQUEST (R445). A handover write makes a READY duty latch and send a handover epoch. -/
  | handoverRequest
  /-- HANDOVER_RELEASE (R445). The duty releases the claim once the handover COMMIT has left port A. -/
  | handoverRelease
  /-- USER_BUFFER_FLIP (R435). CP_CTRL.USRFLIP toggles the user buffer from the next copy point. -/
  | userBufferFlip
  /-- COPY_CLEAR_COUNT (R448). CP_CTRL.CLRCNT clears the copy-engine counters. -/
  | copyClearCount
  /-- SNAPSHOT_STALE (R438). CP_AGE exceeds MAXAGE periods and the standby becomes STALE. -/
  | snapshotStale
  /-- PARTNER_PAIR_LOST (R438). No PAIR frame from the partner for MAXAGE periods sends EMCY 0xFF84. -/
  | partnerPairLost
  /-- SEATING_COMPLETE (R452). Both presence pins hold contact for 20 ms, the lamp test runs and the power-on reset is released. -/
  | seatingComplete (sw : BitVec 8) (lv : BitVec 32)
  /-- BENCH_DETECT (R451). Both presence pins open for 200 ms mark the unit as on the bench. -/
  | benchDetect (sw : BitVec 8) (lv : BitVec 32)
  /-- PRESENCE_LOST (R468). A presence pin open for 10 µs in a seated unit drives the internal reset and halts every port. -/
  | presenceLost (p1 : Bool) (p3 : Bool)
  /-- FEED_CHANGE (R456). One feed becomes invalid or valid, which is reported with EMCY 0xFF90. -/
  | feedChange (onB : Bool) (valid : Bool) (collapsed : Bool) (sw : BitVec 8) (lv : BitVec 32)
  /-- BROWN_OUT (R457). Both feeds invalid for 5 ms register a brown-out reset. -/
  | brownOut
  /-- PARK_REQUEST (R464). A PARK press or write is judged and the unit parks, requests a handover or refuses. -/
  | parkRequest (button : Bool)
  /-- PARK_SAFE_TO_PULL (R466). With ports OFF, the store idle and the supervisor memory idle, the unit becomes SAFE_TO_PULL. -/
  | parkSafeToPull (idle : Bool)
  /-- PARK_HANDOVER_TIMEOUT (R464). A claim not released within 100 ms refuses the park request with reason 2. -/
  | parkHandoverTimeout
  /-- UNPARK (R467). A second press or an unpark write returns the park state to NONE. -/
  | unpark
  /-- LAMP_TEST_COMMAND (R471). A write of BEAR_LTEST.TEST runs the front-panel lamp test. -/
  | lampTestCommand
  /-- BRIDGE_DATA_RX (R461). A DATA frame on the bridge link is ACKed and originated, or NAKed. -/
  | bridgeDataRx (resp : Bool) (f : List (BitVec 8))
  /-- BRIDGE_ACK_RX (R461). An ACK ends the outstanding DATA frame. -/
  | bridgeAckRx (f : List (BitVec 8))
  /-- BRIDGE_NAK_RX (R461). A NAK causes one resend, or NAK 0x04 to the requester. -/
  | bridgeNakRx (f : List (BitVec 8))
  /-- BRIDGE_KEEP_RX (R462). A KEEP frame counts as a good frame for LINKUP. -/
  | bridgeKeepRx (f : List (BitVec 8))
  /-- BRIDGE_RESEND_TIMEOUT (R461). No answer within 10 µs causes one resend, or NAK 0x04 to the requester. -/
  | bridgeResendTimeout
  /-- BRIDGE_KEEP_TX (R462). After 100 µs without transmission the unit sends KEEP. -/
  | bridgeKeepTx
  /-- BRIDGE_LINK_TIMEOUT (R462). No good frame for 500 µs clears LINKUP. -/
  | bridgeLinkTimeout
  /-- NMT_START (R481). Start remote node moves the unit to Operational. -/
  | nmtStart (ch : Fin 2) (node : BitVec 8)
  /-- NMT_STOP (R481). Stop remote node moves the unit to Stopped. -/
  | nmtStop (ch : Fin 2) (node : BitVec 8)
  /-- NMT_ENTER_PRE_OPERATIONAL (R481). Enter pre-operational moves the unit to Pre-operational. -/
  | nmtEnterPreOperational (ch : Fin 2) (node : BitVec 8)
  /-- NMT_RESET_NODE (R481). Reset node starts a system reset with its pre-reset phase. -/
  | nmtResetNode (ch : Fin 2) (node : BitVec 8)
  /-- NMT_RESET_COMMUNICATION (R101). Reset communication answers open SDOs, resets the CAN and PDO scope and sends boot-up. -/
  | nmtResetCommunication (ch : Fin 2) (node : BitVec 8)
  /-- SDO_UPLOAD (R488). An SDO or USDO read request is checked and answered with the object value or an abort. -/
  | sdoUpload (ch : Fin 2) (idx : BitVec 16) (sub : BitVec 8) (served : Bool)
  /-- SDO_DOWNLOAD (R488). An SDO or USDO write request is checked, written, read back and answered. -/
  | sdoDownload (ch : Fin 2) (idx : BitVec 16) (sub : BitVec 8) (seg : Bool) (size : Nat) (data : List (BitVec 8)) (served : Bool)
  /-- SDO_SEGMENT (R486). A segment of a segmented transfer is taken and its toggle bit checked. -/
  | sdoSegment (ch : Fin 2) (cs : BitVec 3) (toggle last : Bool) (data : List (BitVec 8))
  /-- SDO_TIMEOUT (R486). No segment or request for 1 s aborts the transfer with 0x0504_0000. -/
  | sdoTimeout (ch : Fin 2)
  /-- RPDO_RX (R493). An asynchronous RPDO writes all its mapped registers on one edge 52 clk after the frame, or a synchronous one is staged. -/
  | rpdoRx (ch : Fin 2) (id : BitVec 11) (data : List (BitVec 8)) (both : Bool) (id2 : BitVec 11) (data2 : List (BitVec 8))
  /-- SYNC_RX (R496). A SYNC frame applies staged synchronous RPDOs and samples synchronous TPDOs. -/
  | syncRx (ch : Fin 2) (id : BitVec 11)
  /-- TPDO_TRANSMIT (R497). A TPDO is sent on its event timer or a value change, within its inhibit time. -/
  | tpdoTransmit (n : Fin 16) (timer : Bool)
  /-- RPDO_EVENT_TIMEOUT (R498). An RPDO event timer expires, which is a communication-loss trigger. -/
  | rpdoEventTimeout (r : Fin 16)
  /-- PDO_COBID_WRITE (R492). Clearing bit 31 of a PDO COB-ID checks every map word and validates the PDO or refuses it. -/
  | pdoCobidWrite (tx : Bool) (n : Fin 16) (v : Word)
  /-- HEARTBEAT_PRODUCE (R483). The heartbeat timer sends the NMT state while the server is alive. -/
  | heartbeatProduce
  /-- SERVER_KICK (R483). A write of the key to PDO_KICK keeps ALIVE set. -/
  | serverKick (v : Word)
  /-- SERVER_ALIVE_LAPSE (R483). No kick for 200 ms clears ALIVE and stops the heartbeat. -/
  | serverAliveLapse
  /-- HEARTBEAT_RX (R484). A heartbeat from a consumed node re-arms its consumer entry. -/
  | heartbeatRx (ch : Fin 2) (node : BitVec 7)
  /-- HEARTBEAT_CONSUMER_EXPIRY (R484). A consumer entry expires, sends EMCY 0x8130 and is a communication-loss trigger. -/
  | heartbeatConsumerExpiry (k : Fin 4)
  /-- CAN_ERROR_PASSIVE (R479). A channel goes error passive and EMCY 0x8120 is sent. -/
  | canErrorPassive (ch : Fin 2) (tec : BitVec 8) (rec : BitVec 8) (errs : Nat)
  /-- CAN_BUS_OFF (R479). A channel goes bus-off, and with both channels off a communication loss follows. -/
  | canBusOff (ch : Fin 2) (errs : Nat)
  /-- CAN_BUS_OFF_RECOVERY (R479). A channel recovers from bus-off and EMCY 0x8140 is sent. -/
  | canBusOffRecovery (ch : Fin 2)
  /-- CAN_FRAME_IGNORED (R473). An extended or remote frame is ignored and counted in IGN. -/
  | canFrameIgnored (ch : Fin 2)
  /-- CAN_TX_PUSH (R504). A write of CAN_TXPUSH queues one word of a transmit record. -/
  | canTxPush (ch : Fin 2) (w : Word)
  /-- CAN_RX_POP (R504). A read of CAN_RXPOP pops one word of a receive record. -/
  | canRxPop (ch : Fin 2)
  /-- EMCY_TRANSMIT (R500). The next queued EMCY is sent once its inhibit time has passed and the unit is not Stopped. -/
  | emcyTransmit
  /-- ERROR_HISTORY_CLEAR (R500). A write of 0 to 0x1003 sub-index 0 clears the error history. -/
  | errorHistoryClear (ch : Fin 2) (v : BitVec 8)
  /-- STORE_PARAMETERS (R508). A keyed write of 0x1010 saves the current values to the parameter store. -/
  | storeParameters (ch : Fin 2) (sub : BitVec 8) (v : Word) (ok : Bool)
  /-- RESTORE_DEFAULTS (R508). A keyed write of 0x1011 restores the defaults from the next start. -/
  | restoreDefaults (ch : Fin 2) (sub : BitVec 8) (v : Word) (ok : Bool)
  /-- STORE_APPEND (R516). APPEND adds a DATA record to the open transaction. -/
  | storeAppend (ten : Fin 8)
  /-- STORE_DELETE (R516). DELETE appends a TOMBSTONE record to the open transaction. -/
  | storeDelete (ten : Fin 8)
  /-- STORE_COMMIT (R521). COMMIT writes the COMMIT record, which makes the transaction count. -/
  | storeCommit (ten : Fin 8)
  /-- STORE_ABORT (R522). ABORT closes the open transaction without commit. -/
  | storeAbort (ten : Fin 8)
  /-- STORE_FIND (R523). FIND returns the newest counted copy of a record. -/
  | storeFind (ten : Fin 8)
  /-- STORE_ERASEBANK (R532). ERASEBANK erases the bank not running and sets BANKWR. -/
  | storeErasebank (ten : Fin 8)
  /-- STORE_PROG (R532). PROG programs 256 bytes into the bank not running. -/
  | storeProg (ten : Fin 8)
  /-- STORE_VERIFY (R534). VERIFY checks the image in the bank not running and stages it if it passes. -/
  | storeVerify (ten : Fin 8)
  /-- STORE_ABANDONBANK (R516). ABANDONBANK clears BANKWR and leaves the bank unstaged. -/
  | storeAbandonbank (ten : Fin 8)
  /-- STORE_CONFIRM (R536). CONFIRM marks the running bank CONFIRMED once the layout matches. -/
  | storeConfirm (ten : Fin 8)
  /-- STORE_FALLBACK (R537). FALLBACK marks an unconfirmed running bank FAILED with its migration record. -/
  | storeFallback (ten : Fin 8)
  /-- STORE_COMMAND_COMPLETE (R518). A store command finishes, which sets DONE or an error. -/
  | storeCommandComplete (ok : Bool)
  /-- BACKGROUND_ERASE_COMPLETE (R518). The background erase of a bank ends with its last sector. -/
  | backgroundEraseComplete
  /-- RECLAIM_STEP (R525). The oldest log sector's live records are copied forward and the sector is erased. -/
  | reclaimStep
  /-- STORE_SCAN_COMPLETE (R524). The start-up scan builds the index and sets READY. -/
  | storeScanComplete
  /-- IMAGE_DOWNLOAD (R533). A download to 0x2C02 erases, programs and verifies the bank not running. -/
  | imageDownload (ch : Fin 2) (image : List (BitVec 8))
  /-- OPTION_REQUEST_DOWNLOAD (R541). A download starting with the option magic is written into the tag mailbox for the next reset. -/
  | optionRequestDownload (ch : Fin 2) (data : List (BitVec 8))
  /-- TAG_READ (R545). A wired read of one tag block, arbitrated against RF. -/
  | tagRead (block : BitVec 12)
  /-- TAG_WRITE (R545). A wired write of one tag block, arbitrated against RF. -/
  | tagWrite (block : BitVec 12)
  /-- TAG_PENDING_COMPLETE (R545). A wired access held during inventory completes between inventory slots. -/
  | tagPendingComplete
  /-- TAG_CLEAR_COUNT (R544). TAG_CLR.CLRCNT clears the tag counters. -/
  | tagClearCount
  /-- TAG_CLEAR_RFW (R544). TAG_CLR.CLRRFW clears the RF-write flag. -/
  | tagClearRfw
  /-- RF_FIELD_CHANGE (R544). An RF field appears or disappears at the tag. -/
  | rfFieldChange (on : Bool)
  /-- RF_STATE_TIMEOUT (R544). 100 ms without a valid request lowers the RF state and may end SESSION. -/
  | rfStateTimeout (inv : Bool)
  /-- RF_INVENTORY (R543). An ISO/IEC 15693 Inventory request is answered. -/
  | rfInventory (maskLen : Fin 65) (mask : BitVec 64)
  /-- RF_STAY_QUIET (R543). A Stay quiet request silences the tag. -/
  | rfStayQuiet
  /-- RF_SELECT (R543). A Select request selects the tag. -/
  | rfSelect (mine : Bool)
  /-- RF_RESET_TO_READY (R543). A Reset to ready request returns the tag to ready. -/
  | rfResetToReady (mode : Fin 3)
  /-- RF_READ_BLOCK (R543). An RF single, multiple or extended read returns blocks. -/
  | rfReadBlock (mode : Fin 3) (ext : Bool) (first : Nat) (n : Nat)
  /-- RF_WRITE_BLOCK (R546). An RF write of a block is carried out, or refused with 0xA1 for live blocks without LIVEGATE. -/
  | rfWriteBlock (mode : Fin 3) (ext : Bool) (block : BitVec 12) (data : Word)
  /-- RF_LOCK_BLOCK (R546). An RF Lock block locks a block, subject to LIVEGATE for live blocks. -/
  | rfLockBlock (mode : Fin 3) (ext : Bool) (block : BitVec 12)
  /-- RF_GET_SYSTEM_INFO (R543). Get system information returns the tag parameters. -/
  | rfGetSystemInfo (mode : Fin 3) (ext : Bool)
  /-- RF_GET_BLOCK_SECURITY (R543). Get multiple block security status returns the block lock states. -/
  | rfGetBlockSecurity (mode : Fin 3) (ext : Bool) (first : Nat) (n : Nat)
  /-- RF_UNSUPPORTED_COMMAND (R543). An unsupported RF command is answered with an error code. -/
  | rfUnsupportedCommand (mode : Fin 3)
  /-- BACKGROUND_SELFTEST_FAIL (R57). A background self-test of the safety supervisor fails while the unit runs, and lock-out SELFTEST_FAIL latches. -/
  | backgroundSelftestFail (test : Fin 8)
  /-- EBREAK (R123). EBREAK traps as a breakpoint exception (cause 3) into the issuing tenant's bank. -/
  | ebreak (c : Fin 4)
  /-- SAT_UV_EXIT (R261). A gate-die supply crosses its rising threshold and leaves the UV condition. -/
  | satUvExit (p : Fin 6) (k : Fin 8) (high : Bool) (neg : Bool)
  /-- SAT_GATE_SUPPLY_RETURN (R263). A gate-die supply rises back above 6 V and the die restarts with its gate off. -/
  | satGateSupplyReturn (p : Fin 6) (k : Fin 8) (high : Bool)
  /-- SAT_RESET_EXIT (R263). VDDL rises through 2.90 V and the satellite link die leaves reset to wait for a select. -/
  | satResetExit (p : Fin 6) (k : Fin 8)
  /-- HALT_FRAME_TWELFTH_EDGE (R430). A port sends the twelfth rising SCLK edge of its halt frame and, after a claim release or port reset, goes OFF and stops SCLK. -/
  | haltFrameTwelfthEdge (p : Fin 6)
  /-- PRESENCE_PIN_CONTACT (R451). A single presence pin makes or breaks contact, and the unit is partly seated with its reset held and PWR flashing amber. -/
  | presencePinContact (pin3 : Bool) (contact : Bool)
  /-- CAN_ERROR_ACTIVE (R479). A CAN channel returns from error passive to error active, and bit 4 of 0x1001 may clear. -/
  | canErrorActive (ch : Fin 2) (tec : BitVec 8) (rec : BitVec 8) (errs : Nat)
  /-- UNKNOWN_TYPE_FRAME (R391). A Potrix frame whose TYPE is not defined is not accepted and is forwarded. -/
  | unknownTypeFrame (onB : Bool) (fcs : Bool) (f : List (BitVec 8))
  deriving DecidableEq, Repr

end Sys2Proof
end

