-- ==== Sys2Proof/Decode.lean ====
section
/-! DEFINITION. Commands spelt by table words. The opcode table gives no row any bits: no word spells a command. -/

namespace Sys2Proof

/-- The command that the word `w` of `nbits` bits spells: none (every row of the table has an empty list of fields; log entry 14). -/
def decodeTableWord (_nbits _w : Nat) : Option Instr := none

end Sys2Proof
end

