-- ==== Sys2Proof/Config.lean ====
section
/-! DEFINITION. What an implementation fixes and the free values: constants with no body, so that no proof can see what they
are. Each is named in the assumption log. -/

namespace Sys2Proof.Config

/-- SYS_ID.DIEREV, "per die" (01_architecture.md). DESIGN CHOICE: a free constant (log entry 3). -/
opaque dieRev : BitVec 8

/-- BG_VER, the fixed firmware version of the safety supervisor (02_badger_safety.md, BG_VER). Free constant (log entry 3). -/
opaque supervisorVersion : BitVec 32

/-- A value the manual leaves open: the `k`-th draw of the named kind (log entry 4). The first argument names what is drawn, the second is the counter `freeCtr` of the state. -/
opaque freeValue : Nat → Nat → Nat

/-- A signed value the manual leaves open (log entry 4). -/
opaque freeInt : Nat → Nat → Int

/-- Where the manual divides and does not say how the result is rounded: does the result of `num / den` round up? (log entry 4).
The first argument names the place. -/
opaque roundUp : Nat → Int → Nat → Bool

/-- A quotient whose divisor is 0, for which the manual states no result (log entry 4). -/
opaque divByZero : Nat → Int → Int

/-- Sine of an angle in 1/65,536 turn, in 1/2^30: the manual works with sines and gives no precision for them (R295, R314; log
entry 17). -/
opaque sine : Int → Int

/-- The syndrome recorded with a memory error: the manual gives no code (R151; log entry 4). -/
opaque syndrome : Nat → BitVec 8

/-- The result of an image's signature check: ECDSA P-256 over SHA-256 of the bytes under the key chosen (R529). The
manual names the algorithms; the model leaves the function free (log entry 4). -/
opaque signatureOk : Nat → List (BitVec 8) → Bool

/-- SHA-256 of a key, as KEYHASH holds it (R107, R529; log entry 4). -/
opaque sha256 : List (BitVec 8) → List (BitVec 8)

end Sys2Proof.Config
end

