-- ==== Sys2Proof/Machine/Bits.lean ====
section
/-! DEFINITION. Bit fields, sign extension, byte order, saturating counts and checksums, as the register tables (R6) and
the frame rules use them. -/

namespace Sys2Proof.Machine

/-- A named field of a register: its absolute address and its bit range [hi:lo] (00_scope.md, "Register tables"). -/
structure Fld where
  addr : Nat
  hi : Nat
  lo : Nat
  deriving DecidableEq, Repr

/-- Number of bits of a field. -/
def Fld.width (f : Fld) : Nat := f.hi - f.lo + 1

/-- The bits of `v` at [hi:lo] as a number. -/
def bitsOf (v hi lo : Nat) : Nat := v / 2 ^ lo % 2 ^ (hi - lo + 1)

/-- Bit `i` of `v`. -/
def bitOf (v i : Nat) : Bool := v / 2 ^ i % 2 == 1

/-- 1 for true, 0 for false. -/
def b2n (b : Bool) : Nat := if b then 1 else 0

/-- A mask of the bits [hi:lo]. -/
def maskOf (hi lo : Nat) : Word := BitVec.ofNat 32 ((2 ^ (hi - lo + 1) - 1) * 2 ^ lo)

/-- The field [hi:lo] of a word. -/
def fieldOf (w : Word) (hi lo : Nat) : Nat := bitsOf w.toNat hi lo

/-- `w` with the field [hi:lo] replaced by `v` (taken modulo the field). -/
def withField (w : Word) (hi lo v : Nat) : Word :=
  (w &&& ~~~ maskOf hi lo) ||| (BitVec.ofNat 32 (v % 2 ^ (hi - lo + 1) * 2 ^ lo))

/-- The number `v` of `n` bits read as two's complement. -/
def sgn (n v : Nat) : Int := if v % 2 ^ n < 2 ^ (n - 1) then (v % 2 ^ n : Nat) else (v % 2 ^ n : Nat) - (2 ^ n : Nat)

/-- The `n`-bit two's complement code of `i` (wrapping). -/
def toCode (n : Nat) (i : Int) : Nat := (i % (2 ^ n : Nat)).toNat

/-- `i` held between `lo` and `hi`. -/
def clampInt (lo hi i : Int) : Int := if i < lo then lo else if hi < i then hi else i

/-- Count up, staying at `top`. -/
def satInc (top v : Nat) : Nat := if v < top then v + 1 else top

/-- Bytes, lowest address first, as a little-endian number (R5). -/
def leNat : List Byte → Nat
  | [] => 0
  | b :: t => b.toNat + 256 * leNat t

/-- `n` little-endian bytes of a number (R5). -/
def leBytes : Nat → Nat → List Byte
  | 0, _ => []
  | n + 1, v => BitVec.ofNat 8 v :: leBytes n (v / 256)

/-- The words of a byte list, byte 0 at [7:0], the last word filled with zero bytes. -/
def leWords : List Byte → List Word
  | [] => []
  | [a] => [BitVec.ofNat 32 (leNat [a])]
  | [a, b] => [BitVec.ofNat 32 (leNat [a, b])]
  | [a, b, c] => [BitVec.ofNat 32 (leNat [a, b, c])]
  | a :: b :: c :: d :: t => BitVec.ofNat 32 (leNat [a, b, c, d]) :: leWords t

/-- The bytes of a word list, byte 0 of each word first. -/
def wordBytes (ws : List Word) : List Byte := ws.flatMap fun w => leBytes 4 w.toNat

/-- One bit step of a checksum of `n` bits with polynomial `poly`, most significant bit first. -/
def crcBit (n poly crc : Nat) (b : Bool) : Nat :=
  let top := bitOf crc (n - 1) != b
  let sh := crc * 2 % 2 ^ n
  if top then sh ^^^ poly else sh

/-- A checksum over bits, the first bit first. -/
def crcBits (n poly init : Nat) (bs : List Bool) : Nat := bs.foldl (crcBit n poly) init

/-- The bits of a number, most significant first. -/
def msbBits : Nat → Nat → List Bool
  | 0, _ => []
  | n + 1, v => bitOf v n :: msbBits n v

/-- CRC-16/CCITT-FALSE over bytes (R107). -/
def crc16 (bs : List Byte) : Nat :=
  crcBits 16 0x1021 0xFFFF (bs.flatMap fun b => msbBits 8 b.toNat)

/-- The bits of a byte, least significant first, as the reflected CRC-32 takes them. -/
def lsbBits (b : Nat) : List Bool := (List.range 8).map fun i => bitOf b i

/-- The number whose bits are those of `v` in the opposite order. -/
def reflect (n v : Nat) : Nat := (List.range n).foldl (fun a i => a * 2 + b2n (bitOf v i)) 0

/-- CRC-32 as IEEE 802.3 uses it. -/
def crc32 (bs : List Byte) : Nat :=
  reflect 32 (crcBits 32 0x04C11DB7 0xFFFFFFFF (bs.flatMap fun b => lsbBits b.toNat)) ^^^ 0xFFFFFFFF

/-- The index of the first element that satisfies `p`. -/
def firstIdx {α : Type} (p : α → Bool) : List α → Option Nat
  | [] => none
  | a :: t => if p a then some 0 else (firstIdx p t).map (· + 1)

/-- Floor of the square root, by bits from `k` down. -/
def isqrtAux : Nat → Nat → Nat → Nat
  | 0, _, r => r
  | k + 1, n, r => let t := r + 2 ^ k; if t * t ≤ n then isqrtAux k n t else isqrtAux k n r

/-- Floor of the square root of a number below 2 ^ 64. -/
def isqrt (n : Nat) : Nat := isqrtAux 32 n 0

/-- Element `i` of a vector changed by `f`. -/
def upd {α : Type} {n : Nat} (v : Vector α n) (i : Fin n) (f : α → α) : Vector α n := v.set i.1 (f v[i]) i.2

end Sys2Proof.Machine
end

