-- ==== Sys2Proof/Machine/RegMap.lean ====
section
/-! DEFINITION. The register map: for every register of the manual its address, its named fields, the access code of each
field (R6), its reset value and whether a system reset keeps it. Addresses: 01_architecture.md (R30) and the register tables
of each block chapter. A register that the manual computes from other state has address and fields here and no row. -/

namespace Sys2Proof.Machine

/-- One register of the map, or one register repeated over two indices: address `base + i * s1 + j * s2` for
`i < n1`, `j < n2`; the masks say which bits carry which access code of R6; bits in no mask are RO or reserved. -/
structure RegRow where
  base : Nat
  n1 : Nat
  s1 : Nat
  n2 : Nat
  s2 : Nat
  reset : Nat
  rw : Nat
  rwb : Nat
  rws : Nat
  rwc : Nat
  w1c : Nat
  kept : Bool
  deriving DecidableEq, Repr

/-- Does the row hold address `a`? -/
def RegRow.covers (r : RegRow) (a : Nat) : Bool :=
  decide (r.base ≤ a) &&
    (let o := a - r.base
     decide (o / r.s1 < r.n1) && decide (o % r.s1 / r.s2 < r.n2) && decide (o % r.s1 % r.s2 = 0))


/-! Registers of block SYS: 01_architecture.md. -/

/-- SYS_ID (01_architecture.md). -/
def SYS_ID : Nat := 0x40000000
/-- SYS_ID.FAMILY[31:16], RO. -/
def SYS_ID_FAMILY : Fld := ⟨SYS_ID, 31, 16⟩
/-- SYS_ID.MEMBER[15:8], RO. -/
def SYS_ID_MEMBER : Fld := ⟨SYS_ID, 15, 8⟩
/-- SYS_ID.DIEREV[7:0], RO. -/
def SYS_ID_DIEREV : Fld := ⟨SYS_ID, 7, 0⟩
/-- SYS_RES0 (01_architecture.md). -/
def SYS_RES0 : Nat := 0x40000004
/-- SYS_RES0.V[31:0], RO. -/
def SYS_RES0_V : Fld := ⟨SYS_RES0, 31, 0⟩
/-- SYS_RES1 (01_architecture.md). -/
def SYS_RES1 : Nat := 0x40000008
/-- SYS_RES1.V[31:0], RO. -/
def SYS_RES1_V : Fld := ⟨SYS_RES1, 31, 0⟩
/-- SYS_RES2 (01_architecture.md). -/
def SYS_RES2 : Nat := 0x4000000C
/-- SYS_RES2.V[31:0], RO. -/
def SYS_RES2_V : Fld := ⟨SYS_RES2, 31, 0⟩
/-- RST_CAUSE (04_reset_startup.md). -/
def RST_CAUSE : Nat := 0x40000010
/-- RST_CAUSE.BADGER_LATE[21:21], RO. -/
def RST_CAUSE_BADGER_LATE : Fld := ⟨RST_CAUSE, 21, 21⟩
/-- RST_CAUSE.NODE_BAD[20:20], RO. -/
def RST_CAUSE_NODE_BAD : Fld := ⟨RST_CAUSE, 20, 20⟩
/-- RST_CAUSE.ROLE_INVALID[19:19], RO. -/
def RST_CAUSE_ROLE_INVALID : Fld := ⟨RST_CAUSE, 19, 19⟩
/-- RST_CAUSE.OPT_FIELD[18:18], RO. -/
def RST_CAUSE_OPT_FIELD : Fld := ⟨RST_CAUSE, 18, 18⟩
/-- RST_CAUSE.OPT_COPY1[17:17], RO. -/
def RST_CAUSE_OPT_COPY1 : Fld := ⟨RST_CAUSE, 17, 17⟩
/-- RST_CAUSE.OPT_BAD[16:16], RO. -/
def RST_CAUSE_OPT_BAD : Fld := ⟨RST_CAUSE, 16, 16⟩
/-- RST_CAUSE.PLLLOSS[8:8], W1C. -/
def RST_CAUSE_PLLLOSS : Fld := ⟨RST_CAUSE, 8, 8⟩
/-- RST_CAUSE.SRC[7:0], W1C. -/
def RST_CAUSE_SRC : Fld := ⟨RST_CAUSE, 7, 0⟩
/-- RST_HIST (04_reset_startup.md). -/
def RST_HIST : Nat := 0x40000014
/-- RST_HIST.HIST[31:0], RO. -/
def RST_HIST_HIST : Fld := ⟨RST_HIST, 31, 0⟩
/-- RST_CNT (04_reset_startup.md). -/
def RST_CNT : Nat := 0x40000018
/-- RST_CNT.SYSCNT[15:0], RO. -/
def RST_CNT_SYSCNT : Fld := ⟨RST_CNT, 15, 0⟩
/-- OPT_STAT (04_reset_startup.md). -/
def OPT_STAT : Nat := 0x4000001C
/-- OPT_STAT.RSVD[23:23], RO. -/
def OPT_STAT_RSVD : Fld := ⟨OPT_STAT, 23, 23⟩
/-- OPT_STAT.FIELDDEF[22:18], RO. -/
def OPT_STAT_FIELDDEF : Fld := ⟨OPT_STAT, 22, 18⟩
/-- OPT_STAT.BAD[17:17], RO. -/
def OPT_STAT_BAD : Fld := ⟨OPT_STAT, 17, 17⟩
/-- OPT_STAT.COPY[16:16], RO. -/
def OPT_STAT_COPY : Fld := ⟨OPT_STAT, 16, 16⟩
/-- OPT_STAT.CRC[15:0], RO. -/
def OPT_STAT_CRC : Fld := ⟨OPT_STAT, 15, 0⟩
/-- ROLE_STAT (04_reset_startup.md). -/
def ROLE_STAT : Nat := 0x40000020
/-- ROLE_STAT.UNSTABLE[13:13], RO. -/
def ROLE_STAT_UNSTABLE : Fld := ⟨ROLE_STAT, 13, 13⟩
/-- ROLE_STAT.BACKPLANE[12:12], RO. -/
def ROLE_STAT_BACKPLANE : Fld := ⟨ROLE_STAT, 12, 12⟩
/-- ROLE_STAT.CODE[11:8], RO. -/
def ROLE_STAT_CODE : Fld := ⟨ROLE_STAT, 11, 8⟩
/-- ROLE_STAT.COUNT[5:0], RO. -/
def ROLE_STAT_COUNT : Fld := ⟨ROLE_STAT, 5, 0⟩
/-- NODE (04_reset_startup.md). -/
def NODE : Nat := 0x40000024
/-- NODE.RINGNO[21:16], RO. -/
def NODE_RINGNO : Fld := ⟨NODE, 21, 16⟩
/-- NODE.UNIT[13:8], RO. -/
def NODE_UNIT : Fld := ⟨NODE, 13, 8⟩
/-- NODE.VALID[7:7], RO. -/
def NODE_VALID : Fld := ⟨NODE, 7, 7⟩
/-- NODE.NODEID[6:0], RO. -/
def NODE_NODEID : Fld := ⟨NODE, 6, 0⟩
/-- BOOT_CTRL (04_reset_startup.md). -/
def BOOT_CTRL : Nat := 0x40000028
/-- BOOT_CTRL.KEY[2:2], RO. -/
def BOOT_CTRL_KEY : Fld := ⟨BOOT_CTRL, 2, 2⟩
/-- BOOT_CTRL.BANK[1:1], RO. -/
def BOOT_CTRL_BANK : Fld := ⟨BOOT_CTRL, 1, 1⟩
/-- BOOT_CTRL.BOOT_DONE[0:0], RWB. -/
def BOOT_CTRL_BOOT_DONE : Fld := ⟨BOOT_CTRL, 0, 0⟩
/-- WDT_KICK (04_reset_startup.md). -/
def WDT_KICK : Nat := 0x4000002C
/-- WDT_KICK.KICK[31:0], WO. -/
def WDT_KICK_KICK : Fld := ⟨WDT_KICK, 31, 0⟩
/-- WDT_STAT (04_reset_startup.md). -/
def WDT_STAT : Nat := 0x40000030
/-- WDT_STAT.BOOTPER[16:16], RO. -/
def WDT_STAT_BOOTPER : Fld := ⟨WDT_STAT, 16, 16⟩
/-- WDT_STAT.REMAIN[15:0], RO. -/
def WDT_STAT_REMAIN : Fld := ⟨WDT_STAT, 15, 0⟩
/-- SYS_RST (04_reset_startup.md). -/
def SYS_RST : Nat := 0x40000034
/-- SYS_RST.KEY[31:0], WO. -/
def SYS_RST_KEY : Fld := ⟨SYS_RST, 31, 0⟩
/-- TEN_RST (04_reset_startup.md). -/
def TEN_RST : Nat := 0x40000038
/-- TEN_RST.KEY[31:16], WO. -/
def TEN_RST_KEY : Fld := ⟨TEN_RST, 31, 16⟩
/-- TEN_RST.MAP[7:0], WO. -/
def TEN_RST_MAP : Fld := ⟨TEN_RST, 7, 0⟩
/-- PORT_RST (04_reset_startup.md). -/
def PORT_RST : Nat := 0x4000003C
/-- PORT_RST.KEY[31:16], WO. -/
def PORT_RST_KEY : Fld := ⟨PORT_RST, 31, 16⟩
/-- PORT_RST.MAP[5:0], WO. -/
def PORT_RST_MAP : Fld := ⟨PORT_RST, 5, 0⟩
/-- ABND_CNT (04_reset_startup.md). -/
def ABND_CNT : Nat := 0x40000040
/-- ABND_CNT.DROP[31:16], RO. -/
def ABND_CNT_DROP : Fld := ⟨ABND_CNT, 31, 16⟩
/-- ABND_CNT.ABND[15:0], RO. -/
def ABND_CNT_ABND : Fld := ⟨ABND_CNT, 15, 0⟩
/-- FW_LOST (04_reset_startup.md). -/
def FW_LOST : Nat := 0x40000044
/-- FW_LOST.COUNT[15:0], RO. -/
def FW_LOST_COUNT : Fld := ⟨FW_LOST, 15, 0⟩
/-- RSTCTL_STAT (04_reset_startup.md). -/
def RSTCTL_STAT : Nat := 0x40000048
/-- RSTCTL_STAT.PORTREF[5:0], W1C. -/
def RSTCTL_STAT_PORTREF : Fld := ⟨RSTCTL_STAT, 5, 0⟩
/-- BEAR_FEED (15_hotplug_cabinet.md). -/
def BEAR_FEED : Nat := 0x40000100
/-- BEAR_FEED.VA[31:24], RO. -/
def BEAR_FEED_VA : Fld := ⟨BEAR_FEED, 31, 24⟩
/-- BEAR_FEED.VB[23:16], RO. -/
def BEAR_FEED_VB : Fld := ⟨BEAR_FEED, 23, 16⟩
/-- BEAR_FEED.BUSOK[5:5], RO. -/
def BEAR_FEED_BUSOK : Fld := ⟨BEAR_FEED, 5, 5⟩
/-- BEAR_FEED.BOK[4:4], RO. -/
def BEAR_FEED_BOK : Fld := ⟨BEAR_FEED, 4, 4⟩
/-- BEAR_FEED.AOK[3:3], RO. -/
def BEAR_FEED_AOK : Fld := ⟨BEAR_FEED, 3, 3⟩
/-- BEAR_FEED.BCHG[1:1], W1C. -/
def BEAR_FEED_BCHG : Fld := ⟨BEAR_FEED, 1, 1⟩
/-- BEAR_FEED.ACHG[0:0], W1C. -/
def BEAR_FEED_ACHG : Fld := ⟨BEAR_FEED, 0, 0⟩
/-- BEAR_FEEDCNT (15_hotplug_cabinet.md). -/
def BEAR_FEEDCNT : Nat := 0x40000104
/-- BEAR_FEEDCNT.DIPS[31:16], RO. -/
def BEAR_FEEDCNT_DIPS : Fld := ⟨BEAR_FEEDCNT, 31, 16⟩
/-- BEAR_FEEDCNT.BDROP[15:8], RO. -/
def BEAR_FEEDCNT_BDROP : Fld := ⟨BEAR_FEEDCNT, 15, 8⟩
/-- BEAR_FEEDCNT.ADROP[7:0], RO. -/
def BEAR_FEEDCNT_ADROP : Fld := ⟨BEAR_FEEDCNT, 7, 0⟩
/-- BEAR_STAT (15_hotplug_cabinet.md). -/
def BEAR_STAT : Nat := 0x40000108
/-- BEAR_STAT.SEATED[31:31], RO. -/
def BEAR_STAT_SEATED : Fld := ⟨BEAR_STAT, 31, 31⟩
/-- BEAR_STAT.PRES3[30:30], RO. -/
def BEAR_STAT_PRES3 : Fld := ⟨BEAR_STAT, 30, 30⟩
/-- BEAR_STAT.PRES1[29:29], RO. -/
def BEAR_STAT_PRES1 : Fld := ⟨BEAR_STAT, 29, 29⟩
/-- BEAR_STAT.BENCH[28:28], RO. -/
def BEAR_STAT_BENCH : Fld := ⟨BEAR_STAT, 28, 28⟩
/-- BEAR_STAT.PRESLOST[27:27], W1C. -/
def BEAR_STAT_PRESLOST : Fld := ⟨BEAR_STAT, 27, 27⟩
/-- BEAR_STAT.PARK[26:24], RO. -/
def BEAR_STAT_PARK : Fld := ⟨BEAR_STAT, 26, 24⟩
/-- BEAR_STAT.BTN[23:23], RO. -/
def BEAR_STAT_BTN : Fld := ⟨BEAR_STAT, 23, 23⟩
/-- BEAR_STAT.PARKREF[19:16], RO. -/
def BEAR_STAT_PARKREF : Fld := ⟨BEAR_STAT, 19, 16⟩
/-- BEAR_PARK (15_hotplug_cabinet.md). -/
def BEAR_PARK : Nat := 0x4000010C
/-- BEAR_PARK.UNPARK[1:1], WO. -/
def BEAR_PARK_UNPARK : Fld := ⟨BEAR_PARK, 1, 1⟩
/-- BEAR_PARK.PARK[0:0], WO. -/
def BEAR_PARK_PARK : Fld := ⟨BEAR_PARK, 0, 0⟩
/-- BEAR_LAMPS (15_hotplug_cabinet.md). -/
def BEAR_LAMPS : Nat := 0x40000110
/-- BEAR_LAMPS.PARK[23:20], RO. -/
def BEAR_LAMPS_PARK : Fld := ⟨BEAR_LAMPS, 23, 20⟩
/-- BEAR_LAMPS.RING[19:16], RO. -/
def BEAR_LAMPS_RING : Fld := ⟨BEAR_LAMPS, 19, 16⟩
/-- BEAR_LAMPS.LOCK[15:12], RO. -/
def BEAR_LAMPS_LOCK : Fld := ⟨BEAR_LAMPS, 15, 12⟩
/-- BEAR_LAMPS.FLT[11:8], RO. -/
def BEAR_LAMPS_FLT : Fld := ⟨BEAR_LAMPS, 11, 8⟩
/-- BEAR_LAMPS.RUN[7:4], RO. -/
def BEAR_LAMPS_RUN : Fld := ⟨BEAR_LAMPS, 7, 4⟩
/-- BEAR_LAMPS.PWR[3:0], RO. -/
def BEAR_LAMPS_PWR : Fld := ⟨BEAR_LAMPS, 3, 0⟩
/-- BEAR_LTEST (15_hotplug_cabinet.md). -/
def BEAR_LTEST : Nat := 0x40000114
/-- BEAR_LTEST.TEST[0:0], WO. -/
def BEAR_LTEST_TEST : Fld := ⟨BEAR_LTEST, 0, 0⟩
/-- BEAR_TWIN (15_hotplug_cabinet.md). -/
def BEAR_TWIN : Nat := 0x40000118
/-- BEAR_TWIN.MODE[31:30], RO. -/
def BEAR_TWIN_MODE : Fld := ⟨BEAR_TWIN, 31, 30⟩
/-- BEAR_TWIN.LINKUP[29:29], RO. -/
def BEAR_TWIN_LINKUP : Fld := ⟨BEAR_TWIN, 29, 29⟩
/-- BEAR_TWIN.OUT[28:28], RO. -/
def BEAR_TWIN_OUT : Fld := ⟨BEAR_TWIN, 28, 28⟩
/-- BEAR_TWIN.IN[27:27], RO. -/
def BEAR_TWIN_IN : Fld := ⟨BEAR_TWIN, 27, 27⟩
/-- BEAR_TWINCNT (15_hotplug_cabinet.md). -/
def BEAR_TWINCNT : Nat := 0x4000011C
/-- BEAR_TWINCNT.CRCERR[31:16], RO. -/
def BEAR_TWINCNT_CRCERR : Fld := ⟨BEAR_TWINCNT, 31, 16⟩
/-- BEAR_TWINCNT.RETRIES[15:0], RO. -/
def BEAR_TWINCNT_RETRIES : Fld := ⟨BEAR_TWINCNT, 15, 0⟩

/-! Registers of block SAFE: 02_badger_safety.md. -/

/-- BG_STATUS (02_badger_safety.md). -/
def BG_STATUS : Nat := 0x40010000
/-- BG_STATUS.V[31:0], RO. -/
def BG_STATUS_V : Fld := ⟨BG_STATUS, 31, 0⟩
/-- BG_CAUSE (02_badger_safety.md). -/
def BG_CAUSE : Nat := 0x40010004
/-- BG_CAUSE.LOCKCNT[31:16], RO. -/
def BG_CAUSE_LOCKCNT : Fld := ⟨BG_CAUSE, 31, 16⟩
/-- BG_CAUSE.INDEX[10:8], RO. -/
def BG_CAUSE_INDEX : Fld := ⟨BG_CAUSE, 10, 8⟩
/-- BG_CAUSE.FIRST[7:0], RO. -/
def BG_CAUSE_FIRST : Fld := ⟨BG_CAUSE, 7, 0⟩
/-- BG_CAUSEMAP (02_badger_safety.md). -/
def BG_CAUSEMAP : Nat := 0x40010008
/-- BG_CAUSEMAP.MAP[12:1], RO. -/
def BG_CAUSEMAP_MAP : Fld := ⟨BG_CAUSEMAP, 12, 1⟩
/-- BG_SEAL (02_badger_safety.md). -/
def BG_SEAL : Nat := 0x4001000C
/-- BG_SEAL.LIVE[15:8], RO. -/
def BG_SEAL_LIVE : Fld := ⟨BG_SEAL, 15, 8⟩
/-- BG_SEAL.SNAP[7:0], RO. -/
def BG_SEAL_SNAP : Fld := ⟨BG_SEAL, 7, 0⟩
/-- BG_INPUTS (02_badger_safety.md). -/
def BG_INPUTS : Nat := 0x40010010
/-- BG_INPUTS.GTEST[31:28], RO. -/
def BG_INPUTS_GTEST : Fld := ⟨BG_INPUTS, 31, 28⟩
/-- BG_INPUTS.BRKFB[27:20], RO. -/
def BG_INPUTS_BRKFB : Fld := ⟨BG_INPUTS, 27, 20⟩
/-- BG_INPUTS.GRDB[15:12], RO. -/
def BG_INPUTS_GRDB : Fld := ⟨BG_INPUTS, 15, 12⟩
/-- BG_INPUTS.GRDA[11:8], RO. -/
def BG_INPUTS_GRDA : Fld := ⟨BG_INPUTS, 11, 8⟩
/-- BG_INPUTS.LORB[3:3], RO. -/
def BG_INPUTS_LORB : Fld := ⟨BG_INPUTS, 3, 3⟩
/-- BG_INPUTS.LORA[2:2], RO. -/
def BG_INPUTS_LORA : Fld := ⟨BG_INPUTS, 2, 2⟩
/-- BG_INPUTS.STOB[1:1], RO. -/
def BG_INPUTS_STOB : Fld := ⟨BG_INPUTS, 1, 1⟩
/-- BG_INPUTS.STOA[0:0], RO. -/
def BG_INPUTS_STOA : Fld := ⟨BG_INPUTS, 0, 0⟩
/-- BG_HB_CHAL (02_badger_safety.md). -/
def BG_HB_CHAL : Nat := 0x40010018
/-- BG_HB_CHAL.CHAL[7:0], RO. -/
def BG_HB_CHAL_CHAL : Fld := ⟨BG_HB_CHAL, 7, 0⟩
/-- BG_HB_RESP (02_badger_safety.md). -/
def BG_HB_RESP : Nat := 0x4001001C
/-- BG_HB_RESP.MODES[31:8], WO. -/
def BG_HB_RESP_MODES : Fld := ⟨BG_HB_RESP, 31, 8⟩
/-- BG_HB_RESP.ANSWER[7:0], WO. -/
def BG_HB_RESP_ANSWER : Fld := ⟨BG_HB_RESP, 7, 0⟩
/-- BG_HB_CTRL (02_badger_safety.md). -/
def BG_HB_CTRL : Nat := 0x40010020
/-- BG_HB_CTRL.ARM[0:0], WO. -/
def BG_HB_CTRL_ARM : Fld := ⟨BG_HB_CTRL, 0, 0⟩
/-- BG_FBLOR (02_badger_safety.md). -/
def BG_FBLOR : Nat := 0x40010024
/-- BG_FBLOR.KEY[31:0], WO. -/
def BG_FBLOR_KEY : Fld := ⟨BG_FBLOR, 31, 0⟩
/-- BG_EVENTS (02_badger_safety.md). -/
def BG_EVENTS : Nat := 0x40010028
/-- BG_EVENTS.LORREF[7:7], W1C. -/
def BG_EVENTS_LORREF : Fld := ⟨BG_EVENTS, 7, 7⟩
/-- BG_EVENTS.LORVOID[6:6], W1C. -/
def BG_EVENTS_LORVOID : Fld := ⟨BG_EVENTS, 6, 6⟩
/-- BG_EVENTS.GUARD[5:5], W1C. -/
def BG_EVENTS_GUARD : Fld := ⟨BG_EVENTS, 5, 5⟩
/-- BG_EVENTS.CHAL[4:4], W1C. -/
def BG_EVENTS_CHAL : Fld := ⟨BG_EVENTS, 4, 4⟩
/-- BG_EVENTS.SS1[3:3], W1C. -/
def BG_EVENTS_SS1 : Fld := ⟨BG_EVENTS, 3, 3⟩
/-- BG_EVENTS.CUT[2:2], W1C. -/
def BG_EVENTS_CUT : Fld := ⟨BG_EVENTS, 2, 2⟩
/-- BG_EVENTS.CLEARED[1:1], W1C. -/
def BG_EVENTS_CLEARED : Fld := ⟨BG_EVENTS, 1, 1⟩
/-- BG_EVENTS.LATCHED[0:0], W1C. -/
def BG_EVENTS_LATCHED : Fld := ⟨BG_EVENTS, 0, 0⟩
/-- BG_SCS_CMD (02_badger_safety.md). -/
def BG_SCS_CMD : Nat := 0x40010030
/-- BG_SCS_CMD.CMD[1:0], WO. -/
def BG_SCS_CMD_CMD : Fld := ⟨BG_SCS_CMD, 1, 0⟩
/-- BG_SCS_STAT (02_badger_safety.md). -/
def BG_SCS_STAT : Nat := 0x40010034
/-- BG_SCS_STAT.CAND[8:8], RO. -/
def BG_SCS_STAT_CAND : Fld := ⟨BG_SCS_STAT, 8, 8⟩
/-- BG_SCS_STAT.LASTERR[7:4], RO. -/
def BG_SCS_STAT_LASTERR : Fld := ⟨BG_SCS_STAT, 7, 4⟩
/-- BG_SCS_STAT.COMMITTED[3:3], RO. -/
def BG_SCS_STAT_COMMITTED : Fld := ⟨BG_SCS_STAT, 3, 3⟩
/-- BG_SCS_STAT.MATCH[2:2], RO. -/
def BG_SCS_STAT_MATCH : Fld := ⟨BG_SCS_STAT, 2, 2⟩
/-- BG_SCS_STAT.LOADED[1:1], RO. -/
def BG_SCS_STAT_LOADED : Fld := ⟨BG_SCS_STAT, 1, 1⟩
/-- BG_SCS_STAT.BUSY[0:0], RO. -/
def BG_SCS_STAT_BUSY : Fld := ⟨BG_SCS_STAT, 0, 0⟩
/-- BG_SCS_STAGE (02_badger_safety.md). -/
def BG_SCS_STAGE (i : Nat) : Nat := 0x40010040 + 0x4 * i
/-- BG_SCS_STAGE.WORD[31:0], RWC. -/
def BG_SCS_STAGE_WORD (i : Nat) : Fld := ⟨BG_SCS_STAGE i, 31, 0⟩
/-- BG_SLS_F (02_badger_safety.md). -/
def BG_SLS_F (i : Nat) : Nat := 0x40010080 + 0x4 * i
/-- BG_SLS_F.FREQ[31:0], RO. -/
def BG_SLS_F_FREQ (i : Nat) : Fld := ⟨BG_SLS_F i, 31, 0⟩
/-- BG_VER (02_badger_safety.md). -/
def BG_VER : Nat := 0x400100FC
/-- BG_VER.VERSION[31:0], RO. -/
def BG_VER_VERSION : Fld := ⟨BG_VER, 31, 0⟩

/-! Registers of block TWU: 05_cores_tenants.md. -/

/-- TW_BASE (05_cores_tenants.md). -/
def TW_BASE (t : Nat) (w : Nat) : Nat := 0x40020000 + 0x100 * t + 0x8 * w
/-- TW_BASE.BASE[31:12], RWB. -/
def TW_BASE_BASE (t : Nat) (w : Nat) : Fld := ⟨TW_BASE t w, 31, 12⟩
/-- TW_BASE.U[3:3], RWB. -/
def TW_BASE_U (t : Nat) (w : Nat) : Fld := ⟨TW_BASE t w, 3, 3⟩
/-- TW_BASE.X[2:2], RWB. -/
def TW_BASE_X (t : Nat) (w : Nat) : Fld := ⟨TW_BASE t w, 2, 2⟩
/-- TW_BASE.W[1:1], RWB. -/
def TW_BASE_W (t : Nat) (w : Nat) : Fld := ⟨TW_BASE t w, 1, 1⟩
/-- TW_BASE.R[0:0], RWB. -/
def TW_BASE_R (t : Nat) (w : Nat) : Fld := ⟨TW_BASE t w, 0, 0⟩
/-- TW_LIM (05_cores_tenants.md). -/
def TW_LIM (t : Nat) (w : Nat) : Nat := 0x40020004 + 0x100 * t + 0x8 * w
/-- TW_LIM.LIMIT[31:12], RWB. -/
def TW_LIM_LIMIT (t : Nat) (w : Nat) : Fld := ⟨TW_LIM t w, 31, 12⟩
/-- TW_LIM.EN[0:0], RWB. -/
def TW_LIM_EN (t : Nat) (w : Nat) : Fld := ⟨TW_LIM t w, 0, 0⟩
/-- TEN_OWN (05_cores_tenants.md). -/
def TEN_OWN (t : Nat) : Nat := 0x40020800 + 0x10 * t
/-- TEN_OWN.OWN[26:0], RWB. -/
def TEN_OWN_OWN (t : Nat) : Fld := ⟨TEN_OWN t, 26, 0⟩
/-- TEN_CORE (05_cores_tenants.md). -/
def TEN_CORE (t : Nat) : Nat := 0x40020804 + 0x10 * t
/-- TEN_CORE.EN[4:4], RWB. -/
def TEN_CORE_EN (t : Nat) : Fld := ⟨TEN_CORE t, 4, 4⟩
/-- TEN_CORE.CORE[1:0], RWB. -/
def TEN_CORE_CORE (t : Nat) : Fld := ⟨TEN_CORE t, 1, 0⟩
/-- TEN_ENTRY (05_cores_tenants.md). -/
def TEN_ENTRY (t : Nat) : Nat := 0x40020808 + 0x10 * t
/-- TEN_ENTRY.ENTRY[31:1], RWB. -/
def TEN_ENTRY_ENTRY (t : Nat) : Fld := ⟨TEN_ENTRY t, 31, 1⟩
/-- TEN_STACK (05_cores_tenants.md). -/
def TEN_STACK (t : Nat) : Nat := 0x4002080C + 0x10 * t
/-- TEN_STACK.STACK[31:2], RWB. -/
def TEN_STACK_STACK (t : Nat) : Fld := ⟨TEN_STACK t, 31, 2⟩
/-- CORE_SLICE (05_cores_tenants.md). -/
def CORE_SLICE (c : Nat) : Nat := 0x40020880 + 0x4 * c
/-- CORE_SLICE.SLICE[15:0], RWB. -/
def CORE_SLICE_SLICE (c : Nat) : Fld := ⟨CORE_SLICE c, 15, 0⟩
/-- TWU_PWCNT (05_cores_tenants.md). -/
def TWU_PWCNT : Nat := 0x400208A0
/-- TWU_PWCNT.LASTTEN[18:16], RO. -/
def TWU_PWCNT_LASTTEN : Fld := ⟨TWU_PWCNT, 18, 16⟩
/-- TWU_PWCNT.COUNT[15:0], RO. -/
def TWU_PWCNT_COUNT : Fld := ⟨TWU_PWCNT, 15, 0⟩
/-- TWU_PWADDR (05_cores_tenants.md). -/
def TWU_PWADDR : Nat := 0x400208A4
/-- TWU_PWADDR.ADDR[31:0], RO. -/
def TWU_PWADDR_ADDR : Fld := ⟨TWU_PWADDR, 31, 0⟩
/-- TWU_STAT (05_cores_tenants.md). -/
def TWU_STAT : Nat := 0x400208A8
/-- TWU_STAT.CFGERR[0:0], RO. -/
def TWU_STAT_CFGERR : Fld := ⟨TWU_STAT, 0, 0⟩
/-- TWU_KILL (05_cores_tenants.md). -/
def TWU_KILL : Nat := 0x400208AC
/-- TWU_KILL.COUNT[31:24], RO. -/
def TWU_KILL_COUNT : Fld := ⟨TWU_KILL, 31, 24⟩
/-- TWU_KILL.STOPPED[23:16], RO. -/
def TWU_KILL_STOPPED : Fld := ⟨TWU_KILL, 23, 16⟩
/-- TWU_KILL.RESET[7:0], RO. -/
def TWU_KILL_RESET : Fld := ⟨TWU_KILL, 7, 0⟩
/-- TWU_TSTATE (05_cores_tenants.md). -/
def TWU_TSTATE : Nat := 0x400208B0
/-- TWU_TSTATE.V[15:0], RO. -/
def TWU_TSTATE_V : Fld := ⟨TWU_TSTATE, 15, 0⟩
/-- MEMERR_STAT (05_cores_tenants.md). -/
def MEMERR_STAT : Nat := 0x400208C0
/-- MEMERR_STAT.LASTUNC[24:24], RO. -/
def MEMERR_STAT_LASTUNC : Fld := ⟨MEMERR_STAT, 24, 24⟩
/-- MEMERR_STAT.SYND[23:16], RO. -/
def MEMERR_STAT_SYND : Fld := ⟨MEMERR_STAT, 23, 16⟩
/-- MEMERR_STAT.MASTER[10:8], RO. -/
def MEMERR_STAT_MASTER : Fld := ⟨MEMERR_STAT, 10, 8⟩
/-- MEMERR_STAT.MEM[6:4], RO. -/
def MEMERR_STAT_MEM : Fld := ⟨MEMERR_STAT, 6, 4⟩
/-- MEMERR_STAT.UNC[1:1], W1C. -/
def MEMERR_STAT_UNC : Fld := ⟨MEMERR_STAT, 1, 1⟩
/-- MEMERR_STAT.CORR[0:0], W1C. -/
def MEMERR_STAT_CORR : Fld := ⟨MEMERR_STAT, 0, 0⟩
/-- MEMERR_ADDR (05_cores_tenants.md). -/
def MEMERR_ADDR : Nat := 0x400208C4
/-- MEMERR_ADDR.ADDR[31:0], RO. -/
def MEMERR_ADDR_ADDR : Fld := ⟨MEMERR_ADDR, 31, 0⟩
/-- MEMERR_CNT (05_cores_tenants.md). -/
def MEMERR_CNT : Nat := 0x400208C8
/-- MEMERR_CNT.UNC[31:16], RO. -/
def MEMERR_CNT_UNC : Fld := ⟨MEMERR_CNT, 31, 16⟩
/-- MEMERR_CNT.CORR[15:0], RO. -/
def MEMERR_CNT_CORR : Fld := ⟨MEMERR_CNT, 15, 0⟩
/-- MEMERR_SCRUB (05_cores_tenants.md). -/
def MEMERR_SCRUB : Nat := 0x400208CC
/-- MEMERR_SCRUB.EN[31:31], RWB. -/
def MEMERR_SCRUB_EN : Fld := ⟨MEMERR_SCRUB, 31, 31⟩
/-- MEMERR_SCRUB.INTERVAL[15:0], RWB. -/
def MEMERR_SCRUB_INTERVAL : Fld := ⟨MEMERR_SCRUB, 15, 0⟩
/-- MEMERR_INJ (05_cores_tenants.md). -/
def MEMERR_INJ : Nat := 0x400208D0
/-- MEMERR_INJ.MODE[1:0], RWS. -/
def MEMERR_INJ_MODE : Fld := ⟨MEMERR_INJ, 1, 0⟩

/-! Registers of block EVT: 06_events_dma.md. -/

/-- EVT_ROUTE (06_events_dma.md). -/
def EVT_ROUTE (n : Nat) : Nat := 0x40030000 + 0x4 * n
/-- EVT_ROUTE.LEVEL[19:16], RWB. -/
def EVT_ROUTE_LEVEL (n : Nat) : Fld := ⟨EVT_ROUTE n, 19, 16⟩
/-- EVT_ROUTE.TENANT[2:0], RWB. -/
def EVT_ROUTE_TENANT (n : Nat) : Fld := ⟨EVT_ROUTE n, 2, 0⟩
/-- EVT_CTL (06_events_dma.md). -/
def EVT_CTL (n : Nat) : Nat := 0x40031000 + 0x4 * n
/-- EVT_CTL.PEND[31:31], RO. -/
def EVT_CTL_PEND (n : Nat) : Fld := ⟨EVT_CTL n, 31, 31⟩
/-- EVT_CTL.ACTIVE[30:30], RO. -/
def EVT_CTL_ACTIVE (n : Nat) : Fld := ⟨EVT_CTL n, 30, 30⟩
/-- EVT_CTL.COAL[29:29], W1C. -/
def EVT_CTL_COAL (n : Nat) : Fld := ⟨EVT_CTL n, 29, 29⟩
/-- EVT_CTL.EN[0:0], RW. -/
def EVT_CTL_EN (n : Nat) : Fld := ⟨EVT_CTL n, 0, 0⟩
/-- EVT_SET (06_events_dma.md). -/
def EVT_SET : Nat := 0x40032000
/-- EVT_SET.SRC[9:0], WO. -/
def EVT_SET_SRC : Fld := ⟨EVT_SET, 9, 0⟩
/-- EVT_SELF (06_events_dma.md). -/
def EVT_SELF : Nat := 0x40032004
/-- EVT_SELF.VALID[31:31], RO. -/
def EVT_SELF_VALID : Fld := ⟨EVT_SELF, 31, 31⟩
/-- EVT_SELF.LEVEL[19:16], RO. -/
def EVT_SELF_LEVEL : Fld := ⟨EVT_SELF, 19, 16⟩
/-- EVT_SELF.SRC[9:0], RO. -/
def EVT_SELF_SRC : Fld := ⟨EVT_SELF, 9, 0⟩
/-- EVT_CORE (06_events_dma.md). -/
def EVT_CORE (c : Nat) : Nat := 0x40032010 + 0x4 * c
/-- EVT_CORE.DEPTH[28:24], RO. -/
def EVT_CORE_DEPTH (c : Nat) : Fld := ⟨EVT_CORE c, 28, 24⟩
/-- EVT_CORE.CURLVL[19:16], RO. -/
def EVT_CORE_CURLVL (c : Nat) : Fld := ⟨EVT_CORE c, 19, 16⟩
/-- EVT_CORE.TENANT[14:12], RO. -/
def EVT_CORE_TENANT (c : Nat) : Fld := ⟨EVT_CORE c, 14, 12⟩
/-- EVT_CORE.SRC[9:0], RO. -/
def EVT_CORE_SRC (c : Nat) : Fld := ⟨EVT_CORE c, 9, 0⟩
/-- EVT_STAT (06_events_dma.md). -/
def EVT_STAT : Nat := 0x40032020
/-- EVT_STAT.ORPHAN[31:16], RO. -/
def EVT_STAT_ORPHAN : Fld := ⟨EVT_STAT, 31, 16⟩
/-- EVT_STAT.FOREIGN[15:0], RO. -/
def EVT_STAT_FOREIGN : Fld := ⟨EVT_STAT, 15, 0⟩
/-- EVT_LAST (06_events_dma.md). -/
def EVT_LAST : Nat := 0x40032024
/-- EVT_LAST.ORPH[25:16], RO. -/
def EVT_LAST_ORPH : Fld := ⟨EVT_LAST, 25, 16⟩
/-- EVT_LAST.FOREIGN[9:0], RO. -/
def EVT_LAST_FOREIGN : Fld := ⟨EVT_LAST, 9, 0⟩
/-- EVT_TEN (06_events_dma.md). -/
def EVT_TEN (t : Nat) : Nat := 0x40032040 + 0x4 * t
/-- EVT_TEN.EXCDEPTH[3:0], RO. -/
def EVT_TEN_EXCDEPTH (t : Nat) : Fld := ⟨EVT_TEN t, 3, 0⟩

/-! Registers of block DMA: 06_events_dma.md. -/

/-- DMA_CFG (06_events_dma.md). -/
def DMA_CFG (c : Nat) : Nat := 0x40040000 + 0x40 * c
/-- DMA_CFG.OWNER[26:24], RWB. -/
def DMA_CFG_OWNER (c : Nat) : Fld := ⟨DMA_CFG c, 26, 24⟩
/-- DMA_CFG.CLASS[17:16], RWB. -/
def DMA_CFG_CLASS (c : Nat) : Fld := ⟨DMA_CFG c, 17, 16⟩
/-- DMA_REQ (06_events_dma.md). -/
def DMA_REQ (c : Nat) : Nat := 0x40040004 + 0x40 * c
/-- DMA_REQ.REQ[5:0], RW. -/
def DMA_REQ_REQ (c : Nat) : Fld := ⟨DMA_REQ c, 5, 0⟩
/-- DMA_DESC (06_events_dma.md). -/
def DMA_DESC (c : Nat) : Nat := 0x40040008 + 0x40 * c
/-- DMA_DESC.DESC[31:4], RW. -/
def DMA_DESC_DESC (c : Nat) : Fld := ⟨DMA_DESC c, 31, 4⟩
/-- DMA_CMD (06_events_dma.md). -/
def DMA_CMD (c : Nat) : Nat := 0x4004000C + 0x40 * c
/-- DMA_CMD.CMD[3:0], WO. -/
def DMA_CMD_CMD (c : Nat) : Fld := ⟨DMA_CMD c, 3, 0⟩
/-- DMA_STAT (06_events_dma.md). -/
def DMA_STAT (c : Nat) : Nat := 0x40040010 + 0x40 * c
/-- DMA_STAT.STATE[31:30], RO. -/
def DMA_STAT_STATE (c : Nat) : Fld := ⟨DMA_STAT c, 31, 30⟩
/-- DMA_STAT.CODE[19:16], RO. -/
def DMA_STAT_CODE (c : Nat) : Fld := ⟨DMA_STAT c, 19, 16⟩
/-- DMA_STAT.REMAIN[15:0], RO. -/
def DMA_STAT_REMAIN (c : Nat) : Fld := ⟨DMA_STAT c, 15, 0⟩
/-- DMA_RES_SRC (06_events_dma.md). -/
def DMA_RES_SRC (c : Nat) : Nat := 0x40040014 + 0x40 * c
/-- DMA_RES_SRC.V[31:0], RW. -/
def DMA_RES_SRC_V (c : Nat) : Fld := ⟨DMA_RES_SRC c, 31, 0⟩
/-- DMA_RES_DST (06_events_dma.md). -/
def DMA_RES_DST (c : Nat) : Nat := 0x40040018 + 0x40 * c
/-- DMA_RES_DST.V[31:0], RW. -/
def DMA_RES_DST_V (c : Nat) : Fld := ⟨DMA_RES_DST c, 31, 0⟩
/-- DMA_RES_CNT (06_events_dma.md). -/
def DMA_RES_CNT (c : Nat) : Nat := 0x4004001C + 0x40 * c
/-- DMA_RES_CNT.DESCPEND[31:31], RW. -/
def DMA_RES_CNT_DESCPEND (c : Nat) : Fld := ⟨DMA_RES_CNT c, 31, 31⟩
/-- DMA_RES_CNT.CNT[15:0], RW. -/
def DMA_RES_CNT_CNT (c : Nat) : Fld := ⟨DMA_RES_CNT c, 15, 0⟩
/-- DMA_RES_DESC (06_events_dma.md). -/
def DMA_RES_DESC (c : Nat) : Nat := 0x40040020 + 0x40 * c
/-- DMA_RES_DESC.V[31:4], RW. -/
def DMA_RES_DESC_V (c : Nat) : Fld := ⟨DMA_RES_DESC c, 31, 4⟩
/-- DMA_RES_CTRL (06_events_dma.md). -/
def DMA_RES_CTRL (c : Nat) : Nat := 0x40040024 + 0x40 * c
/-- DMA_RES_CTRL.V[31:0], RO. -/
def DMA_RES_CTRL_V (c : Nat) : Fld := ⟨DMA_RES_CTRL c, 31, 0⟩
/-- DMA_FAULT_ADDR (06_events_dma.md). -/
def DMA_FAULT_ADDR (c : Nat) : Nat := 0x40040028 + 0x40 * c
/-- DMA_FAULT_ADDR.V[31:0], RO. -/
def DMA_FAULT_ADDR_V (c : Nat) : Fld := ⟨DMA_FAULT_ADDR c, 31, 0⟩
/-- DMA_FAULT_INFO (06_events_dma.md). -/
def DMA_FAULT_INFO (c : Nat) : Nat := 0x4004002C + 0x40 * c
/-- DMA_FAULT_INFO.PRIOR[11:8], RO. -/
def DMA_FAULT_INFO_PRIOR (c : Nat) : Fld := ⟨DMA_FAULT_INFO c, 11, 8⟩
/-- DMA_FAULT_INFO.DESC[5:5], RO. -/
def DMA_FAULT_INFO_DESC (c : Nat) : Fld := ⟨DMA_FAULT_INFO c, 5, 5⟩
/-- DMA_FAULT_INFO.SIDE[4:4], RO. -/
def DMA_FAULT_INFO_SIDE (c : Nat) : Fld := ⟨DMA_FAULT_INFO c, 4, 4⟩
/-- DMA_FAULT_INFO.REASON[3:0], RO. -/
def DMA_FAULT_INFO_REASON (c : Nat) : Fld := ⟨DMA_FAULT_INFO c, 3, 0⟩
/-- DMA_FLAGS (06_events_dma.md). -/
def DMA_FLAGS (c : Nat) : Nat := 0x40040030 + 0x40 * c
/-- DMA_FLAGS.CMDREF[2:2], W1C. -/
def DMA_FLAGS_CMDREF (c : Nat) : Fld := ⟨DMA_FLAGS c, 2, 2⟩
/-- DMA_FLAGS.STOP[1:1], W1C. -/
def DMA_FLAGS_STOP (c : Nat) : Fld := ⟨DMA_FLAGS c, 1, 1⟩
/-- DMA_FLAGS.DONE[0:0], W1C. -/
def DMA_FLAGS_DONE (c : Nat) : Fld := ⟨DMA_FLAGS c, 0, 0⟩
/-- DMA_RUN (06_events_dma.md). -/
def DMA_RUN : Nat := 0x40040800
/-- DMA_RUN.V[31:0], RO. -/
def DMA_RUN_V : Fld := ⟨DMA_RUN, 31, 0⟩
/-- DMA_FOREIGN (06_events_dma.md). -/
def DMA_FOREIGN : Nat := 0x40040804
/-- DMA_FOREIGN.LASTCH[20:16], RO. -/
def DMA_FOREIGN_LASTCH : Fld := ⟨DMA_FOREIGN, 20, 16⟩
/-- DMA_FOREIGN.COUNT[15:0], RO. -/
def DMA_FOREIGN_COUNT : Fld := ⟨DMA_FOREIGN, 15, 0⟩

/-! Registers of block SP: 07_satellite_link.md. -/

/-- SP_CFG (07_satellite_link.md). -/
def SP_CFG (p : Nat) : Nat := 0x40100000 + 0x1000 * p
/-- SP_CFG.BCAST[30:30], RW. -/
def SP_CFG_BCAST (p : Nat) : Fld := ⟨SP_CFG p, 30, 30⟩
/-- SP_CFG.DMODE[29:29], RW. -/
def SP_CFG_DMODE (p : Nat) : Fld := ⟨SP_CFG p, 29, 29⟩
/-- SP_CFG.AXMAP[23:16], RWB. -/
def SP_CFG_AXMAP (p : Nat) : Fld := ⟨SP_CFG p, 23, 16⟩
/-- SP_CFG.SDLY[15:12], RW. -/
def SP_CFG_SDLY (p : Nat) : Fld := ⟨SP_CFG p, 15, 12⟩
/-- SP_CFG.ALERTACT[11:10], RW. -/
def SP_CFG_ALERTACT (p : Nat) : Fld := ⟨SP_CFG p, 11, 10⟩
/-- SP_CFG.SELMAP[7:0], RW. -/
def SP_CFG_SELMAP (p : Nat) : Fld := ⟨SP_CFG p, 7, 0⟩
/-- SP_CLK (07_satellite_link.md). -/
def SP_CLK (p : Nat) : Nat := 0x40100004 + 0x1000 * p
/-- SP_CLK.N[5:0], RW. -/
def SP_CLK_N (p : Nat) : Fld := ⟨SP_CLK p, 5, 0⟩
/-- SP_BUSY (07_satellite_link.md). -/
def SP_BUSY (p : Nat) : Nat := 0x40100008 + 0x1000 * p
/-- SP_BUSY.STYLE[7:0], RW. -/
def SP_BUSY_STYLE (p : Nat) : Fld := ⟨SP_BUSY p, 7, 0⟩
/-- SP_CFG2 (07_satellite_link.md). -/
def SP_CFG2 (p : Nat) : Nat := 0x4010000C + 0x1000 * p
/-- SP_CFG2.TQOWNER[26:24], RWB. -/
def SP_CFG2_TQOWNER (p : Nat) : Fld := ⟨SP_CFG2 p, 26, 24⟩
/-- SP_CFG2.TQLOW[23:16], RW. -/
def SP_CFG2_TQLOW (p : Nat) : Fld := ⟨SP_CFG2 p, 23, 16⟩
/-- SP_CFG2.BADLIM[3:0], RW. -/
def SP_CFG2_BADLIM (p : Nat) : Fld := ⟨SP_CFG2 p, 3, 0⟩
/-- SP_CTRL (07_satellite_link.md). -/
def SP_CTRL (p : Nat) : Nat := 0x40100010 + 0x1000 * p
/-- SP_CTRL.CLRREENT[4:4], WO. -/
def SP_CTRL_CLRREENT (p : Nat) : Fld := ⟨SP_CTRL p, 4, 4⟩
/-- SP_CTRL.HALTREQ[3:3], WO. -/
def SP_CTRL_HALTREQ (p : Nat) : Fld := ⟨SP_CTRL p, 3, 3⟩
/-- SP_CTRL.RESUME[2:2], WO. -/
def SP_CTRL_RESUME (p : Nat) : Fld := ⟨SP_CTRL p, 2, 2⟩
/-- SP_CTRL.DIS[1:1], WO. -/
def SP_CTRL_DIS (p : Nat) : Fld := ⟨SP_CTRL p, 1, 1⟩
/-- SP_CTRL.EN[0:0], WO. -/
def SP_CTRL_EN (p : Nat) : Fld := ⟨SP_CTRL p, 0, 0⟩
/-- SP_STAT (07_satellite_link.md). -/
def SP_STAT (p : Nat) : Nat := 0x40100014 + 0x1000 * p
/-- SP_STAT.STATE[31:30], RO. -/
def SP_STAT_STATE (p : Nat) : Fld := ⟨SP_STAT p, 31, 30⟩
/-- SP_STAT.LIVE[29:29], RO. -/
def SP_STAT_LIVE (p : Nat) : Fld := ⟨SP_STAT p, 29, 29⟩
/-- SP_STAT.HALTCAUSE[28:25], RO. -/
def SP_STAT_HALTCAUSE (p : Nat) : Fld := ⟨SP_STAT p, 28, 25⟩
/-- SP_STAT.REENT[24:17], RO. -/
def SP_STAT_REENT (p : Nat) : Fld := ⟨SP_STAT p, 24, 17⟩
/-- SP_STAT.RXLVL[16:9], RO. -/
def SP_STAT_RXLVL (p : Nat) : Fld := ⟨SP_STAT p, 16, 9⟩
/-- SP_STAT.TQFREE[8:0], RO. -/
def SP_STAT_TQFREE (p : Nat) : Fld := ⟨SP_STAT p, 8, 0⟩
/-- SP_EVT (07_satellite_link.md). -/
def SP_EVT (p : Nat) : Nat := 0x40100018 + 0x1000 * p
/-- SP_EVT.EV[10:0], W1C. -/
def SP_EVT_EV (p : Nat) : Fld := ⟨SP_EVT p, 10, 0⟩
/-- SP_TQ_PUSH (07_satellite_link.md). -/
def SP_TQ_PUSH (p : Nat) : Nat := 0x40100020 + 0x1000 * p
/-- SP_TQ_PUSH.WORD[31:0], WO. -/
def SP_TQ_PUSH_WORD (p : Nat) : Fld := ⟨SP_TQ_PUSH p, 31, 0⟩
/-- SP_RX_POP (07_satellite_link.md). -/
def SP_RX_POP (p : Nat) : Nat := 0x40100024 + 0x1000 * p
/-- SP_RX_POP.WORD[31:0], RO. -/
def SP_RX_POP_WORD (p : Nat) : Fld := ⟨SP_RX_POP p, 31, 0⟩
/-- SP_ACNT (07_satellite_link.md). -/
def SP_ACNT (p : Nat) : Nat := 0x40100028 + 0x1000 * p
/-- SP_ACNT.ACNT[3:0], RO. -/
def SP_ACNT_ACNT (p : Nat) : Fld := ⟨SP_ACNT p, 3, 0⟩
/-- SP_CNT (07_satellite_link.md). -/
def SP_CNT (p : Nat) : Nat := 0x4010002C + 0x1000 * p
/-- SP_CNT.BAD[31:16], RO. -/
def SP_CNT_BAD (p : Nat) : Fld := ⟨SP_CNT p, 31, 16⟩
/-- SP_CNT.LASTBAD[15:0], RO. -/
def SP_CNT_LASTBAD (p : Nat) : Fld := ⟨SP_CNT p, 15, 0⟩
/-- SP_CNT2 (07_satellite_link.md). -/
def SP_CNT2 (p : Nat) : Nat := 0x40100030 + 0x1000 * p
/-- SP_CNT2.BUSY[31:16], RO. -/
def SP_CNT2_BUSY (p : Nat) : Fld := ⟨SP_CNT2 p, 31, 16⟩
/-- SP_CNT2.RXDROP[15:0], RO. -/
def SP_CNT2_RXDROP (p : Nat) : Fld := ⟨SP_CNT2 p, 15, 0⟩
/-- SP_UNDER (07_satellite_link.md). -/
def SP_UNDER (p : Nat) : Nat := 0x40100034 + 0x1000 * p
/-- SP_UNDER.COUNT[15:0], RO. -/
def SP_UNDER_COUNT (p : Nat) : Fld := ⟨SP_UNDER p, 15, 0⟩
/-- SP_ERR (07_satellite_link.md). -/
def SP_ERR (p : Nat) : Nat := 0x40100038 + 0x1000 * p
/-- SP_ERR.LASTSEL[23:20], RO. -/
def SP_ERR_LASTSEL (p : Nat) : Fld := ⟨SP_ERR p, 23, 20⟩
/-- SP_ERR.LASTCLASS[19:16], RO. -/
def SP_ERR_LASTCLASS (p : Nat) : Fld := ⟨SP_ERR p, 19, 16⟩
/-- SP_ERR.POPEMPTY[4:4], W1C. -/
def SP_ERR_POPEMPTY (p : Nat) : Fld := ⟨SP_ERR p, 4, 4⟩
/-- SP_ERR.TOOLONG[3:3], W1C. -/
def SP_ERR_TOOLONG (p : Nat) : Fld := ⟨SP_ERR p, 3, 3⟩
/-- SP_ERR.PUSHREF[2:2], W1C. -/
def SP_ERR_PUSHREF (p : Nat) : Fld := ⟨SP_ERR p, 2, 2⟩
/-- SP_ERR.CTLREF[1:1], W1C. -/
def SP_ERR_CTLREF (p : Nat) : Fld := ⟨SP_ERR p, 1, 1⟩
/-- SP_LINES (07_satellite_link.md). -/
def SP_LINES (p : Nat) : Nat := 0x4010003C + 0x1000 * p
/-- SP_LINES.V[6:0], RO. -/
def SP_LINES_V (p : Nat) : Fld := ⟨SP_LINES p, 6, 0⟩
/-- SP_EQLVL (07_satellite_link.md). -/
def SP_EQLVL (p : Nat) : Nat := 0x40100040 + 0x1000 * p
/-- SP_EQLVL.LEVEL[5:0], RO. -/
def SP_EQLVL_LEVEL (p : Nat) : Fld := ⟨SP_EQLVL p, 5, 0⟩

/-! Registers of block AXIS: 03_operating_modes.md. -/

/-- AX_CW (03_operating_modes.md). -/
def AX_CW (a : Nat) : Nat := 0x40110000 + 0x1000 * a
/-- AX_CW.CW[15:0], RW. -/
def AX_CW_CW (a : Nat) : Fld := ⟨AX_CW a, 15, 0⟩
/-- AX_SW (03_operating_modes.md). -/
def AX_SW (a : Nat) : Nat := 0x40110004 + 0x1000 * a
/-- AX_SW.V[26:0], RO. -/
def AX_SW_V (a : Nat) : Fld := ⟨AX_SW a, 26, 0⟩
/-- AX_MODESEL (03_operating_modes.md). -/
def AX_MODESEL (a : Nat) : Nat := 0x40110008 + 0x1000 * a
/-- AX_MODESEL.MODESEL[7:0], RW. -/
def AX_MODESEL_MODESEL (a : Nat) : Fld := ⟨AX_MODESEL a, 7, 0⟩
/-- AX_MODEDISP (03_operating_modes.md). -/
def AX_MODEDISP (a : Nat) : Nat := 0x4011000C + 0x1000 * a
/-- AX_MODEDISP.MODEDISP[7:0], RO. -/
def AX_MODEDISP_MODEDISP (a : Nat) : Fld := ⟨AX_MODEDISP a, 7, 0⟩
/-- AX_CWSRC (03_operating_modes.md). -/
def AX_CWSRC (a : Nat) : Nat := 0x40110010 + 0x1000 * a
/-- AX_CWSRC.SRC[0:0], RW. -/
def AX_CWSRC_SRC (a : Nat) : Fld := ⟨AX_CWSRC a, 0, 0⟩
/-- AX_OPT (03_operating_modes.md). -/
def AX_OPT (a : Nat) : Nat := 0x40110014 + 0x1000 * a
/-- AX_OPT.HALTOPT[7:6], RW. -/
def AX_OPT_HALTOPT (a : Nat) : Fld := ⟨AX_OPT a, 7, 6⟩
/-- AX_OPT.DOOPT[5:5], RW. -/
def AX_OPT_DOOPT (a : Nat) : Fld := ⟨AX_OPT a, 5, 5⟩
/-- AX_OPT.SDOPT[4:4], RW. -/
def AX_OPT_SDOPT (a : Nat) : Fld := ⟨AX_OPT a, 4, 4⟩
/-- AX_OPT.QSOPT[3:0], RW. -/
def AX_OPT_QSOPT (a : Nat) : Fld := ⟨AX_OPT a, 3, 0⟩
/-- AX_TSLOPE (03_operating_modes.md). -/
def AX_TSLOPE (a : Nat) : Nat := 0x40110018 + 0x1000 * a
/-- AX_TSLOPE.V[31:0], RW. -/
def AX_TSLOPE_V (a : Nat) : Fld := ⟨AX_TSLOPE a, 31, 0⟩
/-- AX_PACC (03_operating_modes.md). -/
def AX_PACC (a : Nat) : Nat := 0x4011001C + 0x1000 * a
/-- AX_PACC.V[31:0], RW. -/
def AX_PACC_V (a : Nat) : Fld := ⟨AX_PACC a, 31, 0⟩
/-- AX_PDEC (03_operating_modes.md). -/
def AX_PDEC (a : Nat) : Nat := 0x40110020 + 0x1000 * a
/-- AX_PDEC.V[31:0], RW. -/
def AX_PDEC_V (a : Nat) : Fld := ⟨AX_PDEC a, 31, 0⟩
/-- AX_QSDEC (03_operating_modes.md). -/
def AX_QSDEC (a : Nat) : Nat := 0x40110024 + 0x1000 * a
/-- AX_QSDEC.V[31:0], RW. -/
def AX_QSDEC_V (a : Nat) : Fld := ⟨AX_QSDEC a, 31, 0⟩
/-- AX_REFUSE (03_operating_modes.md). -/
def AX_REFUSE (a : Nat) : Nat := 0x40110028 + 0x1000 * a
/-- AX_REFUSE.COUNT[31:16], RO. -/
def AX_REFUSE_COUNT (a : Nat) : Fld := ⟨AX_REFUSE a, 31, 16⟩
/-- AX_REFUSE.REASON[15:8], RO. -/
def AX_REFUSE_REASON (a : Nat) : Fld := ⟨AX_REFUSE a, 15, 8⟩
/-- AX_REFUSE.CMD[7:0], RO. -/
def AX_REFUSE_CMD (a : Nat) : Fld := ⟨AX_REFUSE a, 7, 0⟩
/-- AX_EVT (03_operating_modes.md). -/
def AX_EVT (a : Nat) : Nat := 0x4011002C + 0x1000 * a
/-- AX_EVT.FOREIGN[5:5], W1C. -/
def AX_EVT_FOREIGN (a : Nat) : Fld := ⟨AX_EVT a, 5, 5⟩
/-- AX_EVT.EMGEXIT[4:4], W1C. -/
def AX_EVT_EMGEXIT (a : Nat) : Fld := ⟨AX_EVT a, 4, 4⟩
/-- AX_EVT.EMGENTRY[3:3], W1C. -/
def AX_EVT_EMGENTRY (a : Nat) : Fld := ⟨AX_EVT a, 3, 3⟩
/-- AX_EVT.FAULT[2:2], W1C. -/
def AX_EVT_FAULT (a : Nat) : Fld := ⟨AX_EVT a, 2, 2⟩
/-- AX_EVT.REFUSED[1:1], W1C. -/
def AX_EVT_REFUSED (a : Nat) : Fld := ⟨AX_EVT a, 1, 1⟩
/-- AX_EVT.STATECHG[0:0], W1C. -/
def AX_EVT_STATECHG (a : Nat) : Fld := ⟨AX_EVT a, 0, 0⟩
/-- AX_ERR (03_operating_modes.md). -/
def AX_ERR (a : Nat) : Nat := 0x40110030 + 0x1000 * a
/-- AX_ERR.ERRCODE[15:0], RO. -/
def AX_ERR_ERRCODE (a : Nat) : Fld := ⟨AX_ERR a, 15, 0⟩
/-- AX_CLAMP (03_operating_modes.md). -/
def AX_CLAMP (a : Nat) : Nat := 0x40110034 + 0x1000 * a
/-- AX_CLAMP.TCLAMP[31:16], RO. -/
def AX_CLAMP_TCLAMP (a : Nat) : Fld := ⟨AX_CLAMP a, 31, 16⟩
/-- AX_CLAMP.SCLAMP[15:0], RO. -/
def AX_CLAMP_SCLAMP (a : Nat) : Fld := ⟨AX_CLAMP a, 15, 0⟩
/-- AX_CTRL (03_operating_modes.md). -/
def AX_CTRL (a : Nat) : Nat := 0x40110038 + 0x1000 * a
/-- AX_CTRL.INIT[0:0], RW. -/
def AX_CTRL_INIT (a : Nat) : Fld := ⟨AX_CTRL a, 0, 0⟩
/-- ENG_CFG (10_current_loop.md). -/
def ENG_CFG (a : Nat) : Nat := 0x40110040 + 0x1000 * a
/-- ENG_CFG.LEAD[26:24], RW. -/
def ENG_CFG_LEAD (a : Nat) : Fld := ⟨ENG_CFG a, 26, 24⟩
/-- ENG_CFG.DOUBLE[20:20], RW. -/
def ENG_CFG_DOUBLE (a : Nat) : Fld := ⟨ENG_CFG a, 20, 20⟩
/-- ENG_CFG.DEGRADE[19:19], RW. -/
def ENG_CFG_DEGRADE (a : Nat) : Fld := ⟨ENG_CFG a, 19, 19⟩
/-- ENG_CFG.PUMP[18:18], RW. -/
def ENG_CFG_PUMP (a : Nat) : Fld := ⟨ENG_CFG a, 18, 18⟩
/-- ENG_CFG.FILL[17:17], RW. -/
def ENG_CFG_FILL (a : Nat) : Fld := ⟨ENG_CFG a, 17, 17⟩
/-- ENG_CFG.CYC[15:8], RW. -/
def ENG_CFG_CYC (a : Nat) : Fld := ⟨ENG_CFG a, 15, 8⟩
/-- ENG_PWM (10_current_loop.md). -/
def ENG_PWM (a : Nat) : Nat := 0x40110044 + 0x1000 * a
/-- ENG_PWM.MINP[24:16], RW. -/
def ENG_PWM_MINP (a : Nat) : Fld := ⟨ENG_PWM a, 24, 16⟩
/-- ENG_PWM.DT[8:0], RW. -/
def ENG_PWM_DT (a : Nat) : Fld := ⟨ENG_PWM a, 8, 0⟩
/-- ENG_BOOT (10_current_loop.md). -/
def ENG_BOOT (a : Nat) : Nat := 0x40110048 + 0x1000 * a
/-- ENG_BOOT.PRECHG[31:22], RW. -/
def ENG_BOOT_PRECHG (a : Nat) : Fld := ⟨ENG_BOOT a, 31, 22⟩
/-- ENG_BOOT.RFPER[20:16], RW. -/
def ENG_BOOT_RFPER (a : Nat) : Fld := ⟨ENG_BOOT a, 20, 16⟩
/-- ENG_BOOT.RFON[9:0], RW. -/
def ENG_BOOT_RFON (a : Nat) : Fld := ⟨ENG_BOOT a, 9, 0⟩
/-- ENG_FB (10_current_loop.md). -/
def ENG_FB (a : Nat) : Nat := 0x4011004C + 0x1000 * a
/-- ENG_FB.POLES[31:24], RW. -/
def ENG_FB_POLES (a : Nat) : Fld := ⟨ENG_FB a, 31, 24⟩
/-- ENG_FB.SRC[23:16], RW. -/
def ENG_FB_SRC (a : Nat) : Fld := ⟨ENG_FB a, 23, 16⟩
/-- ENG_FB.THOFS[15:0], RW. -/
def ENG_FB_THOFS (a : Nat) : Fld := ⟨ENG_FB a, 15, 0⟩
/-- ENG_SCALE (10_current_loop.md). -/
def ENG_SCALE (a : Nat) : Nat := 0x40110050 + 0x1000 * a
/-- ENG_SCALE.IFS[31:16], RW. -/
def ENG_SCALE_IFS (a : Nat) : Fld := ⟨ENG_SCALE a, 31, 16⟩
/-- ENG_SCALE.UFS[15:0], RW. -/
def ENG_SCALE_UFS (a : Nat) : Fld := ⟨ENG_SCALE a, 15, 0⟩
/-- ENG_MOT (10_current_loop.md). -/
def ENG_MOT (a : Nat) : Nat := 0x40110054 + 0x1000 * a
/-- ENG_MOT.IRATED[15:0], RW. -/
def ENG_MOT_IRATED (a : Nat) : Fld := ⟨ENG_MOT a, 15, 0⟩
/-- ENG_PROT (10_current_loop.md). -/
def ENG_PROT (a : Nat) : Nat := 0x40110058 + 0x1000 * a
/-- ENG_PROT.OSLIM[31:16], RW. -/
def ENG_PROT_OSLIM (a : Nat) : Fld := ⟨ENG_PROT a, 31, 16⟩
/-- ENG_PROT.OCLIM[15:0], RW. -/
def ENG_PROT_OCLIM (a : Nat) : Fld := ⟨ENG_PROT a, 15, 0⟩
/-- ENG_UDCLIM (10_current_loop.md). -/
def ENG_UDCLIM (a : Nat) : Nat := 0x4011005C + 0x1000 * a
/-- ENG_UDCLIM.UDCMAX[31:16], RW. -/
def ENG_UDCLIM_UDCMAX (a : Nat) : Fld := ⟨ENG_UDCLIM a, 31, 16⟩
/-- ENG_UDCLIM.UDCMIN[15:0], RW. -/
def ENG_UDCLIM_UDCMIN (a : Nat) : Fld := ⟨ENG_UDCLIM a, 15, 0⟩
/-- ENG_PH (10_current_loop.md). -/
def ENG_PH (a : Nat) (x : Nat) : Nat := 0x40110060 + 0x1000 * a + 0x4 * x
/-- ENG_PH.PAR[31:31], RW. -/
def ENG_PH_PAR (a : Nat) (x : Nat) : Fld := ⟨ENG_PH a x, 31, 31⟩
/-- ENG_PH.PORT[26:24], RW. -/
def ENG_PH_PORT (a : Nat) (x : Nat) : Fld := ⟨ENG_PH a x, 26, 24⟩
/-- ENG_PH.GROUP[17:16], RW. -/
def ENG_PH_GROUP (a : Nat) (x : Nat) : Fld := ⟨ENG_PH a x, 17, 16⟩
/-- ENG_PH.SELMASK[7:0], RW. -/
def ENG_PH_SELMASK (a : Nat) (x : Nat) : Fld := ⟨ENG_PH a x, 7, 0⟩
/-- ENG_GAIN (10_current_loop.md). -/
def ENG_GAIN (a : Nat) (w : Nat) : Nat := 0x40110080 + 0x1000 * a + 0x4 * w
/-- ENG_GAIN.V[31:0], RW. -/
def ENG_GAIN_V (a : Nat) (w : Nat) : Fld := ⟨ENG_GAIN a w, 31, 0⟩
/-- ENG_GAIN_PSET (10_current_loop.md). -/
def ENG_GAIN_PSET (a : Nat) : Nat := 0x401100A8 + 0x1000 * a
/-- ENG_GAIN_PSET.DIRTY[31:31], RO. -/
def ENG_GAIN_PSET_DIRTY (a : Nat) : Fld := ⟨ENG_GAIN_PSET a, 31, 31⟩
/-- ENG_GAIN_PSET.REFUSED[30:30], W1C. -/
def ENG_GAIN_PSET_REFUSED (a : Nat) : Fld := ⟨ENG_GAIN_PSET a, 30, 30⟩
/-- ENG_GAIN_PSET.HOLDER[26:24], RO. -/
def ENG_GAIN_PSET_HOLDER (a : Nat) : Fld := ⟨ENG_GAIN_PSET a, 26, 24⟩
/-- ENG_GAIN_PSET.DISCARD[1:1], WO. -/
def ENG_GAIN_PSET_DISCARD (a : Nat) : Fld := ⟨ENG_GAIN_PSET a, 1, 1⟩
/-- ENG_GAIN_PSET.COMMIT[0:0], WO. -/
def ENG_GAIN_PSET_COMMIT (a : Nat) : Fld := ⟨ENG_GAIN_PSET a, 0, 0⟩
/-- ENG_ROUTE (10_current_loop.md). -/
def ENG_ROUTE (a : Nat) : Nat := 0x401100B0 + 0x1000 * a
/-- ENG_ROUTE.ROUTE[1:0], RW. -/
def ENG_ROUTE_ROUTE (a : Nat) : Fld := ⟨ENG_ROUTE a, 1, 0⟩
/-- ENG_ROUTE_PSET (10_current_loop.md). -/
def ENG_ROUTE_PSET (a : Nat) : Nat := 0x401100B4 + 0x1000 * a
/-- ENG_ROUTE_PSET.DIRTY[31:31], RO. -/
def ENG_ROUTE_PSET_DIRTY (a : Nat) : Fld := ⟨ENG_ROUTE_PSET a, 31, 31⟩
/-- ENG_ROUTE_PSET.REFUSED[30:30], W1C. -/
def ENG_ROUTE_PSET_REFUSED (a : Nat) : Fld := ⟨ENG_ROUTE_PSET a, 30, 30⟩
/-- ENG_ROUTE_PSET.HOLDER[26:24], RO. -/
def ENG_ROUTE_PSET_HOLDER (a : Nat) : Fld := ⟨ENG_ROUTE_PSET a, 26, 24⟩
/-- ENG_ROUTE_PSET.DISCARD[1:1], WO. -/
def ENG_ROUTE_PSET_DISCARD (a : Nat) : Fld := ⟨ENG_ROUTE_PSET a, 1, 1⟩
/-- ENG_ROUTE_PSET.COMMIT[0:0], WO. -/
def ENG_ROUTE_PSET_COMMIT (a : Nat) : Fld := ⟨ENG_ROUTE_PSET a, 0, 0⟩
/-- ENG_TREF_TQ (10_current_loop.md). -/
def ENG_TREF_TQ (a : Nat) : Nat := 0x401100C0 + 0x1000 * a
/-- ENG_TREF_TQ.V[15:0], RW. -/
def ENG_TREF_TQ_V (a : Nat) : Fld := ⟨ENG_TREF_TQ a, 15, 0⟩
/-- ENG_TREF_SPD (10_current_loop.md). -/
def ENG_TREF_SPD (a : Nat) : Nat := 0x401100C4 + 0x1000 * a
/-- ENG_TREF_SPD.V[31:0], RW. -/
def ENG_TREF_SPD_V (a : Nat) : Fld := ⟨ENG_TREF_SPD a, 31, 0⟩
/-- ENG_PREF_TQ (10_current_loop.md). -/
def ENG_PREF_TQ (a : Nat) : Nat := 0x401100C8 + 0x1000 * a
/-- ENG_PREF_TQ.V[15:0], RO. -/
def ENG_PREF_TQ_V (a : Nat) : Fld := ⟨ENG_PREF_TQ a, 15, 0⟩
/-- ENG_PREF_SPD (10_current_loop.md). -/
def ENG_PREF_SPD (a : Nat) : Nat := 0x401100CC + 0x1000 * a
/-- ENG_PREF_SPD.V[31:0], RO. -/
def ENG_PREF_SPD_V (a : Nat) : Fld := ⟨ENG_PREF_SPD a, 31, 0⟩
/-- ENG_RREF_TQ (10_current_loop.md). -/
def ENG_RREF_TQ (a : Nat) : Nat := 0x401100D0 + 0x1000 * a
/-- ENG_RREF_TQ.V[15:0], RO. -/
def ENG_RREF_TQ_V (a : Nat) : Fld := ⟨ENG_RREF_TQ a, 15, 0⟩
/-- ENG_IDQ (10_current_loop.md). -/
def ENG_IDQ (a : Nat) : Nat := 0x401100D4 + 0x1000 * a
/-- ENG_IDQ.IQ[31:16], RO. -/
def ENG_IDQ_IQ (a : Nat) : Fld := ⟨ENG_IDQ a, 31, 16⟩
/-- ENG_IDQ.ID[15:0], RO. -/
def ENG_IDQ_ID (a : Nat) : Fld := ⟨ENG_IDQ a, 15, 0⟩
/-- ENG_UDC (10_current_loop.md). -/
def ENG_UDC (a : Nat) : Nat := 0x401100D8 + 0x1000 * a
/-- ENG_UDC.V[15:0], RO. -/
def ENG_UDC_V (a : Nat) : Fld := ⟨ENG_UDC a, 15, 0⟩
/-- ENG_SPD (10_current_loop.md). -/
def ENG_SPD (a : Nat) : Nat := 0x401100DC + 0x1000 * a
/-- ENG_SPD.V[31:0], RO. -/
def ENG_SPD_V (a : Nat) : Fld := ⟨ENG_SPD a, 31, 0⟩
/-- ENG_TDEM (10_current_loop.md). -/
def ENG_TDEM (a : Nat) : Nat := 0x401100E0 + 0x1000 * a
/-- ENG_TDEM.T[31:16], RO. -/
def ENG_TDEM_T (a : Nat) : Fld := ⟨ENG_TDEM a, 31, 16⟩
/-- ENG_TDEM.ACT[15:0], RO. -/
def ENG_TDEM_ACT (a : Nat) : Fld := ⟨ENG_TDEM a, 15, 0⟩
/-- ENG_STAT (10_current_loop.md). -/
def ENG_STAT (a : Nat) : Nat := 0x401100E4 + 0x1000 * a
/-- ENG_STAT.EDGES[31:31], RO. -/
def ENG_STAT_EDGES (a : Nat) : Fld := ⟨ENG_STAT a, 31, 31⟩
/-- ENG_STAT.PRECHG[30:30], RO. -/
def ENG_STAT_PRECHG (a : Nat) : Fld := ⟨ENG_STAT a, 30, 30⟩
/-- ENG_STAT.DEGRADED[29:29], RO. -/
def ENG_STAT_DEGRADED (a : Nat) : Fld := ⟨ENG_STAT a, 29, 29⟩
/-- ENG_STAT.HALF[28:28], RO. -/
def ENG_STAT_HALF (a : Nat) : Fld := ⟨ENG_STAT a, 28, 28⟩
/-- ENG_STAT.LIMIT[27:27], RO. -/
def ENG_STAT_LIMIT (a : Nat) : Fld := ⟨ENG_STAT a, 27, 27⟩
/-- ENG_STAT.DEGPH[18:16], RO. -/
def ENG_STAT_DEGPH (a : Nat) : Fld := ⟨ENG_STAT a, 18, 16⟩
/-- ENG_STAT.CFGREF[0:0], W1C. -/
def ENG_STAT_CFGREF (a : Nat) : Fld := ⟨ENG_STAT a, 0, 0⟩
/-- ENG_FAULT (10_current_loop.md). -/
def ENG_FAULT (a : Nat) : Nat := 0x401100E8 + 0x1000 * a
/-- ENG_FAULT.FIRST[31:24], RO. -/
def ENG_FAULT_FIRST (a : Nat) : Fld := ⟨ENG_FAULT a, 31, 24⟩
/-- ENG_FAULT.MAP[13:1], RO. -/
def ENG_FAULT_MAP (a : Nat) : Fld := ⟨ENG_FAULT a, 13, 1⟩
/-- ENG_SCHED (10_current_loop.md). -/
def ENG_SCHED (a : Nat) : Nat := 0x401100EC + 0x1000 * a
/-- ENG_SCHED.SLIPS[31:16], RO. -/
def ENG_SCHED_SLIPS (a : Nat) : Fld := ⟨ENG_SCHED a, 31, 16⟩
/-- ENG_SCHED.MAXSLIP[15:8], RO. -/
def ENG_SCHED_MAXSLIP (a : Nat) : Fld := ⟨ENG_SCHED a, 15, 8⟩
/-- ENG_SCHED.QPEAK[7:0], RO. -/
def ENG_SCHED_QPEAK (a : Nat) : Fld := ⟨ENG_SCHED a, 7, 0⟩
/-- ENG_CYCCNT (10_current_loop.md). -/
def ENG_CYCCNT (a : Nat) : Nat := 0x401100F0 + 0x1000 * a
/-- ENG_CYCCNT.V[31:0], RO. -/
def ENG_CYCCNT_V (a : Nat) : Fld := ⟨ENG_CYCCNT a, 31, 0⟩
/-- ENG_CTRL (10_current_loop.md). -/
def ENG_CTRL (a : Nat) : Nat := 0x401100F4 + 0x1000 * a
/-- ENG_CTRL.CLRSCHED[1:1], WO. -/
def ENG_CTRL_CLRSCHED (a : Nat) : Fld := ⟨ENG_CTRL a, 1, 1⟩
/-- ENG_CTRL.CLRDEG[0:0], WO. -/
def ENG_CTRL_CLRDEG (a : Nat) : Fld := ⟨ENG_CTRL a, 0, 0⟩
/-- ENG_MARGIN (10_current_loop.md). -/
def ENG_MARGIN (a : Nat) : Nat := 0x401100F8 + 0x1000 * a
/-- ENG_MARGIN.V[15:0], RO. -/
def ENG_MARGIN_V (a : Nat) : Fld := ⟨ENG_MARGIN a, 15, 0⟩
/-- ENG_TAVAIL (10_current_loop.md). -/
def ENG_TAVAIL (a : Nat) : Nat := 0x401100FC + 0x1000 * a
/-- ENG_TAVAIL.V[15:0], RO. -/
def ENG_TAVAIL_V (a : Nat) : Fld := ⟨ENG_TAVAIL a, 15, 0⟩

/-! Registers of block MOD: 10_current_loop.md. -/

/-- MOD_CFG (10_current_loop.md). -/
def MOD_CFG (c : Nat) : Nat := 0x40120000 + 0x10 * c
/-- MOD_CFG.EN[31:31], RW. -/
def MOD_CFG_EN (c : Nat) : Fld := ⟨MOD_CFG c, 31, 31⟩
/-- MOD_CFG.AXIS[26:24], RW. -/
def MOD_CFG_AXIS (c : Nat) : Fld := ⟨MOD_CFG c, 26, 24⟩
/-- MOD_CFG.ROLE[22:20], RW. -/
def MOD_CFG_ROLE (c : Nat) : Fld := ⟨MOD_CFG c, 22, 20⟩
/-- MOD_CAL (10_current_loop.md). -/
def MOD_CAL (c : Nat) : Nat := 0x40120004 + 0x10 * c
/-- MOD_CAL.GAIN[31:16], RW. -/
def MOD_CAL_GAIN (c : Nat) : Fld := ⟨MOD_CAL c, 31, 16⟩
/-- MOD_CAL.OFFSET[15:0], RW. -/
def MOD_CAL_OFFSET (c : Nat) : Fld := ⟨MOD_CAL c, 15, 0⟩
/-- MOD_VAL (10_current_loop.md). -/
def MOD_VAL (c : Nat) : Nat := 0x40120008 + 0x10 * c
/-- MOD_VAL.VAL[15:0], RO. -/
def MOD_VAL_VAL (c : Nat) : Fld := ⟨MOD_VAL c, 15, 0⟩
/-- MOD_STAT (10_current_loop.md). -/
def MOD_STAT (c : Nat) : Nat := 0x4012000C + 0x10 * c
/-- MOD_STAT.OVR[2:2], W1C. -/
def MOD_STAT_OVR (c : Nat) : Fld := ⟨MOD_STAT c, 2, 2⟩
/-- MOD_STAT.STUCK[1:1], W1C. -/
def MOD_STAT_STUCK (c : Nat) : Fld := ⟨MOD_STAT c, 1, 1⟩
/-- MOD_STAT.ACTIVE[0:0], RO. -/
def MOD_STAT_ACTIVE (c : Nat) : Fld := ⟨MOD_STAT c, 0, 0⟩
/-- MOD_AX (10_current_loop.md). -/
def MOD_AX (a : Nat) : Nat := 0x40120400 + 0x4 * a
/-- MOD_AX.EN[31:31], RW. -/
def MOD_AX_EN (a : Nat) : Fld := ⟨MOD_AX a, 31, 31⟩
/-- MOD_AX.OSR[25:24], RW. -/
def MOD_AX_OSR (a : Nat) : Fld := ⟨MOD_AX a, 25, 24⟩
/-- MOD_AX.SOFS[21:12], RW. -/
def MOD_AX_SOFS (a : Nat) : Fld := ⟨MOD_AX a, 21, 12⟩
/-- MOD_AX.MDIV[7:0], RW. -/
def MOD_AX_MDIV (a : Nat) : Fld := ⟨MOD_AX a, 7, 0⟩
/-- MOD_CAPCFG (10_current_loop.md). -/
def MOD_CAPCFG : Nat := 0x40120500
/-- MOD_CAPCFG.EN[31:31], RW. -/
def MOD_CAPCFG_EN : Fld := ⟨MOD_CAPCFG, 31, 31⟩
/-- MOD_CAPCFG.AXIS[26:24], RW. -/
def MOD_CAPCFG_AXIS : Fld := ⟨MOD_CAPCFG, 26, 24⟩
/-- MOD_CAPPOP (10_current_loop.md). -/
def MOD_CAPPOP : Nat := 0x40120504
/-- MOD_CAPPOP.CH[31:26], RO. -/
def MOD_CAPPOP_CH : Fld := ⟨MOD_CAPPOP, 31, 26⟩
/-- MOD_CAPPOP.VAL[15:0], RO. -/
def MOD_CAPPOP_VAL : Fld := ⟨MOD_CAPPOP, 15, 0⟩
/-- MOD_CAPLVL (10_current_loop.md). -/
def MOD_CAPLVL : Nat := 0x40120508
/-- MOD_CAPLVL.LVL[8:0], RO. -/
def MOD_CAPLVL_LVL : Fld := ⟨MOD_CAPLVL, 8, 0⟩

/-! Registers of block FB: 11_lynx_feedback.md. -/

/-- FB_TIME_LO (11_lynx_feedback.md). -/
def FB_TIME_LO : Nat := 0x40130000
/-- FB_TIME_LO.V[31:0], RO. -/
def FB_TIME_LO_V : Fld := ⟨FB_TIME_LO, 31, 0⟩
/-- FB_TIME_HI (11_lynx_feedback.md). -/
def FB_TIME_HI : Nat := 0x40130004
/-- FB_TIME_HI.V[31:0], RO. -/
def FB_TIME_HI_V : Fld := ⟨FB_TIME_HI, 31, 0⟩
/-- FB_TAP (11_lynx_feedback.md). -/
def FB_TAP (i : Nat) : Nat := 0x40130008 + 0x4 * i
/-- FB_TAP.EN[31:31], RO. -/
def FB_TAP_EN (i : Nat) : Fld := ⟨FB_TAP i, 31, 31⟩
/-- FB_TAP.NOEST[30:30], RO. -/
def FB_TAP_NOEST (i : Nat) : Fld := ⟨FB_TAP i, 30, 30⟩
/-- FB_TAP.WARN[29:29], W1C. -/
def FB_TAP_WARN (i : Nat) : Fld := ⟨FB_TAP i, 29, 29⟩
/-- FB_TAP.SRC[15:8], RO. -/
def FB_TAP_SRC (i : Nat) : Fld := ⟨FB_TAP i, 15, 8⟩
/-- FB_TAPF (11_lynx_feedback.md). -/
def FB_TAPF (i : Nat) : Nat := 0x40130010 + 0x4 * i
/-- FB_TAPF.HZ[23:0], RO. -/
def FB_TAPF_HZ (i : Nat) : Fld := ⟨FB_TAPF i, 23, 0⟩
/-- FB_TAPWARN (11_lynx_feedback.md). -/
def FB_TAPWARN : Nat := 0x40130018
/-- FB_TAPWARN.HZ[23:0], RW. -/
def FB_TAPWARN_HZ : Fld := ⟨FB_TAPWARN, 23, 0⟩
/-- FB_SPDSW (11_lynx_feedback.md). -/
def FB_SPDSW : Nat := 0x4013001C
/-- FB_SPDSW.V[7:0], W1C. -/
def FB_SPDSW_V : Fld := ⟨FB_SPDSW, 7, 0⟩
/-- FB_LOSS (11_lynx_feedback.md). -/
def FB_LOSS : Nat := 0x40130020
/-- FB_LOSS.SSI[19:16], RO. -/
def FB_LOSS_SSI : Fld := ⟨FB_LOSS, 19, 16⟩
/-- FB_LOSS.HALL[15:8], RO. -/
def FB_LOSS_HALL : Fld := ⟨FB_LOSS, 15, 8⟩
/-- FB_LOSS.INC[7:0], RO. -/
def FB_LOSS_INC : Fld := ⟨FB_LOSS, 7, 0⟩
/-- FB_STAT (11_lynx_feedback.md). -/
def FB_STAT : Nat := 0x40130024
/-- FB_STAT.CAPDROP[31:16], RO. -/
def FB_STAT_CAPDROP : Fld := ⟨FB_STAT, 31, 16⟩
/-- FB_STAT.CFGREF[0:0], W1C. -/
def FB_STAT_CFGREF : Fld := ⟨FB_STAT, 0, 0⟩
/-- FB_CAPCFG (11_lynx_feedback.md). -/
def FB_CAPCFG : Nat := 0x40130030
/-- FB_CAPCFG.EN[31:31], RW. -/
def FB_CAPCFG_EN : Fld := ⟨FB_CAPCFG, 31, 31⟩
/-- FB_CAPCFG.CODE[7:0], RW. -/
def FB_CAPCFG_CODE : Fld := ⟨FB_CAPCFG, 7, 0⟩
/-- FB_CAPPOP (11_lynx_feedback.md). -/
def FB_CAPPOP : Nat := 0x40130034
/-- FB_CAPPOP.V[31:0], RO. -/
def FB_CAPPOP_V : Fld := ⟨FB_CAPPOP, 31, 0⟩
/-- FB_CAPLVL (11_lynx_feedback.md). -/
def FB_CAPLVL : Nat := 0x40130038
/-- FB_CAPLVL.V[8:0], RO. -/
def FB_CAPLVL_V : Fld := ⟨FB_CAPLVL, 8, 0⟩
/-- INC_CFG (11_lynx_feedback.md). -/
def INC_CFG (n : Nat) : Nat := 0x40130100 + 0x80 * n
/-- INC_CFG.EN[31:31], RW. -/
def INC_CFG_EN (n : Nat) : Fld := ⟨INC_CFG n, 31, 31⟩
/-- INC_CFG.INV[30:30], RW. -/
def INC_CFG_INV (n : Nat) : Fld := ⟨INC_CFG n, 30, 30⟩
/-- INC_CFG.ZGATE[29:29], RW. -/
def INC_CFG_ZGATE (n : Nat) : Fld := ⟨INC_CFG n, 29, 29⟩
/-- INC_CFG.EXTRAP[28:28], RW. -/
def INC_CFG_EXTRAP (n : Nat) : Fld := ⟨INC_CFG n, 28, 28⟩
/-- INC_CFG.POLICY[25:24], RW. -/
def INC_CFG_POLICY (n : Nat) : Fld := ⟨INC_CFG n, 25, 24⟩
/-- INC_CFG.ILLIM[15:8], RW. -/
def INC_CFG_ILLIM (n : Nat) : Fld := ⟨INC_CFG n, 15, 8⟩
/-- INC_CFG.FILT[7:0], RW. -/
def INC_CFG_FILT (n : Nat) : Fld := ⟨INC_CFG n, 7, 0⟩
/-- INC_CPR (11_lynx_feedback.md). -/
def INC_CPR (n : Nat) : Nat := 0x40130104 + 0x80 * n
/-- INC_CPR.CPR[20:0], RW. -/
def INC_CPR_CPR (n : Nat) : Fld := ⟨INC_CPR n, 20, 0⟩
/-- INC_CNT (11_lynx_feedback.md). -/
def INC_CNT (n : Nat) : Nat := 0x40130108 + 0x80 * n
/-- INC_CNT.V[31:0], RW. -/
def INC_CNT_V (n : Nat) : Fld := ⟨INC_CNT n, 31, 0⟩
/-- INC_REF (11_lynx_feedback.md). -/
def INC_REF (n : Nat) : Nat := 0x4013010C + 0x80 * n
/-- INC_REF.V[20:0], RW. -/
def INC_REF_V (n : Nat) : Fld := ⟨INC_REF n, 20, 0⟩
/-- INC_IDXLIM (11_lynx_feedback.md). -/
def INC_IDXLIM (n : Nat) : Nat := 0x40130110 + 0x80 * n
/-- INC_IDXLIM.MAXSTEP[31:16], RW. -/
def INC_IDXLIM_MAXSTEP (n : Nat) : Fld := ⟨INC_IDXLIM n, 31, 16⟩
/-- INC_IDXLIM.TOL[15:0], RW. -/
def INC_IDXLIM_TOL (n : Nat) : Fld := ⟨INC_IDXLIM n, 15, 0⟩
/-- INC_IDXCNT (11_lynx_feedback.md). -/
def INC_IDXCNT (n : Nat) : Nat := 0x40130114 + 0x80 * n
/-- INC_IDXCNT.V[31:0], RO. -/
def INC_IDXCNT_V (n : Nat) : Fld := ⟨INC_IDXCNT n, 31, 0⟩
/-- INC_IDXDEV (11_lynx_feedback.md). -/
def INC_IDXDEV (n : Nat) : Nat := 0x40130118 + 0x80 * n
/-- INC_IDXDEV.V[31:0], RO. -/
def INC_IDXDEV_V (n : Nat) : Fld := ⟨INC_IDXDEV n, 31, 0⟩
/-- INC_IDXSTAT (11_lynx_feedback.md). -/
def INC_IDXSTAT (n : Nat) : Nat := 0x4013011C + 0x80 * n
/-- INC_IDXSTAT.IDXN[31:24], RO. -/
def INC_IDXSTAT_IDXN (n : Nat) : Fld := ⟨INC_IDXSTAT n, 31, 24⟩
/-- INC_IDXSTAT.DEVN[23:16], RO. -/
def INC_IDXSTAT_DEVN (n : Nat) : Fld := ⟨INC_IDXSTAT n, 23, 16⟩
/-- INC_IDXSTAT.CORRN[15:8], RO. -/
def INC_IDXSTAT_CORRN (n : Nat) : Fld := ⟨INC_IDXSTAT n, 15, 8⟩
/-- INC_IDXSTAT.ILLIDX[4:4], RO. -/
def INC_IDXSTAT_ILLIDX (n : Nat) : Fld := ⟨INC_IDXSTAT n, 4, 4⟩
/-- INC_IDXSTAT.REFSET[3:3], RO. -/
def INC_IDXSTAT_REFSET (n : Nat) : Fld := ⟨INC_IDXSTAT n, 3, 3⟩
/-- INC_IDXSTAT.LOCKED[2:2], RO. -/
def INC_IDXSTAT_LOCKED (n : Nat) : Fld := ⟨INC_IDXSTAT n, 2, 2⟩
/-- INC_IDXSTAT.OVERSTEP[1:1], RO. -/
def INC_IDXSTAT_OVERSTEP (n : Nat) : Fld := ⟨INC_IDXSTAT n, 1, 1⟩
/-- INC_IDXSTAT.CORR[0:0], RO. -/
def INC_IDXSTAT_CORR (n : Nat) : Fld := ⟨INC_IDXSTAT n, 0, 0⟩
/-- INC_CORRSUM (11_lynx_feedback.md). -/
def INC_CORRSUM (n : Nat) : Nat := 0x40130120 + 0x80 * n
/-- INC_CORRSUM.V[31:0], RO. -/
def INC_CORRSUM_V (n : Nat) : Fld := ⟨INC_CORRSUM n, 31, 0⟩
/-- INC_ERRCNT (11_lynx_feedback.md). -/
def INC_ERRCNT (n : Nat) : Nat := 0x40130124 + 0x80 * n
/-- INC_ERRCNT.WFCNT[31:16], RO. -/
def INC_ERRCNT_WFCNT (n : Nat) : Fld := ⟨INC_ERRCNT n, 31, 16⟩
/-- INC_ERRCNT.ILLCNT[15:0], RO. -/
def INC_ERRCNT_ILLCNT (n : Nat) : Fld := ⟨INC_ERRCNT n, 15, 0⟩
/-- INC_STAT (11_lynx_feedback.md). -/
def INC_STAT (n : Nat) : Nat := 0x40130128 + 0x80 * n
/-- INC_STAT.LOSS[31:31], RO. -/
def INC_STAT_LOSS (n : Nat) : Fld := ⟨INC_STAT n, 31, 31⟩
/-- INC_STAT.MODE[30:30], RO. -/
def INC_STAT_MODE (n : Nat) : Fld := ⟨INC_STAT n, 30, 30⟩
/-- INC_STAT.STILL[29:29], RO. -/
def INC_STAT_STILL (n : Nat) : Fld := ⟨INC_STAT n, 29, 29⟩
/-- INC_STAT.DIR[28:28], RO. -/
def INC_STAT_DIR (n : Nat) : Fld := ⟨INC_STAT n, 28, 28⟩
/-- INC_STAT.WFLIVE[6:4], RO. -/
def INC_STAT_WFLIVE (n : Nat) : Fld := ⟨INC_STAT n, 6, 4⟩
/-- INC_STAT.INDEXDEV[3:3], W1C. -/
def INC_STAT_INDEXDEV (n : Nat) : Fld := ⟨INC_STAT n, 3, 3⟩
/-- INC_STAT.INDEX[2:2], W1C. -/
def INC_STAT_INDEX (n : Nat) : Fld := ⟨INC_STAT n, 2, 2⟩
/-- INC_STAT.ILLEGAL[1:1], W1C. -/
def INC_STAT_ILLEGAL (n : Nat) : Fld := ⟨INC_STAT n, 1, 1⟩
/-- INC_STAT.WIREFAULT[0:0], W1C. -/
def INC_STAT_WIREFAULT (n : Nat) : Fld := ⟨INC_STAT n, 0, 0⟩
/-- INC_ANG (11_lynx_feedback.md). -/
def INC_ANG (n : Nat) : Nat := 0x4013012C + 0x80 * n
/-- INC_ANG.V[15:0], RO. -/
def INC_ANG_V (n : Nat) : Fld := ⟨INC_ANG n, 15, 0⟩
/-- INC_FREQ (11_lynx_feedback.md). -/
def INC_FREQ (n : Nat) : Nat := 0x40130130 + 0x80 * n
/-- INC_FREQ.V[31:0], RO. -/
def INC_FREQ_V (n : Nat) : Fld := ⟨INC_FREQ n, 31, 0⟩
/-- INC_SPD (11_lynx_feedback.md). -/
def INC_SPD (n : Nat) : Nat := 0x40130134 + 0x80 * n
/-- INC_SPD.V[31:0], RO. -/
def INC_SPD_V (n : Nat) : Fld := ⟨INC_SPD n, 31, 0⟩
/-- INC_TS (11_lynx_feedback.md). -/
def INC_TS (n : Nat) (i : Nat) : Nat := 0x40130138 + 0x80 * n + 0x4 * i
/-- INC_TS.V[31:0], RO. -/
def INC_TS_V (n : Nat) (i : Nat) : Fld := ⟨INC_TS n i, 31, 0⟩
/-- INC_IDXTS (11_lynx_feedback.md). -/
def INC_IDXTS (n : Nat) (i : Nat) : Nat := 0x40130140 + 0x80 * n + 0x4 * i
/-- INC_IDXTS.V[31:0], RO. -/
def INC_IDXTS_V (n : Nat) (i : Nat) : Fld := ⟨INC_IDXTS n i, 31, 0⟩
/-- INC_SPDCFG (11_lynx_feedback.md). -/
def INC_SPDCFG (n : Nat) : Nat := 0x40130148 + 0x80 * n
/-- INC_SPDCFG.FUP[31:16], RW. -/
def INC_SPDCFG_FUP (n : Nat) : Fld := ⟨INC_SPDCFG n, 31, 16⟩
/-- INC_SPDCFG.FDN[15:0], RW. -/
def INC_SPDCFG_FDN (n : Nat) : Fld := ⟨INC_SPDCFG n, 15, 0⟩
/-- INC_SPDCFG2 (11_lynx_feedback.md). -/
def INC_SPDCFG2 (n : Nat) : Nat := 0x4013014C + 0x80 * n
/-- INC_SPDCFG2.PMAVG[31:30], RW. -/
def INC_SPDCFG2_PMAVG (n : Nat) : Fld := ⟨INC_SPDCFG2 n, 31, 30⟩
/-- INC_SPDCFG2.TSTOP[29:16], RW. -/
def INC_SPDCFG2_TSTOP (n : Nat) : Fld := ⟨INC_SPDCFG2 n, 29, 16⟩
/-- INC_SPDCFG2.WIN[9:0], RW. -/
def INC_SPDCFG2_WIN (n : Nat) : Fld := ⟨INC_SPDCFG2 n, 9, 0⟩
/-- INC_CTRL (11_lynx_feedback.md). -/
def INC_CTRL (n : Nat) : Nat := 0x40130150 + 0x80 * n
/-- INC_CTRL.ARMREF[4:4], WO. -/
def INC_CTRL_ARMREF (n : Nat) : Fld := ⟨INC_CTRL n, 4, 4⟩
/-- INC_CTRL.CLRLOSS[3:3], WO. -/
def INC_CTRL_CLRLOSS (n : Nat) : Fld := ⟨INC_CTRL n, 3, 3⟩
/-- INC_CTRL.CLRLOCK[2:2], WO. -/
def INC_CTRL_CLRLOCK (n : Nat) : Fld := ⟨INC_CTRL n, 2, 2⟩
/-- INC_CTRL.CLRERR[1:1], WO. -/
def INC_CTRL_CLRERR (n : Nat) : Fld := ⟨INC_CTRL n, 1, 1⟩
/-- INC_CTRL.CLRIDX[0:0], WO. -/
def INC_CTRL_CLRIDX (n : Nat) : Fld := ⟨INC_CTRL n, 0, 0⟩
/-- HALL_CFG (11_lynx_feedback.md). -/
def HALL_CFG (h : Nat) : Nat := 0x40130600 + 0x40 * h
/-- HALL_CFG.EN[31:31], RW. -/
def HALL_CFG_EN (h : Nat) : Fld := ⟨HALL_CFG h, 31, 31⟩
/-- HALL_CFG.INV[30:30], RW. -/
def HALL_CFG_INV (h : Nat) : Fld := ⟨HALL_CFG h, 30, 30⟩
/-- HALL_CFG.INTERP[29:29], RW. -/
def HALL_CFG_INTERP (h : Nat) : Fld := ⟨HALL_CFG h, 29, 29⟩
/-- HALL_CFG.PP[23:16], RW. -/
def HALL_CFG_PP (h : Nat) : Fld := ⟨HALL_CFG h, 23, 16⟩
/-- HALL_CFG.ILLIM[15:8], RW. -/
def HALL_CFG_ILLIM (h : Nat) : Fld := ⟨HALL_CFG h, 15, 8⟩
/-- HALL_CFG.FILT[7:0], RW. -/
def HALL_CFG_FILT (h : Nat) : Fld := ⟨HALL_CFG h, 7, 0⟩
/-- HALL_CNT (11_lynx_feedback.md). -/
def HALL_CNT (h : Nat) : Nat := 0x40130604 + 0x40 * h
/-- HALL_CNT.V[31:0], RW. -/
def HALL_CNT_V (h : Nat) : Fld := ⟨HALL_CNT h, 31, 0⟩
/-- HALL_STATE (11_lynx_feedback.md). -/
def HALL_STATE (h : Nat) : Nat := 0x40130608 + 0x40 * h
/-- HALL_STATE.SECTOR[6:4], RO. -/
def HALL_STATE_SECTOR (h : Nat) : Fld := ⟨HALL_STATE h, 6, 4⟩
/-- HALL_STATE.UVW[2:0], RO. -/
def HALL_STATE_UVW (h : Nat) : Fld := ⟨HALL_STATE h, 2, 0⟩
/-- HALL_STAT (11_lynx_feedback.md). -/
def HALL_STAT (h : Nat) : Nat := 0x4013060C + 0x40 * h
/-- HALL_STAT.LOSS[31:31], RO. -/
def HALL_STAT_LOSS (h : Nat) : Fld := ⟨HALL_STAT h, 31, 31⟩
/-- HALL_STAT.STILL[29:29], RO. -/
def HALL_STAT_STILL (h : Nat) : Fld := ⟨HALL_STAT h, 29, 29⟩
/-- HALL_STAT.DIR[28:28], RO. -/
def HALL_STAT_DIR (h : Nat) : Fld := ⟨HALL_STAT h, 28, 28⟩
/-- HALL_STAT.WFLIVE[6:4], RO. -/
def HALL_STAT_WFLIVE (h : Nat) : Fld := ⟨HALL_STAT h, 6, 4⟩
/-- HALL_STAT.ILLEGAL[1:1], W1C. -/
def HALL_STAT_ILLEGAL (h : Nat) : Fld := ⟨HALL_STAT h, 1, 1⟩
/-- HALL_STAT.WIREFAULT[0:0], W1C. -/
def HALL_STAT_WIREFAULT (h : Nat) : Fld := ⟨HALL_STAT h, 0, 0⟩
/-- HALL_ERRCNT (11_lynx_feedback.md). -/
def HALL_ERRCNT (h : Nat) : Nat := 0x40130610 + 0x40 * h
/-- HALL_ERRCNT.WFCNT[31:16], RO. -/
def HALL_ERRCNT_WFCNT (h : Nat) : Fld := ⟨HALL_ERRCNT h, 31, 16⟩
/-- HALL_ERRCNT.ILLCNT[15:0], RO. -/
def HALL_ERRCNT_ILLCNT (h : Nat) : Fld := ⟨HALL_ERRCNT h, 15, 0⟩
/-- HALL_ANG (11_lynx_feedback.md). -/
def HALL_ANG (h : Nat) : Nat := 0x40130614 + 0x40 * h
/-- HALL_ANG.V[15:0], RO. -/
def HALL_ANG_V (h : Nat) : Fld := ⟨HALL_ANG h, 15, 0⟩
/-- HALL_FREQ (11_lynx_feedback.md). -/
def HALL_FREQ (h : Nat) : Nat := 0x40130618 + 0x40 * h
/-- HALL_FREQ.V[31:0], RO. -/
def HALL_FREQ_V (h : Nat) : Fld := ⟨HALL_FREQ h, 31, 0⟩
/-- HALL_SPD (11_lynx_feedback.md). -/
def HALL_SPD (h : Nat) : Nat := 0x4013061C + 0x40 * h
/-- HALL_SPD.V[31:0], RO. -/
def HALL_SPD_V (h : Nat) : Fld := ⟨HALL_SPD h, 31, 0⟩
/-- HALL_TS (11_lynx_feedback.md). -/
def HALL_TS (h : Nat) (i : Nat) : Nat := 0x40130620 + 0x40 * h + 0x4 * i
/-- HALL_TS.V[31:0], RO. -/
def HALL_TS_V (h : Nat) (i : Nat) : Fld := ⟨HALL_TS h i, 31, 0⟩
/-- HALL_SPDCFG (11_lynx_feedback.md). -/
def HALL_SPDCFG (h : Nat) : Nat := 0x40130628 + 0x40 * h
/-- HALL_SPDCFG.TSTOP[29:16], RW. -/
def HALL_SPDCFG_TSTOP (h : Nat) : Fld := ⟨HALL_SPDCFG h, 29, 16⟩
/-- HALL_CTRL (11_lynx_feedback.md). -/
def HALL_CTRL (h : Nat) : Nat := 0x4013062C + 0x40 * h
/-- HALL_CTRL.CLRLOSS[3:3], WO. -/
def HALL_CTRL_CLRLOSS (h : Nat) : Fld := ⟨HALL_CTRL h, 3, 3⟩
/-- HALL_CTRL.CLRERR[1:1], WO. -/
def HALL_CTRL_CLRERR (h : Nat) : Fld := ⟨HALL_CTRL h, 1, 1⟩
/-- SSI_CFG (11_lynx_feedback.md). -/
def SSI_CFG (s : Nat) : Nat := 0x40130800 + 0x40 * s
/-- SSI_CFG.EN[31:31], RW. -/
def SSI_CFG_EN (s : Nat) : Fld := ⟨SSI_CFG s, 31, 31⟩
/-- SSI_CFG.GRAY[30:30], RW. -/
def SSI_CFG_GRAY (s : Nat) : Fld := ⟨SSI_CFG s, 30, 30⟩
/-- SSI_CFG.PAR[29:28], RW. -/
def SSI_CFG_PAR (s : Nat) : Fld := ⟨SSI_CFG s, 29, 28⟩
/-- SSI_CFG.ERRBIT[27:27], RW. -/
def SSI_CFG_ERRBIT (s : Nat) : Fld := ⟨SSI_CFG s, 27, 27⟩
/-- SSI_CFG.TRIG[26:26], RW. -/
def SSI_CFG_TRIG (s : Nat) : Fld := ⟨SSI_CFG s, 26, 26⟩
/-- SSI_CFG.TRIGAX[25:23], RW. -/
def SSI_CFG_TRIGAX (s : Nat) : Fld := ⟨SSI_CFG s, 25, 23⟩
/-- SSI_CFG.NBITS1[20:16], RW. -/
def SSI_CFG_NBITS1 (s : Nat) : Fld := ⟨SSI_CFG s, 20, 16⟩
/-- SSI_CFG.STBITS[12:8], RW. -/
def SSI_CFG_STBITS (s : Nat) : Fld := ⟨SSI_CFG s, 12, 8⟩
/-- SSI_CFG.DLY[7:0], RW. -/
def SSI_CFG_DLY (s : Nat) : Fld := ⟨SSI_CFG s, 7, 0⟩
/-- SSI_CLK (11_lynx_feedback.md). -/
def SSI_CLK (s : Nat) : Nat := 0x40130804 + 0x40 * s
/-- SSI_CLK.PER[29:16], RW. -/
def SSI_CLK_PER (s : Nat) : Fld := ⟨SSI_CLK s, 29, 16⟩
/-- SSI_CLK.SDIV[10:0], RW. -/
def SSI_CLK_SDIV (s : Nat) : Fld := ⟨SSI_CLK s, 10, 0⟩
/-- SSI_CFG2 (11_lynx_feedback.md). -/
def SSI_CFG2 (s : Nat) : Nat := 0x40130808 + 0x40 * s
/-- SSI_CFG2.ERRLIM[31:24], RW. -/
def SSI_CFG2_ERRLIM (s : Nat) : Fld := ⟨SSI_CFG2 s, 31, 24⟩
/-- SSI_CFG2.TMON[23:16], RW. -/
def SSI_CFG2_TMON (s : Nat) : Fld := ⟨SSI_CFG2 s, 23, 16⟩
/-- SSI_CFG2.TSTOP[13:0], RW. -/
def SSI_CFG2_TSTOP (s : Nat) : Fld := ⟨SSI_CFG2 s, 13, 0⟩
/-- SSI_MAXSTEP (11_lynx_feedback.md). -/
def SSI_MAXSTEP (s : Nat) : Nat := 0x4013080C + 0x40 * s
/-- SSI_MAXSTEP.V[31:0], RW. -/
def SSI_MAXSTEP_V (s : Nat) : Fld := ⟨SSI_MAXSTEP s, 31, 0⟩
/-- SSI_POS (11_lynx_feedback.md). -/
def SSI_POS (s : Nat) : Nat := 0x40130810 + 0x40 * s
/-- SSI_POS.V[31:0], RO. -/
def SSI_POS_V (s : Nat) : Fld := ⟨SSI_POS s, 31, 0⟩
/-- SSI_STAT (11_lynx_feedback.md). -/
def SSI_STAT (s : Nat) : Nat := 0x40130814 + 0x40 * s
/-- SSI_STAT.LOSS[31:31], RO. -/
def SSI_STAT_LOSS (s : Nat) : Fld := ⟨SSI_STAT s, 31, 31⟩
/-- SSI_STAT.INREAD[30:30], RO. -/
def SSI_STAT_INREAD (s : Nat) : Fld := ⟨SSI_STAT s, 30, 30⟩
/-- SSI_STAT.CAUSE[11:8], RO. -/
def SSI_STAT_CAUSE (s : Nat) : Fld := ⟨SSI_STAT s, 11, 8⟩
/-- SSI_STAT.DATA[1:1], W1C. -/
def SSI_STAT_DATA (s : Nat) : Fld := ⟨SSI_STAT s, 1, 1⟩
/-- SSI_STAT.FRAMEERR[0:0], W1C. -/
def SSI_STAT_FRAMEERR (s : Nat) : Fld := ⟨SSI_STAT s, 0, 0⟩
/-- SSI_CNT (11_lynx_feedback.md). -/
def SSI_CNT (s : Nat) : Nat := 0x40130818 + 0x40 * s
/-- SSI_CNT.ERRCNT[31:16], RO. -/
def SSI_CNT_ERRCNT (s : Nat) : Fld := ⟨SSI_CNT s, 31, 16⟩
/-- SSI_CNT.SKIP[15:0], RO. -/
def SSI_CNT_SKIP (s : Nat) : Fld := ⟨SSI_CNT s, 15, 0⟩
/-- SSI_ANG (11_lynx_feedback.md). -/
def SSI_ANG (s : Nat) : Nat := 0x4013081C + 0x40 * s
/-- SSI_ANG.V[15:0], RO. -/
def SSI_ANG_V (s : Nat) : Fld := ⟨SSI_ANG s, 15, 0⟩
/-- SSI_SPD (11_lynx_feedback.md). -/
def SSI_SPD (s : Nat) : Nat := 0x40130820 + 0x40 * s
/-- SSI_SPD.V[31:0], RO. -/
def SSI_SPD_V (s : Nat) : Fld := ⟨SSI_SPD s, 31, 0⟩
/-- SSI_TS (11_lynx_feedback.md). -/
def SSI_TS (s : Nat) (i : Nat) : Nat := 0x40130824 + 0x40 * s + 0x4 * i
/-- SSI_TS.V[31:0], RO. -/
def SSI_TS_V (s : Nat) (i : Nat) : Fld := ⟨SSI_TS s i, 31, 0⟩
/-- SSI_CTRL (11_lynx_feedback.md). -/
def SSI_CTRL (s : Nat) : Nat := 0x4013082C + 0x40 * s
/-- SSI_CTRL.CLRLOSS[3:3], WO. -/
def SSI_CTRL_CLRLOSS (s : Nat) : Fld := ⟨SSI_CTRL s, 3, 3⟩
/-- SSI_CTRL.CLRERR[1:1], WO. -/
def SSI_CTRL_CLRERR (s : Nat) : Fld := ⟨SSI_CTRL s, 1, 1⟩
/-- SSI_CTRL.READ[0:0], WO. -/
def SSI_CTRL_READ (s : Nat) : Fld := ⟨SSI_CTRL s, 0, 0⟩

/-! Registers of block RING: 13_potrix_ring.md. -/

/-- RING_CFG (13_potrix_ring.md). -/
def RING_CFG : Nat := 0x40140000
/-- RING_CFG.ROLE[31:30], RW. -/
def RING_CFG_ROLE : Fld := ⟨RING_CFG, 31, 30⟩
/-- RING_CFG.RSTEN[29:29], RW. -/
def RING_CFG_RSTEN : Fld := ⟨RING_CFG, 29, 29⟩
/-- RING_CFG.MPRIO[19:16], RW. -/
def RING_CFG_MPRIO : Fld := ⟨RING_CFG, 19, 16⟩
/-- RING_CFG.CYC[7:0], RW. -/
def RING_CFG_CYC : Fld := ⟨RING_CFG, 7, 0⟩
/-- RING_CTRL (13_potrix_ring.md). -/
def RING_CTRL : Nat := 0x40140004
/-- RING_CTRL.CLRCNT[3:3], WO. -/
def RING_CTRL_CLRCNT : Fld := ⟨RING_CTRL, 3, 3⟩
/-- RING_CTRL.REJOIN[2:2], WO. -/
def RING_CTRL_REJOIN : Fld := ⟨RING_CTRL, 2, 2⟩
/-- RING_CTRL.DIS[1:1], WO. -/
def RING_CTRL_DIS : Fld := ⟨RING_CTRL, 1, 1⟩
/-- RING_CTRL.EN[0:0], WO. -/
def RING_CTRL_EN : Fld := ⟨RING_CTRL, 0, 0⟩
/-- RING_STAT (13_potrix_ring.md). -/
def RING_STAT : Nat := 0x40140008
/-- RING_STAT.STATE[31:29], RO. -/
def RING_STAT_STATE : Fld := ⟨RING_STAT, 31, 29⟩
/-- RING_STAT.MASTER[28:28], RO. -/
def RING_STAT_MASTER : Fld := ⟨RING_STAT, 28, 28⟩
/-- RING_STAT.SYNC[27:27], RO. -/
def RING_STAT_SYNC : Fld := ⟨RING_STAT, 27, 27⟩
/-- RING_STAT.LINKB[26:26], RO. -/
def RING_STAT_LINKB : Fld := ⟨RING_STAT, 26, 26⟩
/-- RING_STAT.LINKA[25:25], RO. -/
def RING_STAT_LINKA : Fld := ⟨RING_STAT, 25, 25⟩
/-- RING_STAT.RSTATE[24:24], RO. -/
def RING_STAT_RSTATE : Fld := ⟨RING_STAT, 24, 24⟩
/-- RING_STAT.MUNIT[17:12], RO. -/
def RING_STAT_MUNIT : Fld := ⟨RING_STAT, 17, 12⟩
/-- RING_STAT.OWN[11:0], RO. -/
def RING_STAT_OWN : Fld := ⟨RING_STAT, 11, 0⟩
/-- RING_EVT (13_potrix_ring.md). -/
def RING_EVT : Nat := 0x4014000C
/-- RING_EVT.EV[7:0], W1C. -/
def RING_EVT_EV : Fld := ⟨RING_EVT, 7, 0⟩
/-- RING_CT (13_potrix_ring.md). -/
def RING_CT (i : Nat) : Nat := 0x40140010 + 0x4 * i
/-- RING_CT.V[31:0], RO. -/
def RING_CT_V (i : Nat) : Fld := ⟨RING_CT i, 31, 0⟩
/-- RING_CAPCT (13_potrix_ring.md). -/
def RING_CAPCT (i : Nat) : Nat := 0x40140018 + 0x4 * i
/-- RING_CAPCT.V[31:0], RO. -/
def RING_CAPCT_V (i : Nat) : Fld := ⟨RING_CAPCT i, 31, 0⟩
/-- RING_CAPFB (13_potrix_ring.md). -/
def RING_CAPFB (i : Nat) : Nat := 0x40140020 + 0x4 * i
/-- RING_CAPFB.V[31:0], RO. -/
def RING_CAPFB_V (i : Nat) : Fld := ⟨RING_CAPFB i, 31, 0⟩
/-- RING_TERR (13_potrix_ring.md). -/
def RING_TERR : Nat := 0x40140028
/-- RING_TERR.E[31:0], RO. -/
def RING_TERR_E : Fld := ⟨RING_TERR, 31, 0⟩
/-- RING_DLY (13_potrix_ring.md). -/
def RING_DLY : Nat := 0x4014002C
/-- RING_DLY.B[31:16], RO. -/
def RING_DLY_B : Fld := ⟨RING_DLY, 31, 16⟩
/-- RING_DLY.A[15:0], RO. -/
def RING_DLY_A : Fld := ⟨RING_DLY, 15, 0⟩
/-- RING_CNT (13_potrix_ring.md). -/
def RING_CNT : Nat := 0x40140030
/-- RING_CNT.FCSERR[31:16], RO. -/
def RING_CNT_FCSERR : Fld := ⟨RING_CNT, 31, 16⟩
/-- RING_CNT.FOREIGN[15:0], RO. -/
def RING_CNT_FOREIGN : Fld := ⟨RING_CNT, 15, 0⟩
/-- RING_CNT2 (13_potrix_ring.md). -/
def RING_CNT2 : Nat := 0x40140034
/-- RING_CNT2.NAKTX[31:16], RO. -/
def RING_CNT2_NAKTX : Fld := ⟨RING_CNT2, 31, 16⟩
/-- RING_CNT2.NAKRX[15:0], RO. -/
def RING_CNT2_NAKRX : Fld := ⟨RING_CNT2, 15, 0⟩
/-- RING_CNT3 (13_potrix_ring.md). -/
def RING_CNT3 : Nat := 0x40140038
/-- RING_CNT3.TSTEPS[31:16], RO. -/
def RING_CNT3_TSTEPS : Fld := ⟨RING_CNT3, 31, 16⟩
/-- RING_CNT3.BREAKS[15:0], RO. -/
def RING_CNT3_BREAKS : Fld := ⟨RING_CNT3, 15, 0⟩
/-- RING_ERR (13_potrix_ring.md). -/
def RING_ERR : Nat := 0x4014003C
/-- RING_ERR.CYCMIS[1:1], W1C. -/
def RING_ERR_CYCMIS : Fld := ⟨RING_ERR, 1, 1⟩
/-- RING_ERR.CFGREF[0:0], W1C. -/
def RING_ERR_CFGREF : Fld := ⟨RING_ERR, 0, 0⟩
/-- RING_ROUTE (13_potrix_ring.md). -/
def RING_ROUTE (i : Nat) : Nat := 0x40140040 + 0x4 * i
/-- RING_ROUTE.V[31:0], RW. -/
def RING_ROUTE_V (i : Nat) : Fld := ⟨RING_ROUTE i, 31, 0⟩
/-- RING_BRT (13_potrix_ring.md). -/
def RING_BRT (i : Nat) : Nat := 0x40140048 + 0x4 * i
/-- RING_BRT.V[31:0], RW. -/
def RING_BRT_V (i : Nat) : Fld := ⟨RING_BRT i, 31, 0⟩
/-- RING_TXPUSH (13_potrix_ring.md). -/
def RING_TXPUSH : Nat := 0x40140050
/-- RING_TXPUSH.WORD[31:0], WO. -/
def RING_TXPUSH_WORD : Fld := ⟨RING_TXPUSH, 31, 0⟩
/-- RING_RXPOP (13_potrix_ring.md). -/
def RING_RXPOP : Nat := 0x40140054
/-- RING_RXPOP.WORD[31:0], RO. -/
def RING_RXPOP_WORD : Fld := ⟨RING_RXPOP, 31, 0⟩
/-- RING_FIFO (13_potrix_ring.md). -/
def RING_FIFO : Nat := 0x40140058
/-- RING_FIFO.TXFREE[25:16], RO. -/
def RING_FIFO_TXFREE : Fld := ⟨RING_FIFO, 25, 16⟩
/-- RING_FIFO.RXLVL[9:0], RO. -/
def RING_FIFO_RXLVL : Fld := ⟨RING_FIFO, 9, 0⟩
/-- GRP_CFG (13_potrix_ring.md). -/
def GRP_CFG (g : Nat) : Nat := 0x40140100 + 0x80 * g
/-- GRP_CFG.EN[31:31], RW. -/
def GRP_CFG_EN (g : Nat) : Fld := ⟨GRP_CFG g, 31, 31⟩
/-- GRP_CFG.NUNITS1[27:24], RW. -/
def GRP_CFG_NUNITS1 (g : Nat) : Fld := ⟨GRP_CFG g, 27, 24⟩
/-- GRP_CFG.TIEADDR[21:16], RW. -/
def GRP_CFG_TIEADDR (g : Nat) : Fld := ⟨GRP_CFG g, 21, 16⟩
/-- GRP_CFG.PER[15:8], RW. -/
def GRP_CFG_PER (g : Nat) : Fld := ⟨GRP_CFG g, 15, 8⟩
/-- GRP_CFG.SOFS[7:0], RW. -/
def GRP_CFG_SOFS (g : Nat) : Fld := ⟨GRP_CFG g, 7, 0⟩
/-- GRP_CFG2 (13_potrix_ring.md). -/
def GRP_CFG2 (g : Nat) : Nat := 0x40140104 + 0x80 * g
/-- GRP_CFG2.RAMP[31:16], RW. -/
def GRP_CFG2_RAMP (g : Nat) : Fld := ⟨GRP_CFG2 g, 31, 16⟩
/-- GRP_CFG2.JOINSTEP[15:8], RW. -/
def GRP_CFG2_JOINSTEP (g : Nat) : Fld := ⟨GRP_CFG2 g, 15, 8⟩
/-- GRP_CFG2.RSTEP[7:0], RW. -/
def GRP_CFG2_RSTEP (g : Nat) : Fld := ⟨GRP_CFG2 g, 7, 0⟩
/-- GRP_DROOP (13_potrix_ring.md). -/
def GRP_DROOP (g : Nat) : Nat := 0x40140108 + 0x80 * g
/-- GRP_DROOP.KD[31:16], RW. -/
def GRP_DROOP_KD (g : Nat) : Fld := ⟨GRP_DROOP g, 31, 16⟩
/-- GRP_DROOP.DLIM[15:0], RW. -/
def GRP_DROOP_DLIM (g : Nat) : Fld := ⟨GRP_DROOP g, 15, 0⟩
/-- GRP_DEM (13_potrix_ring.md). -/
def GRP_DEM (g : Nat) : Nat := 0x4014010C + 0x80 * g
/-- GRP_DEM.V[31:0], RW. -/
def GRP_DEM_V (g : Nat) : Fld := ⟨GRP_DEM g, 31, 0⟩
/-- GRP_STAT (13_potrix_ring.md). -/
def GRP_STAT (g : Nat) : Nat := 0x40140110 + 0x80 * g
/-- GRP_STAT.STATE[31:29], RO. -/
def GRP_STAT_STATE (g : Nat) : Fld := ⟨GRP_STAT g, 31, 29⟩
/-- GRP_STAT.REPEAT[28:28], RO. -/
def GRP_STAT_REPEAT (g : Nat) : Fld := ⟨GRP_STAT g, 28, 28⟩
/-- GRP_STAT.SAT[27:27], RO. -/
def GRP_STAT_SAT (g : Nat) : Fld := ⟨GRP_STAT g, 27, 27⟩
/-- GRP_STAT.QUORATE[26:26], RO. -/
def GRP_STAT_QUORATE (g : Nat) : Fld := ⟨GRP_STAT g, 26, 26⟩
/-- GRP_STAT.LEADER[21:16], RO. -/
def GRP_STAT_LEADER (g : Nat) : Fld := ⟨GRP_STAT g, 21, 16⟩
/-- GRP_STAT.PSEQ[15:0], RO. -/
def GRP_STAT_PSEQ (g : Nat) : Fld := ⟨GRP_STAT g, 15, 0⟩
/-- GRP_G (13_potrix_ring.md). -/
def GRP_G (g : Nat) : Nat := 0x40140114 + 0x80 * g
/-- GRP_G.V[31:0], RO. -/
def GRP_G_V (g : Nat) : Fld := ⟨GRP_G g, 31, 0⟩
/-- GRP_MEMB (13_potrix_ring.md). -/
def GRP_MEMB (g : Nat) : Nat := 0x40140118 + 0x80 * g
/-- GRP_MEMB.MEMBERS[15:8], RO. -/
def GRP_MEMB_MEMBERS (g : Nat) : Fld := ⟨GRP_MEMB g, 15, 8⟩
/-- GRP_MEMB.UNITS[7:0], RO. -/
def GRP_MEMB_UNITS (g : Nat) : Fld := ⟨GRP_MEMB g, 7, 0⟩
/-- GRP_CNT (13_potrix_ring.md). -/
def GRP_CNT (g : Nat) : Nat := 0x4014011C + 0x80 * g
/-- GRP_CNT.EXCL[31:16], RO. -/
def GRP_CNT_EXCL (g : Nat) : Fld := ⟨GRP_CNT g, 31, 16⟩
/-- GRP_CNT.REPEATS[15:0], RO. -/
def GRP_CNT_REPEATS (g : Nat) : Fld := ⟨GRP_CNT g, 15, 0⟩
/-- GRP_LIST (13_potrix_ring.md). -/
def GRP_LIST (g : Nat) (j : Nat) : Nat := 0x40140140 + 0x80 * g + 0x4 * j
/-- GRP_LIST.REF[31:16], RO. -/
def GRP_LIST_REF (g : Nat) (j : Nat) : Fld := ⟨GRP_LIST g j, 31, 16⟩
/-- GRP_LIST.KEY[15:7], RO. -/
def GRP_LIST_KEY (g : Nat) (j : Nat) : Fld := ⟨GRP_LIST g j, 15, 7⟩
/-- GRP_LIST.INCL[6:6], RO. -/
def GRP_LIST_INCL (g : Nat) (j : Nat) : Fld := ⟨GRP_LIST g j, 6, 6⟩
/-- GRP_LIST.JOIN[5:5], RO. -/
def GRP_LIST_JOIN (g : Nat) (j : Nat) : Fld := ⟨GRP_LIST g j, 5, 5⟩
/-- RG_AX (13_potrix_ring.md). -/
def RG_AX (a : Nat) : Nat := 0x40140900 + 0x4 * a
/-- RG_AX.EN[31:31], RW. -/
def RG_AX_EN (a : Nat) : Fld := ⟨RG_AX a, 31, 31⟩
/-- RG_AX.GROUP[27:24], RW. -/
def RG_AX_GROUP (a : Nat) : Fld := ⟨RG_AX a, 27, 24⟩
/-- RG_AX.RATED[23:0], RW. -/
def RG_AX_RATED (a : Nat) : Fld := ⟨RG_AX a, 23, 0⟩

/-! Registers of block CAN: 16_field_network.md. -/

/-- CAN_CFG (16_field_network.md). -/
def CAN_CFG (c : Nat) : Nat := 0x40150000 + 0x100 * c
/-- CAN_CFG.EN[31:31], RW. -/
def CAN_CFG_EN (c : Nat) : Fld := ⟨CAN_CFG c, 31, 31⟩
/-- CAN_CFG.FD[30:30], RW. -/
def CAN_CFG_FD (c : Nat) : Fld := ⟨CAN_CFG c, 30, 30⟩
/-- CAN_CFG.LOM[29:29], RW. -/
def CAN_CFG_LOM (c : Nat) : Fld := ⟨CAN_CFG c, 29, 29⟩
/-- CAN_CFG.ABOR[28:28], RW. -/
def CAN_CFG_ABOR (c : Nat) : Fld := ⟨CAN_CFG c, 28, 28⟩
/-- CAN_CFG.TDC[27:27], RW. -/
def CAN_CFG_TDC (c : Nat) : Fld := ⟨CAN_CFG c, 27, 27⟩
/-- CAN_CFG.TDCO[7:0], RW. -/
def CAN_CFG_TDCO (c : Nat) : Fld := ⟨CAN_CFG c, 7, 0⟩
/-- CAN_NBT (16_field_network.md). -/
def CAN_NBT (c : Nat) : Nat := 0x40150004 + 0x100 * c
/-- CAN_NBT.BRP[31:24], RW. -/
def CAN_NBT_BRP (c : Nat) : Fld := ⟨CAN_NBT c, 31, 24⟩
/-- CAN_NBT.TSEG1[23:16], RW. -/
def CAN_NBT_TSEG1 (c : Nat) : Fld := ⟨CAN_NBT c, 23, 16⟩
/-- CAN_NBT.TSEG2[14:8], RW. -/
def CAN_NBT_TSEG2 (c : Nat) : Fld := ⟨CAN_NBT c, 14, 8⟩
/-- CAN_NBT.SJW[6:0], RW. -/
def CAN_NBT_SJW (c : Nat) : Fld := ⟨CAN_NBT c, 6, 0⟩
/-- CAN_DBT (16_field_network.md). -/
def CAN_DBT (c : Nat) : Nat := 0x40150008 + 0x100 * c
/-- CAN_DBT.BRP[28:24], RW. -/
def CAN_DBT_BRP (c : Nat) : Fld := ⟨CAN_DBT c, 28, 24⟩
/-- CAN_DBT.TSEG1[20:16], RW. -/
def CAN_DBT_TSEG1 (c : Nat) : Fld := ⟨CAN_DBT c, 20, 16⟩
/-- CAN_DBT.TSEG2[11:8], RW. -/
def CAN_DBT_TSEG2 (c : Nat) : Fld := ⟨CAN_DBT c, 11, 8⟩
/-- CAN_DBT.SJW[3:0], RW. -/
def CAN_DBT_SJW (c : Nat) : Fld := ⟨CAN_DBT c, 3, 0⟩
/-- CAN_STAT (16_field_network.md). -/
def CAN_STAT (c : Nat) : Nat := 0x4015000C + 0x100 * c
/-- CAN_STAT.STATE[31:30], RO. -/
def CAN_STAT_STATE (c : Nat) : Fld := ⟨CAN_STAT c, 31, 30⟩
/-- CAN_STAT.WARN[29:29], RO. -/
def CAN_STAT_WARN (c : Nat) : Fld := ⟨CAN_STAT c, 29, 29⟩
/-- CAN_STAT.CFGREF[28:28], W1C. -/
def CAN_STAT_CFGREF (c : Nat) : Fld := ⟨CAN_STAT c, 28, 28⟩
/-- CAN_STAT.REC[23:16], RO. -/
def CAN_STAT_REC (c : Nat) : Fld := ⟨CAN_STAT c, 23, 16⟩
/-- CAN_STAT.TEC[15:8], RO. -/
def CAN_STAT_TEC (c : Nat) : Fld := ⟨CAN_STAT c, 15, 8⟩
/-- CAN_STAT.BOFFCNT[7:0], RO. -/
def CAN_STAT_BOFFCNT (c : Nat) : Fld := ⟨CAN_STAT c, 7, 0⟩
/-- CAN_CNT (16_field_network.md). -/
def CAN_CNT (c : Nat) : Nat := 0x40150010 + 0x100 * c
/-- CAN_CNT.RXOK[31:16], RO. -/
def CAN_CNT_RXOK (c : Nat) : Fld := ⟨CAN_CNT c, 31, 16⟩
/-- CAN_CNT.TXOK[15:0], RO. -/
def CAN_CNT_TXOK (c : Nat) : Fld := ⟨CAN_CNT c, 15, 0⟩
/-- CAN_CNT2 (16_field_network.md). -/
def CAN_CNT2 (c : Nat) : Nat := 0x40150014 + 0x100 * c
/-- CAN_CNT2.ERRFR[31:16], RO. -/
def CAN_CNT2_ERRFR (c : Nat) : Fld := ⟨CAN_CNT2 c, 31, 16⟩
/-- CAN_CNT2.LOST[15:0], RO. -/
def CAN_CNT2_LOST (c : Nat) : Fld := ⟨CAN_CNT2 c, 15, 0⟩
/-- CAN_CNT3 (16_field_network.md). -/
def CAN_CNT3 (c : Nat) : Nat := 0x40150018 + 0x100 * c
/-- CAN_CNT3.IGN[15:0], RO. -/
def CAN_CNT3_IGN (c : Nat) : Fld := ⟨CAN_CNT3 c, 15, 0⟩
/-- CAN_EVT (16_field_network.md). -/
def CAN_EVT (c : Nat) : Nat := 0x4015001C + 0x100 * c
/-- CAN_EVT.EV[6:0], W1C. -/
def CAN_EVT_EV (c : Nat) : Fld := ⟨CAN_EVT c, 6, 0⟩
/-- CAN_RXPOP (16_field_network.md). -/
def CAN_RXPOP (c : Nat) : Nat := 0x40150020 + 0x100 * c
/-- CAN_RXPOP.WORD[31:0], RO. -/
def CAN_RXPOP_WORD (c : Nat) : Fld := ⟨CAN_RXPOP c, 31, 0⟩
/-- CAN_TXPUSH (16_field_network.md). -/
def CAN_TXPUSH (c : Nat) : Nat := 0x40150024 + 0x100 * c
/-- CAN_TXPUSH.WORD[31:0], WO. -/
def CAN_TXPUSH_WORD (c : Nat) : Fld := ⟨CAN_TXPUSH c, 31, 0⟩
/-- CAN_FIFO (16_field_network.md). -/
def CAN_FIFO (c : Nat) : Nat := 0x40150028 + 0x100 * c
/-- CAN_FIFO.TXFREE[25:16], RO. -/
def CAN_FIFO_TXFREE (c : Nat) : Fld := ⟨CAN_FIFO c, 25, 16⟩
/-- CAN_FIFO.RXLVL[9:0], RO. -/
def CAN_FIFO_RXLVL (c : Nat) : Fld := ⟨CAN_FIFO c, 9, 0⟩

/-! Registers of block PDO: 16_field_network.md. -/

/-- PDO_NMT (16_field_network.md). -/
def PDO_NMT : Nat := 0x40160000
/-- PDO_NMT.STATE[2:0], RO. -/
def PDO_NMT_STATE : Fld := ⟨PDO_NMT, 2, 0⟩
/-- PDO_HB (16_field_network.md). -/
def PDO_HB : Nat := 0x40160004
/-- PDO_HB.ALIVE[31:31], RO. -/
def PDO_HB_ALIVE : Fld := ⟨PDO_HB, 31, 31⟩
/-- PDO_HB.PRODMS[15:0], RW. -/
def PDO_HB_PRODMS : Fld := ⟨PDO_HB, 15, 0⟩
/-- PDO_KICK (16_field_network.md). -/
def PDO_KICK : Nat := 0x40160008
/-- PDO_KICK.KEY[31:0], WO. -/
def PDO_KICK_KEY : Fld := ⟨PDO_KICK, 31, 0⟩
/-- PDO_SYNC (16_field_network.md). -/
def PDO_SYNC : Nat := 0x4016000C
/-- PDO_SYNC.EN[31:31], RW. -/
def PDO_SYNC_EN : Fld := ⟨PDO_SYNC, 31, 31⟩
/-- PDO_SYNC.CH[30:30], RW. -/
def PDO_SYNC_CH : Fld := ⟨PDO_SYNC, 30, 30⟩
/-- PDO_SYNC.COBID[10:0], RW. -/
def PDO_SYNC_COBID : Fld := ⟨PDO_SYNC, 10, 0⟩
/-- PDO_STAT (16_field_network.md). -/
def PDO_STAT : Nat := 0x40160010
/-- PDO_STAT.COLL[31:16], RO. -/
def PDO_STAT_COLL : Fld := ⟨PDO_STAT, 31, 16⟩
/-- PDO_STAT.CFGREF[0:0], W1C. -/
def PDO_STAT_CFGREF : Fld := ⟨PDO_STAT, 0, 0⟩
/-- PDO_EVT (16_field_network.md). -/
def PDO_EVT : Nat := 0x40160014
/-- PDO_EVT.EV[4:0], W1C. -/
def PDO_EVT_EV : Fld := ⟨PDO_EVT, 4, 0⟩
/-- PDO_RXEVT (16_field_network.md). -/
def PDO_RXEVT : Nat := 0x40160018
/-- PDO_RXEVT.EV[15:0], W1C. -/
def PDO_RXEVT_EV : Fld := ⟨PDO_RXEVT, 15, 0⟩
/-- PDO_LOSS (16_field_network.md). -/
def PDO_LOSS : Nat := 0x4016001C
/-- PDO_LOSS.AX[7:0], W1C. -/
def PDO_LOSS_AX : Fld := ⟨PDO_LOSS, 7, 0⟩
/-- PDO_HBC (16_field_network.md). -/
def PDO_HBC (k : Nat) : Nat := 0x40160020 + 0x4 * k
/-- PDO_HBC.EN[31:31], RW. -/
def PDO_HBC_EN (k : Nat) : Fld := ⟨PDO_HBC k, 31, 31⟩
/-- PDO_HBC.EXPIRED[30:30], RO. -/
def PDO_HBC_EXPIRED (k : Nat) : Fld := ⟨PDO_HBC k, 30, 30⟩
/-- PDO_HBC.NODE[22:16], RW. -/
def PDO_HBC_NODE (k : Nat) : Fld := ⟨PDO_HBC k, 22, 16⟩
/-- PDO_HBC.TIMEMS[15:0], RW. -/
def PDO_HBC_TIMEMS (k : Nat) : Fld := ⟨PDO_HBC k, 15, 0⟩
/-- RPDO_COBID (16_field_network.md). -/
def RPDO_COBID (r : Nat) : Nat := 0x40160100 + 0x80 * r
/-- RPDO_COBID.INVALID[31:31], RW. -/
def RPDO_COBID_INVALID (r : Nat) : Fld := ⟨RPDO_COBID r, 31, 31⟩
/-- RPDO_COBID.ID[10:0], RW. -/
def RPDO_COBID_ID (r : Nat) : Fld := ⟨RPDO_COBID r, 10, 0⟩
/-- RPDO_CTL (16_field_network.md). -/
def RPDO_CTL (r : Nat) : Nat := 0x40160104 + 0x80 * r
/-- RPDO_CTL.CHMASK[25:24], RW. -/
def RPDO_CTL_CHMASK (r : Nat) : Fld := ⟨RPDO_CTL r, 25, 24⟩
/-- RPDO_CTL.TYPE[23:16], RW. -/
def RPDO_CTL_TYPE (r : Nat) : Fld := ⟨RPDO_CTL r, 23, 16⟩
/-- RPDO_CTL.EVTMS[15:0], RW. -/
def RPDO_CTL_EVTMS (r : Nat) : Fld := ⟨RPDO_CTL r, 15, 0⟩
/-- RPDO_STAT (16_field_network.md). -/
def RPDO_STAT (r : Nat) : Nat := 0x40160108 + 0x80 * r
/-- RPDO_STAT.LEN[31:24], RO. -/
def RPDO_STAT_LEN (r : Nat) : Fld := ⟨RPDO_STAT r, 31, 24⟩
/-- RPDO_STAT.NENT[23:16], RO. -/
def RPDO_STAT_NENT (r : Nat) : Fld := ⟨RPDO_STAT r, 23, 16⟩
/-- RPDO_STAT.LATE[1:1], W1C. -/
def RPDO_STAT_LATE (r : Nat) : Fld := ⟨RPDO_STAT r, 1, 1⟩
/-- RPDO_STAT.MAPERR[0:0], W1C. -/
def RPDO_STAT_MAPERR (r : Nat) : Fld := ⟨RPDO_STAT r, 0, 0⟩
/-- RPDO_AXES (16_field_network.md). -/
def RPDO_AXES (r : Nat) : Nat := 0x4016010C + 0x80 * r
/-- RPDO_AXES.AXES[7:0], RO. -/
def RPDO_AXES_AXES (r : Nat) : Fld := ⟨RPDO_AXES r, 7, 0⟩
/-- RPDO_CNT (16_field_network.md). -/
def RPDO_CNT (r : Nat) : Nat := 0x40160110 + 0x80 * r
/-- RPDO_CNT.COUNT[31:16], RO. -/
def RPDO_CNT_COUNT (r : Nat) : Fld := ⟨RPDO_CNT r, 31, 16⟩
/-- RPDO_CNT.SHORT[15:8], RO. -/
def RPDO_CNT_SHORT (r : Nat) : Fld := ⟨RPDO_CNT r, 15, 8⟩
/-- RPDO_CNT.LONG[7:0], RO. -/
def RPDO_CNT_LONG (r : Nat) : Fld := ⟨RPDO_CNT r, 7, 0⟩
/-- RPDO_MAP (16_field_network.md). -/
def RPDO_MAP (r : Nat) (e : Nat) : Nat := 0x40160140 + 0x80 * r + 0x4 * e
/-- RPDO_MAP.WADDR[31:13], RW. -/
def RPDO_MAP_WADDR (r : Nat) (e : Nat) : Fld := ⟨RPDO_MAP r e, 31, 13⟩
/-- RPDO_MAP.SHIFT[12:8], RW. -/
def RPDO_MAP_SHIFT (r : Nat) (e : Nat) : Fld := ⟨RPDO_MAP r e, 12, 8⟩
/-- RPDO_MAP.SIZE[7:6], RW. -/
def RPDO_MAP_SIZE (r : Nat) (e : Nat) : Fld := ⟨RPDO_MAP r e, 7, 6⟩
/-- RPDO_MAP.DUMMY[5:5], RW. -/
def RPDO_MAP_DUMMY (r : Nat) (e : Nat) : Fld := ⟨RPDO_MAP r e, 5, 5⟩
/-- TPDO_COBID (16_field_network.md). -/
def TPDO_COBID (t : Nat) : Nat := 0x40160900 + 0x80 * t
/-- TPDO_COBID.INVALID[31:31], RW. -/
def TPDO_COBID_INVALID (t : Nat) : Fld := ⟨TPDO_COBID t, 31, 31⟩
/-- TPDO_COBID.ID[10:0], RW. -/
def TPDO_COBID_ID (t : Nat) : Fld := ⟨TPDO_COBID t, 10, 0⟩
/-- TPDO_CTL (16_field_network.md). -/
def TPDO_CTL (t : Nat) : Nat := 0x40160904 + 0x80 * t
/-- TPDO_CTL.INHIBIT[31:26], RW. -/
def TPDO_CTL_INHIBIT (t : Nat) : Fld := ⟨TPDO_CTL t, 31, 26⟩
/-- TPDO_CTL.CHMASK[25:24], RW. -/
def TPDO_CTL_CHMASK (t : Nat) : Fld := ⟨TPDO_CTL t, 25, 24⟩
/-- TPDO_CTL.TYPE[23:16], RW. -/
def TPDO_CTL_TYPE (t : Nat) : Fld := ⟨TPDO_CTL t, 23, 16⟩
/-- TPDO_CTL.EVTMS[15:0], RW. -/
def TPDO_CTL_EVTMS (t : Nat) : Fld := ⟨TPDO_CTL t, 15, 0⟩
/-- TPDO_STAT (16_field_network.md). -/
def TPDO_STAT (t : Nat) : Nat := 0x40160908 + 0x80 * t
/-- TPDO_STAT.LEN[31:24], RO. -/
def TPDO_STAT_LEN (t : Nat) : Fld := ⟨TPDO_STAT t, 31, 24⟩
/-- TPDO_STAT.NENT[23:16], RO. -/
def TPDO_STAT_NENT (t : Nat) : Fld := ⟨TPDO_STAT t, 23, 16⟩
/-- TPDO_STAT.LATE[1:1], W1C. -/
def TPDO_STAT_LATE (t : Nat) : Fld := ⟨TPDO_STAT t, 1, 1⟩
/-- TPDO_STAT.MAPERR[0:0], W1C. -/
def TPDO_STAT_MAPERR (t : Nat) : Fld := ⟨TPDO_STAT t, 0, 0⟩
/-- TPDO_AXES (16_field_network.md). -/
def TPDO_AXES (t : Nat) : Nat := 0x4016090C + 0x80 * t
/-- TPDO_AXES.AXES[7:0], RO. -/
def TPDO_AXES_AXES (t : Nat) : Fld := ⟨TPDO_AXES t, 7, 0⟩
/-- TPDO_CNT (16_field_network.md). -/
def TPDO_CNT (t : Nat) : Nat := 0x40160910 + 0x80 * t
/-- TPDO_CNT.COUNT[31:16], RO. -/
def TPDO_CNT_COUNT (t : Nat) : Fld := ⟨TPDO_CNT t, 31, 16⟩
/-- TPDO_CNT.SHORT[15:8], RO. -/
def TPDO_CNT_SHORT (t : Nat) : Fld := ⟨TPDO_CNT t, 15, 8⟩
/-- TPDO_CNT.LONG[7:0], RO. -/
def TPDO_CNT_LONG (t : Nat) : Fld := ⟨TPDO_CNT t, 7, 0⟩
/-- TPDO_MAP (16_field_network.md). -/
def TPDO_MAP (t : Nat) (e : Nat) : Nat := 0x40160940 + 0x80 * t + 0x4 * e
/-- TPDO_MAP.WADDR[31:13], RW. -/
def TPDO_MAP_WADDR (t : Nat) (e : Nat) : Fld := ⟨TPDO_MAP t e, 31, 13⟩
/-- TPDO_MAP.SHIFT[12:8], RW. -/
def TPDO_MAP_SHIFT (t : Nat) (e : Nat) : Fld := ⟨TPDO_MAP t e, 12, 8⟩
/-- TPDO_MAP.SIZE[7:6], RW. -/
def TPDO_MAP_SIZE (t : Nat) (e : Nat) : Fld := ⟨TPDO_MAP t e, 7, 6⟩
/-- TPDO_MAP.DUMMY[5:5], RW. -/
def TPDO_MAP_DUMMY (t : Nat) (e : Nat) : Fld := ⟨TPDO_MAP t e, 5, 5⟩

/-! Registers of block TAG: 18_squirrel_store.md. -/

/-- TAG_CTRL (18_squirrel_store.md). -/
def TAG_CTRL : Nat := 0x40170000
/-- TAG_CTRL.BLOCK[27:16], WO. -/
def TAG_CTRL_BLOCK : Fld := ⟨TAG_CTRL, 27, 16⟩
/-- TAG_CTRL.OP[1:0], WO. -/
def TAG_CTRL_OP : Fld := ⟨TAG_CTRL, 1, 0⟩
/-- TAG_DATA (18_squirrel_store.md). -/
def TAG_DATA : Nat := 0x40170004
/-- TAG_DATA.V[31:0], RW. -/
def TAG_DATA_V : Fld := ⟨TAG_DATA, 31, 0⟩
/-- TAG_STAT (18_squirrel_store.md). -/
def TAG_STAT : Nat := 0x40170008
/-- TAG_STAT.RFSTATE[31:30], RO. -/
def TAG_STAT_RFSTATE : Fld := ⟨TAG_STAT, 31, 30⟩
/-- TAG_STAT.LIVEGATE[28:28], RO. -/
def TAG_STAT_LIVEGATE : Fld := ⟨TAG_STAT, 28, 28⟩
/-- TAG_STAT.RFW[27:27], RO. -/
def TAG_STAT_RFW : Fld := ⟨TAG_STAT, 27, 27⟩
/-- TAG_STAT.BUSY[25:25], RO. -/
def TAG_STAT_BUSY : Fld := ⟨TAG_STAT, 25, 25⟩
/-- TAG_STAT.RESULT[24:22], RO. -/
def TAG_STAT_RESULT : Fld := ⟨TAG_STAT, 24, 22⟩
/-- TAG_CNT (18_squirrel_store.md). -/
def TAG_CNT : Nat := 0x4017000C
/-- TAG_CNT.BUSYCNT[31:16], RO. -/
def TAG_CNT_BUSYCNT : Fld := ⟨TAG_CNT, 31, 16⟩
/-- TAG_CNT.RFREF[15:0], RO. -/
def TAG_CNT_RFREF : Fld := ⟨TAG_CNT, 15, 0⟩
/-- TAG_EVT (18_squirrel_store.md). -/
def TAG_EVT : Nat := 0x40170010
/-- TAG_EVT.TAGBUSY[1:1], W1C. -/
def TAG_EVT_TAGBUSY : Fld := ⟨TAG_EVT, 1, 1⟩
/-- TAG_EVT.RFSESSION[0:0], W1C. -/
def TAG_EVT_RFSESSION : Fld := ⟨TAG_EVT, 0, 0⟩
/-- TAG_CLR (18_squirrel_store.md). -/
def TAG_CLR : Nat := 0x40170014
/-- TAG_CLR.CLRCNT[1:1], WO. -/
def TAG_CLR_CLRCNT : Fld := ⟨TAG_CLR, 1, 1⟩
/-- TAG_CLR.CLRRFW[0:0], WO. -/
def TAG_CLR_CLRRFW : Fld := ⟨TAG_CLR, 0, 0⟩

/-! Registers of block LIO: 12_winch_thruster_lamps.md. -/

/-- LAMP_CFG (12_winch_thruster_lamps.md). -/
def LAMP_CFG (n : Nat) : Nat := 0x40180000 + 0x20 * n
/-- LAMP_CFG.EN[31:31], RW. -/
def LAMP_CFG_EN (n : Nat) : Fld := ⟨LAMP_CFG n, 31, 31⟩
/-- LAMP_CFG.REACT[25:24], RW. -/
def LAMP_CFG_REACT (n : Nat) : Fld := ⟨LAMP_CFG n, 25, 24⟩
/-- LAMP_CFG.AXIS[18:16], RW. -/
def LAMP_CFG_AXIS (n : Nat) : Fld := ⟨LAMP_CFG n, 18, 16⟩
/-- LAMP_CFG.DARKTH[11:0], RW. -/
def LAMP_CFG_DARKTH (n : Nat) : Fld := ⟨LAMP_CFG n, 11, 0⟩
/-- LAMP_MODE (12_winch_thruster_lamps.md). -/
def LAMP_MODE (n : Nat) : Nat := 0x40180004 + 0x20 * n
/-- LAMP_MODE.FOLLOW[30:30], RW. -/
def LAMP_MODE_FOLLOW (n : Nat) : Fld := ⟨LAMP_MODE n, 30, 30⟩
/-- LAMP_MODE.MODE[28:26], RW. -/
def LAMP_MODE_MODE (n : Nat) : Fld := ⟨LAMP_MODE n, 28, 26⟩
/-- LAMP_FLASH (12_winch_thruster_lamps.md). -/
def LAMP_FLASH (n : Nat) : Nat := 0x40180008 + 0x20 * n
/-- LAMP_FLASH.ON[15:8], RW. -/
def LAMP_FLASH_ON (n : Nat) : Fld := ⟨LAMP_FLASH n, 15, 8⟩
/-- LAMP_FLASH.OFF[7:0], RW. -/
def LAMP_FLASH_OFF (n : Nat) : Fld := ⟨LAMP_FLASH n, 7, 0⟩
/-- LAMP_STAT (12_winch_thruster_lamps.md). -/
def LAMP_STAT (n : Nat) : Nat := 0x4018000C + 0x20 * n
/-- LAMP_STAT.DARK[31:31], RO. -/
def LAMP_STAT_DARK (n : Nat) : Fld := ⟨LAMP_STAT n, 31, 31⟩
/-- LAMP_STAT.ON[30:30], RO. -/
def LAMP_STAT_ON (n : Nat) : Fld := ⟨LAMP_STAT n, 30, 30⟩
/-- LAMP_STAT.OFFLATCH[29:29], RO. -/
def LAMP_STAT_OFFLATCH (n : Nat) : Fld := ⟨LAMP_STAT n, 29, 29⟩
/-- LAMP_STAT.BLANK[28:28], RO. -/
def LAMP_STAT_BLANK (n : Nat) : Fld := ⟨LAMP_STAT n, 28, 28⟩
/-- LAMP_STAT.LO[27:27], RO. -/
def LAMP_STAT_LO (n : Nat) : Fld := ⟨LAMP_STAT n, 27, 27⟩
/-- LAMP_STAT.FOUND[26:24], RO. -/
def LAMP_STAT_FOUND (n : Nat) : Fld := ⟨LAMP_STAT n, 26, 24⟩
/-- LAMP_STAT.OVERLOAD[2:2], W1C. -/
def LAMP_STAT_OVERLOAD (n : Nat) : Fld := ⟨LAMP_STAT n, 2, 2⟩
/-- LAMP_STAT.PROVEFAIL[1:1], W1C. -/
def LAMP_STAT_PROVEFAIL (n : Nat) : Fld := ⟨LAMP_STAT n, 1, 1⟩
/-- LAMP_STAT.DARKEV[0:0], W1C. -/
def LAMP_STAT_DARKEV (n : Nat) : Fld := ⟨LAMP_STAT n, 0, 0⟩
/-- LAMP_I (12_winch_thruster_lamps.md). -/
def LAMP_I (n : Nat) : Nat := 0x40180010 + 0x20 * n
/-- LAMP_I.IPULSE[27:16], RO. -/
def LAMP_I_IPULSE (n : Nat) : Fld := ⟨LAMP_I n, 27, 16⟩
/-- LAMP_I.IWIN[11:0], RO. -/
def LAMP_I_IWIN (n : Nat) : Fld := ⟨LAMP_I n, 11, 0⟩
/-- LAMP_CNT (12_winch_thruster_lamps.md). -/
def LAMP_CNT (n : Nat) : Nat := 0x40180014 + 0x20 * n
/-- LAMP_CNT.DARKCNT[31:16], RO. -/
def LAMP_CNT_DARKCNT (n : Nat) : Fld := ⟨LAMP_CNT n, 31, 16⟩
/-- LAMP_CNT.PROVES[15:0], RO. -/
def LAMP_CNT_PROVES (n : Nat) : Fld := ⟨LAMP_CNT n, 15, 0⟩
/-- LAMP_CTRL (12_winch_thruster_lamps.md). -/
def LAMP_CTRL (n : Nat) : Nat := 0x40180018 + 0x20 * n
/-- LAMP_CTRL.RETRY[1:1], WO. -/
def LAMP_CTRL_RETRY (n : Nat) : Fld := ⟨LAMP_CTRL n, 1, 1⟩
/-- LAMP_CTRL.CLRCNT[0:0], WO. -/
def LAMP_CTRL_CLRCNT (n : Nat) : Fld := ⟨LAMP_CTRL n, 0, 0⟩
/-- BRK_CFG (12_winch_thruster_lamps.md). -/
def BRK_CFG (a : Nat) : Nat := 0x40180100 + 0x10 * a
/-- BRK_CFG.EN[31:31], RW. -/
def BRK_CFG_EN (a : Nat) : Fld := ⟨BRK_CFG a, 31, 31⟩
/-- BRK_CFG.FBEN[30:30], RW. -/
def BRK_CFG_FBEN (a : Nat) : Fld := ⟨BRK_CFG a, 30, 30⟩
/-- BRK_CFG.HOLD[29:29], RW. -/
def BRK_CFG_HOLD (a : Nat) : Fld := ⟨BRK_CFG a, 29, 29⟩
/-- BRK_CFG.LINK[23:16], RW. -/
def BRK_CFG_LINK (a : Nat) : Fld := ⟨BRK_CFG a, 23, 16⟩
/-- BRK_CFG.T_REL[15:8], RW. -/
def BRK_CFG_T_REL (a : Nat) : Fld := ⟨BRK_CFG a, 15, 8⟩
/-- BRK_CFG.T_LIFT[7:0], RW. -/
def BRK_CFG_T_LIFT (a : Nat) : Fld := ⟨BRK_CFG a, 7, 0⟩
/-- BRK_CFG2 (12_winch_thruster_lamps.md). -/
def BRK_CFG2 (a : Nat) : Nat := 0x40180104 + 0x10 * a
/-- BRK_CFG2.T_SET[7:0], RW. -/
def BRK_CFG2_T_SET (a : Nat) : Fld := ⟨BRK_CFG2 a, 7, 0⟩
/-- BRK_STAT (12_winch_thruster_lamps.md). -/
def BRK_STAT (a : Nat) : Nat := 0x40180108 + 0x10 * a
/-- BRK_STAT.CMD[31:31], RO. -/
def BRK_STAT_CMD (a : Nat) : Fld := ⟨BRK_STAT a, 31, 31⟩
/-- BRK_STAT.OUT[30:30], RO. -/
def BRK_STAT_OUT (a : Nat) : Fld := ⟨BRK_STAT a, 30, 30⟩
/-- BRK_STAT.PERMIT[29:29], RO. -/
def BRK_STAT_PERMIT (a : Nat) : Fld := ⟨BRK_STAT a, 29, 29⟩
/-- BRK_STAT.FB[28:28], RO. -/
def BRK_STAT_FB (a : Nat) : Fld := ⟨BRK_STAT a, 28, 28⟩
/-- BRK_STAT.LINKHELD[27:27], RO. -/
def BRK_STAT_LINKHELD (a : Nat) : Fld := ⟨BRK_STAT a, 27, 27⟩
/-- BRK_STAT.ERLACT[26:26], RO. -/
def BRK_STAT_ERLACT (a : Nat) : Fld := ⟨BRK_STAT a, 26, 26⟩
/-- BRK_STAT.GOVSET[25:25], RO. -/
def BRK_STAT_GOVSET (a : Nat) : Fld := ⟨BRK_STAT a, 25, 25⟩
/-- BRK_STAT.NOTSET[24:24], RO. -/
def BRK_STAT_NOTSET (a : Nat) : Fld := ⟨BRK_STAT a, 24, 24⟩
/-- TN_WORD (12_winch_thruster_lamps.md). -/
def TN_WORD (a : Nat) (w : Nat) : Nat := 0x40180200 + 0x40 * a + 0x4 * w
/-- TN_WORD.V[31:0], RW. -/
def TN_WORD_V (a : Nat) (w : Nat) : Fld := ⟨TN_WORD a w, 31, 0⟩
/-- TN_PSET (12_winch_thruster_lamps.md). -/
def TN_PSET (a : Nat) : Nat := 0x40180214 + 0x40 * a
/-- TN_PSET.DIRTY[31:31], RO. -/
def TN_PSET_DIRTY (a : Nat) : Fld := ⟨TN_PSET a, 31, 31⟩
/-- TN_PSET.REFUSED[30:30], W1C. -/
def TN_PSET_REFUSED (a : Nat) : Fld := ⟨TN_PSET a, 30, 30⟩
/-- TN_PSET.HOLDER[26:24], RO. -/
def TN_PSET_HOLDER (a : Nat) : Fld := ⟨TN_PSET a, 26, 24⟩
/-- TN_PSET.DISCARD[1:1], WO. -/
def TN_PSET_DISCARD (a : Nat) : Fld := ⟨TN_PSET a, 1, 1⟩
/-- TN_PSET.COMMIT[0:0], WO. -/
def TN_PSET_COMMIT (a : Nat) : Fld := ⟨TN_PSET a, 0, 0⟩
/-- TN_CFG (12_winch_thruster_lamps.md). -/
def TN_CFG (a : Nat) : Nat := 0x40180218 + 0x40 * a
/-- TN_CFG.SRC[31:31], RW. -/
def TN_CFG_SRC (a : Nat) : Fld := ⟨TN_CFG a, 31, 31⟩
/-- TN_CFG.FALLBK[30:30], RW. -/
def TN_CFG_FALLBK (a : Nat) : Fld := ⟨TN_CFG a, 30, 30⟩
/-- TN_CFG.INV[29:29], RW. -/
def TN_CFG_INV (a : Nat) : Fld := ⟨TN_CFG a, 29, 29⟩
/-- WN_SLACK (12_winch_thruster_lamps.md). -/
def WN_SLACK (a : Nat) : Nat := 0x4018021C + 0x40 * a
/-- WN_SLACK.SLACK[31:16], RW. -/
def WN_SLACK_SLACK (a : Nat) : Fld := ⟨WN_SLACK a, 31, 16⟩
/-- WN_SLACK.TSLK[15:8], RW. -/
def WN_SLACK_TSLK (a : Nat) : Fld := ⟨WN_SLACK a, 15, 8⟩
/-- WN_SLACK.SLREACT[1:0], RW. -/
def WN_SLACK_SLREACT (a : Nat) : Fld := ⟨WN_SLACK a, 1, 0⟩
/-- WN_DRUM (12_winch_thruster_lamps.md). -/
def WN_DRUM (a : Nat) : Nat := 0x40180220 + 0x40 * a
/-- WN_DRUM.DOS[31:16], RW. -/
def WN_DRUM_DOS (a : Nat) : Fld := ⟨WN_DRUM a, 31, 16⟩
/-- WN_DRUM.DRUMSRC[15:8], RW. -/
def WN_DRUM_DRUMSRC (a : Nat) : Fld := ⟨WN_DRUM a, 15, 8⟩
/-- WN_GEAR (12_winch_thruster_lamps.md). -/
def WN_GEAR (a : Nat) : Nat := 0x40180224 + 0x40 * a
/-- WN_GEAR.GEAR[15:0], RW. -/
def WN_GEAR_GEAR (a : Nat) : Fld := ⟨WN_GEAR a, 15, 0⟩
/-- TN_MEAS (12_winch_thruster_lamps.md). -/
def TN_MEAS (a : Nat) : Nat := 0x40180228 + 0x40 * a
/-- TN_MEAS.TM[31:16], RO. -/
def TN_MEAS_TM (a : Nat) : Fld := ⟨TN_MEAS a, 31, 16⟩
/-- TN_MEAS.N[15:0], RO. -/
def TN_MEAS_N (a : Nat) : Fld := ⟨TN_MEAS a, 15, 0⟩
/-- WN_STAT (12_winch_thruster_lamps.md). -/
def WN_STAT (a : Nat) : Nat := 0x4018022C + 0x40 * a
/-- WN_STAT.SLACK[31:31], RO. -/
def WN_STAT_SLACK (a : Nat) : Fld := ⟨WN_STAT a, 31, 31⟩
/-- WN_STAT.RENDER[30:30], RO. -/
def WN_STAT_RENDER (a : Nat) : Fld := ⟨WN_STAT a, 30, 30⟩
/-- WN_STAT.RECOVER[29:29], RO. -/
def WN_STAT_RECOVER (a : Nat) : Fld := ⟨WN_STAT a, 29, 29⟩
/-- WN_STAT.CLAMP[28:28], RO. -/
def WN_STAT_CLAMP (a : Nat) : Fld := ⟨WN_STAT a, 28, 28⟩
/-- WN_STAT.ESTUSED[27:27], RO. -/
def WN_STAT_ESTUSED (a : Nat) : Fld := ⟨WN_STAT a, 27, 27⟩
/-- WN_STAT.ND[15:0], RO. -/
def WN_STAT_ND (a : Nat) : Fld := ⟨WN_STAT a, 15, 0⟩
/-- WN_FAULT (12_winch_thruster_lamps.md). -/
def WN_FAULT (a : Nat) : Nat := 0x40180230 + 0x40 * a
/-- WN_FAULT.MAP[15:8], RO. -/
def WN_FAULT_MAP (a : Nat) : Fld := ⟨WN_FAULT a, 15, 8⟩
/-- WN_FAULT.FIRST[7:0], RO. -/
def WN_FAULT_FIRST (a : Nat) : Fld := ⟨WN_FAULT a, 7, 0⟩
/-- AIN_CFG (12_winch_thruster_lamps.md). -/
def AIN_CFG (i : Nat) : Nat := 0x40180400 + 0x10 * i
/-- AIN_CFG.EN[31:31], RW. -/
def AIN_CFG_EN (i : Nat) : Fld := ⟨AIN_CFG i, 31, 31⟩
/-- AIN_CFG.ROLE[30:28], RW. -/
def AIN_CFG_ROLE (i : Nat) : Fld := ⟨AIN_CFG i, 30, 28⟩
/-- AIN_CFG.AXIS[26:24], RW. -/
def AIN_CFG_AXIS (i : Nat) : Fld := ⟨AIN_CFG i, 26, 24⟩
/-- AIN_CFG.INV[23:23], RW. -/
def AIN_CFG_INV (i : Nat) : Fld := ⟨AIN_CFG i, 23, 23⟩
/-- AIN_CFG.SPAN[15:0], RW. -/
def AIN_CFG_SPAN (i : Nat) : Fld := ⟨AIN_CFG i, 15, 0⟩
/-- AIN_VAL (12_winch_thruster_lamps.md). -/
def AIN_VAL (i : Nat) : Nat := 0x40180404 + 0x10 * i
/-- AIN_VAL.UA[15:0], RO. -/
def AIN_VAL_UA (i : Nat) : Fld := ⟨AIN_VAL i, 15, 0⟩
/-- AIN_OUT (12_winch_thruster_lamps.md). -/
def AIN_OUT (i : Nat) : Nat := 0x40180408 + 0x10 * i
/-- AIN_OUT.V[31:0], RO. -/
def AIN_OUT_V (i : Nat) : Fld := ⟨AIN_OUT i, 31, 0⟩
/-- AIN_STAT (12_winch_thruster_lamps.md). -/
def AIN_STAT (i : Nat) : Nat := 0x4018040C + 0x10 * i
/-- AIN_STAT.RANGE[31:31], RO. -/
def AIN_STAT_RANGE (i : Nat) : Fld := ⟨AIN_STAT i, 31, 31⟩
/-- AIN_STAT.VALID[30:30], RO. -/
def AIN_STAT_VALID (i : Nat) : Fld := ⟨AIN_STAT i, 30, 30⟩
/-- EMG_LVL (12_winch_thruster_lamps.md). -/
def EMG_LVL : Nat := 0x40180500
/-- EMG_LVL.VOID[27:24], RO. -/
def EMG_LVL_VOID : Fld := ⟨EMG_LVL, 27, 24⟩
/-- EMG_LVL.FREE[23:20], RO. -/
def EMG_LVL_FREE : Fld := ⟨EMG_LVL, 23, 20⟩
/-- EMG_LVL.ACT[19:16], RO. -/
def EMG_LVL_ACT : Fld := ⟨EMG_LVL, 19, 16⟩
/-- EMG_LVL.EMG[7:0], RO. -/
def EMG_LVL_EMG : Fld := ⟨EMG_LVL, 7, 0⟩
/-- ERL_CFG (12_winch_thruster_lamps.md). -/
def ERL_CFG (k : Nat) : Nat := 0x40180510 + 0x8 * k
/-- ERL_CFG.EN[31:31], RW. -/
def ERL_CFG_EN (k : Nat) : Fld := ⟨ERL_CFG k, 31, 31⟩
/-- ERL_CFG.AXIS[26:24], RW. -/
def ERL_CFG_AXIS (k : Nat) : Fld := ⟨ERL_CFG k, 26, 24⟩
/-- ERL_CFG.FORM[17:16], RW. -/
def ERL_CFG_FORM (k : Nat) : Fld := ⟨ERL_CFG k, 17, 16⟩
/-- ERL_CFG.SPD[15:0], RW. -/
def ERL_CFG_SPD (k : Nat) : Fld := ⟨ERL_CFG k, 15, 0⟩
/-- ERL_GOV (12_winch_thruster_lamps.md). -/
def ERL_GOV (k : Nat) : Nat := 0x40180514 + 0x8 * k
/-- ERL_GOV.GOV[15:0], RW. -/
def ERL_GOV_GOV (k : Nat) : Fld := ⟨ERL_GOV k, 15, 0⟩
/-- GPI_LVL (12_winch_thruster_lamps.md). -/
def GPI_LVL : Nat := 0x40180600
/-- GPI_LVL.V[7:0], RO. -/
def GPI_LVL_V : Fld := ⟨GPI_LVL, 7, 0⟩
/-- GPI_CFG (12_winch_thruster_lamps.md). -/
def GPI_CFG : Nat := 0x40180604
/-- GPI_CFG.MASK[15:8], RW. -/
def GPI_CFG_MASK : Fld := ⟨GPI_CFG, 15, 8⟩
/-- GPI_CFG.FILT[7:0], RW. -/
def GPI_CFG_FILT : Fld := ⟨GPI_CFG, 7, 0⟩
/-- GPI_EVT (12_winch_thruster_lamps.md). -/
def GPI_EVT : Nat := 0x40180608
/-- GPI_EVT.V[7:0], W1C. -/
def GPI_EVT_V : Fld := ⟨GPI_EVT, 7, 0⟩
/-- GPO_OUT (12_winch_thruster_lamps.md). -/
def GPO_OUT : Nat := 0x4018060C
/-- GPO_OUT.V[3:0], RW. -/
def GPO_OUT_V : Fld := ⟨GPO_OUT, 3, 0⟩
/-- GPO_STAT (12_winch_thruster_lamps.md). -/
def GPO_STAT : Nat := 0x40180610
/-- GPO_STAT.OVL[3:0], W1C. -/
def GPO_STAT_OVL : Fld := ⟨GPO_STAT, 3, 0⟩
/-- LIO_STAT (12_winch_thruster_lamps.md). -/
def LIO_STAT : Nat := 0x40180700
/-- LIO_STAT.CFGREF[0:0], W1C. -/
def LIO_STAT_CFGREF : Fld := ⟨LIO_STAT, 0, 0⟩
/-- LIO_EVT (12_winch_thruster_lamps.md). -/
def LIO_EVT : Nat := 0x40180704
/-- LIO_EVT.BRKAX[15:8], W1C. -/
def LIO_EVT_BRKAX : Fld := ⟨LIO_EVT, 15, 8⟩
/-- LIO_EVT.GPIN[4:4], W1C. -/
def LIO_EVT_GPIN : Fld := ⟨LIO_EVT, 4, 4⟩
/-- LIO_EVT.ANALOG[3:3], W1C. -/
def LIO_EVT_ANALOG : Fld := ⟨LIO_EVT, 3, 3⟩
/-- LIO_EVT.EMGREQ[2:2], W1C. -/
def LIO_EVT_EMGREQ : Fld := ⟨LIO_EVT, 2, 2⟩
/-- LIO_EVT.BRKTO[1:1], W1C. -/
def LIO_EVT_BRKTO : Fld := ⟨LIO_EVT, 1, 1⟩
/-- LIO_EVT.BRKFB[0:0], W1C. -/
def LIO_EVT_BRKFB : Fld := ⟨LIO_EVT, 0, 0⟩

/-! Registers of block STORE: 18_squirrel_store.md. -/

/-- STORE_CMD (18_squirrel_store.md). -/
def STORE_CMD : Nat := 0x40190000
/-- STORE_CMD.OP[3:0], WO. -/
def STORE_CMD_OP : Fld := ⟨STORE_CMD, 3, 0⟩
/-- STORE_ARG (18_squirrel_store.md). -/
def STORE_ARG (i : Nat) : Nat := 0x40190004 + 0x4 * i
/-- STORE_ARG.V[31:0], RW. -/
def STORE_ARG_V (i : Nat) : Fld := ⟨STORE_ARG i, 31, 0⟩
/-- STORE_STAT (18_squirrel_store.md). -/
def STORE_STAT : Nat := 0x40190010
/-- STORE_STAT.READY[31:31], RO. -/
def STORE_STAT_READY : Fld := ⟨STORE_STAT, 31, 31⟩
/-- STORE_STAT.BUSY[30:30], RO. -/
def STORE_STAT_BUSY : Fld := ⟨STORE_STAT, 30, 30⟩
/-- STORE_STAT.TXOPEN[29:29], RO. -/
def STORE_STAT_TXOPEN : Fld := ⟨STORE_STAT, 29, 29⟩
/-- STORE_STAT.HOLDER[28:26], RO. -/
def STORE_STAT_HOLDER : Fld := ⟨STORE_STAT, 28, 26⟩
/-- STORE_STAT.BANKWR[25:25], RO. -/
def STORE_STAT_BANKWR : Fld := ⟨STORE_STAT, 25, 25⟩
/-- STORE_STAT.RECLAIM[24:24], RO. -/
def STORE_STAT_RECLAIM : Fld := ⟨STORE_STAT, 24, 24⟩
/-- STORE_STAT.LASTERR[23:20], RO. -/
def STORE_STAT_LASTERR : Fld := ⟨STORE_STAT, 23, 20⟩
/-- STORE_RES (18_squirrel_store.md). -/
def STORE_RES : Nat := 0x40190014
/-- STORE_RES.V[31:0], RO. -/
def STORE_RES_V : Fld := ⟨STORE_RES, 31, 0⟩
/-- STORE_RES2 (18_squirrel_store.md). -/
def STORE_RES2 : Nat := 0x40190018
/-- STORE_RES2.TSEQ[31:16], RO. -/
def STORE_RES2_TSEQ : Fld := ⟨STORE_RES2, 31, 16⟩
/-- STORE_RES2.LEN[15:0], RO. -/
def STORE_RES2_LEN : Fld := ⟨STORE_RES2, 15, 0⟩
/-- STORE_LAYOUT (18_squirrel_store.md). -/
def STORE_LAYOUT : Nat := 0x4019001C
/-- STORE_LAYOUT.PREV[31:16], RO. -/
def STORE_LAYOUT_PREV : Fld := ⟨STORE_LAYOUT, 31, 16⟩
/-- STORE_LAYOUT.FORCE[15:0], RO. -/
def STORE_LAYOUT_FORCE : Fld := ⟨STORE_LAYOUT, 15, 0⟩
/-- STORE_WEAR (18_squirrel_store.md). -/
def STORE_WEAR : Nat := 0x40190020
/-- STORE_WEAR.WEAR[31:24], RO. -/
def STORE_WEAR_WEAR : Fld := ⟨STORE_WEAR, 31, 24⟩
/-- STORE_WEAR.ERASES[23:0], RO. -/
def STORE_WEAR_ERASES : Fld := ⟨STORE_WEAR, 23, 0⟩
/-- STORE_COMMITS (18_squirrel_store.md). -/
def STORE_COMMITS : Nat := 0x40190024
/-- STORE_COMMITS.V[31:0], RO. -/
def STORE_COMMITS_V : Fld := ⟨STORE_COMMITS, 31, 0⟩
/-- STORE_SPACE (18_squirrel_store.md). -/
def STORE_SPACE : Nat := 0x40190028
/-- STORE_SPACE.LIVE[31:16], RO. -/
def STORE_SPACE_LIVE : Fld := ⟨STORE_SPACE, 31, 16⟩
/-- STORE_SPACE.ERASED[8:0], RO. -/
def STORE_SPACE_ERASED : Fld := ⟨STORE_SPACE, 8, 0⟩
/-- BANK_STAT (18_squirrel_store.md). -/
def BANK_STAT : Nat := 0x40190030
/-- BANK_STAT.V[19:0], RO. -/
def BANK_STAT_V : Fld := ⟨BANK_STAT, 19, 0⟩
/-- BANK_GEN (18_squirrel_store.md). -/
def BANK_GEN : Nat := 0x40190034
/-- BANK_GEN.B[31:16], RO. -/
def BANK_GEN_B : Fld := ⟨BANK_GEN, 31, 16⟩
/-- BANK_GEN.A[15:0], RO. -/
def BANK_GEN_A : Fld := ⟨BANK_GEN, 15, 0⟩
/-- BANK_VER_A (18_squirrel_store.md). -/
def BANK_VER_A : Nat := 0x40190038
/-- BANK_VER_A.V[31:0], RO. -/
def BANK_VER_A_V : Fld := ⟨BANK_VER_A, 31, 0⟩
/-- BANK_VER_B (18_squirrel_store.md). -/
def BANK_VER_B : Nat := 0x4019003C
/-- BANK_VER_B.V[31:0], RO. -/
def BANK_VER_B_V : Fld := ⟨BANK_VER_B, 31, 0⟩
/-- STORE_MIG (18_squirrel_store.md). -/
def STORE_MIG : Nat := 0x40190040
/-- STORE_MIG.V[31:0], RO. -/
def STORE_MIG_V : Fld := ⟨STORE_MIG, 31, 0⟩
/-- STORE_VERREF (18_squirrel_store.md). -/
def STORE_VERREF : Nat := 0x40190044
/-- STORE_VERREF.V[31:0], RO. -/
def STORE_VERREF_V : Fld := ⟨STORE_VERREF, 31, 0⟩
/-- STORE_EVT (18_squirrel_store.md). -/
def STORE_EVT : Nat := 0x4019004C
/-- STORE_EVT.ERROR[1:1], W1C. -/
def STORE_EVT_ERROR : Fld := ⟨STORE_EVT, 1, 1⟩
/-- STORE_EVT.DONE[0:0], W1C. -/
def STORE_EVT_DONE : Fld := ⟨STORE_EVT, 0, 0⟩
/-- STORE_ECC (18_squirrel_store.md). -/
def STORE_ECC : Nat := 0x40190050
/-- STORE_ECC.V[15:0], RO. -/
def STORE_ECC_V : Fld := ⟨STORE_ECC, 15, 0⟩

/-! Registers of block COPY: 14_duty_standby.md. -/

/-- CP_CFG (14_duty_standby.md). -/
def CP_CFG : Nat := 0x401A0000
/-- CP_CFG.EN[31:31], RW. -/
def CP_CFG_EN : Fld := ⟨CP_CFG, 31, 31⟩
/-- CP_CFG.MAXAGE[27:24], RW. -/
def CP_CFG_MAXAGE : Fld := ⟨CP_CFG, 27, 24⟩
/-- CP_CFG.PARTNER[21:16], RW. -/
def CP_CFG_PARTNER : Fld := ⟨CP_CFG, 21, 16⟩
/-- CP_CFG.PER[12:8], RW. -/
def CP_CFG_PER : Fld := ⟨CP_CFG, 12, 8⟩
/-- CP_CFG.COFS[7:0], RW. -/
def CP_CFG_COFS : Fld := ⟨CP_CFG, 7, 0⟩
/-- CP_AX (14_duty_standby.md). -/
def CP_AX : Nat := 0x401A0004
/-- CP_AX.BRKHOLD[15:8], RW. -/
def CP_AX_BRKHOLD : Fld := ⟨CP_AX, 15, 8⟩
/-- CP_AX.AXMAP[7:0], RW. -/
def CP_AX_AXMAP : Fld := ⟨CP_AX, 7, 0⟩
/-- CP_TO (14_duty_standby.md). -/
def CP_TO : Nat := 0x401A0008
/-- CP_TO.DRIFTTOL[23:16], RW. -/
def CP_TO_DRIFTTOL : Fld := ⟨CP_TO, 23, 16⟩
/-- CP_TO.TRAMP[15:8], RW. -/
def CP_TO_TRAMP : Fld := ⟨CP_TO, 15, 8⟩
/-- CP_TO.TOPRE[4:0], RW. -/
def CP_TO_TOPRE : Fld := ⟨CP_TO, 4, 0⟩
/-- CP_USRBASE (14_duty_standby.md). -/
def CP_USRBASE : Nat := 0x401A000C
/-- CP_USRBASE.BASE[31:4], RW. -/
def CP_USRBASE_BASE : Fld := ⟨CP_USRBASE, 31, 4⟩
/-- CP_USRLEN (14_duty_standby.md). -/
def CP_USRLEN : Nat := 0x401A0010
/-- CP_USRLEN.LEN[10:0], RW. -/
def CP_USRLEN_LEN : Fld := ⟨CP_USRLEN, 10, 0⟩
/-- CP_SIG (14_duty_standby.md). -/
def CP_SIG : Nat := 0x401A0014
/-- CP_SIG.V[31:0], RW. -/
def CP_SIG_V : Fld := ⟨CP_SIG, 31, 0⟩
/-- CP_CTRL (14_duty_standby.md). -/
def CP_CTRL : Nat := 0x401A0018
/-- CP_CTRL.HANDOVER[3:3], WO. -/
def CP_CTRL_HANDOVER : Fld := ⟨CP_CTRL, 3, 3⟩
/-- CP_CTRL.USRFLIP[2:2], WO. -/
def CP_CTRL_USRFLIP : Fld := ⟨CP_CTRL, 2, 2⟩
/-- CP_CTRL.CLRCNT[1:1], WO. -/
def CP_CTRL_CLRCNT : Fld := ⟨CP_CTRL, 1, 1⟩
/-- CP_STAT (14_duty_standby.md). -/
def CP_STAT : Nat := 0x401A001C
/-- CP_STAT.ROLE[31:29], RO. -/
def CP_STAT_ROLE : Fld := ⟨CP_STAT, 31, 29⟩
/-- CP_STAT.PAIR[28:26], RO. -/
def CP_STAT_PAIR : Fld := ⟨CP_STAT, 28, 26⟩
/-- CP_STAT.CLAIM[25:25], RO. -/
def CP_STAT_CLAIM : Fld := ⟨CP_STAT, 25, 25⟩
/-- CP_STAT.PCLAIM[24:24], RO. -/
def CP_STAT_PCLAIM : Fld := ⟨CP_STAT, 24, 24⟩
/-- CP_STAT.QUIET[23:23], RO. -/
def CP_STAT_QUIET : Fld := ⟨CP_STAT, 23, 23⟩
/-- CP_STAT.CONFLICT[22:22], RO. -/
def CP_STAT_CONFLICT : Fld := ⟨CP_STAT, 22, 22⟩
/-- CP_STAT.DRIFT[21:21], RO. -/
def CP_STAT_DRIFT : Fld := ⟨CP_STAT, 21, 21⟩
/-- CP_STAT.USRBUF[20:20], RO. -/
def CP_STAT_USRBUF : Fld := ⟨CP_STAT, 20, 20⟩
/-- CP_STAT.SLOT[19:19], RO. -/
def CP_STAT_SLOT : Fld := ⟨CP_STAT, 19, 19⟩
/-- CP_STAT.USRERR[18:18], RO. -/
def CP_STAT_USRERR : Fld := ⟨CP_STAT, 18, 18⟩
/-- CP_STAT.CFGREF[17:17], W1C. -/
def CP_STAT_CFGREF : Fld := ⟨CP_STAT, 17, 17⟩
/-- CP_STAT.REFUSE[15:8], RO. -/
def CP_STAT_REFUSE : Fld := ⟨CP_STAT, 15, 8⟩
/-- CP_STAT.WARM[7:0], RO. -/
def CP_STAT_WARM : Fld := ⟨CP_STAT, 7, 0⟩
/-- CP_EPOCH (14_duty_standby.md). -/
def CP_EPOCH : Nat := 0x401A0020
/-- CP_EPOCH.V[31:0], RO. -/
def CP_EPOCH_V : Fld := ⟨CP_EPOCH, 31, 0⟩
/-- CP_AGE (14_duty_standby.md). -/
def CP_AGE : Nat := 0x401A0024
/-- CP_AGE.V[31:0], RO. -/
def CP_AGE_V : Fld := ⟨CP_AGE, 31, 0⟩
/-- CP_PSIG (14_duty_standby.md). -/
def CP_PSIG : Nat := 0x401A0028
/-- CP_PSIG.V[31:0], RO. -/
def CP_PSIG_V : Fld := ⟨CP_PSIG, 31, 0⟩
/-- CP_PSEAL (14_duty_standby.md). -/
def CP_PSEAL : Nat := 0x401A002C
/-- CP_PSEAL.PSTATE[15:8], RO. -/
def CP_PSEAL_PSTATE : Fld := ⟨CP_PSEAL, 15, 8⟩
/-- CP_PSEAL.SNAP[7:0], RO. -/
def CP_PSEAL_SNAP : Fld := ⟨CP_PSEAL, 7, 0⟩
/-- CP_CNT (14_duty_standby.md). -/
def CP_CNT : Nat := 0x401A0030
/-- CP_CNT.DISCARDED[31:16], RO. -/
def CP_CNT_DISCARDED : Fld := ⟨CP_CNT, 31, 16⟩
/-- CP_CNT.COMMITS[15:0], RO. -/
def CP_CNT_COMMITS : Fld := ⟨CP_CNT, 15, 0⟩
/-- CP_CNT2 (14_duty_standby.md). -/
def CP_CNT2 : Nat := 0x401A0034
/-- CP_CNT2.TAKEOVERS[31:16], RO. -/
def CP_CNT2_TAKEOVERS : Fld := ⟨CP_CNT2, 31, 16⟩
/-- CP_CNT2.CONFLICTS[15:0], RO. -/
def CP_CNT2_CONFLICTS : Fld := ⟨CP_CNT2, 15, 0⟩
/-- CP_TAKE (14_duty_standby.md). -/
def CP_TAKE : Nat := 0x401A0038
/-- CP_TAKE.EPOCH[31:0], RO. -/
def CP_TAKE_EPOCH : Fld := ⟨CP_TAKE, 31, 0⟩
/-- CP_TAKE2 (14_duty_standby.md). -/
def CP_TAKE2 : Nat := 0x401A003C
/-- CP_TAKE2.PARTIAL[31:31], RO. -/
def CP_TAKE2_PARTIAL : Fld := ⟨CP_TAKE2, 31, 31⟩
/-- CP_TAKE2.COLD[30:30], RO. -/
def CP_TAKE2_COLD : Fld := ⟨CP_TAKE2, 30, 30⟩
/-- CP_TAKE2.CAUSE[27:24], RO. -/
def CP_TAKE2_CAUSE : Fld := ⟨CP_TAKE2, 27, 24⟩
/-- CP_TAKE2.AGE[23:0], RO. -/
def CP_TAKE2_AGE : Fld := ⟨CP_TAKE2, 23, 0⟩
/-- CP_EVT (14_duty_standby.md). -/
def CP_EVT : Nat := 0x401A0040
/-- CP_EVT.CONFLICT[4:4], W1C. -/
def CP_EVT_CONFLICT : Fld := ⟨CP_EVT, 4, 4⟩
/-- CP_EVT.STALE[3:3], W1C. -/
def CP_EVT_STALE : Fld := ⟨CP_EVT, 3, 3⟩
/-- CP_EVT.TAKE[2:2], W1C. -/
def CP_EVT_TAKE : Fld := ⟨CP_EVT, 2, 2⟩
/-- CP_EVT.TWIN[1:1], W1C. -/
def CP_EVT_TWIN : Fld := ⟨CP_EVT, 1, 1⟩
/-- CP_EVT.SNAP[0:0], W1C. -/
def CP_EVT_SNAP : Fld := ⟨CP_EVT, 0, 0⟩
/-- CP_GAP (14_duty_standby.md). -/
def CP_GAP (a : Nat) : Nat := 0x401A0060 + 0x4 * a
/-- CP_GAP.V[31:0], RO. -/
def CP_GAP_V (a : Nat) : Fld := ⟨CP_GAP a, 31, 0⟩

/-! The rows, block by block. -/

/-- Rows of the block at 0x4000_0000. -/
def rows4000 : List RegRow := [
  ⟨0x40000010, 1, 0x4, 1, 0x4, 0x0, 0x0, 0x0, 0x0, 0x0, 0x1FF, true⟩,
  ⟨0x40000014, 1, 0x4, 1, 0x4, 0x0, 0x0, 0x0, 0x0, 0x0, 0x0, true⟩,
  ⟨0x40000018, 1, 0x4, 1, 0x4, 0x0, 0x0, 0x0, 0x0, 0x0, 0x0, true⟩,
  ⟨0x4000001C, 1, 0x4, 1, 0x4, 0x0, 0x0, 0x0, 0x0, 0x0, 0x0, false⟩,
  ⟨0x40000020, 1, 0x4, 1, 0x4, 0xF00, 0x0, 0x0, 0x0, 0x0, 0x0, false⟩,
  ⟨0x40000024, 1, 0x4, 1, 0x4, 0x0, 0x0, 0x0, 0x0, 0x0, 0x0, false⟩,
  ⟨0x40000028, 1, 0x4, 1, 0x4, 0x0, 0x0, 0x1, 0x0, 0x0, 0x0, false⟩,
  ⟨0x40000040, 1, 0x4, 1, 0x4, 0x0, 0x0, 0x0, 0x0, 0x0, 0x0, true⟩,
  ⟨0x40000044, 1, 0x4, 1, 0x4, 0x0, 0x0, 0x0, 0x0, 0x0, 0x0, true⟩,
  ⟨0x40000048, 1, 0x4, 1, 0x4, 0x0, 0x0, 0x0, 0x0, 0x0, 0x3F, false⟩,
  ⟨0x40000100, 1, 0x4, 1, 0x4, 0x20, 0x0, 0x0, 0x0, 0x0, 0x3, false⟩,
  ⟨0x40000104, 1, 0x4, 1, 0x4, 0x0, 0x0, 0x0, 0x0, 0x0, 0x0, true⟩,
  ⟨0x40000108, 1, 0x4, 1, 0x4, 0x0, 0x0, 0x0, 0x0, 0x0, 0x8000000, false⟩,
  ⟨0x4000011C, 1, 0x4, 1, 0x4, 0x0, 0x0, 0x0, 0x0, 0x0, 0x0, false⟩]
/-- Rows of the block at 0x4001_0000. -/
def rows4001 : List RegRow := [
  ⟨0x40010018, 1, 0x4, 1, 0x4, 0x0, 0x0, 0x0, 0x0, 0x0, 0x0, false⟩,
  ⟨0x40010028, 1, 0x4, 1, 0x4, 0x0, 0x0, 0x0, 0x0, 0x0, 0xFF, false⟩,
  ⟨0x40010034, 1, 0x4, 1, 0x4, 0x0, 0x0, 0x0, 0x0, 0x0, 0x0, false⟩,
  ⟨0x40010040, 16, 0x4, 1, 0x4, 0x0, 0x0, 0x0, 0x0, 0xFFFFFFFF, 0x0, false⟩]
/-- Rows of the block at 0x4002_0000. -/
def rows4002 : List RegRow := [
  ⟨0x40020100, 7, 0x100, 16, 0x8, 0x0, 0x0, 0xFFFFF00F, 0x0, 0x0, 0x0, false⟩,
  ⟨0x40020104, 7, 0x100, 16, 0x8, 0x0, 0x0, 0xFFFFF001, 0x0, 0x0, 0x0, false⟩,
  ⟨0x40020810, 7, 0x10, 1, 0x4, 0x0, 0x0, 0x7FFFFFF, 0x0, 0x0, 0x0, false⟩,
  ⟨0x40020814, 7, 0x10, 1, 0x4, 0x0, 0x0, 0x13, 0x0, 0x0, 0x0, false⟩,
  ⟨0x40020818, 7, 0x10, 1, 0x4, 0x0, 0x0, 0xFFFFFFFE, 0x0, 0x0, 0x0, false⟩,
  ⟨0x4002081C, 7, 0x10, 1, 0x4, 0x0, 0x0, 0xFFFFFFFC, 0x0, 0x0, 0x0, false⟩,
  ⟨0x40020880, 4, 0x4, 1, 0x4, 0x3E8, 0x0, 0xFFFF, 0x0, 0x0, 0x0, false⟩,
  ⟨0x400208A0, 1, 0x4, 1, 0x4, 0x0, 0x0, 0x0, 0x0, 0x0, 0x0, false⟩,
  ⟨0x400208A4, 1, 0x4, 1, 0x4, 0x0, 0x0, 0x0, 0x0, 0x0, 0x0, false⟩,
  ⟨0x400208A8, 1, 0x4, 1, 0x4, 0x0, 0x0, 0x0, 0x0, 0x0, 0x0, false⟩,
  ⟨0x400208AC, 1, 0x4, 1, 0x4, 0x0, 0x0, 0x0, 0x0, 0x0, 0x0, false⟩,
  ⟨0x400208C0, 1, 0x4, 1, 0x4, 0x0, 0x0, 0x0, 0x0, 0x0, 0x3, false⟩,
  ⟨0x400208C4, 1, 0x4, 1, 0x4, 0x0, 0x0, 0x0, 0x0, 0x0, 0x0, false⟩,
  ⟨0x400208C8, 1, 0x4, 1, 0x4, 0x0, 0x0, 0x0, 0x0, 0x0, 0x0, true⟩,
  ⟨0x400208CC, 1, 0x4, 1, 0x4, 0x80000100, 0x0, 0x8000FFFF, 0x0, 0x0, 0x0, false⟩,
  ⟨0x400208D0, 1, 0x4, 1, 0x4, 0x0, 0x0, 0x0, 0x3, 0x0, 0x0, false⟩]
/-- Rows of the block at 0x4003_0000. -/
def rows4003 : List RegRow := [
  ⟨0x40030000, 768, 0x4, 1, 0x4, 0xF0000, 0x0, 0xF0007, 0x0, 0x0, 0x0, false⟩,
  ⟨0x40031000, 768, 0x4, 1, 0x4, 0x0, 0x1, 0x0, 0x0, 0x0, 0x20000000, false⟩,
  ⟨0x40032020, 1, 0x4, 1, 0x4, 0x0, 0x0, 0x0, 0x0, 0x0, 0x0, false⟩,
  ⟨0x40032024, 1, 0x4, 1, 0x4, 0x0, 0x0, 0x0, 0x0, 0x0, 0x0, false⟩]
/-- Rows of the block at 0x4004_0000. -/
def rows4004 : List RegRow := [
  ⟨0x40040000, 32, 0x40, 1, 0x4, 0x30000, 0x0, 0x7030000, 0x0, 0x0, 0x0, false⟩,
  ⟨0x40040004, 32, 0x40, 1, 0x4, 0x0, 0x3F, 0x0, 0x0, 0x0, 0x0, false⟩,
  ⟨0x40040008, 32, 0x40, 1, 0x4, 0x0, 0xFFFFFFF0, 0x0, 0x0, 0x0, 0x0, false⟩,
  ⟨0x40040010, 32, 0x40, 1, 0x4, 0x0, 0x0, 0x0, 0x0, 0x0, 0x0, false⟩,
  ⟨0x40040014, 32, 0x40, 1, 0x4, 0x0, 0xFFFFFFFF, 0x0, 0x0, 0x0, 0x0, false⟩,
  ⟨0x40040018, 32, 0x40, 1, 0x4, 0x0, 0xFFFFFFFF, 0x0, 0x0, 0x0, 0x0, false⟩,
  ⟨0x4004001C, 32, 0x40, 1, 0x4, 0x0, 0x8000FFFF, 0x0, 0x0, 0x0, 0x0, false⟩,
  ⟨0x40040020, 32, 0x40, 1, 0x4, 0x0, 0xFFFFFFF0, 0x0, 0x0, 0x0, 0x0, false⟩,
  ⟨0x40040024, 32, 0x40, 1, 0x4, 0x0, 0x0, 0x0, 0x0, 0x0, 0x0, false⟩,
  ⟨0x40040028, 32, 0x40, 1, 0x4, 0x0, 0x0, 0x0, 0x0, 0x0, 0x0, false⟩,
  ⟨0x4004002C, 32, 0x40, 1, 0x4, 0x0, 0x0, 0x0, 0x0, 0x0, 0x0, false⟩,
  ⟨0x40040030, 32, 0x40, 1, 0x4, 0x0, 0x0, 0x0, 0x0, 0x0, 0x7, false⟩,
  ⟨0x40040804, 1, 0x4, 1, 0x4, 0x0, 0x0, 0x0, 0x0, 0x0, 0x0, false⟩]
/-- Rows of the block at 0x4010_0000. -/
def rows4010 : List RegRow := [
  ⟨0x40100000, 6, 0x1000, 1, 0x4, 0x400, 0x6000FCFF, 0xFF0000, 0x0, 0x0, 0x0, false⟩,
  ⟨0x40100004, 6, 0x1000, 1, 0x4, 0x14, 0x3F, 0x0, 0x0, 0x0, 0x0, false⟩,
  ⟨0x40100008, 6, 0x1000, 1, 0x4, 0xFF, 0xFF, 0x0, 0x0, 0x0, 0x0, false⟩,
  ⟨0x4010000C, 6, 0x1000, 1, 0x4, 0x200003, 0xFF000F, 0x7000000, 0x0, 0x0, 0x0, false⟩,
  ⟨0x40100018, 6, 0x1000, 1, 0x4, 0x0, 0x0, 0x0, 0x0, 0x0, 0x7FF, false⟩,
  ⟨0x40100028, 6, 0x1000, 1, 0x4, 0x1, 0x0, 0x0, 0x0, 0x0, 0x0, false⟩,
  ⟨0x4010002C, 6, 0x1000, 1, 0x4, 0x0, 0x0, 0x0, 0x0, 0x0, 0x0, false⟩,
  ⟨0x40100030, 6, 0x1000, 1, 0x4, 0x0, 0x0, 0x0, 0x0, 0x0, 0x0, false⟩,
  ⟨0x40100034, 6, 0x1000, 1, 0x4, 0x0, 0x0, 0x0, 0x0, 0x0, 0x0, false⟩,
  ⟨0x40100038, 6, 0x1000, 1, 0x4, 0x0, 0x0, 0x0, 0x0, 0x0, 0x1E, false⟩]
/-- Rows of the block at 0x4011_0000. -/
def rows4011 : List RegRow := [
  ⟨0x40110000, 8, 0x1000, 1, 0x4, 0x0, 0xFFFF, 0x0, 0x0, 0x0, 0x0, false⟩,
  ⟨0x40110008, 8, 0x1000, 1, 0x4, 0x0, 0xFF, 0x0, 0x0, 0x0, 0x0, false⟩,
  ⟨0x4011000C, 8, 0x1000, 1, 0x4, 0x0, 0x0, 0x0, 0x0, 0x0, 0x0, false⟩,
  ⟨0x40110010, 8, 0x1000, 1, 0x4, 0x0, 0x1, 0x0, 0x0, 0x0, 0x0, false⟩,
  ⟨0x40110014, 8, 0x1000, 1, 0x4, 0x62, 0xFF, 0x0, 0x0, 0x0, 0x0, false⟩,
  ⟨0x40110018, 8, 0x1000, 1, 0x4, 0x0, 0xFFFFFFFF, 0x0, 0x0, 0x0, 0x0, false⟩,
  ⟨0x4011001C, 8, 0x1000, 1, 0x4, 0x0, 0xFFFFFFFF, 0x0, 0x0, 0x0, 0x0, false⟩,
  ⟨0x40110020, 8, 0x1000, 1, 0x4, 0x0, 0xFFFFFFFF, 0x0, 0x0, 0x0, 0x0, false⟩,
  ⟨0x40110024, 8, 0x1000, 1, 0x4, 0x0, 0xFFFFFFFF, 0x0, 0x0, 0x0, 0x0, false⟩,
  ⟨0x40110028, 8, 0x1000, 1, 0x4, 0x0, 0x0, 0x0, 0x0, 0x0, 0x0, false⟩,
  ⟨0x4011002C, 8, 0x1000, 1, 0x4, 0x0, 0x0, 0x0, 0x0, 0x0, 0x3F, false⟩,
  ⟨0x40110030, 8, 0x1000, 1, 0x4, 0x0, 0x0, 0x0, 0x0, 0x0, 0x0, false⟩,
  ⟨0x40110038, 8, 0x1000, 1, 0x4, 0x0, 0x1, 0x0, 0x0, 0x0, 0x0, false⟩,
  ⟨0x40110040, 8, 0x1000, 1, 0x4, 0x23A00, 0x71EFF00, 0x0, 0x0, 0x0, 0x0, false⟩,
  ⟨0x40110044, 8, 0x1000, 1, 0x4, 0x15800C8, 0x1FF01FF, 0x0, 0x0, 0x0, 0x0, false⟩,
  ⟨0x40110048, 8, 0x1000, 1, 0x4, 0x50F0096, 0xFFDF03FF, 0x0, 0x0, 0x0, 0x0, false⟩,
  ⟨0x4011004C, 8, 0x1000, 1, 0x4, 0x1000000, 0xFFFFFFFF, 0x0, 0x0, 0x0, 0x0, false⟩,
  ⟨0x40110050, 8, 0x1000, 1, 0x4, 0x0, 0xFFFFFFFF, 0x0, 0x0, 0x0, 0x0, false⟩,
  ⟨0x40110054, 8, 0x1000, 1, 0x4, 0x0, 0xFFFF, 0x0, 0x0, 0x0, 0x0, false⟩,
  ⟨0x40110058, 8, 0x1000, 1, 0x4, 0x0, 0xFFFFFFFF, 0x0, 0x0, 0x0, 0x0, false⟩,
  ⟨0x4011005C, 8, 0x1000, 1, 0x4, 0x0, 0xFFFFFFFF, 0x0, 0x0, 0x0, 0x0, false⟩,
  ⟨0x40110060, 8, 0x1000, 3, 0x4, 0x0, 0x870300FF, 0x0, 0x0, 0x0, 0x0, false⟩,
  ⟨0x401100A8, 8, 0x1000, 1, 0x4, 0x0, 0x0, 0x0, 0x0, 0x0, 0x40000000, false⟩,
  ⟨0x401100B4, 8, 0x1000, 1, 0x4, 0x0, 0x0, 0x0, 0x0, 0x0, 0x40000000, false⟩,
  ⟨0x401100C0, 8, 0x1000, 1, 0x4, 0x0, 0xFFFF, 0x0, 0x0, 0x0, 0x0, false⟩,
  ⟨0x401100C4, 8, 0x1000, 1, 0x4, 0x0, 0xFFFFFFFF, 0x0, 0x0, 0x0, 0x0, false⟩,
  ⟨0x401100C8, 8, 0x1000, 1, 0x4, 0x0, 0x0, 0x0, 0x0, 0x0, 0x0, false⟩,
  ⟨0x401100CC, 8, 0x1000, 1, 0x4, 0x0, 0x0, 0x0, 0x0, 0x0, 0x0, false⟩,
  ⟨0x401100D0, 8, 0x1000, 1, 0x4, 0x0, 0x0, 0x0, 0x0, 0x0, 0x0, false⟩,
  ⟨0x401100D4, 8, 0x1000, 1, 0x4, 0x0, 0x0, 0x0, 0x0, 0x0, 0x0, false⟩,
  ⟨0x401100D8, 8, 0x1000, 1, 0x4, 0x0, 0x0, 0x0, 0x0, 0x0, 0x0, false⟩,
  ⟨0x401100DC, 8, 0x1000, 1, 0x4, 0x0, 0x0, 0x0, 0x0, 0x0, 0x0, false⟩,
  ⟨0x401100E0, 8, 0x1000, 1, 0x4, 0x0, 0x0, 0x0, 0x0, 0x0, 0x0, false⟩,
  ⟨0x401100E4, 8, 0x1000, 1, 0x4, 0x0, 0x0, 0x0, 0x0, 0x0, 0x1, false⟩,
  ⟨0x401100E8, 8, 0x1000, 1, 0x4, 0x0, 0x0, 0x0, 0x0, 0x0, 0x0, false⟩,
  ⟨0x401100EC, 8, 0x1000, 1, 0x4, 0x0, 0x0, 0x0, 0x0, 0x0, 0x0, false⟩,
  ⟨0x401100F0, 8, 0x1000, 1, 0x4, 0x0, 0x0, 0x0, 0x0, 0x0, 0x0, false⟩,
  ⟨0x401100F8, 8, 0x1000, 1, 0x4, 0x0, 0x0, 0x0, 0x0, 0x0, 0x0, false⟩,
  ⟨0x401100FC, 8, 0x1000, 1, 0x4, 0x0, 0x0, 0x0, 0x0, 0x0, 0x0, false⟩]
/-- Rows of the block at 0x4012_0000. -/
def rows4012 : List RegRow := [
  ⟨0x40120000, 64, 0x10, 1, 0x4, 0x0, 0x87700000, 0x0, 0x0, 0x0, 0x0, false⟩,
  ⟨0x40120004, 64, 0x10, 1, 0x4, 0x40000000, 0xFFFFFFFF, 0x0, 0x0, 0x0, 0x0, false⟩,
  ⟨0x40120008, 64, 0x10, 1, 0x4, 0x0, 0x0, 0x0, 0x0, 0x0, 0x0, false⟩,
  ⟨0x4012000C, 64, 0x10, 1, 0x4, 0x0, 0x0, 0x0, 0x0, 0x0, 0x6, false⟩,
  ⟨0x40120400, 8, 0x4, 1, 0x4, 0x19, 0x833FF0FF, 0x0, 0x0, 0x0, 0x0, false⟩,
  ⟨0x40120500, 1, 0x4, 1, 0x4, 0x0, 0x87000000, 0x0, 0x0, 0x0, 0x0, false⟩]
/-- Rows of the block at 0x4013_0000. -/
def rows4013 : List RegRow := [
  ⟨0x40130008, 2, 0x4, 1, 0x4, 0x0, 0x0, 0x0, 0x0, 0x0, 0x20000000, false⟩,
  ⟨0x40130010, 2, 0x4, 1, 0x4, 0x0, 0x0, 0x0, 0x0, 0x0, 0x0, false⟩,
  ⟨0x40130018, 1, 0x4, 1, 0x4, 0x0, 0xFFFFFF, 0x0, 0x0, 0x0, 0x0, false⟩,
  ⟨0x4013001C, 1, 0x4, 1, 0x4, 0x0, 0x0, 0x0, 0x0, 0x0, 0xFF, false⟩,
  ⟨0x40130020, 1, 0x4, 1, 0x4, 0x0, 0x0, 0x0, 0x0, 0x0, 0x0, false⟩,
  ⟨0x40130024, 1, 0x4, 1, 0x4, 0x0, 0x0, 0x0, 0x0, 0x0, 0x1, false⟩,
  ⟨0x40130030, 1, 0x4, 1, 0x4, 0x0, 0x800000FF, 0x0, 0x0, 0x0, 0x0, false⟩,
  ⟨0x40130100, 8, 0x80, 1, 0x4, 0x0, 0xF300FFFF, 0x0, 0x0, 0x0, 0x0, false⟩,
  ⟨0x40130104, 8, 0x80, 1, 0x4, 0x1000, 0x1FFFFF, 0x0, 0x0, 0x0, 0x0, false⟩,
  ⟨0x40130108, 8, 0x80, 1, 0x4, 0x0, 0xFFFFFFFF, 0x0, 0x0, 0x0, 0x0, false⟩,
  ⟨0x4013010C, 8, 0x80, 1, 0x4, 0x0, 0x1FFFFF, 0x0, 0x0, 0x0, 0x0, false⟩,
  ⟨0x40130110, 8, 0x80, 1, 0x4, 0x0, 0xFFFFFFFF, 0x0, 0x0, 0x0, 0x0, false⟩,
  ⟨0x40130114, 8, 0x80, 1, 0x4, 0x0, 0x0, 0x0, 0x0, 0x0, 0x0, false⟩,
  ⟨0x40130118, 8, 0x80, 1, 0x4, 0x0, 0x0, 0x0, 0x0, 0x0, 0x0, false⟩,
  ⟨0x4013011C, 8, 0x80, 1, 0x4, 0x0, 0x0, 0x0, 0x0, 0x0, 0x0, false⟩,
  ⟨0x40130120, 8, 0x80, 1, 0x4, 0x0, 0x0, 0x0, 0x0, 0x0, 0x0, false⟩,
  ⟨0x40130124, 8, 0x80, 1, 0x4, 0x0, 0x0, 0x0, 0x0, 0x0, 0x0, false⟩,
  ⟨0x40130128, 8, 0x80, 1, 0x4, 0x0, 0x0, 0x0, 0x0, 0x0, 0xF, false⟩,
  ⟨0x4013012C, 8, 0x80, 1, 0x4, 0x0, 0x0, 0x0, 0x0, 0x0, 0x0, false⟩,
  ⟨0x40130130, 8, 0x80, 1, 0x4, 0x0, 0x0, 0x0, 0x0, 0x0, 0x0, false⟩,
  ⟨0x40130134, 8, 0x80, 1, 0x4, 0x0, 0x0, 0x0, 0x0, 0x0, 0x0, false⟩,
  ⟨0x40130138, 8, 0x80, 2, 0x4, 0x0, 0x0, 0x0, 0x0, 0x0, 0x0, false⟩,
  ⟨0x40130140, 8, 0x80, 2, 0x4, 0x0, 0x0, 0x0, 0x0, 0x0, 0x0, false⟩,
  ⟨0x40130148, 8, 0x80, 1, 0x4, 0x1000080, 0xFFFFFFFF, 0x0, 0x0, 0x0, 0x0, false⟩,
  ⟨0x4013014C, 8, 0x80, 1, 0x4, 0x80640064, 0xFFFF03FF, 0x0, 0x0, 0x0, 0x0, false⟩,
  ⟨0x40130600, 8, 0x40, 1, 0x4, 0x10000, 0xE0FFFFFF, 0x0, 0x0, 0x0, 0x0, false⟩,
  ⟨0x40130604, 8, 0x40, 1, 0x4, 0x0, 0xFFFFFFFF, 0x0, 0x0, 0x0, 0x0, false⟩,
  ⟨0x40130608, 8, 0x40, 1, 0x4, 0x70, 0x0, 0x0, 0x0, 0x0, 0x0, false⟩,
  ⟨0x4013060C, 8, 0x40, 1, 0x4, 0x0, 0x0, 0x0, 0x0, 0x0, 0x3, false⟩,
  ⟨0x40130610, 8, 0x40, 1, 0x4, 0x0, 0x0, 0x0, 0x0, 0x0, 0x0, false⟩,
  ⟨0x40130614, 8, 0x40, 1, 0x4, 0x0, 0x0, 0x0, 0x0, 0x0, 0x0, false⟩,
  ⟨0x40130618, 8, 0x40, 1, 0x4, 0x0, 0x0, 0x0, 0x0, 0x0, 0x0, false⟩,
  ⟨0x4013061C, 8, 0x40, 1, 0x4, 0x0, 0x0, 0x0, 0x0, 0x0, 0x0, false⟩,
  ⟨0x40130620, 8, 0x40, 2, 0x4, 0x0, 0x0, 0x0, 0x0, 0x0, 0x0, false⟩,
  ⟨0x40130628, 8, 0x40, 1, 0x4, 0x640000, 0x3FFF0000, 0x0, 0x0, 0x0, 0x0, false⟩,
  ⟨0x40130800, 4, 0x40, 1, 0x4, 0x180D00, 0xFF9F1FFF, 0x0, 0x0, 0x0, 0x0, false⟩,
  ⟨0x40130804, 4, 0x40, 1, 0x4, 0x3E8007D, 0x3FFF07FF, 0x0, 0x0, 0x0, 0x0, false⟩,
  ⟨0x40130808, 4, 0x40, 1, 0x4, 0x3140064, 0xFFFF3FFF, 0x0, 0x0, 0x0, 0x0, false⟩,
  ⟨0x4013080C, 4, 0x40, 1, 0x4, 0x0, 0xFFFFFFFF, 0x0, 0x0, 0x0, 0x0, false⟩,
  ⟨0x40130810, 4, 0x40, 1, 0x4, 0x0, 0x0, 0x0, 0x0, 0x0, 0x0, false⟩,
  ⟨0x40130814, 4, 0x40, 1, 0x4, 0x0, 0x0, 0x0, 0x0, 0x0, 0x3, false⟩,
  ⟨0x40130818, 4, 0x40, 1, 0x4, 0x0, 0x0, 0x0, 0x0, 0x0, 0x0, false⟩,
  ⟨0x4013081C, 4, 0x40, 1, 0x4, 0x0, 0x0, 0x0, 0x0, 0x0, 0x0, false⟩,
  ⟨0x40130820, 4, 0x40, 1, 0x4, 0x0, 0x0, 0x0, 0x0, 0x0, 0x0, false⟩,
  ⟨0x40130824, 4, 0x40, 2, 0x4, 0x0, 0x0, 0x0, 0x0, 0x0, 0x0, false⟩]
/-- Rows of the block at 0x4014_0000. -/
def rows4014 : List RegRow := [
  ⟨0x40140000, 1, 0x4, 1, 0x4, 0x80014, 0xE00F00FF, 0x0, 0x0, 0x0, 0x0, false⟩,
  ⟨0x4014000C, 1, 0x4, 1, 0x4, 0x0, 0x0, 0x0, 0x0, 0x0, 0xFF, false⟩,
  ⟨0x40140018, 2, 0x4, 1, 0x4, 0x0, 0x0, 0x0, 0x0, 0x0, 0x0, false⟩,
  ⟨0x40140020, 2, 0x4, 1, 0x4, 0x0, 0x0, 0x0, 0x0, 0x0, 0x0, false⟩,
  ⟨0x40140028, 1, 0x4, 1, 0x4, 0x0, 0x0, 0x0, 0x0, 0x0, 0x0, false⟩,
  ⟨0x4014002C, 1, 0x4, 1, 0x4, 0x0, 0x0, 0x0, 0x0, 0x0, 0x0, false⟩,
  ⟨0x40140030, 1, 0x4, 1, 0x4, 0x0, 0x0, 0x0, 0x0, 0x0, 0x0, false⟩,
  ⟨0x40140034, 1, 0x4, 1, 0x4, 0x0, 0x0, 0x0, 0x0, 0x0, 0x0, false⟩,
  ⟨0x40140038, 1, 0x4, 1, 0x4, 0x0, 0x0, 0x0, 0x0, 0x0, 0x0, false⟩,
  ⟨0x4014003C, 1, 0x4, 1, 0x4, 0x0, 0x0, 0x0, 0x0, 0x0, 0x3, false⟩,
  ⟨0x40140040, 2, 0x4, 1, 0x4, 0x0, 0xFFFFFFFF, 0x0, 0x0, 0x0, 0x0, false⟩,
  ⟨0x40140048, 2, 0x4, 1, 0x4, 0x0, 0xFFFFFFFF, 0x0, 0x0, 0x0, 0x0, false⟩,
  ⟨0x40140100, 16, 0x80, 1, 0x4, 0x0, 0x8F3FFFFF, 0x0, 0x0, 0x0, 0x0, false⟩,
  ⟨0x40140104, 16, 0x80, 1, 0x4, 0x641032, 0xFFFFFFFF, 0x0, 0x0, 0x0, 0x0, false⟩,
  ⟨0x40140108, 16, 0x80, 1, 0x4, 0x0, 0xFFFFFFFF, 0x0, 0x0, 0x0, 0x0, false⟩,
  ⟨0x4014010C, 16, 0x80, 1, 0x4, 0x0, 0xFFFFFFFF, 0x0, 0x0, 0x0, 0x0, false⟩,
  ⟨0x40140110, 16, 0x80, 1, 0x4, 0x0, 0x0, 0x0, 0x0, 0x0, 0x0, false⟩,
  ⟨0x40140114, 16, 0x80, 1, 0x4, 0x0, 0x0, 0x0, 0x0, 0x0, 0x0, false⟩,
  ⟨0x40140118, 16, 0x80, 1, 0x4, 0x0, 0x0, 0x0, 0x0, 0x0, 0x0, false⟩,
  ⟨0x4014011C, 16, 0x80, 1, 0x4, 0x0, 0x0, 0x0, 0x0, 0x0, 0x0, false⟩,
  ⟨0x40140140, 16, 0x80, 16, 0x4, 0x0, 0x0, 0x0, 0x0, 0x0, 0x0, false⟩,
  ⟨0x40140900, 8, 0x4, 1, 0x4, 0x0, 0x8FFFFFFF, 0x0, 0x0, 0x0, 0x0, false⟩]
/-- Rows of the block at 0x4015_0000. -/
def rows4015 : List RegRow := [
  ⟨0x40150000, 2, 0x100, 1, 0x4, 0x10000000, 0xF80000FF, 0x0, 0x0, 0x0, 0x0, false⟩,
  ⟨0x40150004, 2, 0x100, 1, 0x4, 0x2270A0A, 0xFFFF7F7F, 0x0, 0x0, 0x0, 0x0, false⟩,
  ⟨0x40150008, 2, 0x100, 1, 0x4, 0x1130505, 0x1F1F0F0F, 0x0, 0x0, 0x0, 0x0, false⟩,
  ⟨0x4015000C, 2, 0x100, 1, 0x4, 0xC0000000, 0x0, 0x0, 0x0, 0x0, 0x10000000, false⟩,
  ⟨0x40150010, 2, 0x100, 1, 0x4, 0x0, 0x0, 0x0, 0x0, 0x0, 0x0, false⟩,
  ⟨0x40150014, 2, 0x100, 1, 0x4, 0x0, 0x0, 0x0, 0x0, 0x0, 0x0, false⟩,
  ⟨0x40150018, 2, 0x100, 1, 0x4, 0x0, 0x0, 0x0, 0x0, 0x0, 0x0, false⟩,
  ⟨0x4015001C, 2, 0x100, 1, 0x4, 0x0, 0x0, 0x0, 0x0, 0x0, 0x7F, false⟩]
/-- Rows of the block at 0x4016_0000. -/
def rows4016 : List RegRow := [
  ⟨0x40160000, 1, 0x4, 1, 0x4, 0x0, 0x0, 0x0, 0x0, 0x0, 0x0, false⟩,
  ⟨0x40160004, 1, 0x4, 1, 0x4, 0x0, 0xFFFF, 0x0, 0x0, 0x0, 0x0, false⟩,
  ⟨0x4016000C, 1, 0x4, 1, 0x4, 0x80, 0xC00007FF, 0x0, 0x0, 0x0, 0x0, false⟩,
  ⟨0x40160010, 1, 0x4, 1, 0x4, 0x0, 0x0, 0x0, 0x0, 0x0, 0x1, false⟩,
  ⟨0x40160014, 1, 0x4, 1, 0x4, 0x0, 0x0, 0x0, 0x0, 0x0, 0x1F, false⟩,
  ⟨0x40160018, 1, 0x4, 1, 0x4, 0x0, 0x0, 0x0, 0x0, 0x0, 0xFFFF, false⟩,
  ⟨0x4016001C, 1, 0x4, 1, 0x4, 0x0, 0x0, 0x0, 0x0, 0x0, 0xFF, false⟩,
  ⟨0x40160020, 4, 0x4, 1, 0x4, 0x0, 0x807FFFFF, 0x0, 0x0, 0x0, 0x0, false⟩,
  ⟨0x40160100, 16, 0x80, 1, 0x4, 0x80000000, 0x800007FF, 0x0, 0x0, 0x0, 0x0, false⟩,
  ⟨0x40160104, 16, 0x80, 1, 0x4, 0x3FF0000, 0x3FFFFFF, 0x0, 0x0, 0x0, 0x0, false⟩,
  ⟨0x40160108, 16, 0x80, 1, 0x4, 0x0, 0x0, 0x0, 0x0, 0x0, 0x3, false⟩,
  ⟨0x4016010C, 16, 0x80, 1, 0x4, 0x0, 0x0, 0x0, 0x0, 0x0, 0x0, false⟩,
  ⟨0x40160110, 16, 0x80, 1, 0x4, 0x0, 0x0, 0x0, 0x0, 0x0, 0x0, false⟩,
  ⟨0x40160140, 16, 0x80, 16, 0x4, 0x0, 0xFFFFFFE0, 0x0, 0x0, 0x0, 0x0, false⟩,
  ⟨0x40160900, 16, 0x80, 1, 0x4, 0x80000000, 0x800007FF, 0x0, 0x0, 0x0, 0x0, false⟩,
  ⟨0x40160904, 16, 0x80, 1, 0x4, 0x3FF0000, 0xFFFFFFFF, 0x0, 0x0, 0x0, 0x0, false⟩,
  ⟨0x40160908, 16, 0x80, 1, 0x4, 0x0, 0x0, 0x0, 0x0, 0x0, 0x3, false⟩,
  ⟨0x4016090C, 16, 0x80, 1, 0x4, 0x0, 0x0, 0x0, 0x0, 0x0, 0x0, false⟩,
  ⟨0x40160910, 16, 0x80, 1, 0x4, 0x0, 0x0, 0x0, 0x0, 0x0, 0x0, false⟩,
  ⟨0x40160940, 16, 0x80, 16, 0x4, 0x0, 0xFFFFFFE0, 0x0, 0x0, 0x0, 0x0, false⟩]
/-- Rows of the block at 0x4017_0000. -/
def rows4017 : List RegRow := [
  ⟨0x40170004, 1, 0x4, 1, 0x4, 0x0, 0xFFFFFFFF, 0x0, 0x0, 0x0, 0x0, false⟩,
  ⟨0x40170008, 1, 0x4, 1, 0x4, 0x0, 0x0, 0x0, 0x0, 0x0, 0x0, false⟩,
  ⟨0x4017000C, 1, 0x4, 1, 0x4, 0x0, 0x0, 0x0, 0x0, 0x0, 0x0, false⟩,
  ⟨0x40170010, 1, 0x4, 1, 0x4, 0x0, 0x0, 0x0, 0x0, 0x0, 0x3, false⟩]
/-- Rows of the block at 0x4018_0000. -/
def rows4018 : List RegRow := [
  ⟨0x40180000, 8, 0x20, 1, 0x4, 0x12C, 0x83070FFF, 0x0, 0x0, 0x0, 0x0, false⟩,
  ⟨0x40180004, 8, 0x20, 1, 0x4, 0x0, 0x5C000000, 0x0, 0x0, 0x0, 0x0, false⟩,
  ⟨0x40180008, 8, 0x20, 1, 0x4, 0x3232, 0xFFFF, 0x0, 0x0, 0x0, 0x0, false⟩,
  ⟨0x4018000C, 8, 0x20, 1, 0x4, 0x0, 0x0, 0x0, 0x0, 0x0, 0x7, false⟩,
  ⟨0x40180010, 8, 0x20, 1, 0x4, 0x0, 0x0, 0x0, 0x0, 0x0, 0x0, false⟩,
  ⟨0x40180014, 8, 0x20, 1, 0x4, 0x0, 0x0, 0x0, 0x0, 0x0, 0x0, false⟩,
  ⟨0x40180100, 8, 0x10, 1, 0x4, 0x0, 0xE0FFFFFF, 0x0, 0x0, 0x0, 0x0, false⟩,
  ⟨0x40180104, 8, 0x10, 1, 0x4, 0x14, 0xFF, 0x0, 0x0, 0x0, 0x0, false⟩,
  ⟨0x40180108, 8, 0x10, 1, 0x4, 0x0, 0x0, 0x0, 0x0, 0x0, 0x0, false⟩,
  ⟨0x40180214, 8, 0x40, 1, 0x4, 0x0, 0x0, 0x0, 0x0, 0x0, 0x40000000, false⟩,
  ⟨0x40180218, 8, 0x40, 1, 0x4, 0x0, 0xE0000000, 0x0, 0x0, 0x0, 0x0, false⟩,
  ⟨0x4018021C, 8, 0x40, 1, 0x4, 0x0, 0xFFFFFF03, 0x0, 0x0, 0x0, 0x0, false⟩,
  ⟨0x40180220, 8, 0x40, 1, 0x4, 0xFF00, 0xFFFFFF00, 0x0, 0x0, 0x0, 0x0, false⟩,
  ⟨0x40180224, 8, 0x40, 1, 0x4, 0x100, 0xFFFF, 0x0, 0x0, 0x0, 0x0, false⟩,
  ⟨0x40180228, 8, 0x40, 1, 0x4, 0x0, 0x0, 0x0, 0x0, 0x0, 0x0, false⟩,
  ⟨0x4018022C, 8, 0x40, 1, 0x4, 0x0, 0x0, 0x0, 0x0, 0x0, 0x0, false⟩,
  ⟨0x40180230, 8, 0x40, 1, 0x4, 0x0, 0x0, 0x0, 0x0, 0x0, 0x0, false⟩,
  ⟨0x40180400, 8, 0x10, 1, 0x4, 0x0, 0xF780FFFF, 0x0, 0x0, 0x0, 0x0, false⟩,
  ⟨0x40180404, 8, 0x10, 1, 0x4, 0x0, 0x0, 0x0, 0x0, 0x0, 0x0, false⟩,
  ⟨0x40180408, 8, 0x10, 1, 0x4, 0x0, 0x0, 0x0, 0x0, 0x0, 0x0, false⟩,
  ⟨0x4018040C, 8, 0x10, 1, 0x4, 0x0, 0x0, 0x0, 0x0, 0x0, 0x0, false⟩,
  ⟨0x40180500, 1, 0x4, 1, 0x4, 0x0, 0x0, 0x0, 0x0, 0x0, 0x0, false⟩,
  ⟨0x40180510, 4, 0x8, 1, 0x4, 0x0, 0x8703FFFF, 0x0, 0x0, 0x0, 0x0, false⟩,
  ⟨0x40180514, 4, 0x8, 1, 0x4, 0x0, 0xFFFF, 0x0, 0x0, 0x0, 0x0, false⟩,
  ⟨0x40180600, 1, 0x4, 1, 0x4, 0x0, 0x0, 0x0, 0x0, 0x0, 0x0, false⟩,
  ⟨0x40180604, 1, 0x4, 1, 0x4, 0xA, 0xFFFF, 0x0, 0x0, 0x0, 0x0, false⟩,
  ⟨0x40180608, 1, 0x4, 1, 0x4, 0x0, 0x0, 0x0, 0x0, 0x0, 0xFF, false⟩,
  ⟨0x4018060C, 1, 0x4, 1, 0x4, 0x0, 0xF, 0x0, 0x0, 0x0, 0x0, false⟩,
  ⟨0x40180610, 1, 0x4, 1, 0x4, 0x0, 0x0, 0x0, 0x0, 0x0, 0xF, false⟩,
  ⟨0x40180700, 1, 0x4, 1, 0x4, 0x0, 0x0, 0x0, 0x0, 0x0, 0x1, false⟩,
  ⟨0x40180704, 1, 0x4, 1, 0x4, 0x0, 0x0, 0x0, 0x0, 0x0, 0xFF1F, false⟩]
/-- Rows of the block at 0x4019_0000. -/
def rows4019 : List RegRow := [
  ⟨0x40190004, 3, 0x4, 1, 0x4, 0x0, 0xFFFFFFFF, 0x0, 0x0, 0x0, 0x0, false⟩,
  ⟨0x40190010, 1, 0x4, 1, 0x4, 0x0, 0x0, 0x0, 0x0, 0x0, 0x0, false⟩,
  ⟨0x40190014, 1, 0x4, 1, 0x4, 0x0, 0x0, 0x0, 0x0, 0x0, 0x0, false⟩,
  ⟨0x40190018, 1, 0x4, 1, 0x4, 0x0, 0x0, 0x0, 0x0, 0x0, 0x0, false⟩,
  ⟨0x4019001C, 1, 0x4, 1, 0x4, 0x0, 0x0, 0x0, 0x0, 0x0, 0x0, false⟩,
  ⟨0x40190044, 1, 0x4, 1, 0x4, 0x0, 0x0, 0x0, 0x0, 0x0, 0x0, false⟩,
  ⟨0x4019004C, 1, 0x4, 1, 0x4, 0x0, 0x0, 0x0, 0x0, 0x0, 0x3, false⟩,
  ⟨0x40190050, 1, 0x4, 1, 0x4, 0x0, 0x0, 0x0, 0x0, 0x0, 0x0, false⟩]
/-- Rows of the block at 0x401A_0000. -/
def rows401A : List RegRow := [
  ⟨0x401A0000, 1, 0x4, 1, 0x4, 0x300050A, 0x8F3F1FFF, 0x0, 0x0, 0x0, 0x0, false⟩,
  ⟨0x401A0004, 1, 0x4, 1, 0x4, 0x0, 0xFFFF, 0x0, 0x0, 0x0, 0x0, false⟩,
  ⟨0x401A0008, 1, 0x4, 1, 0x4, 0x46414, 0xFFFF1F, 0x0, 0x0, 0x0, 0x0, false⟩,
  ⟨0x401A000C, 1, 0x4, 1, 0x4, 0x0, 0xFFFFFFF0, 0x0, 0x0, 0x0, 0x0, false⟩,
  ⟨0x401A0010, 1, 0x4, 1, 0x4, 0x0, 0x7FF, 0x0, 0x0, 0x0, 0x0, false⟩,
  ⟨0x401A0014, 1, 0x4, 1, 0x4, 0x0, 0xFFFFFFFF, 0x0, 0x0, 0x0, 0x0, false⟩,
  ⟨0x401A001C, 1, 0x4, 1, 0x4, 0x0, 0x0, 0x0, 0x0, 0x0, 0x20000, false⟩,
  ⟨0x401A0020, 1, 0x4, 1, 0x4, 0x0, 0x0, 0x0, 0x0, 0x0, 0x0, false⟩,
  ⟨0x401A0028, 1, 0x4, 1, 0x4, 0x0, 0x0, 0x0, 0x0, 0x0, 0x0, false⟩,
  ⟨0x401A002C, 1, 0x4, 1, 0x4, 0x0, 0x0, 0x0, 0x0, 0x0, 0x0, false⟩,
  ⟨0x401A0030, 1, 0x4, 1, 0x4, 0x0, 0x0, 0x0, 0x0, 0x0, 0x0, true⟩,
  ⟨0x401A0034, 1, 0x4, 1, 0x4, 0x0, 0x0, 0x0, 0x0, 0x0, 0x0, true⟩,
  ⟨0x401A0038, 1, 0x4, 1, 0x4, 0x0, 0x0, 0x0, 0x0, 0x0, 0x0, true⟩,
  ⟨0x401A003C, 1, 0x4, 1, 0x4, 0x0, 0x0, 0x0, 0x0, 0x0, 0x0, true⟩,
  ⟨0x401A0040, 1, 0x4, 1, 0x4, 0x0, 0x0, 0x0, 0x0, 0x0, 0x1F, false⟩,
  ⟨0x401A0060, 8, 0x4, 1, 0x4, 0x0, 0x0, 0x0, 0x0, 0x0, 0x0, true⟩]

/-- The rows of the block that holds address `a` (R30). -/
def blockRows (a : Nat) : List RegRow :=
  match a / 0x10000 with
  | 0x4000 => rows4000
  | 0x4001 => rows4001
  | 0x4002 => rows4002
  | 0x4003 => rows4003
  | 0x4004 => rows4004
  | 0x4010 => rows4010
  | 0x4011 => rows4011
  | 0x4012 => rows4012
  | 0x4013 => rows4013
  | 0x4014 => rows4014
  | 0x4015 => rows4015
  | 0x4016 => rows4016
  | 0x4017 => rows4017
  | 0x4018 => rows4018
  | 0x4019 => rows4019
  | 0x401A => rows401A
  | _ => []

/-- The row of the register at `a`, if there is one. -/
def regRow (a : Nat) : Option RegRow := (blockRows a).find? (·.covers a)

/-- The reset value of the word at `a` (register tables); 0 where there is no register (R32). -/
def resetWord (a : Nat) : Word :=
  match regRow a with
  | some r => BitVec.ofNat 32 r.reset
  | none => 0

/-- Is the register at `a` kept over a system reset ("kept" in the register tables)? -/
def keptOverReset (a : Nat) : Bool :=
  match regRow a with
  | some r => r.kept
  | none => false

end Sys2Proof.Machine
end

