-- ==== Sys2Proof/Machine/Sparse.lean ====
section
/-! DEFINITION. Sparse data by key: a list of (key, value) pairs, keys strictly rising, no entry equal to what an unlisted key
reads as. Registers, memory bytes, tag blocks and object values are held so. -/

namespace Sys2Proof.Machine

/-- What key `k` holds: the first entry for it, else the value `d` of an unlisted key. -/
def sparseGet {α : Type} (d : α) (k : Nat) : List (Nat × α) → α
  | [] => d
  | (k', v) :: t => if k' = k then v else sparseGet d k t

/-- Put an entry before the first larger key. -/
def sparseIns {α : Type} (k : Nat) (v : α) : List (Nat × α) → List (Nat × α)
  | [] => [(k, v)]
  | (k', v') :: t => if k < k' then (k, v) :: (k', v') :: t else (k', v') :: sparseIns k v t

/-- The entries of the other keys. -/
def sparseDrop {α : Type} (k : Nat) : List (Nat × α) → List (Nat × α)
  | [] => []
  | (k', v) :: t => if k' = k then sparseDrop k t else (k', v) :: sparseDrop k t

/-- Write `v` at `k`, where an unlisted key reads as `d`: writing `d` removes the entry. -/
def sparseSet {α : Type} [DecidableEq α] (d : α) (k : Nat) (v : α) (m : List (Nat × α)) : List (Nat × α) :=
  if v = d then sparseDrop k m else sparseIns k v (sparseDrop k m)

/-- The canonical form: keys strictly rising from `lo`, no entry equal to its default. -/
def sparseWf {α : Type} [DecidableEq α] (d : Nat → α) : Nat → List (Nat × α) → Bool
  | _, [] => true
  | lo, (k, v) :: t => decide (lo ≤ k) && decide (v ≠ d k) && sparseWf d (k + 1) t

end Sys2Proof.Machine
end

