-- ==== Sys2Proof/Machine/State.lean ====
section
/-! DEFINITION. The state of the block: every register, queue, buffer, counter, mode and pin the spec gives it, as plain data,
and the queue of waiting commands. Fields that the manual numbers as registers stand in `regs`, by address. -/

namespace Sys2Proof.Machine

/-! ### Names shared by the blocks -/

/-- The family members (01_architecture.md, R24 to R27). -/
inductive Member | hx1 | hx3 | hx5 | hx9
  deriving DecidableEq, Repr

/-- Lines on which the unit puts messages: the model's record of outputs. -/
inductive Line | can (ch : Fin 2) | ring | bridge | port (p : Fin 6) | reply (p : Fin 6) (sel : Fin 8) | pair | rf | service
  deriving DecidableEq, Repr

/-- One message put on a line: a header of numbers in the order its rule names them, and data bytes. -/
structure Msg where
  line : Line
  head : List Nat
  data : List Byte
  deriving DecidableEq, Repr

/-- An EMCY in the server's queue (R499): its code and its bytes 3 to 7. -/
structure Emcy where
  code : Nat
  bytes : List Nat
  deriving DecidableEq, Repr

/-! ### System control (04_reset_startup.md) -/

/-- What Haldux does as a whole. -/
inductive Phase
  | off      -- no power-on reset released yet, or the feeds are gone
  | held     -- in reset (R94, R95)
  | wait     -- left reset, PLL not locked (R117 step 3)
  | run      -- CLKS runs
  | pre      -- pre-reset phase (R94, R95): cores stopped, halts under way
  | lost     -- clocks stopped after a loss of lock (R23)
  deriving DecidableEq, Repr

/-- Reset sources of R91 that carry a code. -/
inductive RstSource | powerOn | brownOut | hotPlug | pin | watchdog | software | nmt | ring
  deriving DecidableEq, Repr

/-- Start-up of the cores (R117 to R120). -/
inductive Boot
  | none      -- core 0 not released
  | waitTest  -- identity derived; core 0 waits for the self-test report (R118)
  | rom       -- core 0 released as tenant 0
  | service   -- image-load service of R119
  | done      -- BOOT_DONE set
  deriving DecidableEq, Repr

/-- System control state beside its registers. -/
structure SysSt where
  /-- Phase of Haldux; R91 to R95, R117; `off` at reset. -/
  phase : Phase := .off
  /-- Start-up stage; R117 to R120; none. -/
  boot : Boot := .none
  /-- The start in progress follows the power-on family, so core 0 waits for the self-test (R117, R118). -/
  cold : Bool := false
  /-- Request acted on in the pre-reset phase (R93, R94). -/
  preSrc : Option RstSource := none
  /-- Answers of step 4 of R94 still to send: an abandonment answer (R102) or not, and the messages it puts on the lines, none where it
  cannot be sent. -/
  preAnswers : List (Bool × List Msg) := []
  /-- Ports whose halt frame the pre-reset phase waits for (R94 step 5), bit p. -/
  prePorts : Nat := 0
  /-- RST_N or the internal reset line of R468 is low (R95). -/
  rstLow : Bool := false
  /-- Loss of PLL lock, held in logic that runs without the PLL (R122). -/
  pllLost : Bool := false
  /-- Power-on family reset recorded: code still to be entered is kept by RST_HIST. Time of the last watchdog reload (R97). -/
  wdtFrom : Nat := 0
  /-- Watchdog runs (from the release of core 0, R97). -/
  wdtOn : Bool := false
  /-- Option-byte copies 0 and 1, 64 bytes each (R107). Contents: log entry 6. -/
  opt0 : List Byte
  opt1 : List Byte
  /-- Fields in force after the loader (R108): BANKPREF, NODE_BASE, RING_NO, WDT_MS, KEYSEL, SERIAL. -/
  bankPref : Nat := 0
  nodeBase : Nat := 0
  ringNo : Nat := 0
  wdtMs : Nat := 100
  keySel : Nat := 0
  serial : Nat := 0
  /-- Identity usable (R109, R114). -/
  identity : Bool := false
  /-- HALT_N as registered in Haldux, true for high (R16, R36); low at reset. -/
  haltN : Bool := false
  /-- SS1-t start as signalled to the sequencers (R87). -/
  ss1 : Bool := false
  deriving DecidableEq, Repr

/-! ### Safety supervisor (02_badger_safety.md) -/

/-- The release sequence of R39. -/
inductive Release | cut | gate | run
  deriving DecidableEq, Repr

/-- Start-up or background self-test (R59, R118). -/
inductive SelfTest | running | passed | failed
  deriving DecidableEq, Repr

/-- A guard's start-up test (R54). -/
structure GuardTest where
  pending : Bool := false
  openSeen : Bool := false
  passed : Bool := false
  deriving DecidableEq, Repr

/-- One SLS tap as judged by the supervisor (R47 to R49). -/
structure SlsTap where
  /-- Own frequency, and the mean of the values forwarded in the last window in whole Hz (R49). -/
  own : Nat := 0
  fwd : Nat := 0
  /-- Values forwarded since the last window end, newest first (R346). -/
  sent : List Nat := []
  viol : Nat := 0
  /-- Time since the end of the first differing window, ms; none when within tolerance. -/
  disagree : Option Nat := none
  deriving DecidableEq, Repr

/-- The safety supervisor's state. -/
structure Badger where
  powered : Bool := false
  selftest : SelfTest := .running
  /-- Lock-out record, non-volatile (R57): latched, first cause, index, cause map bits 1..12, count. -/
  latched : Bool := false
  first : Nat := 0
  index : Nat := 0
  causes : Nat := 0
  lockCnt : Nat := 0
  /-- Guard, brake, tap, lamp numbers of the latched causes, one per cause code: what "Gone when" is judged on. -/
  causeIdx : List (Nat × Nat) := []
  /-- A power-up self-test passed after SELFTEST_FAIL was latched (R57). -/
  testPassSince : Bool := false
  /-- CRC of the accepted safety configuration set, non-volatile (R55). -/
  accepted : Option Nat := none
  /-- Seal snapshot and last reread, SW1 at bit 0 (R50, R51), and differing rereads in a row. -/
  snap : Nat := 0
  live : Nat := 0
  sealMis : Nat := 0
  /-- Commanded levels of HALT_N and GPE_N, true for high (R37), and the brake permit. -/
  haltN : Bool := false
  gpeN : Bool := true
  permit : Bool := false
  release : Release := .cut
  /-- Readbacks in a row that differ, HALT_N and GPE_N (R40). -/
  rbHalt : Nat := 0
  rbGpe : Nat := 0
  /-- Last readback levels (BG_STATUS.HALTLVL, GPELVL). -/
  haltLvl : Bool := false
  gpeLvl : Bool := true
  /-- Filtered levels, true for 24 V (R41, R52, R60, R46). -/
  stoA : Bool := false
  stoB : Bool := false
  grdA : BitVec 4 := 0
  grdB : BitVec 4 := 0
  lorA : Bool := false
  lorB : Bool := true
  brkFb : BitVec 8 := 0
  /-- BRAKE_REL_N of axis n low at the pin, as last read (R46). -/
  relLow : BitVec 8 := 0
  /-- Release after a stop demand waits for both STO channels open together and closed together (R45). -/
  stoNeed : Bool := false
  stoBothOpen : Bool := false
  ss1 : Bool := false
  ss1Hold : Bool := false
  gtest : Vector GuardTest 4 := Vector.replicate 4 {}
  /-- Safety configuration sets, sixteen words each (R55): loaded, in force, candidate. -/
  loaded : Option (List Word) := none
  inForce : Option (List Word) := none
  cand : Option (List Word) := none
  /-- The unit-wide SERVICE condition held when the candidate was loaded (R55). -/
  candSvc : Bool := false
  /-- Command in progress: LOAD or COMMIT (R55, R56). -/
  scsLoad : Bool := false
  scsCommit : Bool := false
  /-- The local act that COMMIT needs had been completed within the 60 s before the command (R56). -/
  scsAct : Bool := false
  /-- Staging words as they stood when LOAD was accepted. -/
  scsStage : List Word := []
  /-- Heartbeat (R58): armed, answered once, writes in this period, answered this period, unanswered in a row, answered in a
  row, mode codes of the last answered period. -/
  hbArmed : Bool := false
  hbRun : Bool := false
  hbWrites : Nat := 0
  hbAnswered : Bool := false
  hbMiss : Nat := 0
  hbRow : Nat := 0
  hbModes : Nat := 0
  /-- The first challenge after arming has been presented. -/
  hbOpen : Bool := false
  /-- Local act: last completed act (time in clk), void until released for 1 s (R60, R56). -/
  actAt : Option Nat := none
  lorVoid : Bool := false
  /-- Fieldbus window of R62 open. -/
  window : Bool := false
  sls : Vector SlsTap 2 := Vector.replicate 2 {}
  /-- The registers refreshed every 250 us: BG_STATUS, BG_CAUSE, BG_CAUSEMAP, BG_SEAL, BG_INPUTS, BG_SLS0_F, BG_SLS1_F. At reset
  BG_STATUS shows GPELVL, HOLD_SELFTEST, HOLD_SCS and HOLD_HB. -/
  shown : Vector Word 7 := #v[0x10005800, 0, 0, 0, 0, 0, 0]
  deriving DecidableEq, Repr

/-! ### Drive state machine (03_operating_modes.md) -/

/-- CiA 402 states, in the order of AX_SW.STATE. -/
inductive Cia
  | notReady | disabled | ready | switchedOn | enabled | quickStop | faultReact | fault
  deriving DecidableEq, Repr

/-- Where a ramp to standstill leads (R80). -/
inductive Goal
  | toReady | toSwitchedOn | toDisabled | holdQuick | serviceIdle | stayZero
  deriving DecidableEq, Repr

/-- The ramp in progress (R80): what moves and which register gives its rate. -/
inductive Ramp
  | none
  | torque                       -- torque reference moves at 0x6087
  | speed                        -- speed reference moves at 0x6083 or 0x6084
  | stopSpeed (fast : Bool) (g : Goal)   -- speed to 0 at 0x6084, or 0x6085 when fast
  | stopTorque (g : Goal)                -- torque to 0 at 0x6087, then the standstill wait
  | pendEmg                      -- to the EMERGENCY clamp at 0x6085
  deriving DecidableEq, Repr

/-- The mode sequencer of one axis. -/
structure Axis where
  st : Cia := .notReady
  /-- Mode of operation in force, 0x6061 (R66); 0 none. -/
  mode : Int := 0
  /-- Step of the enable sequence reached (R81): 0 none, 1 pre-charge, 2 brake, 3 running. -/
  step : Nat := 0
  /-- Brake confirmed and T_LIFT wait running in step 2 (R356). -/
  lifting : Bool := false
  ramp : Ramp := .none
  pendEmg : Bool := false
  emgReq : Bool := false
  inhibit : Bool := false
  /-- In Quick stop active with gates off at standstill (R80, R87), or SERVICE idle (R70). -/
  idle : Bool := false
  /-- Quick stop active was entered by an SS1-t start (R87). -/
  byScs : Bool := false
  /-- Start of the 20 ms of R79, clk. -/
  stillFrom : Option Nat := none
  /-- Standstill of R79 reached at the last judgement. -/
  still : Bool := false
  /-- Measured speed of the last filter-output edge below the threshold (R79). -/
  slow : Bool := false
  /-- References in motion: speed in 1/65,536e9 min^-1, torque in 1/65,536e12 per mille (R80). -/
  spdRef : Int := 0
  tqRef : Int := 0
  /-- Command code of the transition whose ramp has not reached its target yet (R80, AX_TSLOPE). -/
  rampCmd : Option Nat := none
  /-- A clamp of R82 acted at the last filter output: statusword bit 11. -/
  clampActs : Bool := false
  /-- The takeover enable of R442 runs, and the start of its rising torque clamp, FB_TIME. -/
  warm : Bool := false
  clampFrom : Option Nat := none
  /-- Reasons whose EMCY is withheld (R74). -/
  withheld : List Nat := []
  /-- A refusal happened in the command being carried out (answers the SDO abort of R74). -/
  refusedNow : Bool := false
  /-- Trigger of the communication-loss reaction last taken (R498); 0 none. -/
  lossBy : Nat := 0
  deriving DecidableEq, Repr

/-! ### Satellite ports (07_satellite_link.md) -/

inductive PortSt | off | stream | halt
  deriving DecidableEq, Repr

/-- A gate event the engine commanded on a port: what R306 compares replies with. -/
structure GateCmd where
  sel : Nat
  slotPos : Nat
  high : Bool
  on : Bool
  deriving DecidableEq, Repr

/-- An engine-queue entry (R301). `gateOn` tells whether the command can turn a gate on (R215). -/
structure EngEntry where
  rslot : Nat
  bcast : Bool
  axis : Fin 8
  sel : Nat
  opcode : Nat
  payload : Nat
  deriving DecidableEq, Repr

/-- Where the frame in the current slot comes from. -/
inductive FrameSrc | engine | tenant | filler | alloff | copy
  deriving DecidableEq, Repr

/-- The frame in flight on a port. -/
structure Flight where
  src : FrameSrc
  axis : Fin 8
  /-- Header of the tenant entry (R204); 0 otherwise. -/
  hdr : Nat
  /-- Select code addressed (lowest mask bit in H mode), and broadcast. -/
  sel : Nat
  bcast : Bool
  opcode : Nat
  payload : Nat
  alive : Nat
  /-- Words still to be received by a RAW_READ. -/
  rawLeft : Nat
  /-- A reply is still to be classified (R200). -/
  await : Bool
  deriving DecidableEq, Repr

/-- A satellite port beside its registers. -/
structure Port where
  st : PortSt := .off
  live : Bool := false
  haltCause : Nat := 0
  /-- Halt requested and not yet started: its cause (R212, R213). -/
  haltDue : Option Nat := none
  /-- Axes whose fast halt asked for it, bit a (R213, R312 cause 0x0B). -/
  haltBy : Nat := 0
  /-- FB_TIME at which the requested halt starts (R212, R213). -/
  haltAt : Nat := 0
  /-- The twelfth SCLK edge of the halt frame has passed (R211). -/
  twelfth : Bool := false
  /-- The port goes OFF on the twelfth edge of its halt frame (R430). -/
  offAtTwelfth : Bool := false
  reent : Nat := 0
  engQ : List EngEntry := []
  tenQ : List Word := []
  rxQ : List Word := []
  /-- Bad replies per select without a GOOD one in between (R201). -/
  bad : Vector Nat 8 := Vector.replicate 8 0
  flight : Option Flight := none
  /-- All-off sequence of R216: codes still to send, 8 for a broadcast; none when no sequence runs. -/
  alloff : Option (List Nat) := none
  /-- Slots begun since the port left OFF or HALT: the next slot's number (R301). -/
  slot : Nat := 0
  /-- FB_TIME at which the slot grid started (R285). -/
  grid : Nat := 0
  /-- Per axis, one more than the last slot its publishes cover (R305); 0 none. -/
  cover : Vector Nat 8 := Vector.replicate 8 0
  /-- Slots still taken by a RAW entry longer than one slot (R205). -/
  rawBusy : Nat := 0
  /-- Last filler's select code (R305). -/
  fill : Nat := 7
  /-- Selects whose last filler or EDGE reply showed CONFIG_DONE (R307), mismatches in a row per select (R306). -/
  cfgDone : Nat := 0
  mism : Vector Nat 8 := Vector.replicate 8 0
  /-- Gate events commanded and not yet folded into `gates` (R306), and the commanded gates per select: 1 high, 2 low. -/
  cmds : List GateCmd := []
  gates : Vector Nat 8 := Vector.replicate 8 0
  /-- A port reset is under way (R100): it ends on the twelfth edge of its halt frame. -/
  resetting : Bool := false
  deriving DecidableEq, Repr

/-! ### Current-loop engines (10_current_loop.md) -/

/-- The engine of one axis beside its registers. -/
structure Eng where
  /-- 0x6072 torque limit in per mille and 0x6080 maximum speed in min^-1 (R82, R294; defaults of 17_object_dictionary.md). -/
  maxTorque : Nat := 1000
  maxSpeed : Nat := 1500
  /-- The sample of the cycle in progress has been taken (R291). -/
  sampled : Bool := true
  /-- The next cycle is the first of an alignment, numbered 0 (R286). -/
  restart : Bool := false
  /-- Lead-port slot number of the first slot of the cycle in progress, and its length in slots (R286, R301). -/
  first : Nat := 0
  cyc : Nat := 58
  /-- Integrators: d and q in microvolts, speed in 1/65,536e12 per mille (R295, R296). -/
  intD : Int := 0
  intQ : Int := 0
  intS : Int := 0
  /-- Torque demand of the last run before and after R294, in 1/65,536e12 per mille. -/
  tDem : Int := 0
  tLast : Int := 0
  /-- Speed target of the tension law, in 1/65,536e9 min^-1 (R362). -/
  nStar : Int := 0
  /-- Level of each phase at the end of the last published cycle: high side conducting, low side conducting, or all off (R300). -/
  lv : Vector (Option Bool) 3 := Vector.replicate 3 none
  /-- Per phase, on the slot grid of the lead port in hsck: start of a low-side conduction that runs on at the end of the last
  published cycle, and end of the last one of RFON or more (R309). -/
  lowFrom : Vector (Option Nat) 3 := Vector.replicate 3 none
  lowEnd : Vector (Option Nat) 3 := Vector.replicate 3 none
  /-- Causes of R312 found by the last sample, bit c. -/
  found : Nat := 0
  /-- DC link at or above UDCMIN at the last filter output (R88 bit 4). -/
  udcOk : Bool := false
  /-- Satellites that re-entered under R311: (8 * port + select, configured again), until CLRDEG. -/
  deg : List (Nat × Bool) := []
  deriving DecidableEq, Repr

/-- Live and shadow words of one parameter group (R181). -/
structure Pset where
  live : List Word
  shadow : List Word
  deriving DecidableEq, Repr


/-! ### Lamps and I/O (12_winch_thruster_lamps.md) -/

/-- A warning lamp beside its registers. -/
structure Lamp where
  /-- Consecutive low windows and consecutive windows at or above DARKTH (R376, R379). -/
  low : Nat := 0
  good : Nat := 0
  /-- FB_TIME at which the present commanded pattern began (blanking of R376). -/
  litFrom : Nat := 0
  deriving DecidableEq, Repr

/-- An analog input beside its registers. -/
structure Ain where
  /-- Consecutive windows out of range and in range (R353). -/
  bad : Nat := 0
  good : Nat := 0
  deriving DecidableEq, Repr

/-- The lamps and I/O block beside its registers. -/
structure Lio where
  lamps : Vector Lamp 8 := Vector.replicate 8 {}
  ains : Vector Ain 8 := Vector.replicate 8 {}
  /-- DRIVEN acts of emergency release, bit k (R372). -/
  driven : BitVec 4 := 0
  /-- Ticks since the FREE governor set the brake (R373), per release. -/
  govTicks : Vector Nat 4 := Vector.replicate 4 0
  /-- A change of the brake output whose T_REL or T_SET still runs, bit a (R356, R359, R360). -/
  brkWait : BitVec 8 := 0
  /-- GPO outputs turned off by an overload, bit i (R382). -/
  gpoOff : BitVec 4 := 0
  deriving DecidableEq, Repr


/-! ### Jalzil satellites (08_jalzil_core.md, 09_jalzil_power.md). Times are hsck counts of the satellite's SCLK. -/

/-- One gate of a satellite. -/
structure Gate where
  /-- Commanded on (GH, GL; R234). -/
  on : Bool := false
  /-- hsck on which its last turn-on executed (R269). -/
  onAt : Nat := 0
  /-- hsck on which the last turn-off began; none when it counts as long ago (R239). -/
  offAt : Option Nat := none
  /-- hsck on which its last turn-off began, whatever began it: the last edge on which SCx is sampled (R269, R282). -/
  offEdge : Option Nat := none
  /-- hsck at which phase 1 and phase 2 of the last profile end, and the strength code of phase 2 (R257, R260). -/
  ph1End : Nat := 0
  profEnd : Nat := 0
  code : Nat := 0
  /-- The measurement in progress (R258): of a turn-on, the hsck of the plateau exit, the switching time. -/
  meas : Option (Bool × Nat × Nat) := none
  /-- Adaptive codes for turn-on and turn-off (R259), and the last measured switching time (R258). -/
  con : Nat := 0
  coff : Nat := 0
  tsw : Nat := 255
  /-- Supplies in UV: VPOS and VNEG of the die (R261); VPOS below 6 V (R263). -/
  posUv : Bool := false
  negUv : Bool := false
  collapsed : Bool := false
  deriving DecidableEq, Repr

/-- A pending gate event (R238). -/
structure SatEvent where
  due : Nat
  slot : Nat
  high : Bool
  on : Bool
  deriving DecidableEq, Repr

/-- A satellite's frame (R222, R223): `opened` after a start bit sampled low (R226), `taken` once its command is judged or it has
ended without a release; none opens before the select is released. -/
inductive SatFrame | idle | opened | taken
  deriving DecidableEq, Repr

/-- A satellite. Register fields hold the reset values of R254 and R283. -/
structure Sat where
  /-- Link die held in reset by its supply (R263). -/
  inReset : Bool := false
  /-- Last good alive counter and LAST_BAD (R197). -/
  lastGood : Nat := 0
  lastBad : Bool := false
  /-- SRESET accepted, runs at the select release (R248). -/
  srstDue : Bool := false
  frame : SatFrame := .idle
  /-- Drives SDIO in the reply phase of its frame (R223, R224). -/
  driving : Bool := false
  /-- FLAGS (0x02). -/
  srst : Bool := false
  intlk : Bool := false
  sc : Bool := false
  uv : Bool := false
  ca : Bool := false
  haltSeen : Bool := false
  cmdErr : Bool := false
  diagReady : Bool := false
  boot : Bool := true
  /-- WRITTEN map, CONFIG_DONE (R245). -/
  written : Nat := 0
  done : Bool := false
  /-- ERRCNT. -/
  badCnt : Nat := 0
  cmdCnt : Nat := 0
  /-- 0x08 GROUP, 0x09 DTMIN, 0x0A TLMCFG, 0x10 PROF_MODE, 0x11 PROF_ON, 0x12 PROF_OFF, 0x13 PROF_HARD, 0x14 ADAPT, 0x18 SCCFG,
  0x19 SCBLANK, 0x1A HSSUP, 0x20 DIAGCFG. -/
  group : Nat := 0
  dtmin : Nat := 0xFF
  tlmcfg : Nat := 0
  profMode : Nat := 0
  profOn : Nat := 0x119E
  profOff : Nat := 0x119E
  profHard : Nat := 0x0168
  adapt : Nat := 0x28F2
  sccfg : Nat := 0x0040
  blank : Nat := 0x00C8
  hssup : Nat := 0x00CC
  diagcfg : Nat := 0
  /-- DIAGRES (0x21): SCH, SCL, UVH, UVL, CLASS; and VA, VB, TB of the last run (R284). -/
  scH : Bool := false
  scL : Bool := false
  uvH : Bool := false
  uvL : Bool := false
  diagClass : Nat := 0
  diagVA : Nat := 0
  diagVB : Nat := 0
  diagTB : Nat := 0
  /-- Diagnostic run in progress: its ISEL (R276). -/
  diag : Option Nat := none
  /-- Telemetry: TLM0 to TLM6, SEQ, conversion in progress (R249 to R251). -/
  tlm : Vector Nat 7 := Vector.replicate 7 0
  seq : Nat := 0
  conv : Option (Fin 7) := none
  /-- TSW of the State payload (R234). -/
  tsw : Nat := 255
  high : Gate := {}
  low : Gate := {}
  events : List SatEvent := []
  deriving DecidableEq, Repr


/-! ### Feedback channels (11_lynx_feedback.md) -/

/-- An incremental channel or a Hall set beside its registers. -/
structure Enc where
  /-- Accepted levels: A at bit 0, B at bit 1 of an incremental channel; 4U + 2V + W of a Hall set (R326, R338). -/
  lv : Nat := 0
  /-- Timestamps of the edges counted since the last reversal, newest first, at most nine (R334). -/
  hist : List Nat := []
  /-- INC_CNT at the last counted edge; count mode: timestamp and count of the window's begin edge, an edge seen in the window (R335). -/
  cntE : Nat := 0
  winT : Nat := 0
  winC : Nat := 0
  winHad : Bool := false
  /-- Count-mode estimate, numerator and denominator in Hz (R335). -/
  estN : Int := 0
  estD : Nat := 1
  /-- Timestamps of illegal changes, newest first, at most 255 (R348). -/
  ill : List Nat := []
  /-- Referencing armed (R332), EMCY 0xFF5A sent (R333). -/
  armRef : Bool := false
  emcySent : Bool := false
  /-- A Hall state of 0 or 7 has been held for 1 ms (R348). -/
  invHeld : Bool := false
  /-- Sector of the Hall angle and whether the last transition advanced it (R339). -/
  sector : Option Nat := none
  forward : Bool := true
  deriving DecidableEq, Repr

/-- An SSI channel beside its registers. -/
structure Ssi where
  /-- FB_TIME of the first falling clock edge of the read in progress (R341). -/
  start : Nat := 0
  /-- Consecutive failed reads (R348). -/
  fails : Nat := 0
  /-- A good read stands in SSI_POS (R342, R344). -/
  good : Bool := false
  deriving DecidableEq, Repr

/-- The feedback block beside its registers. -/
structure Fb where
  inc : Vector Enc 8 := Vector.replicate 8 {}
  hall : Vector Enc 8 := Vector.replicate 8 {}
  ssi : Vector Ssi 4 := Vector.replicate 4 {}
  /-- Capture FIFO, oldest first, at most 256 words (R351). -/
  capQ : List Word := []
  /-- Exchanges in a row that differ by more than FB_TAPWARN.HZ (R347). -/
  tapMis : Vector Nat 2 := Vector.replicate 2 0
  deriving DecidableEq, Repr



/-! ### The Potrix ring (13_potrix_ring.md) -/

/-- States of RING_STAT.STATE (R397), in the order of their codes. -/
inductive RingSt | off | forward | listen | closed | broken | elect | duplicate
  deriving DecidableEq, Repr

/-- An axis as an AVAIL frame reports it (R405). -/
structure AvEnt where
  key : Nat
  rated : Nat
  avail : Nat
  deriving DecidableEq, Repr

/-- A share group beside its registers. -/
structure Grp where
  /-- Leading, in TAKEOVER (R411), and asked by a takeover of the duty to lead at the next share point (R444). -/
  lead : Bool := false
  takeover : Bool := false
  force : Bool := false
  /-- The first share point of a takeover is still to come: G starts there (R411). -/
  fresh : Bool := false
  /-- Consecutive periods without an accepted SHARE frame (R411, R414). -/
  quiet : Nat := 0
  /-- Unit whose SHARE frame was accepted in this period (R412). -/
  gotFrom : Option Nat := none
  /-- Units included in the last SHARE frame accepted since joining (R411). -/
  units : Option (List Nat) := none
  /-- AVAIL frames since the last share point, by unit, own sample included (R406); the last values by member key. -/
  av : List (Nat × List AvEnt) := []
  known : List AvEnt := []
  /-- Included members with their weights, 256 for full (R406, R410). -/
  inc : List (Nat × Nat) := []
  /-- Units that missed the last share point (R409). -/
  miss : List Nat := []
  /-- Payload of the last SHARE frame sent (R409). -/
  lastPay : List Byte := []
  deriving DecidableEq, Repr

/-- A member axis of a share group (R410, R414). -/
structure GrpAxis where
  droop : Bool := false
  r0 : Int := 0
  n0 : Int := 0
  /-- It has reached its listed reference since it was first listed or left droop (R410). -/
  settled : Bool := false
  deriving DecidableEq, Repr

/-- The ring block beside its registers. -/
structure Ring where
  st : RingSt := .off
  /-- Sends beacons (R398), RSTATE held (true for BROKEN), links up, SYNC (R402). -/
  master : Bool := false
  broken : Bool := false
  linkA : Bool := false
  linkB : Bool := false
  sync : Bool := false
  /-- Master unit address as RING_STAT shows it, and CYC of the last accepted beacon (R396, R397). -/
  munit : Nat := 0
  cyc : Option Nat := none
  /-- RSTATE of the last beacon accepted in LISTEN (R397). -/
  heard : Option Bool := none
  /-- A beacon has been accepted since joining began (R402). -/
  timed : Bool := false
  /-- Beacons in a row with an error of at most 50 ns (R402). -/
  goodRow : Nat := 0
  /-- Common time in 1e-9 ns, and its rate trim in 1e-9 (R402). -/
  ct : Nat := 0
  trim : Int := 0
  /-- FSEQ last originated, frames originated up to 16 (R390, R419). -/
  fseq : Nat := 0
  sentN : Nat := 0
  /-- Last FSEQ accepted by source address (R394). -/
  recs : List (Nat × Nat) := []
  /-- FSEQ of the beacon of this cycle and which copies came back: A, B (R399). -/
  bcn : Option Nat := none
  backA : Bool := false
  backB : Bool := false
  /-- Consecutive closed and not closed cycles (R399). -/
  runC : Nat := 0
  runB : Nat := 0
  /-- PDELAY: last PSEQ and t1 in ns per port, measurements of 2d in ns per port, newest first, at most eight (R401). -/
  pseq : Nat := 0
  t1A : Nat := 0
  t1B : Nat := 0
  dA : List Int := []
  dB : List Int := []
  /-- Transmit and receive FIFO, oldest first, at most 512 words each (R416). -/
  txQ : List Word := []
  rxQ : List Word := []
  /-- Queries waiting for an answer of the owning tenant: requester and TID (R415). -/
  queries : List (Nat × Nat) := []
  groups : Vector Grp 16 := Vector.replicate 16 {}
  members : Vector GrpAxis 8 := Vector.replicate 8 {}
  deriving DecidableEq, Repr


/-! ### Cores, tenants, events, DMA (05_cores_tenants.md, 06_events_dma.md) -/

/-- The register bank of a tenant (R131). -/
structure Bank where
  x : Vector Word 32 := Vector.replicate 32 0
  f : Vector Word 32 := Vector.replicate 32 0
  fcsr : BitVec 8 := 0
  pc : Word := 0
  /-- Running in U mode (R132). -/
  umode : Bool := false
  mstatus : Word := 0x00003800
  mie : Word := 0
  mip : Word := 0
  mtvec : Word := 0
  mscratch : Word := 0
  mepc : Word := 0
  mcause : Word := 0
  mtval : Word := 0
  mfaddr : Word := 0
  mfcause : Word := 0
  /-- EXCDEPTH (R165). -/
  exc : Nat := 0
  deriving DecidableEq, Repr

/-- An entry of a core's level stack (R160, R161). -/
structure EvEntry where
  level : Nat
  tenant : Fin 8
  src : Nat
  deriving DecidableEq, Repr

/-- A core beside the banks of its tenants. -/
structure CoreSt where
  /-- Level stack, top first (06_events_dma.md, "Taking an event"). -/
  stack : List EvEntry := []
  /-- Tenant whose code the core executes; none while it sleeps, is held or is stopped. -/
  run : Option (Fin 8) := none
  /-- Tenant whose bank is active (EVT_CORE.TENANT), and the background that runs or is pre-empted (R134). -/
  bank : Fin 8 := 0
  back : Option (Fin 8) := none
  /-- Word address of the LR reservation (R127). -/
  res : Option Nat := none
  /-- FB_TIME at the release of the core, from which mcycle counts (R125). -/
  from_ : Nat := 0
  /-- Instructions completed since the release of the core (R125): those fetched, but for one that has not run or has trapped; `issued`: one
  has been fetched and is not counted yet (log entry 70). -/
  instret : Nat := 0
  issued : Bool := false
  /-- Instruction cache: fetched halfwords since the last FENCE.I, by address (R128). -/
  icache : List (Nat × Nat) := []
  deriving DecidableEq, Repr

/-- A DMA channel beside its registers (R172, R175, R178). -/
structure DmaCh where
  src : Nat := 0
  dst : Nat := 0
  cnt : Nat := 0
  desc : Nat := 0
  ctrl : Nat := 0
  next : Nat := 0
  /-- The next action is a descriptor fetch (DESCPEND). -/
  fetch : Bool := false
  deriving DecidableEq, Repr

/-- Processor side of the unit beside its registers. -/
structure Procs where
  banks : Vector Bank 8 := Vector.replicate 8 {}
  cores : Vector CoreSt 4 := Vector.replicate 4 {}
  /-- Registering edges of the last containment faults per tenant, newest first, at most three (R148). -/
  kills : Vector (List Nat) 8 := Vector.replicate 8 []
  /-- Core that armed MEMERR_INJ (R154). -/
  injCore : Option (Fin 4) := none
  /-- Next word of the scrubber, as an index over the TCMs and shared SRAM (R153). -/
  scrub : Nat := 0
  dma : Vector DmaCh 32 := Vector.replicate 32 {}
  /-- Last channel granted per priority class (R179). -/
  dmaLast : Vector Nat 4 := Vector.replicate 4 31
  /-- Channels that have stopped on this edge: each strobes its source on the next one (R175). -/
  dmaDue : List (Fin 32) := []
  deriving DecidableEq, Repr


/-! ### Copy engine and claim (14_duty_standby.md) -/

/-- A committed epoch: its image and, per feedback channel code, the reference relation of R439. -/
structure CopyImg where
  epoch : Nat
  bytes : List Byte
  refs : List (Nat × Nat)
  deriving DecidableEq, Repr

/-- A partly received epoch (R437): DATA pieces (offset, bytes), TRAILER (length, CRC), COMMIT flags. -/
structure CopyPart where
  epoch : Nat
  data : List (Nat × List Byte) := []
  trailer : Option (Nat × Nat) := none
  commit : Option Nat := none
  deriving DecidableEq, Repr

/-- What the partner's last PAIR frame said (R436). -/
structure PairInfo where
  role : Nat
  slot : Nat
  snap : Nat
  pstate : Nat
  sig : Nat
  epoch : Nat
  axmap : Nat
  per : Nat
  maxage : Nat
  member : Nat
  src : Nat
  deriving DecidableEq, Repr

/-- A takeover between its claiming edge and the end of step 6 (R440). -/
structure Takeover where
  /-- Axes warm by the first four conditions of R441, cause (CP_TAKE2), age of the epoch in us, PARTIAL. -/
  warm : Nat
  cause : Nat
  age : Nat
  partly : Bool
  /-- Steps 4 and 5 have begun: select codes each port still sends a STATUS to, and 8 * port + select of the satellites that answered
  GOOD with DONE 1 and BOOT 0 (R440, R441). -/
  run : Bool := false
  sts : Vector (List Nat) 6 := Vector.replicate 6 []
  ok : List Nat := []
  deriving DecidableEq, Repr

structure Cp where
  /-- TWIN_CLAIM_N driven low (R427). -/
  claim : Bool := false
  /-- TWIN_PCLAIM_N filtered, true for high ("not claiming"). -/
  partnerHigh : Bool := true
  /-- A COPY burst is being sent (R436). -/
  sending : Bool := false
  /-- Every paired port quiet for 5 us (R431), and found so since the claiming edge (R432). -/
  quiet : Bool := false
  found : Bool := false
  /-- The partner has been seen claiming since the own reset (R427). -/
  seen : Bool := false
  /-- After a conflict: 1 until the partner line reads low, 2 until it then reads high (R432); 0 no bar. -/
  barred : Nat := 0
  com : Option CopyImg := none
  part : Option CopyPart := none
  /-- A newer epoch than the committed one was partly received and discarded (R446). -/
  disc : Bool := false
  /-- Feedback counters latched at the own copy point, by channel code (R433). -/
  latch : List (Nat × Nat) := []
  pair : Option PairInfo := none
  /-- EMCYs sent once: pairing refused for a reason (R422), stale (R438), PAIR frames lost (R438). -/
  refused : Nat := 0
  stale : Bool := false
  lost : Bool := false
  /-- Handover (R445): 0 none, 1 the next epoch carries it, 2 its COMMIT has been sent. -/
  ho : Nat := 0
  /-- Tenant that last wrote CP_USRBASE (R435), and the buffer selected at the next copy point. -/
  usrBy : Nat := 0
  take : Option Takeover := none
  /-- Feedback channels whose DRIFT has been set (R439, R441). -/
  drift : List Nat := []
  /-- Start of the torque gap of a warm axis until its step 3 begins (R443), FB_TIME. -/
  gap : Vector (Option Nat) 8 := Vector.replicate 8 none
  deriving DecidableEq, Repr

/-! ### Field network and server (16_field_network.md, 17_object_dictionary.md) -/

/-- A CAN channel beside its registers. -/
structure CanCh where
  /-- 0 error active, 1 passive, 2 bus-off (CAN_STAT.STATE while enabled). -/
  state : Nat := 0
  rxQ : List Word := []
  txQ : List Word := []
  /-- Words still to be popped of the record under way, and words still to be pushed of a record that did not fit (R504). -/
  rxLeft : Nat := 0
  skip : Nat := 0
  deriving DecidableEq, Repr

/-- A segmented transfer (R486, R487): direction, object, bytes still to send or received so far, next toggle bit. -/
structure Xfer where
  up : Bool
  idx : Nat
  sub : Nat
  data : List Byte
  toggle : Bool
  deriving DecidableEq, Repr

/-- An RPDO beside its registers (R493 to R495, R498). -/
structure Rpdo where
  staged : Option (List Byte) := none
  /-- EMCY 0xFFA2, EMCY 0x8220 sent. -/
  discSent : Bool := false
  longSent : Bool := false
  /-- The event timer runs. -/
  timed : Bool := false
  deriving DecidableEq, Repr

/-- A TPDO beside its registers (R497). -/
structure Tpdo where
  last : Option (List Byte) := none
  syncs : Nat := 0
  sentAt : Option Nat := none
  deriving DecidableEq, Repr

structure Srv where
  /-- EMCYs waiting, oldest first, at most 32 (R500). -/
  emcyQ : List Emcy := []
  /-- EMCYs lost to a full queue, not yet reported (R500). -/
  emcyLost : Nat := 0
  /-- Object 0x1003, newest first, at most 16 (R500). -/
  hist : List Nat := []
  /-- Object 0x1001 was not 0 at the last CLKS edge (R500). -/
  errOn : Bool := false
  /-- Values of objects the server holds, by index * 256 + sub-index; an unlisted one has its default (R505). -/
  objs : List (Nat × Nat) := []
  /-- Values saved by 0x1010, loaded at each start (R508). -/
  saved : List (Nat × Nat) := []
  can : Vector CanCh 2 := Vector.replicate 2 {}
  xfer : Vector (Option Xfer) 2 := Vector.replicate 2 none
  /-- A request received and not yet answered, per channel: object and sub-index (R94, R99). -/
  await : Vector (Option (Nat × Nat)) 2 := Vector.replicate 2 none
  rpdo : Vector Rpdo 16 := Vector.replicate 16 {}
  tpdo : Vector Tpdo 16 := Vector.replicate 16 {}
  /-- Heartbeat consumer entries whose time runs (R484). -/
  hbc : Vector Bool 4 := Vector.replicate 4 false
  deriving DecidableEq, Repr

/-! ### Cabinet interface (15_hotplug_cabinet.md) -/

structure Bear where
  /-- Standby rail up; a presence pin read open when it came up; the unit has been seated since (R453, R468). -/
  rail : Bool := false
  openAtRail : Bool := false
  beenSeated : Bool := false
  pres1 : Bool := false
  pres3 : Bool := false
  /-- Seated, and on the bench (R451). -/
  seated : Bool := false
  bench : Bool := false
  feedA : Bool := false
  feedB : Bool := false
  /-- Brown-out registered and the rail still up (R457). -/
  bor : Bool := false
  /-- EMCY 0xFF91 is due once the node ID is valid (R468). -/
  reseated : Bool := false
  /-- Time at which the last lamp test began, in units of 4 ns (R451, R471). -/
  ltest : Option Nat := none
  /-- Bridge link (R461, R462): good frames in a row up to 3, LINKUP, last SEQ sent, frame outstanding (a SYS_RESP, payload, sent again),
  frames that wait for it, last SEQ accepted. -/
  good : Nat := 0
  up : Bool := false
  seq : Nat := 0
  out : Option (Bool × List Byte × Bool) := none
  wait : List (Bool × List Byte) := []
  rxSeq : Option Nat := none
  deriving DecidableEq, Repr

/-! ### Parameter store, banks and tag (18_squirrel_store.md) -/

/-- A record of the parameter store as its controller indexes it (R520): address of its data. -/
structure StoreRec where
  typ : Nat
  num : Nat
  layout : Nat
  tseq : Nat
  addr : Nat
  data : List Byte
  deriving DecidableEq, Repr

/-- A store command in progress (R516): OP, ARG0 to ARG2, writing tenant. -/
structure StoreCmd where
  op : Nat
  a0 : Nat
  a1 : Nat
  a2 : Nat
  tenant : Nat
  deriving DecidableEq, Repr

structure Store where
  /-- Counted records and records of the open transaction, oldest first. -/
  recs : List StoreRec := []
  /-- Sectors of the log, oldest first, and the next free offset in the last one (R519). -/
  used : List Nat := []
  off : Nat := 4096
  /-- Erase counts by sector, an unlisted one is 0, and sector sequence numbers, an unlisted one is the sector's own number; the
  next sequence number (R519). -/
  wear : List (Nat × Nat) := []
  seqs : List (Nat × Nat) := []
  seqNo : Nat := 256
  /-- Last transaction sequence number (R521), and the open transaction: TSEQ and holder. -/
  tseq : Nat := 0
  tx : Option (Nat × Nat) := none
  /-- Counted transactions since manufacture (R527). -/
  commits : Nat := 0
  cmd : Option StoreCmd := none
  /-- Layout in force and previous layout (R525). -/
  layNow : Nat := 0
  layPrev : Nat := 0
  /-- Erase of the bank not running under way: next sector (R518); BANKWR, and its clearing at the end of that erase; an ERASEBANK has
  been given since the start, so PROG is allowed (R532). -/
  eraseAt : Option Nat := none
  bankwr : Bool := false
  dropWr : Bool := false
  prog : Bool := false
  ready : Bool := false
  /-- Failures of banks recorded and not yet reported: bank and reason (R539). -/
  failNew : List (Nat × Nat) := []
  /-- A LAYOUT record was committed in this trial: layout found before it (R536). -/
  migFrom : Option Nat := none
  /-- EMCY 0xFF63 sent since the start (R527). -/
  wearSent : Bool := false
  /-- The server's download through 0x2C02 (R533, R541): bytes received and programmed. -/
  image : Option (List Byte) := none
  deriving DecidableEq, Repr

/-- States of the tag toward RF requests (ISO/IEC 15693). -/
inductive TagRf | ready | quiet | selected
  deriving DecidableEq, Repr

structure Tag where
  /-- Blocks of four bytes; an unlisted one is 0 (R542; log entry 6). Blocks locked beside 0 to 255. -/
  blocks : List (Nat × Word) := []
  locks : List Nat := []
  rf : TagRf := .ready
  field : Bool := false
  /-- RFSTATE: 0 NONE, 1 FIELD, 2 INVENTORY, 3 SESSION (R544). -/
  sess : Nat := 0
  /-- RFW, set by any RF write (R544). -/
  rfw : Bool := false
  /-- Wired access under way: block and data to write, none for a read; held for an inventory slot (R545). -/
  wired : Option (Nat × Option Word) := none
  deriving DecidableEq, Repr


/-! ### The present edge -/

/-- A happening of the present CLKS edge that a rule on two causes of one edge asks about. -/
inductive EdgeMark
  /-- An axis has moved into or out of SERVICE (R10). -/
  | service
  /-- HALT_N has been registered low (R72). -/
  | cut
  /-- A condition of rank `r` of R72 has acted on axis `a`, which was in state `st` with mode code `code`: 1 cut, 2 start of an SS1-t
  delay, 3 drive fault or communication-loss reaction, 4 emergency request, 5 lamp reaction. -/
  | acted (r : Nat) (a : Fin 8) (st : Cia) (code : Nat)
  /-- Tenant `t` has been reset (R185). -/
  | tenReset (t : Fin 8)
  /-- DMA channel `c` has stopped on a fault, has been resumed, or has been stopped by a reset (R185). -/
  | dmaFault (c : Fin 32)
  | dmaResumed (c : Fin 32)
  | dmaReset (c : Fin 32)
  /-- A word has been pushed into the tenant queue of port `p`; port `p` has been reset (R220). -/
  | pushed (p : Fin 6)
  | portReset (p : Fin 6)
  /-- Incremental channel `n` has counted a step; its referencing has been armed (R350). -/
  | counted (n : Fin 8) (up : Bool)
  | armed (n : Fin 8)
  /-- A feed has fallen invalid while the other was invalid (R472). -/
  | feedFell (onB : Bool)
  /-- RPDO `r` has been staged over what was staged before; it has been applied; the server has kicked (R503). -/
  | staged (r : Fin 16) (old : Option (List Byte))
  | applied (r : Fin 16)
  | kicked
  deriving DecidableEq, Repr

/-- What the block remembers of the present CLKS edge, for the rules on two causes that stand on one edge (R10, R12, R17, R72 and
the coincidences of the chapters). A step on an empty queue begins the next edge (log entry 2): the model's own field. -/
structure Edge where
  /-- Bits of registers that hardware has set on this edge, newest first: address and bits (R12). -/
  sets : List (Nat × Word) := []
  /-- The registers, the feedback block and the live parameter groups as they stood at the beginning of the edge (R17, R315). -/
  regs0 : List (Nat × Word) := []
  fb0 : Fb := {}
  gain0 : Vector Pset 8 := Vector.replicate 8 ⟨List.replicate 9 0 ++ [0x1801], List.replicate 9 0 ++ [0x1801]⟩
  route0 : Vector Pset 8 := Vector.replicate 8 ⟨[0], [0]⟩
  tension0 : Vector Pset 8 := Vector.replicate 8 ⟨List.replicate 4 0 ++ [0x00640000], List.replicate 4 0 ++ [0x00640000]⟩
  marks : List EdgeMark := []
  deriving DecidableEq, Repr

/-! ### The whole unit -/

/-- Faults: reasons the model stops with a fault. No command of this block does (NOTES.md, Stops). -/
inductive Fault
  | unreachable  -- never raised: kept so that the type of reasons is not empty; safe
  deriving DecidableEq, Repr

/-- Refusals: reasons the model gives no meaning to a command. -/
inductive Refusal
  /-- Raised by the arm of a command that is not modelled yet, with its mnemonic; safe. -/
  | notModelled (mnemonic : String)
  deriving DecidableEq, Repr

/-- The state of the unit. -/
structure State where
  /-- Commands waiting, first in first out (the model's own; the row's cut). -/
  pending : List Instr
  /-- Family member (R24 to R27); this hardware is the HX9. -/
  member : Member
  /-- Time in units of 4 ns since the model's start: advanced by a step on an empty queue (log entry 2). -/
  time : Nat
  /-- CLKS edges since the fabric clock last started: FB_TIME (11_lynx_feedback.md, R322). -/
  clk : Nat
  /-- Counter the free values are applied to: the model's own field (log entry 4). -/
  freeCtr : Nat
  /-- Messages put on the lines, newest first: the model's record of outputs (log entry 7). -/
  wire : List Msg
  /-- Value returned by the last read, pop or load: the model's record of what a bus port received (log entry 7). -/
  rdata : Nat
  /-- Registers by address, sparse; an unlisted one holds its reset value (register tables of every chapter). -/
  regs : List (Nat × Word)
  /-- Holding copies of 64-bit registers per bus port (R11), by port * 2^32 + address; 0 at reset. -/
  hold : List (Nat × Word)
  /-- Pending low words of 64-bit registers per bus port (R11); an unlisted one is not pending. -/
  pend64 : List (Nat × Word)
  /-- Memory bytes by address (R30): TCM, SRAM, flash banks, parameter store, boot ROM. -/
  mem : List Host.Cell
  /-- Words with a memory error (R151): address of the word, 1 single-bit, 2 double-bit. -/
  memErr : List (Nat × Nat)
  /-- System control (04_reset_startup.md). -/
  sys : SysSt
  /-- Safety supervisor (02_badger_safety.md). -/
  bg : Badger
  /-- Mode sequencers (03_operating_modes.md). -/
  axes : Vector Axis 8
  /-- Satellite ports (07_satellite_link.md). -/
  ports : Vector Port 6
  /-- Satellites: select i of port p at 8 * p + i (08_jalzil_core.md, 09_jalzil_power.md). -/
  sats : Vector Sat 48
  /-- Tenants whose background executed WFI (R134), bit t. -/
  waiting : BitVec 8
  /-- The object-dictionary server (16_field_network.md, 17_object_dictionary.md). -/
  srv : Srv
  /-- Copy engine and claim (14_duty_standby.md). -/
  cp : Cp
  /-- Current-loop engines (10_current_loop.md). -/
  eng : Vector Eng 8
  /-- Gain groups, words KP_D to MISC (10_current_loop.md, R181). -/
  gain : Vector Pset 8
  /-- Route groups (10_current_loop.md, R317). -/
  route : Vector Pset 8
  /-- Tension groups (12_winch_thruster_lamps.md, R364). -/
  tension : Vector Pset 8
  /-- Lamps and I/O block (12_winch_thruster_lamps.md). -/
  lio : Lio
  /-- Feedback block (11_lynx_feedback.md). -/
  fb : Fb
  /-- Modulator capture FIFO, oldest first, at most 256 words (MOD_CAPCFG, 10_current_loop.md). -/
  modCap : List Word
  /-- Potrix ring block (13_potrix_ring.md). -/
  ring : Ring
  /-- Cores, tenants and DMA (05_cores_tenants.md, 06_events_dma.md). -/
  pr : Procs
  /-- Cabinet interface (15_hotplug_cabinet.md). -/
  bear : Bear
  /-- Parameter store and code banks (18_squirrel_store.md). -/
  store : Store
  /-- Nameplate tag (18_squirrel_store.md). -/
  tag : Tag
  /-- Happenings of the present CLKS edge (log entry 2). -/
  edge : Edge
  deriving DecidableEq, Repr

/-- Bytes 0x00 to 0x3F of the option record at the model's start: magic, layout 1, bank A, NODE_BASE 32, RING_NO 0, WDT_MS 100,
factory key, serial number 0 (R107). DESIGN CHOICE (log entry 6): the manual gives no contents. -/
def State.resetOption : List Byte :=
  [0x3C, 0x5A, 0x01, 0x00, 0x20, 0x00, 0x64, 0x00] ++ List.replicate 54 0 ++ [0x69, 0xBA]

/-- The unit right after reset: every register at its reset value, nothing powered yet; the first command a unit carries out is
POWER_ON_RESET (log entry 1). -/
def State.reset : State where
  pending := []
  member := .hx9
  time := 0
  clk := 0
  freeCtr := 0
  wire := []
  rdata := 0
  regs := []
  hold := []
  pend64 := []
  mem := []
  memErr := []
  sys := { opt0 := State.resetOption, opt1 := State.resetOption }
  bg := {}
  axes := Vector.replicate 8 {}
  ports := Vector.replicate 6 {}
  sats := Vector.replicate 48 {}
  waiting := 0
  srv := {}
  cp := {}
  eng := Vector.replicate 8 {}
  gain := Vector.replicate 8 ⟨List.replicate 9 0 ++ [0x1801], List.replicate 9 0 ++ [0x1801]⟩
  route := Vector.replicate 8 ⟨[0], [0]⟩
  tension := Vector.replicate 8 ⟨List.replicate 4 0 ++ [0x00640000], List.replicate 4 0 ++ [0x00640000]⟩
  lio := {}
  fb := {}
  modCap := []
  ring := {}
  pr := {}
  bear := {}
  store := {}
  tag := {}
  edge := {}

end Sys2Proof.Machine
end

