-- ==== Sys2Proof/Machine/Ops.lean ====
section
/-! DEFINITION. The named operations every command is built from: registers and their fields, event strobes, EMCYs, messages
put on the lines, free values, and the small questions asked of the state. -/

namespace Sys2Proof.Machine

/-! ### Registers (R6) -/

/-- The word the register file holds at address `a` (its reset value where nothing has been written). -/
def State.reg (s : State) (a : Nat) : Word := sparseGet (resetWord a) a s.regs

/-- Write the word at `a` in the register file. -/
def State.setReg (s : State) (a : Nat) (v : Word) : State :=
  { s with regs := sparseSet (resetWord a) a v s.regs }

/-- The value of a field. -/
def State.get (s : State) (f : Fld) : Nat := fieldOf (s.reg f.addr) f.hi f.lo

/-- A one-bit field as a truth value. -/
def State.flag (s : State) (f : Fld) : Bool := s.get f != 0

/-- A field read as two's complement. -/
def State.sget (s : State) (f : Fld) : Int := sgn f.width (s.get f)

/-- Remember that hardware has set the bits `m` of the register at `a` on this edge (R12). -/
def State.noteSet (s : State) (a : Nat) (m : Word) : State :=
  { s with edge := { s.edge with sets := if m = 0 then s.edge.sets else (a, m) :: s.edge.sets } }

/-- Bits of the register at `a` that hardware has set on this edge (R12). -/
def State.setNow (s : State) (a : Nat) : Word := s.edge.sets.foldl (fun m e => if e.1 = a then m ||| e.2 else m) 0

/-- Write a field, taken modulo its width; a flag set to 1 is remembered for the edge (R12). -/
def State.put (s : State) (f : Fld) (v : Nat) : State :=
  (s.setReg f.addr (withField (s.reg f.addr) f.hi f.lo v)).noteSet f.addr (if f.hi = f.lo then withField 0 f.hi f.lo v else 0)

/-- Write a signed field. -/
def State.sput (s : State) (f : Fld) (v : Int) : State := s.put f (toCode f.width v)

/-- Set every bit of a field named by `m` (an OR); the bits are remembered for the edge (R12). -/
def State.putOr (s : State) (f : Fld) (m : Nat) : State :=
  (s.setReg f.addr (withField (s.reg f.addr) f.hi f.lo (s.get f ||| m))).noteSet f.addr (withField 0 f.hi f.lo m)

/-- Count a field up, staying at its largest value ("saturating", "stops at"). -/
def State.bump (s : State) (f : Fld) : State := s.put f (satInc (2 ^ f.width - 1) (s.get f))

/-- Count a field up by `n`, staying at its largest value. -/
def State.bumpBy (s : State) (f : Fld) (n : Nat) : State := s.put f (min (2 ^ f.width - 1) (s.get f + n))

/-- Count a field up, wrapping. -/
def State.wrapUp (s : State) (f : Fld) : State := s.put f (s.get f + 1)

/-- A 64-bit register: low word at `a`, high word at `a + 4` (R11). -/
def State.reg64 (s : State) (a : Nat) : Nat := (s.reg a).toNat + (s.reg (a + 4)).toNat * 2 ^ 32

/-- Write a 64-bit register whole. -/
def State.setReg64 (s : State) (a v : Nat) : State :=
  (s.setReg a (BitVec.ofNat 32 v)).setReg (a + 4) (BitVec.ofNat 32 (v / 2 ^ 32))

/-! ### Parts of the state changed whole -/

/-- Change the system control state. -/
def State.modSys (s : State) (f : SysSt → SysSt) : State := { s with sys := f s.sys }
/-- Change the safety supervisor. -/
def State.modBg (s : State) (f : Badger → Badger) : State := { s with bg := f s.bg }
/-- Change the server. -/
def State.modSrv (s : State) (f : Srv → Srv) : State := { s with srv := f s.srv }
/-- Change the copy engine. -/
def State.modCp (s : State) (f : Cp → Cp) : State := { s with cp := f s.cp }
/-- Change the lamps and I/O block. -/
def State.modLio (s : State) (f : Lio → Lio) : State := { s with lio := f s.lio }
/-- Change the feedback block. -/
def State.modFb (s : State) (f : Fb → Fb) : State := { s with fb := f s.fb }
/-- Change the ring block. -/
def State.modRing (s : State) (f : Ring → Ring) : State := { s with ring := f s.ring }
/-- Change the cores, tenants and DMA. -/
def State.modPr (s : State) (f : Procs → Procs) : State := { s with pr := f s.pr }
/-- Change the cabinet interface. -/
def State.modBear (s : State) (f : Bear → Bear) : State := { s with bear := f s.bear }
/-- Change the store. -/
def State.modStore (s : State) (f : Store → Store) : State := { s with store := f s.store }
/-- Change the tag. -/
def State.modTag (s : State) (f : Tag → Tag) : State := { s with tag := f s.tag }
/-- Change the engine of an axis. -/
def State.modEng (s : State) (a : Fin 8) (f : Eng → Eng) : State := { s with eng := upd s.eng a f }
/-- Replace `waiting`. -/
def State.setWaiting (s : State) (v : BitVec 8) : State := { s with waiting := v }
/-- Replace `rdata`. -/
def State.setRdata (s : State) (v : Nat) : State := { s with rdata := v }
/-- Replace `freeCtr`. -/
def State.setFreeCtr (s : State) (v : Nat) : State := { s with freeCtr := v }
/-- Replace `wire`. -/
def State.setWire (s : State) (v : List Msg) : State := { s with wire := v }
/-- Replace `pend64`. -/
def State.setPend64 (s : State) (v : List (Nat × Word)) : State := { s with pend64 := v }
/-- Replace `modCap`. -/
def State.setModCap (s : State) (v : List Word) : State := { s with modCap := v }
/-- Replace `gain`. -/
def State.setGain (s : State) (v : Vector Pset 8) : State := { s with gain := v }
/-- Replace `route`. -/
def State.setRoute (s : State) (v : Vector Pset 8) : State := { s with route := v }
/-- Replace `tension`. -/
def State.setTension (s : State) (v : Vector Pset 8) : State := { s with tension := v }

/-! ### Free values (log entry 4). Kinds of draw: the first argument of `State.draw`, `State.drawInt` and `roundDiv`. -/

/-- Draw kind `k`: the free value and the state with its counter advanced (log entry 4). -/
def State.draw (s : State) (k : Nat) : Nat × State := (Config.freeValue k s.freeCtr, { s with freeCtr := s.freeCtr + 1 })

/-- Draw a signed free value. -/
def State.drawInt (s : State) (k : Nat) : Int × State := (Config.freeInt k s.freeCtr, { s with freeCtr := s.freeCtr + 1 })

/-- `num / den` where the manual does not say how it rounds: exact when it divides, else one of the two neighbours (log entry 4). -/
def roundDiv (k : Nat) (num : Int) (den : Nat) : Int :=
  if den = 0 then Config.divByZero k num
  else if num % (den : Int) = 0 then num / (den : Int)
  else num / (den : Int) + (if Config.roundUp k num den then 1 else 0)

/-! ### Members and absent resources (R24, R155) -/

/-- Which number of instances each member has; the arguments are the counts of HX1, HX3, HX5 and HX9. -/
def Member.pick (m : Member) (a b c d : Nat) : Nat :=
  match m with
  | .hx1 => a
  | .hx3 => b
  | .hx5 => c
  | .hx9 => d

def State.nPorts (s : State) : Nat := s.member.pick 1 2 4 6
def State.nAxes (s : State) : Nat := s.member.pick 1 2 4 8
def State.nCores (s : State) : Nat := s.member.pick 1 2 4 4
def State.nTenants (s : State) : Nat := s.member.pick 2 4 8 8
def State.nEvents (s : State) : Nat := s.member.pick 128 256 512 768
def State.nMod (s : State) : Nat := s.member.pick 8 16 32 64
def State.nInc (s : State) : Nat := s.member.pick 1 2 4 8
def State.nHall (s : State) : Nat := s.member.pick 1 2 4 8
def State.nSsi (s : State) : Nat := s.member.pick 1 1 2 4
def State.nLamps (s : State) : Nat := s.member.pick 2 4 8 8
def State.nCan (s : State) : Nat := s.member.pick 1 2 2 2
def State.nDma (s : State) : Nat := s.member.pick 4 8 16 32

/-! A command that names an instance the member lacks has no effect (R25, R28). -/

def State.hasPort (s : State) (p : Fin 6) : Bool := decide (p.1 < s.nPorts)
def State.hasAxis (s : State) (a : Fin 8) : Bool := decide (a.1 < s.nAxes)
def State.hasCore (s : State) (c : Fin 4) : Bool := decide (c.1 < s.nCores)
def State.hasTenant (s : State) (t : Fin 8) : Bool := decide (t.1 < s.nTenants)
def State.hasInc (s : State) (n : Fin 8) : Bool := decide (n.1 < s.nInc)
def State.hasHall (s : State) (n : Fin 8) : Bool := decide (n.1 < s.nHall)
def State.hasSsi (s : State) (n : Fin 4) : Bool := decide (n.1 < s.nSsi)
def State.hasLamp (s : State) (n : Fin 8) : Bool := decide (n.1 < s.nLamps)
def State.hasCan (s : State) (c : Fin 2) : Bool := decide (c.1 < s.nCan)
def State.hasDma (s : State) (c : Fin 32) : Bool := decide (c.1 < s.nDma)

/-! ### What is running -/

/-- CLKS runs and Haldux is neither in reset nor in its pre-reset phase: commands to Haldux have their effect. -/
def State.up (s : State) : Bool := s.sys.phase == .run

/-- CLKS runs: also during the pre-reset phase (R94). -/
def State.clocked (s : State) : Bool := s.sys.phase == .run || s.sys.phase == .pre

/-- BOOT_DONE is set (R120). -/
def State.bootDone (s : State) : Bool := s.flag BOOT_CTRL_BOOT_DONE

/-- `f` when Haldux runs, else nothing changes: an event that cannot be registered has no effect (log entry 8). -/
def State.whenUp (s : State) (f : State → State) : State := if s.up then f s else s

/-- `f` when Haldux runs and the member has the instance the command names (`has`), else nothing changes (R25; log entry 8). -/
def State.whenHas (s : State) (has : Bool) (f : State → State) : State := if s.up && has then f s else s

/-- Iterate over the numbers below `n`. -/
def forN (n : Nat) (f : Nat → State → State) (s : State) : State := (List.range n).foldl (fun t i => f i t) s

/-- Iterate over the indices of a vector. -/
def forFin (n : Nat) (f : Fin n → State → State) (s : State) : State := (List.finRange n).foldl (fun t i => f i t) s

/-- Common time after one CLKS edge: 4 ns at the trimmed rate, in 1e-9 ns (R402; "Common time"). -/
def Ring.advance (r : Ring) : Ring := { r with ct := (r.ct + (4000000000 + 4 * r.trim).toNat) % (2 ^ 64 * 1000000000) }

/-! ### The present edge -/

/-- Remember a happening of this edge. -/
def State.mark (s : State) (m : EdgeMark) : State := { s with edge := { s.edge with marks := m :: s.edge.marks } }

/-- It has happened on this edge. -/
def State.marked (s : State) (m : EdgeMark) : Bool := s.edge.marks.contains m

/-- The state with the references, feedback and parameter groups of the beginning of the edge, which is what the engine samples (R17,
R315). -/
def State.atEdge (s : State) : State :=
  { s with regs := s.edge.regs0, fb := s.edge.fb0, gain := s.edge.gain0, route := s.edge.route0, tension := s.edge.tension0 }

/-! ### Messages -/

/-- Put a message on a line. -/
def State.send (s : State) (m : Msg) : State := { s with wire := m :: s.wire }

/-! ### Tenants as the event controller and the register bus ask of them -/

/-- State of a tenant, coded as TWU_TSTATE (05_cores_tenants.md): 0 ABSENT, 1 RUNNING, 2 WAITING, 3 STOPPED. Tenant 0 runs from
the release of core 0 to BOOT_DONE, but for its own WFI (R118, R120, R134). -/
def State.tenantState (s : State) (t : Fin 8) : Nat :=
  if t = 0 then (if bitOf (s.get TWU_KILL_STOPPED) 0 then 3 else if s.sys.boot == .rom || s.sys.boot == .service then (if s.waiting.getLsbD 0 then 2 else 1) else 0)
  else if !s.bootDone || s.get (TEN_CORE_EN t) == 0 then 0
  else if bitOf (s.get TWU_KILL_STOPPED) t.1 then 3
  else if s.waiting.getLsbD t.1 then 2 else 1

/-! ### Event strobes (R157, R160) -/

/-- Event E013 of an orphan: only counted when it is an orphan itself (R160). -/
def State.strobeRaw (s : State) (e : Nat) : State :=
  if s.flag (EVT_CTL_PEND e) then s.put (EVT_CTL_COAL e) 1 else s.put (EVT_CTL_PEND e) 1

/-- The tenant a source is routed to. -/
def State.srcTenant (s : State) (e : Nat) : Fin 8 := ⟨s.get (EVT_ROUTE_TENANT e) % 8, Nat.mod_lt _ (by decide)⟩

/-- After BOOT_DONE the source's tenant is 0, ABSENT or STOPPED (R160). -/
def State.orphan (s : State) (e : Nat) : Bool :=
  s.bootDone &&
    (let t := s.srcTenant e
     t == 0 || s.tenantState t == 0 || s.tenantState t == 3)

/-- Numbers marked reserved (R156): E015, E078 and E079, E093 to E095, E103, E109 to E111, E193, E234 to E255, E374 to E511, E684 to
E767, and the reserved offsets of port, axis and lamp groups. -/
def evReserved (e : Nat) : Bool :=
  e == 15 || e == 78 || e == 79 || decide (93 ≤ e ∧ e ≤ 95) || e == 103 || decide (109 ≤ e ∧ e ≤ 111) || e == 193 ||
  decide (234 ≤ e ∧ e ≤ 255) || decide (374 ≤ e ∧ e ≤ 511) || decide (684 ≤ e) ||
  [28, 132, 264, 280, 528, 544].any (fun p => decide (p + 11 ≤ e ∧ e ≤ p + 15)) ||
  [44, 148, 296, 312, 560, 576, 592, 608].any (fun a => decide (a + 9 ≤ e ∧ e ≤ a + 15)) ||
  [80, 84, 178, 182, 358, 362, 366, 370].any (fun l => e == l + 3)

/-- Strobe of source `e`: PEND, or COAL when PEND is set (R157); an orphan is counted and strobes E013 (R160); an absent or reserved
source never asserts (R26, R155, R156), and the reset of its tenant on the same edge discards the strobe (R185). -/
def State.strobe (s : State) (e : Nat) : State :=
  if !s.up || decide (s.nEvents ≤ e) || evReserved e || s.marked (.tenReset (s.srcTenant e)) then s
  else if s.orphan e then
    let s1 := (s.bump EVT_STAT_ORPHAN)
    if e = 13 then s1
    else
      let s2 := s1.put EVT_LAST_ORPH e
      if s2.orphan 13 then s2.bump EVT_STAT_ORPHAN else s2.strobeRaw 13
  else s.strobeRaw e

/-- Set W1C bits of a field and strobe the source of each bit set, bit `b` at `base + b` (R157). -/
def State.raise (s : State) (f : Fld) (b base : Nat) : State := (s.putOr f (2 ^ b)).strobe (base + b)

/-! Event numbers of R156. -/

/-- First source of port `p`. -/
def evPort (p : Nat) : Nat := match p with | 0 => 28 | 1 => 132 | 2 => 264 | 3 => 280 | 4 => 528 | _ => 544
/-- First source of axis `a`. -/
def evAxis (a : Nat) : Nat := match a with | 0 => 44 | 1 => 148 | 2 => 296 | 3 => 312 | n => 560 + 16 * (n - 4)
/-- MODFAULT of modulator channel `c`. -/
def evMod (c : Nat) : Nat := if c < 8 then 60 + c else if c < 16 then 164 + (c - 8) else if c < 32 then 328 + (c - 16) else 624 + (c - 32)
/-- First source of incremental channel `n`. -/
def evInc (n : Nat) : Nat := match n with | 0 => 68 | 1 => 172 | 2 => 344 | 3 => 348 | k => 656 + 4 * (k - 4)
/-- First source of Hall set `h`. -/
def evHall (h : Nat) : Nat := match h with | 0 => 72 | 1 => 176 | 2 => 352 | 3 => 354 | k => 672 + 2 * (k - 4)
/-- First source of SSI channel `i`. -/
def evSsi (i : Nat) : Nat := match i with | 0 => 74 | 1 => 356 | 2 => 680 | _ => 682
/-- First source of lamp `n`. -/
def evLamp (n : Nat) : Nat := if n < 2 then 80 + 4 * n else if n < 4 then 178 + 4 * (n - 2) else 358 + 4 * (n - 4)
/-- Source of DMA channel `c`. -/
def evDma (c : Nat) : Nat := if c < 4 then 24 + c else if c < 8 then 128 + (c - 4) else if c < 16 then 256 + (c - 8) else 512 + (c - 16)
/-- First source of CAN channel `c`. -/
def evCan (c : Nat) : Nat := if c = 0 then 96 else 186

/-! ### EMCYs (R499, R500) -/

/-- Queue an EMCY in the server, up to 32; one more is counted as lost (R500). `bytes` are bytes 3 and on. -/
def State.emcy (s : State) (code : Nat) (bytes : List Nat) : State :=
  if s.srv.emcyQ.length < 32 then { s with srv := { s.srv with emcyQ := s.srv.emcyQ ++ [⟨code, bytes⟩] } }
  else { s with srv := { s.srv with emcyLost := s.srv.emcyLost + 1 } }

/-- Object 0x1001 (R499): an axis holds OVERCURRENT (bit 1) or a DC-link fault, or one feed is invalid (bit 2); communication (bit
4); an axis in Fault (bit 5); lock-out (bit 7); bit 0 with any other. -/
def State.errReg (s : State) : Nat :=
  let map := fun a : Fin 8 => (s.reg (ENG_FAULT a)).toNat
  let b1 := (List.finRange 8).any fun a => bitOf (map a) 1
  let b2 := (List.finRange 8).any (fun a => bitOf (map a) 2 || bitOf (map a) 3) || !(s.bear.feedA && s.bear.feedB)
  let b4 := (List.finRange 2).any (fun c => s.flag (CAN_CFG_EN c) && s.srv.can[c].state != 0) ||
    (List.range 4).any (fun k => s.flag (PDO_HBC_EXPIRED k)) || s.get PDO_LOSS_AX != 0
  let b5 := (List.finRange 8).any fun a => s.axes[a].st == .fault || s.axes[a].st == .faultReact
  let v := b2n b1 * 2 + b2n b2 * 4 + b2n b4 * 16 + b2n b5 * 32 + b2n s.bg.latched * 128
  v + b2n (v != 0)

/-- EMCY 0x0000 when 0x1001 returns to 0, judged on each CLKS edge (R500). -/
def State.errEdge (s : State) : State :=
  if s.errReg != 0 then (s.modSrv fun z => { z with errOn := true })
  else if s.srv.errOn then ((s.modSrv fun z => { z with errOn := false })).emcy 0 []
  else s

/-! ### Time -/

/-- DMA channels that stopped on the edge before strobe their sources (R175). -/
def State.dueStrobes (s : State) : State :=
  s.pr.dmaDue.foldl (fun t c => t.strobe (evDma c.1)) (s.modPr fun z => { z with dmaDue := [] })

/-- One edge of the 4 ns grid: real time moves, and while CLKS runs it counts its edges (FB_TIME, R322), common time
advances, DMA channels that stopped strobe and object 0x1001 is judged; nothing else has happened yet on the new edge (log entry 2). -/
def State.tick (s : State) : State :=
  let e : Edge := { regs0 := s.regs, fb0 := s.fb, gain0 := s.gain, route0 := s.route, tension0 := s.tension }
  if s.clocked then ({ s with time := s.time + 1, clk := s.clk + 1, ring := s.ring.advance, edge := e }).dueStrobes.errEdge
  else { s with time := s.time + 1, edge := e }

/-! ### Axes -/

/-- Heartbeat mode code of an axis (R66). -/
def Axis.code (x : Axis) : Nat :=
  if x.st == .enabled || x.st == .quickStop then
    if x.mode = -3 then 1
    else if x.mode = 4 ∨ x.mode = 10 then 2
    else if x.mode = 3 ∨ x.mode = 9 then 3
    else if x.mode = -1 then 4
    else if x.mode = -2 then 5 else 0
  else 0

/-- STATE code of AX_SW. -/
def Cia.code : Cia → Nat
  | .notReady => 0 | .disabled => 1 | .ready => 2 | .switchedOn => 3
  | .enabled => 4 | .quickStop => 5 | .faultReact => 6 | .fault => 7

/-- The axis is in SAFE (R66). -/
def State.isSafe (s : State) (a : Fin 8) : Bool := s.axes[a].code == 0

/-- Every axis whose bit is set in `m` is in SAFE. -/
def State.allSafe (s : State) (m : Nat) : Bool :=
  (List.finRange 8).all fun a => !bitOf m a.1 || s.isSafe a

/-- The unit-wide SERVICE condition of R10: an axis in SERVICE and none in TORQUE, SPEED, TENSION or EMERGENCY. -/
def State.unitService (s : State) : Bool :=
  (List.finRange 8).any (fun a => s.axes[a].code == 1) && (List.finRange 8).all (fun a => s.axes[a].code ≤ 1)

/-- The same as a write is judged by it: an axis that moves into or out of SERVICE on this edge voids it (R10). -/
def State.serviceNow (s : State) : Bool := s.unitService && !s.marked .service

/-- Change one axis by `f`. -/
def State.modAxis (s : State) (a : Fin 8) (f : Axis → Axis) : State := { s with axes := upd s.axes a f }

/-- Change one port by `f`. -/
def State.modPort (s : State) (p : Fin 6) (f : Port → Port) : State := { s with ports := upd s.ports p f }

/-- Axes served by a port (SP_CFG.AXMAP). -/
def State.axmap (s : State) (p : Fin 6) : Nat := s.get (SP_CFG_AXMAP p.1)

/-- The unit is paired by SW8 and does not hold the claim (R86, R424). -/
def State.unclaimed (s : State) : Bool := bitOf s.bg.snap 7 && !s.cp.claim

end Sys2Proof.Machine
end

