-- ==== Sys2Proof/Machine/Satellite.lean ====
section
/-! DEFINITION. The Jalzil satellite (08_jalzil_core.md, 09_jalzil_power.md). Every command carries the port and the select code;
a frame's command carries the hsck `t` of the frame's reference point on the satellite's SCLK, another command the hsck `now` of
its edge. -/

namespace Sys2Proof.Machine

/-! ### Access -/

/-- Index of the satellite on select `k` of port `p`. -/
def satIdx (p : Fin 6) (k : Fin 8) : Fin 48 := ⟨8 * p.1 + k.1, by omega⟩

/-- The satellite on select `k` of port `p`. -/
def State.sat (s : State) (p : Fin 6) (k : Fin 8) : Sat := s.sats[satIdx p k]

/-- Change one satellite. -/
def State.modSat (s : State) (p : Fin 6) (k : Fin 8) (f : Sat → Sat) : State := { s with sats := upd s.sats (satIdx p k) f }

/-- The satellite pulls ALERT_N low: INTLK, SC or UV latched (R234). -/
def Sat.alert (x : Sat) : Bool := x.intlk || x.sc || x.uv

/-- ALERT_N of a port is high: no satellite of the port pulls it low. -/
def State.alertN (s : State) (p : Fin 6) : Bool := (List.finRange 8).all fun k => !(s.sat p k).alert

/-! ### Replies (R192 to R195, R234, R235) -/

/-- CRC-8 of the 32 bits [39:8] of a command or reply (R195). -/
def crc8 (v : Nat) : Nat := crcBits 8 0x2F 0xFF (msbBits 32 v)

/-- A reply or command word of 40 bits: alive counter, status or opcode, payload, CRC (R192). -/
def frameWord (alive st payload : Nat) : Nat :=
  let v := alive % 16 * 2 ^ 28 + st % 16 * 2 ^ 24 + payload % 2 ^ 24
  v * 256 + crc8 v

/-- Status nibble (R194). -/
def Sat.status (x : Sat) : Nat := b2n x.lastBad * 8 + b2n x.alert * 4 + b2n x.diagReady * 2 + b2n x.boot

/-- State payload (R234). -/
def Sat.statePayload (x : Sat) (cmderr : Bool) : Nat :=
  let bit (i : Nat) (b : Bool) : Nat := b2n b * 2 ^ i
  bit 23 x.high.on + bit 22 x.low.on + bit 21 cmderr + bit 20 x.intlk + bit 19 x.sc + bit 18 x.uv + bit 17 x.ca +
    bit 16 x.haltSeen + bit 15 x.done + bit 14 x.conv.isSome + bit 13 x.diag.isSome + x.tsw

/-- Register payload (R235). -/
def regPayload (refused : Bool) (addr data : Nat) : Nat := b2n refused * 2 ^ 23 + addr % 64 * 2 ^ 16 + data % 65536

/-- A satellite drives a reply word. -/
def State.satReply (s : State) (p : Fin 6) (k : Fin 8) (w : Nat) : State :=
  (s.modSat p k fun x => { x with driving := true }).send ⟨.reply p k, [w], leBytes 5 w⟩

/-! ### The register map (R254, R283) -/

/-- CFGSIG (R247): CRC-16 of the ten configuration-set registers in address order, high byte first. -/
def Sat.cfgSig (x : Sat) : Nat :=
  crc16 ([x.group, x.dtmin, x.profMode, x.profOn, x.profOff, x.profHard, x.adapt, x.sccfg, x.blank, x.hssup].flatMap fun v =>
    [BitVec.ofNat 8 (v / 256), BitVec.ofNat 8 v])

/-- FLAGS as read. -/
def Sat.flags (x : Sat) : Nat :=
  let bit (i : Nat) (b : Bool) : Nat := b2n b * 2 ^ i
  bit 15 x.srst + bit 8 x.intlk + bit 7 x.sc + bit 6 x.uv + bit 5 x.ca + bit 4 x.haltSeen + bit 2 x.cmdErr + bit 1 x.diagReady + b2n x.boot

/-- The value of a register; none at an unmapped address. -/
def Sat.readReg (x : Sat) (a : Nat) : Option Nat :=
  match a with
  | 0x00 => some 0x4A11
  | 0x01 => some (b2n x.done)
  | 0x02 => some x.flags
  | 0x03 => some x.written
  | 0x04 => some x.cfgSig
  | 0x05 => some (x.badCnt * 256 + x.cmdCnt)
  | 0x08 => some x.group
  | 0x09 => some x.dtmin
  | 0x0A => some x.tlmcfg
  | 0x0B => some (b2n x.conv.isSome * 2 ^ 15 + ((x.conv.map (·.1)).getD 0) * 2 ^ 12 + x.seq)
  | 0x10 => some x.profMode
  | 0x11 => some x.profOn
  | 0x12 => some x.profOff
  | 0x13 => some x.profHard
  | 0x14 => some x.adapt
  | 0x18 => some x.sccfg
  | 0x19 => some x.blank
  | 0x1A => some x.hssup
  | 0x20 => some x.diagcfg
  | 0x21 => some (b2n x.scH * 2 ^ 15 + b2n x.scL * 2 ^ 14 + b2n x.uvH * 2 ^ 13 + b2n x.uvL * 2 ^ 12 + x.diagClass * 256)
  | 0x28 => some (x.high.con * 2 ^ 12 + x.high.coff * 256 + x.high.tsw)
  | 0x29 => some (x.low.con * 2 ^ 12 + x.low.coff * 256 + x.low.tsw)
  | _ => if h : 0x30 ≤ a ∧ a - 0x30 < 7 then some (x.tlm[a - 0x30]'h.2) else none

/-- Bits a WRITE may set without refusal (R254: a reserved bit that is 1 refuses); none where no WRITE is possible. -/
def satWritable (a : Nat) : Option Nat :=
  match a with
  | 0x01 => some 0x0001
  | 0x02 => some 0x81F7
  | 0x05 => some 0xFFFF
  | 0x08 => some 0x0003
  | 0x09 => some 0x00FF
  | 0x0A => some 0x807F
  | 0x10 => some 0x0001
  | 0x11 | 0x12 => some 0x7FFF
  | 0x13 => some 0x03FF
  | 0x14 => some 0xFFFF
  | 0x18 => some 0x3FFF
  | 0x19 => some 0x03FF
  | 0x1A => some 0x01FF
  | 0x20 => some 0x01FF
  | _ => none

/-- Fields within range (DTMIN, R283). -/
def satInRange (a v : Nat) : Bool :=
  match a with
  | 0x09 => decide (10 ≤ v)
  | 0x14 => decide (4 ≤ bitsOf v 15 8) && decide (bitsOf v 15 8 ≤ 250) && decide (bitsOf v 3 0 ≤ bitsOf v 7 4)
  | 0x18 => decide (2 ≤ bitsOf v 7 4) && decide (bitsOf v 1 0 ≤ 1)
  | 0x19 => decide (16 ≤ v)
  | _ => true

/-- Bit of WRITTEN of a configuration-set register (R245). -/
def satSetBit (a : Nat) : Option Nat :=
  match a with
  | 0x08 => some 0 | 0x09 => some 1 | 0x10 => some 2 | 0x11 => some 3 | 0x12 => some 4 | 0x13 => some 5 | 0x14 => some 6
  | 0x18 => some 7 | 0x19 => some 8 | 0x1A => some 9 | _ => none

/-- A code held within CMIN to CMAX of ADAPT (R259). -/
def Sat.clampCode (x : Sat) (c : Nat) : Nat := max (bitsOf x.adapt 3 0) (min (bitsOf x.adapt 7 4) c)

/-- Both gates' codes clamped into the range of ADAPT. -/
def Sat.clampCodes (x : Sat) : Sat :=
  let f (g : Gate) : Gate := { g with con := x.clampCode g.con, coff := x.clampCode g.coff }
  { x with high := f x.high, low := f x.low }

/-- CON and COFF of both gates loaded from PROF_ON.S2 and PROF_OFF.S2 (R259), within CMIN to CMAX. -/
def Sat.loadCodes (x : Sat) : Sat :=
  let f (g : Gate) : Gate := { g with con := bitsOf x.profOn 9 6, coff := bitsOf x.profOff 9 6 }
  ({ x with high := f x.high, low := f x.low } : Sat).clampCodes

/-- Store a configuration-set or plain register. -/
def Sat.store (x : Sat) (a v : Nat) : Sat :=
  match a with
  | 0x08 => { x with group := v }
  | 0x09 => { x with dtmin := v }
  | 0x0A => { x with tlmcfg := v }
  | 0x10 => { x with profMode := v }
  | 0x11 =>
    let y : Sat := { x with profOn := v }
    if x.done then y.loadCodes else y
  | 0x12 =>
    let y : Sat := { x with profOff := v }
    if x.done then y.loadCodes else y
  | 0x13 => { x with profHard := v }
  | 0x14 => let y : Sat := { x with adapt := v }; if x.done then y.clampCodes else y
  | 0x18 => { x with sccfg := v }
  | 0x19 => { x with blank := v }
  | 0x1A => { x with hssup := v }
  | 0x20 => { x with diagcfg := v }
  | _ => x

/-- Both gates off, no event pending, no profile running at `now` (R246, R275). -/
def Sat.still (x : Sat) (now : Nat) : Bool :=
  !x.high.on && !x.low.on && x.events.isEmpty && decide (x.high.profEnd ≤ now) && decide (x.low.profEnd ≤ now)

/-- Next channel of an AUTO run after channel `c` (R251): ascending order, from the lowest again. -/
def nextChannel (mask : Nat) (c : Nat) : Option (Fin 7) :=
  let on := (List.finRange 7).filter fun i => bitOf mask i.1
  match on.filter fun i => decide (c < i.1) with
  | i :: _ => some i
  | [] => on.head?

/-- Lowest channel of MASK. -/
def firstChannel (mask : Nat) : Option (Fin 7) := (List.finRange 7).find? fun i => bitOf mask i.1

/-- The W1C write of FLAGS (FLAGS, R262, R270): none when it is refused; `cmp` tells that the comparator of an enabled gate die is
asserted at hsck 81. -/
def Sat.clearFlags (x : Sat) (v : Nat) (cmp : Bool) : Option Sat :=
  if (bitOf v 7 && cmp) || (bitOf v 6 && (x.low.posUv || x.low.negUv)) then none
  else some { x with
    intlk := x.intlk && !bitOf v 8
    sc := x.sc && !bitOf v 7
    scH := x.scH && !bitOf v 7
    scL := x.scL && !bitOf v 7
    uv := x.uv && !bitOf v 6
    ca := x.ca && !bitOf v 5
    haltSeen := x.haltSeen && !bitOf v 4 }

/-- CTRL.DONE written 1 (R245): none when WRITTEN is not complete. -/
def Sat.configDone (x : Sat) : Option Sat :=
  if x.written ≠ 0x3FF then none
  else if x.done then some x else some ({ x with done := true, boot := false } : Sat).loadCodes

/-- A WRITE (R235, R245, R246, R254, R283) at hsck `now`: none when it is refused. -/
def Sat.writeReg (x : Sat) (a v now : Nat) (cmp : Bool) : Option Sat :=
  match satWritable a with
  | none => none
  | some m =>
    if v &&& (0xFFFF ^^^ m) ≠ 0 then none
    else if a = 0x01 then (if bitOf v 0 then x.configDone else some x)
    else if a = 0x02 then x.clearFlags v cmp
    else if a = 0x05 then some { x with badCnt := 0, cmdCnt := 0 }
    else if !satInRange a v then none
    else match satSetBit a with
      | some b =>
        if x.done && !x.still now then none
        else some { x.store a v with written := x.written ||| 2 ^ b }
      | none =>
        if a = 0x20 then (if x.diag.isSome then none else some (x.store a v))
        else
          let y := x.store a v
          -- AUTO set starts conversions at the lowest channel of MASK (R251)
          if bitOf v 15 && x.conv.isNone && x.diag.isNone then some { y with conv := firstChannel (v % 128) } else some y

/-! ### Gates (R239, R257 to R260) -/

/-- The satellite's gate. -/
def Sat.gate (x : Sat) (hi : Bool) : Gate := if hi then x.high else x.low

/-- Change one gate. -/
def Sat.modGate (x : Sat) (hi : Bool) (f : Gate → Gate) : Sat := if hi then { x with high := f x.high } else { x with low := f x.low }

/-- Under AUTO with the converter free and no run in progress, a conversion starts (R251, R276). -/
def Sat.convAuto (x : Sat) : Sat :=
  if bitOf x.tlmcfg 15 && x.conv.isNone && x.diag.isNone then { x with conv := firstChannel (x.tlmcfg % 128) } else x

/-- A diagnostic run ends with class 6 ABANDONED (R278), and AUTO goes on (R276). -/
def Sat.diagAbandon (x : Sat) : Sat :=
  if x.diag.isSome then ({ x with diag := none, diagClass := 6, diagReady := true } : Sat).convAuto else x

/-- The adaptive step of a measured transition (R259): the new code. -/
def Sat.adaptStep (x : Sat) (c tsw : Nat) : Nat :=
  let tgt := bitsOf x.adapt 15 8
  x.clampCode (if tsw = 0xFE ∨ tgt + 1 < tsw then c + 1 else if tsw + 1 < tgt then c - 1 else c)

/-- The switching time of a transition is recorded, and in the adaptive style its code moves one step (R258, R259). -/
def Sat.measure (x : Sat) (hi on : Bool) (tsw : Nat) : Sat :=
  let v := min tsw 0xFE
  { x.modGate hi fun g =>
    let g1 := { g with tsw := v }
    if bitOf x.profMode 0 then
      (if on then { g1 with con := x.adaptStep g.con v } else { g1 with coff := x.adaptStep g.coff v })
    else g1 with tsw := v }

/-- The measurements whose plateau exit has come by hsck `now` are recorded, in the order of their exits; on one edge the low side's
stands last (log entry 42). -/
def Sat.settle (x : Sat) (now : Nat) : Sat :=
  let one (hi : Bool) (y : Sat) : Sat :=
    match (y.gate hi).meas with
    | some (on, at', tsw) => if at' ≤ now then (y.modGate hi fun g => { g with meas := none }).measure hi on tsw else y
    | none => y
  match x.high.meas, x.low.meas with
  | some (_, h, _), some (_, l, _) => if l < h then one true (one false x) else one false (one true x)
  | _, _ => one false (one true x)

/-- The profile of a transition starts at `now` (R257): phase 1 of P1 hsck, phase 2 of P2 hsck at S2 in the phased style and at
`code` in the adaptive one, then the hold; `exit` hsck later the plateau ends (R258). -/
def Gate.profile (g : Gate) (prof code now : Nat) (adaptive on : Bool) (tsw exit : Nat) : Gate :=
  { g with
    ph1End := now + bitsOf prof 14 10
    profEnd := now + bitsOf prof 14 10 + bitsOf prof 5 0
    code := if adaptive then code else bitsOf prof 9 6
    meas := some (on, now + exit, tsw) }

/-- Drive strength at hsck `now` (R257, R260): code 15 in phase 1 and in the hold, the profile's code in phase 2. -/
def Gate.strength (g : Gate) (now : Nat) : Nat := if g.ph1End ≤ now ∧ now < g.profEnd then g.code else 15

/-- Peak gate current of a strength code in mA (R256), nominal. -/
def peakMilliAmp (code : Nat) : Nat := 750 * (code + 1)

/-- A normal turn-off at `now` (R257); none of a gate already off. -/
def Sat.turnOff (x : Sat) (hi : Bool) (now tsw exit : Nat) : Sat :=
  if !(x.gate hi).on then x
  else x.modGate hi fun g =>
    { g with on := false, offAt := some now, offEdge := some now }.profile x.profOff g.coff now (bitOf x.profMode 0) false tsw exit

/-- A turn-on at `now`, after the checks of R239 and R262; a diagnostic run is abandoned first (R278). -/
def Sat.turnOn (x0 : Sat) (hi : Bool) (now tsw exit : Nat) : Sat :=
  let x := x0.diagAbandon
  let g := x.gate hi
  let other := x.gate (!hi)
  if g.on then x
  else if g.posUv || g.negUv then
    if hi then { x with uv := true, uvH := true } else { x with uv := true, uvL := true }
  else if other.on || (match other.offAt with | some o => decide (now < o + x.dtmin) | none => false) then { x with intlk := true }
  else x.modGate hi fun g => { g with on := true, onAt := now }.profile x.profOn g.con now (bitOf x.profMode 0) true tsw exit

/-- Analog turn-off at full sink, without phases (R228, R243, R262); `off` is what the interlock counts from. A transition cut short
records nothing (R258). -/
def Gate.analogOff (g : Gate) (off : Option Nat) : Gate :=
  if g.on then { g with on := false, offAt := off, offEdge := off, ph1End := 0, profEnd := 0, meas := none }
  else { g with ph1End := 0, profEnd := 0, meas := none }

/-- Hard-off at `now` (R260): code HS for HT hsck, then code 15; no effect on a gate that was already off with no profile running. -/
def Gate.hardOff (g : Gate) (profHard now : Nat) : Gate :=
  let h : Gate := { g with ph1End := now, profEnd := now + bitsOf profHard 5 0, code := bitsOf profHard 9 6, meas := none }
  if g.on then { h with on := false, offAt := none, offEdge := some now }
  else if now < g.profEnd then { h with offAt := none } else g

/-- A conversion in progress is abandoned: VALID of its channel stays 0 until a new result (R251). -/
def Sat.convAbandon (x : Sat) : Sat :=
  match x.conv with
  | some c => { x with conv := none, tlm := x.tlm.set c.1 (x.tlm[c] % 2 ^ 15) c.2 }
  | none => x

/-! ### Commands as frames (R197, R224, R231) -/

/-- A good command is carried out: its counter becomes the last good counter. -/
def Sat.accept (x : Sat) (alive : Nat) : Sat := { x with lastGood := alive, lastBad := false, cmdErr := false }

/-- A good command is refused (R231). -/
def Sat.refuse (x : Sat) (alive : Nat) : Sat :=
  { x with lastGood := alive, lastBad := false, cmdErr := true, cmdCnt := satInc 255 x.cmdCnt }

/-- The reply of a command (R192): alive counter and status nibble of `x`, the state at hsck 81 (R233), and the payload. -/
def State.answer (s : State) (p : Fin 6) (k : Fin 8) (x : Sat) (payload : Nat) : State :=
  s.satReply p k (frameWord x.lastGood x.status payload)

/-- Carry out a command: its reply, with the payload `pay` gives, shows the state from before its own effect (R233). -/
def State.satDo (s : State) (p : Fin 6) (k : Fin 8) (alive : Nat) (pay : Sat → Nat) (f : Sat → Sat) : State :=
  let x := (s.sat p k).accept alive
  (s.modSat p k fun y => f (y.accept alive)).answer p k x (pay x)

/-- Refuse a command with the State payload as its reply. -/
def State.satRefuse (s : State) (p : Fin 6) (k : Fin 8) (alive : Nat) : State :=
  let x := (s.sat p k).refuse alive
  (s.modSat p k fun y => y.refuse alive).answer p k x (x.statePayload true)

/-- The busy reply (R198): the counter is unchanged, LAST_BAD is not part of it and ends with the good command. -/
def State.satBusy (s : State) (p : Fin 6) (k : Fin 8) : State :=
  let s1 := s.modSat p k fun x => { x with lastBad := false }
  s1.satReply p k (frameWord (s.sat p k).lastGood 15 0xB5B5B5)

/-- A satellite out of reset acts on a frame; one held in reset does nothing. -/
def State.satWhen (s : State) (p : Fin 6) (k : Fin 8) (f : State → State) : State := if (s.sat p k).inReset then s else f s

/-- A frame with reference point `t` is taken (R223): what was measured by hsck 81 is recorded. -/
def Sat.framed (x : Sat) (t : Nat) : Sat := { x.settle (t + 81) with frame := .taken }

/-- The command of a frame with reference point `t` reaches a satellite out of reset: a frame opens only where the select was
released since the last one (R223). -/
def State.satFrame (s : State) (p : Fin 6) (k : Fin 8) (t : Nat) (f : State → State) : State :=
  s.satWhen p k fun u =>
    if (u.sat p k).frame = .idle then f (u.modSat p k (·.framed t)) else u

/-- Execute the events of one SCLK edge: turn-offs first, then turn-ons (R239); the switching times and plateau exits are those the
transitions will show. -/
def Sat.runEdge (x : Sat) (now : Nat) (swH swL : Switching) : Sat :=
  let due := x.events.filter fun e => e.due == now
  let x1 := { x.settle now with events := x.events.filter fun e => e.due != now }
  let sw (e : SatEvent) : Switching := if e.high then swH else swL
  let x2 := (due.filter fun e => !e.on).foldl (fun y e => y.turnOff e.high now (sw e).tsw (sw e).exit) x1
  (due.filter fun e => e.on).foldl (fun y e => y.turnOn e.high now (sw e).tsw (sw e).exit) x2

/-- The earliest pending edge. -/
def Sat.nextDue (x : Sat) : Option Nat :=
  x.events.foldl (fun m e => match m with | none => some e.due | some d => some (min d e.due)) none

/-- SAT_EDGE_EVENT: the earliest scheduled position comes due (R239); `swH` and `swL` say how the transitions will show
themselves (R258). -/
def execSatEdgeEvent (p : Fin 6) (k : Fin 8) (swH swL : Switching) (s : State) : Host.Outcome State Fault Refusal :=
  .next <| s.satWhen p k fun t =>
    match (t.sat p k).nextDue with
    | none => t
    | some now => t.modSat p k fun x => x.runEdge now swH swL

/-! ### Gate commands (R236 to R242) -/

/-- Event field of a payload: gate, level, position. -/
structure EdgeEv where
  high : Bool
  on : Bool
  pos : Nat
  deriving DecidableEq, Repr

/-- Decode one event field (R236). -/
def edgeEv (v : Nat) : EdgeEv := ⟨bitOf v 9, bitOf v 8, v % 256⟩

/-- Events of a payload; position 0xFF is none. -/
def edgeEvs (payload : Nat) : List EdgeEv :=
  [edgeEv (bitsOf payload 19 10), edgeEv (bitsOf payload 9 0)].filter fun e => e.pos != 0xFF

/-- Reference of the target slot (R237). -/
def edgeSlot (t payload : Nat) : Nat := t + 172 * (1 + bitsOf payload 23 22)

/-- The refusals of R238. -/
def Sat.edgeBad (x : Sat) (t payload : Nat) : Bool :=
  let evs := edgeEvs payload
  evs.any (fun e => 172 ≤ e.pos) || evs.isEmpty ||
  (match evs with | [a, b] => a.high == b.high && (a.on == b.on || a.pos == b.pos) | _ => false) ||
  x.events.any (fun e => e.slot == edgeSlot t payload)

/-- Enter the events of a command for its target slot (R238). -/
def Sat.enter (x : Sat) (t payload : Nat) : Sat :=
  let b := edgeSlot t payload
  { x with events := x.events ++ (edgeEvs payload).map fun e => ⟨b + e.pos, b, e.high, e.on⟩ }

/-- SAT_ALLOFF (R241): the event due on hsck 82 runs first (R252), then both gates turn off and every event is cancelled. -/
def execSatAlloff (p : Fin 6) (sels : BitVec 8) (t : Nat) (alive : Fin 16) (swH swL : Switching) (s : State) :
    Host.Outcome State Fault Refusal :=
  .next <| forFin 8 (fun k u => if !sels.getLsbD k.1 then u else u.satFrame p k t fun v =>
    v.modSat p k fun x =>
      let y := (x.accept alive).runEdge (t + 82) swH swL
      { ((y.turnOff true (t + 82) swH.tsw swH.exit).turnOff false (t + 82) swL.tsw swL.exit) with events := [] }) s

/-- SAT_EDGE (R238): carried out, refused, or refused in the form of R244 while BOOT is 1. -/
def execSatEdge (p : Fin 6) (k : Fin 8) (t : Nat) (alive : Fin 16) (payload : BitVec 24) (s : State) :
    Host.Outcome State Fault Refusal :=
  .next <| s.satFrame p k t fun u =>
    let x := u.sat p k
    let pl := payload.toNat
    if bitsOf pl 21 20 ≠ 0 ∨ x.edgeBad t pl then u.satRefuse p k alive
    else if x.boot then
      let u1 := u.modSat p k fun y => { y with lastBad := false, cmdErr := true, cmdCnt := satInc 255 y.cmdCnt }
      let y := u1.sat p k
      u1.satReply p k (frameWord 0 y.status (y.statePayload true))
    else u.satDo p k alive (·.statePayload false) fun y => y.enter t pl

/-- One satellite meets an EDGE_S: ignored while BOOT is 1 (R244), good without effect for another GROUP (R242), else as EDGE
without a reply. -/
def Sat.edgeS (x : Sat) (t alive payload : Nat) : Sat :=
  if x.boot then x
  else if bitsOf payload 21 20 ≠ x.group then x.accept alive
  else if x.edgeBad t payload then x.refuse alive
  else (x.accept alive).enter t payload

/-- SAT_EDGE_S (R242): every satellite selected judges it. -/
def execSatEdgeS (p : Fin 6) (sels : BitVec 8) (t : Nat) (alive : Fin 16) (payload : BitVec 24) (s : State) :
    Host.Outcome State Fault Refusal :=
  .next <| forFin 8 (fun k u => if !sels.getLsbD k.1 then u else u.satFrame p k t fun v =>
    v.modSat p k fun x => x.edgeS t alive payload.toNat) s

/-! ### Registers, status, telemetry and diagnostics -/

/-- SAT_READ (R235): Register layout with [23:22] and DATA 0; an unmapped address is refused and returns 0. -/
def execSatRead (p : Fin 6) (k : Fin 8) (f : CmdFrame) (payload : BitVec 24) (s : State) : Host.Outcome State Fault Refusal :=
  .next <| s.satFrame p k f.t fun u =>
    let pl := payload.toNat
    let a := bitsOf pl 21 16
    let x := u.sat p k
    match x.readReg a with
    | none => (u.modSat p k (·.refuse f.alive)).answer p k (x.refuse f.alive) (regPayload true a 0)
    | some _ =>
      let bad := bitsOf pl 23 22 != 0 || bitsOf pl 15 0 != 0
      let y := if bad then x.refuse f.alive else x.accept f.alive
      (u.modSat p k fun _ => y).answer p k y (regPayload bad a ((y.readReg a).getD 0))

/-- A WRITE of `v` to address `a` at reference `t` (R235): applied on the edge of hsck 81, and the reply reports the result. -/
def State.satWriteReg (s : State) (p : Fin 6) (k : Fin 8) (t alive a v : Nat) (cmp rsv : Bool) : State :=
  let x := s.sat p k
  match (if rsv then none else x.writeReg a v (t + 81) cmp) with
  | some y =>
    let z := y.accept alive
    (s.modSat p k fun _ => z).answer p k z (regPayload false a ((z.readReg a).getD 0))
  | none =>
    let z := x.refuse alive
    (s.modSat p k fun _ => z).answer p k z (regPayload true a (if (satWritable a).isNone then 0 else (z.readReg a).getD 0))

/-- SAT_WRITE (R235). -/
def execSatWrite (p : Fin 6) (k : Fin 8) (t : Nat) (alive : Fin 16) (payload : BitVec 24) (cmp : Bool) (s : State) :
    Host.Outcome State Fault Refusal :=
  .next <| s.satFrame p k t fun u =>
    u.satWriteReg p k t alive (bitsOf payload.toNat 21 16) (bitsOf payload.toNat 15 0) cmp (bitsOf payload.toNat 23 22 != 0)

/-- SAT_CONFIG_DONE: a WRITE of 1 to CTRL.DONE (R245). -/
def execSatConfigDone (p : Fin 6) (k : Fin 8) (t : Nat) (alive : Fin 16) (s : State) : Host.Outcome State Fault Refusal :=
  .next <| s.satFrame p k t fun u => u.satWriteReg p k t alive 0x01 1 false false

/-- SAT_FLAGS_CLEAR: a W1C WRITE of FLAGS (R262, R270). -/
def execSatFlagsClear (p : Fin 6) (k : Fin 8) (t : Nat) (alive : Fin 16) (bits : BitVec 16) (cmp : Bool) (s : State) :
    Host.Outcome State Fault Refusal :=
  .next <| s.satFrame p k t fun u => u.satWriteReg p k t alive 0x02 bits.toNat cmp false

/-- SAT_ERRCNT_CLEAR: any WRITE of ERRCNT clears both counts (R254). -/
def execSatErrcntClear (p : Fin 6) (k : Fin 8) (t : Nat) (alive : Fin 16) (data : BitVec 16) (s : State) :
    Host.Outcome State Fault Refusal :=
  .next <| s.satFrame p k t fun u => u.satWriteReg p k t alive 0x05 data.toNat false false

/-- SAT_STATUS (R229, R234): a payload other than 0 is refused. -/
def execSatStatus (p : Fin 6) (k : Fin 8) (f : CmdFrame) (payload : BitVec 24) (s : State) : Host.Outcome State Fault Refusal :=
  .next <| s.satFrame p k f.t fun u =>
    if payload = 0 then u.satDo p k f.alive (·.statePayload false) id else u.satRefuse p k f.alive

/-- SAT_TLM_START (R251, R232, R275): busy during a diagnostic run and during a single conversion, refused under AUTO. -/
def execSatTlmStart (p : Fin 6) (k : Fin 8) (f : CmdFrame) (payload : BitVec 24) (s : State) :
    Host.Outcome State Fault Refusal :=
  .next <| s.satFrame p k f.t fun u =>
    let x := u.sat p k
    let pl := payload.toNat
    let auto := bitOf x.tlmcfg 15
    if x.diag.isSome || (x.conv.isSome && !auto) then u.satBusy p k
    else if pl % 2 ^ 20 ≠ 0 ∨ auto then u.satRefuse p k f.alive
    else if h : pl / 2 ^ 20 < 7 then u.satDo p k f.alive (·.statePayload false) fun y => { y with conv := some ⟨pl / 2 ^ 20, h⟩ }
    else u.satRefuse p k f.alive

/-- SAT_TLM_READ (R249). -/
def execSatTlmRead (p : Fin 6) (k : Fin 8) (f : CmdFrame) (payload : BitVec 24) (s : State) :
    Host.Outcome State Fault Refusal :=
  .next <| s.satFrame p k f.t fun u =>
    let pl := payload.toNat
    if pl % 2 ^ 20 ≠ 0 then u.satRefuse p k f.alive
    else if h : pl / 2 ^ 20 < 7 then
      u.satDo p k f.alive (fun x =>
        let v := x.tlm[pl / 2 ^ 20]'h
        pl / 2 ^ 20 * 2 ^ 20 + bitsOf v 15 14 * 2 ^ 18 + x.seq * 2 ^ 12 + v % 4096) id
    else u.satRefuse p k f.alive

/-- SAT_TLM_CONVERSION_DONE (R249, R251): the result is stored, SEQ counts, and AUTO goes on with the next channel of MASK.
`ovr`: the comparator has not crossed, so that
the count is 4,095; a count of 4,095 sets OVR. -/
def execSatTlmConversionDone (p : Fin 6) (k : Fin 8) (result : BitVec 12) (ovr : Bool) (s : State) :
    Host.Outcome State Fault Refusal :=
  let v := if ovr then 4095 else result.toNat
  .next <| s.satWhen p k fun u => u.modSat p k fun x =>
    match x.conv with
    | none => x
    | some c =>
      { x with
        tlm := x.tlm.set c.1 (2 ^ 15 + b2n (v = 4095) * 2 ^ 14 + v) c.2
        seq := (x.seq + 1) % 64
        conv := if bitOf x.tlmcfg 15 && x.diag.isNone then nextChannel (x.tlmcfg % 128) c.1 else none }

/-- SAT_DIAG_START (R275, R284): busy while a run is in progress; refused unless both gates are off with nothing pending. -/
def execSatDiagStart (p : Fin 6) (k : Fin 8) (t : Nat) (alive : Fin 16) (payload : BitVec 24) (s : State) :
    Host.Outcome State Fault Refusal :=
  .next <| s.satFrame p k t fun u =>
    let x := u.sat p k
    let pl := payload.toNat
    if x.diag.isSome then u.satBusy p k
    else if pl % 2 ^ 22 ≠ 0 ∨ pl / 2 ^ 22 = 3 ∨ x.still (t + 81) = false then u.satRefuse p k alive
    else u.satDo p k alive (·.statePayload false) fun y => { y with diag := some (pl / 2 ^ 22) }

/-- SAT_DIAG_READ (R278, R284): the diagnostic layout; DIAG_READY clears. -/
def execSatDiagRead (p : Fin 6) (k : Fin 8) (f : CmdFrame) (payload : BitVec 24) (s : State) :
    Host.Outcome State Fault Refusal :=
  .next <| s.satFrame p k f.t fun u =>
    if payload ≠ 0 then u.satRefuse p k f.alive
    else
      u.satDo p k f.alive (fun x => x.diagClass * 2 ^ 21 + x.diagVA * 2 ^ 15 + x.diagVB * 2 ^ 9 + x.diagTB)
        fun x => { x with diagReady := false }

/-- Class of a run (R277): `va` and `vb` are the converter's results, 17.578 mV each; `tb` the hsck until V_DGL crossed 10 V. -/
def diagClassOf (va vb tb topen : Nat) : Nat :=
  let low (v : Nat) : Bool := decide (v * 17578 < 4000000)
  let top (v : Nat) : Bool := decide (68000000 ≤ v * 17578)
  if low va && low vb then 5
  else if low vb then 3
  else if low va then 2
  else if top va || top vb || decide (65408 ≤ tb) then 5
  else if tb < topen * 128 then 4 else 1

/-- SAT_DIAG_RUN_DONE (R276, R277, R284); no run ends while a conversion holds the converter. -/
def execSatDiagRunDone (p : Fin 6) (k : Fin 8) (va vb : BitVec 12) (tb : Nat) (s : State) : Host.Outcome State Fault Refusal :=
  .next <| s.satWhen p k fun u => u.modSat p k fun x =>
    if x.diag.isNone || x.conv.isSome then x
    else ({ x with
      diag := none, diagReady := true
      diagClass := diagClassOf va.toNat vb.toNat tb x.diagcfg
      diagVA := min 63 (va.toNat / 64), diagVB := min 63 (vb.toNat / 64)
      diagTB := if 65408 ≤ tb then 511 else tb / 128 } : Sat).convAuto

/-- SAT_SRESET (R248): the key is accepted and the reset runs on the select release; another payload is refused. -/
def execSatSreset (p : Fin 6) (k : Fin 8) (f : CmdFrame) (payload : BitVec 24) (s : State) : Host.Outcome State Fault Refusal :=
  .next <| s.satFrame p k f.t fun u =>
    if payload = 0xA55A00 then u.satDo p k f.alive (·.statePayload false) fun x => { x with srstDue := true }
    else u.satRefuse p k f.alive

/-- Opcodes the satellite does not implement (R229). -/
def satReserved (op : Nat) : Bool := decide (10 ≤ op) && decide (op ≤ 13) || op == 15

/-- SAT_RESERVED_OPCODE (R229, R231): refused with CMDERR; an opcode of another row is no such frame. -/
def execSatReservedOpcode (p : Fin 6) (k : Fin 8) (f : OpFrame) (s : State) : Host.Outcome State Fault Refusal :=
  .next <| if satReserved f.opcode then s.satFrame p k f.t fun u => u.satRefuse p k f.alive else s

/-- A bad command (R197): LAST_BAD and its count. -/
def Sat.badCommand (x : Sat) : Sat := { x with lastBad := true, badCnt := satInc 255 x.badCnt }

/-- Pending turn-ons are cancelled (R226). -/
def Sat.cancelOns (x : Sat) : Sat := { x with events := x.events.filter fun e => !e.on }

/-- SAT_BAD_COMMAND (R197): ignored and answered with LAST_BAD and the unchanged counter; a low start bit cancels pending turn-ons
(R226). `f.early`: the select was released before bit 0 was sampled, so that the frame has ended without a reply (R223). The payload of
the reply is not stated: a free value (log entry 4). -/
def execSatBadCommand (p : Fin 6) (k : Fin 8) (f : BadFrame) (s : State) : Host.Outcome State Fault Refusal :=
  .next <| s.satWhen p k fun u =>
    if (u.sat p k).frame = .taken then u
    else
      let u1 := u.modSat p k fun x =>
        let y := { (x.settle (f.t + 81)).badCommand with frame := if f.early then .idle else .taken }
        if f.startLow then y.cancelOns else y
      if f.early then u1
      else
        let (v, u2) := u1.draw 20
        u2.answer p k (u2.sat p k) (v % 2 ^ 24)

/-- The command that a good frame's 40 bits spell to the satellite (R192, R197, R229): a bad one where the start bit is low or the CRC
fails. `cmp` is the comparator's level at hsck 81 (R270); `swH` and `swL` are for an
ALLOFF. -/
def satCommandOf (p : Fin 6) (k : Fin 8) (t : Nat) (start cmp : Bool) (swH swL : Switching) (w : BitVec 40) : Instr :=
  let alive := w.extractLsb' 36 4 |>.toFin
  let payload := w.extractLsb' 8 24
  if !start || crc8 (w.toNat / 256) != w.toNat % 256 then .satBadCommand p k ⟨t, !start, false⟩
  else match (w.extractLsb' 32 4).toNat with
    | 0x0 => .satAlloff p (1#8 <<< k.1) t alive swH swL
    | 0x1 => .satEdge p k t alive payload
    | 0x2 => .satEdgeS p (1#8 <<< k.1) t alive payload
    | 0x3 => .satRead p k ⟨t, alive⟩ payload
    | 0x4 => .satWrite p k t alive payload cmp
    | 0x5 => .satStatus p k ⟨t, alive⟩ payload
    | 0x6 => .satTlmStart p k ⟨t, alive⟩ payload
    | 0x7 => .satTlmRead p k ⟨t, alive⟩ payload
    | 0x8 => .satDiagStart p k t alive payload
    | 0x9 => .satDiagRead p k ⟨t, alive⟩ payload
    | 0xE => .satSreset p k ⟨t, alive⟩ payload
    | _ => .satReservedOpcode p k ⟨t, alive, (w.extractLsb' 32 4).toFin⟩

/-! ### Halt, release, clock absence, reset, supplies, short circuit -/

/-- SAT_HALT_RECOGNITION (R226, R260). With `h.opening` the first stage, on hsck 1 of a frame without a start bit: every pending turn-on
is cancelled. Without it the second, on hsck 9: hard-off of both gates, every event cancelled, conversion and run abandoned. -/
def execSatHaltRecognition (p : Fin 6) (k : Fin 8) (h : HaltStage) (s : State) : Host.Outcome State Fault Refusal :=
  .next <| s.satWhen p k fun u => u.modSat p k fun x =>
    if x.frame = .taken then x
    else if h.opening then { x.cancelOns with frame := .opened }
    else
      let y := ((x.settle (h.t + 9)).convAbandon).diagAbandon
      ({ y with
        high := y.high.hardOff x.profHard (h.t + 9), low := y.low.hardOff x.profHard (h.t + 9)
        events := [], haltSeen := true, driving := false, frame := .taken } : Sat).convAuto

/-- Reset of the satellite (R243). -/
def Sat.reset (x : Sat) (srst : Bool) : Sat :=
  let g (y : Gate) : Gate := { posUv := y.posUv, negUv := y.negUv, collapsed := y.collapsed }
  { high := g x.high, low := g x.low, srst := srst, inReset := x.inReset, frame := if srst || x.frame = .idle then .idle else .taken }

/-- SAT_SELECT_RELEASE (R223): the frame ends and SDIO is released; a frame opened and not yet judged was bad (R197); an accepted
SRESET runs (R248). -/
def execSatSelectRelease (p : Fin 6) (k : Fin 8) (s : State) : Host.Outcome State Fault Refusal :=
  .next <| s.satWhen p k fun u => u.modSat p k fun x =>
    if x.srstDue then x.reset true
    else { (if x.frame = .opened then x.badCommand else x) with driving := false, frame := .idle }

/-- SAT_CLOCK_ABSENCE (R228), the last SCLK edge having been hsck `c.now`; AUTO begins again when SCLK returns (R251). -/
def execSatClockAbsence (p : Fin 6) (c : SatAt) (s : State) : Host.Outcome State Fault Refusal :=
  .next <| s.satWhen p c.k fun u => u.modSat p c.k fun x =>
    let y := ((x.settle c.now).convAbandon).diagAbandon
    ({ y with
      high := y.high.analogOff none, low := y.low.analogOff none, events := [], driving := false, ca := true
      frame := if x.frame = .idle then .idle else .taken } : Sat).convAuto

/-- SAT_RESET: the link-die supply dips below its threshold (R243, R263). -/
def execSatReset (p : Fin 6) (k : Fin 8) (s : State) : Host.Outcome State Fault Refusal :=
  .next <| s.modSat p k fun x => { x.reset false with inReset := true }

/-- SAT_RESET_EXIT: VDDL rises through 2.90 V (R263). -/
def execSatResetExit (p : Fin 6) (k : Fin 8) (s : State) : Host.Outcome State Fault Refusal :=
  .next <| s.modSat p k fun x => { x with inReset := false }

/-- A supply of a gate die enters UV at hsck `now` (R262): a gate that is on is turned off by the die and UV latches; the low side
latches UV with both gates off while CONFIG_DONE is set. A turn-off on the same edge has no further effect (R282). -/
def Sat.uvEnter (x : Sat) (hi neg : Bool) (now : Nat) : Sat :=
  let g := x.gate hi
  if (if neg then g.negUv else g.posUv) then x
  else
    let y := (x.settle now).modGate hi fun g => if neg then { g with negUv := true } else { g with posUv := true }
    if g.on || g.offEdge == some now || (!hi && x.done) then
      let z := { y.modGate hi fun g => ({ g with on := g.on || g.offEdge == some now } : Gate).analogOff (some now) with uv := true }
      if hi then { z with uvH := true } else { z with uvL := true }
    else y

/-- SAT_UV_ENTRY (R261, R262): supply VPOS or VNEG (`neg`) of a gate die at hsck `now`. -/
def execSatUvEntry (p : Fin 6) (k : Fin 8) (high neg : Bool) (now : Nat) (s : State) : Host.Outcome State Fault Refusal :=
  .next <| s.modSat p k fun x => x.uvEnter high neg now

/-- SAT_UV_EXIT (R261): the supply rises through its rising threshold. -/
def execSatUvExit (p : Fin 6) (k : Fin 8) (high neg : Bool) (s : State) : Host.Outcome State Fault Refusal :=
  .next <| s.modSat p k fun x =>
    x.modGate high fun g => if neg then { g with negUv := false } else { g with posUv := false, collapsed := false }

/-- SAT_GATE_SUPPLY_COLLAPSE (R263): VPOS below 6 V; the die holds OUT at COM, so the gate is off. -/
def execSatGateSupplyCollapse (p : Fin 6) (k : Fin 8) (high : Bool) (now : Nat) (s : State) : Host.Outcome State Fault Refusal :=
  .next <| s.modSat p k fun x =>
    (x.uvEnter high false now).modGate high fun g => { g.analogOff (some now) with collapsed := true }

/-- SAT_GATE_SUPPLY_RETURN (R263): VPOS above 6 V again; the die restarts with its gate off, still in UV. -/
def execSatGateSupplyReturn (p : Fin 6) (k : Fin 8) (high : Bool) (s : State) : Host.Outcome State Fault Refusal :=
  .next <| s.modSat p k fun x => x.modGate high fun g => if g.collapsed then { g with on := false, collapsed := false } else g

/-- V_TH in mV (R268), nominal: SENSE 100 + 50 × THR, SHUNT 10 + 5 × THR. -/
def scThreshold (sccfg : Nat) : Nat :=
  if bitsOf sccfg 1 0 = 0 then 100 + 50 * bitsOf sccfg 13 8 else 10 + 5 * bitsOf sccfg 13 8

/-- SAT_SC_LATCH (R269, R270): the last FILT of them
lie above V_TH and within the sampling of an enabled gate, from BLANK hsck after its turn-on to the edge on which it turns off. -/
def execSatScLatch (p : Fin 6) (k : Fin 8) (sc : ScSamples) (s : State) : Host.Outcome State Fault Refusal :=
  .next <| s.satWhen p k fun u => u.modSat p k fun x =>
    let g := x.gate sc.high
    let filt := bitsOf x.sccfg 7 4
    if bitOf x.sccfg (if sc.high then 3 else 2) && (g.on || g.offEdge == some sc.now) && decide (g.onAt + x.blank + filt ≤ sc.now + 1) &&
        decide (filt ≤ sc.mv.length) && (sc.mv.reverse.take filt).all fun v => decide (scThreshold x.sccfg < v) then
      if sc.high then { x with sc := true, scH := true } else { x with sc := true, scL := true }
    else x

end Sys2Proof.Machine
end

