-- ==== Sys2Proof/Machine/AxisOps.lean ====
section
/-! DEFINITION. Shared operations of the mode sequencer (03_operating_modes.md): state changes, refusals, brake outputs, fast
halt, drive fault, cut, ramps, the controlword, the emergency request. -/

namespace Sys2Proof.Machine

/-- The flags of AX_EVT as one field. -/
def axEvt (a : Nat) : Fld := ⟨AX_EVT a, 5, 0⟩

/-- Lamps that follow axis `a` begin an on phase when it leaves SAFE (R375, R376). -/
def State.lampsFollow (s : State) (a : Fin 8) : State :=
  let l := Vector.ofFn fun n : Fin 8 =>
    if s.flag (LAMP_MODE_FOLLOW n) && s.get (LAMP_CFG_AXIS n) == a.1 then { s.lio.lamps[n] with litFrom := s.clk } else s.lio.lamps[n]
  (s.modLio fun z => { z with lamps := l })

/-- An axis takes state `st` with mode of operation `mode`: STATECHG is set and strobed when STATE or MODE changed, and a
changed mode ends the withholding of EMCYs (R66, R67, R74). A move into or out of SERVICE is remembered for its edge (R10). -/
def State.axisTo (s : State) (a : Fin 8) (st : Cia) (mode : Int) : State :=
  let old := s.axes[a]
  let sx := s.modAxis a fun x => { x with st := st, mode := mode }
  let new := sx.axes[a]
  let s1 := if old.code ≠ new.code ∧ (old.code = 1 ∨ new.code = 1) then sx.mark .service else sx
  let s0 := if old.code = 0 ∧ new.code ≠ 0 then s1.lampsFollow a else s1
  let s2 := if new.code = old.code then s0 else s0.modAxis a fun x => { x with withheld := [] }
  if old.st = st ∧ old.code = new.code then s2 else s2.raise (axEvt a) 0 (evAxis a)

/-- The unit's 8-bit code of a mode of operation. -/
def modeByte (m : Int) : Nat := toCode 8 m

/-- Record a command that is not carried out, or a transition turned into a fast halt (R74): AX_REFUSE, AX_EVT.REFUSED and the
EMCY of the reason, withheld while the same one has been sent for this axis. -/
def State.recordRefusal (s : State) (a : Fin 8) (cmd reason : Nat) (req : Int) : State :=
  let s1 := ((s.bump (AX_REFUSE_COUNT a)).put (AX_REFUSE_REASON a) reason).put (AX_REFUSE_CMD a) cmd
  let s2 := s1.raise (axEvt a) 1 (evAxis a)
  if reason ∈ s.axes[a].withheld then s2
  else (s2.emcy (0xFF00 + reason) [a, cmd, s.axes[a].st.code, modeByte req, 0]).modAxis a
    fun x => { x with withheld := reason :: x.withheld }

/-- Refuse a command (R74): recorded, and answered with an abort where SDO carried it. -/
def State.refuse (s : State) (a : Fin 8) (cmd reason : Nat) (req : Int) : State :=
  (s.recordRefusal a cmd reason req).modAxis a fun x => { x with refusedNow := true }

/-- A command was accepted: EMCYs of refusals are sent again (R74). -/
def State.accept (s : State) (a : Fin 8) : State := s.modAxis a fun x => { x with withheld := [] }

/-! ### Conditions that meet on one edge (R72) -/

/-- A condition of rank `r` is about to act on axis `a`. -/
def State.markAct (s : State) (r : Nat) (a : Fin 8) : State := s.mark (.acted r a s.axes[a].st s.axes[a].code)

/-- What the conditions of this edge have done to axis `a`, newest first: rank, and the state and mode code before. -/
def State.actedOn (s : State) (a : Fin 8) : List (Nat × Cia × Nat) :=
  s.edge.marks.filterMap fun m => match m with
    | .acted r b st c => if b = a then some (r, st, c) else none
    | _ => none

/-- Reason of a rank of R72. -/
def rankReason (r : Nat) : Nat := match r with | 1 | 2 => 0x20 | 3 => 0x21 | 4 => 0x26 | _ => 0x27

/-- The highest condition ranked above `r` that has acted on axis `a` on this edge: its reason, and the state and mode code the axis
had before the first of them (R72). -/
def State.beatenBy (s : State) (a : Fin 8) (r : Nat) : Option (Nat × Cia × Nat) :=
  let l := (s.actedOn a).filter fun e => decide (e.1 < r)
  match l.getLast? with
  | none => none
  | some (_, st, c) => some (rankReason (l.foldl (fun m e => min m e.1) r), st, c)

/-! ### Brake outputs (R355) -/

/-- Does an emergency release in FREE form act on axis `a` (R373)? -/
def State.freeActs (s : State) (a : Fin 8) : Bool :=
  (List.range 4).any fun k => bitOf (s.get EMG_LVL_FREE) k && s.get (ERL_CFG_AXIS k) == a.1

/-- Does an axis linked to `a` command release (R355)? Its own bit is ignored. -/
def State.linkHeld (s : State) (a : Fin 8) : Bool :=
  (List.finRange 8).any fun b => b != a && bitOf (s.get (BRK_CFG_LINK a)) b.1 && s.flag (BRK_STAT_CMD b)

/-- The brake outputs follow their conditions (R355). -/
def State.brakeOut (s : State) (a : Fin 8) : State :=
  let held := s.linkHeld a
  let free := s.freeActs a
  let out := s.bg.permit && (s.flag (BRK_STAT_CMD a) || held || (free && !s.flag (BRK_STAT_GOVSET a)))
  let s1 := (s.put (BRK_STAT_PERMIT a) (b2n s.bg.permit)).put (BRK_STAT_LINKHELD a) (b2n held)
  let s2 := (s1.put (BRK_STAT_ERLACT a) (b2n free)).put (BRK_STAT_OUT a) (b2n out)
  if out = s.flag (BRK_STAT_OUT a) then s2
  else
    let s3 := (s2.modLio fun z => { z with brkWait := s2.lio.brkWait ||| BitVec.ofNat 8 (2 ^ a.1) })
    -- NOTSET belongs to the set command before; a new release ends it
    if out then s3.put (BRK_STAT_NOTSET a) 0 else s3

/-- All brake outputs. -/
def State.brakes (s : State) : State := forFin 8 (fun a t => t.brakeOut a) s

/-- An axis commands its brake released or set (R356, R357). -/
def State.brakeCmd (s : State) (a : Fin 8) (release : Bool) : State := (s.put (BRK_STAT_CMD a) (b2n release)).brakes

/-! ### Fast halt (R78) -/

/-- clk from the request of a halt to halt start, by its cause (R212, R213). -/
def haltLead (cause : Nat) : Nat :=
  match cause with
  | 1 | 6 => 9
  | 2 | 3 => 7
  | _ => 2

/-- Ask a streaming port for a halt: of several requests the one whose halt starts first counts (R212, R220); a port that already halts keeps
the halt it has (R213). -/
def State.haltPort (s : State) (p : Fin 6) (cause : Nat) (by_ : Nat) : State :=
  let at_ := s.clk + haltLead cause
  s.modPort p fun q =>
    if q.st != .stream then q
    else match q.haltDue with
      | none => { q with haltDue := some cause, haltBy := by_, haltAt := at_ }
      | some c =>
        if at_ < q.haltAt then { q with haltDue := some cause, haltBy := by_, haltAt := at_ }
        else if c = 5 ∧ cause = 5 then { q with haltBy := q.haltBy ||| by_ } else q

/-- Every port that serves axis `a` is asked to halt for cause 5 (R78, R213). -/
def State.haltAxisPorts (s : State) (a : Fin 8) : State :=
  forFin 6 (fun p t => if bitOf (t.axmap p) a then t.haltPort p 5 (2 ^ a.1) else t) s

/-- The engine stops publishing edges and every ramp ends (R78). -/
def State.stopEngine (s : State) (a : Fin 8) : State :=
  (((s.put (ENG_STAT_EDGES a) 0).put (ENG_STAT_PRECHG a) 0).put (ENG_STAT_LIMIT a) 0).modAxis a
    fun x => { x with step := 0, lifting := false, ramp := .none, idle := false, pendEmg := false, byScs := false, warm := false,
                      clampFrom := none }

/-- Every gate of the axis is off and the engine knows of no conduction: after a halt (R78, R214). -/
def State.levelsOff (s : State) (a : Fin 8) : State :=
  (s.modEng a fun e => { e with lv := Vector.replicate 3 none, lowFrom := Vector.replicate 3 none,
                                                 lowEnd := Vector.replicate 3 none })

/-- What a fast halt does beside its halt frames: the engine stops, every gate goes off and the brake is commanded set (R78). -/
def State.haltAxis (s : State) (a : Fin 8) : State := ((s.stopEngine a).levelsOff a).brakeCmd a false

/-- A fast halt: a halt frame on every port of the axis and the brake commanded set on the same edge (R78). -/
def State.fastHalt (s : State) (a : Fin 8) : State := (s.haltAxisPorts a).haltAxis a

/-! ### Drive faults (R89, R312) -/

/-- Take a drive fault whose EMCY cause byte is `cause`, with the error code of its row (R89, R510). The record of the cause
itself (ENG_FAULT, WN_FAULT) is kept by the caller. In Fault already: error code and fast halt again, no EMCY (R312, R510). -/
def State.takeFault (s : State) (a : Fin 8) (cause axerr : Nat) : State :=
  let x := s.axes[a]
  let s1 := ((s.markAct 3 a).put (AX_ERR_ERRCODE a) axerr).raise (axEvt a) 2 (evAxis a)
  if x.st = .fault ∨ x.st = .faultReact then s1.fastHalt a
  else
    -- option code 0x605E is 0: the reaction is the fast halt, after which the axis is in Fault (R89)
    let s2 := ((s1.fastHalt a).axisTo a .faultReact x.mode).axisTo a .fault x.mode
    let s3 := if x.code = 5 then s2.raise (axEvt a) 4 (evAxis a) else s2
    s3.emcy axerr [a, cause, 0, 0, 0]

/-- AX_ERR of an engine cause (R312). -/
def engineError (c : Nat) : Nat :=
  match c with
  | 1 => 0x2310 | 2 => 0x3210 | 3 => 0x3220 | 4 => 0xFF50 | 5 => 0xFF51 | 6 => 0xFF52 | 7 => 0xFF53
  | 8 => 0xFF54 | 9 => 0xFF55 | 10 => 0xFF56 | 11 => 0xFF57 | 12 => 0x7300 | _ => 0x8400

/-- The axis is in Fault, where a cause that is recorded already does not latch anew (R312). -/
def State.inFault (s : State) (a : Fin 8) : Bool := s.axes[a].st == .fault || s.axes[a].st == .faultReact

/-- The axis is in SAFE, and no condition has taken it there on this edge: a drive fault that meets a cut on one edge still counts
(R577). -/
def State.wasSafe (s : State) (a : Fin 8) : Bool := s.isSafe a && !(s.actedOn a).any fun e => e.2.2 != 0

/-- A drive fault of the engine, cause `c` of R312: recorded in ENG_FAULT and taken. A modulator, and the feedback, are a drive fault
only out of SAFE (R292, R349). -/
def State.engineFault (s : State) (a : Fin 8) (c : Nat) : State :=
  if (c = 4 ∨ c = 12) ∧ s.wasSafe a then s
  else if s.inFault a ∧ bitOf (s.get ⟨ENG_FAULT a, 13, 0⟩) c then s
  else
    let s1 := s.putOr ⟨ENG_FAULT a, 13, 0⟩ (2 ^ c)
    let s2 := if s.get (ENG_FAULT_FIRST a) = 0 then s1.put (ENG_FAULT_FIRST a) c else s1
    s2.takeFault a c (engineError c)

/-- A drive fault of the lamps and I/O block, code `c` of R383. -/
def State.winchFault (s : State) (a : Fin 8) (c : Nat) : State :=
  if s.inFault a ∧ bitOf (s.get (WN_FAULT_MAP a)) c then s
  else
    let s1 := s.putOr (WN_FAULT_MAP a) (2 ^ c)
    let s2 := if s.get (WN_FAULT_FIRST a) = 0 then s1.put (WN_FAULT_FIRST a) c else s1
    s2.takeFault a (0x10 + c) (0xFF72 + c)

/-- An engine cause reported to every axis a port serves (R201, R216). -/
def State.portFault (s : State) (p : Fin 6) (c : Nat) : State :=
  forFin 8 (fun a t => if bitOf (s.axmap p) a then t.engineFault a c else t) s

/-! ### Feedback source of an axis (R348, R349) -/

/-- LOSS of the channel with code `c`: 0x00 to 0x07 incremental, 0x10 to 0x17 Hall, 0x20 to 0x23 SSI. -/
def State.chanLoss (s : State) (c : Nat) : Bool :=
  if c < 8 then s.flag (INC_STAT_LOSS c)
  else if 0x10 ≤ c ∧ c < 0x18 then s.flag (HALL_STAT_LOSS (c - 0x10))
  else if 0x20 ≤ c ∧ c < 0x24 then s.flag (SSI_STAT_LOSS (c - 0x20)) else false

/-- EN of the channel with code `c`. -/
def State.chanEn (s : State) (c : Nat) : Bool :=
  if c < 8 then s.flag (INC_CFG_EN c)
  else if 0x10 ≤ c ∧ c < 0x18 then s.flag (HALL_CFG_EN (c - 0x10))
  else if 0x20 ≤ c ∧ c < 0x24 then s.flag (SSI_CFG_EN (c - 0x20)) else false

/-- The enabled analog input of role `r` that serves axis `a` and is valid (R353, R354). -/
def State.ainOf (s : State) (a : Fin 8) (r : Nat) : Option Nat :=
  (List.range 8).find? fun i =>
    s.flag (AIN_CFG_EN i) && s.get (AIN_CFG_ROLE i) == r && s.get (AIN_CFG_AXIS i) == a.1 && s.flag (AIN_STAT_VALID i)

/-- The cause of the axis's drive fault is still present (R77 fault reset, R83): the conditions that can persist (DEDUCED, log
entry 9). -/
def State.causePresent (s : State) (a : Fin 8) : Bool :=
  let m := s.get ⟨ENG_FAULT a, 13, 0⟩
  let w := s.get (WN_FAULT_MAP a)
  s.axes[a].st == .faultReact ||
  (List.range 14).any (fun c => bitOf m c && bitOf s.eng[a].found c) ||
  (bitOf m 4 && (List.range 64).any fun c => s.flag (MOD_CFG_EN c) && s.get (MOD_CFG_AXIS c) == a.1 && s.flag (MOD_STAT_STUCK c)) ||
  (bitOf m 8 && (List.finRange 6).any fun p => bitOf (s.axmap p) a && !s.alertN p) ||
  (bitOf m 12 && (s.chanLoss (s.get (ENG_FB_SRC a)) || !s.chanEn (s.get (ENG_FB_SRC a)))) ||
  (bitOf w 2 && s.get (TN_CFG_SRC a) == 0 && s.get (TN_CFG_FALLBK a) == 0 &&
    (s.ainOf a 2).isNone)

/-- A fault reset that the sequencer accepts clears the drive-fault record (R35, R89, R579). -/
def State.clearFault (s : State) (a : Fin 8) : State :=
  (((s.setReg (ENG_FAULT a) 0).setReg (WN_FAULT a) 0).put (AX_ERR_ERRCODE a) 0)

/-- Fault reset: from Fault to Switch on disabled, refused 23 while the cause is present; nothing in other states (R77). -/
def State.faultReset (s : State) (a : Fin 8) : State :=
  if s.axes[a].st != .fault then s
  else if s.causePresent a then s.refuse a 3 0x23 (sgn 8 (s.get (AX_MODESEL_MODESEL a)))
  else ((s.clearFault a).axisTo a .disabled s.axes[a].mode).accept a

/-! ### Cut and SS1-t (R87) -/

/-- The cut's effect on one axis: out of SAFE it enters Switch on disabled with the fast halt that the halt frames of HALT_N give, and EMCY
0xFF25 (R87, R212). -/
def State.cutAxis (s : State) (a : Fin 8) : State :=
  let x := s.axes[a]
  if x.code = 0 then s
  else
    let s1 := ((s.markAct 1 a).haltAxis a).axisTo a .disabled x.mode
    let s2 := if x.code = 5 then s1.raise (axEvt a) 4 (evAxis a) else s1
    s2.emcy 0xFF25 [a, 0, x.st.code, s.get (AX_MODESEL_MODESEL a), 0]

/-- The cut's effect on every axis (R86, R87). -/
def State.cutAxes (s : State) : State := forFin 8 (fun a t => t.cutAxis a) (s.mark .cut)

/-- Leave an enabled mode for state `st`; the end of EMERGENCY sets EMGEXIT (AX_EVT). -/
def State.leaveTo (s : State) (a : Fin 8) (st : Cia) : State :=
  let x := s.axes[a]
  let s1 := s.axisTo a st x.mode
  if x.code = 5 then s1.raise (axEvt a) 4 (evAxis a) else s1

/-! ### Ramps (R80). Speed references stand in 1/65,536e9 min^-1, torque in 1/65,536e12 per mille, so that every step of a ramp
and of the speed controller is exact. -/

/-- Units of a speed reference in one min^-1. -/
def spdUnit : Int := 65536000000000
/-- Units of a torque in one per mille of rated. -/
def tqUnit : Int := 65536000000000000

/-- The measured speed of the last filter output, in units of a speed reference. -/
def State.spdNow (s : State) (a : Fin 8) : Int := s.sget (ENG_SPD_V a) * 1000000000

/-- The axis runs its torque loop: in TORQUE but for the ramps that run the speed loop in every mode (R293), and while its torque
ramps to 0 (R80). -/
def Axis.torqueLoop (x : Axis) : Bool :=
  match x.ramp with
  | .stopSpeed _ _ | .pendEmg => false
  | .stopTorque _ => true
  | _ => x.code == 2

/-- The ramp register a ramp uses: 0x6084, 0x6085 or 0x6087; a speed move picks its own by direction. -/
def Ramp.rate (s : State) (a : Fin 8) : Ramp → Nat
  | .torque | .stopTorque _ => (s.reg (AX_TSLOPE a)).toNat
  | .stopSpeed false _ => (s.reg (AX_PDEC a)).toNat
  | .stopSpeed true _ | .pendEmg => (s.reg (AX_QSDEC a)).toNat
  | .none | .speed => 1

/-- A ramp to standstill or to zero. -/
def Ramp.stops : Ramp → Bool
  | .stopSpeed _ _ | .stopTorque _ => true
  | _ => false

/-- The transition in progress waits for standstill (R79): a ramp to standstill, or torque ramped to 0. -/
def Axis.waitsStill (x : Axis) : Bool :=
  match x.ramp with
  | .stopSpeed _ g => g != .stayZero
  | .stopTorque g => g != .stayZero && x.tqRef == 0
  | _ => false

/-- The stop in progress is a halt by the halt bit (R70, R77). -/
def Axis.halting (x : Axis) : Bool :=
  match x.ramp with
  | .stopSpeed _ g | .stopTorque g => g == .stayZero || g == .serviceIdle
  | _ => false

/-- Begin a ramp; a ramp register of 0 turns the transition into a fast halt and Switch on disabled, recorded with reason 0x28
and the command code (AX_TSLOPE to AX_QSDEC, 03_operating_modes.md). `st` is the state the axis is in during the ramp. A stop that
runs already goes on (R72); a stop begun in steps 1 and 2 of the enable sequence ends that sequence (log entry 68). A quick stop, and a
speed ramp out of a torque loop, begin at the measured speed, other speed ramps at the present reference (R80). -/
def State.beginRamp (s : State) (a : Fin 8) (r : Ramp) (st : Cia) (cmd : Nat) : State :=
  let x := s.axes[a]
  if r.stops && x.ramp == r && x.st == st then s
  else if r.rate s a = 0 then
    ((s.fastHalt a).leaveTo a .disabled).recordRefusal a cmd 0x28 (sgn 8 (s.get (AX_MODESEL_MODESEL a)))
  else
    let leaves : Bool := r.stops && (x.step == 1 || x.step == 2)
    let s0 := if leaves then s.put (ENG_STAT_PRECHG a) 0 else s
    let s1 := s0.modAxis a fun y => { y with
      ramp := r
      rampCmd := some cmd
      idle := false
      step := if leaves then 0 else y.step
      lifting := y.lifting && !leaves
      spdRef := if st == .quickStop || x.torqueLoop || leaves then s.spdNow a else y.spdRef }
    -- a torque ramp starts from the last torque demand, and so does the speed loop that follows a torque loop
    let s2 := match r with
      | .stopTorque _ => s1.modAxis a fun y => { y with tqRef := s.eng[a].tLast }
      | _ => if x.torqueLoop && !s1.axes[a].torqueLoop then
          (s1.modEng a fun e => { e with intS := s.eng[a].tLast })
        else if !x.torqueLoop && s1.axes[a].torqueLoop && !x.idle && x.step == 3 then
          s1.modAxis a fun y => { y with tqRef := s.eng[a].tLast }
        else s1
    s2.axisTo a st x.mode

/-- The ramp of disable operation and shutdown with option code 1, and of halt with option code 1 (R80): by mode. TENSION counts as a torque
mode there (DEDUCED, log entry 74). -/
def State.softRamp (s : State) (a : Fin 8) (g : Goal) : Ramp :=
  let c := s.axes[a].code
  if c = 2 ∨ c = 4 then .stopTorque g else .stopSpeed false g

/-- The transition that waited for standstill completes: brake set, gates off, and the state its goal names (R79, R80, R85). -/
def State.finishStop (s : State) (a : Fin 8) (g : Goal) : State :=
  let x := s.axes[a]
  let off := ((s.stopEngine a).brakeCmd a false)
  match g with
  | .toReady => off.leaveTo a .ready
  | .toSwitchedOn => off.leaveTo a .switchedOn
  | .toDisabled => off.leaveTo a .disabled
  | .holdQuick | .serviceIdle => off.modAxis a fun y => { y with idle := true, byScs := x.byScs, step := x.step }
  | .stayZero => s

/-- A transition that waits for standstill completes, where the axis is at standstill (R79); so does the halt of SERVICE (R70). -/
def State.stopDone (s : State) (a : Fin 8) : State :=
  let x := s.axes[a]
  if !x.still then s
  else match x.ramp with
    | .stopSpeed _ g | .stopTorque g => if x.waitsStill then s.finishStop a g else s
    | _ => s

/-- Option code 0x605A as a ramp (R80): 1 and 5 at 0x6084, 2 and 6 at 0x6085; 5 and 6 hold Quick stop active. -/
def State.quickRamp (s : State) (a : Fin 8) : Ramp :=
  let o := s.get (AX_OPT_QSOPT a)
  .stopSpeed (o = 2 || o = 6) (if o = 5 ∨ o = 6 then .holdQuick else .toDisabled)

/-- Quick stop by option code 0x605A of an axis in an enabled mode (R77). -/
def State.quickStop (s : State) (a : Fin 8) (cmd : Nat) : State := s.beginRamp a (s.quickRamp a) .quickStop cmd

/-- The start of an SS1-t delay on one axis: Quick stop active on 0x6085 whatever the option code, holding at standstill (R87). -/
def State.ss1Axis (s : State) (a : Fin 8) : State :=
  if s.axes[a].code = 0 then s
  else ((s.markAct 2 a).beginRamp a (.stopSpeed true .holdQuick) .quickStop 0).modAxis a fun x =>
    { x with byScs := x.code != 0, pendEmg := false }

/-- The start of an SS1-t delay on every axis (R43, R86). -/
def State.ss1Axes (s : State) : State := forFin 8 (fun a t => t.ss1Axis a) s

/-! ### Enable (R77, R81, R307) -/

/-- Route in force of an axis (R293). -/
def State.routeOf (s : State) (a : Fin 8) : Nat := (s.route[a].live.headD 0).toNat % 4

/-- SCLK divider of a port (R21). -/
def State.portN (s : State) (p : Nat) : Nat := s.get (SP_CLK_N p)

/-- The port and select codes of a phase (R310): with PAR clear the lowest code named. -/
def State.phasePort (s : State) (a : Fin 8) (x : Nat) : Fin 6 := ⟨s.get (ENG_PH_PORT a x) % 6, Nat.mod_lt _ (by decide)⟩

/-- Select codes a phase names. -/
def State.phaseSels (s : State) (a : Fin 8) (x : Nat) : List Nat :=
  let l := (List.range 8).filter fun i => bitOf (s.get (ENG_PH_SELMASK a x)) i
  if s.flag (ENG_PH_PAR a x) then l else l.take 1

/-- The checks of R307. -/
def State.engineReady (s : State) (a : Fin 8) : Bool :=
  let lead : Fin 6 := ⟨s.get (ENG_CFG_LEAD a) % 6, Nat.mod_lt _ (by decide)⟩
  let n := s.portN lead
  let cyc := s.get (ENG_CFG_CYC a)
  let cycNs := cyc * 172 * n
  decide (s.get (MOD_AX_SOFS a) * s.get (MOD_AX_MDIV a) + 190 ≤ (cyc - 4) * 43 * n) &&
  (List.finRange 6).all (fun p => !bitOf (s.axmap p) a || (s.ports[p].st == .stream && s.portN p == n)) &&
  (List.finRange 6).any (fun p => bitOf (s.axmap p) a) &&
  decide (516 ≤ s.get (ENG_PWM_MINP a) + s.get (ENG_PWM_DT a)) &&
  decide (1000 ≤ s.get (ENG_BOOT_RFON a) * n) &&
  decide (s.get (ENG_BOOT_RFPER a) * 1000000 + 2 * cycNs ≤ 19000000) &&
  (s.get (ENG_CFG_DEGRADE a) == 0 || s.flag (ENG_CFG_FILL a)) &&
  (List.range 3).all (fun x => s.phaseSels a x != [] &&
    (s.phaseSels a x).all fun i => bitOf s.ports[s.phasePort a x].cfgDone i) &&
  -- ENG_SCALE: a value of 0 fails the enable check (10_current_loop.md)
  decide (s.get (ENG_SCALE_IFS a) ≠ 0) && decide (s.get (ENG_SCALE_UFS a) ≠ 0)

/-- The unit keeps its axes in SAFE: identity invalid, or ROLE code 15 (R109, R115). -/
def State.axesHeld (s : State) : Bool := !s.sys.identity || s.get ROLE_STAT_CODE == 15

/-- The unit is PARKED or SAFE_TO_PULL (R463, R465). -/
def State.parked (s : State) : Bool := s.get BEAR_STAT_PARK == 2 || s.get BEAR_STAT_PARK == 3

/-- The power stage is ready for an enable: AX_CTRL.INIT and the checks of R307 (reason 0x28 of R76, R115). -/
def State.stageReady (s : State) (a : Fin 8) : Bool := s.flag (AX_CTRL_INIT a) && !s.axesHeld && s.engineReady a

/-- EMERGENCY clamp in 0.1 % of 0x6080 by the speed class {SW6, SW5} (R82). -/
def emgClamp (cls : Nat) : Nat := match cls with | 1 => 90 | 2 => 225 | 3 => 450 | _ => 0
/-- SERVICE clamp in 0.1 % of 0x6080 (R82). -/
def svcClamp (cls : Nat) : Nat := match cls with | 0 => 45 | 1 => 90 | 2 => 90 | _ => 225
/-- Speed class of the seal snapshot (R48). -/
def State.speedClass (s : State) : Nat := bitsOf s.bg.snap 5 4

/-- On every enable the q-axis integrator is preset to KE × n ÷ 1,000 and the d-axis integrator to 0 (R297); the speed integrator and
the last demand start at 0. -/
def State.presetLoops (s : State) (a : Fin 8) : State :=
  let ke : Int := (((s.gain[a].live.getD 8 0).toNat % 65536 : Nat) : Int)
  s.modEng a fun e => { e with intD := 0, intQ := roundDiv 25 (ke * s.sget (ENG_SPD_V a) * 1000) 65536, intS := 0, tLast := 0 }

/-- Enter mode `m` through the enable sequence, step 1 (R81, R297, R308); a source with LOSS set or not enabled is the drive
fault FEEDBACK_LOST on the first edge of the sequence (R349). -/
def State.enterMode (s : State) (a : Fin 8) (m : Int) : State :=
  let s1 := ((s.put (ENG_STAT_EDGES a) 1).put (ENG_STAT_PRECHG a) 1).modAxis a
    fun x => { x with step := 1, lifting := false, ramp := .none, idle := false, byScs := false, spdRef := s.spdNow a, tqRef := 0,
                      rampCmd := none }
  let s3 := (s1.presetLoops a).axisTo a .enabled m
  let src := s.get (ENG_FB_SRC a)
  if s.chanLoss src || !s.chanEn src then s3.engineFault a 12 else s3

/-- Enable operation from Switched on (R77): refused 20 under a cut or an SS1-t delay, 27 under a lamp inhibit, 28 if the
power stage is not ready, 29 under R86, 21 with no mode selected or while a FREE release acts (R373). -/
def State.enableOp (s : State) (a : Fin 8) : State :=
  let m := sgn 8 (s.get (AX_MODESEL_MODESEL a))
  if !s.sys.haltN || s.sys.ss1 then s.refuse a 1 0x20 m
  else if s.axes[a].inhibit then s.refuse a 1 0x27 m
  else if s.parked then s.refuse a 1 0x28 m
  else if !s.stageReady a then (s.put (ENG_STAT_CFGREF a) 1).refuse a 1 0x28 m
  else if s.routeOf a = 2 ∧ ¬ (m = 4 ∨ m = 10) then s.refuse a 1 0x29 m
  else if m = 0 ∨ s.freeActs a then s.refuse a 1 0x21 m
  else (s.enterMode a m).accept a

/-! ### The controlword (R72, R73, R77) -/

/-- Commands a controlword spells (CiA 402). -/
inductive CwCmd | disableVoltage | quickStop | shutdown | switchOn | enableOp
  deriving DecidableEq, Repr

/-- The state command of a controlword: bits 0 to 3 (CiA 402). -/
def cwCmd (v : Nat) : CwCmd :=
  if !bitOf v 1 then .disableVoltage
  else if !bitOf v 2 then .quickStop
  else if !bitOf v 0 then .shutdown
  else if !bitOf v 3 then .switchOn else .enableOp

/-- Command code of R75 for a controlword. -/
def cwCode (old v : Nat) : Nat :=
  if bitOf v 7 && !bitOf old 7 then 3 else if cwCmd v = .enableOp then 1 else 5

/-- Disable operation or shutdown out of an enabled mode (R77, R80): option code 1 ramps, 0 halts at once. -/
def State.leaveEnabled (s : State) (a : Fin 8) (opt : Nat) (g : Goal) (st : Cia) : State :=
  if opt = 0 then (s.fastHalt a).axisTo a st s.axes[a].mode
  else s.beginRamp a (s.softRamp a g) .enabled 5

/-- The reference control of the mode in force goes on, toward its target (R70, R80, R83). -/
def State.resumeControl (s : State) (a : Fin 8) (cmd : Nat) : State :=
  s.beginRamp a (if s.axes[a].code = 2 then .torque else .speed) .enabled cmd

/-- The halt bit in an enabled mode (R70, R77, R80): set, to zero by option code 0x605D; cleared, control resumes. In steps 1 and 2 of
the enable sequence it acts at step 3; a running stop, and a pending EMERGENCY, go on (log entry 68). The brake that standstill set stays
commanded set when control resumes (DESIGN CHOICE, log entry 68). -/
def State.haltBit (s : State) (a : Fin 8) (old v : Nat) : State :=
  let x := s.axes[a]
  if bitOf v 8 = bitOf old 8 then s
  else if x.step ≠ 3 ∨ x.pendEmg then s.accept a
  else if bitOf v 8 then
    let g : Goal := if x.code = 1 then .serviceIdle else .stayZero
    if x.ramp.stops then s.accept a
    else (s.beginRamp a (if s.get (AX_OPT_HALTOPT a) = 2 then .stopSpeed true g else s.softRamp a g) .enabled 5).accept a
  else if x.ramp.stops && !x.halting then s.accept a
  else if x.idle then
    (((s.put (ENG_STAT_EDGES a) 1).modAxis a fun x => { x with idle := false, spdRef := 0, tqRef := 0 }).resumeControl a 5).accept a
  else (s.resumeControl a 5).accept a

/-- Enable operation in Quick stop active (R80, R87): refused 20 while an SS1-t delay runs or a cut holds; resumes from the
hold at standstill of option codes 5 and 6, with the loops preset as on every enable (R297) and under a halt bit that is set (R70); an
axis whose enable sequence was left goes through it (log entry 68). Else no effect. -/
def State.resumeQuick (s : State) (a : Fin 8) (v : Nat) : State :=
  let x := s.axes[a]
  if s.sys.ss1 || !s.sys.haltN then s.refuse a 1 0x20 (sgn 8 (s.get (AX_MODESEL_MODESEL a)))
  else if x.idle && !x.byScs then
    if x.step ≠ 3 then (s.enterMode a x.mode).accept a
    else
      let s1 := ((s.put (ENG_STAT_EDGES a) 1).presetLoops a).modAxis a fun y => { y with idle := false, spdRef := 0, tqRef := 0 }
      ((s1.resumeControl a 1).haltBit a 0 v).accept a
  else s

/-- Would the controlword `v` written over `old` make a transition of an axis in state `st` (R73, R77)? -/
def cwActs (st : Cia) (old v : Nat) : Bool :=
  (bitOf v 7 && !bitOf old 7 && st == .fault) ||
  match st, cwCmd v with
  | .disabled, .shutdown => true
  | .ready, c => c != .shutdown
  | .switchedOn, c => c != .switchOn
  | .enabled, .enableOp => bitOf v 8 != bitOf old 8
  | .enabled, _ => true
  | .quickStop, c => c == .disableVoltage || c == .enableOp
  | _, _ => false

/-- The state command of a controlword (R77): CiA 402 transitions out of SAFE states, and the columns of R77. -/
def State.cwState (s : State) (a : Fin 8) (old v : Nat) : State :=
  let x := s.axes[a]
  match x.st, cwCmd v with
  | .disabled, .shutdown => (s.axisTo a .ready x.mode).accept a
  | .ready, .disableVoltage | .ready, .quickStop => (s.axisTo a .disabled x.mode).accept a
  | .ready, .switchOn => (s.axisTo a .switchedOn x.mode).accept a
  | .ready, .enableOp => (s.axisTo a .switchedOn x.mode).enableOp a
  | .switchedOn, .disableVoltage | .switchedOn, .quickStop => (s.axisTo a .disabled x.mode).accept a
  | .switchedOn, .shutdown => (s.axisTo a .ready x.mode).accept a
  | .switchedOn, .enableOp => s.enableOp a
  | .enabled, .disableVoltage => ((s.fastHalt a).axisTo a .disabled x.mode).accept a
  | .enabled, .quickStop => (s.quickStop a 5).accept a
  | .enabled, .shutdown => (s.leaveEnabled a (s.get (AX_OPT_SDOPT a)) .toReady .ready).accept a
  | .enabled, .switchOn => (s.leaveEnabled a (s.get (AX_OPT_DOOPT a)) .toSwitchedOn .switchedOn).accept a
  | .enabled, .enableOp => s.haltBit a old v
  | .quickStop, .disableVoltage => ((s.fastHalt a).axisTo a .disabled x.mode).accept a
  | .quickStop, .enableOp => s.resumeQuick a v
  | _, _ => s

/-- The sequencer judges an accepted write of AX_CW (R72): refused with the reason of a condition that has acted on the axis on this
edge and that the command conflicts with; in EMERGENCY ignored with reason 0x26 (R84); bit 7 rising is a fault reset; then the state
command. -/
def State.evalCw (s : State) (a : Fin 8) (old v : Nat) : State :=
  let x := s.axes[a]
  let req := sgn 8 (s.get (AX_MODESEL_MODESEL a))
  match s.beatenBy a 6 with
  | some (reason, st, c) => if c = 5 ∨ cwActs st old v then s.refuse a (cwCode old v) reason req else s
  | none =>
    if x.code = 5 then s.refuse a (cwCode old v) 0x26 req
    else
      let s1 := if bitOf v 7 && !bitOf old 7 then s.faultReset a else s
      if s1.axes[a].st = x.st then s1.cwState a old v else s1

/-- A write of AX_CW by the tenant side (`src` 0) or the PDO engine (`src` 1): discarded with FOREIGN from the source not named
(R71); stored unjudged on a unit without the claim (R86, R424) and until step 3 of a takeover enable (R442). -/
def State.writeCw (s : State) (a : Fin 8) (src v : Nat) : State :=
  if s.get (AX_CWSRC_SRC a) ≠ src then s.raise (axEvt a) 5 (evAxis a)
  else
    let old := s.get (AX_CW_CW a)
    let s1 := s.put (AX_CW_CW a) v
    if s.unclaimed || s.axes[a].warm || (s.cp.take.isSome && bitOf (s.get CP_AX_AXMAP) a) then s1 else s1.evalCw a old v

/-! ### Mode selection (R68, R77) -/

/-- Does R68 accept the value? -/
def modeValid (m : Int) : Bool := m = 3 || m = 4 || m = 9 || m = 10 || m = -1 || m = -3

/-- A live change of mode between TORQUE, SPEED and TENSION with its handover ramp (R80). In steps 1 and 2 of the enable sequence the
ramp begins at step 3; a running stop or pending ramp goes on in the new mode (log entry 68). -/
def State.liveMode (s : State) (a : Fin 8) (m : Int) : State :=
  let x := s.axes[a]
  let tq : Bool := m = 4 || m = 10
  if x.step ≠ 3 || x.ramp.stops || x.pendEmg then s.axisTo a x.st m
  else
    let s1 := s.modAxis a fun x =>
      { x with spdRef := s.spdNow a, tqRef := s.eng[a].tLast, rampCmd := if m = -1 then none else some 2,
               ramp := if tq then .torque else if m = -1 then .none else .speed }
    let s2 := (s1.modEng a fun e => { e with intS := e.tLast })
    s2.axisTo a x.st m

/-- A write of AX_MODESEL (R77): -2 refused 22, a value outside R68 refused 21, in EMERGENCY ignored 26, and the columns of R77; a
live change on the edge of a condition that has acted on the axis is refused with its reason (R72). -/
def State.writeMode (s : State) (a : Fin 8) (code : Nat) : State :=
  let m := sgn 8 code
  let x := s.axes[a]
  if m = -2 then s.refuse a 2 0x22 m
  else match (s.beatenBy a 6).filter fun e => e.2.2 != 0 with
  | some (reason, _, _) => s.refuse a 2 reason m
  | none =>
    if x.code = 5 then s.refuse a 2 0x26 m
    else if !modeValid m then s.refuse a 2 0x21 m
    else if x.code = 0 then (s.put (AX_MODESEL_MODESEL a) code).accept a
    else if x.code = 1 then (if m = -3 then s.accept a else s.refuse a 2 0x21 m)
    else if m = -3 ∨ x.st = .quickStop then s.refuse a 2 0x21 m
    else if s.routeOf a = 2 ∧ ¬ (m = 4 ∨ m = 10) then s.refuse a 2 0x29 m
    else ((s.put (AX_MODESEL_MODESEL a) code).liveMode a m).accept a

/-- A write of AX_CWSRC: in SAFE only, else refused 21 with command code 6 (R71). -/
def State.writeCwsrc (s : State) (a : Fin 8) (v : Nat) : State :=
  if s.isSafe a then (s.put (AX_CWSRC_SRC a) v).accept a else s.refuse a 6 0x21 (sgn 8 (s.get (AX_MODESEL_MODESEL a)))

/-- The next cycle is numbered 0 and begins on the next slot boundary of the lead port (R286). -/
def State.restartCycles (s : State) (a : Fin 8) : State :=
  (s.modEng a fun e => { e with restart := true, sampled := false })

/-- A write of AX_CTRL.INIT (R90): set, the axis moves to Switch on disabled; cleared in SAFE only, it returns to Not ready. -/
def State.writeInit (s : State) (a : Fin 8) (v : Bool) : State :=
  if v then
    let s1 := s.put (AX_CTRL_INIT a) 1
    if s.axes[a].st = .notReady then ((s1.axisTo a .disabled s.axes[a].mode).put (ENG_MARGIN_V a) 0xFFFF).restartCycles a
    else s1
  else if s.isSafe a then (s.put (AX_CTRL_INIT a) 0).axisTo a .notReady s.axes[a].mode else s

/-! ### EMERGENCY (R83 to R85) -/

/-- |speed| in 1/65,536 min^-1 at or below a clamp given in 0.1 % of 0x6080. -/
def State.belowClamp (s : State) (a : Fin 8) (permil : Nat) : Bool :=
  decide ((s.sget (ENG_SPD_V a)).natAbs * 1000 ≤ permil * s.eng[a].maxSpeed * 65536)

/-- EMERGENCY entered from an enabled mode: the ramp "Into EMERGENCY" (R80). An axis in steps 1 and 2 of its enable sequence goes on
with it. -/
def State.emgFromRunning (s : State) (a : Fin 8) : State :=
  let x := s.axes[a]
  let seq : Bool := x.step == 1 || x.step == 2
  let s1 := if seq then s.modAxis a fun x => { x with pendEmg := false }
    else (s.modAxis a fun x => { x with pendEmg := false, ramp := .speed, step := 3, idle := false, spdRef := s.spdNow a, rampCmd := some 4 }).modEng a
      fun e => { e with intS := e.tLast }
  let s3 := (s1.axisTo a .enabled (-2)).accept a
  ((s3.put (ENG_STAT_EDGES a) 1)).raise (axEvt a) 3 (evAxis a)

/-- The emergency request of an axis changes, with LIO_EVT.EMGREQ (R368). -/
def State.emgRequest (s : State) (a : Fin 8) (on : Bool) : State :=
  (s.modAxis a fun x => { x with emgReq := on }).raise ⟨LIO_EVT, 4, 0⟩ 2 88

/-- An emergency request of an axis in SAFE (R83): 24 while the fault cause is present, 28 where the power stage is not ready or the unit
is parked (the reason, its place before the fault reset and ENG_STAT.CFGREF as log entry 69 has them), else EMERGENCY through the enable
sequence. -/
def State.emgFromSafe (s : State) (a : Fin 8) : State :=
  let x := s.axes[a]
  if x.st = .faultReact ∨ x.st = .fault ∧ s.causePresent a then s.refuse a 4 0x24 (-2)
  else if s.parked then s.refuse a 4 0x28 (-2)
  else if !s.stageReady a then (s.put (ENG_STAT_CFGREF a) 1).refuse a 4 0x28 (-2)
  else
    let s2 := if x.st = .fault then s.clearFault a else s
    (((s2.markAct 4 a).enterMode a (-2)).raise (axEvt a) 3 (evAxis a)).accept a

/-- EMERGENCY pending (R83): PENDEMG, and the pending ramp; in steps 1 and 2 of the enable sequence, and during a stop, the axis goes
on with that and enters at the clamp (log entry 68). -/
def State.emgPend (s : State) (a : Fin 8) : State :=
  let x := s.axes[a]
  let s2 := if x.step = 1 ∨ x.step = 2 ∨ x.ramp.stops then s else s.beginRamp a .pendEmg x.st 4
  if s2.axes[a].code = 0 then s2 else ((s2.modAxis a fun y => { y with pendEmg := true }).raise (axEvt a) 3 (evAxis a)).accept a

/-- The emergency request of an axis rises (R83); on a unit without the claim it is stored unjudged (R86). Met by a cut, the start of an
SS1-t delay or a drive fault of the same edge it takes their reason (R72); while an SS1-t delay runs, 20 (R87). -/
def State.emgOn (s : State) (a : Fin 8) : State :=
  let s1 := s.emgRequest a true
  let x := s.axes[a]
  if x.emgReq then s
  else if s.unclaimed then s1
  else if s.marked .cut ∨ s.sys.ss1 then s1.refuse a 4 0x20 (-2)
  else match s.beatenBy a 4 with
  | some (reason, _, _) => s1.refuse a 4 reason (-2)
  | none =>
    if s.speedClass = 0 ∨ !s.sys.haltN then s1.refuse a 4 0x24 (-2)
    else if x.code = 5 then s1
    else if x.code = 0 then s1.emgFromSafe a
    else if x.code = 1 ∨ s.belowClamp a (emgClamp s.speedClass) then (s1.markAct 4 a).emgFromRunning a
    else (s1.markAct 4 a).emgPend a

/-- The emergency request of an axis falls (R77, R85): a pending EMERGENCY is cancelled, and control resumes under a halt bit that is
set; in EMERGENCY the axis ramps to standstill and then enters Switch on disabled. A ramp of rate 0 there records command code 0x00, not 0x04
(DESIGN CHOICE, log entry 74). -/
def State.emgOff (s : State) (a : Fin 8) : State :=
  let s1 := s.emgRequest a false
  let x := s.axes[a]
  if !x.emgReq then s
  else if x.code = 5 ∧ !x.byScs then ((s1.markAct 4 a).beginRamp a (.stopSpeed false .toDisabled) .enabled 0).accept a
  else if x.pendEmg then
    let s2 := ((s1.markAct 4 a).modAxis a fun y => { y with pendEmg := false }).accept a
    if x.ramp == .pendEmg then (s2.resumeControl a 4).haltBit a 0 (s.get (AX_CW_CW a)) else s2
  else s1

/-- Set the emergency request of an axis to what R368 gives. -/
def State.setEmg (s : State) (a : Fin 8) (on : Bool) : State := if on then s.emgOn a else s.emgOff a

/-! ### Lamp reactions (R77, R380) -/

/-- A lamp's DARK line inhibits the start of its axis (R380): AX_SW.INHIBIT follows the lamps. -/
def State.inhibits (s : State) : State :=
  forFin 8 (fun a t => t.modAxis a fun x => { x with inhibit := (List.range 8).any (fun n =>
    s.flag (LAMP_CFG_EN n) && s.flag (LAMP_STAT_DARK n) && s.get (LAMP_CFG_AXIS n) == a.1 &&
    (s.get (LAMP_CFG_REACT n) == 1 || s.get (LAMP_CFG_REACT n) == 2)) }) s

/-- Lamp reaction "request SAFE": a quick stop of an axis in SERVICE or an operating mode (R77). -/
def State.lampStop (s : State) (a : Fin 8) : State :=
  let x := s.axes[a]
  if x.code = 0 ∨ x.code = 5 ∨ x.st = .quickStop then s else (s.markAct 5 a).quickStop a 0

end Sys2Proof.Machine
end

