-- ==== Sys2Proof/Machine/ClaimOps.lean ====
section
/-! DEFINITION. The release of the claim of a pair (14_duty_standby.md, R428, R430), which cuts, resets and handovers share. -/

namespace Sys2Proof.Machine

/-- Axes the pair shares: CP_AX.AXMAP. -/
def State.pairedAxes (s : State) : Nat := s.get CP_AX_AXMAP

/-- Does port `p` serve a paired axis? -/
def State.pairedPort (s : State) (p : Fin 6) : Bool := (s.axmap p &&& s.pairedAxes) != 0

/-- Force an axis to Switch on disabled by a fast halt; Not ready, Fault and Switch on disabled keep their state (R430, R94). -/
def State.forceDisabled (s : State) (a : Fin 8) : State :=
  let x := s.axes[a]
  let s1 := s.fastHalt a
  if x.st = .notReady ∨ x.st = .fault ∨ x.st = .faultReact ∨ x.st = .disabled then s1
  else
    let s2 := s1.axisTo a .disabled x.mode
    if x.code = 5 then s2.raise (axEvt a) 4 (evAxis a) else s2

/-- A write to the store is in progress (R464, R466, R517); a reclaim step is one command of the model. -/
def State.storeWriting (s : State) : Bool := s.store.cmd.isSome || s.store.bankwr

/-! ### PARK (R463, R464) -/

/-- BEAR_STAT.PARK becomes `st`: each change strobes E127 and sends EMCY 0xFF92 with the state and the reason of a refusal; a refusal is
reported also where the state was NONE already (R463). -/
def State.parkTo (s : State) (st reason : Nat) : State :=
  if s.get BEAR_STAT_PARK = st ∧ reason = 0 then s
  else ((s.put BEAR_STAT_PARK st).strobe 127).emcy 0xFF92 [st, reason]

/-- A request is refused: PARKREF keeps the reason (R464). -/
def State.parkRefuse (s : State) (reason : Nat) : State := (s.put BEAR_STAT_PARKREF reason).parkTo 0 reason

/-- A handover is asked for: accepted only by a duty whose pair is READY (R445). -/
def State.handoverAsk (s : State) : Bool × State :=
  if s.get CP_STAT_ROLE = 1 ∧ s.get CP_STAT_PAIR = 3 ∧ s.cp.claim then
    (true, if s.cp.ho = 0 then (s.modCp fun z => { z with ho := 1 }) else s)
  else (false, s)

/-- A park request is judged: whether it is not refused, and the state (R464). Its ports are taken to OFF beside (`State.parkPort`). -/
def State.parkJudge (s : State) : Bool × State :=
  if s.storeWriting then (false, s.parkRefuse 3)
  else if s.allSafe 255 then (true, s.parkTo 2 0)
  else if s.get CP_STAT_ROLE = 1 ∧ s.cp.claim then
    let h := s.handoverAsk
    if h.1 then (true, h.2.parkTo 1 0) else (false, s.parkRefuse 2)
  else (false, s.parkRefuse 1)

/-- The unit releases the claim (R430): TWIN_CLAIM_N high, COPY sending stops, paired axes are fast-halted, and their ports go
OFF on the twelfth edge of their halt frames. A park request that waits for it is judged again (R464). -/
def State.claimRelease (s : State) : State :=
  if !s.cp.claim then s
  else
    let s1 := (s.modCp fun z => { z with claim := false, sending := false, quiet := false, found := false, take := none, ho := 0 })
    let s2 := forFin 8 (fun a t => if bitOf s.pairedAxes a then t.forceDisabled a else t) s1
    let s3 := forFin 6 (fun p t => if s.pairedPort p then
      t.modPort p fun q => if q.st = .off then q else { q with offAtTwelfth := true } else t) s2
    let s4 := s3.put CP_STAT_ROLE (if s.flag CP_CFG_EN then 2 else 0)
    if s4.get BEAR_STAT_PARK = 1 then s4.parkJudge.2 else s4

/-! ### Takeover: steps 1, 2 and 6 of R440 -/

/-- Little-endian field of `n` bytes at offset `o`. -/
def lget (l : List Byte) (o n : Nat) : Nat := leNat ((l.drop o).take n)

/-- The ring cycle T_RC in ns: of the last accepted beacon, else RING_CFG.CYC (R396, R397). -/
def State.trcNs (s : State) : Nat := (match s.ring.cyc with | some c => c | none => s.get RING_CFG_CYC) * 10000

/-- The copy period in ns (R433). -/
def State.copyNs (s : State) : Nat := s.get CP_CFG_PER * s.trcNs

/-- Common time in ns. -/
def Ring.ns (r : Ring) : Nat := r.ct / 1000000000

/-- The committed image, where one counts for a restore: not while pairing is refused (R422, R441). -/
def State.copyImg (s : State) : Option CopyImg := if s.get CP_STAT_PAIR = 1 then none else s.cp.com

/-- The block of axis `a` in an image (R434). -/
def CopyImg.axis (m : CopyImg) (a : Nat) : Option (List Byte) :=
  let map := lget m.bytes 16 1
  if bitOf map a then some ((m.bytes.drop (32 + 64 * ((List.range a).filter fun b => bitOf map b).length)).take 64) else none

/-- Age of an image in ns (R438). -/
def State.imgAge (s : State) (m : CopyImg) : Nat := s.ring.ns - lget m.bytes 4 8

/-- The first four conditions of R441. -/
def State.warmAxis (s : State) (a : Fin 8) : Bool :=
  match s.copyImg with
  | none => false
  | some m => match m.axis a with
    | none => false
    | some b =>
      decide (s.imgAge m ≤ s.get CP_CFG_MAXAGE * s.copyNs) && (lget b 1 1 == 4 || lget b 1 1 == 5) &&
      !s.cp.drift.contains (s.get (ENG_FB_SRC a)) && !s.chanLoss (s.get (ENG_FB_SRC a)) && s.bg.release == .run

/-- Mode of operation of a MODE code and the AX_MODESEL beside it (R66, R434). -/
def imgMode (code modesel : Nat) : Int :=
  let m := sgn 8 modesel
  match code with
  | 1 => -3
  | 2 => if m = 10 then 10 else 4
  | 3 => if m = 9 then 9 else 3
  | 4 => -1
  | 5 => -2
  | _ => 0

/-- A warm axis enters the state and mode of its image and begins the takeover enable (R442). -/
def State.warmStart (s : State) (a : Fin 8) (b : List Byte) : State :=
  let m := imgMode (lget b 3 1) (lget b 2 1)
  let s1 := s.enterMode a m
  if s1.axes[a].st != .enabled then s1
  else (if lget b 1 1 = 5 then s1.axisTo a .quickStop m else s1).modAxis a fun x => { x with warm := true }

/-- Every satellite of the axis answered as R441 asks. -/
def State.axisAnswered (s : State) (ok : List Nat) (a : Fin 8) : Bool :=
  (List.range 3).all fun x => (s.phaseSels a x).all fun c => ok.contains (8 * (s.phasePort a x).1 + c)

/-- A bit of CP_EVT with its source: SNAP drives E124, the others E125 (CP_EVT). -/
def State.cpEvt (s : State) (b : Nat) : State := (s.putOr ⟨CP_EVT, 4, 0⟩ (2 ^ b)).strobe (if b = 0 then 124 else 125)

/-- Step 6 of R440 and the records of R446: warm axes begin their enable, every other paired axis has its brake commanded set. -/
def State.finishTake (s : State) : State :=
  match s.cp.take with
  | none => s
  | some tk =>
    let warm := (List.finRange 8).filter fun a => bitOf tk.warm a.1 && s.axisAnswered tk.ok a
    let map := warm.foldl (fun m a => m + 2 ^ a.1) 0
    let s1 := (s.modCp fun z => { z with take := none })
    let s2 := forFin 8 (fun a t => if !bitOf t.pairedAxes a then t
      else match (if warm.contains a then (t.copyImg.bind fun m => m.axis a) else none) with
        | some b => t.warmStart a b
        | none => ((t.brakeCmd a false).modCp fun z => { z with gap := t.cp.gap.set a none })) s1
    let cold := b2n warm.isEmpty
    let epoch := match s.copyImg with | some m => m.epoch | none => 0
    let s3 := (s2.put CP_TAKE_EPOCH epoch).setReg CP_TAKE2
      (BitVec.ofNat 32 (b2n tk.partly * 2 ^ 31 + cold * 2 ^ 30 + tk.cause * 2 ^ 24 + min tk.age (2 ^ 24 - 1)))
    let s4 := (((s3.put CP_STAT_WARM map).put CP_STAT_ROLE 1).bump CP_CNT2_TAKEOVERS).cpEvt 2
    s4.emcy 0xFF80 [tk.cause, cold, map, min (tk.age / 100) 65535 % 256, min (tk.age / 100) 65535 / 256]

/-- Step 6 begins once every STATUS of step 5 has been answered (R440, R441). -/
def State.takeCheck (s : State) : State :=
  match s.cp.take with
  | some tk =>
    if tk.run && (List.finRange 6).all (fun p => tk.sts[p].isEmpty &&
      (match s.ports[p].flight with | some fl => !(fl.src == .copy && fl.await) | none => true)) then s.finishTake else s
  | none => s

/-- A reply to a STATUS of step 5: class `c` of R200, payload `pl`. -/
def State.takeReply (s : State) (key c pl : Nat) : State :=
  match s.cp.take with
  | some tk => if c = 6 ∧ bitOf pl 15 then (s.modCp fun z => { z with take := some { tk with ok := key :: tk.ok } }) else s
  | none => s

end Sys2Proof.Machine
end

