-- ==== Sys2Proof/Machine/Badger.lean ====
section
/-! DEFINITION. The safety supervisor (02_badger_safety.md): the shut-down channels, stop demands, guards, safely limited speed,
the safety configuration set, lock-out, the heartbeat and the lock-out reset act. -/

namespace Sys2Proof.Machine

/-! ### Reports to Haldux -/

/-- An event reported to Haldux: bit `b` of BG_EVENTS and source E000 + b; lost while Haldux is in reset or its clocks are
stopped (BG_EVENTS). -/
def State.bgEvent (s : State) (b : Nat) : State := if s.clocked then s.raise ⟨BG_EVENTS, 7, 0⟩ b 0 else s

/-- An EMCY of the supervisor: sent by the server, so only while Haldux runs (R65). -/
def State.bgEmcy (s : State) (code : Nat) (bytes : List Nat) : State := if s.clocked then s.emcy code bytes else s

/-! ### The safety configuration set (layout of 02_badger_safety.md) -/

/-- Word `i` of a set. -/
def scsWord (w : List Word) (i : Nat) : Nat := (w.getD i 0).toNat

/-- Field of the set in force; `d` when none is in force. -/
def State.scs (s : State) (i hi lo d : Nat) : Nat :=
  match s.bg.inForce with
  | some w => bitsOf (scsWord w i) hi lo
  | none => d

/-- Guard `g`: present, tested at start, reaction (0 monitor, 1 STO, 2 SS1-t) of a set. -/
def scsGuard (w : List Word) (g : Nat) : Nat := bitsOf (scsWord w 1) (8 * g + 7) (8 * g)

/-- Guard byte of the set in force; absent when there is none. -/
def State.guard (s : State) (g : Nat) : Nat := s.scs 1 (8 * g + 7) (8 * g) 0

/-- A field of a set lies outside its range (R55). -/
def scsRange (s : State) (w : List Word) : Bool :=
  let tapBad (b : Nat) : Bool :=
    let src := bitsOf (scsWord w b) 15 8
    !(src < 8 || (0x10 ≤ src && src < 0x18)) || bitsOf (scsWord w b) 2 0 ≥ s.nAxes ||
    !(5 ≤ bitsOf (scsWord w (b + 3)) 15 0 && bitsOf (scsWord w (b + 3)) 15 0 ≤ 200) ||
    !(10 ≤ bitsOf (scsWord w (b + 3)) 31 16 && bitsOf (scsWord w (b + 3)) 31 16 ≤ 500)
  decide (1000 < bitsOf (scsWord w 0) 31 16) ||
  (List.range 4).any (fun g => bitsOf (scsGuard w g) 3 2 == 3) ||
  !(50 ≤ bitsOf (scsWord w 2) 31 16 && bitsOf (scsWord w 2) 31 16 ≤ 1000) || tapBad 4 || tapBad 8

/-- A reserved bit of a set is 1 (R55). -/
def scsReserved (w : List Word) : Bool :=
  bitsOf (scsWord w 0) 15 9 != 0 || (List.range 4).any (fun g => bitsOf (scsGuard w g) 7 4 != 0) ||
  bitsOf (scsWord w 2) 15 8 != 0 || bitsOf (scsWord w 3) 31 8 != 0 ||
  [4, 8].any (fun b => bitsOf (scsWord w b) 7 5 != 0 || bitsOf (scsWord w b) 31 16 != 0) ||
  scsWord w 12 != 0 || scsWord w 13 != 0 || scsWord w 14 != 0

/-- LASTERR of a LOAD: 0 none, 1 CRC, 2 layout, 3 range, 4 reserved bit (BG_SCS_STAT). -/
def scsError (s : State) (w : List Word) : Nat :=
  if crc32 (wordBytes (w.take 15)) ≠ scsWord w 15 then 1
  else if bitsOf (scsWord w 0) 7 0 ≠ 1 then 2
  else if scsRange s w then 3
  else if scsReserved w then 4 else 0

/-! ### Inputs (R41, R52) -/

/-- A channel of the STO pair is open, by the input type {SW2, SW1} (R41): equivalent types open at 0 V, the antivalent type
opens B at 24 V. -/
def State.stoOpen (s : State) (chB : Bool) : Bool :=
  if chB then (if bitsOf s.bg.snap 1 0 = 2 then s.bg.stoB else !s.bg.stoB) else !s.bg.stoA

/-- A channel of guard `g` is open: 0 V whatever the code (R52). -/
def State.grdOpen (s : State) (g : Fin 4) (chB : Bool) : Bool :=
  !(if chB then s.bg.grdB.getLsbD g.1 else s.bg.grdA.getLsbD g.1)

/-- A present guard with reaction STO or SS1-t is open on a channel. -/
def State.guardHold (s : State) : Bool :=
  (List.finRange 4).any fun g =>
    bitOf (s.guard g) 0 && bitsOf (s.guard g) 3 2 != 0 && (s.grdOpen g false || s.grdOpen g true)

/-- Both STO channels and every guard with a reaction are closed (R39, R45). -/
def State.stopClosed (s : State) : Bool := !s.stoOpen false && !s.stoOpen true && !s.guardHold

/-! ### Release conditions (R39) -/

/-- HOLD_GTEST (R54): a guard test is pending; with SW3 ON also before a set says which guards are tested (start-up). -/
def State.holdGtest (s : State) : Bool :=
  ((List.finRange 4).any fun g => s.bg.gtest[g].pending) || (bitOf s.bg.snap 2 && s.bg.inForce.isNone)

/-- Every release condition of R39 holds. The snapshot code 0b11 never releases (R41). -/
def State.releaseOk (s : State) : Bool :=
  s.bg.powered && !s.bg.latched && s.bg.selftest == .passed && s.bg.inForce.isSome && s.bg.hbRun &&
  !s.stoOpen false && !s.stoOpen true && !s.bg.stoNeed && !s.guardHold && !s.holdGtest &&
  !s.bg.ss1 && !s.bg.ss1Hold && bitsOf s.bg.snap 1 0 != 3

/-! ### Cut and lock-out (R37, R57) -/

/-- A cut (R37): HALT_N low and the permit withdrawn, then GPE_N high; a running SS1-t delay ends; CUT is reported when the
channels were not already at their safe levels. -/
def State.cut (s : State) : State :=
  let was := s.bg.haltN || !s.bg.gpeN || s.bg.permit
  let s1 := s.modBg fun b => { b with haltN := false, permit := false, gpeN := true, release := .cut, ss1 := false }
  let s2 := ((s1.modSys fun z => { z with ss1 := false })).brakes
  if was then s2.bgEvent 2 else s2

/-- Latch lock-out with cause `c` and index `i` (R57): cut, record, event LATCHED and the EMCY of a cause newly latched; the
fieldbus window closes (R62) and a held claim is released (R428). -/
def State.lockout (s : State) (c i : Nat) : State :=
  if !s.bg.powered then s
  else
    let new := !bitOf s.bg.causes c
    let s1 := s.cut.modBg fun b =>
      { b with
        latched := true
        first := if b.latched then b.first else c
        index := if b.latched then b.index else i
        causes := b.causes ||| 2 ^ c
        causeIdx := if (c, i) ∈ b.causeIdx then b.causeIdx else (c, i) :: b.causeIdx
        lockCnt := if b.latched then b.lockCnt else satInc 0xFFFF b.lockCnt
        window := if new then false else b.window
        testPassSince := if c = 5 then false else b.testPassSince }
    let s2 := s1.claimRelease
    if new then (s2.bgEvent 0).bgEmcy (0xFF00 + c) [i, c] else s2

/-- Start an SS1-t delay (R42, R43): SS1 in BG_STATUS, its event, and the delay, whether or not the channels are released; during the
20 ms of a release the channels are cut at once (R39). -/
def State.ss1Start (s : State) : State :=
  if s.bg.ss1 then s
  else
    let s0 := if s.bg.release == .gate then s.cut else s
    let s1 := (s0.modBg fun b => { b with ss1 := true }).bgEvent 3
    if s1.clocked then ((s1.modSys fun z => { z with ss1 := true })).ss1Axes else s1

/-- A stop demand with reaction 1 STO or 2 SS1-t; with no set in force always STO (R42, R43). -/
def State.stopDemand (s : State) (react : Nat) : State :=
  if s.bg.inForce.isSome && react == 2 then s.ss1Start else s.cut

/-- Clear the SS1-t hold once everything reads closed together after the cut (R39). -/
def State.ss1Unhold (s : State) : State :=
  if s.bg.ss1Hold && !s.bg.ss1 && s.stopClosed then s.modBg fun b => { b with ss1Hold := false } else s

/-! ### STO (R41 to R45) -/

/-- STO_INPUT_OPEN: a filtered channel opens. -/
def execStoInputOpen (chB : Bool) (s : State) : Host.Outcome State Fault Refusal :=
  .next <|
    if !s.bg.powered || s.stoOpen chB then s
    else
      let lvl := chB && bitsOf s.bg.snap 1 0 == 2
      let s1 := s.modBg fun b => if chB then { b with stoB := lvl } else { b with stoA := false }
      let s2 := s1.modBg fun b =>
        { b with stoNeed := true, stoBothOpen := s1.stoOpen false && s1.stoOpen true || (b.stoNeed && b.stoBothOpen) }
      s2.stopDemand (if s.scs 0 8 8 0 = 1 then 2 else 1)

/-- STO_INPUT_CLOSE: a filtered channel closes; both open together and then both closed together end the demand (R45). -/
def execStoInputClose (chB : Bool) (s : State) : Host.Outcome State Fault Refusal :=
  .next <|
    if !s.bg.powered || !s.stoOpen chB then s
    else
      let lvl := !(chB && bitsOf s.bg.snap 1 0 == 2)
      let s1 := s.modBg fun b => if chB then { b with stoB := lvl } else { b with stoA := true }
      let s2 := if !s1.stoOpen false && !s1.stoOpen true && s1.bg.stoBothOpen
        then s1.modBg fun b => { b with stoNeed := false, stoBothOpen := false } else s1
      s2.ss1Unhold

/-- STO_DISCREPANCY_TIMEOUT: the channels have disagreed for more than 100 ms (R44). -/
def execStoDiscrepancyTimeout (s : State) : Host.Outcome State Fault Refusal :=
  .next <| if s.stoOpen false != s.stoOpen true then s.lockout 1 0 else s

/-- SS1_DELAY_EXPIRY: the delay ends in a cut; the release then waits for the inputs seen closed after it (R42, R39). -/
def execSs1DelayExpiry (s : State) : Host.Outcome State Fault Refusal :=
  .next <| if s.bg.ss1 then (s.cut.modBg fun b => { b with ss1Hold := true }).ss1Unhold else s

/-! ### Release and readback (R39, R40) -/

/-- CHANNEL_RELEASE: with every condition holding, GPE_N goes low and the permit is given. -/
def execChannelRelease (s : State) : Host.Outcome State Fault Refusal :=
  .next <|
    if s.releaseOk && s.bg.release == .cut then
      (s.modBg fun b => { b with gpeN := false, permit := true, release := .gate }).brakes
    else s

/-- HALT_N_RELEASE: 20 ms later HALT_N goes high, or a failed condition cuts at once. -/
def execHaltNRelease (s : State) : Host.Outcome State Fault Refusal :=
  .next <|
    if s.bg.release != .gate then s
    else if s.releaseOk then
      let s1 := s.modBg fun b => { b with haltN := true, release := .run }
      if s.clocked then (s1.modSys fun z => { z with haltN := true }) else s1
    else s.cut

/-- The words of BG_STATUS, BG_CAUSE, BG_CAUSEMAP, BG_SEAL, BG_INPUTS and BG_SLS_F as they stand now. -/
def State.bgWords (s : State) : Vector Word 7 :=
  let b := s.bg
  let bit (i : Nat) (x : Bool) : Nat := b2n x * 2 ^ i
  let status := bit 31 b.latched + bit 30 (b.release == .run) + bit 29 b.haltLvl + bit 28 b.gpeLvl + bit 27 b.ss1 +
    bit 26 b.permit + bit 25 (b.selftest == .passed) + bit 24 b.hbRun + bit 23 b.inForce.isSome + bit 22 b.window +
    bit 21 (b.lorA && !b.lorB) + bitsOf b.snap 5 4 * 2 ^ 16 + bit 14 (b.selftest != .passed) + bit 13 (b.ss1 || b.ss1Hold) +
    bit 12 b.inForce.isNone + bit 11 (!b.hbRun) + bit 10 s.holdGtest + bit 9 s.guardHold +
    bit 8 (s.stoOpen false || s.stoOpen true || b.stoNeed)
  let gt := (List.finRange 4).foldl (fun n g => n + b2n b.gtest[g].passed * 2 ^ g.1) 0
  let inputs := gt * 2 ^ 28 + b.brkFb.toNat * 2 ^ 20 + b.grdB.toNat * 2 ^ 12 + b.grdA.toNat * 2 ^ 8 + bit 3 b.lorB +
    bit 2 b.lorA + bit 1 b.stoB + bit 0 b.stoA
  #v[BitVec.ofNat 32 status, BitVec.ofNat 32 (b.lockCnt * 2 ^ 16 + b.index % 8 * 2 ^ 8 + b.first),
     BitVec.ofNat 32 b.causes, BitVec.ofNat 32 (b.live * 2 ^ 8 + b.snap), BitVec.ofNat 32 inputs,
     BitVec.ofNat 32 b.sls[0].own, BitVec.ofNat 32 b.sls[1].own]

/-- SHUTDOWN_READBACK: every 250 us HALT_N at the Haldux pin and GPE_N at P1 are read back; four differing readings in a row
latch lock-out (R40); `pins.relLow` are the BRAKE_REL_N pins that read low (R46). The same period refreshes the status registers (log entry 10). -/
def execShutdownReadback (haltHigh : Bool) (pins : PinLevels) (s : State) : Host.Outcome State Fault Refusal :=
  .next <|
    if !s.bg.powered then s
    else
      let s1 := s.modBg fun b =>
        { b with
          haltLvl := haltHigh, gpeLvl := pins.gpe, relLow := pins.relLow
          rbHalt := if haltHigh = b.haltN then 0 else b.rbHalt + 1
          rbGpe := if pins.gpe = b.gpeN then 0 else b.rbGpe + 1 }
      let s2 := if s1.bg.rbHalt ≥ 4 then s1.lockout 12 0 else s1
      let s3 := if s1.bg.rbGpe ≥ 4 then s2.lockout 12 1 else s2
      s3.modBg fun b => { b with shown := s3.bgWords }

/-- BRAKE_FEEDBACK_TIMEOUT: on a supervised brake, BRAKE_REL_N (read at the pin, low for release) and BRK_FB have disagreed
for longer than t_BF (R46, R425). -/
def execBrakeFeedbackTimeout (a : Fin 8) (relLow : Bool) (s : State) : Host.Outcome State Fault Refusal :=
  .next <|
    if bitOf (s.scs 2 7 0 0) a && relLow != s.bg.brkFb.getLsbD a.1 then
      let m : BitVec 8 := BitVec.ofNat 8 (2 ^ a.1)
      (s.modBg fun b => { b with relLow := if relLow then b.relLow ||| m else b.relLow &&& ~~~m }).lockout 6 a
    else s

/-! ### Safely limited speed (R47 to R49) -/

/-- Heartbeat mode code of axis `a` as the supervisor knows it; SAFE while the heartbeat is not armed (R55). -/
def State.hbMode (s : State) (a : Nat) : Nat := if s.bg.hbArmed then bitsOf s.bg.hbModes (3 * a + 2) (3 * a) else 0

/-- The active limit of a tap in hundredths of Hz, if SLS is active (R47, R48). -/
def State.slsLimit (s : State) (tap : Fin 2) : Option Nat :=
  let b := 4 + 4 * tap.1
  if s.scs b 3 3 0 = 0 then none
  else
    let m := s.hbMode (s.scs b 2 0 0)
    let cls := s.speedClass
    let pct := if m = 1 then some (match cls with | 0 => 5 | 1 => 10 | 2 => 10 | _ => 25)
      else if m = 5 then some (match cls with | 0 => 5 | 1 => 10 | 2 => 25 | _ => 50) else none
    let modeLim := pct.map fun p => p * s.scs (b + 1) 31 0 0
    let fixed := if s.scs b 4 4 0 = 1 then some (100 * s.scs (b + 2) 31 0 0) else none
    match modeLim, fixed with
    | some x, some y => some (min x y)
    | some x, none => some x
    | none, y => y

/-- The two sources of a tap lie within tolerance (R49). -/
def State.slsClose (s : State) (tap : Fin 2) : Bool :=
  let b := 4 + 4 * tap.1
  let t := s.bg.sls[tap]
  decide (((t.own : Int) - t.fwd).natAbs * 1000 ≤ s.scs (b + 3) 15 0 0 * s.scs (b + 1) 31 0 0)

/-- Either source of a tap exceeds the active limit. -/
def State.slsOver (s : State) (tap : Fin 2) : Bool :=
  match s.slsLimit tap with
  | some l => decide (l < 100 * s.bg.sls[tap].own) || decide (l < 100 * s.bg.sls[tap].fwd)
  | none => false

/-- Both sources of a tap lie below the active limit, if there is one (R57). -/
def State.slsBelow (s : State) (tap : Fin 2) : Bool :=
  match s.slsLimit tap with
  | some l => decide (100 * s.bg.sls[tap].own < l) && decide (100 * s.bg.sls[tap].fwd < l)
  | none => true

/-- The mean of the two values forwarded in the window, rounded down to whole Hz (R49); where the feedback block forwarded fewer, the
manual states no value (free value, log entry 4). -/
def State.slsMean (s : State) (tap : Fin 2) : Nat × State :=
  match s.bg.sls[tap].sent with
  | a :: b :: _ => ((a + b) / 2, s)
  | _ => s.draw 22

/-- SLS_WINDOW_END: the 2 ms window of a tap ends with the supervisor's own frequency `own` and the values the feedback block
forwarded in it (R47, R49, R346). -/
def execSlsWindowEnd (tap : Fin 2) (own : Nat) (s : State) : Host.Outcome State Fault Refusal :=
  .next <|
    if !s.bg.powered || s.scs (4 + 4 * tap.1) 3 3 0 = 0 then s
    else
      let (m, s0) := s.slsMean tap
      let s1 := s0.modBg fun b => { b with sls := upd b.sls tap fun t => { t with own := own, fwd := m, sent := [] } }
      let beyond := s1.slsOver tap
      let differ := !s1.slsClose tap
      let s2 := s1.modBg fun b => { b with sls := upd b.sls tap fun t =>
        { t with viol := if beyond then t.viol + 1 else 0
                 disagree := if differ then some (match t.disagree with | none => 0 | some d => d + 2) else none } }
      let s3 := if 5 ≤ s2.bg.sls[tap].viol then s2.lockout 7 tap else s2
      match s2.bg.sls[tap].disagree with
      | some d => if s.scs (7 + 4 * tap.1) 31 16 0 ≤ d then s3.lockout 8 tap else s3
      | none => s3

/-! ### Seal switches (R51) -/

/-- SEAL_REREAD: two rereads in a row that differ from the snapshot latch SEAL_CHANGED with the lowest differing switch. -/
def execSealReread (sw : BitVec 8) (s : State) : Host.Outcome State Fault Refusal :=
  .next <|
    if !s.bg.powered then s
    else
      let differ := sw.toNat != s.bg.snap
      let s1 := s.modBg fun b => { b with live := sw.toNat, sealMis := if differ then b.sealMis + 1 else 0 }
      if 2 ≤ s1.bg.sealMis then
        s1.lockout 3 ((firstIdx (fun i => bitOf sw.toNat i != bitOf s.bg.snap i) (List.range 8)).getD 0)
      else s1

/-! ### Guards (R52 to R54) -/

/-- A change of a filtered guard channel: the level, the guard event of a present guard, and the start-up test. -/
def State.guardChange (s : State) (g : Fin 4) (chB level : Bool) : State :=
  let m : BitVec 4 := BitVec.ofNat 4 (2 ^ g.1)
  let s1 := s.modBg fun b =>
    if chB then { b with grdB := if level then b.grdB ||| m else b.grdB &&& ~~~m }
    else { b with grdA := if level then b.grdA ||| m else b.grdA &&& ~~~m }
  let bothOpen := s1.grdOpen g false && s1.grdOpen g true
  let bothClosed := !s1.grdOpen g false && !s1.grdOpen g true
  let s2 := s1.modBg fun b => { b with gtest := upd b.gtest g fun t =>
    if t.pending && bothOpen then { t with openSeen := true }
    else if t.pending && t.openSeen && bothClosed then { pending := false, openSeen := false, passed := true } else t }
  if bitOf (s.guard g) 0 then s2.bgEvent 5 else s2

/-- GUARD_INPUT_OPEN: a stop demand with the guard's reaction, or only the event (R52). -/
def execGuardInputOpen (g : Fin 4) (chB : Bool) (s : State) : Host.Outcome State Fault Refusal :=
  .next <|
    if !s.bg.powered || s.grdOpen g chB then s
    else
      let s1 := s.guardChange g chB false
      let r := bitsOf (s.guard g) 3 2
      if bitOf (s.guard g) 0 && r != 0 then s1.stopDemand r else s1

/-- GUARD_INPUT_CLOSE. -/
def execGuardInputClose (g : Fin 4) (chB : Bool) (s : State) : Host.Outcome State Fault Refusal :=
  .next <| if !s.bg.powered || !s.grdOpen g chB then s else (s.guardChange g chB true).ss1Unhold

/-- GUARD_DISCREPANCY_TIMEOUT: the channels of a present guard have disagreed for more than 100 ms (R53). -/
def execGuardDiscrepancyTimeout (g : Fin 4) (s : State) : Host.Outcome State Fault Refusal :=
  .next <| if bitOf (s.guard g) 0 && s.grdOpen g false != s.grdOpen g true then s.lockout 2 g else s

/-- Start the guard tests: with SW3 ON every present guard marked "test at start" is pending (R54); one that stands open on both channels
is seen open. -/
def State.startGuardTests (s : State) : State :=
  s.modBg fun b => { b with gtest := Vector.ofFn fun g : Fin 4 =>
    { pending := bitOf b.snap 2 && bitOf (s.guard g) 0 && bitOf (s.guard g) 1, openSeen := s.grdOpen g false && s.grdOpen g true, passed := false } }

/-! ### SCS commands (R55, R56) -/

/-- The unit-wide SERVICE condition of R10 as the heartbeat shows it (R55). -/
def State.hbService (s : State) : Bool :=
  (List.range 8).any (fun a => s.hbMode a == 1) && (List.range 8).all (fun a => s.hbMode a ≤ 1)

/-- Every axis in SAFE as the heartbeat shows it (R55). -/
def State.hbSafe (s : State) : Bool := (List.range 8).all fun a => s.hbMode a == 0

/-- A condition under which the candidate was loaded still holds (R55, R56): the SERVICE condition, or no set ever accepted with every
axis in SAFE. -/
def State.candHolds (s : State) : Bool := (s.bg.candSvc && s.hbService) || (s.bg.accepted.isNone && s.hbSafe)

/-- Drop the candidate. -/
def State.dropCand (s : State) : State := (s.modBg fun b => { b with cand := none }).put BG_SCS_STAT_CAND 0

/-- The local act needed by COMMIT was completed within the last 60 s (R56). -/
def State.recentAct (s : State) : Bool :=
  match s.bg.actAt with
  | some t => decide (s.time ≤ t + 15000000000)
  | none => false

/-- Start a command: discarded with LASTERR 6 while one is in progress (BG_SCS_CMD). -/
def State.scsCommand (s : State) (load : Bool) : State :=
  if s.flag BG_SCS_STAT_BUSY then s.put BG_SCS_STAT_LASTERR 6
  else
    let s1 := s.put BG_SCS_STAT_BUSY 1
    s1.modBg fun b => { b with scsLoad := load, scsCommit := !load, scsAct := s.recentAct,
                               scsStage := if load then (List.range 16).map fun i => s.reg (BG_SCS_STAGE i) else b.scsStage }

/-- SCS_LOAD: the command is accepted for transfer with the staging words as they stand (R55). -/
def execScsLoad (s : State) : Host.Outcome State Fault Refusal := .next <| s.whenUp fun t => t.scsCommand true

/-- SCS_COMMIT: the command is accepted for transfer (R56). -/
def execScsCommit (s : State) : Host.Outcome State Fault Refusal := .next <| s.whenUp fun t => t.scsCommand false

/-- A set takes effect: it is in force, and pending guard tests follow its guards at the first set after power-up (R54). -/
def State.putInForce (s : State) (w : List Word) : State :=
  let s1 := s.modBg fun b => { b with inForce := some w }
  if s.bg.inForce.isNone then s1.startGuardTests else s1

/-- The outcome of a LOAD (R55). A refused LOAD keeps the loaded set and MATCH with it (DEDUCED: MATCH tells whether the loaded set's CRC
equals the accepted one; R55 does not name it for a refused LOAD; log entry 67). -/
def State.scsLoaded (s : State) (w : List Word) : State :=
  let e := scsError s w
  let s0 := s.dropCand
  if e ≠ 0 then s0.put BG_SCS_STAT_LASTERR e
  else
    let s1 := ((s0.modBg fun b => { b with loaded := some w }).put BG_SCS_STAT_LASTERR 0).put BG_SCS_STAT_LOADED 1
    if s.bg.accepted = some (scsWord w 15) then (s1.putInForce w).put BG_SCS_STAT_MATCH 1
    else if s.bg.accepted.isNone || s.hbService then
      (((s1.modBg fun b => { b with cand := some w, candSvc := s.hbService }).put
        BG_SCS_STAT_CAND 1)).put BG_SCS_STAT_MATCH 0
    else (s1.put BG_SCS_STAT_MATCH 0).lockout 11 0

/-- The outcome of a COMMIT (R56). -/
def State.scsCommitted (s : State) : State :=
  match s.bg.cand with
  | some w =>
    if s.candHolds && s.bg.scsAct then
      let s1 := (s.modBg fun b => { b with accepted := some (scsWord w 15), loaded := some w }).putInForce w
      (((s1.dropCand).put BG_SCS_STAT_MATCH 1).put BG_SCS_STAT_COMMITTED 1).put BG_SCS_STAT_LASTERR 0
    else s.put BG_SCS_STAT_LASTERR 5
  | none => s.put BG_SCS_STAT_LASTERR 5

/-- The command in progress ends, BUSY clears, the status fields update (R55, R56). -/
def State.scsComplete (t : State) : State :=
  if !t.flag BG_SCS_STAT_BUSY then t
  else
    let t1 := (t.put BG_SCS_STAT_BUSY 0).modBg fun b => { b with scsLoad := false, scsCommit := false }
    if !t.bg.powered then t1
    else if t.bg.scsLoad then t1.scsLoaded t.bg.scsStage
    else if t.bg.scsCommit then t1.scsCommitted else t1

/-- SCS_COMMAND_COMPLETE (R55, R56). -/
def execScsCommandComplete (s : State) : Host.Outcome State Fault Refusal := .next <| s.whenUp State.scsComplete

/-! ### Lamp lines (R381) -/

/-- Lamp `n` is chosen in LAMPLO of the set in force: LAMP_STAT.LO. -/
def State.lampLo (s : State) (n : Nat) : Bool := bitOf (s.scs 3 7 0 0) n

/-- The line of lamp `n` to the supervisor: active while DARK is set, and while LO is 1 and EN is 0 (R381); inactive in a
unit without the claim (R426). -/
def State.lampLine (s : State) (n : Nat) : Bool :=
  !s.unclaimed && (s.flag (LAMP_STAT_DARK n) || (s.lampLo n && !s.flag (LAMP_CFG_EN n)))

/-- The supervisor judges the lamp lines while the heartbeat runs: an active line of a lamp in LAMPLO latches LAMP_DARK (R381). -/
def State.judgeLamps (s : State) : State :=
  if s.bg.powered && s.bg.hbRun then forN 8 (fun n t => if t.lampLo n && t.lampLine n then t.lockout 10 n else t) s else s

/-! ### Heartbeat (R58) -/

/-- A write of BG_HB_CTRL: arms a heartbeat that is not armed. -/
def State.hbArm (s : State) (arm : Bool) : State :=
  if !arm || s.bg.hbArmed || !s.bg.powered then s
  else s.modBg fun b => { b with hbArmed := true, hbRun := false, hbWrites := 0, hbAnswered := false, hbMiss := 0,
                                 hbRow := 0, hbModes := 0, hbOpen := false }

/-- HB_ARM (BG_HB_CTRL). -/
def execHbArm (arm : Bool) (s : State) : Host.Outcome State Fault Refusal := .next <| s.whenUp (·.hbArm arm)

/-- HB_CHALLENGE: the period just ended is judged, two unanswered ones in a row latch HEARTBEAT_LOST, and a new challenge is
presented with its event (R58). A stopped Haldux sees no challenge and answers none. -/
def execHbChallenge (chal : BitVec 8) (s : State) : Host.Outcome State Fault Refusal :=
  .next <|
    if !s.bg.powered || !s.bg.hbArmed then s
    else
      let s1 := if !s.bg.hbOpen then s
        else
          let good := s.bg.hbAnswered
          let t := s.modBg fun b => { b with hbMiss := if good then 0 else b.hbMiss + 1, hbRow := if good then b.hbRow + 1 else 0 }
          if 2 ≤ t.bg.hbMiss then t.lockout 9 0 else t
      let s3 := s1.judgeLamps.modBg fun b => { b with hbOpen := true, hbWrites := 0, hbAnswered := false }
      if s3.clocked then (s3.put BG_HB_CHAL_CHAL chal.toNat).bgEvent 4 else s3

/-- Valid mode codes: 0 to 5 for every axis of the member, 0 for an absent one (R58). -/
def modesValid (s : State) (m : Nat) : Bool :=
  (List.range 8).all fun a => if a < s.nAxes then decide (bitsOf m (3 * a + 2) (3 * a) ≤ 5) else bitsOf m (3 * a + 2) (3 * a) == 0

/-- A write of BG_HB_RESP: a single right answer within the period answers it; a second write is a wrong answer (R58). The mode
codes of an answered period judge the candidate (R55). -/
def State.hbResponse (s : State) (w : Word) : State :=
  if !s.bg.powered || !s.bg.hbArmed || !s.bg.hbOpen then s
  else
    let modes := fieldOf w 31 8
    let good := s.bg.hbWrites == 0 && fieldOf w 7 0 == 255 - s.get BG_HB_CHAL_CHAL && modesValid s modes
    let t := s.modBg fun b =>
      { b with hbWrites := b.hbWrites + 1, hbAnswered := good, hbRun := b.hbRun || good
               hbModes := if good then modes else b.hbModes }
    if good && t.bg.cand.isSome && !t.candHolds then t.dropCand else t

/-- HB_RESPONSE (R58). -/
def execHbResponse (w : Word) (s : State) : Host.Outcome State Fault Refusal := .next <| s.whenUp (·.hbResponse w)

/-- Haldux signals a reset on the dedicated line (R58): the supervisor cuts and disarms the heartbeat, without lock-out; a
candidate set is discarded (R55). -/
def State.resetSignal (s : State) : State :=
  if !s.bg.powered then s
  else s.cut.modBg fun b => { b with hbArmed := false, hbRun := false, hbAnswered := false, hbOpen := false, hbMiss := 0,
                                     hbRow := 0, cand := none, scsLoad := false, scsCommit := false }

/-! ### The lock-out reset act (R60 to R63) -/

/-- Is a latched cause gone, by the "Gone when" column of R57? -/
def State.causeGone (s : State) (c i : Nat) : Bool :=
  match c with
  | 1 => s.stoOpen false == s.stoOpen true
  | 2 => s.bg.grdA.getLsbD i == s.bg.grdB.getLsbD i
  | 3 => s.bg.live == s.bg.snap
  | 4 => bitsOf s.bg.snap 1 0 != 3
  | 5 => s.bg.testPassSince
  | 6 => s.bg.brkFb.getLsbD i == s.bg.relLow.getLsbD i
  | 7 => s.slsBelow ⟨i % 2, Nat.mod_lt _ (by decide)⟩
  | 8 => s.slsClose ⟨i % 2, Nat.mod_lt _ (by decide)⟩
  | 9 => decide (3 ≤ s.bg.hbRow)
  | 10 => !s.lampLine i
  | 11 => match s.bg.loaded, s.bg.accepted with
    | some w, some a => scsWord w 15 == a
    | _, _ => false
  | 12 => if i = 0 then s.bg.rbHalt == 0 else s.bg.rbGpe == 0
  | _ => true

/-- Every latched cause is gone. -/
def State.allGone (s : State) : Bool := s.bg.causeIdx.all fun p => s.causeGone p.1 p.2

/-- Lock-out, first cause and cause map clear, EMCY 0xFF12 is raised, the window closes and the guard tests restart (R61). -/
def State.lockoutClear (s : State) : State :=
  let s1 := s.modBg fun b => { b with latched := false, first := 0, index := 0, causes := 0, causeIdx := [], window := false }
  ((s1.startGuardTests).bgEvent 1).bgEmcy 0xFF12 []

/-- LOR_PRESS_DISAGREE: the act is voided with LORVOID and EMCY 0xFF0D (R60). -/
def execLorPressDisagree (a b : Bool) (s : State) : Host.Outcome State Fault Refusal :=
  .next <|
    -- pressed: LOR_A at 24 V, LOR_B at 0 V
    if !s.bg.powered || a != b then s
    else ((s.modBg fun g => { g with lorA := a, lorB := b, lorVoid := true }).bgEvent 6).bgEmcy 0xFF0D []

/-- LOR_PRESS_TIMEOUT: a press longer than 5 s is void; LORVOID, no EMCY (R60). -/
def execLorPressTimeout (s : State) : Host.Outcome State Fault Refusal :=
  .next <|
    if !s.bg.powered then s else (s.modBg fun g => { g with lorA := true, lorB := false, lorVoid := true }).bgEvent 6

/-- LOR_ACT_RELEASE: the release edge of a press of `pressed` ms that followed `released` ms of release on both channels. A
completed act (R60) is recorded (R56, R63) and, with lock-out latched, every cause is judged (R61); a refused one opens the
fieldbus window with SW4 ON (R62). -/
def execLorActRelease (pressed released : Nat) (s : State) : Host.Outcome State Fault Refusal :=
  .next <|
    if !s.bg.powered then s
    else
      let ok := 500 ≤ pressed && pressed < 5000 && 1000 ≤ released && !s.bg.lorVoid
      let s1 := s.modBg fun g => { g with lorA := false, lorB := true, lorVoid := false }
      if !ok then s1
      else
        let s2 := s1.modBg fun g => { g with actAt := some s.time }
        if !s2.bg.latched then s2
        else if s2.allGone then s2.lockoutClear
        else ((s2.modBg fun g => { g with window := bitOf g.snap 3 }).bgEvent 7).bgEmcy 0xFF10 []

/-- A fieldbus request judged by R62: inside the window by R61, else refused with EMCY 0xFF11. -/
def State.fblor (s : State) (key : Word) : State :=
  if key ≠ 0xA55A ∨ !s.bg.window ∨ !bitOf s.bg.snap 3 then (s.bgEvent 7).bgEmcy 0xFF11 []
  else if s.allGone then s.lockoutClear
  else (s.bgEvent 7).bgEmcy 0xFF10 []

/-- FIELDBUS_LOR_REQUEST: a write of BG_FBLOR (R62). -/
def execFieldbusLorRequest (key : Word) (s : State) : Host.Outcome State Fault Refusal :=
  .next <| s.whenUp fun t => if t.bg.powered then t.fblor key else t

/-- FBLOR_WINDOW_EXPIRY: the window closes 60 s after the last refused local act (R62). -/
def execFblorWindowExpiry (s : State) : Host.Outcome State Fault Refusal :=
  .next <| s.modBg fun b => { b with window := false }

/-- BACKGROUND_SELFTEST_FAIL: a background self-test fails (R57, cause SELFTEST_FAIL with the test number). SELFTEST_OK and HOLD_SELFTEST
speak of the start-up self-test; the model shows this failure in them too (DESIGN CHOICE, log entry 67). -/
def execBackgroundSelftestFail (test : Fin 8) (s : State) : Host.Outcome State Fault Refusal :=
  .next <| (if s.bg.powered then s.modBg fun b => { b with selftest := .failed } else s).lockout 5 test

end Sys2Proof.Machine
end

