-- ==== Sys2Proof/Machine/Lamps.lean ====
section
/-! DEFINITION. Warning lamps and general I/O (12_winch_thruster_lamps.md, R375 to R382). -/

namespace Sys2Proof.Machine

/-- Change lamp `n` by `f`. -/
def State.modLamp (s : State) (n : Fin 8) (f : Lamp → Lamp) : State := (s.modLio fun z => { z with lamps := upd s.lio.lamps n f })

/-- Axis a lamp is associated with. -/
def State.lampAxis (s : State) (n : Nat) : Fin 8 := ⟨s.get (LAMP_CFG_AXIS n) % 8, Nat.mod_lt _ (by decide)⟩

/-- The lamp's commanded state has on phases (R375): enabled, MODE not 0, and not off by FOLLOW. -/
def State.lampPattern (s : State) (n : Nat) : Bool :=
  s.flag (LAMP_CFG_EN n) && s.get (LAMP_MODE_MODE n) != 0 &&
    !(s.flag (LAMP_MODE_FOLLOW n) && s.isSafe (s.lampAxis n))

/-- Period and on time of a pattern in ms (R375); a steady lamp is one long on phase. -/
def State.lampTimes (s : State) (n : Nat) : Nat × Nat :=
  match s.get (LAMP_MODE_MODE n) with
  | 2 => (1000, 500)
  | 3 => (500, 250)
  | 4 => (10 * (s.get (LAMP_FLASH_ON n) + s.get (LAMP_FLASH_OFF n)), 10 * s.get (LAMP_FLASH_ON n))
  | _ => (1, 1)

/-- The block's tick count: 1 ms ticks since the last reset of system scope (R352). -/
def State.lioTick (s : State) : Nat := s.clk / 250000

/-- Commanded lit now (LAMP_STAT.ON). -/
def State.lampOn (s : State) (n : Nat) : Bool :=
  s.lampPattern n && !s.unclaimed && decide (s.lioTick % (s.lampTimes n).1 < (s.lampTimes n).2)

/-- Blanking of 5 ms at the start of an on phase (R376), counted in whole ticks (R352). -/
def State.lampBlank (s : State) (n : Fin 8) : Bool :=
  let start := if s.get (LAMP_MODE_MODE n) ≤ 1 then 0 else s.lioTick / (s.lampTimes n).1 * (s.lampTimes n).1
  s.lampOn n && decide (s.lioTick < max start ((s.lio.lamps[n].litFrom + 249999) / 250000) + 5)

/-- A lamp whose commanded state was off in `s` and is on in the state reached has begun an on phase (R376). -/
def State.lampLit (s t : State) (n : Fin 8) : State :=
  if !s.lampPattern n && t.lampPattern n then t.modLamp n fun l => { l with litFrom := t.clk } else t

/-- DARK clears (R379): the start inhibit and the supervisor's line follow. -/
def State.lampClear (s : State) (n : Fin 8) : State := (s.put (LAMP_STAT_DARK n) 0).inhibits

/-- DARK is set with FOUND (R376 to R378); its rise counts, sends EMCY 0xFF70 once and acts by REACT (R380, R381). -/
def State.lampDarken (s : State) (n : Fin 8) (found : Nat) : State :=
  let s1 := s.put (LAMP_STAT_FOUND n) found
  if s.flag (LAMP_STAT_DARK n) then s1
  else
    let s2 := (((s1.put (LAMP_STAT_DARK n) 1).raise ⟨LAMP_STAT n, 2, 0⟩ 0 (evLamp n)).bump (LAMP_CNT_DARKCNT n)).emcy 0xFF70
      [n, found, s.get (LAMP_CFG_REACT n), 0, 0]
    let s3 := s2.inhibits
    (if s.get (LAMP_CFG_REACT n) = 2 then s3.lampStop (s.lampAxis n) else s3).judgeLamps

/-- LAMP_WINDOW_JUDGE: a 1 ms window of a lit lamp, after blanking and wholly within an on phase, of average `mA` (R376). -/
def execLampWindowJudge (n : Fin 8) (mA : Nat) (s : State) : Host.Outcome State Fault Refusal :=
  .next <| s.whenUp fun t =>
    if !t.lampPattern n || t.flag (LAMP_STAT_OFFLATCH n) || t.nLamps ≤ n.1 || t.unclaimed then t
    else
      let low := decide (mA < t.get (LAMP_CFG_DARKTH n))
      let t1 := (t.put (LAMP_I_IWIN n) (min mA 4095)).modLamp n fun l =>
        if low then { l with low := satInc 10 l.low, good := 0 } else { l with low := 0, good := satInc 10 l.good }
      if low && t.lio.lamps[n].low == 9 then t1.lampDarken n 1
      else if t1.lio.lamps[n].good == 10 then t1.lampClear n else t1

/-- LAMP_COLD_PULSE: an off lamp is proved by a pulse sampled twice (R377). -/
def execLampColdPulse (n : Fin 8) (i1 i2 : Nat) (s : State) : Host.Outcome State Fault Refusal :=
  .next <| s.whenUp fun t =>
    if !t.flag (LAMP_CFG_EN n) || t.lampPattern n || t.flag (LAMP_STAT_OFFLATCH n) || t.nLamps ≤ n.1 || t.unclaimed then t
    else
      let low := min i1 i2
      let t1 := (t.put (LAMP_I_IPULSE n) (min low 4095)).wrapUp (LAMP_CNT_PROVES n)
      if t.get (LAMP_CFG_DARKTH n) ≤ low then t1.lampClear n
      else (t1.raise ⟨LAMP_STAT n, 2, 0⟩ 1 (evLamp n)).lampDarken n 2

/-- LAMP_OVERLOAD: the switch turns off and latches (R378). DARKCNT counts it also while DARK stands (R384, log entry 11). -/
def execLampOverload (n : Fin 8) (s : State) : Host.Outcome State Fault Refusal :=
  .next <| s.whenUp fun t =>
    if !t.flag (LAMP_CFG_EN n) || t.flag (LAMP_STAT_OFFLATCH n) || t.nLamps ≤ n.1 || t.unclaimed then t
    else
      let t1 := (t.put (LAMP_STAT_OFFLATCH n) 1).raise ⟨LAMP_STAT n, 2, 0⟩ 2 (evLamp n)
      let t2 := if t.flag (LAMP_STAT_DARK n) then t1.bump (LAMP_CNT_DARKCNT n) else t1
      t2.lampDarken n 3

/-- LAMP_CTRL.RETRY: OFFLATCH clears and the lamp resumes its commanded state, with blanking (R378). -/
def State.lampRetry (s : State) (n : Fin 8) : State := (s.put (LAMP_STAT_OFFLATCH n) 0).modLamp n fun l => { l with litFrom := s.clk }

/-- LAMP_RETRY (R378). -/
def execLampRetry (n : Fin 8) (s : State) : Host.Outcome State Fault Refusal := .next <| s.whenHas (s.hasLamp n) fun t => t.lampRetry n

/-- LAMP_CTRL.CLRCNT clears the lamp's counters (LAMP_CTRL). -/
def State.lampClrCnt (s : State) (n : Fin 8) : State := s.setReg (LAMP_CNT n) 0

/-- LAMP_CLEAR_COUNT. -/
def execLampClearCount (n : Fin 8) (s : State) : Host.Outcome State Fault Refusal := .next <| s.whenHas (s.hasLamp n) fun t => t.lampClrCnt n

/-! ### General I/O (R382) -/

/-- GPI_CHANGE: the filtered levels become `v`; a masked change sets GPI_EVT and LIO_EVT.GPIN. -/
def execGpiChange (v : BitVec 8) (s : State) : Host.Outcome State Fault Refusal :=
  .next <| s.whenUp fun t =>
    let c := (t.get GPI_LVL_V ^^^ v.toNat) &&& t.get GPI_CFG_MASK
    let t1 := t.put GPI_LVL_V v.toNat
    if c = 0 then t1 else (t1.putOr GPI_EVT_V c).raise ⟨LIO_EVT, 4, 0⟩ 4 88

/-- GPO_OVERLOAD: the output turns off with OVL and EMCY 0xFF79. -/
def execGpoOverload (i : Fin 4) (s : State) : Host.Outcome State Fault Refusal :=
  .next <| s.whenUp fun t =>
    if !bitOf (t.get GPO_OUT_V) i || t.lio.gpoOff.getLsbD i || t.unclaimed then t
    else (((t.modLio fun z => { z with gpoOff := t.lio.gpoOff ||| BitVec.ofNat 4 (2 ^ i.1) })).putOr GPO_STAT_OVL (2 ^ i.1)).emcy
      0xFF79 [i, 0, 0, 0, 0]

/-- A write of GPO_OUT: writing a bit 0 ends its overload latch, so that writing it 1 again retries the output (R382). -/
def State.writeGpo (s : State) (v : Nat) : State :=
  ((s.modLio fun z => { z with gpoOff := s.lio.gpoOff &&& BitVec.ofNat 4 v })).put GPO_OUT_V v

end Sys2Proof.Machine
end

