-- ==== Sys2Proof/Machine/Ports.lean ====
section
/-! DEFINITION. The satellite ports (07_satellite_link.md) and the engine's reading of replies (R305, R306, R311). -/

namespace Sys2Proof.Machine

/-! ### Configuration of a port -/

/-- The port's event bit `b` of SP_EVT, source `b` of its group (R156, SP_EVT). -/
def State.portEvt (s : State) (p : Fin 6) (b : Nat) : State := s.raise ⟨SP_EVT p, 10, 0⟩ b (evPort p)

/-- A control or configuration write was refused (SP_ERR.CTLREF). -/
def State.ctlRef (s : State) (p : Fin 6) : State := s.put (SP_ERR_CTLREF p) 1

/-- D mode (R186). -/
def State.dmode (s : State) (p : Fin 6) : Bool := s.flag (SP_CFG_DMODE p)

/-- D-mode broadcast on code 7 (R187). -/
def State.bcast7 (s : State) (p : Fin 6) : Bool := s.dmode p && s.flag (SP_CFG_BCAST p)

/-- Select codes fitted (R186, R187): four in H mode; code 7 is the broadcast where BCAST is set. -/
def State.fitted (s : State) (p : Fin 6) : List Nat :=
  (List.range (if s.dmode p then 8 else 4)).filter fun c => bitOf (s.get (SP_CFG_SELMAP p)) c && !(s.bcast7 p && c == 7)

/-- BUSYSTYLE of a code is PATTERN (R206). -/
def State.pattern (s : State) (p : Fin 6) (c : Nat) : Bool := bitOf (s.get (SP_BUSY_STYLE p)) c

/-- Select codes of a select field, and whether it is a broadcast (R187, R204, R301). -/
def State.selCodes (s : State) (p : Fin 6) (sel : Nat) (bc : Bool) : List Nat × Bool :=
  if s.dmode p then (if bc || bitOf sel 3 then ([7], true) else ([sel % 8], false))
  else
    let l := (List.range 4).filter fun i => bitOf sel i
    (l, bc || decide (1 < l.length))

/-- Codes of the silent class (R229). -/
def silentOp (op : Nat) : Bool := op == 0 || op == 2
/-- Opcodes that can turn a gate on (R229). -/
def gateOp (op : Nat) : Bool := op == 1 || op == 2

/-! ### Receive records (R208) -/

/-- Write a record, or drop it whole (R208). -/
def State.record (s : State) (p : Fin 6) (ws : List Word) : State :=
  if 128 < s.ports[p].rxQ.length + ws.length then (s.bump (SP_CNT2_RXDROP p)).portEvt p 3
  else s.modPort p fun q => { q with rxQ := q.rxQ ++ ws }

/-- INFO word of a record: class bit, flags, select, kind, tag, count. -/
def infoWord (bits sel kind tag cnt : Nat) : Word :=
  BitVec.ofNat 32 (bits + sel % 16 * 2 ^ 20 + kind % 4 * 2 ^ 18 + tag % 256 * 256 + cnt % 128)

/-- The number whose bits are those of the list, first bit highest. -/
def bitsNat (bs : List Bool) : Nat := bs.foldl (fun n b => 2 * n + b2n b) 0

/-! ### Replies (R200, R201, R209) -/

/-- Class of a reply by the order column of R200; `bits` are the bits sampled, start bit first. -/
def replyClass (alive : Nat) (bits : List Bool) : Nat :=
  if bits.length < 41 then 1
  else if bits.all id then 2
  else
    let w := bitsNat (bits.drop 1)
    let v := w / 256
    let st := bitsOf w 35 32
    if crc8 v ≠ w % 256 then 3
    else if st = 15 ∧ bitsOf w 31 8 = 0xB5B5B5 then 4
    else if bitOf st 0 && bitsOf w 39 36 == 0 then 5
    else if bitsOf w 39 36 = alive ∧ !bitOf st 3 then 6
    else if bitsOf w 39 36 ≠ alive ∧ bitOf st 3 then 7 else 8

/-- INFO bit of a class (R208). -/
def classBit (c : Nat) : Nat :=
  match c with
  | 1 => 2 ^ 31 | 2 => 2 ^ 28 | 3 => 2 ^ 30 | 4 => 2 ^ 29 | 5 => 2 ^ 25 | 7 => 2 ^ 26 | 8 => 2 ^ 27 | _ => 0

/-- A satellite of an axis has re-entered (R306, R311): degraded running where R311 permits it, else the drive fault
SAT_REENTERED. -/
def State.reentry (s : State) (a : Fin 8) (p : Fin 6) (sel : Nat) : State :=
  let key := 8 * p.1 + sel
  let cov := (List.range 3).find? fun x =>
    s.get (ENG_PH_PORT a x) == p.1 && bitOf (s.get (ENG_PH_SELMASK a x)) sel
  if (key, false) ∈ s.eng[a].deg then s
  else match cov with
    | some x =>
      if s.flag (ENG_CFG_DEGRADE a) && s.flag (ENG_PH_PAR a x) && decide (2 ≤ (s.phaseSels a x).length) &&
          !bitOf (s.get (ENG_STAT_DEGPH a)) x then
        let s1 := (s.put (ENG_STAT_DEGRADED a) 1).putOr (ENG_STAT_DEGPH a) (2 ^ x)
        let s2 := (s1.modEng a fun e => { e with deg := (key, false) :: e.deg })
        s2.emcy 0xFF58 [a, s2.get (ENG_STAT_DEGPH a), 0, 0, 0]
      else s.engineFault a 6
    | none => s.engineFault a 6

/-- Fold the gate events commanded up to position `pos` of the slot grid into the commanded gates (R306). -/
def Port.fold (q : Port) (pos : Nat) : Port :=
  let step (g : Vector Nat 8) (c : GateCmd) : Vector Nat 8 :=
    if h : c.sel < 8 then
      let m := if c.high then 1 else 2
      g.set c.sel (if c.on then g[c.sel] ||| m else g[c.sel] &&& (3 - m)) h
    else g
  { q with cmds := q.cmds.filter fun c => decide (pos < c.slotPos),
           gates := (q.cmds.filter fun c => decide (c.slotPos ≤ pos)).foldl step q.gates }

/-- The axes with a phase on select `sel` of port `p` (ENG_PH0 to ENG_PH2). -/
def State.axesOfSat (s : State) (p : Fin 6) (sel : Nat) : List (Fin 8) :=
  (List.finRange 8).filter fun a => (List.range 3).any fun x => s.get (ENG_PH_PORT a x) == p.1 && bitOf (s.get (ENG_PH_SELMASK a x)) sel

/-- A degraded satellite that answers without BOOT is found again: its next re-entry is a second one (R311). -/
def State.foundAgain (s : State) (p : Fin 6) (sel : Nat) : State :=
  forFin 8 (fun a t => t.modEng a fun e => { e with deg := e.deg.map fun d => if d.1 = 8 * p.1 + sel then (d.1, true) else d }) s

/-- The engine reads the reply to one of its unicast EDGE commands or to a filler (R306, R307, R311), for the frame of slot `n`; what a
filler shows concerns every axis that its satellite serves, or else the axis that filled the slot. -/
def State.engineReply (s : State) (p : Fin 6) (fl : Flight) (c w n : Nat) : State :=
  if h : fl.sel < 8 then
    let whole := c == 5 || c == 6
    let pl := bitsOf w 31 8
    let m := 2 ^ fl.sel
    let q := s.ports[p].fold (172 * n + 81)
    let done := whole && bitOf pl 15
    let s1 := s.modPort p fun _ => { q with cfgDone := if done then q.cfgDone ||| m else q.cfgDone &&& (255 - m) }
    let own := s.axesOfSat p fl.sel
    let axes := if fl.src == .engine || own.isEmpty then [fl.axis] else own
    let each := fun (f : State → Fin 8 → State) (t : State) => axes.foldl f t
    if c = 5 ∨ (c = 6 ∧ bitOf (bitsOf w 35 32) 0) then each (fun t a => t.reentry a p fl.sel) s1
    else if c ≠ 6 then s1
    else
      let s2 := s1.foundAgain p fl.sel
      if fl.opcode = 1 ∧ bitOf pl 21 then each (fun t a => t.engineFault a 9) s2
      else if b2n (bitOf pl 23) + 2 * b2n (bitOf pl 22) = q.gates[fl.sel] then s2.modPort p fun q => { q with mism := q.mism.set fl.sel 0 h }
      else
        let k := q.mism[fl.sel] + 1
        let s3 := s2.modPort p fun q => { q with mism := q.mism.set fl.sel k h }
        if 2 ≤ k then each (fun t a => t.engineFault a 9) s3 else s3
  else s

/-- A class that counts toward BADLIM (R200, R201). -/
def State.badReply (s : State) (p : Fin 6) (sel c : Nat) : State :=
  let s1 := if c = 7 then (s.bump (SP_CNT_LASTBAD p)).portEvt p 9 else (s.bump (SP_CNT_BAD p)).portEvt p 3
  let s2 := (s1.put (SP_ERR_LASTSEL p) sel).put (SP_ERR_LASTCLASS p) c
  if h : sel < 8 then
    let k := s.ports[p].bad[sel] + 1
    let s3 := s2.modPort p fun q => { q with bad := q.bad.set sel k h }
    if k = s.get (SP_CFG2_BADLIM p) ∧ s.ports[p].live then s3.portFault p 5 else s3
  else s2

/-- Classify the reply of the frame in flight (R200), with its record (R208) and the engine's reading (R306). -/
def State.classify (s : State) (p : Fin 6) (fl : Flight) (bits : List Bool) : State :=
  let c := replyClass fl.alive bits
  let w := bitsNat (bits.drop 1)
  let st := if bits.length < 41 then 0 else bitsOf w 35 32
  let s1 :=
    if c = 1 then s.portEvt p 5
    else if c = 2 ∨ c = 3 ∨ c = 7 ∨ c = 8 then s.badReply p fl.sel c
    else
      let s2 := if c = 4 then s.bump (SP_CNT2_BUSY p)
        else if c = 5 then
          let t := s.portEvt p 4
          if s.ports[p].live then
            forFin 8 (fun a u => if bitOf (s.axmap p) a then u.reentry a p fl.sel else u)
              (t.modPort p fun q => { q with reent := q.reent ||| 2 ^ fl.sel })
          else t
        else s.modPort p fun q => { q with bad := if h : fl.sel < 8 then q.bad.set fl.sel 0 h else q.bad }
      let s3 := if bitOf st 2 then s2.portEvt p 1 else s2
      if bitOf st 1 then s3.portEvt p 8 else s3
  let m := bits.length - 1
  let s4 := if fl.src = .tenant ∧ bitOf fl.hdr 27 then
      let data := if bits.length < 41 then (if 32 < m then w / 2 ^ (m - 32) else w) else w / 256
      s1.record p [infoWord (classBit c) fl.sel 0 fl.hdr (min 40 m), BitVec.ofNat 32 data]
    else s1
  if fl.src = .engine ∨ fl.src = .filler then s4.engineReply p fl c w (s.ports[p].slot - 1)
  else if fl.src = .copy then s4.takeReply (8 * p + fl.sel) (if bitOf st 0 then 5 else c) (bitsOf w 31 8) else s4

/-- One word received by a RAW_READ (R205, R206, R208): `bits` may be short of WLEN when the select was released. -/
def State.rawWord (s : State) (p : Fin 6) (fl : Flight) (bits : List Bool) : State :=
  let wl := bitsOf fl.hdr 21 16 + 1
  let v := bitsNat bits
  let b := (if bits.length < wl then 2 ^ 31 else 0) + (if !s.pattern p fl.sel && v == 0 then 2 ^ 24 else 0) +
    (if 32 < wl then 2 ^ 17 else 0)
  let data : List Word := BitVec.ofNat 32 v :: (if 32 < wl then [BitVec.ofNat 32 (v / 2 ^ 32)] else [])
  s.record p (infoWord b fl.sel 2 fl.hdr bits.length :: data)

/-- A tenant entry completes: ENTRYDONE where its IRQ asks for it (R204). -/
def State.entryDone (s : State) (p : Fin 6) (fl : Flight) : State :=
  let s1 := s.modPort p fun q => { q with flight := none, rawBusy := 0 }
  if fl.src = .tenant ∧ bitOf fl.hdr 28 then s1.portEvt p 7 else s1

/-- The record of a broadcast tenant entry with RXEN: no reply, so no bit of one; what its data word holds is not stated (a free value, log
entry 4). `cut`: its select was released early (R208, R209). -/
def State.noReply (s : State) (p : Fin 6) (fl : Flight) (cut : Bool) : State :=
  if fl.src = .tenant ∧ fl.bcast ∧ bitOf fl.hdr 27 ∧ bitsOf fl.hdr 31 30 = 0 then
    let r := s.draw 81
    r.2.record p [infoWord (if cut then 2 ^ 31 else 0) fl.sel 0 fl.hdr 0, BitVec.ofNat 32 r.1]
  else s

/-- The frame in flight ends with its slot: a reply not received reads as the undriven line, all ones (R188, log entry 12). -/
def State.closeFlight (s : State) (p : Fin 6) : State :=
  match s.ports[p].flight with
  | none => s
  | some fl =>
    let kind := bitsOf fl.hdr 31 30
    let wl := bitsOf fl.hdr 21 16 + 1
    let s1 :=
      if fl.await then s.classify p fl (List.replicate 41 true)
      else if fl.src = .tenant ∧ kind = 2 then
        (List.range fl.rawLeft).foldl (fun t _ => t.rawWord p fl (List.replicate wl true)) s
      else s.noReply p fl false
    s1.entryDone p fl

/-- The select is released early with `bits` sampled of the reply or word (R209). -/
def State.cutFlight (s : State) (p : Fin 6) (bits : List Bool) : State :=
  match s.ports[p].flight with
  | none => s
  | some fl =>
    let s1 :=
      if fl.await then s.classify p fl bits
      else if fl.src = .tenant ∧ bitsOf fl.hdr 31 30 = 2 ∧ fl.rawLeft ≠ 0 ∧ bits ≠ [] then s.rawWord p fl bits
      else s.noReply p fl true
    s1.entryDone p fl

/-- SATELLITE_REPLY (R200): the bits sampled of the reply to the frame in flight, start bit first; for a RAW_READ the bits of its
next word. -/
def execSatelliteReply (p : Fin 6) (bits : List Bool) (s : State) : Host.Outcome State Fault Refusal :=
  .next <| s.whenUp fun t =>
    match t.ports[p].flight with
    | none => t
    | some fl =>
      if fl.await then
        ((t.classify p fl bits).modPort p fun q => { q with flight := some { fl with await := false } }).takeCheck
      else if fl.src = .tenant ∧ bitsOf fl.hdr 31 30 = 2 ∧ fl.rawLeft ≠ 0 then
        (t.rawWord p fl (bits.take (bitsOf fl.hdr 21 16 + 1))).modPort p fun q =>
          { q with flight := some { fl with rawLeft := fl.rawLeft - 1 } }
      else t

/-! ### Sending (R190 to R196, R203, R215) -/

/-- Gate events of an EDGE payload sent in slot `n` to the codes `cs`, as R306 will compare them. -/
def gateCmds (cs : List Nat) (n payload : Nat) : List GateCmd :=
  cs.flatMap fun c => (edgeEvs payload).map fun e => ⟨c, edgeSlot (172 * n) payload + e.pos, e.high, e.on⟩

/-- Send a Jalzil frame in the slot just begun (R192, R196): the alive counter advances, a gate opcode sets LIVE (R215). An entry that
names no fitted select is taken and nothing is sent (R186). -/
def State.jalzil (s : State) (p : Fin 6) (src : FrameSrc) (axis : Fin 8) (hdr : Nat) (codes : List Nat) (bc : Bool)
    (op payload : Nat) : State :=
  let cs := if s.dmode p && bc then (if s.bcast7 p then [7] else []) else codes.filter fun c => c ∈ s.fitted p
  if cs.isEmpty then s
  else
    let alive := s.get (SP_ACNT_ACNT p)
    let w := frameWord alive op payload
    let c0 := cs.headD 0
    let n := s.ports[p].slot - 1
    let members := if op = 2 then
        (List.range 3).flatMap fun x => if s.get (ENG_PH_PORT axis x) = p.1 ∧ s.flag (ENG_PH_PAR axis x) ∧
          s.get (ENG_PH_GROUP axis x) = bitsOf payload 21 20 then s.phaseSels axis x else []
      else cs
    let s1 := (s.put (SP_ACNT_ACNT p) (alive % 15 + 1)).modPort p fun q =>
      { q with
        live := q.live || gateOp op
        cmds := if src = .engine then q.cmds ++ gateCmds members n payload else q.cmds
        flight := some ⟨src, axis, hdr, c0, bc, op, payload, alive, 0, !bc && s.pattern p c0⟩ }
    s1.send ⟨.port p, [b2n bc, cs.foldl (fun m c => m ||| 2 ^ c) 0, w], leBytes 5 w⟩

/-- Length of a RAW entry in sck (R204, R205): each word, the release of 1 sck after each with CONT 0, the turnaround of a read. -/
def rawSck (hdr : Nat) : Nat :=
  let nw := bitsOf hdr 26 22 + 1
  nw * (bitsOf hdr 21 16 + 1) + (if bitOf hdr 29 then 0 else nw) + (if bitsOf hdr 31 30 = 2 then 2 else 0)

/-- Words of a tenant-queue entry, header included (R204, R207). -/
def entryWords (hdr : Nat) : Nat :=
  match bitsOf hdr 31 30 with
  | 0 => 2
  | 3 => 1
  | _ => 1 + (bitsOf hdr 26 22 + 1) * (if bitsOf hdr 21 16 < 32 then 1 else 2)

/-- Is a tenant-queue entry invalid (R206, R207)? -/
def State.entryInvalid (s : State) (p : Fin 6) (hdr : Nat) (data : List Word) : Bool :=
  let kind := bitsOf hdr 31 30
  let d0 := (data.headD 0).toNat
  let (cs, bc) := s.selCodes p (bitsOf hdr 15 12) false
  kind == 3 || bitsOf hdr 11 8 != 0 || (kind == 0 && bitsOf d0 31 28 != 0) || (kind != 0 && decide (bitsOf hdr 21 16 < 7)) ||
  (s.dmode p && bc && !s.bcast7 p) || cs.isEmpty || (!(s.dmode p && bc) && cs.any fun c => !(s.fitted p).contains c) ||
  (kind != 0 && bc) || (kind == 0 && bc && !silentOp (bitsOf d0 27 24)) ||
  (kind == 0 && (if s.dmode p && bc then s.fitted p else cs).any fun c => !s.pattern p c)

/-- Send a RAW entry (R205): the words the port drives are put on the line, of a read the first alone. -/
def State.rawSend (s : State) (p : Fin 6) (hdr : Nat) (data : List Word) : State :=
  let c0 := (s.selCodes p (bitsOf hdr 15 12) false).1.headD 0
  let kind := bitsOf hdr 31 30
  let nw := bitsOf hdr 26 22 + 1
  (s.modPort p fun q => { q with
    flight := some ⟨.tenant, 0, hdr, c0, false, 0, 0, 0, if kind = 2 then nw - 1 else 0, false⟩
    rawBusy := (rawSck hdr + 85) / 86 - 1 }).send
      ⟨.port p, [2, c0, hdr], wordBytes (if kind = 2 then data.take (if bitsOf hdr 21 16 < 32 then 1 else 2) else data)⟩

/-- Words pushed into the tenant queue of port `p` on this edge: a slot boundary on it does not find them (R220). -/
def State.pushedNow (s : State) (p : Fin 6) : Nat := s.edge.marks.count (.pushed p)

/-- Take the head entry of the tenant queue if all its words are present (R203, R205, R207, R220); entries too long under LIVE complete
unsent, and the next follows. Whether the slot is taken: an invalid entry leaves it empty. `fuel` bounds the entries looked at: the
queue holds at most 256 words. -/
def State.tenantTake (p : Fin 6) : Nat → State → Bool × State
  | 0, s => (false, s)
  | fuel + 1, s =>
    let q := s.ports[p]
    match q.tenQ with
    | [] => (false, s)
    | h :: _ =>
      let hdr := h.toNat
      let n := entryWords hdr
      if q.tenQ.length < n + s.pushedNow p then (false, s)
      else
        let data := (q.tenQ.take n).drop 1
        let s1 := s.modPort p fun q => { q with tenQ := q.tenQ.drop n }
        let low := s.get (SP_CFG2_TQLOW p)
        let s2 := if low ≤ q.tenQ.length ∧ q.tenQ.length - n < low then s1.portEvt p 6 else s1
        let sel := (s.selCodes p (bitsOf hdr 15 12) false).1.headD 0
        if s.entryInvalid p hdr data then
          (true, (s2.record p [infoWord (2 ^ 16) sel (bitsOf hdr 31 30) hdr 0, 0]).portEvt p 7)
        else if bitsOf hdr 31 30 ≠ 0 then
          if q.live && decide (86 < rawSck hdr) then
            let s3 := s2.put (SP_ERR_TOOLONG p) 1
            State.tenantTake p fuel (if bitOf hdr 28 then s3.portEvt p 7 else s3)
          else (true, s2.rawSend p hdr data)
        else
          let (cs, bc) := s.selCodes p (bitsOf hdr 15 12) false
          let d0 := (data.headD 0).toNat
          (true, s2.jalzil p .tenant 0 hdr cs bc (bitsOf d0 27 24) (bitsOf d0 23 0))

/-- Discard engine entries whose slot has passed, each the drive fault SCHEDULE_OVERFLOW of its axis (R301); RSLOT counts modulo
1,024, and one less than 512 slots ahead is still to come (log entry 12). -/
def State.dropOverdue (p : Fin 6) (n : Nat) : Nat → State → State
  | 0, s => s
  | fuel + 1, s =>
    match s.ports[p].engQ with
    | e :: rest =>
      if (e.rslot + 1024 - n % 1024) % 1024 < 512 then s
      else State.dropOverdue p n fuel ((s.modPort p fun q => { q with engQ := rest }).engineFault e.axis 10)
    | [] => s

/-- The next filler code in ascending rotation (R305). -/
def State.nextFill (s : State) (p : Fin 6) : Option Nat :=
  let l := (s.fitted p).filter fun c => s.pattern p c
  match l.filter fun c => decide (s.ports[p].fill < c) with
  | c :: _ => some c
  | [] => l.head?

/-- The lowest axis whose publishes cover slot `n` and whose FILL is 1 (R305). -/
def State.fillAxis (s : State) (p : Fin 6) (n : Nat) : Option (Fin 8) :=
  (List.finRange 8).find? fun a => s.flag (ENG_CFG_FILL a) && decide (n < s.ports[p].cover[a])

/-- Send the next frame of an all-off sequence (R216). -/
def State.alloffSend (s : State) (p : Fin 6) (l : List Nat) : State :=
  match l with
  | [] => s
  | c :: rest =>
    let s1 := s.modPort p fun q => { q with alloff := some rest }
    if c = 8 then s1.jalzil p .alloff 0 0 (s.fitted p) true 0 0
    else s1.jalzil p .alloff 0 0 [c] false 0 0

/-- Codes of an all-off sequence: one broadcast, or each fitted code in ascending order (R216). -/
def State.alloffCodes (s : State) (p : Fin 6) : List Nat :=
  if s.dmode p && !s.bcast7 p then s.fitted p else [8]

/-- An underrun (R216): event and count, the drive fault of every axis served, and the all-off sequence. -/
def State.underrun (s : State) (p : Fin 6) : State :=
  let s1 := ((s.portEvt p 0).bump (SP_UNDER_COUNT p)).portFault p 7
  s1.alloffSend p (s.alloffCodes p)

/-- The next STATUS of step 5 of a takeover (R440). -/
def State.takeStatus (s : State) (p : Fin 6) : Option State :=
  match s.cp.take with
  | some tk => match tk.sts[p] with
    | c :: rest => some (((s.modCp fun z => { z with take := some { tk with sts := tk.sts.set p rest } })).jalzil p .copy 0 0 [c] false 5 0)
    | [] => none
  | none => none

/-- The tenant queue's part of a slot, and the filler's where it gives nothing: else an underrun while LIVE is set (R203, R216, R305). -/
def State.tenantSlot (s : State) (p : Fin 6) (n : Nat) : State :=
  let r := State.tenantTake p 257 s
  let s1 := r.2
  if r.1 then s1
  else match s1.fillAxis p n, s1.nextFill p with
    | some a, some c => (s1.modPort p fun q => { q with fill := c }).jalzil p .filler a 0 [c] false 5 0
    | _, _ => if s1.ports[p].live then s1.underrun p else s1

/-- A slot with nothing from the all-off sequence and no RAW entry still running takes the head entry of the engine queue, else of
the tenant queue, else a filler; else it is empty, and an underrun while LIVE is set (R203, R216, R301, R305). -/
def State.slotTake (s : State) (p : Fin 6) (n : Nat) : State :=
  let s1 := State.dropOverdue p n 32 s
  match s1.takeStatus p with
  | some t => t
  | none =>
  match s1.ports[p].engQ with
  | e :: rest =>
    if e.rslot = n % 1024 then
      let (cs, bc) := s1.selCodes p e.sel e.bcast
      (s1.modPort p fun q => { q with engQ := rest }).jalzil p .engine e.axis 0 cs bc e.opcode e.payload
    else s1.tenantSlot p n
  | [] => s1.tenantSlot p n

/-- Everything a port forgets when it leaves STREAM: what the engine has published and commanded. -/
def Port.quiet (q : Port) : Port :=
  { q with engQ := [], live := false, alloff := none, rawBusy := 0, cover := Vector.replicate 8 0, cmds := [],
           gates := Vector.replicate 8 0, mism := Vector.replicate 8 0 }

/-- The engine queue of a port is emptied: the gates of every axis with a phase on it are off (R214). -/
def State.levelsOffPort (s : State) (p : Fin 6) : State :=
  forFin 8 (fun a t => if (List.range 3).any (fun x => s.get (ENG_PH_PORT a x) == p.1) then t.levelsOff a else t) s

/-- The port goes OFF: SCLK stops, the lines return to the weak pull-up (R217, R430). -/
def State.portOff (s : State) (p : Fin 6) : State :=
  (s.modPort p fun q => { q.quiet with st := .off, haltDue := none, haltBy := 0, twelfth := false, offAtTwelfth := false,
                                       flight := none }).levelsOffPort p

/-- While the unit is parked a port goes OFF as R217 allows: once LIVE is clear, and a halting one after the twelfth edge (R465). -/
def State.parkPort (s : State) (p : Fin 6) : State :=
  let q := s.ports[p]
  if !s.parked || q.st == .off || q.live || !s.allSafe (s.axmap p) then s
  else if q.haltDue.isSome || (q.st == .halt && !q.twelfth) then s.modPort p fun x => { x with offAtTwelfth := true }
  else (s.cutFlight p []).portOff p

/-- The all-off sequence completes and LIVE clears (R215, R216). -/
def State.alloffDone (s : State) (p : Fin 6) : State := s.modPort p fun q => { q with alloff := none, live := false }

/-- SLOT_BOUNDARY (R190, R203). -/
def execSlotBoundary (p : Fin 6) (s : State) : Host.Outcome State Fault Refusal :=
  .next <|
    if !s.clocked || s.ports[p].st != .stream then s
    else
      let n := s.ports[p].slot
      if 0 < s.ports[p].rawBusy then s.modPort p fun q => { q with slot := n + 1, rawBusy := q.rawBusy - 1 }
      else
        let s1 := ((s.closeFlight p).modPort p fun q => { q with slot := n + 1 }).takeCheck
        match s1.ports[p].alloff with
        | some (c :: l) => s1.alloffSend p (c :: l)
        | l =>
          let s2 := (if l.isSome then s1.alloffDone p else s1).parkPort p
          if s2.ports[p].st == .off then s2 else s2.slotTake p n

/-- ALLOFF_SEQUENCE_COMPLETE: the last frame of the sequence has been sent (R215). -/
def execAlloffSequenceComplete (p : Fin 6) (s : State) : Host.Outcome State Fault Refusal :=
  .next <| if s.clocked && s.ports[p].alloff == some [] then (s.alloffDone p).parkPort p else s

/-! ### Queues (R202, R208) -/

/-- A push into the tenant queue by tenant `ten` (R25, R202): only its owner, and only while there is room; a port that is being reset
discards it (R220). -/
def State.pushTq (s : State) (p : Fin 6) (ten : Nat) (w : Word) : State :=
  if !s.hasPort p || s.ports[p].resetting || s.marked (.portReset p) then s
  else if ten ≠ s.get (SP_CFG2_TQOWNER p) ∨ 256 ≤ s.ports[p].tenQ.length then s.put (SP_ERR_PUSHREF p) 1
  else (s.modPort p fun q => { q with tenQ := q.tenQ ++ [w] }).mark (.pushed p)

/-- A read of SP_RX_POP: the word, 0 and POPEMPTY from an empty FIFO. -/
def State.popRx (s : State) (p : Fin 6) : Word × State :=
  match s.ports[p].rxQ with
  | w :: t => (w, s.modPort p fun q => { q with rxQ := t })
  | [] => (0, s.put (SP_ERR_POPEMPTY p) 1)

/-- TENANT_QUEUE_PUSH (R202). -/
def execTenantQueuePush (p : Fin 6) (ten : Fin 8) (w : Word) (s : State) : Host.Outcome State Fault Refusal :=
  .next <| s.whenUp fun t => t.pushTq p ten w

/-- RECEIVE_FIFO_POP (R208): the word read stands in `rdata`. -/
def execReceiveFifoPop (p : Fin 6) (s : State) : Host.Outcome State Fault Refusal :=
  .next <| s.whenHas (s.hasPort p) fun t => let (w, u) := t.popRx p; (u.setRdata w.toNat)

/-! ### Halts (R211 to R214) -/

/-- A halted port sends no further STATUS of a takeover: its satellites count as not answering (R441). -/
def State.dropStatus (s : State) (p : Fin 6) : State :=
  match s.cp.take with
  | some tk => ((s.modCp fun z => { z with take := some { tk with sts := tk.sts.set p [] } })).takeCheck
  | none => s

/-- Select codes a halt frame asserts (R211): the four selects of H mode, code 7 of D mode with BCAST, else every code of SELMAP in
ascending order, each for 12 sck. -/
def State.haltCodes (s : State) (p : Fin 6) : List Nat :=
  if !s.dmode p then [0, 1, 2, 3] else if s.flag (SP_CFG_BCAST p) then [7] else (List.range 8).filter fun c => bitOf (s.get (SP_CFG_SELMAP p)) c

/-- HALT_START (R211, R212): the frame in progress is cut with `bits` of it sampled (R209), the port enters HALT and sends its halt frame
(message kind 3), and the engine learns of an alert or of a halt that is no cut (R312). A halt that a port reset begins has no cause
code: what HALTCAUSE shows is a free value (log entry 4). -/
def execHaltStart (p : Fin 6) (bits : List Bool) (s : State) : Host.Outcome State Fault Refusal :=
  .next <|
    match s.ports[p].haltDue with
    | none => s
    | some c =>
      if !s.clocked || s.ports[p].st != .stream then s
      else
        let s1 := s.cutFlight p bits
        let by_ := s1.ports[p].haltBy
        let d := s1.draw 82
        let own : Bool := s1.ports[p].resetting
        let s2 := (if own then d.2 else s1).modPort p fun q =>
          { q.quiet with st := .halt, haltCause := if own then d.1 % 16 else c, haltDue := none, haltBy := 0, twelfth := false }
        let s3 := (((s2.send ⟨.port p, 3 :: s.haltCodes p, []⟩).portEvt p 2).levelsOffPort p).dropStatus p
        if own then s3
        else if c = 2 ∨ c = 3 then s3.portFault p 8
        else if c = 4 then s3.portFault p 11
        else if c = 5 then
          forFin 8 (fun a t => if bitOf (s.axmap p) a && !bitOf by_ a then t.engineFault a 11 else t) s3
        else s3

/-- The registers, queues and receive buffers of a port at reset (R92, R196). -/
def State.portClear (s : State) (p : Fin 6) : State :=
  let regs := [SP_CFG p, SP_CLK p, SP_BUSY p, SP_CFG2 p, SP_EVT p, SP_ACNT p, SP_CNT p, SP_CNT2 p, SP_UNDER p, SP_ERR p]
  (regs.foldl (fun t a => t.setReg a (resetWord a)) s).modPort p fun _ => {}

/-- HALT_FRAME_TWELFTH_EDGE (R211, R430): after a claim release or a port reset the port goes OFF; the pre-reset phase stops waiting
for it (R94). -/
def execHaltFrameTwelfthEdge (p : Fin 6) (s : State) : Host.Outcome State Fault Refusal :=
  .next <|
    if !s.clocked || s.ports[p].st != .halt then s
    else
      let s1 := (s.modSys fun z => { z with prePorts := s.sys.prePorts &&& (63 - 2 ^ p.1) })
      if s.ports[p].resetting then s1.portClear p
      else if s.ports[p].offAtTwelfth || s.parked then s1.portOff p
      else s1.modPort p fun q => { q with twelfth := true }

/-- Every cycle on slots of lead port `p` re-aligns to the first boundary (R286): the cycle count restarts. -/
def State.alignLead (s : State) (p : Fin 6) : State :=
  forFin 8 (fun a t => if t.get (ENG_CFG_LEAD a) = p.1 then (t.setReg (ENG_CYCCNT a) 0).restartCycles a else t) s

/-- The port goes from OFF to STREAM (R190, R196, R286). -/
def State.portStream (s : State) (p : Fin 6) : State :=
  ((s.put (SP_ACNT_ACNT p) 1).modPort p fun q => { q.quiet with st := .stream, slot := 0, grid := s.clk, flight := none }).alignLead p

/-- A paired port may not be enabled: without the claim (R424), before the ports were found quiet (R431), and during steps 1 to 5 of a
takeover, when the copy engine enables it (R447). -/
def State.pairBar (s : State) (p : Fin 6) : Bool :=
  bitOf s.bg.snap 7 && s.pairedPort p && (!s.cp.claim || !s.cp.found || s.cp.take.isSome)

/-- PORT_ENABLE (R190): from OFF to STREAM; discarded where a pair bars it, or the unit is parked (R465), and on a port the member lacks (R25,
R28). -/
def State.portEnable (s : State) (p : Fin 6) : State :=
  if !s.hasPort p || s.ports[p].st != .off then s else if s.pairBar p || s.parked then s.ctlRef p else s.portStream p

/-- PORT_DISABLE (R217). -/
def State.portDisable (s : State) (p : Fin 6) : State :=
  if s.ports[p].st == .off then s
  else if s.ports[p].live || !s.allSafe (s.axmap p) then s.ctlRef p
  else (s.cutFlight p []).portOff p

/-- PORT_RESUME (R214, R220): a halt frame lasts at least 12 rising edges (R211; log entry 72). -/
def State.portResume (s : State) (p : Fin 6) : State :=
  if s.ports[p].st != .halt || !s.ports[p].twelfth || !s.sys.haltN || !s.alertN p || !s.allSafe (s.axmap p) then s.ctlRef p
  else (s.modPort p fun q => { q with st := .stream, live := false, slot := 0, grid := s.clk, twelfth := false, haltDue := none }).alignLead p

/-- PORT_ENABLE. -/
def execPortEnable (p : Fin 6) (s : State) : Host.Outcome State Fault Refusal := .next <| s.whenHas (s.hasPort p) fun t => t.portEnable p
/-- PORT_DISABLE. -/
def execPortDisable (p : Fin 6) (s : State) : Host.Outcome State Fault Refusal := .next <| s.whenHas (s.hasPort p) fun t => t.portDisable p
/-- PORT_RESUME. -/
def execPortResume (p : Fin 6) (s : State) : Host.Outcome State Fault Refusal := .next <| s.whenHas (s.hasPort p) fun t => t.portResume p

/-- PORT_HALT_REQUEST: SP_CTRL.HALTREQ (R213). -/
def execPortHaltRequest (p : Fin 6) (s : State) : Host.Outcome State Fault Refusal := .next <| s.whenHas (s.hasPort p) fun t => t.haltPort p 4 0

/-- SP_CTRL.CLRREENT (R201). -/
def State.clrReent (s : State) (p : Fin 6) : State := s.modPort p fun q => { q with reent := 0 }

/-- CLEAR_REENTERED (R201). -/
def execClearReentered (p : Fin 6) (s : State) : Host.Outcome State Fault Refusal := .next <| s.whenHas (s.hasPort p) fun t => t.clrReent p

/-- The bits of a write of SP_CTRL act, each as its own request. -/
def State.writeSpCtrl (s : State) (p : Fin 6) (v : Nat) : State :=
  let s1 := if bitOf v 4 then s.clrReent p else s
  let s2 := if bitOf v 3 then s1.haltPort p 4 0 else s1
  let s3 := if bitOf v 2 then s2.portResume p else s2
  let s4 := if bitOf v 1 then s3.portDisable p else s3
  if bitOf v 0 then s4.portEnable p else s4

/-- HALT_N_FALL (R87, R212): every streaming port is asked to halt, and every axis out of SAFE enters Switch on disabled. -/
def execHaltNFall (s : State) : Host.Outcome State Fault Refusal :=
  .next <|
    if !s.clocked then s
    else
      -- a cut during a takeover makes every axis cold (R447)
      let s1 := ((s.modSys fun z => { z with haltN := false, ss1 := false }).modCp fun z => { z with take := s.cp.take.map fun tk => { tk with warm := 0 } })
      (forFin 6 (fun p t => t.haltPort p 1 0) s1).cutAxes

/-- SP_ALERT_N_FALL (R212): the event, and by ALERTACT a halt of this port, or of every port that shares an axis with it. -/
def execSpAlertNFall (p : Fin 6) (s : State) : Host.Outcome State Fault Refusal :=
  .next <| s.whenHas (s.hasPort p) fun t =>
    let t1 := t.portEvt p 1
    match t.get (SP_CFG_ALERTACT p) with
    | 1 => t1.haltPort p 2 0
    | 2 => forFin 6 (fun q u => if q = p then u else if (t.axmap q &&& t.axmap p) != 0 then u.haltPort q 3 0 else u) (t1.haltPort p 2 0)
    | _ => t1

end Sys2Proof.Machine
end

