-- ==== Sys2Proof/Machine/Feedback.lean ====
section
/-! DEFINITION. Position and speed feedback (11_lynx_feedback.md): incremental channels, Hall sets, SSI channels, the tap to the
safety supervisor, loss of feedback and the capture FIFO. -/

namespace Sys2Proof.Machine

/-- CLKS edges per second. -/
def clkHz : Nat := 250000000

/-! ### Channel codes (R319, R320) -/

/-- Change incremental channel `n`. -/
def State.modInc (s : State) (n : Fin 8) (f : Enc → Enc) : State := (s.modFb fun z => { z with inc := upd s.fb.inc n f })
/-- Change Hall set `h`. -/
def State.modHall (s : State) (h : Fin 8) (f : Enc → Enc) : State := (s.modFb fun z => { z with hall := upd s.fb.hall h f })
/-- Change SSI channel `i`. -/
def State.modSsi (s : State) (i : Fin 4) (f : Ssi → Ssi) : State := (s.modFb fun z => { z with ssi := upd s.fb.ssi i f })

/-- A channel is in use: an axis whose ENG_FB.SRC names it is out of SAFE (R319). -/
def State.chanUsed (s : State) (c : Nat) : Bool := (List.finRange 8).any fun a => s.get (ENG_FB_SRC a) == c && !s.isSafe a

/-- The member has the channel with code `c` (R25, R319). -/
def State.hasChan (s : State) (c : Nat) : Bool :=
  if h : c < 8 then s.hasInc ⟨c, h⟩
  else if h : 0x10 ≤ c ∧ c < 0x18 then s.hasHall ⟨c - 0x10, by omega⟩
  else if h : 0x20 ≤ c ∧ c < 0x24 then s.hasSsi ⟨c - 0x20, by omega⟩ else false

/-- A discarded write (R320, R336, R348): FB_STAT.CFGREF. -/
def State.fbRef (s : State) : State := s.put FB_STAT_CFGREF 1


/-- W1C flags of a channel as one field, for its sources. -/
def incFlags (n : Nat) : Fld := ⟨INC_STAT n, 3, 0⟩
def hallFlags (h : Nat) : Fld := ⟨HALL_STAT h, 1, 0⟩
def ssiFlags (i : Nat) : Fld := ⟨SSI_STAT i, 1, 0⟩

/-! ### Capture FIFO (R351) -/

/-- Write a record of four words for an event of the named channel, or drop it whole. -/
def State.capture (s : State) (code kind info pos ts : Nat) : State :=
  if !s.flag FB_CAPCFG_EN || s.get FB_CAPCFG_CODE != code then s
  else if 256 < s.fb.capQ.length + 4 then s.bump FB_STAT_CAPDROP
  else (s.modFb fun z => { z with capQ := s.fb.capQ ++ [BitVec.ofNat 32 (kind * 2 ^ 24 + code * 2 ^ 16 + info % 2 ^ 16),
    BitVec.ofNat 32 pos, BitVec.ofNat 32 ts, BitVec.ofNat 32 (ts / 2 ^ 32)] })

/-- A read of FB_CAPPOP: the word, 0 when empty. -/
def State.popCap (s : State) : Word × State :=
  match s.fb.capQ with
  | w :: t => (w, (s.modFb fun z => { z with capQ := t }))
  | [] => (0, s)

/-! ### Loss of feedback (R348, R349) -/

/-- A channel sets LOSS and reports FEEDBACK_LOST to every running axis that uses it (R349). -/
def State.chanLose (s : State) (c : Nat) : State :=
  if s.chanLoss c then s
  else
    let s1 := if c < 8 then (s.put (INC_STAT_LOSS c) 1).putOr FB_LOSS_INC (2 ^ c)
      else if 0x10 ≤ c ∧ c < 0x18 then (s.put (HALL_STAT_LOSS (c - 0x10)) 1).putOr FB_LOSS_HALL (2 ^ (c - 0x10))
      else if 0x20 ≤ c ∧ c < 0x24 then (s.put (SSI_STAT_LOSS (c - 0x20)) 1).putOr FB_LOSS_SSI (2 ^ (c - 0x20)) else s
    forFin 8 (fun a t => if t.get (ENG_FB_SRC a) == c && !t.isSafe a then t.engineFault a 12 else t) s1

/-- ILLIM illegal changes within the last 10 ms (R348). -/
def illBurst (now lim : Nat) (l : List Nat) : Bool :=
  decide (0 < lim) && decide (lim ≤ (l.filter fun t => decide (now < t + 2500000)).length)

/-- A LOSS condition of the incremental channel holds (R348). -/
def State.incLost (s : State) (n : Fin 8) : Bool :=
  let wf := s.get (INC_STAT_WFLIVE n)
  bitOf wf 0 || bitOf wf 1 || (bitOf wf 2 && s.get (INC_CFG_POLICY n) == 3) ||
  illBurst s.clk (s.get (INC_CFG_ILLIM n)) s.fb.inc[n].ill || s.flag (INC_IDXSTAT_LOCKED n)

/-- A LOSS condition of the Hall set holds (R348). -/
def State.hallLost (s : State) (h : Fin 8) : Bool :=
  s.get (HALL_STAT_WFLIVE h) != 0 || s.fb.hall[h].invHeld || illBurst s.clk (s.get (HALL_CFG_ILLIM h)) s.fb.hall[h].ill

/-- A LOSS condition of the SSI channel holds (R348). -/
def State.ssiLost (s : State) (i : Fin 4) : Bool := decide (s.get (SSI_CFG2_ERRLIM i) ≤ s.fb.ssi[i].fails)

/-- LOSS of an enabled SSI channel follows its condition. -/
def State.judgeSsi (s : State) (i : Fin 4) : State :=
  if s.flag (SSI_CFG_EN i) && s.ssiLost i then s.chanLose (0x20 + i) else s
/-- LOSS of an enabled incremental channel follows its conditions. -/
def State.judgeInc (s : State) (n : Fin 8) : State := if s.flag (INC_CFG_EN n) && s.incLost n then s.chanLose n else s
/-- LOSS of an enabled Hall set follows its conditions. -/
def State.judgeHall (s : State) (h : Fin 8) : State :=
  if s.flag (HALL_CFG_EN h) && s.hallLost h then s.chanLose (0x10 + h) else s

/-! ### Speed estimates (R334 to R337, R340, R344) -/

/-- Period mode: |f| in Hz as a fraction, from the timestamps since the last reversal, averaging over `m` edges (R334). -/
def periodFreq (now m : Nat) : List Nat → Nat × Nat
  | [] => (0, 1)
  | t0 :: rest =>
    let k := min m rest.length
    if k = 0 then (0, 1)
    else
      let d := t0 - rest.getD (k - 1) 0
      if d < k * (now - t0) then (clkHz, now - t0) else (k * clkHz, d)

/-- Edges averaged over (INC_SPDCFG2.PMAVG). -/
def State.pmavg (s : State) (n : Nat) : Nat := 2 ^ s.get (INC_SPDCFG2_PMAVG n)

/-- Estimate of an incremental channel in Hz, signed. -/
def State.incFreq (s : State) (n : Fin 8) : Int × Nat :=
  let e := s.fb.inc[n]
  if s.flag (INC_STAT_STILL n) then (0, 1)
  else if s.flag (INC_STAT_MODE n) then (e.estN, e.estD)
  else
    let f := periodFreq s.clk (s.pmavg n) e.hist
    (if s.flag (INC_STAT_DIR n) then -(f.1 : Int) else f.1, f.2)

/-- Estimate of a Hall set in transitions per second, signed: period mode with M fixed at 6 (R340). -/
def State.hallFreq (s : State) (h : Fin 8) : Int × Nat :=
  if s.flag (HALL_STAT_STILL h) then (0, 1)
  else
    let f := periodFreq s.clk 6 s.fb.hall[h].hist
    (if s.flag (HALL_STAT_DIR h) then -(f.1 : Int) else f.1, f.2)

/-- INC_FREQ and HALL_FREQ: Hz in 1/16. -/
def freqReg (f : Int × Nat) : Int := roundDiv 14 (f.1 * 16) f.2

/-- f × 60 ÷ `cpr` in 1/65,536 min⁻¹. -/
def speedReg (f : Int × Nat) (cpr : Nat) : Int := roundDiv 15 (f.1 * 60 * 65536) (f.2 * cpr)

/-- INC_SPD (R337). -/
def State.incSpd (s : State) (n : Fin 8) : Int := speedReg (s.incFreq n) (s.get (INC_CPR_CPR n))
/-- HALL_SPD (R340). -/
def State.hallSpd (s : State) (h : Fin 8) : Int := speedReg (s.hallFreq h) (6 * s.get (HALL_CFG_PP h))

/-- Speed of the channel with code `c`, in 1/65,536 min⁻¹ (R337, R340, R344). -/
def State.chanSpeed (s : State) (c : Nat) : Int :=
  if h : c < 8 then s.incSpd ⟨c, h⟩
  else if h : 0x10 ≤ c ∧ c < 0x18 then s.hallSpd ⟨c - 0x10, by omega⟩
  else if 0x20 ≤ c ∧ c < 0x24 then s.sget (SSI_SPD_V (c - 0x20)) else 0

/-! ### Angles (R327, R339, R344) -/

/-- Counts of an incremental channel within the revolution. -/
def State.incPos (s : State) (n : Nat) : Nat :=
  (((s.get (INC_CNT_V n) : Int) - s.get (INC_REF_V n)) % (s.get (INC_CPR_CPR n) : Int)).toNat

/-- INC_ANG (R327). -/
def State.incAngle (s : State) (n : Nat) : Nat := s.incPos n * 65536 / s.get (INC_CPR_CPR n)

/-- The angle the engine samples: with EXTRAP carried forward in the direction of the last edge by at most 1 count (R327). -/
def State.incSampled (s : State) (n : Fin 8) : Int :=
  if !s.flag (INC_CFG_EXTRAP n) then (s.incAngle n : Int)
  else
    let f := s.incFreq n
    let dt := s.clk - s.fb.inc[n].hist.headD s.clk
    let d := f.2 * clkHz
    let c := min (f.1.natAbs * dt) d
    let p : Int := (s.incPos n * d : Nat) + (if s.flag (INC_STAT_DIR n) then -(c : Int) else c)
    roundDiv 16 (p * 65536) (d * s.get (INC_CPR_CPR n))

/-- Sector of a Hall state (R338); none when invalid. -/
def hallSector (v : Nat) : Option Nat :=
  match v with
  | 5 => some 0 | 4 => some 1 | 6 => some 2 | 2 => some 3 | 3 => some 4 | 1 => some 5 | _ => none

/-- HALL_ANG (R339): 0, its reset value, until a valid state has been seen. -/
def State.hallAngle (s : State) (h : Fin 8) : Int :=
  let e := s.fb.hall[h]
  let pp := s.get (HALL_CFG_PP h)
  let rev := ((s.sget (HALL_CNT_V h)) / 6 % (pp : Int)).toNat
  match e.sector with
  | none => 0
  | some k =>
    if !s.flag (HALL_CFG_INTERP h) || s.flag (HALL_STAT_STILL h) then
      roundDiv 17 (((2 * k + 1 + 12 * rev) * 65536 : Nat) : Int) (12 * pp)
    else
      let f := s.hallFreq h
      let d := f.2 * clkHz
      let c := min (f.1.natAbs * (s.clk - e.hist.headD s.clk)) d
      let p := if e.forward then k * d + c else (k + 1) * d - c
      roundDiv 17 (((p + 6 * rev * d) * 65536 : Nat) : Int) (6 * d * pp)

/-- SSI_ANG (R344): the low STBITS of the position scaled to a turn. -/
def State.ssiAngle (s : State) (i : Nat) : Int :=
  let m := 2 ^ s.get (SSI_CFG_STBITS i)
  roundDiv 18 (((s.reg (SSI_POS i)).toNat % m * 65536 : Nat) : Int) m

/-- The mechanical angle an engine samples from the channel with code `c` (R295, R327). -/
def State.chanAngle (s : State) (c : Nat) : Int :=
  if h : c < 8 then s.incSampled ⟨c, h⟩
  else if h : 0x10 ≤ c ∧ c < 0x18 then s.hallAngle ⟨c - 0x10, by omega⟩
  else if 0x20 ≤ c ∧ c < 0x24 then s.ssiAngle (c - 0x20) else 0

/-! ### Incremental channels (R323, R326) -/

/-- The channel changes its method: INC_STAT.MODE, its bit in FB_SPDSW and E077 (R336). -/
def State.speedMode (s : State) (n : Fin 8) (count : Bool) : State :=
  ((s.put (INC_STAT_MODE n) (b2n count)).putOr FB_SPDSW_V (2 ^ n.1)).strobe 77

/-- FB_TIME of the edge that first registered a transition accepted by a filter of `filt` clk and processed `lat` clk later (R321 to
R323). -/
def State.registered (s : State) (filt lat : Nat) : Nat := s.clk - (filt + lat)

/-- A step was counted, its transition registered at `ts`: direction, timestamp, estimate, and the change to count mode (R323, R334,
R336). -/
def State.incStep (s : State) (n : Fin 8) (up : Bool) (ts : Nat) : State :=
  let e := s.fb.inc[n]
  let old := s.flag (INC_STAT_DIR n)
  let hist := if old = !up then (ts :: e.hist).take 9 else [ts]
  let cnt := (s.get (INC_CNT_V n) + (if up then 1 else 2 ^ 32 - 1)) % 2 ^ 32
  let s1 := (((s.put (INC_CNT_V n) cnt).put (INC_STAT_DIR n) (b2n (!up))).put (INC_STAT_STILL n) 0).setReg64 (INC_TS n 0) ts
  let s2 := (s1.modInc n fun x => { x with hist := hist, cntE := cnt, winHad := true }).mark (.counted n up)
  let f := periodFreq s.clk (s.pmavg n) hist
  if !s.flag (INC_STAT_MODE n) && decide (s.get (INC_SPDCFG_FUP n) * 64 * f.2 < f.1) then
    (s2.modInc n fun x => { x with winT := ts, winC := cnt, winHad := false,
                                   estN := if up then f.1 else -(f.1 : Int), estD := f.2 }).speedMode n true
  else s2

/-- Position of the levels in the counting-up sequence, A leading B (log entry 15). -/
def quad (v : Nat) : Nat := match v with | 0 => 0 | 1 => 1 | 3 => 2 | _ => 3

/-- The level behind the filter: `x` once it has been registered on FILT + 1 consecutive edges, else the old one; a level held shorter
is discarded without trace (R321). -/
def filtered (x : HeldLevel) (filt : Nat) (old : Bool) : Bool := if x.held ≤ filt then old else x.level

/-- INC_AB_EDGE: levels at A and B, each behind its filter; the counter takes the step FILT + 5 clk after the first edge of a new
level (R321, R323, R326). -/
def execIncAbEdge (n : Fin 8) (a b : HeldLevel) (s : State) : Host.Outcome State Fault Refusal :=
  .next <| s.whenHas (s.hasInc n) fun t =>
    let old := t.fb.inc[n].lv
    let filt := t.get (INC_CFG_FILT n)
    let new := b2n (filtered a filt (bitOf old 0)) + 2 * b2n (filtered b filt (bitOf old 1))
    let t1 := t.modInc n fun x => { x with lv := new }
    if !t.flag (INC_CFG_EN n) || old == new then t1
    else
      let d := (quad new + 4 - quad old) % 4
      let ts := t.registered filt 5
      if d = 2 then
        let t2 := (t1.modInc n fun x => { x with ill := (t.clk :: x.ill).take 255 }).bump (INC_ERRCNT_ILLCNT n)
        ((t2.raise (incFlags n) 1 (evInc n)).capture n 2 0 (t.get (INC_CNT_V n)) ts).judgeInc n
      else t1.incStep n ((d == 1) != t.flag (INC_CFG_INV n)) ts

/-! ### The index (R328 to R333) -/

/-- EMCY 0xFF5A once per channel until CLRIDX (R333). -/
def State.indexEmcy (s : State) (n : Fin 8) (kind : Nat) : State :=
  if s.fb.inc[n].emcySent then s else (s.modInc n fun x => { x with emcySent := true }).emcy 0xFF5A [n, kind, 0, 0, 0]

/-- The deviation is flagged: INDEXDEV, its source and DEVN (R330). -/
def State.indexDev (s : State) (n : Fin 8) : State := (s.raise (incFlags n) 3 (evInc n)).bump (INC_IDXSTAT_DEVN n)

/-- The policy acts on deviation `d`; `ill`: ILLEGAL was set on the same sample (R330, R331). -/
def State.indexPolicy (s : State) (n : Fin 8) (d : Int) (ill : Bool) : State :=
  let tol := s.get (INC_IDXLIM_TOL n)
  let step := s.get (INC_IDXLIM_MAXSTEP n)
  if d.natAbs ≤ tol then s
  else
    let s1 := s.indexDev n
    match s.get (INC_CFG_POLICY n) with
    | 1 => s1.indexEmcy n 1
    | 2 =>
      if step < d.natAbs then (s1.put (INC_IDXSTAT_OVERSTEP n) 1).indexEmcy n 2
      else if ill then s1.indexEmcy n 1
      else
        let c := toCode 32 ((s.get (INC_CNT_V n) : Int) - d)
        (((s1.put (INC_CNT_V n) c).put (INC_CORRSUM_V n) (toCode 32 (s.sget (INC_CORRSUM_V n) - d))).bump
          (INC_IDXSTAT_CORRN n)).put (INC_IDXSTAT_CORR n) 1
    | 3 => ((s1.put (INC_IDXSTAT_LOCKED n) 1).indexEmcy n 3).judgeInc n
    | _ => s

/-- An index point, its transition registered at `ts` (R329, R331, R332); referencing armed on this very edge waits for the next one
(R350). -/
def State.indexPoint (s : State) (n : Fin 8) (ill : Bool) (ts : Nat) : State :=
  let c := s.get (INC_CNT_V n)
  let cpr := s.get (INC_CPR_CPR n)
  let m := s.incPos n
  let d : Int := if 2 * m < cpr then (m : Int) else (m : Int) - cpr
  let off := s.get (INC_CFG_POLICY n) == 0
  let s1 := ((s.put (INC_IDXCNT_V n) c).setReg64 (INC_IDXTS n 0) ts).bump (INC_IDXSTAT_IDXN n)
  let s2 := ((s1.put (INC_IDXSTAT_CORR n) 0).put (INC_IDXSTAT_OVERSTEP n) 0).put (INC_IDXSTAT_ILLIDX n) (b2n ill)
  let s3 := s2.raise (incFlags n) 2 (evInc n)
  let armed := s.fb.inc[n].armRef && !s.marked (.armed n)
  let s4 := if armed then
      ((((s3.put (INC_REF_V n) (c % cpr)).put (INC_IDXDEV_V n) 0).put (INC_IDXSTAT_REFSET n) 1).modInc n
        fun x => { x with armRef := false })
    else if off then s3 else (s3.put (INC_IDXDEV_V n) (toCode 32 d)).indexPolicy n d ill
  s4.capture n 1 (if armed then 0 else toCode 16 d) (s4.get (INC_CNT_V n)) ts

/-- INDEX_POINT: a new level of Z behind its filter (R321), after the A/B step of its sample; `ill`: that sample was illegal. It is an
index point by R328: rising while counting up, falling while counting down, gated by ZGATE, none while WFLIVE stands for Z. -/
def execIndexPoint (n : Fin 8) (z : HeldLevel) (ill : Bool) (s : State) : Host.Outcome State Fault Refusal :=
  .next <| s.whenHas (s.hasInc n) fun t =>
    if z.held ≤ t.get (INC_CFG_FILT n) || !t.flag (INC_CFG_EN n) || bitOf (t.get (INC_STAT_WFLIVE n)) 2 || (z.level == t.flag (INC_STAT_DIR n)) ||
        (t.flag (INC_CFG_ZGATE n) && t.fb.inc[n].lv != 3) then t
    else t.indexPoint n ill (t.registered (t.get (INC_CFG_FILT n)) 5)

/-! ### Wire checks (R325) -/

/-- WIRE_FAULT_DETECT: pair `k` of the channel with code `c` has not been complementary for FILT + 17 edges. -/
def execWireFaultDetect (c : BitVec 8) (k : Fin 3) (s : State) : Host.Outcome State Fault Refusal :=
  .next <| s.whenUp fun t =>
    let v := c.toNat
    if h : v < 8 then
      let n : Fin 8 := ⟨v, h⟩
      if !t.hasInc n || !t.flag (INC_CFG_EN n) || bitOf (t.get (INC_STAT_WFLIVE n)) k then t
      else
        let t1 := ((t.putOr (INC_STAT_WFLIVE n) (2 ^ k.1)).raise (incFlags n) 0 (evInc n)).bump (INC_ERRCNT_WFCNT n)
        (t1.capture v 3 k (t.get (INC_CNT_V n)) t.clk).judgeInc n
    else if h : 0x10 ≤ v ∧ v < 0x18 then
      let n : Fin 8 := ⟨v - 0x10, by omega⟩
      if !t.hasHall n || !t.flag (HALL_CFG_EN n) || bitOf (t.get (HALL_STAT_WFLIVE n)) k then t
      else
        let t1 := ((t.putOr (HALL_STAT_WFLIVE n) (2 ^ k.1)).raise (hallFlags n) 0 (evHall n)).bump (HALL_ERRCNT_WFCNT n)
        (t1.capture v 3 k (t.get (HALL_CNT_V n)) t.clk).judgeHall n
    else t

/-- WIRE_FAULT_CLEAR: the pair has been complementary again for FILT + 17 edges. -/
def execWireFaultClear (c : BitVec 8) (k : Fin 3) (s : State) : Host.Outcome State Fault Refusal :=
  .next <| s.whenHas (s.hasChan c.toNat) fun t =>
    let v := c.toNat
    if v < 8 then t.put (INC_STAT_WFLIVE v) (t.get (INC_STAT_WFLIVE v) &&& (7 - 2 ^ k.1))
    else if 0x10 ≤ v ∧ v < 0x18 then t.put (HALL_STAT_WFLIVE (v - 0x10)) (t.get (HALL_STAT_WFLIVE (v - 0x10)) &&& (7 - 2 ^ k.1))
    else t

/-! ### Estimator timeouts and windows (R334 to R336, R344) -/

/-- SPEED_STOP_TIMEOUT: TSTOP ms without an edge, or without a good SSI read. -/
def execSpeedStopTimeout (c : BitVec 8) (s : State) : Host.Outcome State Fault Refusal :=
  .next <| s.whenHas (s.hasChan c.toNat) fun t =>
    let v := c.toNat
    if v < 8 then t.put (INC_STAT_STILL v) 1
    else if 0x10 ≤ v ∧ v < 0x18 then t.put (HALL_STAT_STILL (v - 0x10)) 1
    else if 0x20 ≤ v ∧ v < 0x24 then t.put (SSI_SPD_V (v - 0x20)) 0 else t

/-- COUNT_WINDOW_END: the estimate of the window, from the counts and timestamps of its first and last edge; below FDN, or with no edge,
back to period mode (R335, R336). -/
def execCountWindowEnd (n : Fin 8) (s : State) : Host.Outcome State Fault Refusal :=
  .next <| s.whenHas (s.hasInc n) fun t =>
    if !t.flag (INC_STAT_MODE n) then t
    else
      let e := t.fb.inc[n]
      let te := e.hist.headD t.clk
      if !e.winHad then t.speedMode n false
      else
        let num : Int := sgn 32 (toCode 32 ((e.cntE : Int) - e.winC)) * clkHz
        let den := te - e.winT
        let t1 := t.modInc n fun x => { x with estN := num, estD := den, winT := te, winC := e.cntE, winHad := false }
        if num.natAbs < t.get (INC_SPDCFG_FDN n) * 64 * den then t1.speedMode n false else t1

/-! ### Hall sets (R338, R348) -/

/-- An illegal Hall change registered at `ts`: ILLEGAL, its count and source. -/
def State.hallIllegal (s : State) (h : Fin 8) (ts : Nat) : State :=
  let s1 := (s.modHall h fun x => { x with ill := (s.clk :: x.ill).take 255 }).bump (HALL_ERRCNT_ILLCNT h)
  ((s1.raise (hallFlags h) 1 (evHall h)).capture (0x10 + h) 2 0 (s.get (HALL_CNT_V h)) ts).judgeHall h

/-- HALL_TRANSITION: the lines have read a state on consecutive edges, FILT + 1 of which the filter needs (R321, R338). The
first sample after reset, with the lines where they were, shows their state and sector and counts nothing. -/
def execHallTransition (h : Fin 8) (v : HeldHall) (s : State) : Host.Outcome State Fault Refusal :=
  .next <| s.whenHas (s.hasHall h) fun t =>
    let old := t.fb.hall[h].lv
    let x := old ^^^ v.state.1
    let sec := hallSector v.state
    let shown := (t.put (HALL_STATE_UVW h) v.state).put (HALL_STATE_SECTOR h) (sec.getD 7)
    let seen : State → State := fun u => if sec.isSome then u.modHall h fun e => { e with sector := sec } else u
    let t1 := shown.modHall h fun e => { e with lv := v.state, invHeld := false }
    let filt := t.get (HALL_CFG_FILT h)
    let ts := t.registered filt 0
    if v.held ≤ filt then t
    else if old == v.state.1 then seen shown
    else if !t.flag (HALL_CFG_EN h) then seen t1
    else
      match sec with
      | none => t1.hallIllegal h ts
      | some k =>
        if x ≠ 1 ∧ x ≠ 2 ∧ x ≠ 4 then t1.hallIllegal h ts
        else match hallSector old with
          -- out of state 0 or 7 the sector before is unknown: the angle is set and nothing is counted
          | none => seen t1
          | some k0 =>
            let fwd := (k + 6 - k0) % 6 == 1
            let up := fwd != t.flag (HALL_CFG_INV h)
            let hist := if t.flag (HALL_STAT_DIR h) = !up then (ts :: t.fb.hall[h].hist).take 9 else [ts]
            ((((t1.put (HALL_CNT_V h) (t.get (HALL_CNT_V h) + (if up then 1 else 2 ^ 32 - 1))).put (HALL_STAT_DIR h) (b2n (!up))).put
              (HALL_STAT_STILL h) 0).setReg64 (HALL_TS h 0) ts).modHall h
              fun e => { e with hist := hist, sector := some k, forward := fwd }

/-- HALL_INVALID_TIMEOUT: a state of 0 or 7 has been held for 1 ms (R348). -/
def execHallInvalidTimeout (h : Fin 8) (s : State) : Host.Outcome State Fault Refusal :=
  .next <| s.whenUp fun t =>
    if !t.hasHall h || (hallSector t.fb.hall[h].lv).isSome then t else (t.modHall h fun e => { e with invHeld := true }).judgeHall h

/-! ### SSI channels (R341 to R344) -/

/-- A read fails with a cause (R342): counted, recorded, and LOSS after ERRLIM in a row (R348). -/
def State.ssiFail (s : State) (i : Fin 4) (cause ts : Nat) : State :=
  let s1 := ((s.put (SSI_STAT_INREAD i) 0).put (SSI_STAT_CAUSE i) cause).bump (SSI_CNT_ERRCNT i)
  let s2 := (s1.modSsi i fun x => { x with fails := satInc 255 x.fails }).raise (ssiFlags i) 0 (evSsi i)
  let s3 := s2.capture (0x20 + i) 4 cause (s.reg (SSI_POS i)).toNat ts
  if s3.ssiLost i then s3.chanLose (0x20 + i) else s3

/-- A read starts: BUSY when DAT is not high (R341), skipped while one is in progress (R343); none without the claim (R424). -/
def State.ssiStart (s : State) (i : Fin 4) (dat : Bool) : State :=
  if !s.hasSsi i || !s.flag (SSI_CFG_EN i) || s.unclaimed then s
  else if s.flag (SSI_STAT_INREAD i) then s.bump (SSI_CNT_SKIP i)
  else if !dat then s.ssiFail i 1 s.clk
  else (s.put (SSI_STAT_INREAD i) 1).modSsi i fun x => { x with start := s.clk }

/-- SSI_READ_START: the trigger of R343; `dat`: DAT is high. -/
def execSsiReadStart (i : Fin 4) (dat : Bool) (s : State) : Host.Outcome State Fault Refusal := .next <| s.whenUp fun t => t.ssiStart i dat

/-- SSI_READ_COMMAND: SSI_CTRL.READ starts a read when TRIG is 0 and none is in progress. -/
def execSsiReadCommand (i : Fin 4) (dat : Bool) (s : State) : Host.Outcome State Fault Refusal :=
  .next <| s.whenUp fun t => if t.flag (SSI_CFG_TRIG i) || t.flag (SSI_STAT_INREAD i) then t else t.ssiStart i dat

/-- Binary value of an `n`-bit Gray code. -/
def grayDecode (n v : Nat) : Nat := ((List.range n).foldl (fun (acc : Nat × Nat) k =>
  let b := (acc.1 + b2n (bitOf v (n - 1 - k))) % 2
  (b, acc.2 * 2 + b)) (0, 0)).2

/-- `d` modulo 2 ^ n in the signed range. -/
def wrapDiff (n : Nat) (d : Int) : Int := sgn n (toCode n d)

/-- A read that passed R341 is checked and stored (R342, R344); `v` holds its NBITS bits, the first bit highest. -/
def State.ssiCheck (s : State) (i : Fin 4) (v : Nat) : State :=
  let nb := s.get (SSI_CFG_NBITS1 i) + 1
  let par := s.get (SSI_CFG_PAR i)
  let p := if par = 0 then 0 else 1
  let e := b2n (s.flag (SSI_CFG_ERRBIT i))
  let pb := nb - e - p
  let ones := ((List.range nb).filter fun k => bitOf v k).length
  let ts := s.fb.ssi[i].start
  let raw := v / 2 ^ (e + p) % 2 ^ pb
  let pos := if s.flag (SSI_CFG_GRAY i) then grayDecode pb raw else raw
  let old := (s.reg (SSI_POS i)).toNat
  let d := wrapDiff pb ((pos : Int) - old)
  let lim := (s.reg (SSI_MAXSTEP i)).toNat
  if (par = 1 ∧ ones % 2 = 1) ∨ (par = 2 ∧ ones % 2 = 0) then s.ssiFail i 4 ts
  else if e = 1 ∧ bitOf v p then s.ssiFail i 5 ts
  else if s.fb.ssi[i].good ∧ lim ≠ 0 ∧ lim < d.natAbs then s.ssiFail i 6 ts
  else
    let dt := ts - s.reg64 (SSI_TS i 0)
    let spd := roundDiv 19 (d * 60 * clkHz * 65536) (2 ^ s.get (SSI_CFG_STBITS i) * dt)
    let s1 := ((s.put (SSI_STAT_INREAD i) 0).setReg (SSI_POS i) (BitVec.ofNat 32 pos)).setReg64 (SSI_TS i 0) ts
    let s2 := if s.fb.ssi[i].good then s1.put (SSI_SPD_V i) (toCode 32 spd) else s1
    (s2.modSsi i fun x => { x with fails := 0, good := true }).raise (ssiFlags i) 1 (evSsi i)

/-- SSI_READ_COMPLETE: the frame `v`; `eof`: DAT was low one clock period later; `mono`: DAT returned high within TMON (R341). -/
def execSsiReadComplete (i : Fin 4) (v : Nat) (eof mono : Bool) (s : State) : Host.Outcome State Fault Refusal :=
  .next <| s.whenUp fun t =>
    let ts := t.fb.ssi[i].start
    if !t.flag (SSI_STAT_INREAD i) then t
    else if !eof then t.ssiFail i 2 ts
    else if !mono then t.ssiFail i 3 ts
    else t.ssiCheck i v

/-! ### The tap to the safety supervisor (R345 to R347) -/

/-- Tap `k` of the set in force: enabled, and its source (FB_TAPx). -/
def State.tapEn (s : State) (k : Fin 2) : Bool := s.scs (4 + 4 * k.1) 3 3 0 == 1
def State.tapSrc (s : State) (k : Fin 2) : Nat := s.scs (4 + 4 * k.1) 15 8 0

/-- |f| of a tapped source in whole Hz, limited to 2^24 − 1 (R346). -/
def State.tapHz (s : State) (c : Nat) : Nat :=
  let f := if h : c < 8 then s.incFreq ⟨c, h⟩ else if h : 0x10 ≤ c ∧ c < 0x18 then s.hallFreq ⟨c - 0x10, by omega⟩ else (0, 1)
  min (f.1.natAbs / f.2) (2 ^ 24 - 1)

/-- TAP_SPEED_SEND: the exchange of 1 ms: the estimate is sent, and the supervisor's own frequency compared (R346, R347). -/
def execTapSpeedSend (k : Fin 2) (s : State) : Host.Outcome State Fault Refusal :=
  .next <| s.whenUp fun t =>
    if !t.tapEn k || !t.bg.powered then t
    else
      let src := t.tapSrc k
      let en := t.chanEn src
      let hz := if en then t.tapHz src else 0
      let t1 := (t.put (FB_TAPF_HZ k) hz).put (FB_TAP_NOEST k) (b2n (!en))
      let t2 := t1.modBg fun b => { b with sls := upd b.sls k fun x => { x with sent := (hz :: x.sent).take 2 } }
      let w := t.get FB_TAPWARN_HZ
      let differ := w != 0 && decide (w < ((hz : Int) - t.bg.sls[k].own).natAbs)
      let m := if differ then t.fb.tapMis[k] + 1 else 0
      let t3 := (t2.modFb fun z => { z with tapMis := t2.fb.tapMis.set k (if m = 4 then 0 else m) })
      if m = 4 then (t3.put (FB_TAP_WARN k) 1).strobe 76 else t3

/-! ### Commands of a channel's CTRL register -/

/-- INC_CTRL.ARMREF (R332, R350). -/
def State.armReference (s : State) (n : Fin 8) : State := (s.modInc n fun x => { x with armRef := true }).mark (.armed n)

/-- CLRLOSS of the channel with code `c`: idle and with no condition holding, else discarded with CFGREF (R348). -/
def State.clearLoss (s : State) (c : Nat) : State :=
  if s.chanUsed c then s.fbRef
  else if h : c < 8 then
    if s.incLost ⟨c, h⟩ then s.fbRef else (s.put (INC_STAT_LOSS c) 0).put FB_LOSS_INC (s.get FB_LOSS_INC &&& (255 - 2 ^ c))
  else if h : 0x10 ≤ c ∧ c < 0x18 then
    if s.hallLost ⟨c - 0x10, by omega⟩ then s.fbRef
    else (s.put (HALL_STAT_LOSS (c - 0x10)) 0).put FB_LOSS_HALL (s.get FB_LOSS_HALL &&& (255 - 2 ^ (c - 0x10)))
  else if h : 0x20 ≤ c ∧ c < 0x24 then
    if s.ssiLost ⟨c - 0x20, by omega⟩ then s.fbRef
    else (s.put (SSI_STAT_LOSS (c - 0x20)) 0).put FB_LOSS_SSI (s.get FB_LOSS_SSI &&& (15 - 2 ^ (c - 0x20)))
  else s

/-- INC_CTRL.CLRLOCK, idle only (R320, R330). -/
def State.clearLock (s : State) (n : Fin 8) : State := if s.chanUsed n then s.fbRef else s.put (INC_IDXSTAT_LOCKED n) 0

/-- CLRERR of the channel with code `c`. -/
def State.clearErr (s : State) (c : Nat) : State :=
  if c < 8 then s.setReg (INC_ERRCNT c) 0
  else if 0x10 ≤ c ∧ c < 0x18 then s.setReg (HALL_ERRCNT (c - 0x10)) 0
  else if 0x20 ≤ c ∧ c < 0x24 then s.setReg (SSI_CNT (c - 0x20)) 0 else s

/-- INC_CTRL.CLRIDX: the index counters, CORRSUM and the flags but LOCKED; the EMCY is sent again (R333). -/
def State.clearIndex (s : State) (n : Fin 8) : State :=
  (((s.setReg (INC_IDXSTAT n) 0).put (INC_IDXSTAT_LOCKED n) (s.get (INC_IDXSTAT_LOCKED n))).setReg (INC_CORRSUM n) 0).modInc n
    fun x => { x with emcySent := false }

/-- ARM_REFERENCE. -/
def execArmReference (n : Fin 8) (s : State) : Host.Outcome State Fault Refusal := .next <| s.whenHas (s.hasInc n) fun t => t.armReference n
/-- CLEAR_LOSS. -/
def execClearLoss (c : BitVec 8) (s : State) : Host.Outcome State Fault Refusal := .next <| s.whenHas (s.hasChan c.toNat) fun t => t.clearLoss c.toNat
/-- CLEAR_LOCK. -/
def execClearLock (n : Fin 8) (s : State) : Host.Outcome State Fault Refusal := .next <| s.whenHas (s.hasInc n) fun t => t.clearLock n
/-- CLEAR_ERROR_COUNT. -/
def execClearErrorCount (c : BitVec 8) (s : State) : Host.Outcome State Fault Refusal := .next <| s.whenHas (s.hasChan c.toNat) fun t => t.clearErr c.toNat
/-- CLEAR_INDEX_RECORD. -/
def execClearIndexRecord (n : Fin 8) (s : State) : Host.Outcome State Fault Refusal := .next <| s.whenHas (s.hasInc n) fun t => t.clearIndex n
/-- FB_CAPTURE_POP: the word read stands in `rdata`. -/
def execFbCapturePop (s : State) : Host.Outcome State Fault Refusal :=
  .next <| s.whenUp fun t => let (w, u) := t.popCap; (u.setRdata w.toNat)

end Sys2Proof.Machine
end

