-- ==== Sys2Proof/Machine/Sequencer.lean ====
section
/-! DEFINITION. The commands of the mode sequencer (03_operating_modes.md) and of the enable sequence (R81, R308, R356). -/

namespace Sys2Proof.Machine

/-! ### The enable sequence and standstill -/

/-- Step 3 of a takeover enable (R442): speed modes ramp from the measured speed, TORQUE and TENSION take the rising clamp; an axis
in Quick stop active goes on with its quick stop; the torque gap is recorded (R443). -/
def State.warmStep3 (s : State) (a : Fin 8) : State :=
  let x := s.axes[a]
  let s1 := s.modAxis a fun y => { y with step := 3, lifting := false, warm := false, spdRef := s.spdNow a, tqRef := 0 }
  let s2 := match s.cp.gap[a] with
    | some t => (s1.put (CP_GAP_V a) ((s.clk - t) * 4 / 1000))
    | none => s1
  let s3 := (s2.modCp fun z => { z with gap := s2.cp.gap.set a none })
  if x.st == .quickStop then s3.quickStop a 0
  else if x.code = 2 ∨ x.code = 4 then s3.modAxis a fun y => { y with clampFrom := some s.clk }
  else s3.beginRamp a .speed .enabled 1

/-- Step 3 of the enable sequence (R81): the reference ramp of R80 begins, in EMERGENCY as the command 0x04 (R75); a halt bit that is
set acts (R70, R77), and a pending EMERGENCY takes its own ramp (R83). -/
def State.enableStep3 (s : State) (a : Fin 8) : State :=
  let x := s.axes[a]
  if x.warm then s.warmStep3 a
  else
  let s1 := s.modAxis a fun y => { y with step := 3, lifting := false, spdRef := s.spdNow a, tqRef := 0 }
  if x.pendEmg then s1.beginRamp a .pendEmg x.st 4
  else
    let s2 := s1.beginRamp a (if x.code = 2 ∨ x.code = 4 then .torque else .speed) .enabled (if x.code = 5 then 4 else 1)
    if s2.axes[a].code = 0 ∨ x.code = 5 then s2 else s2.haltBit a 0 (s.get (AX_CW_CW a))

/-- Step 2 of the enable sequence (R356): the axis commands release; skipped without a brake, and by a takeover of an axis with
BRKHOLD whose BRK_FB reads lifted (R442). -/
def State.enableStep2 (s : State) (a : Fin 8) : State :=
  if !s.flag (BRK_CFG_EN a) || (s.axes[a].warm && bitOf (s.get CP_AX_BRKHOLD) a && s.flag (BRK_STAT_FB a)) then s.enableStep3 a
  else
    let s1 := (s.modAxis a fun y => { y with step := 2, lifting := false }).brakeCmd a true
    if s.flag (BRK_CFG_FBEN a) && s.flag (BRK_STAT_FB a) then s1.modAxis a fun y => { y with lifting := true } else s1

/-- PRECHARGE_END: the pre-charge time of step 1 ends (R308, R81). -/
def execPrechargeEnd (a : Fin 8) (s : State) : Host.Outcome State Fault Refusal :=
  .next <| s.whenHas (s.hasAxis a) fun t =>
    let x := t.axes[a]
    if x.code != 0 && x.step == 1 then (t.put (ENG_STAT_PRECHG a) 0).enableStep2 a else t

/-- BRAKE_LIFT_WAIT_END: T_LIFT ends; with FBEN set it began when BRK_FB read lifted, with FBEN clear when T_REL ended (R356). -/
def execBrakeLiftWaitEnd (a : Fin 8) (s : State) : Host.Outcome State Fault Refusal :=
  .next <| s.whenHas (s.hasAxis a) fun t =>
    let x := t.axes[a]
    if x.code != 0 && x.step == 2 && (x.lifting || !t.flag (BRK_CFG_FBEN a)) then t.enableStep3 a else t

/-- STANDSTILL_REACHED: the 20 ms of R79, begun on a filter-output edge with the speed below 0.5 %, end. -/
def execStandstillReached (a : Fin 8) (s : State) : Host.Outcome State Fault Refusal :=
  .next <| s.whenHas (s.hasAxis a) fun t =>
    let x := t.axes[a]
    if x.stillFrom.isNone then t else (t.modAxis a fun y => { y with still := true }).stopDone a

/-! ### Controlword commands: a write of AX_CW by source `src` (0 tenant, 1 PDO engine) with a value that spells the command -/

/-- The write of AX_CW when the value spells the command; else nothing. -/
def State.cwWhen (s : State) (p : Bool) (a : Fin 8) (src : Bool) (v : BitVec 16) : State :=
  s.whenHas (s.hasAxis a) fun t => if p then t.writeCw a (b2n src) v.toNat else t

/-- CW_SHUTDOWN (R77, option code 0x605B). -/
def execCwShutdown (a : Fin 8) (src : Bool) (v : BitVec 16) (s : State) : Host.Outcome State Fault Refusal :=
  .next <| s.cwWhen (cwCmd v.toNat == .shutdown) a src v

/-- CW_SWITCH_ON (R77): the value of "switch on", given outside Operation enabled. -/
def execCwSwitchOn (a : Fin 8) (src : Bool) (v : BitVec 16) (s : State) : Host.Outcome State Fault Refusal :=
  .next <| s.cwWhen (cwCmd v.toNat == .switchOn && s.axes[a].st != .enabled) a src v

/-- CW_ENABLE_OPERATION (R77, R81, R307). -/
def execCwEnableOperation (a : Fin 8) (src : Bool) (v : BitVec 16) (s : State) : Host.Outcome State Fault Refusal :=
  .next <| s.cwWhen (cwCmd v.toNat == .enableOp) a src v

/-- CW_DISABLE_OPERATION (R80, option code 0x605C): the value of "switch on", given in Operation enabled. -/
def execCwDisableOperation (a : Fin 8) (src : Bool) (v : BitVec 16) (s : State) : Host.Outcome State Fault Refusal :=
  .next <| s.cwWhen (cwCmd v.toNat == .switchOn && s.axes[a].st == .enabled) a src v

/-- CW_DISABLE_VOLTAGE (R77). -/
def execCwDisableVoltage (a : Fin 8) (src : Bool) (v : BitVec 16) (s : State) : Host.Outcome State Fault Refusal :=
  .next <| s.cwWhen (cwCmd v.toNat == .disableVoltage) a src v

/-- CW_QUICK_STOP (R80, option code 0x605A). -/
def execCwQuickStop (a : Fin 8) (src : Bool) (v : BitVec 16) (s : State) : Host.Outcome State Fault Refusal :=
  .next <| s.cwWhen (cwCmd v.toNat == .quickStop) a src v

/-- CW_HALT (R77): the halt bit rises. -/
def execCwHalt (a : Fin 8) (src : Bool) (v : BitVec 16) (s : State) : Host.Outcome State Fault Refusal :=
  .next <| s.cwWhen (bitOf v.toNat 8 && !bitOf (s.get (AX_CW_CW a)) 8) a src v

/-- CW_FAULT_RESET (R77, R89): bit 7 rises. -/
def execCwFaultReset (a : Fin 8) (src : Bool) (v : BitVec 16) (s : State) : Host.Outcome State Fault Refusal :=
  .next <| s.cwWhen (bitOf v.toNat 7 && !bitOf (s.get (AX_CW_CW a)) 7) a src v

/-! ### Other writes of the axis -/

/-- MODE_SELECT_WRITE (R68, R77). -/
def execModeSelectWrite (a : Fin 8) (code : BitVec 8) (s : State) : Host.Outcome State Fault Refusal :=
  .next <| s.whenHas (s.hasAxis a) fun t => t.writeMode a code.toNat

/-- CWSRC_WRITE (R71). -/
def execCwsrcWrite (a : Fin 8) (pdo : Bool) (s : State) : Host.Outcome State Fault Refusal :=
  .next <| s.whenHas (s.hasAxis a) fun t => t.writeCwsrc a (b2n pdo)

/-- AX_INIT_WRITE (R90). -/
def execAxInitWrite (a : Fin 8) (v : Bool) (s : State) : Host.Outcome State Fault Refusal :=
  .next <| s.whenHas (s.hasAxis a) fun t => t.writeInit a v

/-- EMERGENCY_REQUEST_ON (R83). -/
def execEmergencyRequestOn (a : Fin 8) (s : State) : Host.Outcome State Fault Refusal :=
  .next <| s.whenHas (s.hasAxis a) fun t => t.emgOn a

/-- EMERGENCY_REQUEST_OFF (R85). -/
def execEmergencyRequestOff (a : Fin 8) (s : State) : Host.Outcome State Fault Refusal :=
  .next <| s.whenHas (s.hasAxis a) fun t => t.emgOff a

end Sys2Proof.Machine
end

