-- ==== Sys2Proof/Machine/Winch.lean ====
section
/-! DEFINITION. Analog inputs, brakes, tension, drum speed, emergency inputs and emergency release (12_winch_thruster_lamps.md,
R353 to R374). -/

namespace Sys2Proof.Machine

/-! ### Drum speed (R365) -/

/-- Channel the drum speed of an axis is taken from. -/
def State.drumChannel (s : State) (a : Fin 8) : Nat :=
  if s.get (WN_DRUM_DRUMSRC a) = 0xFF then s.get (ENG_FB_SRC a) else s.get (WN_DRUM_DRUMSRC a)

/-- n_D is usable: its channel has LOSS clear (R365). -/
def State.drumUsable (s : State) (a : Fin 8) : Bool := !s.chanLoss (s.drumChannel a)

/-- n_D as a fraction in min^-1 (R365). -/
def State.drumSpeed (s : State) (a : Fin 8) : Int × Nat :=
  if s.get (WN_DRUM_DRUMSRC a) = 0xFF then (s.sget (ENG_SPD_V a) * 256, 65536 * s.get (WN_GEAR_GEAR a))
  else (s.chanSpeed (s.get (WN_DRUM_DRUMSRC a)), 65536)

/-- |n_D| > `lim` min^-1. -/
def State.drumAbove (s : State) (a : Fin 8) (lim : Nat) : Bool :=
  decide (lim * (s.drumSpeed a).2 < (s.drumSpeed a).1.natAbs)

/-- WN_STAT.ND as read. -/
def State.drumShown (s : State) (a : Fin 8) : Nat := toCode 16 (roundDiv 10 (s.drumSpeed a).1 (s.drumSpeed a).2)

/-- DRUM_OVERSPEED_DETECT: |n_D| > DOS on two ticks of an axis out of SAFE is the drive fault DRUM_OVERSPEED (R366). -/
def execDrumOverspeedDetect (a : Fin 8) (s : State) : Host.Outcome State Fault Refusal :=
  .next <| s.whenUp fun t =>
    if t.isSafe a || t.get (WN_DRUM_DOS a) == 0 || !t.drumUsable a || !t.drumAbove a (t.get (WN_DRUM_DOS a)) then t
    else t.winchFault a 4

/-! ### Analog inputs (R353, R354) -/

/-- Axis an input serves. -/
def State.ainAxis (s : State) (i : Nat) : Fin 8 := ⟨s.get (AIN_CFG_AXIS i) % 8, Nat.mod_lt _ (by decide)⟩

/-- Role output of a current of `ua` microamperes (R354). -/
def State.ainOutput (s : State) (i : Nat) (ua : Int) : Int :=
  let k : Int := (s.get (AIN_CFG_SPAN i) : Nat)
  match s.get (AIN_CFG_ROLE i) with
  | 1 =>
    let d := ua - 12000
    if (d.natAbs : Int) ≤ k then 0
    else
      let m := roundDiv 11 ((d.natAbs - k) * 32767) (8000 - k).toNat
      let p := clampInt (-32767) 32767 (if d < 0 then -m else m)
      if s.flag (AIN_CFG_INV i) then -p else p
  | 2 => max 0 ((ua - 4000) * k / 16000)
  | _ => 0

/-- Sign of the speed of an axis in the haul-in direction, 0 below 0.5 % of 0x6080 (R361). -/
def State.haulSign (s : State) (a : Fin 8) : Int :=
  let v := s.sget (ENG_SPD_V a)
  if v.natAbs * 200 < s.eng[a].maxSpeed * 65536 then 0
  else if (0 < v) = !s.flag (TN_CFG_INV a) then 1 else -1

/-- Word `i` of the live tension group. -/
def State.tn (s : State) (a : Fin 8) (i hi lo : Nat) : Nat := fieldOf (s.tension[a].live.getD i 0) hi lo

/-- The tension estimate (R361). -/
def State.tensionEst (s : State) (a : Fin 8) : Nat :=
  let act := s.sget (ENG_TDEM_ACT a)
  let tau := if s.flag (TN_CFG_INV a) then -act else act
  (max 0 (roundDiv 12 ((tau - s.tn a 4 15 0 * s.haulSign a) * s.tn a 4 31 16) 100)).toNat

/-- The measured tension by TN_CFG (R361); none when the load cell has RANGE set or is not assigned and FALLBK is clear. -/
def State.tensionNow (s : State) (a : Fin 8) : Option Nat :=
  if s.flag (TN_CFG_SRC a) then some (s.tensionEst a)
  else match s.ainOf a 2 with
    | some i => some (s.reg (AIN_OUT i)).toNat
    | none => if s.flag (TN_CFG_FALLBK a) then some (s.tensionEst a) else none

/-- TN_MEAS and ESTUSED follow the measurement; in TENSION a lost one is the drive fault TENSION_LOST (R361). -/
def State.tensionUpdate (s : State) (a : Fin 8) : State :=
  let s1 := s.put (WN_STAT_ESTUSED a) (b2n (!s.flag (TN_CFG_SRC a) && (s.ainOf a 2).isNone && s.flag (TN_CFG_FALLBK a)))
  match s.tensionNow a with
  | some t => s1.put (TN_MEAS_TM a) (min t 65535)
  | none => if s.axes[a].code = 4 then s1.winchFault a 2 else s1

/-- AIN_WINDOW: the ten samples of a tick window, in microamperes, of sum `sum` (R353). -/
def execAinWindow (i : Fin 8) (sum : Nat) (s : State) : Host.Outcome State Fault Refusal :=
  .next <| s.whenUp fun t =>
    if !t.flag (AIN_CFG_EN i) then t
    else
      let out := decide (sum < 36000) || decide (210000 < sum)
      let ua := (roundDiv 13 sum 10).toNat
      let t1 := (t.put (AIN_VAL_UA i) (min ua 65535))
      let t2 := (t1.modLio fun z => { z with ains := upd t1.lio.ains i fun x =>
        if out then { bad := satInc 10 x.bad, good := 0 } else { bad := 0, good := satInc 10 x.good } })
      let x : Ain := t2.lio.ains[i]
      let was := t.flag (AIN_STAT_RANGE i)
      let range := if x.bad = 10 then true else if x.good = 10 then false else was
      let t3 := (t2.put (AIN_STAT_RANGE i) (b2n range)).put (AIN_STAT_VALID i) (b2n !range)
      let t4 := if range && !was then (t3.raise ⟨LIO_EVT, 4, 0⟩ 3 88).emcy 0xFF72 [i, 0, 0, 0, 0] else t3
      let t5 := if range then t4 else t4.setReg (AIN_OUT i) (BitVec.ofInt 32 (t.ainOutput i ua))
      if t.get (AIN_CFG_ROLE i) = 2 then t5.tensionUpdate (t.ainAxis i) else t5

/-- SLACK_LINE_DETECT: TSLK × 10 ms of tension below SLACK, or at or above it, end (R367). -/
def execSlackLineDetect (a : Fin 8) (s : State) : Host.Outcome State Fault Refusal :=
  .next <| s.whenUp fun t =>
    match t.tensionNow a with
    | none => t
    | some m =>
      if t.isSafe a then t
      else if m < t.get (WN_SLACK_SLACK a) then
        if t.flag (WN_STAT_SLACK a) then t
        else
          let t1 := t.put (WN_STAT_SLACK a) 1
          if t.get (WN_SLACK_SLREACT a) = 2 then t1.winchFault a 3 else t1.emcy 0xFF75 [a, 1, 0, 0, 0]
      else t.put (WN_STAT_SLACK a) 0

/-! ### Brakes (R356, R359, R360) -/

/-- LIO_EVT bit `b` with the axis in BRKAX. -/
def State.brakeEvt (s : State) (a : Fin 8) (b : Nat) : State := (s.putOr LIO_EVT_BRKAX (2 ^ a.1)).raise ⟨LIO_EVT, 4, 0⟩ b 88

/-- The T_REL or T_SET of the last change of the output is over, or the feedback has followed it. -/
def State.brakeSettled (s : State) (a : Fin 8) : State :=
  (s.modLio fun z => { z with brkWait := s.lio.brkWait &&& ~~~BitVec.ofNat 8 (2 ^ a.1) })

/-- BRAKE_RELEASE_TIMEOUT: T_REL ends. In step 2 of the enable sequence: with FBEN clear the lift wait begins; with FBEN set and
BRK_FB not lifted, BRKTO and the drive fault BRAKE_NOT_RELEASED (R356). Elsewhere out of SAFE, with FBEN set and the output low, the
drive fault, whatever holds the output low (R360). -/
def execBrakeReleaseTimeout (a : Fin 8) (s : State) : Host.Outcome State Fault Refusal :=
  .next <| s.whenHas (s.hasAxis a) fun t =>
    let x := t.axes[a]
    let fben := t.flag (BRK_CFG_FBEN a)
    let t1 := t.brakeSettled a
    if t.isSafe a then t1
    else if t.flag (BRK_CFG_EN a) && x.step == 2 && !x.lifting then
      if !fben then t1.modAxis a fun y => { y with lifting := true }
      else if t.flag (BRK_STAT_FB a) then t1 else (t1.brakeEvt a 1).winchFault a 1
    else if fben && t.flag (BRK_STAT_OUT a) && !t.flag (BRK_STAT_FB a) then t1.winchFault a 1 else t1

/-- BRAKE_SET_TIMEOUT: BRK_FB has not read set T_SET after the output went high (R359). -/
def execBrakeSetTimeout (a : Fin 8) (s : State) : Host.Outcome State Fault Refusal :=
  .next <| s.whenUp fun t =>
    let t1 := t.brakeSettled a
    if t.flag (BRK_CFG_FBEN a) && !t.flag (BRK_STAT_OUT a) && t.flag (BRK_STAT_FB a) && !t.flag (BRK_STAT_NOTSET a) then
      ((t1.put (BRK_STAT_NOTSET a) 1).brakeEvt a 1).emcy 0xFF71 [a, 0, 0, 0, 0]
    else t1

/-- BRK_FB_CHANGE: the filtered BRK_FB of an axis changes; the supervisor reads the same line (R46). A change that no change of
the output explains within T_REL or T_SET sets BRKFB (R360); in step 2 a lifted brake starts T_LIFT (R356). -/
def execBrkFbChange (a : Fin 8) (lifted : Bool) (s : State) : Host.Outcome State Fault Refusal :=
  .next <| if !s.hasAxis a then s else
    let m : BitVec 8 := BitVec.ofNat 8 (2 ^ a.1)
    let s0 := s.modBg fun b => if b.powered then { b with brkFb := if lifted then b.brkFb ||| m else b.brkFb &&& ~~~m } else b
    s0.whenUp fun t =>
      if t.flag (BRK_STAT_FB a) = lifted then t
      else
        let explained := t.lio.brkWait.getLsbD a.1 && t.flag (BRK_STAT_OUT a) == lifted
        let t1 := t.put (BRK_STAT_FB a) (b2n lifted)
        let t2 := if explained then t1.brakeSettled a
          else if t.flag (BRK_CFG_FBEN a) then t1.brakeEvt a 0 else t1
        if lifted && t.flag (BRK_CFG_FBEN a) && t.axes[a].step == 2 then t2.modAxis a fun y => { y with lifting := true } else t2

/-! ### Emergency request (R368) -/

/-- Is a DRIVEN act on axis `a` under way (R372)? -/
def State.drivenOn (s : State) (a : Fin 8) : Bool :=
  (List.range 4).any fun k => s.lio.driven.getLsbD k && s.get (ERL_CFG_AXIS k) == a.1

/-- The emergency request of an axis follows its input and its DRIVEN acts (R368). -/
def State.emgFollow (s : State) (a : Fin 8) : State := s.setEmg a (bitOf (s.get EMG_LVL_EMG) a || s.drivenOn a)

/-- EMG_INPUT_CHANGE: the filtered EMG input of an axis changes. -/
def execEmgInputChange (a : Fin 8) (level : Bool) (s : State) : Host.Outcome State Fault Refusal :=
  .next <| s.whenHas (s.hasAxis a) fun t =>
    let old := t.get EMG_LVL_EMG
    let m := 2 ^ a.1
    (t.put EMG_LVL_EMG (if level then old ||| m else old &&& (255 - m))).emgFollow a

/-! ### Emergency release (R371 to R373) -/

/-- Axis of release `k`. -/
def State.erlAxis (s : State) (k : Nat) : Fin 8 := ⟨s.get (ERL_CFG_AXIS k) % 8, Nat.mod_lt _ (by decide)⟩

/-- First condition of R373 that does not hold: its reason, 0 when all hold. -/
def State.freeReason (s : State) (k : Nat) : Nat :=
  let a := s.erlAxis k
  if !s.bg.permit then 2
  else if !s.isSafe a then 3
  else if s.speedClass = 0 then 4
  else if !s.drumUsable a then 5
  else if s.get (ERL_GOV_GOV k) = 0 then 6 else 0

/-- Set or clear bit `k` of a field. -/
def State.putBit (s : State) (f : Fld) (k : Nat) (v : Bool) : State :=
  s.put f (if v then s.get f ||| 2 ^ k else s.get f &&& (2 ^ f.width - 1 - 2 ^ k))

/-- A FREE release starts, or is refused with EMCY 0xFF78 (R373). -/
def State.freeStart (s : State) (k : Fin 4) : State :=
  let a := s.erlAxis k
  let r := s.freeReason k
  if r ≠ 0 then s.emcy 0xFF78 [k, r, a, 0, 0]
  else ((((s.modLio fun z => { z with govTicks := s.lio.govTicks.set k.1 0 k.2 })).putBit EMG_LVL_FREE k true).put
    (BRK_STAT_GOVSET a) 0).brakes

/-- A FREE release ends with the brake commanded set (R372, R373). -/
def State.freeEnd (s : State) (k : Fin 4) : State := ((s.putBit EMG_LVL_FREE k false).put (BRK_STAT_GOVSET (s.erlAxis k)) 0).brakes

/-- Set or clear the DRIVEN act of release `k`. -/
def State.setDriven (s : State) (k : Fin 4) (v : Bool) : State :=
  let m : BitVec 4 := BitVec.ofNat 4 (2 ^ k.1)
  (s.modLio fun z => { z with driven := if v then s.lio.driven ||| m else s.lio.driven &&& ~~~m })

/-- The DRIVEN act begins: the emergency request rises; with FORM 2, a refusal with reason 0x24 continues as FREE (R372). -/
def State.drivenStart (s : State) (k : Fin 4) : State :=
  let a := s.erlAxis k
  let s1 := ((s.modAxis a fun x => { x with refusedNow := false }).setDriven k true).emgFollow a
  if s.get (ERL_CFG_FORM k) = 2 ∧ s1.axes[a].refusedNow ∧ s1.get (AX_REFUSE_REASON a) = 0x24 then
    ((s1.setDriven k false).emgFollow a).freeStart k
  else s1

/-- ERL_ACT_START: a press of `pressed` ms on both channels after `released` ms of release on both (R371). -/
def execErlActStart (k : Fin 4) (pressed released : Nat) (s : State) : Host.Outcome State Fault Refusal :=
  .next <| s.whenUp fun t =>
    if !t.flag (ERL_CFG_EN k) || bitOf (t.get EMG_LVL_ACT) k || decide (pressed < 500) || decide (released < 1000) then t
    else
      let a := t.erlAxis k
      let t1 := t.putBit EMG_LVL_VOID k false
      if t.get (ERL_CFG_FORM k) = 1 then
        if t.freeReason k ≠ 0 then t1.freeStart k
        else ((t1.putBit EMG_LVL_ACT k true).emcy 0xFF77 [k, 1, a, 0, 0]).freeStart k
      else ((t1.putBit EMG_LVL_ACT k true).emcy 0xFF77 [k, 1, a, 0, 0]).drivenStart k

/-- An act ends: a DRIVEN request falls (R85), a FREE release ends with the brake set, EMCY 0xFF77 (R372). -/
def State.actEnd (s : State) (k : Fin 4) : State :=
  let a := s.erlAxis k
  if !bitOf (s.get EMG_LVL_ACT) k then s
  else
    let s1 := (s.putBit EMG_LVL_ACT k false).emcy 0xFF77 [k, 2, a, 0, 0]
    let s2 := if bitOf (s.get EMG_LVL_FREE) k then s1.freeEnd k else s1
    if s.lio.driven.getLsbD k then (s2.setDriven k false).emgFollow a else s2

/-- ERL_ACT_END: the button is released. -/
def execErlActEnd (k : Fin 4) (s : State) : Host.Outcome State Fault Refusal := .next <| s.whenUp fun t => t.actEnd k

/-- ERL_ACT_VOID: the channels have disagreed for more than 100 ms (R371). -/
def execErlActVoid (k : Fin 4) (s : State) : Host.Outcome State Fault Refusal :=
  .next <| s.whenUp fun t =>
    if !t.flag (ERL_CFG_EN k) then t
    else ((t.putBit EMG_LVL_VOID k true).emcy 0xFF78 [k, 1, t.erlAxis k, 0, 0]).actEnd k

/-- ERL_GOVERNOR_TICK: each tick the governor of an acting FREE release judges n_D; a failed condition ends the release (R373). -/
def execErlGovernorTick (k : Fin 4) (s : State) : Host.Outcome State Fault Refusal :=
  .next <| s.whenUp fun t =>
    let a := t.erlAxis k
    let gov := t.get (ERL_GOV_GOV k)
    let n := t.drumSpeed a
    let ticks := t.lio.govTicks[k]
    let setTicks (v : Nat) (u : State) : State := (u.modLio fun z => { z with govTicks := u.lio.govTicks.set k.1 v k.2 })
    if !bitOf (t.get EMG_LVL_FREE) k then t
    else if t.freeReason k ≠ 0 then t.freeEnd k
    else if gov * n.2 ≤ n.1.natAbs then
      if t.flag (BRK_STAT_GOVSET a) then setTicks (satInc 200 ticks) t
      else (setTicks 0 (t.put (BRK_STAT_GOVSET a) 1)).brakes
    else if t.flag (BRK_STAT_GOVSET a) then
      if 199 ≤ ticks && decide (4 * n.1.natAbs < 3 * gov * n.2) then (t.put (BRK_STAT_GOVSET a) 0).brakes
      else setTicks (satInc 200 ticks) t
    else t

end Sys2Proof.Machine
end

