-- ==== Sys2Proof/Machine/Engine.lean ====
section
/-! DEFINITION. The current-loop engines and the modulator block (10_current_loop.md): the control cycle, the sample, the ramps and
control laws, the transition instants, the send slots and the publication. -/

namespace Sys2Proof.Machine

/-! ### The control cycle (R286 to R291) -/

/-- Lead port of an axis. -/
def State.lead (s : State) (a : Fin 8) : Fin 6 := ⟨s.get (ENG_CFG_LEAD a) % 6, Nat.mod_lt _ (by decide)⟩

/-- Length of a cycle in ns: a slot is 43 × N clk (R285). -/
def State.cycleNs (s : State) (a : Fin 8) : Nat := s.get (ENG_CFG_CYC a) * 172 * s.portN (s.lead a)

/-- Filter output ready, in clk from the cycle boundary (R291). -/
def State.readyClk (s : State) (a : Fin 8) : Nat := s.get (MOD_AX_SOFS a) * s.get (MOD_AX_MDIV a) + 4

/-- CONTROL_CYCLE_START: the next cycle begins, numbered 0 after an alignment (R286); given before the SLOT_BOUNDARY of the same
edge (log entry 16). -/
def execControlCycleStart (a : Fin 8) (s : State) : Host.Outcome State Fault Refusal :=
  .next <| s.whenUp fun t =>
    if t.get (AX_CTRL_INIT a) = 0 then t
    else
      let e := t.eng[a]
      let num := if e.restart then 0 else (t.get (ENG_CYCCNT_V a) + 1) % 2 ^ 32
      let first := if e.restart then t.ports[t.lead a].slot else e.first + e.cyc
      ((t.modEng a fun e => { e with restart := false, sampled := false, first := first, cyc := t.get (ENG_CFG_CYC a) }).put
        (ENG_CYCCNT_V a) num).put (ENG_STAT_HALF a) (if t.flag (ENG_CFG_DOUBLE a) then num % 2 else 0)

/-! ### Modulator channels (R290, R292) -/

/-- Enabled channels of an axis with a role, or with any. -/
def State.axisChannels (s : State) (a : Nat) : List Nat :=
  (List.range s.nMod).filter fun c => s.flag (MOD_CFG_EN c) && s.get (MOD_CFG_AXIS c) == a

/-- A sample of a channel of the captured axis enters the capture FIFO where there is room (MOD_CAPCFG). -/
def State.modCapture (s : State) (c : Nat) (w : Int) : State :=
  if s.flag MOD_CAPCFG_EN && s.get MOD_CAPCFG_AXIS == s.get (MOD_CFG_AXIS c) && decide (s.modCap.length < 256) then
    s.setModCap (s.modCap ++ [BitVec.ofNat 32 (c * 2 ^ 26 + toCode 16 w)])
  else s

/-- A filter output of channel `c`: OVR beyond 15/16 of full scale, the scaled value (free where it leaves the 16-bit format),
and the capture FIFO, which keeps its words when full (R290, R292, MOD_CAPCFG; log entry 18). -/
def State.modSample (s : State) (c : Nat) (raw : Int) : State :=
  let s1 := if 15 * 32767 < 16 * raw.natAbs then (s.put (MOD_STAT_OVR c) 1).strobe (evMod c) else s
  let v := roundDiv 23 (s.sget (MOD_CAL_GAIN c) * (raw - s.sget (MOD_CAL_OFFSET c))) 16384
  let (w, s2) := if -32768 ≤ v ∧ v ≤ 32767 then (v, s1) else s1.drawInt 24
  (s2.sput (MOD_VAL_VAL c) w).modCapture c w

/-- Sum of the samples of a role (R290). -/
def State.roleSum (s : State) (a role : Nat) : Int :=
  ((s.axisChannels a).filter fun c => s.get (MOD_CFG_ROLE c) == role).foldl (fun n c => n + s.sget (MOD_VAL_VAL c)) 0

/-- Does the axis have a channel of the role? -/
def State.hasRole (s : State) (a role : Nat) : Bool := (s.axisChannels a).any fun c => s.get (MOD_CFG_ROLE c) == role

/-- The three phase currents in units of full scale ÷ 32,767; i_c from the others without a channel (R290). -/
def State.phaseCurrents (s : State) (a : Nat) : Int × Int × Int :=
  let ia := s.roleSum a 0
  let ib := s.roleSum a 1
  (ia, ib, if s.hasRole a 2 then s.roleSum a 2 else -(ia + ib))

/-- MCLK of a paired axis is held at its reset level without the claim: its filters do not run (R424). -/
def State.mclkOff (s : State) (a : Nat) : Bool := s.unclaimed && bitOf s.pairedAxes a

/-- MODULATOR_STUCK: 256 MCLK periods without a transition: STUCK, MODFAULT, and out of SAFE a drive fault (R292). -/
def execModulatorStuck (c : Fin 64) (s : State) : Host.Outcome State Fault Refusal :=
  .next <| s.whenUp fun t =>
    if t.nMod ≤ c.1 || !t.flag (MOD_CFG_EN c) || t.mclkOff (t.get (MOD_CFG_AXIS c)) then t
    else ((t.put (MOD_STAT_STUCK c) 1).strobe (evMod c)).engineFault ⟨t.get (MOD_CFG_AXIS c) % 8, Nat.mod_lt _ (by decide)⟩ 4

/-- A read of MOD_CAPPOP: from an empty FIFO the manual states no value (free value). -/
def State.popMod (s : State) : Word × State :=
  match s.modCap with
  | w :: t => (w, (s.setModCap t))
  | [] => let (v, t) := s.draw 26; (BitVec.ofNat 32 v, t)

/-- MOD_CAPTURE_POP: the word read stands in `rdata`. -/
def execModCapturePop (s : State) : Host.Outcome State Fault Refusal :=
  .next <| s.whenUp fun t => let (w, u) := t.popMod; (u.setRdata w.toNat)

/-! ### ENG_CTRL (R303, R311) -/

/-- ENG_CTRL.CLRDEG (R311). -/
def State.clearDegraded (s : State) (a : Fin 8) : State :=
  ((s.put (ENG_STAT_DEGRADED a) 0).put (ENG_STAT_DEGPH a) 0).modEng a fun e => { e with deg := [] }

/-- ENG_CTRL.CLRSCHED. -/
def State.clearSchedule (s : State) (a : Fin 8) : State := s.setReg (ENG_SCHED a) 0

/-- CLEAR_DEGRADED. -/
def execClearDegraded (a : Fin 8) (s : State) : Host.Outcome State Fault Refusal := .next <| s.whenUp fun t => t.clearDegraded a
/-- CLEAR_SCHEDULE. -/
def execClearSchedule (a : Fin 8) (s : State) : Host.Outcome State Fault Refusal := .next <| s.whenUp fun t => t.clearSchedule a

/-! ### References and ramps (R80, R293, R369, R581) -/

/-- Torque reference register of the route in force, in torque units, as it stood at the beginning of the edge (R17, R18, R293,
R315). -/
def State.torqueTarget (s : State) (a : Fin 8) : Int :=
  let b := s.atEdge
  tqUnit * (match b.routeOf a with
    | 0 => b.sget (ENG_TREF_TQ_V a)
    | 1 => b.sget (ENG_PREF_TQ_V a)
    | _ => b.sget (ENG_RREF_TQ_V a))

/-- SCLAMP of R82 in 0.1 % of 0x6080: in SERVICE and EMERGENCY only. -/
def State.sclamp (s : State) (a : Fin 8) : Nat :=
  match s.axes[a].code with
  | 1 => svcClamp s.speedClass
  | 5 => emgClamp s.speedClass
  | _ => 0

/-- TCLAMP of R82: 250 per mille in SERVICE, 0 in every other mode. -/
def State.tclamp (s : State) (a : Fin 8) : Nat := if s.axes[a].code = 1 then 250 else 0

/-- Speed limit of R296 in speed units. -/
def State.speedLimit (s : State) (a : Fin 8) : Int :=
  let m : Int := (s.eng[a].maxSpeed : Int) * spdUnit
  if s.sclamp a = 0 then m else min m (m * s.sclamp a / 1000)

/-- The lever input of role 1 that serves the axis has RANGE set (R370). -/
def State.leverLost (s : State) (a : Fin 8) : Bool :=
  (s.ainOf a 1).isNone && (List.range 8).any fun i =>
    s.flag (AIN_CFG_EN i) && s.get (AIN_CFG_ROLE i) == 1 && s.get (AIN_CFG_AXIS i) == a.1

/-- Speed reference of EMERGENCY (R369): a DRIVEN release, else the lever, else 0. -/
def State.emgTarget (s : State) (a : Fin 8) : Int :=
  let lim := s.speedLimit a
  match (List.range 4).find? fun k => s.lio.driven.getLsbD k && s.get (ERL_CFG_AXIS k) == a.1 with
  | some k => -(min ((s.get (ERL_CFG_SPD k) : Int) * spdUnit) lim)
  | none => match s.ainOf a 1 with
    | some i => roundDiv 27 (s.sget ⟨AIN_OUT i, 31, 0⟩ * lim) 32767
    | none => 0

/-- Sign of the haul-in direction at the engine (TN_CFG.INV). -/
def State.haulIn (s : State) (a : Fin 8) : Int := if s.flag (TN_CFG_INV a) then -1 else 1

/-- The slack-line limit acts: SLREACT 1 with SLACK set, in SPEED, TENSION and EMERGENCY (R367). -/
def State.slackLimit (s : State) (a : Fin 8) : Bool :=
  s.get (WN_SLACK_SLREACT a) == 1 && s.flag (WN_STAT_SLACK a) && decide (3 ≤ s.axes[a].code)

/-- Target of the speed reference, before the clamps; a reference register as it stood at the beginning of the edge (R17). -/
def State.speedTarget (s : State) (a : Fin 8) : Int :=
  match s.axes[a].code with
  | 5 => s.emgTarget a
  | 4 => s.eng[a].nStar
  | _ =>
    let b := s.atEdge
    if b.routeOf a = 0 then b.sget (ENG_TREF_SPD_V a) * spdUnit
    else if b.routeOf a = 1 then b.sget (ENG_PREF_SPD_V a) * spdUnit else 0

/-- Move `v` toward `tgt` by at most `d`. -/
def toward (v tgt d : Int) : Int := if v < tgt then min tgt (v + d) else max tgt (v - d)

/-- Move a speed toward a target: by `up` while its magnitude rises, by `dn` while it falls (R80); through zero in both parts. -/
def moveSpeed (v tgt up dn : Int) : Int :=
  if 0 ≤ v ∧ v ≤ tgt ∨ tgt ≤ v ∧ v ≤ 0 then toward v tgt up
  else if 0 ≤ v ∧ 0 ≤ tgt ∨ v ≤ 0 ∧ tgt ≤ 0 then toward v tgt dn
  else if (v.natAbs : Int) ≤ dn then toward 0 tgt (roundDiv 28 (up * (dn - v.natAbs)) dn.toNat)
  else toward v 0 dn

/-- The rate a speed move needs, by the direction of its magnitude. -/
def State.moveRate (s : State) (a : Fin 8) (v tgt : Int) : Nat :=
  if 0 ≤ v ∧ v ≤ tgt ∨ tgt ≤ v ∧ v ≤ 0 then (s.reg (AX_PACC a)).toNat else (s.reg (AX_PDEC a)).toNat

/-- A ramp register of 0 turns the transition in progress into a fast halt and Switch on disabled, recorded with reason 0x28
(AX_TSLOPE to AX_QSDEC). -/
def State.zeroRate (s : State) (a : Fin 8) : State :=
  ((s.fastHalt a).leaveTo a .disabled).recordRefusal a (s.axes[a].rampCmd.getD 0) 0x28 (sgn 8 (s.get (AX_MODESEL_MODESEL a)))

/-- Modes 9 and 10 follow their target directly once the transition's ramp has reached it (R581). -/
def Axis.cyclic (x : Axis) : Bool := x.mode == 9 || x.mode == 10

/-- The torque reference moves toward its target at 0x6087; where it reaches it the transition's ramp ends (R581). -/
def State.rampTorque (s : State) (a : Fin 8) (tgt : Int) : State :=
  let x := s.axes[a]
  let d := ((s.reg (AX_TSLOPE a)).toNat : Int) * s.cycleNs a * 65536000
  if d = 0 ∧ x.rampCmd.isSome ∧ x.tqRef ≠ tgt then s.zeroRate a
  else
    let v := toward x.tqRef tgt d
    s.modAxis a fun y => if v = tgt then { y with tqRef := v, rampCmd := none, ramp := if x.cyclic && x.ramp == .torque then .none else x.ramp }
      else { y with tqRef := v }

/-- The speed reference moves toward its target at 0x6083 or 0x6084; where it reaches it the transition's ramp ends (R581). -/
def State.rampSpeed (s : State) (a : Fin 8) (tgt : Int) : State :=
  let x := s.axes[a]
  let ns : Int := (s.cycleNs a : Nat)
  if s.moveRate a x.spdRef tgt = 0 ∧ x.rampCmd.isSome ∧ x.spdRef ≠ tgt then s.zeroRate a
  else
    let v := moveSpeed x.spdRef tgt (65536 * (s.reg (AX_PACC a)).toNat * ns) (65536 * (s.reg (AX_PDEC a)).toNat * ns)
    s.modAxis a fun y => if v = tgt then { y with spdRef := v, rampCmd := none, ramp := if x.cyclic && x.ramp == .speed then .none else x.ramp }
      else { y with spdRef := v }

/-- The speed reference moves to `tgt` at 0x6085, or 0x6084. -/
def State.rampStop (s : State) (a : Fin 8) (tgt : Int) (rate : Nat) : State :=
  s.modAxis a fun y => { y with spdRef := toward y.spdRef tgt (65536 * (rate : Int) * s.cycleNs a) }

/-- τ_R of R363 in torque units, where KT is not 0. -/
def State.tauR (s : State) (a : Fin 8) : Int :=
  let b := s.atEdge
  roundDiv 29 (((b.tn a 0 15 0 + b.tn a 1 31 16) * 100 : Nat) * tqUnit) (b.tn a 4 31 16)

/-- One filter-output edge of the references of a running axis (R80, R581, R364, R367, R370). -/
def State.rampEdge (s : State) (a : Fin 8) : State :=
  let x := s.axes[a]
  let qs := (s.reg (AX_QSDEC a)).toNat
  match x.ramp with
  | .stopSpeed fast _ => s.rampStop a 0 (if fast then qs else (s.reg (AX_PDEC a)).toNat)
  | .stopTorque _ => s.rampTorque a 0
  | .pendEmg =>
    let c : Int := (s.eng[a].maxSpeed : Int) * spdUnit * emgClamp s.speedClass / 1000
    s.rampStop a (if x.spdRef < 0 then -c else c) qs
  | r =>
    if x.step ≠ 3 then s
    else if x.code = 2 then
      if r = .none then s.modAxis a fun y => { y with tqRef := s.torqueTarget a } else s.rampTorque a (s.torqueTarget a)
    else
      let tgt0 := s.speedTarget a
      let pay := s.slackLimit a && decide (tgt0 * s.haulIn a < 0)
      let tgt := clampInt (-(s.speedLimit a)) (s.speedLimit a) (if pay then 0 else tgt0)
      let s1 := s.modAxis a fun y => { y with clampActs := s.sclamp a != 0 && decide (s.speedLimit a < tgt0.natAbs) }
      if pay && decide (x.spdRef * s.haulIn a < 0) || (x.code == 5 && s.leverLost a && !s.drivenOn a) then s1.rampStop a 0 qs
      else if r = .none ∧ x.cyclic then s1.modAxis a fun y => { y with spdRef := tgt }
      else if x.code = 4 then
        -- the torque-clamp ramp of R364 runs beside the speed reference
        let top := x.tqRef + ((s.reg (AX_TSLOPE a)).toNat : Int) * s.cycleNs a * 65536000
        let s2 := if r = .torque then
            s1.modAxis a fun y => if s.tauR a ≤ top then { y with tqRef := top, ramp := .none, rampCmd := none } else { y with tqRef := top }
          else s1
        if r = .torque ∧ s.reg (AX_TSLOPE a) = 0 ∧ x.rampCmd.isSome then s1.zeroRate a
        else s2.modAxis a fun y => { y with spdRef := moveSpeed y.spdRef tgt (65536 * (s.reg (AX_PACC a)).toNat * (s.cycleNs a : Nat))
                                                        (65536 * (s.reg (AX_PDEC a)).toNat * (s.cycleNs a : Nat)) }
      else s1.rampSpeed a tgt

/-! ### Standstill and pending EMERGENCY on a filter-output edge (R79, R83, R357) -/

/-- Standstill is judged on the sampled speed (R79). In a transition that waits for it, the first slow edge of an axis with a brake
commands set and begins its 20 ms, with the speed loop held at reference 0 (R357); an axis that stands still already completes it. -/
def State.stillEdge (s : State) (a : Fin 8) : State :=
  let x := s.axes[a]
  let slow := decide ((s.sget (ENG_SPD_V a)).natAbs * 200 < s.eng[a].maxSpeed * 65536)
  let s1 := s.modAxis a fun y =>
    if slow then { y with slow := true, stillFrom := some (y.stillFrom.getD s.clk) }
    else { y with slow := false, still := false, stillFrom := none }
  if !slow || !x.waitsStill then s1
  else if s.flag (BRK_CFG_EN a) then
    let s2 := if s.flag (BRK_STAT_CMD a) then (s1.brakeCmd a false).modAxis a fun y => { y with stillFrom := some s.clk, still := false } else s1
    (match x.ramp with
      | .stopTorque g => (s2.modAxis a fun y => { y with ramp := .stopSpeed false g, spdRef := 0 }).modEng a fun e => { e with intS := e.tLast }
      | _ => s2.modAxis a fun y => { y with spdRef := 0 }).stopDone a
  else s1.stopDone a

/-- An axis with EMERGENCY pending enters it when its speed reaches the clamp (R83). -/
def State.pendEdge (s : State) (a : Fin 8) : State :=
  if s.axes[a].pendEmg && s.belowClamp a (emgClamp s.speedClass) then s.emgFromRunning a else s

/-! ### The control law (R294 to R296, R308, R311, R362, R363) -/

/-- Word `i` of the live gain group, as it stood at the beginning of the edge (R315). -/
def State.gainWord (s : State) (a : Fin 8) (i : Nat) : Word := s.edge.gain0[a].live.getD i 0
/-- Low half of a gain word. -/
def State.gainLo (s : State) (a : Fin 8) (i : Nat) : Int := ((fieldOf (s.gainWord a i) 15 0 : Nat) : Int)

/-- Torque limit of R294 in torque units; after a takeover it rises from 0 at CP_TO.TRAMP per ms (R442). -/
def State.torqueLimit (s : State) (a : Fin 8) : Int :=
  let m := match s.axes[a].clampFrom with
    | some t => min s.eng[a].maxTorque (s.get CP_TO_TRAMP * (s.clk - t) / 250000)
    | none => s.eng[a].maxTorque
  tqUnit * (if s.tclamp a = 0 then m else min m (s.tclamp a) : Nat)

/-- Limits of the torque demand in the haul-in direction (R363) and overall: lower and upper. While HOLD acts in step 2, 0x6072
whatever the mode (R356). -/
def State.demandLimits (s : State) (a : Fin 8) : Int × Int :=
  let l := s.torqueLimit a
  let x := s.axes[a]
  if x.step = 2 ∧ s.flag (BRK_CFG_HOLD a) then (-(tqUnit * s.eng[a].maxTorque), tqUnit * s.eng[a].maxTorque)
  else if x.code = 4 then
    let r := min l (s.tauR a)
    let h := if x.ramp = .torque then min r x.tqRef else r
    if s.flag (TN_CFG_INV a) then (-h, l) else (-l, h)
  else (-l, l)

/-- The tension law (R362): the speed target from the tension error, in speed units; KR and KV in 0.001 min⁻¹ per daN. -/
def State.tensionLaw (s : State) (a : Fin 8) : State :=
  let b := s.atEdge
  if s.axes[a].code ≠ 4 then s
  else match s.tensionNow a with
    | none => s.winchFault a 2
    | some tm =>
      let e : Int := (tm : Int) - b.tn a 0 15 0
      let db : Int := (b.tn a 1 15 0 : Nat)
      let kr : Int := (b.tn a 2 31 16 : Nat)
      let kv : Int := (b.tn a 2 15 0 : Nat)
      let raw : Int := if db < e then -(kr * (e - db)) else if e < -db then kv * (-e - db) else 0
      let n := clampInt (-((b.tn a 3 31 16 : Nat) : Int) * 1000) (((b.tn a 3 15 0 : Nat) : Int) * 1000) raw
      let s1 := ((s.put (WN_STAT_RENDER a) (b2n (decide (db < e)))).put (WN_STAT_RECOVER a) (b2n (decide (e < -db)))).put
        (TN_MEAS_N a) (toCode 16 (roundDiv 30 n 1000))
      (s1.put (WN_STAT_CLAMP a) (b2n (decide (s.tauR a ≤ s.eng[a].tDem * s.haulIn a)))).modEng a
        fun x => { x with nStar := n * (spdUnit / 1000) * s.haulIn a }

/-- The clamp of R82 acts on the speed reference `ref`: statusword bit 11. -/
def State.clampSeen (s : State) (a : Fin 8) (ref : Int) : State :=
  if s.sclamp a ≠ 0 ∧ s.speedLimit a < (ref.natAbs : Int) then s.modAxis a fun x => { x with clampActs := true } else s

/-- The speed loop (R296): on cycles whose number is a multiple of SPDIV; the integrator is held while the demand is clamped. -/
def State.speedLoop (s : State) (a : Fin 8) (ref : Int) : State :=
  let div := max 1 (fieldOf (s.gainWord a 9) 3 0)
  let s1 := s.clampSeen a ref
  if s.get (ENG_CYCCNT_V a) % div ≠ 0 then s1
  else
    let lim := s.speedLimit a
    let e := clampInt (-lim) lim ref - s.spdNow a
    let inc := s.gainLo a 5 * e
    let t := 10 * s.gainLo a 4 * e + s.eng[a].intS + inc
    let (lo, hi) := s.demandLimits a
    s1.modEng a fun x => { x with tDem := t, intS := if lo ≤ t ∧ t ≤ hi then x.intS + inc else x.intS }

/-- The torque demand of the cycle before R294 (R293, R296, R356, R357). -/
def State.demand (s : State) (a : Fin 8) : State :=
  let x := s.axes[a]
  if x.step = 2 then
    if s.flag (BRK_CFG_HOLD a) then s.speedLoop a 0 else s.modEng a fun e => { e with tDem := 0 }
  else if x.torqueLoop then s.modEng a fun e => { e with tDem := x.tqRef }
  else (if x.code = 4 ∧ x.step = 3 ∧ s.get (ENG_CYCCNT_V a) % max 1 (fieldOf (s.gainWord a 9) 3 0) = 0 then s.tensionLaw a else s).speedLoop
    a (s.axes[a].spdRef)

/-- Effective IMAX in mA (R294, R311). -/
def State.imax (s : State) (a : Fin 8) : Int :=
  let full : Int := ((fieldOf (s.gainWord a 6) 31 16 : Nat) : Int) * 1000
  (List.range 3).foldl (fun m x =>
    let k := (s.phaseSels a x).length
    if bitOf (s.get (ENG_STAT_DEGPH a)) x then min m (roundDiv 31 (full * ((k : Int) - 1)) k) else m) full

/-- Square root of a number that is no square: one of its two neighbours (log entry 4). -/
def sqrtRound (k n : Nat) : Nat :=
  let r := isqrt n
  if r * r = n then r else r + (if Config.roundUp k n 1 then 1 else 0)

/-- What the current loop makes of the demand: voltage vector in microvolts and whether a clamp acted. -/
structure Volts where
  ud : Int
  uq : Int
  limit : Bool
  deriving DecidableEq, Repr

/-- Current references of R294 in mA: i_d*, i_q*, and whether a clamp acted. -/
def State.currentRefs (s : State) (a : Fin 8) (t : Int) : Int × Int × Bool :=
  let imax := s.imax a
  let idr : Int := sgn 16 (fieldOf (s.gainWord a 7) 15 0) * 1000
  let iq := roundDiv 32 (t * s.get (ENG_MOT_IRATED a)) (10 * tqUnit).toNat
  if imax < idr.natAbs then ((if idr < 0 then -imax else imax), 0, true)
  else if imax * imax < idr * idr + iq * iq then
    let q : Int := (sqrtRound 33 (imax * imax - idr * idr).toNat : Nat)
    (idr, (if iq < 0 then -q else q), true)
  else (idr, iq, false)

/-- A voltage vector limited to UMAX × U_dc ÷ √3 (R295): `udc` in 1/32,767 of UFS. -/
def State.limitVolts (s : State) (a : Fin 8) (ud uq udc : Int) : Volts :=
  let u : Int := s.gainLo a 6 * (max udc 0) * s.get (ENG_SCALE_UFS a) * 1000000
  let m2 := (ud * ud + uq * uq).toNat
  if (u * u).toNat < 3 * m2 * (65536 * 32767) ^ 2 then
    let l : Int := (sqrtRound 34 ((u * u).toNat / (3 * (65536 * 32767) ^ 2)) : Nat)
    let m := sqrtRound 35 m2
    ⟨roundDiv 36 (ud * l) m, roundDiv 36 (uq * l) m, true⟩
  else ⟨ud, uq, false⟩

/-- Back-EMF feedforward KE × n ÷ 1,000 in microvolts (R295, R297, R308). -/
def State.backEmf (s : State) (a : Fin 8) : Int := roundDiv 25 (s.gainLo a 8 * s.sget (ENG_SPD_V a) * 1000) 65536

/-- Electrical angle in 1/65,536 turn, from the feedback as it stood at the beginning of the edge (R17, R295). -/
def State.elecAngle (s : State) (a : Fin 8) : Int :=
  ((s.get (ENG_FB_POLES a) : Int) * s.atEdge.chanAngle (s.get (ENG_FB_SRC a)) + s.get (ENG_FB_THOFS a)) % 65536

/-- Angle at which the voltage is applied: advanced by ω × ADV × T_cycle ÷ 16 (R295). -/
def State.outAngle (s : State) (a : Fin 8) : Int :=
  s.elecAngle a + roundDiv 37 (s.sget (ENG_SPD_V a) * s.get (ENG_FB_POLES a) * fieldOf (s.gainWord a 9) 15 8 * s.cycleNs a) 960000000000

/-- One in the unit of `Config.sine`. -/
def sineOne : Nat := 2 ^ 30

/-- Cosine of an angle in 1/65,536 turn: the sine a quarter turn on. -/
def cosine (θ : Int) : Int := Config.sine (θ + 16384)

/-- `v` ÷ √3, by 1/√3 in 1/2^30 (log entry 17). -/
def overRoot3 (v : Int) : Int := roundDiv 75 (v * 619925131) sineOne

/-- The Clarke transform of three phase values, amplitude kept (R314; log entry 17): α and β. -/
def clarke (a b c : Int) : Int × Int := (roundDiv 74 (2 * a - b - c) 3, overRoot3 (b - c))

/-- The Park transform: a vector (α, β) on the axes d and q at angle θ (R295, R314). -/
def park (al be θ : Int) : Int × Int :=
  (roundDiv 76 (al * cosine θ + be * Config.sine θ) sineOne, roundDiv 76 (be * cosine θ - al * Config.sine θ) sineOne)

/-- The inverse Park transform (R295, R314): α and β. -/
def unpark (d q θ : Int) : Int × Int :=
  (roundDiv 77 (d * cosine θ - q * Config.sine θ) sineOne, roundDiv 77 (d * Config.sine θ + q * cosine θ) sineOne)

/-- Measured currents on the d and q axes, in mA. -/
def State.measuredDq (s : State) (a : Fin 8) : Int × Int :=
  let (ia, ib, ic) := s.phaseCurrents a
  let ma (v : Int) : Int := roundDiv 38 (v * s.get (ENG_SCALE_IFS a) * 1000) 32767
  let (al, be) := clarke (ma ia) (ma ib) (ma ic)
  park al be (s.elecAngle a)

/-- The current loop of one cycle (R294, R295): the torque demand is clamped, the PI controllers run, the voltage is limited; while
that limit acts no integrator grows in the direction that deepens it. -/
def State.currentLoop (s : State) (a : Fin 8) : Volts × State :=
  let e := s.eng[a]
  let (lo, hi) := s.demandLimits a
  let t := clampInt lo hi e.tDem
  let (idr, iqr, c) := s.currentRefs a t
  let (id, iq) := s.measuredDq a
  let ed := idr - id
  let eq := iqr - iq
  let incd := s.gainLo a 1 * ed
  let incq := s.gainLo a 3 * eq
  let ud := s.gainLo a 0 * ed + e.intD + incd
  let uq := s.gainLo a 2 * eq + e.intQ + incq + s.backEmf a
  let v := s.limitVolts a ud uq (s.roleSum a 3)
  let s1 := s.modEng a fun x =>
    { x with tLast := t
             intD := if v.limit ∧ 0 < incd * ud then x.intD else x.intD + incd
             intQ := if v.limit ∧ 0 < incq * uq then x.intQ else x.intQ + incq }
  let s2 := s1.modAxis a fun x => { x with clampActs := x.clampActs || (s.tclamp a != 0 && e.tDem != t) }
  ({ v with limit := v.limit || c || e.tDem != t }, s2)

/-! ### Duties and transitions (R298 to R300, R308, R309) -/

/-- A duty in 1/2^32. -/
def dutyOne : Nat := 2 ^ 32

/-- Voltage of phase `x` of a stator vector (α, β): α, and −α ÷ 2 ± β × √3 ÷ 2. -/
def phaseVolt (al be : Int) (x : Nat) : Int :=
  match x with
  | 0 => al
  | 1 => roundDiv 78 (3 * overRoot3 be - al) 2
  | _ => roundDiv 78 (-(3 * overRoot3 be) - al) 2

/-- Duty of phase `x` in 1/2^32 (R298): the voltage vector (d, q) turned to the stator frame at θ and divided by U_dc, both in
microvolts, with the min-max zero sequence, which centres the largest and the smallest of the three, in [0, 1]. -/
def dutyOf (x : Nat) (ud uq θ udc : Int) : Nat :=
  let (al, be) := unpark ud uq θ
  let u := phaseVolt al be
  let top := max (u 0) (max (u 1) (u 2))
  let bot := min (u 0) (min (u 1) (u 2))
  (clampInt 0 dutyOne (roundDiv 79 ((2 * u x - top - bot + udc) * dutyOne) (2 * udc).toNat)).toNat

/-- Clamp of R298: below d_min to 0, above 1 − d_min to 1. -/
def State.clampDuty (s : State) (a : Fin 8) (d : Nat) : Nat :=
  let h := s.get (ENG_CFG_CYC a) * 172
  let k := (s.get (ENG_PWM_MINP a) + s.get (ENG_PWM_DT a)) * dutyOne
  let m := if s.flag (ENG_CFG_DOUBLE a) then 2 * h else h
  if d * m < k then 0 else if (dutyOne - d) * m < k then dutyOne else d

/-- Speed at or below 1 % of 0x6080 (R308). -/
def State.prechargeSlow (s : State) (a : Fin 8) : Bool :=
  decide ((s.sget (ENG_SPD_V a)).natAbs * 100 ≤ s.eng[a].maxSpeed * 65536)

/-- The three duties of the next cycle, and the engine after its current loop (R295, R298, R308). -/
def State.duties (s : State) (a : Fin 8) : (Nat → Nat) × State :=
  let udc := roundDiv 39 (s.roleSum a 3 * s.get (ENG_SCALE_UFS a) * 1000000) 32767
  let raw (v : Volts) (x : Nat) : Nat := dutyOf x v.ud v.uq (s.outAngle a) udc
  if s.axes[a].step = 1 then
    if s.prechargeSlow a then (fun _ => 0, s.put (ENG_STAT_LIMIT a) 0)
    else
      let v := s.limitVolts a 0 (s.backEmf a) (s.roleSum a 3)
      let h := s.get (ENG_CFG_CYC a) * 172
      let top := (h - (s.get (ENG_BOOT_RFON a) + s.get (ENG_PWM_DT a))) * dutyOne / h
      (fun x => min top (s.clampDuty a (raw v x)), s.put (ENG_STAT_LIMIT a) (b2n v.limit))
  else
    let (v, s1) := (s.demand a).currentLoop a
    (fun x => s.clampDuty a (raw v x), s1.put (ENG_STAT_LIMIT a) (b2n v.limit))

/-- Rounding to the nearest hsck of `n / dutyOne`; a tie is open (R299). -/
def nearest (n d : Nat) : Nat := if 2 * (n % d) < d then n / d else if 2 * (n % d) = d then (roundDiv 40 n d).toNat else n / d + 1

/-- Levels of a phase over the next cycle: (hsck from the boundary, high side conducting), from the level `cur` it holds; R299. -/
def levelsOf (cur : Option Bool) (double : Bool) (halfB : Bool) (h d : Nat) : List (Nat × Bool) :=
  let hold (b : Bool) : List (Nat × Bool) := [(0, cur.getD b)]
  if d = 0 then [(0, false)]
  else if d = dutyOne then [(0, true)]
  else if double then
    if halfB then hold false ++ [(nearest ((dutyOne - d) * h) dutyOne, true)] else hold true ++ [(nearest (d * h) dutyOne, false)]
  else hold false ++ [(nearest ((dutyOne - d) * h) (2 * dutyOne), true), (nearest ((dutyOne + d) * h) (2 * dutyOne), false)]

/-- Transitions of a phase: (hsck, level before, level after), where the level changes. -/
def transitions : Option Bool → List (Nat × Bool) → List (Nat × Option Bool × Bool)
  | _, [] => []
  | cur, (t, l) :: rest => if cur = some l then transitions cur rest else (t, cur, l) :: transitions (some l) rest

/-- Level after the last transition. -/
def lastLevel (cur : Option Bool) (l : List (Nat × Option Bool × Bool)) : Option Bool :=
  match l.getLast? with
  | some (_, _, v) => some v
  | none => cur

/-- Conductions of the low side within the cycle as (start, end); the last one may run to the end `h` (R300, R309). -/
def lowRuns (h dt : Nat) : Option Nat → List (Nat × Option Bool × Bool) → List (Nat × Nat)
  | none, [] => []
  | some b, [] => [(b, h)]
  | from_, (t, prev, l) :: rest =>
    let done := match from_ with | some b => [(b, t)] | none => []
    done ++ lowRuns h dt (if l then none else some (t + (if prev.isSome then dt else 0))) rest

/-- Insert the refresh of R309 into the levels: low from floor(H ÷ 2) for DT + RFON, then the level the cycle has there. -/
def withRefresh (h dt rfon : Nat) (l : List (Nat × Bool)) : List (Nat × Bool) :=
  let a := h / 2
  let b := a + dt + rfon
  let at_ := ((l.filter fun p => decide (p.1 ≤ b)).getLast?.map (·.2)).getD false
  (l.filter fun p => decide (p.1 < a)) ++ [(a, false), (b, at_)] ++ (l.filter fun p => decide (b < p.1))

/-- A commutation: phase, port, events (hsck on the slot grid of the port, high gate, on), slots delayed (R300, R303). -/
structure Comm where
  ph : Nat
  port : Fin 6
  evs : List (Nat × Bool × Bool)
  delay : Nat
  deriving DecidableEq, Repr

/-- A command of a commutation: target slot, place in it, commutation, events (R300). -/
structure EdgeCmd where
  slot : Nat
  place : Nat
  comm : Nat
  ph : Nat
  port : Fin 6
  evs : List (Nat × Bool × Bool)
  send : Nat
  deriving DecidableEq, Repr

/-- Commands of a commutation: one when its events fall in one slot, else one per target slot (R300). -/
def Comm.cmds (c : Comm) (k : Nat) : List EdgeCmd :=
  let evs := c.evs.map fun e => (e.1 + 172 * c.delay, e.2)
  match evs with
  | [e, f] => if e.1 / 172 = f.1 / 172 then [⟨e.1 / 172, 0, k, c.ph, c.port, [e, f], 0⟩]
      else [⟨e.1 / 172, 0, k, c.ph, c.port, [e], 0⟩, ⟨f.1 / 172, 1, k, c.ph, c.port, [f], 0⟩]
  | _ => evs.map fun e => ⟨e.1 / 172, 0, k, c.ph, c.port, [e], 0⟩

/-- Order of allotment: target slot, then phase, then first event before second (R302). -/
def EdgeCmd.before (x y : EdgeCmd) : Bool :=
  decide (x.slot < y.slot) || (x.slot == y.slot && (decide (x.ph < y.ph) || (x.ph == y.ph &&
    (decide (x.place < y.place) || (x.place == y.place && decide (x.comm ≤ y.comm))))))

/-- Insert a command in the order of allotment. -/
def insertCmd (c : EdgeCmd) : List EdgeCmd → List EdgeCmd
  | [] => [c]
  | d :: t => if c.before d then c :: d :: t else d :: insertCmd c t

/-- The result of allotting send slots. -/
structure Allot where
  cmds : List EdgeCmd
  slips : Nat
  maxslip : Nat
  overflow : Bool
  deriving DecidableEq, Repr

/-- Is slot `n` of a port free: neither allotted and not yet sent, nor taken in this cycle (R302)? -/
def State.slotFree (s : State) (p : Fin 6) (n : Nat) (got : List EdgeCmd) : Bool :=
  !(s.ports[p].engQ.any fun e => e.rslot == n % 1024) && !(got.any fun c => c.port == p && c.send == n)

/-- Allot send slots (R302, R303): slots T − 1 to T − 4 are tried; a command that finds none is delayed with its commutation, at most
2 slots. `fuel` bounds the work: at most twelve commutations of two commands, each delayed twice. -/
def State.allot (s : State) : Nat → List Comm → List EdgeCmd → Allot → Allot
  | 0, _, _, r => { r with overflow := true }
  | _ + 1, _, [], r => r
  | fuel + 1, cs, c :: todo, r =>
    match ([1, 2, 3, 4] : List Nat).find? fun k => decide (k ≤ c.slot) && s.slotFree c.port (c.slot - k) r.cmds with
    | some k => s.allot fuel cs todo { r with cmds := r.cmds ++ [{ c with send := c.slot - k }] }
    | none =>
      let cm := cs.getD c.comm ⟨0, 0, [], 0⟩
      if 2 ≤ cm.delay then { r with overflow := true }
      else
        let cm' := { cm with delay := cm.delay + 1 }
        let rest := todo.filter fun d => d.comm != c.comm
        s.allot fuel (cs.set c.comm cm') ((cm'.cmds c.comm).foldl (fun l d => insertCmd d l) rest)
          { r with cmds := r.cmds.filter fun d => d.comm != c.comm, slips := r.slips + 1, maxslip := max r.maxslip cm'.delay }

/-- Offset of the slot grid of port `q` against the lead port's, in hsck, rounded to the nearest (R287): a hsck is N ÷ 4 clk. -/
def State.gridOff (s : State) (a : Fin 8) (q : Fin 6) : Int :=
  let d : Int := ((s.ports[s.lead a].grid : Int) - s.ports[q].grid) * 4
  let n : Int := (s.portN (s.lead a) : Nat)
  if q = s.lead a then 0
  else if 2 * (d % n) < n then d / n
  else if 2 * (d % n) = n then roundDiv 41 d n.toNat else d / n + 1

/-- The plan of one cycle. -/
structure Plan where
  comms : List Comm
  lv : Vector (Option Bool) 3
  lowFrom : Vector (Option Nat) 3
  lowEnd : Vector (Option Nat) 3
  deriving Repr

/-- A refresh of phase `x` is due: the time since its low side last conducted for RFON, plus two cycles, would exceed RFPER; a
conduction under way counts once it has lasted RFON (R309). -/
def State.refreshDue (s : State) (a : Fin 8) (x : Fin 3) : Bool :=
  let e := s.eng[a]
  let n := s.portN (s.lead a)
  let now := e.first * 172 * n + 4 * s.readyClk a
  let lasts : Bool := match e.lowFrom[x] with
    | some f => decide ((f + s.get (ENG_BOOT_RFON a)) * n ≤ now)
    | none => false
  !lasts && (match e.lowEnd[x] with
    | some t => decide (s.get (ENG_BOOT_RFPER a) * 1000000 < now + 2 * s.cycleNs a - t * n)
    | none => true)

/-- Plan the next cycle (R299, R300, R309): with edges off, every conducting gate is turned off at its start. -/
def State.planCycle (s : State) (a : Fin 8) (run : Bool) (d : Nat → Nat) : Plan :=
  let e := s.eng[a]
  let h := s.get (ENG_CFG_CYC a) * 172
  let dt := s.get (ENG_PWM_DT a)
  let rfon := s.get (ENG_BOOT_RFON a)
  let base := (e.first + s.get (ENG_CFG_CYC a)) * 172
  let halfB := (s.get (ENG_CYCCNT_V a) + 1) % 2 == 1
  let trans (x : Fin 3) : List (Nat × Option Bool × Bool) :=
    let l := levelsOf e.lv[x] (s.flag (ENG_CFG_DOUBLE a)) halfB h (d x)
    let from0 := if e.lv[x] = some false then some 0 else none
    let tr := transitions e.lv[x] l
    if !s.flag (ENG_CFG_PUMP a) && s.refreshDue a x && !((lowRuns h dt from0 tr).any fun r => decide (rfon ≤ r.2 - r.1)) then
      transitions e.lv[x] (withRefresh h dt rfon l) else tr
  let place (x : Fin 3) (t : Nat) : Nat := (((base + t : Nat) : Int) + s.gridOff a (s.phasePort a x)).toNat
  if run then
    let comms := (List.finRange 3).flatMap fun x => (trans x).map fun (t, prev, l) =>
      let u := place x t
      (⟨x, s.phasePort a x, match prev with
        | some b => [(u, b, false), (u + dt, l, true)]
        | none => [(u, l, true)], 0⟩ : Comm)
    let runs (x : Fin 3) : List (Nat × Nat) :=
      lowRuns h dt (if e.lv[x] = some false then some 0 else none) (trans x)
    let end_ (x : Fin 3) : Option Bool := lastLevel e.lv[x] (trans x)
    { comms := comms
      lv := Vector.ofFn end_
      lowFrom := Vector.ofFn fun x => if end_ x = some false then
          (if (trans x).isEmpty then some (e.lowFrom[x].getD base) else (runs x).getLast?.map fun r => base + r.1) else none
      lowEnd := Vector.ofFn fun x =>
        let closed := if end_ x = some false then (runs x).dropLast else runs x
        let long := closed.filter fun r =>
          let start := if r.1 = 0 ∧ e.lv[x] = some false then e.lowFrom[x].getD base else base + r.1
          decide (start + rfon ≤ base + r.2)
        match long.getLast? with | some r => some (base + r.2) | none => e.lowEnd[x] }
  else
    { comms := (List.finRange 3).filterMap fun x => (e.lv[x]).map fun b => ⟨x, s.phasePort a x, [(place x 0, b, false)], 0⟩
      lv := Vector.replicate 3 none, lowFrom := Vector.replicate 3 none, lowEnd := Vector.replicate 3 none }

/-! ### Publication (R301, R304, R305) -/

/-- Event field of R236: GATE, LEVEL, POS. -/
def eventField (e : Nat × Bool × Bool) : Nat := b2n e.2.1 * 512 + b2n e.2.2 * 256 + e.1 % 172

/-- The engine-queue entry of a command (R301, R310). -/
def State.entryOf (s : State) (a : Fin 8) (c : EdgeCmd) : EngEntry :=
  let par := s.flag (ENG_PH_PAR a c.ph)
  let evs := c.evs.map eventField
  let pay := (c.slot - 1 - c.send) * 2 ^ 22 + (if par then s.get (ENG_PH_GROUP a c.ph) * 2 ^ 20 else 0) +
    evs.getD 0 0xFF * 2 ^ 10 + evs.getD 1 0xFF
  let sel := (s.phaseSels a c.ph).headD 0
  if par then ⟨c.send % 1024, true, a, if s.dmode c.port then 7 else s.get (ENG_PH_SELMASK a c.ph) % 16, 2, pay⟩
  else ⟨c.send % 1024, false, a, if s.dmode c.port then sel else 2 ^ sel % 16, 1, pay⟩

/-- Insert an entry in RSLOT order, as seen from the port's next slot (R301). -/
def insertEntry (n : Nat) (e : EngEntry) : List EngEntry → List EngEntry
  | [] => [e]
  | x :: t => if (e.rslot + 1536 - n % 1024) % 1024 < (x.rslot + 1536 - n % 1024) % 1024 then e :: x :: t else x :: insertEntry n e t

/-- Ports of an axis: those of its phases and those whose AXMAP names it. -/
def State.axisPorts (s : State) (a : Fin 8) : List (Fin 6) :=
  (List.finRange 6).filter fun p => bitOf (s.axmap p) a || (List.finRange 3).any fun x => s.phasePort a x == p

/-- Least clk between publish and the earliest send-slot boundary (ENG_MARGIN). -/
def State.marginOf (s : State) (a : Fin 8) (cmds : List EdgeCmd) : Nat :=
  let e := s.eng[a]
  let lead := s.lead a
  let sl := 43 * s.portN lead
  let pub : Int := ((e.first * sl + s.readyClk a + 186 : Nat) : Int) + s.ports[lead].grid
  cmds.foldl (fun m c => min m (((c.send * sl : Nat) : Int) + s.ports[c.port].grid - pub).toNat) (s.get (ENG_MARGIN_V a))

/-- The staged entries are published to every port of the axis together (R304), with the coverage of R305. Entries beyond 32 in a
queue are the drive fault SCHEDULE_OVERFLOW, and nothing is published. -/
def State.publish (s : State) (a : Fin 8) (pl : Plan) : State :=
  let r := s.allot 400 pl.comms (((List.range pl.comms.length).flatMap fun k =>
    (pl.comms.getD k ⟨0, 0, [], 0⟩).cmds k).foldl (fun l c => insertCmd c l) []) ⟨[], 0, 0, false⟩
  let ports := s.axisPorts a
  let count (p : Fin 6) : Nat := s.ports[p].engQ.length + (r.cmds.filter fun c => c.port == p).length
  -- the delays of the cycle are counted, whether or not it is published (R303)
  let s0 := (s.bumpBy (ENG_SCHED_SLIPS a) r.slips).put (ENG_SCHED_MAXSLIP a) (max (s.get (ENG_SCHED_MAXSLIP a)) r.maxslip)
  if ports.any fun p => s.ports[p].st != .stream then s0
  else if r.overflow || ports.any (fun p => decide (32 < count p)) then s0.engineFault a 10
  else
    let cyc := s.get (ENG_CFG_CYC a)
    let s1 := ports.foldl (fun t p =>
      let end_ := ((((s.eng[a].first + 2 * cyc) * 172 : Nat) : Int) + s.gridOff a p).toNat
      t.modPort p fun q => { q with
        engQ := ((r.cmds.filter fun c => c.port == p).map (s.entryOf a)).foldl (fun l e => insertEntry q.slot e l) q.engQ
        cover := q.cover.set a ((end_ + 171) / 172) }) s0
    let s2 := s1.modEng a fun e => { e with lv := pl.lv, lowFrom := pl.lowFrom, lowEnd := pl.lowEnd }
    let peak := ports.foldl (fun m p => max m (count p)) (s.get (ENG_SCHED_QPEAK a))
    (s2.put (ENG_SCHED_QPEAK a) peak).put (ENG_MARGIN_V a) (s.marginOf a r.cmds)

/-! ### The sample (R291, R292, R312 to R314) -/

/-- Causes of R312 the sample shows: 1 overcurrent, 2 and 3 DC link, 13 overspeed. -/
def State.sampleCauses (s : State) (a : Fin 8) (ovr : List Nat) : List Nat :=
  let (ia, ib, ic) := s.phaseCurrents a
  let ifs := s.get (ENG_SCALE_IFS a)
  let oc := s.get (ENG_PROT_OCLIM a) * 32767
  let u := s.roleSum a 3 * s.get (ENG_SCALE_UFS a)
  let beyond (v : Int) : Bool := decide (oc < v.natAbs * ifs)
  -- an overrange is a drive fault only out of SAFE (R292)
  let roleOvr (r : Nat) : Bool := !s.wasSafe a && ovr.any fun c => s.get (MOD_CFG_ROLE c) == r
  (if beyond ia || beyond ib || beyond ic || roleOvr 0 || roleOvr 1 || roleOvr 2 then [1] else []) ++
  (if decide (((s.get (ENG_UDCLIM_UDCMAX a) * 32767 : Nat) : Int) < u) || roleOvr 3 then [2] else []) ++
  (if decide (u < ((s.get (ENG_UDCLIM_UDCMIN a) * 32767 : Nat) : Int)) && !(s.axes[a].code != 0 && s.axes[a].step == 1) then [3] else []) ++
  (if decide (s.get (ENG_PROT_OSLIM a) * 65536 < (s.sget (ENG_SPD_V a)).natAbs) then [13] else [])

/-- Write a field with a value, free where it lies outside the field's range: the manual states no result there. -/
def State.putFree (s : State) (f : Fld) (v lo hi : Int) : State :=
  if lo ≤ v ∧ v ≤ hi then s.sput f v else let (w, t) := s.draw 42; t.put f w

/-- The registers a sample writes: ENG_UDC, ENG_SPD, ENG_IDQ and the actual torque; a value beyond its field is free. -/
def State.sampleRegs (s : State) (a : Fin 8) : State :=
  let u := roundDiv 43 (s.roleSum a 3 * s.get (ENG_SCALE_UFS a)) 32767
  let s1 := s.putFree (ENG_SPD_V a) (s.atEdge.chanSpeed (s.get (ENG_FB_SRC a))) (-2 ^ 31) (2 ^ 31 - 1)
  let (id, iq) := s1.measuredDq a
  let s2 := s1.putFree (ENG_UDC_V a) u 0 65535
  let s3 := (s2.putFree (ENG_IDQ_ID a) (roundDiv 44 id 1000) (-32768) 32767).putFree (ENG_IDQ_IQ a) (roundDiv 44 iq 1000) (-32768) 32767
  let s4 := s3.putFree (ENG_TDEM_ACT a) (roundDiv 45 (iq * 10) (s.get (ENG_MOT_IRATED a))) (-32768) 32767
  s4.modEng a fun e => { e with udcOk := decide (((s.get (ENG_UDCLIM_UDCMIN a) * 32767 : Nat) : Int) ≤
    s.roleSum a 3 * s.get (ENG_SCALE_UFS a)) }

/-- A drive fault of axis `a` has been latched since `old` (R304). -/
def State.newFault (s old : State) (a : Fin 8) : Bool :=
  s.reg (ENG_FAULT a) != old.reg (ENG_FAULT a) || s.reg (WN_FAULT a) != old.reg (WN_FAULT a)

/-- The cycle after the sample: standstill, pending EMERGENCY, ramps, control law, plan and publication. A drive fault or fast halt
found on the way publishes nothing (R304, R313, R315). -/
def State.cycleWork (s : State) (a : Fin 8) : State :=
  let s1 := ((s.modAxis a fun x => { x with clampActs := false }).stillEdge a).pendEdge a
  let run := s1.flag (ENG_STAT_EDGES a)
  let s2 := if run then s1.rampEdge a else s1
  let run2 := s2.flag (ENG_STAT_EDGES a)
  let (d, s3) := if run2 then s2.duties a else (fun _ => 0, s2)
  if s3.newFault s a then s3
  else
    let s4 := if run2 then s3.put (ENG_TDEM_T a) (toCode 16 (roundDiv 46 s3.eng[a].tLast tqUnit.toNat))
      else (s3.put (ENG_TDEM_T a) 0).modEng a fun e => { e with tDem := 0, tLast := 0 }
    s4.publish a (s4.planCycle a run2 d)

/-- FILTER_OUTPUT_READY: the filter outputs `raw` of the enabled channels of the axis, in ascending order of channel, full scale ±32,767
(R290). The engine samples and runs its pipeline (R314); the steps inside the 186 clk are one command (log entry 19). -/
def execFilterOutputReady (a : Fin 8) (raw : List Int) (s : State) : Host.Outcome State Fault Refusal :=
  .next <| s.whenUp fun t =>
    if t.get (AX_CTRL_INIT a) = 0 || t.mclkOff a || t.eng[a].sampled || !t.flag (MOD_AX_EN a) || decide (t.get (ENG_CFG_CYC a) * 43 * t.portN (t.lead a) ≤ t.readyClk a) then t
    else
      let chans := (t.axisChannels a).zip raw
      let ovr := (chans.filter fun p => decide (15 * 32767 < 16 * p.2.natAbs)).map (·.1)
      let t1 := (chans.foldl (fun u p => u.modSample p.1 p.2) (t.strobe (evAxis a + 6))).modEng a fun e => { e with sampled := true }
      let t2 := t1.sampleRegs a
      let causes := t2.sampleCauses a ovr
      let t3 := t2.modEng a fun e => { e with found := causes.foldl (fun m c => m ||| 2 ^ c) 0 }
      let t4 := causes.foldl (fun u c => u.engineFault a c) t3
      if t4.newFault t3 a then t4.stillEdge a else t4.cycleWork a

end Sys2Proof.Machine
end

