-- ==== Sys2Proof/Machine/Ring.lean ====
section
/-! DEFINITION. The Potrix ring (13_potrix_ring.md): frames, forwarding and acceptance, master and states, common time, share
groups and system frames. A frame is its bytes from the destination address to the end of the payload or pad; `fcs` tells whether
its FCS was good. -/

namespace Sys2Proof.Machine

/-! ### Frames (R389 to R391) -/

/-- Big-endian number of bytes. -/
def beNat (l : List Byte) : Nat := l.foldl (fun a b => a * 256 + b.toNat) 0
/-- `n` big-endian bytes of a number. -/
def beBytes (n v : Nat) : List Byte := (leBytes n v).reverse
/-- The `n`-byte field of a frame at offset `o`. -/
def fget (f : List Byte) (o n : Nat) : Nat := beNat ((f.drop o).take n)
/-- A frame with the `n`-byte field at `o` replaced. -/
def fput (f : List Byte) (o n v : Nat) : List Byte := f.take o ++ beBytes n v ++ f.drop (o + n)
/-- Fill with zero bytes to `n`. -/
def padTo (n : Nat) (f : List Byte) : List Byte := f ++ List.replicate (n - f.length) 0

/-- Payload of a frame: LEN bytes from offset 26 (R390). -/
def fpay (f : List Byte) : List Byte := (f.drop 26).take (fget f 24 2)

/-- Own unit address and system address (R114, R389). -/
def State.unitAddr (s : State) : Nat := s.get NODE_UNIT
def State.sysAddr (s : State) : Nat := s.get NODE_RINGNO * 64 + s.get NODE_UNIT
/-- The unit has an identity (R109). -/
def State.hasId (s : State) : Bool := s.flag NODE_VALID

/-- The unit may join the ring (R387, R397). -/
def State.mayJoin (s : State) : Bool := s.hasId && s.get ROLE_STAT_CODE != 15

/-- State 3, 4 or 5 is joined (R397). -/
def Ring.joined (r : Ring) : Bool := r.st == .closed || r.st == .broken || r.st == .elect

/-- A frame of this unit (R389, R390). -/
def State.ringFrame (s : State) (ty dst hops : Nat) (onB : Bool) (pay : List Byte) : List Byte :=
  let src := if s.hasId then s.sysAddr else 0x8000
  padTo 60 (beBytes 6 0x0347D1000000 ++ beBytes 4 0x0247D100 ++ beBytes 2 src ++ beBytes 2 0x88B5 ++ [0x10, BitVec.ofNat 8 ty]
    ++ beBytes 2 src ++ beBytes 2 dst ++ beBytes 2 s.ring.fseq ++ [BitVec.ofNat 8 hops, if onB then 0x80 else 0]
    ++ beBytes 2 pay.length ++ pay)

/-- Put bytes on a ring port whose link is up, with a good or an inverted FCS. -/
def State.ringOut (s : State) (onB good : Bool) (f : List Byte) : State :=
  if (if onB then s.ring.linkB else s.ring.linkA) then s.send ⟨.ring, [b2n onB, b2n good], f⟩ else s

/-- The next FSEQ of the originator (R390). -/
def State.nextFseq (s : State) : State :=
  s.modRing fun r => { r with fseq := (r.fseq + 1) % 65536, sentN := min 16 (r.sentN + 1) }

/-- Every unit of the own ring (R389). -/
def State.dstAll (s : State) : Nat := 0x8000 + s.get NODE_RINGNO * 64

/-- Originate a frame on both ports with one FSEQ and HOPS 64 (R392). -/
def State.originate (s : State) (ty dst : Nat) (pay : List Byte) : State :=
  let t := s.nextFseq
  (t.ringOut false true (t.ringFrame ty dst 64 false pay)).ringOut true true (t.ringFrame ty dst 64 true pay)

/-- Originate on one port only: LINKEVT (R399) and PDELAY frames (R392, R401). -/
def State.originateOn (s : State) (onB : Bool) (ty dst hops : Nat) (pay : List Byte) : State :=
  let t := s.nextFseq
  t.ringOut onB true (t.ringFrame ty dst hops onB pay)

/-- A ring event: RING_EVT bit `b` and E112 + b. -/
def State.ringEvt (s : State) (b : Nat) : State := s.raise RING_EVT_EV b 112

/-! ### States (R397 to R400) -/

/-- RSTATE held: E114 BREAK or E115 HEAL when it changes (R400). -/
def State.setRstate (s : State) (broken : Bool) : State :=
  if s.ring.broken == broken then s
  else (s.modRing fun r => { r with broken := broken }).ringEvt (if broken then 2 else 3)

/-- State 3 or 4 as RSTATE says (R397). -/
def State.ringTo (s : State) (broken : Bool) : State :=
  (s.modRing fun r => { r with st := if broken then .broken else .closed }).setRstate broken

/-- The unit no longer originates: it leads no group and sends no beacon. -/
def Ring.silence (r : Ring) : Ring :=
  { r with master := false, bcn := none,
           groups := r.groups.map fun g => { g with lead := false, takeover := false, force := false, fresh := false,
                                                    units := none, inc := [], miss := [], av := [] } }

/-- Enter LISTEN (R397): joining begins. -/
def Ring.listen (r : Ring) : Ring := { r with st := .listen, heard := none, timed := false, goodRow := 0 }

/-- FORWARD to LISTEN once the identity allows it (R397). -/
def State.ringJoin (s : State) : State :=
  if s.ring.st == .forward && s.mayJoin then s.modRing Ring.listen else s

/-- Enter DUPLICATE (R419): E119 and EMCY 0xFF34. -/
def State.ringDuplicate (s : State) : State :=
  ((s.modRing fun r => { r.silence with st := .duplicate }).ringEvt 7).emcy 0xFF34 [s.unitAddr]

/-- The master decides (R399): counted and reported when the decision changes (R400). -/
def State.ringDecide (s : State) (broken : Bool) : State :=
  let t := s.modRing fun r => { r with runC := 0, runB := 0 }
  if s.ring.broken == broken then t
  else
    let u := (t.ringTo broken).emcy 0xFF30 [b2n broken]
    if broken then u.bump RING_CNT3_BREAKS else u

/-! ### Reception: forwarding, duplicate addresses, acceptance (R386, R391, R393, R394, R419) -/

/-- TYPE values of R391. -/
def knownType (t : Nat) : Bool := t ∈ [1, 2, 3, 4, 0x10, 0x11, 0x20, 0x21] || (0x30 ≤ t && t ≤ 0x3F)

/-- SRC is the unit's own address. -/
def State.ownSrc (s : State) (f : List Byte) : Bool := s.hasId && fget f 16 2 == s.sysAddr

/-- DST names the unit, or has ALL set with its ring number. -/
def State.dstOurs (s : State) (f : List Byte) : Bool :=
  let d := fget f 18 2
  if bitOf d 15 then bitsOf d 11 6 == s.get NODE_RINGNO else bitsOf d 11 0 == s.sysAddr

/-- The link delay of a port, ns (R401). -/
def State.dly (s : State) (onB : Bool) : Nat := if onB then s.get RING_DLY_B else s.get RING_DLY_A

/-- Forward a frame to the other port (R393): HOPS decremented, CORR of a BEACON added to (R402), a bad FCS inverted. A PDELAY
frame is never forwarded (R401). -/
def State.forwardFrame (s : State) (onB fcs : Bool) (f : List Byte) (res : Nat) : State :=
  if fget f 22 1 ≤ 1 || fget f 15 1 = 3 || fget f 15 1 = 4 then s
  else
    let g := fput f 22 1 (fget f 22 1 - 1)
    let h := if fget f 15 1 = 1 then fput g 34 4 (fget f 34 4 + s.dly onB + res) else g
    s.ringOut (!onB) fcs h

/-- The unit originated this FSEQ in its last 16 frames (R419). -/
def Ring.originated (r : Ring) (q : Nat) : Bool := decide ((r.fseq + 65536 - q) % 65536 < r.sentN)

/-- FSEQ is newer than the last one accepted from that source (R394). -/
def Ring.newer (r : Ring) (src q : Nat) : Bool :=
  match r.recs.find? (fun e => e.1 == src) with
  | none => true
  | some e => let d := (q + 65536 - e.2) % 65536; decide (1 ≤ d ∧ d ≤ 32767)

/-- A frame is received on a port: the state after forwarding, and whether the unit accepts the frame. -/
def State.ringRx (s : State) (onB fcs : Bool) (f : List Byte) (res : Nat) : State × Bool :=
  if !s.up || s.ring.st == .off then (s, false)
  else if fget f 12 2 != 0x88B5 then (s.bump RING_CNT_FOREIGN, false)
  else
    let ty := fget f 15 1
    let src := fget f 16 2
    if !fcs then
      let t := s.bump RING_CNT_FCSERR
      (if s.ownSrc f then t else t.forwardFrame onB false f res, false)
    else if s.ownSrc f then
      if s.ring.st == .listen || (s.ring.joined && !s.ring.originated (fget f 20 2)) then (s.ringDuplicate, false) else (s, false)
    else
      let t := s.forwardFrame onB true f res
      if (s.ring.joined || (s.ring.st == .listen && ty == 1)) && fget f 14 1 / 16 == 1 && s.dstOurs f && knownType ty
          && s.ring.newer src (fget f 20 2) then
        (t.modRing fun r => { r with recs := (src, fget f 20 2) :: r.recs.filter (fun e => e.1 != src) }, true)
      else (t, false)

/-- Reception of a frame of type `ty`, with what acceptance does. -/
def State.ringTake (s : State) (onB fcs : Bool) (f : List Byte) (ty : Nat) (act : State → State) : State :=
  let r := s.ringRx onB fcs f 0
  if r.2 && fget f 15 1 == ty then act r.1 else r.1

/-! ### Common time (R402, R403) -/

/-- Correct the common time by the error `e` in ns (R402). -/
def State.correctTime (s : State) (e : Int) : State :=
  let a := e.natAbs
  let s1 := (s.put RING_TERR_E (toCode 32 e))
  let s2 := if a > 200 && s1.ring.sync then (s1.modRing fun r => { r with sync := false }).emcy 0xFF35 [] else s1
  let row := if a ≤ 50 then min 8 (s.ring.goodRow + 1) else 0
  let s3 := s2.modRing fun r => { r with goodRow := row, sync := r.sync || row == 8 }
  if a > 1000 || !s.ring.timed then
    ((s3.modRing fun r => { r with timed := true, ct := ((r.ct + e * 1000000000) % ((2 ^ 64 * 1000000000 : Nat) : Int)).toNat }).bump
      RING_CNT3_TSTEPS).ringEvt 4
  else
    let d := s3.drawInt 47
    d.2.modRing fun r => { r with trim := clampInt (-100000) 100000 d.1 }

/-- The claim (prio, address) is better than the unit's own (R398). -/
def State.betterClaim (s : State) (prio addr : Nat) : Bool :=
  let m := s.get RING_CFG_MPRIO
  decide (m < prio) || (m == prio && decide (addr < s.sysAddr))

/-- An accepted beacon (R396 to R398, R402, R403). `late` is the time from its SFD to now. -/
def State.acceptBeacon (s : State) (onB : Bool) (f : List Byte) (late : Nat) : State :=
  let src := fget f 16 2 % 4096
  let better := s.betterClaim (fget f 39 1) src
  let b := fget f 38 1 == 1
  let cy := fget f 40 1
  let s1 := (s.setReg64 (RING_CAPCT 0) (s.ring.ns)).setReg64 (RING_CAPFB 0) s.clk
  if s1.ring.master && !better then s1
  else
    let s2 := s1.modRing fun r => { r with master := false, bcn := none, munit := src % 64, cyc := some cy, heard := some b }
    let s3 := if cy != s2.get RING_CFG_CYC then s2.put RING_ERR_CYCMIS 1 else s2
    let e : Int := (fget f 26 8 + fget f 34 4 + s3.dly onB + late : Nat) - (s3.ring.ns : Int)
    let s4 := s3.correctTime e
    match s4.ring.st with
    | .closed | .broken => s4.ringTo b
    | .elect => if better then s4.ringTo b else s4
    | _ => s4

/-- RING_CTRL.EN (R387, R397). -/
def State.ringEnable (s : State) : State :=
  if s.ring.st == .off then (s.modRing fun r => { r with st := .forward }).ringJoin else s

/-- RING_ENABLE (R387, R397). -/
def execRingEnable (s : State) : Host.Outcome State Fault Refusal := .next <| s.whenUp State.ringEnable

/-- An axis with ROUTE 2 is out of SAFE (R421). -/
def State.ringInUse (s : State) : Bool := (List.finRange 8).any fun a => s.routeOf a == 2 && !s.isSafe a

/-- RING_CTRL.DIS (R397, R421): powering the PHYs down ends the links. -/
def State.ringDisable (s : State) : State :=
  if s.ringInUse then s.put RING_ERR_CFGREF 1
  else if s.ring.st == .off then s
  else
    let s1 := if s.ring.linkA then s.ringEvt 0 else s
    let s2 := if s.ring.linkB then s1.ringEvt 1 else s1
    s2.modRing fun r => { r.silence with st := .off, linkA := false, linkB := false, sync := false, cyc := none }

/-- RING_DISABLE (R397, R421). -/
def execRingDisable (s : State) : Host.Outcome State Fault Refusal := .next <| s.whenUp State.ringDisable

/-- RING_CTRL.REJOIN (R397). -/
def State.ringRejoin (s : State) : State := if s.ring.st == .duplicate then s.modRing Ring.listen else s

/-- RING_REJOIN (R397). -/
def execRingRejoin (s : State) : Host.Outcome State Fault Refusal := .next <| s.whenUp State.ringRejoin

/-- CLRCNT: the counters of RING_CNT, RING_CNT2 and RING_CNT3 (R421). -/
def State.ringClearCounts (s : State) : State := ((s.setReg RING_CNT 0).setReg RING_CNT2 0).setReg RING_CNT3 0

/-- RING_CLEAR_COUNT (R421). -/
def execRingClearCount (s : State) : Host.Outcome State Fault Refusal := .next <| s.whenUp State.ringClearCounts

/-- RING_FOREIGN_FRAME (R386). -/
def execRingForeignFrame (s : State) : Host.Outcome State Fault Refusal := .next <|
  s.whenUp fun s => if s.ring.st == .off then s else s.bump RING_CNT_FOREIGN

/-- UNKNOWN_TYPE_FRAME (R391): forwarded, not accepted. -/
def execUnknownTypeFrame (onB fcs : Bool) (f : List (BitVec 8)) (s : State) : Host.Outcome State Fault Refusal := .next <|
  (s.ringRx onB fcs f 0).1

/-- The master judges the cycle that ends (R399). -/
def State.judgeCycle (s : State) : State :=
  if s.ring.bcn.isNone then s
  else if s.ring.backA && s.ring.backB then
    if s.ring.runC = 2 then s.ringDecide false else s.modRing fun r => { r with runC := min 2 (r.runC + 1), runB := 0 }
  else if s.ring.runB = 2 then s.ringDecide true else s.modRing fun r => { r with runB := min 2 (r.runB + 1), runC := 0 }

/-- BEACON_TX (R396, R399). -/
def execBeaconTx (s : State) : Host.Outcome State Fault Refusal := .next <|
  s.whenUp fun s =>
    if !s.ring.master then s
    else
      let t := s.judgeCycle
      let u := t.originate 1 t.dstAll (beBytes 8 t.ring.ns ++ beBytes 4 0 ++
        [BitVec.ofNat 8 (b2n t.ring.broken), BitVec.ofNat 8 (t.get RING_CFG_MPRIO), BitVec.ofNat 8 (t.get RING_CFG_CYC), 0])
      u.modRing fun r => { r with bcn := some r.fseq, backA := false, backB := false }

/-- BEACON_RX (R393, R394, R396 to R403, R419). -/
def execBeaconRx (onB fcs : Bool) (f : List (BitVec 8)) (res late : Nat) (s : State) : Host.Outcome State Fault Refusal := .next <|
  let r := s.ringRx onB fcs f res
  if r.2 && fget f 15 1 == 1 then r.1.acceptBeacon onB f late
  else if s.up && fcs && s.ring.master && s.ownSrc f && fget f 15 1 == 1 && r.1.ring.bcn == some (fget f 20 2) then
    r.1.modRing fun x => if bitOf (fget f 23 1) 7 then { x with backB := true } else { x with backA := true }
  else r.1

/-- LINKEVT_RX (R399). -/
def execLinkevtRx (onB fcs : Bool) (f : List (BitVec 8)) (s : State) : Host.Outcome State Fault Refusal := .next <|
  s.ringTake onB fcs f 2 fun s => if s.ring.master && fget f 27 1 == 0 then s.ringDecide true else s

/-- RING_LINK_CHANGE (R399, R400). -/
def execRingLinkChange (onB lk : Bool) (s : State) : Host.Outcome State Fault Refusal := .next <|
  s.whenUp fun s =>
    if s.ring.st == .off || (if onB then s.ring.linkB else s.ring.linkA) == lk then s
    else
      let t := (s.modRing fun r => if onB then { r with linkB := lk } else { r with linkA := lk }).ringEvt (b2n onB)
      let u := if t.ring.joined then t.originateOn (!onB) 2 t.dstAll 64 [BitVec.ofNat 8 (b2n onB), BitVec.ofNat 8 (b2n lk)] else t
      if u.ring.master && !lk then u.ringDecide true else u

/-! ### Link delay (R401) -/

/-- PDELAY_TX (R401): a request on each link. -/
def execPdelayTx (s : State) : Host.Outcome State Fault Refusal := .next <|
  s.whenUp fun s =>
    if s.ring.st == .off then s
    else
      let t := s.modRing fun r => { r with pseq := (r.pseq + 1) % 65536, t1A := r.ns, t1B := r.ns }
      let p := beBytes 2 t.ring.pseq
      (t.originateOn false 3 t.dstAll 1 p).originateOn true 3 t.dstAll 1 p

/-- PDELAY_REQ_RX (R401): answered by an enabled unit whatever its state. -/
def execPdelayReqRx (onB fcs : Bool) (f : List (BitVec 8)) (late : Nat) (s : State) : Host.Outcome State Fault Refusal := .next <|
  let t := (s.ringRx onB fcs f 0).1
  if s.up && s.ring.st != .off && fcs && fget f 15 1 == 3 && !s.ownSrc f && fget f 12 2 == 0x88B5 then
    t.originateOn onB 4 t.dstAll 1 (beBytes 2 (fget f 26 2) ++ beBytes 8 (t.ring.ns - late) ++ beBytes 8 t.ring.ns)
  else t

/-- Mean link delay of the measurements of 2d (R401), in the 16 bits of RING_DLY. -/
def meanDelay (s : State) (l : List Int) : Nat × State :=
  let d := roundDiv 48 (l.foldl (· + ·) 0) (2 * l.length)
  if 0 ≤ d ∧ d < 65536 then (d.toNat, s) else s.draw 49

/-- PDELAY_RESP_RX (R401). -/
def execPdelayRespRx (onB fcs : Bool) (f : List (BitVec 8)) (late : Nat) (s : State) : Host.Outcome State Fault Refusal := .next <|
  let t := (s.ringRx onB fcs f 0).1
  if s.up && s.ring.st != .off && fcs && fget f 15 1 == 4 && !s.ownSrc f && fget f 12 2 == 0x88B5
      && fget f 26 2 == s.ring.pseq then
    let t4 : Int := (t.ring.ns : Int) - late
    let t1 := if onB then t.ring.t1B else t.ring.t1A
    let m : Int := t4 - t1 - ((fget f 36 8 : Int) - fget f 28 8)
    let l := (m :: (if onB then t.ring.dB else t.ring.dA)).take 8
    let q := meanDelay t l
    if onB then (q.2.modRing fun r => { r with dB := l }).put RING_DLY_B q.1
    else (q.2.modRing fun r => { r with dA := l }).put RING_DLY_A q.1
  else t

/-! ### Share groups (R404 to R414) -/

/-- Change group `g`, and member axis `a`. -/
def State.modGrp (s : State) (g : Fin 16) (f : Grp → Grp) : State := s.modRing fun r => { r with groups := upd r.groups g f }
def State.modMem (s : State) (a : Fin 8) (f : GrpAxis → GrpAxis) : State := s.modRing fun r => { r with members := upd r.members a f }

/-- The unit's members of group `g` (R404). -/
def State.ownMembers (s : State) (g : Fin 16) : List (Fin 8) :=
  (List.finRange 8).filter fun a => decide (a.1 < s.nAxes) && s.flag (RG_AX_EN a) && s.get (RG_AX_GROUP a) == g.1

/-- The unit is a member unit of an enabled group. -/
def State.grpOn (s : State) (g : Fin 16) : Bool := s.flag (GRP_CFG_EN g) && !(s.ownMembers g).isEmpty

/-- Member key of an own axis (R404). -/
def State.memKey (s : State) (a : Fin 8) : Nat := s.unitAddr * 8 + a.1

/-- ENG_TAVAIL: 0 unless the axis is in TORQUE, else the clamp of R294. -/
def State.tavail (s : State) (a : Fin 8) : Nat :=
  if s.axes[a].code = 2 then (s.torqueLimit a).toNat / tqUnit.toNat % 65536 else 0

/-- STATE of GRP_STAT: 0 IDLE, 1 MEMBER, 2 LEADER, 3 TAKEOVER, 4 DROOP. -/
def State.grpState (s : State) (g : Fin 16) : Nat :=
  if !s.grpOn g then 0
  else if s.ring.groups[g].takeover then 3
  else if s.ring.groups[g].lead then 2
  else if (s.ownMembers g).any (fun a => s.ring.members[a].droop) then 4 else 1

/-- The group event E202 + g. -/
def State.grpEvt (s : State) (g : Fin 16) : State := s.strobe (202 + g.1)

/-- A member enters droop (R414), cause 1 DROOP flag, 2 not listed, 3 no SHARE frame. -/
def State.enterDroop (s : State) (g : Fin 16) (a : Fin 8) (cause : Nat) : State :=
  if s.ring.members[a].droop then s
  else
    let r0 := s.sget (ENG_RREF_TQ_V a)
    let n0 := s.sget (ENG_SPD_V a)
    ((s.modMem a fun m => { m with droop := true, settled := false, r0 := r0, n0 := n0 }).grpEvt g).emcy 0xFF33 [g.1, cause]

/-- The droop update of a period start (R414): KD in 0.01 per mille per min⁻¹, ENG_SPD in 1/65,536 min⁻¹. -/
def State.droopUpdate (s : State) (g : Fin 16) (a : Fin 8) : State :=
  if !s.ring.members[a].droop then s
  else
    let m := s.ring.members[a]
    let d := roundDiv 50 ((s.get (GRP_DROOP_KD g) : Int) * (s.sget (ENG_SPD_V a) - m.n0)) (100 * 65536)
    let l : Int := s.get (GRP_DROOP_DLIM g)
    s.sput (ENG_RREF_TQ_V a) (clampInt (-l) l (m.r0 - d))

/-- One own member as an AVAIL entry (R405). -/
def State.availEntry (s : State) (a : Fin 8) : AvEnt :=
  let rated := s.get (RG_AX_RATED a)
  ⟨s.memKey a, rated, s.tavail a * rated / 1000⟩

/-- Bytes of an AVAIL entry (R405). -/
def State.availBytes (s : State) (a : Fin 8) : List Byte :=
  let e := s.availEntry a
  [BitVec.ofNat 8 a.1, if s.axes[a].code == 2 && s.routeOf a == 2 then 0x80 else 0] ++ beBytes 4 e.rated ++ beBytes 4 e.avail

/-- GROUP_PERIOD_START (R405, R411, R414). -/
def execGroupPeriodStart (g : Fin 16) (s : State) : Host.Outcome State Fault Refusal := .next <|
  s.whenUp fun s =>
    if !s.grpOn g then s
    else
      let mem := s.ownMembers g
      let s1 := s.modGrp g fun x => { x with quiet := if x.gotFrom.isSome || x.lead then 0 else x.quiet + 1, gotFrom := none,
                                             av := (s.unitAddr, mem.map s.availEntry) :: x.av.filter (fun e => e.1 != s.unitAddr) }
      let s2 := if s.ring.joined && !s.unclaimed then
          s1.originate 0x11 s1.dstAll ([BitVec.ofNat 8 g.1, BitVec.ofNat 8 mem.length] ++ beBytes 2 (s.get (GRP_STAT_PSEQ g))
            ++ mem.flatMap s.availBytes)
        else s1
      let s3 := if s2.ring.groups[g].quiet ≥ 3 then mem.foldl (fun t a => t.enterDroop g a 3) s2 else s2
      mem.foldl (fun t a => t.droopUpdate g a) s3

/-- AVAIL_RX (R406): held for the next share point. -/
def execAvailRx (onB fcs : Bool) (f : List (BitVec 8)) (s : State) : Host.Outcome State Fault Refusal := .next <|
  s.ringTake onB fcs f 0x11 fun s =>
    let g : Fin 16 := ⟨fget f 26 1 % 16, Nat.mod_lt _ (by decide)⟩
    let u := fget f 16 2 % 64
    let ents := (List.range (min 8 (fget f 27 1))).map fun i =>
      (⟨u * 8 + fget f (30 + 10 * i) 1 % 8, fget f (32 + 10 * i) 4, fget f (36 + 10 * i) 4⟩ : AvEnt)
    if s.grpOn g then s.modGrp g fun x => { x with av := (u, ents) :: x.av.filter (fun e => e.1 != u) } else s

/-- Units of a list of member keys. -/
def keyUnits (l : List Nat) : List Nat := (l.map (· / 8)).eraseDups

/-- Write GRP_LIST: entries (key, reference code, JOIN), the rest 0. -/
def State.putGrpList (s : State) (g : Fin 16) (l : List (Nat × Nat × Bool)) : State :=
  forN 16 (fun j t => match l[j]? with
    | some (k, r, jn) => t.setReg (GRP_LIST g j) (BitVec.ofNat 32 (r % 65536 * 65536 + k % 512 * 128 + 64 + 32 * b2n jn))
    | none => t.setReg (GRP_LIST g j) 0) s

/-- One own member takes a SHARE frame (R408, R410, R414): `hold` when a repeat writes the same value again.
The rate limit counts from the value before the edge, so a droop update of the same edge is overwritten (R420). -/
def State.memberShare (s : State) (g : Fin 16) (droop hold : Bool) (l : List (Nat × Int)) (a : Fin 8) : State :=
  if droop then s.enterDroop g a 1
  else match l.find? (fun e => e.1 == s.memKey a) with
    | none => s.enterDroop g a 2
    | some (_, ref) =>
      let cur := s.atEdge.sget (ENG_RREF_TQ_V a)
      let v := if s.ring.members[a].settled then ref
        else if hold then cur else toward cur ref (s.get (GRP_CFG2_RSTEP g))
      (s.modMem a fun m => { m with droop := false, settled := m.settled || v == ref }).sput (ENG_RREF_TQ_V a) v

/-- A SHARE frame applied by a member unit, from unit `u` (R407, R408); REPEAT, SAT and DROOP of SFLAGS. -/
def State.applyShare (s : State) (g : Fin 16) (u : Nat) (rep sat droop : Bool) (pseq gt : Nat) (l : List (Nat × Int))
    (jn : List Nat) : State :=
  let hold := rep && s.get (GRP_STAT_PSEQ g) == pseq
  let s1 := (s.ownMembers g).foldl (fun t a => t.memberShare g droop hold l a) s
  let s2 := if rep then s1.bump (GRP_CNT_REPEATS g) else s1
  let keys := l.map (·.1)
  let chg := s.get (GRP_STAT_LEADER g) != u || (List.range 16).any (fun j =>
    (match keys[j]? with | some k => k % 512 * 2 + 1 | none => 0) != s.get (GRP_LIST_KEY g j) * 2 + s.get (GRP_LIST_INCL g j))
  let s3 := if chg then s2.grpEvt g else s2
  let s4 := s3.putGrpList g (l.map fun e => (e.1, toCode 16 e.2, e.1 ∈ jn))
  (((((s4.put (GRP_STAT_REPEAT g) (b2n rep)).put (GRP_STAT_SAT g) (b2n sat)).put (GRP_STAT_LEADER g) u).put
    (GRP_STAT_PSEQ g) pseq).put (GRP_G_V g) gt).setReg (GRP_MEMB g)
    (BitVec.ofNat 32 (keys.length % 256 * 256 + (keyUnits keys).length % 256))

/-- SHARE_RX (R408, R412, R414). -/
def execShareRx (onB fcs : Bool) (f : List (BitVec 8)) (s : State) : Host.Outcome State Fault Refusal := .next <|
  s.ringTake onB fcs f 0x10 fun s =>
    let g : Fin 16 := ⟨fget f 26 1 % 16, Nat.mod_lt _ (by decide)⟩
    let u := fget f 16 2 % 64
    let x := s.ring.groups[g]
    let fl := fget f 27 1
    let l := (List.range (min 16 (fget f 34 1))).map fun j => (fget f (36 + 4 * j) 2 % 512, sgn 16 (fget f (38 + 4 * j) 2))
    if !s.grpOn g || (x.lead && s.unitAddr < u) || (match x.gotFrom with | some v => decide (v < u) | none => false) then s
    else
      let t := s.modGrp g fun x => { x with lead := false, takeover := false, force := false, fresh := false, quiet := 0,
                                            gotFrom := some u, units := some (keyUnits (l.map (·.1))), inc := l.map (fun e => (e.1, 256)) }
      (t.put (GRP_STAT_QUORATE g) 0).applyShare g u (bitOf fl 7) (bitOf fl 6) (bitOf fl 5) (fget f 28 2) (fget f 30 4) l []

/-- Payload of a SHARE frame (R407). -/
def sharePay (g flags pseq gt : Nat) (l : List (Nat × Nat)) : List Byte :=
  [BitVec.ofNat 8 g, BitVec.ofNat 8 flags] ++ beBytes 2 pseq ++ beBytes 4 gt ++ [BitVec.ofNat 8 l.length, 0]
    ++ l.flatMap fun e => beBytes 2 e.1 ++ beBytes 2 e.2

/-- Insert a candidate by member key, once. -/
def insMember (e : AvEnt × Nat) : List (AvEnt × Nat) → List (AvEnt × Nat)
  | [] => [e]
  | h :: t => if e.1.key < h.1.key then e :: h :: t else if e.1.key = h.1.key then h :: t else h :: insMember e t

/-- The members the leader computes with, each with its weight (R406, R410). -/
def Grp.cands (x : Grp) (step : Nat) : List (AvEnt × Nat) :=
  let gone := (keyUnits (x.inc.map (·.1))).filter fun u => !(x.av.any fun e => e.1 == u)
  let ents := x.av.flatMap (·.2) ++ x.known.filter fun e => gone.contains (e.key / 8) && x.inc.any (fun k => k.1 == e.key)
  (ents.foldl (fun l e => insMember (e, match x.inc.find? (fun k => k.1 == e.key) with
    | some k => if k.2 < 256 then min 256 (k.2 + step) else 256
    | none => 0) l) []).take 16

/-- REF of one member (R406 steps 3 to 6), A and S in 1/256 N·m: toward zero. A rating of 0 leaves the quotient open. -/
def shareRef (gt : Int) (b : Nat) (sum rated : Nat) : Int :=
  if rated = 0 then Config.divByZero 51 0
  else if sum = 0 then 0
  else if gt.natAbs * 256 > sum then
    let v : Int := (b * 1000 / (256 * rated) : Nat)
    if gt < 0 then -v else v
  else
    let v : Int := (gt.natAbs * b * 1000 / (sum * rated) : Nat)
    if gt < 0 then -v else v

/-- A reference within the signed 16 bits of REF; a larger one is not stated (log entry 4). -/
def refFits (s : State) (v : Int) : Int × State :=
  if -32768 ≤ v ∧ v ≤ 32767 then (v, s) else let d := s.drawInt 52; (sgn 16 (toCode 16 d.1), d.2)

/-- The leader judges its quorum over its included units (R413). -/
def State.quorate (s : State) (g : Fin 16) (units : List Nat) : Bool :=
  let n := s.get (GRP_CFG_NUNITS1 g) + 1
  decide (2 * units.length > n) || (2 * units.length == n && units.contains (s.get (GRP_CFG_TIEADDR g)))

/-- The leader computes the shares, sends SHARE and applies it (R406, R408, R410, R411, R413). GRP_DEM is the value before the
share-point edge (R406, R420). -/
def State.computeShares (s : State) (g : Fin 16) : State :=
  let x := s.ring.groups[g]
  let c := x.cands (s.get (GRP_CFG2_JOINSTEP g))
  let dem := s.atEdge.sget (GRP_DEM_V g)
  let last := s.sget (GRP_G_V g)
  let gt : Int := if !x.takeover then dem
    else if x.fresh then last else toward last dem (s.get (GRP_CFG2_RAMP g) * 10)
  let tk := x.takeover && gt != dem
  let sum := (c.map fun e => e.1.avail * e.2).foldl (· + ·) 0
  let q := s.quorate g ((keyUnits (c.map (·.1.key)) ++ [s.unitAddr]).eraseDups)
  let sat := decide (gt.natAbs * 256 > sum)
  let refs := c.foldl (fun (p : List (Nat × Int) × State) e =>
    let r := refFits p.2 (if q then shareRef gt (e.1.avail * e.2) sum e.1.rated else 0)
    (p.1 ++ [(e.1.key, r.1)], r.2)) ([], s)
  let s1 := refs.2
  let pseq := (s.get (GRP_STAT_PSEQ g) + 1) % 65536
  let pay := sharePay g.1 (b2n sat * 64 + b2n (!q) * 32 + b2n tk * 16) pseq (toCode 32 gt) (refs.1.map fun e => (e.1, toCode 16 e.2))
  let s2 := s1.modGrp g fun y => { y with takeover := tk, fresh := false, lastPay := pay, inc := c.map fun e => (e.1.key, e.2) }
  let s3 := (s2.originate 0x10 s2.dstAll pay).put (GRP_STAT_QUORATE g) (b2n q)
  s3.applyShare g s.unitAddr false sat (!q) pseq (toCode 32 gt) refs.1 ((c.filter fun e => e.2 < 256).map (·.1.key))

/-- The leader sends its last SHARE frame again (R409). -/
def State.repeatShare (s : State) (g : Fin 16) : State :=
  let x := s.ring.groups[g]
  let p := fput x.lastPay 1 1 (x.lastPay.getD 1 0 ||| 0x80).toNat
  let fl := fget p 1 1
  let l := (List.range (fget p 8 1)).map fun j => (fget p (10 + 4 * j) 2, sgn 16 (fget p (12 + 4 * j) 2))
  (s.originate 0x10 s.dstAll p).applyShare g s.unitAddr true (bitOf fl 6) (bitOf fl 5) (fget p 2 2) (fget p 4 4) l
    ((x.inc.filter fun e => e.2 < 256).map (·.1))

/-- A unit that missed its second share point in a row is excluded (R409). -/
def State.excludeUnit (s : State) (g : Fin 16) (u : Nat) : State :=
  ((s.modGrp g fun x => { x with inc := x.inc.filter (fun e => e.1 / 8 != u) }).bump (GRP_CNT_EXCL g)).emcy 0xFF31 [g.1, u]

/-- Rank of R411: units included in the last accepted SHARE frame with a lower address, its leader left out; the unit address
where none was accepted since joining. -/
def State.leadRank (s : State) (g : Fin 16) : Nat :=
  match s.ring.groups[g].units with
  | none => s.unitAddr
  | some l => (l.filter fun u => u < s.unitAddr && u != s.get (GRP_STAT_LEADER g)).length

/-- Start to lead (R411): TAKEOVER, EMCY 0xFF32, the last included set with full weights apart from the former leader; or from the
record of a takeover of the duty (R444), whose set and own members stand in `inc` already. -/
def State.startLead (s : State) (g : Fin 16) : State :=
  let old := s.get (GRP_STAT_LEADER g)
  let x := s.ring.groups[g]
  (s.modGrp g fun y => { y with lead := true, takeover := true, fresh := true, force := false, miss := [], lastPay := [],
                                inc := if x.force then y.inc else if x.units.isNone then [] else (y.inc.filter (fun e => e.1 / 8 != old)).map (fun e => (e.1, 256)) }).emcy
    0xFF32 [g.1, old]

/-- The leader's share point (R406, R409). -/
def State.leadPoint (s : State) (g : Fin 16) : State :=
  let x := s.ring.groups[g]
  let lack := (keyUnits (x.inc.map (·.1))).filter fun u => u != s.unitAddr && !(x.av.any fun e => e.1 == u)
  let second := lack.filter x.miss.contains
  if !lack.isEmpty && second.isEmpty && !x.lastPay.isEmpty then (s.modGrp g fun y => { y with miss := lack }).repeatShare g
  else
    let t := second.foldl (fun t u => t.excludeUnit g u) s
    (t.modGrp g fun y => { y with miss := lack.filter fun u => !second.contains u }).computeShares g

/-- SHARE_POINT (R406, R409 to R413). -/
def execSharePoint (g : Fin 16) (s : State) : Host.Outcome State Fault Refusal := .next <|
  s.whenUp fun s =>
    if !s.grpOn g then s
    else
      let x := s.ring.groups[g]
      let live := s.ring.joined && !s.unclaimed
      let s1 := if live && !x.lead && (x.force || x.quiet ≥ 3 + 2 * s.leadRank g) then s.startLead g else s
      let s2 := if live && s1.ring.groups[g].lead then s1.leadPoint g else s1
      s2.modGrp g fun y => { y with av := [], known := y.av.flatMap (·.2) ++ y.known.filter fun e =>
        !(y.av.any fun v => v.2.any fun w => w.key == e.key) }

/-! ### System frames (R415 to R417) -/

/-- Header DST of a SYS frame for `odst` (R415). -/
def State.sysDst (s : State) (odst : Nat) : Nat := if odst / 64 = s.get NODE_RINGNO then odst else s.dstAll

/-- Payload of a SYS frame ("System frames and bridges"). -/
def sysPay (osrc odst rhops cmd tid : Nat) (data : List Byte) : List Byte :=
  beBytes 2 osrc ++ beBytes 2 odst ++ [BitVec.ofNat 8 rhops, BitVec.ofNat 8 cmd] ++ beBytes 2 tid ++ beBytes 2 data.length ++ data

/-- A NAK sent or received is counted and strobes E118 (R416). -/
def State.nakTx (s : State) : State := (s.bump RING_CNT2_NAKTX).ringEvt 6
def State.nakRx (s : State) : State := (s.bump RING_CNT2_NAKRX).ringEvt 6

/-- Send SYS_RESP with a STATUS (R415). -/
def State.sysAnswer (s : State) (dst st tid : Nat) (data : List Byte) : State :=
  let t := s.originate 0x21 (s.sysDst dst) (sysPay s.sysAddr dst 8 st tid data)
  if st = 0 then t else t.nakTx

/-- A record of the receive FIFO (R416). -/
def sysRecord (ty cmd tid osrc : Nat) (data : List Byte) : List Word :=
  [BitVec.ofNat 32 (ty * 2 ^ 24 + cmd % 256 * 2 ^ 16 + tid % 65536), BitVec.ofNat 32 (osrc % 4096 * 65536 + data.length % 512)] ++ leWords data

/-- Place a record in the receive FIFO if it fits: E117 (R416). -/
def State.rxRecord (s : State) (r : List Word) : Option State :=
  if s.ring.rxQ.length + r.length ≤ 512 then some ((s.modRing fun x => { x with rxQ := x.rxQ ++ r }).ringEvt 5) else none

/-- Fields of a SYS frame: OSRC, ODST, RHOPS, CMD, TID, DLEN, DATA. -/
def sysOsrc (f : List Byte) : Nat := fget f 26 2 % 4096
def sysOdst (f : List Byte) : Nat := fget f 28 2 % 4096
def sysCmd (f : List Byte) : Nat := fget f 31 1
def sysTid (f : List Byte) : Nat := fget f 32 2
def sysDlen (f : List Byte) : Nat := fget f 34 2
def sysData (f : List Byte) : List Byte := (f.drop 36).take (sysDlen f)

/-- DLEN within 0 to 256 and within the payload. -/
def sysLenOk (f : List Byte) : Bool := decide (sysDlen f ≤ 256 ∧ sysDlen f + 10 ≤ fget f 24 2 ∧ (sysData f).length = sysDlen f)

/-- A SYS_REQ for this unit has arrived whole. -/
def State.preTakes (s : State) (fcs : Bool) (f : List Byte) : Bool :=
  fcs && s.ring.joined && fget f 12 2 == 0x88B5 && fget f 15 1 == 0x20 && s.dstOurs f && sysOdst f == s.sysAddr

/-- A SYS_REQ that arrives during the pre-reset phase gets the answer of step 4, NAK 0x05 (R94): held with the other answers. -/
def State.preSysReq (s : State) (fcs : Bool) (f : List Byte) : State :=
  if s.preTakes fcs f then
    let t := s.sysAnswer (sysOsrc f) 0x05 (sysTid f) []
    ((t.setWire s.wire).modSys fun z =>
      { z with preAnswers := t.sys.preAnswers ++ [(true, (t.wire.take (t.wire.length - s.wire.length)).reverse)] })
  else s

/-- Reception of a SYS_REQ for this unit: NAK 0x07 on a bad length, else `act`. -/
def State.sysReq (s : State) (onB fcs : Bool) (f : List Byte) (ok : Nat → Bool) (act : State → State) : State :=
  if s.sys.phase == .pre then s.preSysReq fcs f else s.ringTake onB fcs f 0x20 fun s =>
    if sysOdst f != s.sysAddr || !ok (sysCmd f) then s
    else if sysLenOk f then act s else s.sysAnswer (sysOsrc f) 0x07 (sysTid f) []

/-- SYS_PING (R415): ACK echoing DATA. -/
def execSysPing (onB fcs : Bool) (f : List (BitVec 8)) (s : State) : Host.Outcome State Fault Refusal := .next <|
  s.sysReq onB fcs f (· == 1) fun s => s.sysAnswer (sysOsrc f) 0 (sysTid f) (sysData f)

/-- SYS_MAIL (R415, R416). -/
def execSysMail (onB fcs : Bool) (f : List (BitVec 8)) (s : State) : Host.Outcome State Fault Refusal := .next <|
  s.sysReq onB fcs f (· == 3) fun s =>
    match s.rxRecord (sysRecord 0x20 3 (sysTid f) (sysOsrc f) (sysData f)) with
    | some t => t.sysAnswer (sysOsrc f) 0 (sysTid f) []
    | none => s.sysAnswer (sysOsrc f) 0x03 (sysTid f) []

/-- SYS_QUERY (R415, R416): answered by the owning tenant, or NAK 0x03 where the record does not fit. -/
def execSysQuery (onB fcs : Bool) (f : List (BitVec 8)) (s : State) : Host.Outcome State Fault Refusal := .next <|
  s.sysReq onB fcs f (· == 4) fun s =>
    match s.rxRecord (sysRecord 0x20 4 (sysTid f) (sysOsrc f) (sysData f)) with
    | some t => t.modRing fun r => { r with queries := r.queries ++ [(sysOsrc f, sysTid f)] }
    | none => s.sysAnswer (sysOsrc f) 0x03 (sysTid f) []

/-- SYS_UNKNOWN_COMMAND (R415): NAK 0x01. -/
def execSysUnknownCommand (onB fcs : Bool) (f : List (BitVec 8)) (s : State) : Host.Outcome State Fault Refusal := .next <|
  s.sysReq onB fcs f (fun c => c == 0 || c > 4) fun s => s.sysAnswer (sysOsrc f) 0x01 (sysTid f) []

/-- SYS_RESP_RX (R416). -/
def execSysRespRx (onB fcs : Bool) (f : List (BitVec 8)) (s : State) : Host.Outcome State Fault Refusal := .next <|
  s.ringTake onB fcs f 0x21 fun s =>
    if sysOdst f != s.sysAddr then s
    else
      let t := (s.rxRecord (sysRecord 0x21 (sysCmd f) (sysTid f) (sysOsrc f) (sysData f))).getD s
      if sysCmd f == 0 then t else t.nakRx

/-- QUERY_TIMEOUT (R415): NAK 0x06 from hardware. -/
def execQueryTimeout (osrc : BitVec 12) (tid : BitVec 16) (s : State) : Host.Outcome State Fault Refusal := .next <|
  s.whenUp fun s =>
    if s.ring.queries.contains (osrc.toNat, tid.toNat) then
      (s.modRing fun r => { r with queries := r.queries.erase (osrc.toNat, tid.toNat) }).sysAnswer osrc.toNat 0x06 tid.toNat []
    else s

/-- Ring `r` is set in a 64-bit map at `a`. -/
def State.ringBit (s : State) (a r : Nat) : Bool := bitOf (s.reg64 a) r

/-- The unit's own answer to its request, as a record (R416). -/
def State.localNak (s : State) (code tid odst : Nat) : State :=
  ((s.rxRecord (sysRecord 0x21 code tid odst [])).getD s).nakRx

/-- Carry out one whole transmit entry (R415, R416). -/
def State.txEntry (s : State) (w0 w1 : Nat) (data : List Byte) : State :=
  let ty := bitsOf w0 31 24
  let st := bitsOf w0 23 16
  let tid := bitsOf w0 15 0
  let odst := bitsOf w1 27 16
  if ty = 0x20 then
    if odst / 64 != s.get NODE_RINGNO && !s.ringBit (RING_ROUTE 0) (odst / 64) then s.localNak 0x04 tid odst
    else s.originate 0x20 (s.sysDst odst) (sysPay s.sysAddr odst 8 st tid data)
  else (s.modRing fun r => { r with queries := r.queries.erase (odst, tid) }).sysAnswer odst st tid data

/-- A transmit entry is malformed: another TYPE, DLEN above 256 or a bit set that its layout does not have (R416). -/
def txBad (w0 w1 : Nat) : Bool :=
  let ty := bitsOf w0 31 24
  (ty != 0x20 && ty != 0x21) || decide (bitsOf w1 8 0 > 256) || bitsOf w1 31 28 != 0 || bitsOf w1 15 9 != 0

/-- Take whole entries from the transmit FIFO (R416), at most `n`. -/
def txDrain : Nat → State → State
  | 0, s => s
  | n + 1, s =>
    match s.ring.txQ with
    | w0 :: w1 :: rest =>
      if !s.ring.joined then s
      else if txBad w0.toNat w1.toNat then
        txDrain n ((s.modRing fun r => { r with txQ := rest }).localNak 0x07 (bitsOf w0.toNat 15 0) (bitsOf w1.toNat 27 16))
      else
        let len := bitsOf w1.toNat 8 0
        let k := (len + 3) / 4
        if rest.length < k then s
        else txDrain n ((s.modRing fun r => { r with txQ := rest.drop k }).txEntry w0.toNat w1.toNat ((wordBytes (rest.take k)).take len))
    | _ => s

/-- A write of RING_TXPUSH (R416). -/
def State.txPush (s : State) (w : Word) : State :=
  if s.ring.txQ.length < 512 then txDrain 512 (s.modRing fun r => { r with txQ := r.txQ ++ [w] }) else s

/-- RING_TX_PUSH (R416). -/
def execRingTxPush (w : Word) (s : State) : Host.Outcome State Fault Refusal := .next <| s.whenUp (·.txPush w)

/-- A read of RING_RXPOP: one word, 0 when empty. -/
def State.ringPop (s : State) : Word × State :=
  match s.ring.rxQ with
  | w :: t => (w, s.modRing fun r => { r with rxQ := t })
  | [] => (0, s)

/-- RING_RX_POP (R416). -/
def execRingRxPop (s : State) : Host.Outcome State Fault Refusal := .next <|
  s.whenUp fun s => let p := s.ringPop; ((p.2).setRdata p.1.toNat)

/-- RING_LISTEN_TIMEOUT (R397): three cycles have passed in LISTEN. -/
def execRingListenTimeout (s : State) : Host.Outcome State Fault Refusal := .next <|
  s.whenUp fun s =>
    if s.ring.st != .listen then s
    else match s.ring.heard with
      | some b => txDrain 512 (s.ringTo b)
      | none => txDrain 512 (s.modRing fun r => { r with st := .elect })

/-- BEACON_LOSS_TIMEOUT (R397). -/
def execBeaconLossTimeout (s : State) : Host.Outcome State Fault Refusal := .next <|
  s.whenUp fun s =>
    if !s.ring.master && (s.ring.st == .closed || s.ring.st == .broken) then s.modRing fun r => { r with st := .elect } else s

/-- ELECTION_TIMEOUT (R397, R398): 16 − MPRIO cycles have passed in ELECT; the unit becomes master and starts in BROKEN. -/
def execElectionTimeout (s : State) : Host.Outcome State Fault Refusal := .next <|
  s.whenUp fun s =>
    if s.ring.st == .elect && s.get RING_CFG_MPRIO != 0 then
      (s.modRing fun r => { r with master := true, munit := s.unitAddr, bcn := none, backA := false, backB := false, runC := 0, runB := 0,
                                   trim := 0 }).ringTo true
    else s

/-- FSEQ_RECORD_LAPSE (R394). -/
def execFseqRecordLapse (src : BitVec 12) (s : State) : Host.Outcome State Fault Refusal := .next <|
  s.whenUp fun s => s.modRing fun r => { r with recs := r.recs.filter fun e => e.1 != src.toNat }

/-! ### Views -/

/-- RING_STAT (13_potrix_ring.md). -/
def State.ringStat (s : State) : Nat :=
  let r := s.ring
  (match r.st with | .off => 0 | .forward => 1 | .listen => 2 | .closed => 3 | .broken => 4 | .elect => 5 | .duplicate => 6) * 2 ^ 29
    + b2n r.master * 2 ^ 28 + b2n r.sync * 2 ^ 27 + b2n r.linkB * 2 ^ 26 + b2n r.linkA * 2 ^ 25 + b2n r.broken * 2 ^ 24
    + r.munit % 64 * 2 ^ 12 + (if s.hasId then s.sysAddr else 0)

/-- RING_FIFO (13_potrix_ring.md). -/
def State.ringFifo (s : State) : Nat := (512 - s.ring.txQ.length) * 2 ^ 16 + s.ring.rxQ.length

end Sys2Proof.Machine
end

