-- ==== Sys2Proof/Machine/Copy.lean ====
section
/-! DEFINITION. Duty and standby (14_duty_standby.md): the pair, the claim lines, received COPY frames, takeover and handover. -/

namespace Sys2Proof.Machine

/-- The copy engine and the claim lines act: SW8 ON and CP_CFG.EN set (R427). -/
def State.cpOn (s : State) : Bool := bitOf s.bg.snap 7 && s.flag CP_CFG_EN

/-- The system address of the partner. -/
def State.partnerAddr (s : State) : Nat := s.get NODE_RINGNO * 64 + s.get CP_CFG_PARTNER

/-! ### The pair (R422, R438) -/

/-- Why pairing is refused: the lowest reason of CP_STAT.REFUSE, 0 for none (R422). DEDUCED, log entry 67: R29 lets unlike members form a
pair and R422 asks for the same MEMBER; the model follows R422 and refuses unlike members with reason 5. -/
def State.pairReason (s : State) (i : PairInfo) : Nat :=
  let slot := s.get ROLE_STAT_CODE
  if !bitOf s.bg.snap 7 || !bitOf i.snap 7 then 1
  else if !(1 ≤ slot && slot ≤ 14 && 1 ≤ i.slot && i.slot ≤ 14 && (slot + 1 == i.slot || i.slot + 1 == slot)) ||
    i.src % 64 != s.get CP_CFG_PARTNER then 2
  else if i.snap != s.bg.snap then 3
  else if i.sig != (s.reg CP_SIG).toNat || i.axmap != s.pairedAxes || i.per != s.get CP_CFG_PER || i.maxage != s.get CP_CFG_MAXAGE then 4
  else if i.member != s.member.pick 1 3 5 9 then 5
  else if !s.ring.joined || i.src / 64 != s.get NODE_RINGNO || s.get RING_CFG_ROLE = 1 then 6
  else if !s.hasId then 7 else 0

/-- CP_STAT.PAIR (R422, R438): the duty knows its standby by the PSTATE the standby reports. -/
def State.pairState (s : State) : Nat :=
  if !s.cpOn then 0
  else match s.cp.pair with
    | none => 2
    | some i =>
      if s.pairReason i ≠ 0 then 1
      else if s.get CP_STAT_ROLE = 1 then (if i.pstate = 3 ∨ i.pstate = 4 then i.pstate else 2)
      else if s.cp.stale then 4
      else if s.cp.com.isSome && s.bg.release == .run then 3 else 2

/-- The pair is judged again; EMCY 0xFF81 once when it becomes refused (R422). -/
def State.pairJudge (s : State) : State :=
  let r := match s.cp.pair with | some i => if s.cpOn then s.pairReason i else 0 | none => 0
  let s1 := (s.put CP_STAT_PAIR s.pairState).put CP_STAT_REFUSE r
  let s2 := s1.modCp fun c => { c with refused := r }
  if r ≠ 0 ∧ s.cp.refused = 0 then s2.emcy 0xFF81 [r] else s2

/-- PAIR_FRAME_RX (R422, R436): the partner's frame is recorded and judged. -/
def execPairFrameRx (onB fcs : Bool) (f : List (BitVec 8)) (s : State) : Host.Outcome State Fault Refusal := .next <|
  s.ringTake onB fcs f 0x33 fun s =>
    let i : PairInfo := ⟨fget f 26 1, fget f 27 1, fget f 28 1, fget f 29 1, fget f 30 4, fget f 34 4, fget f 38 1, fget f 39 1,
      fget f 40 1, fget f 41 1, fget f 16 2⟩
    if !s.flag CP_CFG_EN then s
    else
      (((s.modCp fun c => { c with pair := some i, lost := false }).setReg CP_PSIG (BitVec.ofNat 32 i.sig)).setReg CP_PSEAL
        (BitVec.ofNat 32 (i.pstate * 256 + i.snap))).pairJudge

/-- PARTNER_PAIR_LOST (R438): EMCY 0xFF84 once. -/
def execPartnerPairLost (s : State) : Host.Outcome State Fault Refusal := .next <|
  s.whenUp fun s => if !s.cpOn || s.cp.lost then s else (s.modCp fun c => { c with lost := true }).emcy 0xFF84 []

/-- SNAPSHOT_STALE (R438): EMCY 0xFF82 once on each entry. -/
def execSnapshotStale (s : State) : Host.Outcome State Fault Refusal := .next <|
  s.whenUp fun s =>
    if s.get CP_STAT_ROLE != 2 || s.cp.stale then s
    else (((s.modCp fun c => { c with stale := true }).cpEvt 3).emcy 0xFF82 ((leBytes 4 (s.reg CP_EPOCH).toNat).map (·.toNat))).pairJudge

/-! ### Received epochs (R437, R439) -/

/-- Epoch `a` is newer than `b`: the 32-bit numbers compared around their wrap. -/
def newerEpoch (a b : Nat) : Bool := let d := (a + 2 ^ 32 - b) % 2 ^ 32; decide (1 ≤ d ∧ d < 2 ^ 31)

/-- Epoch `n` is newer than the committed one, or none is committed (R437). -/
def State.copyNewer (s : State) (n : Nat) : Bool := match s.cp.com with | some m => newerEpoch n m.epoch | none => true

/-- Make room for a frame of epoch `n`: none where it is not newer than the committed epoch, or than the epoch being received; a
partial epoch it overtakes is discarded (R437). -/
def State.copyPart (s : State) (n : Nat) : Option (CopyPart × State) :=
  if !s.copyNewer n then none
  else match s.cp.part with
    | none => some (⟨n, [], none, none⟩, s)
    | some p =>
      if p.epoch = n then some (p, s)
      else if newerEpoch n p.epoch then some (⟨n, [], none, none⟩, (s.modCp fun c => { c with disc := true }).bump CP_CNT_DISCARDED)
      else none

/-- Byte `i` of a partly received image. -/
def CopyPart.byte (p : CopyPart) (i : Nat) : Option Byte :=
  (p.data.find? fun d => decide (d.1 ≤ i ∧ i < d.1 + d.2.length)).map fun d => d.2.getD (i - d.1) 0

/-- The whole image, when every byte, a TRAILER whose CRC matches and a right COMMIT are present (R437). -/
def CopyPart.whole (p : CopyPart) : Option (List Byte) :=
  match p.trailer, p.commit with
  | some (len, crc), some _ =>
    let l := (List.range len).filterMap p.byte
    if l.length = len ∧ crc32 l = crc then some l else none
  | _, _ => none

/-- Counts of a revolution of a feedback channel, where it needs a reference relation (R439). -/
def State.chanTurn (s : State) (c : Nat) : Option Nat :=
  if c < 8 then some (s.get (INC_CPR_CPR c)) else if 0x10 ≤ c ∧ c < 0x18 then some (6 * s.get (HALL_CFG_PP (c - 0x10))) else none

/-- REF′ of each source of a paired axis (R439): (C_S − A_D) mod the counts of a revolution. -/
def State.copyRefs (s : State) (m : CopyImg) : List (Nat × Nat) :=
  (List.range 8).filterMap fun a => (m.axis a).bind fun b =>
    let c := lget b 20 1
    match s.chanTurn c, s.cp.latch.find? fun e => e.1 == c with
    | some n, some e => some (c, (((e.2 : Int) - lget b 24 4) % (n : Int)).toNat)
    | _, _ => none

/-- A source drifted: REF′ moved by more than DRIFTTOL, signed modulo the revolution; EMCY 0xFF85 once (R439). -/
def State.copyDrift (s : State) (old : List (Nat × Nat)) (e : Nat × Nat) : State :=
  match old.find? fun o => o.1 == e.1, s.chanTurn e.1 with
  | some o, some n =>
    let d := ((e.2 : Int) - o.2) % (n : Int)
    let dist := min d ((n : Int) - d)
    if (s.get CP_TO_DRIFTTOL : Int) < dist ∧ !s.cp.drift.contains e.1 then
      ((s.put CP_STAT_DRIFT 1).modCp fun c => { c with drift := e.1 :: c.drift }).emcy 0xFF85 [e.1]
    else s
  | _, _ => s

/-- The epoch received is committed when it is whole (R437 to R439). -/
def State.tryCommit (s : State) : State :=
  match s.cp.part with
  | none => s
  | some p => match p.whole with
    | none => s
    | some l =>
      let m : CopyImg := ⟨p.epoch, l, []⟩
      let refs := s.copyRefs m
      let old := match s.cp.com with | some o => o.refs | none => []
      let s1 := s.modCp fun c => { c with com := some { m with refs := refs }, part := none, disc := false, stale := false }
      let s2 := ((s1.put CP_EPOCH_V p.epoch).wrapUp CP_CNT_COMMITS).wrapUp CP_STAT_SLOT
      (refs.foldl (fun t e => t.copyDrift old e) (s2.cpEvt 0)).pairJudge

/-- A COPY frame from the partner, taken by the standby: `upd` is what it adds to its epoch (R436, R437). -/
def State.copyRx (s : State) (onB fcs : Bool) (f : List Byte) (ty : Nat) (g : CopyPart → CopyPart) : State :=
  s.ringTake onB fcs f ty fun s =>
    if !s.cpOn || s.get CP_STAT_ROLE != 2 || fget f 16 2 != s.partnerAddr then s
    else match s.copyPart (fget f 26 4) with
      | none => s
      | some (p, t) => (t.modCp fun c => { c with part := some (g p) }).tryCommit

/-- COPY_DATA_RX (R436, R437): DLEN bytes of the image from OFS on. -/
def execCopyDataRx (onB fcs : Bool) (f : List (BitVec 8)) (s : State) : Host.Outcome State Fault Refusal := .next <|
  s.copyRx onB fcs f 0x30 fun p => { p with data := (fget f 30 2, (f.drop 36).take (fget f 32 2)) :: p.data }

/-- COPY_TRAILER_RX (R436, R437). -/
def execCopyTrailerRx (onB fcs : Bool) (f : List (BitVec 8)) (s : State) : Host.Outcome State Fault Refusal := .next <|
  s.copyRx onB fcs f 0x31 fun p => { p with trailer := some (fget f 30 2, fget f 32 4) }

/-- COPY_COMMIT_RX (R436, R437): a CWORD that is not the complement of the epoch commits nothing. -/
def execCopyCommitRx (onB fcs : Bool) (f : List (BitVec 8)) (s : State) : Host.Outcome State Fault Refusal := .next <|
  s.copyRx onB fcs f 0x32 fun p => if fget f 30 4 + fget f 26 4 = 2 ^ 32 - 1 then { p with commit := some (fget f 34 1) } else p

/-! ### The claim lines (R427 to R432) -/

/-- PARTNER_LINE_CHANGE (R427, R432): the filtered TWIN_PCLAIM_N reads `high`. -/
def execPartnerLineChange (high : Bool) (s : State) : Host.Outcome State Fault Refusal := .next <|
  s.whenUp fun s =>
    if s.cp.partnerHigh == high then s
    else
      let s1 := s.modCp fun c =>
        { c with partnerHigh := high, seen := c.seen || !high, quiet := c.quiet && high
                 barred := if high then (if c.barred = 2 then 0 else c.barred) else (if c.barred = 1 then 2 else c.barred) }
      if s.cpOn then s1.cpEvt 1 else s1

/-- Lamps that the committed image shows dark start dark with FOUND 1, and their reactions act (R426). -/
def State.lampsFromImage (s : State) : State :=
  match s.copyImg with
  | none => s
  | some m => forFin 8 (fun n t => if bitOf (lget m.bytes 20 1) n then t.lampDarken n 1 else t) s

/-- Steps 1 and 2 of a takeover (R440, R441): any partial epoch is discarded, the axes are judged, brakes are commanded. -/
def State.takeover (s : State) : State :=
  let warm := (List.finRange 8).foldl (fun n a => if bitOf s.pairedAxes a.1 && s.warmAxis a then n + 2 ^ a.1 else n) 0
  let partly := s.cp.disc || s.cp.part.isSome
  let cause := match s.copyImg with | some m => if bitOf (lget m.bytes 21 1) 0 then 2 else 1 | none => 1
  let age := match s.copyImg with | some m => s.imgAge m / 1000 | none => 2 ^ 24 - 1
  let s1 := if s.cp.part.isSome then s.bump CP_CNT_DISCARDED else s
  let s2 := (s1.modCp fun c => { c with part := none, take := some { warm := warm, cause := cause, age := age, partly := partly } }).put
    CP_STAT_ROLE 3
  forFin 8 (fun a t => if !bitOf t.pairedAxes a then t
    else
      let rel := match t.copyImg.bind fun m => m.axis a with | some b => bitOf (lget b 6 1) 0 | none => false
      t.brakeCmd a (bitOf warm a && bitOf (t.get CP_AX_BRKHOLD) a && rel)) s2

/-- CLAIM_TAKE (R427, R429, R440): the partner line has read high for the time of R427 and reads high on the claiming edge. -/
def execClaimTake (s : State) : Host.Outcome State Fault Refusal := .next <|
  s.whenUp fun s =>
    if !s.cpOn || s.cp.claim || !s.cp.partnerHigh || s.cp.barred != 0 || s.bg.latched then s
    else
      let s1 := s.modCp fun c => { c with claim := true, quiet := false, found := false, ho := 0 }
      let s2 := if s.cp.seen then s1.takeover else s1.put CP_STAT_ROLE 1
      s2.lampsFromImage.judgeLamps.pairJudge

/-- CLAIM_TIMER_EXPIRY (R428): the analog timer ran out because the controller stopped; a controller that runs releases as R430
says. -/
def execClaimTimerExpiry (s : State) : Host.Outcome State Fault Refusal := .next <|
  if s.clocked then s.claimRelease
  else s.modCp fun c => { c with claim := false, sending := false, quiet := false, found := false, take := none, ho := 0 }

/-- The reference relation goes into the channel: INC_REF, or an offset of HALL_CNT (R439, R440). -/
def State.applyRef (s : State) (e : Nat × Nat) : State :=
  if e.1 < 8 then s.put (INC_REF_V e.1) e.2
  else s.sput (HALL_CNT_V (e.1 - 0x10)) (s.sget (HALL_CNT_V (e.1 - 0x10)) - e.2)

/-- Group blocks of an image (R434). -/
def CopyImg.groups (m : CopyImg) : List (List Byte) :=
  let n := ((List.range 8).filter fun a => bitOf (lget m.bytes 16 1) a).length
  (List.range (lget m.bytes 17 1)).map fun i => (m.bytes.drop (32 + 64 * n + 24 * i)).take 24

/-- One group record applied (R440, R444): with the old duty as leader the new duty is asked to lead, with the included set of the
record, the old duty replaced by its own members with full weight. -/
def State.applyGroup (s : State) (b : List Byte) : State :=
  let g : Fin 16 := ⟨lget b 0 1 % 16, Nat.mod_lt _ (by decide)⟩
  let old := s.get CP_CFG_PARTNER
  let s1 := (((s.put (GRP_STAT_PSEQ g) (lget b 4 2)).put (GRP_G_V g) (lget b 8 4)).put (GRP_DEM_V g) (lget b 12 4)).put
    (GRP_STAT_LEADER g) (lget b 2 1)
  let s2 := (s.ownMembers g).foldl (fun t a => t.modMem a fun m => { m with droop := lget b 1 1 == 4 }) s1
  if lget b 2 1 ≠ old then s2
  else
    let own := (s.ownMembers g).map fun a => (s.memKey a, 256)
    s2.modGrp g fun x =>
      { x with force := true, inc := (x.inc.filter fun e => bitOf (lget b 16 8) (e.1 / 8) && e.1 / 8 != old) ++ own }

/-- Step 4 of a takeover (R440): the image is applied. -/
def State.applyImage (s : State) : State :=
  match s.copyImg with
  | none => s
  | some m =>
    let s1 := m.refs.foldl (fun t e => t.applyRef e) s
    let s2 := forFin 8 (fun a t => match m.axis a with
      | some b => (t.put (AX_MODESEL_MODESEL a) (lget b 2 1)).modMem a fun x =>
          { x with r0 := sgn 32 (lget b 32 4), n0 := sgn 32 (lget b 36 4) * 65536 }
      | none => t) s1
    m.groups.foldl (fun t b => t.applyGroup b) s2

/-- PORTS_QUIET (R431, R440): every paired port has been quiet for 5 us; `since` is the time in clk since the last SCLK edge on each port,
from which the torque gap counts (R443). A unit taking over carries out steps 4 and 5. -/
def execPortsQuiet (since : List Nat) (s : State) : Host.Outcome State Fault Refusal := .next <|
  s.whenUp fun s =>
    if !s.cpOn then s
    else
      let s1 := s.modCp fun c => { c with quiet := true, found := c.found || c.claim }
      match s.cp.take with
      | none => s1
      | some tk =>
        if tk.run then s1
        else
          let s2 := s1.applyImage
          let s3 := forFin 6 (fun p t => if t.pairedPort p && t.ports[p].st == .off then t.portStream p else t) s2
          let s4 := s3.modCp fun c =>
            { c with take := some { tk with run := true, sts := Vector.ofFn fun p => if s3.pairedPort p && s3.ports[p].st == .stream then s3.fitted p else [] }
                     gap := Vector.ofFn fun a => if bitOf s3.pairedAxes a.1 then some (s3.clk - since.getD (s3.lead a) 1250) else c.gap[a] }
          s4.takeCheck

/-- Count and report a claim conflict of the kind given in EMCY 0xFF83 (R432). -/
def State.conflict (s : State) (kind : Nat) : State :=
  (((s.put CP_STAT_CONFLICT 1).bump CP_CNT2_CONFLICTS).cpEvt 4).emcy 0xFF83 [kind]

/-- QUIET_CHECK_TIMEOUT (R432): not every paired port was quiet within 100 us of the claiming edge. -/
def execQuietCheckTimeout (s : State) : Host.Outcome State Fault Refusal := .next <|
  s.whenUp fun s =>
    if !s.cp.claim || s.cp.found then s
    else (s.claimRelease.conflict 1).modCp fun c => { c with barred := 1 }

/-- A paired port streams. -/
def State.streamsPaired (s : State) : Bool := (List.finRange 6).any fun p => s.pairedPort p && s.ports[p].st == .stream

/-- CLAIM_CONFLICT (R432): the partner line has read low for 1 ms while the unit holds the claim. -/
def execClaimConflict (s : State) : Host.Outcome State Fault Refusal := .next <|
  s.whenUp fun s =>
    if !s.cp.claim || s.cp.partnerHigh then s
    else if s.streamsPaired then s.conflict 2
    else if s.get CP_CFG_PARTNER < s.unitAddr then (s.claimRelease).conflict 3
    else s

/-! ### Handover and the other commands (R435, R445, R448) -/

/-- HANDOVER_REQUEST (R445). -/
def execHandoverRequest (s : State) : Host.Outcome State Fault Refusal := .next <| s.whenUp fun s => s.handoverAsk.2

/-- A write of CP_CTRL.USRFLIP toggles the buffer from the next copy point (R435). -/
def State.usrFlip (s : State) : State := s.wrapUp CP_STAT_USRBUF

/-- USER_BUFFER_FLIP (R435). -/
def execUserBufferFlip (s : State) : Host.Outcome State Fault Refusal := .next <| s.whenUp State.usrFlip

/-- CP_CTRL.CLRCNT: CP_CNT and CP_CNT2 clear. -/
def State.copyClr (s : State) : State := (s.setReg CP_CNT 0).setReg CP_CNT2 0

/-- COPY_CLEAR_COUNT (R448). -/
def execCopyClearCount (s : State) : Host.Outcome State Fault Refusal := .next <| s.whenUp State.copyClr

/-- The bits of a write of CP_CTRL. -/
def State.writeCpCtrl (s : State) (v : Nat) : State :=
  let s1 := if bitOf v 1 then s.copyClr else s
  let s2 := if bitOf v 2 then s1.usrFlip else s1
  if bitOf v 3 then s2.handoverAsk.2 else s2

/-- CP_AGE (R438): microseconds, saturating; all ones with no committed epoch. -/
def State.cpAge (s : State) : Nat :=
  match s.cp.com with
  | some m => min (s.imgAge m / 1000) (2 ^ 32 - 1)
  | none => 2 ^ 32 - 1

/-- CP_STAT with its line bits. -/
def State.cpStat (s : State) : Nat :=
  ((s.reg CP_STAT).toNat &&& 0xFC7FFFFF) + b2n s.cp.claim * 2 ^ 25 + b2n (!s.cp.partnerHigh) * 2 ^ 24 + b2n s.cp.quiet * 2 ^ 23

end Sys2Proof.Machine
end

