-- ==== Sys2Proof/Machine/Mem.lean ====
section
/-! DEFINITION. Memory (R30, R151): bytes, SECDED errors, the blocks of the memory map, and the protection check of R139 with the
fixed rules of R140 and the windows of R137. -/

namespace Sys2Proof.Machine

/-! ### Blocks of the map (R30, R31) -/

/-- Is `a` in `[lo, lo + n)`? -/
def inRange (a lo n : Nat) : Bool := decide (lo ≤ a) && decide (a < lo + n)

def isRom (a : Nat) : Bool := inRange a 0 0x10000
/-- TCM of core `n`. The TCM of a core the member lacks stays memory: R25 speaks of registers alone (DESIGN CHOICE, log entry 66). -/
def tcmOf (a : Nat) : Option Nat := (List.range 4).find? fun n => inRange a (0x08000000 + n * 0x100000) 0x40000
def isSram (a : Nat) : Bool := inRange a 0x20000000 0x400000
def isBank (a : Nat) : Bool := inRange a 0x10000000 0x1000000
def isStore (a : Nat) : Bool := inRange a 0x11000000 0x100000
def isOption (a : Nat) : Bool := inRange a 0x11800000 0x1000
/-- TCM or shared SRAM: read and written by cores and masters, with SECDED. -/
def isRam (a : Nat) : Bool := (tcmOf a).isSome || isSram a
/-- Code flash, parameter store, option bytes: written only through the store controller (R140). -/
def isFlash (a : Nat) : Bool := isBank a || isStore a || isOption a
/-- The peripheral range (R9). -/
def isPeriph (a : Nat) : Bool := inRange a 0x40000000 0x1B0000

/-- Peripheral blocks that R30 lists (R31, R32). -/
def periphMapped (a : Nat) : Bool :=
  inRange a 0x40000000 0x50000 || inRange a 0x40100000 0x6000 || inRange a 0x40110000 0x8000 || inRange a 0x40120000 0x90000

/-- The address lies in a block of the memory map. -/
def mapped (a : Nat) : Bool := isRom a || isRam a || isFlash a || periphMapped a

/-! ### Bytes -/

/-- What an unlisted byte reads as (log entry 5): erased flash all ones, everything else 0. -/
def memDefault (a : Nat) : Byte := if isBank a || isStore a then 0xFF else 0

/-- The header of a sector of the parameter store, 12 bytes: mark, erase count, sequence number (R519). -/
def State.sectorHeader (s : State) (k : Nat) : List Byte :=
  leBytes 4 0x53510001 ++ leBytes 4 (sparseGet 0 k s.store.wear) ++ leBytes 4 (sparseGet k k s.store.seqs)

/-- One byte of memory. The option bytes are the two records of `sys` with zeros between (R107). -/
def State.memByte (s : State) (a : Nat) : Byte :=
  if isOption a then
    let o := a - 0x11800000
    if o < 64 then s.sys.opt0.getD o 0 else if 0x800 ≤ o ∧ o < 0x840 then s.sys.opt1.getD (o - 0x800) 0 else 0
  else if isStore a && decide (a % 4096 < 12) then (s.sectorHeader ((a - 0x11000000) / 4096)).getD (a % 4096) 0
  else sparseGet (memDefault a) a s.mem

/-- Write one byte, keeping the canonical form. -/
def State.setByte (s : State) (a : Nat) (b : Byte) : State := { s with mem := sparseSet (memDefault a) a b s.mem }

/-- Bytes from `a` on. -/
def State.memBytes (s : State) (a n : Nat) : List Byte := (List.range n).map fun i => s.memByte (a + i)

/-- Write bytes from `a` on. -/
def State.setBytes : Nat → List Byte → State → State
  | _, [], s => s
  | a, b :: t, s => State.setBytes (a + 1) t (s.setByte a b)

/-- Fill `n` bytes from `a` with their value at erase: entries dropped, no matter how many. -/
def State.dropBytes (s : State) (a n : Nat) : State := { s with mem := s.mem.filter fun c => !inRange c.1 a n }

/-- Words written whole hold new check bits: no error stays marked from `a` on (R92, R151). -/
def State.dropErrs (s : State) (a n : Nat) : State := { s with memErr := s.memErr.filter fun c => !inRange c.1 a n }

/-- TCM and shared SRAM read as their unlisted value again. -/
def State.dropRam (s : State) : State := { s with mem := s.mem.filter fun c => !isRam c.1 }

/-! ### SECDED of TCM and shared SRAM (R151) -/

/-- Error held in the word at `a`: 0 none, 1 single-bit, 2 double-bit. -/
def State.wordErr (s : State) (a : Nat) : Nat := sparseGet 0 (a / 4 * 4) s.memErr
def State.setErr (s : State) (a e : Nat) : State := { s with memErr := sparseSet 0 (a / 4 * 4) e s.memErr }

/-- No word holds an error. -/
def State.noErrs (s : State) : State := { s with memErr := [] }

/-- Memory code of MEMERR_STAT.MEM. -/
def memCode (a : Nat) : Nat := match tcmOf a with | some n => n + 1 | none => 0

/-- Record an error met by master `m` (MEMERR_STAT, MEMERR_ADDR, MEMERR_CNT, E009 or E010). -/
def State.memErrRecord (s : State) (m a : Nat) (unc : Bool) : State :=
  let s1 := (((s.put MEMERR_STAT_LASTUNC (b2n unc)).put MEMERR_STAT_SYND (Config.syndrome s.freeCtr).toNat).put MEMERR_STAT_MASTER m).put
    MEMERR_STAT_MEM (memCode a)
  let s2 := ((s1.put MEMERR_ADDR_ADDR (a / 4 * 4)).setFreeCtr (s.freeCtr + 1))
  if unc then ((s2.put MEMERR_STAT_UNC 1).bump MEMERR_CNT_UNC).strobe 10
  else ((s2.put MEMERR_STAT_CORR 1).bump MEMERR_CNT_CORR).strobe 9

/-- A read of `n` bytes (within one word) by master `m`: none where a double-bit error lies in the word (R151). -/
def State.memRead (s : State) (m a n : Nat) : Option Nat × State :=
  let v := leNat (s.memBytes a n)
  if !isRam a then (some v, s)
  else match s.wordErr a with
    | 0 => (some v, s)
    | 1 => (some v, (s.memErrRecord m a false).setErr a 0)
    | _ => (none, s.memErrRecord m a true)

/-- A write of a word by a master other than core `c` ends the reservations that cover it (R127). -/
def State.breakRes (s : State) (c : Option (Fin 4)) (a : Nat) : State :=
  (s.modPr fun z => { z with cores := Vector.ofFn fun i =>
    if s.pr.cores[i].res == some (a / 4 * 4) && c != some i then { s.pr.cores[i] with res := none } else s.pr.cores[i] })

/-- A store of `n` bytes (1, 2 or 4, aligned) by master `m`, core `c` where a core stores: false where the read half of a byte or
halfword store meets a double-bit error (R151). A full word store clears the error; an armed injection acts (R154). A store of tenant 0 to
the boot ROM before BOOT_DONE, which R140 does not forbid, changes its bytes (DESIGN CHOICE, log entry 66). -/
def State.memWrite (s : State) (m : Nat) (c : Option (Fin 4)) (a n v : Nat) : Bool × State :=
  let bytes := leBytes n v
  if n = 4 then
    let s1 := State.setBytes a bytes ((s.breakRes c a).setErr a 0)
    let inj := s.get MEMERR_INJ_MODE
    let own := match c with
      | some i => s.pr.injCore == some i && (isSram a || tcmOf a == some i.1)
      | none => false
    if own && (inj == 1 || inj == 2) then (true, (s1.setErr a inj).put MEMERR_INJ_MODE 0) else (true, s1)
  else
    let r := s.memRead m a 1
    match r.1 with
    | none => (false, r.2)
    | some _ => (true, State.setBytes a bytes (r.2.breakRes c a))

/-! ### The check (R137, R139 to R142) -/

/-- Kinds of access, as TYPE of mfcause groups them. -/
inductive Acc | fetch | load | store | amo | lr | sc
  deriving DecidableEq, Repr

/-- Rights an access needs, as bits of TW_BASE: R 1, W 2, X 4 (R137). -/
def Acc.need : Acc → Nat
  | .fetch => 4 | .load | .lr => 1 | .store => 2 | .amo | .sc => 3

/-- TYPE of mfcause. -/
def Acc.typ : Acc → Nat
  | .fetch => 1 | .load | .lr => 2 | .store | .sc => 3 | .amo => 4

/-- The access writes. -/
def Acc.writes : Acc → Bool
  | .store | .amo | .sc => true | .fetch | .load | .lr => false

/-- Window `w` of tenant `t` is enabled and covers `n` bytes from `a` (R137). -/
def State.winCovers (s : State) (t w a n : Nat) : Bool :=
  s.flag (TW_LIM_EN t w) && decide (s.get (TW_BASE_BASE t w) ≤ s.get (TW_LIM_LIMIT t w)) &&
  decide (s.get (TW_BASE_BASE t w) ≤ a / 4096) && decide ((a + n - 1) / 4096 ≤ s.get (TW_LIM_LIMIT t w))

/-- Rights of a window, U at bit 3. -/
def State.winRights (s : State) (t w : Nat) : Nat := fieldOf (s.reg (TW_BASE t w)) 3 0

/-- Ownership bit of the block at a peripheral address (R141); none where its instance is absent (R25). -/
def State.ownBit (s : State) (a : Nat) : Option Nat :=
  match a / 0x10000 with
  | 0x4000 => some 0 | 0x4001 => some 1 | 0x4003 => some 2 | 0x4004 => some 3
  | 0x4010 => let p := a % 0x10000 / 0x1000; if p < s.nPorts then some (4 + p) else none
  | 0x4011 => let n := a % 0x10000 / 0x1000; if n < s.nAxes then some (10 + n) else none
  | 0x4012 => some 18 | 0x4013 => some 19 | 0x4014 => some 20 | 0x4015 => some 21 | 0x4016 => some 22
  | 0x4017 => some 23 | 0x4018 => some 24 | 0x4019 => some 25 | 0x401A => some 26
  | _ => none

/-- Who makes an access: its tenant, U mode, a DMA channel. -/
structure Issuer where
  tenant : Nat
  umode : Bool := false
  dma : Bool := false
  deriving DecidableEq, Repr

/-- A rule of R140 forbids the access. -/
def State.fixedRule (s : State) (i : Issuer) (k : Acc) (a : Nat) : Bool :=
  (isRom a && s.bootDone) ||
  (k.writes && isFlash a) ||
  (k == .fetch && !(isRam a || isBank a || (isRom a && i.tenant == 0 && !s.bootDone))) ||
  ((k == .lr || k == .sc || k == .amo) && !isRam a) ||
  (i.dma && a / 0x10000 == 0x4002)

/-- Blocks the window and ownership checks pass over: the tenant window unit (R142), SYS_ID and SYS_RES read (R33). -/
def openAccess (k : Acc) (a : Nat) : Bool := a / 0x10000 == 0x4002 || (!k.writes && inRange a 0x40000000 16)

/-- Checks 1 to 7 of R139 on `n` bytes from `a`: the reason that fails and WIN of mfcause. -/
def State.check (s : State) (i : Issuer) (k : Acc) (a n : Nat) : Option (Nat × Nat) :=
  if !mapped a then some (5, 0x1F)
  else if s.fixedRule i k a then some (7, 0x1F)
  else if isPeriph a && (n != 4 || a % 4 != 0) then some (6, 0x1F)
  else if (i.tenant = 0 && !s.bootDone) || openAccess k a then none
  else
    let cov := (List.range 16).filter fun w => s.winCovers i.tenant w a n
    let need := k.need
    let ok := cov.filter fun w => s.winRights i.tenant w &&& need == need
    match cov with
    | [] => some (1, 0x1F)
    | w0 :: _ =>
      if ok.isEmpty then some (2, w0)
      else if i.umode && !i.dma && !(ok.any fun w => bitOf (s.winRights i.tenant w) 3) then some (3, w0)
      else if isPeriph a then
        match s.ownBit a with
        | some b => if bitOf (s.get (TEN_OWN_OWN i.tenant)) b then none else some (4, 0x1F)
        | none => none
      else none

end Sys2Proof.Machine
end

