-- ==== Sys2Proof/Machine/Tenants.lean ====
section
/-! DEFINITION. Tenants on the cores (05_cores_tenants.md), the event controller (06_events_dma.md), stopping a DMA channel, answers
of abandonment (R94, R99), containment and the reset of a tenant. -/

namespace Sys2Proof.Machine

/-! ### CAN frames and abandoned requests (R94, R99, R102) -/

/-- Change CAN channel `ch`. -/
def State.modCan (s : State) (ch : Fin 2) (f : CanCh → CanCh) : State := s.modSrv fun v => { v with can := upd v.can ch f }

/-- A channel may transmit: enabled, identity valid, not listen-only, not bus-off (R477, R479). -/
def State.canTx (s : State) (ch : Fin 2) : Bool :=
  s.flag (CAN_CFG_EN ch) && s.hasId && !s.flag (CAN_CFG_LOM ch) && s.srv.can[ch].state != 2

/-- Send a frame: identifier and bytes; an FD frame on a channel with FD set (R476). -/
def State.canSend (s : State) (ch : Fin 2) (id : Nat) (data : List Byte) : State :=
  if s.canTx ch then (s.wrapUp (CAN_CNT_TXOK ch)).send ⟨.can ch, [id, b2n (s.flag (CAN_CFG_FD ch))], data⟩ else s

/-- The node ID (R477). -/
def State.nodeId (s : State) : Nat := s.get NODE_NODEID

/-- An SDO abort for an object (R486). -/
def State.sdoAbort (s : State) (ch : Fin 2) (idx sub code : Nat) : State :=
  s.canSend ch (0x580 + s.nodeId) (leBytes 1 0x80 ++ leBytes 2 idx ++ leBytes 1 sub ++ leBytes 4 code)

/-- An abandonment answer that leaves the unit is counted (R102). -/
def State.abandoned (s : State) : State := s.bump ABND_CNT_ABND

/-- The object of the request of a channel that has no answer yet: one that waits, or a transfer under way (R94, R99). -/
def State.sdoUnanswered (s : State) (ch : Fin 2) : Option (Nat × Nat) :=
  match s.srv.await[ch], s.srv.xfer[ch] with
  | some r, _ => some r
  | none, some x => some (x.idx, x.sub)
  | none, none => none

/-- No request and no transfer is open on a channel. -/
def State.sdoClear (s : State) (ch : Fin 2) : State := s.modSrv fun v => { v with await := v.await.set ch none, xfer := v.xfer.set ch none }

/-- The open SDO request of a channel is answered 0x0800_0020 (R94 step 4, R99 step 5), counted where the answer leaves the unit (R102). -/
def State.sdoAbandon (s : State) (ch : Fin 2) : State :=
  (match s.sdoUnanswered ch with
    | some (i, j) => let t := s.sdoAbort ch i j 0x08000020; if s.canTx ch then t.abandoned else t
    | none => s).sdoClear ch

/-- Data words of a CAN FIFO record by its header (R504). -/
def canWords (w : Word) : Nat := (fieldOf w 6 0 + 3) / 4

/-- Whole records of a CAN transmit FIFO with the COB-ID `id`, at most `n` taken: how many, and what stays. -/
def takeFrames (id : Nat) : Nat → List Word → Nat × List Word
  | 0, l => (0, l)
  | _, [] => (0, [])
  | n + 1, w :: t =>
    if t.length < canWords w then (0, w :: t)
    else
      let r := takeFrames id n (t.drop (canWords w))
      if fieldOf w 26 16 = id then (r.1 + 1, r.2) else (r.1, w :: t.take (canWords w) ++ r.2)

/-- Whole SYS_RESP entries of a ring transmit FIFO: how many, and what stays. -/
def takeResps : Nat → List Word → Nat × List Word
  | n + 1, w0 :: w1 :: rest =>
    let k := if txBad w0.toNat w1.toNat then 0 else (bitsOf w1.toNat 8 0 + 3) / 4
    if rest.length < k then (0, w0 :: w1 :: rest)
    else
      let r := takeResps n (rest.drop k)
      if bitsOf w0.toNat 31 24 = 0x21 then (r.1 + 1, r.2) else (r.1, w0 :: w1 :: rest.take k ++ r.2)
  | _, l => (0, l)

/-- SDO responses queued on a channel and not sent are dropped and counted (R94, R102). -/
def State.dropSdoReplies (s : State) (ch : Fin 2) : State :=
  let r := takeFrames (0x580 + s.nodeId) 512 s.srv.can[ch].txQ
  (s.modCan ch fun c => { c with txQ := r.2 }).bumpBy ABND_CNT_DROP r.1

/-- Ring responses queued and not sent are dropped and counted (R94, R102). -/
def State.dropRingReplies (s : State) : State :=
  let r := takeResps 256 s.ring.txQ
  (s.modRing fun z => { z with txQ := r.2 }).bumpBy ABND_CNT_DROP r.1

/-- Ring requests not yet answered get NAK 0x05 (R94 step 4), counted where the answer leaves the unit (R102). -/
def State.ringAbandon (s : State) : State :=
  (s.ring.queries.foldl (fun t q =>
    let u := t.sysAnswer q.1 0x05 q.2 []
    if t.wire.length < u.wire.length then u.abandoned else u) s).modRing fun r => { r with queries := [] }

/-! ### DMA channels that stop (R175 to R177) -/

/-- Change DMA channel `c`. -/
def State.modDma (s : State) (c : Fin 32) (f : DmaCh → DmaCh) : State :=
  (s.modPr fun z => { z with dma := upd s.pr.dma c f })

/-- The registers that show a stopped channel's resume state (R175). -/
def State.dmaResume (s : State) (c : Fin 32) : State :=
  let d := s.pr.dma[c]
  let s1 := (s.setReg (DMA_RES_SRC c) (BitVec.ofNat 32 d.src)).setReg (DMA_RES_DST c) (BitVec.ofNat 32 d.dst)
  ((s1.setReg (DMA_RES_CNT c) (BitVec.ofNat 32 (b2n d.fetch * 2 ^ 31 + d.cnt % 65536))).setReg (DMA_RES_DESC c)
    (BitVec.ofNat 32 d.desc)).setReg (DMA_RES_CTRL c) (BitVec.ofNat 32 d.ctrl)

/-- A running channel stops with a code: STOPPED, resume state and flag; its source strobes on the next edge (R175). -/
def State.dmaStop (s : State) (c : Fin 32) (code : Nat) : State :=
  ((((s.dmaResume c).put (DMA_STAT_STATE c) 2).put (DMA_STAT_CODE c) code).put (DMA_FLAGS_STOP c) 1).modPr fun z =>
    { z with dmaDue := z.dmaDue ++ [c] }

/-- A channel is stopped by a reset or BOOT_DONE (R177): code 7 even where it had stopped for another reason; a RESUME on the same edge is
discarded (R185). -/
def State.dmaAbandon (s0 : State) (c : Fin 32) : State :=
  let s1 := s0.mark (.dmaReset c)
  let s := if s0.marked (.dmaResumed c) && s0.get (DMA_STAT_STATE c) == 1 then s1.put (DMA_STAT_STATE c) 2 else s1
  match s.get (DMA_STAT_STATE c) with
  | 0 => s
  | 1 => (s.dmaStop c 7).abandoned
  | _ =>
    if s.get (DMA_STAT_CODE c) = 7 then s
    else
      let t := ((s.put (DMA_FAULT_INFO_PRIOR c) (s.get (DMA_STAT_CODE c))).put (DMA_STAT_CODE c) 7).put (DMA_FLAGS_STOP c) 1
      (t.modPr fun z => { z with dmaDue := z.dmaDue ++ [c] }).abandoned

/-- The channels a tenant owns. -/
def State.dmaAbandonOf (s : State) (t : Nat) : State :=
  forFin 32 (fun c u => if u.get (DMA_CFG_OWNER c) = t then u.dmaAbandon c else u) s

/-! ### Parameter groups (R181 to R184) -/

/-- The groups of an axis: gain, route, tension. -/
inductive PGroup | gain | route | tension
  deriving DecidableEq, Repr

/-- Control register of a group. -/
def PGroup.ctl : PGroup → Nat → Nat
  | .gain, a => ENG_GAIN_PSET a
  | .route, a => ENG_ROUTE_PSET a
  | .tension, a => TN_PSET a

def State.pset (s : State) (g : PGroup) (a : Fin 8) : Pset :=
  match g with | .gain => s.gain[a] | .route => s.route[a] | .tension => s.tension[a]
def State.setPset (s : State) (g : PGroup) (a : Fin 8) (v : Pset) : State :=
  match g with
  | .gain => (s.setGain (s.gain.set a v))
  | .route => (s.setRoute (s.route.set a v))
  | .tension => (s.setTension (s.tension.set a v))

/-- Fields of a PSET_CTL. -/
def psDirty (r : Nat) : Fld := ⟨r, 31, 31⟩
def psRefused (r : Nat) : Fld := ⟨r, 30, 30⟩
def psHolder (r : Nat) : Fld := ⟨r, 26, 24⟩

/-- Reload the shadow from live and clear DIRTY and the holder (R183). -/
def State.psetReload (s : State) (g : PGroup) (a : Fin 8) : State :=
  let p := s.pset g a
  ((s.setPset g a { p with shadow := p.live }).put (psDirty (g.ctl a)) 0).put (psHolder (g.ctl a)) 0

/-- Groups held by a tenant that resets are discarded (R184). -/
def State.psetDrop (s : State) (t : Nat) : State :=
  forFin 8 (fun a u => [PGroup.gain, .route, .tension].foldl (fun v g =>
    if v.flag (psDirty (g.ctl a)) && v.get (psHolder (g.ctl a)) == t then v.psetReload g a else v) u) s

/-! ### The store transaction of a tenant (R522) -/

/-- Close the open transaction without commit: its records do not count. -/
def State.txAbort (s : State) : State :=
  match s.store.tx with
  | some (q, _) => (s.modStore fun z => { z with tx := none, recs := s.store.recs.filter fun r => r.tseq != q })
  | none => s

/-! ### Cores and banks (R130 to R135) -/

def State.modCore (s : State) (c : Fin 4) (f : CoreSt → CoreSt) : State :=
  (s.modPr fun z => { z with cores := upd s.pr.cores c f })
def State.modBank (s : State) (t : Fin 8) (f : Bank → Bank) : State :=
  (s.modPr fun z => { z with banks := upd s.pr.banks t f })

/-- The core that hosts tenant `t`: tenant 0 runs on core 0 (R130). -/
def State.coreOf (s : State) (t : Fin 8) : Fin 4 := if t = 0 then 0 else ⟨s.get (TEN_CORE_CORE t) % 4, Nat.mod_lt _ (by decide)⟩

/-- Tenant `t` exists, is not waiting and not stopped: its background is ready (R134). -/
def State.bgReady (s : State) (c : Fin 4) (t : Fin 8) : Bool := s.tenantState t == 1 && s.coreOf t == c

/-- The next ready background after tenant `t`, in ascending order and around (R134). -/
def State.nextBack (s : State) (c : Fin 4) (t : Nat) : Option (Fin 8) :=
  let l := (List.finRange 8).filter fun u => s.bgReady c u
  match l.find? fun u => decide (t < u.1) with
  | some u => some u
  | none => l.head?

/-- The core executes tenant `t`: a switch of banks ends the reservation (R127, R131). -/
def CoreSt.activate (x : CoreSt) (t : Fin 8) : CoreSt :=
  { x with run := some t, bank := t, res := if x.bank = t then x.res else none }

/-- What a core runs: its top handler, else its background, else the next ready one, else it sleeps (R134). -/
def State.settle (s : State) (c : Fin 4) : State :=
  s.modCore c fun x =>
    match x.stack with
    | e :: _ => x.activate e.tenant
    | [] =>
      match x.back with
      | some b => if s.bgReady c b then x.activate b
          else match s.nextBack c b with
            | some u => { x.activate u with back := some u }
            | none => { x with run := none, back := none }
      | none => match s.nextBack c 7 with
        | some u => { x.activate u with back := some u }
        | none => { x with run := none }

/-- Rotate to the next ready background (R134). -/
def State.rotate (s : State) (c : Fin 4) : State :=
  let x := s.pr.cores[c]
  let cur := match x.back with | some b => b.1 | none => 7
  (s.modCore c fun x => { x with back := s.nextBack c cur }).settle c

/-- A bank as R135 loads it. -/
def State.freshBank (s : State) (t : Fin 8) : Bank :=
  { x := (Vector.replicate 32 (0 : Word)).set 2 (s.reg (TEN_STACK t) &&& 0xFFFFFFFC), pc := s.reg (TEN_ENTRY t) &&& 0xFFFFFFFE,
    mstatus := 0x00003800 }

/-! ### Events (R161, R162, R168) -/

/-- Sources with PEND set, by number: the registers that hold them. -/
def State.pendingSrcs (s : State) : List Nat :=
  (s.regs.filter fun r => inRange r.1 (EVT_CTL 0) (4 * 768) && bitOf r.2.toNat 31).map fun r => (r.1 - EVT_CTL 0) / 4

/-- Current level of a core; 16 for background. -/
def CoreSt.level (x : CoreSt) : Nat := match x.stack with | e :: _ => e.level | [] => 16

/-- A source is eligible on core `c` (R161). -/
def State.eligible (s : State) (c : Fin 4) (e : Nat) : Bool :=
  let t := s.srcTenant e
  let b := s.pr.banks[t]
  s.flag (EVT_CTL_PEND e) && s.flag (EVT_CTL_EN e) && s.coreOf t == c && (s.tenantState t == 1 || s.tenantState t == 2) &&
  bitOf b.mstatus.toNat 3 && bitOf b.mie.toNat 11 && decide (s.get (EVT_ROUTE_LEVEL e) < s.pr.cores[c].level)

/-- The better of two eligible sources: lower level, then lower number. -/
def State.betterSrc (s : State) (x y : Nat) : Nat :=
  let lx := s.get (EVT_ROUTE_LEVEL x)
  let ly := s.get (EVT_ROUTE_LEVEL y)
  if ly < lx ∨ (ly = lx ∧ y < x) then y else x

/-- The source a core takes next (R161). -/
def State.bestSrc (s : State) (c : Fin 4) : Option Nat :=
  (s.pendingSrcs.filter fun e => s.eligible c e).foldl (fun o e => match o with
    | none => some e
    | some x => some (s.betterSrc x e)) none

/-- Trap entry in a bank by the RISC-V rules: MPIE takes MIE, MIE clears, MPP takes the privilege; pc at mtvec. -/
def Bank.enter (b : Bank) (cause pc : Word) (vectored : Bool) : Bank :=
  let m := b.mstatus &&& ~~~0x00001888
  let m1 := if bitOf b.mstatus.toNat 3 then m ||| 0x80 else m
  let m2 := if b.umode then m1 else m1 ||| 0x1800
  let base := b.mtvec &&& 0xFFFFFFFC
  { b with mepc := pc, mcause := cause, mstatus := m2, umode := false,
           pc := if vectored && bitOf b.mtvec.toNat 0 then base + 4 * (cause &&& 0x7FFFFFFF) else base }

/-- The entry clears PEND; a strobe on the same edge sets it again and no COAL (R185). -/
def State.entryClears (s : State) (e : Nat) : State :=
  let was := s.atEdge
  if was.flag (EVT_CTL_PEND e) && bitOf (s.setNow (EVT_CTL e)).toNat 29 then s.put (EVT_CTL_COAL e) (was.get (EVT_CTL_COAL e))
  else s.put (EVT_CTL_PEND e) 0

/-- A core takes source `e` (R162): a trap, which ends the reservation of the core (R127). -/
def State.takeEvent (s : State) (c : Fin 4) (e : Nat) : State :=
  let t := s.srcTenant e
  let s1 := (s.entryClears e).put (EVT_CTL_ACTIVE e) 1
  let s2 := (s1.setWaiting (s1.waiting &&& ~~~ BitVec.ofNat 8 (2 ^ t.1)))
  let s3 := s2.modBank t fun b => b.enter 0x8000000B b.pc true
  (s3.modCore c fun x => { x with stack := ⟨s.get (EVT_ROUTE_LEVEL e), t, e⟩ :: x.stack, res := none }).settle c

/-- Remove every stack entry of a tenant (R168). -/
def State.dropEntries (s : State) (t : Fin 8) : State :=
  forFin 4 (fun c u =>
    let gone := u.pr.cores[c].stack.filter fun e => e.tenant == t
    let v := gone.foldl (fun w e => w.put (EVT_CTL_ACTIVE e.src) 0) u
    v.modCore c fun x => { x with stack := x.stack.filter fun e => e.tenant != t }) s

/-- Discard the pending events of a tenant; each counts in ABND_CNT.ABND (R99 step 4, R145). -/
def State.dropPending (s : State) (t : Fin 8) : State :=
  let l := s.pendingSrcs.filter fun e => s.srcTenant e == t
  l.foldl (fun u e => (u.put (EVT_CTL_PEND e) 0).abandoned) s

/-! ### Reset of a tenant (R99, R147 to R149, R168) -/

/-- Selects a tenant owns are released at once with the bits received so far on each port (R99 step 3, R202, R209). -/
def State.dropSelects (s : State) (t : Nat) (got : List (List Bool)) : State :=
  forFin 6 (fun p u =>
    if u.get (SP_CFG2_TQOWNER p) != t then u
    else
      let v := match u.ports[p].flight with
        | some fl => if fl.src == FrameSrc.tenant then u.cutFlight p (got.getD p []) else u
        | none => u
      v.modPort p fun q => { q with tenQ := [], rawBusy := 0 }) s

/-- Requests the tenant serves: SDO for the holder of the CAN block, ring requests for the holder of the ring (R99 step 5); answers it
had queued are dropped (R102). -/
def State.dropRequests (s : State) (t : Nat) : State :=
  let s1 := if bitOf (s.get (TEN_OWN_OWN t)) 21 then
    (((s.dropSdoReplies 0).sdoAbandon 0).dropSdoReplies 1).sdoAbandon 1 else s
  if bitOf (s.get (TEN_OWN_OWN t)) 20 then s1.dropRingReplies.ringAbandon else s1

/-- Steps 1 to 6 of R99; `restart` false where R148 stops the tenant. A COMMIT in progress completes (R550). -/
def State.tenantReset (s : State) (t : Fin 8) (got : List (List Bool)) (restart : Bool) : State :=
  let s1 := ((s.mark (.tenReset t)).dropEntries t).dmaAbandonOf t.1
  let s2 := ((s1.dropSelects t.1 got).dropPending t).dropRequests t.1
  let s3 := s2.psetDrop t.1
  let s4 := match s3.store.tx with
    | some (_, h) => if h == t.1 && !(s3.store.cmd.any fun (c : StoreCmd) => c.op == 3) then s3.txAbort else s3
    | none => s3
  let m := 2 ^ t.1
  let stopped := s4.get TWU_KILL_STOPPED
  let s5 := s4.put TWU_KILL_STOPPED (if restart then (if bitOf stopped t.1 then stopped - m else stopped) else stopped ||| m)
  let s6 := ((s5.setWaiting (s5.waiting &&& ~~~ BitVec.ofNat 8 m))).modBank t fun _ => s.freshBank t
  s6.settle (s.coreOf t)

/-- Containment (R147, R148, R580). -/
def State.contain (s : State) (t : Fin 8) : State :=
  let s1 := s.bump TWU_KILL_COUNT
  if t = 0 then
    ((s1.put TWU_KILL_STOPPED (s.get TWU_KILL_STOPPED ||| 1)).modCore 0 fun x => { x with run := none, back := none }).strobe 8
  else
    let old := s.pr.kills[t]
    let third := match old with
      | _ :: a :: _ => decide (s.clk ≤ a + 250000000)
      | _ => false
    let s2 := s1.putOr TWU_KILL_RESET (2 ^ t.1)
    let s3 := (s2.modPr fun z => { z with kills := s2.pr.kills.set t ((s.clk :: old).take 3) })
    ((s3.tenantReset t [] (!third)).strobe 8).emcy 0xFF43 [t.1, 1 + b2n third]

/-! ### Synchronous exceptions (R146, R147, R166, R167) -/

/-- Deliver an exception of the running tenant on core `c`, or contain the tenant where EXCDEPTH would exceed 15 (R167). -/
def State.trap (s : State) (c : Fin 4) (cause tval : Word) : State :=
  match s.pr.cores[c].run with
  | none => s
  | some t =>
    let b := s.pr.banks[t]
    if 15 ≤ b.exc then s.contain t
    else (s.modBank t fun b => { b.enter cause b.pc false with mtval := tval, exc := b.exc + 1 }).modCore c fun x => { x with res := none, issued := false }

/-- mfcause.VALID of the running tenant: a further fault is not delivered (R147). -/
def State.faultHeld (s : State) (t : Fin 8) : Bool := bitOf s.pr.banks[t].mfcause.toNat 31

/-- A misaligned data access (R126, R147): cause 4 for a load, 6 for a store or AMO. -/
def State.misaligned (s : State) (c : Fin 4) (k : Acc) (a : Nat) : State :=
  match s.pr.cores[c].run with
  | none => s
  | some t => if s.faultHeld t then s.contain t else s.trap c (if k.writes then 6 else 4) (BitVec.ofNat 32 a)

/-- Mode in which a bank makes its data accesses: MPRV takes that of MPP (R123). -/
def Bank.dataUser (b : Bank) : Bool := b.umode || (bitOf b.mstatus.toNat 17 && bitsOf b.mstatus.toNat 12 11 == 0)

/-- A refused access or a memory error (R146, R151): mfaddr and mfcause, then the exception of its kind. -/
def State.accessFault (s : State) (c : Fin 4) (k : Acc) (a n reason win : Nat) : State :=
  match s.pr.cores[c].run with
  | none => s
  | some t =>
    if s.faultHeld t then s.contain t
    else
      let cause : Word := if reason = 8 then (match k with | .fetch => 24 | .load | .lr => 25 | _ => 26)
        else match k with | .fetch => 1 | .load | .lr => 5 | _ => 7
      let sz := if n = 1 then 0 else if n = 2 then 1 else 2
      let user := if k = .fetch then s.pr.banks[t].umode else s.pr.banks[t].dataUser
      let fc := 2 ^ 31 + win % 32 * 2 ^ 16 + b2n user * 2 ^ 12 + sz * 2 ^ 8 + k.typ * 16 + reason
      let s1 := if 15 ≤ s.pr.banks[t].exc then s
        else s.modBank t fun b => { b with mfaddr := BitVec.ofNat 32 a, mfcause := BitVec.ofNat 32 fc }
      s1.trap c cause (BitVec.ofNat 32 a)

end Sys2Proof.Machine
end

