-- ==== Sys2Proof/Machine/Store.lean ====
section
/-! DEFINITION. The parameter store and the code banks (18_squirrel_store.md): the store controller's commands, records and transactions,
reclaim, image verification, bank selection and option requests. -/

namespace Sys2Proof.Machine

/-! ### The log: sectors and records (R519, R520) -/

def storeBase : Nat := 0x11000000

/-- Bytes a record of `len` data bytes takes. -/
def recSize (len : Nat) : Nat := (len + 35) / 16 * 16

/-- Header and data of a record (R520). -/
def recHead (typ num layout tseq : Nat) (data : List Byte) : List Byte :=
  leBytes 2 0xA55E ++ leBytes 2 typ ++ leBytes 2 num ++ leBytes 2 layout ++ leBytes 2 data.length ++ leBytes 2 0 ++ leBytes 4 tseq ++ data

/-- A whole record: header, data, CRC, zeros to a multiple of 16 bytes. -/
def recBytes (typ num layout tseq : Nat) (data : List Byte) : List Byte :=
  let h := recHead typ num layout tseq data
  padTo (recSize data.length) (h ++ leBytes 4 (crc32 h))

/-- Sequence number of a sector. -/
def Store.seqOf (x : Store) (k : Nat) : Nat := sparseGet k k x.seqs

/-- Erased sectors. -/
def Store.erased (x : Store) : List Nat := (List.range 256).filter fun k => !x.used.contains k

/-- The next sector of the log: the erased one with the lowest sequence number. -/
def Store.nextSector (x : Store) : Nat :=
  match x.erased with
  | [] => 0
  | k :: t => t.foldl (fun b j => if x.seqOf j < x.seqOf b then j else b) k

/-- Append bytes at the head of the log; a record never crosses a sector boundary. Answers their address. -/
def State.logPut (s : State) (b : List Byte) : Nat × State :=
  let s1 := if 4096 < s.store.off + b.length then s.modStore fun x => { x with used := x.used ++ [x.nextSector], off := 16 } else s
  let a := storeBase + 4096 * (s1.store.used.getLast?.getD 0) + s1.store.off
  (a, State.setBytes a b (s1.modStore fun x => { x with off := x.off + b.length }))

/-- Append a record and index it. -/
def State.appendRec (s : State) (typ num layout tseq : Nat) (data : List Byte) : State :=
  let p := s.logPut (recBytes typ num layout tseq data)
  p.2.modStore fun x => { x with recs := x.recs ++ [⟨typ, num, layout, tseq, p.1 + 16, data⟩] }

/-- Records of transactions that count: all but those of the open one (R521). -/
def Store.counted (x : Store) : List StoreRec :=
  x.recs.filter fun r => match x.tx with | some t => r.tseq != t.1 | none => true

/-- The last copy of each (NUM, LAYOUT). -/
def newestRecs : List StoreRec → List StoreRec
  | [] => []
  | r :: t => if t.any fun q => q.num == r.num && q.layout == r.layout then newestRecs t else r :: newestRecs t

/-- Live records (R525); the LAYOUT record in force is one of them. -/
def Store.live (x : Store) (l : List StoreRec) : List StoreRec :=
  (newestRecs l).filter fun r => r.num == 0xFFF0 || r.layout == x.layNow || r.layout == x.layPrev

/-- Bytes of records. -/
def recsBytes (l : List StoreRec) : Nat := l.foldl (fun n r => n + recSize r.data.length) 0

/-- The newest counted copy of a record, if it is a DATA record (R523). -/
def Store.find (x : Store) (num layout : Nat) : Option StoreRec :=
  match (x.counted.filter fun r => r.num == num && r.layout == layout).getLast? with
  | some r => if r.typ = 1 then some r else none
  | none => none

/-! ### Banks: control block and image (R528 to R531) -/

def bankBase (b : Nat) : Nat := 0x10000000 + b * 0x800000

/-- Word in a slot of a bank control block (R530). -/
def State.bankWord (s : State) (b slot : Nat) : Nat := leNat (s.memBytes (bankBase b + 0x7F0000 + 16 * slot) 4)

/-- A marker is set when at least 24 of its 32 bits read 0 (R530). -/
def State.marker (s : State) (b slot : Nat) : Bool :=
  let w := s.bankWord b slot
  decide (24 ≤ ((List.range 32).filter fun i => !bitOf w i).length)

/-- Program a word of a control block. -/
def State.setBankWord (s : State) (b slot v : Nat) : State := State.setBytes (bankBase b + 0x7F0000 + 16 * slot) (leBytes 4 v) s

/-- Program a marker. -/
def State.setMarker (s : State) (b slot : Nat) : State := s.setBankWord b slot 0

/-- GEN of a staged bank; 0 for one that is not staged. -/
def State.bankGen (s : State) (b : Nat) : Nat := if s.marker b 1 then s.bankWord b 0 % 65536 else 0

/-- TRIAL markers set. -/
def State.trials (s : State) (b : Nat) : Nat := ([2, 3, 4].filter fun k => s.marker b k).length

/-- A field of an image header. -/
def State.imgField (s : State) (b o n : Nat) : Nat := leNat (s.memBytes (bankBase b + o) n)

/-- The option record in force, 64 bytes (R108). -/
def State.optInForce (s : State) : List Byte := if s.get OPT_STAT_COPY = 1 then s.sys.opt1 else s.sys.opt0

/-- A signature by the key chosen: factory key, or the integrator key in `ipub`, whose hash must equal KEYHASH (R529). -/
def State.keyOk (s : State) (ipub msg : List Byte) : Bool :=
  if s.sys.keySel = 0 then Config.signatureOk 0 msg
  else Config.sha256 ipub == (s.optInForce.drop 0x1E).take 32 && Config.signatureOk 1 (ipub ++ msg)

/-- The image in a bank verifies (R529): header, LINK, MEMBERS, key and signature over bytes 0 to LENGTH − 1. -/
def State.imageOk (s : State) (b : Nat) : Bool :=
  let z (o n : Nat) : Bool := s.imgField b o n == 0
  let len := s.imgField b 0x10 4
  s.imgField b 0 4 == 0x47D10F1E && s.imgField b 4 2 == 1 && s.imgField b 6 1 == b && bitOf (s.imgField b 7 1) (s.member.pick 0 1 2 3) &&
  z 0x0E 2 && z 0x19 7 && z 0x80 128 && decide (1 ≤ s.imgField b 0x0C 2) && len % 256 == 0 && decide (len + 64 ≤ 0x7F0000) &&
  s.imgField b 0x18 1 == s.sys.keySel && (s.sys.keySel != 0 || z 0x40 64) &&
  s.keyOk (s.memBytes (bankBase b + 0x40) 64) (s.memBytes (bankBase b) (len + 64))

/-- The bank that runs and the other one (BOOT_CTRL.BANK). -/
def State.runBank (s : State) : Nat := s.get BOOT_CTRL_BANK
def State.otherBank (s : State) : Nat := 1 - s.runBank

/-- The running bank is CONFIRMED. -/
def State.confirmed (s : State) : Bool := s.marker s.runBank 5

/-- The LAYOUT of the running image. -/
def State.runLayout (s : State) : Nat := s.imgField s.runBank 0x0C 2

/-- A bank fails with a reason (R530, R531): reported at this or the next start (R539). -/
def State.failBank (s : State) (b reason : Nat) : State :=
  ((s.setMarker b 6).setBankWord b 7 reason).modStore fun x => { x with failNew := x.failNew ++ [(b, reason)] }

/-- STAGED set and FAILED clear (R531). -/
def State.candidate (s : State) (b : Nat) : Bool := s.marker b 1 && !s.marker b 6

/-- The better of the candidates that satisfy `p`: the higher GEN, on equal GEN the bank named by BANKPREF. -/
def State.bestBank (s : State) (p : Nat → Bool) : Option Nat :=
  match s.candidate 0 && p 0, s.candidate 1 && p 1 with
  | true, true => some (if s.bankGen 0 = s.bankGen 1 then s.sys.bankPref else if s.bankGen 0 < s.bankGen 1 then 1 else 0)
  | true, false => some 0
  | false, true => some 1
  | false, false => none

/-- A bank is tried (R531): markers of the trial are set and its image is checked; a bank that fails is marked failed. -/
def State.tryBank (s : State) (b : Nat) : Bool × State :=
  if s.marker b 5 then if s.imageOk b then (true, s) else (false, s.failBank b 1)
  else if s.marker b 4 then (false, s.failBank b 2)
  else
    let t := s.setMarker b (if !s.marker b 2 then 2 else if !s.marker b 3 then 3 else 4)
    if t.imageOk b then (true, t) else (false, t.failBank b 1)

/-- The candidate the boot ROM tries next: one that has not been confirmed, else a confirmed one (R531). -/
def State.nextBank (s : State) : Option Nat := (s.bestBank fun b => !s.marker b 5).or (s.bestBank fun b => s.marker b 5)

/-- The boot ROM chooses, marks and verifies a bank (R531); each failure removes a candidate, so two tries and one to find none
are enough. -/
def chooseBank : Nat → State → Option Nat × State
  | 0, s => (none, s)
  | n + 1, s =>
    match s.nextBank with
    | some b => if (s.tryBank b).1 then (some b, (s.tryBank b).2) else chooseBank n (s.tryBank b).2
    | none => (none, s)

/-! ### Store controller: acceptance and completion of a command (R516 to R518) -/

/-- A refusal or failure: LASTERR and E123 ERROR. -/
def State.storeErr (s : State) (e : Nat) : State := (s.put STORE_STAT_LASTERR e).raise ⟨STORE_EVT, 1, 0⟩ 1 122

/-- The source of APPEND and PROG lies in the shared SRAM. -/
def srcOk (a n : Nat) : Bool := isSram a && isSram (a + n - 1)

/-- Bytes of the records of the open transaction. -/
def Store.txBytes (x : Store) : Nat :=
  match x.tx with
  | some t => recsBytes (x.recs.filter fun r => r.tseq == t.1)
  | none => 0

/-- A NUM that a record may have (R520). -/
def numOk (num layout : Nat) : Bool := (decide (1 ≤ num) && decide (num ≤ 0xEFFF)) || (num == 0xFFF0 && layout == 0)

/-- The tenant is not the holder of the open transaction (R522). -/
def Store.notHolder (x : Store) (ten : Nat) : Bool := match x.tx with | some t => t.2 != ten | none => false

/-- APPEND and DELETE: what refuses a record of `len` data bytes; 0 for nothing (R521, R522, R525). -/
def State.recRefusal (s : State) (ten : Nat) (app : Bool) (a0 num len layout : Nat) : Nat :=
  let x := s.store
  if x.notHolder ten then 2
  else if !numOk num layout || (app && (decide (4060 < len) || (len != 0 && !srcOk a0 len))) then 4
  else if 65536 < x.txBytes + recSize len then 4
  else if app && decide (524288 < recsBytes (x.live (x.recs ++ [⟨1, num, layout, 0, 0, List.replicate len 0⟩]))) then 5 else 0

/-- The open transaction contains a LAYOUT record naming `l`. -/
def Store.txLayout (x : Store) : Option Nat :=
  match x.tx with
  | some t => ((x.recs.filter fun r => r.tseq == t.1 && r.num == 0xFFF0 && r.typ == 1).getLast?).map fun r => leNat (r.data.take 2)
  | none => none

/-- LASTERR with which a command is refused, 0 when it is accepted (R516, R517, R522, R532 to R537). -/
def State.storeRefusal (s : State) (ten op : Nat) : Nat :=
  let a0 := (s.reg (STORE_ARG 0)).toNat
  let a1 := (s.reg (STORE_ARG 1)).toNat
  let a2 := (s.reg (STORE_ARG 2)).toNat
  if s.store.cmd.isSome || (!s.store.ready && decide (op < 8)) then 1
  else if s.parked && op != 5 then 3
  else match op with
    | 1 => s.recRefusal ten true a0 (a1 / 65536) (a1 % 65536) (a2 % 65536)
    | 2 => s.recRefusal ten false a0 (a1 / 65536) 0 (a2 % 65536)
    | 3 => if s.store.tx.isNone || s.store.notHolder ten then 2
        else if !s.confirmed && s.store.txLayout != some s.runLayout then 7 else 0
    | 4 => if s.store.tx.isNone || s.store.notHolder ten then 2 else 0
    | 5 | 8 | 0xA | 0xB => 0
    | 9 => if s.store.prog && srcOk a0 256 && decide (bankBase s.otherBank ≤ a1) && decide (a1 + 256 ≤ bankBase s.otherBank + 0x800000) &&
        a1 % 256 == 0 then 0 else 4
    | 0xC => if s.confirmed || s.store.layNow == s.runLayout then 0 else 9
    | 0xD => if s.confirmed then 9 else if a1 = 2 then 0 else 4
    | _ => 4

/-- A write of STORE_CMD by a tenant: refused, or accepted and in progress (R516). -/
def State.storeCmd (s : State) (ten op : Nat) : State :=
  let e := s.storeRefusal ten op
  if e ≠ 0 then s.storeErr e
  else
    let s1 := (s.put STORE_STAT_LASTERR 0).modStore fun x =>
      { x with cmd := some ⟨op, (s.reg (STORE_ARG 0)).toNat, (s.reg (STORE_ARG 1)).toNat, (s.reg (STORE_ARG 2)).toNat, ten⟩ }
    let s2 := if (op = 1 ∨ op = 2) ∧ s.store.tx.isNone then
      s1.modStore fun x => { x with tx := some (x.tseq + 1, ten), tseq := x.tseq + 1 } else s1
    if op = 8 then s2.modStore fun x => { x with bankwr := true, dropWr := false, prog := true, eraseAt := some 0 } else s2

/-- The commit of the open transaction (R521, R525, R527, R536). -/
def State.txCommit (s : State) : State :=
  match s.store.tx with
  | none => s
  | some t =>
    let l := s.store.recs.filter fun r => r.tseq == t.1
    let crcs := l.flatMap fun r => leBytes 4 (crc32 (recHead r.typ r.num r.layout r.tseq r.data))
    let p := s.logPut (recBytes 2 0 0 t.1 (leBytes 4 l.length ++ leBytes 4 (crc32 crcs)))
    let x := p.2.store
    match x.txLayout with
    | some n =>
      let mig := if s.confirmed then x.migFrom else some x.layNow
      p.2.modStore fun y => { y with tx := none, commits := y.commits + 1, layNow := n, migFrom := mig,
                                     layPrev := if n = y.layNow then y.layPrev else y.layNow }
    | none => p.2.modStore fun y => { y with tx := none, commits := y.commits + 1 }

/-- Erase the sectors of the bank not running from the next one up to and without sector `k`. -/
def State.eraseTo (s : State) (k : Nat) : State :=
  match s.store.eraseAt with
  | some j => if j < k then (s.dropBytes (bankBase s.otherBank + 65536 * j) (65536 * (k - j))).modStore fun x => { x with eraseAt := some k } else s
  | none => s

/-- BANKWR clears, at the end of a background erase that still runs (R533). -/
def State.clearBankwr (s : State) : State :=
  if s.store.eraseAt.isSome then s.modStore fun x => { x with dropWr := true } else s.modStore fun x => { x with bankwr := false }

/-- VERIFY (R534): GEN and STAGED are programmed, or the bank stays unstaged with LASTERR 9. -/
def State.verifyBank (s : State) : State :=
  let b := s.otherBank
  if s.imageOk b then
    if s.marker b 1 then s.clearBankwr
    else ((s.setBankWord b 0 (0xFFFF0000 + (max (s.bankGen 0) (s.bankGen 1) + 1) % 65536)).setMarker b 1).clearBankwr
  else ((s.put STORE_STAT_LASTERR 9).put STORE_VERREF_V (s.imgField b 8 4)).clearBankwr

/-- Program 256 bytes of the bank not running; bits only go from 1 to 0 (PRESUMED, log entry 20). -/
def State.progBank (s : State) (a : Nat) (data : List Byte) : State :=
  let s1 := s.eraseTo ((a - bankBase s.otherBank) / 65536 + 1)
  State.setBytes a ((data.zip (s1.memBytes a data.length)).map fun p => p.1 &&& p.2) s1

/-- What a command does on the flash when it completes. -/
def State.storeDo (s : State) (c : StoreCmd) : State :=
  let num := c.a1 / 65536
  match c.op with
  | 1 => match s.store.tx with
    | some t => s.appendRec 1 num (c.a2 % 65536) t.1 (s.memBytes c.a0 (c.a1 % 65536))
    | none => s
  | 2 => match s.store.tx with
    | some t => s.appendRec 3 num (c.a2 % 65536) t.1 []
    | none => s
  | 3 => s.txCommit
  | 4 => s.txAbort
  | 5 => match s.store.find num (c.a2 % 65536) with
    | some r => (s.setReg STORE_RES (BitVec.ofNat 32 r.addr)).setReg STORE_RES2
        (BitVec.ofNat 32 (r.tseq % 65536 * 65536 + r.data.length))
    | none => ((s.setReg STORE_RES 0).setReg STORE_RES2 0).put STORE_STAT_LASTERR 8
  | 8 => s.eraseTo 1
  | 9 => s.progBank c.a1 (s.memBytes c.a0 256)
  | 0xA => s.verifyBank
  | 0xB => s.clearBankwr
  | 0xC => if s.confirmed then s
      else
        let t := s.setMarker s.runBank 5
        match s.store.migFrom with
        | some f => t.setBankWord s.runBank 8 (s.runLayout * 65536 + f)
        | none => t
  | 0xD => ((s.txAbort).failBank s.runBank 2).setBankWord s.runBank 8 c.a0
  | _ => s

/-- STORE_COMMAND_COMPLETE (R516, R518): the command in progress completes, or fails on the flash with LASTERR 6. -/
def execStoreCommandComplete (ok : Bool) (s : State) : Host.Outcome State Fault Refusal := .next <|
  s.whenUp fun s =>
    match s.store.cmd with
    | none => s
    | some c =>
      let t := s.modStore fun x => { x with cmd := none }
      if ok then (t.storeDo c).raise ⟨STORE_EVT, 1, 0⟩ 0 122 else t.storeErr 6

/-- STORE_APPEND (R516, R520 to R522). -/
def execStoreAppend (ten : Fin 8) (s : State) : Host.Outcome State Fault Refusal := .next <| s.whenUp (·.storeCmd ten 1)
/-- STORE_DELETE (R516, R522). -/
def execStoreDelete (ten : Fin 8) (s : State) : Host.Outcome State Fault Refusal := .next <| s.whenUp (·.storeCmd ten 2)
/-- STORE_COMMIT (R521, R522, R535). -/
def execStoreCommit (ten : Fin 8) (s : State) : Host.Outcome State Fault Refusal := .next <| s.whenUp (·.storeCmd ten 3)
/-- STORE_ABORT (R522). -/
def execStoreAbort (ten : Fin 8) (s : State) : Host.Outcome State Fault Refusal := .next <| s.whenUp (·.storeCmd ten 4)
/-- STORE_FIND (R523). -/
def execStoreFind (ten : Fin 8) (s : State) : Host.Outcome State Fault Refusal := .next <| s.whenUp (·.storeCmd ten 5)
/-- STORE_ERASEBANK (R532). -/
def execStoreErasebank (ten : Fin 8) (s : State) : Host.Outcome State Fault Refusal := .next <| s.whenUp (·.storeCmd ten 8)
/-- STORE_PROG (R532). -/
def execStoreProg (ten : Fin 8) (s : State) : Host.Outcome State Fault Refusal := .next <| s.whenUp (·.storeCmd ten 9)
/-- STORE_VERIFY (R534). -/
def execStoreVerify (ten : Fin 8) (s : State) : Host.Outcome State Fault Refusal := .next <| s.whenUp (·.storeCmd ten 0xA)
/-- STORE_ABANDONBANK (R516). -/
def execStoreAbandonbank (ten : Fin 8) (s : State) : Host.Outcome State Fault Refusal := .next <| s.whenUp (·.storeCmd ten 0xB)
/-- STORE_CONFIRM (R536). -/
def execStoreConfirm (ten : Fin 8) (s : State) : Host.Outcome State Fault Refusal := .next <| s.whenUp (·.storeCmd ten 0xC)
/-- STORE_FALLBACK (R537). -/
def execStoreFallback (ten : Fin 8) (s : State) : Host.Outcome State Fault Refusal := .next <| s.whenUp (·.storeCmd ten 0xD)

/-- The background erase ends with the last sector of the bank (R518). -/
def State.eraseEnd (s : State) : State :=
  let t := s.eraseTo 128
  t.modStore fun x => { x with eraseAt := none, bankwr := x.bankwr && !x.dropWr, dropWr := false }

/-- BACKGROUND_ERASE_COMPLETE (R518). -/
def execBackgroundEraseComplete (s : State) : Host.Outcome State Fault Refusal := .next <|
  s.whenUp fun s => if s.store.eraseAt.isSome then s.eraseEnd else s

/-! ### Reclaim and wear (R519, R525, R527) -/

/-- Highest erase count. -/
def Store.maxWear (x : Store) : Nat := x.wear.foldl (fun m e => max m e.2) 0
/-- WEAR of STORE_WEAR. -/
def Store.wearPct (x : Store) : Nat := x.maxWear / 1000

/-- EMCY 0xFF63 the first time WEAR exceeds 90 after a start (R527). -/
def State.wearCheck (s : State) : State :=
  if 90 < s.store.wearPct ∧ !s.store.wearSent then
    (s.modStore fun x => { x with wearSent := true }).emcy 0xFF63 [min s.store.wearPct 255] else s

/-- A sector of the parameter store is erased and gets a new header (R519). -/
def State.eraseSector (s : State) (k : Nat) : State :=
  (s.dropBytes (storeBase + 4096 * k) 4096).modStore fun x =>
    { x with wear := sparseSet 0 k (sparseGet 0 k x.wear + 1) x.wear, seqs := sparseSet k k x.seqNo x.seqs, seqNo := x.seqNo + 1
             used := x.used.filter (· != k)
             recs := x.recs.filter fun r => !inRange r.addr (storeBase + 4096 * k) 4096 }

/-- A live record moves to the head of the log, its TSEQ unchanged. -/
def State.moveRec (s : State) (r : StoreRec) : State :=
  let p := s.logPut (recBytes r.typ r.num r.layout r.tseq r.data)
  p.2.modStore fun x => { x with recs := x.recs.map fun q => if q.addr = r.addr then { q with addr := p.1 + 16 } else q }

/-- RECLAIM_STEP (R517, R525): with fewer than 24 sectors erased, the live records of the oldest sector are copied forward and the
sector is erased; records of the open transaction stay. -/
def execReclaimStep (s : State) : Host.Outcome State Fault Refusal := .next <|
  s.whenUp fun s =>
    match s.store.used with
    | [] => s
    | k :: _ =>
      if !s.store.ready || s.parked || decide (24 ≤ s.store.erased.length) then s
      else
        let keep := s.store.live s.store.counted ++ (s.store.recs.filter fun r => match s.store.tx with | some t => r.tseq == t.1 | none => false)
        let mv := s.store.recs.filter fun r => inRange r.addr (storeBase + 4096 * k) 4096 && keep.contains r
        let t := mv.foldl State.moveRec s
        let crcs := mv.flatMap fun r => leBytes 4 (crc32 (recHead r.typ r.num r.layout r.tseq r.data))
        let u := if mv.isEmpty then t else (t.logPut (recBytes 4 0 0 0 (leBytes 4 mv.length ++ leBytes 4 (crc32 crcs)))).2
        (u.eraseSector k).wearCheck

/-- STORE_SCAN_COMPLETE (R524): the index stands and READY is set. -/
def execStoreScanComplete (s : State) : Host.Outcome State Fault Refusal := .next <|
  s.whenUp fun s => if s.store.ready then s else (s.txAbort.modStore fun x => { x with ready := true }).wearCheck

/-! ### Views -/

/-- STORE_STAT (18_squirrel_store.md). -/
def State.storeStat (s : State) : Nat :=
  let x := s.store
  b2n x.ready * 2 ^ 31 + b2n x.cmd.isSome * 2 ^ 30 + b2n x.tx.isSome * 2 ^ 29 + (match x.tx with | some t => t.2 % 8 | none => 0) * 2 ^ 26 +
    b2n x.bankwr * 2 ^ 25 + b2n (x.ready && decide (x.erased.length < 24)) * 2 ^ 24 + s.get STORE_STAT_LASTERR * 2 ^ 20

/-- One bank's byte of BANK_STAT. -/
def State.bankByte (s : State) (b : Nat) : Nat :=
  b2n (s.marker b 1) + s.trials b * 2 + b2n (s.marker b 5) * 8 + b2n (s.marker b 6) * 16 +
    (if s.marker b 6 then s.bankWord b 7 % 4 * 32 else 0)

/-- The bank with the higher GEN; A on equal GEN. -/
def State.highBank (s : State) : Nat := if s.bankGen 0 < s.bankGen 1 then 1 else 0

/-- FWSTATE (R539). -/
def State.fwState (s : State) : Nat :=
  let o := s.otherBank
  if s.sys.boot == .service then 3
  else if (List.range 2).any (fun b => s.marker b 1 && !s.marker b 5 && !s.marker b 6) then 2
  else if s.marker o 6 && decide (s.bankGen s.runBank < s.bankGen o) then 1 else 0

/-- BANK_STAT. -/
def State.bankStat (s : State) : Nat := s.fwState * 2 ^ 17 + s.runBank * 2 ^ 16 + s.bankByte 1 * 256 + s.bankByte 0

/-- BANK_VER of a bank: VERSION when staged. -/
def State.bankVer (s : State) (b : Nat) : Nat := if s.marker b 1 then s.imgField b 8 4 else 0

/-- STORE_MIG: the MIG word of the bank with the higher GEN; 0 where none has been programmed. -/
def State.storeMig (s : State) : Nat := let w := s.bankWord s.highBank 8; if w = 2 ^ 32 - 1 then 0 else w

/-- STORE_SPACE. -/
def State.storeSpace (s : State) : Nat :=
  recsBytes (s.store.live s.store.counted) / 1024 * 65536 + s.store.erased.length % 512

end Sys2Proof.Machine
end

