-- ==== Sys2Proof/Machine/TagOps.lean ====
section
/-! DEFINITION. The nameplate tag (18_squirrel_store.md): wired access, RF requests by ISO/IEC 15693, arbitration, and option requests
in the mailbox. -/

namespace Sys2Proof.Machine

/-- A block of the tag. -/
def State.tagBlock (s : State) (k : Nat) : Word := sparseGet 0 k s.tag.blocks
def State.setTagBlock (s : State) (k : Nat) (v : Word) : State := s.modTag fun x => { x with blocks := sparseSet 0 k v x.blocks }

/-- Bytes of `n` blocks from block `k` on. -/
def State.tagBytes (s : State) (k n : Nat) : List Byte := wordBytes ((List.range n).map fun i => s.tagBlock (k + i))

/-- The unit-wide SERVICE condition with SW7 ON (R546). -/
def State.liveGate (s : State) : Bool := s.unitService && bitOf s.bg.snap 6

/-! ### Wired access (R542, R545, R547) -/

/-- Blocks with a wired write: the live records and the mailbox (R542). -/
def wiredWritable (k : Nat) : Bool := decide (1024 ≤ k ∧ k ≤ 3890)

/-- Carry out a wired access. -/
def State.tagDo (s : State) (k : Nat) (w : Option Word) : State :=
  match w with
  | some v => (s.setTagBlock k v).put TAG_STAT_RESULT 0
  | none => (s.setReg TAG_DATA (s.tagBlock k)).put TAG_STAT_RESULT 0

/-- A wired access requested by a write of TAG_CTRL (R545): carried out, held, or TAG_BUSY. One requested while another is held is
answered TAG_BUSY too (log entry 21). -/
def State.tagAccess (s : State) (k : Nat) (w : Option Word) : State :=
  if w.isSome && !wiredWritable k then s.put TAG_STAT_RESULT 3
  else if s.tag.sess = 3 ∨ s.tag.wired.isSome then
    ((s.put TAG_STAT_RESULT 1).bump TAG_CNT_BUSYCNT).raise ⟨TAG_EVT, 1, 0⟩ 1 120
  else if s.tag.sess = 2 then (s.modTag fun x => { x with wired := some (k, w) }).put TAG_STAT_RESULT 2
  else s.tagDo k w

/-- A write of TAG_CTRL: OP 1 READ, 2 WRITE; another OP is outside its range, RESULT 3. -/
def State.writeTagCtrl (s : State) (v : Nat) : State :=
  let k := bitsOf v 27 16
  match bitsOf v 1 0 with
  | 1 => s.tagAccess k none
  | 2 => s.tagAccess k (some (s.reg TAG_DATA))
  | _ => s.put TAG_STAT_RESULT 3

/-- TAG_READ (R545). -/
def execTagRead (block : BitVec 12) (s : State) : Host.Outcome State Fault Refusal := .next <| s.whenUp fun s => s.tagAccess block.toNat none

/-- TAG_WRITE (R545): the data stands in TAG_DATA. -/
def execTagWrite (block : BitVec 12) (s : State) : Host.Outcome State Fault Refusal := .next <|
  s.whenUp fun s => s.tagAccess block.toNat (some (s.reg TAG_DATA))

/-- TAG_PENDING_COMPLETE (R545): the held access is carried out between inventory slots. -/
def execTagPendingComplete (s : State) : Host.Outcome State Fault Refusal := .next <|
  s.whenUp fun s =>
    match s.tag.wired with
    | some (k, w) => (s.modTag fun x => { x with wired := none }).tagDo k w
    | none => s

/-- TAG_CLR.CLRCNT and CLRRFW (R544). -/
def State.tagClrCnt (s : State) : State := s.setReg TAG_CNT 0
def State.tagClrRfw (s : State) : State := s.modTag fun x => { x with rfw := false }

/-- TAG_CLEAR_COUNT. -/
def execTagClearCount (s : State) : Host.Outcome State Fault Refusal := .next <| s.whenUp State.tagClrCnt
/-- TAG_CLEAR_RFW. -/
def execTagClearRfw (s : State) : Host.Outcome State Fault Refusal := .next <| s.whenUp State.tagClrRfw

/-! ### RF state (R544) -/

/-- RFSTATE changes: each entry into and exit from SESSION sets RFSESSION and strobes E120. -/
def State.rfTo (s : State) (v : Nat) : State :=
  let t := s.modTag fun x => { x with sess := v }
  if ((s.tag.sess == 3) != (v == 3)) && s.up then t.raise ⟨TAG_EVT, 1, 0⟩ 0 120 else t

/-- RF_FIELD_CHANGE (R544): without a field the tag forgets its ISO/IEC 15693 state. -/
def execRfFieldChange (on : Bool) (s : State) : Host.Outcome State Fault Refusal := .next <|
  (s.modTag fun x => { x with field := on, rf := if on then x.rf else .ready }).rfTo (if on then (if s.tag.field then s.tag.sess else 1) else 0)

/-- RF_STATE_TIMEOUT (R544): 100 ms without a valid request, or (`inv`) with Inventory and Stay quiet requests only. -/
def execRfStateTimeout (inv : Bool) (s : State) : Host.Outcome State Fault Refusal := .next <|
  if !s.tag.field then s else s.rfTo (if inv then min s.tag.sess 2 else 1)

/-- Addressing of an RF request by ISO/IEC 15693-3: 0 non-addressed, 1 addressed to this tag, 2 to the selected tag (PRESUMED, log
entry 22). -/
def Tag.hears (x : Tag) (mode : Nat) : Bool :=
  x.field && (match mode with | 0 => x.rf != .quiet | 1 => true | _ => x.rf == .selected)

/-- Answer to RF: the response flags and data. -/
def State.rfOut (s : State) (d : List Byte) : State := s.send ⟨.rf, [], d⟩
/-- An error response (R543). -/
def State.rfErr (s : State) (e : Nat) : State := s.rfOut (leBytes 1 1 ++ leBytes 1 e)

/-- A valid request other than Inventory and Stay quiet: the tag is in SESSION. -/
def State.rfReq (s : State) (mode : Nat) (f : State → State) : State := if s.tag.hears mode then f (s.rfTo 3) else s

/-- The UID, repeated in blocks 0 to 1 (R543). -/
def State.tagUid (s : State) : List Byte := s.tagBytes 0 2

/-- RF_INVENTORY (R543): answered unless quiet, when the low bits of the UID equal the mask. -/
def execRfInventory (maskLen : Fin 65) (mask : BitVec 64) (s : State) : Host.Outcome State Fault Refusal := .next <|
  if !s.tag.field then s
  else
    let t := s.rfTo (max s.tag.sess 2)
    if s.tag.rf != .quiet && leNat s.tagUid % 2 ^ maskLen.1 == mask.toNat % 2 ^ maskLen.1 then t.rfOut (leBytes 1 0 ++ leBytes 1 0 ++ s.tagUid) else t

/-- RF_STAY_QUIET (R543): addressed to this tag; no answer. -/
def execRfStayQuiet (s : State) : Host.Outcome State Fault Refusal := .next <|
  if !s.tag.field then s else (s.rfTo (max s.tag.sess 2)).modTag fun x => { x with rf := .quiet }

/-- RF_SELECT (R543): this tag, or another one, which ends its own selection. -/
def execRfSelect (mine : Bool) (s : State) : Host.Outcome State Fault Refusal := .next <|
  if !s.tag.field then s
  else if mine then ((s.rfTo 3).modTag fun x => { x with rf := .selected }).rfOut (leBytes 1 0)
  else s.modTag fun x => { x with rf := if x.rf == .selected then .ready else x.rf }

/-- RF_RESET_TO_READY (R543). -/
def execRfResetToReady (mode : Fin 3) (s : State) : Host.Outcome State Fault Refusal := .next <|
  s.rfReq mode fun t => (t.modTag fun x => { x with rf := .ready }).rfOut (leBytes 1 0)

/-- Last block a command reaches: 255 without the extended form (R543). -/
def rfTop (ext : Bool) : Nat := if ext then 4095 else 255

/-- RF_READ_BLOCK (R543): `n` blocks, at most 64, from `first`. -/
def execRfReadBlock (mode : Fin 3) (ext : Bool) (first n : Nat) (s : State) : Host.Outcome State Fault Refusal := .next <|
  s.rfReq mode fun t =>
    if n = 0 ∨ 64 < n ∨ rfTop ext < first + n - 1 then t.rfErr 0x10 else t.rfOut (leBytes 1 0 ++ t.tagBytes first n)

/-- A block is locked: the nameplate at manufacture, others by Lock block; reserved blocks take no write (R542). -/
def State.rfLocked (s : State) (k : Nat) : Bool := decide (k < 256) || decide (3891 ≤ k) || s.tag.locks.contains k

/-- A Write or Lock of a live block is refused: powered and LIVEGATE 0, or SERVICE entered or left on this edge (R10,
R546). -/
def State.rfLiveBar (s : State) (k : Nat) : Bool := decide (1024 ≤ k ∧ k ≤ 3839) && s.sys.phase != .off && (!s.liveGate || s.marked .service)

/-- An RF change of block `k`, if it is permitted (R542, R543, R546). -/
def State.rfChange (s : State) (ext : Bool) (k : Nat) (f : State → State) : State :=
  if rfTop ext < k then s.rfErr 0x10
  else if s.rfLocked k then s.rfErr 0x12
  else if s.rfLiveBar k then
    let t := (s.bump TAG_CNT_RFREF).rfErr 0xA1
    if s.up then t.emcy 0xFF65 [k % 256, k / 256] else t
  else ((f s).modTag fun x => { x with rfw := true }).rfOut (leBytes 1 0)

/-- RF_WRITE_BLOCK (R546). -/
def execRfWriteBlock (mode : Fin 3) (ext : Bool) (block : BitVec 12) (data : Word) (s : State) : Host.Outcome State Fault Refusal := .next <|
  s.rfReq mode fun t => t.rfChange ext block.toNat fun u => u.setTagBlock block.toNat data

/-- RF_LOCK_BLOCK (R546). -/
def execRfLockBlock (mode : Fin 3) (ext : Bool) (block : BitVec 12) (s : State) : Host.Outcome State Fault Refusal := .next <|
  s.rfReq mode fun t => t.rfChange ext block.toNat fun u => u.modTag fun x => { x with locks := block.toNat :: x.locks }

/-- RF_GET_SYSTEM_INFO (R543): UID, DSFID and AFI 0x00; the extended form gives 4,096 blocks of 4 bytes (layout of ISO/IEC 15693,
PRESUMED, log entry 22). -/
def execRfGetSystemInfo (mode : Fin 3) (ext : Bool) (s : State) : Host.Outcome State Fault Refusal := .next <|
  s.rfReq mode fun t =>
    if ext then t.rfOut (leBytes 2 0x0700 ++ t.tagUid ++ leBytes 2 0 ++ leBytes 2 4095 ++ leBytes 1 3)
    else t.rfOut (leBytes 2 0x0300 ++ t.tagUid ++ leBytes 2 0)

/-- RF_GET_BLOCK_SECURITY (R543): one byte per block, 1 for a locked one. -/
def execRfGetBlockSecurity (mode : Fin 3) (ext : Bool) (first n : Nat) (s : State) : Host.Outcome State Fault Refusal := .next <|
  s.rfReq mode fun t =>
    if n = 0 ∨ rfTop ext < first + n - 1 then t.rfErr 0x10
    else t.rfOut (leBytes 1 0 ++ (List.range n).map fun i => BitVec.ofNat 8 (b2n (decide (first + i < 256) || t.tag.locks.contains (first + i))))

/-- RF_UNSUPPORTED_COMMAND (R543): error 0x01. -/
def execRfUnsupportedCommand (mode : Fin 3) (s : State) : Host.Outcome State Fault Refusal := .next <| s.rfReq mode fun t => t.rfErr 0x01

/-! ### Views -/

/-- TAG_STAT. -/
def State.tagStat (s : State) : Nat :=
  s.tag.sess % 4 * 2 ^ 30 + b2n s.liveGate * 2 ^ 28 + b2n s.tag.rfw * 2 ^ 27 + b2n s.tag.wired.isSome * 2 ^ 25 + s.get TAG_STAT_RESULT * 2 ^ 22

/-! ### Option requests (R110, R540) -/

/-- An option record is valid: CRC, MAGIC and LAYOUT (R108). -/
def optValid (l : List Byte) : Bool :=
  leNat (l.take 2) == 0x5A3C && leNat ((l.drop 2).take 1) == 1 && leNat ((l.drop 62).take 2) == crc16 (l.take 62)

/-- The boot ROM repairs copy 0 from a valid copy 1 (R110). -/
def State.optRepair (s : State) : State :=
  if !optValid s.sys.opt0 && optValid s.sys.opt1 then (s.modSys fun z => { z with opt0 := s.sys.opt1 }) else s

/-- A pending option request in the mailbox is verified, applied and marked (R540). -/
def State.optRequest (s : State) : State :=
  if s.tagBlock 3840 ≠ 0x4F505251 then s
  else
    let q := s.tagBytes 3841 50
    let r := (q.drop 8).take 64
    if leNat (q.take 4) = 0x47D10B7E ∧ leNat ((q.drop 4).take 4) = s.sys.serial ∧ optValid r ∧ s.keyOk ((q.drop 0x48).take 64) q then
      ((s.setTagBlock 3840 1).modSys fun z => { z with opt0 := r, opt1 := r })
    else s.setTagBlock 3840 2

end Sys2Proof.Machine
end

