-- ==== Sys2Proof/Machine/Reset.lean ====
section
/-! DEFINITION. Reset, option bytes and start-up (04_reset_startup.md). -/

namespace Sys2Proof.Machine

/-! ### Sources and records (R91 to R93, R122) -/

/-- Code of a reset source (R91). -/
def RstSource.code : RstSource → Nat
  | .powerOn => 1 | .brownOut => 2 | .hotPlug => 3 | .pin => 4 | .watchdog => 5 | .software => 6 | .nmt => 7 | .ring => 8

/-- A request sets its own flag in RST_CAUSE: bit code − 1 (R93). -/
def State.rstFlag (s : State) (src : RstSource) : State := s.putOr ⟨RST_CAUSE, 8, 0⟩ (2 ^ (src.code - 1))

/-- Enter a code in RST_HIST. -/
def State.rstHist (s : State) (src : RstSource) : State := s.put RST_HIST_HIST (s.get RST_HIST_HIST * 16 + src.code)

/-! ### What a reset clears (R92) -/

/-- Fields that show input levels keep them; they are no stored state. -/
def State.inputLevels (t old : State) : State :=
  let u := (t.put GPI_LVL_V (old.get GPI_LVL_V)).put EMG_LVL_EMG (old.get EMG_LVL_EMG)
  forFin 8 (fun a v => v.put (BRK_STAT_FB a) (old.get (BRK_STAT_FB a))) u

/-- Every register and part that a reset returns to its reset value does so; what it keeps stays. -/
def State.clearParts (s : State) (whole : Bool) : State :=
  { s with
    clk := 0
    regs := if whole then [] else s.regs.filter fun r => keptOverReset r.1
    hold := []
    pend64 := []
    axes := Vector.replicate 8 {}
    ports := Vector.replicate 6 {}
    waiting := 0
    srv := { saved := s.srv.saved }
    cp := { partnerHigh := s.cp.partnerHigh, seen := !s.cp.partnerHigh }
    eng := Vector.replicate 8 {}
    gain := State.reset.gain
    route := State.reset.route
    tension := State.reset.tension
    lio := {}
    fb := { inc := s.fb.inc.map fun e => { lv := e.lv }, hall := s.fb.hall.map fun e => { lv := e.lv } }
    modCap := []
    ring := {}
    pr := {}
    bear := { s.bear with good := 0, up := false, seq := 0, out := none, wait := [], rxSeq := none }
    store := { s.store with cmd := none, eraseAt := none, bankwr := false, dropWr := false, prog := false, ready := false,
                            migFrom := none, wearSent := false, image := none }
    tag := { s.tag with wired := none }
    sys := { s.sys with boot := .none, cold := whole, preSrc := none, preAnswers := [], prePorts := 0, wdtOn := false,
                        identity := false, haltN := false, ss1 := false } }

/-- Every Haldux register and the state of its blocks, at system scope (R92, R458), or of the whole unit: without the kept
registers. The tag, the flash, the option bytes, memory and the safety supervisor stay. -/
def State.haldReset (s : State) (whole : Bool) : State :=
  let t := s.clearParts whole
  let u := if whole then t.put BG_SCS_STAT_COMMITTED (b2n s.bg.accepted.isSome)
    else
      -- PRESLOST is kept (R468), and so is what the supervisor reported of its set (R59)
      let v := (t.put BEAR_STAT_PRESLOST (s.get BEAR_STAT_PRESLOST)).setReg BG_SCS_STAT (s.reg BG_SCS_STAT)
      (v.put BG_SCS_STAT_BUSY 0).put BG_SCS_STAT_CAND 0
  (u.txAbort).inputLevels s

/-- Haldux enters reset for a request of system scope (R92, R94, R95, R122). -/
def State.enterReset (s : State) (src : RstSource) : State :=
  (((s.haldReset false).rstHist src).bump RST_CNT_SYSCNT).modSys fun y => { y with phase := .held }

/-! ### The pre-reset phase (R94, R95) -/

/-- An axis is forced to Switch on disabled, in whatever state it is (R94 step 1); the halt frames of step 2 follow. -/
def State.preDisable (s : State) (a : Fin 8) : State :=
  let x := s.axes[a]
  let s1 := s.haltAxis a
  if x.st = .disabled then s1
  else
    let s2 := s1.axisTo a .disabled x.mode
    if x.code = 5 then s2.raise (axEvt a) 4 (evAxis a) else s2

/-- Steps 1 and 2 of R94: the supervisor is signalled, the cores stop, the claim is released, every axis goes to Switch on disabled and
halt frames begin on every port, with the cause of the pre-reset phase (R213). -/
def State.preStart (s : State) : State :=
  let s0 := forFin 6 (fun p t => t.haltPort p 6 0) s
  let s1 := s0.resetSignal.claimRelease
  let s2 := forFin 4 (fun c t => t.modCore c fun x => { x with run := none }) s1
  forFin 8 (fun a t => t.preDisable a) s2

/-- What `f` puts on the lines is held back as one answer of step 4 (R94). -/
def State.holdAnswer (s : State) (f : State → State) : State :=
  let t := f s
  let ms := (t.wire.take (t.wire.length - s.wire.length)).reverse
  (t.setWire s.wire).modSys fun y => { y with preAnswers := y.preAnswers ++ [(true, ms)] }

/-- Step 4 of R94: queued responses are dropped; every SDO request and every ring request without an answer gets one, which is held. -/
def State.preAnswer (s : State) : State :=
  let s1 := ((s.dropSdoReplies 0).dropSdoReplies 1).dropRingReplies
  let s2 := forFin 2 (fun ch t => match t.sdoUnanswered ch with
    | some (i, j) => (t.holdAnswer fun u => u.sdoAbort ch i j 0x08000020).sdoClear ch
    | none => t) s1
  (s2.ring.queries.foldl (fun t q => t.holdAnswer fun u => u.sysAnswer q.1 0x05 q.2 []) s2).modRing fun r => { r with queries := [] }

/-- A request of system scope is registered (R93, R94): without effect where CLKS does not run or Haldux is in reset. `first` are answers
sent ahead of those of step 4 (R417). -/
def State.sysRequest (s : State) (src : RstSource) (first : List (Bool × List Msg)) : State :=
  match s.sys.phase with
  | .run =>
    let s1 := forFin 32 (fun c t => if t.get (DMA_STAT_STATE c) = 1 then t.dmaAbandon c else t) (s.rstFlag src).preStart
    let ports := (List.finRange 6).foldl (fun m p => if s.ports[p].st == .stream || (s.ports[p].st == .halt && !s.ports[p].twelfth)
      then m + 2 ^ p.1 else m) 0
    ((s1.modSys fun y => { y with preAnswers := first }).preAnswer).modSys fun y =>
      { y with phase := .pre, preSrc := some src, prePorts := ports }
  | .pre => (s.rstFlag src).modSys fun y => { y with preSrc := match y.preSrc with
    | some p => if src.code < p.code then some src else some p
    | none => some src }
  | _ => s

/-- PRE_RESET_PHASE_END (R94 step 5): `n` answers of step 4 have been transmitted, the others are lost; so is one that no link or channel
could send. The ACK of RESET_UNIT is an answer that abandons nothing (R102, R417). -/
def execPreResetPhaseEnd (n : Nat) (s : State) : Host.Outcome State Fault Refusal := .next <|
  if s.sys.phase != .pre then s
  else
    let sent := (s.sys.preAnswers.filter fun e => !e.2.isEmpty).take n
    let s1 := (s.setWire ((sent.flatMap (·.2)).reverse ++ s.wire))
    let s2 := (s1.bumpBy ABND_CNT_ABND (sent.filter (·.1)).length).bumpBy FW_LOST_COUNT (s.sys.preAnswers.length - sent.length)
    s2.enterReset (s.sys.preSrc.getD .software)

/-- The internal reset line goes low: RST_N, or a presence pin (R95, R468). -/
def State.rstLine (s : State) : State :=
  match s.sys.phase with
  | .off => s
  | .lost =>
    let t := ((s.resetSignal.rstFlag .pin).put RST_CAUSE_PLLLOSS 1).enterReset .pin
    t.modSys fun y => { y with rstLow := true, pllLost := false }
  | .run => ((s.rstFlag .pin).preStart.enterReset .pin).modSys fun y => { y with rstLow := true }
  | .pre => (((s.rstFlag .pin).bumpBy FW_LOST_COUNT s.sys.preAnswers.length).enterReset .pin).modSys fun y => { y with rstLow := true }
  | .held | .wait => ((s.rstFlag .pin).enterReset .pin).modSys fun y => { y with rstLow := true }

/-- RST_N_ASSERT (R95): RST_N has been low for its filter time. -/
def execRstNAssert (s : State) : Host.Outcome State Fault Refusal := .next <| s.rstLine

/-- HALDUX_RESET_EXIT (R95): 20 us after the entry into reset and after the line has returned high; not while a presence pin of a seated
unit is open (R468). -/
def execHalduxResetExit (s : State) : Host.Outcome State Fault Refusal := .next <|
  if s.sys.phase != .held || (s.bear.beenSeated && !s.bear.seated) then s
  else s.modSys fun y => { y with phase := .wait, rstLow := false }

/-- A write of SYS_RST (R98). -/
def State.writeSysRst (s : State) (v : Word) : State := if v = 0x00005E7A then s.sysRequest .software [] else s

/-- SOFTWARE_SYSTEM_RESET (R93, R98). -/
def execSoftwareSystemReset (v : Word) (s : State) : Host.Outcome State Fault Refusal := .next <| s.writeSysRst v

/-- A write of WDT_KICK (R97): the watchdog runs from the release of core 0. -/
def State.writeWdtKick (s : State) (v : Word) : State :=
  if !s.sys.wdtOn then s
  else if v = 0x00005AC3 then s.modSys fun y => { y with wdtFrom := s.clk } else s.sysRequest .watchdog []

/-- WATCHDOG_KICK (R93, R97). -/
def execWatchdogKick (v : Word) (s : State) : Host.Outcome State Fault Refusal := .next <| if s.clocked then s.writeWdtKick v else s

/-- WATCHDOG_EXPIRY (R97): never in the image-load service, which services the watchdog itself (R119). -/
def execWatchdogExpiry (s : State) : Host.Outcome State Fault Refusal := .next <|
  if s.sys.wdtOn && s.sys.boot != .service then s.sysRequest .watchdog [] else s

/-- PLL_LOCK_LOSS (R23): every fabric clock stops until power-on or RST_N. -/
def execPllLockLoss (s : State) : Host.Outcome State Fault Refusal := .next <|
  if s.clocked then s.modSys fun y => { y with phase := .lost, pllLost := true } else s

/-- RSTEN is set and DATA is the key of RESET_UNIT (R417). -/
def State.resetKeyOk (s : State) (f : List Byte) : Bool := s.flag RING_CFG_RSTEN && leNat (sysData f) == 0x7A5E0000 && sysDlen f == 4

/-- SYS_RESET_UNIT (R93, R417): with RSTEN and the key the ACK is the first answer of step 4 of R94, else NAK 0x02; in a pre-reset phase it
is answered like every ring request, and sets its flag. -/
def execSysResetUnit (onB fcs : Bool) (f : List (BitVec 8)) (s : State) : Host.Outcome State Fault Refusal := .next <|
  if s.sys.phase == .pre then
    (if s.preTakes fcs f && sysCmd f == 2 && s.resetKeyOk f then s.sysRequest .ring [] else s).preSysReq fcs f
  else
  s.sysReq onB fcs f (· == 2) fun s =>
    if s.resetKeyOk f then
      let t := s.sysAnswer (sysOsrc f) 0 (sysTid f) []
      ((t.setWire s.wire)).sysRequest .ring [(false, (t.wire.take (t.wire.length - s.wire.length)).reverse)]
    else s.sysAnswer (sysOsrc f) 0x02 (sysTid f) []

/-! ### Power-on family (R91, R92, R117) -/

/-- The safety supervisor at power-up (R50, R55, R57, R59): its non-volatile record and the accepted CRC stay, and its registers show
their reset values until the first update. `sw` is what the seal
switches read, `lv` the filtered input levels, laid out as BG_INPUTS. -/
def Badger.powerUp (b : Badger) (sw : BitVec 8) (lv : BitVec 32) : Badger :=
  { powered := true, latched := b.latched, first := b.first, index := b.index, causes := b.causes, lockCnt := b.lockCnt,
    causeIdx := b.causeIdx, accepted := b.accepted, snap := sw.toNat, live := sw.toNat,
    stoA := lv.getLsbD 0, stoB := lv.getLsbD 1, lorA := lv.getLsbD 2, lorB := lv.getLsbD 3,
    grdA := BitVec.ofNat 4 (bitsOf lv.toNat 11 8), grdB := BitVec.ofNat 4 (bitsOf lv.toNat 15 12),
    brkFb := BitVec.ofNat 8 (bitsOf lv.toNat 27 20),
    shown := #v[BitVec.ofNat 32 (b2n b.latched * 2 ^ 31 + bitsOf sw.toNat 5 4 * 2 ^ 16 + b2n (bitOf sw.toNat 2) * 2 ^ 10) ||| 0x10005800,
      BitVec.ofNat 32 (b.lockCnt * 2 ^ 16 + b.index % 8 * 2 ^ 8 + b.first), BitVec.ofNat 32 b.causes,
      BitVec.ofNat 32 (sw.toNat * 257), lv &&& 0x0FF0FF0F, 0, 0] }

/-- Step 2 of R117: the whole unit is reset, the record names the source, and the supervisor takes its snapshot; switch code 0b11 of the
STO pair latches SEAL_INVALID (R41). -/
def State.coldStart (s : State) (src : RstSource) (sw : BitVec 8) (lv : BitVec 32) : State :=
  let s1 := ((s.haldReset true).rstFlag src).put RST_HIST_HIST src.code
  let s2 := ((s1.modBg fun b => b.powerUp sw lv).noErrs).modSys fun y => { y with phase := .wait, rstLow := false, pllLost := false }
  if bitsOf sw.toNat 1 0 = 3 then s2.lockout 4 0 else s2

/-- The start of a seated unit or one on the bench, once a feed is valid (R452, R453, R457). -/
def State.tryStart (s : State) (sw : BitVec 8) (lv : BitVec 32) : State :=
  let b := s.bear
  if s.sys.phase != .off || !(b.feedA || b.feedB) || !(b.seated || b.bench) then s
  else
    let t := (s.modBear fun _ => { b with bor := false })
    t.coldStart (if b.bor then .brownOut else if b.seated && b.openAtRail then .hotPlug else .powerOn) sw lv

/-- The standby rail comes up with a feed: what the presence pins read decides how a start is recorded (R451, R453). -/
def Bear.railUp (b : Bear) : Bear := if b.rail then b else { b with rail := true, openAtRail := !(b.pres1 && b.pres3) }

/-- POWER_ON_RESET (R91, R452, R453): both feeds rise valid; a unit that is seated or on the bench starts. -/
def execPowerOnReset (sw : BitVec 8) (lv : BitVec 32) (s : State) : Host.Outcome State Fault Refusal := .next <|
  if s.sys.phase != .off then s
  else ((s.modBear fun _ => { s.bear.railUp with feedA := true, feedB := true })).tryStart sw lv

/-! ### Option bytes, ROLE, identity (R107 to R116) -/

/-- A field of a record, or its default when out of range. -/
def optField (l : List Byte) (o lo hi d : Nat) : Nat × Bool :=
  let v := leNat ((l.drop o).take 1)
  if lo ≤ v ∧ v ≤ hi then (v, false) else (d, true)

/-- The option-byte loader (R108): the record applied, OPT_STAT and the flags of RST_CAUSE. -/
def State.loadOptions (s : State) : State :=
  let v0 := optValid s.sys.opt0
  let bad := !v0 && !optValid s.sys.opt1
  let l := if v0 then s.sys.opt0 else s.sys.opt1
  let bank := optField l 3 0 1 0
  let base := optField l 4 0 127 0
  let ring := optField l 5 0 63 0
  let wdt := optField l 6 10 250 100
  let key := optField l 7 0 1 0
  let defs := b2n bank.2 + b2n base.2 * 2 + b2n ring.2 * 4 + b2n wdt.2 * 8 + b2n key.2 * 16
  let rsvd := leNat ((l.drop 12).take 18) != 0
  let s1 := s.modSys fun y =>
    if bad then { y with bankPref := 0, nodeBase := 0, ringNo := 0, wdtMs := 100, keySel := 0, serial := 0, identity := false }
    else { y with bankPref := bank.1, nodeBase := base.1, ringNo := ring.1, wdtMs := wdt.1, keySel := key.1
                  serial := leNat ((l.drop 8).take 4), identity := !base.2 && !ring.2 }
  let stat := if bad then 0x1F * 2 ^ 18 + 2 ^ 17
    else b2n rsvd * 2 ^ 23 + defs * 2 ^ 18 + b2n (!v0) * 2 ^ 16 + leNat ((l.drop 62).take 2)
  let s2 := (s1.setReg OPT_STAT (BitVec.ofNat 32 stat)).put ⟨RST_CAUSE, 21, 16⟩ 0
  ((s2.put RST_CAUSE_OPT_FIELD (b2n (!bad && (defs != 0 || rsvd)))).put RST_CAUSE_OPT_COPY1 (b2n (!bad && !v0))).put RST_CAUSE_OPT_BAD (b2n bad)

/-- Code of a conversion of ROLE (R111). -/
def roleCode (c : BitVec 6) : Nat := 15 - c.toNat / 4

/-- The ROLE code is latched from eight conversions (R111, R113). -/
def State.latchRole (s : State) (vc : Vector (BitVec 6) 8) : State :=
  let code := roleCode vc[0]
  let same := vc.all fun x => roleCode x == code
  let v := if !same || (code == 0 && s.bear.seated) then 15 else code
  let back := s.bear.pres1 && s.bear.pres3
  (s.setReg ROLE_STAT (BitVec.ofNat 32 (b2n (!same) * 2 ^ 13 + b2n back * 2 ^ 12 + v * 2 ^ 8 + vc[7].toNat))).put RST_CAUSE_ROLE_INVALID
    (b2n (v == 15))

/-- The addresses follow (R114, R115): code 15 and the bench take NODE_BASE itself; COB-IDs of PDOs 0 to 3 (R477). -/
def State.deriveNode (s : State) : State :=
  let code := s.get ROLE_STAT_CODE
  let id := s.sys.nodeBase + (if code = 15 then 0 else code)
  if !s.sys.identity then s
  else if id < 1 ∨ 127 < id then (s.modSys fun y => { y with identity := false }).put RST_CAUSE_NODE_BAD 1
  else
    let t := s.setReg NODE (BitVec.ofNat 32 (s.sys.ringNo * 2 ^ 16 + id % 64 * 2 ^ 8 + 2 ^ 7 + id))
    forN 4 (fun n u => (u.setReg (RPDO_COBID n) (BitVec.ofNat 32 (0x200 + 0x100 * n + id))).setReg (TPDO_COBID n)
      (BitVec.ofNat 32 (0x180 + 0x100 * n + id))) t

/-- EMCYs of the start, with a valid node ID: 0xFF40, 0xFF41, 0xFF42 (R115, R116), the first cause of a latched lock-out (R65) and 0xFF91
(R468). -/
def State.startEmcys (s : State) : State :=
  if !s.hasId then s
  else
    let s1 := if s.get ROLE_STAT_CODE = 15 then s.emcy 0xFF40 [] else s
    let s2 := if s.flag RST_CAUSE_OPT_COPY1 then s1.emcy 0xFF41 [] else s1
    let s3 := if s.flag RST_CAUSE_OPT_FIELD && (s.get OPT_STAT_FIELDDEF &&& 0x19 != 0 || s.flag OPT_STAT_RSVD) then s2.emcy 0xFF42 [] else s2
    let s4 := if s.bg.latched then s3.emcy (0xFF00 + s.bg.first) [s.bg.index, s.bg.first] else s3
    if s.bear.reseated then ((s4.modBear fun z => { z with reseated := false })).emcy 0xFF91 [] else s4

/-! ### Release of core 0 and the boot ROM (R97, R110, R117 to R119, R531, R540) -/

/-- Core 0 is released as tenant 0 into the boot ROM and the watchdog starts; the boot ROM zeroes memory, repairs option copy 0,
carries out an option request, chooses a bank and enters its boot stage, or offers the image-load service (log entry 23). -/
def State.coreRelease (s : State) : State :=
  let s1 := if s.sys.cold then s.dropRam else (s.dropBytes 0x08000000 0x10000).dropErrs 0x08000000 0x10000
  let s2 := (s1.modSys fun y => { y with wdtOn := true, wdtFrom := s.clk }).optRepair.optRequest
  let r := chooseBank 3 s2
  let s3 := match r.1 with
    | some b =>
      let t := ((r.2.put BOOT_CTRL_BANK b).put BOOT_CTRL_KEY (r.2.imgField b 0x18 1)).modSys fun y => { y with boot := .rom }
      t.modBank 0 fun x => { x with pc := BitVec.ofNat 32 (r.2.imgField b 0x14 4) }
    | none => r.2.modSys fun y => { y with boot := .service }
  let s4 := (s3.modCore 0 fun x => { x with from_ := s.clk, instret := 0, issued := false }).settle 0
  let s5 := if s4.hasId then s4.store.failNew.foldl (fun t e => t.emcy 0xFF60 [e.1, e.2]) s4 else s4
  if s4.hasId then s5.modStore fun x => { x with failNew := [] } else s5

/-- PLL_LOCK (R117 steps 3 to 7): CLKS runs, the option bytes are loaded, ROLE is measured with the counts `c`, the identity is derived;
after a reset of system scope core 0 is released, after the power-on family once the self-test is reported (R118). -/
def execPllLock (c : Vector (BitVec 6) 8) (s : State) : Host.Outcome State Fault Refusal := .next <|
  if s.sys.phase != .wait then s
  else
    let s1 := s.modSys fun y => { y with phase := .run, haltN := s.bg.haltN, boot := .waitTest }
    let s2 := ((s1.loadOptions.latchRole c).deriveNode.ringJoin).startEmcys
    if s.sys.cold && s.bg.selftest == .running then s2 else s2.coreRelease

/-- SELFTEST_COMPLETE (R57, R60, R118): pass, or the number of the test that failed; LOR seen pressed at power-up counts no act. -/
def execSelftestComplete (failed : Option (Fin 8)) (s : State) : Host.Outcome State Fault Refusal := .next <|
  if !s.bg.powered || s.bg.selftest != .running then s
  else
    let s1 := match failed with
      | some t => (s.modBg fun b => { b with selftest := .failed }).lockout 5 t
      | none => s.modBg fun b => { b with selftest := .passed, testPassSince := true }
    let s2 := if s.bg.lorA || !s.bg.lorB then ((s1.modBg fun b => { b with lorVoid := true }).bgEvent 6).bgEmcy 0xFF0E [] else s1
    if s.up && s.sys.boot == .waitTest then s2.coreRelease else s2

/-- BADGER_LATE_TIMEOUT (R118): no result within 150 ms of step 2. -/
def execBadgerLateTimeout (s : State) : Host.Outcome State Fault Refusal := .next <|
  if s.up && s.sys.boot == .waitTest then (s.put RST_CAUSE_BADGER_LATE 1).coreRelease else s

/-! ### Resets of a part (R99, R100) -/

/-- A write of TEN_RST (R99): discarded before BOOT_DONE, with another key or with bit 0 set. `got`: bits received so far on each port. -/
def State.writeTenRst (s : State) (v : Word) (got : List (List Bool)) : State :=
  if !s.bootDone || fieldOf v 31 16 != 0xC3A5 || bitOf v.toNat 0 then s
  else forFin 8 (fun t u => if bitOf v.toNat t.1 && u.tenantState t != 0 then u.tenantReset t got true else u) s

/-- TENANT_RESET (R99). -/
def execTenantReset (v : Word) (got : List (List Bool)) (s : State) : Host.Outcome State Fault Refusal := .next <|
  s.whenUp (·.writeTenRst v got)

/-- DMA channel `c` has a descriptor that feeds the queue of port `p`: it is paced by the port's line or writes its queue. -/
def State.dmaFeeds (s : State) (c : Fin 32) (p : Fin 6) : Bool :=
  s.get (DMA_STAT_STATE c) != 0 && (s.get (DMA_REQ_REQ c) == p.1 + 1 || s.pr.dma[c].dst == 0x40100020 + 0x1000 * p.1)

/-- Reset of one port (R100, R177): a streaming port halts first and ends on the twelfth edge of its halt frame. -/
def State.portReset (s : State) (p : Fin 6) : State :=
  if !s.allSafe (s.axmap p) then (s.putOr RSTCTL_STAT_PORTREF (2 ^ p.1)).strobe (evPort p + 10)
  else
    let s1 := forFin 32 (fun c t => if t.dmaFeeds c p then t.dmaAbandon c else t) (s.mark (.portReset p))
    let lost : Bool := (s.ports[p].flight.map fun fl => fl.await || decide (0 < fl.rawLeft)).getD false
    let s2 := if lost == true then s1.bump ABND_CNT_DROP else s1
    match s.ports[p].st with
    | .off => s2.portClear p
    | .halt => if s.ports[p].twelfth then s2.portClear p else s2.modPort p fun q => { q with resetting := true, flight := none }
    | .stream => (s2.haltPort p 4 0).modPort p fun q => { q with resetting := true, flight := none }

/-- A write of PORT_RST (R100). -/
def State.writePortRst (s : State) (v : Word) : State :=
  if fieldOf v 31 16 != 0xC3A5 then s
  else forFin 6 (fun p t => if bitOf v.toNat p.1 && decide (p.1 < t.nPorts) then t.portReset p else t) s

/-- PORT_RESET (R100). -/
def execPortReset (v : Word) (s : State) : Host.Outcome State Fault Refusal := .next <| s.whenUp (·.writePortRst v)

/-! ### Views -/

/-- Watchdog period in ms (R97). -/
def State.wdtPeriod (s : State) : Nat := if s.bootDone then s.sys.wdtMs else 1000

/-- WDT_STAT; what is left of the period that the image-load service reloads is its own (R119, a free value, log entry 4). -/
def State.wdtStat (s : State) : Nat :=
  if !s.sys.wdtOn then 2 ^ 16
  else if s.sys.boot == .service then 2 ^ 16 + Config.freeValue 80 s.freeCtr % 1001
  else b2n (!s.bootDone) * 2 ^ 16 + (s.wdtPeriod * 250000 - (s.clk - s.sys.wdtFrom)) / 250000

end Sys2Proof.Machine
end

