-- ==== Sys2Proof/Machine/Bear.lean ====
section
/-! DEFINITION. The cabinet interface (15_hotplug_cabinet.md): seating, feeds, PARK, the front-panel lamps, and the bridge link. -/

namespace Sys2Proof.Machine

/-! ### Lamp test, seating and the start (R451 to R453, R468, R471) -/

/-- The lamp test begins (R451). -/
def State.lampTest (s : State) : State := s.modBear fun b => { b with ltest := some s.time }

/-- SEATING_COMPLETE (R451 to R453, R468): both pins have been in contact for 20 ms. -/
def execSeatingComplete (sw : BitVec 8) (lv : BitVec 32) (s : State) : Host.Outcome State Fault Refusal := .next <|
  if s.bear.seated then s
  else
    let t := (s.modBear fun b => { b with pres1 := true, pres3 := true, seated := true, beenSeated := true, bench := false }).lampTest
    t.tryStart sw lv

/-- BENCH_DETECT (R451): both pins have been open for 200 ms since the standby rail came up. -/
def execBenchDetect (sw : BitVec 8) (lv : BitVec 32) (s : State) : Host.Outcome State Fault Refusal := .next <|
  if s.bear.seated || s.bear.pres1 || s.bear.pres3 then s
  else (s.modBear fun b => { b with bench := true }).tryStart sw lv

/-- PRESENCE_PIN_CONTACT (R451): one pin makes or breaks contact. -/
def execPresencePinContact (pin3 contact : Bool) (s : State) : Host.Outcome State Fault Refusal := .next <|
  s.modBear fun b => if pin3 then { b with pres3 := contact } else { b with pres1 := contact }

/-- PRESENCE_LOST (R468): a pin of a seated unit has read open for 10 us; `p1` and `p3` are the contacts. -/
def execPresenceLost (p1 p3 : Bool) (s : State) : Host.Outcome State Fault Refusal := .next <|
  if !s.bear.seated || (p1 && p3) then s
  else
    let t := s.modBear fun b => { b with pres1 := p1, pres3 := p3, seated := false, reseated := true }
    if s.sys.phase == .off then t else (t.put BEAR_STAT_PRESLOST 1).rstLine

/-! ### Feeds (R454 to R457) -/

/-- A feed fell or rose while the other was valid: reported (R456). ACHG or BCHG is a register of Haldux. -/
def State.feedReport (s : State) (onB valid : Bool) : State :=
  let s1 := if valid then s else s.bump (if onB then BEAR_FEEDCNT_BDROP else BEAR_FEEDCNT_ADROP)
  if !s.clocked then s1
  else ((s1.put (if onB then BEAR_FEED_BCHG else BEAR_FEED_ACHG) 1).strobe 126).emcy 0xFF90 [b2n onB, if valid then 2 else 1]

/-- FEED_CHANGE (R454 to R457): a feed becomes valid or invalid. One that falls on the edge on which the other rises is reported with it
(R472). `collapsed`: with both feeds gone the standby rail had collapsed, so the
cabinet interface lost its record. -/
def execFeedChange (onB valid collapsed : Bool) (sw : BitVec 8) (lv : BitVec 32) (s : State) : Host.Outcome State Fault Refusal := .next <|
  let b := s.bear
  if (if onB then b.feedB else b.feedA) == valid then s
  else
    let other := if onB then b.feedA else b.feedB
    let t := s.modBear fun b => if onB then { b with feedB := valid } else { b with feedA := valid }
    if other then (if s.sys.phase == .off then t.tryStart sw lv else t.feedReport onB valid)
    else if !valid then t.mark (.feedFell onB)
    else if s.sys.phase != .off && s.marked (.feedFell !onB) then (t.feedReport (!onB) false).feedReport onB true
    else if s.sys.phase != .off then t.bump BEAR_FEEDCNT_DIPS
    else
      let u := if collapsed then t.modBear fun b =>
        { b with rail := false, bor := false, beenSeated := b.seated, reseated := false } else t
      (u.modBear Bear.railUp).tryStart sw lv

/-- BROWN_OUT (R457): both feeds have been invalid for 5 ms; the whole unit is held in reset. -/
def execBrownOut (s : State) : Host.Outcome State Fault Refusal := .next <|
  if s.bear.feedA || s.bear.feedB || s.sys.phase == .off then s
  else
    let t := ((s.haldReset true).modBg fun _ => { s.bg.powerUp 0 0 with powered := false })
    (t.modBear fun b => { b with bor := true, reseated := false }).modSys fun y => { y with phase := .off }

/-! ### PARK (R463 to R467) -/

/-- A park request: whether it is not refused, and the state; a unit that is parked takes its ports to OFF (R464, R465). -/
def State.parkRequest (s : State) : Bool × State :=
  let r := s.parkJudge
  (r.1, forFin 6 (fun p t => t.parkPort p) r.2)

/-- Return to NONE (R467). -/
def State.unpark (s : State) : State := s.parkTo 0 0

/-- PARK_REQUEST (R464, R467): by the button, whose second counted press unparks, or by a write. -/
def execParkRequest (button : Bool) (s : State) : Host.Outcome State Fault Refusal := .next <|
  s.whenUp fun s => if button && s.get BEAR_STAT_PARK != 0 then s.unpark else s.parkRequest.2

/-- UNPARK (R467). -/
def execUnpark (s : State) : Host.Outcome State Fault Refusal := .next <| s.whenUp State.unpark

/-- PARK_SAFE_TO_PULL (R466): judged with the supervisor's report on its non-volatile memory. -/
def execParkSafeToPull (idle : Bool) (s : State) : Host.Outcome State Fault Refusal := .next <|
  s.whenUp fun s =>
    let safe := idle && !s.storeWriting && (List.finRange 6).all fun p => s.ports[p].st == .off
    if !s.parked then s else s.parkTo (if safe == true then 3 else 2) 0

/-- PARK_HANDOVER_TIMEOUT (R464): the claim was not released within 100 ms. -/
def execParkHandoverTimeout (s : State) : Host.Outcome State Fault Refusal := .next <|
  s.whenUp fun s => if s.get BEAR_STAT_PARK = 1 ∧ s.cp.claim then s.parkRefuse 2 else s

/-- HANDOVER_RELEASE (R445): the handover COMMIT has left port A; a park request that waits is judged again (R464). -/
def execHandoverRelease (s : State) : Host.Outcome State Fault Refusal := .next <|
  s.whenUp fun s => if s.cp.claim && s.cp.ho == 2 then forFin 6 (fun p t => t.parkPort p) s.claimRelease else s

/-- LAMP_TEST_COMMAND (R471). -/
def execLampTestCommand (s : State) : Host.Outcome State Fault Refusal := .next <| s.whenUp State.lampTest

/-- A write of BEAR_PARK: UNPARK and PARK. -/
def State.writeBearPark (s : State) (v : Nat) : State :=
  let s1 := if bitOf v 1 then s.unpark else s
  if bitOf v 0 then s1.parkRequest.2 else s1

/-! ### The bridge link (R459 to R462, R418) -/

/-- Mode of the twin lines: 1 CLAIM, 2 BRIDGE, 0 IDLE (R459). -/
def State.twinMode (s : State) : Nat := if bitOf s.bg.snap 7 then 1 else if s.get RING_CFG_ROLE = 1 then 2 else 0

/-- The bytes of a bridge frame (R460). -/
def bridgeFrame (kind seq : Nat) (pay : Option (List Byte)) : List Byte :=
  let body := leBytes 1 kind ++ leBytes 1 seq ++ (match pay with | some p => beBytes 2 p.length ++ p | none => [])
  [0xC3] ++ body ++ beBytes 4 (crc32 body)

/-- Transmit a bridge frame. A DATA frame carries bytes 26 on of a SYS frame; `resp` tells a SYS_RESP (log entry 24). -/
def State.bridgeSend (s : State) (resp : Bool) (f : List Byte) : State := s.send ⟨.bridge, [b2n resp], f⟩

/-- The SOF, CRC and length of a frame of the given kind are right (R460, R461). -/
def bridgeGood (kind : Nat) (f : List Byte) : Bool :=
  let n := f.length
  let body := (f.drop 1).take (n - 5)
  decide (7 ≤ n) && fget f 0 1 == 0xC3 && fget f 1 1 == kind && fget f (n - 4) 4 == crc32 body &&
  (if kind = 1 then decide (9 ≤ n) && decide (10 ≤ fget f 3 2 ∧ fget f 3 2 ≤ 266) && n == 9 + fget f 3 2 else n == 7)

/-- A change of LINKUP: E125 and EMCY 0xFF93 (R462). -/
def State.bridgeLink (s : State) (up : Bool) : State :=
  if s.bear.up == up then s else ((s.modBear fun b => { b with up := up }).strobe 125).emcy 0xFF93 [if up then 2 else 1]

/-- A frame was received: three good ones in a row set LINKUP (R462). -/
def State.bridgeHeard (s : State) (good : Bool) : State :=
  if !good then s.modBear fun b => { b with good := 0 }
  else
    let t := s.modBear fun b => { b with good := min 3 (b.good + 1) }
    if t.bear.good = 3 then t.bridgeLink true else t

/-- Send the next waiting DATA frame, when none is outstanding (R461). -/
def State.bridgeNext (s : State) : State :=
  match s.bear.out, s.bear.wait with
  | none, (resp, p) :: l =>
    let q := (s.bear.seq + 1) % 256
    (s.modBear fun b => { b with seq := q, out := some (resp, p, false), wait := l }).bridgeSend resp (bridgeFrame 1 q (some p))
  | _, _ => s

/-- NAK 0x04 to the requester of a passed frame (R461). -/
def State.bridgeNoRoute (s : State) (p : List Byte) : State := s.sysAnswer (fget p 0 2 % 4096) 0x04 (fget p 6 2) []

/-- The outstanding frame failed: sent once more, then NAK 0x04 (R461). -/
def State.bridgeFail (s : State) : State :=
  match s.bear.out with
  | none => s
  | some (resp, p, false) =>
    ((s.modBear fun b => { b with out := some (resp, p, true) }).bump BEAR_TWINCNT_RETRIES).bridgeSend resp
      (bridgeFrame 1 s.bear.seq (some p))
  | some (_, p, true) => ((s.modBear fun b => { b with out := none }).bridgeNoRoute p).bridgeNext

/-- What a command of the bridge link does in BRIDGE mode. -/
def State.bridged (s : State) (f : State → State) : State := s.whenUp fun s => if s.twinMode = 2 then f s else s

/-- BRIDGE_PASS (R418): a SYS frame for a ring set in RING_BRT; `beyond`: more than 2,000 frames per second. -/
def execBridgePass (onB fcs : Bool) (f : List (BitVec 8)) (beyond : Bool) (s : State) : Host.Outcome State Fault Refusal := .next <|
  let r := s.ringRx onB fcs f 0
  let resp := fget f 15 1 == 0x21
  if !r.2 || !(fget f 15 1 == 0x20 || resp) || r.1.twinMode != 2 || !r.1.ringBit (RING_BRT 0) (sysOdst f / 64) then r.1
  else
    let t := r.1
    let p := fpay f
    if fget f 30 1 = 0 || !t.bear.up then t.bridgeNoRoute p
    else if beyond then t.sysAnswer (sysOsrc f) 0x03 (sysTid f) []
    else (t.modBear fun b => { b with wait := b.wait ++ [(resp, fput p 4 1 (fget f 30 1 - 1))] }).bridgeNext

/-- BRIDGE_DATA_RX (R461): ACKed and originated, or NAKed. -/
def execBridgeDataRx (resp : Bool) (f : List (BitVec 8)) (s : State) : Host.Outcome State Fault Refusal := .next <|
  s.bridged fun s =>
    let seq := fget f 2 1
    if !bridgeGood 1 f then (s.bridgeHeard false).bridgeSend false (bridgeFrame 3 seq none)
    else
      let t := (s.bridgeHeard true).bridgeSend false (bridgeFrame 2 seq none)
      if s.bear.rxSeq == some seq then t
      else
        let p := (f.drop 5).take (fget f 3 2)
        let u := t.modBear fun b => { b with rxSeq := some seq }
        if u.ring.joined then u.originate (if resp then 0x21 else 0x20) (u.sysDst (fget p 2 2 % 4096)) p else u

/-- BRIDGE_ACK_RX (R461). -/
def execBridgeAckRx (f : List (BitVec 8)) (s : State) : Host.Outcome State Fault Refusal := .next <|
  s.bridged fun s =>
    if !bridgeGood 2 f then s.bridgeHeard false
    else
      let t := s.bridgeHeard true
      if fget f 2 1 = t.bear.seq then (t.modBear fun b => { b with out := none }).bridgeNext else t

/-- BRIDGE_NAK_RX (R461). -/
def execBridgeNakRx (f : List (BitVec 8)) (s : State) : Host.Outcome State Fault Refusal := .next <|
  s.bridged fun s =>
    if !bridgeGood 3 f then s.bridgeHeard false
    else
      let t := (s.bridgeHeard true).bump BEAR_TWINCNT_CRCERR
      if fget f 2 1 = t.bear.seq then t.bridgeFail else t

/-- BRIDGE_KEEP_RX (R462). -/
def execBridgeKeepRx (f : List (BitVec 8)) (s : State) : Host.Outcome State Fault Refusal := .next <|
  s.bridged fun s => s.bridgeHeard (bridgeGood 4 f)

/-- BRIDGE_RESEND_TIMEOUT (R461): no answer within 10 us. -/
def execBridgeResendTimeout (s : State) : Host.Outcome State Fault Refusal := .next <| s.bridged State.bridgeFail

/-- BRIDGE_KEEP_TX (R462). -/
def execBridgeKeepTx (s : State) : Host.Outcome State Fault Refusal := .next <|
  s.bridged fun s => s.bridgeSend false (bridgeFrame 4 0 none)

/-- BRIDGE_LINK_TIMEOUT (R462): no good frame for 500 us. -/
def execBridgeLinkTimeout (s : State) : Host.Outcome State Fault Refusal := .next <|
  s.bridged fun s => (s.modBear fun b => { b with good := 0 }).bridgeLink false

/-! ### Views (R470, R471) -/

/-- A lamp's field: colour (1 green, 2 amber, 3 red) and pattern (0 steady, 1 1 Hz, 2 2 Hz, 3 double blink). -/
def lampCode (colour pattern : Nat) : Nat := colour * 4 + pattern

/-- What the front-panel lamps show: BEAR_LAMPS. -/
def State.bearLamps (s : State) : Nat :=
  let b := s.bear
  let test := match b.ltest with
    | some t => if s.time < t + 225000000 then (s.time - t) / 75000000 + 1 else 0
    | none => 0
  if 0 < test then lampCode test 0 * 0x111111
  else
    let pwr := if b.pres1 != b.pres3 then lampCode 2 2 else if b.feedA && b.feedB then lampCode 1 0
      else if b.feedA || b.feedB then lampCode 2 0 else 0
    let run := if !s.clocked then 0
      else if !s.bootDone then (if s.sys.boot == .service then lampCode 2 2 else 0)
      else if s.axesHeld then lampCode 2 0
      else if s.unclaimed then lampCode 1 3
      else if !s.allSafe 255 then lampCode 1 0 else lampCode 1 1
    let flt := if !s.clocked then 0
      else if s.get TWU_KILL_STOPPED != 0 then lampCode 3 2
      else if s.axes.any fun x => x.st == .fault || x.st == .faultReact then lampCode 3 0 else 0
    let lock := if !s.bg.powered then 0
      else if s.bg.window then lampCode 2 1 else if s.bg.latched then lampCode 3 0
      else if s.bg.release != .run then lampCode 3 1 else 0
    let ring := if !s.clocked then 0
      else match s.ring.st with
        | .duplicate => lampCode 3 2 | .listen | .elect => lampCode 1 1 | .broken => lampCode 2 0 | .closed => lampCode 1 0
        | .off | .forward => 0
    let park := match s.get BEAR_STAT_PARK with | 3 => lampCode 1 0 | 0 => 0 | _ => lampCode 1 1
    pwr + run * 16 + flt * 256 + lock * 4096 + ring * 65536 + park * 1048576

/-- Level of TWIN_CLAIM_N: low while the claim is driven; the bridge line idles high. -/
def State.twinOut (s : State) : Bool := !s.cp.claim

/-- BEAR_TWIN: IN is the filtered level of TWIN_PCLAIM_N; a bridge line reads idle (log entry 67). -/
def State.bearTwin (s : State) : Nat :=
  s.twinMode * 2 ^ 30 + b2n s.bear.up * 2 ^ 29 + b2n s.twinOut * 2 ^ 28 + b2n (s.twinMode == 2 || s.cp.partnerHigh) * 2 ^ 27

/-- BEAR_STAT without BTN. -/
def State.bearStat (s : State) : Nat :=
  let b := s.bear
  (s.reg BEAR_STAT).toNat % 2 ^ 28 + b2n b.bench * 2 ^ 28 + b2n b.pres1 * 2 ^ 29 + b2n b.pres3 * 2 ^ 30 + b2n b.seated * 2 ^ 31

end Sys2Proof.Machine
end

