-- ==== Sys2Proof/Machine/Net.lean ====
section
/-! DEFINITION. The field network (16_field_network.md): CAN channels and their FIFOs, the NMT state, heartbeats, communication loss,
mapping words, the objects 0x1000 to 0x1FFF, EMCY frames. -/

namespace Sys2Proof.Machine

/-! ### Objects the server holds (R505, R508) -/

/-- Default of an object the server holds: 0x6007 is 1, the others are 0 (R505); 0x1014 holds 0 for "0x80 + node". -/
def objDefault (k : Nat) : Nat := if 0x600700 ≤ k ∧ k < 0xA00000 ∧ (k - 0x600700) % 0x80000 = 0 then 1 else 0

/-- Value of an object the server holds. -/
def State.obj (s : State) (idx sub : Nat) : Nat := sparseGet (objDefault (idx * 256 + sub)) (idx * 256 + sub) s.srv.objs
def State.setObj (s : State) (idx sub v : Nat) : State :=
  s.modSrv fun x => { x with objs := sparseSet (objDefault (idx * 256 + sub)) (idx * 256 + sub) v x.objs }

/-- The server runs: after BOOT_DONE while tenant 2 is not stopped (R482, R488). -/
def State.serverUp (s : State) : Bool := s.bootDone && s.tenantState 2 != 3

/-! ### CAN channels (R473 to R479, R504) -/

/-- A CAN event bit and its source (CAN_EVT). -/
def State.canEvt (s : State) (ch : Fin 2) (b : Nat) : State := s.raise (CAN_EVT_EV ch) b (evCan ch)

/-- A channel receives: present, enabled, not bus-off. -/
def State.canOn (s : State) (ch : Fin 2) : Bool :=
  decide (ch.1 < s.nCan) && s.flag (CAN_CFG_EN ch) && s.srv.can[ch].state != 2

/-- A base frame has been received on channel `ch`, then `f`. -/
def State.canRx (s : State) (ch : Fin 2) (f : State → State) : State :=
  s.whenUp fun s => if s.canOn ch then f ((s.wrapUp (CAN_CNT_RXOK ch)).canEvt ch 0) else s

/-- Transmit on a channel, with event TX (CAN_EVT). -/
def State.canPut (s : State) (ch : Fin 2) (id : Nat) (data : List Byte) : State :=
  if s.canTx ch then (s.canSend ch id data).canEvt ch 1 else s

/-- EMCY, heartbeat and boot-up go on every enabled channel that is not bus-off (R478). -/
def State.canAll (s : State) (id : Nat) (data : List Byte) : State := (s.canPut 0 id data).canPut 1 id data

/-- A record that does not fit is dropped, counted in LOST and reported (R504). -/
def State.canLost (s : State) (ch : Fin 2) : State := ((s.bump (CAN_CNT2_LOST ch)).canEvt ch 6).emcy 0x8110 [ch]

/-- Words of the last record of a list still missing. -/
def recMissing : Nat → List Word → Nat
  | 0, _ => 0
  | _, [] => 0
  | n + 1, w :: t => if t.length < canWords w then canWords w - t.length else recMissing n (t.drop (canWords w))

/-- Send the whole records of the transmit FIFO, while the channel may transmit. -/
def canDrain : Nat → Fin 2 → State → State
  | 0, _, s => s
  | n + 1, ch, s =>
    match s.srv.can[ch].txQ with
    | w :: t =>
      if !s.canTx ch || decide (t.length < canWords w) then s
      else
        let data := (wordBytes (t.take (canWords w))).take (fieldOf w 6 0)
        let u := (s.modCan ch fun c => { c with txQ := t.drop (canWords w) }).canPut ch (fieldOf w 26 16) data
        -- a response of the server answers the open request (R486)
        canDrain n ch (if fieldOf w 26 16 = 0x580 + s.nodeId then u.modSrv fun x => { x with await := x.await.set ch none } else u)
    | [] => s

/-- Both channels send what waits for them. -/
def State.canFlush (s : State) : State := canDrain 512 1 (canDrain 512 0 s)

/-- A write of CAN_TXPUSH (R504). -/
def State.canPush (s : State) (ch : Fin 2) (w : Word) : State :=
  let c := s.srv.can[ch]
  if 0 < c.skip then s.modCan ch fun c => { c with skip := c.skip - 1 }
  else if recMissing 512 c.txQ = 0 ∧ 512 < c.txQ.length + 1 + canWords w then
    (s.canLost ch).modCan ch fun c => { c with skip := canWords w }
  else canDrain 512 ch (s.modCan ch fun c => { c with txQ := c.txQ ++ [w] })

/-- A read of CAN_RXPOP (R504). -/
def State.canPop (s : State) (ch : Fin 2) : Word × State :=
  let c := s.srv.can[ch]
  match c.rxQ with
  | [] => (0, s)
  | w :: t => (w, s.modCan ch fun c => { c with rxQ := t, rxLeft := if c.rxLeft = 0 then canWords w else c.rxLeft - 1 })

/-- Put a received request into the receive FIFO (R504). -/
def State.canRecord (s : State) (ch : Fin 2) (id : Nat) (data : List Byte) : State :=
  let r := BitVec.ofNat 32 (b2n (s.flag (CAN_CFG_FD ch)) * 2 ^ 31 + id % 2048 * 2 ^ 16 + data.length % 128) :: leWords data
  if 512 < s.srv.can[ch].rxQ.length + r.length then s.canLost ch else s.modCan ch fun c => { c with rxQ := c.rxQ ++ r }

/-- CAN_TX_PUSH (R504). -/
def execCanTxPush (ch : Fin 2) (w : Word) (s : State) : Host.Outcome State Fault Refusal := .next <|
  s.whenUp fun s => if ch.1 < s.nCan then s.canPush ch w else s

/-- CAN_RX_POP (R504). -/
def execCanRxPop (ch : Fin 2) (s : State) : Host.Outcome State Fault Refusal := .next <|
  s.whenUp fun s => let r := s.canPop ch; ((r.2).setRdata r.1.toNat)

/-- CAN_FRAME_IGNORED (R473): an extended or remote frame. -/
def execCanFrameIgnored (ch : Fin 2) (s : State) : Host.Outcome State Fault Refusal := .next <|
  s.whenUp fun s => if s.canOn ch then s.bump (CAN_CNT3_IGN ch) else s

/-! ### Communication loss (R498) -/

/-- An axis is under fieldbus control. -/
def State.fieldbus (s : State) (a : Fin 8) : Bool :=
  s.axes[a].code != 0 && s.axes[a].code != 5 && (s.get (AX_CWSRC_SRC a) == 1 || s.routeOf a == 1)

/-- AX_ERR of a trigger: 1 RPDO event timer, 2 heartbeat consumer, 3 NMT, 4 both channels bus-off (R498, R510). -/
def lossError (t : Nat) : Nat := match t with | 1 => 0x8250 | 2 => 0x8130 | _ => 0x8100

/-- The reaction of one axis (R498); reactions 2 and 3 rank as a drive fault among the conditions of one edge (R72). -/
def State.lossAxis (s : State) (t : Nat) (a : Fin 8) : State :=
  let o := s.obj (0x6007 + 0x800 * a.1) 0
  if !s.fieldbus a || o == 0 then s
  else
    let s1 := (s.putOr PDO_LOSS_AX (2 ^ a.1)).modAxis a fun x => { x with lossBy := t }
    if o = 1 then s1.takeFault a (0x20 + t) (lossError t)
    else if o = 2 then ((s1.markAct 3 a).fastHalt a).leaveTo a .disabled
    else if s1.axes[a].st = .quickStop then s1 else (s1.markAct 3 a).quickStop a 0

/-- A trigger reaches the axes of `m` (R498). -/
def State.commLoss (s : State) (t m : Nat) : State := forFin 8 (fun a u => if bitOf m a then u.lossAxis t a else u) s

/-! ### Fault confinement (R479) -/

/-- Error counters as ISO 11898-1 has them: WARN from 96 on (log entry 25); `errs` error frames since the last such event. -/
def State.canCounters (s : State) (ch : Fin 2) (tec rec errs : Nat) : State :=
  let warn := decide (96 ≤ tec) || decide (96 ≤ rec)
  let s1 := ((s.put (CAN_STAT_TEC ch) tec).put (CAN_STAT_REC ch) rec).bumpBy (CAN_CNT2_ERRFR ch) errs
  let s2 := s1.put (CAN_STAT_WARN ch) (b2n warn)
  if warn && !s.flag (CAN_STAT_WARN ch) then s2.canEvt ch 2 else s2

/-- CAN_ERROR_PASSIVE (R479). -/
def execCanErrorPassive (ch : Fin 2) (tec rec : BitVec 8) (errs : Nat) (s : State) : Host.Outcome State Fault Refusal := .next <|
  s.whenUp fun s =>
    if !s.canOn ch || s.srv.can[ch].state != 0 || (tec.toNat < 128 && rec.toNat < 128) then s
    else ((s.canCounters ch tec.toNat rec.toNat errs).modCan ch fun c => { c with state := 1 }).emcy 0x8120 [ch]

/-- CAN_ERROR_ACTIVE (R479). -/
def execCanErrorActive (ch : Fin 2) (tec rec : BitVec 8) (errs : Nat) (s : State) : Host.Outcome State Fault Refusal := .next <|
  s.whenUp fun s =>
    if !s.canOn ch || s.srv.can[ch].state != 1 || 128 ≤ tec.toNat || 128 ≤ rec.toNat then s
    else (s.canCounters ch tec.toNat rec.toNat errs).modCan ch fun c => { c with state := 0 }

/-- CAN_BUS_OFF (R479): with both channels bus-off, communication is lost (R498). -/
def execCanBusOff (ch : Fin 2) (errs : Nat) (s : State) : Host.Outcome State Fault Refusal := .next <|
  s.whenUp fun s =>
    if !s.canOn ch then s
    else
      let t := (((s.canCounters ch 255 (s.get (CAN_STAT_REC ch)) errs).modCan ch fun c => { c with state := 2 }).bump
        (CAN_STAT_BOFFCNT ch)).canEvt ch 3
      if t.srv.can.all fun c => c.state == 2 then (t.emcy 0x8100 [2]).commLoss 4 255 else t

/-- CAN_BUS_OFF_RECOVERY (R479): with ABOR set, after the standard sequence. -/
def execCanBusOffRecovery (ch : Fin 2) (s : State) : Host.Outcome State Fault Refusal := .next <|
  s.whenUp fun s =>
    if s.srv.can[ch].state != 2 || !s.flag (CAN_CFG_ABOR ch) then s
    else canDrain 512 ch (((s.canCounters ch 0 0 0).modCan ch fun c => { c with state := 0 }).emcy 0x8140 [ch])

/-! ### PDO parameters (R490 to R492, R504) -/

/-- First register of a PDO: RPDO n, or TPDO n with `tx`. -/
def pdoBase (tx : Bool) (n : Nat) : Nat := if tx then TPDO_COBID n else RPDO_COBID n
def pdoInvalid (tx : Bool) (n : Nat) : Fld := ⟨pdoBase tx n, 31, 31⟩
def pdoId (tx : Bool) (n : Nat) : Fld := ⟨pdoBase tx n, 10, 0⟩
def pdoInhibit (n : Nat) : Fld := ⟨pdoBase true n + 4, 31, 26⟩
def pdoMask (tx : Bool) (n : Nat) : Fld := ⟨pdoBase tx n + 4, 25, 24⟩
def pdoType (tx : Bool) (n : Nat) : Fld := ⟨pdoBase tx n + 4, 23, 16⟩
def pdoEvms (tx : Bool) (n : Nat) : Fld := ⟨pdoBase tx n + 4, 15, 0⟩
def pdoLen (tx : Bool) (n : Nat) : Fld := ⟨pdoBase tx n + 8, 31, 24⟩
def pdoNent (tx : Bool) (n : Nat) : Fld := ⟨pdoBase tx n + 8, 23, 16⟩
def pdoLate (tx : Bool) (n : Nat) : Fld := ⟨pdoBase tx n + 8, 1, 1⟩
def pdoMapErr (tx : Bool) (n : Nat) : Fld := ⟨pdoBase tx n + 8, 0, 0⟩
def pdoAxes (tx : Bool) (n : Nat) : Fld := ⟨pdoBase tx n + 12, 7, 0⟩
def pdoCount (tx : Bool) (n : Nat) : Fld := ⟨pdoBase tx n + 16, 31, 16⟩
def pdoMap (tx : Bool) (n e : Nat) : Nat := pdoBase tx n + 0x40 + 4 * e

/-- An entry of a mapping (R492): register address, shift, bits, dummy. -/
structure MapEnt where
  addr : Nat
  shift : Nat
  bits : Nat
  dummy : Bool
  deriving DecidableEq, Repr

/-- A map word; none where SIZE is 3. -/
def mapEnt (w : Nat) : Option MapEnt :=
  let sz := bitsOf w 7 6
  if sz = 3 then none else some ⟨0x40000000 + w / 8192 % 524288 * 4, bitsOf w 12 8, 8 * 2 ^ sz, bitOf w 5⟩

/-- The map words of a PDO up to the first that is 0 (DEDUCED, log entry 26). -/
def State.mapWords (s : State) (tx : Bool) (n : Nat) : List Nat :=
  ((List.range 16).map fun e => (s.reg (pdoMap tx n e)).toNat).takeWhile (· != 0)

/-- Registers an RPDO may write, with their widths (R492, R509). -/
def State.rpdoTarget (s : State) (a : Nat) : Option Nat :=
  match (List.range s.nAxes).find? fun x => a / 0x1000 == AX_CW x / 0x1000 with
  | some x =>
    if a = AX_CW x then some 16 else if a = AX_MODESEL x then some 8
    else if a = ENG_PREF_TQ x then some 16 else if a = ENG_PREF_SPD x then some 32 else none
  | none => if (List.range 16).any fun g => a == GRP_DEM g then some 32 else none

/-- The address under which a map word names object 0x1001, which R509 lets a TPDO carry and which stands in no register: an address of
the PDO block that holds none (DESIGN CHOICE, log entry 73). -/
def errRegMap : Nat := 0x401600F0

/-- Registers a TPDO may read (R509). -/
def State.tpdoTarget (s : State) (a : Nat) : Bool :=
  a == errRegMap || a == BG_STATUS || a == FB_LOSS ||
  (List.range s.nInc).any (fun n => a == INC_CNT n || a == INC_SPD n) || (List.range s.nSsi).any (fun i => a == SSI_POS i) ||
  (List.range s.nAxes).any fun x => a == AX_ERR x || a == AX_SW x || a == AX_MODEDISP x || a == ENG_SPD x || a == ENG_TDEM x ||
    a == ENG_IDQ x || a == ENG_UDC x

/-- One entry passes the check of R492. -/
def State.entOk (s : State) (tx : Bool) (m : MapEnt) : Bool :=
  if m.dummy then !tx && m.addr == 0x40000000 && m.shift == 0
  else decide (m.shift + m.bits ≤ 32) &&
    (if tx then s.tpdoTarget m.addr else match s.rpdoTarget m.addr with | some w => decide (m.shift + m.bits ≤ w) | none => false)

/-- A PDO whose CHMASK includes a CiA 301 channel is held to 8 bytes and 8 entries (R490). -/
def State.pdoLimit (s : State) (tx : Bool) (n : Nat) : Nat × Nat :=
  if (List.range 2).any fun c => bitOf (s.get (pdoMask tx n)) c && !s.flag (CAN_CFG_FD c) then (8, 8) else (64, 16)

/-- The check when bit 31 is cleared: length, entries, axes; none where it fails (R492). -/
def State.pdoCheck (s : State) (tx : Bool) (n : Nat) : Option (Nat × Nat × Nat) :=
  let ws := s.mapWords tx n
  let es := ws.filterMap mapEnt
  let len := es.foldl (fun k m => k + m.bits / 8) 0
  let lim := s.pdoLimit tx n
  if es.length == ws.length && es.all (s.entOk tx) && decide (len ≤ lim.1) && decide (es.length ≤ lim.2) then
    some (len, es.length, (List.range 8).foldl (fun k x =>
      if !tx && es.any (fun m => !m.dummy && m.addr / 0x1000 == AX_CW x / 0x1000) then k + 2 ^ x else k) 0)
  else none

/-- A bit of PDO_EVT with its source. -/
def State.pdoEvt (s : State) (b : Nat) : State := s.raise PDO_EVT_EV b 104

/-- A write of a PDO COB-ID: false where it is refused (R492). -/
def State.pdoCobWrite (s : State) (tx : Bool) (n : Fin 16) (v : Nat) : Bool × State :=
  let inv := bitOf v 31
  if inv || !s.flag (pdoInvalid tx n) then
    let t := (s.put (pdoInvalid tx n) (b2n inv)).put (pdoId tx n) v
    (true, if !inv then t else t.modSrv fun x =>
      if tx then { x with tpdo := x.tpdo.set n {} } else { x with rpdo := x.rpdo.set n {} })
  else match s.pdoCheck tx n with
    | some (len, k, ax) =>
      let t := (s.put (pdoInvalid tx n) 0).put (pdoId tx n) v
      (true, ((t.put (pdoLen tx n) len).put (pdoNent tx n) k).put (pdoAxes tx n) ax)
    | none => (false, (s.put (pdoMapErr tx n) 1).pdoEvt 3)

/-- PDO_COBID_WRITE (R492). -/
def execPdoCobidWrite (tx : Bool) (n : Fin 16) (v : Word) (s : State) : Host.Outcome State Fault Refusal := .next <|
  s.whenUp fun s => (s.pdoCobWrite tx n v.toNat).2

/-! ### Mapped objects (R491, R509) -/

/-- Axis and CiA 402 index of an object (R15). -/
def cia (idx : Nat) : Option (Nat × Nat) := if 0x6000 ≤ idx ∧ idx < 0xA000 then some ((idx - 0x6000) / 0x800, 0x6000 + (idx - 0x6000) % 0x800) else none

/-- Register, shift and size of an object in a receive PDO. -/
def rMapped (idx sub : Nat) : Option (Nat × Nat × Nat) :=
  match cia idx with
  | some (a, 0x6040) => if sub = 0 then some (AX_CW a, 0, 16) else none
  | some (a, 0x6060) => if sub = 0 then some (AX_MODESEL a, 0, 8) else none
  | some (a, 0x6071) => if sub = 0 then some (ENG_PREF_TQ a, 0, 16) else none
  | some (a, 0x60FF) => if sub = 0 then some (ENG_PREF_SPD a, 0, 32) else none
  | _ => if idx = 0x2811 ∧ 1 ≤ sub ∧ sub ≤ 16 then some (GRP_DEM (sub - 1), 0, 32) else none

/-- Register, shift and size of an object in a transmit PDO. -/
def tMapped (idx sub : Nat) : Option (Nat × Nat × Nat) :=
  match cia idx with
  | some (a, o) =>
    if sub ≠ 0 then none
    else match o with
      | 0x603F => some (AX_ERR a, 0, 16)
      | 0x6041 => some (AX_SW a, 0, 16)
      | 0x6061 => some (AX_MODEDISP a, 0, 8)
      | 0x606C => some (ENG_SPD a, 0, 32)
      | 0x6074 => some (ENG_TDEM a, 16, 16)
      | 0x6077 => some (ENG_TDEM a, 0, 16)
      | 0x6078 => some (ENG_IDQ a, 16, 16)
      | 0x6079 => some (ENG_UDC a, 0, 32)
      | _ => none
  | none =>
    if idx = 0x1001 ∧ sub = 0 then some (errRegMap, 0, 8)
    else if idx = 0x2000 ∧ sub = 1 then some (BG_STATUS, 0, 32)
    else if idx = 0x2400 ∧ sub = 1 then some (FB_LOSS, 0, 32)
    else if idx = 0x2401 ∧ 1 ≤ sub ∧ sub ≤ 8 then some (INC_CNT (sub - 1), 0, 32)
    else if idx = 0x2401 ∧ 9 ≤ sub ∧ sub ≤ 16 then some (INC_SPD (sub - 9), 0, 32)
    else if idx = 0x2403 ∧ 1 ≤ sub ∧ sub ≤ 4 then some (SSI_POS (sub - 1), 0, 32) else none

/-- Code of an entry's size. -/
def sizeCode (b : Nat) : Nat := if b = 8 then 0 else if b = 16 then 1 else 2

/-- The map word of a mapped object (index, sub-index, bits); none where it is not mappable (R491, R492). -/
def State.mapWord (s : State) (tx : Bool) (v : Nat) : Option Nat :=
  let idx := v / 65536 % 65536
  let sub := v / 256 % 256
  let bits := v % 256
  if !tx && (v == 0x00050008 || v == 0x00060010 || v == 0x00070020) then some (sizeCode bits * 64 + 32)
  else match (if tx then tMapped idx sub else rMapped idx sub) with
    | some (a, sh, n) =>
      let ok := if tx then s.tpdoTarget a else (s.rpdoTarget a).isSome
      if n = bits ∧ ok then some ((a - 0x40000000) / 4 * 8192 + sh * 256 + sizeCode n * 64) else none
    | none => none

/-- Index of the mapping object of a PDO. -/
def mapObj (tx : Bool) (n : Nat) : Nat := (if tx then 0x1A00 else 0x1600) + n

/-- The map words follow the mapping object: its first sub-index 0 entries (R492). -/
def State.applyMap (s : State) (tx : Bool) (n : Nat) : State :=
  forN 16 (fun e t => t.setReg (pdoMap tx n e)
    (BitVec.ofNat 32 (if e < s.obj (mapObj tx n) 0 then (s.mapWord tx (s.obj (mapObj tx n) (e + 1))).getD 0 else 0))) s

/-! ### Communication objects at the start (R475, R477, R482, R508) -/

/-- Predefined COB-ID of a PDO (R477). -/
def State.pdoDefault (s : State) (tx : Bool) (n : Nat) : Nat :=
  if s.hasId && decide (n < 4) then (if tx then 0x180 else 0x200) + 0x100 * n + s.nodeId else 2 ^ 31

/-- CAN_CFG, CAN_NBT and CAN_DBT from 0x2C20 (R474, R475). Data code 1 runs with prescaler 2 and 25 quanta, TDCO is free (log entry 27). -/
def State.loadCan (s : State) (ch : Fin 2) : State :=
  let v := s.obj 0x2C20 (ch + 1) % 256
  let d := v % 8
  let unset := decide (v = 0) || bitOf v 3 || decide (4 < d)
  let s1 := ((s.setReg (CAN_CFG ch) (resetWord (CAN_CFG ch))).setReg (CAN_NBT ch) (resetWord (CAN_NBT ch))).setReg (CAN_DBT ch)
    (resetWord (CAN_DBT ch))
  if v ≠ 0 ∧ ¬ bitOf v 7 then s1
  else if unset then s1.put (CAN_CFG_EN ch) 1
  else
    let s2 := ((s1.put (CAN_CFG_EN ch) 1).put (CAN_CFG_FD ch) (b2n (bitOf v 6 && d != 0))).put (CAN_NBT_BRP ch) (8 / 2 ^ bitsOf v 5 4)
    let t : Nat × Nat × Nat := match d with | 1 => (2, 19, 5) | 2 => (1, 19, 5) | 3 => (1, 14, 5) | _ => (1, 6, 3)
    if d = 0 then s2
    else
      let s3 := ((s2.put (CAN_DBT_BRP ch) t.1).put (CAN_DBT_TSEG1 ch) t.2.1).put (CAN_DBT_TSEG2 ch) t.2.2
      let s4 := s3.put (CAN_DBT_SJW ch) t.2.2
      if d = 1 then s4 else let r := s4.draw 58; (r.2.put (CAN_CFG_TDC ch) 1).put (CAN_CFG_TDCO ch) r.1

/-- Sub-indices of a PDO's communication object: 1 COB-ID, 2 type, 3 inhibit time, 5 event timer. -/
def pdoComm (idx : Nat) : Option (Bool × Fin 16) :=
  if idx / 16 = 0x140 then some (false, ⟨idx % 16, Nat.mod_lt _ (by decide)⟩)
  else if idx / 16 = 0x180 then some (true, ⟨idx % 16, Nat.mod_lt _ (by decide)⟩) else none

/-- A mapping object. -/
def pdoMapping (idx : Nat) : Option (Bool × Fin 16) :=
  if idx / 16 = 0x160 then some (false, ⟨idx % 16, Nat.mod_lt _ (by decide)⟩)
  else if idx / 16 = 0x1A0 then some (true, ⟨idx % 16, Nat.mod_lt _ (by decide)⟩) else none

/-- A value of 0x1016 goes into its heartbeat consumer: node and time; both named enable it (R484). -/
def State.setHbc (s : State) (k : Fin 4) (v : Nat) : State :=
  let node := v / 65536 % 128
  let t := ((s.put (PDO_HBC_NODE k) node).put (PDO_HBC_TIMEMS k) v).put (PDO_HBC_EN k) (b2n (decide (0 < node) && decide (0 < v % 65536)))
  (t.put (PDO_HBC_EXPIRED k) 0).modSrv fun x => { x with hbc := x.hbc.set k false }

/-- Store the value of a communication object without checks: at the load of R508 and after the checks of R488. -/
def State.putComm (s : State) (idx sub v : Nat) : State :=
  match pdoComm idx with
  | some (tx, n) =>
    if sub = 1 then (s.pdoCobWrite tx n v).2
    else if sub = 2 then s.put (pdoType tx n) v
    else if sub = 3 ∧ tx then s.put (pdoInhibit n) v
    else if sub = 5 then s.put (pdoEvms tx n) v else s
  | none =>
    match pdoMapping idx with
    | some (tx, n) => let t := s.setObj idx sub v; if sub = 0 then t.applyMap tx n else t
    | none =>
      if idx = 0x1005 then s.put PDO_SYNC_COBID v
      else if idx = 0x1016 then (if h : 1 ≤ sub ∧ sub ≤ 4 then s.setHbc ⟨sub - 1, by omega⟩ v else s)
      else if idx = 0x1017 then s.put PDO_HB_PRODMS v
      else if idx = 0x2C22 then
        (if 1 ≤ sub ∧ sub ≤ 16 then s.put (pdoMask false (sub - 1)) v
         else if 17 ≤ sub ∧ sub ≤ 32 then s.put (pdoMask true (sub - 17)) v else s)
      else s.setObj idx sub v

/-- An object that "reset communication" loads: 0x1000 to 0x1FFF, 0x2C20 and 0x2C22 (R508). -/
def commObj (idx : Nat) : Bool := decide (0x1000 ≤ idx ∧ idx < 0x2000) || idx == 0x2C20 || idx == 0x2C22

/-- The server loads the communication objects: COB-IDs last, so that the maps stand when they are checked (R475, R482, R508). -/
def State.loadComm (s : State) : State :=
  let l := s.srv.saved.filter fun e => commObj (e.1 / 256)
  let cob := fun e : Nat × Nat => (pdoComm (e.1 / 256)).isSome && e.1 % 256 == 1
  let cnt := fun e : Nat × Nat => (pdoMapping (e.1 / 256)).isSome && e.1 % 256 == 0
  let s1 := forN 16 (fun n t => (t.setReg (pdoBase false n) 0x80000000).setReg (pdoBase true n) 0x80000000) s
  let s2 := (l.filter fun e => !cob e && !cnt e).foldl (fun t e => t.putComm (e.1 / 256) (e.1 % 256) e.2) s1
  let s3 := (l.filter cnt).foldl (fun t e => t.putComm (e.1 / 256) 0 e.2) s2
  let s4 := (s3.loadCan 0).loadCan 1
  [false, true].foldl (fun u tx => forFin 16 (fun n t =>
    let k := ((if tx then 0x1800 else 0x1400) + n.1) * 256 + 1
    (t.pdoCobWrite tx n (sparseGet (t.pdoDefault tx n) k s.srv.saved)).2) u) s4

/-- The boot-up message: Pre-operational on the same edge, then Operational by itself with bit 2 of 0x1F80 (R482). A unit without identity
sends nothing and stays in Initialisation (R477). -/
def State.bootUp (s : State) : State :=
  if !s.hasId then s
  else
    let t := (s.canAll (0x700 + s.nodeId) [0]).put PDO_NMT_STATE 1
    if bitOf (s.obj 0x1F80 0) 2 then t.put PDO_NMT_STATE 2 else t

/-- Event timers of RPDOs that serve axes under fieldbus control restart (R498). -/
def State.restartTimers (s : State) : State :=
  forFin 16 (fun r t =>
    let ax := t.get (RPDO_AXES_AXES r)
    let on : Bool := t.get (RPDO_CTL_EVTMS r) != 0 && !t.flag (RPDO_COBID_INVALID r) &&
      (List.finRange 8).any fun a => bitOf ax a && t.fieldbus a
    if on == true then t.modSrv fun x => { x with rpdo := upd x.rpdo r fun y => { y with timed := true } } else t) s

/-! ### NMT (R480 to R482, R101) -/

/-- NMT state (PDO_NMT.STATE). -/
def State.nmt (s : State) : Nat := s.get PDO_NMT_STATE

/-- An NMT command names the unit (R481). -/
def State.nmtFor (s : State) (node : BitVec 8) : Bool := node == 0 || (s.hasId && node.toNat == s.nodeId)

/-- A received NMT command that names `node` (R481). -/
def State.nmtRx (s : State) (ch : Fin 2) (node : BitVec 8) (f : State → State) : State :=
  s.canRx ch fun s => if s.nmtFor node then f (s.canEvt ch 4) else s

/-- "Stop" or "Enter pre-operational" received while Operational is a communication-loss trigger (R498). -/
def State.nmtLeave (s : State) (st : Nat) : State :=
  if s.nmt = 0 then s
  else (if s.nmt = 2 then (s.emcy 0x8100 [1]).commLoss 3 255 else s).put PDO_NMT_STATE st

/-- NMT_START (R481). -/
def execNmtStart (ch : Fin 2) (node : BitVec 8) (s : State) : Host.Outcome State Fault Refusal := .next <|
  s.nmtRx ch node fun s => if s.nmt = 0 then s else s.put PDO_NMT_STATE 2

/-- NMT_STOP (R481, R498). -/
def execNmtStop (ch : Fin 2) (node : BitVec 8) (s : State) : Host.Outcome State Fault Refusal := .next <|
  s.nmtRx ch node (·.nmtLeave 3)

/-- NMT_ENTER_PRE_OPERATIONAL (R481, R498). -/
def execNmtEnterPreOperational (ch : Fin 2) (node : BitVec 8) (s : State) : Host.Outcome State Fault Refusal := .next <|
  s.nmtRx ch node (·.nmtLeave 1)

/-- NMT_RESET_NODE (R91, R93, R94, R481): decoded in hardware, also while another request is in its pre-reset phase. -/
def execNmtResetNode (ch : Fin 2) (node : BitVec 8) (s : State) : Host.Outcome State Fault Refusal := .next <|
  if s.sys.phase == .pre then (if s.canOn ch && s.nmtFor node then s.sysRequest .nmt [] else s)
  else s.nmtRx ch node (·.sysRequest .nmt [])

/-- The scope "CAN controllers and PDO engine" of R92: every register of the two blocks but the record PDO_LOSS and the server's ALIVE;
what was in flight is dropped and counted (R102, R503). -/
def State.commReset (s : State) (ch : Fin 2) : State :=
  let t := s.sdoAbandon ch
  let lost := (t.srv.await.toList.filter Option.isSome).length + (t.srv.rpdo.toList.filter fun r => r.staged.isSome).length
  let keep := fun a : Nat => a / 0x10000 != 0x4015 && (a / 0x10000 != 0x4016 || a == PDO_LOSS)
  let u := ({ t with regs := t.regs.filter fun r => keep r.1 }).put PDO_HB_ALIVE (s.get PDO_HB_ALIVE)
  let w := forN 4 (fun n v => if s.hasId then (v.setReg (RPDO_COBID n) (BitVec.ofNat 32 (s.pdoDefault false n))).setReg (TPDO_COBID n)
    (BitVec.ofNat 32 (s.pdoDefault true n)) else v) u
  (w.bumpBy ABND_CNT_DROP lost).modSrv fun x =>
    { x with can := Vector.replicate 2 {}, xfer := Vector.replicate 2 none, await := Vector.replicate 2 none,
             rpdo := Vector.replicate 16 {}, tpdo := Vector.replicate 16 {}, hbc := Vector.replicate 4 false,
             objs := x.objs.filter fun e => !commObj (e.1 / 256) }

/-- NMT_RESET_COMMUNICATION (R101, R481, R482): then the server loads its objects and sends the boot-up message. -/
def execNmtResetCommunication (ch : Fin 2) (node : BitVec 8) (s : State) : Host.Outcome State Fault Refusal := .next <|
  s.nmtRx ch node fun s => if s.sys.phase != .run then s else
    let t := s.commReset ch
    if t.serverUp then (t.loadComm.bootUp).restartTimers else t

/-! ### Heartbeats (R483, R484) -/

/-- Codes of the NMT states in a heartbeat (CiA 301). -/
def hbCode (st : Nat) : Nat := match st with | 1 => 0x7F | 2 => 0x05 | 3 => 0x04 | _ => 0x00

/-- HEARTBEAT_PRODUCE (R483). -/
def execHeartbeatProduce (s : State) : Host.Outcome State Fault Refusal := .next <|
  s.whenUp fun s =>
    if s.get PDO_HB_PRODMS = 0 ∨ s.nmt = 0 ∨ ¬ s.flag PDO_HB_ALIVE then s else s.canAll (0x700 + s.nodeId) (leBytes 1 (hbCode s.nmt))

/-- A write of PDO_KICK (R483). -/
def State.pdoKick (s : State) (v : Word) : State := if v = 0x0000A11E then (s.mark .kicked).put PDO_HB_ALIVE 1 else s

/-- SERVER_KICK (R483). -/
def execServerKick (v : Word) (s : State) : Host.Outcome State Fault Refusal := .next <| s.whenUp (·.pdoKick v)

/-- SERVER_ALIVE_LAPSE (R483): no kick for 200 ms; a kick of the same edge comes first (R503). -/
def execServerAliveLapse (s : State) : Host.Outcome State Fault Refusal := .next <|
  s.whenUp fun s => if s.marked .kicked then s else s.put PDO_HB_ALIVE 0

/-- HEARTBEAT_RX (R484). -/
def execHeartbeatRx (ch : Fin 2) (node : BitVec 7) (s : State) : Host.Outcome State Fault Refusal := .next <|
  s.canRx ch fun s => forFin 4 (fun k t =>
    if t.flag (PDO_HBC_EN k) && t.get (PDO_HBC_NODE k) == node.toNat && t.get (PDO_HBC_TIMEMS k) != 0 then
      (t.put (PDO_HBC_EXPIRED k) 0).modSrv fun x => { x with hbc := x.hbc.set k true } else t) s

/-- HEARTBEAT_CONSUMER_EXPIRY (R484): entry `k` is named by its sub-index of 0x1016. -/
def execHeartbeatConsumerExpiry (k : Fin 4) (s : State) : Host.Outcome State Fault Refusal := .next <|
  s.whenUp fun s =>
    if !s.flag (PDO_HBC_EN k) || !s.srv.hbc[k] then s
    else
      let t := (s.put (PDO_HBC_EXPIRED k) 1).modSrv fun x => { x with hbc := x.hbc.set k false }
      (t.emcy 0x8130 [k + 1, s.get (PDO_HBC_NODE k)]).commLoss 2 255

/-! ### EMCY frames (R499, R500) -/

/-- COB-ID of EMCY, 0x1014. -/
def State.emcyCob (s : State) : Nat := if s.obj 0x1014 0 = 0 then 0x80 + s.nodeId else s.obj 0x1014 0 % 2048

/-- Send one EMCY on each channel and enter it in 0x1003 (R499, R500). On a CiA 1301 channel the further fields are 0 (log entry 28). -/
def State.emcySend (s : State) (e : Emcy) : State :=
  let er := s.errReg % 128 + (if bitOf s.errReg 7 || decide (0xFF00 ≤ e.code) then 128 else 0)
  let b := (e.bytes ++ List.replicate 5 0).take 5
  let data := leBytes 2 e.code ++ leBytes 1 er ++ b.flatMap (leBytes 1)
  let put := fun (ch : Fin 2) (t : State) => t.canPut ch s.emcyCob (if t.flag (CAN_CFG_FD ch) then data ++ List.replicate 12 0 else data)
  (put 1 (put 0 s)).modSrv fun x => { x with hist := ((er * 2 ^ 24 + b.headD 0 % 256 * 2 ^ 16 + e.code) :: x.hist).take 16 }

/-- EMCY_TRANSMIT (R500): the number lost first, once there is room; else the oldest in the queue. Held outside Pre-operational and
Operational, and while no channel can send. -/
def execEmcyTransmit (s : State) : Host.Outcome State Fault Refusal := .next <|
  s.whenUp fun s =>
    if !s.serverUp || !(s.nmt == 1 || s.nmt == 2) || !(s.canTx 0 || s.canTx 1) then s
    else if 0 < s.srv.emcyLost ∧ s.srv.emcyQ.length < 32 then
      (s.modSrv fun x => { x with emcyLost := 0 }).emcySend ⟨0xFFA0, [s.srv.emcyLost % 256, s.srv.emcyLost / 256 % 256]⟩
    else match s.srv.emcyQ with
      | e :: l => (s.modSrv fun x => { x with emcyQ := l }).emcySend e
      | [] => s

/-! ### BOOT_DONE (R120, R135, R145) -/

/-- What the write of BOOT_DONE by tenant 0 does in hardware (R97, R120, R135, R145): tenant 0 ceases to exist, its DMA channels stop, its
pending events are discarded, the watchdog counts anew, and the enabled tenants start. A tenant 0 that has stopped writes nothing (R580). -/
def State.bootDoneSet (s : State) : State :=
  if s.bootDone || bitOf (s.get TWU_KILL_STOPPED) 0 then s
  else
    let s1 := (s.dmaAbandonOf 0).dropPending 0
    let s2 := ((s1.dropEntries 0).put BOOT_CTRL_BOOT_DONE 1).modSys fun y => { y with boot := .done, wdtFrom := s.clk }
    let s3 := (s2.setWaiting 0)
    let s4 := forFin 8 (fun t u => if t != 0 && u.get (TEN_CORE_EN t) == 1 then u.modBank t fun _ => s3.freshBank t else u) s3
    forFin 4 (fun c u => (u.modCore c fun x => { x with run := none, back := none, stack := [], instret := if c = 0 then x.instret else 0
                                                        issued := if c = 0 then x.issued else false
                                                        from_ := if c = 0 then x.from_ else s.clk }).settle c) s4

end Sys2Proof.Machine
end

