-- ==== Sys2Proof/Machine/Events.lean ====
section
/-! DEFINITION. Event sources, their controls and doorbells (R157 to R160, R169), parameter groups (R181 to R184, R317), commands of
DMA channels (R170, R178), the assignment of tenants (R130), protection writes (R7). -/

namespace Sys2Proof.Machine

/-! ### Event controls (R159, R169) -/

/-- EVENT_STROBE (R157, R160). -/
def execEventStrobe (e : BitVec 10) (s : State) : Host.Outcome State Fault Refusal := .next <| s.strobe e.toNat

/-- A write counted as foreign (R159, R169). -/
def State.evtForeign (s : State) (e : Nat) : State := ((s.bump EVT_STAT_FOREIGN).put EVT_LAST_FOREIGN e).strobe 12

/-- A write of EVT_CTL of source `e` by tenant `ten` (R12, R25, R159). -/
def State.evtCtlWrite (s : State) (ten e : Nat) (v : Word) : State :=
  if s.nEvents ≤ e then s
  else if s.get (EVT_ROUTE_TENANT e) = ten ∨ (ten = 0 ∧ ¬ s.bootDone) then
    (if bitOf v.toNat 29 && !bitOf (s.setNow (EVT_CTL e)).toNat 29 then s.put (EVT_CTL_COAL e) 0 else s).put (EVT_CTL_EN e) v.toNat
  else s.evtForeign e

/-- EVT_CTL_WRITE (R159). -/
def execEvtCtlWrite (ten : Fin 8) (e : BitVec 10) (v : Word) (s : State) : Host.Outcome State Fault Refusal := .next <|
  s.whenUp (·.evtCtlWrite ten e.toNat v)

/-- A doorbell number (R156). -/
def isDoorbell (n : Nat) : Bool := decide (16 ≤ n ∧ n ≤ 23) || decide (194 ≤ n ∧ n ≤ 201)

/-- A write of EVT_SET (R169). -/
def State.doorbell (s : State) (n : Nat) : State :=
  if !isDoorbell n then s.evtForeign n else if s.nEvents ≤ n then s else s.strobe n

/-- DOORBELL (R169). -/
def execDoorbell (n : BitVec 10) (s : State) : Host.Outcome State Fault Refusal := .next <| s.whenUp (·.doorbell n.toNat)

/-! ### Parameter groups (R181 to R184) -/

/-- Bits of the words of a group (10_current_loop.md, 12_winch_thruster_lamps.md). -/
def PGroup.masks : PGroup → List Nat
  | .gain => [0xFFFF, 0xFFFF, 0xFFFF, 0xFFFF, 0xFFFF, 0xFFFF, 0xFFFFFFFF, 0xFFFF, 0xFFFF, 0xFF0F]
  | .route => [3]
  | .tension => [0xFFFF, 0xFFFFFFFF, 0xFFFFFFFF, 0xFFFFFFFF, 0xFFFFFFFF]

/-- Ranges of the words of a group: ADV 0 to 48, SPDIV 1 to 15, KT 1 and more (10_current_loop.md, 12_winch_thruster_lamps.md). -/
def PGroup.fits (g : PGroup) (i : Nat) (v : Word) : Bool :=
  match g, i with
  | .gain, 9 => decide (fieldOf v 15 8 ≤ 48) && fieldOf v 3 0 != 0
  | .tension, 4 => fieldOf v 31 16 != 0
  | _, _ => true

/-- A write refused under R182. -/
def State.psetRefuse (s : State) (g : PGroup) (a : Fin 8) : State := (s.put (psRefused (g.ctl a)) 1).strobe (evAxis a + 8)

/-- Another tenant holds the group (R182). -/
def State.psetHeld (s : State) (g : PGroup) (a : Fin 8) (ten : Nat) : Bool :=
  s.flag (psDirty (g.ctl a)) && s.get (psHolder (g.ctl a)) != ten

/-- A write of word `i` of a group goes to its shadow (R181, R182); a field outside its range refuses the write (R385; log entry 29). -/
def State.psetWrite (s : State) (g : PGroup) (a : Fin 8) (i ten : Nat) (v : Word) : State :=
  if s.psetHeld g a ten then s.psetRefuse g a
  else if !g.fits i v then (if g = .tension then s.put LIO_STAT_CFGREF 1 else s.put (ENG_STAT_CFGREF a) 1)
  else
    let p := s.pset g a
    let w := v &&& BitVec.ofNat 32 (g.masks.getD i 0)
    ((s.setPset g a { p with shadow := p.shadow.set i w }).put (psDirty (g.ctl a)) 1).put (psHolder (g.ctl a)) ten

/-- A committed change of ROUTE while the axis runs goes through the ramp its mode uses (R80, R317); an axis in steps 1 and 2 of its
enable begins its ramp at step 3 (R81). -/
def State.routeRamp (s : State) (a : Fin 8) (old : Nat) : State :=
  let x := s.axes[a]
  let free := x.st == .enabled && x.step == 3 && (x.ramp == .none || x.ramp == .torque || x.ramp == .speed)
  if s.routeOf a = old ∨ free = false then s
  else if x.code = 2 then s.modAxis a fun y => { y with ramp := .torque, rampCmd := some 5 }
  else if x.code = 3 then s.modAxis a fun y => { y with ramp := .speed, rampCmd := some 5 }
  else s

/-- COMMIT (R183, R317). -/
def State.psetCommit (s : State) (g : PGroup) (a : Fin 8) (ten : Nat) : State :=
  if !s.flag (psDirty (g.ctl a)) then s
  else if s.psetHeld g a ten then s.psetRefuse g a
  else
    let p := s.pset g a
    let r := (p.shadow.headD 0).toNat % 4
    let c := s.axes[a].code
    if g = .route ∧ (r = 3 ∨ (r = 2 ∧ c ≠ 0 ∧ c ≠ 2)) then
      ((s.psetReload g a).put (psRefused (g.ctl a)) 1).refuse a 5 0x29 (sgn 8 (s.get (AX_MODESEL_MODESEL a)))
    else
      let t := (((s.setPset g a { p with live := p.shadow }).put (psDirty (g.ctl a)) 0).put (psHolder (g.ctl a)) 0).strobe (evAxis a + 7)
      if g = .route then t.routeRamp a (s.routeOf a) else t

/-- DISCARD (R183). -/
def State.psetDiscard (s : State) (g : PGroup) (a : Fin 8) (ten : Nat) : State :=
  if !s.flag (psDirty (g.ctl a)) then s else if s.psetHeld g a ten then s.psetRefuse g a else s.psetReload g a

/-- A write of PSET_CTL (R12, R183): both commands in one write are discarded whole. -/
def State.psetCtlWrite (s : State) (g : PGroup) (a : Fin 8) (ten : Nat) (v : Word) : State :=
  let t := if bitOf v.toNat 30 && !bitOf (s.setNow (g.ctl a)).toNat 30 then s.put (psRefused (g.ctl a)) 0 else s
  match bitOf v.toNat 1, bitOf v.toNat 0 with
  | true, true => t.psetRefuse g a
  | false, true => t.psetCommit g a ten
  | true, false => t.psetDiscard g a ten
  | false, false => t

/-- Groups by number: 0 gain, 1 route, 2 tension. -/
def groupOf (k : Fin 3) : PGroup := if k = 0 then .gain else if k = 1 then .route else .tension

/-- PSET_SHADOW_WRITE (R181, R182): a word beyond the group is no word of it. -/
def execPsetShadowWrite (g : Fin 3) (a : Fin 8) (k : Fin 10) (ten : Fin 8) (v : Word) (s : State) : Host.Outcome State Fault Refusal :=
  .next <| s.whenUp fun s =>
    if a.1 < s.nAxes ∧ k.1 < (groupOf g).masks.length then s.psetWrite (groupOf g) a k ten v else s

/-- PSET_COMMIT (R183, R317). -/
def execPsetCommit (g : Fin 3) (a : Fin 8) (ten : Fin 8) (s : State) : Host.Outcome State Fault Refusal := .next <|
  s.whenUp fun s => if a.1 < s.nAxes then s.psetCommit (groupOf g) a ten else s

/-- PSET_DISCARD (R183). -/
def execPsetDiscard (g : Fin 3) (a : Fin 8) (ten : Fin 8) (s : State) : Host.Outcome State Fault Refusal := .next <|
  s.whenUp fun s => if a.1 < s.nAxes then s.psetDiscard (groupOf g) a ten else s

/-! ### DMA channels (R170, R171, R175, R178) -/

/-- Tenant `ten` may write the registers of channel `c` (R170, R171). -/
def State.dmaMay (s : State) (ten c : Nat) : Bool :=
  if s.bootDone then ten != 0 && s.get (DMA_CFG_OWNER c) == ten else ten == 0 || s.get (DMA_CFG_OWNER c) == ten

/-- A foreign write (R170). -/
def State.dmaForeign (s : State) (c : Nat) : State := ((s.bump DMA_FOREIGN_COUNT).put DMA_FOREIGN_LASTCH c).strobe 14

/-- A command or a write that is not accepted (R178). -/
def State.cmdRef (s : State) (c : Nat) : State := s.put (DMA_FLAGS_CMDREF c) 1

/-- A descriptor completes: IRQ strobes the source; with LINK the next one is fetched, else the chain ends with DONE (R176). -/
def State.dmaComplete (s : State) (c : Fin 32) : State :=
  let d := s.pr.dma[c]
  let irq := fun t : State => if bitOf d.ctrl 20 then t.strobe (evDma c) else t
  if bitOf d.ctrl 21 then irq (s.modDma c fun x => { x with fetch := true, desc := d.next / 16 * 16 })
  else irq (((s.put (DMA_STAT_STATE c) 0).put (DMA_STAT_CODE c) 1).put (DMA_FLAGS_DONE c) 1)

/-- START (R178). A stop before the first descriptor is loaded leaves RES_SRC, RES_DST and RES_CTRL of the chain before (DESIGN CHOICE, log
entry 75). -/
def State.dmaStart (s : State) (c : Fin 32) : State :=
  if s.get (DMA_STAT_STATE c) ≠ 0 then s.cmdRef c
  else (s.put (DMA_STAT_STATE c) 1).modDma c fun x => { x with desc := (s.reg (DMA_DESC c)).toNat / 16 * 16, fetch := true, cnt := 0 }

/-- STOP (R178); the fault of a beat on the same edge satisfies it (R185). -/
def State.dmaStopCmd (s : State) (c : Fin 32) : State :=
  if s.get (DMA_STAT_STATE c) = 1 then s.dmaStop c 6 else if s.marked (.dmaFault c) then s else s.cmdRef c

/-- RESUME (R178): from the resume registers as they stand; no beats left means the descriptor is complete. A reset of the owner on the
same edge discards it (R185). -/
def State.dmaResumeCmd (s : State) (c : Fin 32) : State :=
  if s.marked (.dmaReset c) then s
  else if s.get (DMA_STAT_STATE c) ≠ 2 then s.cmdRef c
  else
    let t := ((s.mark (.dmaResumed c)).put (DMA_STAT_STATE c) 1).modDma c fun x =>
      { x with src := (s.reg (DMA_RES_SRC c)).toNat, dst := (s.reg (DMA_RES_DST c)).toNat, cnt := s.get (DMA_RES_CNT_CNT c),
               desc := (s.reg (DMA_RES_DESC c)).toNat / 16 * 16, fetch := s.flag (DMA_RES_CNT_DESCPEND c) }
    if t.pr.dma[c].fetch || t.pr.dma[c].cnt != 0 then t else t.dmaComplete c

/-- ABANDON (R178). -/
def State.dmaDiscard (s : State) (c : Fin 32) : State :=
  if s.get (DMA_STAT_STATE c) ≠ 2 then s.cmdRef c
  else
    let t := (((s.setReg (DMA_RES_SRC c) 0).setReg (DMA_RES_DST c) 0).setReg (DMA_RES_CNT c) 0).setReg (DMA_RES_DESC c) 0
    (((t.setReg (DMA_RES_CTRL c) 0).put (DMA_STAT_STATE c) 0).put (DMA_STAT_CODE c) 8).modDma c fun _ => {}

/-- A command by its owner; a foreign one is counted (R170). -/
def State.dmaBy (s : State) (ten : Nat) (c : Fin 32) (f : State → State) : State :=
  if s.nDma ≤ c.1 then s else if s.dmaMay ten c then f s else s.dmaForeign c

/-- DMA_START (R170, R178). -/
def execDmaStart (ten : Fin 8) (c : Fin 32) (s : State) : Host.Outcome State Fault Refusal := .next <| s.whenUp (·.dmaBy ten c (·.dmaStart c))
/-- DMA_STOP (R170, R178). -/
def execDmaStop (ten : Fin 8) (c : Fin 32) (s : State) : Host.Outcome State Fault Refusal := .next <| s.whenUp (·.dmaBy ten c (·.dmaStopCmd c))
/-- DMA_RESUME (R170, R178). -/
def execDmaResume (ten : Fin 8) (c : Fin 32) (s : State) : Host.Outcome State Fault Refusal := .next <| s.whenUp (·.dmaBy ten c (·.dmaResumeCmd c))
/-- DMA_ABANDON (R170, R178). -/
def execDmaAbandon (ten : Fin 8) (c : Fin 32) (s : State) : Host.Outcome State Fault Refusal := .next <| s.whenUp (·.dmaBy ten c (·.dmaDiscard c))

/-- A write of DMA_CMD (R178). -/
def State.dmaCmd (s : State) (c : Fin 32) (k : Nat) : State :=
  match k with
  | 1 => s.dmaStart c
  | 2 => s.dmaStopCmd c
  | 3 => s.dmaResumeCmd c
  | 4 => s.dmaDiscard c
  | _ => s.cmdRef c

/-! ### Protection writes and TEN_CORE (R7, R130, R142, R144, R150) -/

/-- A write counted in the protection-write counter, with EMCY 0xFF43 for every 256 (R7, R150). -/
def State.protCount (s : State) (ten a : Nat) : State :=
  let t := (((s.bump TWU_PWCNT_COUNT).put TWU_PWCNT_LASTTEN ten).setReg TWU_PWADDR (BitVec.ofNat 32 a)).strobe 11
  if s.get TWU_PWCNT_COUNT < 65535 ∧ t.get TWU_PWCNT_COUNT % 256 = 0 then t.emcy 0xFF43 [ten, 3] else t

/-- Tenants enabled on core `c`, but for tenant `t` (R130). -/
def State.coreLoad (s : State) (c t : Nat) : Nat :=
  ((List.range 8).filter fun u => u != 0 && u != t && s.flag (TEN_CORE_EN u) && s.get (TEN_CORE_CORE u) == c).length

/-- A write of TEN_CORE by tenant 0 before BOOT_DONE: refused for a fifth tenant on a core and for an absent core (R130); tenant 0 has
no such register (R32). -/
def State.tenCoreWrite (s : State) (t : Nat) (v : Word) : State :=
  let en := bitOf v.toNat 4
  let c := v.toNat % 4
  if t = 0 then s
  else if en && (decide (s.nCores ≤ c) || decide (4 ≤ s.coreLoad c t)) then s.put TWU_STAT_CFGERR 1
  else (s.put (TEN_CORE_EN t) (b2n en)).put (TEN_CORE_CORE t) c

/-- TEN_CORE_WRITE (R7, R130, R142): after BOOT_DONE discarded and counted. -/
def execTenCoreWrite (ten : Fin 8) (t : Fin 8) (v : Word) (s : State) : Host.Outcome State Fault Refusal := .next <|
  s.whenUp fun s =>
    if s.nTenants ≤ t.1 then s
    else if s.bootDone then s.protCount ten (TEN_CORE t)
    else if ten = 0 then s.tenCoreWrite t v else s

end Sys2Proof.Machine
end

