-- ==== Sys2Proof/Machine/Views.lean ====
section
/-! DEFINITION. What a read of a register returns (R6, R8, R25, R32): the registers the manual computes from other state, and the
word of the register file for all others. -/

namespace Sys2Proof.Machine

/-! ### Absent resources (R24, R25) -/

/-- The word at `a` belongs to an instance the member lacks (R25). -/
def State.absentReg (s : State) (a : Nat) : Bool :=
  let o := a % 0x10000
  match a / 0x10000 with
  | 0x4002 => (decide (o < 0x800) && decide (s.nTenants ≤ o / 0x100)) ||
      (decide (0x800 ≤ o ∧ o < 0x880) && decide (s.nTenants ≤ (o - 0x800) / 16)) ||
      (decide (0x880 ≤ o ∧ o < 0x890) && decide (s.nCores ≤ (o - 0x880) / 4))
  | 0x4003 => (decide (o < 0xC00) && decide (s.nEvents ≤ o / 4)) ||
      (decide (0x1000 ≤ o ∧ o < 0x1C00) && decide (s.nEvents ≤ (o - 0x1000) / 4)) ||
      (decide (0x2010 ≤ o ∧ o < 0x2020) && decide (s.nCores ≤ (o - 0x2010) / 4)) ||
      (decide (0x2040 ≤ o ∧ o < 0x2060) && decide (s.nTenants ≤ (o - 0x2040) / 4))
  | 0x4004 => decide (o < 0x800) && decide (s.nDma ≤ o / 0x40)
  | 0x4010 => decide (s.nPorts ≤ o / 0x1000)
  | 0x4011 => decide (s.nAxes ≤ o / 0x1000)
  | 0x4012 => (decide (o < 0x400) && decide (s.nMod ≤ o / 16)) ||
      (decide (0x400 ≤ o ∧ o < 0x420) && decide (s.nAxes ≤ (o - 0x400) / 4))
  | 0x4013 => (decide (0x100 ≤ o ∧ o < 0x500) && decide (s.nInc ≤ (o - 0x100) / 0x80)) ||
      (decide (0x600 ≤ o ∧ o < 0x800) && decide (s.nHall ≤ (o - 0x600) / 0x40)) ||
      (decide (0x800 ≤ o ∧ o < 0x900) && decide (s.nSsi ≤ (o - 0x800) / 0x40))
  | 0x4014 => decide (0x900 ≤ o ∧ o < 0x920) && decide (s.nAxes ≤ (o - 0x900) / 4)
  | 0x4015 => decide (s.nCan ≤ o / 0x100)
  | 0x4018 => (decide (o < 0x100) && decide (s.nLamps ≤ o / 0x20)) ||
      (decide (0x100 ≤ o ∧ o < 0x180) && decide (s.nAxes ≤ (o - 0x100) / 16)) ||
      (decide (0x200 ≤ o ∧ o < 0x400) && decide (s.nAxes ≤ (o - 0x200) / 0x40))
  | 0x401A => decide (0x60 ≤ o ∧ o < 0x80) && decide (s.nAxes ≤ (o - 0x60) / 4)
  | _ => false

/-- The bits of an `n`-bit map whose instances a member with `k` of them lacks. -/
def lacking (n k : Nat) : Nat := 2 ^ n - 2 ^ min n k

/-- Bits of a present register that name an absent instance: they read as zero and are not written (R25). -/
def State.absentBits (s : State) (a : Nat) : Nat :=
  let axes := lacking 8 s.nAxes
  let o := a % 0x10000
  match a / 0x10000 with
  | 0x4000 => if a = RSTCTL_STAT then lacking 6 s.nPorts else 0
  | 0x4001 => if a = BG_INPUTS then axes * 2 ^ 20 else 0
  | 0x4002 =>
    if 0x800 ≤ o ∧ o < 0x880 ∧ o % 16 = 0 then axes * 2 ^ 10 + lacking 6 s.nPorts * 16
    else if a = TWU_KILL then lacking 8 s.nTenants * 0x10001
    else if a = TWU_TSTATE then lacking 16 (2 * s.nTenants) else 0
  | 0x4004 => if a = DMA_RUN then lacking 32 s.nDma else 0
  | 0x4010 => if o % 0x1000 = 0 then axes * 2 ^ 16 else 0
  | 0x4013 =>
    if a = FB_SPDSW then lacking 8 s.nInc
    else if a = FB_LOSS then lacking 4 s.nSsi * 2 ^ 16 + lacking 8 s.nHall * 2 ^ 8 + lacking 8 s.nInc else 0
  | 0x4016 => if a = PDO_LOSS then axes else 0
  | 0x4018 =>
    if 0x100 ≤ o ∧ o < 0x180 ∧ o % 16 = 0 then axes * 2 ^ 16
    else if a = EMG_LVL then axes
    else if a = LIO_EVT then axes * 2 ^ 8 else 0
  | 0x401A => if a = CP_AX then axes * 257 else 0
  | _ => 0

/-! ### Views: registers computed from other state -/

/-- Statusword bits 0 to 3, 5 and 6 of a state (CiA 402). -/
def Cia.word : Cia → Nat
  | .notReady => 0 | .disabled => 0x40 | .ready => 0x21 | .switchedOn => 0x23
  | .enabled => 0x27 | .quickStop => 0x07 | .faultReact => 0x0F | .fault => 0x08

/-- BG_STATUS as last shown. -/
def State.bgBit (s : State) (i : Nat) : Bool := bitOf (s.bg.shown[0]).toNat i

/-- AX_SW (R84, R88). -/
def State.axSw (s : State) (a : Fin 8) : Nat :=
  let x := s.axes[a]
  let bit := fun (i : Nat) (b : Bool) => if b then 2 ^ i else 0
  let sw := x.st.word + bit 4 s.eng[a].udcOk + bit 8 s.sys.ss1 + bit 9 (x.code != 5) + bit 11 x.clampActs +
    bit 12 (decide (2 ≤ x.code) && x.step == 3) + bit 14 (!s.bgBit 30) + bit 15 (s.bgBit 31)
  sw + x.st.code * 2 ^ 16 + x.code * 2 ^ 20 + bit 24 x.inhibit + bit 25 x.emgReq + bit 26 x.pendEmg

/-- AX_CLAMP (R82). -/
def State.axClamp (s : State) (a : Fin 8) : Nat :=
  match s.axes[a].code with
  | 1 => 250 * 65536 + svcClamp s.speedClass
  | 5 => emgClamp s.speedClass
  | _ => 0

/-- SP_STAT. -/
def State.spStat (s : State) (p : Fin 6) : Nat :=
  let q := s.ports[p]
  (match q.st with | .off => 0 | .stream => 1 | .halt => 2) * 2 ^ 30 + b2n q.live * 2 ^ 29 + q.haltCause % 16 * 2 ^ 25 + q.reent % 256 * 2 ^ 17 +
    min q.rxQ.length 128 * 2 ^ 9 + (256 - q.tenQ.length)

/-- SP_LINES: ALERT_N is what the satellites drive. In OFF the other lines stand at the weak pull-up (R103, R217); in HALT SDIO is low and the
halt selects are asserted (R211). What else moves does so within a slot, below what the model resolves (free values, log entry 63). -/
def State.spLines (s : State) (p : Fin 6) : Nat :=
  let v := Config.freeValue 60 s.freeCtr
  let rest := match s.ports[p].st with
    | .off => 0x5F
    | .halt => (if !s.dmode p then 0 else if s.flag (SP_CFG_BCAST p) then 7 else v &&& 0xF) + (v &&& 0x40)
    | .stream => v &&& 0x5F
  rest + b2n (s.alertN p) * 32

/-- TWU_TSTATE. -/
def State.tstate (s : State) : Nat := (List.finRange 8).foldl (fun n t => n + s.tenantState t * 4 ^ t.1) 0

/-- EVT_SELF for a read by tenant `ten` through core `c`. -/
def State.evtSelf (s : State) (ten : Nat) (c : Fin 4) : Nat :=
  match s.pr.cores[c].stack with
  | e :: _ => if e.tenant.1 = ten then 2 ^ 31 + e.level % 16 * 2 ^ 16 + e.src % 1024 else 0
  | [] => 0

/-- EVT_CORE. -/
def State.evtCore (s : State) (c : Fin 4) : Nat :=
  let x := s.pr.cores[c]
  x.stack.length % 32 * 2 ^ 24 + x.bank.1 * 2 ^ 12 + (match x.stack with | e :: _ => e.level % 16 * 2 ^ 16 + e.src % 1024 | [] => 0)

/-- DMA_RUN. -/
def State.dmaRun (s : State) : Nat := (List.range 32).foldl (fun n c => if s.get (DMA_STAT_STATE c) = 1 then n + 2 ^ c else n) 0

/-- CAN_STAT: STATE 3 while disabled; WARN belongs to an enabled channel. -/
def State.canStat (s : State) (ch : Fin 2) : Nat :=
  (s.reg (CAN_STAT ch)).toNat % 2 ^ 30 + (if s.flag (CAN_CFG_EN ch) then s.srv.can[ch].state % 4 else 3) * 2 ^ 30

/-- CAN_FIFO. -/
def State.canFifo (s : State) (ch : Fin 2) : Nat :=
  (512 - s.srv.can[ch].txQ.length) * 2 ^ 16 + min s.srv.can[ch].rxQ.length 512

/-- MOD_STAT.ACTIVE: the channel and its axis are enabled and MCLK runs (the manual gives the name alone; log entry 30). -/
def State.modActive (s : State) (c : Nat) : Bool :=
  s.flag (MOD_CFG_EN c) && s.flag (MOD_AX_EN (s.get (MOD_CFG_AXIS c))) && !s.mclkOff (s.get (MOD_CFG_AXIS c))

/-- LAMP_STAT with ON, BLANK and LO. -/
def State.lampStat (s : State) (n : Fin 8) : Nat :=
  ((s.reg (LAMP_STAT n)).toNat &&& 0xA7000007) + b2n (s.lampOn n) * 2 ^ 30 + b2n (s.lampBlank n) * 2 ^ 28 + b2n (s.lampLo n) * 2 ^ 27

/-- SYS_RES0, SYS_RES1, SYS_RES2 (R33). -/
def State.sysRes (s : State) (k : Nat) : Nat :=
  match k with
  | 0 => s.nMod * 2 ^ 24 + 8 * s.nPorts * 2 ^ 16 + s.nTenants * 2 ^ 12 + s.nCores * 2 ^ 8 + s.nAxes * 16 + s.nPorts
  | 1 => s.nLamps * 2 ^ 27 + s.nSsi * 2 ^ 24 + s.nHall * 2 ^ 20 + s.nInc * 2 ^ 16 + s.nDma * 2 ^ 10 + s.nEvents
  | _ => 2 * 16 + s.nCan

/-- Words of the system control block computed from other state; none where the register file holds the word. -/
def State.viewSys (s : State) (a : Nat) : Option Nat :=
  if a = SYS_ID then some (0x47D1 * 2 ^ 16 + s.member.pick 1 3 5 9 * 2 ^ 8 + Config.dieRev.toNat)
  else if a = SYS_RES0 then some (s.sysRes 0)
  else if a = SYS_RES1 then some (s.sysRes 1)
  else if a = SYS_RES2 then some (s.sysRes 2)
  else if a = WDT_STAT then some s.wdtStat
  else if a = BEAR_FEED then
    some (((s.reg BEAR_FEED).toNat &&& 3) + b2n s.bear.feedA * 8 + b2n s.bear.feedB * 16 + b2n (s.bear.feedA || s.bear.feedB) * 32 +
      Config.freeValue 61 s.freeCtr % 65536 * 2 ^ 16)
  else if a = BEAR_STAT then some (s.bearStat &&& 0xFF7FFFFF ||| Config.freeValue 57 s.freeCtr % 2 * 2 ^ 23)
  else if a = BEAR_LAMPS then some s.bearLamps
  else if a = BEAR_TWIN then some s.bearTwin
  else none

/-- Words of the safety supervisor interface as last shown (02_badger_safety.md). -/
def State.viewSafe (s : State) (a : Nat) : Option Nat :=
  let w := fun i : Fin 7 => some (s.bg.shown[i]).toNat
  if a = BG_STATUS then w 0
  else if a = BG_CAUSE then w 1
  else if a = BG_CAUSEMAP then w 2
  else if a = BG_SEAL then w 3
  else if a = BG_INPUTS then w 4
  else if a = BG_SLS_F 0 then w 5
  else if a = BG_SLS_F 1 then w 6
  else if a = BG_VER then some Config.supervisorVersion.toNat
  else none

/-- Words of the event controller computed for a read by tenant `ten` through `port`. -/
def State.viewEvt (s : State) (ten port a : Nat) : Option Nat :=
  if a = EVT_SELF then some (if h : port < 4 then s.evtSelf ten ⟨port, h⟩ else 0)
  else if h : a - EVT_CORE 0 < 16 ∧ EVT_CORE 0 ≤ a then some (s.evtCore ⟨(a - EVT_CORE 0) / 4, by omega⟩)
  else if h : a - EVT_TEN 0 < 32 ∧ EVT_TEN 0 ≤ a then some (s.pr.banks[(a - EVT_TEN 0) / 4]'(by omega)).exc
  else none

/-- Words of a satellite port computed from other state. -/
def State.viewPort (s : State) (p : Fin 6) (o : Nat) : Option Nat :=
  match o with
  | 0x14 => some (s.spStat p)
  | 0x18 => some ((s.reg (SP_EVT p)).toNat % 1024 + b2n (bitOf (s.get RSTCTL_STAT_PORTREF) p) * 1024)
  | 0x3C => some (s.spLines p)
  | 0x40 => some (min s.ports[p].engQ.length 63)
  | _ => none

/-- Words of an axis computed from other state; a word of a parameter group reads its live value (R181).
AX_MODEDISP shows in SAFE the mode last in force, 0xFE after EMERGENCY: R66 says "Any" there (DESIGN CHOICE, log entry 74). -/
def State.viewAxis (s : State) (a : Fin 8) (o : Nat) : Option Nat :=
  if o = 4 then some (s.axSw a)
  else if o = 0xC then some (modeByte s.axes[a].mode)
  else if o = 0x34 then some (s.axClamp a)
  else if 0x80 ≤ o ∧ o < 0xA8 then some ((s.gain[a].live.getD ((o - 0x80) / 4) 0).toNat)
  else if o = 0xB0 then some (s.routeOf a)
  else if o = 0xFC then some (s.tavail a)
  else none

/-- Words of the feedback block computed from other state. -/
def State.viewFb (s : State) (o : Nat) : Option Nat :=
  if o = 0 then some (s.clk % 2 ^ 32)
  else if o = 4 then some (s.clk / 2 ^ 32 % 2 ^ 32)
  else if h : o = 8 ∨ o = 12 then
    let k : Fin 2 := ⟨(o - 8) / 4, by omega⟩
    some (((s.reg (FB_TAP k)).toNat &&& 0x60000000) + b2n (s.tapEn k) * 2 ^ 31 + s.tapSrc k * 256)
  else if o = 0x38 then some s.fb.capQ.length
  else if h : 0x100 ≤ o ∧ o < 0x500 then
    let n : Fin 8 := ⟨(o - 0x100) / 0x80, by omega⟩
    match o % 0x80 with
    | 0x2C => some (s.incAngle n)
    | 0x30 => some (toCode 32 (freqReg (s.incFreq n)))
    | 0x34 => some (toCode 32 (s.incSpd n))
    | _ => none
  else if h : 0x600 ≤ o ∧ o < 0x800 then
    let n : Fin 8 := ⟨(o - 0x600) / 0x40, by omega⟩
    match o % 0x40 with
    | 0x14 => some (toCode 16 (s.hallAngle n))
    | 0x18 => some (toCode 32 (freqReg (s.hallFreq n)))
    | 0x1C => some (toCode 32 (s.hallSpd n))
    | _ => none
  else if 0x800 ≤ o ∧ o < 0x900 ∧ o % 0x40 = 0x1C then some (toCode 16 (s.ssiAngle ((o - 0x800) / 0x40)))
  else none

/-- Words of the ring block computed from other state. -/
def State.viewRing (s : State) (o : Nat) : Option Nat :=
  if o = 8 then some s.ringStat
  else if o = 0x10 then some (s.ring.ns % 2 ^ 32)
  else if o = 0x14 then some (s.ring.ns / 2 ^ 32 % 2 ^ 32)
  else if o = 0x58 then some s.ringFifo
  else if h : 0x100 ≤ o ∧ o < 0x900 ∧ o % 0x80 = 0x10 then
    let g : Fin 16 := ⟨(o - 0x100) / 0x80, by omega⟩
    some ((s.reg (GRP_STAT g)).toNat % 2 ^ 29 + s.grpState g * 2 ^ 29)
  else none

/-- Words of the lamps and I/O block computed from other state. -/
def State.viewLio (s : State) (o : Nat) : Option Nat :=
  if h : o < 0x100 ∧ o % 0x20 = 0xC then some (s.lampStat ⟨o / 0x20, by omega⟩)
  else if h : 0x200 ≤ o ∧ o < 0x400 then
    let a : Fin 8 := ⟨(o - 0x200) / 0x40, by omega⟩
    let k := o % 0x40
    if k < 0x14 then some ((s.tension[a].live.getD (k / 4) 0).toNat)
    else if k = 0x2C then some ((s.reg (WN_STAT a)).toNat / 65536 * 65536 + s.drumShown a)
    else none
  else none

/-- Words of the store controller computed from other state. -/
def State.viewStore (s : State) (o : Nat) : Option Nat :=
  match o with
  | 0x10 => some s.storeStat
  | 0x1C => some (s.store.layPrev % 65536 * 65536 + s.store.layNow % 65536)
  | 0x20 => some (s.store.wearPct % 256 * 2 ^ 24 + s.store.maxWear % 2 ^ 24)
  | 0x24 => some s.store.commits
  | 0x28 => some s.storeSpace
  | 0x30 => some s.bankStat
  | 0x34 => some (s.bankGen 1 * 65536 + s.bankGen 0)
  | 0x38 => some (s.bankVer 0)
  | 0x3C => some (s.bankVer 1)
  | 0x40 => some s.storeMig
  | _ => none

/-- The word at `a` where it is computed from other state, for a read by tenant `ten` through `port`. -/
def State.viewAt (s : State) (ten port a : Nat) : Option Nat :=
  let o := a % 0x10000
  match a / 0x10000 with
  | 0x4000 => s.viewSys a
  | 0x4001 => s.viewSafe a
  | 0x4002 => if a = TWU_TSTATE then some s.tstate else none
  | 0x4003 => s.viewEvt ten port a
  | 0x4004 =>
    if a = DMA_RUN then some s.dmaRun
    else if h : o < 0x800 ∧ o % 0x40 = 0x10 then
      let c : Fin 32 := ⟨o / 0x40, by omega⟩
      some ((s.reg (DMA_STAT c)).toNat / 65536 * 65536 + s.pr.dma[c].cnt % 65536)
    else none
  | 0x4010 => if h : o < 0x6000 then s.viewPort ⟨o / 0x1000, by omega⟩ (o % 0x1000) else none
  | 0x4011 => if h : o < 0x8000 then s.viewAxis ⟨o / 0x1000, by omega⟩ (o % 0x1000) else none
  | 0x4012 =>
    if o = 0x508 then some s.modCap.length
    else if o < 0x400 ∧ o % 16 = 0xC then some ((s.reg a).toNat / 2 * 2 + b2n (s.modActive (o / 16)))
    else none
  | 0x4013 => s.viewFb o
  | 0x4014 => s.viewRing o
  | 0x4015 =>
    if h : o < 0x200 then
      let ch : Fin 2 := ⟨o / 0x100, by omega⟩
      match o % 0x100 with
      | 0 => some ((s.reg (CAN_CFG ch)).toNat ||| b2n (!s.hasId) * 2 ^ 29)
      | 0xC => some (s.canStat ch)
      | 0x28 => some (s.canFifo ch)
      | _ => none
    else none
  | 0x4017 => if a = TAG_STAT then some s.tagStat else none
  | 0x4018 => s.viewLio o
  | 0x4019 => s.viewStore o
  | 0x401A => if a = CP_AGE then some s.cpAge else if a = CP_STAT then some s.cpStat else none
  | _ => none

/-- The value of the register at `a`, without the effects of a read. -/
def State.look (s : State) (ten port a : Nat) : Word :=
  if s.absentReg a then 0
  else
    let w := match s.viewAt ten port a with | some v => BitVec.ofNat 32 v | none => s.reg a
    w &&& ~~~ BitVec.ofNat 32 (s.absentBits a)

/-! ### 64-bit registers (R11) -/

/-- Low word of a 64-bit register. -/
def isLow64 (a : Nat) : Bool :=
  let o := a % 0x10000
  match a / 0x10000 with
  | 0x4013 => o == 0 || (decide (0x100 ≤ o ∧ o < 0x500) && (o % 0x80 == 0x38 || o % 0x80 == 0x40)) ||
      (decide (0x600 ≤ o ∧ o < 0x800) && o % 0x40 == 0x20) || (decide (0x800 ≤ o ∧ o < 0x900) && o % 0x40 == 0x24)
  | 0x4014 => o == 0x10 || o == 0x18 || o == 0x20 || o == 0x40 || o == 0x48
  | _ => false

/-- High word of a 64-bit register. -/
def isHigh64 (a : Nat) : Bool := decide (4 ≤ a) && isLow64 (a - 4)

/-- Key of a 64-bit register's copies on a bus port. -/
def portKey (port a : Nat) : Nat := port * 2 ^ 32 + a

/-- Read of a low word: the high word goes into the port's holding copy (R11). -/
def State.low64Read (s : State) (ten port a : Nat) : Word × State :=
  (s.look ten port a, { s with hold := sparseSet 0 (portKey port a) (s.look ten port (a + 4)) s.hold })

/-- The effect and the value of a read of the register at `a` by tenant `ten` through `port` (0 to 3 core n, 4 DMA, 5 copy engine). -/
def State.regRead (s : State) (ten port a : Nat) : Word × State :=
  let o := a % 0x10000
  if s.absentReg a then (0, s)
  else if isLow64 a then s.low64Read ten port a
  else if isHigh64 a then (sparseGet 0 (portKey port (a - 4)) s.hold, s)
  else if h : a / 0x10000 = 0x4010 ∧ o < 0x6000 ∧ o % 0x1000 = 0x24 then s.popRx ⟨o / 0x1000, by omega⟩
  else if a = MOD_CAPPOP then s.popMod
  else if a = FB_CAPPOP then s.popCap
  else if a = RING_RXPOP then s.ringPop
  else if h : a / 0x10000 = 0x4015 ∧ o < 0x200 ∧ o % 0x100 = 0x20 then s.canPop ⟨o / 0x100, by omega⟩
  else
    let free := a == BEAR_FEED || a == BEAR_STAT || (a / 0x10000 == 0x4010 && o % 0x1000 == 0x3C)
    (s.look ten port a, if free == true then (s.setFreeCtr (s.freeCtr + 1)) else s)

/-- REG64_LOW_READ (R11): the word read stands in `rdata`. -/
def execReg64LowRead (ten : Fin 8) (port : Fin 6) (a : Nat) (s : State) : Host.Outcome State Fault Refusal := .next <|
  s.whenUp fun s =>
    if !isLow64 a || s.absentReg a then s
    else let r := s.low64Read ten port a; ((r.2).setRdata r.1.toNat)

end Sys2Proof.Machine
end

