-- ==== Sys2Proof/Machine/Bus.lean ====
section
/-! DEFINITION. What a write of a register does (R6 to R12, R25, R32, R142): by the access code of each field, with the refusals of
the register tables, and as a command where the field is one. -/

namespace Sys2Proof.Machine

/-! ### Access codes (R6) -/

/-- `old` with the bits of mask `m` taken from `v`. -/
def mixBits (old v m : Word) : Word := (old &&& ~~~m) ||| (v &&& m)

/-- The bits a write by tenant `ten` may set, by the access codes (R6, R10, R64). -/
def State.maySet (s : State) (ten : Nat) (r : RegRow) : Nat :=
  let boot : Bool := ten == 0 && !s.bootDone
  r.rw ||| (if boot == true then r.rwb else 0) ||| (if s.serviceNow then r.rws else 0) |||
    (if s.serviceNow || boot || (s.bg.accepted.isNone && s.allSafe 255) then r.rwc else 0)

/-- A write by the access codes; the bits of `no` keep their value, and a 1 clears no W1C bit that hardware sets on the same edge (R6,
R12). -/
def State.plainWrite (s : State) (ten a : Nat) (v no : Word) : State :=
  match regRow a with
  | none => s
  | some r =>
    let m := BitVec.ofNat 32 (s.maySet ten r) &&& ~~~no &&& ~~~BitVec.ofNat 32 (s.absentBits a)
    s.setReg a (mixBits (s.reg a) v m &&& ~~~(v &&& BitVec.ofNat 32 r.w1c &&& ~~~s.setNow a))

/-- The register at `a` has RWB fields. -/
def hasRwb (a : Nat) : Bool := match regRow a with | some r => r.rwb != 0 | none => false

/-- A write that changes bits of `m`. -/
def State.changes (s : State) (a : Nat) (v : Word) (m : Nat) : Bool := (s.reg a ^^^ v) &&& BitVec.ofNat 32 m != 0

/-- `n` lies in a range. -/
def within (n lo hi : Nat) : Bool := decide (lo ≤ n) && decide (n ≤ hi)

/-! ### System control, supervisor interface, tenant window unit, events, DMA -/

/-- Block SYS (R97 to R100, R120, R463, R467, R471). Bits received so far on a port whose selects TEN_RST releases: none (log entry 31). -/
def State.sysWrite (s : State) (ten a : Nat) (v : Word) : State :=
  if a = BOOT_CTRL then (if ten = 0 ∧ bitOf v.toNat 0 then s.bootDoneSet else s)
  else if a = WDT_KICK then s.writeWdtKick v
  else if a = SYS_RST then s.writeSysRst v
  else if a = TEN_RST then s.writeTenRst v []
  else if a = PORT_RST then s.writePortRst v
  else if a = BEAR_PARK then s.writeBearPark v.toNat
  else if a = BEAR_LTEST then (if bitOf v.toNat 0 then s.lampTest else s)
  else s.plainWrite ten a v 0

/-- Block SAFE (R55, R56, R58, R62, R64). -/
def State.safeWrite (s : State) (ten a : Nat) (v : Word) : State :=
  if a = BG_HB_RESP then s.hbResponse v
  else if a = BG_HB_CTRL then s.hbArm (bitOf v.toNat 0)
  else if a = BG_FBLOR then (if s.bg.powered then s.fblor v else s)
  else if a = BG_SCS_CMD then (match v.toNat % 4 with | 1 => s.scsCommand true | 2 => s.scsCommand false | _ => s)
  else s.plainWrite ten a v 0

/-- Block TWU (R7, R130, R134, R142, R144, R153, R154): after BOOT_DONE every write is counted but those of MEMERR_STAT and MEMERR_INJ by a
tenant with ownership bit 0. `port` below 4 is the core that writes. -/
def State.twuWrite (s : State) (ten port a : Nat) (v : Word) : State :=
  let own : Bool := ten == 0 && !s.bootDone || bitOf (s.get (TEN_OWN_OWN ten)) 0
  if (a = MEMERR_STAT ∨ a = MEMERR_INJ) ∧ own = true then
    (if a = MEMERR_STAT then s.plainWrite ten a v 0
     else if fieldOf v 1 0 = 3 ∨ ¬ s.serviceNow then s
     else
       let c : Option (Fin 4) := if h : port < 4 then some ⟨port, h⟩ else none
       ((s.put MEMERR_INJ_MODE (fieldOf v 1 0)).modPr fun z => { z with injCore := c }))
  else if s.bootDone then s.protCount ten a
  else if ten ≠ 0 then s
  else
    let o := a % 0x10000
    if 0x800 ≤ o ∧ o < 0x880 ∧ o % 16 = 4 then s.tenCoreWrite ((o - 0x800) / 16) v
    else if 0x880 ≤ o ∧ o < 0x890 then
      (if within (fieldOf v 15 0) 10 10000 then s.plainWrite ten a v 0 else s.put TWU_STAT_CFGERR 1)
    else if a = MEMERR_SCRUB then (if 16 ≤ fieldOf v 15 0 then s.plainWrite ten a v 0 else s.put TWU_STAT_CFGERR 1)
    else s.plainWrite ten a v 0

/-- Block EVT (R158, R159, R169). -/
def State.evtWrite (s : State) (ten a : Nat) (v : Word) : State :=
  if 0x40031000 ≤ a ∧ a < 0x40031C00 then s.evtCtlWrite ten ((a - 0x40031000) / 4) v
  else if a = EVT_SET then s.doorbell (fieldOf v 9 0)
  else s.plainWrite ten a v 0

/-- Registers of channel `c` (R170, R178, R180): the others are read-only. -/
def State.dmaWrite (s : State) (ten : Nat) (c : Fin 32) (a : Nat) (v : Word) : State :=
  match a % 0x40 with
  | 0 => s.plainWrite ten a v 0
  | 4 => if 23 ≤ fieldOf v 5 0 then s.cmdRef c else s.plainWrite ten a v 0
  | 8 => if s.get (DMA_STAT_STATE c) ≠ 0 then s.cmdRef c else s.plainWrite ten a v 0
  | 0xC => s.dmaCmd c (fieldOf v 3 0)
  | 0x30 => s.plainWrite ten a v 0
  | o => if 0x14 ≤ o ∧ o ≤ 0x20 then (if s.get (DMA_STAT_STATE c) ≠ 2 then s.cmdRef c else s.plainWrite ten a v 0) else s

/-! ### Satellite ports (07_satellite_link.md, "Registers and objects") -/

/-- Bits of SP_CFG marked OFF only: BCAST, DMODE, SDLY, SELMAP. -/
def spOffBits : Nat := 0x6000F0FF

/-- A write of SP_CFG: ALERTACT 3 and, with a PATTERN select fitted, SDLY above 5 discard it (R212, R218); out of OFF a write that would
change an OFF-only field leaves those fields and sets CTLREF (log entry 32). -/
def State.writeSpCfg (s : State) (ten : Nat) (p : Fin 6) (a : Nat) (v : Word) : State :=
  let sel := if fieldOf v 29 29 = 1 then fieldOf v 7 0 else fieldOf v 3 0
  if fieldOf v 11 10 = 3 then s.ctlRef p
  else if 5 < fieldOf v 15 12 ∧ s.changes a v spOffBits ∧ sel &&& s.get (SP_BUSY_STYLE p) ≠ 0 then s.ctlRef p
  else if s.ports[p].st != .off && s.changes a v spOffBits then (s.plainWrite ten a v (BitVec.ofNat 32 spOffBits)).ctlRef p
  else s.plainWrite ten a v 0

/-- Registers of port `p`. -/
def State.portWrite (s : State) (ten : Nat) (p : Fin 6) (a : Nat) (v : Word) : State :=
  let off : Bool := s.ports[p].st == .off
  match a % 0x1000 with
  | 0 => s.writeSpCfg ten p a v
  | 4 =>
    let n := fieldOf v 5 0
    if s.changes a v 63 && (!off || n % 2 != 0 || !within n 10 40) then s.ctlRef p else s.plainWrite ten a v 0
  | 8 => if s.changes a v 255 && !off then s.ctlRef p else s.plainWrite ten a v 0
  | 0xC => if fieldOf v 3 0 = 0 then s.plainWrite ten a v 15 else s.plainWrite ten a v 0
  | 0x10 => s.writeSpCtrl p v.toNat
  | 0x18 => (if bitOf v.toNat 10 && !bitOf (s.setNow RSTCTL_STAT).toNat p.1 then s.put RSTCTL_STAT_PORTREF (s.get RSTCTL_STAT_PORTREF &&& (63 - 2 ^ p.1)) else s).plainWrite ten a v 0
  | 0x20 => s.pushTq p ten v
  | _ => s.plainWrite ten a v 0

/-! ### Axes and modulators (03_operating_modes.md, 10_current_loop.md) -/

/-- Values AX_OPT supports. -/
def axOptOk (v : Word) : Bool :=
  within (fieldOf v 7 6) 1 2 && (fieldOf v 3 0 == 1 || fieldOf v 3 0 == 2 || fieldOf v 3 0 == 5 || fieldOf v 3 0 == 6)

/-- A channel code of ENG_FB.SRC. -/
def srcOkCode (c : Nat) : Bool := decide (c < 8) || within c 0x10 0x17 || within c 0x20 0x23

/-- Ranges of the SAFE-only registers at offset `o` of an axis (10_current_loop.md). -/
def engFits (o : Nat) (v : Word) : Bool :=
  match o with
  | 0x40 => within (fieldOf v 15 8) 6 255
  | 0x44 => within (fieldOf v 8 0) 10 511
  | 0x48 => within (fieldOf v 31 22) 1 1000 && within (fieldOf v 20 16) 1 19 && within (fieldOf v 9 0) 50 1023
  | 0x4C => within (fieldOf v 31 24) 1 64 && srcOkCode (fieldOf v 23 16)
  | _ => true

/-- Registers of axis `a` (R71, R90, R181, R316). -/
def State.axisWrite (s : State) (ten : Nat) (x : Fin 8) (a : Nat) (v : Word) : State :=
  let o := a % 0x1000
  if o = 0 then s.writeCw x 0 (fieldOf v 15 0)
  else if o = 8 then s.writeMode x (fieldOf v 7 0)
  else if o = 0x10 then s.writeCwsrc x (fieldOf v 0 0)
  else if o = 0x14 then (if axOptOk v then s.plainWrite ten a v 0 else s)
  else if o = 0x38 then s.writeInit x (bitOf v.toNat 0)
  else if 0x40 ≤ o ∧ o ≤ 0x68 then
    (if !s.isSafe x || !engFits o v then s.put (ENG_STAT_CFGREF x) 1
     else
       let t := s.plainWrite ten a v 0
       if o = 0x40 ∧ s.get (ENG_CFG_LEAD x) ≠ t.get (ENG_CFG_LEAD x) then t.restartCycles x else t)
  else if 0x80 ≤ o ∧ o < 0xA8 then s.psetWrite .gain x ((o - 0x80) / 4) ten v
  else if o = 0xA8 then s.psetCtlWrite .gain x ten v
  else if o = 0xB0 then s.psetWrite .route x 0 ten v
  else if o = 0xB4 then s.psetCtlWrite .route x ten v
  else if o = 0xF4 then
    (let t := if bitOf v.toNat 1 then s.clearSchedule x else s
     if bitOf v.toNat 0 then t.clearDegraded x else t)
  else s.plainWrite ten a v 0

/-- The axes of `l` that are out of SAFE record a refusal (R316). -/
def State.modRefuse (s : State) (l : List Nat) : State :=
  l.foldl (fun t x => if s.allSafe (2 ^ x) then t else t.put (ENG_STAT_CFGREF x) 1) s

/-- Modulator block (R316): refused where an axis concerned is out of SAFE; ROLE 5 to 7 and MDIV out of range refused (log entry 29). -/
def State.modWrite (s : State) (ten a : Nat) (v : Word) : State :=
  let o := a % 0x10000
  if o < 0x400 then
    let c := o / 16
    let old := s.get (MOD_CFG_AXIS c)
    match o % 16 with
    | 0 =>
      let new := fieldOf v 26 24
      if !s.allSafe (2 ^ old ||| 2 ^ new) then s.modRefuse [old, new]
      else if 5 ≤ fieldOf v 22 20 then s.put (ENG_STAT_CFGREF new) 1
      else s.plainWrite ten a v 0
    | 4 => if s.allSafe (2 ^ old) then s.plainWrite ten a v 0 else s.modRefuse [old]
    | _ => s.plainWrite ten a v 0
  else if 0x400 ≤ o ∧ o < 0x420 then
    let x := (o - 0x400) / 4
    if s.allSafe (2 ^ x) && within (fieldOf v 7 0) 10 50 then s.plainWrite ten a v 0 else s.put (ENG_STAT_CFGREF x) 1
  else s.plainWrite ten a v 0

/-! ### Feedback block (R320, R348, 11_lynx_feedback.md) -/

/-- An idle-only write of a channel with code `c` (R320). -/
def State.idleWrite (s : State) (ten c a : Nat) (v : Word) (fits : Bool) : State :=
  if s.chanUsed c || !fits then s.fbRef else s.plainWrite ten a v 0

/-- INC_CTRL. -/
def State.incCtrl (s : State) (n : Fin 8) (v : Nat) : State :=
  let t0 := if bitOf v 0 then s.clearIndex n else s
  let t1 := if bitOf v 1 then t0.clearErr n else t0
  let t2 := if bitOf v 2 then t1.clearLock n else t1
  let t3 := if bitOf v 3 then t2.clearLoss n else t2
  if bitOf v 4 then t3.armReference n else t3

/-- A value written to INC_CNT, plus the steps counted on the same edge (R350). -/
def State.cntWritten (s : State) (n : Fin 8) (v : Word) : Word :=
  s.edge.marks.foldl (fun w m => if m = .counted n true then w + 1 else if m = .counted n false then w - 1 else w) v

/-- Registers of incremental channel `n`. -/
def State.incWrite (s : State) (ten : Nat) (n : Fin 8) (a : Nat) (v : Word) : State :=
  match (a % 0x10000 - 0x100) % 0x80 with
  | 0 => (s.idleWrite ten n a v true).judgeInc n
  | 4 => s.idleWrite ten n a v (within (fieldOf v 20 0) 16 1048576)
  | 8 => s.idleWrite ten n a (s.cntWritten n v) true
  | 0xC => s.idleWrite ten n a v (decide (fieldOf v 20 0 < s.get (INC_CPR_CPR n)))
  | 0x48 => s.idleWrite ten n a v (decide (fieldOf v 15 0 < fieldOf v 31 16))
  | 0x4C => s.idleWrite ten n a v (within (fieldOf v 29 16) 1 10000 && within (fieldOf v 9 0) 10 1000)
  | 0x50 => s.incCtrl n v.toNat
  | _ => s.plainWrite ten a v 0

/-- Registers of Hall set `h`. -/
def State.hallWrite (s : State) (ten : Nat) (h : Fin 8) (a : Nat) (v : Word) : State :=
  let c := 0x10 + h.1
  match (a % 0x10000 - 0x600) % 0x40 with
  | 0 => (s.idleWrite ten c a v (within (fieldOf v 23 16) 1 64)).judgeHall h
  | 4 => s.idleWrite ten c a v true
  | 0x28 => s.idleWrite ten c a v (within (fieldOf v 29 16) 1 10000)
  | 0x2C =>
    let t := if bitOf v.toNat 1 then s.clearErr c else s
    if bitOf v.toNat 3 then t.clearLoss c else t
  | _ => s.plainWrite ten a v 0

/-- Position bits of an SSI_CFG value: the word without its parity and error bits (R342). -/
def ssiBits (v : Word) : Nat := fieldOf v 20 16 + 1 - b2n (fieldOf v 29 28 != 0) - fieldOf v 27 27

/-- Registers of SSI channel `i`; a read started by a write meets the level DAT has (a free value, log entry 4). -/
def State.ssiWrite (s : State) (ten : Nat) (i : Fin 4) (a : Nat) (v : Word) : State :=
  let c := 0x20 + i.1
  match (a % 0x10000 - 0x800) % 0x40 with
  | 0 => s.idleWrite ten c a v (fieldOf v 29 28 != 3 && within (fieldOf v 20 16) 7 31 && within (fieldOf v 12 8) 1 (ssiBits v))
  | 4 => s.idleWrite ten c a v (within (fieldOf v 29 16) 10 10000 && within (fieldOf v 10 0) 63 1250)
  | 8 => (s.idleWrite ten c a v (1 ≤ fieldOf v 31 24 && 1 ≤ fieldOf v 23 16 && within (fieldOf v 13 0) 1 10000)).judgeSsi i
  | 0x2C =>
    let t := if bitOf v.toNat 1 then s.clearErr c else s
    let u := if bitOf v.toNat 3 then t.clearLoss c else t
    if bitOf v.toNat 0 && !u.flag (SSI_CFG_TRIG i) && !u.flag (SSI_STAT_INREAD i) then
      (let r := u.draw 59; r.2.ssiStart i (r.1 % 2 == 1))
    else u
  | _ => s.plainWrite ten a v 0

/-- Block FB. -/
def State.fbWrite (s : State) (ten a : Nat) (v : Word) : State :=
  let o := a % 0x10000
  if h : 0x100 ≤ o ∧ o < 0x500 then s.incWrite ten ⟨(o - 0x100) / 0x80, by omega⟩ a v
  else if h : 0x600 ≤ o ∧ o < 0x800 then s.hallWrite ten ⟨(o - 0x600) / 0x40, by omega⟩ a v
  else if h : 0x800 ≤ o ∧ o < 0x900 then s.ssiWrite ten ⟨(o - 0x800) / 0x40, by omega⟩ a v
  else s.plainWrite ten a v 0

/-! ### Ring (R421) -/

/-- A refused write of the ring block. -/
def State.ringRef (s : State) : State := s.put RING_ERR_CFGREF 1

/-- "Group idle": no own member of the group is out of SAFE (R421). -/
def State.grpIdle (s : State) (g : Fin 16) : Bool := (s.ownMembers g).all fun a => s.isSafe a

/-- The registers of group `g` at offset `o`. -/
def State.grpWrite (s : State) (ten : Nat) (g : Fin 16) (o a : Nat) (v : Word) : State :=
  let fits := match o with
    | 0 => within (fieldOf v 15 8) 1 20 && decide (2 ≤ fieldOf v 7 0) && decide (fieldOf v 7 0 + 2 ≤ fieldOf v 15 8 * s.trcNs / 10000)
    | 4 => fieldOf v 31 16 != 0 && fieldOf v 15 8 != 0 && fieldOf v 7 0 != 0
    | _ => decide (fieldOf v 15 0 ≤ 1000)
  if o = 0 ∨ o = 4 ∨ o = 8 then (if s.grpIdle g && fits then s.plainWrite ten a v 0 else s.ringRef) else s.plainWrite ten a v 0

/-- A write of RING_CFG: CYC 10 to 200, ROLE 0 or 1, and BRIDGE not with SW8 ON (R421, R459). -/
def ringCfgFits (snap : Nat) (v : Word) : Bool :=
  within (fieldOf v 7 0) 10 200 && decide (fieldOf v 31 30 ≤ 1) && !(fieldOf v 31 30 == 1 && bitOf snap 7)

/-- Block RING but for its 64-bit registers. -/
def State.ringWrite (s : State) (ten a : Nat) (v : Word) : State :=
  let o := a % 0x10000
  if o = 0 then (if s.ring.st == .off && ringCfgFits s.bg.snap v then s.plainWrite ten a v 0 else s.ringRef)
  else if o = 4 then
    (let t0 := if bitOf v.toNat 3 then s.ringClearCounts else s
     let t1 := if bitOf v.toNat 1 then t0.ringDisable else t0
     let t2 := if bitOf v.toNat 0 then t1.ringEnable else t1
     if bitOf v.toNat 2 then t2.ringRejoin else t2)
  else if o = 0x50 then s.txPush v
  else if h : 0x100 ≤ o ∧ o < 0x900 then s.grpWrite ten ⟨(o - 0x100) / 0x80, by omega⟩ ((o - 0x100) % 0x80) a v
  else if h : 0x900 ≤ o ∧ o < 0x920 then
    (let x : Fin 8 := ⟨(o - 0x900) / 4, by omega⟩
     if s.isSafe x then (s.plainWrite ten a v 0).modMem x fun _ => {} else s.ringRef)
  else s.plainWrite ten a v 0

/-! ### CAN and PDO (R492, R504) -/

/-- Ranges of CAN_NBT and CAN_DBT. -/
def bitTimeFits (dbt : Bool) (v : Word) : Bool :=
  if dbt then fieldOf v 28 24 != 0 && fieldOf v 20 16 != 0 && fieldOf v 11 8 != 0 && fieldOf v 3 0 != 0
  else fieldOf v 31 24 != 0 && decide (2 ≤ fieldOf v 23 16) && fieldOf v 14 8 != 0 && fieldOf v 6 0 != 0

/-- A write of CAN_CFG: while EN is set only EN is written; a write that would change another field sets CFGREF (log entry 32). Enabling starts
the channel error active and sends what waits (R504). -/
def State.writeCanCfg (s : State) (ten : Nat) (ch : Fin 2) (a : Nat) (v : Word) : State :=
  let gated := 0x780000FF
  let was := s.flag (CAN_CFG_EN ch)
  let t := if was && s.changes a v gated then (s.plainWrite ten a v (BitVec.ofNat 32 gated)).put (CAN_STAT_CFGREF ch) 1
    else s.plainWrite ten a v 0
  if !was && t.flag (CAN_CFG_EN ch) then (t.modCan ch fun x => { x with state := 0 }).canFlush else t

/-- Block CAN. -/
def State.canWrite (s : State) (ten : Nat) (ch : Fin 2) (a : Nat) (v : Word) : State :=
  let timing := fun (dbt : Bool) =>
    if s.changes a v 0xFFFFFFFF && (s.flag (CAN_CFG_EN ch) || !bitTimeFits dbt v) then s.put (CAN_STAT_CFGREF ch) 1 else s.plainWrite ten a v 0
  match a % 0x100 with
  | 0 => s.writeCanCfg ten ch a v
  | 4 => timing false
  | 8 => timing true
  | 0x24 => s.canPush ch v
  | _ => s.plainWrite ten a v 0

/-- A refused write of the PDO engine. -/
def State.pdoRef (s : State) : State := s.put PDO_STAT_CFGREF 1

/-- Registers of a PDO at offset `o` (R492, R504): control and map only while INVALID; TYPE 241 to 253 and an empty CHMASK are out of range. -/
def State.pdoRegWrite (s : State) (ten : Nat) (tx : Bool) (n : Fin 16) (o a : Nat) (v : Word) : State :=
  let inv := s.flag (pdoInvalid tx n)
  if o = 0 then (s.pdoCobWrite tx n v.toNat).2
  else if o = 4 then
    (if s.changes a v 0xFFFFFFFF && (!inv || within (fieldOf v 23 16) 241 253 || fieldOf v 25 24 == 0) then s.pdoRef else s.plainWrite ten a v 0)
  else if 0x40 ≤ o then (if s.changes a v 0xFFFFFFE0 && !inv then s.pdoRef else s.plainWrite ten a v 0)
  else s.plainWrite ten a v 0

/-- Block PDO (R483, R484). -/
def State.pdoWrite (s : State) (ten a : Nat) (v : Word) : State :=
  let o := a % 0x10000
  if a = PDO_KICK then s.pdoKick v
  else if h : 0x20 ≤ o ∧ o < 0x30 then
    ((s.plainWrite ten a v 0).put (PDO_HBC_EXPIRED ((o - 0x20) / 4)) 0).modSrv fun x => { x with hbc := x.hbc.set ((o - 0x20) / 4) false (by omega) }
  else if h : 0x100 ≤ o ∧ o < 0x900 then s.pdoRegWrite ten false ⟨(o - 0x100) / 0x80, by omega⟩ ((o - 0x100) % 0x80) a v
  else if h : 0x900 ≤ o ∧ o < 0x1100 then s.pdoRegWrite ten true ⟨(o - 0x900) / 0x80, by omega⟩ ((o - 0x900) % 0x80) a v
  else s.plainWrite ten a v 0

/-! ### Tag, lamps and I/O, store, copy engine (R385, R448, R516, R542) -/

/-- Block TAG. -/
def State.tagWrite (s : State) (ten a : Nat) (v : Word) : State :=
  if a = TAG_CTRL then s.writeTagCtrl v.toNat
  else if a = TAG_CLR then
    (let t := if bitOf v.toNat 1 then s.tagClrCnt else s
     if bitOf v.toNat 0 then t.tagClrRfw else t)
  else s.plainWrite ten a v 0

/-- A refused write of the lamps and I/O block. -/
def State.lioRef (s : State) : State := s.put LIO_STAT_CFGREF 1

/-- A SAFE-only write that concerns the axes `l` (R385). -/
def State.lioSafe (s : State) (ten a : Nat) (v : Word) (l : List Nat) (fits : Bool) : State :=
  if fits && l.all (fun x => s.allSafe (2 ^ x)) then s.plainWrite ten a v 0 else s.lioRef

/-- A lamp with EN clear has DARK clear and its counts at rest (R375); its reactions and line follow (R380, R381). -/
def State.lampSettle (s : State) (n : Fin 8) : State :=
  let t := if s.flag (LAMP_CFG_EN n) then s else (s.put (LAMP_STAT_DARK n) 0).modLamp n fun l => { l with low := 0, good := 0 }
  (t.inhibits).judgeLamps

/-- An input other than `i` already has the role and axis of an AIN_CFG value (R354). -/
def State.ainTwice (s : State) (i : Nat) (v : Word) : Bool :=
  fieldOf v 30 28 != 0 && (List.range 8).any fun j => j != i && s.get (AIN_CFG_ROLE j) == fieldOf v 30 28 && s.get (AIN_CFG_AXIS j) == fieldOf v 26 24

/-- Registers of lamp `n`. -/
def State.lampWrite (s : State) (ten : Nat) (n : Fin 8) (a : Nat) (v : Word) : State :=
  match a % 0x20 with
  | 0 => (s.lampLit (s.lioSafe ten a v [s.get (LAMP_CFG_AXIS n), fieldOf v 18 16]
      (fieldOf v 25 24 != 3 && within (fieldOf v 11 0) 50 1500)) n).lampSettle n
  | 4 => if 5 ≤ fieldOf v 28 26 then s.lioRef else s.lampLit (s.plainWrite ten a v 0) n
  | 8 => if 10 ≤ fieldOf v 15 8 ∧ 10 ≤ fieldOf v 7 0 then s.plainWrite ten a v 0 else s.lioRef
  | 0x18 =>
    let t := if bitOf v.toNat 0 then s.lampClrCnt n else s
    if bitOf v.toNat 1 then t.lampRetry n else t
  | _ => s.plainWrite ten a v 0

/-- Registers of the winch of axis `x`. -/
def State.winchWrite (s : State) (ten : Nat) (x : Fin 8) (o a : Nat) (v : Word) : State :=
  if o < 0x14 then s.psetWrite .tension x (o / 4) ten v
  else if o = 0x14 then s.psetCtlWrite .tension x ten v
  else if o = 0x1C then s.lioSafe ten a v [x] (fieldOf v 1 0 != 3)
  else if o = 0x18 ∨ o = 0x20 ∨ o = 0x24 then s.lioSafe ten a v [x] true
  else s.plainWrite ten a v 0

/-- Block LAMPIO (R385). -/
def State.lioWrite (s : State) (ten a : Nat) (v : Word) : State :=
  let o := a % 0x10000
  if h : o < 0x100 then s.lampWrite ten ⟨o / 0x20, by omega⟩ a v
  else if 0x100 ≤ o ∧ o < 0x180 then
    (let x := (o - 0x100) / 16
     match o % 16 with
     | 0 => (s.lioSafe ten a v [x] (fieldOf v 15 8 != 0)).brakes
     | 4 => s.lioSafe ten a v [x] (decide (2 ≤ fieldOf v 7 0))
     | _ => s.plainWrite ten a v 0)
  else if h : 0x200 ≤ o ∧ o < 0x400 then s.winchWrite ten ⟨(o - 0x200) / 0x40, by omega⟩ (o % 0x40) a v
  else if 0x400 ≤ o ∧ o < 0x480 ∧ o % 16 = 0 then
    s.lioSafe ten a v [s.get (AIN_CFG_AXIS ((o - 0x400) / 16)), fieldOf v 26 24]
      (decide (fieldOf v 30 28 ≤ 2) && (fieldOf v 30 28 != 1 || decide (fieldOf v 15 0 ≤ 2000)) && !s.ainTwice ((o - 0x400) / 16) v)
  else if 0x510 ≤ o ∧ o < 0x530 then
    (let k := (o - 0x510) / 8
     if o % 8 = 0 then s.lioSafe ten a v [s.get (ERL_CFG_AXIS k), fieldOf v 26 24] (fieldOf v 17 16 != 3)
     else s.lioSafe ten a v [s.get (ERL_CFG_AXIS k)] true)
  else if a = GPO_OUT then s.writeGpo v.toNat
  else if a = GPI_CFG then (if fieldOf v 7 0 = 0 then s.lioRef else s.plainWrite ten a v 0)
  else s.plainWrite ten a v 0

/-- Block STORE (R516). -/
def State.storeWrite (s : State) (ten a : Nat) (v : Word) : State :=
  if a = STORE_CMD then s.storeCmd ten (fieldOf v 3 0) else s.plainWrite ten a v 0

/-- A refused write of the copy engine. -/
def State.cpRef (s : State) : State := s.put CP_STAT_CFGREF 1

/-- ROLE follows EN of CP_CFG (R427, R448): an enabled unit with SW8 ON starts as STANDBY, a disabled one is UNPAIRED. -/
def State.cpEnable (s : State) (was : Bool) : State :=
  let on := s.flag CP_CFG_EN
  if on = was then s.pairJudge
  else ((if !on then s.put CP_STAT_ROLE 0 else if bitOf s.bg.snap 7 then s.put CP_STAT_ROLE 2 else s)).pairJudge

/-- A write of CP_CFG (R448). -/
def State.writeCpCfg (s : State) (ten a : Nat) (v : Word) : State :=
  let fits := within (fieldOf v 27 24) 2 15 && within (fieldOf v 12 8) 1 20 && decide (1 ≤ fieldOf v 7 0) &&
    decide (fieldOf v 7 0 + 2 ≤ fieldOf v 12 8 * s.trcNs / 10000)
  let was := s.flag CP_CFG_EN
  let role := s.get CP_STAT_ROLE
  let free := role == 0 || !was
  if free && fits then (s.plainWrite ten a v 0).cpEnable was
  else if was && role == 2 && !bitOf v.toNat 31 && !s.changes a v 0x0F3F1FFF then (s.plainWrite ten a v 0).cpEnable was
  else s.cpRef

/-- Block COPY (R435, R448). -/
def State.cpWrite (s : State) (ten a : Nat) (v : Word) : State :=
  let safe := fun (new : Nat) => s.allSafe (s.pairedAxes ||| new)
  if a = CP_CFG then s.writeCpCfg ten a v
  else if a = CP_AX then (if safe (fieldOf v 7 0) then (s.plainWrite ten a v 0).pairJudge else s.cpRef)
  else if a = CP_TO then
    (if safe 0 && fieldOf v 23 16 != 0 && fieldOf v 15 8 != 0 && within (fieldOf v 4 0) 5 20 then s.plainWrite ten a v 0 else s.cpRef)
  else if a = CP_USRBASE then (s.plainWrite ten a v 0).modCp fun x => { x with usrBy := ten }
  else if a = CP_USRLEN then (if fieldOf v 10 0 % 4 = 0 ∧ fieldOf v 10 0 ≤ 1024 then s.plainWrite ten a v 0 else s.cpRef)
  else if a = CP_SIG then
    (if s.get CP_STAT_ROLE = 0 ∨ ¬ s.flag CP_CFG_EN then (s.plainWrite ten a v 0).pairJudge else s.cpRef)
  else if a = CP_CTRL then s.writeCpCtrl v.toNat
  else s.plainWrite ten a v 0

/-! ### 64-bit registers (R11) -/

/-- A write of a low word: pending on the port. -/
def State.low64Write (s : State) (port a : Nat) (v : Word) : State :=
  (s.setPend64 (sparseIns (portKey port a) v (sparseDrop (portKey port a) s.pend64)))

/-- The pending low word of a port, else the word the register holds. -/
def State.lowPending (s : State) (port a : Nat) : Word :=
  match s.pend64.find? fun e => e.1 == portKey port a with
  | some e => e.2
  | none => s.reg a

/-- A write of the high word of the register at `a` (low word) takes effect with its low word: RING_ROUTE, and RING_BRT in OFF only (R421). -/
def State.high64Write (s : State) (port a : Nat) (v : Word) : State :=
  let t := (s.setPend64 (sparseDrop (portKey port a) s.pend64))
  if a = RING_ROUTE 0 ∨ (a = RING_BRT 0 ∧ s.ring.st = .off) then (t.setReg a (s.lowPending port a)).setReg (a + 4) v
  else if a = RING_BRT 0 then t.ringRef
  else t

/-! ### The bus -/

/-- A write that reaches the register at `a`, by tenant `ten` through `port` (R6, R7, R25, R32). -/
def State.blockWrite (s : State) (ten port a : Nat) (v : Word) : State :=
  let o := a % 0x10000
  match a / 0x10000 with
  | 0x4000 => s.sysWrite ten a v
  | 0x4001 => s.safeWrite ten a v
  | 0x4003 => s.evtWrite ten a v
  | 0x4004 =>
    if h : o < 0x800 then
      let c : Fin 32 := ⟨o / 0x40, by omega⟩
      if 0x34 ≤ o % 0x40 then s else if o % 0x40 = 0 ∨ s.dmaMay ten c then s.dmaWrite ten c a v else s.dmaForeign c
    else s
  | 0x4010 => if h : o < 0x6000 then s.portWrite ten ⟨o / 0x1000, by omega⟩ a v else s
  | 0x4011 => if h : o < 0x8000 then s.axisWrite ten ⟨o / 0x1000, by omega⟩ a v else s
  | 0x4012 => s.modWrite ten a v
  | 0x4013 => s.fbWrite ten a v
  | 0x4014 => if isLow64 a then s.low64Write port a v else if isHigh64 a then s.high64Write port (a - 4) v else s.ringWrite ten a v
  | 0x4015 => if h : o < 0x200 then s.canWrite ten ⟨o / 0x100, by omega⟩ a v else s
  | 0x4016 => s.pdoWrite ten a v
  | 0x4017 => s.tagWrite ten a v
  | 0x4018 => s.lioWrite ten a v
  | 0x4019 => s.storeWrite ten a v
  | 0x401A => s.cpWrite ten a v
  | _ => s

/-- A register write (R6 to R8, R25, R142): after BOOT_DONE one that reaches an RWB field is counted once (R7). -/
def State.regWrite (s : State) (ten port a : Nat) (v : Word) : State :=
  if s.absentReg a then s
  else if a / 0x10000 = 0x4002 then s.twuWrite ten port a v
  else if s.bootDone && hasRwb a then (s.protCount ten a).blockWrite ten port a v
  else s.blockWrite ten port a v

end Sys2Proof.Machine
end

