-- ==== Sys2Proof/Machine/Od.lean ====
section
/-! DEFINITION. The object dictionary (17_object_dictionary.md): its entries with type, access and source, their mode and seal gates,
their ranges, reads and writes (R505 to R509, R513). -/

namespace Sys2Proof.Machine

/-- Access of an entry (CiA 301). -/
inductive OdAcc | ro | rw | wo | const
  deriving DecidableEq, Repr

/-- Where the value of an entry is found: computed by the server, text, a field of a register (address, lowest bit, bits), or registers
in order. -/
inductive OdSrc
  | num (v : Nat)
  | text (b : List Byte)
  | fld (a sh n : Nat)
  | words (l : List Nat)
  deriving DecidableEq, Repr

/-- An entry: size of its type in bytes (0 for a string or a domain), access, source. -/
structure OdEnt where
  size : Nat
  acc : OdAcc
  src : OdSrc
  deriving DecidableEq, Repr

/-- The bus port of the server: the core of tenant 2 (R142, R482). -/
def State.srvPort (s : State) : Nat := s.get (TEN_CORE_CORE 2)

/-- The word of a register as the server reads it. -/
def State.srvLook (s : State) (a : Nat) : Nat := (s.look 2 s.srvPort a).toNat

/-- A field as the server reads it. -/
def State.srvField (s : State) (a sh n : Nat) : Nat := s.srvLook a / 2 ^ sh % 2 ^ n

def odRo (n : Nat) (x : OdSrc) : Option OdEnt := some ⟨n, .ro, x⟩
def odRw (n : Nat) (x : OdSrc) : Option OdEnt := some ⟨n, .rw, x⟩
def odWo (n : Nat) : Option OdEnt := some ⟨n, .wo, .num 0⟩
def odConst (n v : Nat) : Option OdEnt := some ⟨n, .const, .num v⟩
/-- A whole register. -/
def odReg (a : Nat) : OdSrc := .fld a 0 32

/-- The bytes of a text of ASCII characters. -/
def asciiBytes (t : String) : List Byte := t.toList.map fun c => BitVec.ofNat 8 c.toNat

/-- A hexadecimal digit. -/
def hexDigit (n : Nat) : Byte := BitVec.ofNat 8 (if n < 10 then 48 + n else 55 + n)

/-- Running image version, as the header has it. -/
def State.runVersion (s : State) : Nat := s.imgField s.runBank 8 4

/-- Object 0x100A: the manual does not say how the running image is written (a free value of the image version, log entry 4). -/
def State.swText (s : State) : List Byte :=
  (List.range (1 + Config.freeValue 62 s.runVersion % 32)).map fun i => BitVec.ofNat 8 (Config.freeValue 63 (s.runVersion * 32 + i))

/-! ### Entries -/

/-- Objects 0x1000 to 0x1FFF but for the PDO objects. -/
def State.odBase (s : State) (idx sub : Nat) : Option OdEnt :=
  match idx, sub with
  | 0x1000, 0 => odConst 4 (s.member.pick 1 3 5 9 * 2 ^ 24 + 0x20192)
  | 0x1001, 0 => odRo 1 (.num s.errReg)
  | 0x1003, 0 => odRw 1 (.num s.srv.hist.length)
  | 0x1003, k => if k ≤ 16 then odRo 4 (.num (s.srv.hist.getD (k - 1) 0)) else none
  | 0x1005, 0 => odRw 4 (.fld PDO_SYNC 0 11)
  | 0x1008, 0 => some ⟨0, .const, .text (asciiBytes "Torvar HX9 DCU")⟩
  | 0x1009, 0 => some ⟨0, .const, .text (asciiBytes "Haldux D" ++ [hexDigit (Config.dieRev.toNat / 16), hexDigit (Config.dieRev.toNat % 16)])⟩
  | 0x100A, 0 => odRo 0 (.text s.swText)
  | 0x1010, k => if k = 0 then odRo 1 (.num 3) else if k ≤ 3 then odRw 4 (.num 1) else none
  | 0x1011, k => if k = 0 then odRo 1 (.num 3) else if k ≤ 3 then odRw 4 (.num 1) else none
  | 0x1014, 0 => odRw 4 (.num s.emcyCob)
  | 0x1015, 0 => odRw 2 (.num (s.obj 0x1015 0))
  | 0x1016, k => if k = 0 then odRo 1 (.num 4) else if k ≤ 4 then odRw 4 (.fld (PDO_HBC (k - 1)) 0 23) else none
  | 0x1017, 0 => odRw 2 (.fld PDO_HB 0 16)
  | 0x1018, 0 => odRo 1 (.num 4)
  | 0x1018, 1 => odRo 4 (.num 0x0047D100)
  | 0x1018, 2 => odRo 4 (.num (s.member.pick 1 3 5 9))
  -- the image revision is not defined further: a free value of the version (log entry 4)
  | 0x1018, 3 => odRo 4 (.num (Config.dieRev.toNat * 65536 + Config.freeValue 65 s.runVersion % 65536))
  | 0x1018, 4 => odRo 4 (.num s.sys.serial)
  | 0x1200, 0 => odRo 1 (.num 2)
  | 0x1200, 1 => odRo 4 (.num (0x600 + s.nodeId))
  | 0x1200, 2 => odRo 4 (.num (0x580 + s.nodeId))
  | 0x1F80, 0 => odRw 4 (.num (s.obj 0x1F80 0))
  | _, _ => none

/-- Objects 0x1000 to 0x1FFF. -/
def State.odComm (s : State) (idx sub : Nat) : Option OdEnt :=
  match pdoComm idx with
  | some (tx, n) =>
    let ctl := pdoBase tx n + 4
    match sub with
    | 0 => odRo 1 (.num 5)
    | 1 => odRw 4 (.num (b2n (s.flag (pdoInvalid tx n)) * 2 ^ 31 + s.get (pdoId tx n)))
    | 2 => odRw 1 (.fld ctl 16 8)
    | 3 => if tx then odRw 2 (.fld ctl 26 6) else none
    | 5 => odRw 2 (.fld ctl 0 16)
    | _ => none
  | none =>
    match pdoMapping idx with
    | some _ => if sub = 0 then odRw 1 (.num (s.obj idx 0)) else if sub ≤ 16 then odRw 4 (.num (s.obj idx sub)) else none
    | none => s.odBase idx sub

/-- Objects 0x2000 to 0x21FF: supervisor and seal. -/
def odSafe (idx sub : Nat) : Option OdEnt :=
  match idx, sub with
  | 0x2000, 0 => odRo 1 (.num 4)
  | 0x2000, 1 => odRo 4 (odReg BG_STATUS)
  | 0x2000, 2 => odRo 4 (odReg BG_INPUTS)
  | 0x2000, 3 => odRo 4 (odReg BG_SCS_STAT)
  | 0x2000, 4 => odRo 4 (odReg BG_VER)
  | 0x2001, 0 => odRo 1 (.num 3)
  | 0x2001, 1 => odRo 1 (.fld BG_CAUSE 0 8)
  | 0x2001, 2 => odRo 1 (.fld BG_CAUSE 8 3)
  | 0x2001, 3 => odRo 2 (.fld BG_CAUSE 16 16)
  | 0x2002, 0 => odRo 4 (odReg BG_CAUSEMAP)
  | 0x2003, 0 => odWo 4
  | 0x2004, k => if k = 0 then odRo 1 (.num 16) else if k ≤ 16 then odRw 4 (odReg (BG_SCS_STAGE (k - 1))) else none
  | 0x2005, 0 => odWo 1
  | 0x2100, 0 => odRo 1 (.num 2)
  | 0x2100, 1 => odRo 1 (.fld BG_SEAL 0 8)
  | 0x2100, 2 => odRo 1 (.fld BG_SEAL 8 8)
  | _, _ => none

/-- Objects 0x2200 to 0x2237: ports and satellites. The satellite objects are mirrors of drive firmware, at their defaults (log entry 33). -/
def odSat (idx sub : Nat) : Option OdEnt :=
  if idx < 0x2206 then
    let p := idx - 0x2200
    match sub with
    | 0 => odRo 1 (.num 5)
    | 1 => odRo 4 (odReg (SP_STAT p))
    | 2 => odRo 4 (odReg (SP_CNT p))
    | 3 => odRo 4 (odReg (SP_CNT2 p))
    | 4 => odRo 4 (odReg (SP_UNDER p))
    | 5 => odRo 4 (odReg (SP_ERR p))
    | _ => none
  else if idx < 0x2208 then none
  else if sub = 0 then odRo 1 (.num 15)
  else if sub = 13 then odRo 4 (.num 0)
  else if sub = 15 then odRo 2 (.num 65535)
  else if sub ≤ 15 then odRo 2 (.num 0) else none

/-- Objects 0x2400 to 0x2405: feedback. -/
def odFb (idx sub : Nat) : Option OdEnt :=
  let arr := fun (top : Nat) (f : Nat → Nat) => if sub = 0 then odRo 1 (.num top) else if sub ≤ top then odRo 4 (odReg (f sub)) else none
  match idx with
  | 0x2400 => arr 2 fun k => if k = 1 then FB_LOSS else FB_STAT
  | 0x2401 => arr 24 fun k => if k ≤ 8 then INC_CNT (k - 1) else if k ≤ 16 then INC_SPD (k - 9) else INC_STAT (k - 17)
  | 0x2402 => arr 16 fun k => if k ≤ 8 then HALL_CNT (k - 1) else HALL_STAT (k - 9)
  | 0x2403 => arr 8 fun k => if k ≤ 4 then SSI_POS (k - 1) else SSI_STAT (k - 5)
  | 0x2404 =>
    if sub = 0 then odRo 1 (.num 8)
    else if sub ≤ 8 then odRo 16 (.words [INC_IDXCNT (sub - 1), INC_IDXDEV (sub - 1), INC_IDXSTAT (sub - 1), INC_CORRSUM (sub - 1)]) else none
  | 0x2405 => arr 6 fun k => if k ≤ 2 then FB_TAP (k - 1) else if k ≤ 4 then FB_TAPF (k - 3) else BG_SLS_F (k - 5)
  | _ => none

/-- Objects 0x2600 to 0x260A: lamps and I/O. -/
def State.odIo (s : State) (idx sub : Nat) : Option OdEnt :=
  if idx < 0x2608 then
    let n := idx - 0x2600
    match sub with
    | 0 => odRo 1 (.num 5)
    | 1 => odRw 4 (odReg (LAMP_CFG n))
    | 2 => odRw 4 (odReg (LAMP_MODE n))
    | 3 => odRo 4 (odReg (LAMP_STAT n))
    | 4 => odRo 4 (odReg (LAMP_I n))
    | 5 => odRo 4 (odReg (LAMP_CNT n))
    | _ => none
  else
    match idx, sub with
    | 0x2608, k =>
      if k = 0 then odRo 1 (.num 16)
      else if k ≤ 8 then odRw 4 (odReg (AIN_CFG (k - 1)))
      else if k ≤ 16 then odRo 4 (.num ((s.reg (AIN_STAT (k - 9))).toNat / 2 ^ 30 * 2 ^ 30 + s.get (AIN_VAL_UA (k - 9)))) else none
    | 0x2609, k =>
      if k = 0 then odRo 1 (.num 9)
      else if k = 1 then odRo 4 (odReg EMG_LVL)
      else if k ≤ 5 then odRw 4 (odReg (ERL_CFG (k - 2)))
      else if k ≤ 9 then odRw 4 (odReg (ERL_GOV (k - 6))) else none
    | 0x260A, 0 => odRo 1 (.num 4)
    | 0x260A, 1 => odRo 4 (odReg GPI_LVL)
    | 0x260A, 2 => odRw 4 (odReg GPI_CFG)
    | 0x260A, 3 => odRw 4 (odReg GPO_OUT)
    | 0x260A, 4 => odRo 4 (odReg GPO_STAT)
    | _, _ => none

/-- Objects 0x2610 to 0x2627: brakes and winch. -/
def odWinch (idx sub : Nat) : Option OdEnt :=
  let a := idx % 8
  if idx < 0x2618 then
    match sub with
    | 0 => odRo 1 (.num 3)
    | 1 => odRw 4 (odReg (BRK_CFG a))
    | 2 => odRw 4 (odReg (BRK_CFG2 a))
    | 3 => odRo 4 (odReg (BRK_STAT a))
    | _ => none
  else if idx < 0x2620 then
    match sub with
    | 0 => odRo 1 (.num 10)
    | 6 => odWo 1
    | 7 => odRw 4 (odReg (TN_CFG a))
    | 8 => odRw 4 (odReg (WN_SLACK a))
    | 9 => odRw 4 (odReg (WN_DRUM a))
    | 10 => odRw 4 (odReg (WN_GEAR a))
    | k => if k ≤ 5 then odRw 4 (odReg (TN_WORD a (k - 1))) else none
  else
    match sub with
    | 0 => odRo 1 (.num 3)
    | 1 => odRo 4 (odReg (WN_STAT a))
    | 2 => odRo 4 (odReg (TN_MEAS a))
    | 3 => odRo 4 (odReg (WN_FAULT a))
    | _ => none

/-- Objects 0x2800 to 0x2813: ring and sharing. -/
def odRing (idx sub : Nat) : Option OdEnt :=
  match idx, sub with
  | 0x2800, 0 => odRo 1 (.num 6)
  | 0x2800, 1 => odRo 4 (odReg RING_STAT)
  | 0x2800, 2 => odRo 4 (odReg RING_CNT)
  | 0x2800, 3 => odRo 4 (odReg RING_CNT2)
  | 0x2800, 4 => odRo 4 (odReg RING_CNT3)
  | 0x2800, 5 => odRo 4 (odReg RING_DLY)
  | 0x2800, 6 => odRo 4 (odReg RING_TERR)
  | 0x2801, 0 => odRo 1 (.num 5)
  | 0x2801, 1 => odRw 4 (odReg RING_CFG)
  | 0x2801, 2 => odRw 4 (odReg (RING_ROUTE 0))
  | 0x2801, 3 => odRw 4 (odReg (RING_ROUTE 1))
  | 0x2801, 4 => odRw 4 (odReg (RING_BRT 0))
  | 0x2801, 5 => odRw 4 (odReg (RING_BRT 1))
  | 0x2810, k => if k = 0 then odRo 1 (.num 16) else if k ≤ 16 then
      odRo 16 (.words [GRP_STAT (k - 1), GRP_G (k - 1), GRP_MEMB (k - 1), GRP_CNT (k - 1)]) else none
  | 0x2811, k => if k = 0 then odRo 1 (.num 16) else if k ≤ 16 then odRw 4 (odReg (GRP_DEM (k - 1))) else none
  | 0x2812, k => if k = 0 then odRo 1 (.num 16) else if k ≤ 16 then
      odRw 12 (.words [GRP_CFG (k - 1), GRP_CFG2 (k - 1), GRP_DROOP (k - 1)]) else none
  | 0x2813, k => if k = 0 then odRo 1 (.num 8) else if k ≤ 8 then odRw 4 (odReg (RG_AX (k - 1))) else none
  | _, _ => none

/-- Objects 0x2A00 to 0x2A05: duty and standby. -/
def odCp (idx sub : Nat) : Option OdEnt :=
  match idx, sub with
  | 0x2A00, 0 => odRo 1 (.num 3)
  | 0x2A00, 1 => odRo 4 (odReg CP_STAT)
  | 0x2A00, 2 => odRo 4 (odReg CP_EPOCH)
  | 0x2A00, 3 => odRo 4 (odReg CP_AGE)
  | 0x2A01, 0 => odRo 1 (.num 4)
  | 0x2A01, 1 => odRw 4 (odReg CP_CFG)
  | 0x2A01, 2 => odRw 4 (odReg CP_AX)
  | 0x2A01, 3 => odRw 4 (odReg CP_TO)
  | 0x2A01, 4 => odRw 4 (odReg CP_SIG)
  | 0x2A02, 0 => odRo 1 (.num 2)
  | 0x2A02, 1 => odRo 4 (odReg CP_CNT)
  | 0x2A02, 2 => odRo 4 (odReg CP_CNT2)
  | 0x2A03, 0 => odRo 1 (.num 2)
  | 0x2A03, 1 => odRo 4 (odReg CP_PSIG)
  | 0x2A03, 2 => odRo 4 (odReg CP_PSEAL)
  | 0x2A04, 0 => odRo 1 (.num 13)
  | 0x2A04, 1 => odRo 4 (odReg CP_TAKE)
  | 0x2A04, 2 => odRo 1 (.fld CP_TAKE2 31 1)
  | 0x2A04, 3 => odRo 1 (.fld CP_TAKE2 30 1)
  | 0x2A04, 4 => odRo 1 (.fld CP_TAKE2 24 4)
  | 0x2A04, 5 => odRo 4 (.fld CP_TAKE2 0 24)
  | 0x2A04, k => if k ≤ 13 then odRo 4 (odReg (CP_GAP (k - 6))) else none
  | 0x2A05, 0 => odWo 4
  | _, _ => none

/-- Result of 0x2C04 sub-index 1 (R539). -/
def State.migResult (s : State) : Nat :=
  let b := s.highBank
  if s.marker b 6 && s.bankWord b 7 % 4 == 2 then 2 else if s.marker b 5 && s.storeMig != 0 then 1 else 0

/-- Mirrors of the cabinet registers keep their defaults, the registers' reset values (log entry 33). -/
def odMirror (a : Nat) : Option OdEnt := odRo 4 (.num (resetWord a).toNat)

/-- Objects 0x2C00 to 0x2C19: store, system, cabinet. -/
def State.odSys (s : State) (idx sub : Nat) : Option OdEnt :=
  match idx, sub with
  | 0x2C00, 0 => odRo 1 (.num 3)
  | 0x2C00, 1 => odRo 4 (odReg STORE_STAT)
  | 0x2C00, 2 => odRo 4 (odReg STORE_COMMITS)
  | 0x2C00, 3 => odRo 1 (.fld STORE_WEAR 24 8)
  | 0x2C01, 0 => odRo 1 (.num 3)
  | 0x2C01, 1 => odRo 1 (.fld BANK_STAT 16 1)
  | 0x2C01, 2 => odRo 4 (odReg BANK_VER_A)
  | 0x2C01, 3 => odRo 4 (odReg BANK_VER_B)
  | 0x2C02, 0 => odWo 0
  | 0x2C03, 0 => odRo 1 (.num 4)
  | 0x2C03, 1 => odRo 1 (.fld BANK_STAT 17 3)
  | 0x2C03, 2 => odRo 4 (.num s.runVersion)
  | 0x2C03, 3 => odRo 4 (odReg STORE_VERREF)
  | 0x2C03, 4 => odRo 1 (.num (b2n (s.marker 0 6) + 2 * b2n (s.marker 1 6)))
  | 0x2C04, 0 => odRo 1 (.num 3)
  | 0x2C04, 1 => odRo 1 (.num s.migResult)
  | 0x2C04, 2 => odRo 2 (.fld STORE_MIG 0 16)
  | 0x2C04, 3 => odRo 2 (.fld STORE_MIG 16 16)
  | 0x2C10, 0 => odRo 4 (odReg RST_CAUSE)
  | 0x2C11, 0 => odRo 4 (odReg RST_HIST)
  | 0x2C12, 0 => odRo 1 (.num 2)
  | 0x2C12, 1 => odRo 4 (odReg ROLE_STAT)
  | 0x2C12, 2 => odRo 4 (odReg NODE)
  | 0x2C13, 0 => odRo 4 (odReg OPT_STAT)
  | 0x2C14, 0 => odRo 1 (.num 2)
  | 0x2C14, 1 => odRo 4 (odReg TWU_KILL)
  | 0x2C14, 2 => odRo 4 (odReg TWU_TSTATE)
  | 0x2C15, 0 => odRo 1 (.num 2)
  | 0x2C15, 1 => odRo 4 (odReg MEMERR_CNT)
  | 0x2C15, 2 => odRo 4 (odReg MEMERR_STAT)
  | 0x2C16, 0 => odRo 1 (.num 3)
  | 0x2C16, 1 => odRo 4 (odReg ABND_CNT)
  | 0x2C16, 2 => odRo 4 (odReg FW_LOST)
  | 0x2C16, 3 => odRo 4 (odReg RST_CNT)
  | 0x2C18, 0 => odRo 1 (.num 6)
  | 0x2C18, 1 => odMirror BEAR_FEED
  | 0x2C18, 2 => odMirror BEAR_FEEDCNT
  | 0x2C18, 3 => odMirror BEAR_STAT
  | 0x2C18, 4 => odMirror BEAR_LAMPS
  | 0x2C18, 5 => odMirror BEAR_TWIN
  | 0x2C18, 6 => odRo 2 (.num 65535)
  | 0x2C19, 0 => odWo 1
  | _, _ => none

/-- Objects 0x2C20 to 0x2E02: network and tag. -/
def State.odNet (s : State) (idx sub : Nat) : Option OdEnt :=
  match idx, sub with
  | 0x2C20, k => if k = 0 then odRo 1 (.num 2) else if k ≤ 2 then odRw 1 (.num (s.obj 0x2C20 k)) else none
  | 0x2C21, k => if k = 0 then odRo 1 (.num 2) else if k ≤ 2 then
      odRo 16 (.words [CAN_STAT (k - 1), CAN_CNT (k - 1), CAN_CNT2 (k - 1), CAN_CNT3 (k - 1)]) else none
  | 0x2C22, k => if k = 0 then odRo 1 (.num 32) else if k ≤ 16 then odRw 1 (.fld (pdoBase false (k - 1) + 4) 24 2)
    else if k ≤ 32 then odRw 1 (.fld (pdoBase true (k - 17) + 4) 24 2) else none
  | 0x2E00, 0 => odRo 1 (.num 2)
  | 0x2E00, 1 => odRo 4 (odReg TAG_STAT)
  | 0x2E00, 2 => odRo 2 (.fld TAG_CNT 16 16)
  | 0x2E01, 0 => odRo 0 (.text [])
  | 0x2E02, 0 => odRw 0 (.text [])
  | _, _ => none

/-- Register of 0x6071 by the route in force (R318); a route without one reads 0. -/
def State.tqTarget (s : State) (a : Fin 8) : OdSrc :=
  match s.routeOf a with
  | 0 => .fld (ENG_TREF_TQ a) 0 16
  | 1 => .fld (ENG_PREF_TQ a) 0 16
  | 2 => .fld (ENG_RREF_TQ a) 0 16
  | _ => .num 0

/-- Register of 0x60FF by the route in force (R318): a route of torque alone leaves the tenant's (DEDUCED, log entry 34). -/
def State.spdTarget (s : State) (a : Fin 8) : OdSrc :=
  if s.routeOf a = 1 then .fld (ENG_PREF_SPD a) 0 32 else .fld (ENG_TREF_SPD a) 0 32

/-- Object 0x6078: i_q in per mille of IRATED (R318); rounding, a rated current of 0 and a result beyond 16 bits are free values. -/
def State.iqPermille (s : State) (a : Fin 8) : Int :=
  let r := roundDiv 63 (s.sget (ENG_IDQ_IQ a) * 10000) (s.get ⟨ENG_MOT a, 15, 0⟩)
  if -32768 ≤ r ∧ r ≤ 32767 then r else Config.freeInt 64 s.freeCtr

/-- CiA 402 objects of an axis (R15, R318, R502). -/
def State.odCia (s : State) (a : Fin 8) (o : Nat) : Option OdEnt :=
  match o with
  | 0x6007 => odRw 2 (.num (s.obj (0x6007 + 0x800 * a.1) 0))
  | 0x603F => odRo 2 (.fld (AX_ERR a) 0 16)
  | 0x6040 => odRw 2 (.fld (AX_CW a) 0 16)
  | 0x6041 => odRo 2 (.fld (AX_SW a) 0 16)
  | 0x605A => odRw 2 (.fld (AX_OPT a) 0 4)
  | 0x605B => odRw 2 (.fld (AX_OPT a) 4 1)
  | 0x605C => odRw 2 (.fld (AX_OPT a) 5 1)
  | 0x605D => odRw 2 (.fld (AX_OPT a) 6 2)
  | 0x605E => odConst 2 0
  | 0x6060 => odRw 1 (.fld (AX_MODESEL a) 0 8)
  | 0x6061 => odRo 1 (.fld (AX_MODEDISP a) 0 8)
  | 0x606C => odRo 4 (.num (toCode 32 (roundDiv 62 (s.sget (ENG_SPD_V a)) 65536)))
  | 0x6071 => odRw 2 (s.tqTarget a)
  | 0x6072 => odRw 2 (.num s.eng[a].maxTorque)
  | 0x6074 => odRo 2 (.fld (ENG_TDEM a) 16 16)
  | 0x6075 => odRw 4 (.num (s.get ⟨ENG_MOT a, 15, 0⟩ * 100))
  | 0x6077 => odRo 2 (.fld (ENG_TDEM a) 0 16)
  | 0x6078 => odRo 2 (.num (toCode 16 (s.iqPermille a)))
  | 0x6079 => odRo 4 (.num (s.srvField (ENG_UDC a) 0 16 * 1000))
  | 0x6080 => odRw 4 (.num s.eng[a].maxSpeed)
  | 0x6083 => odRw 4 (odReg (AX_PACC a))
  | 0x6084 => odRw 4 (odReg (AX_PDEC a))
  | 0x6085 => odRw 4 (odReg (AX_QSDEC a))
  | 0x6087 => odRw 4 (odReg (AX_TSLOPE a))
  | 0x60FF => odRw 4 (s.spdTarget a)
  | 0x6502 => odConst 4 0x0007030C
  | _ => none

/-- Axis and CiA 402 index of an object of 0x6000 to 0x9FFF (R15). -/
def ciaAxis (idx : Nat) : Option (Fin 8 × Nat) :=
  if h : 0x6000 ≤ idx ∧ idx < 0xA000 then some (⟨(idx - 0x6000) / 0x800, by omega⟩, 0x6000 + (idx - 0x6000) % 0x800) else none

/-- The entry at an index and sub-index; none where the dictionary holds none (R505). -/
def State.odEnt (s : State) (idx sub : Nat) : Option OdEnt :=
  match ciaAxis idx with
  | some (a, o) => if sub = 0 then s.odCia a o else none
  | none =>
    if idx < 0x1000 then none
    else if idx < 0x2000 then s.odComm idx sub
    else if idx < 0x2200 then odSafe idx sub
    else if idx < 0x2238 then odSat idx sub
    else if idx < 0x2600 then odFb idx sub
    else if idx < 0x260B then s.odIo idx sub
    else if 0x2610 ≤ idx ∧ idx < 0x2628 then odWinch idx sub
    else if 0x2800 ≤ idx ∧ idx < 0x2814 then odRing idx sub
    else if idx < 0x2C00 then odCp idx sub
    else if idx < 0x2C20 then s.odSys idx sub
    else s.odNet idx sub

/-- The index is listed: every listed one has sub-index 0 (R505). -/
def State.odListed (s : State) (idx : Nat) : Bool := (s.odEnt idx 0).isSome

/-- An entry belongs to a resource the member lacks (R27). -/
def State.odAbsent (s : State) (idx sub : Nat) (e : OdEnt) : Bool :=
  (match ciaAxis idx with | some (a, _) => decide (s.nAxes ≤ a.1) | none => false) ||
  (decide (0x2208 ≤ idx ∧ idx < 0x2238) && decide (s.nPorts ≤ (idx - 0x2208) / 8)) ||
  (decide (0x2200 ≤ idx ∧ idx < 0x2206) && decide (s.nPorts ≤ idx - 0x2200)) ||
  (decide (0x2600 ≤ idx ∧ idx < 0x2608) && decide (s.nLamps ≤ idx - 0x2600)) ||
  (decide (0x2610 ≤ idx ∧ idx < 0x2628) && decide (s.nAxes ≤ idx % 8)) ||
  (idx == 0x2C20 && sub != 0 && decide (s.nCan < sub)) ||
  (match e.src with
    | .fld a _ _ => s.absentReg a
    | .words l => l.any s.absentReg
    | _ => false)

/-! ### Gates and ranges (R13, R14, R488 checks 4 to 6) -/

/-- The mode gate of an entry for a write of `v` (R13). A gate that names the axis of a configuration is judged before and after the
write. -/
def State.odGate (s : State) (idx sub v : Nat) : Bool :=
  let both := fun (old new : Nat) => s.allSafe (2 ^ old ||| 2 ^ new)
  match ciaAxis idx with
  | some (a, o) => if o = 0x6007 ∨ o = 0x6075 ∨ o = 0x6080 then s.isSafe a else true
  | none =>
    if 0x2600 ≤ idx ∧ idx < 0x2608 then sub != 1 || both (s.get (LAMP_CFG_AXIS (idx - 0x2600))) (bitsOf v 18 16)
    else if idx = 0x2608 then both (s.get (AIN_CFG_AXIS (sub - 1))) (bitsOf v 26 24)
    else if idx = 0x2609 then
      (if sub ≤ 5 then both (s.get (ERL_CFG_AXIS (sub - 2))) (bitsOf v 26 24) else s.allSafe (2 ^ s.get (ERL_CFG_AXIS (sub - 6))))
    else if 0x2610 ≤ idx ∧ idx < 0x2618 then s.allSafe (2 ^ (idx % 8))
    else if 0x2618 ≤ idx ∧ idx < 0x2620 then decide (sub ≤ 6) || s.allSafe (2 ^ (idx % 8))
    else if idx = 0x2812 then (if h : 1 ≤ sub ∧ sub ≤ 16 then s.grpIdle ⟨sub - 1, by omega⟩ else true)
    else if idx = 0x2813 then s.allSafe (2 ^ (sub - 1))
    else if idx = 0x2A01 ∨ idx = 0x2C02 ∨ idx = 0x2C20 then s.allSafe 255
    else true

/-- The seal gate of an entry: the switch that must be ON in the snapshot (R14). -/
def State.odSeal (s : State) (idx : Nat) : Bool :=
  if idx = 0x2003 then bitOf s.bg.snap 3
  else if idx = 0x2A01 ∨ idx = 0x2A05 then bitOf s.bg.snap 7
  else true

/-- Ranges of the CiA 402 entries. -/
def State.odFitsCia (s : State) (a : Fin 8) (o v : Nat) : Bool :=
  match o with
  | 0x6007 => decide (v ≤ 3)
  | 0x605A => v == 1 || v == 2 || v == 5 || v == 6
  | 0x605B => decide (v ≤ 1)
  | 0x605C => decide (v ≤ 1)
  | 0x605D => v == 1 || v == 2
  | 0x6060 => modeValid (sgn 8 v) || sgn 8 v == -2
  | 0x6071 => v != 0x8000
  | 0x6072 => decide (v ≤ 3000)
  | 0x6075 => decide (v ≤ 6553500)
  | 0x6080 => within v 1 20000
  | 0x60FF => decide ((sgn 32 v).natAbs ≤ s.eng[a].maxSpeed)
  | _ => true

/-- The range of an entry. -/
def State.odFits (s : State) (idx sub v : Nat) : Bool :=
  match ciaAxis idx with
  | some (a, o) => s.odFitsCia a o v
  | none =>
    match pdoComm idx with
    | some (_, _) => if sub = 1 then v % 2 ^ 31 / 2 ^ 11 == 0 else if sub = 2 then !within v 241 253 else if sub = 3 then decide (v ≤ 63) else true
    | none =>
      if (pdoMapping idx).isSome then sub != 0 || decide (v ≤ 16)
      else match idx with
        | 0x1003 => v == 0
        | 0x1005 => decide (v < 2048)
        | 0x1014 => within v 1 0x7FF
        | 0x1016 => decide (v < 2 ^ 23)
        | 0x1F80 => v == 0 || v == 4
        | 0x2003 => v == 0xA55A
        | 0x2005 => v == 1 || v == 2
        | 0x2A05 => v == 0x4856
        | 0x2C19 => v == 1 || v == 2
        | 0x2C22 => within v 1 3
        | _ => if 0x2618 ≤ idx ∧ idx < 0x2620 ∧ sub = 6 then v == 1 || v == 2 else true

/-! ### Reads (R506) -/

/-- A register as the server reads it, with the effects of the read. -/
def State.srvRead (s : State) (a : Nat) : Nat × State :=
  if isHigh64 a then
    let r := (s.regRead 2 s.srvPort (a - 4)).2.regRead 2 s.srvPort a
    (r.1.toNat, r.2)
  else let r := s.regRead 2 s.srvPort a; (r.1.toNat, r.2)

/-- A wired access of the server: a held one ends between inventory slots, TAG_BUSY fails (R545, R549). -/
def State.srvTag (s : State) (k : Nat) (w : Option Word) : Nat × State :=
  let t := s.tagAccess k w
  if t.get TAG_STAT_RESULT = 2 then
    (match t.tag.wired with
     | some (j, x) => (0, (t.modTag fun y => { y with wired := none }).tagDo j x)
     | none => (0, t))
  else (t.get TAG_STAT_RESULT, t)

/-- Read `n` blocks of the tag from block `k` on; none when TAG_BUSY ends the transfer. -/
def srvTagRead : Nat → Nat → State → Option (List Byte) × State
  | 0, _, s => (some [], s)
  | n + 1, k, s =>
    let r := s.srvTag k none
    if r.1 ≠ 0 then (none, r.2)
    else
      let q := srvTagRead n (k + 1) r.2
      (q.1.map fun l => leBytes 4 (r.2.reg TAG_DATA).toNat ++ l, q.2)

/-- The value of an entry, as bytes; none where the tag is busy. -/
def State.odRead (s : State) (idx : Nat) (e : OdEnt) : Option (List Byte) × State :=
  if idx = 0x2E01 then srvTagRead 1024 0 s
  else if idx = 0x2E02 then srvTagRead 3584 256 s
  else match e.src with
    | .num v => (some (leBytes e.size v), (s.setFreeCtr (s.freeCtr + 1)))
    | .text b => (some b, s)
    | .fld a sh n => let r := s.srvRead a; (some (leBytes e.size (r.1 / 2 ^ sh % 2 ^ n)), r.2)
    | .words l =>
      let r := l.foldl (fun (p : List Byte × State) a => let q := p.2.srvRead a; (p.1 ++ leBytes 4 q.1, q.2)) ([], s)
      (some r.1, r.2)

end Sys2Proof.Machine
end

