-- ==== Sys2Proof/Machine/Server.lean ====
section
/-! DEFINITION. The object-dictionary server (16_field_network.md, 17_object_dictionary.md): writes of entries, SDO and USDO service,
saved parameters, downloads of images and option requests (18_squirrel_store.md), its start. -/

namespace Sys2Proof.Machine

/-! ### Store commands of the server (R516, R533) -/

/-- A store command of tenant 2, carried out before the answer: LASTERR of a refusal or of the command, 0 for none. -/
def State.srvStore (s : State) (op : Nat) : Nat × State :=
  let t := s.storeCmd 2 op
  match s.storeRefusal 2 op, t.store.cmd with
  | 0, some c =>
    let u := ((t.modStore fun x => { x with cmd := none }).storeDo c).raise ⟨STORE_EVT, 1, 0⟩ 0 122
    (u.get STORE_STAT_LASTERR, u)
  | e, _ => (e, t)

/-! ### Saving and restoring (R508, R549) -/

/-- rw entries that are never saved (R508). -/
def neverSaved (idx : Nat) : Bool :=
  idx == 0x1003 || idx == 0x1010 || idx == 0x1011 || idx == 0x2811 || decide (0x2E00 ≤ idx ∧ idx ≤ 0x2E02) ||
  (match ciaAxis idx with
   | some (_, o) => o == 0x6040 || o == 0x6060 || o == 0x6071 || o == 0x60FF
   | none => false)

/-- Indices that hold rw entries. -/
def savedIndices : List Nat :=
  [0x1005, 0x1014, 0x1015, 0x1016, 0x1017, 0x1F80, 0x2004] ++ (List.range 16).map (0x1400 + ·) ++ (List.range 16).map (0x1600 + ·) ++
  (List.range 16).map (0x1800 + ·) ++ (List.range 16).map (0x1A00 + ·) ++ (List.range 11).map (0x2600 + ·) ++
  (List.range 16).map (0x2610 + ·) ++ [0x2801, 0x2812, 0x2813, 0x2A01, 0x2C20, 0x2C22] ++
  (List.range 8).flatMap fun a => [0x6007, 0x605A, 0x605B, 0x605C, 0x605D, 0x6072, 0x6075, 0x6080, 0x6083, 0x6084, 0x6085, 0x6087].map
    (· + 0x800 * a)

/-- An index is in the area of sub-index `sub` of 0x1010 and 0x1011: 1 all, 2 0x1000 to 0x1FFF, 3 the rest (R508). -/
def inArea (sub idx : Nat) : Bool :=
  match sub with
  | 1 => true
  | 2 => decide (0x1000 ≤ idx ∧ idx < 0x2000)
  | _ => !decide (0x1000 ≤ idx ∧ idx < 0x2000)

/-- The value of an entry as a number. -/
def State.odNum (s : State) (idx : Nat) (e : OdEnt) : Nat := leNat ((s.odRead idx e).1.getD [])

/-- Values that a save takes. -/
def State.snapshot (s : State) (area : Nat) : List (Nat × Nat) :=
  savedIndices.flatMap fun idx => (List.range 33).filterMap fun sub =>
    match s.odEnt idx sub with
    | some e => if e.acc == .rw && inArea area idx && !neverSaved idx && !s.odAbsent idx sub e then some (idx * 256 + sub, s.odNum idx e) else none
    | none => none

/-- A commit of the server: the abort code, 0 when it completes. Refused while the store is busy, held by another tenant, or the running
bank is unconfirmed; parked, with EMCY 0xFF64; a failure on the flash with EMCY 0xFF62 and the first record number, which is firmware's
(a free value). -/
def State.srvCommit (s : State) (ok : Bool) (f : Srv → Srv) : Nat × State :=
  if s.parked then (0x08000020, s.emcy 0xFF64 [])
  else if s.store.cmd.isSome || !s.store.ready || s.store.notHolder 2 || !s.confirmed then (0x08000020, s)
  else if !ok then
    let r := s.draw 66
    (0x06060000, r.2.emcy 0xFF62 [r.1 % 256, r.1 / 256 % 256])
  else (0, (s.modSrv f).modStore fun x => { x with commits := x.commits + 1 })

/-- A write of 0x1010 (R508). -/
def State.saveObjects (s : State) (sub v : Nat) (ok : Bool) : Nat × State :=
  if v ≠ 0x65766173 then (0x08000020, s)
  else s.srvCommit ok fun x =>
    { x with saved := (s.snapshot sub).foldl (fun l e => sparseIns e.1 e.2 (sparseDrop e.1 l)) x.saved }

/-- A write of 0x1011 (R508): the defaults hold from the next start. -/
def State.restoreObjects (s : State) (sub v : Nat) (ok : Bool) : Nat × State :=
  if v ≠ 0x64616F6C then (0x08000020, s)
  else s.srvCommit ok fun x => { x with saved := x.saved.filter fun e => !inArea sub (e.1 / 256) }

/-! ### Writes (R488 check 7, R506) -/

/-- Refused by the register. -/
def odRefused (ok : Bool) (s : State) : Nat × State := (if ok then 0 else 0x08000022, s)

/-- Write a field of a register and read it back (R506). -/
def State.odField (s : State) (a sh n v : Nat) : Nat × State :=
  let t := s.regWrite 2 s.srvPort a (withField (BitVec.ofNat 32 (s.srvLook a)) (sh + n - 1) sh v)
  odRefused (t.srvField a sh n == v) t

/-- Write one half of a 64-bit register: low word, then high word (R11). -/
def State.odHalf (s : State) (base : Nat) (high : Bool) (v : Nat) : Nat × State :=
  let lo := if high then s.srvLook base else v
  let hi := if high then v else (s.reg (base + 4)).toNat
  let t := (s.regWrite 2 s.srvPort base (BitVec.ofNat 32 lo)).regWrite 2 s.srvPort (base + 4) (BitVec.ofNat 32 hi)
  odRefused ((t.reg base).toNat == lo && (t.reg (base + 4)).toNat == hi) t

/-- Write registers in order. -/
def State.odWords (s : State) (l : List Nat) (v : Nat) : Nat × State :=
  let t := (l.zip (List.range l.length)).foldl (fun t (e : Nat × Nat) => t.regWrite 2 s.srvPort e.1 (BitVec.ofNat 32 (v / 2 ^ (32 * e.2)))) s
  odRefused ((l.zip (List.range l.length)).all fun e => t.srvLook e.1 == v / 2 ^ (32 * e.2) % 2 ^ 32) t

/-- A mapping entry or count (R491, R492). -/
def State.odMap (s : State) (tx : Bool) (n : Fin 16) (idx sub v : Nat) : Nat × State :=
  let ents := (List.range v).map fun k => s.obj idx (k + 1)
  let lim := s.pdoLimit tx n
  if !s.flag (pdoInvalid tx n) then (0x06040043, s)
  else if sub ≠ 0 then
    (if v = 0 ∨ (s.mapWord tx v).isSome then (0, s.putComm idx sub v) else (0x06040041, s))
  else if ents.any fun e => (s.mapWord tx e).isNone then (0x06040041, s)
  else if lim.2 < v ∨ lim.1 < ents.foldl (fun k e => k + e % 256 / 8) 0 then (0x06040042, s)
  else (0, s.putComm idx 0 v)

/-- Writes of PDO communication parameters: a COB-ID that fails its check is refused with 0x0604_0043 (R492). -/
def State.odComPut (s : State) (tx : Bool) (n : Fin 16) (sub v : Nat) : Nat × State :=
  let ctl := pdoBase tx n + 4
  match sub with
  | 1 => let r := s.pdoCobWrite tx n v; (if r.1 then 0 else 0x06040043, r.2)
  | 2 => s.odField ctl 16 8 v
  | 3 => s.odField ctl 26 6 v
  | _ => s.odField ctl 0 16 v

/-- Writes of the CiA 402 objects (R318, R488). -/
def State.odCiaPut (s : State) (a : Fin 8) (o v : Nat) : Nat × State :=
  let fresh := s.modAxis a fun x => { x with refusedNow := false }
  match o with
  | 0x6040 =>
    let t := fresh.regWrite 2 s.srvPort (AX_CW a) (BitVec.ofNat 32 v)
    odRefused (s.get (AX_CWSRC_SRC a) == 0 && !t.axes[a].refusedNow) t
  | 0x6060 =>
    let t := fresh.regWrite 2 s.srvPort (AX_MODESEL a) (BitVec.ofNat 32 v)
    odRefused (!t.axes[a].refusedNow) t
  | 0x6071 => s.odField (ENG_TREF_TQ a) 0 16 v
  | 0x60FF => s.odField (ENG_TREF_SPD a) 0 32 v
  | 0x6072 => (0, (s.modEng a fun e => { e with maxTorque := v }))
  | 0x6080 => (0, (s.modEng a fun e => { e with maxSpeed := v }))
  | 0x6075 => s.odField (ENG_MOT a) 0 16 (v / 100)
  | 0x605A => s.odField (AX_OPT a) 0 4 v
  | 0x605B => s.odField (AX_OPT a) 4 1 v
  | 0x605C => s.odField (AX_OPT a) 5 1 v
  | 0x605D => s.odField (AX_OPT a) 6 2 v
  | 0x6083 => s.odField (AX_PACC a) 0 32 v
  | 0x6084 => s.odField (AX_PDEC a) 0 32 v
  | 0x6085 => s.odField (AX_QSDEC a) 0 32 v
  | 0x6087 => s.odField (AX_TSLOPE a) 0 32 v
  | _ => (0, s.setObj (0x6007 + 0x800 * a.1) 0 v)

/-- Writes of the tension group (R513). -/
def State.odTension (s : State) (a : Fin 8) (sub v : Nat) : Nat × State :=
  if s.psetHeld .tension a 2 then odRefused false (s.psetRefuse .tension a)
  else if sub = 6 then (0, s.psetCtlWrite .tension a 2 (BitVec.ofNat 32 v))
  else
    let t := s.psetWrite .tension a (sub - 1) 2 (BitVec.ofNat 32 v)
    odRefused ((t.tension[a].shadow.getD (sub - 1) 0).toNat == v) t

/-- Objects that are commands or values of the server. -/
def State.odVendorPut (s : State) (idx sub v : Nat) : Nat × State :=
  match idx with
  | 0x2003 =>
    let ok := s.bg.powered && s.bg.window && s.allGone
    odRefused ok (s.regWrite 2 s.srvPort BG_FBLOR (BitVec.ofNat 32 v))
  | 0x2005 =>
    if s.flag BG_SCS_STAT_BUSY then odRefused false (s.scsCommand (v == 1))
    else let t := (s.scsCommand (v == 1)).scsComplete; odRefused (t.get BG_SCS_STAT_LASTERR == 0) t
  | 0x2801 =>
    match sub with
    | 1 => s.odField RING_CFG 0 32 v
    | 2 => s.odHalf (RING_ROUTE 0) false v
    | 3 => s.odHalf (RING_ROUTE 0) true v
    | 4 => s.odHalf (RING_BRT 0) false v
    | _ => s.odHalf (RING_BRT 0) true v
  | 0x2A05 => let h := s.handoverAsk; odRefused h.1 h.2
  | 0x2C19 => if v = 1 then (let r := s.parkRequest; odRefused r.1 r.2) else (0, s.unpark)
  | 0x2C20 => (0, s.setObj 0x2C20 sub v)
  | 0x2C22 =>
    let tx := decide (16 < sub)
    let n := (sub - 1) % 16
    if !s.flag (pdoInvalid tx n) then (0x06040043, s) else s.odField (pdoBase tx n + 4) 24 2 v
  | _ => (0, s)

/-- Write a checked value: the abort code, 0 when the entry holds it. `ok` is the outcome of a commit on the flash. -/
def State.odPut (s : State) (idx sub v : Nat) (ok : Bool) : Nat × State :=
  match ciaAxis idx with
  | some (a, o) => s.odCiaPut a o v
  | none =>
    match pdoComm idx, pdoMapping idx with
    | some (tx, n), _ => s.odComPut tx n sub v
    | _, some (tx, n) => s.odMap tx n idx sub v
    | _, _ =>
      if h : 0x2618 ≤ idx ∧ idx < 0x2620 ∧ sub ≤ 6 then s.odTension ⟨idx - 0x2618, by omega⟩ sub v
      else match idx with
        | 0x1003 => (0, s.modSrv fun x => { x with hist := [] })
        | 0x1005 => s.odField PDO_SYNC 0 11 v
        | 0x1010 => s.saveObjects sub v ok
        | 0x1011 => s.restoreObjects sub v ok
        | 0x1014 => (0, s.setObj 0x1014 0 v)
        | 0x1015 => (0, s.setObj 0x1015 0 v)
        | 0x1016 => (0, s.putComm 0x1016 sub v)
        | 0x1017 => s.odField PDO_HB 0 16 v
        | 0x1F80 => (0, s.setObj 0x1F80 0 v)
        | _ =>
          if idx = 0x2003 ∨ idx = 0x2005 ∨ idx = 0x2801 ∨ idx = 0x2A05 ∨ 0x2C00 ≤ idx then s.odVendorPut idx sub v
          else match s.odEnt idx sub with
            | some ⟨_, _, .fld a sh n⟩ => s.odField a sh n v
            | some ⟨_, _, .words l⟩ => s.odWords l v
            | _ => (0, s)

/-- Write blocks of the live-record area from block `k` on; blocks that hold the data already are not written (R542; log entry 35). -/
def srvTagWrite : Nat → List Word → State → Nat × State
  | _, [], s => (0, s)
  | k, w :: t, s =>
    if s.tagBlock k = w then srvTagWrite (k + 1) t s
    else
      let r := s.srvTag k (some w)
      if r.1 = 0 then srvTagWrite (k + 1) t r.2 else (if r.1 = 1 then 0x08000020 else 0x08000022, r.2)

/-! ### Checks (R488, R505, R27) -/

/-- Checks 1 and 2: the abort code, 0 when both pass. -/
def State.odCheck (s : State) (idx sub : Nat) (write : Bool) : Nat :=
  match s.odEnt idx sub with
  | none =>
    match s.odEnt idx 0 with
    | none => 0x06020000
    | some e => if s.odAbsent idx 0 e then 0x06020000 else 0x06090011
  | some e =>
    if s.odAbsent idx sub e then 0x06020000
    else if write then (if e.acc = .ro ∨ e.acc = .const then 0x06010002 else 0)
    else if e.acc = .wo then 0x06010001 else 0

/-- Check 3: the length of the data. -/
def State.odLen (s : State) (idx sub len : Nat) : Bool :=
  if idx = 0x2E02 then len % 4 == 0 && decide (len ≤ 4 * 3584)
  else match s.odEnt idx sub with
    | some e => e.size == 0 || e.size == len
    | none => false

/-- Checks 3 to 7 of a write and the write: the abort code, 0 when it is done. A lock-out reset stopped by its seal gate is refused with the
EMCY of R62. -/
def State.odWrite (s : State) (idx sub : Nat) (data : List Byte) (ok : Bool) : Nat × State :=
  let v := leNat data
  if !s.odLen idx sub data.length then (0x06070010, s)
  else if !s.odGate idx sub v then (0x08000022, s)
  else if !s.odSeal idx then (0x08000022, if idx = 0x2003 then s.emcy 0xFF11 [] else s)
  else if idx = 0x2E02 then srvTagWrite 256 (leWords data) s
  else if !s.odFits idx sub v then (0x06090030, s)
  else s.odPut idx sub v ok

/-! ### Downloads through 0x2C02 (R533, R541) -/

/-- The download ends without an image: ABANDONBANK (R533). -/
def State.imageDrop (s : State) : State :=
  if s.store.image.isSome then ((s.srvStore 0xB).2).modStore fun x => { x with image := none } else s

/-- The initiate request: ERASEBANK (R533 step 1). -/
def State.imageStart (s : State) : Nat × State :=
  let r := s.srvStore 8
  if r.1 = 0 then (0, r.2.modStore fun x => { x with image := some [] })
  else (0x08000020, if r.1 = 3 then r.2.emcy 0xFF64 [] else r.2)

/-- A refused image: its VERSION is recorded (a free value where it has not been received), and the download ends. -/
def State.imageRefuse (s : State) (got : List Byte) : Nat × State :=
  let r := if 12 ≤ got.length then (leNat ((got.drop 8).take 4), s) else s.draw 67
  (0x08000020, (r.2.put STORE_VERREF_V r.1).imageDrop)

/-- Program the whole 256-byte pieces of `got` from piece `k` on. -/
def imageProg : Nat → Nat → List Byte → State → State
  | 0, _, _, s => s
  | n + 1, k, got, s =>
    if got.length < 256 * (k + 1) then s
    else imageProg n (k + 1) got (s.progBank (bankBase s.otherBank + 256 * k) ((got.drop (256 * k)).take 256))

/-- Further bytes of an image: LINK is judged in its first segment, pieces are programmed as they complete (R533 steps 2 and 4). -/
def State.imageData (s : State) (data : List Byte) : Nat × State :=
  match s.store.image with
  | none => (0x08000020, s)
  | some old =>
    let got := old ++ data
    let t := s.modStore fun x => { x with image := some got }
    if old.length < 7 && decide (7 ≤ got.length) && (got.getD 6 0).toNat != s.otherBank then t.imageRefuse got
    else if 0x800000 < got.length then t.imageRefuse got
    else (0, imageProg (got.length / 256 + 1 - old.length / 256) (old.length / 256) got t)

/-- The transfer ends: the last bytes are programmed, then VERIFY (R533 step 3). -/
def State.imageEnd (s : State) : Nat × State :=
  match s.store.image with
  | none => (0x08000020, s)
  | some got =>
    let k := got.length / 256
    let t := if got.length % 256 = 0 then s else s.progBank (bankBase s.otherBank + 256 * k) (got.drop (256 * k))
    let r := t.srvStore 0xA
    (if r.1 = 0 then 0 else 0x08000020, r.2.modStore fun x => { x with image := none })

/-- A download that begins with the magic of an option request (R541). -/
def isOptReq (data : List Byte) : Bool := decide (4 ≤ data.length) && leNat (data.take 4) == 0x47D10B7E

/-- Write blocks of the tag. -/
def srvTagPut : Nat → List Word → State → Bool × State
  | _, [], s => (true, s)
  | k, w :: t, s =>
    let r := s.srvTag k (some w)
    if r.1 = 0 then srvTagPut (k + 1) t r.2 else (false, r.2)

/-- An option request goes into the mailbox (R540, R541). -/
def State.optionPut (s : State) (data : List Byte) : Nat × State :=
  if data.length ≠ 200 then (0x06070010, s)
  else
    let r := srvTagPut 3841 (leWords data) s
    if !r.1 then (0x08000020, r.2)
    else
      let q := srvTagPut 3840 [0x4F505251] r.2
      (if q.1 then 0 else 0x08000020, q.2)

/-- Bytes of a download through 0x2C02 under way: an option request stops the erase begun for an image. -/
def State.loadData (s : State) (old data : List Byte) : Nat × State :=
  if isOptReq (old ++ data) then (0, s.imageDrop)
  else if s.store.image.isSome then s.imageData data else (0, s)

/-- The end of a download through 0x2C02 of the bytes `got`. -/
def State.loadEnd (s : State) (got : List Byte) : Nat × State :=
  if isOptReq got then s.optionPut got
  else if s.store.image.isSome then s.imageEnd
  else
    let a := s.imageStart
    if a.1 ≠ 0 then a
    else let b := a.2.imageData got; if b.1 ≠ 0 then b else b.2.imageEnd

/-! ### SDO and USDO service (R476, R480, R485 to R489) -/

/-- An answer of the server. -/
def State.sdoReply (s : State) (ch : Fin 2) (b : List Byte) : State := s.canPut ch (0x580 + s.nodeId) b

/-- First bytes of an answer: command, index, sub-index. -/
def sdoHead (c idx sub : Nat) : List Byte := leBytes 1 c ++ leBytes 2 idx ++ leBytes 1 sub

/-- Answer a download: confirmed, or aborted with a code. -/
def sdoDone (ch : Fin 2) (idx sub : Nat) (r : Nat × State) : State :=
  if r.1 = 0 then r.2.sdoReply ch (sdoHead 0x60 idx sub ++ leBytes 4 0) else r.2.sdoReply ch (sdoHead 0x80 idx sub ++ leBytes 4 r.1)

/-- Abort a request. -/
def State.sdoFail (s : State) (ch : Fin 2) (idx sub code : Nat) : State := sdoDone ch idx sub (code, s)

/-- The transfer of a channel ends; a download of an image is abandoned (R533). -/
def State.xferDrop (s : State) (ch : Fin 2) : State :=
  let t := match s.srv.xfer[ch] with | some x => if x.idx = 0x2C02 ∧ !x.up then s.imageDrop else s | none => s
  t.modSrv fun v => { v with xfer := v.xfer.set ch none }

/-- A request addressed to the node (R477, R480, R485): ignored in Initialisation, counted in IGN when Stopped, aborted by the controller
while the server is not alive and in the pre-reset phase (R94), its bytes `req` left waiting
in the receive FIFO while the server does not serve it; else served by `f`. -/
def State.sdoRx (s : State) (ch : Fin 2) (idx sub : Nat) (req : List Byte) (served : Bool) (f : State → State) : State :=
  if s.sys.phase = .pre then
    (if !s.canOn ch || !s.hasId then s
     else if s.canTx ch then (s.sdoFail ch idx sub 0x08000020).abandoned else s.bump FW_LOST_COUNT)
  else s.canRx ch fun s =>
    if !s.hasId || s.nmt == 0 then s
    else if s.nmt = 3 then s.bump (CAN_CNT3_IGN ch)
    else
      let t := s.canEvt ch 5
      if !t.flag PDO_HB_ALIVE then t.sdoFail ch idx sub 0x08000020
      else if !served || !t.serverUp then
        (t.canRecord ch (0x600 + t.nodeId) (padTo 8 req)).modSrv fun v => { v with await := v.await.set ch (some (idx, sub)) }
      else f t

/-- A second session of a USDO channel is refused (R487); a new request of an SDO channel ends the transfer open on it. -/
def State.sdoOpen (s : State) (ch : Fin 2) (idx sub : Nat) (f : State → State) : State :=
  if s.srv.xfer[ch].isSome && s.flag (CAN_CFG_FD ch) then s.sdoFail ch idx sub 0x08000021 else f (s.xferDrop ch)

/-- Answer an upload with the bytes of the object: expedited up to 4 bytes, else segmented (R486). -/
def State.sdoGive (s : State) (ch : Fin 2) (idx sub : Nat) (b : List Byte) : State :=
  if 0 < b.length ∧ b.length ≤ 4 then s.sdoReply ch (padTo 8 (sdoHead (0x43 + (4 - b.length) * 4) idx sub ++ b))
  else (s.sdoReply ch (sdoHead 0x41 idx sub ++ leBytes 4 b.length)).modSrv fun v => { v with xfer := v.xfer.set ch (some ⟨true, idx, sub, b, false⟩) }

/-- SDO_UPLOAD (R486 to R489). `served`: the server serves the request now. -/
def execSdoUpload (ch : Fin 2) (idx : BitVec 16) (sub : BitVec 8) (served : Bool) (s : State) : Host.Outcome State Fault Refusal := .next <|
  s.sdoRx ch idx.toNat sub.toNat (sdoHead 0x40 idx.toNat sub.toNat) served fun s => s.sdoOpen ch idx.toNat sub.toNat fun s =>
    let c := s.odCheck idx.toNat sub.toNat false
    if c ≠ 0 then s.sdoFail ch idx.toNat sub.toNat c
    else match s.odEnt idx.toNat sub.toNat with
      | some e =>
        match s.odRead idx.toNat e with
        | (some b, t) => t.sdoGive ch idx.toNat sub.toNat b
        | (none, t) => t.sdoFail ch idx.toNat sub.toNat 0x08000020
      | none => s

/-- A whole write request of the server: checks 1 to 7 and the answer. -/
def State.sdoWrite (s : State) (ch : Fin 2) (idx sub : Nat) (data : List Byte) (ok : Bool) : State :=
  let c := s.odCheck idx sub true
  if c ≠ 0 then s.sdoFail ch idx sub c
  else if idx = 0x2C02 then
    (if s.odGate idx sub 0 then sdoDone ch idx sub (s.loadEnd data) else s.sdoFail ch idx sub 0x08000022)
  else sdoDone ch idx sub (s.odWrite idx sub data ok)

/-- The initiate request of a segmented download: `size` bytes indicated, 0 for none. A transfer of 200 bytes to 0x2C02 is an option
request, for which no bank is erased (log entry 36). -/
def State.sdoBegin (s : State) (ch : Fin 2) (idx sub size : Nat) : State :=
  let c := s.odCheck idx sub true
  if c ≠ 0 then s.sdoFail ch idx sub c
  else if size ≠ 0 ∧ !s.odLen idx sub size then s.sdoFail ch idx sub 0x06070010
  else
    let r := if idx ≠ 0x2C02 then (0, s) else if !s.odGate idx sub 0 then (0x08000022, s) else if size = 200 then (0, s) else s.imageStart
    let t := sdoDone ch idx sub r
    if r.1 = 0 then t.modSrv fun v => { v with xfer := v.xfer.set ch (some ⟨false, idx, sub, [], false⟩) } else t

/-- Bytes of a download request (CiA 301). -/
def downReq (idx sub : Nat) (seg : Bool) (size : Nat) (data : List Byte) : List Byte :=
  if seg then sdoHead (0x20 + b2n (size != 0)) idx sub ++ leBytes 4 size else sdoHead (0x23 + (4 - data.length) * 4) idx sub ++ data

/-- SDO_DOWNLOAD (R486 to R489): expedited with its data, or (`seg`) the initiate request of a segmented transfer. -/
def execSdoDownload (ch : Fin 2) (idx : BitVec 16) (sub : BitVec 8) (seg : Bool) (size : Nat) (data : List (BitVec 8)) (served : Bool) (s : State) :
    Host.Outcome State Fault Refusal := .next <|
  s.sdoRx ch idx.toNat sub.toNat (downReq idx.toNat sub.toNat seg size data) served fun s => s.sdoOpen ch idx.toNat sub.toNat fun s =>
    if seg then s.sdoBegin ch idx.toNat sub.toNat size else s.sdoWrite ch idx.toNat sub.toNat data true

/-- A download segment: its data take effect when the whole transfer ends (R512); an image is programmed on the way (R533). -/
def State.segDown (s : State) (ch : Fin 2) (x : Xfer) (last : Bool) (data : List Byte) : State :=
  let got := x.data ++ data
  let r := if x.idx = 0x2C02 then s.loadData x.data data else (0, s)
  if r.1 ≠ 0 then (r.2.xferDrop ch).sdoFail ch x.idx x.sub r.1
  else if !last then
    (r.2.modSrv fun v => { v with xfer := v.xfer.set ch (some { x with data := got, toggle := !x.toggle }) }).sdoReply ch
      (padTo 8 (leBytes 1 (0x20 + 16 * b2n x.toggle)))
  else
    let t := r.2.modSrv fun v => { v with xfer := v.xfer.set ch none }
    let w := if x.idx = 0x2C02 then t.loadEnd got else t.odWrite x.idx x.sub got true
    if w.1 = 0 then w.2.sdoReply ch (padTo 8 (leBytes 1 (0x20 + 16 * b2n x.toggle))) else w.2.sdoFail ch x.idx x.sub w.1

/-- An upload segment of at most 7 bytes. -/
def State.segUp (s : State) (ch : Fin 2) (x : Xfer) : State :=
  let b := x.data.take 7
  let rest := x.data.drop 7
  (s.modSrv fun v => { v with xfer := v.xfer.set ch (if rest.isEmpty then none else some { x with data := rest, toggle := !x.toggle }) }).sdoReply ch
    (padTo 8 (leBytes 1 (16 * b2n x.toggle + 2 * (7 - b.length) + b2n rest.isEmpty) ++ b))

/-- SDO_SEGMENT (R486, R512): command specifier 0 download segment, 3 upload segment, 4 abort by the client, others not served. -/
def execSdoSegment (ch : Fin 2) (cs : BitVec 3) (toggle last : Bool) (data : List (BitVec 8)) (s : State) : Host.Outcome State Fault Refusal :=
  .next <|
  let x := s.srv.xfer[ch]
  let at_ := match x with | some y => (y.idx, y.sub) | none => (0, 0)
  s.sdoRx ch at_.1 at_.2 (leBytes 1 (cs.toNat * 32 + 16 * b2n toggle + b2n last) ++ data) true fun s =>
    if cs = 4 then s.xferDrop ch
    else match x with
      | none => s.sdoFail ch 0 0 0x05040001
      | some y =>
        if cs ≠ (if y.up then 3 else 0) then (s.xferDrop ch).sdoFail ch y.idx y.sub 0x05040001
        else if toggle ≠ y.toggle then (s.xferDrop ch).sdoFail ch y.idx y.sub 0x05030000
        else if y.up then s.segUp ch y else s.segDown ch y last data

/-- SDO_TIMEOUT (R486, R487, R533): no segment for 1 s. -/
def execSdoTimeout (ch : Fin 2) (s : State) : Host.Outcome State Fault Refusal := .next <|
  s.whenUp fun s =>
    match s.srv.xfer[ch] with
    | some y => (s.xferDrop ch).sdoFail ch y.idx y.sub 0x05040000
    | none => s

/-- A write request of one object that is served now. -/
def State.sdoServe (s : State) (ch : Fin 2) (idx sub : Nat) (data : List Byte) (ok : Bool) : State :=
  s.sdoRx ch idx sub (downReq idx sub false 0 data) true fun s => s.sdoOpen ch idx sub fun s => s.sdoWrite ch idx sub data ok

/-- ERROR_HISTORY_CLEAR (R500): a write of 0x1003 sub-index 0; only 0 clears. -/
def execErrorHistoryClear (ch : Fin 2) (v : BitVec 8) (s : State) : Host.Outcome State Fault Refusal := .next <| s.sdoServe ch 0x1003 0 [v] true

/-- STORE_PARAMETERS (R508, R549): `ok` is the outcome of the commit on the flash. -/
def execStoreParameters (ch : Fin 2) (sub : BitVec 8) (v : Word) (ok : Bool) (s : State) : Host.Outcome State Fault Refusal := .next <|
  s.sdoServe ch 0x1010 sub.toNat (leBytes 4 v.toNat) ok

/-- RESTORE_DEFAULTS (R508, R549). -/
def execRestoreDefaults (ch : Fin 2) (sub : BitVec 8) (v : Word) (ok : Bool) (s : State) : Host.Outcome State Fault Refusal := .next <|
  s.sdoServe ch 0x1011 sub.toNat (leBytes 4 v.toNat) ok

/-- IMAGE_DOWNLOAD (R533): a whole download to 0x2C02; in the image-load service the boot ROM takes it (R119; log entry 71). -/
def execImageDownload (ch : Fin 2) (image : List (BitVec 8)) (s : State) : Host.Outcome State Fault Refusal := .next <|
  if s.sys.boot == .service then
    s.canRx ch fun s => if s.hasId then sdoDone ch 0x2C02 0 (s.loadEnd image) else s
  else s.sdoServe ch 0x2C02 0 image true

/-- OPTION_REQUEST_DOWNLOAD (R541): the whole request. -/
def execOptionRequestDownload (ch : Fin 2) (data : List (BitVec 8)) (s : State) : Host.Outcome State Fault Refusal := .next <|
  s.sdoServe ch 0x2C02 0 data true

/-! ### The server starts (R475, R482, R505, R508) -/

/-- The server loads every saved value as tenant 2, commits the tension groups it staged, and sends the boot-up message. -/
def State.serverStart (s : State) : State :=
  let l := s.srv.saved.filter fun e => !commObj (e.1 / 256)
  let t := l.foldl (fun t e => (t.odPut (e.1 / 256) (e.1 % 256) e.2 true).2) s
  let u := forFin 8 (fun a t => if t.flag (psDirty (PGroup.tension.ctl a)) then t.psetCommit .tension a 2 else t) t
  u.loadComm.bootUp

/-- BOOT_DONE_SET (R120, R482, R580): tenant 0, unless it has stopped, sets BOOT_DONE, and the server starts. -/
def execBootDoneSet (s : State) : Host.Outcome State Fault Refusal := .next <|
  s.whenUp fun s => if s.bootDone || s.sys.boot != .rom || bitOf (s.get TWU_KILL_STOPPED) 0 then s else s.bootDoneSet.serverStart

/-- A write over the register bus: the one that sets BOOT_DONE starts the server. -/
def State.busWrite (s : State) (ten port a : Nat) (v : Word) : State :=
  let t := s.regWrite ten port a v
  if !s.bootDone && t.bootDone then t.serverStart else t

/-- REGISTER_WRITE (R6 to R8, R10, R12, R25, R32, R64, R142): by tenant `ten` through `port`, 0 to 3 core n, 4 DMA, 5 copy engine. -/
def execRegisterWrite (ten : Fin 8) (port : Fin 6) (a : Nat) (v : Word) (s : State) : Host.Outcome State Fault Refusal := .next <|
  s.whenUp (·.busWrite ten port a v)

/-- REG64_LOW_WRITE (R11): the low word waits on its port. -/
def execReg64LowWrite (ten : Fin 8) (port : Fin 6) (a : Nat) (v : Word) (s : State) : Host.Outcome State Fault Refusal := .next <|
  s.whenUp fun s => if isLow64 a then s.regWrite ten port a v else s

/-- REG64_HIGH_WRITE (R11): `a` is the address of the high word. -/
def execReg64HighWrite (ten : Fin 8) (port : Fin 6) (a : Nat) (v : Word) (s : State) : Host.Outcome State Fault Refusal := .next <|
  s.whenUp fun s => if isHigh64 a then s.regWrite ten port a v else s

end Sys2Proof.Machine
end

