-- ==== Sys2Proof/Machine/Cores.lean ====
section
/-! DEFINITION. What the cores, the DMA controller and the scrubber do (05_cores_tenants.md, 06_events_dma.md): accesses with their
checks and exceptions, CSRs, event entry and return, DMA descriptors and beats. An access command carries what its instruction names; the
decoding and execution of other instructions is not a command of this block. -/

namespace Sys2Proof.Machine

/-! ### The running code of a core -/

/-- What core `c` does for the tenant whose code it runs; nothing on a core that sleeps, is held or is absent. -/
def State.byCore (s : State) (c : Fin 4) (f : Fin 8 → State → State) : State :=
  s.whenUp fun s => if s.nCores ≤ c.1 then s else match s.pr.cores[c].run with | some t => f t s | none => s

/-- Write integer register `rd`; x0 stays 0. -/
def State.setX (s : State) (t : Fin 8) (rd : Fin 32) (v : Word) : State :=
  s.modBank t fun b => if rd = 0 then b else { b with x := b.x.set rd v }

/-- Write floating-point register `rd`: FS becomes Dirty (R123). -/
def State.setF (s : State) (t : Fin 8) (rd : Fin 32) (v : Word) : State :=
  s.modBank t fun b => { b with f := b.f.set rd v, mstatus := b.mstatus ||| 0x6000 }

/-- Illegal instruction, cause 2; what mtval holds is not stated (a free value, log entry 4). -/
def State.illegal (s : State) (c : Fin 4) : State := let r := s.draw 70; r.2.trap c 2 (BitVec.ofNat 32 r.1)

/-! ### Accesses (R126, R127, R139, R146, R151) -/

/-- Bytes of an access size. -/
def accBytes (size : Fin 3) : Nat := 2 ^ size.1

/-- The checks before an access of `n` bytes at `a`: an address that is not aligned traps first, but in the peripheral range R9 applies
(R126); then checks 1 to 7 of R139. Where all pass, `f`. -/
def State.access (s : State) (c : Fin 4) (t : Fin 8) (k : Acc) (a n : Nat) (f : State → State) : State :=
  if a % n ≠ 0 ∧ !isPeriph a then s.misaligned c k a
  else match s.check { tenant := t, umode := s.pr.banks[t].dataUser } k a n with
    | some (r, w) => s.accessFault c k a n r w
    | none => f s

/-- A value of `size` loaded into a register: sign-extended or not. -/
def extend (size : Fin 3) (sgnd : Bool) (v : Nat) : Word :=
  if sgnd then BitVec.ofNat 32 (toCode 32 (sgn (8 * accBytes size) v)) else BitVec.ofNat 32 v

/-- Read `n` bytes that passed the checks: a register, or memory, which faults with ECC on a double-bit error; `f` gets the value. -/
def State.readThen (s : State) (c : Fin 4) (t : Fin 8) (k : Acc) (a n : Nat) (f : Nat → State → State) : State :=
  if isPeriph a then (let r := s.regRead t c a; f r.1.toNat r.2)
  else match s.memRead c a n with
    | (some v, u) => f v u
    | (none, u) => u.accessFault c k a n 8 0x1F

/-- LOAD (R123, R126, R139, R146): into integer register `rd`, or (`fp`) floating-point register `rd`, illegal while mstatus.FS is Off. The pc
moves with the next fetch. -/
def execLoad (c : Fin 4) (addr : Word) (size : Fin 3) (sgnd fp : Bool) (rd : Fin 32) (s : State) : Host.Outcome State Fault Refusal := .next <|
  s.byCore c fun t s => if fp && fieldOf s.pr.banks[t].mstatus 14 13 == 0 then s.illegal c else
    s.access c t .load addr.toNat (accBytes size) fun s => s.readThen c t .load addr.toNat (accBytes size) fun v u =>
      let w := extend size sgnd v
      ((if fp then u.setF t rd w else u.setX t rd w).setRdata w.toNat)

/-- Store `n` bytes that passed the checks. -/
def State.storeDone (s : State) (c : Fin 4) (t : Fin 8) (k : Acc) (a n v : Nat) (f : State → State) : State :=
  if isPeriph a then f (s.busWrite t c a (BitVec.ofNat 32 v))
  else match s.memWrite c (some c) a n v with
    | (true, u) => f u
    | (false, u) => u.accessFault c k a n 8 0x1F

/-- STORE (R126, R139, R146, R151, R154). -/
def execStore (c : Fin 4) (addr : Word) (size : Fin 3) (v : Word) (s : State) : Host.Outcome State Fault Refusal := .next <|
  s.byCore c fun t s => s.access c t .store addr.toNat (accBytes size) fun s =>
    s.storeDone c t .store addr.toNat (accBytes size) (v.toNat % 2 ^ (8 * accBytes size)) id

/-- What an AMO stores: 0 swap, 1 add, 2 xor, 3 and, 4 or, 5 min, 6 max, 7 minu, 8 maxu (R123). -/
def amoResult (op : Fin 9) (old v : Word) : Word :=
  match op with
  | 0 => v
  | 1 => old + v
  | 2 => old ^^^ v
  | 3 => old &&& v
  | 4 => old ||| v
  | 5 => if old.toInt < v.toInt then old else v
  | 6 => if old.toInt < v.toInt then v else old
  | 7 => if old.toNat < v.toNat then old else v
  | 8 => if old.toNat < v.toNat then v else old

/-- AMO (R127): on TCM and shared SRAM only. -/
def execAmo (c : Fin 4) (op : Fin 9) (addr v : Word) (rd : Fin 32) (s : State) : Host.Outcome State Fault Refusal := .next <|
  s.byCore c fun t s => s.access c t .amo addr.toNat 4 fun s =>
    s.readThen c t .amo addr.toNat 4 fun old u =>
      u.storeDone c t .amo addr.toNat 4 (amoResult op (BitVec.ofNat 32 old) v).toNat fun w => w.setX t rd (BitVec.ofNat 32 old)

/-- LOAD_RESERVED (R127): the reservation covers the word. -/
def execLoadReserved (c : Fin 4) (addr : Word) (rd : Fin 32) (s : State) : Host.Outcome State Fault Refusal := .next <|
  s.byCore c fun t s => s.access c t .lr addr.toNat 4 fun s =>
    s.readThen c t .lr addr.toNat 4 fun v u =>
      (((u.setX t rd (BitVec.ofNat 32 v)).modCore c fun x => { x with res := some addr.toNat }).setRdata v)

/-- STORE_CONDITIONAL (R127): stores and answers 0 while its reservation holds, else answers 1; the reservation ends. -/
def execStoreConditional (c : Fin 4) (addr v : Word) (rd : Fin 32) (s : State) : Host.Outcome State Fault Refusal := .next <|
  s.byCore c fun t s => s.access c t .sc addr.toNat 4 fun s =>
    let held := s.pr.cores[c].res == some addr.toNat
    let u := s.modCore c fun x => { x with res := none }
    if held then u.storeDone c t .sc addr.toNat 4 v.toNat fun w => w.setX t rd 0 else u.setX t rd 1

/-! ### Instruction fetch and the instruction cache (R128, R137, R139) -/

/-- The instruction cache covers code flash and shared SRAM (R128). -/
def cached (a : Nat) : Bool := isBank a || isSram a

/-- The halfword a core gets at `a` where memory holds `v`: one fetched since the last FENCE.I may still stand in the cache, so where it
differs either may be delivered (a free choice, log entry 4). -/
def State.cacheRead (s : State) (c : Fin 4) (a v : Nat) : Nat × State :=
  if !cached a then (v, s)
  else
    let x := s.pr.cores[c].icache
    match x.find? fun e => e.1 == a with
    | some e => if e.2 = v then (v, s) else let r := s.draw 68; (if r.1 % 2 = 0 then e.2 else v, r.2)
    | none => (v, s.modCore c fun y => { y with icache := sparseIns a v y.icache })

/-- Fetch one checked part of an instruction: `n` bytes. -/
def State.fetchPart (s : State) (c : Fin 4) (t : Fin 8) (a n : Nat) (f : Nat → State → State) : State :=
  match s.check { tenant := t, umode := s.pr.banks[t].umode } .fetch a n with
  | some (r, w) => s.accessFault c .fetch a n r w
  | none =>
    match s.memRead c a 2, n with
    | (none, u), _ => u.accessFault c .fetch a n 8 0x1F
    | (some lo, u), 4 =>
      (match u.memRead c (a + 2) 2 with
       | (none, w) => w.accessFault c .fetch a n 8 0x1F
       | (some hi, w) =>
         let p := w.cacheRead c a lo
         let q := p.2.cacheRead c (a + 2) hi
         f (p.1 + 65536 * q.1) q.2)
    | (some lo, u), _ => let p := u.cacheRead c a lo; f p.1 p.2

/-- The instruction fetched last has run: it counts in minstret (R125; log entry 70). -/
def State.retire (s : State) (c : Fin 4) : State :=
  s.modCore c fun x => if x.issued then { x with instret := x.instret + 1, issued := false } else x

/-- INSTRUCTION_FETCH (R125, R126, R137, R139): at pc `addr`, 2 bytes or (`wide`) 4; one that straddles a granule boundary is checked in its two
halves. The instruction fetched stands in `rdata`. -/
def execInstructionFetch (c : Fin 4) (addr : Word) (wide : Bool) (s : State) : Host.Outcome State Fault Refusal := .next <|
  s.byCore c fun t s =>
    let a := addr.toNat / 2 * 2
    let s1 := (s.modBank t fun b => { b with pc := BitVec.ofNat 32 a }).retire c
    let got := fun (v : Nat) (u : State) => (u.setRdata v).modCore c fun x => { x with issued := true }
    if !wide then s1.fetchPart c t a 2 got
    else if a % 4096 ≠ 4094 then s1.fetchPart c t a 4 got
    else s1.fetchPart c t a 2 fun lo u => u.fetchPart c t (a + 2) 2 fun hi w => got (lo + 65536 * hi) w

/-- FENCE_I (R128): this core's cache. -/
def execFenceI (c : Fin 4) (s : State) : Host.Outcome State Fault Refusal := .next <|
  s.byCore c fun _ s => s.modCore c fun x => { x with icache := [] }

/-! ### CSRs (R123 to R125, R129) -/

/-- mip of a bank: MEIP while an enabled source of the tenant is pending (R133). -/
def State.mipOf (s : State) (t : Fin 8) : Word :=
  s.pr.banks[t].mip ||| (if s.pendingSrcs.any fun e => s.flag (EVT_CTL_EN e) && s.srcTenant e == t then 0x800 else 0)

/-- CLKC cycles since the release of the core: the half of the CLKS period is below what the model resolves (a free value). -/
def State.mcycle (s : State) (c : Fin 4) : Nat := 2 * (s.clk - s.pr.cores[c].from_) + Config.freeValue 69 s.freeCtr % 2

/-- CSRs that read as zero and discard writes: pmp, performance monitors, triggers, and the machine configuration registers without an
option (R123). -/
def csrZero (n : Nat) : Bool :=
  decide (0x3A0 ≤ n ∧ n ≤ 0x3EF) || decide (0xB03 ≤ n ∧ n ≤ 0xB1F) || decide (0xB83 ≤ n ∧ n ≤ 0xB9F) || n == 0x320 || decide (0x323 ≤ n ∧ n ≤ 0x33F) ||
  decide (0x7A0 ≤ n ∧ n ≤ 0x7AF) || n == 0x306 || n == 0x30A || n == 0x31A || n == 0x310 || n == 0xF15

/-- The value of a CSR; none where there is no such CSR. -/
def State.csrRead (s : State) (c : Fin 4) (t : Fin 8) (n : Nat) : Option Word :=
  let b := s.pr.banks[t]
  if csrZero n then some 0
  else match n with
    | 0x001 => some (BitVec.ofNat 32 (b.fcsr.toNat % 32))
    | 0x002 => some (BitVec.ofNat 32 (b.fcsr.toNat / 32))
    | 0x003 => some (BitVec.ofNat 32 b.fcsr.toNat)
    | 0x300 => some (b.mstatus ||| (if fieldOf b.mstatus 14 13 = 3 then 0x80000000 else 0))
    | 0x301 => some 0x40101125
    | 0x304 => some b.mie
    | 0x305 => some b.mtvec
    | 0x340 => some b.mscratch
    | 0x341 => some b.mepc
    | 0x342 => some b.mcause
    | 0x343 => some b.mtval
    | 0x344 => some (s.mipOf t)
    | 0x7C0 => some (BitVec.ofNat 32 t.1)
    | 0x7C1 => some b.mfaddr
    | 0x7C2 => some b.mfcause
    | 0xB00 => some (BitVec.ofNat 32 (s.mcycle c))
    | 0xB80 => some (BitVec.ofNat 32 (s.mcycle c / 2 ^ 32))
    | 0xB02 => some (BitVec.ofNat 32 s.pr.cores[c].instret)
    | 0xB82 => some (BitVec.ofNat 32 (s.pr.cores[c].instret / 2 ^ 32))
    | 0xF11 => some 0
    | 0xF12 => some 0x8047D109
    | 0xF13 => some (BitVec.ofNat 32 Config.dieRev.toNat)
    | 0xF14 => some (BitVec.ofNat 32 c.1)
    | _ => none

/-- `old` with the bits of `m` from `v`. -/
def csrMix (old v m : Word) : Word := (old &&& ~~~m) ||| (v &&& m)

/-- A write of mstatus: MIE, MPIE, FS, MPRV, TW, and MPP, which holds M or U only (R123). -/
def mstatusWrite (old v : Word) : Word :=
  let p := fieldOf v 12 11
  csrMix old v (if p = 0 ∨ p = 3 then 0x00227888 else 0x00226088)

/-- What a write of a CSR leaves in the bank. -/
def Bank.csrWrite (b : Bank) (n : Nat) (v : Word) : Bank :=
  let fd := b.mstatus ||| 0x6000
  match n with
  | 0x001 => { b with fcsr := BitVec.ofNat 8 (b.fcsr.toNat / 32 * 32 + v.toNat % 32), mstatus := fd }
  | 0x002 => { b with fcsr := BitVec.ofNat 8 (b.fcsr.toNat % 32 + v.toNat % 8 * 32), mstatus := fd }
  | 0x003 => { b with fcsr := BitVec.ofNat 8 v.toNat, mstatus := fd }
  | 0x300 => { b with mstatus := mstatusWrite b.mstatus v }
  | 0x304 => { b with mie := csrMix b.mie v 0x800 }
  | 0x305 => { b with mtvec := v &&& 0xFFFFFFFD }
  | 0x340 => { b with mscratch := v }
  | 0x341 => { b with mepc := v &&& 0xFFFFFFFE }
  | 0x342 => { b with mcause := v }
  | 0x343 => { b with mtval := v }
  | 0x7C2 => if bitOf v.toNat 31 then b else { b with mfcause := b.mfcause &&& 0x3FFFFFFF }
  | _ => b

/-- The CSR may not be accessed so: U mode below its privilege, a write of a read-only one, fflags, frm and fcsr with FS Off (R123, R129). -/
def Bank.csrBars (b : Bank) (n : Nat) (wr : Bool) : Bool :=
  (b.umode && decide (0x300 ≤ n % 0x400 ∧ n % 0x400 < 0x400)) || (wr && (decide (0xC00 ≤ n) || n == 0x7C0 || n == 0x7C1)) ||
  (decide (n ≤ 3) && fieldOf b.mstatus 14 13 == 0)

/-- CSR_ACCESS (R123 to R125, R129): `op` 0 CSRRW, 1 CSRRS, 2 CSRRC with source value `src`; `x0`: the source is x0, or its immediate is 0. -/
def execCsrAccess (c : Fin 4) (csr : BitVec 12) (op : Fin 3) (src : Word) (x0 : Bool) (rd : Fin 32) (s : State) :
    Host.Outcome State Fault Refusal := .next <|
  s.byCore c fun t s =>
    let wr := op == 0 || !x0
    match s.csrRead c t csr.toNat with
    | none => s.illegal c
    | some old =>
      if s.pr.banks[t].csrBars csr.toNat wr then s.illegal c
      else
        let v := match op with | 0 => src | 1 => old ||| src | 2 => old &&& ~~~src
        let u := if wr then s.modBank t fun b => b.csrWrite csr.toNat v else s
        (((u.setX t rd old).setFreeCtr (s.freeCtr + 1)).setRdata old.toNat)

/-! ### WFI, MRET, exceptions (R134, R164 to R167) -/

/-- WFI (R134, R164): a no-operation in a handler; TW makes it illegal in U mode. The background stands suspended at the next
instruction, where its next event finds it (R162). -/
def execWfi (c : Fin 4) (s : State) : Host.Outcome State Fault Refusal := .next <|
  s.byCore c fun t s =>
    let b := s.pr.banks[t]
    if b.umode && bitOf b.mstatus.toNat 21 then s.illegal c
    else if !s.pr.cores[c].stack.isEmpty then s
    else ((((s.modBank t fun b => { b with pc := b.pc + 4 }).retire c).setWaiting (s.waiting ||| BitVec.ofNat 8 (2 ^ t.1)))).rotate c

/-- Return by the RISC-V rules: pc at mepc, privilege MPP, MIE takes MPIE, MPIE 1, MPP U, MPRV cleared on the way to U (R123). -/
def Bank.leave (b : Bank) : Bank :=
  let toU := fieldOf b.mstatus 12 11 == 0
  let m := b.mstatus &&& ~~~0x00001888
  let m1 := if bitOf b.mstatus.toNat 7 then m ||| 0x88 else m ||| 0x80
  { b with pc := b.mepc, umode := toU, mstatus := if toU then m1 &&& ~~~0x00020000 else m1 }

/-- MRET (R165). -/
def execMret (c : Fin 4) (s : State) : Host.Outcome State Fault Refusal := .next <|
  s.byCore c fun t s =>
    let b := s.pr.banks[t]
    let u := s.modBank t Bank.leave
    if b.umode then s.illegal c
    else if 0 < b.exc then u.modBank t fun b => { b with exc := b.exc - 1 }
    else match s.pr.cores[c].stack with
      | e :: l => ((u.put (EVT_CTL_ACTIVE e.src) 0).modCore c fun x => { x with stack := l }).settle c
      | [] => u

/-- ILLEGAL_INSTRUCTION (R123, R166): cause 2. -/
def execIllegalInstruction (c : Fin 4) (s : State) : Host.Outcome State Fault Refusal := .next <| s.byCore c fun _ s => s.illegal c

/-- EBREAK (R123, R166): cause 3; what mtval holds is not stated (a free value). -/
def execEbreak (c : Fin 4) (s : State) : Host.Outcome State Fault Refusal := .next <|
  s.byCore c fun _ s => let r := s.draw 73; r.2.trap c 3 (BitVec.ofNat 32 r.1)

/-- The instruction fetched last does not run now: it is fetched again where its code goes on (log entry 70). -/
def State.unissue (s : State) (c : Fin 4) : State := s.modCore c fun x => { x with issued := false }

/-- BACKGROUND_SLICE_EXPIRY (R134): the running background has held the core for its slice; it stands suspended at the instruction
fetched last, which has not run (log entry 70). -/
def execBackgroundSliceExpiry (c : Fin 4) (s : State) : Host.Outcome State Fault Refusal := .next <|
  s.byCore c fun _ s => if s.pr.cores[c].stack.isEmpty then (s.unissue c).rotate c else s

/-- EVENT_ENTRY (R161 to R163): the core takes its best eligible source; `pc` is where the code it runs is suspended. -/
def execEventEntry (c : Fin 4) (pc : Word) (s : State) : Host.Outcome State Fault Refusal := .next <|
  s.whenUp fun s =>
    if s.nCores ≤ c.1 then s
    else match s.bestSrc c with
      | none => s
      | some e =>
        let u := match s.pr.cores[c].run with
          | some t => (if s.pr.banks[t].pc = pc then s.unissue c else s.retire c).modBank t fun b => { b with pc := pc }
          | none => s
        u.takeEvent c e

/-! ### Memory errors (R153, R154) -/

/-- Words of the TCMs of the member. -/
def State.tcmWords (s : State) : Nat := s.nCores * 65536

/-- The word the scrubber reads next: the TCMs in order, then shared SRAM (DESIGN CHOICE, log entry 37). -/
def State.scrubAddr (s : State) : Nat :=
  let k := s.pr.scrub
  if k < s.tcmWords then 0x08000000 + k / 65536 * 0x100000 + k % 65536 * 4 else 0x20000000 + (k - s.tcmWords) * 4

/-- SCRUB_READ (R151, R153). -/
def execScrubRead (s : State) : Host.Outcome State Fault Refusal := .next <|
  s.whenUp fun s =>
    if !s.flag MEMERR_SCRUB_EN then s
    else
      let u := (s.memRead 6 s.scrubAddr 4).2
      (u.modPr fun z => { z with scrub := if s.pr.scrub + 1 < s.tcmWords + 1048576 then s.pr.scrub + 1 else 0 })

/-- MEMERR_INJECT (R142, R154): a write of MEMERR_INJ by tenant `ten` on core `c`. -/
def execMemerrInject (ten : Fin 8) (c : Fin 4) (mode : BitVec 2) (s : State) : Host.Outcome State Fault Refusal := .next <|
  s.whenUp fun s => if s.nCores ≤ c.1 then s else s.twuWrite ten c MEMERR_INJ (BitVec.ofNat 32 mode.toNat)

/-! ### DMA (R172 to R180) -/

/-- A failing access stops the channel: code, address, reason (R175). PRIOR of an earlier abandonment stays (DESIGN CHOICE, log entry 75). -/
def State.dmaFault (s : State) (c : Fin 32) (code a reason : Nat) (desc side : Bool) : State :=
  let t := (((s.mark (.dmaFault c)).setReg (DMA_FAULT_ADDR c) (BitVec.ofNat 32 a)).put (DMA_FAULT_INFO_REASON c) reason).put (DMA_FAULT_INFO_DESC c) (b2n desc)
  (t.put (DMA_FAULT_INFO_SIDE c) (b2n side)).dmaStop c code

/-- Who issues the accesses of a channel: its owner (R143, R170). -/
def State.dmaBy_ (s : State) (c : Fin 32) : Issuer := { tenant := s.get (DMA_CFG_OWNER c), dma := true }

/-- A read of `n` bytes that passed the checks, by the DMA controller. -/
def State.dmaRead (s : State) (c : Fin 32) (a n : Nat) : Option Nat × State :=
  if isPeriph a then (let r := s.regRead (s.get (DMA_CFG_OWNER c)) 4 a; (some r.1.toNat, r.2)) else s.memRead 4 a n

/-- Words of a descriptor from word `k` on; the failing address and its reason where a fetch fails (R173). -/
def dmaWords : Nat → Nat → Fin 32 → State → (List Nat ⊕ (Nat × Nat)) × State
  | 0, _, _, s => (.inl [], s)
  | n + 1, a, c, s =>
    match s.check (s.dmaBy_ c) .load a 4 with
    | some (r, _) => (.inr (a, r), s)
    | none =>
      match s.dmaRead c a 4 with
      | (none, u) => (.inr (a, 8), u)
      | (some v, u) =>
        match dmaWords n (a + 4) c u with
        | (.inl l, w) => (.inl (v :: l), w)
        | (.inr f, w) => (.inr f, w)

/-- A descriptor is valid (R173). -/
def descOk (src dst ctl next : Nat) : Bool :=
  let size := 2 ^ bitsOf ctl 17 16
  bitsOf ctl 15 0 != 0 && bitsOf ctl 17 16 != 3 && bitsOf ctl 31 23 == 0 && next % 16 == 0 && src % size == 0 && dst % size == 0

/-- DMA_DESCRIPTOR_FETCH (R172, R173). -/
def execDmaDescriptorFetch (c : Fin 32) (s : State) : Host.Outcome State Fault Refusal := .next <|
  s.whenUp fun s =>
    let d := s.pr.dma[c]
    if s.get (DMA_STAT_STATE c) ≠ 1 ∨ ¬ d.fetch then s
    else match dmaWords 4 d.desc c s with
      | (.inr (a, r), u) => u.dmaFault c 4 a r true false
      | (.inl [w0, w1, w2, w3], u) =>
        if descOk w0 w1 w2 w3 then
          u.modDma c fun x => { x with src := w0, dst := w1, cnt := w2 % 65536, ctrl := w2, next := w3, fetch := false }
        else (u.modDma c fun x => { x with ctrl := w2 }).dmaStop c 9
      | (.inl _, u) => u

/-- The request line of a paced channel (R180). -/
def State.dmaLine (s : State) (req : Nat) : Bool :=
  let port := fun (k : Nat) (f : Port → Bool) => if h : k < 6 then f s.ports[k] else false
  let can := fun (k : Nat) (f : CanCh → Bool) => if h : k < 2 then f s.srv.can[k] else false
  match req with
  | 0 => true
  | 13 => can 0 fun x => decide (x.rxLeft < x.rxQ.length)
  | 14 => can 1 fun x => decide (x.rxLeft < x.rxQ.length)
  | 15 => can 0 fun x => decide (17 ≤ 512 - x.txQ.length)
  | 16 => can 1 fun x => decide (17 ≤ 512 - x.txQ.length)
  | 17 => s.srv.rpdo.any fun r => r.staged.isSome
  | 18 => decide (66 ≤ 512 - s.ring.txQ.length)
  | 19 => (match s.ring.rxQ with | _ :: w1 :: rest => decide ((bitsOf w1.toNat 8 0 + 3) / 4 ≤ rest.length) | _ => false)
  | 20 => s.tag.wired.isNone
  | 21 => !s.modCap.isEmpty
  | 22 => decide (4 ≤ s.fb.capQ.length)
  | k => if 1 ≤ k ∧ k ≤ 6 then port (k - 1) fun q => decide (q.tenQ.length < 256)
    else if 7 ≤ k ∧ k ≤ 12 then port (k - 7) fun q => !q.rxQ.isEmpty else false

/-- A channel is ready for a beat (R179). -/
def State.dmaReady (s : State) (c : Fin 32) : Bool :=
  let d := s.pr.dma[c]
  decide (c.1 < s.nDma) && s.get (DMA_STAT_STATE c) == 1 && !d.fetch && d.cnt != 0 &&
  (!bitOf d.ctrl 22 || s.dmaLine (s.get (DMA_REQ_REQ c)))

/-- The ready channels of a class, from the one after the last granted on, around. -/
def State.dmaRobin (s : State) (k : Fin 4) : Option (Fin 32) :=
  let l := (List.finRange 32).filter fun c => s.dmaReady c && s.get (DMA_CFG_CLASS c) == k.1
  match l.find? fun c => decide (s.pr.dmaLast[k] < c.1) with
  | some c => some c
  | none => l.head?

/-- The channel granted the next beat (R179). -/
def State.dmaGrant (s : State) : Option (Fin 4 × Fin 32) :=
  (List.finRange 4).findSome? fun k => (s.dmaRobin k).map fun c => (k, c)

/-- The addresses and the count move past a beat; the descriptor completes with its last one (R172, R176). -/
def State.dmaAdvance (s : State) (c : Fin 32) (n : Nat) : State :=
  let t := s.modDma c fun x => { x with src := if bitOf x.ctrl 18 then x.src else (x.src + n) % 2 ^ 32
                                        dst := if bitOf x.ctrl 19 then x.dst else (x.dst + n) % 2 ^ 32
                                        cnt := x.cnt - 1 }
  if t.pr.dma[c].cnt = 0 then t.dmaComplete c else t

/-- One beat of a channel (R174). -/
def State.dmaBeat (s : State) (c : Fin 32) : State :=
  let d := s.pr.dma[c]
  let n := 2 ^ bitsOf d.ctrl 17 16
  match s.check (s.dmaBy_ c) .load d.src n, s.check (s.dmaBy_ c) .store d.dst n with
  | some (r, _), _ => s.dmaFault c 2 d.src r false false
  | none, some (r, _) => s.dmaFault c 3 d.dst r false true
  | none, none =>
    match s.dmaRead c d.src n with
    | (none, u) => u.dmaFault c 5 d.src 8 false false
    | (some v, u) =>
      if isPeriph d.dst then (u.busWrite (s.get (DMA_CFG_OWNER c)) 4 d.dst (BitVec.ofNat 32 v)).dmaAdvance c n
      else match u.memWrite 4 none d.dst n v with
        | (true, w) => w.dmaAdvance c n
        | (false, w) => w.dmaFault c 5 d.dst 8 false true

/-- DMA_BEAT (R174, R179): the controller grants one beat to a ready channel of the highest class that has one, in round robin. -/
def execDmaBeat (s : State) : Host.Outcome State Fault Refusal := .next <|
  s.whenUp fun s =>
    match s.dmaGrant with
    | none => s
    | some (k, c) => ((s.modPr fun z => { z with dmaLast := s.pr.dmaLast.set k c.1 })).dmaBeat c

end Sys2Proof.Machine
end

