-- ==== Sys2Proof/Machine/CopyPoint.lean ====
section
/-! DEFINITION. The copy point (14_duty_standby.md, R433 to R436): the duty latches and sends its image, the standby latches its
feedback counters. -/

namespace Sys2Proof.Machine

/-- The counter of a feedback source by its channel code: INC_CNT, HALL_CNT, SSI_POS (R434). -/
def State.chanCnt (s : State) (c : Nat) : Nat :=
  if c < 8 then s.get (INC_CNT_V c) else if 0x10 ≤ c ∧ c < 0x18 then s.get (HALL_CNT_V (c - 0x10))
  else if 0x20 ≤ c ∧ c < 0x24 then s.get (SSI_POS_V (c - 0x20)) else 0

/-- A_D: the angle count of a feedback source (R434). -/
def State.angleCnt (s : State) (c : Nat) : Nat :=
  if c < 8 then (((s.get (INC_CNT_V c) : Int) - s.get (INC_REF_V c)) % (s.get (INC_CPR_CPR c) : Int)).toNat
  else if 0x10 ≤ c ∧ c < 0x18 then (s.sget (HALL_CNT_V (c - 0x10)) % (6 * s.get (HALL_CFG_PP (c - 0x10)) : Int)).toNat else 0

/-- Four little-endian bytes of a signed number. -/
def leInt4 (i : Int) : List Byte := leBytes 4 (toCode 32 i)

/-- AFLAGS of an axis block (R434). -/
def State.axisFlags (s : State) (a : Fin 8) : Nat :=
  b2n (s.flag (BRK_STAT_CMD a)) + b2n s.axes[a].emgReq * 2 + b2n s.axes[a].pendEmg * 4 + b2n (s.flag (ENG_STAT_DEGRADED a)) * 8 +
    b2n (s.flag (WN_STAT_SLACK a)) * 16 + b2n s.axes[a].inhibit * 32

/-- REFR: the ramped reference in force, per mille in TORQUE, else min^-1 (R434). -/
def State.refr (s : State) (a : Fin 8) : Int :=
  if s.axes[a].code = 2 then roundDiv 53 s.axes[a].tqRef tqUnit.toNat else roundDiv 53 s.axes[a].spdRef spdUnit.toNat

/-- The block of an axis, 64 bytes (R434). -/
def State.axisBlock (s : State) (a : Fin 8) : List Byte :=
  let x := s.axes[a]
  let c := s.get (ENG_FB_SRC a)
  leBytes 1 a.1 ++ leBytes 1 x.st.code ++ leBytes 1 (s.get (AX_MODESEL_MODESEL a)) ++ leBytes 1 x.code ++ leBytes 2 (s.get (AX_CW_CW a)) ++
    leBytes 1 (s.axisFlags a) ++ leBytes 1 (s.routeOf a) ++ leInt4 (s.refr a) ++ leInt4 (roundDiv 54 s.eng[a].tDem tqUnit.toNat) ++
    leInt4 (roundDiv 55 s.eng[a].intS 1000000000000) ++ leBytes 4 c ++ leBytes 4 (s.angleCnt c) ++ leBytes 4 (s.chanCnt c) ++
    leInt4 s.ring.members[a].r0 ++ leInt4 (roundDiv 56 s.ring.members[a].n0 65536) ++ List.replicate 24 0

/-- The included units of a group as bits by unit address (R434). -/
def State.inclBits (s : State) (g : Fin 16) : Nat :=
  (keyUnits (s.ring.groups[g].inc.map (·.1))).foldl (fun n u => n ||| 2 ^ u) 0

/-- The block of a group, 24 bytes (R434). -/
def State.groupBlock (s : State) (g : Fin 16) : List Byte :=
  leBytes 1 g.1 ++ leBytes 1 (s.grpState g) ++ leBytes 2 (s.get (GRP_STAT_LEADER g)) ++ leBytes 4 (s.get (GRP_STAT_PSEQ g)) ++
    leBytes 4 (s.get (GRP_G_V g)) ++ leBytes 4 (s.get (GRP_DEM_V g)) ++ leBytes 8 (s.inclBits g)

/-- Words of the user area from `a` on, each checked and read as a DMA beat of the tenant that last wrote CP_USRBASE; none where
one is refused (R435, R143). -/
def copyWords : Nat → Nat → State → Option (List Byte) × State
  | 0, _, s => (some [], s)
  | n + 1, a, s =>
    match s.check { tenant := s.cp.usrBy, dma := true } .load a 4 with
    | some _ => (none, s)
    | none =>
      let r := if isPeriph a then (let q := s.regRead s.cp.usrBy 5 a; (some q.1.toNat, q.2)) else s.memRead 5 a 4
      match r.1 with
      | none => (none, r.2)
      | some v => let q := copyWords n (a + 4) r.2; (q.1.map (leBytes 4 v ++ ·), q.2)

/-- The user block of a copy point, from the buffer selected before its edge: a flip on the edge takes effect at the next one (R435). -/
def State.userBlock (s : State) : Option (List Byte) × State :=
  copyWords (s.get CP_USRLEN_LEN / 4) (s.get CP_USRBASE_BASE * 16 + s.atEdge.get CP_STAT_USRBUF * 1024) s

/-- The image of epoch `n` (R434): the hardware fields of `s`, and the user block read after them. -/
def State.copyImage (s : State) (n flags : Nat) (user : List Byte) : List Byte :=
  let axes := (List.finRange 8).filter fun a => bitOf s.pairedAxes a.1
  let grps := (List.finRange 16).filter fun g => s.grpOn g
  let dark := (List.range 8).foldl (fun m i => m + b2n (s.flag (LAMP_STAT_DARK i)) * 2 ^ i) 0
  leBytes 4 n ++ leBytes 8 s.ring.ns ++ leBytes 4 (s.reg CP_SIG).toNat ++ leBytes 1 s.pairedAxes ++ leBytes 1 grps.length ++
    leBytes 2 user.length ++ leBytes 1 dark ++ leBytes 1 flags ++ List.replicate 10 0 ++ axes.flatMap s.axisBlock ++
    grps.flatMap s.groupBlock ++ user

/-- Originate a COPY frame to the partner, once the unit is joined (R436). -/
def State.copySend (s : State) (ty : Nat) (pay : List Byte) : State :=
  if s.ring.joined then s.originate ty (s.sysDst s.partnerAddr) pay else s

/-- The DATA frames of an image: its pieces of at most 1,024 bytes (R436). -/
def copyPieces (l : List Byte) : List (Nat × List Byte) := if l.length ≤ 1024 then [(0, l)] else [(0, l.take 1024), (1024, l.drop 1024)]

/-- The PAIR frame (R436). -/
def State.pairSend (s : State) : State :=
  s.copySend 0x33 (beBytes 1 (s.get CP_STAT_ROLE) ++ beBytes 1 (s.get ROLE_STAT_CODE) ++ beBytes 1 s.bg.snap ++
    beBytes 1 (s.get CP_STAT_PAIR) ++ beBytes 4 (s.reg CP_SIG).toNat ++ beBytes 4 (s.get CP_EPOCH_V) ++ beBytes 1 s.pairedAxes ++
    beBytes 1 (s.get CP_CFG_PER) ++ beBytes 1 (s.get CP_CFG_MAXAGE) ++ beBytes 1 (s.member.pick 1 3 5 9))

/-- The duty's burst of epoch `n`: DATA, TRAILER, COMMIT, and PAIR unless the COMMIT releases the claim (R436, R445, R430). -/
def State.copyBurst (s : State) (n : Nat) (img : List Byte) : State :=
  let ps := copyPieces img
  let s1 := ps.foldl (fun t p => t.copySend 0x30 (beBytes 4 n ++ beBytes 2 p.1 ++ beBytes 2 p.2.length ++ beBytes 2 0 ++ p.2)) s
  let s2 := s1.copySend 0x31 (beBytes 4 n ++ beBytes 2 img.length ++ beBytes 4 (crc32 img) ++ beBytes 2 ps.length)
  let ho := s.cp.ho == 1
  let s3 := s2.copySend 0x32 (beBytes 4 n ++ beBytes 4 (2 ^ 32 - 1 - n) ++ beBytes 1 (b2n ho))
  if ho then s3.modCp fun c => { c with ho := 2 } else s3.pairSend

/-- The duty's copy point (R433 to R436): the epoch counts up, and a refused user area leaves the epoch without a user block. -/
def State.dutyPoint (s : State) : State :=
  let n := (s.get CP_EPOCH_V + 1) % 2 ^ 32
  let u := s.userBlock
  let bad := u.1.isNone
  let img := s.copyImage n (b2n (s.cp.ho == 1) + 2 * b2n bad) (u.1.getD [])
  let t := u.2.put CP_EPOCH_V n
  (if bad then t.put CP_STAT_USRERR 1 else t).copyBurst n img

/-- The standby's copy point (R433, R436): the counter of each feedback source of a paired axis is latched, and PAIR is sent. -/
def State.standbyPoint (s : State) : State :=
  let cs := (((List.finRange 8).filter fun a => bitOf s.pairedAxes a.1).map fun a => s.get (ENG_FB_SRC a.1)).eraseDups
  (s.modCp fun c => { c with latch := cs.map fun k => (k, s.chanCnt k) }).pairSend

/-- COPY_POINT (R433): common time passes k periods and COFS; which edge that is the sender says. -/
def execCopyPoint (s : State) : Host.Outcome State Fault Refusal := .next <|
  s.whenUp fun s =>
    if !s.cpOn then s
    else
      let t := s.pairJudge
      if t.get CP_STAT_ROLE = 1 ∧ t.cp.claim = true then t.dutyPoint else if t.get CP_STAT_ROLE = 2 then t.standbyPoint else t

end Sys2Proof.Machine
end

