-- ==== Sys2Proof/Machine/Pdo.lean ====
section
/-! DEFINITION. The PDO engine (16_field_network.md): receive PDOs, SYNC, transmit PDOs and their timers (R490 to R498, R503). -/

namespace Sys2Proof.Machine

/-! ### Receive PDOs (R493 to R495) -/

/-- An entry of a received PDO: its place in the mapping, its map word, its value. -/
structure RpdoVal where
  place : Nat
  ent : MapEnt
  val : Nat
  deriving DecidableEq, Repr

/-- The entries of a payload, packed in order (R491). -/
def rpdoVals : Nat → List Nat → List Byte → List RpdoVal
  | _, [], _ => []
  | k, w :: t, d =>
    match mapEnt w with
    | some m => ⟨k, m, leNat (d.take (m.bits / 8))⟩ :: rpdoVals (k + 1) t (d.drop (m.bits / 8))
    | none => rpdoVals (k + 1) t d

/-- A word with an entry written into its bits. -/
def entMix (w : Word) (v : RpdoVal) : Word := withField w (v.ent.shift + v.ent.bits - 1) v.ent.shift v.val

/-- The entries of one register, as one word over what it holds. -/
def State.entWord (s : State) (l : List RpdoVal) (a : Nat) : Word := (l.filter fun v => v.ent.addr == a).foldl entMix (s.reg a)

/-- The registers written besides commands: the reference registers and group demands, at once (R18, R318). -/
def State.rpdoRefs (s : State) (l : List RpdoVal) : State :=
  (l.filter fun v => !(List.range 8).any fun x => v.ent.addr == AX_CW x || v.ent.addr == AX_MODESEL x).foldl
    (fun t v => t.setReg v.ent.addr (entMix (t.reg v.ent.addr) v)) s

/-- The commands of a PDO: each axis takes its mode before its controlword, as one command (R72). -/
def State.rpdoCmds (s : State) (l : List RpdoVal) : State :=
  let has := fun a => l.any fun v => v.ent.addr == a
  let m := forFin 8 (fun x t => if has (AX_MODESEL x) then t.writeMode x (fieldOf (t.entWord l (AX_MODESEL x)) 7 0) else t) s
  forFin 8 (fun x t => if has (AX_CW x) then t.writeCw x 1 (fieldOf (t.entWord l (AX_CW x)) 15 0) else t) m

/-- Entries that their register discards: AX_CW of an axis whose AX_CWSRC does not name the PDO engine (R71, R493). -/
def State.rpdoDiscards (s : State) (l : List RpdoVal) : List RpdoVal :=
  l.filter fun v => (List.range 8).any fun x => v.ent.addr == AX_CW x && s.get (AX_CWSRC_SRC x) != 1

/-- An RPDO to apply: its number, its bytes, and the registers that the other channel's frame of the same edge writes (R503). -/
structure RpdoIn where
  r : Fin 16
  data : List Byte
  taken : List Nat
  deriving DecidableEq, Repr

/-- Entries of an RPDO that name a register. -/
def State.rpdoNamed (s : State) (i : RpdoIn) : List RpdoVal := (rpdoVals 0 (s.mapWords false i.r) i.data).filter fun v => !v.ent.dummy

/-- Entries of an RPDO that are written. -/
def State.rpdoKept (s : State) (i : RpdoIn) : List RpdoVal := (s.rpdoNamed i).filter fun v => !i.taken.contains v.ent.addr

/-- Entries that the other channel's frame of the edge writes are counted and reported (R503). -/
def State.rpdoColl (s : State) (i : RpdoIn) : State :=
  ((s.rpdoNamed i).filter fun v => i.taken.contains v.ent.addr).foldl (fun t v => (t.bump PDO_STAT_COLL).emcy 0xFFA1 [i.r, v.place]) s

/-- What was staged for RPDO `r` before the frame of this edge, where one has been staged on it (R503). -/
def State.stagedNow (s : State) (r : Fin 16) : Option (Option (List Byte)) :=
  s.edge.marks.reverse.findSome? fun m => match m with | .staged q old => if q = r then some old else none | _ => none

/-- The frame of RPDO `r` that a SYNC applies: one staged on the edge of the SYNC waits for the next (R495, R503). -/
def State.stagedFor (s : State) (r : Fin 16) : Option (List Byte) :=
  match s.stagedNow r with
  | some old => old
  | none => s.srv.rpdo[r].staged

/-- An RPDO has been applied: EMCY 0xFFA2 for its first discarded entry, its count, events and event timer (R493). -/
def State.rpdoDone (s : State) (i : RpdoIn) (disc : List RpdoVal) : State :=
  let r := i.r
  let s2 := match disc with
    | [] => s.modSrv fun x => { x with rpdo := upd x.rpdo r fun y => { y with discSent := false } }
    | v :: _ =>
      if s.srv.rpdo[r].discSent then s
      else (s.emcy 0xFFA2 [r, v.place]).modSrv fun x => { x with rpdo := upd x.rpdo r fun y => { y with discSent := true } }
  let s3 := ((s2.wrapUp (pdoCount false r)).pdoEvt 0).raise ⟨PDO_RXEVT, 15, 0⟩ r 218
  (s3.mark (.applied r)).modSrv fun x => { x with rpdo := upd x.rpdo r fun y =>
    { y with timed := s.get (RPDO_CTL_EVTMS r) != 0, staged := if (s.stagedNow r).isSome then y.staged else none } }

/-- The RPDOs that complete on one edge are written on it together (R493 step 6): every axis takes its mode before its controlword, as one
command (R72). -/
def State.rpdoApply (s : State) (l : List RpdoIn) : State :=
  let vals := l.flatMap s.rpdoKept
  let s1 := ((l.foldl State.rpdoColl s).rpdoRefs vals).rpdoCmds vals
  l.foldl (fun t i => t.rpdoDone i (s.rpdoDiscards (s.rpdoKept i))) s1

/-- A frame of RPDO `r` is judged (R480, R494): the leading bytes of one that is not too short. -/
def State.rpdoJudge (s : State) (ch : Fin 2) (r : Fin 16) (data : List Byte) : Option (List Byte) × State :=
  let len := s.get (pdoLen false r)
  if s.nmt ≠ 2 ∨ ¬ bitOf (s.get (pdoMask false r)) ch then (none, s)
  else if data.length < len then (none, ((s.bump ⟨pdoBase false r + 16, 15, 8⟩).pdoEvt 3).emcy 0x8210 [r, data.length])
  else if len < data.length then
    let t := s.bump ⟨pdoBase false r + 16, 7, 0⟩
    (some (data.take len), if s.srv.rpdo[r].longSent then t
      else (t.emcy 0x8220 [r, data.length]).modSrv fun x => { x with rpdo := upd x.rpdo r fun y => { y with longSent := true } })
  else (some data, s.modSrv fun x => { x with rpdo := upd x.rpdo r fun y => { y with longSent := false } })

/-- A frame of RPDO `r` judged: a synchronous one is staged, a newer one replacing the staged one (R494, R495). -/
def State.rpdoFrame (s : State) (ch : Fin 2) (r : Fin 16) (data : List Byte) : State :=
  match s.rpdoJudge ch r data with
  | (none, t) => t
  | (some d, t) =>
    if t.get (pdoType false r) ≤ 240 then
      (t.mark (.staged r t.srv.rpdo[r].staged)).modSrv fun x => { x with rpdo := upd x.rpdo r fun y => { y with staged := some d } }
    else t

/-- RPDOs that a frame with an identifier matches (R493 step 2). -/
def State.rpdoMatch (s : State) (id : Nat) : List (Fin 16) :=
  if s.hasId then (List.finRange 16).filter fun r => !s.flag (pdoInvalid false r) && s.get (pdoId false r) == id else []

/-- The asynchronous RPDOs of a frame on channel `ch` (R493), but for entries of the registers in `taken`. -/
def State.rpdoAsync (s : State) (ch : Fin 2) (id : Nat) (data : List Byte) (taken : List Nat) : List RpdoIn :=
  if s.up && s.canOn ch then
    (s.rpdoMatch id).filterMap fun (r : Fin 16) =>
      if s.get (pdoType false r) ≤ 240 then none else (s.rpdoJudge ch r data).1.map fun d => ⟨r, d, taken⟩
  else []

/-- A frame for the PDO engine on channel `ch`, up to step 4 of R493. -/
def State.rpdoRx (s : State) (ch : Fin 2) (id : Nat) (data : List Byte) : State :=
  s.canRx ch fun s => (s.rpdoMatch id).foldl (fun t r => t.rpdoFrame ch r data) s

/-- RPDO_RX (R493 to R495, R503): a frame with identifier `id`. With `both`, a frame `id2` becomes valid on the other channel on the same
edge; where both write one register, CAN A's entry stands. -/
def execRpdoRx (ch : Fin 2) (id : BitVec 11) (data : List (BitVec 8)) (both : Bool) (id2 : BitVec 11) (data2 : List (BitVec 8)) (s : State) :
    Host.Outcome State Fault Refusal := .next <|
  if !both then (s.rpdoRx ch id.toNat data).rpdoApply (s.rpdoAsync ch id.toNat data [])
  else
    let fa := if ch = 0 then (id.toNat, data) else (id2.toNat, data2)
    let fb := if ch = 0 then (id2.toNat, data2) else (id.toNat, data)
    let a := s.rpdoAsync 0 fa.1 fa.2 []
    let taken := (a.flatMap s.rpdoNamed).map fun v => v.ent.addr
    ((s.rpdoRx 0 fa.1 fa.2).rpdoRx 1 fb.1 fb.2).rpdoApply (a ++ s.rpdoAsync 1 fb.1 fb.2 taken)

/-- RPDO_EVENT_TIMEOUT (R498): not on the edge on which the RPDO is applied (R503). -/
def execRpdoEventTimeout (r : Fin 16) (s : State) : Host.Outcome State Fault Refusal := .next <|
  s.whenUp fun s =>
    if !s.srv.rpdo[r].timed || s.marked (.applied r) || s.flag (pdoInvalid false r) || s.get (RPDO_CTL_EVTMS r) == 0 then s
    else
      let t := ((s.put (pdoLate false r) 1).pdoEvt 2).modSrv fun x => { x with rpdo := upd x.rpdo r fun y => { y with timed := false } }
      (t.emcy 0x8250 [r, s.get (pdoMask false r)]).commLoss 1 (s.get (RPDO_AXES_AXES r))

/-! ### Transmit PDOs (R497) -/

/-- The payload of a TPDO: its mapped bits, packed in order. -/
def State.tpdoData (s : State) (n : Fin 16) : List Byte :=
  (s.mapWords true n).flatMap fun w =>
    match mapEnt w with
    | some m => leBytes (m.bits / 8) ((if m.addr = errRegMap then s.errReg else (s.look 0 5 m.addr).toNat) / 2 ^ m.shift % 2 ^ m.bits)
    | none => []

/-- A TPDO may be sent: valid, with entries, Operational, by a unit that holds the claim, its inhibit time over (R424, R480, R497). -/
def State.tpdoMay (s : State) (n : Fin 16) : Bool :=
  !s.flag (pdoInvalid true n) && s.get (pdoNent true n) != 0 && s.nmt == 2 && s.hasId && !s.unclaimed &&
  (match s.srv.tpdo[n].sentAt with
   | some t => decide (t + 25000 * s.get (pdoInhibit n) ≤ s.clk)
   | none => true)

/-- Send a TPDO on its channels. -/
def State.tpdoSend (s : State) (n : Fin 16) (d : List Byte) : State :=
  let put := fun (ch : Fin 2) (t : State) => if bitOf (s.get (pdoMask true n)) ch then t.canPut ch (s.get (pdoId true n)) d else t
  let t := put 1 (put 0 s)
  ((t.wrapUp (pdoCount true n)).pdoEvt 1).modSrv fun x => { x with tpdo := upd x.tpdo n fun y => { y with last := some d, sentAt := some s.clk } }

/-- TPDO_TRANSMIT (R497): an event-driven TPDO, when its event timer expires (`timer`) or a mapped value has changed since it was last sent;
the first comparison finds a change. -/
def execTpdoTransmit (n : Fin 16) (timer : Bool) (s : State) : Host.Outcome State Fault Refusal := .next <|
  s.whenUp fun s =>
    let d := s.tpdoData n
    let due := (timer && s.get (pdoEvms true n) != 0) || s.srv.tpdo[n].last != some d
    if 254 ≤ s.get (pdoType true n) && due && s.tpdoMay n then s.tpdoSend n d else s

/-! ### SYNC (R495 to R497) -/

/-- A synchronous TPDO at a SYNC: type 0 when a value has changed, type k at every k-th. -/
def State.tpdoSync (s : State) (n : Fin 16) : State :=
  let ty := s.get (pdoType true n)
  if 240 < ty || s.flag (pdoInvalid true n) then s
  else if ty = 0 then
    (let d := s.tpdoData n
     if s.srv.tpdo[n].last != some d && s.tpdoMay n then s.tpdoSend n d else s)
  else
    let k := s.srv.tpdo[n].syncs + 1
    let t := s.modSrv fun x => { x with tpdo := upd x.tpdo n fun y => { y with syncs := if k < ty then k else 0 } }
    if k < ty || !t.tpdoMay n then t else t.tpdoSend n (t.tpdoData n)

/-- SYNC_RX (R495 to R497): at PDO_SYNC.COBID on its channel. The TPDOs sample before the staged RPDOs are applied: 20 clk and 52 clk after
the frame. -/
def execSyncRx (ch : Fin 2) (id : BitVec 11) (s : State) : Host.Outcome State Fault Refusal := .next <|
  s.canRx ch fun s =>
    if !s.flag PDO_SYNC_EN || s.get PDO_SYNC_COBID != id.toNat || s.get PDO_SYNC_CH != ch.1 || !s.hasId then s
    else
      let t := s.pdoEvt 4
      if t.nmt ≠ 2 then t
      else
        (forFin 16 (fun n u => u.tpdoSync n) t).rpdoApply
          ((List.finRange 16).filterMap fun r => (t.stagedFor r).map fun d => ⟨r, d, []⟩)

end Sys2Proof.Machine
end

