-- ==== Sys2Proof/Machine/Dispatch.lean ====
section
/-! DEFINITION. What each command does: one arm per constructor, one call of its meaning. -/

namespace Sys2Proof.Machine

def exec (i : Instr) (s : State) : Host.Outcome State Fault Refusal :=
  match i with
  | .registerWrite ten port a v => Sys2Proof.Machine.execRegisterWrite ten port a v s
  | .reg64LowRead ten port a => Sys2Proof.Machine.execReg64LowRead ten port a s
  | .reg64LowWrite ten port a v => Sys2Proof.Machine.execReg64LowWrite ten port a v s
  | .reg64HighWrite ten port a v => Sys2Proof.Machine.execReg64HighWrite ten port a v s
  | .instructionFetch c addr wide => Sys2Proof.Machine.execInstructionFetch c addr wide s
  | .load c addr size sgnd fp rd => Sys2Proof.Machine.execLoad c addr size sgnd fp rd s
  | .store c addr size v => Sys2Proof.Machine.execStore c addr size v s
  | .amo c op addr v rd => Sys2Proof.Machine.execAmo c op addr v rd s
  | .loadReserved c addr rd => Sys2Proof.Machine.execLoadReserved c addr rd s
  | .storeConditional c addr v rd => Sys2Proof.Machine.execStoreConditional c addr v rd s
  | .csrAccess c csr op src x0 rd => Sys2Proof.Machine.execCsrAccess c csr op src x0 rd s
  | .fenceI c => Sys2Proof.Machine.execFenceI c s
  | .wfi c => Sys2Proof.Machine.execWfi c s
  | .mret c => Sys2Proof.Machine.execMret c s
  | .illegalInstruction c => Sys2Proof.Machine.execIllegalInstruction c s
  | .backgroundSliceExpiry c => Sys2Proof.Machine.execBackgroundSliceExpiry c s
  | .scrubRead => Sys2Proof.Machine.execScrubRead s
  | .memerrInject ten c mode => Sys2Proof.Machine.execMemerrInject ten c mode s
  | .tenCoreWrite ten t v => Sys2Proof.Machine.execTenCoreWrite ten t v s
  | .eventStrobe e => Sys2Proof.Machine.execEventStrobe e s
  | .eventEntry c pc => Sys2Proof.Machine.execEventEntry c pc s
  | .evtCtlWrite ten e v => Sys2Proof.Machine.execEvtCtlWrite ten e v s
  | .doorbell n => Sys2Proof.Machine.execDoorbell n s
  | .dmaStart ten c => Sys2Proof.Machine.execDmaStart ten c s
  | .dmaStop ten c => Sys2Proof.Machine.execDmaStop ten c s
  | .dmaResume ten c => Sys2Proof.Machine.execDmaResume ten c s
  | .dmaAbandon ten c => Sys2Proof.Machine.execDmaAbandon ten c s
  | .dmaDescriptorFetch c => Sys2Proof.Machine.execDmaDescriptorFetch c s
  | .dmaBeat => Sys2Proof.Machine.execDmaBeat s
  | .psetShadowWrite g a k ten v => Sys2Proof.Machine.execPsetShadowWrite g a k ten v s
  | .psetCommit g a ten => Sys2Proof.Machine.execPsetCommit g a ten s
  | .psetDiscard g a ten => Sys2Proof.Machine.execPsetDiscard g a ten s
  | .powerOnReset sw lv => Sys2Proof.Machine.execPowerOnReset sw lv s
  | .selftestComplete failed => Sys2Proof.Machine.execSelftestComplete failed s
  | .badgerLateTimeout => Sys2Proof.Machine.execBadgerLateTimeout s
  | .stoInputOpen chB => Sys2Proof.Machine.execStoInputOpen chB s
  | .stoInputClose chB => Sys2Proof.Machine.execStoInputClose chB s
  | .stoDiscrepancyTimeout => Sys2Proof.Machine.execStoDiscrepancyTimeout s
  | .ss1DelayExpiry => Sys2Proof.Machine.execSs1DelayExpiry s
  | .channelRelease => Sys2Proof.Machine.execChannelRelease s
  | .haltNRelease => Sys2Proof.Machine.execHaltNRelease s
  | .shutdownReadback haltHigh pins => Sys2Proof.Machine.execShutdownReadback haltHigh pins s
  | .brakeFeedbackTimeout a relLow => Sys2Proof.Machine.execBrakeFeedbackTimeout a relLow s
  | .slsWindowEnd tap own => Sys2Proof.Machine.execSlsWindowEnd tap own s
  | .sealReread sw => Sys2Proof.Machine.execSealReread sw s
  | .guardInputOpen g chB => Sys2Proof.Machine.execGuardInputOpen g chB s
  | .guardInputClose g chB => Sys2Proof.Machine.execGuardInputClose g chB s
  | .guardDiscrepancyTimeout g => Sys2Proof.Machine.execGuardDiscrepancyTimeout g s
  | .scsLoad => Sys2Proof.Machine.execScsLoad s
  | .scsCommit => Sys2Proof.Machine.execScsCommit s
  | .scsCommandComplete => Sys2Proof.Machine.execScsCommandComplete s
  | .hbArm arm => Sys2Proof.Machine.execHbArm arm s
  | .hbChallenge chal => Sys2Proof.Machine.execHbChallenge chal s
  | .hbResponse w => Sys2Proof.Machine.execHbResponse w s
  | .lorPressDisagree a b => Sys2Proof.Machine.execLorPressDisagree a b s
  | .lorPressTimeout => Sys2Proof.Machine.execLorPressTimeout s
  | .lorActRelease pressed released => Sys2Proof.Machine.execLorActRelease pressed released s
  | .fieldbusLorRequest key => Sys2Proof.Machine.execFieldbusLorRequest key s
  | .fblorWindowExpiry => Sys2Proof.Machine.execFblorWindowExpiry s
  | .cwShutdown a src v => Sys2Proof.Machine.execCwShutdown a src v s
  | .cwSwitchOn a src v => Sys2Proof.Machine.execCwSwitchOn a src v s
  | .cwEnableOperation a src v => Sys2Proof.Machine.execCwEnableOperation a src v s
  | .cwDisableOperation a src v => Sys2Proof.Machine.execCwDisableOperation a src v s
  | .cwDisableVoltage a src v => Sys2Proof.Machine.execCwDisableVoltage a src v s
  | .cwQuickStop a src v => Sys2Proof.Machine.execCwQuickStop a src v s
  | .cwHalt a src v => Sys2Proof.Machine.execCwHalt a src v s
  | .cwFaultReset a src v => Sys2Proof.Machine.execCwFaultReset a src v s
  | .modeSelectWrite a code => Sys2Proof.Machine.execModeSelectWrite a code s
  | .cwsrcWrite a pdo => Sys2Proof.Machine.execCwsrcWrite a pdo s
  | .axInitWrite a v => Sys2Proof.Machine.execAxInitWrite a v s
  | .emergencyRequestOn a => Sys2Proof.Machine.execEmergencyRequestOn a s
  | .emergencyRequestOff a => Sys2Proof.Machine.execEmergencyRequestOff a s
  | .standstillReached a => Sys2Proof.Machine.execStandstillReached a s
  | .prechargeEnd a => Sys2Proof.Machine.execPrechargeEnd a s
  | .brakeLiftWaitEnd a => Sys2Proof.Machine.execBrakeLiftWaitEnd a s
  | .softwareSystemReset v => Sys2Proof.Machine.execSoftwareSystemReset v s
  | .preResetPhaseEnd n => Sys2Proof.Machine.execPreResetPhaseEnd n s
  | .watchdogKick v => Sys2Proof.Machine.execWatchdogKick v s
  | .watchdogExpiry => Sys2Proof.Machine.execWatchdogExpiry s
  | .rstNAssert => Sys2Proof.Machine.execRstNAssert s
  | .halduxResetExit => Sys2Proof.Machine.execHalduxResetExit s
  | .pllLock c => Sys2Proof.Machine.execPllLock c s
  | .pllLockLoss => Sys2Proof.Machine.execPllLockLoss s
  | .bootDoneSet => Sys2Proof.Machine.execBootDoneSet s
  | .tenantReset v got => Sys2Proof.Machine.execTenantReset v got s
  | .portReset v => Sys2Proof.Machine.execPortReset v s
  | .portEnable p => Sys2Proof.Machine.execPortEnable p s
  | .portDisable p => Sys2Proof.Machine.execPortDisable p s
  | .portResume p => Sys2Proof.Machine.execPortResume p s
  | .portHaltRequest p => Sys2Proof.Machine.execPortHaltRequest p s
  | .clearReentered p => Sys2Proof.Machine.execClearReentered p s
  | .haltNFall => Sys2Proof.Machine.execHaltNFall s
  | .spAlertNFall p => Sys2Proof.Machine.execSpAlertNFall p s
  | .haltStart p bits => Sys2Proof.Machine.execHaltStart p bits s
  | .slotBoundary p => Sys2Proof.Machine.execSlotBoundary p s
  | .alloffSequenceComplete p => Sys2Proof.Machine.execAlloffSequenceComplete p s
  | .satelliteReply p bits => Sys2Proof.Machine.execSatelliteReply p bits s
  | .tenantQueuePush p ten w => Sys2Proof.Machine.execTenantQueuePush p ten w s
  | .receiveFifoPop p => Sys2Proof.Machine.execReceiveFifoPop p s
  | .satAlloff p sels t alive swH swL => Sys2Proof.Machine.execSatAlloff p sels t alive swH swL s
  | .satEdge p k t alive payload => Sys2Proof.Machine.execSatEdge p k t alive payload s
  | .satEdgeS p sels t alive payload => Sys2Proof.Machine.execSatEdgeS p sels t alive payload s
  | .satRead p k f payload => Sys2Proof.Machine.execSatRead p k f payload s
  | .satWrite p k t alive payload cmp => Sys2Proof.Machine.execSatWrite p k t alive payload cmp s
  | .satConfigDone p k t alive => Sys2Proof.Machine.execSatConfigDone p k t alive s
  | .satFlagsClear p k t alive bits cmp => Sys2Proof.Machine.execSatFlagsClear p k t alive bits cmp s
  | .satErrcntClear p k t alive data => Sys2Proof.Machine.execSatErrcntClear p k t alive data s
  | .satStatus p k f payload => Sys2Proof.Machine.execSatStatus p k f payload s
  | .satTlmStart p k f payload => Sys2Proof.Machine.execSatTlmStart p k f payload s
  | .satTlmRead p k f payload => Sys2Proof.Machine.execSatTlmRead p k f payload s
  | .satDiagStart p k t alive payload => Sys2Proof.Machine.execSatDiagStart p k t alive payload s
  | .satDiagRead p k f payload => Sys2Proof.Machine.execSatDiagRead p k f payload s
  | .satSreset p k f payload => Sys2Proof.Machine.execSatSreset p k f payload s
  | .satReservedOpcode p k f => Sys2Proof.Machine.execSatReservedOpcode p k f s
  | .satBadCommand p k f => Sys2Proof.Machine.execSatBadCommand p k f s
  | .satHaltRecognition p k h => Sys2Proof.Machine.execSatHaltRecognition p k h s
  | .satSelectRelease p k => Sys2Proof.Machine.execSatSelectRelease p k s
  | .satClockAbsence p x => Sys2Proof.Machine.execSatClockAbsence p x s
  | .satReset p k => Sys2Proof.Machine.execSatReset p k s
  | .satEdgeEvent p k swH swL => Sys2Proof.Machine.execSatEdgeEvent p k swH swL s
  | .satTlmConversionDone p k result ovr => Sys2Proof.Machine.execSatTlmConversionDone p k result ovr s
  | .satDiagRunDone p k va vb tb => Sys2Proof.Machine.execSatDiagRunDone p k va vb tb s
  | .satUvEntry p k high neg now => Sys2Proof.Machine.execSatUvEntry p k high neg now s
  | .satGateSupplyCollapse p k high now => Sys2Proof.Machine.execSatGateSupplyCollapse p k high now s
  | .satScLatch p k sc => Sys2Proof.Machine.execSatScLatch p k sc s
  | .controlCycleStart a => Sys2Proof.Machine.execControlCycleStart a s
  | .filterOutputReady a raw => Sys2Proof.Machine.execFilterOutputReady a raw s
  | .modulatorStuck c => Sys2Proof.Machine.execModulatorStuck c s
  | .clearDegraded a => Sys2Proof.Machine.execClearDegraded a s
  | .clearSchedule a => Sys2Proof.Machine.execClearSchedule a s
  | .modCapturePop => Sys2Proof.Machine.execModCapturePop s
  | .incAbEdge n a b => Sys2Proof.Machine.execIncAbEdge n a b s
  | .indexPoint n z ill => Sys2Proof.Machine.execIndexPoint n z ill s
  | .wireFaultDetect c k => Sys2Proof.Machine.execWireFaultDetect c k s
  | .wireFaultClear c k => Sys2Proof.Machine.execWireFaultClear c k s
  | .speedStopTimeout c => Sys2Proof.Machine.execSpeedStopTimeout c s
  | .countWindowEnd n => Sys2Proof.Machine.execCountWindowEnd n s
  | .hallTransition h v => Sys2Proof.Machine.execHallTransition h v s
  | .hallInvalidTimeout h => Sys2Proof.Machine.execHallInvalidTimeout h s
  | .ssiReadStart k dat => Sys2Proof.Machine.execSsiReadStart k dat s
  | .ssiReadCommand k dat => Sys2Proof.Machine.execSsiReadCommand k dat s
  | .ssiReadComplete k v eof mono => Sys2Proof.Machine.execSsiReadComplete k v eof mono s
  | .tapSpeedSend k => Sys2Proof.Machine.execTapSpeedSend k s
  | .armReference n => Sys2Proof.Machine.execArmReference n s
  | .clearLoss c => Sys2Proof.Machine.execClearLoss c s
  | .clearLock n => Sys2Proof.Machine.execClearLock n s
  | .clearErrorCount c => Sys2Proof.Machine.execClearErrorCount c s
  | .clearIndexRecord n => Sys2Proof.Machine.execClearIndexRecord n s
  | .fbCapturePop => Sys2Proof.Machine.execFbCapturePop s
  | .lampWindowJudge n mA => Sys2Proof.Machine.execLampWindowJudge n mA s
  | .lampColdPulse n i1 i2 => Sys2Proof.Machine.execLampColdPulse n i1 i2 s
  | .lampOverload n => Sys2Proof.Machine.execLampOverload n s
  | .lampRetry n => Sys2Proof.Machine.execLampRetry n s
  | .lampClearCount n => Sys2Proof.Machine.execLampClearCount n s
  | .ainWindow k sum => Sys2Proof.Machine.execAinWindow k sum s
  | .brakeReleaseTimeout a => Sys2Proof.Machine.execBrakeReleaseTimeout a s
  | .brkFbChange a lifted => Sys2Proof.Machine.execBrkFbChange a lifted s
  | .brakeSetTimeout a => Sys2Proof.Machine.execBrakeSetTimeout a s
  | .slackLineDetect a => Sys2Proof.Machine.execSlackLineDetect a s
  | .drumOverspeedDetect a => Sys2Proof.Machine.execDrumOverspeedDetect a s
  | .emgInputChange a level => Sys2Proof.Machine.execEmgInputChange a level s
  | .erlActStart k pressed released => Sys2Proof.Machine.execErlActStart k pressed released s
  | .erlActEnd k => Sys2Proof.Machine.execErlActEnd k s
  | .erlActVoid k => Sys2Proof.Machine.execErlActVoid k s
  | .erlGovernorTick k => Sys2Proof.Machine.execErlGovernorTick k s
  | .gpiChange v => Sys2Proof.Machine.execGpiChange v s
  | .gpoOverload k => Sys2Proof.Machine.execGpoOverload k s
  | .ringEnable => Sys2Proof.Machine.execRingEnable s
  | .ringDisable => Sys2Proof.Machine.execRingDisable s
  | .ringRejoin => Sys2Proof.Machine.execRingRejoin s
  | .ringClearCount => Sys2Proof.Machine.execRingClearCount s
  | .ringForeignFrame => Sys2Proof.Machine.execRingForeignFrame s
  | .beaconTx => Sys2Proof.Machine.execBeaconTx s
  | .beaconRx onB fcs f res late => Sys2Proof.Machine.execBeaconRx onB fcs f res late s
  | .linkevtRx onB fcs f => Sys2Proof.Machine.execLinkevtRx onB fcs f s
  | .ringLinkChange onB lk => Sys2Proof.Machine.execRingLinkChange onB lk s
  | .pdelayTx => Sys2Proof.Machine.execPdelayTx s
  | .pdelayReqRx onB fcs f late => Sys2Proof.Machine.execPdelayReqRx onB fcs f late s
  | .pdelayRespRx onB fcs f late => Sys2Proof.Machine.execPdelayRespRx onB fcs f late s
  | .ringListenTimeout => Sys2Proof.Machine.execRingListenTimeout s
  | .beaconLossTimeout => Sys2Proof.Machine.execBeaconLossTimeout s
  | .electionTimeout => Sys2Proof.Machine.execElectionTimeout s
  | .fseqRecordLapse src => Sys2Proof.Machine.execFseqRecordLapse src s
  | .groupPeriodStart g => Sys2Proof.Machine.execGroupPeriodStart g s
  | .availRx onB fcs f => Sys2Proof.Machine.execAvailRx onB fcs f s
  | .sharePoint g => Sys2Proof.Machine.execSharePoint g s
  | .shareRx onB fcs f => Sys2Proof.Machine.execShareRx onB fcs f s
  | .sysPing onB fcs f => Sys2Proof.Machine.execSysPing onB fcs f s
  | .sysResetUnit onB fcs f => Sys2Proof.Machine.execSysResetUnit onB fcs f s
  | .sysMail onB fcs f => Sys2Proof.Machine.execSysMail onB fcs f s
  | .sysQuery onB fcs f => Sys2Proof.Machine.execSysQuery onB fcs f s
  | .sysUnknownCommand onB fcs f => Sys2Proof.Machine.execSysUnknownCommand onB fcs f s
  | .sysRespRx onB fcs f => Sys2Proof.Machine.execSysRespRx onB fcs f s
  | .queryTimeout osrc tid => Sys2Proof.Machine.execQueryTimeout osrc tid s
  | .bridgePass onB fcs f beyond => Sys2Proof.Machine.execBridgePass onB fcs f beyond s
  | .ringTxPush w => Sys2Proof.Machine.execRingTxPush w s
  | .ringRxPop => Sys2Proof.Machine.execRingRxPop s
  | .copyPoint => Sys2Proof.Machine.execCopyPoint s
  | .copyDataRx onB fcs f => Sys2Proof.Machine.execCopyDataRx onB fcs f s
  | .copyTrailerRx onB fcs f => Sys2Proof.Machine.execCopyTrailerRx onB fcs f s
  | .copyCommitRx onB fcs f => Sys2Proof.Machine.execCopyCommitRx onB fcs f s
  | .pairFrameRx onB fcs f => Sys2Proof.Machine.execPairFrameRx onB fcs f s
  | .partnerLineChange high => Sys2Proof.Machine.execPartnerLineChange high s
  | .claimTake => Sys2Proof.Machine.execClaimTake s
  | .claimTimerExpiry => Sys2Proof.Machine.execClaimTimerExpiry s
  | .portsQuiet since => Sys2Proof.Machine.execPortsQuiet since s
  | .quietCheckTimeout => Sys2Proof.Machine.execQuietCheckTimeout s
  | .claimConflict => Sys2Proof.Machine.execClaimConflict s
  | .handoverRequest => Sys2Proof.Machine.execHandoverRequest s
  | .handoverRelease => Sys2Proof.Machine.execHandoverRelease s
  | .userBufferFlip => Sys2Proof.Machine.execUserBufferFlip s
  | .copyClearCount => Sys2Proof.Machine.execCopyClearCount s
  | .snapshotStale => Sys2Proof.Machine.execSnapshotStale s
  | .partnerPairLost => Sys2Proof.Machine.execPartnerPairLost s
  | .seatingComplete sw lv => Sys2Proof.Machine.execSeatingComplete sw lv s
  | .benchDetect sw lv => Sys2Proof.Machine.execBenchDetect sw lv s
  | .presenceLost p1 p3 => Sys2Proof.Machine.execPresenceLost p1 p3 s
  | .feedChange onB valid collapsed sw lv => Sys2Proof.Machine.execFeedChange onB valid collapsed sw lv s
  | .brownOut => Sys2Proof.Machine.execBrownOut s
  | .parkRequest button => Sys2Proof.Machine.execParkRequest button s
  | .parkSafeToPull idle => Sys2Proof.Machine.execParkSafeToPull idle s
  | .parkHandoverTimeout => Sys2Proof.Machine.execParkHandoverTimeout s
  | .unpark => Sys2Proof.Machine.execUnpark s
  | .lampTestCommand => Sys2Proof.Machine.execLampTestCommand s
  | .bridgeDataRx resp f => Sys2Proof.Machine.execBridgeDataRx resp f s
  | .bridgeAckRx f => Sys2Proof.Machine.execBridgeAckRx f s
  | .bridgeNakRx f => Sys2Proof.Machine.execBridgeNakRx f s
  | .bridgeKeepRx f => Sys2Proof.Machine.execBridgeKeepRx f s
  | .bridgeResendTimeout => Sys2Proof.Machine.execBridgeResendTimeout s
  | .bridgeKeepTx => Sys2Proof.Machine.execBridgeKeepTx s
  | .bridgeLinkTimeout => Sys2Proof.Machine.execBridgeLinkTimeout s
  | .nmtStart ch node => Sys2Proof.Machine.execNmtStart ch node s
  | .nmtStop ch node => Sys2Proof.Machine.execNmtStop ch node s
  | .nmtEnterPreOperational ch node => Sys2Proof.Machine.execNmtEnterPreOperational ch node s
  | .nmtResetNode ch node => Sys2Proof.Machine.execNmtResetNode ch node s
  | .nmtResetCommunication ch node => Sys2Proof.Machine.execNmtResetCommunication ch node s
  | .sdoUpload ch idx sub served => Sys2Proof.Machine.execSdoUpload ch idx sub served s
  | .sdoDownload ch idx sub seg size data served => Sys2Proof.Machine.execSdoDownload ch idx sub seg size data served s
  | .sdoSegment ch cs toggle last data => Sys2Proof.Machine.execSdoSegment ch cs toggle last data s
  | .sdoTimeout ch => Sys2Proof.Machine.execSdoTimeout ch s
  | .rpdoRx ch id data both id2 data2 => Sys2Proof.Machine.execRpdoRx ch id data both id2 data2 s
  | .syncRx ch id => Sys2Proof.Machine.execSyncRx ch id s
  | .tpdoTransmit n timer => Sys2Proof.Machine.execTpdoTransmit n timer s
  | .rpdoEventTimeout r => Sys2Proof.Machine.execRpdoEventTimeout r s
  | .pdoCobidWrite tx n v => Sys2Proof.Machine.execPdoCobidWrite tx n v s
  | .heartbeatProduce => Sys2Proof.Machine.execHeartbeatProduce s
  | .serverKick v => Sys2Proof.Machine.execServerKick v s
  | .serverAliveLapse => Sys2Proof.Machine.execServerAliveLapse s
  | .heartbeatRx ch node => Sys2Proof.Machine.execHeartbeatRx ch node s
  | .heartbeatConsumerExpiry k => Sys2Proof.Machine.execHeartbeatConsumerExpiry k s
  | .canErrorPassive ch tec rec errs => Sys2Proof.Machine.execCanErrorPassive ch tec rec errs s
  | .canBusOff ch errs => Sys2Proof.Machine.execCanBusOff ch errs s
  | .canBusOffRecovery ch => Sys2Proof.Machine.execCanBusOffRecovery ch s
  | .canFrameIgnored ch => Sys2Proof.Machine.execCanFrameIgnored ch s
  | .canTxPush ch w => Sys2Proof.Machine.execCanTxPush ch w s
  | .canRxPop ch => Sys2Proof.Machine.execCanRxPop ch s
  | .emcyTransmit => Sys2Proof.Machine.execEmcyTransmit s
  | .errorHistoryClear ch v => Sys2Proof.Machine.execErrorHistoryClear ch v s
  | .storeParameters ch sub v ok => Sys2Proof.Machine.execStoreParameters ch sub v ok s
  | .restoreDefaults ch sub v ok => Sys2Proof.Machine.execRestoreDefaults ch sub v ok s
  | .storeAppend ten => Sys2Proof.Machine.execStoreAppend ten s
  | .storeDelete ten => Sys2Proof.Machine.execStoreDelete ten s
  | .storeCommit ten => Sys2Proof.Machine.execStoreCommit ten s
  | .storeAbort ten => Sys2Proof.Machine.execStoreAbort ten s
  | .storeFind ten => Sys2Proof.Machine.execStoreFind ten s
  | .storeErasebank ten => Sys2Proof.Machine.execStoreErasebank ten s
  | .storeProg ten => Sys2Proof.Machine.execStoreProg ten s
  | .storeVerify ten => Sys2Proof.Machine.execStoreVerify ten s
  | .storeAbandonbank ten => Sys2Proof.Machine.execStoreAbandonbank ten s
  | .storeConfirm ten => Sys2Proof.Machine.execStoreConfirm ten s
  | .storeFallback ten => Sys2Proof.Machine.execStoreFallback ten s
  | .storeCommandComplete ok => Sys2Proof.Machine.execStoreCommandComplete ok s
  | .backgroundEraseComplete => Sys2Proof.Machine.execBackgroundEraseComplete s
  | .reclaimStep => Sys2Proof.Machine.execReclaimStep s
  | .storeScanComplete => Sys2Proof.Machine.execStoreScanComplete s
  | .imageDownload ch image => Sys2Proof.Machine.execImageDownload ch image s
  | .optionRequestDownload ch data => Sys2Proof.Machine.execOptionRequestDownload ch data s
  | .tagRead block => Sys2Proof.Machine.execTagRead block s
  | .tagWrite block => Sys2Proof.Machine.execTagWrite block s
  | .tagPendingComplete => Sys2Proof.Machine.execTagPendingComplete s
  | .tagClearCount => Sys2Proof.Machine.execTagClearCount s
  | .tagClearRfw => Sys2Proof.Machine.execTagClearRfw s
  | .rfFieldChange on => Sys2Proof.Machine.execRfFieldChange on s
  | .rfStateTimeout inv => Sys2Proof.Machine.execRfStateTimeout inv s
  | .rfInventory maskLen mask => Sys2Proof.Machine.execRfInventory maskLen mask s
  | .rfStayQuiet => Sys2Proof.Machine.execRfStayQuiet s
  | .rfSelect mine => Sys2Proof.Machine.execRfSelect mine s
  | .rfResetToReady mode => Sys2Proof.Machine.execRfResetToReady mode s
  | .rfReadBlock mode ext first n => Sys2Proof.Machine.execRfReadBlock mode ext first n s
  | .rfWriteBlock mode ext block data => Sys2Proof.Machine.execRfWriteBlock mode ext block data s
  | .rfLockBlock mode ext block => Sys2Proof.Machine.execRfLockBlock mode ext block s
  | .rfGetSystemInfo mode ext => Sys2Proof.Machine.execRfGetSystemInfo mode ext s
  | .rfGetBlockSecurity mode ext first n => Sys2Proof.Machine.execRfGetBlockSecurity mode ext first n s
  | .rfUnsupportedCommand mode => Sys2Proof.Machine.execRfUnsupportedCommand mode s
  | .backgroundSelftestFail test => Sys2Proof.Machine.execBackgroundSelftestFail test s
  | .ebreak c => Sys2Proof.Machine.execEbreak c s
  | .satUvExit p k high neg => Sys2Proof.Machine.execSatUvExit p k high neg s
  | .satGateSupplyReturn p k high => Sys2Proof.Machine.execSatGateSupplyReturn p k high s
  | .satResetExit p k => Sys2Proof.Machine.execSatResetExit p k s
  | .haltFrameTwelfthEdge p => Sys2Proof.Machine.execHaltFrameTwelfthEdge p s
  | .presencePinContact pin3 contact => Sys2Proof.Machine.execPresencePinContact pin3 contact s
  | .canErrorActive ch tec rec errs => Sys2Proof.Machine.execCanErrorActive ch tec rec errs s
  | .unknownTypeFrame onB fcs f => Sys2Proof.Machine.execUnknownTypeFrame onB fcs f s

end Sys2Proof.Machine
end

