-- ==== Sys2Proof/Safety.lean ====
section
/-! DEFINITION. What counts as a sound state, and which parts of the state two states share: the terms in which invariants and frames
are stated. -/

namespace Sys2Proof.Machine

/-! ### Sound states -/

/-- The server: its objects in canonical form, at most 32 EMCYs waiting and 16 in the history (R500), at most 512 words in each CAN
receive FIFO (R504). -/
structure SoundSrv (x : Srv) : Prop where
  objs : sparseWf objDefault 0 x.objs = true
  emcy : x.emcyQ.length ≤ 32
  hist : x.hist.length ≤ 16
  rx : ∀ ch : Fin 2, x.can[ch].rxQ.length ≤ 512

/-- A port: at most 128 words in the receive FIFO and 256 in the tenant queue (R202, R208). -/
structure SoundPort (q : Port) : Prop where
  rx : q.rxQ.length ≤ 128
  ten : q.tenQ.length ≤ 256

/-- A sound state: every sparse store of the model in its one canonical form, and no FIFO longer than the manual lets it be (R202,
R208, R351, R416, R500, R504; MOD_CAPCFG). -/
structure Sound (s : State) : Prop where
  regs : sparseWf resetWord 0 s.regs = true
  mem : sparseWf memDefault 0 s.mem = true
  memErr : sparseWf (fun _ => 0) 0 s.memErr = true
  hold : sparseWf (fun _ => 0) 0 s.hold = true
  tag : sparseWf (fun _ => 0) 0 s.tag.blocks = true
  srv : SoundSrv s.srv
  capQ : s.fb.capQ.length ≤ 256
  modCap : s.modCap.length ≤ 256
  ringTx : s.ring.txQ.length ≤ 512
  ringRx : s.ring.rxQ.length ≤ 512
  ports : ∀ p : Fin 6, SoundPort s.ports[p]

/-! ### Parts of the state -/

/-- The parts of the state a frame speaks of: the fields of `State`, and the registers by block of 64 KiB of the register map, 0 for
0x4000_0000 to 27 for 0x401B_0000 (R32). -/
inductive Part
  | clk | freeCtr | wire | rdata | hold | pend64 | mem | memErr | sys | bg | axes | ports | sats | waiting | srv | cp | eng | gain | route
  | tension | lio | fb | modCap | ring | pr | bear | store | tag
  | regs (block : Fin 32)
  deriving DecidableEq, Repr

/-- Two states agree in a part. -/
def Part.same (p : Part) (s t : State) : Prop :=
  match p with
  | .clk => t.clk = s.clk
  | .freeCtr => t.freeCtr = s.freeCtr
  | .wire => t.wire = s.wire
  | .rdata => t.rdata = s.rdata
  | .hold => t.hold = s.hold
  | .pend64 => t.pend64 = s.pend64
  | .mem => t.mem = s.mem
  | .memErr => t.memErr = s.memErr
  | .sys => t.sys = s.sys
  | .bg => t.bg = s.bg
  | .axes => t.axes = s.axes
  | .ports => t.ports = s.ports
  | .sats => t.sats = s.sats
  | .waiting => t.waiting = s.waiting
  | .srv => t.srv = s.srv
  | .cp => t.cp = s.cp
  | .eng => t.eng = s.eng
  | .gain => t.gain = s.gain
  | .route => t.route = s.route
  | .tension => t.tension = s.tension
  | .lio => t.lio = s.lio
  | .fb => t.fb = s.fb
  | .modCap => t.modCap = s.modCap
  | .ring => t.ring = s.ring
  | .pr => t.pr = s.pr
  | .bear => t.bear = s.bear
  | .store => t.store = s.store
  | .tag => t.tag = s.tag
  | .regs b => ∀ a : Nat, a / 65536 % 32 = b.1 → t.reg a = s.reg a

/-- A frame: the queue, the member and the time are as before, and so is every part not listed. The record of the present edge is the
model's own and no part (log entry 2). -/
def State.onlyChanges (s t : State) (ps : List Part) : Prop :=
  t.pending = s.pending ∧ t.member = s.member ∧ t.time = s.time ∧ ∀ p : Part, p ∉ ps → p.same s t

/-- Every register block. -/
def Part.allRegs : List Part := (List.finRange 32).map Part.regs

/-- The listed parts and every register block. -/
def Part.withRegs (l : List Part) : List Part := l ++ Part.allRegs

/-- Within a block of registers only the listed addresses may hold another value. -/
def State.keepsRegs (s t : State) (block : Fin 32) (but : List Nat) : Prop :=
  ∀ a : Nat, a / 65536 % 32 = block.1 → a ∉ but → t.reg a = s.reg a

/-- Only the satellite on select `k` of port `p` may be another. -/
def State.keepsOtherSats (s t : State) (p : Fin 6) (k : Fin 8) : Prop :=
  ∀ (q : Fin 6) (j : Fin 8), q ≠ p ∨ j ≠ k → t.sat q j = s.sat q j

/-- Only port `p` may be another. -/
def State.keepsOtherPorts (s t : State) (p : Fin 6) : Prop := ∀ q : Fin 6, q ≠ p → t.ports[q] = s.ports[q]

/-- Only axis `a` may be another. -/
def State.keepsOtherAxes (s t : State) (a : Fin 8) : Prop := ∀ b : Fin 8, b ≠ a → t.axes[b] = s.axes[b]

/-- A satellite out of reset with no frame open on it: the next command frame reaches it (R223, R263). -/
def State.listens (s : State) (p : Fin 6) (k : Fin 8) : Prop := (s.sat p k).inReset = false ∧ (s.sat p k).frame = .idle

/-- A satellite that has taken a good frame and carries its command out (R197). -/
def State.heard (s : State) (p : Fin 6) (k : Fin 8) (f : CmdFrame) : Sat := ((s.sat p k).framed f.t).accept f.alive

/-- The one message put on the lines is the reply word `w` of the satellite on select `k` of port `p` (R192). -/
def State.replied (s t : State) (p : Fin 6) (k : Fin 8) (w : Nat) : Prop := t.wire = ⟨.reply p k, [w], leBytes 5 w⟩ :: s.wire

/-- Lock-out latched with cause `c` and index `i` (R37, R57): both channels and the permit at their safe levels, the cause in the map,
and, if lock-out was not latched before, the first cause; a first cause already recorded stays. -/
def State.lockedOut (s t : State) (c i : Nat) : Prop :=
  t.bg.latched = true ∧ t.bg.haltN = false ∧ t.bg.gpeN = true ∧ t.bg.permit = false ∧ bitOf t.bg.causes c = true ∧
    (t.bg.first, t.bg.index) = if s.bg.latched then (s.bg.first, s.bg.index) else (c, i)

/-- The channels and the brake permit at their safe levels (R37). -/
def State.cutLevels (t : State) : Prop := t.bg.haltN = false ∧ t.bg.gpeN = true ∧ t.bg.permit = false

/-- A command of axis `a` is refused (R74): command code and reason recorded, the axis left in its state, mode, ramp and step. -/
def State.refuses (s t : State) (a : Fin 8) (cmd reason : Nat) : Prop :=
  t.get (AX_REFUSE_REASON a) = reason ∧ t.get (AX_REFUSE_CMD a) = cmd ∧ t.axes[a].st = s.axes[a].st ∧
    t.axes[a].mode = s.axes[a].mode ∧ t.axes[a].ramp = s.axes[a].ramp ∧ t.axes[a].step = s.axes[a].step

/-- Axis `a` is in Fault with error code `err` after a fast halt (R78, R89): no edges published, its brake commanded set. -/
def State.faulted (t : State) (a : Fin 8) (err : Nat) : Prop :=
  t.axes[a].st = .fault ∧ t.get (AX_ERR_ERRCODE a) = err ∧ t.get (ENG_STAT_EDGES a) = 0 ∧ t.get (BRK_STAT_CMD a) = 0

/-- The one EMCY queued has this code and these bytes; a full queue counts it as lost instead (R500). -/
def State.queued (s t : State) (code : Nat) (bytes : List Nat) : Prop :=
  if s.srv.emcyQ.length < 32 then t.srv.emcyQ = s.srv.emcyQ ++ [⟨code, bytes⟩] else t.srv.emcyLost = s.srv.emcyLost + 1

/-- Nothing has happened yet on the present CLKS edge that the rules on coinciding causes speak of (log entry 2). -/
def State.quietEdge (s : State) : Prop := s.edge.marks = [] ∧ s.edge.sets = []

/-- Nothing has happened yet on the present edge, and the references, the feedback and the live parameter groups stand as at its beginning,
which is what the engine samples (R17, R315). -/
def State.steadyEdge (s : State) : Prop := s.quietEdge ∧ s.atEdge = s

/-- The link of a ring port is up. -/
def State.linkUp (s : State) (onB : Bool) : Bool := if onB then s.ring.linkB else s.ring.linkA

/-- A frame of TYPE `ty` for `dst` with payload `pay` is originated with the next FSEQ, and stands on the lines of each of the named
ring ports whose link is up, with a good FCS (R390, R392). -/
def State.sentOn (s t : State) (ports : List Bool) (ty dst hops : Nat) (pay : List Byte) : Prop :=
  t.ring.fseq = (s.ring.fseq + 1) % 65536 ∧
    ∀ onB : Bool, onB ∈ ports → s.linkUp onB = true → ⟨.ring, [b2n onB, 1], t.ringFrame ty dst hops onB pay⟩ ∈ t.wire

/-- The same on both ports, with HOPS 64 (R392). -/
def State.sent (s t : State) (ty dst : Nat) (pay : List Byte) : Prop := s.sentOn t [false, true] ty dst 64 pay

/-- A joined unit accepts the frame of TYPE `ty` (R394): good FCS, the ring's EtherType and version, from another unit, for this unit
or for all of its ring, and newer than the last frame accepted from its source. -/
def State.hears (s : State) (fcs : Bool) (f : List Byte) (ty : Nat) : Prop :=
  s.up = true ∧ fcs = true ∧ s.ring.joined = true ∧ fget f 12 2 = 0x88B5 ∧ fget f 14 1 / 16 = 1 ∧ fget f 15 1 = ty ∧
    s.ownSrc f = false ∧ s.dstOurs f = true ∧ s.ring.newer (fget f 16 2) (fget f 20 2) = true

/-- Frames of ring port `onB` are forwarded (R393): a frame whose HOPS is above 1 goes out on the other port, if its link is up, with
HOPS one lower and otherwise as received. -/
def State.forwards (s t : State) (onB fcs : Bool) (f : List Byte) : Prop :=
  1 < fget f 22 1 → s.linkUp (!onB) = true → ⟨.ring, [b2n (!onB), b2n fcs], fput f 22 1 (fget f 22 1 - 1)⟩ ∈ t.wire

/-- Every register that a reset does not keep, but those listed, reads its reset value (R92). -/
def State.regsReset (t : State) (but : List Nat) : Prop := ∀ a : Nat, keptOverReset a = false → a ∉ but → t.reg a = resetWord a

/-- Every register that a reset keeps, but those listed, is as before (R92). -/
def State.regsKept (s t : State) (but : List Nat) : Prop := ∀ a : Nat, keptOverReset a = true → a ∉ but → t.reg a = s.reg a

/-- Registers that show input levels (R92). -/
def levelRegs : List Nat := [GPI_LVL, EMG_LVL] ++ (List.range 8).map BRK_STAT

/-- Haldux is in reset for a request of system scope (R92, R122): every axis, port and DMA channel and every core at its reset state, the
claim released, the queues empty, the source recorded and the reset counted. -/
def State.inReset (s t : State) (src : RstSource) : Prop :=
  t.sys.phase = .held ∧ t.axes = Vector.replicate 8 {} ∧ t.ports = Vector.replicate 6 {} ∧ t.pr = {} ∧ t.ring = {} ∧
    t.cp.claim = false ∧ t.srv.emcyQ = [] ∧ t.get RST_HIST_HIST = (s.get RST_HIST_HIST * 16 + src.code) % 2 ^ 32 ∧
    t.get RST_CNT_SYSCNT = satInc (2 ^ RST_CNT_SYSCNT.width - 1) (s.get RST_CNT_SYSCNT)

/-- The pre-reset phase has begun for a source (R93, R94): the flag of the source, cores stopped, claim released, no axis in operation,
every streaming port asked to halt, and, with the supervisor powered, the channels at their safe levels. -/
def State.inPreReset (s t : State) (src : RstSource) : Prop :=
  t.sys.phase = .pre ∧ t.sys.preSrc = some src ∧ bitOf (t.get ⟨RST_CAUSE, 8, 0⟩) (src.code - 1) = true ∧
    (∀ c : Fin 4, t.pr.cores[c].run = none) ∧ t.cp.claim = false ∧ (∀ a : Fin 8, t.isSafe a = true) ∧
    (∀ p : Fin 6, s.ports[p].st = .stream → t.ports[p].haltDue.isSome = true) ∧
    (s.bg.powered = true → t.cutLevels)

/-- The whole unit has been reset at a start of the power-on family (R92, R117 step 2): every axis, port and core at its reset state, the
source recorded, the clocks waiting for the PLL, and the supervisor with the snapshot `sw` of the seal switches. -/
def State.started (t : State) (src : RstSource) (sw : BitVec 8) : Prop :=
  t.sys.phase = .wait ∧ t.sys.cold = true ∧ t.get RST_HIST_HIST = src.code ∧ t.bg.powered = true ∧ t.bg.snap = sw.toNat ∧
    t.bg.selftest = .running ∧ t.bg.haltN = false ∧ t.bg.gpeN = true ∧ t.bg.permit = false ∧
    t.axes = Vector.replicate 8 {} ∧ t.ports = Vector.replicate 6 {} ∧ t.pr = {} ∧ t.memErr = []

/-- Every byte of memory but the `n` from `a` on reads as before. -/
def State.keepsBytes (s t : State) (a n : Nat) : Prop := ∀ b : Nat, b < a ∨ a + n ≤ b → t.memByte b = s.memByte b

/-- The server has sent one answer on channel `ch` (R486). -/
def State.answered (s t : State) (ch : Fin 2) (b : List Byte) : Prop :=
  t.wire = ⟨.can ch, [0x580 + s.nodeId, b2n (s.flag (CAN_CFG_FD ch))], b⟩ :: s.wire

/-- The server of a unit in Pre-operational or Operational serves a request on channel `ch` and answers it (R480, R482, R483, R486); no
transfer is open on the channel. -/
def State.serves (s : State) (ch : Fin 2) : Prop :=
  s.up = true ∧ s.canOn ch = true ∧ s.canTx ch = true ∧ s.nmt ≠ 0 ∧ s.nmt ≠ 3 ∧ s.get PDO_HB_ALIVE = 1 ∧ s.serverUp = true ∧
    s.srv.xfer[ch] = none

/-- Tenant `x` runs on the present core `c` of a clocked unit. -/
def State.runs (s : State) (c : Fin 4) (x : Fin 8) : Prop := s.up = true ∧ c.1 < s.nCores ∧ s.pr.cores[c].run = some x

/-- An exception of tenant `x` on core `c` is delivered (R166, R167): cause and value recorded, the pc saved and moved to the base of mtvec,
M mode with interrupts held off, and one exception more under way. -/
def State.trapped (s t : State) (x : Fin 8) (cause : Word) : Prop :=
  t.pr.banks[x].mcause = cause ∧ t.pr.banks[x].mepc = s.pr.banks[x].pc ∧ t.pr.banks[x].pc = s.pr.banks[x].mtvec &&& 0xFFFFFFFC ∧
    t.pr.banks[x].umode = false ∧ bitOf t.pr.banks[x].mstatus.toNat 3 = false ∧ t.pr.banks[x].exc = s.pr.banks[x].exc + 1

/-- Integer register `rd` of tenant `x` takes `v`, x0 stays as it is, and the other registers too (R123). -/
def State.setsX (s t : State) (x : Fin 8) (rd : Fin 32) (v : Word) : Prop :=
  t.pr.banks[x].x = if rd = 0 then s.pr.banks[x].x else s.pr.banks[x].x.set rd v

/-- The register at `a` has no rule of its own: a write of it is no command, is refused for no value and needs no idle state, so that the
access codes of its fields alone say what it does (R6). The tenant window unit, the DMA channels and the 64-bit registers have rules. -/
def plainAt (a : Nat) : Bool :=
  let o := a % 0x10000
  match a / 0x10000 with
  | 0x4000 => !([BOOT_CTRL, WDT_KICK, SYS_RST, TEN_RST, PORT_RST, BEAR_PARK, BEAR_LTEST].contains a)
  | 0x4001 => !([BG_HB_RESP, BG_HB_CTRL, BG_FBLOR, BG_SCS_CMD].contains a)
  | 0x4003 => !decide (0x1000 ≤ o ∧ o < 0x1C00) && a != EVT_SET
  | 0x4010 => decide (o < 0x6000) && !([0x0, 0x4, 0x8, 0xC, 0x10, 0x18, 0x20].contains (a % 0x1000))
  | 0x4011 => decide (o < 0x8000) && !([0x0, 0x8, 0x10, 0x14, 0x38, 0xA8, 0xB0, 0xB4, 0xF4].contains (a % 0x1000)) &&
      !decide (0x40 ≤ a % 0x1000 ∧ a % 0x1000 ≤ 0x68) && !decide (0x80 ≤ a % 0x1000 ∧ a % 0x1000 < 0xA8)
  | 0x4012 => decide (0x420 ≤ o)
  | 0x4013 => decide (o < 0x100) || decide (0x500 ≤ o ∧ o < 0x600) || decide (0x900 ≤ o)
  | 0x4014 => !isLow64 a && !isHigh64 a && !([0x0, 0x4, 0x50].contains o) && !decide (0x900 ≤ o ∧ o < 0x920) &&
      !(decide (0x100 ≤ o ∧ o < 0x900) && [0x0, 0x4, 0x8].contains (o % 0x80))
  | 0x4015 => decide (o < 0x200) && !([0x0, 0x4, 0x8, 0x24].contains (a % 0x100))
  | 0x4016 => a != PDO_KICK && !decide (0x20 ≤ o ∧ o < 0x30) && !decide (0x100 ≤ o ∧ o < 0x1100)
  | 0x4017 => !([TAG_CTRL, TAG_CLR].contains a)
  | 0x4018 => (decide (0x100 ≤ o ∧ o < 0x180) && !([0x0, 0x4].contains (o % 16))) || (decide (0x400 ≤ o ∧ o < 0x480) && o % 16 != 0) ||
      (decide (0x480 ≤ o) && !decide (0x510 ≤ o ∧ o < 0x530) && !([GPO_OUT, GPI_CFG].contains a))
  | 0x4019 => a != STORE_CMD
  | 0x401A => !([CP_CFG, CP_AX, CP_TO, CP_USRBASE, CP_USRLEN, CP_SIG, CP_CTRL].contains a)
  | _ => false

/-- Tenant `ten` may write bit `i` of the register at `a`, whose row is `r`, by the access code of the bit: RW always, RWB tenant 0 before
BOOT_DONE, RWS in the SERVICE condition, RWC there, before BOOT_DONE, and with every axis in SAFE while no safety configuration set is
accepted; a bit of an absent instance never (R6, R10, R25, R64). -/
def State.bitWritable (s : State) (ten a : Nat) (r : RegRow) (i : Nat) : Bool :=
  let boot : Bool := ten == 0 && !s.bootDone
  !bitOf (s.absentBits a) i && (bitOf r.rw i || (bitOf r.rwb i && boot) || (bitOf r.rws i && s.serviceNow) ||
    (bitOf r.rwc i && (s.serviceNow || boot || (s.bg.accepted.isNone && s.allSafe 255))))

end Sys2Proof.Machine
end

