-- ==== Sys2Proof/WellFormed.lean ====
section
/-! DEFINITION. Well-formed commands: the operands a sender can put on a line, a bus or a pin of the block. The meanings are total: they
answer on every operand. -/

namespace Sys2Proof.WellFormed

/-- A register address: a word of the peripheral space (R9, R32). -/
def regAddr (a : Nat) : Bool := decide (0x40000000 ≤ a) && decide (a < 0x40200000) && a % 4 == 0

/-- A program address: instructions begin on even addresses (R123). -/
def evenPc (a : BitVec 32) : Bool := a.toNat % 2 == 0

/-- The number of an event source: 0 to 767 (R155). -/
def eventNumber (e : BitVec 10) : Bool := decide (e.toNat < 768)

/-- A word of a parameter group: 10 words of gains, 1 of the route, 5 of tension (R181). -/
def groupWord (g : Fin 3) (k : Fin 10) : Bool :=
  match g with
  | 0 => true
  | 1 => k == 0
  | 2 => decide (k.1 < 5)

/-- One entry for each of the six ports of the largest member. -/
def onPorts {α : Type} (l : List α) : Bool := l.length == 6

/-- Bits sampled of one frame on SDIO: at most the 64 of a word of a raw frame (R205); a JALZIL reply gives 41 (R200). -/
def frameBits (l : List Bool) : Bool := decide (l.length ≤ 64)

/-- Filter outputs of at most eight channels, each within full scale (R290). -/
def filterWords (l : List Int) : Bool := decide (l.length ≤ 8) && l.all fun x => decide (-32768 ≤ x) && decide (x ≤ 32767)

/-- A Potrix frame without its FCS: 60 to 1,514 bytes (R390). -/
def ringLength (f : List (BitVec 8)) : Bool := decide (60 ≤ f.length) && decide (f.length ≤ 1514)

/-- The bytes of a bridge frame (R460): a header and at most one Potrix frame. -/
def bridgeLength (f : List (BitVec 8)) : Bool := decide (f.length ≤ 1600)

/-- The data of a CAN FD frame: at most 64 bytes (R476, CiA 1301). -/
def canLength (d : List (BitVec 8)) : Bool := decide (d.length ≤ 64)

/-- A range of tag blocks: at least one, within the 4,096 blocks (R543). -/
def blockRange (first n : Nat) : Bool := decide (1 ≤ n) && decide (first + n ≤ 4096)

/-- Bytes of one object download: at most the 8 MiB of a code bank (R514, R533). -/
def imageLimit : Nat := 8388608

end Sys2Proof.WellFormed

namespace Sys2Proof

open Sys2Proof.WellFormed

/-- The operands of a command are ones a sender can give it. -/
def Instr.wf (i : Instr) : Bool :=
  match i with
  | .registerWrite _ _ a _ => regAddr a
  | .reg64LowRead _ _ a => regAddr a
  | .reg64LowWrite _ _ a _ => regAddr a
  | .reg64HighWrite _ _ a _ => regAddr a
  | .instructionFetch _ addr _ => evenPc addr
  | .load _ _ size _ fp _ => !fp || size == 2
  | .eventStrobe e => eventNumber e
  | .eventEntry _ pc => evenPc pc
  | .evtCtlWrite _ e _ => eventNumber e
  | .doorbell n => eventNumber n
  | .psetShadowWrite g _ k _ _ => groupWord g k
  | .tenantReset _ got => onPorts got
  | .haltStart _ bits => frameBits bits
  | .satelliteReply _ bits => frameBits bits
  | .filterOutputReady _ raw => filterWords raw
  | .ssiReadComplete _ v _ _ => decide (v < 2 ^ 32)
  | .ainWindow _ sum => decide (sum ≤ 10 * 65535)
  | .beaconRx _ _ f _ _ => ringLength f
  | .linkevtRx _ _ f => ringLength f
  | .pdelayReqRx _ _ f _ => ringLength f
  | .pdelayRespRx _ _ f _ => ringLength f
  | .availRx _ _ f => ringLength f
  | .shareRx _ _ f => ringLength f
  | .sysPing _ _ f => ringLength f
  | .sysResetUnit _ _ f => ringLength f
  | .sysMail _ _ f => ringLength f
  | .sysQuery _ _ f => ringLength f
  | .sysUnknownCommand _ _ f => ringLength f
  | .sysRespRx _ _ f => ringLength f
  | .bridgePass _ _ f _ => ringLength f
  | .copyDataRx _ _ f => ringLength f
  | .copyTrailerRx _ _ f => ringLength f
  | .copyCommitRx _ _ f => ringLength f
  | .pairFrameRx _ _ f => ringLength f
  | .portsQuiet since => onPorts since
  | .bridgeDataRx _ f => bridgeLength f
  | .bridgeAckRx f => bridgeLength f
  | .bridgeNakRx f => bridgeLength f
  | .bridgeKeepRx f => bridgeLength f
  | .sdoDownload _ _ _ _ _ data _ => canLength data
  | .sdoSegment _ _ _ _ data => canLength data
  | .rpdoRx _ _ data both _ data2 => canLength data && canLength data2 && (both || data2.isEmpty)
  | .imageDownload _ image => decide (image.length ≤ imageLimit)
  | .optionRequestDownload _ data => decide (data.length ≤ imageLimit)
  | .rfReadBlock _ _ first n => blockRange first n
  | .rfGetBlockSecurity _ _ first n => blockRange first n
  | .unknownTypeFrame _ _ f => ringLength f
  | .satReservedOpcode _ _ f => decide (10 ≤ f.opcode.1 ∧ f.opcode.1 ≤ 13 ∨ f.opcode.1 = 15)
  | .store .. | .amo .. | .loadReserved .. | .storeConditional .. | .csrAccess .. | .fenceI .. | .wfi .. | .mret ..
  | .illegalInstruction .. | .backgroundSliceExpiry .. | .scrubRead | .memerrInject .. | .tenCoreWrite .. | .dmaStart .. | .dmaStop ..
  | .dmaResume .. | .dmaAbandon .. | .dmaDescriptorFetch .. | .dmaBeat | .psetCommit .. | .psetDiscard .. | .powerOnReset ..
  | .selftestComplete .. | .badgerLateTimeout | .stoInputOpen .. | .stoInputClose .. | .stoDiscrepancyTimeout | .ss1DelayExpiry
  | .channelRelease | .haltNRelease | .shutdownReadback .. | .brakeFeedbackTimeout .. | .slsWindowEnd .. | .sealReread ..
  | .guardInputOpen .. | .guardInputClose .. | .guardDiscrepancyTimeout .. | .scsLoad | .scsCommit | .scsCommandComplete | .hbArm ..
  | .hbChallenge .. | .hbResponse .. | .lorPressDisagree .. | .lorPressTimeout | .lorActRelease .. | .fieldbusLorRequest ..
  | .fblorWindowExpiry | .cwShutdown .. | .cwSwitchOn .. | .cwEnableOperation .. | .cwDisableOperation .. | .cwDisableVoltage ..
  | .cwQuickStop .. | .cwHalt .. | .cwFaultReset .. | .modeSelectWrite .. | .cwsrcWrite .. | .axInitWrite .. | .emergencyRequestOn ..
  | .emergencyRequestOff .. | .standstillReached .. | .prechargeEnd .. | .brakeLiftWaitEnd .. | .softwareSystemReset ..
  | .preResetPhaseEnd .. | .watchdogKick .. | .watchdogExpiry | .rstNAssert | .halduxResetExit | .pllLock .. | .pllLockLoss
  | .bootDoneSet | .portReset .. | .portEnable .. | .portDisable .. | .portResume .. | .portHaltRequest .. | .clearReentered ..
  | .haltNFall | .spAlertNFall .. | .slotBoundary .. | .alloffSequenceComplete .. | .tenantQueuePush .. | .receiveFifoPop ..
  | .satAlloff .. | .satEdge .. | .satEdgeS .. | .satRead .. | .satWrite .. | .satConfigDone .. | .satFlagsClear ..
  | .satErrcntClear .. | .satStatus .. | .satTlmStart .. | .satTlmRead .. | .satDiagStart .. | .satDiagRead .. | .satSreset ..
  | .satBadCommand .. | .satHaltRecognition .. | .satSelectRelease .. | .satClockAbsence .. | .satReset ..
  | .satEdgeEvent .. | .satTlmConversionDone .. | .satDiagRunDone .. | .satUvEntry .. | .satGateSupplyCollapse .. | .satScLatch ..
  | .controlCycleStart .. | .modulatorStuck .. | .clearDegraded .. | .clearSchedule .. | .modCapturePop | .incAbEdge ..
  | .indexPoint .. | .wireFaultDetect .. | .wireFaultClear .. | .speedStopTimeout .. | .countWindowEnd .. | .hallTransition ..
  | .hallInvalidTimeout .. | .ssiReadStart .. | .ssiReadCommand .. | .tapSpeedSend .. | .armReference .. | .clearLoss ..
  | .clearLock .. | .clearErrorCount .. | .clearIndexRecord .. | .fbCapturePop | .lampWindowJudge .. | .lampColdPulse ..
  | .lampOverload .. | .lampRetry .. | .lampClearCount .. | .brakeReleaseTimeout .. | .brkFbChange .. | .brakeSetTimeout ..
  | .slackLineDetect .. | .drumOverspeedDetect .. | .emgInputChange .. | .erlActStart .. | .erlActEnd .. | .erlActVoid ..
  | .erlGovernorTick .. | .gpiChange .. | .gpoOverload .. | .ringEnable | .ringDisable | .ringRejoin | .ringClearCount
  | .ringForeignFrame | .beaconTx | .ringLinkChange .. | .pdelayTx | .ringListenTimeout | .beaconLossTimeout | .electionTimeout
  | .fseqRecordLapse .. | .groupPeriodStart .. | .sharePoint .. | .queryTimeout .. | .ringTxPush .. | .ringRxPop | .copyPoint
  | .partnerLineChange .. | .claimTake | .claimTimerExpiry | .quietCheckTimeout | .claimConflict | .handoverRequest | .handoverRelease
  | .userBufferFlip | .copyClearCount | .snapshotStale | .partnerPairLost | .seatingComplete .. | .benchDetect .. | .presenceLost ..
  | .feedChange .. | .brownOut | .parkRequest .. | .parkSafeToPull .. | .parkHandoverTimeout | .unpark | .lampTestCommand
  | .bridgeResendTimeout | .bridgeKeepTx | .bridgeLinkTimeout | .nmtStart .. | .nmtStop .. | .nmtEnterPreOperational ..
  | .nmtResetNode .. | .nmtResetCommunication .. | .sdoUpload .. | .sdoTimeout .. | .syncRx .. | .tpdoTransmit ..
  | .rpdoEventTimeout .. | .pdoCobidWrite .. | .heartbeatProduce | .serverKick .. | .serverAliveLapse | .heartbeatRx ..
  | .heartbeatConsumerExpiry .. | .canErrorPassive .. | .canBusOff .. | .canBusOffRecovery .. | .canFrameIgnored .. | .canTxPush ..
  | .canRxPop .. | .emcyTransmit | .errorHistoryClear .. | .storeParameters .. | .restoreDefaults .. | .storeAppend ..
  | .storeDelete .. | .storeCommit .. | .storeAbort .. | .storeFind .. | .storeErasebank .. | .storeProg .. | .storeVerify ..
  | .storeAbandonbank .. | .storeConfirm .. | .storeFallback .. | .storeCommandComplete .. | .backgroundEraseComplete | .reclaimStep
  | .storeScanComplete | .tagRead .. | .tagWrite .. | .tagPendingComplete | .tagClearCount | .tagClearRfw | .rfFieldChange ..
  | .rfStateTimeout .. | .rfInventory .. | .rfStayQuiet | .rfSelect .. | .rfResetToReady .. | .rfWriteBlock .. | .rfLockBlock ..
  | .rfGetSystemInfo .. | .rfUnsupportedCommand .. | .backgroundSelftestFail .. | .ebreak .. | .satUvExit .. | .satGateSupplyReturn ..
  | .satResetExit .. | .haltFrameTwelfthEdge .. | .presencePinContact .. | .canErrorActive .. => true

end Sys2Proof
end

