-- ==== Sys2Proof/Certificates/Slice0/Obligations.lean ====
section
/-! DEFINITION. The statements for the provers. -/

open Sys2Proof Sys2Proof.Machine

set_option Elab.async false

/-- A satellite out of reset with no frame open carries out a STATUS, READ, TLM_READ or DIAG_READ command that is in form: the alive
counter becomes its last good counter, LAST_BAD and CMDERR end, it drives one reply word with that counter, its status and the payload of
the command as they stand before the command's own effect, and nothing but this satellite and the lines changes. A further frame under
the same select assertion changes nothing. Some clauses rest on readings of the model: log entry 42. (R192, R194, R223, R229, R233, R234,
R235, R249, R278, R284). -/
def Obligations.SatelliteAnswersReads : Prop :=
  ∀ (s : State) (p : Fin 6) (k : Fin 8) (f : CmdFrame), s.listens p k →
    (∃ t, exec (.satStatus p k f 0) s = .next t ∧ t.sat p k = { s.heard p k f with driving := true } ∧
      s.replied t p k (frameWord f.alive (s.heard p k f).status ((s.heard p k f).statePayload false)) ∧
      s.keepsOtherSats t p k ∧ s.onlyChanges t [.wire, .sats] ∧
      ∀ payload : BitVec 24, exec (.satStatus p k f payload) t = .next t) ∧
    (∀ (payload : BitVec 24) (v : Nat), payload.toNat / 2 ^ 22 = 0 → payload.toNat % 2 ^ 16 = 0 →
      (s.heard p k f).readReg (payload.toNat / 65536) = some v → ∃ t, exec (.satRead p k f payload) s = .next t ∧
      t.sat p k = { s.heard p k f with driving := true } ∧
      s.replied t p k (frameWord f.alive (s.heard p k f).status (regPayload false (payload.toNat / 65536) v)) ∧
      s.keepsOtherSats t p k ∧ s.onlyChanges t [.wire, .sats]) ∧
    (∀ (i : Fin 7), ∃ t, exec (.satTlmRead p k f (BitVec.ofNat 24 (i.1 * 2 ^ 20))) s = .next t ∧
      t.sat p k = { s.heard p k f with driving := true } ∧
      s.replied t p k (frameWord f.alive (s.heard p k f).status (i.1 * 2 ^ 20 + bitsOf (s.sat p k).tlm[i] 15 14 * 2 ^ 18 +
        (s.sat p k).seq * 2 ^ 12 + (s.sat p k).tlm[i] % 4096)) ∧
      s.keepsOtherSats t p k ∧ s.onlyChanges t [.wire, .sats]) ∧
    (∃ t, exec (.satDiagRead p k f 0) s = .next t ∧
      t.sat p k = { s.heard p k f with diagReady := false, driving := true } ∧
      s.replied t p k (frameWord f.alive (s.heard p k f).status ((s.sat p k).diagClass * 2 ^ 21 + (s.sat p k).diagVA * 2 ^ 15 +
        (s.sat p k).diagVB * 2 ^ 9 + (s.sat p k).diagTB)) ∧
      s.keepsOtherSats t p k ∧ s.onlyChanges t [.wire, .sats])

/-- A WRITE of a configuration-set register with its reserved bits 0 and its value in range, before CONFIG_DONE, is read back and sets
its bit of WRITTEN. DONE with WRITTEN complete sets CONFIG_DONE and clears BOOT. A W1C write of FLAGS without a standing cause clears the
flags written 1. A write of ERRCNT clears both counts. A select release with no reset due ends the frame and the drive of SDIO; a frame
that had opened without a good command counts as a bad one. Some clauses rest on readings of the model: log entry 42. (R197, R223, R235,
R245, R254, R262, R270, R283). -/
def Obligations.SatelliteWritesTakeEffect : Prop :=
  ∀ (s : State) (p : Fin 6) (k : Fin 8) (now : Nat) (alive : Fin 16), (s.sat p k).inReset = false →
    ((s.sat p k).frame = .idle → ∀ (payload : BitVec 24) (cmp : Bool) (a b v m : Nat), payload.toNat = a * 65536 + v → v < 65536 →
      satSetBit a = some b → satWritable a = some m → v &&& (0xFFFF ^^^ m) = 0 → satInRange a v = true → (s.sat p k).done = false → ∃ t,
      exec (.satWrite p k now alive payload cmp) s = .next t ∧ (t.sat p k).readReg a = some v ∧
      (t.sat p k).written = (s.sat p k).written ||| 2 ^ b ∧ (t.sat p k).lastGood = alive ∧ (t.sat p k).cmdErr = false ∧
      s.keepsOtherSats t p k ∧ s.onlyChanges t [.wire, .sats]) ∧
    ((s.sat p k).frame = .idle → (s.sat p k).written = 0x3FF → (s.sat p k).done = false → ∃ t,
      exec (.satConfigDone p k now alive) s = .next t ∧ (t.sat p k).done = true ∧ (t.sat p k).boot = false ∧
      (t.sat p k).lastGood = alive ∧ s.keepsOtherSats t p k ∧ s.onlyChanges t [.wire, .sats]) ∧
    ((s.sat p k).frame = .idle → ∀ (bits : BitVec 16) (cmp : Bool), bits.toNat &&& (0xFFFF ^^^ 0x81F7) = 0 →
      (bits.getLsbD 7 && cmp) = false → (bits.getLsbD 6 && ((s.sat p k).low.posUv || (s.sat p k).low.negUv)) = false → ∃ t,
      exec (.satFlagsClear p k now alive bits cmp) s = .next t ∧ (t.sat p k).intlk = ((s.sat p k).intlk && !bits.getLsbD 8) ∧
      (t.sat p k).sc = ((s.sat p k).sc && !bits.getLsbD 7) ∧ (t.sat p k).uv = ((s.sat p k).uv && !bits.getLsbD 6) ∧
      (t.sat p k).ca = ((s.sat p k).ca && !bits.getLsbD 5) ∧ (t.sat p k).haltSeen = ((s.sat p k).haltSeen && !bits.getLsbD 4) ∧
      s.keepsOtherSats t p k ∧ s.onlyChanges t [.wire, .sats]) ∧
    ((s.sat p k).frame = .idle → ∀ (data : BitVec 16), ∃ t, exec (.satErrcntClear p k now alive data) s = .next t ∧
      (t.sat p k).badCnt = 0 ∧ (t.sat p k).cmdCnt = 0 ∧ (t.sat p k).lastGood = alive ∧ s.keepsOtherSats t p k ∧
      s.onlyChanges t [.wire, .sats]) ∧
    ((s.sat p k).srstDue = false → (s.sat p k).frame ≠ .opened → ∃ t, exec (.satSelectRelease p k) s = .next t ∧
      t.sat p k = { s.sat p k with driving := false, frame := .idle } ∧ s.keepsOtherSats t p k ∧ s.onlyChanges t [.sats]) ∧
    ((s.sat p k).srstDue = false → (s.sat p k).frame = .opened → ∃ t, exec (.satSelectRelease p k) s = .next t ∧
      (t.sat p k).lastBad = true ∧ (t.sat p k).badCnt = satInc 255 (s.sat p k).badCnt ∧ (t.sat p k).frame = .idle ∧
      s.keepsOtherSats t p k ∧ s.onlyChanges t [.sats])

/-- TLM_START and DIAG_START start a conversion or a run when none is in progress and the satellite allows it; a completed conversion
stores its result as VALID and counts SEQ, a count of 4,095 with OVR; a completed run reports its class with DIAG_READY. A reserved opcode
is refused with CMDERR and counted. A bad command sets LAST_BAD, is counted, leaves the last good counter, and a low start bit cancels the
pending turn-ons; where the select was released before bit 0 the frame has ended. Some clauses rest on readings of the model: log entries
4 and 42. (R197, R198, R223, R226, R231, R232, R249, R251, R275, R276, R277). -/
def Obligations.SatelliteRunsAndRefusals : Prop :=
  ∀ (s : State) (p : Fin 6) (k : Fin 8), (s.sat p k).inReset = false →
    ((s.sat p k).frame = .idle → ∀ (f : CmdFrame) (i : Fin 7), bitOf (s.sat p k).tlmcfg 15 = false → (s.sat p k).conv = none →
      (s.sat p k).diag = none → ∃ t, exec (.satTlmStart p k f (BitVec.ofNat 24 (i.1 * 2 ^ 20))) s = .next t ∧
      t.sat p k = { s.heard p k f with conv := some i, driving := true } ∧ s.keepsOtherSats t p k ∧ s.onlyChanges t [.wire, .sats]) ∧
    (∀ (result : BitVec 12) (ovr : Bool) (c : Fin 7) (v : Nat), (s.sat p k).conv = some c → (v = if ovr then 4095 else result.toNat) → ∃ t,
      exec (.satTlmConversionDone p k result ovr) s = .next t ∧ (t.sat p k).tlm[c] = 2 ^ 15 + b2n (v = 4095) * 2 ^ 14 + v ∧
      (t.sat p k).seq = ((s.sat p k).seq + 1) % 64 ∧
      ((t.sat p k).conv = (if bitOf (s.sat p k).tlmcfg 15 && (s.sat p k).diag.isNone then nextChannel ((s.sat p k).tlmcfg % 128) c else none)) ∧
      (∀ i : Fin 7, i ≠ c → (t.sat p k).tlm[i] = (s.sat p k).tlm[i]) ∧ s.keepsOtherSats t p k ∧ s.onlyChanges t [.sats]) ∧
    ((s.sat p k).frame = .idle → ∀ (f : CmdFrame) (isel : Fin 3), (s.sat p k).diag = none → (s.sat p k).still (f.t + 81) = true → ∃ t,
      exec (.satDiagStart p k f.t f.alive (BitVec.ofNat 24 (isel.1 * 2 ^ 22))) s = .next t ∧
      t.sat p k = { s.heard p k f with diag := some isel.1, driving := true } ∧ s.keepsOtherSats t p k ∧
      s.onlyChanges t [.wire, .sats]) ∧
    (∀ (va vb : BitVec 12) (tb : Nat), (s.sat p k).diag.isSome = true → (s.sat p k).conv = none → ∃ t,
      exec (.satDiagRunDone p k va vb tb) s = .next t ∧ (t.sat p k).diag = none ∧ (t.sat p k).diagReady = true ∧
      (t.sat p k).diagClass = diagClassOf va.toNat vb.toNat tb (s.sat p k).diagcfg ∧
      ((t.sat p k).conv = if bitOf (s.sat p k).tlmcfg 15 then firstChannel ((s.sat p k).tlmcfg % 128) else none) ∧
      s.keepsOtherSats t p k ∧ s.onlyChanges t [.sats]) ∧
    ((s.sat p k).frame = .idle → ∀ (f : OpFrame), satReserved f.opcode = true → ∃ t, exec (.satReservedOpcode p k f) s = .next t ∧
      (t.sat p k).cmdErr = true ∧ (t.sat p k).cmdCnt = satInc 255 (s.sat p k).cmdCnt ∧ (t.sat p k).lastGood = f.alive ∧
      (t.sat p k).lastBad = false ∧
      s.replied t p k (frameWord f.alive (((s.sat p k).framed f.t).refuse f.alive).status
        ((((s.sat p k).framed f.t).refuse f.alive).statePayload true)) ∧
      s.keepsOtherSats t p k ∧ s.onlyChanges t [.wire, .sats]) ∧
    ((s.sat p k).frame ≠ .taken → ∀ (f : BadFrame), ∃ t, exec (.satBadCommand p k f) s = .next t ∧ (t.sat p k).lastBad = true ∧
      (t.sat p k).badCnt = satInc 255 (s.sat p k).badCnt ∧ (t.sat p k).lastGood = (s.sat p k).lastGood ∧
      ((t.sat p k).events = (if f.startLow then (s.sat p k).events.filter fun e => !e.on else (s.sat p k).events)) ∧
      ((t.sat p k).frame = if f.early then .idle else .taken) ∧ (f.early = true → t.wire = s.wire) ∧
      s.keepsOtherSats t p k ∧ s.onlyChanges t [.freeCtr, .wire, .sats])

/-- An EDGE that R238 does not refuse enters its events for its target slot and is answered; an EDGE_S does so in every selected
satellite that listens, is out of BOOT and has the GROUP it names, without a reply; the earliest events are taken out when they come due
and switch their gates; ALLOFF turns both gates of every selected satellite that listens off and cancels every event. No other satellite
changes. (R223, R236, R237, R238, R239, R241, R242, R244, R252). -/
def Obligations.SatelliteGateCommands : Prop :=
  ∀ (s : State) (p : Fin 6) (now : Nat) (alive : Fin 16),
    (∀ (k : Fin 8) (payload : BitVec 24), s.listens p k → bitsOf payload.toNat 21 20 = 0 →
      (s.sat p k).edgeBad now payload.toNat = false → (s.sat p k).boot = false → ∃ t, exec (.satEdge p k now alive payload) s = .next t ∧
      ((t.sat p k).events = (s.sat p k).events ++ (edgeEvs payload.toNat).map fun e => ⟨now + 172 * (1 + bitsOf payload.toNat 23 22) + e.pos,
      now + 172 * (1 + bitsOf payload.toNat 23 22), e.high, e.on⟩) ∧ (t.sat p k).lastGood = alive ∧ (t.sat p k).driving = true ∧
      s.keepsOtherSats t p k ∧ s.onlyChanges t [.wire, .sats]) ∧
    (∀ (sels : BitVec 8) (payload : BitVec 24), ∃ t, exec (.satEdgeS p sels now alive payload) s = .next t ∧ (∀ k : Fin 8,
      sels.getLsbD k → s.listens p k → (s.sat p k).boot = false → bitsOf payload.toNat 21 20 = (s.sat p k).group →
      (s.sat p k).edgeBad now payload.toNat = false → t.sat p k = (s.heard p k ⟨now, alive⟩).enter now payload.toNat) ∧ (∀ k : Fin 8,
      sels.getLsbD k → s.listens p k → (s.sat p k).boot = true → t.sat p k = (s.sat p k).framed now) ∧
      (∀ k : Fin 8, sels.getLsbD k = false ∨ ¬ s.listens p k → t.sat p k = s.sat p k) ∧
      (∀ (q : Fin 6) (k : Fin 8), q ≠ p → t.sat q k = s.sat q k) ∧ s.onlyChanges t [.sats]) ∧
    (∀ (k : Fin 8) (swH swL : Switching) (due : Nat), (s.sat p k).inReset = false → (s.sat p k).nextDue = some due → ∃ t,
      exec (.satEdgeEvent p k swH swL) s = .next t ∧ ((t.sat p k).events = (s.sat p k).events.filter fun e => e.due != due) ∧
      s.keepsOtherSats t p k ∧ s.onlyChanges t [.sats]) ∧
    (∀ (k : Fin 8) (swH swL : Switching) (e : SatEvent), (s.sat p k).inReset = false → (s.sat p k).events = [e] → (s.sat p k).diag = none →
      ((s.sat p k).gate e.high).posUv = false → ((s.sat p k).gate e.high).negUv = false → ((s.sat p k).gate (!e.high)).on = false →
      ((s.sat p k).gate (!e.high)).offAt = none → ∃ t, exec (.satEdgeEvent p k swH swL) s = .next t ∧
      ((t.sat p k).gate e.high).on = e.on ∧ (t.sat p k).events = [] ∧ s.onlyChanges t [.sats]) ∧
    (∀ (sels : BitVec 8) (swH swL : Switching), ∃ t, exec (.satAlloff p sels now alive swH swL) s = .next t ∧ (∀ k : Fin 8,
      sels.getLsbD k → s.listens p k → (t.sat p k).high.on = false ∧ (t.sat p k).low.on = false ∧ (t.sat p k).events = [] ∧
      (t.sat p k).lastGood = alive) ∧ (∀ k : Fin 8, sels.getLsbD k = false ∨ ¬ s.listens p k → t.sat p k = s.sat p k) ∧
      (∀ (q : Fin 6) (k : Fin 8), q ≠ p → t.sat q k = s.sat q k) ∧ s.onlyChanges t [.sats])

/-- A profile's strength is code 15 in phase 1, the profile's code in phase 2 and code 15 in the hold. Hsck 1 of a halt frame cancels
every pending turn-on, and hsck 9 turns both gates off, cancels every event, abandons a conversion and a run, and sets HALTSEEN; clock
absence does so with CA, and AUTO begins again at its lowest channel. A reset of the link die returns the satellite to BOOT with its gates
off until its supply returns. A gate supply that enters UV turns the gate off and latches UV when the gate is on; a collapsed supply holds
it off until it returns; leaving UV clears the supply state. FILT samples of the comparator in a row above V_TH, on a gate that has been on
for BLANK, latch SC. (R226, R228, R243, R251, R257, R260, R261, R262, R263, R268, R269, R270). -/
def Obligations.SatelliteProtection : Prop :=
  ∀ (s : State) (p : Fin 6) (k : Fin 8),
    (∀ (g : Gate) (prof code now tsw exit n : Nat) (adaptive on : Bool), (g.profile prof code now adaptive on tsw exit).strength (now + n) =
      if bitsOf prof 14 10 ≤ n ∧ n < bitsOf prof 14 10 + bitsOf prof 5 0 then (if adaptive then code else bitsOf prof 9 6) else 15) ∧
    (∀ (now : Nat), (s.sat p k).inReset = false → (s.sat p k).frame ≠ .taken → ∃ t,
      exec (.satHaltRecognition p k ⟨now, true⟩) s = .next t ∧ (t.sat p k).frame = .opened ∧
      ((t.sat p k).events = (s.sat p k).events.filter fun e => !e.on) ∧ (t.sat p k).high = (s.sat p k).high ∧
      (t.sat p k).low = (s.sat p k).low ∧ s.keepsOtherSats t p k ∧ s.onlyChanges t [.sats]) ∧
    (∀ (now : Nat), (s.sat p k).inReset = false → (s.sat p k).frame ≠ .taken → ∃ t,
      exec (.satHaltRecognition p k ⟨now, false⟩) s = .next t ∧ (t.sat p k).high.on = false ∧
      (t.sat p k).low.on = false ∧ (t.sat p k).events = [] ∧ (t.sat p k).haltSeen = true ∧ (t.sat p k).driving = false ∧
      (t.sat p k).diag = none ∧ (t.sat p k).frame = .taken ∧ s.keepsOtherSats t p k ∧ s.onlyChanges t [.sats]) ∧
    (∀ (now : Nat), (s.sat p k).inReset = false → ∃ t, exec (.satClockAbsence p ⟨k, now⟩) s = .next t ∧ (t.sat p k).high.on = false ∧
      (t.sat p k).low.on = false ∧ (t.sat p k).events = [] ∧ (t.sat p k).ca = true ∧ (t.sat p k).driving = false ∧
      ((t.sat p k).conv = if bitOf (s.sat p k).tlmcfg 15 then firstChannel ((s.sat p k).tlmcfg % 128) else none) ∧
      (t.sat p k).diag = none ∧ s.keepsOtherSats t p k ∧ s.onlyChanges t [.sats]) ∧
    (∃ t, exec (.satReset p k) s = .next t ∧ (t.sat p k).inReset = true ∧ (t.sat p k).boot = true ∧ (t.sat p k).done = false ∧
      (t.sat p k).written = 0 ∧ (t.sat p k).high.on = false ∧ (t.sat p k).low.on = false ∧ (t.sat p k).events = [] ∧
      s.keepsOtherSats t p k ∧ s.onlyChanges t [.sats]) ∧
    (∃ t, exec (.satResetExit p k) s = .next t ∧ t.sat p k = { s.sat p k with inReset := false } ∧ s.keepsOtherSats t p k ∧
      s.onlyChanges t [.sats]) ∧
    (∀ (high neg : Bool) (now : Nat), ((s.sat p k).gate high).on = true →
      ((if neg then ((s.sat p k).gate high).negUv else ((s.sat p k).gate high).posUv) = false) → ∃ t,
      exec (.satUvEntry p k high neg now) s = .next t ∧ ((t.sat p k).gate high).on = false ∧
      ((if neg then ((t.sat p k).gate high).negUv else ((t.sat p k).gate high).posUv) = true) ∧ (t.sat p k).uv = true ∧
      s.keepsOtherSats t p k ∧ s.onlyChanges t [.sats]) ∧
    (∀ (high neg : Bool), ∃ t, exec (.satUvExit p k high neg) s = .next t ∧
      ((if neg then ((t.sat p k).gate high).negUv else ((t.sat p k).gate high).posUv) = false) ∧
      ((t.sat p k).gate high).on = ((s.sat p k).gate high).on ∧ s.keepsOtherSats t p k ∧ s.onlyChanges t [.sats]) ∧
    (∀ (high : Bool) (now : Nat), ∃ t, exec (.satGateSupplyCollapse p k high now) s = .next t ∧ ((t.sat p k).gate high).on = false ∧
      ((t.sat p k).gate high).collapsed = true ∧ ((t.sat p k).gate high).posUv = true ∧ s.keepsOtherSats t p k ∧ s.onlyChanges t [.sats]) ∧
    (∀ (high : Bool), ((s.sat p k).gate high).collapsed = true → ∃ t, exec (.satGateSupplyReturn p k high) s = .next t ∧
      ((t.sat p k).gate high).on = false ∧ ((t.sat p k).gate high).collapsed = false ∧
      ((t.sat p k).gate high).posUv = ((s.sat p k).gate high).posUv ∧ s.keepsOtherSats t p k ∧ s.onlyChanges t [.sats]) ∧
    (∀ (high : Bool) (now : Nat) (mv : List Nat), (s.sat p k).inReset = false → ((s.sat p k).gate high).on = true →
      (bitOf (s.sat p k).sccfg (if high then 3 else 2) = true) →
      ((s.sat p k).gate high).onAt + (s.sat p k).blank + bitsOf (s.sat p k).sccfg 7 4 ≤ now + 1 →
      bitsOf (s.sat p k).sccfg 7 4 ≤ mv.length → (∀ v ∈ mv, scThreshold (s.sat p k).sccfg < v) → ∃ t,
      exec (.satScLatch p k ⟨high, now, mv⟩) s = .next t ∧ (t.sat p k).sc = true ∧
      ((if high then (t.sat p k).scH else (t.sat p k).scL) = true) ∧ (t.sat p k).gate high = (s.sat p k).gate high ∧
      s.keepsOtherSats t p k ∧ s.onlyChanges t [.sats])

/-- With every release condition holding and the channels cut, GPE_N goes low and the brake permit is given while HALT_N stays; at the end
of the wait HALT_N goes high if every condition still holds, else the channels are cut at once. With the supervisor powered, an STO channel
that opens is read open and the release waits for both channels; without a set in force, or with one that asks for STO, the channels and
the brake permit go to their safe levels, and with SS1-t the delay starts instead, unless a release is under way. A present guard with
reaction STO that opens does the same. Both STO channels seen open together and then closed together end the demand. A guard channel that
closes is read closed. The end of the SS1-t delay cuts. (R37, R39, R41, R42, R43, R45, R52). -/
def Obligations.ChannelsCutAndRelease : Prop :=
  ∀ (s : State),
    (∀ (chB : Bool), s.bg.powered = true → s.stoOpen chB = false → ∃ t, exec (.stoInputOpen chB) s = .next t ∧ t.stoOpen chB = true ∧
      t.bg.stoNeed = true ∧ (s.scs 0 8 8 0 ≠ 1 → t.cutLevels) ∧ s.onlyChanges t [.sys, .bg, .axes, .ports, .srv, .eng, .lio, .regs 1,
      .regs 3, .regs 17, .regs 24]) ∧
    (∀ (chB : Bool), s.bg.powered = true → s.stoOpen chB = false → s.scs 0 8 8 0 = 1 → s.bg.release ≠ .gate → ∃ t,
      exec (.stoInputOpen chB) s = .next t ∧ t.bg.ss1 = true ∧ t.bg.haltN = s.bg.haltN ∧ t.bg.permit = s.bg.permit ∧
      s.onlyChanges t [.sys, .bg, .axes, .ports, .srv, .eng, .lio, .regs 1, .regs 3, .regs 17, .regs 24]) ∧
    (∀ (chB : Bool), s.bg.powered = true → s.stoOpen chB = true → s.stoOpen (!chB) = false → ∃ t, exec (.stoInputClose chB) s = .next t ∧
      t.stoOpen chB = false ∧ t.bg.stoNeed = (s.bg.stoNeed && !s.bg.stoBothOpen) ∧ s.onlyChanges t [.bg]) ∧
    (∀ (g : Fin 4) (chB : Bool), s.bg.powered = true → s.grdOpen g chB = false → bitOf (s.guard g) 0 = true →
      bitsOf (s.guard g) 3 2 = 1 → ∃ t, exec (.guardInputOpen g chB) s = .next t ∧ t.grdOpen g chB = true ∧ t.cutLevels ∧
      s.onlyChanges t [.sys, .bg, .axes, .ports, .srv, .eng, .lio, .regs 1, .regs 3, .regs 17, .regs 24]) ∧
    (∀ (g : Fin 4) (chB : Bool), s.bg.powered = true → s.grdOpen g chB = true → ∃ t, exec (.guardInputClose g chB) s = .next t ∧
      t.grdOpen g chB = false ∧ t.bg.haltN = s.bg.haltN ∧ t.bg.gpeN = s.bg.gpeN ∧ s.onlyChanges t [.bg, .regs 1, .regs 3]) ∧
    (s.bg.powered = true → s.bg.ss1 = true → ∃ t, exec (.ss1DelayExpiry) s = .next t ∧ t.cutLevels ∧ t.bg.ss1 = false ∧
      t.bg.ss1Hold = !s.stopClosed ∧ s.onlyChanges t [.sys, .bg, .lio, .regs 1, .regs 3, .regs 24]) ∧
    (s.releaseOk = true → s.bg.release = .cut → ∃ t, exec (.channelRelease) s = .next t ∧ t.bg.gpeN = false ∧ t.bg.permit = true ∧
      t.bg.haltN = s.bg.haltN ∧ t.bg.release = .gate ∧ s.onlyChanges t [.sys, .bg, .lio, .regs 1, .regs 3, .regs 24]) ∧
    (s.releaseOk = false → ∃ t, exec (.channelRelease) s = .next t ∧ t = s) ∧
    (s.releaseOk = true → s.bg.release = .gate → ∃ t, exec (.haltNRelease) s = .next t ∧ t.bg.haltN = true ∧ t.bg.release = .run ∧
      t.bg.gpeN = s.bg.gpeN ∧ t.bg.permit = s.bg.permit ∧ (s.clocked = true → t.sys.haltN = true) ∧ s.onlyChanges t [.sys, .bg, .lio,
      .regs 1, .regs 3, .regs 24]) ∧
    (s.releaseOk = false → s.bg.release = .gate → ∃ t, exec (.haltNRelease) s = .next t ∧ t.cutLevels ∧ t.bg.release = .cut ∧
      s.onlyChanges t [.sys, .bg, .lio, .regs 1, .regs 3, .regs 24])

/-- With the supervisor powered: disagreeing STO channels, a supervised brake whose feedback disagrees, the fifth window over the limit
of SLS, a second seal reread that differs, the fourth differing readback, a second unanswered heartbeat period and a failed self-test
each latch lock-out with their cause and index, and cut. An SLS window records its frequencies, a matching reread or readback starts its
count again. Some clauses rest on readings of the model: log entries 10, 38 and 39. (R40, R44, R46, R47, R49, R51, R57, R58). -/
def Obligations.SupervisorFaultsLatch : Prop :=
  ∀ (s : State), s.bg.powered = true →
    (s.stoOpen false ≠ s.stoOpen true → ∃ t, exec (.stoDiscrepancyTimeout) s = .next t ∧ s.lockedOut t 1 0 ∧ s.onlyChanges t [.sys, .bg,
      .axes, .ports, .srv, .cp, .eng, .lio, .regs 0, .regs 1, .regs 3, .regs 17, .regs 24, .regs 26]) ∧
    (∀ (a : Fin 8) (relLow : Bool), bitOf (s.scs 2 7 0 0) a = true → relLow ≠ s.bg.brkFb.getLsbD a.1 → ∃ t,
      exec (.brakeFeedbackTimeout a relLow) s = .next t ∧ s.lockedOut t 6 a ∧ s.onlyChanges t [.sys, .bg, .axes, .ports, .srv, .cp, .eng,
      .lio, .regs 0, .regs 1, .regs 3, .regs 17, .regs 24, .regs 26]) ∧
    (∀ (tap : Fin 2) (own x y : Nat), s.scs (4 + 4 * tap.1) 3 3 0 = 1 → s.bg.sls[tap].sent = [x, y] → ∃ t,
      exec (.slsWindowEnd tap own) s = .next t ∧ t.bg.sls[tap].own = own ∧ t.bg.sls[tap].fwd = (x + y) / 2 ∧ t.bg.sls[tap].sent = [] ∧
      s.onlyChanges t [.freeCtr, .sys, .bg, .axes, .ports, .srv, .cp, .eng, .lio, .regs 0, .regs 1, .regs 3, .regs 17, .regs 24,
      .regs 26]) ∧
    (∀ (tap : Fin 2) (own x y : Nat), s.scs (4 + 4 * tap.1) 3 3 0 = 1 → s.bg.sls[tap].sent = [x, y] → s.scs (4 + 4 * tap.1) 4 4 0 = 1 →
      s.scs (6 + 4 * tap.1) 31 0 0 < own → s.bg.sls[tap].viol = 4 → ∃ t, exec (.slsWindowEnd tap own) s = .next t ∧ s.lockedOut t 7 tap ∧
      s.onlyChanges t [.freeCtr, .sys, .bg, .axes, .ports, .srv, .cp, .eng, .lio, .regs 0, .regs 1, .regs 3, .regs 17, .regs 24,
      .regs 26]) ∧
    (∀ (sw : BitVec 8), sw.toNat = s.bg.snap → ∃ t, exec (.sealReread sw) s = .next t ∧ t.bg.live = sw.toNat ∧ t.bg.sealMis = 0 ∧
      t.bg.latched = s.bg.latched ∧ s.onlyChanges t [.bg]) ∧
    (∀ (sw : BitVec 8) (i : Nat), sw.toNat ≠ s.bg.snap → s.bg.sealMis = 1 →
      (firstIdx (fun j => bitOf sw.toNat j != bitOf s.bg.snap j) (List.range 8) = some i) → ∃ t, exec (.sealReread sw) s = .next t ∧
      s.lockedOut t 3 i ∧ t.bg.live = sw.toNat ∧ s.onlyChanges t [.sys, .bg, .axes, .ports, .srv, .cp, .eng, .lio, .regs 0, .regs 1,
      .regs 3, .regs 17, .regs 24, .regs 26]) ∧
    (∀ (haltHigh : Bool) (pins : PinLevels), haltHigh = s.bg.haltN → pins.gpe = s.bg.gpeN → ∃ t,
      exec (.shutdownReadback haltHigh pins) s = .next t ∧ t.bg.rbHalt = 0 ∧ t.bg.rbGpe = 0 ∧ t.bg.haltLvl = haltHigh ∧
      t.bg.gpeLvl = pins.gpe ∧ t.bg.relLow = pins.relLow ∧ t.bg.shown = t.bgWords ∧ s.onlyChanges t [.bg]) ∧
    (∀ (haltHigh : Bool) (pins : PinLevels), haltHigh ≠ s.bg.haltN → s.bg.rbHalt = 3 → ∃ t,
      exec (.shutdownReadback haltHigh pins) s = .next t ∧
      s.lockedOut t 12 0 ∧ t.bg.shown = t.bgWords ∧ s.onlyChanges t [.sys, .bg, .axes, .ports, .srv, .cp, .eng, .lio, .regs 0, .regs 1,
      .regs 3, .regs 17, .regs 24, .regs 26]) ∧
    (∀ (chal : BitVec 8), s.bg.hbArmed = true → s.bg.hbOpen = true → s.bg.hbAnswered = false → s.bg.hbMiss = 1 → ∃ t,
      exec (.hbChallenge chal) s = .next t ∧ s.lockedOut t 9 0 ∧ t.bg.hbOpen = true ∧ s.onlyChanges t [.sys, .bg, .axes, .ports, .srv,
      .cp, .eng, .lio, .regs 0, .regs 1, .regs 3, .regs 17, .regs 24, .regs 26]) ∧
    (∀ (test : Fin 8), ∃ t, exec (.backgroundSelftestFail test) s = .next t ∧ s.lockedOut t 5 test ∧ t.bg.selftest = .failed ∧
      s.onlyChanges t [.sys, .bg, .axes, .ports, .srv, .cp, .eng, .lio, .regs 0, .regs 1, .regs 3, .regs 17, .regs 24, .regs 26])

/-- A LOAD or COMMIT is accepted with BUSY while none is in progress, else LASTERR 6. At its end a faulty set sets LASTERR and changes no
set in force, a set whose CRC is the accepted one comes into force with MATCH, and a COMMIT whose candidate still holds and whose local act
was recent when it was written makes the candidate the accepted set in force. Arming starts the heartbeat, a challenge opens a period, the
one right answer within it with valid mode codes answers it, and another answer does not. Some clauses rest on readings of the model: log
entry 39. (R54, R55, R56, R58). -/
def Obligations.SafetySetCommands : Prop :=
  ∀ (s : State),
    (s.up = true → s.get BG_SCS_STAT_BUSY = 0 → ∃ t, exec (.scsLoad) s = .next t ∧ t.get BG_SCS_STAT_BUSY = 1 ∧ t.bg.scsLoad = true ∧
      t.bg.scsCommit = false ∧ (t.bg.scsStage = (List.range 16).map (fun i => s.reg (BG_SCS_STAGE i))) ∧ s.onlyChanges t [.bg, .regs 1] ∧
      s.keepsRegs t 1 [BG_SCS_STAT]) ∧
    (s.up = true → s.get BG_SCS_STAT_BUSY = 1 → ∃ t, exec (.scsLoad) s = .next t ∧ t.get BG_SCS_STAT_LASTERR = 6 ∧ t.bg = s.bg ∧
      s.onlyChanges t [.bg, .regs 1] ∧ s.keepsRegs t 1 [BG_SCS_STAT]) ∧
    (s.up = true → s.get BG_SCS_STAT_BUSY = 0 → ∃ t, exec (.scsCommit) s = .next t ∧ t.get BG_SCS_STAT_BUSY = 1 ∧ t.bg.scsCommit = true ∧
      t.bg.scsAct = s.recentAct ∧ t.bg.scsLoad = false ∧ s.onlyChanges t [.bg, .regs 1] ∧ s.keepsRegs t 1 [BG_SCS_STAT]) ∧
    (∀ (e : Nat), s.up = true → s.bg.powered = true → s.get BG_SCS_STAT_BUSY = 1 → s.bg.scsLoad = true → scsError s s.bg.scsStage = e →
      0 < e → ∃ t, exec (.scsCommandComplete) s = .next t ∧ t.get BG_SCS_STAT_BUSY = 0 ∧ t.get BG_SCS_STAT_LASTERR = e ∧
      t.bg.inForce = s.bg.inForce ∧ t.bg.accepted = s.bg.accepted ∧ s.onlyChanges t [.sys, .bg, .axes, .ports, .srv, .cp, .eng, .lio,
      .regs 0, .regs 1, .regs 3, .regs 17, .regs 24, .regs 26] ∧ s.keepsRegs t 1 [BG_SCS_STAT]) ∧
    (s.up = true → s.bg.powered = true → s.get BG_SCS_STAT_BUSY = 1 → s.bg.scsLoad = true → scsError s s.bg.scsStage = 0 →
      s.bg.accepted = some (scsWord s.bg.scsStage 15) → ∃ t, exec (.scsCommandComplete) s = .next t ∧ t.get BG_SCS_STAT_BUSY = 0 ∧
      t.get BG_SCS_STAT_MATCH = 1 ∧ t.get BG_SCS_STAT_LOADED = 1 ∧ t.bg.inForce = some s.bg.scsStage ∧ s.onlyChanges t [.sys, .bg, .axes,
      .ports, .srv, .cp, .eng, .lio, .regs 0, .regs 1, .regs 3, .regs 17, .regs 24, .regs 26] ∧ s.keepsRegs t 1 [BG_SCS_STAT]) ∧
    (∀ (w : List Word), s.up = true → s.bg.powered = true → s.get BG_SCS_STAT_BUSY = 1 → s.bg.scsLoad = false → s.bg.scsCommit = true →
      s.bg.cand = some w → s.candHolds = true → s.bg.scsAct = true → ∃ t, exec (.scsCommandComplete) s = .next t ∧
      t.get BG_SCS_STAT_BUSY = 0 ∧ t.get BG_SCS_STAT_COMMITTED = 1 ∧ t.bg.accepted = some (scsWord w 15) ∧ t.bg.inForce = some w ∧
      t.bg.cand = none ∧ s.onlyChanges t [.sys, .bg, .axes, .ports, .srv, .cp, .eng, .lio, .regs 0, .regs 1, .regs 3, .regs 17, .regs 24,
      .regs 26] ∧ s.keepsRegs t 1 [BG_SCS_STAT]) ∧
    (s.up = true → s.bg.powered = true → s.bg.hbArmed = false → ∃ t, exec (.hbArm true) s = .next t ∧ t.bg.hbArmed = true ∧
      t.bg.hbRun = false ∧ t.bg.hbMiss = 0 ∧ s.onlyChanges t [.bg]) ∧
    (∀ (chal : BitVec 8), s.up = true → s.bg.powered = true → s.bg.hbArmed = true → s.bg.hbOpen = true → s.bg.hbAnswered = true → ∃ t,
      exec (.hbChallenge chal) s = .next t ∧ t.bg.hbOpen = true ∧ t.bg.hbAnswered = false ∧ t.bg.hbWrites = 0 ∧
      t.get BG_HB_CHAL_CHAL = chal.toNat ∧ t.bg.hbMiss = 0 ∧ s.onlyChanges t [.sys, .bg, .axes, .ports, .srv, .cp, .eng, .lio, .regs 0,
      .regs 1, .regs 3, .regs 17, .regs 24, .regs 26]) ∧
    (∀ (w : Word), s.up = true → s.bg.powered = true → s.bg.hbArmed = true → s.bg.hbOpen = true → s.bg.hbWrites = 0 →
      fieldOf w 7 0 = 255 - s.get BG_HB_CHAL_CHAL → modesValid s (fieldOf w 31 8) = true → ∃ t, exec (.hbResponse w) s = .next t ∧
      t.bg.hbAnswered = true ∧ t.bg.hbRun = true ∧ t.bg.hbModes = fieldOf w 31 8 ∧ s.onlyChanges t [.bg, .regs 1]) ∧
    (∀ (w : Word), s.up = true → s.bg.powered = true → s.bg.hbArmed = true → s.bg.hbOpen = true →
      (s.bg.hbWrites ≠ 0 ∨ fieldOf w 7 0 ≠ 255 - s.get BG_HB_CHAL_CHAL) → ∃ t, exec (.hbResponse w) s = .next t ∧
      t.bg.hbAnswered = false ∧ t.bg.hbModes = s.bg.hbModes ∧ s.onlyChanges t [.bg])

/-- With the supervisor powered: a press on which both contacts disagree, or one longer than 5 s, voids the act. A complete local act is
recorded; with lock-out latched it clears lock-out when every cause is gone, else it opens the fieldbus window as SW4 says. A fieldbus
request with the key within the window and SW4 ON clears lock-out when every cause is gone; another is refused with EMCY 0xFF11. The
window closes at its end. Some clauses rest on readings of the model: log entry 38. (R60, R61, R62). -/
def Obligations.LockoutResetActs : Prop :=
  ∀ (s : State), s.bg.powered = true →
    (∀ (a : Bool), ∃ t, exec (.lorPressDisagree a a) s = .next t ∧ t.bg.lorVoid = true ∧ t.bg.lorA = a ∧ t.bg.lorB = a ∧
      (s.clocked = true → s.queued t 0xFF0D []) ∧ s.onlyChanges t [.bg, .srv, .regs 1, .regs 3]) ∧
    (∃ t, exec (.lorPressTimeout) s = .next t ∧ t.bg.lorVoid = true ∧ t.bg.latched = s.bg.latched ∧ s.onlyChanges t [.bg, .regs 1,
      .regs 3]) ∧
    (∀ (pressed released : Nat), 500 ≤ pressed → pressed < 5000 → 1000 ≤ released → s.bg.lorVoid = false → s.bg.latched = true →
      s.allGone = true → ∃ t, exec (.lorActRelease pressed released) s = .next t ∧ t.bg.actAt = some s.time ∧ t.bg.latched = false ∧
      t.bg.causes = 0 ∧ t.bg.first = 0 ∧ (s.clocked = true → s.queued t 0xFF12 []) ∧ s.onlyChanges t [.bg, .srv, .regs 1, .regs 3]) ∧
    (∀ (pressed released : Nat), 500 ≤ pressed → pressed < 5000 → 1000 ≤ released → s.bg.lorVoid = false → s.bg.latched = true →
      s.allGone = false → ∃ t, exec (.lorActRelease pressed released) s = .next t ∧ t.bg.actAt = some s.time ∧ t.bg.latched = true ∧
      t.bg.window = bitOf s.bg.snap 3 ∧ (s.clocked = true → s.queued t 0xFF10 []) ∧ s.onlyChanges t [.bg, .srv, .regs 1, .regs 3]) ∧
    (s.up = true → s.bg.window = true → bitOf s.bg.snap 3 = true → s.allGone = true → ∃ t,
      exec (.fieldbusLorRequest 0xA55A) s = .next t ∧ t.bg.latched = false ∧ t.bg.causes = 0 ∧ t.bg.window = false ∧
      s.queued t 0xFF12 [] ∧ s.onlyChanges t [.bg, .srv, .regs 1, .regs 3]) ∧
    (∀ (key : Word), s.up = true → (key ≠ 0xA55A ∨ s.bg.window = false) → ∃ t, exec (.fieldbusLorRequest key) s = .next t ∧ t.bg = s.bg ∧
      s.queued t 0xFF11 [] ∧ s.onlyChanges t [.srv, .regs 1, .regs 3] ∧ s.keepsRegs t 1 [BG_EVENTS]) ∧
    (∃ t, exec (.fblorWindowExpiry) s = .next t ∧ t.bg = { s.bg with window := false } ∧ s.onlyChanges t [.bg])

/-- A write of AX_CW by the source named in AX_CWSRC is stored and judged. Shutdown moves Switch on disabled and Switched on to Ready,
switch on moves Ready to Switched on, enable operation starts the enable sequence in the selected mode when nothing bars it and is
refused with reason 0x20 under a cut, and the rising fault-reset bit clears a fault whose cause is gone and is refused with reason 0x23
otherwise. From the other source the write only sets AX_EVT.FOREIGN. Some clauses rest on readings of the model: log entries 9 and 40.
(R71, R72, R76, R77, R81, R89, R307). -/
def Obligations.ControlwordInSafeStates : Prop :=
  ∀ (s : State) (a : Fin 8) (src : Bool) (v : BitVec 16), s.up = true → s.hasAxis a = true → s.quietEdge → s.unclaimed = false →
    s.axes[a].warm = false → s.cp.take = none →
    (s.get (AX_CWSRC_SRC a) = b2n src → cwCmd v.toNat = .shutdown → (s.axes[a].st = .disabled ∨ s.axes[a].st = .switchedOn) → ∃ t,
      exec (.cwShutdown a src v) s = .next t ∧ t.axes[a].st = .ready ∧ t.get (AX_CW_CW a) = v.toNat ∧ s.keepsOtherAxes t a ∧
      s.onlyChanges t [.axes, .ports, .srv, .eng, .lio, .regs 3, .regs 17, .regs 24, .regs 26]) ∧
    (s.get (AX_CWSRC_SRC a) = b2n (!src) → cwCmd v.toNat = .shutdown → ∃ t, exec (.cwShutdown a src v) s = .next t ∧
      t.get (AX_CW_CW a) = s.get (AX_CW_CW a) ∧ bitOf (t.get (axEvt a)) 5 = true ∧ t.axes = s.axes ∧ s.onlyChanges t [.regs 3,
      .regs 17] ∧ s.keepsRegs t 17 [AX_EVT a]) ∧
    (s.get (AX_CWSRC_SRC a) = b2n src → cwCmd v.toNat = .switchOn → s.axes[a].st = .ready → ∃ t, exec (.cwSwitchOn a src v) s = .next t ∧
      t.axes[a].st = .switchedOn ∧ t.get (AX_CW_CW a) = v.toNat ∧ s.keepsOtherAxes t a ∧ s.onlyChanges t [.axes, .ports, .srv, .eng,
      .lio, .regs 3, .regs 17, .regs 24, .regs 26]) ∧
    (∀ (m : Int), s.get (AX_CWSRC_SRC a) = b2n src → cwCmd v.toNat = .enableOp → s.axes[a].st = .switchedOn →
      m = sgn 8 (s.get (AX_MODESEL_MODESEL a)) → m ≠ 0 → s.routeOf a ≠ 2 → s.sys.haltN = true → s.sys.ss1 = false →
      s.axes[a].inhibit = false → s.parked = false → s.stageReady a = true → s.freeActs a = false →
      s.chanEn (s.get (ENG_FB_SRC a)) = true → s.chanLoss (s.get (ENG_FB_SRC a)) = false → ∃ t,
      exec (.cwEnableOperation a src v) s = .next t ∧ t.axes[a].st = .enabled ∧ t.axes[a].mode = m ∧ t.axes[a].step = 1 ∧
      t.get (ENG_STAT_EDGES a) = 1 ∧ t.get (ENG_STAT_PRECHG a) = 1 ∧ t.get (AX_CW_CW a) = v.toNat ∧ s.keepsOtherAxes t a ∧
      s.onlyChanges t [.axes, .ports, .srv, .eng, .lio, .regs 3, .regs 17, .regs 24, .regs 26]) ∧
    (s.get (AX_CWSRC_SRC a) = b2n src → cwCmd v.toNat = .enableOp → s.axes[a].st = .switchedOn → s.sys.haltN = false → ∃ t,
      exec (.cwEnableOperation a src v) s = .next t ∧ s.refuses t a 1 0x20 ∧ t.get (AX_CW_CW a) = v.toNat ∧ s.keepsOtherAxes t a ∧
      s.onlyChanges t [.axes, .ports, .srv, .eng, .lio, .regs 3, .regs 17, .regs 24, .regs 26]) ∧
    (s.get (AX_CWSRC_SRC a) = b2n src → bitOf v.toNat 7 = true → bitOf (s.get (AX_CW_CW a)) 7 = false → s.axes[a].st = .fault →
      s.causePresent a = false → ∃ t, exec (.cwFaultReset a src v) s = .next t ∧ t.axes[a].st = .disabled ∧ t.reg (ENG_FAULT a) = 0 ∧
      t.reg (WN_FAULT a) = 0 ∧ t.get (AX_ERR_ERRCODE a) = 0 ∧ t.get (AX_CW_CW a) = v.toNat ∧ s.keepsOtherAxes t a ∧
      s.onlyChanges t [.axes, .ports, .srv, .eng, .lio, .regs 3, .regs 17, .regs 24, .regs 26]) ∧
    (s.get (AX_CWSRC_SRC a) = b2n src → bitOf v.toNat 7 = true → bitOf (s.get (AX_CW_CW a)) 7 = false → s.axes[a].st = .fault →
      s.causePresent a = true → ∃ t, exec (.cwFaultReset a src v) s = .next t ∧ s.refuses t a 3 0x23 ∧ s.keepsOtherAxes t a ∧
      s.onlyChanges t [.axes, .ports, .srv, .eng, .lio, .regs 3, .regs 17, .regs 24, .regs 26])

/-- On an axis that publishes edges: disable operation with option code 0 halts it fast into Switched on, with option code 1 it begins its
ramp while the axis stays enabled; disable voltage halts it fast into Switch on disabled; quick stop begins the ramp of its option code in
Quick stop active; the rising halt bit begins the halt ramp of an axis in step 3 that runs no stop. A fast halt stops the edges and
commands the brake set. In EMERGENCY the controlword is refused with reason 0x26. Some clauses rest on readings of the model: log entries
40, 68 and 74. (R77, R78, R80, R84, R355). -/
def Obligations.ControlwordInOperation : Prop :=
  ∀ (s : State) (a : Fin 8) (src : Bool) (v : BitVec 16), s.up = true → s.hasAxis a = true → s.quietEdge →
    s.get (AX_CWSRC_SRC a) = b2n src → s.unclaimed = false → s.axes[a].warm = false → s.cp.take = none →
    (cwCmd v.toNat = .switchOn → s.axes[a].st = .enabled → s.axes[a].code ≠ 5 → s.get (AX_OPT_DOOPT a) = 0 → ∃ t,
      exec (.cwDisableOperation a src v) s = .next t ∧ t.axes[a].st = .switchedOn ∧ t.get (ENG_STAT_EDGES a) = 0 ∧
      t.get (BRK_STAT_CMD a) = 0 ∧ t.axes[a].step = 0 ∧ t.axes[a].ramp = .none ∧ t.get (AX_CW_CW a) = v.toNat ∧ s.keepsOtherAxes t a ∧
      s.onlyChanges t [.axes, .ports, .srv, .eng, .lio, .regs 3, .regs 17, .regs 24, .regs 26]) ∧
    (cwCmd v.toNat = .switchOn → s.axes[a].st = .enabled → s.axes[a].code ≠ 5 → s.get (AX_OPT_DOOPT a) = 1 →
      Ramp.rate s a (s.softRamp a .toSwitchedOn) ≠ 0 → ∃ t, exec (.cwDisableOperation a src v) s = .next t ∧ t.axes[a].st = .enabled ∧
      t.axes[a].ramp = s.softRamp a .toSwitchedOn ∧ t.get (AX_CW_CW a) = v.toNat ∧ s.keepsOtherAxes t a ∧ s.onlyChanges t [.axes, .ports,
      .srv, .eng, .lio, .regs 3, .regs 17, .regs 24, .regs 26]) ∧
    (cwCmd v.toNat = .disableVoltage → (s.axes[a].st = .enabled ∨ s.axes[a].st = .quickStop) → s.axes[a].code ≠ 5 → ∃ t,
      exec (.cwDisableVoltage a src v) s = .next t ∧ t.axes[a].st = .disabled ∧ t.get (ENG_STAT_EDGES a) = 0 ∧
      t.get (BRK_STAT_CMD a) = 0 ∧ t.axes[a].step = 0 ∧ t.axes[a].ramp = .none ∧ t.get (AX_CW_CW a) = v.toNat ∧ s.keepsOtherAxes t a ∧
      s.onlyChanges t [.axes, .ports, .srv, .eng, .lio, .regs 3, .regs 17, .regs 24, .regs 26]) ∧
    (cwCmd v.toNat = .quickStop → s.axes[a].st = .enabled → s.axes[a].code ≠ 5 → Ramp.rate s a (s.quickRamp a) ≠ 0 → ∃ t,
      exec (.cwQuickStop a src v) s = .next t ∧ t.axes[a].st = .quickStop ∧ t.axes[a].ramp = s.quickRamp a ∧
      t.get (AX_CW_CW a) = v.toNat ∧ s.keepsOtherAxes t a ∧ s.onlyChanges t [.axes, .ports, .srv, .eng, .lio, .regs 3, .regs 17,
      .regs 24, .regs 26]) ∧
    (bitOf v.toNat 8 = true → bitOf (s.get (AX_CW_CW a)) 8 = false → cwCmd v.toNat = .enableOp → s.axes[a].st = .enabled →
      s.axes[a].code ≠ 5 → s.axes[a].code ≠ 1 → s.axes[a].step = 3 → s.axes[a].pendEmg = false → s.axes[a].ramp.stops = false →
      (Ramp.rate s a (if s.get (AX_OPT_HALTOPT a) = 2 then .stopSpeed true .stayZero else s.softRamp a .stayZero) ≠ 0) → ∃ t,
      exec (.cwHalt a src v) s = .next t ∧ t.axes[a].st = .enabled ∧
      (t.axes[a].ramp = (if s.get (AX_OPT_HALTOPT a) = 2 then .stopSpeed true .stayZero else s.softRamp a .stayZero)) ∧
      t.get (AX_CW_CW a) = v.toNat ∧ s.keepsOtherAxes t a ∧ s.onlyChanges t [.axes, .ports, .srv, .eng, .lio, .regs 3, .regs 17,
      .regs 24, .regs 26]) ∧
    (cwCmd v.toNat = .quickStop → s.axes[a].code = 5 → ∃ t, exec (.cwQuickStop a src v) s = .next t ∧
      s.refuses t a (cwCode (s.get (AX_CW_CW a)) v.toNat) 0x26 ∧ s.keepsOtherAxes t a ∧ s.onlyChanges t [.axes, .ports, .srv, .eng, .lio,
      .regs 3, .regs 17, .regs 24, .regs 26])

/-- A valid mode written in SAFE is stored, and a change from speed to torque mode in operation takes effect with the torque ramp from the
torque in force; the value -2 is refused with 0x22 and any mode in EMERGENCY with 0x26. The controlword source
is written in SAFE only, else refused with 0x21. INIT set moves Not ready to Switch on disabled, INIT cleared in SAFE moves back. An
emergency request is recorded with LIO_EVT.EMGREQ, is refused with 0x24 while HALT_N is low, and takes an axis in SERVICE into EMERGENCY.
Its end ramps an axis in EMERGENCY to standstill and cancels a pending entry. (R68, R69, R71, R76, R77, R80, R83, R84, R85, R90, R368).
-/
def Obligations.AxisWritesAndEmergency : Prop :=
  ∀ (s : State) (a : Fin 8), s.up = true → s.hasAxis a = true → s.quietEdge →
    (∀ (code : BitVec 8), modeValid (sgn 8 code.toNat) = true → s.axes[a].code = 0 → ∃ t, exec (.modeSelectWrite a code) s = .next t ∧
      t.get (AX_MODESEL_MODESEL a) = code.toNat ∧ t.axes[a].st = s.axes[a].st ∧ s.keepsOtherAxes t a ∧ s.onlyChanges t [.axes,
      .regs 17] ∧ s.keepsRegs t 17 [AX_MODESEL a]) ∧
    (∃ t, exec (.modeSelectWrite a 0xFE) s = .next t ∧ s.refuses t a 2 0x22 ∧ s.keepsOtherAxes t a ∧ s.onlyChanges t [.axes, .ports,
      .srv, .eng, .lio, .regs 3, .regs 17, .regs 24]) ∧
    (∀ (code : BitVec 8), s.axes[a].code = 5 → code.toNat ≠ 0xFE → ∃ t, exec (.modeSelectWrite a code) s = .next t ∧
      s.refuses t a 2 0x26 ∧ s.keepsOtherAxes t a ∧ s.onlyChanges t [.axes, .ports, .srv, .eng, .lio, .regs 3, .regs 17, .regs 24]) ∧
    (s.axes[a].st = .enabled → s.axes[a].code = 3 → s.sys.haltN = true → s.sys.ss1 = false → s.axes[a].step = 3 →
      s.axes[a].pendEmg = false → s.axes[a].ramp.stops = false → ∃ t,
      exec (.modeSelectWrite a 4) s = .next t ∧ t.axes[a].mode = 4 ∧ t.axes[a].st = .enabled ∧ t.axes[a].ramp = .torque ∧
      t.axes[a].tqRef = s.eng[a].tLast ∧ t.get (AX_MODESEL_MODESEL a) = 4 ∧ s.keepsOtherAxes t a ∧ s.onlyChanges t [.axes, .ports, .srv,
      .eng, .lio, .regs 3, .regs 17, .regs 24]) ∧
    (∀ (pdo : Bool), s.isSafe a = true → ∃ t, exec (.cwsrcWrite a pdo) s = .next t ∧ t.get (AX_CWSRC_SRC a) = b2n pdo ∧ t.axes = s.axes ∧
      s.onlyChanges t [.regs 17] ∧ s.keepsRegs t 17 [AX_CWSRC a]) ∧
    (∀ (pdo : Bool), s.isSafe a = false → ∃ t, exec (.cwsrcWrite a pdo) s = .next t ∧ s.refuses t a 6 0x21 ∧
      t.get (AX_CWSRC_SRC a) = s.get (AX_CWSRC_SRC a) ∧ s.keepsOtherAxes t a ∧ s.onlyChanges t [.axes, .srv, .regs 3, .regs 17]) ∧
    (s.axes[a].st = .notReady → ∃ t, exec (.axInitWrite a true) s = .next t ∧ t.axes[a].st = .disabled ∧ t.get (AX_CTRL_INIT a) = 1 ∧
      t.get (ENG_MARGIN_V a) = 0xFFFF ∧ s.keepsOtherAxes t a ∧ s.onlyChanges t [.axes, .eng, .lio, .regs 3, .regs 17]) ∧
    (s.isSafe a = true → ∃ t, exec (.axInitWrite a false) s = .next t ∧ t.axes[a].st = .notReady ∧ t.get (AX_CTRL_INIT a) = 0 ∧
      s.keepsOtherAxes t a ∧ s.onlyChanges t [.axes, .eng, .lio, .regs 3, .regs 17]) ∧
    (s.axes[a].emgReq = false → s.unclaimed = false → s.sys.haltN = false → s.sys.ss1 = false → ∃ t, exec (.emergencyRequestOn a) s = .next t ∧
      t.axes[a].emgReq = true ∧ bitOf (t.get ⟨LIO_EVT, 4, 0⟩) 2 = true ∧ s.refuses t a 4 0x24 ∧ s.keepsOtherAxes t a ∧
      s.onlyChanges t [.axes, .ports, .srv, .eng, .lio, .regs 3, .regs 17, .regs 24]) ∧
    (s.axes[a].emgReq = false → s.unclaimed = false → s.sys.haltN = true → s.sys.ss1 = false → s.speedClass ≠ 0 → s.axes[a].code = 1 →
      ∃ t, exec (.emergencyRequestOn a) s = .next t ∧ t.axes[a].emgReq = true ∧ t.axes[a].mode = -2 ∧ t.axes[a].st = .enabled ∧
      t.axes[a].ramp = .speed ∧ t.get (ENG_STAT_EDGES a) = 1 ∧ bitOf (t.get (axEvt a)) 3 = true ∧ s.keepsOtherAxes t a ∧
      s.onlyChanges t [.axes, .ports, .srv, .eng, .lio, .regs 3, .regs 17, .regs 24]) ∧
    (s.axes[a].emgReq = true → s.axes[a].code = 5 → s.axes[a].byScs = false → s.reg (AX_PDEC a) ≠ 0 → ∃ t,
      exec (.emergencyRequestOff a) s = .next t ∧ t.axes[a].emgReq = false ∧ t.axes[a].ramp = .stopSpeed false .toDisabled ∧
      t.axes[a].st = .enabled ∧ s.keepsOtherAxes t a ∧ s.onlyChanges t [.axes, .ports, .srv, .eng, .lio, .regs 3, .regs 17, .regs 24]) ∧
    (s.axes[a].emgReq = true → s.axes[a].code ≠ 5 → s.axes[a].pendEmg = true → ∃ t, exec (.emergencyRequestOff a) s = .next t ∧
      t.axes[a].emgReq = false ∧ t.axes[a].pendEmg = false ∧ t.axes[a].st = s.axes[a].st ∧ s.keepsOtherAxes t a ∧ s.onlyChanges t [.axes,
      .ports, .srv, .eng, .lio, .regs 3, .regs 17, .regs 24])

/-- In a mode, with no ramp, at the end of the pre-charge the axis commands its brake released and waits, or goes to the reference ramp
at once without a brake. At the end of the lift wait it begins the reference ramp of its mode. A transition that waited for standstill
completes: the edges stop, the brake is commanded set and the axis takes the state of its goal, or holds Quick stop active with its gates
off. (R79, R80, R81, R308, R356, R357). -/
def Obligations.EnableSequenceAndStandstill : Prop :=
  ∀ (s : State) (a : Fin 8), s.up = true → s.hasAxis a = true →
    (s.axes[a].code ≠ 0 → s.axes[a].step = 1 → s.axes[a].ramp = .none → s.axes[a].warm = false → s.get (BRK_CFG_EN a) = 1 → ∃ t,
      exec (.prechargeEnd a) s = .next t ∧ t.axes[a].step = 2 ∧ t.get (BRK_STAT_CMD a) = 1 ∧ t.get (ENG_STAT_PRECHG a) = 0 ∧
      t.axes[a].st = s.axes[a].st ∧ s.keepsOtherAxes t a ∧ s.onlyChanges t [.axes, .ports, .srv, .cp, .eng, .lio, .regs 3, .regs 17,
      .regs 24, .regs 26]) ∧
    (s.axes[a].code = 3 → s.axes[a].step = 1 → s.axes[a].ramp = .none → s.axes[a].warm = false → s.get (BRK_CFG_EN a) = 0 →
      bitOf (s.get (AX_CW_CW a)) 8 = false → ∃ t, exec (.prechargeEnd a) s = .next t ∧ t.axes[a].step = 3 ∧ t.axes[a].ramp = .speed ∧
      t.get (ENG_STAT_PRECHG a) = 0 ∧ s.keepsOtherAxes t a ∧ s.onlyChanges t [.axes, .ports, .srv, .cp, .eng, .lio, .regs 3, .regs 17,
      .regs 24, .regs 26]) ∧
    (s.axes[a].code = 2 → s.axes[a].step = 2 → s.axes[a].ramp = .none → s.axes[a].warm = false → s.axes[a].lifting = true →
      s.reg (AX_TSLOPE a) ≠ 0 → bitOf (s.get (AX_CW_CW a)) 8 = false → ∃ t, exec (.brakeLiftWaitEnd a) s = .next t ∧ t.axes[a].step = 3 ∧
      t.axes[a].ramp = .torque ∧ t.axes[a].st = .enabled ∧ s.keepsOtherAxes t a ∧ s.onlyChanges t [.axes, .ports, .srv, .cp, .eng, .lio,
      .regs 3, .regs 17, .regs 24, .regs 26]) ∧
    (∀ (fast : Bool), s.axes[a].stillFrom.isSome = true → s.axes[a].ramp = .stopSpeed fast .toReady → ∃ t,
      exec (.standstillReached a) s = .next t ∧ t.axes[a].st = .ready ∧ t.get (ENG_STAT_EDGES a) = 0 ∧ t.get (BRK_STAT_CMD a) = 0 ∧
      t.axes[a].ramp = .none ∧ s.keepsOtherAxes t a ∧ s.onlyChanges t [.axes, .lio, .regs 3, .regs 17, .regs 24]) ∧
    (∀ (fast : Bool), s.axes[a].stillFrom.isSome = true → s.axes[a].ramp = .stopSpeed fast .holdQuick → ∃ t,
      exec (.standstillReached a) s = .next t ∧ t.axes[a].st = s.axes[a].st ∧ t.axes[a].idle = true ∧ t.axes[a].byScs = s.axes[a].byScs ∧
      t.get (ENG_STAT_EDGES a) = 0 ∧ t.get (BRK_STAT_CMD a) = 0 ∧ s.keepsOtherAxes t a ∧ s.onlyChanges t [.axes, .lio, .regs 3, .regs 17,
      .regs 24])

/-- A word pushed by the owner of the tenant queue, with room and no port reset under way, is appended; another push only sets PUSHREF, and
a push during a port reset is discarded. A pop gives the oldest word of the receive FIFO and removes it; from an empty FIFO it gives 0 and
sets POPEMPTY. PORT_ENABLE takes a port from OFF to STREAM with its slot count and alive counter restarted; PORT_DISABLE takes it OFF when
LIVE is clear and its axes are in SAFE; PORT_RESUME takes it from HALT to STREAM after the twelfth edge of the halt frame when HALT_N and
ALERT_N are high and its axes are in SAFE; where the condition fails CTLREF is set and the port stays as it is. A halt request is stored as
due with cause 4; CLRREENT clears REENTERED. (R190, R196, R201, R202, R208, R213, R214, R217, R220). -/
def Obligations.PortControlAndQueues : Prop :=
  ∀ (s : State) (p : Fin 6), s.up = true → s.hasPort p = true →
    (s.ports[p].st = .off → s.pairBar p = false → s.parked = false → ∃ t, exec (.portEnable p) s = .next t ∧ t.ports[p].st = .stream ∧
      t.ports[p].slot = 0 ∧ t.get (SP_ACNT_ACNT p) = 1 ∧ s.keepsOtherPorts t p ∧ s.onlyChanges t [.ports, .eng, .regs 16, .regs 17]) ∧
    (s.ports[p].st = .off → s.parked = true → ∃ t, exec (.portEnable p) s = .next t ∧ t.get (SP_ERR_CTLREF p) = 1 ∧ t.ports = s.ports ∧
      s.onlyChanges t [.regs 16] ∧ s.keepsRegs t 16 [SP_ERR p]) ∧
    (s.ports[p].st ≠ .off → s.ports[p].live = false → s.allSafe (s.axmap p) = true → s.ports[p].flight = none → ∃ t,
      exec (.portDisable p) s = .next t ∧ t.ports[p].st = .off ∧ t.ports[p].engQ = [] ∧ t.ports[p].flight = none ∧
      s.keepsOtherPorts t p ∧ s.onlyChanges t [.axes, .ports, .srv, .cp, .eng, .lio, .regs 3, .regs 16, .regs 17, .regs 24]) ∧
    (s.ports[p].st ≠ .off → s.ports[p].live = true → ∃ t, exec (.portDisable p) s = .next t ∧ t.get (SP_ERR_CTLREF p) = 1 ∧
      t.ports = s.ports ∧ s.onlyChanges t [.regs 16] ∧ s.keepsRegs t 16 [SP_ERR p]) ∧
    (s.ports[p].st = .halt → s.ports[p].twelfth = true → s.sys.haltN = true → s.alertN p = true → s.allSafe (s.axmap p) = true → ∃ t,
      exec (.portResume p) s = .next t ∧ t.ports[p].st = .stream ∧ t.ports[p].slot = 0 ∧ t.ports[p].live = false ∧
      t.ports[p].haltDue = none ∧ s.keepsOtherPorts t p ∧ s.onlyChanges t [.ports, .eng, .regs 16, .regs 17]) ∧
    ((s.sys.haltN = false ∨ s.ports[p].twelfth = false) → ∃ t, exec (.portResume p) s = .next t ∧ t.get (SP_ERR_CTLREF p) = 1 ∧ t.ports = s.ports ∧
      s.onlyChanges t [.regs 16] ∧ s.keepsRegs t 16 [SP_ERR p]) ∧
    (s.ports[p].st = .stream → s.ports[p].haltDue = none → ∃ t, exec (.portHaltRequest p) s = .next t ∧
      t.ports[p] = { s.ports[p] with haltDue := some 4, haltBy := 0, haltAt := s.clk + 2 } ∧ s.keepsOtherPorts t p ∧ s.onlyChanges t [.ports]) ∧
    (∃ t, exec (.clearReentered p) s = .next t ∧ t.ports[p] = { s.ports[p] with reent := 0 } ∧ s.keepsOtherPorts t p ∧
      s.onlyChanges t [.ports]) ∧
    (∀ (ten : Fin 8) (w : Word), s.get (SP_CFG2_TQOWNER p) = ten → s.ports[p].tenQ.length < 256 → s.ports[p].resetting = false →
      s.marked (.portReset p) = false → ∃ t,
      exec (.tenantQueuePush p ten w) s = .next t ∧ t.ports[p] = { s.ports[p] with tenQ := s.ports[p].tenQ ++ [w] } ∧
      s.keepsOtherPorts t p ∧ s.onlyChanges t [.ports]) ∧
    (∀ (ten : Fin 8) (w : Word), (s.get (SP_CFG2_TQOWNER p) ≠ ten ∨ 256 ≤ s.ports[p].tenQ.length) →
      s.ports[p].resetting = false → s.marked (.portReset p) = false → ∃ t,
      exec (.tenantQueuePush p ten w) s = .next t ∧ t.get (SP_ERR_PUSHREF p) = 1 ∧ t.ports = s.ports ∧ s.onlyChanges t [.regs 16] ∧
      s.keepsRegs t 16 [SP_ERR p]) ∧
    (∀ (ten : Fin 8) (w : Word), (s.ports[p].resetting = true ∨ s.marked (.portReset p) = true) →
      exec (.tenantQueuePush p ten w) s = .next s) ∧
    (∀ (w : Word) (q : List Word), s.ports[p].rxQ = w :: q → ∃ t, exec (.receiveFifoPop p) s = .next t ∧ t.rdata = w.toNat ∧
      t.ports[p] = { s.ports[p] with rxQ := q } ∧ s.keepsOtherPorts t p ∧ s.onlyChanges t [.rdata, .ports]) ∧
    (s.ports[p].rxQ = [] → ∃ t, exec (.receiveFifoPop p) s = .next t ∧ t.rdata = 0 ∧ t.get (SP_ERR_POPEMPTY p) = 1 ∧ t.ports = s.ports ∧
      s.onlyChanges t [.rdata, .regs 16] ∧ s.keepsRegs t 16 [SP_ERR p])

/-- When HALT_N falls every streaming port without a halt due has one due for cause 1 and no axis stays in a mode. When ALERT_N of a port
with ALERTACT 1 falls, its halt is due for cause 2. A due halt takes the streaming port into HALT with its cause, its engine queue emptied
and LIVE clear, and sends its halt frame. The twelfth edge is recorded, or takes the port OFF where it waited for it, or ends a port reset.
The end of the all-off sequence clears LIVE. (R87, R211, R212, R213, R214, R215, R430). -/
def Obligations.HaltsReachThePorts : Prop :=
  ∀ (s : State), s.clocked = true →
    (∃ t, exec (.haltNFall) s = .next t ∧ t.sys.haltN = false ∧ (∀ q : Fin 6, s.ports[q].st = .stream → s.ports[q].haltDue = none →
      t.ports[q].haltDue = some 1) ∧ (∀ a : Fin 8, t.axes[a].code = 0) ∧ s.onlyChanges t [.sys, .axes, .ports, .srv, .cp, .eng, .lio,
      .regs 3, .regs 17, .regs 24]) ∧
    (∀ (p : Fin 6), s.up = true → s.hasPort p = true → s.get (SP_CFG_ALERTACT p) = 1 → s.ports[p].st = .stream → s.ports[p].haltDue = none → ∃ t,
      exec (.spAlertNFall p) s = .next t ∧ t.ports[p] = { s.ports[p] with haltDue := some 2, haltBy := 0, haltAt := s.clk + 7 } ∧ bitOf (t.get ⟨SP_EVT p, 10,
      0⟩) 1 = true ∧ s.keepsOtherPorts t p ∧ s.onlyChanges t [.ports, .regs 3, .regs 16]) ∧
    (∀ (p : Fin 6) (bits : List Bool) (c : Nat), s.ports[p].haltDue = some c → s.ports[p].st = .stream →
      s.ports[p].resetting = false → s.cp.take = none → ∃ t,
      exec (.haltStart p bits) s = .next t ∧ t.ports[p].st = .halt ∧ t.ports[p].haltCause = c ∧ t.ports[p].engQ = [] ∧
      t.ports[p].live = false ∧ t.ports[p].twelfth = false ∧ ⟨.port p, 3 :: s.haltCodes p, []⟩ ∈ t.wire ∧
      s.onlyChanges t [.freeCtr, .wire, .axes, .ports, .srv, .cp, .eng, .lio, .regs 3, .regs 16,
      .regs 17, .regs 24, .regs 26]) ∧
    (∀ (p : Fin 6), s.ports[p].st = .halt → s.ports[p].resetting = false → s.ports[p].offAtTwelfth = false → s.parked = false → ∃ t,
      exec (.haltFrameTwelfthEdge p) s = .next t ∧ t.ports[p] = { s.ports[p] with twelfth := true } ∧ s.keepsOtherPorts t p ∧
      s.onlyChanges t [.sys, .ports, .eng, .regs 16]) ∧
    (∀ (p : Fin 6), s.ports[p].st = .halt → s.ports[p].resetting = false → s.ports[p].offAtTwelfth = true → ∃ t,
      exec (.haltFrameTwelfthEdge p) s = .next t ∧ t.ports[p].st = .off ∧ t.ports[p].twelfth = false ∧ s.keepsOtherPorts t p ∧
      s.onlyChanges t [.sys, .ports, .eng, .regs 16]) ∧
    (∀ (p : Fin 6), s.ports[p].st = .halt → s.ports[p].resetting = true → ∃ t, exec (.haltFrameTwelfthEdge p) s = .next t ∧
      t.ports[p] = {} ∧ t.reg (SP_ACNT p) = resetWord (SP_ACNT p) ∧ t.reg (SP_ERR p) = resetWord (SP_ERR p) ∧ s.keepsOtherPorts t p ∧
      s.onlyChanges t [.sys, .ports, .regs 16]) ∧
    (∀ (p : Fin 6), s.ports[p].alloff = some [] → s.parked = false → ∃ t, exec (.alloffSequenceComplete p) s = .next t ∧
      t.ports[p] = { s.ports[p] with alloff := none, live := false } ∧ s.keepsOtherPorts t p ∧ s.onlyChanges t [.axes, .ports, .srv, .cp,
      .eng, .lio, .regs 3, .regs 16, .regs 17, .regs 24])

/-- While a RAW entry runs a slot only passes. A slot with one whole Jalzil entry in the tenant queue sends it: the frame word with the
alive counter goes out on the port, the counter advances within 1 to 15, the entry leaves the queue and the frame is in flight. An engine
entry for this slot is sent before it. A good reply to a tenant entry with RECORD set is recorded in the receive FIFO and clears the
count of bad replies; a reply with a bad CRC is counted with its select and class. Some clauses rest on readings of the model: log entry
12. (R190, R192, R196, R200, R201, R203, R204, R205, R208, R301). -/
def Obligations.SlotsAndReplies : Prop :=
  ∀ (s : State) (p : Fin 6), s.clocked = true →
    (s.ports[p].st = .stream → 0 < s.ports[p].rawBusy → ∃ t, exec (.slotBoundary p) s = .next t ∧
      t.ports[p] = { s.ports[p] with slot := s.ports[p].slot + 1, rawBusy := s.ports[p].rawBusy - 1 } ∧ s.keepsOtherPorts t p ∧
      s.onlyChanges t [.ports]) ∧
    (∀ (h d : Word) (c op pl : Nat), s.ports[p].st = .stream → s.ports[p].rawBusy = 0 → s.ports[p].flight = none →
      s.ports[p].alloff = none → s.cp.take = none → s.parked = false → s.ports[p].engQ = [] → s.ports[p].tenQ = [h, d] → s.marked (.pushed p) = false →
      s.dmode p = true → bitsOf h.toNat 31 30 = 0 → bitsOf h.toNat 15 12 = c → c < 8 → d.toNat = op * 2 ^ 24 + pl → pl < 2 ^ 24 →
      s.entryInvalid p h.toNat [d] = false → ∃ t, exec (.slotBoundary p) s = .next t ∧ t.wire = ⟨.port p, [0, 2 ^ c,
      frameWord (s.get (SP_ACNT_ACNT p)) op pl], leBytes 5 (frameWord (s.get (SP_ACNT_ACNT p)) op pl)⟩ :: s.wire ∧
      t.get (SP_ACNT_ACNT p) = s.get (SP_ACNT_ACNT p) % 15 + 1 ∧ t.ports[p].tenQ = [] ∧ t.ports[p].slot = s.ports[p].slot + 1 ∧
      t.ports[p].flight = some ⟨.tenant, 0, h.toNat, c, false, op, pl, s.get (SP_ACNT_ACNT p), 0, true⟩ ∧ s.keepsOtherPorts t p ∧
      s.onlyChanges t [.wire, .axes, .ports, .srv, .cp, .eng, .lio, .regs 3, .regs 16, .regs 17, .regs 24, .regs 26]) ∧
    (∀ (e : EngEntry) (c op pl : Nat), s.ports[p].st = .stream → s.ports[p].rawBusy = 0 → s.ports[p].flight = none →
      s.ports[p].alloff = none → s.cp.take = none → s.parked = false → s.ports[p].engQ = [e] → e.rslot = s.ports[p].slot % 1024 →
      e.opcode = op → e.payload = pl → e.bcast = false → s.dmode p = true → e.sel = c → c < 8 → c ∈ s.fitted p → ∃ t,
      exec (.slotBoundary p) s = .next t ∧ t.wire = ⟨.port p, [0, 2 ^ c, frameWord (s.get (SP_ACNT_ACNT p)) op pl],
      leBytes 5 (frameWord (s.get (SP_ACNT_ACNT p)) op pl)⟩ :: s.wire ∧ t.get (SP_ACNT_ACNT p) = s.get (SP_ACNT_ACNT p) % 15 + 1 ∧
      t.ports[p].engQ = [] ∧ t.ports[p].tenQ = s.ports[p].tenQ ∧ t.ports[p].live = (s.ports[p].live || gateOp op) ∧
      s.keepsOtherPorts t p ∧ s.onlyChanges t [.wire, .axes, .ports, .srv, .cp, .eng, .lio, .regs 3, .regs 16, .regs 17, .regs 24,
      .regs 26]) ∧
    (∀ (bits : List Bool) (fl : Flight), s.up = true → s.ports[p].flight = some fl → fl.await = true → fl.src = .tenant →
      bitOf fl.hdr 27 = true → bits.length = 41 → replyClass fl.alive bits = 6 → s.ports[p].rxQ.length ≤ 126 → s.cp.take = none → ∃ t,
      exec (.satelliteReply p bits) s = .next t ∧ t.ports[p].rxQ = s.ports[p].rxQ ++ [infoWord 0 fl.sel 0 fl.hdr 40,
      BitVec.ofNat 32 (bitsNat (bits.drop 1) / 256)] ∧ t.ports[p].flight = some { fl with await := false } ∧ (∀ i : Fin 8, i.1 = fl.sel →
      t.ports[p].bad[i] = 0) ∧ s.keepsOtherPorts t p ∧ s.onlyChanges t [.axes, .ports, .srv, .cp, .eng, .lio, .regs 3, .regs 16,
      .regs 17, .regs 24, .regs 26]) ∧
    (∀ (bits : List Bool) (fl : Flight), s.up = true → s.ports[p].flight = some fl → fl.await = true → fl.src = .tenant →
      replyClass fl.alive bits = 3 → s.cp.take = none → ∃ t, exec (.satelliteReply p bits) s = .next t ∧ t.get (SP_ERR_LASTCLASS p) = 3 ∧
      t.get (SP_ERR_LASTSEL p) = fl.sel % 16 ∧ t.get (SP_CNT_BAD p) = satInc 65535 (s.get (SP_CNT_BAD p)) ∧
      t.ports[p].flight = some { fl with await := false } ∧ s.onlyChanges t [.axes, .ports, .srv, .cp, .eng, .lio, .regs 3, .regs 16,
      .regs 17, .regs 24, .regs 26])

/-- A level held for FILT edges or fewer is discarded. On an enabled channel of the member a step of the filtered levels in the counting-up
direction adds one to the count and one in the other direction subtracts one, modulo 2^32, with DIR and STILL; a change of both levels
counts nothing and is counted as illegal. An index point records the count and is counted, and with a reference armed on an earlier edge it
sets the reference. A count-mode window gives the counts and the time between its first and last edge, and one without an edge goes back to
period mode; ARMREF arms the reference. Some clauses rest on readings of the model: log entries 2, 15 and 41. (R321, R323, R326, R328, R329,
R332, R334, R335, R336, R348, R350). -/
def Obligations.IncrementalCounting : Prop :=
  ∀ (s : State) (n : Fin 8), s.up = true → n.1 < s.nInc →
    (∀ (a b : HeldLevel), a.held ≤ s.get (INC_CFG_FILT n) → b.held ≤ s.get (INC_CFG_FILT n) → s.fb.inc[n].lv < 4 → ∃ t,
      exec (.incAbEdge n a b) s = .next t ∧ t.fb.inc[n] = s.fb.inc[n] ∧ s.onlyChanges t [.fb]) ∧
    (∀ (a b : HeldLevel), s.get (INC_CFG_FILT n) < a.held → s.get (INC_CFG_FILT n) < b.held → s.get (INC_CFG_EN n) = 1 →
      (quad (b2n a.level + 2 * b2n b.level) + 4 - quad s.fb.inc[n].lv) % 4 = 1 →
      s.get (INC_CFG_INV n) = 0 → ∃ t, exec (.incAbEdge n a b) s = .next t ∧ t.get (INC_CNT_V n) = (s.get (INC_CNT_V n) + 1) % 2 ^ 32 ∧
      t.get (INC_STAT_DIR n) = 0 ∧ t.get (INC_STAT_STILL n) = 0 ∧ t.fb.inc[n].lv = b2n a.level + 2 * b2n b.level ∧
      s.onlyChanges t [.fb, .regs 3, .regs 19]) ∧
    (∀ (a b : HeldLevel), s.get (INC_CFG_FILT n) < a.held → s.get (INC_CFG_FILT n) < b.held → s.get (INC_CFG_EN n) = 1 →
      (quad (b2n a.level + 2 * b2n b.level) + 4 - quad s.fb.inc[n].lv) % 4 = 3 →
      s.get (INC_CFG_INV n) = 0 → ∃ t, exec (.incAbEdge n a b) s = .next t ∧
      t.get (INC_CNT_V n) = (s.get (INC_CNT_V n) + (2 ^ 32 - 1)) % 2 ^ 32 ∧ t.get (INC_STAT_DIR n) = 1 ∧ t.get (INC_STAT_STILL n) = 0 ∧
      t.fb.inc[n].lv = b2n a.level + 2 * b2n b.level ∧ s.onlyChanges t [.fb, .regs 3, .regs 19]) ∧
    (∀ (a b : HeldLevel), s.get (INC_CFG_FILT n) < a.held → s.get (INC_CFG_FILT n) < b.held → s.get (INC_CFG_EN n) = 1 →
      (quad (b2n a.level + 2 * b2n b.level) + 4 - quad s.fb.inc[n].lv) % 4 = 2 → ∃ t,
      exec (.incAbEdge n a b) s = .next t ∧ t.get (INC_CNT_V n) = s.get (INC_CNT_V n) ∧
      t.get (INC_ERRCNT_ILLCNT n) = satInc 65535 (s.get (INC_ERRCNT_ILLCNT n)) ∧ bitOf (t.get (incFlags n)) 1 = true ∧
      t.fb.inc[n].lv = b2n a.level + 2 * b2n b.level ∧
      s.onlyChanges t [.axes, .ports, .srv, .eng, .lio, .fb, .regs 3, .regs 17, .regs 19, .regs 24]) ∧
    (∀ (z : HeldLevel) (ill : Bool), s.get (INC_CFG_FILT n) < z.held → s.get (INC_CFG_EN n) = 1 →
      bitOf (s.get (INC_STAT_WFLIVE n)) 2 = false → z.level ≠ s.flag (INC_STAT_DIR n) → s.get (INC_CFG_ZGATE n) = 0 →
      s.get (INC_CFG_POLICY n) = 0 → s.fb.inc[n].armRef = false → ∃ t,
      exec (.indexPoint n z ill) s = .next t ∧ t.get (INC_IDXCNT_V n) = s.get (INC_CNT_V n) ∧
      t.get (INC_IDXSTAT_IDXN n) = satInc (2 ^ (INC_IDXSTAT_IDXN n).width - 1) (s.get (INC_IDXSTAT_IDXN n)) ∧
      t.get (INC_IDXSTAT_ILLIDX n) = b2n ill ∧
      t.get (INC_CNT_V n) = s.get (INC_CNT_V n) ∧ bitOf (t.get (incFlags n)) 2 = true ∧ s.onlyChanges t [.fb, .regs 3, .regs 19]) ∧
    (∀ (z : HeldLevel) (ill : Bool), s.get (INC_CFG_FILT n) < z.held → s.get (INC_CFG_EN n) = 1 →
      bitOf (s.get (INC_STAT_WFLIVE n)) 2 = false → z.level ≠ s.flag (INC_STAT_DIR n) → s.get (INC_CFG_ZGATE n) = 0 →
      s.fb.inc[n].armRef = true → s.marked (.armed n) = false → ∃ t,
      exec (.indexPoint n z ill) s = .next t ∧ t.get (INC_REF_V n) = s.get (INC_CNT_V n) % s.get (INC_CPR_CPR n) ∧
      t.get (INC_IDXDEV_V n) = 0 ∧ t.get (INC_IDXSTAT_REFSET n) = 1 ∧ t.fb.inc[n].armRef = false ∧ s.onlyChanges t [.fb, .regs 3,
      .regs 19]) ∧
    (s.get (INC_STAT_MODE n) = 1 → s.fb.inc[n].winHad = false → ∃ t, exec (.countWindowEnd n) s = .next t ∧ t.get (INC_STAT_MODE n) = 0 ∧
      bitOf (t.get FB_SPDSW_V) n = true ∧ s.onlyChanges t [.fb, .regs 3, .regs 19]) ∧
    (∀ (t0 : Nat) (l : List Nat), s.get (INC_STAT_MODE n) = 1 → s.fb.inc[n].winHad = true → s.fb.inc[n].hist = t0 :: l → ∃ t,
      exec (.countWindowEnd n) s = .next t ∧
      t.fb.inc[n].estN = sgn 32 (toCode 32 ((s.fb.inc[n].cntE : Int) - s.fb.inc[n].winC)) * clkHz ∧
      t.fb.inc[n].estD = t0 - s.fb.inc[n].winT ∧ t.fb.inc[n].winT = t0 ∧ t.fb.inc[n].winC = s.fb.inc[n].cntE ∧
      t.fb.inc[n].winHad = false ∧ s.onlyChanges t [.fb, .regs 3, .regs 19]) ∧
    (∃ t, exec (.armReference n) s = .next t ∧ t.fb.inc[n] = { s.fb.inc[n] with armRef := true } ∧ (∀ i : Fin 8, i ≠ n →
      t.fb.inc[i] = s.fb.inc[i]) ∧ t.marked (.armed n) = true ∧ s.onlyChanges t [.fb])

/-- A pair of an enabled channel that is no longer complementary sets its WFLIVE bit, the channel flag and its count, and a pair
complementary again clears the bit. A channel without an edge for its stop time reads still, an SSI channel reads speed 0. CLRLOSS of a
channel that is idle and has no condition holding clears LOSS, and while a condition holds only sets CFGREF; CLRLOCK of an idle channel
clears LOCKED; CLRERR clears the error counts; CLRIDX clears the index record but LOCKED. Some clauses rest on readings of the model: log
entry 41. (R325, R334, R340, R344, R348, R349). -/
def Obligations.WireFaultsAndStops : Prop :=
  ∀ (s : State) (n : Fin 8), s.up = true →
    (∀ (k : Fin 3), n.1 < s.nInc → s.get (INC_CFG_EN n) = 1 → bitOf (s.get (INC_STAT_WFLIVE n)) k = false → ∃ t,
      exec (.wireFaultDetect (BitVec.ofNat 8 n.1) k) s = .next t ∧ bitOf (t.get (INC_STAT_WFLIVE n)) k = true ∧
      t.get (INC_ERRCNT_WFCNT n) = satInc 65535 (s.get (INC_ERRCNT_WFCNT n)) ∧ bitOf (t.get (incFlags n)) 0 = true ∧
      s.onlyChanges t [.axes, .ports, .srv, .eng, .lio, .fb, .regs 3, .regs 17, .regs 19, .regs 24]) ∧
    (∀ (k : Fin 3), n.1 < s.nHall → s.get (HALL_CFG_EN n) = 1 → bitOf (s.get (HALL_STAT_WFLIVE n)) k = false → ∃ t,
      exec (.wireFaultDetect (BitVec.ofNat 8 (0x10 + n.1)) k) s = .next t ∧ bitOf (t.get (HALL_STAT_WFLIVE n)) k = true ∧
      t.get (HALL_ERRCNT_WFCNT n) = satInc 65535 (s.get (HALL_ERRCNT_WFCNT n)) ∧ t.get (HALL_STAT_LOSS n) = 1 ∧
      bitOf (t.get (hallFlags n)) 0 = true ∧ s.onlyChanges t [.axes, .ports, .srv, .eng, .lio, .fb,
      .regs 3, .regs 17, .regs 19, .regs 24]) ∧
    (∀ (k : Fin 3), n.1 < s.nInc → ∃ t, exec (.wireFaultClear (BitVec.ofNat 8 n.1) k) s = .next t ∧ bitOf (t.get (INC_STAT_WFLIVE n)) k = false ∧
      s.onlyChanges t [.regs 19] ∧ s.keepsRegs t 19 [INC_STAT n]) ∧
    (∀ (k : Fin 3), n.1 < s.nHall → ∃ t, exec (.wireFaultClear (BitVec.ofNat 8 (0x10 + n.1)) k) s = .next t ∧
      bitOf (t.get (HALL_STAT_WFLIVE n)) k = false ∧ s.onlyChanges t [.regs 19] ∧ s.keepsRegs t 19 [HALL_STAT n]) ∧
    (n.1 < s.nInc → ∃ t, exec (.speedStopTimeout (BitVec.ofNat 8 n.1)) s = .next t ∧ t.get (INC_STAT_STILL n) = 1 ∧ s.onlyChanges t [.regs 19] ∧
      s.keepsRegs t 19 [INC_STAT n]) ∧
    (n.1 < s.nHall → ∃ t, exec (.speedStopTimeout (BitVec.ofNat 8 (0x10 + n.1))) s = .next t ∧ t.get (HALL_STAT_STILL n) = 1 ∧
      s.onlyChanges t [.regs 19] ∧ s.keepsRegs t 19 [HALL_STAT n]) ∧
    (∀ (i : Fin 4), i.1 < s.nSsi → ∃ t, exec (.speedStopTimeout (BitVec.ofNat 8 (0x20 + i.1))) s = .next t ∧ t.get (SSI_SPD_V i) = 0 ∧
      s.onlyChanges t [.regs 19] ∧ s.keepsRegs t 19 [SSI_SPD i]) ∧
    (n.1 < s.nInc → s.chanUsed n = false → s.incLost n = false → ∃ t, exec (.clearLoss (BitVec.ofNat 8 n.1)) s = .next t ∧ t.get (INC_STAT_LOSS n) = 0 ∧
      bitOf (t.get FB_LOSS_INC) n = false ∧ s.onlyChanges t [.regs 19] ∧ s.keepsRegs t 19 [INC_STAT n, FB_LOSS]) ∧
    (n.1 < s.nInc → (s.chanUsed n = true ∨ s.incLost n = true) → ∃ t, exec (.clearLoss (BitVec.ofNat 8 n.1)) s = .next t ∧ t.get FB_STAT_CFGREF = 1 ∧
      t.get (INC_STAT_LOSS n) = s.get (INC_STAT_LOSS n) ∧ s.onlyChanges t [.regs 19] ∧ s.keepsRegs t 19 [FB_STAT]) ∧
    (n.1 < s.nHall → s.chanUsed (0x10 + n.1) = false → s.hallLost n = false → ∃ t,
      exec (.clearLoss (BitVec.ofNat 8 (0x10 + n.1))) s = .next t ∧ t.get (HALL_STAT_LOSS n) = 0 ∧ bitOf (t.get FB_LOSS_HALL) n = false ∧
      s.onlyChanges t [.regs 19] ∧ s.keepsRegs t 19 [HALL_STAT n, FB_LOSS]) ∧
    (∀ (i : Fin 4), i.1 < s.nSsi → s.chanUsed (0x20 + i.1) = false → s.ssiLost i = false → ∃ t,
      exec (.clearLoss (BitVec.ofNat 8 (0x20 + i.1))) s = .next t ∧ t.get (SSI_STAT_LOSS i) = 0 ∧ bitOf (t.get FB_LOSS_SSI) i = false ∧
      s.onlyChanges t [.regs 19] ∧ s.keepsRegs t 19 [SSI_STAT i, FB_LOSS]) ∧
    (n.1 < s.nInc → s.chanUsed n = false → ∃ t, exec (.clearLock n) s = .next t ∧ t.get (INC_IDXSTAT_LOCKED n) = 0 ∧ s.onlyChanges t [.regs 19] ∧
      s.keepsRegs t 19 [INC_IDXSTAT n]) ∧
    (n.1 < s.nInc → ∃ t, exec (.clearErrorCount (BitVec.ofNat 8 n.1)) s = .next t ∧ t.reg (INC_ERRCNT n) = 0 ∧ s.onlyChanges t [.regs 19] ∧
      s.keepsRegs t 19 [INC_ERRCNT n]) ∧
    (n.1 < s.nHall → ∃ t, exec (.clearErrorCount (BitVec.ofNat 8 (0x10 + n.1))) s = .next t ∧ t.reg (HALL_ERRCNT n) = 0 ∧ s.onlyChanges t [.regs 19] ∧
      s.keepsRegs t 19 [HALL_ERRCNT n]) ∧
    (∀ (i : Fin 4), i.1 < s.nSsi → ∃ t, exec (.clearErrorCount (BitVec.ofNat 8 (0x20 + i.1))) s = .next t ∧ t.reg (SSI_CNT i) = 0 ∧
      s.onlyChanges t [.regs 19] ∧ s.keepsRegs t 19 [SSI_CNT i]) ∧
    (n.1 < s.nInc → ∃ t, exec (.clearIndexRecord n) s = .next t ∧ t.get (INC_IDXSTAT_IDXN n) = 0 ∧
      t.get (INC_IDXSTAT_LOCKED n) = s.get (INC_IDXSTAT_LOCKED n) ∧ t.reg (INC_CORRSUM n) = 0 ∧ t.fb.inc[n].emcySent = false ∧
      s.onlyChanges t [.fb, .regs 19] ∧ s.keepsRegs t 19 [INC_IDXSTAT n, INC_CORRSUM n])

/-- A Hall state held for FILT edges or fewer is discarded. On an enabled Hall set of the member, a change between two valid states of
neighbouring sectors counts one up or down with its sector shown; a change to an invalid state, or between valid states that are no
neighbours, counts nothing and is counted as illegal. A state of 0 or 7 held for its time sets
LOSS. Some clauses rest on readings of the model: log entry 41. (R321, R338, R339, R340, R348). -/
def Obligations.HallSets : Prop :=
  ∀ (s : State) (h : Fin 8), s.up = true → h.1 < s.nHall → s.get (HALL_CFG_EN h) = 1 →
    (∀ (v : HeldHall), v.held ≤ s.get (HALL_CFG_FILT h) → exec (.hallTransition h v) s = .next s) ∧
    (∀ (v : HeldHall) (k j : Nat), s.get (HALL_CFG_FILT h) < v.held → hallSector v.state = some k → hallSector s.fb.hall[h].lv = some j → (k + 6 - j) % 6 = 1 →
      s.get (HALL_CFG_INV h) = 0 → ∃ t, exec (.hallTransition h v) s = .next t ∧
      t.get (HALL_CNT_V h) = (s.get (HALL_CNT_V h) + 1) % 2 ^ 32 ∧ t.get (HALL_STATE_SECTOR h) = k ∧ t.fb.hall[h].lv = v.state ∧
      t.get (HALL_STAT_DIR h) = 0 ∧ t.get (HALL_STAT_STILL h) = 0 ∧ s.onlyChanges t [.fb, .regs 19]) ∧
    (∀ (v : HeldHall) (k j : Nat), s.get (HALL_CFG_FILT h) < v.held → hallSector v.state = some k → hallSector s.fb.hall[h].lv = some j → (k + 6 - j) % 6 = 5 →
      s.get (HALL_CFG_INV h) = 0 → ∃ t, exec (.hallTransition h v) s = .next t ∧
      t.get (HALL_CNT_V h) = (s.get (HALL_CNT_V h) + (2 ^ 32 - 1)) % 2 ^ 32 ∧ t.get (HALL_STATE_SECTOR h) = k ∧
      t.get (HALL_STAT_DIR h) = 1 ∧ s.onlyChanges t [.fb, .regs 19]) ∧
    (∀ (v : HeldHall), s.get (HALL_CFG_FILT h) < v.held → hallSector v.state = none → s.fb.hall[h].lv ≠ v.state → ∃ t, exec (.hallTransition h v) s = .next t ∧
      t.get (HALL_CNT_V h) = s.get (HALL_CNT_V h) ∧ t.get (HALL_ERRCNT_ILLCNT h) = satInc 65535 (s.get (HALL_ERRCNT_ILLCNT h)) ∧
      bitOf (t.get (hallFlags h)) 1 = true ∧ t.fb.hall[h].lv = v.state ∧ s.onlyChanges t [.axes, .ports, .srv, .eng, .lio, .fb, .regs 3,
      .regs 17, .regs 19, .regs 24]) ∧
    (∀ (v : HeldHall) (k j : Nat), s.get (HALL_CFG_FILT h) < v.held → hallSector v.state = some k → hallSector s.fb.hall[h].lv = some j →
      (k + 6 - j) % 6 ≠ 0 → (k + 6 - j) % 6 ≠ 1 → (k + 6 - j) % 6 ≠ 5 → ∃ t, exec (.hallTransition h v) s = .next t ∧
      t.get (HALL_CNT_V h) = s.get (HALL_CNT_V h) ∧ t.get (HALL_ERRCNT_ILLCNT h) = satInc 65535 (s.get (HALL_ERRCNT_ILLCNT h)) ∧
      bitOf (t.get (hallFlags h)) 1 = true ∧ t.get (HALL_STATE_SECTOR h) = k ∧ t.fb.hall[h].lv = v.state ∧
      s.onlyChanges t [.axes, .ports, .srv, .eng, .lio, .fb, .regs 3, .regs 17, .regs 19, .regs 24]) ∧
    (hallSector s.fb.hall[h].lv = none → ∃ t, exec (.hallInvalidTimeout h) s = .next t ∧ t.fb.hall[h].invHeld = true ∧
      t.get (HALL_STAT_LOSS h) = 1 ∧ s.onlyChanges t [.axes, .ports, .srv, .eng, .lio, .fb, .regs 3, .regs 17, .regs 19, .regs 24])

/-- A trigger or READ starts a read of an enabled SSI channel when DAT is high, is skipped and counted while a read is in progress, and
fails with cause 1 when DAT is low. A completed frame without parity, error bit or Gray code stores its position; a bad end of frame
fails with cause 2 and a late monoflop with cause 3. An enabled tap sends the whole-Hz estimate of its source, or 0 with NOEST for a
source that is not enabled. A pop of the capture FIFO gives its oldest word and removes it, 0 when it is empty. Some clauses rest on
readings of the model: log entries 4 and 38. (R341, R342, R343, R344, R346, R347, R348, R351). -/
def Obligations.SsiReadsAndTaps : Prop :=
  ∀ (s : State) (i : Fin 4), s.up = true →
    (i.1 < s.nSsi → s.get (SSI_CFG_EN i) = 1 → s.unclaimed = false → s.get (SSI_STAT_INREAD i) = 0 → ∃ t,
      exec (.ssiReadStart i true) s = .next t ∧ t.get (SSI_STAT_INREAD i) = 1 ∧ t.fb.ssi[i].start = s.clk ∧ s.onlyChanges t [.fb,
      .regs 19] ∧ s.keepsRegs t 19 [SSI_STAT i]) ∧
    (∀ (dat : Bool), i.1 < s.nSsi → s.get (SSI_CFG_EN i) = 1 → s.unclaimed = false → s.get (SSI_STAT_INREAD i) = 1 → ∃ t,
      exec (.ssiReadStart i dat) s = .next t ∧
      t.get (SSI_CNT_SKIP i) = satInc (2 ^ (SSI_CNT_SKIP i).width - 1) (s.get (SSI_CNT_SKIP i)) ∧ t.fb = s.fb ∧
      s.onlyChanges t [.regs 19] ∧ s.keepsRegs t 19 [SSI_CNT i]) ∧
    (i.1 < s.nSsi → s.get (SSI_CFG_EN i) = 1 → s.unclaimed = false → s.get (SSI_STAT_INREAD i) = 0 → ∃ t,
      exec (.ssiReadStart i false) s = .next t ∧ t.get (SSI_STAT_CAUSE i) = 1 ∧ t.get (SSI_STAT_INREAD i) = 0 ∧
      t.fb.ssi[i].fails = satInc 255 s.fb.ssi[i].fails ∧ s.onlyChanges t [.axes, .ports, .srv, .eng, .lio, .fb, .regs 3, .regs 17,
      .regs 19, .regs 24]) ∧
    (i.1 < s.nSsi → s.get (SSI_CFG_EN i) = 1 → s.unclaimed = false → s.get (SSI_STAT_INREAD i) = 0 → s.get (SSI_CFG_TRIG i) = 0 → ∃ t,
      exec (.ssiReadCommand i false) s = .next t ∧ t.get (SSI_STAT_CAUSE i) = 1 ∧ t.get (SSI_STAT_INREAD i) = 0 ∧
      t.fb.ssi[i].fails = satInc 255 s.fb.ssi[i].fails ∧ s.onlyChanges t [.axes, .ports, .srv, .eng, .lio, .fb, .regs 3, .regs 17,
      .regs 19, .regs 24]) ∧
    (i.1 < s.nSsi → s.get (SSI_CFG_EN i) = 1 → s.unclaimed = false → s.get (SSI_STAT_INREAD i) = 0 → s.get (SSI_CFG_TRIG i) = 0 → ∃ t,
      exec (.ssiReadCommand i true) s = .next t ∧ t.get (SSI_STAT_INREAD i) = 1 ∧ t.fb.ssi[i].start = s.clk ∧ s.onlyChanges t [.fb,
      .regs 19] ∧ s.keepsRegs t 19 [SSI_STAT i]) ∧
    (∀ (v : Nat), s.get (SSI_STAT_INREAD i) = 1 → s.get (SSI_CFG_PAR i) = 0 → s.get (SSI_CFG_ERRBIT i) = 0 → s.get (SSI_CFG_GRAY i) = 0 →
      s.reg (SSI_MAXSTEP i) = 0 → ∃ t, exec (.ssiReadComplete i v true true) s = .next t ∧ t.get (SSI_STAT_INREAD i) = 0 ∧
      t.reg (SSI_POS i) = BitVec.ofNat 32 (v % 2 ^ (s.get (SSI_CFG_NBITS1 i) + 1)) ∧ t.fb.ssi[i].good = true ∧ t.fb.ssi[i].fails = 0 ∧
      s.onlyChanges t [.fb, .regs 3, .regs 19]) ∧
    (∀ (v : Nat) (mono : Bool), s.get (SSI_STAT_INREAD i) = 1 → ∃ t, exec (.ssiReadComplete i v false mono) s = .next t ∧
      t.get (SSI_STAT_CAUSE i) = 2 ∧ t.get (SSI_STAT_INREAD i) = 0 ∧ t.reg (SSI_POS i) = s.reg (SSI_POS i) ∧
      t.fb.ssi[i].fails = satInc 255 s.fb.ssi[i].fails ∧ s.onlyChanges t [.axes, .ports, .srv, .eng, .lio, .fb, .regs 3, .regs 17,
      .regs 19, .regs 24]) ∧
    (∀ (v : Nat), s.get (SSI_STAT_INREAD i) = 1 → ∃ t, exec (.ssiReadComplete i v true false) s = .next t ∧
      t.get (SSI_STAT_CAUSE i) = 3 ∧ t.get (SSI_STAT_INREAD i) = 0 ∧ t.reg (SSI_POS i) = s.reg (SSI_POS i) ∧
      t.fb.ssi[i].fails = satInc 255 s.fb.ssi[i].fails ∧ s.onlyChanges t [.axes, .ports, .srv, .eng, .lio, .fb, .regs 3, .regs 17,
      .regs 19, .regs 24]) ∧
    (∀ (k : Fin 2), s.tapEn k = true → s.bg.powered = true → ∃ t, exec (.tapSpeedSend k) s = .next t ∧
      (t.get (FB_TAPF_HZ k) = (if s.chanEn (s.tapSrc k) then s.tapHz (s.tapSrc k) else 0)) ∧
      t.get (FB_TAP_NOEST k) = b2n (!s.chanEn (s.tapSrc k)) ∧
      (t.bg.sls[k].sent.head? = some (if s.chanEn (s.tapSrc k) then s.tapHz (s.tapSrc k) else 0)) ∧ s.onlyChanges t [.bg, .fb, .regs 3,
      .regs 19]) ∧
    (∀ (w : Word) (l : List Word), s.fb.capQ = w :: l → ∃ t, exec (.fbCapturePop) s = .next t ∧ t.rdata = w.toNat ∧
      t.fb = { s.fb with capQ := l } ∧ s.onlyChanges t [.rdata, .fb]) ∧
    (s.fb.capQ = [] → ∃ t, exec (.fbCapturePop) s = .next t ∧ t.rdata = 0 ∧ t.fb = s.fb ∧ s.onlyChanges t [.rdata])

/-- A window of a lit lamp at or above its threshold starts its dark count again and shows its current; the tenth low window in a row
sets DARK with FOUND 1. A cold pulse is counted; at or above the threshold it clears DARK, else DARK is set with FOUND 2. An overload
latches the switch off and sets DARK with FOUND 3. RETRY ends the latch, CLRCNT clears the counters. Some clauses rest on readings of the
model: log entries 11 and 38. (R375, R376, R377, R378, R379, R380, R384). -/
def Obligations.LampsProveAndDarken : Prop :=
  ∀ (s : State) (n : Fin 8), s.up = true → n.1 < s.nLamps → s.unclaimed = false →
    (∀ (mA : Nat), s.lampPattern n = true → s.get (LAMP_STAT_OFFLATCH n) = 0 → s.get (LAMP_CFG_DARKTH n) ≤ mA → ∃ t,
      exec (.lampWindowJudge n mA) s = .next t ∧ t.lio.lamps[n].low = 0 ∧ t.lio.lamps[n].good = satInc 10 s.lio.lamps[n].good ∧
      t.get (LAMP_I_IWIN n) = min mA 4095 ∧ (∀ i : Fin 8, i ≠ n → t.lio.lamps[i] = s.lio.lamps[i]) ∧ s.onlyChanges t [.sys, .bg, .axes,
      .ports, .srv, .cp, .eng, .lio, .regs 0, .regs 1, .regs 3, .regs 17, .regs 24, .regs 26]) ∧
    (∀ (mA : Nat), s.lampPattern n = true → s.get (LAMP_STAT_OFFLATCH n) = 0 → mA < s.get (LAMP_CFG_DARKTH n) → s.lio.lamps[n].low = 9 →
      ∃ t, exec (.lampWindowJudge n mA) s = .next t ∧ t.lio.lamps[n].low = 10 ∧ t.get (LAMP_STAT_DARK n) = 1 ∧
      t.get (LAMP_STAT_FOUND n) = 1 ∧ s.onlyChanges t [.sys, .bg, .axes, .ports, .srv, .cp, .eng, .lio, .regs 0, .regs 1, .regs 3,
      .regs 17, .regs 24, .regs 26]) ∧
    (∀ (i1 i2 : Nat), s.get (LAMP_CFG_EN n) = 1 → s.lampPattern n = false → s.get (LAMP_STAT_OFFLATCH n) = 0 →
      s.get (LAMP_CFG_DARKTH n) ≤ i1 → s.get (LAMP_CFG_DARKTH n) ≤ i2 → ∃ t, exec (.lampColdPulse n i1 i2) s = .next t ∧
      t.get (LAMP_STAT_DARK n) = 0 ∧ t.get (LAMP_I_IPULSE n) = min (min i1 i2) 4095 ∧ s.onlyChanges t [.sys, .bg, .axes, .ports, .srv,
      .cp, .eng, .lio, .regs 0, .regs 1, .regs 3, .regs 17, .regs 24, .regs 26]) ∧
    (∀ (i1 i2 : Nat), s.get (LAMP_CFG_EN n) = 1 → s.lampPattern n = false → s.get (LAMP_STAT_OFFLATCH n) = 0 →
      (i1 < s.get (LAMP_CFG_DARKTH n) ∨ i2 < s.get (LAMP_CFG_DARKTH n)) → ∃ t, exec (.lampColdPulse n i1 i2) s = .next t ∧
      t.get (LAMP_STAT_DARK n) = 1 ∧ t.get (LAMP_STAT_FOUND n) = 2 ∧ s.onlyChanges t [.sys, .bg, .axes, .ports, .srv, .cp, .eng, .lio,
      .regs 0, .regs 1, .regs 3, .regs 17, .regs 24, .regs 26]) ∧
    (s.get (LAMP_CFG_EN n) = 1 → s.get (LAMP_STAT_OFFLATCH n) = 0 → ∃ t, exec (.lampOverload n) s = .next t ∧
      t.get (LAMP_STAT_OFFLATCH n) = 1 ∧ t.get (LAMP_STAT_DARK n) = 1 ∧ t.get (LAMP_STAT_FOUND n) = 3 ∧
      t.get (LAMP_CNT_DARKCNT n) = satInc (2 ^ (LAMP_CNT_DARKCNT n).width - 1) (s.get (LAMP_CNT_DARKCNT n)) ∧ s.onlyChanges t [.sys, .bg,
      .axes, .ports, .srv, .cp, .eng, .lio, .regs 0, .regs 1, .regs 3, .regs 17, .regs 24, .regs 26]) ∧
    (∃ t, exec (.lampRetry n) s = .next t ∧ t.get (LAMP_STAT_OFFLATCH n) = 0 ∧ t.lio.lamps[n].litFrom = s.clk ∧ (∀ i : Fin 8, i ≠ n →
      t.lio.lamps[i] = s.lio.lamps[i]) ∧ s.onlyChanges t [.lio, .regs 24] ∧ s.keepsRegs t 24 [LAMP_STAT n]) ∧
    (∃ t, exec (.lampClearCount n) s = .next t ∧ t.reg (LAMP_CNT n) = 0 ∧ s.onlyChanges t [.regs 24] ∧ s.keepsRegs t 24 [LAMP_CNT n])

/-- A change of masked general inputs sets GPI_EVT and LIO_EVT.GPIN; an overload turns a general output off with OVL. The tenth analog
window in a row out of range sets RANGE and clears VALID, the tenth in range does the reverse, and the current is shown. Slack below its
limit is shown, with reaction 2 it is a drive fault; DRUM_OVERSPEED out of SAFE is a drive fault. A release timeout without BRK_FB in
step 2 is a drive fault, without supervision it begins the lift wait; a set timeout sets NOTSET; BRK_FB follows its line. Some clauses
rest on readings of the model: log entries 4 and 38. (R46, R353, R356, R359, R360, R366, R367, R382, R383). -/
def Obligations.InputsOutputsAndBrakes : Prop :=
  ∀ (s : State), s.up = true →
    (∀ (v : BitVec 8), ∃ t, exec (.gpiChange v) s = .next t ∧ t.get GPI_LVL_V = v.toNat ∧
      t.get GPI_EVT_V = s.get GPI_EVT_V ||| ((s.get GPI_LVL_V ^^^ v.toNat) &&& s.get GPI_CFG_MASK) ∧
      ((s.get GPI_LVL_V ^^^ v.toNat) &&& s.get GPI_CFG_MASK ≠ 0 → bitOf (t.get ⟨LIO_EVT, 4, 0⟩) 4 = true) ∧ s.onlyChanges t [.regs 3,
      .regs 24] ∧ s.keepsRegs t 24 [GPI_LVL, GPI_EVT, LIO_EVT]) ∧
    (∀ (k : Fin 4), bitOf (s.get GPO_OUT_V) k = true → s.lio.gpoOff.getLsbD k = false → s.unclaimed = false → ∃ t,
      exec (.gpoOverload k) s = .next t ∧ bitOf (t.get GPO_STAT_OVL) k = true ∧ t.lio.gpoOff.getLsbD k = true ∧ s.queued t 0xFF79 [k, 0,
      0, 0, 0] ∧ s.onlyChanges t [.srv, .lio, .regs 24] ∧ s.keepsRegs t 24 [GPO_STAT]) ∧
    (∀ (i : Fin 8) (sum : Nat), s.get (AIN_CFG_EN i) = 1 → s.get (AIN_CFG_ROLE i) ≠ 2 → (sum < 36000 ∨ 210000 < sum) →
      s.lio.ains[i].bad = 9 → s.get (AIN_STAT_RANGE i) = 0 → ∃ t, exec (.ainWindow i sum) s = .next t ∧ t.get (AIN_STAT_RANGE i) = 1 ∧
      t.get (AIN_STAT_VALID i) = 0 ∧ t.lio.ains[i].bad = 10 ∧ bitOf (t.get ⟨LIO_EVT, 4, 0⟩) 3 = true ∧ s.queued t 0xFF72 [i, 0, 0, 0,
      0] ∧ s.onlyChanges t [.srv, .lio, .regs 3, .regs 24]) ∧
    (∀ (i : Fin 8) (sum : Nat), s.get (AIN_CFG_EN i) = 1 → s.get (AIN_CFG_ROLE i) ≠ 2 → 36000 ≤ sum → sum ≤ 210000 → sum % 10 = 0 →
      s.lio.ains[i].good = 9 → ∃ t, exec (.ainWindow i sum) s = .next t ∧ t.get (AIN_STAT_RANGE i) = 0 ∧ t.get (AIN_STAT_VALID i) = 1 ∧
      t.lio.ains[i] = { bad := 0, good := 10 } ∧ t.get (AIN_VAL_UA i) = sum / 10 ∧ s.onlyChanges t [.lio, .regs 24]) ∧
    (∀ (a : Fin 8) (m : Nat), s.tensionNow a = some m → s.isSafe a = false → m < s.get (WN_SLACK_SLACK a) → s.get (WN_STAT_SLACK a) = 0 →
      s.get (WN_SLACK_SLREACT a) ≠ 2 → ∃ t, exec (.slackLineDetect a) s = .next t ∧ t.get (WN_STAT_SLACK a) = 1 ∧ s.queued t 0xFF75 [a,
      1, 0, 0, 0] ∧ s.onlyChanges t [.srv, .regs 24] ∧ s.keepsRegs t 24 [WN_STAT a]) ∧
    (∀ (a : Fin 8) (m : Nat), s.tensionNow a = some m → s.isSafe a = false → m < s.get (WN_SLACK_SLACK a) → s.get (WN_STAT_SLACK a) = 0 →
      s.get (WN_SLACK_SLREACT a) = 2 → ∃ t, exec (.slackLineDetect a) s = .next t ∧
      t.get (WN_STAT_SLACK a) = 1 ∧ t.faulted a 0xFF75 ∧ bitOf (t.get (WN_FAULT_MAP a)) 3 = true ∧ s.keepsOtherAxes t a ∧
      s.onlyChanges t [.axes, .ports, .srv, .eng, .lio, .regs 3, .regs 17, .regs 24]) ∧
    (∀ (a : Fin 8), s.isSafe a = false → s.get (WN_DRUM_DOS a) ≠ 0 → s.drumUsable a = true →
      s.drumAbove a (s.get (WN_DRUM_DOS a)) = true → ∃ t, exec (.drumOverspeedDetect a) s = .next t ∧
      t.faulted a 0xFF76 ∧ bitOf (t.get (WN_FAULT_MAP a)) 4 = true ∧ s.keepsOtherAxes t a ∧ s.onlyChanges t [.axes, .ports, .srv, .eng,
      .lio, .regs 3, .regs 17, .regs 24]) ∧
    (∀ (a : Fin 8), s.hasAxis a = true → s.isSafe a = false → s.get (BRK_CFG_EN a) = 1 → s.axes[a].step = 2 →
      s.axes[a].lifting = false → s.get (BRK_CFG_FBEN a) = 0 → ∃ t, exec (.brakeReleaseTimeout a) s = .next t ∧
      t.axes[a].lifting = true ∧ t.axes[a].st = s.axes[a].st ∧ t.lio.brkWait.getLsbD a = false ∧ s.keepsOtherAxes t a ∧
      s.onlyChanges t [.axes, .lio]) ∧
    (∀ (a : Fin 8), s.hasAxis a = true → s.isSafe a = false → s.get (BRK_CFG_EN a) = 1 → s.axes[a].step = 2 →
      s.axes[a].lifting = false → s.get (BRK_CFG_FBEN a) = 1 → s.get (BRK_STAT_FB a) = 0 → ∃ t,
      exec (.brakeReleaseTimeout a) s = .next t ∧ t.faulted a 0xFF73 ∧ bitOf (t.get ⟨LIO_EVT, 4, 0⟩) 1 = true ∧
      bitOf (t.get LIO_EVT_BRKAX) a = true ∧ s.keepsOtherAxes t a ∧ s.onlyChanges t [.axes, .ports, .srv, .eng, .lio, .regs 3, .regs 17,
      .regs 24]) ∧
    (∀ (a : Fin 8), s.get (BRK_CFG_FBEN a) = 1 → s.get (BRK_STAT_OUT a) = 0 → s.get (BRK_STAT_FB a) = 1 → s.get (BRK_STAT_NOTSET a) = 0 →
      ∃ t, exec (.brakeSetTimeout a) s = .next t ∧ t.get (BRK_STAT_NOTSET a) = 1 ∧ bitOf (t.get ⟨LIO_EVT, 4, 0⟩) 1 = true ∧
      s.queued t 0xFF71 [a, 0, 0, 0, 0] ∧ s.onlyChanges t [.srv, .lio, .regs 3, .regs 24] ∧ s.keepsRegs t 24 [BRK_STAT a, LIO_EVT]) ∧
    (∀ (a : Fin 8) (lifted : Bool), s.hasAxis a = true → s.flag (BRK_STAT_FB a) = !lifted → ∃ t, exec (.brkFbChange a lifted) s = .next t ∧
      t.get (BRK_STAT_FB a) = b2n lifted ∧ (s.bg.powered = true → t.bg.brkFb.getLsbD a = lifted) ∧ s.keepsOtherAxes t a ∧
      s.onlyChanges t [.bg, .axes, .lio, .regs 3, .regs 24] ∧ s.keepsRegs t 24 [BRK_STAT a, LIO_EVT])

/-- A change of the emergency input is shown and the emergency request follows it and the DRIVEN acts. An act of the release button
starts a DRIVEN request, or in FREE form a release when every condition holds, and is refused with EMCY 0xFF78 and the reason otherwise;
its end ends both, and disagreeing channels void it. The governor ends a release whose condition fails and sets the brake at its speed.
Some clauses rest on readings of the model: log entry 38. (R368, R371, R372, R373). -/
def Obligations.EmergencyInputsAndRelease : Prop :=
  ∀ (s : State), s.up = true →
    (∀ (a : Fin 8) (level : Bool), s.hasAxis a = true → ∃ t, exec (.emgInputChange a level) s = .next t ∧ bitOf (t.get EMG_LVL_EMG) a = level ∧
      t.axes[a].emgReq = (level || s.drivenOn a) ∧ s.keepsOtherAxes t a ∧ s.onlyChanges t [.axes, .ports, .srv, .eng, .lio, .regs 3,
      .regs 17, .regs 24]) ∧
    (∀ (k : Fin 4) (pressed released : Nat), s.get (ERL_CFG_EN k) = 1 → bitOf (s.get EMG_LVL_ACT) k = false → 500 ≤ pressed →
      1000 ≤ released → s.get (ERL_CFG_FORM k) = 0 → ∃ t, exec (.erlActStart k pressed released) s = .next t ∧
      bitOf (t.get EMG_LVL_ACT) k = true ∧ bitOf (t.get EMG_LVL_VOID) k = false ∧ t.lio.driven.getLsbD k = true ∧
      t.axes[s.erlAxis k].emgReq = true ∧ s.onlyChanges t [.axes, .ports, .srv, .eng, .lio, .regs 3, .regs 17, .regs 24]) ∧
    (∀ (k : Fin 4) (pressed released : Nat), s.get (ERL_CFG_EN k) = 1 → bitOf (s.get EMG_LVL_ACT) k = false → 500 ≤ pressed →
      1000 ≤ released → s.get (ERL_CFG_FORM k) = 1 → s.freeReason k = 0 → ∃ t, exec (.erlActStart k pressed released) s = .next t ∧
      bitOf (t.get EMG_LVL_ACT) k = true ∧ bitOf (t.get EMG_LVL_FREE) k = true ∧ t.get (BRK_STAT_GOVSET (s.erlAxis k)) = 0 ∧
      s.onlyChanges t [.srv, .lio, .regs 24]) ∧
    (∀ (k : Fin 4) (pressed released : Nat), s.get (ERL_CFG_EN k) = 1 → bitOf (s.get EMG_LVL_ACT) k = false → 500 ≤ pressed →
      1000 ≤ released → s.get (ERL_CFG_FORM k) = 1 → s.freeReason k ≠ 0 → ∃ t, exec (.erlActStart k pressed released) s = .next t ∧
      s.queued t 0xFF78 [k, s.freeReason k, s.erlAxis k, 0, 0] ∧ bitOf (t.get EMG_LVL_ACT) k = false ∧
      bitOf (t.get EMG_LVL_FREE) k = bitOf (s.get EMG_LVL_FREE) k ∧ s.onlyChanges t [.srv, .regs 24] ∧ s.keepsRegs t 24 [EMG_LVL]) ∧
    (∀ (k : Fin 4), bitOf (s.get EMG_LVL_ACT) k = true → ∃ t, exec (.erlActEnd k) s = .next t ∧ bitOf (t.get EMG_LVL_ACT) k = false ∧
      bitOf (t.get EMG_LVL_FREE) k = false ∧ t.lio.driven.getLsbD k = false ∧ s.onlyChanges t [.axes, .ports, .srv, .eng, .lio, .regs 3,
      .regs 17, .regs 24]) ∧
    (∀ (k : Fin 4), s.get (ERL_CFG_EN k) = 1 → ∃ t, exec (.erlActVoid k) s = .next t ∧ bitOf (t.get EMG_LVL_VOID) k = true ∧
      bitOf (t.get EMG_LVL_ACT) k = false ∧ s.onlyChanges t [.axes, .ports, .srv, .eng, .lio, .regs 3, .regs 17, .regs 24]) ∧
    (∀ (k : Fin 4), bitOf (s.get EMG_LVL_FREE) k = true → s.freeReason k ≠ 0 → ∃ t, exec (.erlGovernorTick k) s = .next t ∧
      bitOf (t.get EMG_LVL_FREE) k = false ∧ t.get (BRK_STAT_GOVSET (s.erlAxis k)) = 0 ∧ s.onlyChanges t [.lio, .regs 24]) ∧
    (∀ (k : Fin 4), bitOf (s.get EMG_LVL_FREE) k = true → s.freeReason k = 0 →
      s.get (ERL_GOV_GOV k) * (s.drumSpeed (s.erlAxis k)).2 ≤ (s.drumSpeed (s.erlAxis k)).1.natAbs →
      s.get (BRK_STAT_GOVSET (s.erlAxis k)) = 0 → ∃ t, exec (.erlGovernorTick k) s = .next t ∧
      t.get (BRK_STAT_GOVSET (s.erlAxis k)) = 1 ∧ bitOf (t.get EMG_LVL_FREE) k = true ∧ t.lio.govTicks[k] = 0 ∧ s.onlyChanges t [.lio,
      .regs 24])

/-- A control cycle of an initialised axis starts with the next number, 0 after an alignment, and awaits its sample. A filter output is
taken once per cycle and a second one is dropped; a single channel at unity gain gives its value, and a phase current above OCLIM is the
drive fault OVERCURRENT. A stuck modulator of an axis out of SAFE sets STUCK and is a drive fault. A pop of the capture FIFO gives its
oldest word; from an empty one the value is open and the FIFO stays empty. CLRDEG and CLRSCHED clear their records. Some clauses rest on
readings of the model: log entries 16, 18 and 19. (R286, R290, R291, R292, R301, R303, R311, R312). -/
def Obligations.EngineCycle : Prop :=
  ∀ (s : State) (a : Fin 8), s.up = true →
    (s.get (AX_CTRL_INIT a) = 1 → ∃ t, exec (.controlCycleStart a) s = .next t ∧
      (t.get (ENG_CYCCNT_V a) = (if s.eng[a].restart then 0 else (s.get (ENG_CYCCNT_V a) + 1) % 2 ^ 32)) ∧ t.eng[a].sampled = false ∧
      t.eng[a].restart = false ∧ t.eng[a].cyc = s.get (ENG_CFG_CYC a) ∧ (∀ b : Fin 8, b ≠ a → t.eng[b] = s.eng[b]) ∧
      s.onlyChanges t [.eng, .regs 17]) ∧
    (∀ (raw : List Int), s.get (AX_CTRL_INIT a) = 1 → s.mclkOff a = false → s.eng[a].sampled = false → s.get (MOD_AX_EN a) = 1 →
      s.readyClk a < s.get (ENG_CFG_CYC a) * 43 * s.portN (s.lead a) → ∃ t, exec (.filterOutputReady a raw) s = .next t ∧
      t.eng[a].sampled = true ∧ s.onlyChanges t [.freeCtr, .axes, .ports, .srv, .eng, .lio, .modCap, .regs 3, .regs 17, .regs 18,
      .regs 24]) ∧
    (∀ (raw : List Int), s.eng[a].sampled = true → exec (.filterOutputReady a raw) s = .next s) ∧
    (∀ (c : Fin 64) (x : Int), s.get (AX_CTRL_INIT a) = 1 → s.mclkOff a = false → s.eng[a].sampled = false → s.get (MOD_AX_EN a) = 1 →
      s.readyClk a < s.get (ENG_CFG_CYC a) * 43 * s.portN (s.lead a) → s.hasAxis a = true → s.axisChannels a = [c.1] → s.get (MOD_CFG_ROLE c) = 0 →
      s.sget (MOD_CAL_GAIN c) = 16384 → s.sget (MOD_CAL_OFFSET c) = 0 → -32768 ≤ x → x ≤ 32767 →
      (s.get (ENG_PROT_OCLIM a) * 32767 : Nat) < x.natAbs * s.get (ENG_SCALE_IFS a) → s.axes[a].st ≠ .fault →
      s.axes[a].st ≠ .faultReact → ∃ t, exec (.filterOutputReady a [x]) s = .next t ∧ t.sget (MOD_VAL_VAL c) = x ∧
      bitOf t.eng[a].found 1 = true ∧ bitOf (t.get ⟨ENG_FAULT a, 13, 0⟩) 1 = true ∧ t.faulted a (t.get (AX_ERR_ERRCODE a)) ∧
      (t.eng[a].found = 2 → t.get (AX_ERR_ERRCODE a) = 0x2310) ∧ s.keepsOtherAxes t a ∧
      s.onlyChanges t [.freeCtr, .axes, .ports, .srv, .eng, .lio, .modCap, .regs 3, .regs 17, .regs 18, .regs 24]) ∧
    (∀ (c : Fin 64), c.1 < s.nMod → s.get (MOD_CFG_EN c) = 1 → s.get (MOD_CFG_AXIS c) = a →
      s.mclkOff a = false → s.isSafe a = false → ∃ t, exec (.modulatorStuck c) s = .next t ∧ t.get (MOD_STAT_STUCK c) = 1 ∧
      t.faulted a 0xFF50 ∧ s.keepsOtherAxes t a ∧ s.onlyChanges t [.axes, .ports, .srv, .eng, .lio, .regs 3, .regs 17, .regs 18,
      .regs 24]) ∧
    (∀ (w : Word) (l : List Word), s.modCap = w :: l → ∃ t, exec (.modCapturePop) s = .next t ∧ t.rdata = w.toNat ∧ t.modCap = l ∧
      s.onlyChanges t [.rdata, .modCap]) ∧
    (s.modCap = [] → ∃ t, exec (.modCapturePop) s = .next t ∧ t.freeCtr = s.freeCtr + 1 ∧ t.modCap = [] ∧ s.onlyChanges t [.freeCtr,
      .rdata]) ∧
    (∃ t, exec (.clearDegraded a) s = .next t ∧ t.get (ENG_STAT_DEGRADED a) = 0 ∧ t.get (ENG_STAT_DEGPH a) = 0 ∧ t.eng[a].deg = [] ∧
      s.onlyChanges t [.eng, .regs 17] ∧ s.keepsRegs t 17 [ENG_STAT a]) ∧
    (∃ t, exec (.clearSchedule a) s = .next t ∧ t.reg (ENG_SCHED a) = 0 ∧ s.onlyChanges t [.regs 17] ∧ s.keepsRegs t 17 [ENG_SCHED a])

/-- A unit whose ring block is on sends a PDELAY request with the next PSEQ on each link and keeps its time; it answers a request on the
port it came on; an answer with the last PSEQ gives one measurement of that port. RING_ENABLE brings the block from OFF to LISTEN if the
unit may join, else to FORWARD. RING_DISABLE ends links and membership, and is refused with CFGREF while an axis routed to the ring is
out of SAFE. REJOIN leads DUPLICATE to LISTEN. The listen wait ends in the state the last beacon told, or in ELECT; lost beacons lead to
ELECT; the election wait makes the unit master in BROKEN. Some clauses rest on readings of the model: log entries 43 and 44. (R387, R388,
R397, R398, R401, R421). -/
def Obligations.RingJoiningAndDelays : Prop :=
  ∀ (s : State), s.up = true →
    (s.ring.st = .off → ∃ t, exec (.ringEnable) s = .next t ∧ (t.ring.st = (if s.mayJoin = true then .listen else .forward)) ∧
      t.ring.linkA = s.ring.linkA ∧ t.ring.linkB = s.ring.linkB ∧ s.onlyChanges t [.ring]) ∧
    (s.ringInUse = false → s.ring.st ≠ .off → ∃ t, exec (.ringDisable) s = .next t ∧ t.ring.st = .off ∧ t.ring.linkA = false ∧
      t.ring.linkB = false ∧ t.ring.master = false ∧ t.ring.sync = false ∧ (s.ring.linkA = true → bitOf (t.get RING_EVT_EV) 0 = true) ∧
      (s.ring.linkB = true → bitOf (t.get RING_EVT_EV) 1 = true) ∧ s.onlyChanges t [.ring, .regs 3, .regs 20] ∧
      s.keepsRegs t 20 [RING_EVT]) ∧
    (s.ringInUse = true → ∃ t, exec (.ringDisable) s = .next t ∧ t.get RING_ERR_CFGREF = 1 ∧ t.ring = s.ring ∧
      s.onlyChanges t [.regs 20] ∧ s.keepsRegs t 20 [RING_ERR]) ∧
    (s.ring.st = .duplicate → ∃ t, exec (.ringRejoin) s = .next t ∧ t.ring.st = .listen ∧ t.ring.heard = none ∧ t.ring.timed = false ∧
      s.onlyChanges t [.ring]) ∧
    (∃ t, exec (.ringClearCount) s = .next t ∧ t.reg RING_CNT = 0 ∧ t.reg RING_CNT2 = 0 ∧ t.reg RING_CNT3 = 0 ∧
      s.onlyChanges t [.regs 20] ∧ s.keepsRegs t 20 [RING_CNT, RING_CNT2, RING_CNT3]) ∧
    (∀ (b : Bool), s.ring.st = .listen → s.ring.heard = some b → s.ring.txQ = [] → ∃ t, exec (.ringListenTimeout) s = .next t ∧
      (t.ring.st = (if b then .broken else .closed)) ∧ t.ring.broken = b ∧ s.onlyChanges t [.ring, .regs 3, .regs 20]) ∧
    (s.ring.st = .listen → s.ring.heard = none → s.ring.txQ = [] → ∃ t, exec (.ringListenTimeout) s = .next t ∧ t.ring.st = .elect ∧
      s.onlyChanges t [.ring]) ∧
    (s.ring.master = false → (s.ring.st = .closed ∨ s.ring.st = .broken) → ∃ t, exec (.beaconLossTimeout) s = .next t ∧
      t.ring.st = .elect ∧ t.ring.linkA = s.ring.linkA ∧ s.onlyChanges t [.ring]) ∧
    (s.ring.st = .elect → s.get RING_CFG_MPRIO ≠ 0 → ∃ t, exec (.electionTimeout) s = .next t ∧ t.ring.master = true ∧
      t.ring.st = .broken ∧ t.ring.munit = s.unitAddr ∧ t.ring.broken = true ∧ s.onlyChanges t [.ring, .regs 3, .regs 20]) ∧
    (s.ring.st ≠ .off → ∃ t, exec (.pdelayTx) s = .next t ∧ t.ring.pseq = (s.ring.pseq + 1) % 65536 ∧ t.ring.t1A = s.ring.ns ∧
      t.ring.t1B = s.ring.ns ∧ (s.ring.linkA = true → ⟨.ring, [0, 1],
      (s.modRing fun r => { r with fseq := (r.fseq + 1) % 65536 }).ringFrame 3 s.dstAll 1 false (beBytes 2 t.ring.pseq)⟩ ∈ t.wire) ∧
      (s.ring.linkB = true → ⟨.ring, [1, 1], t.ringFrame 3 s.dstAll 1 true (beBytes 2 t.ring.pseq)⟩ ∈ t.wire) ∧ s.onlyChanges t [.wire,
      .ring]) ∧
    (∀ (onB fcs : Bool) (f : List (BitVec 8)) (late : Nat), s.ring.st ≠ .off → fcs = true → fget f 12 2 = 0x88B5 → s.ownSrc f = false →
      fget f 15 1 = 3 → ∃ t, exec (.pdelayReqRx onB fcs f late) s = .next t ∧
      s.sentOn t [onB] 4 s.dstAll 1 (beBytes 2 (fget f 26 2) ++ beBytes 8 (s.ring.ns - late) ++ beBytes 8 s.ring.ns) ∧
      s.onlyChanges t [.wire, .ring]) ∧
    (∀ (onB fcs : Bool) (f : List (BitVec 8)) (late : Nat), s.ring.st ≠ .off → fcs = true → fget f 12 2 = 0x88B5 → s.ownSrc f = false →
      fget f 15 1 = 4 → fget f 26 2 = s.ring.pseq → ∃ t, exec (.pdelayRespRx onB fcs f late) s = .next t ∧
      ((if onB then t.ring.dB else t.ring.dA).head? = some ((s.ring.ns : Int) - late - (if onB then s.ring.t1B else s.ring.t1A) - ((fget f 36 8 : Int) - fget f 28 8))) ∧
      ((if onB then t.ring.dA else t.ring.dB) = (if onB then s.ring.dA else s.ring.dB)) ∧
      ((if onB then t.ring.dB else t.ring.dA).length ≤ 8) ∧ s.onlyChanges t [.freeCtr, .wire, .ring, .regs 20] ∧
      s.keepsRegs t 20 [RING_DLY])

/-- A frame of another EtherType is counted and dropped. A frame of an unknown TYPE is forwarded and not accepted; one with a bad FCS is
counted and forwarded bad. The master sends a beacon per cycle with the time, RSTATE, its MPRIO and CYC; its own copies show the ring
closed. A beacon accepted by a closed unit gives the master and its cycle. A LINKEVT of a fallen link makes the master decide BROKEN. A
link change strobes, and a joined unit sends LINKEVT on the other port. A lapsed record is dropped. Some clauses rest on readings of the
model: log entries 43 and 44. (R386, R391, R393, R394, R396, R399, R400, R419). -/
def Obligations.RingFrames : Prop :=
  ∀ (s : State), s.up = true →
    (s.ring.st ≠ .off → ∃ t, exec (.ringForeignFrame) s = .next t ∧
      t.get RING_CNT_FOREIGN = satInc (2 ^ RING_CNT_FOREIGN.width - 1) (s.get RING_CNT_FOREIGN) ∧ s.onlyChanges t [.regs 20] ∧
      s.keepsRegs t 20 [RING_CNT]) ∧
    (∀ (onB fcs : Bool) (f : List (BitVec 8)), fcs = true → s.ring.st ≠ .off → fget f 12 2 = 0x88B5 → knownType (fget f 15 1) = false →
      s.ownSrc f = false → ∃ t, exec (.unknownTypeFrame onB fcs f) s = .next t ∧ s.forwards t onB true f ∧ t.ring = s.ring ∧
      s.onlyChanges t [.wire]) ∧
    (∀ (onB fcs : Bool) (f : List (BitVec 8)), fcs = false → s.ring.st ≠ .off → fget f 12 2 = 0x88B5 → fget f 15 1 ≠ 1 →
      s.ownSrc f = false → ∃ t, exec (.unknownTypeFrame onB fcs f) s = .next t ∧ s.forwards t onB false f ∧ t.ring = s.ring ∧
      t.get RING_CNT_FCSERR = satInc (2 ^ RING_CNT_FCSERR.width - 1) (s.get RING_CNT_FCSERR) ∧ s.onlyChanges t [.wire, .regs 20] ∧
      s.keepsRegs t 20 [RING_CNT]) ∧
    (s.ring.master = true → ∃ t, exec (.beaconTx) s = .next t ∧
      s.sent t 1 s.dstAll (beBytes 8 s.ring.ns ++ beBytes 4 0 ++ [BitVec.ofNat 8 (b2n t.ring.broken),
      BitVec.ofNat 8 (s.get RING_CFG_MPRIO), BitVec.ofNat 8 (s.get RING_CFG_CYC), 0]) ∧ t.ring.bcn = some t.ring.fseq ∧
      t.ring.backA = false ∧ t.ring.backB = false ∧ (s.ring.bcn.isSome = true ∧ s.ring.runC = 2 ∧ s.ring.backA = true ∧
      s.ring.backB = true → t.ring.broken = false) ∧ (s.ring.bcn.isSome = true ∧ s.ring.runB = 2 ∧
      (s.ring.backA = false ∨ s.ring.backB = false) → t.ring.broken = true) ∧ s.onlyChanges t [.wire, .srv, .ring, .regs 3, .regs 20]) ∧
    (∀ (onB fcs : Bool) (f : List (BitVec 8)) (res late : Nat), s.hears fcs f 1 → s.ring.master = false →
      (s.ring.st = .closed ∨ s.ring.st = .broken) → ∃ t, exec (.beaconRx onB fcs f res late) s = .next t ∧ t.ring.master = false ∧
      t.ring.munit = fget f 16 2 % 4096 % 64 ∧ t.ring.cyc = some (fget f 40 1) ∧ t.ring.heard = some (fget f 38 1 == 1) ∧
      (t.ring.st = (if fget f 38 1 = 1 then .broken else .closed)) ∧ (fget f 40 1 ≠ s.get RING_CFG_CYC → t.get RING_ERR_CYCMIS = 1) ∧
      s.onlyChanges t [.freeCtr, .wire, .srv, .ring, .regs 3, .regs 20]) ∧
    (∀ (onB fcs : Bool) (f : List (BitVec 8)) (res late : Nat), fcs = true → s.ring.master = true → s.ring.joined = true →
      fget f 12 2 = 0x88B5 → s.ownSrc f = true → fget f 15 1 = 1 → s.ring.bcn = some (fget f 20 2) →
      s.ring.originated (fget f 20 2) = true → ∃ t, exec (.beaconRx onB fcs f res late) s = .next t ∧
      ((if bitOf (fget f 23 1) 7 = true then t.ring.backB else t.ring.backA) = true) ∧ t.ring.st = s.ring.st ∧ s.onlyChanges t [.ring]) ∧
    (∀ (onB fcs : Bool) (f : List (BitVec 8)), s.hears fcs f 2 → s.ring.master = true → fget f 27 1 = 0 → ∃ t,
      exec (.linkevtRx onB fcs f) s = .next t ∧ t.ring.broken = true ∧ t.ring.runC = 0 ∧ (s.ring.broken = false → s.queued t 0xFF30 [1] ∧
      bitOf (t.get RING_EVT_EV) 2 = true) ∧ s.onlyChanges t [.wire, .srv, .ring, .regs 3, .regs 20]) ∧
    (∀ (onB lk : Bool), s.ring.joined = true → s.linkUp onB = !lk → ∃ t, exec (.ringLinkChange onB lk) s = .next t ∧ t.linkUp onB = lk ∧
      bitOf (t.get RING_EVT_EV) (b2n onB) = true ∧ s.sentOn t [!onB] 2 s.dstAll 64 [BitVec.ofNat 8 (b2n onB), BitVec.ofNat 8 (b2n lk)] ∧
      (s.ring.master = true ∧ lk = false → t.ring.broken = true) ∧ s.onlyChanges t [.wire, .srv, .ring, .regs 3, .regs 20]) ∧
    (∀ (src : BitVec 12), ∃ t, exec (.fseqRecordLapse src) s = .next t ∧ (∀ q : Nat, t.ring.newer src.toNat q = true) ∧
      t.ring.st = s.ring.st ∧ t.ring.fseq = s.ring.fseq ∧ s.onlyChanges t [.ring])

/-- At its period start a joined member unit sends AVAIL with each of its members. An AVAIL frame is held for the next share point. A
SHARE frame from a lower unit ends leading, is shown in GRP_STAT and GRP_G, and moves a listed member toward its reference by at most
RSTEP; an unlisted member enters droop. At its share point a leader sends its shares; a follower that missed enough periods starts to
lead, with EMCY 0xFF32. Some clauses rest on readings of the model: log entry 45. (R404, R405, R406, R408, R410, R411, R413, R414). -/
def Obligations.ShareGroups : Prop :=
  ∀ (s : State) (g : Fin 16), s.up = true → s.grpOn g = true →
    (s.ring.joined = true → s.unclaimed = false → ∃ t, exec (.groupPeriodStart g) s = .next t ∧
      s.sent t 0x11 s.dstAll ([BitVec.ofNat 8 g.1,
      BitVec.ofNat 8 (s.ownMembers g).length] ++ beBytes 2 (s.get (GRP_STAT_PSEQ g)) ++ (s.ownMembers g).flatMap s.availBytes) ∧
      t.ring.groups[g].gotFrom = none ∧
      (t.ring.groups[g].quiet = (if s.ring.groups[g].gotFrom.isSome || s.ring.groups[g].lead then 0 else s.ring.groups[g].quiet + 1)) ∧
      s.onlyChanges t [.wire, .srv, .ring, .regs 3, .regs 17]) ∧
    (∀ (onB fcs : Bool) (f : List (BitVec 8)), s.hears fcs f 0x11 → fget f 26 1 % 16 = g.1 → ∃ t, exec (.availRx onB fcs f) s = .next t ∧
      (t.ring.groups[g].av.head?.map (·.1)) = some (fget f 16 2 % 64) ∧ (∀ h : Fin 16, h ≠ g → t.ring.groups[h] = s.ring.groups[h]) ∧
      s.onlyChanges t [.wire, .ring]) ∧
    (∀ (onB fcs : Bool) (f : List (BitVec 8)), s.hears fcs f 0x10 → fget f 26 1 % 16 = g.1 →
      (s.ring.groups[g].lead = false ∨ fget f 16 2 % 64 ≤ s.unitAddr) → s.ring.groups[g].gotFrom = none → ∃ t,
      exec (.shareRx onB fcs f) s = .next t ∧ t.ring.groups[g].lead = false ∧ t.ring.groups[g].quiet = 0 ∧
      t.ring.groups[g].gotFrom = some (fget f 16 2 % 64) ∧ t.get (GRP_STAT_LEADER g) = fget f 16 2 % 64 ∧
      t.get (GRP_STAT_PSEQ g) = fget f 28 2 ∧ t.get (GRP_G_V g) = fget f 30 4 ∧ t.get (GRP_STAT_QUORATE g) = 0 ∧ s.onlyChanges t [.wire,
      .srv, .ring, .regs 3, .regs 17, .regs 20]) ∧
    (∀ (onB fcs : Bool) (f : List (BitVec 8)) (a : Fin 8), s.hears fcs f 0x10 → fget f 26 1 % 16 = g.1 →
      (s.ring.groups[g].lead = false ∨ fget f 16 2 % 64 ≤ s.unitAddr) → s.ring.groups[g].gotFrom = none → a ∈ s.ownMembers g →
      bitOf (fget f 27 1) 5 = true → ∃ t, exec (.shareRx onB fcs f) s = .next t ∧ t.ring.members[a].droop = true ∧
      (s.ring.members[a].droop = false → t.ring.members[a].r0 = s.sget (ENG_RREF_TQ_V a) ∧ t.ring.members[a].n0 = s.sget (ENG_SPD_V a)) ∧
      s.onlyChanges t [.wire, .srv, .ring, .regs 3, .regs 17, .regs 20]) ∧
    (∀ (onB fcs : Bool) (f : List (BitVec 8)) (a : Fin 8), s.hears fcs f 0x10 → fget f 26 1 % 16 = g.1 →
      (s.ring.groups[g].lead = false ∨ fget f 16 2 % 64 ≤ s.unitAddr) → s.ring.groups[g].gotFrom = none → s.ownMembers g = [a] →
      bitOf (fget f 27 1) 5 = false → bitOf (fget f 27 1) 7 = false → 1 ≤ fget f 34 1 → fget f 36 2 % 512 = s.memKey a →
      s.ring.members[a].settled = false → ∃ t, exec (.shareRx onB fcs f) s = .next t ∧ t.ring.members[a].droop = false ∧
      t.sget (ENG_RREF_TQ_V a) = toward (s.sget (ENG_RREF_TQ_V a)) (sgn 16 (fget f 38 2)) (s.get (GRP_CFG2_RSTEP g)) ∧
      s.onlyChanges t [.wire, .srv, .ring, .regs 3, .regs 17, .regs 20]) ∧
    (s.ring.joined = true → s.unclaimed = false → s.ring.groups[g].lead = false → 3 + 2 * s.leadRank g ≤ s.ring.groups[g].quiet →
      s.quorate g [s.unitAddr] = true → s.ring.groups[g].units = none → s.ring.groups[g].av = [(s.unitAddr,
      (s.ownMembers g).map s.availEntry)] → s.ring.groups[g].inc = [] → s.ring.groups[g].known = [] → s.get NODE_UNIT < 64 →
      s.ring.groups[g].force = false → ∃ t, exec (.sharePoint g) s = .next t ∧ t.ring.groups[g].lead = true ∧ t.ring.groups[g].av = [] ∧
      s.queued t 0xFF32 [g.1, s.get (GRP_STAT_LEADER g)] ∧ t.get (GRP_STAT_LEADER g) = s.unitAddr ∧ s.onlyChanges t [.freeCtr, .wire,
      .srv, .ring, .regs 3, .regs 17, .regs 20]) ∧
    (s.ring.groups[g].lead = false → s.ring.groups[g].force = false → s.ring.groups[g].quiet < 3 → ∃ t,
      exec (.sharePoint g) s = .next t ∧ t.ring.groups[g].lead = false ∧ t.ring.groups[g].av = [] ∧ (∀ h : Fin 16, h ≠ g →
      t.ring.groups[h] = s.ring.groups[h]) ∧ s.onlyChanges t [.ring])

/-- SYS_PING is acknowledged with its data; MAIL that fits is placed in the receive FIFO and acknowledged, else answered NAK 0x03; QUERY
that fits waits for the tenant; an unknown command is answered NAK 0x01. A SYS_RESP is placed in the FIFO, a NAK counted. A query timeout
is answered NAK 0x06. A request pushed is sent, one for a ring without a route is answered NAK 0x04 by the unit. A pop gives the oldest
word, 0 when empty. Some clauses rest on readings of the model: log entry 44. (R415, R416, R417). -/
def Obligations.SystemFrames : Prop :=
  ∀ (s : State), s.up = true →
    (∀ (onB fcs : Bool) (f : List (BitVec 8)), s.hears fcs f 0x20 → sysOdst f = s.sysAddr → sysCmd f = 1 → sysLenOk f = true → ∃ t,
      exec (.sysPing onB fcs f) s = .next t ∧
      s.sent t 0x21 (s.sysDst (sysOsrc f)) (sysPay s.sysAddr (sysOsrc f) 8 0 (sysTid f) (sysData f)) ∧ s.onlyChanges t [.wire, .ring]) ∧
    (∀ (onB fcs : Bool) (f : List (BitVec 8)), s.hears fcs f 0x20 → sysOdst f = s.sysAddr → sysCmd f = 1 → sysLenOk f = false → ∃ t,
      exec (.sysPing onB fcs f) s = .next t ∧ s.sent t 0x21 (s.sysDst (sysOsrc f)) (sysPay s.sysAddr (sysOsrc f) 8 7 (sysTid f) []) ∧
      bitOf (t.get RING_EVT_EV) 6 = true ∧ s.onlyChanges t [.wire, .sys, .srv, .ring, .regs 3, .regs 20]) ∧
    (∀ (onB fcs : Bool) (f : List (BitVec 8)), s.hears fcs f 0x20 → sysOdst f = s.sysAddr → sysCmd f = 3 → sysLenOk f = true →
      s.ring.rxQ.length + (sysRecord 0x20 3 (sysTid f) (sysOsrc f) (sysData f)).length ≤ 512 → ∃ t,
      exec (.sysMail onB fcs f) s = .next t ∧ s.sent t 0x21 (s.sysDst (sysOsrc f)) (sysPay s.sysAddr (sysOsrc f) 8 0 (sysTid f) []) ∧
      t.ring.rxQ = s.ring.rxQ ++ sysRecord 0x20 3 (sysTid f) (sysOsrc f) (sysData f) ∧ bitOf (t.get RING_EVT_EV) 5 = true ∧
      s.onlyChanges t [.wire, .sys, .srv, .ring, .regs 3, .regs 20]) ∧
    (∀ (onB fcs : Bool) (f : List (BitVec 8)), s.hears fcs f 0x20 → sysOdst f = s.sysAddr → sysCmd f = 3 → sysLenOk f = true →
      512 < s.ring.rxQ.length + (sysRecord 0x20 3 (sysTid f) (sysOsrc f) (sysData f)).length → ∃ t,
      exec (.sysMail onB fcs f) s = .next t ∧ s.sent t 0x21 (s.sysDst (sysOsrc f)) (sysPay s.sysAddr (sysOsrc f) 8 3 (sysTid f) []) ∧
      t.ring.rxQ = s.ring.rxQ ∧ s.onlyChanges t [.wire, .sys, .srv, .ring, .regs 3, .regs 20]) ∧
    (∀ (onB fcs : Bool) (f : List (BitVec 8)), s.hears fcs f 0x20 → sysOdst f = s.sysAddr → sysCmd f = 4 → sysLenOk f = true →
      s.ring.rxQ.length + (sysRecord 0x20 4 (sysTid f) (sysOsrc f) (sysData f)).length ≤ 512 → ∃ t,
      exec (.sysQuery onB fcs f) s = .next t ∧ t.ring.rxQ = s.ring.rxQ ++ sysRecord 0x20 4 (sysTid f) (sysOsrc f) (sysData f) ∧
      t.ring.queries = s.ring.queries ++ [(sysOsrc f, sysTid f)] ∧ t.ring.fseq = s.ring.fseq ∧ s.onlyChanges t [.wire, .sys, .srv, .ring,
      .regs 3, .regs 20]) ∧
    (∀ (onB fcs : Bool) (f : List (BitVec 8)), s.hears fcs f 0x20 → sysOdst f = s.sysAddr → (sysCmd f = 0 ∨ 4 < sysCmd f) →
      sysLenOk f = true → ∃ t, exec (.sysUnknownCommand onB fcs f) s = .next t ∧
      s.sent t 0x21 (s.sysDst (sysOsrc f)) (sysPay s.sysAddr (sysOsrc f) 8 1 (sysTid f) []) ∧
      t.get RING_CNT2_NAKTX = satInc (2 ^ RING_CNT2_NAKTX.width - 1) (s.get RING_CNT2_NAKTX) ∧ t.ring.rxQ = s.ring.rxQ ∧
      s.onlyChanges t [.wire, .sys, .srv, .ring, .regs 3, .regs 20]) ∧
    (∀ (onB fcs : Bool) (f : List (BitVec 8)), s.hears fcs f 0x21 → sysOdst f = s.sysAddr → ∃ t,
      exec (.sysRespRx onB fcs f) s = .next t ∧
      (s.ring.rxQ.length + (sysRecord 0x21 (sysCmd f) (sysTid f) (sysOsrc f) (sysData f)).length ≤ 512 →
      t.ring.rxQ = s.ring.rxQ ++ sysRecord 0x21 (sysCmd f) (sysTid f) (sysOsrc f) (sysData f)) ∧ (sysCmd f ≠ 0 →
      t.get RING_CNT2_NAKRX = satInc (2 ^ RING_CNT2_NAKRX.width - 1) (s.get RING_CNT2_NAKRX)) ∧ (sysCmd f = 0 →
      t.get RING_CNT2_NAKRX = s.get RING_CNT2_NAKRX) ∧ t.ring.fseq = s.ring.fseq ∧ s.onlyChanges t [.wire, .srv, .ring, .regs 3,
      .regs 20]) ∧
    (∀ (osrc : BitVec 12) (tid : BitVec 16), s.ring.queries.contains (osrc.toNat, tid.toNat) = true → ∃ t,
      exec (.queryTimeout osrc tid) s = .next t ∧ t.ring.queries = s.ring.queries.erase (osrc.toNat, tid.toNat) ∧
      s.sent t 0x21 (s.sysDst osrc.toNat) (sysPay s.sysAddr osrc.toNat 8 6 tid.toNat []) ∧ s.onlyChanges t [.wire, .ring, .regs 3,
      .regs 20]) ∧
    (∀ (w w0 : Word), s.ring.joined = true → s.ring.txQ = [w0] → txBad w0.toNat w.toNat = false → bitsOf w.toNat 8 0 = 0 →
      bitsOf w0.toNat 31 24 = 0x20 →
      (bitsOf w.toNat 27 16 / 64 = s.get NODE_RINGNO ∨ s.ringBit (RING_ROUTE 0) (bitsOf w.toNat 27 16 / 64) = true) → ∃ t,
      exec (.ringTxPush w) s = .next t ∧
      s.sent t 0x20 (s.sysDst (bitsOf w.toNat 27 16)) (sysPay s.sysAddr (bitsOf w.toNat 27 16) 8 (bitsOf w0.toNat 23 16) (bitsOf w0.toNat 15 0) []) ∧
      t.ring.txQ = [] ∧ s.onlyChanges t [.wire, .ring]) ∧
    (∀ (w w0 : Word), s.ring.joined = true → s.ring.txQ = [w0] → txBad w0.toNat w.toNat = false → bitsOf w.toNat 8 0 = 0 →
      bitsOf w0.toNat 31 24 = 0x20 → bitsOf w.toNat 27 16 / 64 ≠ s.get NODE_RINGNO →
      s.ringBit (RING_ROUTE 0) (bitsOf w.toNat 27 16 / 64) = false → ∃ t, exec (.ringTxPush w) s = .next t ∧ t.ring.fseq = s.ring.fseq ∧
      t.ring.txQ = [] ∧ (s.ring.rxQ.length ≤ 510 →
      t.ring.rxQ = s.ring.rxQ ++ sysRecord 0x21 4 (bitsOf w0.toNat 15 0) (bitsOf w.toNat 27 16) []) ∧ s.onlyChanges t [.ring, .regs 3,
      .regs 20]) ∧
    (∀ (w : Word) (l : List Word), s.ring.rxQ = w :: l → ∃ t, exec (.ringRxPop) s = .next t ∧ t.rdata = w.toNat ∧ t.ring.rxQ = l ∧
      s.onlyChanges t [.rdata, .ring]) ∧
    (s.ring.rxQ = [] → ∃ t, exec (.ringRxPop) s = .next t ∧ t.rdata = 0 ∧ t.ring = s.ring ∧ s.onlyChanges t [.rdata, .ring])

/-- A DATA or TRAILER frame of a newer epoch from the partner is added to the epoch being received, or begins one, and a partial epoch that
it overtakes is discarded and counted. With every byte, a matching CRC and a right COMMIT the image is committed, its epoch shown and
counted. A frame of an epoch no newer than the committed one changes nothing. A PAIR frame accepted is kept with the partner's signature,
seal and state, and CP_STAT.REFUSE shows the lowest reason that refuses the pair, 0 for none; a reason that appears is EMCY 0xFF81. A
partner that stops sending is EMCY 0xFF84 once. A snapshot that grows too old sets STALE with EMCY 0xFF82 once. Some clauses rest on
readings of the model: log entry 49. (R422, R426, R433, R434, R436, R437, R438, R439). -/
def Obligations.PairAndCopyFrames : Prop :=
  ∀ (s : State), s.up = true →
    (∀ (onB fcs : Bool) (f : List (BitVec 8)), s.hears fcs f 0x33 → s.cpOn = true → ∃ t, exec (.pairFrameRx onB fcs f) s = .next t ∧
      t.cp.pair = some ⟨fget f 26 1, fget f 27 1, fget f 28 1, fget f 29 1, fget f 30 4, fget f 34 4, fget f 38 1, fget f 39 1,
      fget f 40 1, fget f 41 1, fget f 16 2⟩ ∧ t.cp.lost = false ∧ t.reg CP_PSIG = BitVec.ofNat 32 (fget f 30 4) ∧
      t.get CP_PSEAL_PSTATE = fget f 29 1 ∧ t.get CP_STAT_REFUSE = s.pairReason ⟨fget f 26 1, fget f 27 1, fget f 28 1, fget f 29 1,
      fget f 30 4, fget f 34 4, fget f 38 1, fget f 39 1, fget f 40 1, fget f 41 1, fget f 16 2⟩ ∧ (s.pairReason ⟨fget f 26 1,
      fget f 27 1, fget f 28 1, fget f 29 1, fget f 30 4, fget f 34 4, fget f 38 1, fget f 39 1, fget f 40 1, fget f 41 1,
      fget f 16 2⟩ ≠ 0 → s.cp.refused = 0 → s.queued t 0xFF81 [s.pairReason ⟨fget f 26 1, fget f 27 1, fget f 28 1, fget f 29 1,
      fget f 30 4, fget f 34 4, fget f 38 1, fget f 39 1, fget f 40 1, fget f 41 1, fget f 16 2⟩]) ∧ (s.pairReason ⟨fget f 26 1,
      fget f 27 1, fget f 28 1, fget f 29 1, fget f 30 4, fget f 34 4, fget f 38 1, fget f 39 1, fget f 40 1, fget f 41 1,
      fget f 16 2⟩ ≠ 0 → t.get CP_STAT_PAIR = 1) ∧ s.onlyChanges t [.wire, .srv, .cp, .ring, .regs 26]) ∧
    (s.cpOn = true → s.cp.lost = false → ∃ t, exec (.partnerPairLost) s = .next t ∧ t.cp.lost = true ∧ s.queued t 0xFF84 [] ∧
      s.onlyChanges t [.srv, .cp]) ∧
    (s.get CP_STAT_ROLE = 2 → s.cp.stale = false → ∃ t, exec (.snapshotStale) s = .next t ∧ t.cp.stale = true ∧ bitOf (t.get ⟨CP_EVT, 4,
      0⟩) 3 = true ∧ s.cp.com = t.cp.com ∧ (s.srv.emcyQ.length < 32 → t.srv.emcyQ[s.srv.emcyQ.length]? = some ⟨0xFF82,
      (leBytes 4 (s.get CP_EPOCH_V)).map (·.toNat)⟩) ∧ s.onlyChanges t [.srv, .cp, .regs 3, .regs 26]) ∧
    (∀ (onB fcs : Bool) (f : List (BitVec 8)), s.hears fcs f 0x30 → s.cpOn = true → s.get CP_STAT_ROLE = 2 →
      fget f 16 2 = s.partnerAddr → s.copyNewer (fget f 26 4) = true → s.cp.part = none → ∃ t,
      exec (.copyDataRx onB fcs f) s = .next t ∧ t.cp.part = some ⟨fget f 26 4, [(fget f 30 2, (f.drop 36).take (fget f 32 2))], none, none⟩ ∧
      t.cp.com = s.cp.com ∧ s.onlyChanges t [.wire, .cp, .ring]) ∧
    (∀ (onB fcs : Bool) (f : List (BitVec 8)) (p : CopyPart), s.hears fcs f 0x30 → s.cpOn = true → s.get CP_STAT_ROLE = 2 →
      fget f 16 2 = s.partnerAddr → s.copyNewer (fget f 26 4) = true → s.cp.part = some p → p.epoch = fget f 26 4 → p.commit = none → ∃ t,
      exec (.copyDataRx onB fcs f) s = .next t ∧ t.cp.part = some { p with data := (fget f 30 2, (f.drop 36).take (fget f 32 2)) :: p.data } ∧
      t.cp.com = s.cp.com ∧ s.onlyChanges t [.wire, .cp, .ring]) ∧
    (∀ (onB fcs : Bool) (f : List (BitVec 8)) (p : CopyPart), s.hears fcs f 0x30 → s.cpOn = true → s.get CP_STAT_ROLE = 2 →
      fget f 16 2 = s.partnerAddr → s.copyNewer (fget f 26 4) = true → s.cp.part = some p → newerEpoch (fget f 26 4) p.epoch = true →
      p.epoch ≠ fget f 26 4 → ∃ t,
      exec (.copyDataRx onB fcs f) s = .next t ∧ t.cp.part = some ⟨fget f 26 4, [(fget f 30 2, (f.drop 36).take (fget f 32 2))], none, none⟩ ∧ t.cp.disc = true ∧
      t.get CP_CNT_DISCARDED = (s.get CP_CNT_DISCARDED + 1) % 2 ^ 16 ∧
      t.cp.com = s.cp.com ∧ s.onlyChanges t [.wire, .cp, .ring, .regs 26] ∧ s.keepsRegs t 26 [CP_CNT]) ∧
    (∀ (onB fcs : Bool) (f : List (BitVec 8)), s.hears fcs f 0x31 → s.cpOn = true → s.get CP_STAT_ROLE = 2 →
      fget f 16 2 = s.partnerAddr → s.copyNewer (fget f 26 4) = true → s.cp.part = none → ∃ t,
      exec (.copyTrailerRx onB fcs f) s = .next t ∧ t.cp.part = some ⟨fget f 26 4, [], some (fget f 30 2, fget f 32 4), none⟩ ∧
      t.cp.com = s.cp.com ∧ s.onlyChanges t [.wire, .cp, .ring]) ∧
    (∀ (onB fcs : Bool) (f : List (BitVec 8)) (p : CopyPart), s.hears fcs f 0x31 → s.cpOn = true → s.get CP_STAT_ROLE = 2 →
      fget f 16 2 = s.partnerAddr → s.copyNewer (fget f 26 4) = true → s.cp.part = some p → p.epoch = fget f 26 4 → p.commit = none → ∃ t,
      exec (.copyTrailerRx onB fcs f) s = .next t ∧ t.cp.part = some { p with trailer := some (fget f 30 2, fget f 32 4) } ∧
      t.cp.com = s.cp.com ∧ s.onlyChanges t [.wire, .cp, .ring]) ∧
    (∀ (onB fcs : Bool) (f : List (BitVec 8)) (p : CopyPart) (l : List (BitVec 8)), s.hears fcs f 0x32 → s.cpOn = true →
      s.get CP_STAT_ROLE = 2 → fget f 16 2 = s.partnerAddr → s.cp.com = none → s.cp.part = some p → fget f 26 4 = p.epoch →
      p.epoch < 2 ^ 32 → fget f 30 4 + fget f 26 4 = 0xFFFFFFFF →
      (CopyPart.mk p.epoch p.data p.trailer (some (fget f 34 1))).whole = some l → ∃ t, exec (.copyCommitRx onB fcs f) s = .next t ∧
      t.cp.com = some ⟨p.epoch, l, t.copyRefs ⟨p.epoch, l, []⟩⟩ ∧ t.cp.part = none ∧ t.cp.stale = false ∧ t.get CP_EPOCH_V = p.epoch ∧
      t.get CP_CNT_COMMITS = (s.get CP_CNT_COMMITS + 1) % 2 ^ 16 ∧ t.get CP_CNT_DISCARDED = s.get CP_CNT_DISCARDED ∧
      s.onlyChanges t [.wire, .srv, .cp, .ring, .regs 3, .regs 20, .regs 26]) ∧
    (∀ (onB fcs : Bool) (f : List (BitVec 8)) (m : CopyImg), s.hears fcs f 0x32 → s.cp.com = some m →
      newerEpoch (fget f 26 4) m.epoch = false → ∃ t, exec (.copyCommitRx onB fcs f) s = .next t ∧ t.cp.com = s.cp.com ∧
      t.cp.part = s.cp.part ∧ s.onlyChanges t [.wire, .ring])

/-- A unit whose partner line has read high claims: duty at once if no partner has claimed since its reset, else in takeover. The claim
timer, a failed quiet check and a conflict with a lower partner end the claim: the line is released, the paired axes leave operation by a
fast halt, their ports go OFF, the role is standby. Quiet ports are noted, and a taking unit goes on to the image and the STATUS replies.
Some clauses rest on readings of the model: log entry 50. (R427, R428, R429, R430, R431, R432, R440). -/
def Obligations.ClaimLines : Prop :=
  ∀ (s : State), s.up = true → s.cpOn = true →
    (∀ (high : Bool), s.cp.partnerHigh = !high → ∃ t, exec (.partnerLineChange high) s = .next t ∧ t.cp.partnerHigh = high ∧
      (high = false → t.cp.seen = true) ∧ (high = false → t.cp.quiet = false) ∧ bitOf (t.get ⟨CP_EVT, 4, 0⟩) 1 = true ∧
      t.cp.claim = s.cp.claim ∧ t.cp.com = s.cp.com ∧ s.onlyChanges t [.cp, .regs 3, .regs 26] ∧ s.keepsRegs t 26 [CP_EVT]) ∧
    (s.cp.claim = false → s.cp.partnerHigh = true → s.cp.barred = 0 → s.bg.latched = false → s.cp.seen = false → s.copyImg = none →
      (∀ n : Fin 8, s.get (LAMP_STAT_DARK n) = 0) → ∃ t, exec (.claimTake) s = .next t ∧ t.cp.claim = true ∧ t.get CP_STAT_ROLE = 1 ∧
      t.cp.quiet = false ∧ s.onlyChanges t [.sys, .bg, .axes, .ports, .srv, .cp, .eng, .lio, .regs 0, .regs 1, .regs 3, .regs 17,
      .regs 24, .regs 26]) ∧
    (s.cp.claim = false → s.cp.partnerHigh = true → s.cp.barred = 0 → s.bg.latched = false → s.cp.seen = true → s.copyImg = none →
      (∀ n : Fin 8, s.get (LAMP_STAT_DARK n) = 0) → ∃ t, exec (.claimTake) s = .next t ∧ t.cp.claim = true ∧ t.get CP_STAT_ROLE = 3 ∧
      t.cp.part = none ∧ t.cp.take.isSome = true ∧ s.onlyChanges t [.sys, .bg, .axes, .ports, .srv, .cp, .eng, .lio, .regs 0, .regs 1,
      .regs 3, .regs 17, .regs 24, .regs 26]) ∧
    (s.cp.claim = true → ∃ t, exec (.claimTimerExpiry) s = .next t ∧ t.cp.claim = false ∧ t.get CP_STAT_ROLE = 2 ∧ (∀ a : Fin 8,
      bitOf s.pairedAxes a = true →
      t.axes[a].st = .disabled ∨ t.axes[a].st = .notReady ∨ t.axes[a].st = .fault ∨ t.axes[a].st = .faultReact) ∧ (∀ a : Fin 8,
      bitOf s.pairedAxes a = true → t.get (ENG_STAT_EDGES a) = 0) ∧ (∀ p : Fin 6, s.pairedPort p = true → s.ports[p].st ≠ .off →
      t.ports[p].offAtTwelfth = true) ∧ s.onlyChanges t [.axes, .ports, .srv, .cp, .eng, .lio, .regs 0, .regs 3, .regs 17, .regs 24,
      .regs 26]) ∧
    (s.cp.claim = true → s.cp.found = false → ∃ t, exec (.quietCheckTimeout) s = .next t ∧ t.cp.claim = false ∧ t.get CP_STAT_ROLE = 2 ∧
      (∀ a : Fin 8, bitOf s.pairedAxes a = true →
      t.axes[a].st = .disabled ∨ t.axes[a].st = .notReady ∨ t.axes[a].st = .fault ∨ t.axes[a].st = .faultReact) ∧ (∀ a : Fin 8,
      bitOf s.pairedAxes a = true → t.get (ENG_STAT_EDGES a) = 0) ∧ (∀ p : Fin 6, s.pairedPort p = true → s.ports[p].st ≠ .off →
      t.ports[p].offAtTwelfth = true) ∧ t.cp.barred = 1 ∧ t.get CP_STAT_CONFLICT = 1 ∧
      t.get CP_CNT2_CONFLICTS = satInc (2 ^ 16 - 1) (s.get CP_CNT2_CONFLICTS) ∧ bitOf (t.get ⟨CP_EVT, 4, 0⟩) 4 = true ∧
      s.onlyChanges t [.axes, .ports, .srv, .cp, .eng, .lio, .regs 0, .regs 3, .regs 17, .regs 24, .regs 26]) ∧
    (s.cp.claim = true → s.cp.partnerHigh = false → s.streamsPaired = true → ∃ t, exec (.claimConflict) s = .next t ∧ t.cp.claim = true ∧
      t.get CP_STAT_CONFLICT = 1 ∧ s.queued t 0xFF83 [2] ∧ bitOf (t.get ⟨CP_EVT, 4, 0⟩) 4 = true ∧ s.onlyChanges t [.srv, .regs 3,
      .regs 26] ∧ s.keepsRegs t 26 [CP_STAT, CP_CNT2, CP_EVT]) ∧
    (s.cp.claim = true → s.cp.partnerHigh = false → s.streamsPaired = false → s.get CP_CFG_PARTNER < s.unitAddr → ∃ t,
      exec (.claimConflict) s = .next t ∧ t.cp.claim = false ∧ t.get CP_STAT_ROLE = 2 ∧ (∀ a : Fin 8, bitOf s.pairedAxes a = true →
      t.axes[a].st = .disabled ∨ t.axes[a].st = .notReady ∨ t.axes[a].st = .fault ∨ t.axes[a].st = .faultReact) ∧ (∀ a : Fin 8,
      bitOf s.pairedAxes a = true → t.get (ENG_STAT_EDGES a) = 0) ∧ (∀ p : Fin 6, s.pairedPort p = true → s.ports[p].st ≠ .off →
      t.ports[p].offAtTwelfth = true) ∧ t.get CP_STAT_CONFLICT = 1 ∧ s.onlyChanges t [.axes, .ports, .srv, .cp, .eng, .lio, .regs 0,
      .regs 3, .regs 17, .regs 24, .regs 26]) ∧
    (s.cp.claim = true → s.cp.partnerHigh = false → s.streamsPaired = false → s.unitAddr ≤ s.get CP_CFG_PARTNER → ∃ t,
      exec (.claimConflict) s = .next t ∧ t = s ∧ s.onlyChanges t [.axes, .ports, .srv, .cp, .eng, .lio, .regs 0, .regs 3, .regs 17,
      .regs 24, .regs 26]) ∧
    (∀ (since : List Nat), s.cp.take = none → ∃ t, exec (.portsQuiet since) s = .next t ∧ t.cp.quiet = true ∧ (s.cp.claim = true →
      t.cp.found = true) ∧ t.cp.claim = s.cp.claim ∧ s.onlyChanges t [.cp]) ∧
    (∀ (since : List Nat), s.cp.take = some ⟨0, 1, 0, false, false, Vector.replicate 6 [], []⟩ → s.cp.com = none → ∃ t,
      exec (.portsQuiet since) s = .next t ∧ t.cp.quiet = true ∧ (∀ p : Fin 6, s.pairedPort p = true → s.ports[p].st = .off →
      t.ports[p].st = .stream) ∧ t.cp.claim = s.cp.claim ∧ s.onlyChanges t (Part.withRegs [.axes, .ports, .srv, .cp, .eng, .lio, .ring]))

/-- A duty of a READY pair accepts a handover, which the COMMIT of the next epoch carries; once it has left, the claim is released. At a
copy point the duty takes the next epoch, and the standby latches the counter of each feedback source of a paired axis and sends PAIR. A
flip toggles the user buffer; CLRCNT clears CP_CNT and CP_CNT2. Some clauses rest on readings of the model: log entries 50 and 51. (R430,
R433, R435, R436, R445, R448). -/
def Obligations.DutyCommands : Prop :=
  ∀ (s : State), s.up = true →
    (s.get CP_STAT_ROLE = 1 → s.get CP_STAT_PAIR = 3 → s.cp.claim = true → ∃ t, exec (.handoverRequest) s = .next t ∧
      (t.cp.ho = (if s.cp.ho = 0 then 1 else s.cp.ho)) ∧ t.cp.claim = true ∧ s.onlyChanges t [.cp]) ∧
    ((s.get CP_STAT_ROLE ≠ 1 ∨ s.get CP_STAT_PAIR ≠ 3 ∨ s.cp.claim = false) → ∃ t, exec (.handoverRequest) s = .next t ∧ t = s) ∧
    (s.cp.claim = true → s.cp.ho = 2 → ∃ t, exec (.handoverRelease) s = .next t ∧ t.cp.claim = false ∧ (∀ a : Fin 8,
      bitOf s.pairedAxes a = true →
      t.axes[a].st = .disabled ∨ t.axes[a].st = .notReady ∨ t.axes[a].st = .fault ∨ t.axes[a].st = .faultReact) ∧ (∀ a : Fin 8,
      bitOf s.pairedAxes a = true → t.get (ENG_STAT_EDGES a) = 0) ∧ (t.get CP_STAT_ROLE = (if s.flag CP_CFG_EN then 2 else 0)) ∧
      s.onlyChanges t [.axes, .ports, .srv, .cp, .eng, .lio, .regs 0, .regs 3, .regs 16, .regs 17, .regs 24, .regs 26]) ∧
    (∃ t, exec (.userBufferFlip) s = .next t ∧ t.get CP_STAT_USRBUF = 1 - s.get CP_STAT_USRBUF ∧ s.onlyChanges t [.regs 26] ∧
      s.keepsRegs t 26 [CP_STAT]) ∧
    (∃ t, exec (.copyClearCount) s = .next t ∧ t.reg CP_CNT = 0 ∧ t.reg CP_CNT2 = 0 ∧ s.onlyChanges t [.regs 26] ∧
      s.keepsRegs t 26 [CP_CNT, CP_CNT2]) ∧
    (s.cpOn = true → s.get CP_STAT_ROLE = 1 → s.cp.claim = true → ∃ t, exec (.copyPoint) s = .next t ∧
      t.get CP_EPOCH_V = (s.get CP_EPOCH_V + 1) % 2 ^ 32 ∧ (t.cp.ho = (if s.cp.ho = 1 then 2 else s.cp.ho)) ∧ (s.ring.joined = true →
      s.get CP_USRLEN_LEN < 4 →
      t.ring.fseq = (s.ring.fseq + (copyPieces (s.pairJudge.copyImage ((s.get CP_EPOCH_V + 1) % 2 ^ 32) (b2n (s.cp.ho == 1)) [])).length + 3 - b2n (s.cp.ho == 1)) % 65536) ∧
      s.onlyChanges t [.freeCtr, .wire, .hold, .memErr, .ports, .srv, .cp, .fb, .modCap, .ring, .regs 2, .regs 3, .regs 16, .regs 26]) ∧
    (s.cpOn = true → s.get CP_STAT_ROLE = 2 → ∃ t, exec (.copyPoint) s = .next t ∧ (∀ a : Fin 8, bitOf s.pairedAxes a = true →
      (s.get (ENG_FB_SRC a), s.chanCnt (s.get (ENG_FB_SRC a))) ∈ t.cp.latch) ∧ t.get CP_EPOCH_V = s.get CP_EPOCH_V ∧
      (s.ring.joined = true → t.ring.fseq = (s.ring.fseq + 1) % 65536) ∧ s.onlyChanges t [.wire, .srv, .cp, .ring, .regs 26])

/-- With no command in progress, the store ready and the unit not parked, a store command written is accepted: LASTERR becomes 0 and the
command, its arguments and its tenant stand. APPEND and DELETE open a transaction where none is open; ERASEBANK sets BANKWR and begins
the erase. A command while one is in progress is refused with LASTERR 1, one of another tenant in a transaction with 2, one while parked
with 3. Some clauses rest on readings of the model: log entry 52. (R516, R517, R521, R522, R532, R534, R536, R537). -/
def Obligations.StoreAcceptance : Prop :=
  ∀ (s : State) (ten : Fin 8), s.up = true → s.store.cmd = none →
    (s.store.ready = true → s.parked = false → s.store.tx = none →
      s.recRefusal ten.1 true (s.reg (STORE_ARG 0)).toNat ((s.reg (STORE_ARG 1)).toNat / 65536) ((s.reg (STORE_ARG 1)).toNat % 65536) ((s.reg (STORE_ARG 2)).toNat % 65536) = 0 →
      ∃ t, exec (.storeAppend ten) s = .next t ∧ t.store.cmd = some ⟨1, (s.reg (STORE_ARG 0)).toNat, (s.reg (STORE_ARG 1)).toNat,
      (s.reg (STORE_ARG 2)).toNat, ten.1⟩ ∧ t.get STORE_STAT_LASTERR = 0 ∧ t.store.tx = some (s.store.tseq + 1, ten.1) ∧
      s.onlyChanges t [.store, .regs 25] ∧ s.keepsRegs t 25 [STORE_STAT]) ∧
    (∀ (q d : Nat), s.store.ready = true → s.parked = false → s.store.tx = some (q, d) → d ≠ ten.1 → ∃ t,
      exec (.storeAppend ten) s = .next t ∧ t.get STORE_STAT_LASTERR = 2 ∧ t.store = s.store ∧ bitOf (t.get ⟨STORE_EVT, 1, 0⟩) 1 = true ∧
      s.onlyChanges t [.regs 3, .regs 25]) ∧
    (∀ (q : Nat), s.store.ready = true → s.parked = false → s.store.tx = some (q, ten.1) → 1 ≤ (s.reg (STORE_ARG 1)).toNat / 65536 →
      (s.reg (STORE_ARG 1)).toNat / 65536 ≤ 0xEFFF → s.store.txBytes ≤ 65536 - 48 → ∃ t, exec (.storeDelete ten) s = .next t ∧
      t.store.cmd = some ⟨2, (s.reg (STORE_ARG 0)).toNat, (s.reg (STORE_ARG 1)).toNat, (s.reg (STORE_ARG 2)).toNat, ten.1⟩ ∧
      t.get STORE_STAT_LASTERR = 0 ∧ t.store.tx = s.store.tx ∧ s.onlyChanges t [.store, .regs 25] ∧ s.keepsRegs t 25 [STORE_STAT]) ∧
    (∀ (q : Nat), s.store.ready = true → s.parked = false → s.store.tx = some (q, ten.1) → s.confirmed = true → ∃ t,
      exec (.storeCommit ten) s = .next t ∧ t.store.cmd = some ⟨3, (s.reg (STORE_ARG 0)).toNat, (s.reg (STORE_ARG 1)).toNat,
      (s.reg (STORE_ARG 2)).toNat, ten.1⟩ ∧ t.get STORE_STAT_LASTERR = 0 ∧ s.onlyChanges t [.store, .regs 25] ∧
      s.keepsRegs t 25 [STORE_STAT]) ∧
    (∀ (q : Nat), s.store.ready = true → s.parked = false → s.store.tx = some (q, ten.1) → s.confirmed = false →
      s.store.txLayout ≠ some s.runLayout → ∃ t, exec (.storeCommit ten) s = .next t ∧ t.get STORE_STAT_LASTERR = 7 ∧ t.store = s.store ∧
      s.onlyChanges t [.regs 3, .regs 25]) ∧
    (∀ (q : Nat), s.store.ready = true → s.parked = false → s.store.tx = some (q, ten.1) → ∃ t, exec (.storeAbort ten) s = .next t ∧
      t.store.cmd = some ⟨4, (s.reg (STORE_ARG 0)).toNat, (s.reg (STORE_ARG 1)).toNat, (s.reg (STORE_ARG 2)).toNat, ten.1⟩ ∧
      t.get STORE_STAT_LASTERR = 0 ∧ s.onlyChanges t [.store, .regs 25] ∧ s.keepsRegs t 25 [STORE_STAT]) ∧
    (s.store.ready = true → ∃ t, exec (.storeFind ten) s = .next t ∧ t.store.cmd = some ⟨5, (s.reg (STORE_ARG 0)).toNat,
      (s.reg (STORE_ARG 1)).toNat, (s.reg (STORE_ARG 2)).toNat, ten.1⟩ ∧ t.get STORE_STAT_LASTERR = 0 ∧ s.onlyChanges t [.store,
      .regs 25] ∧ s.keepsRegs t 25 [STORE_STAT]) ∧
    (s.parked = false → ∃ t, exec (.storeErasebank ten) s = .next t ∧ t.store.cmd = some ⟨8, (s.reg (STORE_ARG 0)).toNat,
      (s.reg (STORE_ARG 1)).toNat, (s.reg (STORE_ARG 2)).toNat, ten.1⟩ ∧ t.get STORE_STAT_LASTERR = 0 ∧ t.store.bankwr = true ∧
      t.store.prog = true ∧ t.store.eraseAt = some 0 ∧ s.onlyChanges t [.store, .regs 25] ∧ s.keepsRegs t 25 [STORE_STAT]) ∧
    (s.parked = false → s.store.prog = true → srcOk (s.reg (STORE_ARG 0)).toNat 256 = true →
      bankBase s.otherBank ≤ (s.reg (STORE_ARG 1)).toNat → (s.reg (STORE_ARG 1)).toNat + 256 ≤ bankBase s.otherBank + 0x800000 →
      (s.reg (STORE_ARG 1)).toNat % 256 = 0 → ∃ t, exec (.storeProg ten) s = .next t ∧ t.store.cmd = some ⟨9,
      (s.reg (STORE_ARG 0)).toNat, (s.reg (STORE_ARG 1)).toNat, (s.reg (STORE_ARG 2)).toNat, ten.1⟩ ∧ t.get STORE_STAT_LASTERR = 0 ∧
      s.onlyChanges t [.store, .regs 25] ∧ s.keepsRegs t 25 [STORE_STAT]) ∧
    (s.parked = false → s.store.prog = false → ∃ t, exec (.storeProg ten) s = .next t ∧ t.get STORE_STAT_LASTERR = 4 ∧
      t.store = s.store ∧ s.onlyChanges t [.regs 3, .regs 25]) ∧
    (s.parked = false → ∃ t, exec (.storeVerify ten) s = .next t ∧ t.store.cmd = some ⟨10, (s.reg (STORE_ARG 0)).toNat,
      (s.reg (STORE_ARG 1)).toNat, (s.reg (STORE_ARG 2)).toNat, ten.1⟩ ∧ t.get STORE_STAT_LASTERR = 0 ∧ s.onlyChanges t [.store,
      .regs 25] ∧ s.keepsRegs t 25 [STORE_STAT]) ∧
    (s.parked = true → ∃ t, exec (.storeVerify ten) s = .next t ∧ t.get STORE_STAT_LASTERR = 3 ∧ t.store = s.store ∧
      bitOf (t.get ⟨STORE_EVT, 1, 0⟩) 1 = true ∧ s.onlyChanges t [.regs 3, .regs 25]) ∧
    (s.parked = false → ∃ t, exec (.storeAbandonbank ten) s = .next t ∧ t.store.cmd = some ⟨11, (s.reg (STORE_ARG 0)).toNat,
      (s.reg (STORE_ARG 1)).toNat, (s.reg (STORE_ARG 2)).toNat, ten.1⟩ ∧ t.get STORE_STAT_LASTERR = 0 ∧ s.onlyChanges t [.store,
      .regs 25] ∧ s.keepsRegs t 25 [STORE_STAT]) ∧
    (s.parked = false → (s.confirmed = true ∨ s.store.layNow = s.runLayout) → ∃ t, exec (.storeConfirm ten) s = .next t ∧
      t.store.cmd = some ⟨12, (s.reg (STORE_ARG 0)).toNat, (s.reg (STORE_ARG 1)).toNat, (s.reg (STORE_ARG 2)).toNat, ten.1⟩ ∧
      t.get STORE_STAT_LASTERR = 0 ∧ s.onlyChanges t [.store, .regs 25] ∧ s.keepsRegs t 25 [STORE_STAT]) ∧
    (s.parked = false → s.confirmed = false → s.store.layNow ≠ s.runLayout → ∃ t, exec (.storeConfirm ten) s = .next t ∧
      t.get STORE_STAT_LASTERR = 9 ∧ t.store = s.store ∧ s.onlyChanges t [.regs 3, .regs 25]) ∧
    (s.parked = false → s.confirmed = false → (s.reg (STORE_ARG 1)).toNat = 2 → ∃ t, exec (.storeFallback ten) s = .next t ∧
      t.store.cmd = some ⟨13, (s.reg (STORE_ARG 0)).toNat, (s.reg (STORE_ARG 1)).toNat, (s.reg (STORE_ARG 2)).toNat, ten.1⟩ ∧
      t.get STORE_STAT_LASTERR = 0 ∧ s.onlyChanges t [.store, .regs 25] ∧ s.keepsRegs t 25 [STORE_STAT]) ∧
    (s.parked = false → s.confirmed = true → ∃ t, exec (.storeFallback ten) s = .next t ∧ t.get STORE_STAT_LASTERR = 9 ∧
      t.store = s.store ∧ s.onlyChanges t [.regs 3, .regs 25])

/-- At completion APPEND adds its record to the open transaction and DELETE its tombstone, COMMIT closes and counts it, ABORT drops it,
FIND shows the newest record or 0 with LASTERR 8, ERASEBANK has erased the first sector of the bank not running, PROG has programmed its
256 bytes there, a failed verification leaves LASTERR 9, CONFIRM sets CONFIRMED of the running bank and FALLBACK its FAILED with reason 2;
DONE is set. A flash failure is LASTERR 6 with ERROR. The background erase ends with the last sector. The scan makes the store ready. A
reclaim step frees the oldest sector and counts its wear. Some clauses rest on readings of the model: log entries 20 and 52. (R516, R518,
R519, R521, R522, R523, R524, R525, R532, R534, R536, R537). -/
def Obligations.StoreCompletion : Prop :=
  ∀ (s : State), s.up = true →
    (∀ (good : Bool) (c : StoreCmd), s.store.cmd = some c → good = false → ∃ t, exec (.storeCommandComplete good) s = .next t ∧
      t.store.cmd = none ∧ t.get STORE_STAT_LASTERR = 6 ∧ bitOf (t.get ⟨STORE_EVT, 1, 0⟩) 1 = true ∧ t.store.tx = s.store.tx ∧
      t.store.recs = s.store.recs ∧ s.onlyChanges t [.store, .regs 3, .regs 25]) ∧
    (∀ (good : Bool) (c : StoreCmd) (q : Nat × Nat), s.store.cmd = some c → good = true → c.op = 1 → s.store.tx = some q → ∃ t,
      exec (.storeCommandComplete good) s = .next t ∧ t.store.cmd = none ∧ bitOf (t.get ⟨STORE_EVT, 1, 0⟩) 0 = true ∧
      ((t.store.recs.map fun r => (r.typ, r.num, r.layout, r.tseq, r.data)) = (s.store.recs.map fun r => (r.typ, r.num, r.layout, r.tseq,
      r.data)) ++ [(1, c.a1 / 65536, c.a2 % 65536, q.1, s.memBytes c.a0 (c.a1 % 65536))]) ∧ t.store.tx = s.store.tx ∧
      s.onlyChanges t [.mem, .store, .regs 3, .regs 25]) ∧
    (∀ (good : Bool) (c : StoreCmd) (q : Nat × Nat), s.store.cmd = some c → good = true → c.op = 2 → s.store.tx = some q → ∃ t,
      exec (.storeCommandComplete good) s = .next t ∧ t.store.cmd = none ∧ bitOf (t.get ⟨STORE_EVT, 1, 0⟩) 0 = true ∧
      ((t.store.recs.map fun r => (r.typ, r.num, r.layout, r.tseq, r.data)) = (s.store.recs.map fun r => (r.typ, r.num, r.layout, r.tseq,
      r.data)) ++ [(3, c.a1 / 65536, c.a2 % 65536, q.1, [])]) ∧ t.store.tx = s.store.tx ∧ s.onlyChanges t [.mem, .store, .regs 3, .regs 25]) ∧
    (∀ (good : Bool) (c : StoreCmd), s.store.cmd = some c → good = true → c.op = 8 → s.store.eraseAt = some 0 → ∃ t,
      exec (.storeCommandComplete good) s = .next t ∧ t.store.cmd = none ∧ bitOf (t.get ⟨STORE_EVT, 1, 0⟩) 0 = true ∧
      t.store.eraseAt = some 1 ∧ (∀ k : Nat, k < 65536 → t.memByte (bankBase s.otherBank + k) = 0xFF) ∧
      s.keepsBytes t (bankBase s.otherBank) 65536 ∧ t.store.bankwr = s.store.bankwr ∧ t.store.recs = s.store.recs ∧ s.onlyChanges t [.mem, .store, .regs 3, .regs 25]) ∧
    (∀ (good : Bool) (c : StoreCmd), s.store.cmd = some c → good = true → c.op = 9 → s.store.eraseAt = none → bankBase s.otherBank ≤ c.a1 →
      c.a1 + 256 ≤ bankBase s.otherBank + 0x800000 → srcOk c.a0 256 = true → ∃ t,
      exec (.storeCommandComplete good) s = .next t ∧ t.store.cmd = none ∧ bitOf (t.get ⟨STORE_EVT, 1, 0⟩) 0 = true ∧
      (∀ k : Fin 256, t.memByte (c.a1 + k) = s.memByte (c.a0 + k) &&& s.memByte (c.a1 + k)) ∧ s.keepsBytes t c.a1 256 ∧ s.onlyChanges t [.mem, .store, .regs 3, .regs 25]) ∧
    (∀ (good : Bool) (c : StoreCmd), s.store.cmd = some c → good = true → c.op = 0xC → s.confirmed = false → s.store.migFrom = none → ∃ t,
      exec (.storeCommandComplete good) s = .next t ∧ t.store.cmd = none ∧ bitOf (t.get ⟨STORE_EVT, 1, 0⟩) 0 = true ∧
      t.confirmed = true ∧ s.keepsBytes t (bankBase s.runBank + 0x7F0050) 4 ∧ t.store.recs = s.store.recs ∧ s.onlyChanges t [.mem, .store, .regs 3, .regs 25]) ∧
    (∀ (good : Bool) (c : StoreCmd), s.store.cmd = some c → good = true → c.op = 0xD → s.confirmed = false → ∃ t,
      exec (.storeCommandComplete good) s = .next t ∧ t.store.cmd = none ∧ bitOf (t.get ⟨STORE_EVT, 1, 0⟩) 0 = true ∧
      t.marker s.runBank 6 = true ∧ t.bankWord s.runBank 7 = 2 ∧ t.bankWord s.runBank 8 = c.a0 % 2 ^ 32 ∧ t.store.tx = none ∧ s.onlyChanges t [.mem, .store, .regs 3, .regs 25]) ∧
    (∀ (good : Bool) (c : StoreCmd), s.store.cmd = some c → good = true → c.op = 3 → s.store.tx.isSome = true → ∃ t,
      exec (.storeCommandComplete good) s = .next t ∧ t.store.cmd = none ∧ bitOf (t.get ⟨STORE_EVT, 1, 0⟩) 0 = true ∧ t.store.tx = none ∧
      t.store.commits = s.store.commits + 1 ∧ (∀ r ∈ s.store.recs, r ∈ t.store.recs) ∧ s.onlyChanges t [.mem, .store, .regs 3, .regs 25]) ∧
    (∀ (good : Bool) (c : StoreCmd) (q : Nat × Nat), s.store.cmd = some c → good = true → c.op = 4 → s.store.tx = some q → ∃ t,
      exec (.storeCommandComplete good) s = .next t ∧ t.store.cmd = none ∧ bitOf (t.get ⟨STORE_EVT, 1, 0⟩) 0 = true ∧ t.store.tx = none ∧
      (∀ r ∈ t.store.recs, r.tseq ≠ q.1) ∧ s.onlyChanges t [.mem, .store, .regs 3, .regs 25]) ∧
    (∀ (good : Bool) (c : StoreCmd) (e : StoreRec), s.store.cmd = some c → good = true → c.op = 5 →
      s.store.find (c.a1 / 65536) (c.a2 % 65536) = some e → ∃ t, exec (.storeCommandComplete good) s = .next t ∧ t.store.cmd = none ∧
      bitOf (t.get ⟨STORE_EVT, 1, 0⟩) 0 = true ∧ t.reg STORE_RES = BitVec.ofNat 32 e.addr ∧
      t.reg STORE_RES2 = BitVec.ofNat 32 (e.tseq % 65536 * 65536 + e.data.length) ∧ s.onlyChanges t [.store, .regs 3, .regs 25]) ∧
    (∀ (good : Bool) (c : StoreCmd), s.store.cmd = some c → good = true → c.op = 5 → s.store.find (c.a1 / 65536) (c.a2 % 65536) = none →
      ∃ t, exec (.storeCommandComplete good) s = .next t ∧ t.store.cmd = none ∧ bitOf (t.get ⟨STORE_EVT, 1, 0⟩) 0 = true ∧
      t.reg STORE_RES = 0 ∧ t.get STORE_STAT_LASTERR = 8 ∧ s.onlyChanges t [.store, .regs 3, .regs 25]) ∧
    (∀ (good : Bool) (c : StoreCmd), s.store.cmd = some c → good = true → c.op = 0xA → s.imgField s.otherBank 0 4 ≠ 0x47D10F1E → ∃ t,
      exec (.storeCommandComplete good) s = .next t ∧ t.store.cmd = none ∧ bitOf (t.get ⟨STORE_EVT, 1, 0⟩) 0 = true ∧
      t.get STORE_STAT_LASTERR = 9 ∧ t.get STORE_VERREF_V = s.imgField s.otherBank 8 4 ∧ (s.store.eraseAt = none →
      t.store.bankwr = false) ∧ s.onlyChanges t [.store, .regs 3, .regs 25]) ∧
    (∀ (good : Bool) (c : StoreCmd), s.store.cmd = some c → good = true → c.op = 0xB → ∃ t,
      exec (.storeCommandComplete good) s = .next t ∧ t.store.cmd = none ∧ bitOf (t.get ⟨STORE_EVT, 1, 0⟩) 0 = true ∧
      (s.store.eraseAt = none → t.store.bankwr = false) ∧ s.onlyChanges t [.store, .regs 3, .regs 25]) ∧
    (s.store.eraseAt.isSome = true → ∃ t, exec (.backgroundEraseComplete) s = .next t ∧ t.store.eraseAt = none ∧
      t.store.bankwr = (s.store.bankwr && !s.store.dropWr) ∧ t.store.recs = s.store.recs ∧ s.onlyChanges t [.mem, .store]) ∧
    (s.store.ready = false → ∃ t, exec (.storeScanComplete) s = .next t ∧ t.store.ready = true ∧ t.store.tx = none ∧
      s.onlyChanges t [.srv, .store]) ∧
    (∀ (k : Nat) (l : List Nat), s.store.used = k :: l → s.store.ready = true → s.parked = false → s.store.erased.length < 24 → ∃ t,
      exec (.reclaimStep) s = .next t ∧ sparseGet 0 k t.store.wear = sparseGet 0 k s.store.wear + 1 ∧ (∀ r ∈ t.store.recs,
      inRange r.addr (storeBase + 4096 * k) 4096 = false) ∧ s.onlyChanges t [.mem, .srv, .store]) ∧
    (∀ (k : Nat) (l : List Nat), s.store.used = k :: l → s.store.ready = true → s.parked = false → s.store.erased.length < 24 → k ∉ l →
      s.store.recs = [] → s.store.off ≤ 4096 → ∃ t, exec (.reclaimStep) s = .next t ∧ k ∉ t.store.used ∧
      sparseGet 0 k t.store.wear = sparseGet 0 k s.store.wear + 1 ∧ s.onlyChanges t [.mem, .srv, .store])

/-- A wired read gives the block in TAG_DATA, a wired write of a writable block stores TAG_DATA, RESULT 0; a write elsewhere is RESULT 3.
In a session, or while one is held, an access is RESULT 1 and counted busy; in INVENTORY it is held, RESULT 2, and carried out later.
CLRCNT clears TAG_CNT, CLRRFW the RF write flag. Some clauses rest on readings of the model: log entry 21. (R542, R544, R545, R547). -/
def Obligations.TagWired : Prop :=
  ∀ (s : State), s.up = true →
    (∀ (block : BitVec 12), s.tag.wired = none → s.tag.sess < 2 → ∃ t, exec (.tagRead block) s = .next t ∧
      t.reg TAG_DATA = s.tagBlock block.toNat ∧ t.get TAG_STAT_RESULT = 0 ∧ t.tag = s.tag ∧ s.onlyChanges t [.regs 23] ∧
      s.keepsRegs t 23 [TAG_DATA, TAG_STAT]) ∧
    (∀ (block : BitVec 12), s.tag.wired = none → s.tag.sess < 2 → 1024 ≤ block.toNat → block.toNat ≤ 3890 →
      (sparseWf (fun _ => 0) 0 s.tag.blocks = true) → ∃ t, exec (.tagWrite block) s = .next t ∧ t.tagBlock block.toNat = s.reg TAG_DATA ∧
      t.get TAG_STAT_RESULT = 0 ∧ (∀ k : Nat, k ≠ block.toNat → t.tagBlock k = s.tagBlock k) ∧ s.onlyChanges t [.tag, .regs 23] ∧
      s.keepsRegs t 23 [TAG_STAT]) ∧
    (∀ (block : BitVec 12), (block.toNat < 1024 ∨ 3890 < block.toNat) → ∃ t, exec (.tagWrite block) s = .next t ∧
      t.get TAG_STAT_RESULT = 3 ∧ t.tag = s.tag ∧ s.onlyChanges t [.regs 23] ∧ s.keepsRegs t 23 [TAG_STAT]) ∧
    (∀ (block : BitVec 12), s.tag.sess = 3 → ∃ t, exec (.tagRead block) s = .next t ∧ t.get TAG_STAT_RESULT = 1 ∧
      t.get TAG_CNT_BUSYCNT = satInc (2 ^ TAG_CNT_BUSYCNT.width - 1) (s.get TAG_CNT_BUSYCNT) ∧ bitOf (t.get ⟨TAG_EVT, 1, 0⟩) 1 = true ∧
      t.tag = s.tag ∧ s.onlyChanges t [.regs 3, .regs 23]) ∧
    (∀ (block : BitVec 12), s.tag.sess = 2 → s.tag.wired = none → ∃ t, exec (.tagRead block) s = .next t ∧ t.get TAG_STAT_RESULT = 2 ∧
      t.tag.wired = some (block.toNat, none) ∧ s.onlyChanges t [.tag, .regs 23] ∧ s.keepsRegs t 23 [TAG_STAT]) ∧
    (∀ (k : Nat), s.tag.wired = some (k, none) → ∃ t, exec (.tagPendingComplete) s = .next t ∧ t.tag.wired = none ∧
      t.reg TAG_DATA = s.tagBlock k ∧ t.get TAG_STAT_RESULT = 0 ∧ s.onlyChanges t [.tag, .regs 23] ∧ s.keepsRegs t 23 [TAG_STAT,
      TAG_DATA]) ∧
    (∀ (k : Nat) (v : Word), s.tag.wired = some (k, some v) → (sparseWf (fun _ => 0) 0 s.tag.blocks = true) → ∃ t,
      exec (.tagPendingComplete) s = .next t ∧ t.tag.wired = none ∧ t.tagBlock k = v ∧ t.get TAG_STAT_RESULT = 0 ∧ s.onlyChanges t [.tag,
      .regs 23] ∧ s.keepsRegs t 23 [TAG_STAT]) ∧
    (∃ t, exec (.tagClearCount) s = .next t ∧ t.reg TAG_CNT = 0 ∧ s.onlyChanges t [.regs 23] ∧ s.keepsRegs t 23 [TAG_CNT]) ∧
    (∃ t, exec (.tagClearRfw) s = .next t ∧ t.tag.rfw = false ∧ t.tag.blocks = s.tag.blocks ∧ s.onlyChanges t [.tag])

/-- The field and the timeouts give RFSTATE. Inventory is answered with the UID when the mask fits, Stay quiet silences the tag, Select
selects it, Reset to ready frees it. Read blocks answers the blocks or error 0x10; a write or lock of a permitted block changes it and
sets RFW, of a locked one is error 0x12, of a live block of a powered unit without the SERVICE gate error 0xA1, counted; system
information and block security are answered; another command is error 0x01. Some clauses rest on readings of the model: log entry 22.
(R542, R543, R544, R546). -/
def Obligations.TagRadio : Prop :=
  ∀ (s : State) (mode : Fin 3),
    (∀ (on : Bool), ∃ t, exec (.rfFieldChange on) s = .next t ∧ t.tag.field = on ∧
      (t.tag.sess = (if on then (if s.tag.field then s.tag.sess else 1) else 0)) ∧ (on = false → t.tag.rf = .ready) ∧
      t.tag.blocks = s.tag.blocks ∧ s.onlyChanges t [.tag, .regs 3, .regs 23]) ∧
    (∀ (inv : Bool), s.tag.field = true → ∃ t, exec (.rfStateTimeout inv) s = .next t ∧
      (t.tag.sess = (if inv then min s.tag.sess 2 else 1)) ∧ t.tag.rf = s.tag.rf ∧ s.onlyChanges t [.tag, .regs 3, .regs 23]) ∧
    (∀ (maskLen : Fin 65) (mask : BitVec 64), s.tag.field = true → s.tag.rf ≠ .quiet →
      leNat s.tagUid % 2 ^ maskLen.1 = mask.toNat % 2 ^ maskLen.1 → ∃ t, exec (.rfInventory maskLen mask) s = .next t ∧
      t.tag.sess = max s.tag.sess 2 ∧ t.wire = ⟨.rf, [], leBytes 1 0 ++ leBytes 1 0 ++ s.tagUid⟩ :: s.wire ∧
      t.tag.blocks = s.tag.blocks ∧ s.onlyChanges t [.wire, .tag, .regs 3, .regs 23]) ∧
    (s.tag.field = true → ∃ t, exec (.rfStayQuiet) s = .next t ∧ t.tag.rf = .quiet ∧ t.wire = s.wire ∧ t.tag.sess = max s.tag.sess 2 ∧
      s.onlyChanges t [.tag, .regs 3, .regs 23]) ∧
    (∀ (mine : Bool), s.tag.field = true → mine = true → ∃ t, exec (.rfSelect mine) s = .next t ∧ t.tag.rf = .selected ∧ t.tag.sess = 3 ∧
      t.wire = ⟨.rf, [], leBytes 1 0⟩ :: s.wire ∧ s.onlyChanges t [.wire, .tag, .regs 3, .regs 23]) ∧
    (∀ (mine : Bool), s.tag.field = true → mine = false → ∃ t, exec (.rfSelect mine) s = .next t ∧
      (t.tag.rf = (if s.tag.rf = .selected then .ready else s.tag.rf)) ∧ t.tag.sess = s.tag.sess ∧ s.onlyChanges t [.tag]) ∧
    (s.tag.hears mode = true → ∃ t, exec (.rfResetToReady mode) s = .next t ∧ t.tag.rf = .ready ∧ t.tag.sess = 3 ∧ t.wire = ⟨.rf, [],
      leBytes 1 0⟩ :: s.wire ∧ s.onlyChanges t [.wire, .tag, .regs 3, .regs 23]) ∧
    (∀ (ext : Bool) (first n : Nat), s.tag.hears mode = true → 1 ≤ n → n ≤ 64 → first + n ≤ rfTop ext + 1 → ∃ t,
      exec (.rfReadBlock mode ext first n) s = .next t ∧ t.tag.sess = 3 ∧ t.wire = ⟨.rf, [],
      leBytes 1 0 ++ s.tagBytes first n⟩ :: s.wire ∧ t.tag.blocks = s.tag.blocks ∧ s.onlyChanges t [.wire, .tag, .regs 3, .regs 23]) ∧
    (∀ (ext : Bool) (first n : Nat), s.tag.hears mode = true → (n = 0 ∨ 64 < n ∨ rfTop ext + 1 < first + n) → ∃ t,
      exec (.rfReadBlock mode ext first n) s = .next t ∧ t.tag.sess = 3 ∧ t.wire = ⟨.rf, [], leBytes 1 1 ++ leBytes 1 0x10⟩ :: s.wire ∧
      s.onlyChanges t [.wire, .tag, .regs 3, .regs 23]) ∧
    (∀ (ext : Bool) (block : BitVec 12) (data : Word), s.tag.hears mode = true → block.toNat ≤ rfTop ext →
      s.rfLocked block.toNat = false → s.rfLiveBar block.toNat = false → ∃ t, exec (.rfWriteBlock mode ext block data) s = .next t ∧
      t.tag.rfw = true ∧ t.tag.sess = 3 ∧ t.wire = ⟨.rf, [], leBytes 1 0⟩ :: s.wire ∧
      t.tag.blocks = sparseSet 0 block.toNat data s.tag.blocks ∧ t.srv = s.srv ∧ s.onlyChanges t [.wire, .srv, .tag, .regs 3, .regs 23]) ∧
    (∀ (ext : Bool) (block : BitVec 12) (data : Word), s.tag.hears mode = true → block.toNat ≤ rfTop ext →
      s.rfLocked block.toNat = false → s.rfLiveBar block.toNat = true → ∃ t, exec (.rfWriteBlock mode ext block data) s = .next t ∧
      t.wire = ⟨.rf, [], leBytes 1 1 ++ leBytes 1 0xA1⟩ :: s.wire ∧ t.tag.blocks = s.tag.blocks ∧ t.tag.rfw = s.tag.rfw ∧
      t.get TAG_CNT_RFREF = satInc (2 ^ TAG_CNT_RFREF.width - 1) (s.get TAG_CNT_RFREF) ∧ (s.up = true →
      s.queued t 0xFF65 [block.toNat % 256, block.toNat / 256]) ∧ s.onlyChanges t [.wire, .srv, .tag, .regs 3, .regs 23]) ∧
    (∀ (ext : Bool) (block : BitVec 12) (data : Word), s.tag.hears mode = true → block.toNat ≤ rfTop ext →
      s.rfLocked block.toNat = true → ∃ t, exec (.rfWriteBlock mode ext block data) s = .next t ∧ t.wire = ⟨.rf, [],
      leBytes 1 1 ++ leBytes 1 0x12⟩ :: s.wire ∧ t.tag.blocks = s.tag.blocks ∧ t.tag.rfw = s.tag.rfw ∧ s.onlyChanges t [.wire, .tag,
      .regs 3, .regs 23]) ∧
    (∀ (ext : Bool) (block : BitVec 12), s.tag.hears mode = true → block.toNat ≤ rfTop ext → s.rfLocked block.toNat = false →
      s.rfLiveBar block.toNat = false → ∃ t, exec (.rfLockBlock mode ext block) s = .next t ∧ t.tag.locks = block.toNat :: s.tag.locks ∧
      t.tag.rfw = true ∧ t.wire = ⟨.rf, [], leBytes 1 0⟩ :: s.wire ∧ t.tag.blocks = s.tag.blocks ∧ s.onlyChanges t [.wire, .srv, .tag,
      .regs 3, .regs 23]) ∧
    (∀ (ext : Bool), s.tag.hears mode = true → ∃ t, exec (.rfGetSystemInfo mode ext) s = .next t ∧ t.tag.sess = 3 ∧ (t.wire = ⟨.rf, [],
      (if ext then leBytes 2 0x0700 ++ s.tagUid ++ leBytes 2 0 ++ leBytes 2 4095 ++ leBytes 1 3 else leBytes 2 0x0300 ++ s.tagUid ++ leBytes 2 0)⟩ :: s.wire) ∧
      s.onlyChanges t [.wire, .tag, .regs 3, .regs 23]) ∧
    (∀ (ext : Bool) (first n : Nat), s.tag.hears mode = true → 1 ≤ n → first + n ≤ rfTop ext + 1 → ∃ t,
      exec (.rfGetBlockSecurity mode ext first n) s = .next t ∧ t.tag.sess = 3 ∧ (t.wire = ⟨.rf, [],
      leBytes 1 0 ++ ((List.range n).map fun i => BitVec.ofNat 8 (b2n (decide (first + i < 256) || s.tag.locks.contains (first + i))))⟩ :: s.wire) ∧
      s.onlyChanges t [.wire, .tag, .regs 3, .regs 23]) ∧
    (s.tag.hears mode = true → ∃ t, exec (.rfUnsupportedCommand mode) s = .next t ∧ t.tag.sess = 3 ∧ t.wire = ⟨.rf, [],
      leBytes 1 1 ++ leBytes 1 0x01⟩ :: s.wire ∧ t.tag.blocks = s.tag.blocks ∧ s.onlyChanges t [.wire, .tag, .regs 3, .regs 23])

/-- A wrong write of WDT_KICK, an expired watchdog and an accepted RESET_UNIT begin the pre-reset phase with their source; the right kick
restarts the watchdog, a RESET_UNIT without RSTEN or key is answered NAK 0x02. The end of the phase sends its answers and enters reset,
as RST_N does from any running phase: registers not kept read their reset values. Reset is left for the wait on the PLL; lost lock stops
the clocks. Some clauses rest on readings of the model: log entry 61. (R23, R91, R92, R93, R94, R95, R97, R122, R417, R468). -/
def Obligations.ResetRequests : Prop :=
  ∀ (s : State),
    (∀ (v : Word), s.up = true → s.sys.wdtOn = true → v = 0x00005AC3 → ∃ t, exec (.watchdogKick v) s = .next t ∧ t.sys.wdtFrom = s.clk ∧
      t.sys.phase = s.sys.phase ∧ s.onlyChanges t [.sys]) ∧
    (∀ (v : Word), s.up = true → s.sys.wdtOn = true → v ≠ 0x00005AC3 → ∃ t, exec (.watchdogKick v) s = .next t ∧
      s.inPreReset t .watchdog ∧ s.onlyChanges t [.wire, .sys, .bg, .axes, .ports, .srv, .cp, .eng, .lio, .ring, .pr, .regs 0, .regs 1,
      .regs 3, .regs 4, .regs 17, .regs 20, .regs 21, .regs 24, .regs 26]) ∧
    (s.up = true → s.sys.wdtOn = true → ∃ t, exec (.watchdogExpiry) s = .next t ∧ s.inPreReset t .watchdog ∧ s.onlyChanges t [.wire,
      .sys, .bg, .axes, .ports, .srv, .cp, .eng, .lio, .ring, .pr, .regs 0, .regs 1, .regs 3, .regs 4, .regs 17, .regs 20, .regs 21,
      .regs 24, .regs 26]) ∧
    (∀ (onB fcs : Bool) (f : List (BitVec 8)), sysLenOk f = true → sysCmd f = 2 → s.hears fcs f 0x20 → sysOdst f = s.sysAddr →
      s.get RING_CFG_RSTEN = 1 → sysDlen f = 4 → leNat (sysData f) = 0x7A5E0000 → ∃ t, exec (.sysResetUnit onB fcs f) s = .next t ∧
      s.inPreReset t .ring ∧ s.onlyChanges t [.wire, .sys, .bg, .axes, .ports, .srv, .cp, .eng, .lio, .ring, .pr, .regs 0, .regs 1,
      .regs 3, .regs 4, .regs 17, .regs 20, .regs 21, .regs 24, .regs 26]) ∧
    (∀ (onB fcs : Bool) (f : List (BitVec 8)), sysLenOk f = true → sysCmd f = 2 → s.hears fcs f 0x20 → sysOdst f = s.sysAddr →
      (s.get RING_CFG_RSTEN = 0 ∨ sysDlen f ≠ 4 ∨ leNat (sysData f) ≠ 0x7A5E0000) → ∃ t, exec (.sysResetUnit onB fcs f) s = .next t ∧
      s.sent t 0x21 (s.sysDst (sysOsrc f)) (sysPay s.sysAddr (sysOsrc f) 8 2 (sysTid f) []) ∧ t.sys = s.sys ∧ s.onlyChanges t [.wire,
      .srv, .ring, .regs 3, .regs 20]) ∧
    (∀ (n : Nat), s.sys.phase = .pre → ∃ t, exec (.preResetPhaseEnd n) s = .next t ∧ s.inReset t (s.sys.preSrc.getD .software) ∧
      t.wire = (((s.sys.preAnswers.filter fun e => !e.2.isEmpty).take n).flatMap (·.2)).reverse ++ s.wire ∧ t.regsReset ([BEAR_STAT, BG_SCS_STAT, RST_HIST, RST_CNT, RST_CAUSE,
      ABND_CNT, FW_LOST] ++ levelRegs) ∧ s.regsKept t [RST_HIST, RST_CNT, RST_CAUSE, ABND_CNT, FW_LOST] ∧ t.bg = s.bg ∧ t.mem = s.mem ∧
      s.onlyChanges t (Part.withRegs [.clk, .wire, .hold, .pend64, .sys, .axes, .ports, .waiting, .srv, .cp, .eng, .gain, .route,
      .tension, .lio, .fb, .modCap, .ring, .pr, .bear, .store, .tag])) ∧
    (s.sys.phase = .run → ∃ t, exec (.rstNAssert) s = .next t ∧ s.inReset t .pin ∧ t.sys.rstLow = true ∧ t.regsReset ([BEAR_STAT,
      BG_SCS_STAT, RST_HIST, RST_CNT, RST_CAUSE, ABND_CNT, FW_LOST] ++ levelRegs) ∧ bitOf (t.get ⟨RST_CAUSE, 8, 0⟩) 3 = true ∧
      (s.bg.powered = true → t.cutLevels) ∧ t.mem = s.mem ∧ s.onlyChanges t (Part.withRegs [.clk, .hold, .pend64, .sys, .bg, .axes,
      .ports, .waiting, .srv, .cp, .eng, .gain, .route, .tension, .lio, .fb, .modCap, .ring, .pr, .bear, .store, .tag])) ∧
    (s.sys.phase = .lost → ∃ t, exec (.rstNAssert) s = .next t ∧ s.inReset t .pin ∧ t.get RST_CAUSE_PLLLOSS = 1 ∧ t.sys.pllLost = false ∧
      s.onlyChanges t (Part.withRegs [.clk, .hold, .pend64, .sys, .bg, .axes, .ports, .waiting, .srv, .cp, .eng, .gain, .route, .tension,
      .lio, .fb, .modCap, .ring, .pr, .bear, .store, .tag])) ∧
    ((s.sys.phase = .held ∨ s.sys.phase = .wait) → ∃ t, exec (.rstNAssert) s = .next t ∧ s.inReset t .pin ∧ t.sys.rstLow = true ∧
      s.onlyChanges t (Part.withRegs [.clk, .hold, .pend64, .sys, .bg, .axes, .ports, .waiting, .srv, .cp, .eng, .gain, .route, .tension,
      .lio, .fb, .modCap, .ring, .pr, .bear, .store, .tag])) ∧
    (s.sys.phase = .off → ∃ t, exec (.rstNAssert) s = .next t ∧ t = s) ∧
    (s.sys.phase = .held → (s.bear.beenSeated = false ∨ s.bear.seated = true) → ∃ t, exec (.halduxResetExit) s = .next t ∧
      t.sys.phase = .wait ∧ t.sys.rstLow = false ∧ s.onlyChanges t [.sys]) ∧
    (s.clocked = true → ∃ t, exec (.pllLockLoss) s = .next t ∧ t.sys.phase = .lost ∧ t.sys.pllLost = true ∧ s.onlyChanges t [.sys])

/-- Feeds that rise on a unit seated or on the bench start it: the whole unit is reset, the source recorded, the supervisor powered with
its snapshot. PLL lock runs CLKS; the option bytes, the ROLE code and the node ID follow, and core 0 waits for the self-test after the
power-on family. A self-test that passes releases core 0 into the boot ROM or the image-load service; one that fails latches lock-out; a
late supervisor is recorded and core 0 is released. Some clauses rest on readings of the model: log entries 1, 6 and 23. (R57, R60, R91,
R92, R107, R111, R113, R114, R115, R117, R118, R452). -/
def Obligations.StartUp : Prop :=
  ∀ (s : State),
    (∀ (sw : BitVec 8) (lv : BitVec 32), s.sys.phase = .off → (s.bear.seated = true ∨ s.bear.bench = true) → bitsOf sw.toNat 1 0 ≠ 3 →
      ∃ t, exec (.powerOnReset sw lv) s = .next t ∧
      (t.started (if s.bear.bor then .brownOut else if s.bear.seated && s.bear.railUp.openAtRail then .hotPlug else .powerOn) sw) ∧
      t.bear.feedA = true ∧ t.bear.feedB = true ∧ t.regsReset ([RST_CAUSE, BG_SCS_STAT] ++ levelRegs) ∧
      s.onlyChanges t (Part.withRegs [.clk, .hold, .pend64, .memErr, .sys, .bg, .axes, .ports, .waiting, .srv, .cp, .eng, .gain, .route,
      .tension, .lio, .fb, .modCap, .ring, .pr, .bear, .store, .tag])) ∧
    (∀ (vc : Vector (BitVec 6) 8), s.sys.phase = .wait → s.sys.cold = true → s.bg.selftest = .running →
      ((vc.all fun x => roleCode x == roleCode vc[0]) = false) → ∃ t, exec (.pllLock vc) s = .next t ∧ t.sys.phase = .run ∧
      t.sys.boot = .waitTest ∧ t.sys.haltN = s.bg.haltN ∧ t.get ROLE_STAT_CODE = 15 ∧ t.get RST_CAUSE_ROLE_INVALID = 1 ∧
      s.onlyChanges t [.mem, .sys, .srv, .ring, .pr, .bear, .store, .tag, .regs 0, .regs 22]) ∧
    (∀ (vc : Vector (BitVec 6) 8), s.sys.phase = .wait → s.sys.cold = true → s.bg.selftest = .running →
      ((vc.all fun x => roleCode x == roleCode vc[0]) = true) → 1 ≤ roleCode vc[0] → roleCode vc[0] ≤ 14 → ∃ t,
      exec (.pllLock vc) s = .next t ∧ t.sys.phase = .run ∧ t.sys.boot = .waitTest ∧ t.get ROLE_STAT_CODE = roleCode vc[0] ∧
      t.get RST_CAUSE_ROLE_INVALID = 0 ∧ (optValid s.sys.opt0 = false → optValid s.sys.opt1 = false → t.get RST_CAUSE_OPT_BAD = 1 ∧
      t.get NODE_VALID = s.get NODE_VALID) ∧ s.onlyChanges t [.mem, .sys, .srv, .ring, .pr, .bear, .store, .tag, .regs 0, .regs 22]) ∧
    (∀ (failed : Option (Fin 8)), s.bg.powered = true → s.bg.selftest = .running → failed = none → ∃ t,
      exec (.selftestComplete failed) s = .next t ∧ t.bg.selftest = .passed ∧ t.bg.testPassSince = true ∧ (s.sys.boot = .waitTest →
      s.up = true → t.sys.wdtOn = true ∧ (t.sys.boot = .rom ∨ t.sys.boot = .service)) ∧ (s.bg.lorA = false → s.bg.lorB = true →
      t.bg.lorVoid = s.bg.lorVoid) ∧ s.onlyChanges t [.mem, .sys, .bg, .axes, .ports, .srv, .cp, .eng, .lio, .pr, .store, .tag, .regs 0,
      .regs 1, .regs 3, .regs 17, .regs 24, .regs 26]) ∧
    (∀ (failed : Option (Fin 8)) (k : Fin 8), s.bg.powered = true → s.bg.selftest = .running → failed = some k → ∃ t,
      exec (.selftestComplete failed) s = .next t ∧ s.lockedOut t 5 k.1 ∧ t.bg.selftest = .failed ∧ s.onlyChanges t [.mem, .sys, .bg,
      .axes, .ports, .srv, .cp, .eng, .lio, .pr, .store, .tag, .regs 0, .regs 1, .regs 3, .regs 17, .regs 24, .regs 26]) ∧
    (s.up = true → s.sys.boot = .waitTest → ∃ t, exec (.badgerLateTimeout) s = .next t ∧ t.get RST_CAUSE_BADGER_LATE = 1 ∧
      t.sys.wdtOn = true ∧ (t.sys.boot = .rom ∨ t.sys.boot = .service) ∧ t.bg = s.bg ∧ s.onlyChanges t [.mem, .sys, .srv, .pr, .store,
      .tag, .regs 0])

/-- A tenant reset with its key after BOOT_DONE takes each selected tenant that is not absent to the start of its image: its queued bus
entries, open transactions and copies of it are dropped, its bank starts afresh and a stopped tenant is no longer stopped. A port reset
with its key clears an OFF port at once and halts a streaming one; a port of an axis out of SAFE is refused with PORTREF. Another key
does nothing. Some clauses rest on readings of the model: log entry 13. (R99, R100). -/
def Obligations.PartResets : Prop :=
  ∀ (s : State), s.up = true →
    (∀ (v : Word) (got : List (List Bool)) (i : Fin 8), s.bootDone = true → v = BitVec.ofNat 32 (0xC3A50000 + 2 ^ i.1) → i ≠ 0 →
      s.tenantState i ≠ 0 → ∃ t, exec (.tenantReset v got) s = .next t ∧ bitOf (t.get TWU_KILL_STOPPED) i = false ∧
      t.waiting.getLsbD i = false ∧ t.store.tx.map (·.2) ≠ some i.1 ∧ (∀ j : Fin 8, j ≠ i →
      bitOf (t.get TWU_KILL_STOPPED) j = bitOf (s.get TWU_KILL_STOPPED) j) ∧ s.onlyChanges t (Part.withRegs [.wire, .axes, .ports,
      .waiting, .srv, .cp, .eng, .gain, .route, .tension, .lio, .ring, .pr, .store])) ∧
    (∀ (v : Word) (got : List (List Bool)), (s.bootDone = false ∨ fieldOf v 31 16 ≠ 0xC3A5 ∨ bitOf v.toNat 0 = true) → ∃ t,
      exec (.tenantReset v got) s = .next t ∧ t = s) ∧
    (∀ (v : Word) (p : Fin 6), v = BitVec.ofNat 32 (0xC3A50000 + 2 ^ p.1) → p.1 < s.nPorts → s.allSafe (s.axmap p) = true →
      s.ports[p].st = .off → ∃ t, exec (.portReset v) s = .next t ∧ t.ports[p] = {} ∧ (∀ b ∈ [SP_CLK p, SP_BUSY p, SP_EVT p, SP_CNT p,
      SP_CNT2 p, SP_UNDER p, SP_ERR p], t.reg b = resetWord b) ∧ s.keepsOtherPorts t p ∧ s.onlyChanges t [.ports, .regs 0, .regs 3,
      .regs 4, .regs 16]) ∧
    (∀ (v : Word) (p : Fin 6), v = BitVec.ofNat 32 (0xC3A50000 + 2 ^ p.1) → p.1 < s.nPorts → s.allSafe (s.axmap p) = true →
      s.ports[p].st = .stream → ∃ t, exec (.portReset v) s = .next t ∧ t.ports[p].resetting = true ∧ t.ports[p].haltDue.isSome = true ∧
      s.keepsOtherPorts t p ∧ s.onlyChanges t [.ports, .regs 0, .regs 3, .regs 4]) ∧
    (∀ (v : Word) (p : Fin 6), v = BitVec.ofNat 32 (0xC3A50000 + 2 ^ p.1) → p.1 < s.nPorts → s.allSafe (s.axmap p) = false → ∃ t,
      exec (.portReset v) s = .next t ∧ bitOf (t.get RSTCTL_STAT_PORTREF) p = true ∧ t.ports = s.ports ∧ s.onlyChanges t [.regs 0,
      .regs 3]) ∧
    (∀ (v : Word), fieldOf v 31 16 ≠ 0xC3A5 → ∃ t, exec (.portReset v) s = .next t ∧ t = s)

/-- Both pins in contact seat the unit and begin the lamp test, open ones show the bench, and either starts a unit whose feed is valid. A
pin of a seated unit that opens enters reset with PRESLOST. A feed that changes while the other is valid is reported with EMCY 0xFF90 and
counted; the last feed that falls resets nothing, and two feeds gone for 5 ms hold the whole unit in reset. Some clauses rest on readings
of the model: log entries 1 and 57. (R451, R452, R453, R454, R455, R456, R457, R468). -/
def Obligations.SeatingAndFeeds : Prop :=
  ∀ (s : State),
    (∀ (sw : BitVec 8) (lv : BitVec 32), s.bear.seated = false → ∃ t, exec (.seatingComplete sw lv) s = .next t ∧ t.bear.seated = true ∧
      t.bear.pres1 = true ∧ t.bear.pres3 = true ∧ t.bear.bench = false ∧ t.bear.ltest = some s.time ∧ (s.sys.phase = .off →
      (s.bear.feedA = true ∨ s.bear.feedB = true) → bitsOf sw.toNat 1 0 ≠ 3 → s.bear.bor = false → s.bear.openAtRail = true →
      t.started .hotPlug sw) ∧ (s.sys.phase ≠ .off → t.sys = s.sys) ∧ s.onlyChanges t (Part.withRegs [.clk, .hold, .pend64, .memErr,
      .sys, .bg, .axes, .ports, .waiting, .srv, .cp, .eng, .gain, .route, .tension, .lio, .fb, .modCap, .ring, .pr, .bear, .store,
      .tag])) ∧
    (∀ (sw : BitVec 8) (lv : BitVec 32), s.bear.seated = false → s.bear.pres1 = false → s.bear.pres3 = false → ∃ t,
      exec (.benchDetect sw lv) s = .next t ∧ t.bear.bench = true ∧ t.bear.seated = false ∧ (s.sys.phase = .off →
      (s.bear.feedA = true ∨ s.bear.feedB = true) → bitsOf sw.toNat 1 0 ≠ 3 → s.bear.bor = false → t.started .powerOn sw) ∧
      s.onlyChanges t (Part.withRegs [.clk, .hold, .pend64, .memErr, .sys, .bg, .axes, .ports, .waiting, .srv, .cp, .eng, .gain, .route,
      .tension, .lio, .fb, .modCap, .ring, .pr, .bear, .store, .tag])) ∧
    (∀ (pin3 contact : Bool), ∃ t, exec (.presencePinContact pin3 contact) s = .next t ∧
      ((if pin3 then t.bear.pres3 else t.bear.pres1) = contact) ∧
      ((if pin3 then t.bear.pres1 else t.bear.pres3) = (if pin3 then s.bear.pres1 else s.bear.pres3)) ∧ t.bear.seated = s.bear.seated ∧
      s.onlyChanges t [.bear]) ∧
    (∀ (p1 p3 : Bool), s.bear.seated = true → (p1 = false ∨ p3 = false) → ∃ t, exec (.presenceLost p1 p3) s = .next t ∧
      t.bear.seated = false ∧ t.bear.reseated = true ∧ t.bear.pres1 = p1 ∧ t.bear.pres3 = p3 ∧ (s.sys.phase = .run → s.inReset t .pin ∧
      t.get BEAR_STAT_PRESLOST = 1) ∧ (s.sys.phase = .off → t.sys = s.sys) ∧ s.onlyChanges t (Part.withRegs [.clk, .hold, .pend64, .sys,
      .bg, .axes, .ports, .waiting, .srv, .cp, .eng, .gain, .route, .tension, .lio, .fb, .modCap, .ring, .pr, .bear, .store, .tag])) ∧
    (∀ (onB valid collapsed : Bool) (sw : BitVec 8) (lv : BitVec 32), ((if onB then s.bear.feedB else s.bear.feedA) = !valid) →
      ((if onB then s.bear.feedA else s.bear.feedB) = true) → s.clocked = true → ∃ t,
      exec (.feedChange onB valid collapsed sw lv) s = .next t ∧ ((if onB then t.bear.feedB else t.bear.feedA) = valid) ∧
      (t.get (if onB then BEAR_FEED_BCHG else BEAR_FEED_ACHG) = 1) ∧ (s.queued t 0xFF90 [b2n onB, if valid then 2 else 1]) ∧
      (valid = false →
      t.get (if onB then BEAR_FEEDCNT_BDROP else BEAR_FEEDCNT_ADROP) = satInc (2 ^ BEAR_FEEDCNT_BDROP.width - 1) (s.get (if onB then BEAR_FEEDCNT_BDROP else BEAR_FEEDCNT_ADROP))) ∧
      s.onlyChanges t [.srv, .bear, .regs 0, .regs 3]) ∧
    (∀ (onB valid collapsed : Bool) (sw : BitVec 8) (lv : BitVec 32), ((if onB then s.bear.feedB else s.bear.feedA) = !valid) →
      ((if onB then s.bear.feedA else s.bear.feedB) = false) → valid = false → ∃ t,
      exec (.feedChange onB valid collapsed sw lv) s = .next t ∧ ((if onB then t.bear.feedB else t.bear.feedA) = valid) ∧
      t.bear.rail = s.bear.rail ∧ s.onlyChanges t [.bear]) ∧
    (∀ (onB valid collapsed : Bool) (sw : BitVec 8) (lv : BitVec 32), ((if onB then s.bear.feedB else s.bear.feedA) = !valid) →
      ((if onB then s.bear.feedA else s.bear.feedB) = false) → valid = true → s.sys.phase ≠ .off → s.marked (.feedFell (!onB)) = false → ∃ t,
      exec (.feedChange onB valid collapsed sw lv) s = .next t ∧ ((if onB then t.bear.feedB else t.bear.feedA) = valid) ∧
      t.get BEAR_FEEDCNT_DIPS = satInc (2 ^ BEAR_FEEDCNT_DIPS.width - 1) (s.get BEAR_FEEDCNT_DIPS) ∧ t.sys = s.sys ∧
      s.onlyChanges t [.bear, .regs 0]) ∧
    (∀ (onB valid collapsed : Bool) (sw : BitVec 8) (lv : BitVec 32), ((if onB then s.bear.feedB else s.bear.feedA) = !valid) →
      ((if onB then s.bear.feedA else s.bear.feedB) = false) → valid = true → s.sys.phase = .off → ∃ t,
      exec (.feedChange onB valid collapsed sw lv) s = .next t ∧ ((if onB then t.bear.feedB else t.bear.feedA) = valid) ∧
      t.bear.rail = true ∧ (s.bear.seated = true → bitsOf sw.toNat 1 0 ≠ 3 → collapsed = true → s.bear.pres1 = true →
      s.bear.pres3 = true → t.started .powerOn sw) ∧ s.onlyChanges t (Part.withRegs [.clk, .hold, .pend64, .memErr, .sys, .bg, .axes,
      .ports, .waiting, .srv, .cp, .eng, .gain, .route, .tension, .lio, .fb, .modCap, .ring, .pr, .bear, .store, .tag])) ∧
    (s.bear.feedA = false → s.bear.feedB = false → s.sys.phase ≠ .off → ∃ t, exec (.brownOut) s = .next t ∧ t.sys.phase = .off ∧
      t.bear.bor = true ∧ t.bg.powered = false ∧ t.axes = Vector.replicate 8 {} ∧ t.ports = Vector.replicate 6 {} ∧ t.pr = {} ∧
      t.regsReset ([BG_SCS_STAT] ++ levelRegs) ∧ s.onlyChanges t (Part.withRegs [.clk, .hold, .pend64, .sys, .bg, .axes, .ports,
      .waiting, .srv, .cp, .eng, .gain, .route, .tension, .lio, .fb, .modCap, .ring, .pr, .bear, .store, .tag]))

/-- A park request during a store write is refused with reason 3, with every axis in SAFE it is PARKED, otherwise refused with 1 where
the unit cannot hand over. UNPARK and the second press of the button return to NONE. A parked unit whose ports are OFF and whose writes
have ended is SAFE TO PULL. A handover that does not come is refused with 2. Each change of state is EMCY 0xFF92. The command begins the
lamp test. Some clauses rest on readings of the model: log entry 56. (R463, R464, R465, R466, R467, R471). -/
def Obligations.ParkAndLampTest : Prop :=
  ∀ (s : State), s.up = true →
    (∀ (button : Bool), (button = false ∨ s.get BEAR_STAT_PARK = 0) → s.storeWriting = true → ∃ t,
      exec (.parkRequest button) s = .next t ∧ t.get BEAR_STAT_PARK = 0 ∧ t.get BEAR_STAT_PARKREF = 3 ∧ s.queued t 0xFF92 [0, 3] ∧
      t.ports = s.ports ∧ s.onlyChanges t [.srv, .regs 0, .regs 3]) ∧
    (∀ (button : Bool), (button = false ∨ s.get BEAR_STAT_PARK = 0) → s.storeWriting = false → s.allSafe 255 = true → ∃ t,
      exec (.parkRequest button) s = .next t ∧ t.get BEAR_STAT_PARK = 2 ∧ (s.get BEAR_STAT_PARK ≠ 2 → s.queued t 0xFF92 [2, 0]) ∧
      (∀ p : Fin 6, s.ports[p].live = false → s.ports[p].st ≠ .off → t.ports[p].st = .off ∨ t.ports[p].offAtTwelfth = true) ∧
      s.onlyChanges t [.ports, .srv, .regs 0, .regs 3, .regs 16]) ∧
    (∀ (button : Bool), (button = false ∨ s.get BEAR_STAT_PARK = 0) → s.storeWriting = false → s.allSafe 255 = false →
      s.get CP_STAT_ROLE ≠ 1 → ∃ t, exec (.parkRequest button) s = .next t ∧ t.get BEAR_STAT_PARK = 0 ∧ t.get BEAR_STAT_PARKREF = 1 ∧
      s.queued t 0xFF92 [0, 1] ∧ s.onlyChanges t [.srv, .regs 0, .regs 3]) ∧
    (∀ (button : Bool), button = true → s.get BEAR_STAT_PARK ≠ 0 → ∃ t, exec (.parkRequest button) s = .next t ∧
      t.get BEAR_STAT_PARK = 0 ∧ s.queued t 0xFF92 [0, 0] ∧ s.onlyChanges t [.srv, .regs 0, .regs 3] ∧ s.keepsRegs t 0 [BEAR_STAT]) ∧
    (∃ t, exec (.unpark) s = .next t ∧ t.get BEAR_STAT_PARK = 0 ∧ (s.get BEAR_STAT_PARK ≠ 0 → s.queued t 0xFF92 [0, 0]) ∧
      s.onlyChanges t [.srv, .regs 0, .regs 3] ∧ s.keepsRegs t 0 [BEAR_STAT]) ∧
    (∀ (idle : Bool), s.parked = true → idle = true → s.storeWriting = false → (∀ p : Fin 6, s.ports[p].st = .off) → ∃ t,
      exec (.parkSafeToPull idle) s = .next t ∧ t.get BEAR_STAT_PARK = 3 ∧ s.onlyChanges t [.srv, .regs 0, .regs 3] ∧
      s.keepsRegs t 0 [BEAR_STAT]) ∧
    (∀ (idle : Bool), s.parked = true → (idle = false ∨ s.storeWriting = true) → ∃ t, exec (.parkSafeToPull idle) s = .next t ∧
      t.get BEAR_STAT_PARK = 2 ∧ s.onlyChanges t [.srv, .regs 0, .regs 3] ∧ s.keepsRegs t 0 [BEAR_STAT]) ∧
    (s.get BEAR_STAT_PARK = 1 → s.cp.claim = true → ∃ t, exec (.parkHandoverTimeout) s = .next t ∧ t.get BEAR_STAT_PARK = 0 ∧
      t.get BEAR_STAT_PARKREF = 2 ∧ s.queued t 0xFF92 [0, 2] ∧ t.cp = s.cp ∧ s.onlyChanges t [.srv, .regs 0, .regs 3] ∧
      s.keepsRegs t 0 [BEAR_STAT]) ∧
    (∃ t, exec (.lampTestCommand) s = .next t ∧ t.bear.ltest = some s.time ∧ t.bear.seated = s.bear.seated ∧
      t.bear.feedA = s.bear.feedA ∧ s.onlyChanges t [.bear])

/-- In BRIDGE mode a SYS frame for a ring of RING_BRT goes onto the link with one hop less and the next SEQ, or is answered NAK 0x04
without link or hops and 0x03 beyond the rate. A good DATA frame is ACKed and originated once, a bad one NAKed. The ACK of the
outstanding SEQ ends it; a NAK or no answer sends it once more, and then gives it up with NAK 0x04. The third good frame in a row sets
LINKUP, no good frame clears it with EMCY 0xFF93; KEEP is sent. Some clauses rest on readings of the model: log entries 24 and 58. (R418,
R459, R460, R461, R462). -/
def Obligations.BridgeLink : Prop :=
  ∀ (s : State), s.up = true → s.twinMode = 2 →
    (∀ (onB fcs : Bool) (f : List (BitVec 8)) (ov : Bool), s.hears fcs f 0x20 → s.ringBit (RING_BRT 0) (sysOdst f / 64) = true →
      fget f 30 1 ≠ 0 → s.bear.up = true → ov = false → s.bear.out = none → s.bear.wait = [] → ∃ t,
      exec (.bridgePass onB fcs f ov) s = .next t ∧ t.bear.seq = (s.bear.seq + 1) % 256 ∧ t.bear.out = some (false,
      fput (fpay f) 4 1 (fget f 30 1 - 1), false) ∧ t.wire.head? = some ⟨.bridge, [0],
      bridgeFrame 1 t.bear.seq (some (fput (fpay f) 4 1 (fget f 30 1 - 1)))⟩ ∧ t.ring.fseq = s.ring.fseq ∧ s.onlyChanges t [.wire, .ring,
      .bear]) ∧
    (∀ (onB fcs : Bool) (f : List (BitVec 8)) (ov : Bool), s.hears fcs f 0x20 → s.ringBit (RING_BRT 0) (sysOdst f / 64) = true →
      (fget f 30 1 = 0 ∨ s.bear.up = false) → ∃ t, exec (.bridgePass onB fcs f ov) s = .next t ∧
      s.sent t 0x21 (s.sysDst (fget (fpay f) 0 2 % 4096)) (sysPay s.sysAddr (fget (fpay f) 0 2 % 4096) 8 4 (fget (fpay f) 6 2) []) ∧
      t.bear = s.bear ∧ s.onlyChanges t [.wire, .srv, .ring, .regs 3, .regs 20]) ∧
    (∀ (onB fcs : Bool) (f : List (BitVec 8)) (ov : Bool), s.hears fcs f 0x20 → s.ringBit (RING_BRT 0) (sysOdst f / 64) = true →
      fget f 30 1 ≠ 0 → s.bear.up = true → ov = true → ∃ t, exec (.bridgePass onB fcs f ov) s = .next t ∧
      s.sent t 0x21 (s.sysDst (sysOsrc f)) (sysPay s.sysAddr (sysOsrc f) 8 3 (sysTid f) []) ∧ t.bear = s.bear ∧ s.onlyChanges t [.wire,
      .srv, .ring, .regs 3, .regs 20]) ∧
    (∀ (resp : Bool) (f : List (BitVec 8)), bridgeGood 1 f = true → s.bear.rxSeq ≠ some (fget f 2 1) → ∃ t,
      exec (.bridgeDataRx resp f) s = .next t ∧ ⟨.bridge, [0], bridgeFrame 2 (fget f 2 1) none⟩ ∈ t.wire ∧
      t.bear.rxSeq = some (fget f 2 1) ∧ (s.ring.joined = true →
      s.sent t (if resp then 0x21 else 0x20) (s.sysDst (fget ((f.drop 5).take (fget f 3 2)) 2 2 % 4096)) ((f.drop 5).take (fget f 3 2))) ∧
      s.onlyChanges t [.wire, .srv, .ring, .bear, .regs 3]) ∧
    (∀ (resp : Bool) (f : List (BitVec 8)), bridgeGood 1 f = false → ∃ t, exec (.bridgeDataRx resp f) s = .next t ∧ t.wire = ⟨.bridge,
      [0], bridgeFrame 3 (fget f 2 1) none⟩ :: s.wire ∧ t.bear.good = 0 ∧ t.ring = s.ring ∧ s.onlyChanges t [.wire, .bear]) ∧
    (∀ (f : List (BitVec 8)), bridgeGood 2 f = true → fget f 2 1 = s.bear.seq → s.bear.wait = [] → ∃ t,
      exec (.bridgeAckRx f) s = .next t ∧ t.bear.out = none ∧ s.onlyChanges t [.srv, .bear, .regs 3]) ∧
    (∀ (f : List (BitVec 8)) (x : Bool) (p : List (BitVec 8)), bridgeGood 3 f = true → fget f 2 1 = s.bear.seq → s.bear.out = some (x, p,
      false) → ∃ t, exec (.bridgeNakRx f) s = .next t ∧ t.bear.out = some (x, p, true) ∧ t.wire = ⟨.bridge, [b2n x],
      bridgeFrame 1 s.bear.seq (some p)⟩ :: s.wire ∧ s.onlyChanges t [.wire, .srv, .bear, .regs 0, .regs 3]) ∧
    (∀ (x : Bool) (p : List (BitVec 8)), s.bear.out = some (x, p, false) → ∃ t, exec (.bridgeResendTimeout) s = .next t ∧
      t.bear.out = some (x, p, true) ∧ t.wire = ⟨.bridge, [b2n x], bridgeFrame 1 s.bear.seq (some p)⟩ :: s.wire ∧
      t.get BEAR_TWINCNT_RETRIES = satInc (2 ^ BEAR_TWINCNT_RETRIES.width - 1) (s.get BEAR_TWINCNT_RETRIES) ∧ s.onlyChanges t [.wire,
      .bear, .regs 0]) ∧
    (∀ (x : Bool) (p : List (BitVec 8)), s.bear.out = some (x, p, true) → s.bear.wait = [] → ∃ t,
      exec (.bridgeResendTimeout) s = .next t ∧ t.bear.out = none ∧
      s.sent t 0x21 (s.sysDst (fget p 0 2 % 4096)) (sysPay s.sysAddr (fget p 0 2 % 4096) 8 4 (fget p 6 2) []) ∧ s.onlyChanges t [.wire,
      .ring, .bear, .regs 0, .regs 3, .regs 20]) ∧
    (∀ (f : List (BitVec 8)), bridgeGood 4 f = true → s.bear.good ≤ 3 → ∃ t, exec (.bridgeKeepRx f) s = .next t ∧
      t.bear.up = (s.bear.up || decide (2 ≤ s.bear.good)) ∧ t.bear.good = min 3 (s.bear.good + 1) ∧ (s.bear.up = false →
      s.bear.good = 2 → s.queued t 0xFF93 [2]) ∧ s.onlyChanges t [.srv, .bear, .regs 3]) ∧
    (∃ t, exec (.bridgeKeepTx) s = .next t ∧ t.wire = ⟨.bridge, [0], bridgeFrame 4 0 none⟩ :: s.wire ∧ s.onlyChanges t [.wire]) ∧
    (∃ t, exec (.bridgeLinkTimeout) s = .next t ∧ t.bear.up = false ∧ t.bear.good = 0 ∧ (s.bear.up = true → s.queued t 0xFF93 [1]) ∧
      s.onlyChanges t [.srv, .bear, .regs 3])

/-- A whole record pushed is sent as a frame and counted; a pop gives the oldest word, 0 when empty. An extended or remote frame is
counted and ignored. Error passive and active states follow the error counters, with EMCY 0x8120 on passive; bus-off stops the channel,
counts it and sets its event; recovery with ABOR makes it active again with EMCY 0x8140. Some clauses rest on readings of the model: log
entry 25. (R473, R476, R478, R479, R498, R504). -/
def Obligations.CanChannels : Prop :=
  ∀ (s : State) (ch : Fin 2), s.up = true →
    (∀ (w : Word), ch.1 < s.nCan → s.srv.can[ch].txQ = [] → s.srv.can[ch].skip = 0 → s.canTx ch = true → fieldOf w 6 0 = 0 → ∃ t,
      exec (.canTxPush ch w) s = .next t ∧ t.wire = ⟨.can ch, [fieldOf w 26 16, b2n (s.flag (CAN_CFG_FD ch))], []⟩ :: s.wire ∧
      t.get (CAN_CNT_TXOK ch) = (s.get (CAN_CNT_TXOK ch) + 1) % 2 ^ (CAN_CNT_TXOK ch).width ∧ t.srv.can[ch].txQ = [] ∧
      bitOf (t.get (CAN_EVT_EV ch)) 1 = true ∧ s.onlyChanges t [.wire, .srv, .regs 3, .regs 21]) ∧
    (∀ (w : Word), ch.1 < s.nCan → s.srv.can[ch].txQ = [] → s.srv.can[ch].skip = 0 → 1 ≤ fieldOf w 6 0 → ∃ t,
      exec (.canTxPush ch w) s = .next t ∧ t.srv.can[ch].txQ = [w] ∧ t.wire = s.wire ∧ s.onlyChanges t [.srv]) ∧
    (∀ (w : Word) (l : List Word), s.srv.can[ch].rxQ = w :: l → ∃ t, exec (.canRxPop ch) s = .next t ∧ t.rdata = w.toNat ∧
      t.srv.can[ch].rxQ = l ∧ s.onlyChanges t [.rdata, .srv]) ∧
    (s.srv.can[ch].rxQ = [] → ∃ t, exec (.canRxPop ch) s = .next t ∧ t.rdata = 0 ∧ t.srv = s.srv ∧ s.onlyChanges t [.rdata]) ∧
    (s.canOn ch = true → ∃ t, exec (.canFrameIgnored ch) s = .next t ∧
      t.get (CAN_CNT3_IGN ch) = satInc (2 ^ (CAN_CNT3_IGN ch).width - 1) (s.get (CAN_CNT3_IGN ch)) ∧ s.onlyChanges t [.regs 21] ∧
      s.keepsRegs t 21 [CAN_CNT3 ch]) ∧
    (∀ (tec rc : BitVec 8) (errs : Nat), s.canOn ch = true → s.srv.can[ch].state = 0 → (128 ≤ tec.toNat ∨ 128 ≤ rc.toNat) → ∃ t,
      exec (.canErrorPassive ch tec rc errs) s = .next t ∧ t.srv.can[ch].state = 1 ∧ s.queued t 0x8120 [ch] ∧
      t.get (CAN_STAT_TEC ch) = tec.toNat ∧ t.get (CAN_STAT_REC ch) = rc.toNat ∧
      t.get (CAN_STAT_WARN ch) = b2n (decide (96 ≤ tec.toNat) || decide (96 ≤ rc.toNat)) ∧ s.onlyChanges t [.srv, .regs 3, .regs 21]) ∧
    (∀ (tec rc : BitVec 8) (errs : Nat), s.canOn ch = true → s.srv.can[ch].state = 1 → tec.toNat < 128 → rc.toNat < 128 → ∃ t,
      exec (.canErrorActive ch tec rc errs) s = .next t ∧ t.srv.can[ch].state = 0 ∧ t.get (CAN_STAT_TEC ch) = tec.toNat ∧
      t.get (CAN_STAT_REC ch) = rc.toNat ∧ t.get (CAN_STAT_WARN ch) = b2n (decide (96 ≤ tec.toNat) || decide (96 ≤ rc.toNat)) ∧
      s.onlyChanges t [.srv, .regs 3, .regs 21]) ∧
    (∀ (errs : Nat), s.canOn ch = true → s.srv.can[1 - ch].state ≠ 2 → ∃ t, exec (.canBusOff ch errs) s = .next t ∧
      t.srv.can[ch].state = 2 ∧
      t.get (CAN_STAT_BOFFCNT ch) = satInc (2 ^ (CAN_STAT_BOFFCNT ch).width - 1) (s.get (CAN_STAT_BOFFCNT ch)) ∧
      bitOf (t.get (CAN_EVT_EV ch)) 3 = true ∧ t.axes = s.axes ∧ s.onlyChanges t [.srv, .regs 3, .regs 21]) ∧
    (∀ (errs : Nat), s.canOn ch = true → s.srv.can[1 - ch].state = 2 → ∃ t, exec (.canBusOff ch errs) s = .next t ∧
      t.srv.can[ch].state = 2 ∧ (∀ a : Fin 8, s.fieldbus a = true → s.obj (0x6007 + 0x800 * a.1) 0 = 1 → t.faulted a 0x8100) ∧
      s.onlyChanges t [.axes, .ports, .srv, .eng, .lio, .regs 3, .regs 17, .regs 21, .regs 22, .regs 24]) ∧
    (s.srv.can[ch].state = 2 → s.get (CAN_CFG_ABOR ch) = 1 → s.srv.can[ch].txQ = [] → ∃ t, exec (.canBusOffRecovery ch) s = .next t ∧
      t.srv.can[ch].state = 0 ∧ t.get (CAN_STAT_TEC ch) = 0 ∧ t.get (CAN_STAT_REC ch) = 0 ∧ s.queued t 0x8140 [ch] ∧
      s.onlyChanges t [.srv, .regs 3, .regs 21])

/-- An NMT command that names the node or all nodes is counted and takes the unit to Operational, Stopped or Pre-operational, or begins a
reset; leaving Operational is a communication loss. The heartbeat tells the state while the server is alive. A consumed heartbeat starts
its time; its expiry is EMCY 0x8130 and a communication loss. The oldest EMCY is sent on both channels. Some clauses rest on readings of
the model: log entries 28 and 59. (R101, R478, R480, R481, R482, R483, R484, R498, R499, R500). -/
def Obligations.NmtAndHeartbeats : Prop :=
  ∀ (s : State), s.up = true →
    (∀ (ch : Fin 2) (node : BitVec 8), s.canOn ch = true → (node = 0 ∨ (s.hasId = true ∧ node.toNat = s.nodeId)) → s.nmt ≠ 0 → ∃ t,
      exec (.nmtStart ch node) s = .next t ∧ t.nmt = 2 ∧
      t.get (CAN_CNT_RXOK ch) = (s.get (CAN_CNT_RXOK ch) + 1) % 2 ^ (CAN_CNT_RXOK ch).width ∧ bitOf (t.get (CAN_EVT_EV ch)) 4 = true ∧
      s.onlyChanges t [.regs 3, .regs 21, .regs 22]) ∧
    (∀ (ch : Fin 2) (node : BitVec 8), s.canOn ch = true → node ≠ 0 → node.toNat ≠ s.nodeId → ∃ t, exec (.nmtStart ch node) s = .next t ∧
      t.nmt = s.nmt ∧ t.get (CAN_CNT_RXOK ch) = (s.get (CAN_CNT_RXOK ch) + 1) % 2 ^ (CAN_CNT_RXOK ch).width ∧ s.onlyChanges t [.regs 3,
      .regs 21]) ∧
    (∀ (ch : Fin 2) (node : BitVec 8), s.canOn ch = true → (node = 0 ∨ (s.hasId = true ∧ node.toNat = s.nodeId)) → s.nmt ≠ 0 → ∃ t,
      exec (.nmtStop ch node) s = .next t ∧ t.nmt = 3 ∧
      t.get (CAN_CNT_RXOK ch) = (s.get (CAN_CNT_RXOK ch) + 1) % 2 ^ (CAN_CNT_RXOK ch).width ∧ (s.nmt = 2 → ∀ a : Fin 8,
      s.fieldbus a = true → s.obj (0x6007 + 0x800 * a.1) 0 = 1 → t.faulted a 0x8100) ∧ (s.nmt ≠ 2 → t.axes = s.axes) ∧
      s.onlyChanges t [.axes, .ports, .srv, .eng, .lio, .regs 3, .regs 17, .regs 21, .regs 22, .regs 24]) ∧
    (∀ (ch : Fin 2) (node : BitVec 8), s.canOn ch = true → (node = 0 ∨ (s.hasId = true ∧ node.toNat = s.nodeId)) → s.nmt ≠ 0 → ∃ t,
      exec (.nmtEnterPreOperational ch node) s = .next t ∧ t.nmt = 1 ∧
      t.get (CAN_CNT_RXOK ch) = (s.get (CAN_CNT_RXOK ch) + 1) % 2 ^ (CAN_CNT_RXOK ch).width ∧ (s.nmt = 2 → ∀ a : Fin 8,
      s.fieldbus a = true → s.obj (0x6007 + 0x800 * a.1) 0 = 1 → t.faulted a 0x8100) ∧ (s.nmt ≠ 2 → t.axes = s.axes) ∧
      s.onlyChanges t [.axes, .ports, .srv, .eng, .lio, .regs 3, .regs 17, .regs 21, .regs 22, .regs 24]) ∧
    (∀ (ch : Fin 2) (node : BitVec 8), s.canOn ch = true → (node = 0 ∨ (s.hasId = true ∧ node.toNat = s.nodeId)) → ∃ t,
      exec (.nmtResetNode ch node) s = .next t ∧ s.inPreReset t .nmt ∧ s.onlyChanges t [.wire, .sys, .bg, .axes, .ports, .srv, .cp, .eng,
      .lio, .ring, .pr, .regs 0, .regs 1, .regs 3, .regs 4, .regs 17, .regs 20, .regs 21, .regs 24, .regs 26]) ∧
    (∀ (ch : Fin 2) (node : BitVec 8), s.canOn ch = true → (node = 0 ∨ (s.hasId = true ∧ node.toNat = s.nodeId)) → s.serverUp = false →
      ∃ t, exec (.nmtResetCommunication ch node) s = .next t ∧ t.nmt = 0 ∧ t.srv.can = Vector.replicate 2 {} ∧
      t.srv.xfer = Vector.replicate 2 none ∧ t.get PDO_HB_ALIVE = s.get PDO_HB_ALIVE ∧ t.reg PDO_LOSS = s.reg PDO_LOSS ∧ (∀ c : Fin 2,
      t.reg (CAN_CFG c) = resetWord (CAN_CFG c)) ∧ s.onlyChanges t [.wire, .srv, .regs 0, .regs 3, .regs 21, .regs 22]) ∧
    (∀ (ch : Fin 2) (node : BitVec 8), s.canOn ch = true → (node = 0 ∨ (s.hasId = true ∧ node.toNat = s.nodeId)) → s.serverUp = true →
      ∃ t, exec (.nmtResetCommunication ch node) s = .next t ∧ (s.hasId = true → t.nmt = 1 ∨ t.nmt = 2) ∧
      t.srv.xfer = Vector.replicate 2 none ∧ t.reg PDO_LOSS = s.reg PDO_LOSS ∧ s.onlyChanges t [.freeCtr, .wire, .srv, .regs 0, .regs 3,
      .regs 21, .regs 22]) ∧
    (s.get PDO_HB_PRODMS ≠ 0 → s.nmt ≠ 0 → s.get PDO_HB_ALIVE = 1 → ∃ t, exec (.heartbeatProduce) s = .next t ∧ (∀ c : Fin 2,
      s.canTx c = true → ⟨.can c, [0x700 + s.nodeId, b2n (s.flag (CAN_CFG_FD c))],
      leBytes 1 (match s.nmt with | 1 => 0x7F | 2 => 0x05 | 3 => 0x04 | _ => 0x00)⟩ ∈ t.wire) ∧ s.onlyChanges t [.wire, .regs 3,
      .regs 21]) ∧
    (∀ (v : Word), ∃ t, exec (.serverKick v) s = .next t ∧ (t.get PDO_HB_ALIVE = (if v = 0x0000A11E then 1 else s.get PDO_HB_ALIVE)) ∧
      s.onlyChanges t [.regs 22] ∧ s.keepsRegs t 22 [PDO_HB]) ∧
    (s.marked .kicked = false → ∃ t, exec (.serverAliveLapse) s = .next t ∧ t.get PDO_HB_ALIVE = 0 ∧ s.onlyChanges t [.regs 22] ∧ s.keepsRegs t 22 [PDO_HB]) ∧
    (∀ (ch : Fin 2) (node : BitVec 7), s.canOn ch = true → ∃ t, exec (.heartbeatRx ch node) s = .next t ∧
      t.get (CAN_CNT_RXOK ch) = (s.get (CAN_CNT_RXOK ch) + 1) % 2 ^ (CAN_CNT_RXOK ch).width ∧ (∀ k : Fin 4, s.get (PDO_HBC_EN k) = 1 →
      s.get (PDO_HBC_NODE k) = node.toNat → s.get (PDO_HBC_TIMEMS k) ≠ 0 → t.srv.hbc[k] = true ∧ t.get (PDO_HBC_EXPIRED k) = 0) ∧
      s.onlyChanges t [.srv, .regs 3, .regs 21, .regs 22]) ∧
    (∀ (k : Fin 4), s.get (PDO_HBC_EN k) = 1 → s.srv.hbc[k] = true → ∃ t, exec (.heartbeatConsumerExpiry k) s = .next t ∧
      t.get (PDO_HBC_EXPIRED k) = 1 ∧ t.srv.hbc[k] = false ∧ (∀ a : Fin 8, s.fieldbus a = true → s.obj (0x6007 + 0x800 * a.1) 0 = 1 →
      t.faulted a 0x8130) ∧ (s.srv.emcyQ.length < 32 → t.srv.emcyQ[s.srv.emcyQ.length]? = some ⟨0x8130, [k + 1,
      s.get (PDO_HBC_NODE k)]⟩) ∧ s.onlyChanges t [.axes, .ports, .srv, .eng, .lio, .regs 3, .regs 17, .regs 22, .regs 24]) ∧
    (∀ (e : Emcy) (l : List Emcy), s.serverUp = true → (s.nmt = 1 ∨ s.nmt = 2) → (s.canTx 0 = true ∨ s.canTx 1 = true) →
      (s.srv.emcyLost = 0 ∨ 32 ≤ s.srv.emcyQ.length) → s.srv.emcyQ = e :: l → e.code < 65536 → ∃ t, exec (.emcyTransmit) s = .next t ∧
      t.srv.emcyQ = l ∧ t.srv.hist.length ≤ 16 ∧ t.srv.hist.head?.map (· % 65536) = some (e.code % 65536) ∧ (∀ c : Fin 2,
      s.canTx c = true → t.get (CAN_CNT_TXOK c) = (s.get (CAN_CNT_TXOK c) + 1) % 2 ^ (CAN_CNT_TXOK c).width) ∧ s.onlyChanges t [.wire,
      .srv, .regs 3, .regs 21])

/-- Clearing bit 31 of a COB-ID whose mapping passes makes the PDO valid with its length and entries; one that fails sets MAPERR. A frame
of a valid asynchronous RPDO writes its mapped references; one too short is counted with EMCY 0x8210; a synchronous one is staged until
SYNC. A late RPDO is EMCY 0x8250 and a communication loss. A due TPDO is sent with its data and counted. The low half of a 64-bit
register that is read latches the high half. Some clauses rest on readings of the model: log entries 26 and 60. (R480, R490, R491, R492,
R493, R494, R495, R497, R498, R503, R11). -/
def Obligations.PdosAndViews : Prop :=
  ∀ (s : State), s.up = true →
    (∀ (tx : Bool) (n : Fin 16) (v : Word) (len k ax : Nat), v.getLsbD 31 = false → s.get (pdoInvalid tx n) = 1 →
      s.pdoCheck tx n = some (len, k, ax) → ∃ t, exec (.pdoCobidWrite tx n v) s = .next t ∧ t.get (pdoInvalid tx n) = 0 ∧
      t.get (pdoId tx n) = v.toNat % 2048 ∧ t.get (pdoLen tx n) = len % 256 ∧ t.get (pdoNent tx n) = k % 256 ∧
      t.get (pdoAxes tx n) = ax % 256 ∧ s.onlyChanges t [.regs 22]) ∧
    (∀ (tx : Bool) (n : Fin 16) (v : Word), v.getLsbD 31 = false → s.get (pdoInvalid tx n) = 1 → s.pdoCheck tx n = none → ∃ t,
      exec (.pdoCobidWrite tx n v) s = .next t ∧ t.get (pdoMapErr tx n) = 1 ∧ t.get (pdoInvalid tx n) = 1 ∧
      t.get (pdoId tx n) = s.get (pdoId tx n) ∧ bitOf (t.get PDO_EVT_EV) 3 = true ∧ s.onlyChanges t [.regs 3, .regs 22]) ∧
    (∀ (tx : Bool) (n : Fin 16) (v : Word), v.getLsbD 31 = true → ∃ t, exec (.pdoCobidWrite tx n v) s = .next t ∧
      t.get (pdoInvalid tx n) = 1 ∧ t.get (pdoId tx n) = v.toNat % 2048 ∧ s.onlyChanges t [.srv, .regs 22]) ∧
    (∀ (ch : Fin 2) (id : BitVec 11) (data : List (BitVec 8)) (both : Bool) (id2 : BitVec 11) (data2 : List (BitVec 8)) (n : Fin 16),
      both = false → s.canOn ch = true → s.rpdoMatch id.toNat = [n] → s.nmt = 2 → bitOf (s.get (pdoMask false n)) ch = true →
      240 < s.get (pdoType false n) → data.length = s.get (pdoLen false n) → s.mapWords false n = [] → ∃ t,
      exec (.rpdoRx ch id data both id2 data2) s = .next t ∧ t.get (pdoCount false n) = (s.get (pdoCount false n) + 1) % 65536 ∧
      bitOf (t.get ⟨PDO_RXEVT, 15, 0⟩) n = true ∧ t.srv.rpdo[n].staged = none ∧ t.srv.rpdo[n].timed = (s.get (RPDO_CTL_EVTMS n) != 0) ∧
      t.get (CAN_CNT_RXOK ch) = (s.get (CAN_CNT_RXOK ch) + 1) % 2 ^ (CAN_CNT_RXOK ch).width ∧ s.onlyChanges t [.srv, .regs 3, .regs 21,
      .regs 22]) ∧
    (∀ (ch : Fin 2) (id : BitVec 11) (data : List (BitVec 8)) (both : Bool) (id2 : BitVec 11) (data2 : List (BitVec 8)) (n : Fin 16) (a : Fin 8),
      both = false → s.canOn ch = true → s.rpdoMatch id.toNat = [n] → s.nmt = 2 → bitOf (s.get (pdoMask false n)) ch = true →
      240 < s.get (pdoType false n) → data.length = 4 → s.get (pdoLen false n) = 4 →
      s.mapWords false n = [(ENG_PREF_SPD a - 0x40000000) / 4 * 8192 + 128] → ∃ t, exec (.rpdoRx ch id data both id2 data2) s = .next t ∧
      fieldOf (t.reg (ENG_PREF_SPD a)) 31 0 = leNat (data.take 4) ∧ t.get (pdoCount false n) = (s.get (pdoCount false n) + 1) % 65536 ∧
      s.onlyChanges t [.srv, .regs 3, .regs 17, .regs 21, .regs 22]) ∧
    (∀ (ch : Fin 2) (id : BitVec 11) (data : List (BitVec 8)) (both : Bool) (id2 : BitVec 11) (data2 : List (BitVec 8)) (n : Fin 16),
      both = false → s.canOn ch = true → s.rpdoMatch id.toNat = [n] → s.nmt = 2 → bitOf (s.get (pdoMask false n)) ch = true →
      data.length < s.get (pdoLen false n) → ∃ t, exec (.rpdoRx ch id data both id2 data2) s = .next t ∧ s.queued t 0x8210 [n,
      data.length] ∧ t.get (pdoCount false n) = s.get (pdoCount false n) ∧ t.axes = s.axes ∧ s.onlyChanges t [.srv, .regs 3, .regs 21,
      .regs 22]) ∧
    (∀ (ch : Fin 2) (id : BitVec 11) (data : List (BitVec 8)) (both : Bool) (id2 : BitVec 11) (data2 : List (BitVec 8)) (n : Fin 16),
      both = false → s.canOn ch = true → s.rpdoMatch id.toNat = [n] → s.nmt = 2 → bitOf (s.get (pdoMask false n)) ch = true →
      s.get (pdoType false n) ≤ 240 → data.length = s.get (pdoLen false n) → ∃ t, exec (.rpdoRx ch id data both id2 data2) s = .next t ∧
      t.srv.rpdo[n].staged = some data ∧ t.get (pdoCount false n) = s.get (pdoCount false n) ∧ t.axes = s.axes ∧ s.onlyChanges t [.srv,
      .regs 3, .regs 21, .regs 22]) ∧
    (∀ (n : Fin 16), s.srv.rpdo[n].timed = true → s.get (pdoInvalid false n) = 0 → s.get (RPDO_CTL_EVTMS n) ≠ 0 → s.marked (.applied n) = false → ∃ t,
      exec (.rpdoEventTimeout n) s = .next t ∧ t.get (pdoLate false n) = 1 ∧ t.srv.rpdo[n].timed = false ∧ (∀ a : Fin 8,
      bitOf (s.get (RPDO_AXES_AXES n)) a = true → s.fieldbus a = true → s.obj (0x6007 + 0x800 * a.1) 0 = 1 → t.faulted a 0x8250) ∧
      s.onlyChanges t [.axes, .ports, .srv, .eng, .lio, .regs 3, .regs 17, .regs 22, .regs 24]) ∧
    (∀ (n : Fin 16) (timer : Bool), 254 ≤ s.get (pdoType true n) → s.srv.tpdo[n].last ≠ some (s.tpdoData n) → s.tpdoMay n = true → ∃ t,
      exec (.tpdoTransmit n timer) s = .next t ∧ t.srv.tpdo[n].last = some (s.tpdoData n) ∧ t.srv.tpdo[n].sentAt = some s.clk ∧
      t.get (pdoCount true n) = (s.get (pdoCount true n) + 1) % 65536 ∧ (∀ c : Fin 2, bitOf (s.get (pdoMask true n)) c = true →
      s.canTx c = true → ⟨.can c, [s.get (pdoId true n), b2n (s.flag (CAN_CFG_FD c))], s.tpdoData n⟩ ∈ t.wire) ∧ s.onlyChanges t [.wire,
      .srv, .regs 3, .regs 21, .regs 22]) ∧
    (∀ (ch : Fin 2) (id : BitVec 11), s.canOn ch = true → s.get PDO_SYNC_EN = 1 → s.get PDO_SYNC_COBID = id.toNat →
      s.get PDO_SYNC_CH = ch.1 → s.hasId = true → ∃ t, exec (.syncRx ch id) s = .next t ∧
      t.get (CAN_CNT_RXOK ch) = (s.get (CAN_CNT_RXOK ch) + 1) % 2 ^ (CAN_CNT_RXOK ch).width ∧ bitOf (t.get PDO_EVT_EV) 4 = true ∧
      (s.nmt ≠ 2 → t.axes = s.axes ∧ t.wire = s.wire) ∧ (s.nmt = 2 → ∀ n : Fin 16, t.srv.rpdo[n].staged = none) ∧ s.onlyChanges t [.wire,
      .axes, .ports, .srv, .eng, .lio, .regs 3, .regs 16, .regs 17, .regs 20, .regs 21, .regs 22, .regs 24]) ∧
    (∀ (ten : Fin 8) (port : Fin 6) (a : Nat), isLow64 a = true → s.absentReg a = false → ∃ t,
      exec (.reg64LowRead ten port a) s = .next t ∧ t.rdata = (s.look ten port a).toNat ∧
      t.hold = sparseSet 0 (portKey port a) (s.look ten port (a + 4)) s.hold ∧ s.onlyChanges t [.rdata, .hold]) ∧
    (∀ (ten : Fin 8) (port : Fin 6), (sparseWf (fun _ => 0) 0 s.hold = true) → ∃ t,
      exec (.reg64LowRead ten port (FB_TIME_LO)) s = .next t ∧ t.rdata = s.clk % 2 ^ 32 ∧
      sparseGet 0 (portKey port (FB_TIME_LO)) t.hold = BitVec.ofNat 32 (s.clk / 2 ^ 32) ∧ s.onlyChanges t [.rdata, .hold])

/-- A strobe of a present source whose tenant runs sets PEND, and COAL where PEND is set; a source that is reserved or that the member
lacks never asserts; an orphan is counted. The tenant of a source may write EN and clear COAL, a write of another is counted and its source
recorded. A doorbell strobes its source, another number is counted as foreign. TEN_CORE of tenants 1 to 7 is written before BOOT_DONE by
tenant 0 within the limits of a core, beyond them CFGERR is set; afterwards the write is discarded and counted. (R156, R157, R159, R160,
R169, R7, R130, R142, R150). -/
def Obligations.EventControls : Prop :=
  ∀ (s : State), s.up = true →
    (∀ (e : BitVec 10), e.toNat < s.nEvents → evReserved e.toNat = false → s.marked (.tenReset (s.srcTenant e.toNat)) = false →
      s.orphan e.toNat = false → ∃ t, exec (.eventStrobe e) s = .next t ∧
      t.get (EVT_CTL_PEND e.toNat) = 1 ∧ (s.get (EVT_CTL_PEND e.toNat) = 1 → t.get (EVT_CTL_COAL e.toNat) = 1) ∧
      (s.get (EVT_CTL_PEND e.toNat) = 0 → t.get (EVT_CTL_COAL e.toNat) = s.get (EVT_CTL_COAL e.toNat)) ∧ s.onlyChanges t [.regs 3] ∧
      s.keepsRegs t 3 [EVT_CTL e.toNat]) ∧
    (∀ (e : BitVec 10), (s.nEvents ≤ e.toNat ∨ evReserved e.toNat = true) → exec (.eventStrobe e) s = .next s) ∧
    (∀ (e : BitVec 10), e.toNat < s.nEvents → e.toNat ≠ 13 → evReserved e.toNat = false → s.marked (.tenReset (s.srcTenant e.toNat)) = false → s.orphan e.toNat = true → s.orphan 13 = true → ∃ t,
      exec (.eventStrobe e) s = .next t ∧ t.get EVT_STAT_ORPHAN = min 65535 (s.get EVT_STAT_ORPHAN + 2) ∧ t.get EVT_LAST_ORPH = e.toNat ∧
      t.get (EVT_CTL_PEND e.toNat) = s.get (EVT_CTL_PEND e.toNat) ∧ s.onlyChanges t [.regs 3]) ∧
    (∀ (ten : Fin 8) (e : BitVec 10) (v : Word), e.toNat < s.nEvents → s.get (EVT_ROUTE_TENANT e.toNat) = ten.1 → ∃ t,
      exec (.evtCtlWrite ten e v) s = .next t ∧ t.get (EVT_CTL_EN e.toNat) = v.toNat % 2 ∧ (v.getLsbD 29 = true →
      bitOf (s.setNow (EVT_CTL e.toNat)).toNat 29 = false → t.get (EVT_CTL_COAL e.toNat) = 0) ∧ (v.getLsbD 29 = false →
      t.get (EVT_CTL_COAL e.toNat) = s.get (EVT_CTL_COAL e.toNat)) ∧ t.get (EVT_CTL_PEND e.toNat) = s.get (EVT_CTL_PEND e.toNat) ∧ s.onlyChanges t [.regs 3] ∧
      s.keepsRegs t 3 [EVT_CTL e.toNat]) ∧
    (∀ (ten : Fin 8) (e : BitVec 10) (v : Word), e.toNat < s.nEvents → s.get (EVT_ROUTE_TENANT e.toNat) ≠ ten.1 → s.bootDone = true →
      ∃ t, exec (.evtCtlWrite ten e v) s = .next t ∧ t.get (EVT_CTL_EN e.toNat) = s.get (EVT_CTL_EN e.toNat) ∧
      t.get EVT_LAST_FOREIGN = e.toNat ∧ t.get EVT_STAT_FOREIGN = satInc 65535 (s.get EVT_STAT_FOREIGN) ∧ s.onlyChanges t [.regs 3]) ∧
    (∀ (n : BitVec 10), isDoorbell n.toNat = true → n.toNat < s.nEvents → s.marked (.tenReset (s.srcTenant n.toNat)) = false →
      s.orphan n.toNat = false → ∃ t,
      exec (.doorbell n) s = .next t ∧ t.get (EVT_CTL_PEND n.toNat) = 1 ∧ s.onlyChanges t [.regs 3] ∧ s.keepsRegs t 3 [EVT_CTL n.toNat]) ∧
    (∀ (n : BitVec 10), isDoorbell n.toNat = false → ∃ t, exec (.doorbell n) s = .next t ∧
      t.get EVT_STAT_FOREIGN = satInc 65535 (s.get EVT_STAT_FOREIGN) ∧ t.get EVT_LAST_FOREIGN = n.toNat ∧ s.onlyChanges t [.regs 3]) ∧
    (∀ (ten x : Fin 8) (v : Word), s.bootDone = false → ten = 0 → x ≠ 0 → x.1 < s.nTenants →
      (v.toNat / 16 % 2 = 1 → v.toNat % 4 < s.nCores ∧ s.coreLoad (v.toNat % 4) x < 4) → ∃ t, exec (.tenCoreWrite ten x v) s = .next t ∧
      t.get (TEN_CORE_EN x) = (v.toNat / 16) % 2 ∧ t.get (TEN_CORE_CORE x) = v.toNat % 4 ∧ s.onlyChanges t [.regs 2] ∧
      s.keepsRegs t 2 [TEN_CORE x]) ∧
    (∀ (ten x : Fin 8) (v : Word), s.bootDone = false → ten = 0 → x ≠ 0 → x.1 < s.nTenants → v.toNat / 16 % 2 = 1 →
      (s.nCores ≤ v.toNat % 4 ∨ 4 ≤ s.coreLoad (v.toNat % 4) x) → ∃ t,
      exec (.tenCoreWrite ten x v) s = .next t ∧ t.get TWU_STAT_CFGERR = 1 ∧ t.get (TEN_CORE_EN x) = s.get (TEN_CORE_EN x) ∧
      s.onlyChanges t [.regs 2]) ∧
    (∀ (ten x : Fin 8) (v : Word), s.bootDone = true → x.1 < s.nTenants → ∃ t, exec (.tenCoreWrite ten x v) s = .next t ∧
      t.get TWU_PWCNT_COUNT = satInc 65535 (s.get TWU_PWCNT_COUNT) ∧ t.get TWU_PWCNT_LASTTEN = ten.1 ∧
      (t.reg TWU_PWADDR).toNat = TEN_CORE x ∧ t.reg (TEN_CORE x) = s.reg (TEN_CORE x) ∧ s.onlyChanges t [.srv, .regs 2, .regs 3])

/-- A shadow write of a group that no other tenant holds changes only the shadow, sets DIRTY and the holder; one of another tenant is
refused with REFUSED, one out of range is discarded. A commit makes the shadow live, a discard reloads it, and both clear DIRTY; by
another tenant they are refused, and with nothing dirty they do nothing. (R181, R182, R183, R184, R317). -/
def Obligations.ParameterGroups : Prop :=
  ∀ (s : State) (g : Fin 3) (a ten : Fin 8), s.up = true → a.1 < s.nAxes →
    (∀ (k : Fin 10) (v : Word), k.1 < (groupOf g).masks.length → s.psetHeld (groupOf g) a ten = false → (groupOf g).fits k.1 v = true →
      ∃ t, exec (.psetShadowWrite g a k ten v) s = .next t ∧
      t.pset (groupOf g) a = { s.pset (groupOf g) a with shadow := (s.pset (groupOf g) a).shadow.set k.1 (v &&& BitVec.ofNat 32 ((groupOf g).masks.getD k.1 0)) } ∧
      t.get (psDirty ((groupOf g).ctl a)) = 1 ∧ t.get (psHolder ((groupOf g).ctl a)) = ten.1 ∧ s.onlyChanges t [.gain, .route, .tension,
      .regs 17, .regs 24]) ∧
    (∀ (k : Fin 10) (v : Word), k.1 < (groupOf g).masks.length → s.psetHeld (groupOf g) a ten = true → ∃ t,
      exec (.psetShadowWrite g a k ten v) s = .next t ∧ t.get (psRefused ((groupOf g).ctl a)) = 1 ∧
      t.pset (groupOf g) a = s.pset (groupOf g) a ∧ s.onlyChanges t [.regs 3, .regs 17, .regs 24]) ∧
    (∀ (k : Fin 10) (v : Word), k.1 < (groupOf g).masks.length → s.psetHeld (groupOf g) a ten = false → (groupOf g).fits k.1 v = false →
      ∃ t, exec (.psetShadowWrite g a k ten v) s = .next t ∧ t.pset (groupOf g) a = s.pset (groupOf g) a ∧
      t.get (psDirty ((groupOf g).ctl a)) = s.get (psDirty ((groupOf g).ctl a)) ∧ s.onlyChanges t [.regs 17, .regs 24]) ∧
    (s.get (psDirty ((groupOf g).ctl a)) = 1 → s.get (psHolder ((groupOf g).ctl a)) = ten.1 → (groupOf g = .route →
      (s.route[a].shadow.headD 0).toNat % 4 < 2) → ∃ t, exec (.psetCommit g a ten) s = .next t ∧
      t.pset (groupOf g) a = { s.pset (groupOf g) a with live := (s.pset (groupOf g) a).shadow } ∧
      t.get (psDirty ((groupOf g).ctl a)) = 0 ∧ t.get (psHolder ((groupOf g).ctl a)) = 0 ∧ s.keepsOtherAxes t a ∧ s.onlyChanges t [.axes,
      .gain, .route, .tension, .regs 3, .regs 17, .regs 24]) ∧
    (s.get (psDirty ((groupOf g).ctl a)) = 1 → s.get (psHolder ((groupOf g).ctl a)) ≠ ten.1 → ∃ t,
      exec (.psetCommit g a ten) s = .next t ∧ t.get (psRefused ((groupOf g).ctl a)) = 1 ∧ t.pset (groupOf g) a = s.pset (groupOf g) a ∧
      s.onlyChanges t [.regs 3, .regs 17, .regs 24]) ∧
    (s.get (psDirty ((groupOf g).ctl a)) = 0 → ∃ t, exec (.psetCommit g a ten) s = .next t ∧ t = s) ∧
    (s.get (psDirty ((groupOf g).ctl a)) = 1 → s.get (psHolder ((groupOf g).ctl a)) = ten.1 → ∃ t,
      exec (.psetDiscard g a ten) s = .next t ∧
      t.pset (groupOf g) a = { s.pset (groupOf g) a with shadow := (s.pset (groupOf g) a).live } ∧
      t.get (psDirty ((groupOf g).ctl a)) = 0 ∧ t.get (psHolder ((groupOf g).ctl a)) = 0 ∧ s.onlyChanges t [.gain, .route, .tension,
      .regs 17, .regs 24]) ∧
    (s.get (psDirty ((groupOf g).ctl a)) = 1 → s.get (psHolder ((groupOf g).ctl a)) ≠ ten.1 → ∃ t,
      exec (.psetDiscard g a ten) s = .next t ∧ t.get (psRefused ((groupOf g).ctl a)) = 1 ∧ t.pset (groupOf g) a = s.pset (groupOf g) a ∧
      s.onlyChanges t [.regs 3, .regs 17, .regs 24])

/-- A served upload of an entry of up to four bytes is answered at once with them, one of a longer text opens a segmented transfer that
indicates its length; an entry that fails a check is aborted with its code, for an upload and for a download. A served download of 0x1017
writes the heartbeat time and is confirmed, one of a wrong length is aborted with 0x06070010, and one that indicates a segmented transfer
opens it. A request that is not served waits in the receive FIFO. Some clauses rest on readings of the model: log entries 54 and 55. (R476,
R477, R480, R483, R485, R486, R487, R488, R489, R505, R506). -/
def Obligations.SdoService : Prop :=
  ∀ (s : State) (ch : Fin 2), s.serves ch →
    (∀ (idx : BitVec 16) (sub : BitVec 8) (served : Bool), served = true → s.odCheck idx.toNat sub.toNat false ≠ 0 → ∃ t,
      exec (.sdoUpload ch idx sub served) s = .next t ∧
      s.answered t ch (sdoHead 0x80 idx.toNat sub.toNat ++ leBytes 4 (s.odCheck idx.toNat sub.toNat false)) ∧ s.onlyChanges t [.wire,
      .srv, .regs 3, .regs 21]) ∧
    (∀ (idx : BitVec 16) (sub : BitVec 8) (served : Bool), served = true → idx = 0x1017 → sub = 0 → ∃ t,
      exec (.sdoUpload ch idx sub served) s = .next t ∧ s.answered t ch (sdoHead 0x4B 0x1017 0 ++ leBytes 2 (s.get PDO_HB_PRODMS) ++ [0,
      0]) ∧ s.onlyChanges t [.wire, .srv, .regs 3, .regs 21]) ∧
    (∀ (idx : BitVec 16) (sub : BitVec 8) (served : Bool) (e : OdEnt) (b : List (BitVec 8)), served = true →
      s.odCheck idx.toNat sub.toNat false = 0 → s.odEnt idx.toNat sub.toNat = some e → e.src = .num (leNat b) → e.size = b.length →
      1 ≤ b.length → b.length ≤ 4 → ∃ t, exec (.sdoUpload ch idx sub served) s = .next t ∧
      s.answered t ch (padTo 8 (sdoHead (0x43 + (4 - b.length) * 4) idx.toNat sub.toNat ++ b)) ∧ t.srv.xfer[ch] = none ∧
      s.onlyChanges t [.freeCtr, .wire, .srv, .regs 3, .regs 21]) ∧
    (∀ (idx : BitVec 16) (sub : BitVec 8) (served : Bool) (e : OdEnt) (b : List (BitVec 8)), served = true →
      s.odCheck idx.toNat sub.toNat false = 0 → s.odEnt idx.toNat sub.toNat = some e → e.src = .text b → idx ≠ 0x2E01 → idx ≠ 0x2E02 →
      4 < b.length → ∃ t, exec (.sdoUpload ch idx sub served) s = .next t ∧
      s.answered t ch (sdoHead 0x41 idx.toNat sub.toNat ++ leBytes 4 b.length) ∧
      t.srv.xfer[ch] = some ⟨true, idx.toNat, sub.toNat, b, false⟩ ∧ s.onlyChanges t [.wire, .srv, .regs 3, .regs 21]) ∧
    (∀ (idx : BitVec 16) (sub : BitVec 8) (served : Bool), served = false → s.srv.can[ch].rxQ.length ≤ 509 → ∃ t,
      exec (.sdoUpload ch idx sub served) s = .next t ∧ t.srv.await[ch] = some (idx.toNat, sub.toNat) ∧ t.wire = s.wire ∧
      t.srv.can[ch].rxQ.length = s.srv.can[ch].rxQ.length + 3 ∧ s.onlyChanges t [.srv, .regs 3, .regs 21]) ∧
    (∀ (idx : BitVec 16) (sub : BitVec 8) (seg : Bool) (size : Nat) (data : List (BitVec 8)) (served : Bool), served = true →
      seg = false → idx = 0x1017 → sub = 0 → data.length = 2 → ∃ t, exec (.sdoDownload ch idx sub seg size data served) s = .next t ∧
      s.answered t ch (sdoHead 0x60 0x1017 0 ++ leBytes 4 0) ∧ t.get PDO_HB_PRODMS = leNat data ∧ s.onlyChanges t [.wire, .srv, .regs 3,
      .regs 21, .regs 22]) ∧
    (∀ (idx : BitVec 16) (sub : BitVec 8) (seg : Bool) (size : Nat) (data : List (BitVec 8)) (served : Bool), served = true →
      s.odCheck idx.toNat sub.toNat true ≠ 0 → ∃ t, exec (.sdoDownload ch idx sub seg size data served) s = .next t ∧
      s.answered t ch (sdoHead 0x80 idx.toNat sub.toNat ++ leBytes 4 (s.odCheck idx.toNat sub.toNat true)) ∧ s.onlyChanges t [.wire,
      .srv, .regs 3, .regs 21]) ∧
    (∀ (idx : BitVec 16) (sub : BitVec 8) (seg : Bool) (size : Nat) (data : List (BitVec 8)) (served : Bool), served = true →
      seg = false → idx = 0x1017 → sub = 0 → data.length ≠ 2 → ∃ t, exec (.sdoDownload ch idx sub seg size data served) s = .next t ∧
      s.answered t ch (sdoHead 0x80 0x1017 0 ++ leBytes 4 0x06070010) ∧ s.onlyChanges t [.wire, .srv, .regs 3, .regs 21]) ∧
    (∀ (idx : BitVec 16) (sub : BitVec 8) (seg : Bool) (size : Nat) (data : List (BitVec 8)) (served : Bool), served = true →
      seg = true → idx = 0x1017 → sub = 0 → (size = 0 ∨ size = 2) → ∃ t,
      exec (.sdoDownload ch idx sub seg size data served) s = .next t ∧ s.answered t ch (sdoHead 0x60 0x1017 0 ++ leBytes 4 0) ∧
      t.srv.xfer[ch] = some ⟨false, 0x1017, 0, [], false⟩ ∧ s.onlyChanges t [.wire, .srv, .regs 3, .regs 21])

/-- An upload segment with the right toggle gives the next seven bytes and ends the transfer with the last; a download segment is
confirmed and kept until the last, when the entry is written. A wrong toggle aborts with 0x05030000, a segment of the other kind or
without a transfer with 0x05040001; an abort by the client ends the transfer without an answer; one second without a segment aborts with
0x05040000. Without a live server a request is aborted with 0x08000020. Some clauses rest on readings of the model: log entry 54. (R477,
R480, R486, R487, R512). -/
def Obligations.SdoTransfers : Prop :=
  ∀ (s : State) (ch : Fin 2), s.up = true → s.canOn ch = true → s.canTx ch = true → s.nmt ≠ 0 → s.nmt ≠ 3 →
    (∀ (cs : BitVec 3) (toggle last : Bool) (data : List (BitVec 8)) (x : Xfer), s.get PDO_HB_ALIVE = 1 → s.serverUp = true →
      s.srv.xfer[ch] = some x → x.up = true → cs = 3 → toggle = x.toggle → ∃ t, exec (.sdoSegment ch cs toggle last data) s = .next t ∧
      s.answered t ch (padTo 8 (leBytes 1 (16 * b2n x.toggle + 2 * (7 - (x.data.take 7).length) + b2n (x.data.drop 7).isEmpty) ++ x.data.take 7)) ∧
      (t.srv.xfer[ch] = (if (x.data.drop 7).isEmpty then none else some { x with data := x.data.drop 7, toggle := !x.toggle })) ∧
      s.onlyChanges t [.wire, .srv, .regs 3, .regs 21]) ∧
    (∀ (cs : BitVec 3) (toggle last : Bool) (data : List (BitVec 8)) (x : Xfer), s.get PDO_HB_ALIVE = 1 → s.serverUp = true →
      s.srv.xfer[ch] = some x → x.up = false → cs = 0 → toggle = x.toggle → last = false → x.idx ≠ 0x2C02 → ∃ t,
      exec (.sdoSegment ch cs toggle last data) s = .next t ∧ s.answered t ch (padTo 8 (leBytes 1 (0x20 + 16 * b2n x.toggle))) ∧
      t.srv.xfer[ch] = some { x with data := x.data ++ data, toggle := !x.toggle } ∧ s.onlyChanges t [.wire, .srv, .regs 3, .regs 21]) ∧
    (∀ (cs : BitVec 3) (toggle last : Bool) (data : List (BitVec 8)) (x : Xfer), s.get PDO_HB_ALIVE = 1 → s.serverUp = true →
      s.srv.xfer[ch] = some x → x.up = false → cs = 0 → toggle = x.toggle → last = true → x.idx = 0x1017 → x.sub = 0 →
      (x.data ++ data).length = 2 → ∃ t, exec (.sdoSegment ch cs toggle last data) s = .next t ∧
      s.answered t ch (padTo 8 (leBytes 1 (0x20 + 16 * b2n x.toggle))) ∧ t.srv.xfer[ch] = none ∧
      t.get PDO_HB_PRODMS = leNat (x.data ++ data) ∧ s.onlyChanges t [.wire, .srv, .regs 3, .regs 21, .regs 22]) ∧
    (∀ (cs : BitVec 3) (toggle last : Bool) (data : List (BitVec 8)) (x : Xfer), s.get PDO_HB_ALIVE = 1 → s.serverUp = true →
      s.srv.xfer[ch] = some x → (cs = (if x.up then 3 else 0)) → toggle ≠ x.toggle → x.idx ≠ 0x2C02 → ∃ t,
      exec (.sdoSegment ch cs toggle last data) s = .next t ∧ s.answered t ch (sdoHead 0x80 x.idx x.sub ++ leBytes 4 0x05030000) ∧
      t.srv.xfer[ch] = none ∧ s.onlyChanges t [.wire, .srv, .regs 3, .regs 21]) ∧
    (∀ (cs : BitVec 3) (toggle last : Bool) (data : List (BitVec 8)) (x : Xfer), s.get PDO_HB_ALIVE = 1 → s.serverUp = true →
      s.srv.xfer[ch] = some x → cs = 4 → x.idx ≠ 0x2C02 → ∃ t, exec (.sdoSegment ch cs toggle last data) s = .next t ∧
      t.srv.xfer[ch] = none ∧ t.wire = s.wire ∧ s.onlyChanges t [.wire, .srv, .regs 3, .regs 21]) ∧
    (∀ (cs : BitVec 3) (toggle last : Bool) (data : List (BitVec 8)), s.get PDO_HB_ALIVE = 1 → s.serverUp = true →
      s.srv.xfer[ch] = none → cs ≠ 4 → ∃ t, exec (.sdoSegment ch cs toggle last data) s = .next t ∧
      s.answered t ch (sdoHead 0x80 0 0 ++ leBytes 4 0x05040001) ∧ s.onlyChanges t [.wire, .srv, .regs 3, .regs 21]) ∧
    (∀ (idx : BitVec 16) (sub : BitVec 8) (served : Bool), s.get PDO_HB_ALIVE = 0 → ∃ t,
      exec (.sdoUpload ch idx sub served) s = .next t ∧ s.answered t ch (sdoHead 0x80 idx.toNat sub.toNat ++ leBytes 4 0x08000020) ∧
      t.srv.xfer = s.srv.xfer ∧ s.onlyChanges t [.wire, .srv, .regs 3, .regs 21]) ∧
    (∀ (x : Xfer), s.srv.xfer[ch] = some x → x.idx ≠ 0x2C02 → ∃ t, exec (.sdoTimeout ch) s = .next t ∧
      s.answered t ch (sdoHead 0x80 x.idx x.sub ++ leBytes 4 0x05040000) ∧ t.srv.xfer[ch] = none ∧ s.onlyChanges t [.wire, .srv, .regs 3,
      .regs 21])

/-- Writing 0 to 0x1003 clears the error history, another value aborts. The signature of 0x1010 saves and that of 0x1011 restores the
area of the sub-index with one commit, another signature aborts with 0x08000020. A whole image is programmed into the bank that does not
run and verified; one for the wrong bank is refused with its version recorded. An option request goes into the mailbox. BOOT_DONE set by
tenant 0 ends it, starts the tenants and the server; a tenant 0 that has stopped sets nothing. Some clauses rest on readings of the model:
log entries 36 and 53. (R120, R482, R500, R508, R533, R540, R541, R542, R549, R580). -/
def Obligations.ServerObjects : Prop :=
  ∀ (s : State) (ch : Fin 2),
    (∀ (v : BitVec 8), s.serves ch → v = 0 → ∃ t, exec (.errorHistoryClear ch v) s = .next t ∧
      s.answered t ch (sdoHead 0x60 0x1003 0 ++ leBytes 4 0) ∧ t.srv.hist = [] ∧ s.onlyChanges t [.wire, .srv, .regs 3, .regs 21]) ∧
    (∀ (v : BitVec 8), s.serves ch → v ≠ 0 → ∃ t, exec (.errorHistoryClear ch v) s = .next t ∧
      s.answered t ch (sdoHead 0x80 0x1003 0 ++ leBytes 4 0x06090030) ∧ t.srv.hist = s.srv.hist ∧ s.onlyChanges t [.wire, .srv, .regs 3,
      .regs 21]) ∧
    (∀ (sub : BitVec 8) (v : Word) (good : Bool), s.serves ch → 1 ≤ sub.toNat → sub.toNat ≤ 3 → s.parked = false → s.store.cmd = none →
      s.store.ready = true → s.store.notHolder 2 = false → s.confirmed = true → good = true → v = 0x65766173 → ∃ t,
      exec (.storeParameters ch sub v good) s = .next t ∧ s.answered t ch (sdoHead 0x60 0x1010 sub.toNat ++ leBytes 4 0) ∧
      t.store.commits = s.store.commits + 1 ∧ (∀ e ∈ s.snapshot sub.toNat, e.1 ∈ t.srv.saved.map (·.1)) ∧ s.onlyChanges t [.wire, .srv,
      .store, .regs 3, .regs 21]) ∧
    (∀ (sub : BitVec 8) (v : Word) (good : Bool), s.serves ch → 1 ≤ sub.toNat → sub.toNat ≤ 3 → v ≠ 0x65766173 → ∃ t,
      exec (.storeParameters ch sub v good) s = .next t ∧ s.answered t ch (sdoHead 0x80 0x1010 sub.toNat ++ leBytes 4 0x08000020) ∧
      t.srv.saved = s.srv.saved ∧ s.onlyChanges t [.wire, .srv, .regs 3, .regs 21]) ∧
    (∀ (sub : BitVec 8) (v : Word) (good : Bool), s.serves ch → 1 ≤ sub.toNat → sub.toNat ≤ 3 → s.parked = false → s.store.cmd = none →
      s.store.ready = true → s.store.notHolder 2 = false → s.confirmed = true → good = true → v = 0x64616F6C → ∃ t,
      exec (.restoreDefaults ch sub v good) s = .next t ∧ s.answered t ch (sdoHead 0x60 0x1011 sub.toNat ++ leBytes 4 0) ∧
      t.store.commits = s.store.commits + 1 ∧ (t.srv.saved = s.srv.saved.filter fun e => !inArea sub.toNat (e.1 / 256)) ∧
      s.onlyChanges t [.wire, .srv, .store, .regs 3, .regs 21]) ∧
    (∀ (sub : BitVec 8) (v : Word) (good : Bool), s.serves ch → 1 ≤ sub.toNat → sub.toNat ≤ 3 → v = 0x64616F6C → s.parked = true → ∃ t,
      exec (.restoreDefaults ch sub v good) s = .next t ∧ s.answered t ch (sdoHead 0x80 0x1011 sub.toNat ++ leBytes 4 0x08000020) ∧
      s.queued t 0xFF64 [] ∧ t.srv.saved = s.srv.saved ∧ s.onlyChanges t [.wire, .srv, .regs 3, .regs 21]) ∧
    (∀ (image : List (BitVec 8)), s.serves ch → s.allSafe 255 = true → s.parked = false → s.store.cmd = none → s.store.image = none →
      isOptReq image = false → image.length = 256 → (image.getD 6 0).toNat = s.otherBank → ∃ t,
      exec (.imageDownload ch image) s = .next t ∧ t.memBytes (bankBase s.otherBank) 256 = image ∧ t.store.image = none ∧
      t.store.cmd = none ∧ t.store.prog = true ∧ (t.wire.head? = some ⟨.can ch, [0x580 + s.nodeId, b2n (s.flag (CAN_CFG_FD ch))],
      sdoHead 0x60 0x2C02 0 ++ leBytes 4 0⟩ ∨ t.wire.head? = some ⟨.can ch, [0x580 + s.nodeId, b2n (s.flag (CAN_CFG_FD ch))],
      sdoHead 0x80 0x2C02 0 ++ leBytes 4 0x08000020⟩) ∧ s.onlyChanges t [.wire, .mem, .srv, .store, .regs 3, .regs 21, .regs 25]) ∧
    (∀ (image : List (BitVec 8)), s.serves ch → s.allSafe 255 = true → s.parked = false → s.store.cmd = none → s.store.image = none →
      isOptReq image = false → 12 ≤ image.length → (image.getD 6 0).toNat ≠ s.otherBank → ∃ t,
      exec (.imageDownload ch image) s = .next t ∧ s.answered t ch (sdoHead 0x80 0x2C02 0 ++ leBytes 4 0x08000020) ∧
      t.get STORE_VERREF_V = leNat ((image.drop 8).take 4) ∧ t.store.image = none ∧ s.onlyChanges t [.wire, .mem, .srv, .store, .regs 3,
      .regs 21, .regs 25]) ∧
    (∀ (data : List (BitVec 8)), s.serves ch → s.allSafe 255 = true → isOptReq data = true → data.length = 200 → s.tag.sess < 2 →
      s.tag.wired = none → (sparseWf (fun _ => 0) 0 s.tag.blocks = true) → ∃ t, exec (.optionRequestDownload ch data) s = .next t ∧
      s.answered t ch (sdoHead 0x60 0x2C02 0 ++ leBytes 4 0) ∧ t.tagBlock 3840 = 0x4F505251 ∧ t.tagBytes 3841 50 = data ∧
      (∀ k : Fin 3840, t.tagBlock k = s.tagBlock k) ∧ s.onlyChanges t [.wire, .srv, .tag, .regs 3, .regs 21, .regs 23]) ∧
    (s.up = true → s.bootDone = false → s.sys.boot = .rom → bitOf (s.get TWU_KILL_STOPPED) 0 = false → ∃ t,
      exec (.bootDoneSet) s = .next t ∧ t.sys.boot = .done ∧ s.onlyChanges t (Part.withRegs [.freeCtr, .wire, .pend64, .sys, .bg, .axes,
      .ports, .waiting, .srv, .cp, .eng, .gain, .route, .tension, .lio, .fb, .ring, .pr, .bear, .store, .tag])) ∧
    (s.up = true → s.bootDone = false → s.sys.boot = .rom → bitOf (s.get TWU_KILL_STOPPED) 0 = true → exec (.bootDoneSet) s = .next s) ∧
    (s.up = true → s.bootDone = false → s.sys.boot = .rom → bitOf (s.get TWU_KILL_STOPPED) 0 = false → s.srv.saved = [] → ∃ t,
      exec (.bootDoneSet) s = .next t ∧ t.bootDone = true ∧
      t.sys.boot = .done ∧ (s.hasId = true → t.nmt = 1 ∨ t.nmt = 2) ∧ t.waiting = 0 ∧ (∀ c : Fin 4, t.pr.cores[c].stack = []) ∧
      s.onlyChanges t (Part.withRegs [.freeCtr, .wire, .pend64, .sys, .bg, .axes, .ports, .waiting, .srv, .cp, .eng, .gain, .route,
      .tension, .lio, .fb, .ring, .pr, .bear, .store, .tag]))

/-- A write of any present register that has no rule of its own gives each bit the written value where its access code lets the tenant
write it, clears each W1C bit written 1 that hardware does not set on the same edge, and leaves every other bit and every other register
as they are; after BOOT_DONE one that reaches RWB bits is counted once with its tenant and address and leaves those bits. A write of an
address that holds no register of the member changes nothing. After BOOT_DONE a write of the tenant window unit, other than of the memory
error registers, is counted and changes nothing of what was written. A SAFE-only register of an axis out of SAFE is not written and sets
CFGREF. The low half of a 64-bit register of the ring waits on its port; the high half of RING_ROUTE, and of RING_BRT in OFF, writes both,
that of RING_BRT out of OFF sets CFGREF, and the high half of a read-only register writes nothing. Some clauses rest on readings of the
model: log entries 2 and 62. (R6, R7, R8, R10, R11, R12, R25, R32, R64, R142, R316, R421). -/
def Obligations.RegisterBus : Prop :=
  ∀ (s : State) (ten : Fin 8) (port : Fin 6), s.up = true →
    (∀ (a : Nat) (b : Fin 32) (r : RegRow) (v : Word), plainAt a = true → s.absentReg a = false → regRow a = some r →
      b.1 = a / 65536 % 32 → (s.bootDone = false ∨ r.rwb = 0) → ∃ t, exec (.registerWrite ten port a v) s = .next t ∧
      (∀ i : Fin 32, bitOf (t.reg a).toNat i =
        (if bitOf r.w1c i && bitOf v.toNat i && !bitOf (s.setNow a).toNat i then false
         else if s.bitWritable ten a r i then bitOf v.toNat i else bitOf (s.reg a).toNat i)) ∧
      s.onlyChanges t [.regs b] ∧ s.keepsRegs t b [a]) ∧
    (∀ (a : Nat) (b : Fin 32) (r : RegRow) (v : Word), plainAt a = true → s.absentReg a = false → regRow a = some r →
      b.1 = a / 65536 % 32 → s.bootDone = true → r.rwb ≠ 0 → ∃ t, exec (.registerWrite ten port a v) s = .next t ∧
      (∀ i : Fin 32, bitOf r.rwb i = true → bitOf r.rw i = false → bitOf r.w1c i = false → bitOf r.rws i = false → bitOf r.rwc i = false →
        bitOf (t.reg a).toNat i = bitOf (s.reg a).toNat i) ∧
      t.get TWU_PWCNT_COUNT = satInc 65535 (s.get TWU_PWCNT_COUNT) ∧ t.get TWU_PWCNT_LASTTEN = ten.1 ∧ (t.reg TWU_PWADDR).toNat = a ∧
      s.onlyChanges t [.srv, .regs 2, .regs 3, .regs b]) ∧
    (∀ (a : Nat) (v : Word), (s.absentReg a = true ∨ (plainAt a = true ∧ regRow a = none)) →
      exec (.registerWrite ten port a v) s = .next s) ∧
    (∀ (a : Nat) (v : Word), s.bootDone = true → a / 65536 = 0x4002 → s.absentReg a = false → a ≠ MEMERR_STAT → a ≠ MEMERR_INJ → ∃ t,
      exec (.registerWrite ten port a v) s = .next t ∧ t.get TWU_PWCNT_COUNT = satInc 65535 (s.get TWU_PWCNT_COUNT) ∧
      t.get TWU_PWCNT_LASTTEN = ten.1 ∧ (t.reg TWU_PWADDR).toNat = a ∧ s.onlyChanges t [.srv, .regs 2, .regs 3] ∧
      s.keepsRegs t 2 [TWU_PWCNT, TWU_PWADDR]) ∧
    (∀ (g : Fin 16) (v : Word), s.bootDone = true → ∃ t, exec (.registerWrite ten port (GRP_DEM g) v) s = .next t ∧
      t.reg (GRP_DEM g) = v ∧ s.onlyChanges t [.regs 20] ∧ s.keepsRegs t 20 [GRP_DEM g]) ∧
    (∀ (a : Fin 8) (v : Word), s.bootDone = true → a.1 < s.nAxes → ∃ t, exec (.registerWrite ten port (AX_PACC a) v) s = .next t ∧
      t.reg (AX_PACC a) = v ∧ s.onlyChanges t [.regs 17] ∧ s.keepsRegs t 17 [AX_PACC a]) ∧
    (∀ (v : Word), s.bootDone = true → ∃ t, exec (.registerWrite ten port GPI_EVT v) s = .next t ∧
      t.get GPI_EVT_V = s.get GPI_EVT_V &&& (255 - v.toNat % 256) ∧ s.onlyChanges t [.regs 24] ∧ s.keepsRegs t 24 [GPI_EVT]) ∧
    (∀ (n : Fin 8) (v : Word), s.bootDone = true → ∃ t, exec (.registerWrite ten port (INC_SPD n) v) s = .next t ∧ t = s) ∧
    (∀ (a : Fin 8) (v : Word), s.bootDone = true → a.1 < s.nAxes → s.isSafe a = false → ∃ t,
      exec (.registerWrite ten port (ENG_CFG a) v) s = .next t ∧ t.reg (ENG_CFG a) = s.reg (ENG_CFG a) ∧ t.get (ENG_STAT_CFGREF a) = 1 ∧
      s.onlyChanges t [.regs 17] ∧ s.keepsRegs t 17 [ENG_STAT a]) ∧
    (∀ (x : Fin 8) (v : Word), s.bootDone = true → x.1 < s.nTenants → ∃ t, exec (.registerWrite ten port (TEN_OWN x) v) s = .next t ∧
      t.reg (TEN_OWN x) = s.reg (TEN_OWN x) ∧ t.get TWU_PWCNT_COUNT = satInc 65535 (s.get TWU_PWCNT_COUNT) ∧
      t.get TWU_PWCNT_LASTTEN = ten.1 ∧ (t.reg TWU_PWADDR).toNat = TEN_OWN x ∧ s.onlyChanges t [.srv, .regs 2, .regs 3]) ∧
    (∀ (v : Word), s.bootDone = true → ∃ t, exec (.registerWrite ten port SYS_ID v) s = .next t ∧ t = s) ∧
    (∀ (a : Nat) (v : Word), isLow64 a = true → a / 65536 = 0x4014 → ∃ t, exec (.reg64LowWrite ten port a v) s = .next t ∧
      t.lowPending port.1 a = v ∧ (∀ q : Fin 6, q ≠ port → t.lowPending q a = s.lowPending q a) ∧ s.onlyChanges t [.pend64]) ∧
    (∀ (a : Nat) (v : Word), isLow64 a = true → a / 65536 = 0x4013 → ∃ t, exec (.reg64LowWrite ten port a v) s = .next t ∧
      s.onlyChanges t []) ∧
    (∀ (a : Nat) (v : Word), (a = RING_ROUTE 0 ∨ (a = RING_BRT 0 ∧ s.ring.st = .off)) → ∃ t,
      exec (.reg64HighWrite ten port (a + 4) v) s = .next t ∧ t.reg a = s.lowPending port a ∧ t.reg (a + 4) = v ∧
      t.lowPending port.1 a = t.reg a ∧ s.onlyChanges t [.pend64, .regs 20] ∧ s.keepsRegs t 20 [a, a + 4]) ∧
    (∀ (a : Nat) (v : Word), isHigh64 a = true → s.absentReg a = false → a ≠ RING_ROUTE 0 + 4 → a ≠ RING_BRT 0 + 4 → ∃ t,
      exec (.reg64HighWrite ten port a v) s = .next t ∧ s.onlyChanges t [.pend64]) ∧
    (∀ (v : Word), s.ring.st ≠ .off → ∃ t, exec (.reg64HighWrite ten port (RING_BRT 0 + 4) v) s = .next t ∧
      t.reg (RING_BRT 0) = s.reg (RING_BRT 0) ∧ t.get RING_ERR_CFGREF = 1 ∧ s.onlyChanges t [.pend64, .regs 20] ∧
      s.keepsRegs t 20 [RING_ERR])

/-- A permitted load of memory without an error gives its register the bytes, sign-extended where it says so; a permitted store changes
exactly its bytes; an AMO gives the old word and stores its result; load-reserved takes the reservation, and store-conditional stores and
answers 0 while it holds, else answers 1 and stores nothing. A misaligned access is exception 4 or 6, a refused one records its address
and reason in mfaddr and mfcause and is exception 5 or 7. Some clauses rest on readings of the model: log entry 47. (R123, R126, R127,
R137, R139, R146, R147, R151, R154, R166). -/
def Obligations.CoreAccesses : Prop :=
  ∀ (s : State) (c : Fin 4) (x : Fin 8), s.runs c x →
    (∀ (addr : Word) (size : Fin 3) (sgnd fp : Bool) (rd : Fin 32), addr.toNat % (accBytes size) = 0 → isPeriph addr.toNat = false →
      s.check { tenant := x, umode := s.pr.banks[x].dataUser } .load addr.toNat (accBytes size) = none → (isRam addr.toNat = true →
      s.wordErr addr.toNat = 0) → fp = false → ∃ t, exec (.load c addr size sgnd fp rd) s = .next t ∧
      s.setsX t x rd (extend size sgnd (leNat (s.memBytes addr.toNat (accBytes size)))) ∧
      t.rdata = (extend size sgnd (leNat (s.memBytes addr.toNat (accBytes size)))).toNat ∧ t.pr.banks[x].f = s.pr.banks[x].f ∧
      s.onlyChanges t [.rdata, .pr]) ∧
    (∀ (addr : Word) (size : Fin 3) (sgnd fp : Bool) (rd : Fin 32), addr.toNat % (accBytes size) = 0 → isPeriph addr.toNat = false →
      s.check { tenant := x, umode := s.pr.banks[x].dataUser } .load addr.toNat (accBytes size) = none → (isRam addr.toNat = true →
      s.wordErr addr.toNat = 0) → fp = true → ∃ t, exec (.load c addr size sgnd fp rd) s = .next t ∧
      t.pr.banks[x].f = s.pr.banks[x].f.set rd (extend size sgnd (leNat (s.memBytes addr.toNat (accBytes size)))) ∧
      t.pr.banks[x].x = s.pr.banks[x].x ∧ s.onlyChanges t [.rdata, .pr]) ∧
    (∀ (addr : Word) (size : Fin 3) (sgnd fp : Bool) (rd : Fin 32), addr.toNat % accBytes size ≠ 0 → isPeriph addr.toNat = false →
      s.faultHeld x = false → s.pr.banks[x].exc < 15 → ∃ t, exec (.load c addr size sgnd fp rd) s = .next t ∧ s.trapped t x 4 ∧
      t.pr.banks[x].mtval = addr ∧ t.pr.banks[x].x = s.pr.banks[x].x ∧ (∀ y : Fin 8, y ≠ x → t.pr.banks[y] = s.pr.banks[y]) ∧
      s.onlyChanges t [.pr]) ∧
    (∀ (addr : Word) (size : Fin 3) (sgnd fp : Bool) (rd : Fin 32) (r_ win : Nat), addr.toNat % accBytes size = 0 →
      isPeriph addr.toNat = false → s.check { tenant := x, umode := s.pr.banks[x].dataUser } .load addr.toNat (accBytes size) = some (r_,
      win) → 1 ≤ r_ → r_ ≤ 7 → s.faultHeld x = false → s.pr.banks[x].exc < 15 → ∃ t, exec (.load c addr size sgnd fp rd) s = .next t ∧
      s.trapped t x 5 ∧ t.pr.banks[x].mfaddr = addr ∧ bitsOf t.pr.banks[x].mfcause.toNat 3 0 = r_ ∧
      bitsOf t.pr.banks[x].mfcause.toNat 20 16 = win % 32 ∧ bitOf t.pr.banks[x].mfcause.toNat 31 = true ∧
      t.pr.banks[x].x = s.pr.banks[x].x ∧ s.onlyChanges t [.pr]) ∧
    (∀ (addr : Word) (size : Fin 3) (v : Word), addr.toNat % (accBytes size) = 0 → isPeriph addr.toNat = false →
      s.check { tenant := x, umode := s.pr.banks[x].dataUser } .store addr.toNat (accBytes size) = none → (isRam addr.toNat = true →
      s.wordErr addr.toNat = 0) → s.get MEMERR_INJ_MODE = 0 → ∃ t, exec (.store c addr size v) s = .next t ∧
      t.memBytes addr.toNat (accBytes size) = leBytes (accBytes size) (v.toNat % 2 ^ (8 * accBytes size)) ∧
      s.keepsBytes t addr.toNat (accBytes size) ∧ t.pr.banks = s.pr.banks ∧ s.onlyChanges t [.mem, .memErr, .pr]) ∧
    (∀ (addr : Word) (size : Fin 3) (v : Word), addr.toNat % accBytes size ≠ 0 → isPeriph addr.toNat = false → s.faultHeld x = false →
      s.pr.banks[x].exc < 15 → ∃ t, exec (.store c addr size v) s = .next t ∧ s.trapped t x 6 ∧ t.pr.banks[x].mtval = addr ∧
      t.mem = s.mem ∧ s.onlyChanges t [.pr]) ∧
    (∀ (addr : Word) (size : Fin 3) (v : Word) (r_ win : Nat), addr.toNat % accBytes size = 0 → isPeriph addr.toNat = false →
      s.check { tenant := x, umode := s.pr.banks[x].dataUser } .store addr.toNat (accBytes size) = some (r_, win) → 1 ≤ r_ → r_ ≤ 7 →
      s.faultHeld x = false → s.pr.banks[x].exc < 15 → ∃ t, exec (.store c addr size v) s = .next t ∧ s.trapped t x 7 ∧
      t.pr.banks[x].mfaddr = addr ∧ bitsOf t.pr.banks[x].mfcause.toNat 3 0 = r_ ∧ t.mem = s.mem ∧ s.onlyChanges t [.pr]) ∧
    (∀ (op : Fin 9) (addr v : Word) (rd : Fin 32), addr.toNat % (4) = 0 → isPeriph addr.toNat = false →
      s.check { tenant := x, umode := s.pr.banks[x].dataUser } .amo addr.toNat (4) = none → (isRam addr.toNat = true →
      s.wordErr addr.toNat = 0) → s.get MEMERR_INJ_MODE = 0 → ∃ t, exec (.amo c op addr v rd) s = .next t ∧
      s.setsX t x rd (BitVec.ofNat 32 (leNat (s.memBytes addr.toNat 4))) ∧
      t.memBytes addr.toNat 4 = leBytes 4 (amoResult op (BitVec.ofNat 32 (leNat (s.memBytes addr.toNat 4))) v).toNat ∧
      s.keepsBytes t addr.toNat 4 ∧ s.onlyChanges t [.mem, .memErr, .pr]) ∧
    (∀ (addr : Word) (rd : Fin 32), addr.toNat % (4) = 0 → isPeriph addr.toNat = false →
      s.check { tenant := x, umode := s.pr.banks[x].dataUser } .lr addr.toNat (4) = none → (isRam addr.toNat = true →
      s.wordErr addr.toNat = 0) → ∃ t, exec (.loadReserved c addr rd) s = .next t ∧
      s.setsX t x rd (BitVec.ofNat 32 (leNat (s.memBytes addr.toNat 4))) ∧ t.pr.cores[c].res = some addr.toNat ∧
      t.rdata = leNat (s.memBytes addr.toNat 4) ∧ s.onlyChanges t [.rdata, .pr]) ∧
    (∀ (addr v : Word) (rd : Fin 32), addr.toNat % (4) = 0 → isPeriph addr.toNat = false →
      s.check { tenant := x, umode := s.pr.banks[x].dataUser } .sc addr.toNat (4) = none → s.pr.cores[c].res = some addr.toNat →
      s.get MEMERR_INJ_MODE = 0 → ∃ t, exec (.storeConditional c addr v rd) s = .next t ∧ s.setsX t x rd 0 ∧
      t.memBytes addr.toNat 4 = leBytes 4 v.toNat ∧ s.keepsBytes t addr.toNat 4 ∧ t.pr.cores[c].res = none ∧ s.onlyChanges t [.mem,
      .memErr, .pr]) ∧
    (∀ (addr v : Word) (rd : Fin 32), addr.toNat % (4) = 0 → isPeriph addr.toNat = false →
      s.check { tenant := x, umode := s.pr.banks[x].dataUser } .sc addr.toNat (4) = none → s.pr.cores[c].res ≠ some addr.toNat → ∃ t,
      exec (.storeConditional c addr v rd) s = .next t ∧ s.setsX t x rd 1 ∧ t.mem = s.mem ∧ t.pr.cores[c].res = none ∧
      s.onlyChanges t [.pr])

/-- A permitted fetch of halfwords the cache does not hold moves the pc and gives the instruction; FENCE.I empties the cache. A CSR that
may be accessed gives its old value, and mscratch takes the new one; one that does not exist is an illegal instruction. WFI makes the
background wait, in a handler it does nothing. MRET ends an exception, or the handler whose source is no longer active. Illegal
instructions and EBREAK are exceptions 2 and 3. A slice that expires rotates the backgrounds. The best eligible source is taken: PEND
clears, ACTIVE sets, its tenant enters at its vector. Some clauses rest on readings of the model: log entries 4 and 47. (R123, R124, R126,
R128, R133, R134, R157, R161, R162, R164, R165, R166). -/
def Obligations.CoreFlow : Prop :=
  ∀ (s : State) (c : Fin 4) (x : Fin 8), s.runs c x →
    (∀ (addr : Word) (wide : Bool), wide = false →
      s.check { tenant := x, umode := s.pr.banks[x].umode } .fetch (addr.toNat / 2 * 2) 2 = none → (∀ k : Fin 2,
      isRam (addr.toNat / 2 * 2 + 2 * k) = true → s.wordErr (addr.toNat / 2 * 2 + 2 * k) = 0) →
      (∀ k : Fin 2, (s.pr.cores[c].icache.find? fun e => e.1 == addr.toNat / 2 * 2 + 2 * k) = none) → ∃ t,
      exec (.instructionFetch c addr wide) s = .next t ∧ t.rdata = leNat (s.memBytes (addr.toNat / 2 * 2) 2) ∧
      t.pr.banks[x].pc = BitVec.ofNat 32 (addr.toNat / 2 * 2) ∧ s.onlyChanges t [.rdata, .pr]) ∧
    (∀ (addr : Word) (wide : Bool), wide = true → addr.toNat / 2 * 2 % 4096 ≠ 4094 →
      s.check { tenant := x, umode := s.pr.banks[x].umode } .fetch (addr.toNat / 2 * 2) 4 = none → (∀ k : Fin 2,
      isRam (addr.toNat / 2 * 2 + 2 * k) = true → s.wordErr (addr.toNat / 2 * 2 + 2 * k) = 0) →
      (∀ k : Fin 2, (s.pr.cores[c].icache.find? fun e => e.1 == addr.toNat / 2 * 2 + 2 * k) = none) → ∃ t,
      exec (.instructionFetch c addr wide) s = .next t ∧ t.rdata = leNat (s.memBytes (addr.toNat / 2 * 2) 4) ∧
      t.pr.banks[x].pc = BitVec.ofNat 32 (addr.toNat / 2 * 2) ∧ s.onlyChanges t [.rdata, .pr]) ∧
    (∀ (addr : Word) (wide : Bool) (r_ win : Nat), wide = false →
      s.check { tenant := x, umode := s.pr.banks[x].umode } .fetch (addr.toNat / 2 * 2) 2 = some (r_, win) → r_ ≠ 8 →
      s.faultHeld x = false → s.pr.banks[x].exc < 15 → ∃ t, exec (.instructionFetch c addr wide) s = .next t ∧ t.pr.banks[x].mcause = 1 ∧
      t.pr.banks[x].mepc = BitVec.ofNat 32 (addr.toNat / 2 * 2) ∧ t.pr.banks[x].mfaddr = BitVec.ofNat 32 (addr.toNat / 2 * 2) ∧
      t.rdata = s.rdata ∧ s.onlyChanges t [.pr]) ∧
    (∃ t, exec (.fenceI c) s = .next t ∧ t.pr.cores[c].icache = [] ∧ t.pr.banks = s.pr.banks ∧ (∀ d : Fin 4, d ≠ c →
      t.pr.cores[d] = s.pr.cores[d]) ∧ s.onlyChanges t [.pr]) ∧
    (∀ (csr : BitVec 12) (op : Fin 3) (src old : Word) (z : Bool) (rd : Fin 32), s.csrRead c x csr.toNat = some old →
      s.pr.banks[x].csrBars csr.toNat (op == 0 || !z) = false → ∃ t, exec (.csrAccess c csr op src z rd) s = .next t ∧ s.setsX t x rd old ∧
      t.rdata = old.toNat ∧ (∀ y : Fin 8, y ≠ x → t.pr.banks[y] = s.pr.banks[y]) ∧ s.onlyChanges t [.freeCtr, .rdata, .pr]) ∧
    (∀ (csr : BitVec 12) (op : Fin 3) (src : Word) (z : Bool) (rd : Fin 32), csr = 0x340 → z = false → s.pr.banks[x].umode = false → ∃ t,
      exec (.csrAccess c csr op src z rd) s = .next t ∧ s.setsX t x rd s.pr.banks[x].mscratch ∧
      (t.pr.banks[x].mscratch = (match op with | 0 => src | 1 => s.pr.banks[x].mscratch ||| src | 2 => s.pr.banks[x].mscratch &&& ~~~src)) ∧
      t.rdata = s.pr.banks[x].mscratch.toNat ∧ s.onlyChanges t [.freeCtr, .rdata, .pr]) ∧
    (∀ (csr : BitVec 12) (op : Fin 3) (src : Word) (z : Bool) (rd : Fin 32), csr = 0x7C0 → op ≠ 0 → z = true →
      s.pr.banks[x].umode = false → ∃ t, exec (.csrAccess c csr op src z rd) s = .next t ∧ s.setsX t x rd (BitVec.ofNat 32 x.1) ∧
      t.rdata = x.1 ∧ s.onlyChanges t [.freeCtr, .rdata, .pr]) ∧
    (∀ (csr : BitVec 12) (op : Fin 3) (src : Word) (z : Bool) (rd : Fin 32),
      (s.csrRead c x csr.toNat = none ∨ s.pr.banks[x].csrBars csr.toNat (op == 0 || !z) = true) → s.pr.banks[x].exc < 15 → ∃ t,
      exec (.csrAccess c csr op src z rd) s = .next t ∧ s.trapped t x 2 ∧ t.pr.banks[x].x = s.pr.banks[x].x ∧ s.onlyChanges t [.freeCtr,
      .pr]) ∧
    (s.pr.banks[x].umode = false → s.pr.cores[c].stack = [] → s.pr.cores[c].back = some x → s.bootDone = true → ∃ t,
      exec (.wfi c) s = .next t ∧ t.waiting.getLsbD x = true ∧ t.pr.cores[c].run ≠ some x ∧ s.onlyChanges t [.waiting, .pr]) ∧
    (s.pr.banks[x].umode = false → s.pr.cores[c].stack ≠ [] → ∃ t, exec (.wfi c) s = .next t ∧ t = s) ∧
    (s.pr.banks[x].umode = false → 1 ≤ s.pr.banks[x].exc → ∃ t, exec (.mret c) s = .next t ∧ t.pr.banks[x].pc = s.pr.banks[x].mepc ∧
      t.pr.banks[x].umode = (fieldOf s.pr.banks[x].mstatus 12 11 == 0) ∧
      bitOf t.pr.banks[x].mstatus.toNat 3 = bitOf s.pr.banks[x].mstatus.toNat 7 ∧ t.pr.banks[x].exc = s.pr.banks[x].exc - 1 ∧
      t.pr.cores = s.pr.cores ∧ s.onlyChanges t [.pr]) ∧
    (∀ (e : EvEntry) (l : List EvEntry), s.pr.banks[x].umode = false → s.pr.banks[x].exc = 0 → s.pr.cores[c].stack = e :: l → ∃ t,
      exec (.mret c) s = .next t ∧ t.pr.banks[x].pc = s.pr.banks[x].mepc ∧
      t.pr.banks[x].umode = (fieldOf s.pr.banks[x].mstatus 12 11 == 0) ∧
      bitOf t.pr.banks[x].mstatus.toNat 3 = bitOf s.pr.banks[x].mstatus.toNat 7 ∧ t.get (EVT_CTL_ACTIVE e.src) = 0 ∧
      t.pr.cores[c].stack = l ∧ s.onlyChanges t [.pr, .regs 3] ∧ s.keepsRegs t 3 [EVT_CTL e.src]) ∧
    (s.pr.banks[x].exc < 15 → ∃ t, exec (.illegalInstruction c) s = .next t ∧ s.trapped t x 2 ∧ t.pr.banks[x].x = s.pr.banks[x].x ∧
      t.pr.cores[c].res = none ∧ s.onlyChanges t [.freeCtr, .pr]) ∧
    (s.pr.banks[x].exc < 15 → ∃ t, exec (.ebreak c) s = .next t ∧ s.trapped t x 3 ∧ t.pr.banks[x].x = s.pr.banks[x].x ∧
      t.pr.cores[c].res = none ∧ s.onlyChanges t [.freeCtr, .pr]) ∧
    (15 ≤ s.pr.banks[x].exc → x ≠ 0 → ∃ t, exec (.illegalInstruction c) s = .next t ∧
      t.get TWU_KILL_COUNT = satInc (2 ^ TWU_KILL_COUNT.width - 1) (s.get TWU_KILL_COUNT) ∧ t.pr.banks[x].exc = 0 ∧
      t.pr.banks[x].pc = s.reg (TEN_ENTRY x) &&& 0xFFFFFFFE ∧ s.onlyChanges t (Part.withRegs [.freeCtr, .wire, .axes, .ports, .waiting,
      .srv, .cp, .eng, .gain, .route, .tension, .lio, .ring, .pr, .store])) ∧
    (s.pr.cores[c].stack = [] → ((s.nextBack c (match s.pr.cores[c].back with | some b => b.1 | none => 7)).isSome = true) → ∃ t,
      exec (.backgroundSliceExpiry c) s = .next t ∧
      (t.pr.cores[c].back = s.nextBack c (match s.pr.cores[c].back with | some b => b.1 | none => 7)) ∧ t.pr.banks = s.pr.banks ∧
      s.onlyChanges t [.pr]) ∧
    (∀ (pc : Word) (e : Nat) (y : Fin 8), s.bestSrc c = some e → e < 768 → y = s.srcTenant e → ∃ t, exec (.eventEntry c pc) s = .next t ∧
      t.get (EVT_CTL_PEND e) = 0 ∧ t.get (EVT_CTL_ACTIVE e) = 1 ∧ t.pr.cores[c].stack = ⟨s.get (EVT_ROUTE_LEVEL e), y,
      e⟩ :: s.pr.cores[c].stack ∧ t.pr.cores[c].run = some y ∧ t.pr.banks[y].mcause = 0x8000000B ∧ t.waiting.getLsbD y = false ∧ (y = x →
      t.pr.banks[x].mepc = pc) ∧ s.onlyChanges t [.waiting, .pr, .regs 3] ∧ s.keepsRegs t 3 [EVT_CTL e]) ∧
    (∀ (pc : Word), s.bestSrc c = none → ∃ t, exec (.eventEntry c pc) s = .next t ∧ t = s)

/-- The scrubber reads its next word, correcting a single error. An injection is armed by a tenant that owns it, with a mode other than
3, in the SERVICE condition. START runs an idle channel of its owner from DMA_DESC, STOP and RESUME stop and go on, ABANDON discards a
stopped one; out of place they set CMDREF, from another tenant they are counted. A fetched descriptor that is valid sets the channel up,
an invalid one stops it with code 9. The granted beat copies its unit from source to destination. Some clauses rest on readings of the
model: log entries 37 and 48. (R142, R153, R154, R170, R172, R173, R174, R175, R176, R178, R179). -/
def Obligations.MemoryAndDma : Prop :=
  ∀ (s : State), s.up = true →
    (s.get MEMERR_SCRUB_EN = 1 → (sparseWf (fun _ => 0) 0 s.memErr = true) → ∃ t, exec (.scrubRead) s = .next t ∧
      (t.pr.scrub = (if s.pr.scrub + 1 < s.tcmWords + 1048576 then s.pr.scrub + 1 else 0)) ∧ t.mem = s.mem ∧ (isRam s.scrubAddr = true →
      s.wordErr s.scrubAddr = 1 → t.wordErr s.scrubAddr = 0) ∧ s.onlyChanges t [.freeCtr, .memErr, .pr, .regs 2, .regs 3]) ∧
    (∀ (ten : Fin 8) (c : Fin 4) (mode : BitVec 2), c.1 < s.nCores → bitOf (s.get (TEN_OWN_OWN ten)) 0 = true → s.bootDone = true →
      mode ≠ 3 → s.serviceNow = true → ∃ t, exec (.memerrInject ten c mode) s = .next t ∧ t.get MEMERR_INJ_MODE = mode.toNat ∧
      t.pr.injCore = some c ∧ s.onlyChanges t [.pr, .regs 2]) ∧
    (∀ (ten : Fin 8) (c : Fin 4) (mode : BitVec 2), c.1 < s.nCores → bitOf (s.get (TEN_OWN_OWN ten)) 0 = false → s.bootDone = true → ∃ t,
      exec (.memerrInject ten c mode) s = .next t ∧ t.get MEMERR_INJ_MODE = s.get MEMERR_INJ_MODE ∧
      t.get TWU_PWCNT_COUNT = satInc 65535 (s.get TWU_PWCNT_COUNT) ∧ s.onlyChanges t [.srv, .regs 2, .regs 3]) ∧
    (∀ (ten : Fin 8) (c : Fin 32), c.1 < s.nDma → s.dmaMay ten c = true → s.get (DMA_STAT_STATE c) = 0 → ∃ t,
      exec (.dmaStart ten c) s = .next t ∧ t.get (DMA_STAT_STATE c) = 1 ∧ t.pr.dma[c].fetch = true ∧
      t.pr.dma[c].desc = (s.reg (DMA_DESC c)).toNat / 16 * 16 ∧ (∀ d : Fin 32, d ≠ c → t.pr.dma[d] = s.pr.dma[d]) ∧ s.onlyChanges t [.pr,
      .regs 4] ∧ s.keepsRegs t 4 [DMA_STAT c]) ∧
    (∀ (ten : Fin 8) (c : Fin 32), c.1 < s.nDma → s.dmaMay ten c = true → s.get (DMA_STAT_STATE c) ≠ 0 → ∃ t,
      exec (.dmaStart ten c) s = .next t ∧ t.get (DMA_FLAGS_CMDREF c) = 1 ∧ t.pr = s.pr ∧ s.onlyChanges t [.regs 4] ∧
      s.keepsRegs t 4 [DMA_FLAGS c]) ∧
    (∀ (ten : Fin 8) (c : Fin 32), c.1 < s.nDma → s.dmaMay ten c = false → ∃ t, exec (.dmaStart ten c) s = .next t ∧
      t.get DMA_FOREIGN_LASTCH = c.1 ∧ t.get DMA_FOREIGN_COUNT = satInc 65535 (s.get DMA_FOREIGN_COUNT) ∧ t.pr = s.pr ∧
      s.onlyChanges t [.regs 3, .regs 4] ∧ s.keepsRegs t 4 [DMA_FOREIGN]) ∧
    (∀ (ten : Fin 8) (c : Fin 32), c.1 < s.nDma → s.dmaMay ten c = true → s.get (DMA_STAT_STATE c) = 1 → ∃ t,
      exec (.dmaStop ten c) s = .next t ∧ t.get (DMA_STAT_STATE c) = 2 ∧ t.get (DMA_STAT_CODE c) = 6 ∧ t.get (DMA_FLAGS_STOP c) = 1 ∧
      t.get (DMA_RES_CNT_CNT c) = s.pr.dma[c].cnt % 65536 ∧ s.onlyChanges t [.pr, .regs 4]) ∧
    (∀ (ten : Fin 8) (c : Fin 32), c.1 < s.nDma → s.dmaMay ten c = true → s.get (DMA_STAT_STATE c) = 2 → s.get (DMA_RES_CNT_CNT c) ≠ 0 →
      s.marked (.dmaReset c) = false →
      ∃ t, exec (.dmaResume ten c) s = .next t ∧ t.get (DMA_STAT_STATE c) = 1 ∧ t.pr.dma[c].src = (s.reg (DMA_RES_SRC c)).toNat ∧
      t.pr.dma[c].dst = (s.reg (DMA_RES_DST c)).toNat ∧ t.pr.dma[c].cnt = s.get (DMA_RES_CNT_CNT c) ∧ s.onlyChanges t [.pr, .regs 4] ∧
      s.keepsRegs t 4 [DMA_STAT c]) ∧
    (∀ (ten : Fin 8) (c : Fin 32), c.1 < s.nDma → s.dmaMay ten c = true → s.get (DMA_STAT_STATE c) = 2 → ∃ t,
      exec (.dmaAbandon ten c) s = .next t ∧ t.get (DMA_STAT_STATE c) = 0 ∧ t.get (DMA_STAT_CODE c) = 8 ∧ t.reg (DMA_RES_SRC c) = 0 ∧
      t.reg (DMA_RES_CNT c) = 0 ∧ s.onlyChanges t [.pr, .regs 4]) ∧
    (∀ (c : Fin 32), s.get (DMA_STAT_STATE c) = 1 → s.pr.dma[c].fetch = true → isPeriph s.pr.dma[c].desc = false →
      isPeriph (s.pr.dma[c].desc + 12) = false → (∀ k : Fin 4, isPeriph (s.pr.dma[c].desc + 4 * k) = false ∧
      s.check (s.dmaBy_ c) .load (s.pr.dma[c].desc + 4 * k) 4 = none ∧ (isRam (s.pr.dma[c].desc + 4 * k) = true →
      s.wordErr (s.pr.dma[c].desc + 4 * k) = 0)) →
      descOk (leNat (s.memBytes (s.pr.dma[c].desc + 0) 4)) (leNat (s.memBytes (s.pr.dma[c].desc + 4) 4)) (leNat (s.memBytes (s.pr.dma[c].desc + 8) 4)) (leNat (s.memBytes (s.pr.dma[c].desc + 12) 4)) = true →
      ∃ t, exec (.dmaDescriptorFetch c) s = .next t ∧ t.pr.dma[c].fetch = false ∧
      t.pr.dma[c].src = leNat (s.memBytes (s.pr.dma[c].desc + 0) 4) ∧ t.pr.dma[c].dst = leNat (s.memBytes (s.pr.dma[c].desc + 4) 4) ∧
      t.pr.dma[c].cnt = leNat (s.memBytes (s.pr.dma[c].desc + 8) 4) % 65536 ∧
      t.pr.dma[c].next = leNat (s.memBytes (s.pr.dma[c].desc + 12) 4) ∧ t.get (DMA_STAT_STATE c) = 1 ∧ s.onlyChanges t [.pr]) ∧
    (∀ (c : Fin 32), s.get (DMA_STAT_STATE c) = 1 → s.pr.dma[c].fetch = true → isPeriph s.pr.dma[c].desc = false →
      isPeriph (s.pr.dma[c].desc + 12) = false → (∀ k : Fin 4, isPeriph (s.pr.dma[c].desc + 4 * k) = false ∧
      s.check (s.dmaBy_ c) .load (s.pr.dma[c].desc + 4 * k) 4 = none ∧ (isRam (s.pr.dma[c].desc + 4 * k) = true →
      s.wordErr (s.pr.dma[c].desc + 4 * k) = 0)) →
      descOk (leNat (s.memBytes (s.pr.dma[c].desc + 0) 4)) (leNat (s.memBytes (s.pr.dma[c].desc + 4) 4)) (leNat (s.memBytes (s.pr.dma[c].desc + 8) 4)) (leNat (s.memBytes (s.pr.dma[c].desc + 12) 4)) = false →
      ∃ t, exec (.dmaDescriptorFetch c) s = .next t ∧ t.get (DMA_STAT_STATE c) = 2 ∧ t.get (DMA_STAT_CODE c) = 9 ∧
      t.get (DMA_FLAGS_STOP c) = 1 ∧ t.pr.dma[c].fetch = true ∧ s.onlyChanges t [.pr, .regs 3, .regs 4]) ∧
    (∀ (k : Fin 4) (c : Fin 32), s.dmaGrant = some (k, c) → isPeriph s.pr.dma[c].src = false → isPeriph s.pr.dma[c].dst = false →
      s.check (s.dmaBy_ c) .load s.pr.dma[c].src (2 ^ bitsOf s.pr.dma[c].ctrl 17 16) = none →
      s.check (s.dmaBy_ c) .store s.pr.dma[c].dst (2 ^ bitsOf s.pr.dma[c].ctrl 17 16) = none → (isRam s.pr.dma[c].src = true →
      s.wordErr s.pr.dma[c].src = 0) → (isRam s.pr.dma[c].dst = true → s.wordErr s.pr.dma[c].dst = 0) → 1 < s.pr.dma[c].cnt →
      bitsOf s.pr.dma[c].ctrl 17 16 ≤ 2 → ∃ t, exec (.dmaBeat) s = .next t ∧
      t.memBytes s.pr.dma[c].dst (2 ^ bitsOf s.pr.dma[c].ctrl 17 16) = leBytes (2 ^ bitsOf s.pr.dma[c].ctrl 17 16) (leNat (s.memBytes s.pr.dma[c].src (2 ^ bitsOf s.pr.dma[c].ctrl 17 16))) ∧
      s.keepsBytes t s.pr.dma[c].dst (2 ^ bitsOf s.pr.dma[c].ctrl 17 16) ∧ t.pr.dma[c].cnt = s.pr.dma[c].cnt - 1 ∧
      (t.pr.dma[c].src = (if bitOf s.pr.dma[c].ctrl 18 then s.pr.dma[c].src else (s.pr.dma[c].src + (2 ^ bitsOf s.pr.dma[c].ctrl 17 16)) % 2 ^ 32)) ∧
      (t.pr.dma[c].dst = (if bitOf s.pr.dma[c].ctrl 19 then s.pr.dma[c].dst else (s.pr.dma[c].dst + (2 ^ bitsOf s.pr.dma[c].ctrl 17 16)) % 2 ^ 32)) ∧
      t.pr.dmaLast[k] = c.1 ∧ t.get (DMA_STAT_STATE c) = 1 ∧ s.onlyChanges t [.mem, .memErr, .pr]) ∧
    (∀ (k : Fin 4) (c : Fin 32) (r_ win : Nat), s.dmaGrant = some (k, c) →
      s.check (s.dmaBy_ c) .load s.pr.dma[c].src (2 ^ bitsOf s.pr.dma[c].ctrl 17 16) = some (r_, win) → ∃ t,
      exec (.dmaBeat) s = .next t ∧ t.get (DMA_STAT_STATE c) = 2 ∧ t.get (DMA_STAT_CODE c) = 2 ∧
      t.reg (DMA_FAULT_ADDR c) = BitVec.ofNat 32 s.pr.dma[c].src ∧ t.get (DMA_FAULT_INFO_REASON c) = r_ % 16 ∧ t.mem = s.mem ∧
      s.onlyChanges t [.pr, .regs 3, .regs 4]) ∧
    (s.dmaGrant = none → ∃ t, exec (.dmaBeat) s = .next t ∧ t = s)

/-- A satellite out of reset that receives SRESET with payload 0xA5_5A00 answers and holds the reset due; the select release then turns
both gates off, drops events, conversion and run, takes every register to its reset value with BOOT 1 and CONFIG_DONE 0 and the last good
counter 0, and sets SRST. Any other payload is refused with CMDERR and makes no reset due. (R248). -/
def Obligations.SresetKey : Prop :=
  ∀ (s : State) (p : Fin 6) (k : Fin 8) (f : CmdFrame), (s.sat p k).inReset = false →
    ((s.sat p k).frame = .idle → ∃ t, exec (.satSreset p k f 0xA55A00) s = .next t ∧
      t.sat p k = { s.heard p k f with srstDue := true, driving := true } ∧
      s.replied t p k (frameWord f.alive (s.heard p k f).status ((s.heard p k f).statePayload false)) ∧
      s.keepsOtherSats t p k ∧ s.onlyChanges t [.wire, .sats]) ∧
    ((s.sat p k).frame = .idle → ∀ (payload : BitVec 24), payload ≠ 0xA55A00 → ∃ t, exec (.satSreset p k f payload) s = .next t ∧
      (t.sat p k).cmdErr = true ∧ (t.sat p k).cmdCnt = satInc 255 (s.sat p k).cmdCnt ∧ (t.sat p k).srstDue = (s.sat p k).srstDue ∧
      s.keepsOtherSats t p k ∧ s.onlyChanges t [.wire, .sats]) ∧
    ((s.sat p k).srstDue = true → ∃ t, exec (.satSelectRelease p k) s = .next t ∧ t.sat p k = (s.sat p k).reset true ∧
      (t.sat p k).srst = true ∧ (t.sat p k).high.on = false ∧ (t.sat p k).low.on = false ∧ (t.sat p k).events = [] ∧
      (t.sat p k).conv = none ∧ (t.sat p k).diag = none ∧ (t.sat p k).boot = true ∧ (t.sat p k).done = false ∧ (t.sat p k).lastGood = 0 ∧
      (t.sat p k).lastBad = false ∧ s.keepsOtherSats t p k ∧ s.onlyChanges t [.sats])

/-- For a satellite out of reset with CONFIG_DONE set and a WRITE in form to a register of the configuration set: with both gates off, no
event pending and no profile running at the end of its command (hsck 81 of its slot) it is accepted and read back; with any of these not
so it is refused with CMDERR and no register of the set changes. (R246). -/
def Obligations.ConfigurationSetGuard : Prop :=
  ∀ (s : State) (p : Fin 6) (k : Fin 8) (f : CmdFrame) (payload : BitVec 24) (cmp : Bool) (a b v m : Nat),
    s.listens p k → (s.sat p k).done = true → payload.toNat = a * 65536 + v → v < 65536 → satSetBit a = some b →
    satWritable a = some m → v &&& (0xFFFF ^^^ m) = 0 → satInRange a v = true →
    ((s.sat p k).high.on = false → (s.sat p k).low.on = false → (s.sat p k).events = [] → (s.sat p k).high.profEnd ≤ f.t + 81 →
      (s.sat p k).low.profEnd ≤ f.t + 81 → ∃ t, exec (.satWrite p k f.t f.alive payload cmp) s = .next t ∧ (t.sat p k).readReg a = some v ∧
      (t.sat p k).cmdErr = false ∧ (t.sat p k).lastGood = f.alive ∧ s.keepsOtherSats t p k ∧ s.onlyChanges t [.wire, .sats]) ∧
    ((¬ ((s.sat p k).high.on = false ∧ (s.sat p k).low.on = false ∧ (s.sat p k).events = [] ∧ (s.sat p k).high.profEnd ≤ f.t + 81 ∧
      (s.sat p k).low.profEnd ≤ f.t + 81)) → ∃ t, exec (.satWrite p k f.t f.alive payload cmp) s = .next t ∧ (t.sat p k).cmdErr = true ∧
      (t.sat p k).cmdCnt = satInc 255 (s.sat p k).cmdCnt ∧ (∀ x : Nat, (satSetBit x).isSome = true →
      (t.sat p k).readReg x = (s.sat p k).readReg x) ∧ s.keepsOtherSats t p k ∧ s.onlyChanges t [.wire, .sats])

/-- With the supervisor powered, at the moment the channels of a present guard have disagreed for more than 100 ms (the command stands
for that moment), lock-out is latched with cause GUARD_DISCREPANCY, number 2, and the guard as its index, and the channels go to their
safe levels. (R53). -/
def Obligations.GuardDiscrepancy : Prop :=
  ∀ (s : State) (g : Fin 4), s.bg.powered = true → bitOf (s.guard g) 0 = true → s.grdOpen g false ≠ s.grdOpen g true →
    (∃ t, exec (.guardDiscrepancyTimeout g) s = .next t ∧ s.lockedOut t 2 g ∧ s.onlyChanges t [.sys, .bg, .axes, .ports, .srv, .cp, .eng,
      .lio, .regs 0, .regs 1, .regs 3, .regs 17, .regs 24, .regs 26])

/-- On a unit that runs, a write of 0x0000_5E7A to SYS_RST registers the software reset: its flag in RST_CAUSE, and the pre-reset phase
begins. A write of any other value leaves the whole state as it is, in every state. (R98). -/
def Obligations.SystemResetRegister : Prop :=
  ∀ (s : State) (v : Word),
    (s.up = true → v = 0x00005E7A → ∃ t, exec (.softwareSystemReset v) s = .next t ∧ s.inPreReset t .software ∧ s.onlyChanges t [.wire,
      .sys, .bg, .axes, .ports, .srv, .cp, .eng, .lio, .ring, .pr, .regs 0, .regs 1, .regs 3, .regs 4, .regs 17, .regs 20, .regs 21,
      .regs 24, .regs 26]) ∧
    (v ≠ 0x00005E7A → ∃ t, exec (.softwareSystemReset v) s = .next t ∧ t = s)

/-- For every state, command and rest of a queue, a step with that command in front is exec of it on the state whose queue is the rest.
On an empty queue (the model's choice, log entry 2) real time moves by one 4 ns unit, FB_TIME counts one edge while CLKS runs and
otherwise stays, and memory, axes, ports, satellites and the supervisor, and the registers where no stop of a DMA channel is due to
strobe, stay as they are. (R5, R322). -/
def Obligations.StepRunsTheFrontCommand : Prop :=
  (∀ (s : State) (c : Instr) (rest : List Instr),
      step { s with pending := c :: rest } = exec c { s with pending := rest }) ∧
  (∀ s : State, s.pending = [] → ∃ t, step s = .next t ∧ t.pending = [] ∧ t.time = s.time + 1 ∧
      t.clk = (if s.clocked = true then s.clk + 1 else s.clk) ∧ (s.pr.dmaDue = [] → t.regs = s.regs) ∧ t.mem = s.mem ∧ t.axes = s.axes ∧
      t.ports = s.ports ∧ t.sats = s.sats ∧ t.bg = s.bg ∧ t.sys = s.sys ∧ t.member = s.member ∧ t.wire = s.wire)

/-- At State.reset every sparse store is canonical and every FIFO is empty; the queue is empty, the unit is an HX9 without power, every
register reads its reset value (where the manual gives none, the value of log entry 6), HALT_N is low, GPE_N high and the permit
withdrawn, every port is OFF and every axis in SAFE. (R24, R30, R37, R92, R104). -/
def Obligations.ResetIsSound : Prop :=
  Sound State.reset ∧ State.reset.pending = [] ∧ State.reset.member = .hx9 ∧ State.reset.sys.phase = .off ∧
    (∀ a : Nat, State.reset.reg a = resetWord a) ∧ State.reset.cutLevels ∧
    (∀ p : Fin 6, State.reset.ports[p].st = .off) ∧ (∀ a : Fin 8, State.reset.isSafe a = true)

/-- Whatever command is in front, with whatever operands, and on an empty queue, a step from a sound state answers a next state, never a
fault and never a refusal. In it every sparse store (registers, memory, memory errors, holding copies, tag blocks, objects) is again in
its one canonical form and no FIFO is longer than the manual lets it be; the queue is the rest of the queue, the member is the same, and
a command takes no time of its own (log entry 2). (R6, R30, R202, R208, R351, R416, R500, R504). -/
def Obligations.EveryStepKeepsSoundness : Prop :=
  ∀ s : State, Sound s → ∃ t, step s = .next t ∧ Sound t ∧ t.pending = s.pending.tail ∧ t.member = s.member ∧
    (s.pending ≠ [] → t.time = s.time)
end

