-- ==== Sys2Proof/Laws/Sparse.lean ====
section
/-! SUPPORT. Sparse stores: read after write, and every operation keeps the canonical form. -/

set_option Elab.async false

namespace Sys2Proof.Machine

variable {α : Type}

theorem sparseGet_drop_same (d : α) (k : Nat) (m : List (Nat × α)) : sparseGet d k (sparseDrop k m) = d := by
  induction m with
  | nil => rfl
  | cons e t ih =>
    obtain ⟨k', v⟩ := e
    simp only [sparseDrop]
    split
    · exact ih
    · simp only [sparseGet]; split
      · contradiction
      · exact ih

theorem sparseGet_drop_ne (d : α) {j k : Nat} (h : j ≠ k) (m : List (Nat × α)) :
    sparseGet d j (sparseDrop k m) = sparseGet d j m := by
  induction m with
  | nil => rfl
  | cons e t ih =>
    obtain ⟨k', v⟩ := e
    simp only [sparseDrop, sparseGet]
    split
    · subst_vars; rw [if_neg (Ne.symm h)]; exact ih
    · simp only [sparseGet]; rw [ih]

theorem sparseGet_ins_same (d : α) (k : Nat) (v : α) (m : List (Nat × α)) (h : ∀ e ∈ m, e.1 ≠ k) :
    sparseGet d k (sparseIns k v m) = v := by
  induction m with
  | nil => simp [sparseIns, sparseGet]
  | cons e t ih =>
    obtain ⟨k', v'⟩ := e
    simp only [sparseIns]
    split
    · simp [sparseGet]
    · have hk : k' ≠ k := h (k', v') (by simp)
      simp only [sparseGet, if_neg hk]
      exact ih fun e he => h e (by simp [he])

theorem sparseGet_ins_ne (d : α) {j k : Nat} (hj : j ≠ k) (v : α) (m : List (Nat × α)) :
    sparseGet d j (sparseIns k v m) = sparseGet d j m := by
  induction m with
  | nil => simp [sparseIns, sparseGet, Ne.symm hj]
  | cons e t ih =>
    obtain ⟨k', v'⟩ := e
    simp only [sparseIns]
    split
    · simp [sparseGet, Ne.symm hj]
    · simp only [sparseGet, ih]

theorem sparseDrop_keys (k : Nat) (m : List (Nat × α)) : ∀ e ∈ sparseDrop k m, e.1 ≠ k := by
  induction m with
  | nil => simp [sparseDrop]
  | cons e t ih =>
    obtain ⟨k', v⟩ := e
    simp only [sparseDrop]
    split
    · exact ih
    · intro e he
      rcases List.mem_cons.1 he with rfl | he
      · assumption
      · exact ih e he

/-- A read after a write to the same key gives the value written. -/
theorem sparseGet_set_same [DecidableEq α] (d : α) (k : Nat) (v : α) (m : List (Nat × α)) :
    sparseGet d k (sparseSet d k v m) = v := by
  unfold sparseSet
  split
  · subst_vars; exact sparseGet_drop_same _ k m
  · exact sparseGet_ins_same d k v _ (sparseDrop_keys k m)

/-- A write leaves every other key alone. -/
theorem sparseGet_set_ne [DecidableEq α] (d d' : α) {j k : Nat} (h : j ≠ k) (v : α) (m : List (Nat × α)) :
    sparseGet d' j (sparseSet d k v m) = sparseGet d' j m := by
  unfold sparseSet
  split
  · exact sparseGet_drop_ne d' h m
  · rw [sparseGet_ins_ne d' h, sparseGet_drop_ne d' h]

/-! ### The canonical form -/

variable [DecidableEq α]

theorem sparseWf_mono {d : Nat → α} {lo hi : Nat} (h : lo ≤ hi) {m : List (Nat × α)} (w : sparseWf d hi m = true) :
    sparseWf d lo m = true := by
  cases m with
  | nil => rfl
  | cons e t =>
    obtain ⟨k, v⟩ := e
    simp only [sparseWf, Bool.and_eq_true, decide_eq_true_eq] at w ⊢
    exact ⟨⟨le_trans h w.1.1, w.1.2⟩, w.2⟩

theorem sparseWf_filter {d : Nat → α} (p : Nat × α → Bool) :
    ∀ {lo : Nat} {m : List (Nat × α)}, sparseWf d lo m = true → sparseWf d lo (m.filter p) = true := by
  intro lo m
  induction m generalizing lo with
  | nil => intro w; exact w
  | cons e t ih =>
    obtain ⟨k, v⟩ := e
    intro w
    simp only [sparseWf, Bool.and_eq_true, decide_eq_true_eq] at w
    rw [List.filter_cons]
    split
    · simp only [sparseWf, Bool.and_eq_true, decide_eq_true_eq]
      exact ⟨w.1, ih w.2⟩
    · exact sparseWf_mono (Nat.le_succ_of_le w.1.1) (ih w.2)

theorem sparseWf_drop {d : Nat → α} (k : Nat) :
    ∀ {lo : Nat} {m : List (Nat × α)}, sparseWf d lo m = true → sparseWf d lo (sparseDrop k m) = true := by
  intro lo m
  induction m generalizing lo with
  | nil => intro w; exact w
  | cons e t ih =>
    obtain ⟨k', v⟩ := e
    intro w
    simp only [sparseWf, Bool.and_eq_true, decide_eq_true_eq] at w
    simp only [sparseDrop]
    split
    · exact sparseWf_mono (Nat.le_succ_of_le w.1.1) (ih w.2)
    · simp only [sparseWf, Bool.and_eq_true, decide_eq_true_eq]
      exact ⟨w.1, ih w.2⟩

theorem sparseWf_ins {d : Nat → α} {k : Nat} {v : α} (hv : v ≠ d k) :
    ∀ {lo : Nat} {m : List (Nat × α)}, lo ≤ k → (∀ e ∈ m, e.1 ≠ k) → sparseWf d lo m = true →
      sparseWf d lo (sparseIns k v m) = true := by
  intro lo m
  induction m generalizing lo with
  | nil => intro h _ _; simp [sparseIns, sparseWf, h, hv]
  | cons e t ih =>
    obtain ⟨k', v'⟩ := e
    intro h hk w
    simp only [sparseWf, Bool.and_eq_true, decide_eq_true_eq] at w
    have hne : k' ≠ k := hk (k', v') (by simp)
    simp only [sparseIns]
    split
    · simp only [sparseWf, Bool.and_eq_true, decide_eq_true_eq]
      exact ⟨⟨h, hv⟩, ⟨by omega, w.1.2⟩, w.2⟩
    · simp only [sparseWf, Bool.and_eq_true, decide_eq_true_eq]
      exact ⟨w.1, ih (by omega) (fun e he => hk e (by simp [he])) w.2⟩

/-- A write keeps the canonical form. -/
theorem sparseWf_set {d : Nat → α} (k : Nat) (v : α) {m : List (Nat × α)} (w : sparseWf d 0 m = true) :
    sparseWf d 0 (sparseSet (d k) k v m) = true := by
  unfold sparseSet
  split
  · exact sparseWf_drop k w
  · exact sparseWf_ins (by assumption) (Nat.zero_le k) (sparseDrop_keys k m) (sparseWf_drop k w)

end Sys2Proof.Machine
end

