-- ==== Sys2Proof/Laws/Fields.lean ====
section
/-! SUPPORT. Registers and their fields: what a field reads after a write of it, of another field, of another register. -/

set_option Elab.async false

namespace Sys2Proof.Machine

theorem testBit_bitsOf (v hi lo i : Nat) : (bitsOf v hi lo).testBit i = (decide (i < hi - lo + 1) && v.testBit (lo + i)) := by
  unfold bitsOf
  rw [Nat.testBit_mod_two_pow, Nat.testBit_div_two_pow, Nat.add_comm i lo]

theorem bitsOf_lt (v hi lo : Nat) : bitsOf v hi lo < 2 ^ (hi - lo + 1) := Nat.mod_lt _ (by positivity)

theorem testBit_maskOf (hi lo j : Nat) (hj : j < 32) :
    (maskOf hi lo).getLsbD j = decide (lo ≤ j ∧ j < lo + (hi - lo + 1)) := by
  unfold maskOf
  rw [BitVec.getLsbD_ofNat, Nat.testBit_mul_two_pow]
  by_cases h : lo ≤ j
  · rw [Nat.testBit_two_pow_sub_one]
    simp only [hj, h, decide_true, Bool.true_and, true_and]
    congr 1
    exact propext ⟨fun h => by omega, fun h => by omega⟩
  · simp [hj, h]

theorem testBit_withField (w : Word) (hi lo v j : Nat) (hj : j < 32) :
    (withField w hi lo v).getLsbD j =
      if lo ≤ j ∧ j < lo + (hi - lo + 1) then v.testBit (j - lo) else w.getLsbD j := by
  unfold withField
  rw [BitVec.getLsbD_or, BitVec.getLsbD_and, BitVec.getLsbD_not, testBit_maskOf hi lo j hj, BitVec.getLsbD_ofNat,
    Nat.testBit_mul_two_pow, Nat.testBit_mod_two_pow]
  by_cases h : lo ≤ j ∧ j < lo + (hi - lo + 1)
  · have h2 : j - lo < hi - lo + 1 := by omega
    simp [h, hj, h2]
  · simp only [h, hj, decide_false, Bool.not_false, Bool.and_true, decide_true, Bool.true_and, if_false]
    by_cases h1 : lo ≤ j
    · have h2 : ¬ (j - lo < hi - lo + 1) := by omega
      simp [h2]
    · simp [h1]

theorem fieldOf_testBit (w : Word) (hi lo i : Nat) :
    (fieldOf w hi lo).testBit i = (decide (i < hi - lo + 1) && w.getLsbD (lo + i)) := by
  unfold fieldOf
  rw [testBit_bitsOf]
  rfl

/-- A field reads what was written to it, modulo its width. -/
theorem fieldOf_withField_same (w : Word) {hi lo : Nat} (v : Nat) (h : hi < 32) (hl : lo ≤ hi) :
    fieldOf (withField w hi lo v) hi lo = v % 2 ^ (hi - lo + 1) := by
  apply Nat.eq_of_testBit_eq
  intro i
  rw [fieldOf_testBit, Nat.testBit_mod_two_pow]
  by_cases hi' : i < hi - lo + 1
  · rw [testBit_withField _ _ _ _ _ (by omega), if_pos (by omega)]
    simp [hi']
  · simp [hi']

/-- A write of one field leaves a disjoint field alone. -/
theorem fieldOf_withField_ne (w : Word) {hi lo hi' lo' : Nat} (v : Nat) (hl : lo ≤ hi) (h' : hi' < 32) (hl' : lo' ≤ hi')
    (d : hi < lo' ∨ hi' < lo) : fieldOf (withField w hi lo v) hi' lo' = fieldOf w hi' lo' := by
  apply Nat.eq_of_testBit_eq
  intro i
  rw [fieldOf_testBit, fieldOf_testBit]
  by_cases hi2 : i < hi' - lo' + 1
  · rw [testBit_withField _ _ _ _ _ (by omega), if_neg (by omega)]
  · simp [hi2]

/-! ### Registers -/

@[simp] theorem State.reg_setReg_same (s : State) (a : Nat) (v : Word) : (s.setReg a v).reg a = v :=
  sparseGet_set_same _ _ _ _

theorem State.reg_setReg_ne (s : State) {a b : Nat} (v : Word) (h : b ≠ a) : (s.setReg a v).reg b = s.reg b :=
  sparseGet_set_ne _ _ h _ _

@[simp] theorem State.reg_noteSet (s : State) (a : Nat) (m : Word) (x : Nat) : (s.noteSet a m).reg x = s.reg x := rfl
@[simp] theorem State.get_noteSet (s : State) (a : Nat) (m : Word) (x : Fld) : (s.noteSet a m).get x = s.get x := rfl

/-- A field written leaves what a plain write of its register leaves. -/
theorem State.reg_put (s : State) (f : Fld) (v x : Nat) :
    (s.put f v).reg x = (s.setReg f.addr (withField (s.reg f.addr) f.hi f.lo v)).reg x := rfl

theorem State.reg_put_ne (s : State) {f : Fld} {a : Nat} (v : Nat) (h : a ≠ f.addr) : (s.put f v).reg a = s.reg a :=
  (s.reg_put f v a).trans (s.reg_setReg_ne _ h)

theorem State.get_setReg_ne (s : State) {f : Fld} {a : Nat} (v : Word) (h : f.addr ≠ a) : (s.setReg a v).get f = s.get f := by
  unfold State.get; rw [s.reg_setReg_ne v h]

theorem State.get_put_same (s : State) (f : Fld) (v : Nat) (h : f.hi < 32) (hl : f.lo ≤ f.hi) :
    (s.put f v).get f = v % 2 ^ f.width := by
  unfold State.get
  rw [s.reg_put, State.reg_setReg_same]
  exact fieldOf_withField_same _ v h hl

theorem State.get_put_ne (s : State) {f g : Fld} (v : Nat) (h : g.addr ≠ f.addr) : (s.put f v).get g = s.get g := by
  unfold State.get; rw [s.reg_put_ne v h]

theorem State.get_put_disj (s : State) {f g : Fld} (v : Nat) (hl : f.lo ≤ f.hi) (h' : g.hi < 32) (hl' : g.lo ≤ g.hi)
    (d : f.hi < g.lo ∨ g.hi < f.lo) : (s.put f v).get g = s.get g := by
  by_cases h : g.addr = f.addr
  · unfold State.get
    rw [s.reg_put, h, State.reg_setReg_same]
    exact fieldOf_withField_ne _ v hl h' hl' d
  · exact s.get_put_ne v h

theorem State.get_put_flag (s : State) (f : Fld) (v : Nat) (h : f.hi < 32) (hl : f.hi = f.lo) : (s.put f v).get f = v % 2 := by
  rw [s.get_put_same f v h (le_of_eq hl.symm)]
  simp [Fld.width, hl]

theorem State.get_lt (s : State) (f : Fld) : s.get f < 2 ^ f.width := bitsOf_lt _ _ _

/-- A count that does not saturate yet. -/
theorem State.get_bump_same (s : State) (f : Fld) (h : f.hi < 32) (hl : f.lo ≤ f.hi) :
    (s.bump f).get f = satInc (2 ^ f.width - 1) (s.get f) := by
  unfold State.bump
  rw [s.get_put_same f _ h hl]
  apply Nat.mod_eq_of_lt
  have h1 := s.get_lt f
  have h2 : 0 < 2 ^ f.width := by positivity
  unfold satInc
  split <;> omega

theorem State.get_bump_ne (s : State) {f g : Fld} (h : g.addr ≠ f.addr) : (s.bump f).get g = s.get g := s.get_put_ne _ h

/-- The bits a field has after more have been set. -/
theorem State.get_putOr_same (s : State) (f : Fld) (m : Nat) (h : f.hi < 32) (hl : f.lo ≤ f.hi) :
    (s.putOr f m).get f = (s.get f ||| m) % 2 ^ f.width := by
  unfold State.putOr State.get
  rw [State.reg_noteSet, State.reg_setReg_same]
  exact fieldOf_withField_same _ _ h hl

theorem State.reg_putOr_ne (s : State) {f : Fld} {a : Nat} (m : Nat) (h : a ≠ f.addr) : (s.putOr f m).reg a = s.reg a :=
  s.reg_setReg_ne _ h

theorem State.reg_strobeRaw (s : State) (e a : Nat) (he : e < 768) (h : a / 65536 ≠ 0x4003) :
    (s.strobeRaw e).reg a = s.reg a := by
  unfold State.strobeRaw
  split <;> exact s.reg_put_ne _ (by simp only [EVT_CTL_COAL, EVT_CTL_PEND, EVT_CTL]; omega)

theorem State.nEvents_le (s : State) : s.nEvents ≤ 768 := by
  unfold State.nEvents Member.pick
  split <;> decide

/-- A strobe changes registers of the event controller only. -/
theorem State.reg_strobe (s : State) (e a : Nat) (h : a / 65536 ≠ 0x4003) : (s.strobe e).reg a = s.reg a := by
  have hn := s.nEvents_le
  have h1 : a ≠ EVT_STAT_ORPHAN.addr := by simp only [EVT_STAT_ORPHAN, EVT_STAT]; omega
  have h2 : a ≠ EVT_LAST_ORPH.addr := by simp only [EVT_LAST_ORPH, EVT_LAST]; omega
  unfold State.strobe
  split
  · rfl
  · split
    · dsimp only
      split
      · exact s.reg_put_ne _ h1
      · split
        · exact (State.reg_put_ne _ _ h1).trans ((State.reg_put_ne _ _ h2).trans (State.reg_put_ne _ _ h1))
        · exact (State.reg_strobeRaw _ _ _ (by decide) h).trans ((State.reg_put_ne _ _ h2).trans (State.reg_put_ne _ _ h1))
    · exact s.reg_strobeRaw e a (by simp_all; omega) h

end Sys2Proof.Machine
end

