-- ==== Sys2Proof/Laws/Keeps.lean ====
section
/-! SUPPORT. What an operation keeps: the queue, the member, the time, soundness, and every part of the state outside a set of parts,
held as the bits of a number. One lemma for each update of a part; the other files of this name add one for each operation. -/

set_option Elab.async false

namespace Sys2Proof.Machine

/-- The bit that stands for a part. -/
def Part.bit : Part → Nat
  | .clk => 0
  | .freeCtr => 1
  | .wire => 2
  | .rdata => 3
  | .hold => 4
  | .pend64 => 5
  | .mem => 6
  | .memErr => 7
  | .sys => 8
  | .bg => 9
  | .axes => 10
  | .ports => 11
  | .sats => 12
  | .waiting => 13
  | .srv => 14
  | .cp => 15
  | .eng => 16
  | .gain => 17
  | .route => 18
  | .tension => 19
  | .lio => 20
  | .fb => 21
  | .modCap => 22
  | .ring => 23
  | .pr => 24
  | .bear => 25
  | .store => 26
  | .tag => 27
  | .regs b => 32 + b.1

/-- `t` comes from `s` by operations that change only the parts whose bits are in `m`, and keep soundness. -/
structure Ev (m : Nat) (s t : State) : Prop where
  pending : t.pending = s.pending
  member : t.member = s.member
  time : t.time = s.time
  sound : Sound s → Sound t
  same : ∀ p : Part, m.testBit p.bit = false → p.same s t

theorem Part.same_refl (p : Part) (s : State) : p.same s s := by cases p <;> first | rfl | exact fun _ _ => rfl

theorem Part.same_trans (p : Part) {s t u : State} (h : p.same s t) (g : p.same t u) : p.same s u := by
  cases p <;> first | exact Eq.trans g h | exact fun a ha => (g a ha).trans (h a ha)

theorem Ev.refl (m : Nat) (s : State) : Ev m s s := ⟨rfl, rfl, rfl, id, fun p _ => p.same_refl s⟩

theorem sub_bit {m n i : Nat} (k : n &&& m = n) (h : m.testBit i = false) : n.testBit i = false := by
  rw [← k, Nat.testBit_and, h, Bool.and_false]

theorem bit_of {m n i : Nat} (k : n &&& m = n) (h : n.testBit i = true) : m.testBit i = true := by
  rw [← k, Nat.testBit_and, Bool.and_eq_true] at h; exact h.2

theorem sub_trans {a b c : Nat} (h : a &&& b = a) (k : b &&& c = b) : a &&& c = a := by
  rw [← h, Nat.and_assoc, k]

theorem Ev.mono {m n : Nat} {s t : State} (h : Ev n s t) (k : n &&& m = n) : Ev m s t :=
  ⟨h.pending, h.member, h.time, h.sound, fun p hp => h.same p (sub_bit k hp)⟩

theorem Ev.trans {m : Nat} {s t u : State} (h : Ev m s t) (g : Ev m t u) : Ev m s u :=
  ⟨g.pending.trans h.pending, g.member.trans h.member, g.time.trans h.time, fun x => g.sound (h.sound x),
    fun p hp => p.same_trans (h.same p hp) (g.same p hp)⟩

/-- One more operation. -/
theorem Ev.comp {m n : Nat} {s t u : State} (h : Ev m s t) (g : Ev n t u) (k : n &&& m = n) : Ev m s u := h.trans (g.mono k)

theorem Ev.ite {m : Nat} {s t u : State} {c : Prop} [Decidable c] (h : c → Ev m s t) (g : ¬c → Ev m s u) :
    Ev m s (if c then t else u) := by
  split
  · exact h (by assumption)
  · exact g (by assumption)

theorem Ev.dite {m : Nat} {s : State} {c : Prop} [Decidable c] {a : c → State} {b : ¬c → State} (h : ∀ x, Ev m s (a x))
    (g : ∀ x, Ev m s (b x)) : Ev m s (if x : c then a x else b x) := by
  split
  · exact h _
  · exact g _

theorem Ev.whenUp {m : Nat} {s t : State} {f : State → State} (h : Ev m s t) (g : ∀ v, Ev m v (f v)) : Ev m s (t.whenUp f) := by
  unfold State.whenUp; exact .ite (fun _ => h.trans (g t)) fun _ => h

theorem Ev.whenHas {m : Nat} {s t : State} {b : Bool} {f : State → State} (h : Ev m s t) (g : ∀ v, Ev m v (f v)) :
    Ev m s (t.whenHas b f) := by
  unfold State.whenHas; exact .ite (fun _ => h.trans (g t)) fun _ => h

theorem Ev.foldl {α : Type} {m : Nat} {f : State → α → State} (g : ∀ v i, Ev m v (f v i)) (l : List α) :
    ∀ {s t : State}, Ev m s t → Ev m s (l.foldl f t) := by
  induction l with
  | nil => exact fun h => h
  | cons a l ih => exact fun h => ih (h.trans (g _ a))

theorem Ev.foldlSnd {α β : Type} {m : Nat} {s : State} {f : β × State → α → β × State} (g : ∀ p a, Ev m s p.2 → Ev m s (f p a).2) (l : List α) :
    ∀ p : β × State, Ev m s p.2 → Ev m s (l.foldl f p).2 := by
  induction l with
  | nil => exact fun _ h => h
  | cons a l ih => exact fun p h => ih _ (g p a h)

theorem Ev.forFin {m n : Nat} {s t : State} {f : Fin n → State → State} (h : Ev m s t) (g : ∀ i v, Ev m v (f i v)) :
    Ev m s (forFin n f t) := Ev.foldl (fun v i => g i v) _ h

theorem Ev.forN {m n : Nat} {s t : State} {f : Nat → State → State} (h : Ev m s t)
    (g : ∀ i v, i < n → Ev m v (f i v)) : Ev m s (forN n f t) := by
  unfold Sys2Proof.Machine.forN
  have H : ∀ (l : List Nat) (u : State), (∀ i ∈ l, i < n) → Ev m s u → Ev m s (l.foldl (fun t i => f i t) u) := by
    intro l
    induction l with
    | nil => exact fun _ _ hu => hu
    | cons a l ih => exact fun u hl hu => ih _ (fun i hi => hl i (by simp [hi])) (hu.trans (g a u (hl a (by simp))))
  exact H _ t (fun i hi => by simpa using hi) h

/-! ### Updates of one part -/

theorem Ev.clk {m : Nat} {s t : State} {v} (h : Ev m s t) (k : m.testBit 0 = true := by decide) :
    Ev m s { t with clk := v } :=
  ⟨h.pending, h.member, h.time, fun x => { h.sound x with }, fun p hp => by
    cases p <;> first | exact h.same _ hp | exact absurd k (by simpa [Part.bit] using hp)⟩

theorem Ev.freeCtr {m : Nat} {s t : State} {v} (h : Ev m s t) (k : m.testBit 1 = true := by decide) :
    Ev m s { t with freeCtr := v } :=
  ⟨h.pending, h.member, h.time, fun x => { h.sound x with }, fun p hp => by
    cases p <;> first | exact h.same _ hp | exact absurd k (by simpa [Part.bit] using hp)⟩

theorem Ev.wire {m : Nat} {s t : State} {v} (h : Ev m s t) (k : m.testBit 2 = true := by decide) :
    Ev m s { t with wire := v } :=
  ⟨h.pending, h.member, h.time, fun x => { h.sound x with }, fun p hp => by
    cases p <;> first | exact h.same _ hp | exact absurd k (by simpa [Part.bit] using hp)⟩

theorem Ev.rdata {m : Nat} {s t : State} {v} (h : Ev m s t) (k : m.testBit 3 = true := by decide) :
    Ev m s { t with rdata := v } :=
  ⟨h.pending, h.member, h.time, fun x => { h.sound x with }, fun p hp => by
    cases p <;> first | exact h.same _ hp | exact absurd k (by simpa [Part.bit] using hp)⟩

theorem Ev.hold {m : Nat} {s t : State} {v} (h : Ev m s t) (hv : Sound t → sparseWf (fun _ => 0) 0 v = true) (k : m.testBit 4 = true := by decide) :
    Ev m s { t with hold := v } :=
  ⟨h.pending, h.member, h.time, fun x => { h.sound x with hold := hv (h.sound x) }, fun p hp => by
    cases p <;> first | exact h.same _ hp | exact absurd k (by simpa [Part.bit] using hp)⟩

theorem Ev.pend64 {m : Nat} {s t : State} {v} (h : Ev m s t) (k : m.testBit 5 = true := by decide) :
    Ev m s { t with pend64 := v } :=
  ⟨h.pending, h.member, h.time, fun x => { h.sound x with }, fun p hp => by
    cases p <;> first | exact h.same _ hp | exact absurd k (by simpa [Part.bit] using hp)⟩

theorem Ev.mem {m : Nat} {s t : State} {v} (h : Ev m s t) (hv : Sound t → sparseWf memDefault 0 v = true) (k : m.testBit 6 = true := by decide) :
    Ev m s { t with mem := v } :=
  ⟨h.pending, h.member, h.time, fun x => { h.sound x with mem := hv (h.sound x) }, fun p hp => by
    cases p <;> first | exact h.same _ hp | exact absurd k (by simpa [Part.bit] using hp)⟩

theorem Ev.memErr {m : Nat} {s t : State} {v} (h : Ev m s t) (hv : Sound t → sparseWf (fun _ => 0) 0 v = true) (k : m.testBit 7 = true := by decide) :
    Ev m s { t with memErr := v } :=
  ⟨h.pending, h.member, h.time, fun x => { h.sound x with memErr := hv (h.sound x) }, fun p hp => by
    cases p <;> first | exact h.same _ hp | exact absurd k (by simpa [Part.bit] using hp)⟩

theorem Ev.sys {m : Nat} {s t : State} {v} (h : Ev m s t) (k : m.testBit 8 = true := by decide) :
    Ev m s { t with sys := v } :=
  ⟨h.pending, h.member, h.time, fun x => { h.sound x with }, fun p hp => by
    cases p <;> first | exact h.same _ hp | exact absurd k (by simpa [Part.bit] using hp)⟩

theorem Ev.bg {m : Nat} {s t : State} {v} (h : Ev m s t) (k : m.testBit 9 = true := by decide) :
    Ev m s { t with bg := v } :=
  ⟨h.pending, h.member, h.time, fun x => { h.sound x with }, fun p hp => by
    cases p <;> first | exact h.same _ hp | exact absurd k (by simpa [Part.bit] using hp)⟩

theorem Ev.axes {m : Nat} {s t : State} {v} (h : Ev m s t) (k : m.testBit 10 = true := by decide) :
    Ev m s { t with axes := v } :=
  ⟨h.pending, h.member, h.time, fun x => { h.sound x with }, fun p hp => by
    cases p <;> first | exact h.same _ hp | exact absurd k (by simpa [Part.bit] using hp)⟩

theorem Ev.ports {m : Nat} {s t : State} {v} (h : Ev m s t) (hv : Sound t → ∀ p : Fin 6, SoundPort v[p]) (k : m.testBit 11 = true := by decide) :
    Ev m s { t with ports := v } :=
  ⟨h.pending, h.member, h.time, fun x => { h.sound x with ports := hv (h.sound x) }, fun p hp => by
    cases p <;> first | exact h.same _ hp | exact absurd k (by simpa [Part.bit] using hp)⟩

theorem Ev.sats {m : Nat} {s t : State} {v} (h : Ev m s t) (k : m.testBit 12 = true := by decide) :
    Ev m s { t with sats := v } :=
  ⟨h.pending, h.member, h.time, fun x => { h.sound x with }, fun p hp => by
    cases p <;> first | exact h.same _ hp | exact absurd k (by simpa [Part.bit] using hp)⟩

theorem Ev.waiting {m : Nat} {s t : State} {v} (h : Ev m s t) (k : m.testBit 13 = true := by decide) :
    Ev m s { t with waiting := v } :=
  ⟨h.pending, h.member, h.time, fun x => { h.sound x with }, fun p hp => by
    cases p <;> first | exact h.same _ hp | exact absurd k (by simpa [Part.bit] using hp)⟩

theorem Ev.srv {m : Nat} {s t : State} {v} (h : Ev m s t) (hv : Sound t → SoundSrv v) (k : m.testBit 14 = true := by decide) :
    Ev m s { t with srv := v } :=
  ⟨h.pending, h.member, h.time, fun x => { h.sound x with srv := hv (h.sound x) }, fun p hp => by
    cases p <;> first | exact h.same _ hp | exact absurd k (by simpa [Part.bit] using hp)⟩

theorem Ev.cp {m : Nat} {s t : State} {v} (h : Ev m s t) (k : m.testBit 15 = true := by decide) :
    Ev m s { t with cp := v } :=
  ⟨h.pending, h.member, h.time, fun x => { h.sound x with }, fun p hp => by
    cases p <;> first | exact h.same _ hp | exact absurd k (by simpa [Part.bit] using hp)⟩

theorem Ev.eng {m : Nat} {s t : State} {v} (h : Ev m s t) (k : m.testBit 16 = true := by decide) :
    Ev m s { t with eng := v } :=
  ⟨h.pending, h.member, h.time, fun x => { h.sound x with }, fun p hp => by
    cases p <;> first | exact h.same _ hp | exact absurd k (by simpa [Part.bit] using hp)⟩

theorem Ev.gain {m : Nat} {s t : State} {v} (h : Ev m s t) (k : m.testBit 17 = true := by decide) :
    Ev m s { t with gain := v } :=
  ⟨h.pending, h.member, h.time, fun x => { h.sound x with }, fun p hp => by
    cases p <;> first | exact h.same _ hp | exact absurd k (by simpa [Part.bit] using hp)⟩

theorem Ev.route {m : Nat} {s t : State} {v} (h : Ev m s t) (k : m.testBit 18 = true := by decide) :
    Ev m s { t with route := v } :=
  ⟨h.pending, h.member, h.time, fun x => { h.sound x with }, fun p hp => by
    cases p <;> first | exact h.same _ hp | exact absurd k (by simpa [Part.bit] using hp)⟩

theorem Ev.tension {m : Nat} {s t : State} {v} (h : Ev m s t) (k : m.testBit 19 = true := by decide) :
    Ev m s { t with tension := v } :=
  ⟨h.pending, h.member, h.time, fun x => { h.sound x with }, fun p hp => by
    cases p <;> first | exact h.same _ hp | exact absurd k (by simpa [Part.bit] using hp)⟩

theorem Ev.lio {m : Nat} {s t : State} {v} (h : Ev m s t) (k : m.testBit 20 = true := by decide) :
    Ev m s { t with lio := v } :=
  ⟨h.pending, h.member, h.time, fun x => { h.sound x with }, fun p hp => by
    cases p <;> first | exact h.same _ hp | exact absurd k (by simpa [Part.bit] using hp)⟩

theorem Ev.fb {m : Nat} {s t : State} {v} (h : Ev m s t) (hv : Sound t → v.capQ.length ≤ 256) (k : m.testBit 21 = true := by decide) :
    Ev m s { t with fb := v } :=
  ⟨h.pending, h.member, h.time, fun x => let hv := hv (h.sound x); { h.sound x with capQ := hv }, fun p hp => by
    cases p <;> first | exact h.same _ hp | exact absurd k (by simpa [Part.bit] using hp)⟩

theorem Ev.modCap {m : Nat} {s t : State} {v} (h : Ev m s t) (hv : Sound t → v.length ≤ 256) (k : m.testBit 22 = true := by decide) :
    Ev m s { t with modCap := v } :=
  ⟨h.pending, h.member, h.time, fun x => { h.sound x with modCap := hv (h.sound x) }, fun p hp => by
    cases p <;> first | exact h.same _ hp | exact absurd k (by simpa [Part.bit] using hp)⟩

theorem Ev.ring {m : Nat} {s t : State} {v} (h : Ev m s t) (hv : Sound t → v.txQ.length ≤ 512 ∧ v.rxQ.length ≤ 512) (k : m.testBit 23 = true := by decide) :
    Ev m s { t with ring := v } :=
  ⟨h.pending, h.member, h.time, fun x => let hv := hv (h.sound x); { h.sound x with ringTx := hv.1, ringRx := hv.2 }, fun p hp => by
    cases p <;> first | exact h.same _ hp | exact absurd k (by simpa [Part.bit] using hp)⟩

theorem Ev.pr {m : Nat} {s t : State} {v} (h : Ev m s t) (k : m.testBit 24 = true := by decide) :
    Ev m s { t with pr := v } :=
  ⟨h.pending, h.member, h.time, fun x => { h.sound x with }, fun p hp => by
    cases p <;> first | exact h.same _ hp | exact absurd k (by simpa [Part.bit] using hp)⟩

theorem Ev.bear {m : Nat} {s t : State} {v} (h : Ev m s t) (k : m.testBit 25 = true := by decide) :
    Ev m s { t with bear := v } :=
  ⟨h.pending, h.member, h.time, fun x => { h.sound x with }, fun p hp => by
    cases p <;> first | exact h.same _ hp | exact absurd k (by simpa [Part.bit] using hp)⟩

theorem Ev.store {m : Nat} {s t : State} {v} (h : Ev m s t) (k : m.testBit 26 = true := by decide) :
    Ev m s { t with store := v } :=
  ⟨h.pending, h.member, h.time, fun x => { h.sound x with }, fun p hp => by
    cases p <;> first | exact h.same _ hp | exact absurd k (by simpa [Part.bit] using hp)⟩

theorem Ev.tag {m : Nat} {s t : State} {v} (h : Ev m s t) (hv : Sound t → sparseWf (fun _ => 0) 0 v.blocks = true) (k : m.testBit 27 = true := by decide) :
    Ev m s { t with tag := v } :=
  ⟨h.pending, h.member, h.time, fun x => let hv := hv (h.sound x); { h.sound x with tag := hv }, fun p hp => by
    cases p <;> first | exact h.same _ hp | exact absurd k (by simpa [Part.bit] using hp)⟩

/-! ### The present edge, which is no part of a frame (log entry 2) -/

theorem Ev.edge {m : Nat} {s t : State} {v} (h : Ev m s t) : Ev m s { t with edge := v } :=
  ⟨h.pending, h.member, h.time, fun x => { h.sound x with }, fun p hp => by cases p <;> exact h.same _ hp⟩

theorem Ev.noteSet {m : Nat} {s t : State} {a : Nat} {b : Word} (h : Ev m s t) : Ev m s (t.noteSet a b) := h.edge

theorem Ev.mark {m : Nat} {s t : State} {e : EdgeMark} (h : Ev m s t) : Ev m s (t.mark e) := h.edge

/-! ### Registers -/

theorem Ev.setReg {m : Nat} {s t : State} {a : Nat} {v : Word} (h : Ev m s t) (b : Nat) (hb : a / 65536 % 32 = b)
    (k : m.testBit (32 + b) = true := by decide) : Ev m s (t.setReg a v) :=
  ⟨h.pending, h.member, h.time, fun x => { h.sound x with regs := sparseWf_set (d := resetWord) a v (h.sound x).regs }, fun p hp => by
    cases p with
    | regs c => exact fun e he => (t.reg_setReg_ne v (fun q => by
        subst q; rw [hb] at he; rw [he] at k; exact absurd k (by simpa [Part.bit] using hp))).trans (h.same (.regs c) hp e he)
    | _ => exact h.same _ hp⟩

/-- The bits of every block of registers. -/
def allRegs : Nat := 0xFFFFFFFF00000000

theorem allRegs_bit {m b : Nat} (k : allRegs &&& m = allRegs) (hb : b < 32) : m.testBit (32 + b) = true := by
  have h : allRegs.testBit (32 + b) = true := by interval_cases b <;> decide
  rw [← k, Nat.testBit_and, Bool.and_eq_true] at h
  exact h.2

/-- A register anywhere. -/
theorem Ev.setRegA {m : Nat} {s t : State} {a : Nat} {v : Word} (h : Ev m s t) (k : allRegs &&& m = allRegs := by decide) :
    Ev m s (t.setReg a v) := h.setReg _ rfl (allRegs_bit k (Nat.mod_lt _ (by decide)))

theorem Ev.put {m : Nat} {s t : State} {f : Fld} {v : Nat} (h : Ev m s t) (b : Nat) (hb : f.addr / 65536 % 32 = b)
    (k : m.testBit (32 + b) = true := by decide) : Ev m s (t.put f v) := (h.setReg b hb k).noteSet

theorem Ev.putA {m : Nat} {s t : State} {f : Fld} {v : Nat} (h : Ev m s t) (k : allRegs &&& m = allRegs := by decide) :
    Ev m s (t.put f v) := h.put _ rfl (allRegs_bit k (Nat.mod_lt _ (by decide)))

theorem Ev.sput {m : Nat} {s t : State} {f : Fld} {v : Int} (h : Ev m s t) (b : Nat) (hb : f.addr / 65536 % 32 = b)
    (k : m.testBit (32 + b) = true := by decide) : Ev m s (t.sput f v) := h.put b hb k

theorem Ev.sputA {m : Nat} {s t : State} {f : Fld} {v : Int} (h : Ev m s t) (k : allRegs &&& m = allRegs := by decide) :
    Ev m s (t.sput f v) := h.putA k

theorem Ev.putOr {m : Nat} {s t : State} {f : Fld} {v : Nat} (h : Ev m s t) (b : Nat) (hb : f.addr / 65536 % 32 = b)
    (k : m.testBit (32 + b) = true := by decide) : Ev m s (t.putOr f v) := (h.setReg b hb k).noteSet

theorem Ev.putOrA {m : Nat} {s t : State} {f : Fld} {v : Nat} (h : Ev m s t) (k : allRegs &&& m = allRegs := by decide) :
    Ev m s (t.putOr f v) := (h.setRegA k).noteSet

theorem Ev.bumpBy {m : Nat} {s t : State} {f : Fld} {v : Nat} (h : Ev m s t) (b : Nat) (hb : f.addr / 65536 % 32 = b)
    (k : m.testBit (32 + b) = true := by decide) : Ev m s (t.bumpBy f v) := h.put b hb k

theorem Ev.bumpByA {m : Nat} {s t : State} {f : Fld} {v : Nat} (h : Ev m s t) (k : allRegs &&& m = allRegs := by decide) :
    Ev m s (t.bumpBy f v) := h.putA k

theorem Ev.bump {m : Nat} {s t : State} {f : Fld} (h : Ev m s t) (b : Nat) (hb : f.addr / 65536 % 32 = b)
    (k : m.testBit (32 + b) = true := by decide) : Ev m s (t.bump f) := h.put b hb k

theorem Ev.bumpA {m : Nat} {s t : State} {f : Fld} (h : Ev m s t) (k : allRegs &&& m = allRegs := by decide) :
    Ev m s (t.bump f) := h.putA k

theorem Ev.wrapUp {m : Nat} {s t : State} {f : Fld} (h : Ev m s t) (b : Nat) (hb : f.addr / 65536 % 32 = b)
    (k : m.testBit (32 + b) = true := by decide) : Ev m s (t.wrapUp f) := h.put b hb k

theorem Ev.wrapUpA {m : Nat} {s t : State} {f : Fld} (h : Ev m s t) (k : allRegs &&& m = allRegs := by decide) :
    Ev m s (t.wrapUp f) := h.putA k

theorem Ev.setReg64 {m : Nat} {s t : State} {a v : Nat} (h : Ev m s t) (b : Nat) (hb : a / 65536 % 32 = b)
    (hb2 : (a + 4) / 65536 % 32 = b) (k : m.testBit (32 + b) = true := by decide) : Ev m s (t.setReg64 a v) :=
  (h.setReg b hb k).setReg b hb2 k

theorem Ev.setReg64A {m : Nat} {s t : State} {a v : Nat} (h : Ev m s t) (k : allRegs &&& m = allRegs := by decide) :
    Ev m s (t.setReg64 a v) := (h.setRegA k).setRegA k

/-! ### Events, EMCYs, messages, free values -/

theorem Ev.strobeRaw {m : Nat} {s t : State} {e : Nat} (h : Ev m s t) (he : e < 768) (k : m.testBit 35 = true := by decide) :
    Ev m s (t.strobeRaw e) := by
  unfold State.strobeRaw
  split <;> exact h.put 3 (by simp only [EVT_CTL_COAL, EVT_CTL_PEND, EVT_CTL]; omega) k

theorem Ev.strobe {m : Nat} {s t : State} {e : Nat} (h : Ev m s t) (k : m.testBit 35 = true := by decide) : Ev m s (t.strobe e) := by
  have hn := t.nEvents_le
  have h1 : EVT_STAT_ORPHAN.addr / 65536 % 32 = 3 := by decide
  have h2 : EVT_LAST_ORPH.addr / 65536 % 32 = 3 := by decide
  unfold State.strobe
  split
  · exact h
  · split
    · dsimp only
      split
      · exact h.bump 3 h1 k
      · split
        · exact ((h.bump 3 h1 k).put 3 h2 k).bump 3 h1 k
        · exact ((h.bump 3 h1 k).put 3 h2 k).strobeRaw (by decide) k
    · exact h.strobeRaw (by simp_all; omega) k

theorem Ev.raise {m : Nat} {s t : State} {f : Fld} {i j : Nat} (h : Ev m s t) (b : Nat) (hb : f.addr / 65536 % 32 = b)
    (k : m.testBit (32 + b) = true := by decide) (k3 : m.testBit 35 = true := by decide) : Ev m s (t.raise f i j) :=
  (h.putOr b hb k).strobe k3

theorem Ev.raiseA {m : Nat} {s t : State} {f : Fld} {i j : Nat} (h : Ev m s t) (k : allRegs &&& m = allRegs := by decide) :
    Ev m s (t.raise f i j) := (h.putOrA k).strobe (allRegs_bit (b := 3) k (by decide))

theorem Ev.emcy {m : Nat} {s t : State} {c : Nat} {l : List Nat} (h : Ev m s t) (k : m.testBit 14 = true := by decide) :
    Ev m s (t.emcy c l) := by
  unfold State.emcy
  split
  · exact h.srv (fun x => { x.srv with emcy := by simp; omega }) k
  · exact h.srv (fun x => { x.srv with }) k

theorem Ev.send {m : Nat} {s t : State} {x : Msg} (h : Ev m s t) (k : m.testBit 2 = true := by decide) : Ev m s (t.send x) := h.wire k

theorem Ev.draw {m : Nat} {s t : State} {i : Nat} (h : Ev m s t) (k : m.testBit 1 = true := by decide) : Ev m s (t.draw i).2 := h.freeCtr k

theorem Ev.drawInt {m : Nat} {s t : State} {i : Nat} (h : Ev m s t) (k : m.testBit 1 = true := by decide) : Ev m s (t.drawInt i).2 := h.freeCtr k

theorem Ev.modAxis {m : Nat} {s t : State} {a : Fin 8} {f : Axis → Axis} (h : Ev m s t) (k : m.testBit 10 = true := by decide) :
    Ev m s (t.modAxis a f) := h.axes k

/-! ### Parts changed whole -/

theorem Ev.modSys {m : Nat} {s t : State} {f} (h : Ev m s t) (k : m.testBit 8 = true := by decide) :
    Ev m s (t.modSys f) := h.sys k

theorem Ev.modBg {m : Nat} {s t : State} {f} (h : Ev m s t) (k : m.testBit 9 = true := by decide) :
    Ev m s (t.modBg f) := h.bg k

theorem Ev.modCp {m : Nat} {s t : State} {f} (h : Ev m s t) (k : m.testBit 15 = true := by decide) :
    Ev m s (t.modCp f) := h.cp k

theorem Ev.modLio {m : Nat} {s t : State} {f} (h : Ev m s t) (k : m.testBit 20 = true := by decide) :
    Ev m s (t.modLio f) := h.lio k

theorem Ev.modPr {m : Nat} {s t : State} {f} (h : Ev m s t) (k : m.testBit 24 = true := by decide) :
    Ev m s (t.modPr f) := h.pr k

theorem Ev.modBear {m : Nat} {s t : State} {f} (h : Ev m s t) (k : m.testBit 25 = true := by decide) :
    Ev m s (t.modBear f) := h.bear k

theorem Ev.modStore {m : Nat} {s t : State} {f} (h : Ev m s t) (k : m.testBit 26 = true := by decide) :
    Ev m s (t.modStore f) := h.store k

theorem Ev.modEng {m : Nat} {s t : State} {a f} (h : Ev m s t) (k : m.testBit 16 = true := by decide) :
    Ev m s (t.modEng a f) := h.eng k

theorem Ev.setWaiting {m : Nat} {s t : State} {v} (h : Ev m s t) (k : m.testBit 13 = true := by decide) :
    Ev m s (t.setWaiting v) := h.waiting k

theorem Ev.setRdata {m : Nat} {s t : State} {v} (h : Ev m s t) (k : m.testBit 3 = true := by decide) :
    Ev m s (t.setRdata v) := h.rdata k

theorem Ev.setFreeCtr {m : Nat} {s t : State} {v} (h : Ev m s t) (k : m.testBit 1 = true := by decide) :
    Ev m s (t.setFreeCtr v) := h.freeCtr k

theorem Ev.setWire {m : Nat} {s t : State} {v} (h : Ev m s t) (k : m.testBit 2 = true := by decide) :
    Ev m s (t.setWire v) := h.wire k

theorem Ev.setPend64 {m : Nat} {s t : State} {v} (h : Ev m s t) (k : m.testBit 5 = true := by decide) :
    Ev m s (t.setPend64 v) := h.pend64 k

theorem Ev.setGain {m : Nat} {s t : State} {v} (h : Ev m s t) (k : m.testBit 17 = true := by decide) :
    Ev m s (t.setGain v) := h.gain k

theorem Ev.setRoute {m : Nat} {s t : State} {v} (h : Ev m s t) (k : m.testBit 18 = true := by decide) :
    Ev m s (t.setRoute v) := h.route k

theorem Ev.setTension {m : Nat} {s t : State} {v} (h : Ev m s t) (k : m.testBit 19 = true := by decide) :
    Ev m s (t.setTension v) := h.tension k

theorem Ev.modSrv {m : Nat} {s t : State} {f} (h : Ev m s t)
    (hf : SoundSrv t.srv → SoundSrv (f t.srv) := by with_unfolding_all exact fun x => ⟨x.objs, x.emcy, x.hist, x.rx⟩)
    (k : m.testBit 14 = true := by decide) : Ev m s (t.modSrv f) := h.srv (fun x => hf x.srv) k

theorem Ev.modFb {m : Nat} {s t : State} {f} (h : Ev m s t)
    (hf : t.fb.capQ.length ≤ 256 → (f t.fb).capQ.length ≤ 256 := by with_unfolding_all exact fun x => x)
    (k : m.testBit 21 = true := by decide) : Ev m s (t.modFb f) := h.fb (fun x => hf x.capQ) k

theorem Ev.modRing {m : Nat} {s t : State} {f} (h : Ev m s t)
    (hf : t.ring.txQ.length ≤ 512 ∧ t.ring.rxQ.length ≤ 512 → (f t.ring).txQ.length ≤ 512 ∧ (f t.ring).rxQ.length ≤ 512 := by
      with_unfolding_all exact fun x => x)
    (k : m.testBit 23 = true := by decide) : Ev m s (t.modRing f) := h.ring (fun x => hf ⟨x.ringTx, x.ringRx⟩) k

theorem Ev.modTag {m : Nat} {s t : State} {f} (h : Ev m s t)
    (hf : sparseWf (fun _ => 0) 0 t.tag.blocks = true → sparseWf (fun _ => 0) 0 (f t.tag).blocks = true := by with_unfolding_all exact fun x => x)
    (k : m.testBit 27 = true := by decide) : Ev m s (t.modTag f) := h.tag (fun x => hf x.tag) k

theorem Ev.setModCap {m : Nat} {s t : State} {v} (h : Ev m s t) (hv : Sound t → v.length ≤ 256)
    (k : m.testBit 22 = true := by decide) : Ev m s (t.setModCap v) := h.modCap hv k

theorem upd_get {α : Type} {n : Nat} (v : Vector α n) (i j : Fin n) (f : α → α) : (upd v i f)[j] = if i = j then f v[i] else v[j] := by
  unfold upd
  by_cases h : i = j
  · subst h; simp
  · rw [if_neg h]
    exact Vector.getElem_set_ne i.2 j.2 (fun e => h (Fin.ext e))

theorem Ev.modPort {m : Nat} {s t : State} {p : Fin 6} {f : Port → Port} (h : Ev m s t)
    (hf : Sound t → SoundPort t.ports[p] → SoundPort (f t.ports[p]) := by with_unfolding_all exact fun _ h => ⟨h.rx, h.ten⟩)
    (k : m.testBit 11 = true := by decide) : Ev m s (t.modPort p f) := by
  refine h.ports (fun x q => ?_) k
  rw [upd_get]
  split
  · exact hf x (x.ports p)
  · exact x.ports q

end Sys2Proof.Machine
end

