-- ==== Sys2Proof/Laws/KeepsOps.lean ====
section
/-! SUPPORT. What the operations of Machine/Ops.lean keep. -/

set_option linter.all false
set_option Elab.async false

namespace Sys2Proof.Machine

theorem State.errEdge_ev {m : Nat} {s0 t : State}  (h : Ev m s0 t)
    (k : 0x4000 &&& m = 0x4000 := by decide) : Ev m s0 (State.errEdge t) := by
  refine Ev.comp h ?_ k
  clear h k
  unfold State.errEdge
  try dsimp only
  repeat' first
    | (with_reducible first
        | exact Ev.refl _ _ | intro _ | refine Ev.ite ?_ ?_ | refine Ev.emcy ?_ | refine Ev.modSrv ?_)
    | dsimp only | split

end Sys2Proof.Machine
end

