-- ==== Sys2Proof/Laws/KeepsSatellite.lean ====
section
/-! SUPPORT. What the operations of Machine/Satellite.lean keep. -/

set_option linter.all false
set_option Elab.async false

namespace Sys2Proof.Machine

theorem State.modSat_ev {m : Nat} {s0 t : State} {p : Fin 6} {k' : Fin 8} {f : Sat → Sat} (h : Ev m s0 t)
    (k : 0x1000 &&& m = 0x1000 := by decide) : Ev m s0 (State.modSat t p k' f) := by
  refine Ev.comp h ?_ k
  clear h k
  unfold State.modSat
  try dsimp only
  repeat' first
    | (with_reducible first
        | exact Ev.refl _ _ | intro _ | refine Ev.ite ?_ ?_ | refine Ev.sats ?_)
    | dsimp only | split

theorem State.satReply_ev {m : Nat} {s0 t : State} {p : Fin 6} {k' : Fin 8} {w : Nat} (h : Ev m s0 t)
    (k : 0x1004 &&& m = 0x1004 := by decide) : Ev m s0 (State.satReply t p k' w) := by
  refine Ev.comp h ?_ k
  clear h k
  unfold State.satReply
  try dsimp only
  repeat' first
    | (with_reducible first
        | exact Ev.refl _ _ | intro _ | refine Ev.ite ?_ ?_ | refine State.modSat_ev ?_ | refine Ev.send ?_)
    | dsimp only | split

theorem State.answer_ev {m : Nat} {s0 t : State} {p : Fin 6} {k' : Fin 8} {x : Sat} {payload : Nat} (h : Ev m s0 t)
    (k : 0x1004 &&& m = 0x1004 := by decide) : Ev m s0 (State.answer t p k' x payload) := by
  refine Ev.comp h ?_ k
  clear h k
  unfold State.answer
  try dsimp only
  repeat' first
    | (with_reducible first
        | exact Ev.refl _ _ | intro _ | refine Ev.ite ?_ ?_ | refine State.satReply_ev ?_)
    | dsimp only | split

theorem State.satDo_ev {m : Nat} {s0 t : State} {p : Fin 6} {k' : Fin 8} {alive : Nat} {pay : Sat → Nat} {f : Sat → Sat} (h : Ev m s0 t)
    (k : 0x1004 &&& m = 0x1004 := by decide) : Ev m s0 (State.satDo t p k' alive pay f) := by
  refine Ev.comp h ?_ k
  clear h k
  unfold State.satDo
  try dsimp only
  repeat' first
    | (with_reducible first
        | exact Ev.refl _ _ | intro _ | refine Ev.ite ?_ ?_ | refine State.answer_ev ?_ | refine State.modSat_ev ?_)
    | dsimp only | split

theorem State.satRefuse_ev {m : Nat} {s0 t : State} {p : Fin 6} {k' : Fin 8} {alive : Nat} (h : Ev m s0 t)
    (k : 0x1004 &&& m = 0x1004 := by decide) : Ev m s0 (State.satRefuse t p k' alive) := by
  refine Ev.comp h ?_ k
  clear h k
  unfold State.satRefuse
  try dsimp only
  repeat' first
    | (with_reducible first
        | exact Ev.refl _ _ | intro _ | refine Ev.ite ?_ ?_ | refine State.answer_ev ?_ | refine State.modSat_ev ?_)
    | dsimp only | split

theorem State.satBusy_ev {m : Nat} {s0 t : State} {p : Fin 6} {k' : Fin 8} (h : Ev m s0 t)
    (k : 0x1004 &&& m = 0x1004 := by decide) : Ev m s0 (State.satBusy t p k') := by
  refine Ev.comp h ?_ k
  clear h k
  unfold State.satBusy
  try dsimp only
  repeat' first
    | (with_reducible first
        | exact Ev.refl _ _ | intro _ | refine Ev.ite ?_ ?_ | refine State.modSat_ev ?_ | refine State.satReply_ev ?_)
    | dsimp only | split

theorem State.satWhen_ev {m : Nat} {s0 t : State} {p : Fin 6} {k' : Fin 8} {f : State → State} (h : Ev m s0 t) (hf : ∀ v, Ev m v (f v))
    (k : 0x0 &&& m = 0x0 := by decide) : Ev m s0 (State.satWhen t p k' f) := by
  unfold State.satWhen
  try dsimp only
  repeat' first
    | (with_reducible first
        | exact Ev.refl _ _ | exact h | refine Ev.trans ?_ (hf _ ) | exact h | refine Ev.trans ?_ (hf _ ) | intro _
        | refine Ev.ite ?_ ?_)
    | dsimp only | split

theorem State.satFrame_ev {m : Nat} {s0 t : State} {p : Fin 6} {k' : Fin 8} {t' : Nat} {f : State → State} (h : Ev m s0 t)
    (hf : ∀ v, Ev m v (f v)) (k : 0x1000 &&& m = 0x1000 := by decide) : Ev m s0 (State.satFrame t p k' t' f) := by
  unfold State.satFrame
  refine State.satWhen_ev h (fun v => ?_) (Nat.zero_and m)
  try dsimp only
  split
  · exact Ev.trans (State.modSat_ev (Ev.refl _ _) k) (hf _)
  · exact Ev.refl _ _

theorem State.satWriteReg_ev {m : Nat} {s0 t : State} {p : Fin 6} {k' : Fin 8} {t' : Nat} {alive : Nat} {a : Nat} {v : Nat} {cmp : Bool} {rsv : Bool} (h : Ev m s0 t)
    (k : 0x1004 &&& m = 0x1004 := by decide) : Ev m s0 (State.satWriteReg t p k' t' alive a v cmp rsv) := by
  refine Ev.comp h ?_ k
  clear h k
  unfold State.satWriteReg
  try dsimp only
  repeat' first
    | (with_reducible first
        | exact Ev.refl _ _ | intro _ | refine Ev.ite ?_ ?_ | refine State.answer_ev ?_ | refine State.modSat_ev ?_)
    | dsimp only | split

end Sys2Proof.Machine
end

