-- ==== Sys2Proof/Laws/KeepsAxisOps.lean ====
section
/-! SUPPORT. What the operations of Machine/AxisOps.lean keep. -/

set_option linter.all false
set_option Elab.async false

namespace Sys2Proof.Machine

theorem State.lampsFollow_ev {m : Nat} {s0 t : State} {a : Fin 8} (h : Ev m s0 t)
    (k : 0x100000 &&& m = 0x100000 := by decide) : Ev m s0 (State.lampsFollow t a) := by
  refine Ev.comp h ?_ k
  clear h k
  unfold State.lampsFollow
  try dsimp only
  repeat' first
    | (with_reducible first
        | exact Ev.refl _ _ | intro _ | refine Ev.ite ?_ ?_ | refine Ev.modLio ?_)
    | dsimp only | split

theorem State.axisTo_ev {m : Nat} {s0 t : State} {a : Fin 8} {st : Cia} {mode : Int} (h : Ev m s0 t)
    (k : 0x2000800100400 &&& m = 0x2000800100400 := by decide) : Ev m s0 (State.axisTo t a st mode) := by
  refine Ev.comp h ?_ k
  clear h k
  unfold State.axisTo
  try dsimp only
  repeat' first
    | (with_reducible first
        | exact Ev.refl _ _
        | intro _
        | refine Ev.ite ?_ ?_
        | refine Ev.mark ?_
        | refine Ev.modAxis ?_
        | refine Ev.raise ?_ 17 (by first | decide | (simp only [ AX_EVT, axEvt]; omega))
        | refine State.lampsFollow_ev ?_)
    | dsimp only | split

theorem State.recordRefusal_ev {m : Nat} {s0 t : State} {a : Fin 8} {cmd : Nat} {reason : Nat} {req : Int} (h : Ev m s0 t)
    (k : 0x2000800004400 &&& m = 0x2000800004400 := by decide) : Ev m s0 (State.recordRefusal t a cmd reason req) := by
  refine Ev.comp h ?_ k
  clear h k
  unfold State.recordRefusal
  try dsimp only
  repeat' first
    | (with_reducible first
        | exact Ev.refl _ _ | intro _ | refine Ev.ite ?_ ?_
        | refine Ev.bump ?_ 17 (by simp only [ AX_EVT, AX_REFUSE, AX_REFUSE_CMD, AX_REFUSE_COUNT, AX_REFUSE_REASON, axEvt]; omega)
        | refine Ev.emcy ?_ | refine Ev.modAxis ?_
        | refine Ev.put ?_ 17 (by simp only [ AX_EVT, AX_REFUSE, AX_REFUSE_CMD, AX_REFUSE_COUNT, AX_REFUSE_REASON, axEvt]; omega)
        | refine Ev.raise ?_ 17 (by simp only [ AX_EVT, AX_REFUSE, AX_REFUSE_CMD, AX_REFUSE_COUNT, AX_REFUSE_REASON, axEvt]; omega))
    | dsimp only | split

theorem State.refuse_ev {m : Nat} {s0 t : State} {a : Fin 8} {cmd : Nat} {reason : Nat} {req : Int} (h : Ev m s0 t)
    (k : 0x2000800004400 &&& m = 0x2000800004400 := by decide) : Ev m s0 (State.refuse t a cmd reason req) := by
  refine Ev.comp h ?_ k
  clear h k
  unfold State.refuse
  try dsimp only
  repeat' first
    | (with_reducible first
        | exact Ev.refl _ _ | intro _ | refine Ev.ite ?_ ?_ | refine State.recordRefusal_ev ?_ | refine Ev.modAxis ?_)
    | dsimp only | split

theorem State.accept_ev {m : Nat} {s0 t : State} {a : Fin 8} (h : Ev m s0 t)
    (k : 0x400 &&& m = 0x400 := by decide) : Ev m s0 (State.accept t a) := by
  refine Ev.comp h ?_ k
  clear h k
  unfold State.accept
  try dsimp only
  repeat' first
    | (with_reducible first
        | exact Ev.refl _ _ | intro _ | refine Ev.ite ?_ ?_ | refine Ev.modAxis ?_)
    | dsimp only | split

theorem State.markAct_ev {m : Nat} {s0 t : State} {r : Nat} {a : Fin 8} (h : Ev m s0 t)
    (k : 0x0 &&& m = 0x0 := by decide) : Ev m s0 (State.markAct t r a) := by
  refine Ev.comp h ?_ k
  clear h k
  unfold State.markAct
  try dsimp only
  repeat' first
    | (with_reducible first
        | exact Ev.refl _ _
        | intro _
        | refine Ev.ite ?_ ?_
        | refine Ev.mark ?_)
    | dsimp only | split

theorem State.brakeOut_ev {m : Nat} {s0 t : State} {a : Fin 8} (h : Ev m s0 t)
    (k : 0x100000000100000 &&& m = 0x100000000100000 := by decide) : Ev m s0 (State.brakeOut t a) := by
  refine Ev.comp h ?_ k
  clear h k
  unfold State.brakeOut
  try dsimp only
  repeat' first
    | (with_reducible first
        | exact Ev.refl _ _ | intro _ | refine Ev.ite ?_ ?_ | refine Ev.modLio ?_
        | refine Ev.put ?_ 24 (by simp only [ BRK_STAT, BRK_STAT_CMD, BRK_STAT_ERLACT, BRK_STAT_GOVSET, BRK_STAT_LINKHELD, BRK_STAT_NOTSET, BRK_STAT_OUT, BRK_STAT_PERMIT]; omega))
    | dsimp only | split

theorem State.brakes_ev {m : Nat} {s0 t : State}  (h : Ev m s0 t)
    (k : 0x100000000100000 &&& m = 0x100000000100000 := by decide) : Ev m s0 (State.brakes t) := by
  refine Ev.comp h ?_ k
  clear h k
  unfold State.brakes
  try dsimp only
  repeat' first
    | (with_reducible first
        | exact Ev.refl _ _ | intro _ | refine Ev.ite ?_ ?_ | refine State.brakeOut_ev ?_ | refine Ev.forFin ?_ ?_)
    | dsimp only | split

theorem State.brakeCmd_ev {m : Nat} {s0 t : State} {a : Fin 8} {release : Bool} (h : Ev m s0 t)
    (k : 0x100000000100000 &&& m = 0x100000000100000 := by decide) : Ev m s0 (State.brakeCmd t a release) := by
  refine Ev.comp h ?_ k
  clear h k
  unfold State.brakeCmd
  try dsimp only
  repeat' first
    | (with_reducible first
        | exact Ev.refl _ _ | intro _ | refine Ev.ite ?_ ?_ | refine State.brakes_ev ?_
        | refine Ev.put ?_ 24 (by simp only [ BRK_STAT, BRK_STAT_CMD]; omega))
    | dsimp only | split

theorem State.haltPort_ev {m : Nat} {s0 t : State} {p : Fin 6} {cause : Nat} {by_ : Nat} (h : Ev m s0 t)
    (k : 0x800 &&& m = 0x800 := by decide) : Ev m s0 (State.haltPort t p cause by_) := by
  refine Ev.comp h ?_ k
  clear h k
  unfold State.haltPort
  try dsimp only
  repeat' first
    | (with_reducible first
        | exact Ev.refl _ _ | intro _ | refine Ev.ite ?_ ?_
        | refine Ev.modPort ?_ (by intro _ h; (try dsimp only); (repeat' split); all_goals first | exact h | with_unfolding_all exact ⟨h.rx, h.ten⟩))
    | dsimp only | split

theorem State.haltAxisPorts_ev {m : Nat} {s0 t : State} {a : Fin 8} (h : Ev m s0 t)
    (k : 0x800 &&& m = 0x800 := by decide) : Ev m s0 (State.haltAxisPorts t a) := by
  refine Ev.comp h ?_ k
  clear h k
  unfold State.haltAxisPorts
  try dsimp only
  repeat' first
    | (with_reducible first
        | exact Ev.refl _ _ | intro _ | refine Ev.ite ?_ ?_ | refine State.haltPort_ev ?_ | refine Ev.forFin ?_ ?_)
    | dsimp only | split

theorem State.stopEngine_ev {m : Nat} {s0 t : State} {a : Fin 8} (h : Ev m s0 t)
    (k : 0x2000000000400 &&& m = 0x2000000000400 := by decide) : Ev m s0 (State.stopEngine t a) := by
  refine Ev.comp h ?_ k
  clear h k
  unfold State.stopEngine
  try dsimp only
  repeat' first
    | (with_reducible first
        | exact Ev.refl _ _
        | intro _
        | refine Ev.ite ?_ ?_
        | refine Ev.modAxis ?_
        | refine Ev.put ?_ 17 (by first | decide | (simp only [ ENG_STAT, ENG_STAT_EDGES, ENG_STAT_LIMIT, ENG_STAT_PRECHG]; omega)))
    | dsimp only | split

theorem State.levelsOff_ev {m : Nat} {s0 t : State} {a : Fin 8} (h : Ev m s0 t)
    (k : 0x10000 &&& m = 0x10000 := by decide) : Ev m s0 (State.levelsOff t a) := by
  refine Ev.comp h ?_ k
  clear h k
  unfold State.levelsOff
  try dsimp only
  repeat' first
    | (with_reducible first
        | exact Ev.refl _ _ | intro _ | refine Ev.ite ?_ ?_ | refine Ev.modEng ?_)
    | dsimp only | split

theorem State.haltAxis_ev {m : Nat} {s0 t : State} {a : Fin 8} (h : Ev m s0 t)
    (k : 0x102000000110400 &&& m = 0x102000000110400 := by decide) : Ev m s0 (State.haltAxis t a) := by
  refine Ev.comp h ?_ k
  clear h k
  unfold State.haltAxis
  try dsimp only
  repeat' first
    | (with_reducible first
        | exact Ev.refl _ _
        | intro _
        | refine Ev.ite ?_ ?_
        | refine State.brakeCmd_ev ?_
        | refine State.levelsOff_ev ?_
        | refine State.stopEngine_ev ?_)
    | dsimp only | split

theorem State.fastHalt_ev {m : Nat} {s0 t : State} {a : Fin 8} (h : Ev m s0 t)
    (k : 0x102000000110c00 &&& m = 0x102000000110c00 := by decide) : Ev m s0 (State.fastHalt t a) := by
  refine Ev.comp h ?_ k
  clear h k
  unfold State.fastHalt
  try dsimp only
  repeat' first
    | (with_reducible first
        | exact Ev.refl _ _
        | intro _
        | refine Ev.ite ?_ ?_
        | refine State.haltAxis_ev ?_
        | refine State.haltAxisPorts_ev ?_)
    | dsimp only | split

theorem State.takeFault_ev {m : Nat} {s0 t : State} {a : Fin 8} {cause : Nat} {axerr : Nat} (h : Ev m s0 t)
    (k : 0x102000800114c00 &&& m = 0x102000800114c00 := by decide) : Ev m s0 (State.takeFault t a cause axerr) := by
  refine Ev.comp h ?_ k
  clear h k
  unfold State.takeFault
  try dsimp only
  repeat' first
    | (with_reducible first
        | exact Ev.refl _ _
        | intro _
        | refine Ev.ite ?_ ?_
        | refine Ev.emcy ?_
        | refine Ev.put ?_ 17 (by first | decide | (simp only [ AX_ERR, AX_ERR_ERRCODE, AX_EVT, axEvt]; omega))
        | refine Ev.raise ?_ 17 (by first | decide | (simp only [ AX_ERR, AX_ERR_ERRCODE, AX_EVT, axEvt]; omega))
        | refine State.axisTo_ev ?_
        | refine State.fastHalt_ev ?_
        | refine State.markAct_ev ?_)
    | dsimp only | split

theorem State.engineFault_ev {m : Nat} {s0 t : State} {a : Fin 8} {c : Nat} (h : Ev m s0 t)
    (k : 0x102000800114c00 &&& m = 0x102000800114c00 := by decide) : Ev m s0 (State.engineFault t a c) := by
  refine Ev.comp h ?_ k
  clear h k
  unfold State.engineFault
  try dsimp only
  repeat' first
    | (with_reducible first
        | exact Ev.refl _ _ | intro _ | refine Ev.ite ?_ ?_ | refine State.takeFault_ev ?_
        | refine Ev.put ?_ 17 (by simp only [ AX_CTRL, AX_CTRL_INIT, ENG_FAULT, ENG_FAULT_FIRST]; omega)
        | refine Ev.putOr ?_ 17 (by simp only [ AX_CTRL, AX_CTRL_INIT, ENG_FAULT, ENG_FAULT_FIRST]; omega))
    | dsimp only | split

theorem State.winchFault_ev {m : Nat} {s0 t : State} {a : Fin 8} {c : Nat} (h : Ev m s0 t)
    (k : 0x102000800114c00 &&& m = 0x102000800114c00 := by decide) : Ev m s0 (State.winchFault t a c) := by
  refine Ev.comp h ?_ k
  clear h k
  unfold State.winchFault
  try dsimp only
  repeat' first
    | (with_reducible first
        | exact Ev.refl _ _ | intro _ | refine Ev.ite ?_ ?_ | refine State.takeFault_ev ?_
        | refine Ev.put ?_ 17 (by simp only [ AX_CTRL, AX_CTRL_INIT]; omega)
        | refine Ev.put ?_ 24 (by simp only [ WN_FAULT, WN_FAULT_FIRST, WN_FAULT_MAP]; omega)
        | refine Ev.putOr ?_ 17 (by simp only [ AX_CTRL, AX_CTRL_INIT]; omega)
        | refine Ev.putOr ?_ 24 (by simp only [ WN_FAULT, WN_FAULT_FIRST, WN_FAULT_MAP]; omega))
    | dsimp only | split

theorem State.portFault_ev {m : Nat} {s0 t : State} {p : Fin 6} {c : Nat} (h : Ev m s0 t)
    (k : 0x102000800114c00 &&& m = 0x102000800114c00 := by decide) : Ev m s0 (State.portFault t p c) := by
  refine Ev.comp h ?_ k
  clear h k
  unfold State.portFault
  try dsimp only
  repeat' first
    | (with_reducible first
        | exact Ev.refl _ _ | intro _ | refine Ev.ite ?_ ?_ | refine State.engineFault_ev ?_ | refine Ev.forFin ?_ ?_)
    | dsimp only | split

theorem State.clearFault_ev {m : Nat} {s0 t : State} {a : Fin 8} (h : Ev m s0 t)
    (k : 0x102000000000000 &&& m = 0x102000000000000 := by decide) : Ev m s0 (State.clearFault t a) := by
  refine Ev.comp h ?_ k
  clear h k
  unfold State.clearFault
  try dsimp only
  repeat' first
    | (with_reducible first
        | exact Ev.refl _ _ | intro _ | refine Ev.ite ?_ ?_
        | refine Ev.put ?_ 17 (by simp only [ AX_ERR, AX_ERR_ERRCODE, ENG_FAULT]; omega)
        | refine Ev.put ?_ 24 (by simp only [ WN_FAULT]; omega)
        | refine Ev.setReg ?_ 17 (by simp only [ AX_ERR, AX_ERR_ERRCODE, ENG_FAULT]; omega)
        | refine Ev.setReg ?_ 24 (by simp only [ WN_FAULT]; omega))
    | dsimp only | split

theorem State.faultReset_ev {m : Nat} {s0 t : State} {a : Fin 8} (h : Ev m s0 t)
    (k : 0x102000800104400 &&& m = 0x102000800104400 := by decide) : Ev m s0 (State.faultReset t a) := by
  refine Ev.comp h ?_ k
  clear h k
  unfold State.faultReset
  try dsimp only
  repeat' first
    | (with_reducible first
        | exact Ev.refl _ _ | intro _ | refine Ev.ite ?_ ?_ | refine State.accept_ev ?_ | refine State.axisTo_ev ?_
        | refine State.clearFault_ev ?_ | refine State.refuse_ev ?_)
    | dsimp only | split

theorem State.cutAxis_ev {m : Nat} {s0 t : State} {a : Fin 8} (h : Ev m s0 t)
    (k : 0x102000800114400 &&& m = 0x102000800114400 := by decide) : Ev m s0 (State.cutAxis t a) := by
  refine Ev.comp h ?_ k
  clear h k
  unfold State.cutAxis
  try dsimp only
  repeat' first
    | (with_reducible first
        | exact Ev.refl _ _
        | intro _
        | refine Ev.ite ?_ ?_
        | refine Ev.emcy ?_
        | refine Ev.raise ?_ 17 (by first | decide | (simp only [ AX_EVT, AX_MODESEL, AX_MODESEL_MODESEL, axEvt]; omega))
        | refine State.axisTo_ev ?_
        | refine State.haltAxis_ev ?_
        | refine State.markAct_ev ?_)
    | dsimp only | split

theorem State.cutAxes_ev {m : Nat} {s0 t : State}  (h : Ev m s0 t)
    (k : 0x102000a00114700 &&& m = 0x102000a00114700 := by decide) : Ev m s0 (State.cutAxes t) := by
  refine Ev.comp h ?_ k
  clear h k
  unfold State.cutAxes
  try dsimp only
  repeat' first
    | (with_reducible first
        | exact Ev.refl _ _
        | intro _
        | refine Ev.ite ?_ ?_
        | refine Ev.forFin ?_ ?_
        | refine Ev.mark ?_
        | refine State.cut_ev ?_
        | refine State.cutAxis_ev ?_)
    | dsimp only | split

theorem State.leaveTo_ev {m : Nat} {s0 t : State} {a : Fin 8} {st : Cia} (h : Ev m s0 t)
    (k : 0x2000800100400 &&& m = 0x2000800100400 := by decide) : Ev m s0 (State.leaveTo t a st) := by
  refine Ev.comp h ?_ k
  clear h k
  unfold State.leaveTo
  try dsimp only
  repeat' first
    | (with_reducible first
        | exact Ev.refl _ _ | intro _ | refine Ev.ite ?_ ?_ | refine State.axisTo_ev ?_
        | refine Ev.raise ?_ 17 (by simp only [ AX_EVT, axEvt]; omega))
    | dsimp only | split

theorem State.beginRamp_ev {m : Nat} {s0 t : State} {a : Fin 8} {r : Ramp} {st : Cia} {cmd : Nat} (h : Ev m s0 t)
    (k : 0x102000800114c00 &&& m = 0x102000800114c00 := by decide) : Ev m s0 (State.beginRamp t a r st cmd) := by
  refine Ev.comp h ?_ k
  clear h k
  unfold State.beginRamp
  try dsimp only
  repeat' first
    | (with_reducible first
        | exact Ev.refl _ _
        | intro _
        | refine Ev.ite ?_ ?_
        | refine Ev.modAxis ?_
        | refine Ev.modEng ?_
        | refine Ev.put ?_ 17 (by first | decide | (simp only [ AX_MODESEL, AX_MODESEL_MODESEL, ENG_STAT, ENG_STAT_PRECHG]; omega))
        | refine State.axisTo_ev ?_
        | refine State.fastHalt_ev ?_
        | refine State.leaveTo_ev ?_
        | refine State.quickStop_ev ?_
        | refine State.recordRefusal_ev ?_)
    | dsimp only | split

theorem State.finishStop_ev {m : Nat} {s0 t : State} {a : Fin 8} {g : Goal} (h : Ev m s0 t)
    (k : 0x102000800100400 &&& m = 0x102000800100400 := by decide) : Ev m s0 (State.finishStop t a g) := by
  refine Ev.comp h ?_ k
  clear h k
  unfold State.finishStop
  try dsimp only
  repeat' first
    | (with_reducible first
        | exact Ev.refl _ _ | intro _ | refine Ev.ite ?_ ?_ | refine State.brakeCmd_ev ?_ | refine State.leaveTo_ev ?_
        | refine State.stopEngine_ev ?_ | refine Ev.modAxis ?_)
    | dsimp only | split

theorem State.stopDone_ev {m : Nat} {s0 t : State} {a : Fin 8} (h : Ev m s0 t)
    (k : 0x102000800100400 &&& m = 0x102000800100400 := by decide) : Ev m s0 (State.stopDone t a) := by
  refine Ev.comp h ?_ k
  clear h k
  unfold State.stopDone
  try dsimp only
  repeat' first
    | (with_reducible first
        | exact Ev.refl _ _
        | intro _
        | refine Ev.ite ?_ ?_
        | refine State.finishStop_ev ?_)
    | dsimp only | split

theorem State.quickStop_ev {m : Nat} {s0 t : State} {a : Fin 8} {cmd : Nat} (h : Ev m s0 t)
    (k : 0x102000800114c00 &&& m = 0x102000800114c00 := by decide) : Ev m s0 (State.quickStop t a cmd) := by
  refine Ev.comp h ?_ k
  clear h k
  unfold State.quickStop
  try dsimp only
  repeat' first
    | (with_reducible first
        | exact Ev.refl _ _ | intro _ | refine Ev.ite ?_ ?_ | refine State.beginRamp_ev ?_)
    | dsimp only | split

theorem State.ss1Axis_ev {m : Nat} {s0 t : State} {a : Fin 8} (h : Ev m s0 t)
    (k : 0x102000800114c00 &&& m = 0x102000800114c00 := by decide) : Ev m s0 (State.ss1Axis t a) := by
  refine Ev.comp h ?_ k
  clear h k
  unfold State.ss1Axis
  try dsimp only
  repeat' first
    | (with_reducible first
        | exact Ev.refl _ _
        | intro _
        | refine Ev.ite ?_ ?_
        | refine Ev.modAxis ?_
        | refine State.beginRamp_ev ?_
        | refine State.markAct_ev ?_
        | refine State.quickStop_ev ?_)
    | dsimp only | split

theorem State.ss1Axes_ev {m : Nat} {s0 t : State}  (h : Ev m s0 t)
    (k : 0x102000800114c00 &&& m = 0x102000800114c00 := by decide) : Ev m s0 (State.ss1Axes t) := by
  refine Ev.comp h ?_ k
  clear h k
  unfold State.ss1Axes
  try dsimp only
  repeat' first
    | (with_reducible first
        | exact Ev.refl _ _ | intro _ | refine Ev.ite ?_ ?_ | refine State.ss1Axis_ev ?_ | refine Ev.forFin ?_ ?_)
    | dsimp only | split

theorem State.presetLoops_ev {m : Nat} {s0 t : State} {a : Fin 8} (h : Ev m s0 t)
    (k : 0x10000 &&& m = 0x10000 := by decide) : Ev m s0 (State.presetLoops t a) := by
  refine Ev.comp h ?_ k
  clear h k
  unfold State.presetLoops
  try dsimp only
  repeat' first
    | (with_reducible first
        | exact Ev.refl _ _
        | intro _
        | refine Ev.ite ?_ ?_
        | refine Ev.modEng ?_)
    | dsimp only | split

theorem State.enterMode_ev {m : Nat} {s0 t : State} {a : Fin 8} {m' : Int} (h : Ev m s0 t)
    (k : 0x102000800114c00 &&& m = 0x102000800114c00 := by decide) : Ev m s0 (State.enterMode t a m') := by
  refine Ev.comp h ?_ k
  clear h k
  unfold State.enterMode
  try dsimp only
  repeat' first
    | (with_reducible first
        | exact Ev.refl _ _
        | intro _
        | refine Ev.ite ?_ ?_
        | refine Ev.modAxis ?_
        | refine Ev.put ?_ 17 (by first | decide | (simp only [ ENG_FB, ENG_FB_SRC, ENG_STAT, ENG_STAT_EDGES, ENG_STAT_PRECHG]; omega))
        | refine State.axisTo_ev ?_
        | refine State.engineFault_ev ?_
        | refine State.presetLoops_ev ?_)
    | dsimp only | split

theorem State.enableOp_ev {m : Nat} {s0 t : State} {a : Fin 8} (h : Ev m s0 t)
    (k : 0x102000800114c00 &&& m = 0x102000800114c00 := by decide) : Ev m s0 (State.enableOp t a) := by
  refine Ev.comp h ?_ k
  clear h k
  unfold State.enableOp
  try dsimp only
  repeat' first
    | (with_reducible first
        | exact Ev.refl _ _ | intro _ | refine Ev.ite ?_ ?_ | refine State.accept_ev ?_ | refine State.enterMode_ev ?_
        | refine State.refuse_ev ?_
        | refine Ev.put ?_ 17 (by simp only [ AX_MODESEL, AX_MODESEL_MODESEL, ENG_STAT, ENG_STAT_CFGREF]; omega))
    | dsimp only | split

theorem State.leaveEnabled_ev {m : Nat} {s0 t : State} {a : Fin 8} {opt : Nat} {g : Goal} {st : Cia} (h : Ev m s0 t)
    (k : 0x102000800114c00 &&& m = 0x102000800114c00 := by decide) : Ev m s0 (State.leaveEnabled t a opt g st) := by
  refine Ev.comp h ?_ k
  clear h k
  unfold State.leaveEnabled
  try dsimp only
  repeat' first
    | (with_reducible first
        | exact Ev.refl _ _ | intro _ | refine Ev.ite ?_ ?_ | refine State.axisTo_ev ?_ | refine State.beginRamp_ev ?_
        | refine State.fastHalt_ev ?_)
    | dsimp only | split

theorem State.resumeControl_ev {m : Nat} {s0 t : State} {a : Fin 8} {cmd : Nat} (h : Ev m s0 t)
    (k : 0x102000800114c00 &&& m = 0x102000800114c00 := by decide) : Ev m s0 (State.resumeControl t a cmd) := by
  refine Ev.comp h ?_ k
  clear h k
  unfold State.resumeControl
  try dsimp only
  repeat' first
    | (with_reducible first
        | exact Ev.refl _ _
        | intro _
        | refine Ev.ite ?_ ?_
        | refine State.beginRamp_ev ?_)
    | dsimp only | split

theorem State.haltBit_ev {m : Nat} {s0 t : State} {a : Fin 8} {old : Nat} {v : Nat} (h : Ev m s0 t)
    (k : 0x102000800114c00 &&& m = 0x102000800114c00 := by decide) : Ev m s0 (State.haltBit t a old v) := by
  refine Ev.comp h ?_ k
  clear h k
  unfold State.haltBit
  try dsimp only
  repeat' first
    | (with_reducible first
        | exact Ev.refl _ _
        | intro _
        | refine Ev.ite ?_ ?_
        | refine Ev.modAxis ?_
        | refine Ev.put ?_ 17 (by first | decide | (simp only [ AX_OPT, AX_OPT_HALTOPT, ENG_STAT, ENG_STAT_EDGES]; omega))
        | refine State.accept_ev ?_
        | refine State.beginRamp_ev ?_
        | refine State.resumeControl_ev ?_)
    | dsimp only | split

theorem State.resumeQuick_ev {m : Nat} {s0 t : State} {a : Fin 8} {v : Nat} (h : Ev m s0 t)
    (k : 0x102000800114c00 &&& m = 0x102000800114c00 := by decide) : Ev m s0 (State.resumeQuick t a v) := by
  refine Ev.comp h ?_ k
  clear h k
  unfold State.resumeQuick
  try dsimp only
  repeat' first
    | (with_reducible first
        | exact Ev.refl _ _
        | intro _
        | refine Ev.ite ?_ ?_
        | refine Ev.modAxis ?_
        | refine Ev.put ?_ 17 (by first | decide | (simp only [ AX_MODESEL, AX_MODESEL_MODESEL, ENG_STAT, ENG_STAT_EDGES]; omega))
        | refine State.accept_ev ?_
        | refine State.enterMode_ev ?_
        | refine State.haltBit_ev ?_
        | refine State.presetLoops_ev ?_
        | refine State.refuse_ev ?_
        | refine State.resumeControl_ev ?_)
    | dsimp only | split

theorem State.cwState_ev {m : Nat} {s0 t : State} {a : Fin 8} {old : Nat} {v : Nat} (h : Ev m s0 t)
    (k : 0x102000800114c00 &&& m = 0x102000800114c00 := by decide) : Ev m s0 (State.cwState t a old v) := by
  refine Ev.comp h ?_ k
  clear h k
  unfold State.cwState
  try dsimp only
  repeat' first
    | (with_reducible first
        | exact Ev.refl _ _ | intro _ | refine Ev.ite ?_ ?_ | refine State.accept_ev ?_ | refine State.axisTo_ev ?_
        | refine State.enableOp_ev ?_ | refine State.fastHalt_ev ?_ | refine State.haltBit_ev ?_
        | refine State.leaveEnabled_ev ?_ | refine State.quickStop_ev ?_ | refine State.resumeQuick_ev ?_)
    | dsimp only | split

theorem State.evalCw_ev {m : Nat} {s0 t : State} {a : Fin 8} {old : Nat} {v : Nat} (h : Ev m s0 t)
    (k : 0x102000800114c00 &&& m = 0x102000800114c00 := by decide) : Ev m s0 (State.evalCw t a old v) := by
  refine Ev.comp h ?_ k
  clear h k
  unfold State.evalCw
  try dsimp only
  repeat' first
    | (with_reducible first
        | exact Ev.refl _ _ | intro _ | refine Ev.ite ?_ ?_ | refine State.cwState_ev ?_ | refine State.faultReset_ev ?_
        | refine State.refuse_ev ?_)
    | dsimp only | split

theorem State.writeCw_ev {m : Nat} {s0 t : State} {a : Fin 8} {src : Nat} {v : Nat} (h : Ev m s0 t)
    (k : 0x502000800114c00 &&& m = 0x502000800114c00 := by decide) : Ev m s0 (State.writeCw t a src v) := by
  refine Ev.comp h ?_ k
  clear h k
  unfold State.writeCw
  try dsimp only
  repeat' first
    | (with_reducible first
        | exact Ev.refl _ _ | intro _ | refine Ev.ite ?_ ?_ | refine State.evalCw_ev ?_
        | refine Ev.put ?_ 17 (by simp only [ AX_CW, AX_CWSRC, AX_CWSRC_SRC, AX_CW_CW, AX_EVT, axEvt]; omega)
        | refine Ev.put ?_ 26 (by decide)
        | refine Ev.raise ?_ 17 (by simp only [ AX_CW, AX_CWSRC, AX_CWSRC_SRC, AX_CW_CW, AX_EVT, axEvt]; omega)
        | refine Ev.raise ?_ 26 (by decide))
    | dsimp only | split

theorem State.liveMode_ev {m : Nat} {s0 t : State} {a : Fin 8} {m' : Int} (h : Ev m s0 t)
    (k : 0x2000800110400 &&& m = 0x2000800110400 := by decide) : Ev m s0 (State.liveMode t a m') := by
  refine Ev.comp h ?_ k
  clear h k
  unfold State.liveMode
  try dsimp only
  repeat' first
    | (with_reducible first
        | exact Ev.refl _ _ | intro _ | refine Ev.ite ?_ ?_ | refine State.axisTo_ev ?_ | refine Ev.modAxis ?_
        | refine Ev.modEng ?_)
    | dsimp only | split

theorem State.writeMode_ev {m : Nat} {s0 t : State} {a : Fin 8} {code : Nat} (h : Ev m s0 t)
    (k : 0x2000800114400 &&& m = 0x2000800114400 := by decide) : Ev m s0 (State.writeMode t a code) := by
  refine Ev.comp h ?_ k
  clear h k
  unfold State.writeMode
  try dsimp only
  repeat' first
    | (with_reducible first
        | exact Ev.refl _ _ | intro _ | refine Ev.ite ?_ ?_ | refine State.accept_ev ?_ | refine State.liveMode_ev ?_
        | refine State.quickStop_ev ?_ | refine State.refuse_ev ?_
        | refine Ev.put ?_ 17 (by simp only [ AX_MODESEL, AX_MODESEL_MODESEL]; omega))
    | dsimp only | split

theorem State.writeCwsrc_ev {m : Nat} {s0 t : State} {a : Fin 8} {v : Nat} (h : Ev m s0 t)
    (k : 0x2000800004400 &&& m = 0x2000800004400 := by decide) : Ev m s0 (State.writeCwsrc t a v) := by
  refine Ev.comp h ?_ k
  clear h k
  unfold State.writeCwsrc
  try dsimp only
  repeat' first
    | (with_reducible first
        | exact Ev.refl _ _
        | intro _
        | refine Ev.ite ?_ ?_
        | refine Ev.put ?_ 17 (by first | decide | (simp only [ AX_CWSRC, AX_CWSRC_SRC, AX_MODESEL, AX_MODESEL_MODESEL]; omega))
        | refine State.accept_ev ?_
        | refine State.refuse_ev ?_)
    | dsimp only | split

theorem State.restartCycles_ev {m : Nat} {s0 t : State} {a : Fin 8} (h : Ev m s0 t)
    (k : 0x10000 &&& m = 0x10000 := by decide) : Ev m s0 (State.restartCycles t a) := by
  refine Ev.comp h ?_ k
  clear h k
  unfold State.restartCycles
  try dsimp only
  repeat' first
    | (with_reducible first
        | exact Ev.refl _ _ | intro _ | refine Ev.ite ?_ ?_ | refine Ev.modEng ?_)
    | dsimp only | split

theorem State.writeInit_ev {m : Nat} {s0 t : State} {a : Fin 8} {v : Bool} (h : Ev m s0 t)
    (k : 0x2000800110400 &&& m = 0x2000800110400 := by decide) : Ev m s0 (State.writeInit t a v) := by
  refine Ev.comp h ?_ k
  clear h k
  unfold State.writeInit
  try dsimp only
  repeat' first
    | (with_reducible first
        | exact Ev.refl _ _ | intro _ | refine Ev.ite ?_ ?_ | refine State.axisTo_ev ?_ | refine State.restartCycles_ev ?_
        | refine Ev.put ?_ 17 (by simp only [ AX_CTRL, AX_CTRL_INIT, ENG_MARGIN, ENG_MARGIN_V]; omega))
    | dsimp only | split

theorem State.emgFromRunning_ev {m : Nat} {s0 t : State} {a : Fin 8} (h : Ev m s0 t)
    (k : 0x2000800110400 &&& m = 0x2000800110400 := by decide) : Ev m s0 (State.emgFromRunning t a) := by
  refine Ev.comp h ?_ k
  clear h k
  unfold State.emgFromRunning
  try dsimp only
  repeat' first
    | (with_reducible first
        | exact Ev.refl _ _
        | intro _
        | refine Ev.ite ?_ ?_
        | refine Ev.modAxis ?_
        | refine Ev.modEng ?_
        | refine Ev.put ?_ 17 (by first | decide | (simp only [ AX_EVT, ENG_STAT, ENG_STAT_EDGES, axEvt]; omega))
        | refine Ev.raise ?_ 17 (by first | decide | (simp only [ AX_EVT, ENG_STAT, ENG_STAT_EDGES, axEvt]; omega))
        | refine State.accept_ev ?_
        | refine State.axisTo_ev ?_)
    | dsimp only | split

theorem State.emgRequest_ev {m : Nat} {s0 t : State} {a : Fin 8} {on : Bool} (h : Ev m s0 t)
    (k : 0x100000800000400 &&& m = 0x100000800000400 := by decide) : Ev m s0 (State.emgRequest t a on) := by
  refine Ev.comp h ?_ k
  clear h k
  unfold State.emgRequest
  try dsimp only
  repeat' first
    | (with_reducible first
        | exact Ev.refl _ _ | intro _ | refine Ev.ite ?_ ?_ | refine Ev.modAxis ?_ | refine Ev.raise ?_ 24 (by decide))
    | dsimp only | split

theorem State.emgFromSafe_ev {m : Nat} {s0 t : State} {a : Fin 8} (h : Ev m s0 t)
    (k : 0x102000800114c00 &&& m = 0x102000800114c00 := by decide) : Ev m s0 (State.emgFromSafe t a) := by
  refine Ev.comp h ?_ k
  clear h k
  unfold State.emgFromSafe
  try dsimp only
  repeat' first
    | (with_reducible first
        | exact Ev.refl _ _
        | intro _
        | refine Ev.ite ?_ ?_
        | refine Ev.put ?_ 17 (by first | decide | (simp only [ AX_EVT, ENG_STAT, ENG_STAT_CFGREF, axEvt]; omega))
        | refine Ev.raise ?_ 17 (by first | decide | (simp only [ AX_EVT, ENG_STAT, ENG_STAT_CFGREF, axEvt]; omega))
        | refine State.accept_ev ?_
        | refine State.clearFault_ev ?_
        | refine State.enterMode_ev ?_
        | refine State.markAct_ev ?_
        | refine State.refuse_ev ?_)
    | dsimp only | split

theorem State.emgPend_ev {m : Nat} {s0 t : State} {a : Fin 8} (h : Ev m s0 t)
    (k : 0x102000800114c00 &&& m = 0x102000800114c00 := by decide) : Ev m s0 (State.emgPend t a) := by
  refine Ev.comp h ?_ k
  clear h k
  unfold State.emgPend
  try dsimp only
  repeat' first
    | (with_reducible first
        | exact Ev.refl _ _
        | intro _
        | refine Ev.ite ?_ ?_
        | refine Ev.modAxis ?_
        | refine Ev.raise ?_ 17 (by first | decide | (simp only [ AX_EVT, axEvt]; omega))
        | refine State.accept_ev ?_
        | refine State.beginRamp_ev ?_)
    | dsimp only | split

theorem State.emgOn_ev {m : Nat} {s0 t : State} {a : Fin 8} (h : Ev m s0 t)
    (k : 0x102000a00114f00 &&& m = 0x102000a00114f00 := by decide) : Ev m s0 (State.emgOn t a) := by
  refine Ev.comp h ?_ k
  clear h k
  unfold State.emgOn
  try dsimp only
  repeat' first
    | (with_reducible first
        | exact Ev.refl _ _
        | intro _
        | refine Ev.ite ?_ ?_
        | refine State.cut_ev ?_
        | refine State.emgFromRunning_ev ?_
        | refine State.emgFromSafe_ev ?_
        | refine State.emgPend_ev ?_
        | refine State.emgRequest_ev ?_
        | refine State.markAct_ev ?_
        | refine State.refuse_ev ?_)
    | dsimp only | split

theorem State.emgOff_ev {m : Nat} {s0 t : State} {a : Fin 8} (h : Ev m s0 t)
    (k : 0x102000800114c00 &&& m = 0x102000800114c00 := by decide) : Ev m s0 (State.emgOff t a) := by
  refine Ev.comp h ?_ k
  clear h k
  unfold State.emgOff
  try dsimp only
  repeat' first
    | (with_reducible first
        | exact Ev.refl _ _
        | intro _
        | refine Ev.ite ?_ ?_
        | refine Ev.modAxis ?_
        | refine State.accept_ev ?_
        | refine State.beginRamp_ev ?_
        | refine State.emgRequest_ev ?_
        | refine State.haltBit_ev ?_
        | refine State.markAct_ev ?_
        | refine State.resumeControl_ev ?_)
    | dsimp only | split

theorem State.setEmg_ev {m : Nat} {s0 t : State} {a : Fin 8} {on : Bool} (h : Ev m s0 t)
    (k : 0x102000a00114f00 &&& m = 0x102000a00114f00 := by decide) : Ev m s0 (State.setEmg t a on) := by
  refine Ev.comp h ?_ k
  clear h k
  unfold State.setEmg
  try dsimp only
  repeat' first
    | (with_reducible first
        | exact Ev.refl _ _ | intro _ | refine Ev.ite ?_ ?_ | refine State.emgOff_ev ?_ | refine State.emgOn_ev ?_)
    | dsimp only | split

theorem State.inhibits_ev {m : Nat} {s0 t : State}  (h : Ev m s0 t)
    (k : 0x400 &&& m = 0x400 := by decide) : Ev m s0 (State.inhibits t) := by
  refine Ev.comp h ?_ k
  clear h k
  unfold State.inhibits
  try dsimp only
  repeat' first
    | (with_reducible first
        | exact Ev.refl _ _ | intro _ | refine Ev.ite ?_ ?_ | refine Ev.modAxis ?_ | refine Ev.forFin ?_ ?_)
    | dsimp only | split

theorem State.lampStop_ev {m : Nat} {s0 t : State} {a : Fin 8} (h : Ev m s0 t)
    (k : 0x102000800114c00 &&& m = 0x102000800114c00 := by decide) : Ev m s0 (State.lampStop t a) := by
  refine Ev.comp h ?_ k
  clear h k
  unfold State.lampStop
  try dsimp only
  repeat' first
    | (with_reducible first
        | exact Ev.refl _ _
        | intro _
        | refine Ev.ite ?_ ?_
        | refine State.markAct_ev ?_
        | refine State.quickStop_ev ?_)
    | dsimp only | split

end Sys2Proof.Machine
end

