-- ==== Sys2Proof/Laws/KeepsClaimOps.lean ====
section
/-! SUPPORT. What the operations of Machine/ClaimOps.lean keep. -/

set_option linter.all false
set_option Elab.async false

namespace Sys2Proof.Machine

theorem State.forceDisabled_ev {m : Nat} {s0 t : State} {a : Fin 8} (h : Ev m s0 t)
    (k : 0x102000800110c00 &&& m = 0x102000800110c00 := by decide) : Ev m s0 (State.forceDisabled t a) := by
  refine Ev.comp h ?_ k
  clear h k
  unfold State.forceDisabled
  try dsimp only
  repeat' first
    | (with_reducible first
        | exact Ev.refl _ _ | intro _ | refine Ev.ite ?_ ?_ | refine State.axisTo_ev ?_ | refine State.fastHalt_ev ?_
        | refine Ev.raise ?_ 17 (by simp only [ AX_EVT, axEvt]; omega))
    | dsimp only | split

theorem State.parkTo_ev {m : Nat} {s0 t : State} {st : Nat} {reason : Nat} (h : Ev m s0 t)
    (k : 0x900004000 &&& m = 0x900004000 := by decide) : Ev m s0 (State.parkTo t st reason) := by
  refine Ev.comp h ?_ k
  clear h k
  unfold State.parkTo
  try dsimp only
  repeat' first
    | (with_reducible first
        | exact Ev.refl _ _ | intro _ | refine Ev.ite ?_ ?_ | refine Ev.emcy ?_ | refine Ev.put ?_ 0 (by decide)
        | refine Ev.strobe ?_)
    | dsimp only | split

theorem State.parkRefuse_ev {m : Nat} {s0 t : State} {reason : Nat} (h : Ev m s0 t)
    (k : 0x900004000 &&& m = 0x900004000 := by decide) : Ev m s0 (State.parkRefuse t reason) := by
  refine Ev.comp h ?_ k
  clear h k
  unfold State.parkRefuse
  try dsimp only
  repeat' first
    | (with_reducible first
        | exact Ev.refl _ _ | intro _ | refine Ev.ite ?_ ?_ | refine State.parkTo_ev ?_ | refine Ev.put ?_ 0 (by decide))
    | dsimp only | split

theorem State.handoverAsk_ev {m : Nat} {s0 t : State}  (h : Ev m s0 t)
    (k : 0x8000 &&& m = 0x8000 := by decide) : Ev m s0 (State.handoverAsk t).2 := by
  refine Ev.comp h ?_ k
  clear h k
  unfold State.handoverAsk
  try dsimp only
  repeat' first
    | (with_reducible first
        | exact Ev.refl _ _ | intro _ | refine Ev.ite ?_ ?_ | refine Ev.modCp ?_)
    | dsimp only | split

theorem State.parkJudge_ev {m : Nat} {s0 t : State}  (h : Ev m s0 t)
    (k : 0x90000c000 &&& m = 0x90000c000 := by decide) : Ev m s0 (State.parkJudge t).2 := by
  refine Ev.comp h ?_ k
  clear h k
  unfold State.parkJudge
  try dsimp only
  repeat' first
    | (with_reducible first
        | exact Ev.refl _ _ | intro _ | refine Ev.ite ?_ ?_ | refine State.handoverAsk_ev ?_ | refine State.parkRefuse_ev ?_
        | refine State.parkTo_ev ?_)
    | dsimp only | split

theorem State.claimRelease_ev {m : Nat} {s0 t : State}  (h : Ev m s0 t)
    (k : 0x50200090011cc00 &&& m = 0x50200090011cc00 := by decide) : Ev m s0 (State.claimRelease t) := by
  refine Ev.comp h ?_ k
  clear h k
  unfold State.claimRelease
  try dsimp only
  repeat' first
    | (with_reducible first
        | exact Ev.refl _ _ | intro _ | refine Ev.ite ?_ ?_ | refine State.forceDisabled_ev ?_ | refine State.parkJudge_ev ?_
        | refine Ev.modCp ?_
        | refine Ev.modPort ?_ (by intro _ h; (try dsimp only); (repeat' split); all_goals first | exact h | with_unfolding_all exact ⟨h.rx, h.ten⟩)
        | refine Ev.put ?_ 0 (by decide) | refine Ev.put ?_ 26 (by decide) | refine Ev.forFin ?_ ?_)
    | dsimp only | split

theorem State.warmStart_ev {m : Nat} {s0 t : State} {a : Fin 8} {b : List Byte} (h : Ev m s0 t)
    (k : 0x102000800114c00 &&& m = 0x102000800114c00 := by decide) : Ev m s0 (State.warmStart t a b) := by
  refine Ev.comp h ?_ k
  clear h k
  unfold State.warmStart
  try dsimp only
  repeat' first
    | (with_reducible first
        | exact Ev.refl _ _ | intro _ | refine Ev.ite ?_ ?_ | refine State.axisTo_ev ?_ | refine State.enterMode_ev ?_
        | refine State.quickStop_ev ?_ | refine Ev.modAxis ?_)
    | dsimp only | split

theorem State.cpEvt_ev {m : Nat} {s0 t : State} {b : Nat} (h : Ev m s0 t)
    (k : 0x400000800000000 &&& m = 0x400000800000000 := by decide) : Ev m s0 (State.cpEvt t b) := by
  refine Ev.comp h ?_ k
  clear h k
  unfold State.cpEvt
  try dsimp only
  repeat' first
    | (with_reducible first
        | exact Ev.refl _ _ | intro _ | refine Ev.ite ?_ ?_ | refine Ev.putOr ?_ 26 (by decide) | refine Ev.strobe ?_)
    | dsimp only | split

theorem State.finishTake_ev {m : Nat} {s0 t : State}  (h : Ev m s0 t)
    (k : 0x50200080011cc00 &&& m = 0x50200080011cc00 := by decide) : Ev m s0 (State.finishTake t) := by
  refine Ev.comp h ?_ k
  clear h k
  unfold State.finishTake
  try dsimp only
  repeat' first
    | (with_reducible first
        | exact Ev.refl _ _ | intro _ | refine Ev.ite ?_ ?_ | refine State.brakeCmd_ev ?_ | refine State.cpEvt_ev ?_
        | refine State.warmStart_ev ?_ | refine Ev.bump ?_ 26 (by decide) | refine Ev.emcy ?_ | refine Ev.modCp ?_
        | refine Ev.put ?_ 26 (by decide) | refine Ev.setReg ?_ 26 (by decide) | refine Ev.forFin ?_ ?_
        | refine Ev.foldl ?_ _ ?_)
    | dsimp only | split

theorem State.takeCheck_ev {m : Nat} {s0 t : State}  (h : Ev m s0 t)
    (k : 0x50200080011cc00 &&& m = 0x50200080011cc00 := by decide) : Ev m s0 (State.takeCheck t) := by
  refine Ev.comp h ?_ k
  clear h k
  unfold State.takeCheck
  try dsimp only
  repeat' first
    | (with_reducible first
        | exact Ev.refl _ _ | intro _ | refine Ev.ite ?_ ?_ | refine State.finishTake_ev ?_)
    | dsimp only | split

theorem State.takeReply_ev {m : Nat} {s0 t : State} {key : Nat} {c : Nat} {pl : Nat} (h : Ev m s0 t)
    (k : 0x8000 &&& m = 0x8000 := by decide) : Ev m s0 (State.takeReply t key c pl) := by
  refine Ev.comp h ?_ k
  clear h k
  unfold State.takeReply
  try dsimp only
  repeat' first
    | (with_reducible first
        | exact Ev.refl _ _ | intro _ | refine Ev.ite ?_ ?_ | refine Ev.modCp ?_)
    | dsimp only | split

end Sys2Proof.Machine
end

