-- ==== Sys2Proof/Laws/KeepsBadger.lean ====
section
/-! SUPPORT. What the operations of Machine/Badger.lean keep. -/

set_option linter.all false
set_option Elab.async false

namespace Sys2Proof.Machine

theorem State.bgEvent_ev {m : Nat} {s0 t : State} {b : Nat} (h : Ev m s0 t)
    (k : 0xa00000000 &&& m = 0xa00000000 := by decide) : Ev m s0 (State.bgEvent t b) := by
  refine Ev.comp h ?_ k
  clear h k
  unfold State.bgEvent
  try dsimp only
  repeat' first
    | (with_reducible first
        | exact Ev.refl _ _ | intro _ | refine Ev.ite ?_ ?_ | refine Ev.raise ?_ 1 (by decide))
    | dsimp only | split

theorem State.bgEmcy_ev {m : Nat} {s0 t : State} {code : Nat} {bytes : List Nat} (h : Ev m s0 t)
    (k : 0x4000 &&& m = 0x4000 := by decide) : Ev m s0 (State.bgEmcy t code bytes) := by
  refine Ev.comp h ?_ k
  clear h k
  unfold State.bgEmcy
  try dsimp only
  repeat' first
    | (with_reducible first
        | exact Ev.refl _ _ | intro _ | refine Ev.ite ?_ ?_ | refine Ev.emcy ?_)
    | dsimp only | split

theorem State.cut_ev {m : Nat} {s0 t : State}  (h : Ev m s0 t)
    (k : 0x100000a00100300 &&& m = 0x100000a00100300 := by decide) : Ev m s0 (State.cut t) := by
  refine Ev.comp h ?_ k
  clear h k
  unfold State.cut
  try dsimp only
  repeat' first
    | (with_reducible first
        | exact Ev.refl _ _ | intro _ | refine Ev.ite ?_ ?_ | refine State.bgEvent_ev ?_ | refine State.brakes_ev ?_
        | refine Ev.modBg ?_ | refine Ev.modSys ?_)
    | dsimp only | split

theorem State.lockout_ev {m : Nat} {s0 t : State} {c : Nat} {i : Nat} (h : Ev m s0 t)
    (k : 0x502000b0011cf00 &&& m = 0x502000b0011cf00 := by decide) : Ev m s0 (State.lockout t c i) := by
  refine Ev.comp h ?_ k
  clear h k
  unfold State.lockout
  try dsimp only
  repeat' first
    | (with_reducible first
        | exact Ev.refl _ _ | intro _ | refine Ev.ite ?_ ?_ | refine State.bgEmcy_ev ?_ | refine State.bgEvent_ev ?_
        | refine State.claimRelease_ev ?_ | refine State.cut_ev ?_ | refine Ev.modBg ?_)
    | dsimp only | split

theorem State.ss1Start_ev {m : Nat} {s0 t : State}  (h : Ev m s0 t)
    (k : 0x102000a00114f00 &&& m = 0x102000a00114f00 := by decide) : Ev m s0 (State.ss1Start t) := by
  refine Ev.comp h ?_ k
  clear h k
  unfold State.ss1Start
  try dsimp only
  repeat' first
    | (with_reducible first
        | exact Ev.refl _ _ | intro _ | refine Ev.ite ?_ ?_ | refine State.bgEvent_ev ?_ | refine State.cut_ev ?_
        | refine State.ss1Axes_ev ?_ | refine Ev.modBg ?_ | refine Ev.modSys ?_)
    | dsimp only | split

theorem State.stopDemand_ev {m : Nat} {s0 t : State} {react : Nat} (h : Ev m s0 t)
    (k : 0x102000a00114f00 &&& m = 0x102000a00114f00 := by decide) : Ev m s0 (State.stopDemand t react) := by
  refine Ev.comp h ?_ k
  clear h k
  unfold State.stopDemand
  try dsimp only
  repeat' first
    | (with_reducible first
        | exact Ev.refl _ _ | intro _ | refine Ev.ite ?_ ?_ | refine State.cut_ev ?_ | refine State.ss1Start_ev ?_)
    | dsimp only | split

theorem State.ss1Unhold_ev {m : Nat} {s0 t : State}  (h : Ev m s0 t)
    (k : 0x200 &&& m = 0x200 := by decide) : Ev m s0 (State.ss1Unhold t) := by
  refine Ev.comp h ?_ k
  clear h k
  unfold State.ss1Unhold
  try dsimp only
  repeat' first
    | (with_reducible first
        | exact Ev.refl _ _ | intro _ | refine Ev.ite ?_ ?_ | refine Ev.modBg ?_)
    | dsimp only | split

theorem State.slsMean_ev {m : Nat} {s0 t : State} {tap : Fin 2} (h : Ev m s0 t)
    (k : 0x2 &&& m = 0x2 := by decide) : Ev m s0 (State.slsMean t tap).2 := by
  refine Ev.comp h ?_ k
  clear h k
  unfold State.slsMean
  try dsimp only
  repeat' first
    | (with_reducible first
        | exact Ev.refl _ _
        | intro _
        | refine Ev.ite ?_ ?_
        | refine Ev.draw ?_)
    | dsimp only | split

theorem State.guardChange_ev {m : Nat} {s0 t : State} {g : Fin 4} {chB : Bool} {level : Bool} (h : Ev m s0 t)
    (k : 0xa00000200 &&& m = 0xa00000200 := by decide) : Ev m s0 (State.guardChange t g chB level) := by
  refine Ev.comp h ?_ k
  clear h k
  unfold State.guardChange
  try dsimp only
  repeat' first
    | (with_reducible first
        | exact Ev.refl _ _ | intro _ | refine Ev.ite ?_ ?_ | refine State.bgEvent_ev ?_ | refine Ev.modBg ?_)
    | dsimp only | split

theorem State.startGuardTests_ev {m : Nat} {s0 t : State}  (h : Ev m s0 t)
    (k : 0x200 &&& m = 0x200 := by decide) : Ev m s0 (State.startGuardTests t) := by
  refine Ev.comp h ?_ k
  clear h k
  unfold State.startGuardTests
  try dsimp only
  repeat' first
    | (with_reducible first
        | exact Ev.refl _ _ | intro _ | refine Ev.ite ?_ ?_ | refine Ev.modBg ?_)
    | dsimp only | split

theorem State.dropCand_ev {m : Nat} {s0 t : State}  (h : Ev m s0 t)
    (k : 0x200000200 &&& m = 0x200000200 := by decide) : Ev m s0 (State.dropCand t) := by
  refine Ev.comp h ?_ k
  clear h k
  unfold State.dropCand
  try dsimp only
  repeat' first
    | (with_reducible first
        | exact Ev.refl _ _ | intro _ | refine Ev.ite ?_ ?_ | refine Ev.modBg ?_ | refine Ev.put ?_ 1 (by decide))
    | dsimp only | split

theorem State.scsCommand_ev {m : Nat} {s0 t : State} {load : Bool} (h : Ev m s0 t)
    (k : 0x200000200 &&& m = 0x200000200 := by decide) : Ev m s0 (State.scsCommand t load) := by
  refine Ev.comp h ?_ k
  clear h k
  unfold State.scsCommand
  try dsimp only
  repeat' first
    | (with_reducible first
        | exact Ev.refl _ _ | intro _ | refine Ev.ite ?_ ?_ | refine Ev.modBg ?_
        | refine Ev.put ?_ 1 (by first | decide | (simp only [ BG_SCS_STAGE, BG_SCS_STAT, BG_SCS_STAT_BUSY, BG_SCS_STAT_LASTERR]; omega)))
    | dsimp only | split

theorem State.putInForce_ev {m : Nat} {s0 t : State} {w : List Word} (h : Ev m s0 t)
    (k : 0x200 &&& m = 0x200 := by decide) : Ev m s0 (State.putInForce t w) := by
  refine Ev.comp h ?_ k
  clear h k
  unfold State.putInForce
  try dsimp only
  repeat' first
    | (with_reducible first
        | exact Ev.refl _ _ | intro _ | refine Ev.ite ?_ ?_ | refine State.startGuardTests_ev ?_ | refine Ev.modBg ?_)
    | dsimp only | split

theorem State.scsLoaded_ev {m : Nat} {s0 t : State} {w : List Word} (h : Ev m s0 t)
    (k : 0x502000b0011cf00 &&& m = 0x502000b0011cf00 := by decide) : Ev m s0 (State.scsLoaded t w) := by
  refine Ev.comp h ?_ k
  clear h k
  unfold State.scsLoaded
  try dsimp only
  repeat' first
    | (with_reducible first
        | exact Ev.refl _ _ | intro _ | refine Ev.ite ?_ ?_ | refine State.dropCand_ev ?_ | refine State.lockout_ev ?_
        | refine State.putInForce_ev ?_ | refine Ev.modBg ?_ | refine Ev.put ?_ 1 (by decide))
    | dsimp only | split

theorem State.scsCommitted_ev {m : Nat} {s0 t : State}  (h : Ev m s0 t)
    (k : 0x200000200 &&& m = 0x200000200 := by decide) : Ev m s0 (State.scsCommitted t) := by
  refine Ev.comp h ?_ k
  clear h k
  unfold State.scsCommitted
  try dsimp only
  repeat' first
    | (with_reducible first
        | exact Ev.refl _ _ | intro _ | refine Ev.ite ?_ ?_ | refine State.dropCand_ev ?_ | refine State.putInForce_ev ?_
        | refine Ev.modBg ?_ | refine Ev.put ?_ 1 (by decide))
    | dsimp only | split

theorem State.scsComplete_ev {m : Nat} {s0 t : State}  (h : Ev m s0 t)
    (k : 0x502000b0011cf00 &&& m = 0x502000b0011cf00 := by decide) : Ev m s0 (State.scsComplete t) := by
  refine Ev.comp h ?_ k
  clear h k
  unfold State.scsComplete
  try dsimp only
  repeat' first
    | (with_reducible first
        | exact Ev.refl _ _ | intro _ | refine Ev.ite ?_ ?_ | refine State.scsCommitted_ev ?_ | refine State.scsLoaded_ev ?_
        | refine Ev.modBg ?_ | refine Ev.put ?_ 1 (by decide))
    | dsimp only | split

theorem State.judgeLamps_ev {m : Nat} {s0 t : State}  (h : Ev m s0 t)
    (k : 0x502000b0011cf00 &&& m = 0x502000b0011cf00 := by decide) : Ev m s0 (State.judgeLamps t) := by
  refine Ev.comp h ?_ k
  clear h k
  unfold State.judgeLamps
  try dsimp only
  repeat' first
    | (with_reducible first
        | exact Ev.refl _ _ | intro _ | refine Ev.ite ?_ ?_ | refine State.lockout_ev ?_ | refine Ev.forN ?_ ?_)
    | dsimp only | split

theorem State.hbArm_ev {m : Nat} {s0 t : State} {arm : Bool} (h : Ev m s0 t)
    (k : 0x200 &&& m = 0x200 := by decide) : Ev m s0 (State.hbArm t arm) := by
  refine Ev.comp h ?_ k
  clear h k
  unfold State.hbArm
  try dsimp only
  repeat' first
    | (with_reducible first
        | exact Ev.refl _ _ | intro _ | refine Ev.ite ?_ ?_ | refine Ev.modBg ?_)
    | dsimp only | split

theorem State.hbResponse_ev {m : Nat} {s0 t : State} {w : Word} (h : Ev m s0 t)
    (k : 0x200000200 &&& m = 0x200000200 := by decide) : Ev m s0 (State.hbResponse t w) := by
  refine Ev.comp h ?_ k
  clear h k
  unfold State.hbResponse
  try dsimp only
  repeat' first
    | (with_reducible first
        | exact Ev.refl _ _ | intro _ | refine Ev.ite ?_ ?_ | refine State.dropCand_ev ?_ | refine Ev.modBg ?_)
    | dsimp only | split

theorem State.resetSignal_ev {m : Nat} {s0 t : State}  (h : Ev m s0 t)
    (k : 0x100000a00100300 &&& m = 0x100000a00100300 := by decide) : Ev m s0 (State.resetSignal t) := by
  refine Ev.comp h ?_ k
  clear h k
  unfold State.resetSignal
  try dsimp only
  repeat' first
    | (with_reducible first
        | exact Ev.refl _ _ | intro _ | refine Ev.ite ?_ ?_ | refine State.cut_ev ?_ | refine Ev.modBg ?_)
    | dsimp only | split

theorem State.lockoutClear_ev {m : Nat} {s0 t : State}  (h : Ev m s0 t)
    (k : 0xa00004200 &&& m = 0xa00004200 := by decide) : Ev m s0 (State.lockoutClear t) := by
  refine Ev.comp h ?_ k
  clear h k
  unfold State.lockoutClear
  try dsimp only
  repeat' first
    | (with_reducible first
        | exact Ev.refl _ _ | intro _ | refine Ev.ite ?_ ?_ | refine State.bgEmcy_ev ?_ | refine State.bgEvent_ev ?_
        | refine State.startGuardTests_ev ?_ | refine Ev.modBg ?_)
    | dsimp only | split

theorem State.fblor_ev {m : Nat} {s0 t : State} {key : Word} (h : Ev m s0 t)
    (k : 0xa00004200 &&& m = 0xa00004200 := by decide) : Ev m s0 (State.fblor t key) := by
  refine Ev.comp h ?_ k
  clear h k
  unfold State.fblor
  try dsimp only
  repeat' first
    | (with_reducible first
        | exact Ev.refl _ _ | intro _ | refine Ev.ite ?_ ?_ | refine State.bgEmcy_ev ?_ | refine State.bgEvent_ev ?_
        | refine State.lockoutClear_ev ?_)
    | dsimp only | split

end Sys2Proof.Machine
end

