-- ==== Sys2Proof/Laws/KeepsLamps.lean ====
section
/-! SUPPORT. What the operations of Machine/Lamps.lean keep. -/

set_option linter.all false
set_option Elab.async false

namespace Sys2Proof.Machine

theorem State.modLamp_ev {m : Nat} {s0 t : State} {n : Fin 8} {f : Lamp → Lamp} (h : Ev m s0 t)
    (k : 0x100000 &&& m = 0x100000 := by decide) : Ev m s0 (State.modLamp t n f) := by
  refine Ev.comp h ?_ k
  clear h k
  unfold State.modLamp
  try dsimp only
  repeat' first
    | (with_reducible first
        | exact Ev.refl _ _ | intro _ | refine Ev.ite ?_ ?_ | refine Ev.modLio ?_)
    | dsimp only | split

theorem State.lampLit_ev {m : Nat} {s0 t : State} {s : State} {n : Fin 8} (h : Ev m s0 t)
    (k : 0x100000 &&& m = 0x100000 := by decide) : Ev m s0 (State.lampLit s t n) := by
  refine Ev.comp h ?_ k
  clear h k
  unfold State.lampLit
  try dsimp only
  repeat' first
    | (with_reducible first
        | exact Ev.refl _ _
        | intro _
        | refine Ev.ite ?_ ?_
        | refine State.modLamp_ev ?_)
    | dsimp only | split

theorem State.lampClear_ev {m : Nat} {s0 t : State} {n : Fin 8} (h : Ev m s0 t)
    (k : 0x100000000000400 &&& m = 0x100000000000400 := by decide) : Ev m s0 (State.lampClear t n) := by
  refine Ev.comp h ?_ k
  clear h k
  unfold State.lampClear
  try dsimp only
  repeat' first
    | (with_reducible first
        | exact Ev.refl _ _ | intro _ | refine Ev.ite ?_ ?_ | refine State.inhibits_ev ?_
        | refine Ev.put ?_ 24 (by simp only [ LAMP_STAT, LAMP_STAT_DARK]; omega))
    | dsimp only | split

theorem State.lampDarken_ev {m : Nat} {s0 t : State} {n : Fin 8} {found : Nat} (h : Ev m s0 t)
    (k : 0x502000b0011cf00 &&& m = 0x502000b0011cf00 := by decide) : Ev m s0 (State.lampDarken t n found) := by
  refine Ev.comp h ?_ k
  clear h k
  unfold State.lampDarken
  try dsimp only
  repeat' first
    | (with_reducible first
        | exact Ev.refl _ _ | intro _ | refine Ev.ite ?_ ?_ | refine State.inhibits_ev ?_ | refine State.judgeLamps_ev ?_
        | refine State.lampStop_ev ?_
        | refine Ev.bump ?_ 24 (by simp only [ LAMP_CFG, LAMP_CFG_REACT, LAMP_CNT, LAMP_CNT_DARKCNT, LAMP_STAT, LAMP_STAT_DARK, LAMP_STAT_FOUND]; omega)
        | refine Ev.emcy ?_
        | refine Ev.put ?_ 24 (by simp only [ LAMP_CFG, LAMP_CFG_REACT, LAMP_CNT, LAMP_CNT_DARKCNT, LAMP_STAT, LAMP_STAT_DARK, LAMP_STAT_FOUND]; omega)
        | refine Ev.raise ?_ 24 (by simp only [ LAMP_CFG, LAMP_CFG_REACT, LAMP_CNT, LAMP_CNT_DARKCNT, LAMP_STAT, LAMP_STAT_DARK, LAMP_STAT_FOUND]; omega))
    | dsimp only | split

theorem State.lampRetry_ev {m : Nat} {s0 t : State} {n : Fin 8} (h : Ev m s0 t)
    (k : 0x100000000100000 &&& m = 0x100000000100000 := by decide) : Ev m s0 (State.lampRetry t n) := by
  refine Ev.comp h ?_ k
  clear h k
  unfold State.lampRetry
  try dsimp only
  repeat' first
    | (with_reducible first
        | exact Ev.refl _ _ | intro _ | refine Ev.ite ?_ ?_ | refine State.modLamp_ev ?_
        | refine Ev.put ?_ 24 (by simp only [ LAMP_STAT, LAMP_STAT_OFFLATCH]; omega))
    | dsimp only | split

theorem State.lampClrCnt_ev {m : Nat} {s0 t : State} {n : Fin 8} (h : Ev m s0 t)
    (k : 0x100000000000000 &&& m = 0x100000000000000 := by decide) : Ev m s0 (State.lampClrCnt t n) := by
  refine Ev.comp h ?_ k
  clear h k
  unfold State.lampClrCnt
  try dsimp only
  repeat' first
    | (with_reducible first
        | exact Ev.refl _ _ | intro _ | refine Ev.ite ?_ ?_ | refine Ev.setReg ?_ 24 (by simp only [ LAMP_CNT]; omega))
    | dsimp only | split

theorem State.writeGpo_ev {m : Nat} {s0 t : State} {v : Nat} (h : Ev m s0 t)
    (k : 0x100000000100000 &&& m = 0x100000000100000 := by decide) : Ev m s0 (State.writeGpo t v) := by
  refine Ev.comp h ?_ k
  clear h k
  unfold State.writeGpo
  try dsimp only
  repeat' first
    | (with_reducible first
        | exact Ev.refl _ _ | intro _ | refine Ev.ite ?_ ?_ | refine Ev.modLio ?_ | refine Ev.put ?_ 24 (by decide))
    | dsimp only | split

end Sys2Proof.Machine
end

