-- ==== Sys2Proof/Laws/KeepsPorts.lean ====
section
/-! SUPPORT. What the operations of Machine/Ports.lean keep. -/

set_option linter.all false
set_option Elab.async false

namespace Sys2Proof.Machine

theorem State.portEvt_ev {m : Nat} {s0 t : State} {p : Fin 6} {b : Nat} (h : Ev m s0 t)
    (k : 0x1000800000000 &&& m = 0x1000800000000 := by decide) : Ev m s0 (State.portEvt t p b) := by
  refine Ev.comp h ?_ k
  clear h k
  unfold State.portEvt
  try dsimp only
  repeat' first
    | (with_reducible first
        | exact Ev.refl _ _ | intro _ | refine Ev.ite ?_ ?_ | refine Ev.raise ?_ 16 (by simp only [ SP_EVT]; omega))
    | dsimp only | split

theorem State.ctlRef_ev {m : Nat} {s0 t : State} {p : Fin 6} (h : Ev m s0 t)
    (k : 0x1000000000000 &&& m = 0x1000000000000 := by decide) : Ev m s0 (State.ctlRef t p) := by
  refine Ev.comp h ?_ k
  clear h k
  unfold State.ctlRef
  try dsimp only
  repeat' first
    | (with_reducible first
        | exact Ev.refl _ _ | intro _ | refine Ev.ite ?_ ?_ | refine Ev.put ?_ 16 (by simp only [ SP_ERR, SP_ERR_CTLREF]; omega))
    | dsimp only | split

theorem State.record_ev {m : Nat} {s0 t : State} {p : Fin 6} {ws : List Word} (h : Ev m s0 t)
    (k : 0x1000800000800 &&& m = 0x1000800000800 := by decide) : Ev m s0 (State.record t p ws) := by
  refine Ev.comp h ?_ k
  clear h k
  unfold State.record
  try dsimp only
  repeat' first
    | (with_reducible first
        | exact Ev.refl _ _ | intro _ | refine Ev.ite ?_ ?_ | refine Ev.modPort ?_ (fun _ h => ?_) | refine State.portEvt_ev ?_
        | refine Ev.bump ?_ 16 (by simp only [ SP_CNT2, SP_CNT2_RXDROP]; omega)
        | refine Ev.modPort ?_ (by with_unfolding_all exact fun _ h => ⟨h.rx, h.ten⟩))
    | exact ⟨by simp only [List.length_append]; omega, h.ten⟩ | dsimp only | split

theorem State.reentry_ev {m : Nat} {s0 t : State} {a : Fin 8} {p : Fin 6} {sel : Nat} (h : Ev m s0 t)
    (k : 0x102000800114c00 &&& m = 0x102000800114c00 := by decide) : Ev m s0 (State.reentry t a p sel) := by
  refine Ev.comp h ?_ k
  clear h k
  unfold State.reentry
  try dsimp only
  repeat' first
    | (with_reducible first
        | exact Ev.refl _ _ | intro _ | refine Ev.ite ?_ ?_ | refine State.engineFault_ev ?_ | refine Ev.emcy ?_
        | refine Ev.modEng ?_
        | refine Ev.put ?_ 17 (by simp only [ ENG_CFG, ENG_CFG_DEGRADE, ENG_PH, ENG_PH_PAR, ENG_PH_PORT, ENG_PH_SELMASK, ENG_STAT, ENG_STAT_DEGPH, ENG_STAT_DEGRADED]; omega)
        | refine Ev.putOr ?_ 17 (by simp only [ ENG_CFG, ENG_CFG_DEGRADE, ENG_PH, ENG_PH_PAR, ENG_PH_PORT, ENG_PH_SELMASK, ENG_STAT, ENG_STAT_DEGPH, ENG_STAT_DEGRADED]; omega))
    | dsimp only | split

theorem State.foundAgain_ev {m : Nat} {s0 t : State} {p : Fin 6} {sel : Nat} (h : Ev m s0 t)
    (k : 0x10000 &&& m = 0x10000 := by decide) : Ev m s0 (State.foundAgain t p sel) := by
  refine Ev.comp h ?_ k
  clear h k
  unfold State.foundAgain
  try dsimp only
  repeat' first
    | (with_reducible first
        | exact Ev.refl _ _
        | intro _
        | refine Ev.ite ?_ ?_
        | refine Ev.forFin ?_ ?_
        | refine Ev.modEng ?_)
    | dsimp only | split

theorem State.engineReply_ev {m : Nat} {s0 t : State} {p : Fin 6} {fl : Flight} {c : Nat} {w : Nat} {n : Nat} (h : Ev m s0 t)
    (k : 0x102000800114c00 &&& m = 0x102000800114c00 := by decide) : Ev m s0 (State.engineReply t p fl c w n) := by
  refine Ev.comp h ?_ k
  clear h k
  unfold State.engineReply
  try dsimp only
  repeat' first
    | (with_reducible first
        | exact Ev.refl _ _
        | intro _
        | refine Ev.ite ?_ ?_
        | refine Ev.foldl ?_ _ ?_
        | refine Ev.modPort ?_ (by with_unfolding_all exact fun _ h => ⟨h.rx, h.ten⟩)
        | refine State.engineFault_ev ?_
        | refine State.foundAgain_ev ?_
        | refine State.reentry_ev ?_
        | refine Ev.dite (fun _ => ?_) (fun _ => ?_))
    | dsimp only | split

theorem State.badReply_ev {m : Nat} {s0 t : State} {p : Fin 6} {sel : Nat} {c : Nat} (h : Ev m s0 t)
    (k : 0x103000800114c00 &&& m = 0x103000800114c00 := by decide) : Ev m s0 (State.badReply t p sel c) := by
  refine Ev.comp h ?_ k
  clear h k
  unfold State.badReply
  try dsimp only
  repeat' first
    | (with_reducible first
        | exact Ev.refl _ _ | intro _ | refine Ev.ite ?_ ?_ | refine State.portEvt_ev ?_ | refine State.portFault_ev ?_
        | refine Ev.bump ?_ 16 (by simp only [ SP_CFG2, SP_CFG2_BADLIM, SP_CNT, SP_CNT_BAD, SP_CNT_LASTBAD, SP_ERR, SP_ERR_LASTCLASS, SP_ERR_LASTSEL]; omega)
        | refine Ev.modPort ?_ (by with_unfolding_all exact fun _ h => ⟨h.rx, h.ten⟩)
        | refine Ev.put ?_ 16 (by simp only [ SP_CFG2, SP_CFG2_BADLIM, SP_CNT, SP_CNT_BAD, SP_CNT_LASTBAD, SP_ERR, SP_ERR_LASTCLASS, SP_ERR_LASTSEL]; omega))
    | dsimp only | split

theorem State.classify_ev {m : Nat} {s0 t : State} {p : Fin 6} {fl : Flight} {bits : List Bool} (h : Ev m s0 t)
    (k : 0x10300080011cc00 &&& m = 0x10300080011cc00 := by decide) : Ev m s0 (State.classify t p fl bits) := by
  refine Ev.comp h ?_ k
  clear h k
  unfold State.classify
  try dsimp only
  repeat' first
    | (with_reducible first
        | exact Ev.refl _ _ | intro _ | refine Ev.ite ?_ ?_ | refine State.badReply_ev ?_ | refine State.engineReply_ev ?_
        | refine State.portEvt_ev ?_ | refine State.record_ev ?_ | refine State.reentry_ev ?_ | refine State.takeReply_ev ?_
        | refine Ev.bump ?_ 16 (by simp only [ SP_CNT2, SP_CNT2_BUSY]; omega)
        | refine Ev.modPort ?_ (by with_unfolding_all exact fun _ h => ⟨h.rx, h.ten⟩) | refine Ev.forFin ?_ ?_)
    | dsimp only | split

theorem State.rawWord_ev {m : Nat} {s0 t : State} {p : Fin 6} {fl : Flight} {bits : List Bool} (h : Ev m s0 t)
    (k : 0x1000800000800 &&& m = 0x1000800000800 := by decide) : Ev m s0 (State.rawWord t p fl bits) := by
  refine Ev.comp h ?_ k
  clear h k
  unfold State.rawWord
  try dsimp only
  repeat' first
    | (with_reducible first
        | exact Ev.refl _ _ | intro _ | refine Ev.ite ?_ ?_ | refine State.record_ev ?_)
    | dsimp only | split

theorem State.entryDone_ev {m : Nat} {s0 t : State} {p : Fin 6} {fl : Flight} (h : Ev m s0 t)
    (k : 0x1000800000800 &&& m = 0x1000800000800 := by decide) : Ev m s0 (State.entryDone t p fl) := by
  refine Ev.comp h ?_ k
  clear h k
  unfold State.entryDone
  try dsimp only
  repeat' first
    | (with_reducible first
        | exact Ev.refl _ _ | intro _ | refine Ev.ite ?_ ?_ | refine State.portEvt_ev ?_
        | refine Ev.modPort ?_ (by with_unfolding_all exact fun _ h => ⟨h.rx, h.ten⟩))
    | dsimp only | split

theorem State.noReply_ev {m : Nat} {s0 t : State} {p : Fin 6} {fl : Flight} {cut : Bool} (h : Ev m s0 t)
    (k : 0x101000a00100b02 &&& m = 0x101000a00100b02 := by decide) : Ev m s0 (State.noReply t p fl cut) := by
  refine Ev.comp h ?_ k
  clear h k
  unfold State.noReply
  try dsimp only
  repeat' first
    | (with_reducible first
        | exact Ev.refl _ _
        | intro _
        | refine Ev.ite ?_ ?_
        | refine Ev.draw ?_
        | refine State.cut_ev ?_
        | refine State.record_ev ?_)
    | dsimp only | split

theorem State.closeFlight_ev {m : Nat} {s0 t : State} {p : Fin 6} (h : Ev m s0 t)
    (k : 0x103000a0011cf02 &&& m = 0x103000a0011cf02 := by decide) : Ev m s0 (State.closeFlight t p) := by
  refine Ev.comp h ?_ k
  clear h k
  unfold State.closeFlight
  try dsimp only
  repeat' first
    | (with_reducible first
        | exact Ev.refl _ _
        | intro _
        | refine Ev.ite ?_ ?_
        | refine Ev.foldl ?_ _ ?_
        | refine State.classify_ev ?_
        | refine State.entryDone_ev ?_
        | refine State.noReply_ev ?_
        | refine State.rawWord_ev ?_)
    | dsimp only | split

theorem State.cutFlight_ev {m : Nat} {s0 t : State} {p : Fin 6} {bits : List Bool} (h : Ev m s0 t)
    (k : 0x103000a0011cf02 &&& m = 0x103000a0011cf02 := by decide) : Ev m s0 (State.cutFlight t p bits) := by
  refine Ev.comp h ?_ k
  clear h k
  unfold State.cutFlight
  try dsimp only
  repeat' first
    | (with_reducible first
        | exact Ev.refl _ _
        | intro _
        | refine Ev.ite ?_ ?_
        | refine State.classify_ev ?_
        | refine State.entryDone_ev ?_
        | refine State.noReply_ev ?_
        | refine State.rawWord_ev ?_)
    | dsimp only | split

theorem State.jalzil_ev {m : Nat} {s0 t : State} {p : Fin 6} {src : FrameSrc} {axis : Fin 8} {hdr : Nat} {codes : List Nat} {bc : Bool} {op : Nat} {payload : Nat} (h : Ev m s0 t)
    (k : 0x3000000000804 &&& m = 0x3000000000804 := by decide) : Ev m s0 (State.jalzil t p src axis hdr codes bc op payload) := by
  refine Ev.comp h ?_ k
  clear h k
  unfold State.jalzil
  try dsimp only
  repeat' first
    | (with_reducible first
        | exact Ev.refl _ _ | intro _ | refine Ev.ite ?_ ?_
        | refine Ev.modPort ?_ (by with_unfolding_all exact fun _ h => ⟨h.rx, h.ten⟩)
        | refine Ev.put ?_ 16 (by simp only [ SP_ACNT, SP_ACNT_ACNT]; omega)
        | refine Ev.put ?_ 17 (by simp only [ ENG_PH, ENG_PH_GROUP, ENG_PH_PAR, ENG_PH_PORT]; omega) | refine Ev.send ?_
        | refine Ev.foldl ?_ _ ?_)
    | dsimp only | split

theorem State.rawSend_ev {m : Nat} {s0 t : State} {p : Fin 6} {hdr : Nat} {data : List Word} (h : Ev m s0 t)
    (k : 0x804 &&& m = 0x804 := by decide) : Ev m s0 (State.rawSend t p hdr data) := by
  refine Ev.comp h ?_ k
  clear h k
  unfold State.rawSend
  try dsimp only
  repeat' first
    | (with_reducible first
        | exact Ev.refl _ _ | intro _ | refine Ev.ite ?_ ?_
        | refine Ev.modPort ?_ (by with_unfolding_all exact fun _ h => ⟨h.rx, h.ten⟩) | refine Ev.send ?_)
    | dsimp only | split

theorem State.tenantTake_ev {m : Nat} {s0 t : State} {p : Fin 6} {x0 : Nat} (h : Ev m s0 t)
    (k : 0x3000800000804 &&& m = 0x3000800000804 := by decide) : Ev m s0 (State.tenantTake p x0 t).2 := by
  refine Ev.comp h ?_ k
  clear h k
  induction x0 generalizing t 
  all_goals unfold State.tenantTake
  · exact Ev.refl _ _
  rename_i ih
  try dsimp only
  repeat' first
    | (with_reducible first
        | exact Ev.refl _ _ | refine Ev.trans ?_ ih | refine Ev.trans ?_ ih | intro _ | refine Ev.ite ?_ ?_
        | refine Ev.modPort ?_ (fun _ h => ?_) | refine State.jalzil_ev ?_ | refine State.portEvt_ev ?_
        | refine State.rawSend_ev ?_ | refine State.record_ev ?_
        | refine Ev.modPort ?_ (by with_unfolding_all exact fun _ h => ⟨h.rx, h.ten⟩)
        | refine Ev.put ?_ 16 (by simp only [ SP_CFG2, SP_CFG2_TQLOW, SP_ERR, SP_ERR_TOOLONG]; omega))
    | exact ⟨h.rx, by simp only [List.length_drop]; exact Nat.le_trans (Nat.sub_le _ _) h.ten⟩ | dsimp only | split

theorem State.dropOverdue_ev {m : Nat} {s0 t : State} {p : Fin 6} {n : Nat} {x0 : Nat} (h : Ev m s0 t)
    (k : 0x102000800114c00 &&& m = 0x102000800114c00 := by decide) : Ev m s0 (State.dropOverdue p n x0 t) := by
  refine Ev.comp h ?_ k
  clear h k
  induction x0 generalizing t 
  all_goals unfold State.dropOverdue
  · exact Ev.refl _ _
  rename_i ih
  try dsimp only
  repeat' first
    | (with_reducible first
        | exact Ev.refl _ _ | refine Ev.trans ?_ ih | refine Ev.trans ?_ ih | intro _ | refine Ev.ite ?_ ?_
        | refine State.engineFault_ev ?_ | refine Ev.modPort ?_ (by with_unfolding_all exact fun _ h => ⟨h.rx, h.ten⟩))
    | dsimp only | split

theorem State.alloffSend_ev {m : Nat} {s0 t : State} {p : Fin 6} {l : List Nat} (h : Ev m s0 t)
    (k : 0x3000000000804 &&& m = 0x3000000000804 := by decide) : Ev m s0 (State.alloffSend t p l) := by
  refine Ev.comp h ?_ k
  clear h k
  unfold State.alloffSend
  try dsimp only
  repeat' first
    | (with_reducible first
        | exact Ev.refl _ _ | intro _ | refine Ev.ite ?_ ?_ | refine State.jalzil_ev ?_
        | refine Ev.modPort ?_ (by with_unfolding_all exact fun _ h => ⟨h.rx, h.ten⟩))
    | dsimp only | split

theorem State.underrun_ev {m : Nat} {s0 t : State} {p : Fin 6} (h : Ev m s0 t)
    (k : 0x103000800114c04 &&& m = 0x103000800114c04 := by decide) : Ev m s0 (State.underrun t p) := by
  refine Ev.comp h ?_ k
  clear h k
  unfold State.underrun
  try dsimp only
  repeat' first
    | (with_reducible first
        | exact Ev.refl _ _ | intro _ | refine Ev.ite ?_ ?_ | refine State.alloffSend_ev ?_ | refine State.portEvt_ev ?_
        | refine State.portFault_ev ?_ | refine Ev.bump ?_ 16 (by simp only [ SP_UNDER, SP_UNDER_COUNT]; omega))
    | dsimp only | split

theorem State.takeStatus_ev {m : Nat} {s0 t u : State} {p : Fin 6} (hu : State.takeStatus t p = some u) (h : Ev m s0 t)
    (k : 0x3000000008804 &&& m = 0x3000000008804 := by decide) : Ev m s0 u := by
  refine Ev.comp h ?_ k
  clear h k
  unfold State.takeStatus at hu
  split at hu
  · split at hu
    · simp only [Option.some.injEq] at hu
      subst hu
      exact State.jalzil_ev (Ev.modCp (Ev.refl _ _))
    · contradiction
  · contradiction

theorem State.tenantSlot_ev {m : Nat} {s0 t : State} {p : Fin 6} {n : Nat} (h : Ev m s0 t)
    (k : 0x103000800114c04 &&& m = 0x103000800114c04 := by decide) : Ev m s0 (State.tenantSlot t p n) := by
  refine Ev.comp h ?_ k
  clear h k
  unfold State.tenantSlot
  try dsimp only
  repeat' first
    | (with_reducible first
        | exact Ev.refl _ _ | intro _ | refine Ev.ite ?_ ?_ | refine State.jalzil_ev ?_ | refine State.tenantTake_ev ?_
        | refine State.underrun_ev ?_ | refine Ev.modPort ?_ (by with_unfolding_all exact fun _ h => ⟨h.rx, h.ten⟩))
    | dsimp only | split

theorem State.slotTake_ev {m : Nat} {s0 t : State} {p : Fin 6} {n : Nat} (h : Ev m s0 t)
    (k : 0x10300080011cc04 &&& m = 0x10300080011cc04 := by decide) : Ev m s0 (State.slotTake t p n) := by
  refine Ev.comp h ?_ k
  clear h k
  unfold State.slotTake
  try dsimp only
  repeat' first
    | (with_reducible first
        | exact Ev.refl _ _ | intro _ | refine Ev.ite ?_ ?_ | refine State.dropOverdue_ev ?_ | refine State.jalzil_ev ?_
        | refine State.takeStatus_ev ?_ | refine State.tenantSlot_ev ?_
        | refine Ev.modPort ?_ (by with_unfolding_all exact fun _ h => ⟨h.rx, h.ten⟩))
    | (rename_i hq; refine State.takeStatus_ev hq ?_) | dsimp only | split

theorem State.levelsOffPort_ev {m : Nat} {s0 t : State} {p : Fin 6} (h : Ev m s0 t)
    (k : 0x10000 &&& m = 0x10000 := by decide) : Ev m s0 (State.levelsOffPort t p) := by
  refine Ev.comp h ?_ k
  clear h k
  unfold State.levelsOffPort
  try dsimp only
  repeat' first
    | (with_reducible first
        | exact Ev.refl _ _ | intro _ | refine Ev.ite ?_ ?_ | refine State.levelsOff_ev ?_ | refine Ev.forFin ?_ ?_)
    | dsimp only | split

theorem State.portOff_ev {m : Nat} {s0 t : State} {p : Fin 6} (h : Ev m s0 t)
    (k : 0x10800 &&& m = 0x10800 := by decide) : Ev m s0 (State.portOff t p) := by
  refine Ev.comp h ?_ k
  clear h k
  unfold State.portOff
  try dsimp only
  repeat' first
    | (with_reducible first
        | exact Ev.refl _ _ | intro _ | refine Ev.ite ?_ ?_ | refine State.levelsOffPort_ev ?_
        | refine Ev.modPort ?_ (by with_unfolding_all exact fun _ h => ⟨h.rx, h.ten⟩))
    | dsimp only | split

theorem State.parkPort_ev {m : Nat} {s0 t : State} {p : Fin 6} (h : Ev m s0 t)
    (k : 0x103000a0011cf02 &&& m = 0x103000a0011cf02 := by decide) : Ev m s0 (State.parkPort t p) := by
  refine Ev.comp h ?_ k
  clear h k
  unfold State.parkPort
  try dsimp only
  repeat' first
    | (with_reducible first
        | exact Ev.refl _ _ | intro _ | refine Ev.ite ?_ ?_ | refine State.cutFlight_ev ?_ | refine State.portOff_ev ?_
        | refine Ev.modPort ?_ (by with_unfolding_all exact fun _ h => ⟨h.rx, h.ten⟩))
    | dsimp only | split

theorem State.alloffDone_ev {m : Nat} {s0 t : State} {p : Fin 6} (h : Ev m s0 t)
    (k : 0x800 &&& m = 0x800 := by decide) : Ev m s0 (State.alloffDone t p) := by
  refine Ev.comp h ?_ k
  clear h k
  unfold State.alloffDone
  try dsimp only
  repeat' first
    | (with_reducible first
        | exact Ev.refl _ _ | intro _ | refine Ev.ite ?_ ?_
        | refine Ev.modPort ?_ (by with_unfolding_all exact fun _ h => ⟨h.rx, h.ten⟩))
    | dsimp only | split

theorem State.pushTq_ev {m : Nat} {s0 t : State} {p : Fin 6} {ten : Nat} {w : Word} (h : Ev m s0 t)
    (k : 0x1000000000800 &&& m = 0x1000000000800 := by decide) : Ev m s0 (State.pushTq t p ten w) := by
  refine Ev.comp h ?_ k
  clear h k
  unfold State.pushTq
  try dsimp only
  repeat' first
    | (with_reducible first
        | exact Ev.refl _ _
        | intro _
        | refine Ev.ite ?_ ?_
        | refine Ev.mark ?_
        | refine Ev.modPort ?_ (fun _ h => ?_)
        | refine Ev.modPort ?_ (by with_unfolding_all exact fun _ h => ⟨h.rx, h.ten⟩)
        | refine Ev.put ?_ 16 (by first | decide | (simp only [ SP_CFG2, SP_CFG2_TQOWNER, SP_ERR, SP_ERR_PUSHREF]; omega)))
    | exact ⟨h.rx, by simp only [List.length_append, List.length_singleton]; omega⟩ | dsimp only | split

theorem State.popRx_ev {m : Nat} {s0 t : State} {p : Fin 6} (h : Ev m s0 t)
    (k : 0x1000000000800 &&& m = 0x1000000000800 := by decide) : Ev m s0 (State.popRx t p).2 := by
  refine Ev.comp h ?_ k
  clear h k
  unfold State.popRx
  try dsimp only
  repeat' first
    | (with_reducible first
        | exact Ev.refl _ _ | intro _ | refine Ev.ite ?_ ?_ | refine Ev.modPort ?_ (fun _ h => ?_)
        | refine Ev.modPort ?_ (by with_unfolding_all exact fun _ h => ⟨h.rx, h.ten⟩)
        | refine Ev.put ?_ 16 (by simp only [ SP_ERR, SP_ERR_POPEMPTY]; omega))
    | (rename_i hq h; have hr := h.rx; rw [hq] at hr; simp only [List.length_cons] at hr; exact ⟨Nat.le_of_succ_le hr, h.ten⟩) | dsimp only | split

theorem State.dropStatus_ev {m : Nat} {s0 t : State} {p : Fin 6} (h : Ev m s0 t)
    (k : 0x50200080011cc00 &&& m = 0x50200080011cc00 := by decide) : Ev m s0 (State.dropStatus t p) := by
  refine Ev.comp h ?_ k
  clear h k
  unfold State.dropStatus
  try dsimp only
  repeat' first
    | (with_reducible first
        | exact Ev.refl _ _ | intro _ | refine Ev.ite ?_ ?_ | refine State.takeCheck_ev ?_ | refine Ev.modCp ?_)
    | dsimp only | split

theorem State.portClear_ev {m : Nat} {s0 t : State} {p : Fin 6} (h : Ev m s0 t)
    (k : 0x1000000000800 &&& m = 0x1000000000800 := by decide) : Ev m s0 (State.portClear t p) := by
  refine Ev.comp h ?_ k
  clear h k
  unfold State.portClear
  try dsimp only
  simp only [List.foldl_cons, List.foldl_nil]
  repeat' first
    | (with_reducible first
        | exact Ev.refl _ _ | intro _ | refine Ev.ite ?_ ?_ | refine Ev.modPort ?_ (fun _ _ => ⟨by decide, by decide⟩)
        | refine Ev.modPort ?_ (by with_unfolding_all exact fun _ h => ⟨h.rx, h.ten⟩)
        | refine Ev.put ?_ 16 (by simp only [ SP_ACNT, SP_ACNT_ACNT, SP_BUSY, SP_CFG, SP_CFG2, SP_CFG2_TQOWNER, SP_CFG_AXMAP, SP_CLK, SP_CNT, SP_CNT2, SP_ERR, SP_EVT, SP_UNDER]; omega)
        | refine Ev.setReg ?_ 16 (by simp only [ SP_ACNT, SP_ACNT_ACNT, SP_BUSY, SP_CFG, SP_CFG2, SP_CFG2_TQOWNER, SP_CFG_AXMAP, SP_CLK, SP_CNT, SP_CNT2, SP_ERR, SP_EVT, SP_UNDER]; omega)
        | refine Ev.foldl ?_ _ ?_)
    | dsimp only | split

theorem State.alignLead_ev {m : Nat} {s0 t : State} {p : Fin 6} (h : Ev m s0 t)
    (k : 0x2000000010000 &&& m = 0x2000000010000 := by decide) : Ev m s0 (State.alignLead t p) := by
  refine Ev.comp h ?_ k
  clear h k
  unfold State.alignLead
  try dsimp only
  repeat' first
    | (with_reducible first
        | exact Ev.refl _ _ | intro _ | refine Ev.ite ?_ ?_ | refine State.restartCycles_ev ?_
        | refine Ev.setReg ?_ 17 (by simp only [ ENG_CFG, ENG_CFG_LEAD, ENG_CYCCNT]; omega) | refine Ev.forFin ?_ ?_)
    | dsimp only | split

theorem State.portStream_ev {m : Nat} {s0 t : State} {p : Fin 6} (h : Ev m s0 t)
    (k : 0x3000000010800 &&& m = 0x3000000010800 := by decide) : Ev m s0 (State.portStream t p) := by
  refine Ev.comp h ?_ k
  clear h k
  unfold State.portStream
  try dsimp only
  repeat' first
    | (with_reducible first
        | exact Ev.refl _ _ | intro _ | refine Ev.ite ?_ ?_ | refine State.alignLead_ev ?_
        | refine Ev.modPort ?_ (by with_unfolding_all exact fun _ h => ⟨h.rx, h.ten⟩)
        | refine Ev.put ?_ 16 (by simp only [ SP_ACNT, SP_ACNT_ACNT]; omega))
    | dsimp only | split

theorem State.portEnable_ev {m : Nat} {s0 t : State} {p : Fin 6} (h : Ev m s0 t)
    (k : 0x3000000010800 &&& m = 0x3000000010800 := by decide) : Ev m s0 (State.portEnable t p) := by
  refine Ev.comp h ?_ k
  clear h k
  unfold State.portEnable
  try dsimp only
  repeat' first
    | (with_reducible first
        | exact Ev.refl _ _ | intro _ | refine Ev.ite ?_ ?_ | refine State.ctlRef_ev ?_ | refine State.portStream_ev ?_)
    | dsimp only | split

theorem State.portDisable_ev {m : Nat} {s0 t : State} {p : Fin 6} (h : Ev m s0 t)
    (k : 0x103000a0011cf02 &&& m = 0x103000a0011cf02 := by decide) : Ev m s0 (State.portDisable t p) := by
  refine Ev.comp h ?_ k
  clear h k
  unfold State.portDisable
  try dsimp only
  repeat' first
    | (with_reducible first
        | exact Ev.refl _ _ | intro _ | refine Ev.ite ?_ ?_ | refine State.ctlRef_ev ?_ | refine State.cutFlight_ev ?_
        | refine State.portOff_ev ?_)
    | dsimp only | split

theorem State.portResume_ev {m : Nat} {s0 t : State} {p : Fin 6} (h : Ev m s0 t)
    (k : 0x3000000010800 &&& m = 0x3000000010800 := by decide) : Ev m s0 (State.portResume t p) := by
  refine Ev.comp h ?_ k
  clear h k
  unfold State.portResume
  try dsimp only
  repeat' first
    | (with_reducible first
        | exact Ev.refl _ _ | intro _ | refine Ev.ite ?_ ?_ | refine State.alignLead_ev ?_ | refine State.ctlRef_ev ?_
        | refine Ev.modPort ?_ (by with_unfolding_all exact fun _ h => ⟨h.rx, h.ten⟩))
    | dsimp only | split

theorem State.clrReent_ev {m : Nat} {s0 t : State} {p : Fin 6} (h : Ev m s0 t)
    (k : 0x800 &&& m = 0x800 := by decide) : Ev m s0 (State.clrReent t p) := by
  refine Ev.comp h ?_ k
  clear h k
  unfold State.clrReent
  try dsimp only
  repeat' first
    | (with_reducible first
        | exact Ev.refl _ _ | intro _ | refine Ev.ite ?_ ?_
        | refine Ev.modPort ?_ (by with_unfolding_all exact fun _ h => ⟨h.rx, h.ten⟩))
    | dsimp only | split

theorem State.writeSpCtrl_ev {m : Nat} {s0 t : State} {p : Fin 6} {v : Nat} (h : Ev m s0 t)
    (k : 0x103000a0011cf02 &&& m = 0x103000a0011cf02 := by decide) : Ev m s0 (State.writeSpCtrl t p v) := by
  refine Ev.comp h ?_ k
  clear h k
  unfold State.writeSpCtrl
  try dsimp only
  repeat' first
    | (with_reducible first
        | exact Ev.refl _ _ | intro _ | refine Ev.ite ?_ ?_ | refine State.clrReent_ev ?_ | refine State.haltPort_ev ?_
        | refine State.portDisable_ev ?_ | refine State.portEnable_ev ?_ | refine State.portResume_ev ?_)
    | dsimp only | split

end Sys2Proof.Machine
end

