-- ==== Sys2Proof/Laws/KeepsFeedback.lean ====
section
/-! SUPPORT. What the operations of Machine/Feedback.lean keep. -/

set_option linter.all false
set_option Elab.async false

namespace Sys2Proof.Machine

theorem State.modInc_ev {m : Nat} {s0 t : State} {n : Fin 8} {f : Enc → Enc} (h : Ev m s0 t)
    (k : 0x200000 &&& m = 0x200000 := by decide) : Ev m s0 (State.modInc t n f) := by
  refine Ev.comp h ?_ k
  clear h k
  unfold State.modInc
  try dsimp only
  repeat' first
    | (with_reducible first
        | exact Ev.refl _ _ | intro _ | refine Ev.ite ?_ ?_ | refine Ev.modFb ?_)
    | dsimp only | split

theorem State.modHall_ev {m : Nat} {s0 t : State} {h' : Fin 8} {f : Enc → Enc} (h : Ev m s0 t)
    (k : 0x200000 &&& m = 0x200000 := by decide) : Ev m s0 (State.modHall t h' f) := by
  refine Ev.comp h ?_ k
  clear h k
  unfold State.modHall
  try dsimp only
  repeat' first
    | (with_reducible first
        | exact Ev.refl _ _ | intro _ | refine Ev.ite ?_ ?_ | refine Ev.modFb ?_)
    | dsimp only | split

theorem State.modSsi_ev {m : Nat} {s0 t : State} {i : Fin 4} {f : Ssi → Ssi} (h : Ev m s0 t)
    (k : 0x200000 &&& m = 0x200000 := by decide) : Ev m s0 (State.modSsi t i f) := by
  refine Ev.comp h ?_ k
  clear h k
  unfold State.modSsi
  try dsimp only
  repeat' first
    | (with_reducible first
        | exact Ev.refl _ _ | intro _ | refine Ev.ite ?_ ?_ | refine Ev.modFb ?_)
    | dsimp only | split

theorem State.fbRef_ev {m : Nat} {s0 t : State}  (h : Ev m s0 t)
    (k : 0x8000000000000 &&& m = 0x8000000000000 := by decide) : Ev m s0 (State.fbRef t) := by
  refine Ev.comp h ?_ k
  clear h k
  unfold State.fbRef
  try dsimp only
  repeat' first
    | (with_reducible first
        | exact Ev.refl _ _ | intro _ | refine Ev.ite ?_ ?_ | refine Ev.put ?_ 19 (by decide))
    | dsimp only | split

theorem State.capture_ev {m : Nat} {s0 t : State} {code : Nat} {kind : Nat} {info : Nat} {pos : Nat} {ts : Nat} (h : Ev m s0 t)
    (k : 0x8000000200000 &&& m = 0x8000000200000 := by decide) : Ev m s0 (State.capture t code kind info pos ts) := by
  refine Ev.comp h ?_ k
  clear h k
  unfold State.capture
  try dsimp only
  repeat' first
    | (with_reducible first
        | exact Ev.refl _ _ | intro _ | refine Ev.ite ?_ ?_ | refine Ev.modFb ?_ (fun x => ?_)
        | refine Ev.bump ?_ 19 (by decide) | refine Ev.modFb ?_)
    | (simp only [List.length_append, List.length_cons, List.length_nil]; omega) | dsimp only | split

theorem State.popCap_ev {m : Nat} {s0 t : State}  (h : Ev m s0 t)
    (k : 0x200000 &&& m = 0x200000 := by decide) : Ev m s0 (State.popCap t).2 := by
  refine Ev.comp h ?_ k
  clear h k
  unfold State.popCap
  try dsimp only
  repeat' first
    | (with_reducible first
        | exact Ev.refl _ _ | intro _ | refine Ev.ite ?_ ?_ | refine Ev.modFb ?_ (fun x => ?_) | refine Ev.modFb ?_)
    | (rename_i hq; rw [hq] at x; exact Nat.le_of_succ_le x) | dsimp only | split

theorem State.chanLose_ev {m : Nat} {s0 t : State} {c : Nat} (h : Ev m s0 t)
    (k : 0x10a000800114c00 &&& m = 0x10a000800114c00 := by decide) : Ev m s0 (State.chanLose t c) := by
  refine Ev.comp h ?_ k
  clear h k
  unfold State.chanLose
  try dsimp only
  repeat' first
    | (with_reducible first
        | exact Ev.refl _ _ | intro _ | refine Ev.ite ?_ ?_ | refine State.engineFault_ev ?_
        | refine Ev.put ?_ 17 (by simp only [ ENG_FB, ENG_FB_SRC]; omega)
        | refine Ev.put ?_ 19 (by first | decide | (simp only [ FB_LOSS, FB_LOSS_HALL, FB_LOSS_INC, FB_LOSS_SSI, HALL_STAT, HALL_STAT_LOSS, INC_STAT, INC_STAT_LOSS, SSI_STAT, SSI_STAT_LOSS]; omega))
        | refine Ev.putOr ?_ 17 (by simp only [ ENG_FB, ENG_FB_SRC]; omega)
        | refine Ev.putOr ?_ 19 (by first | decide | (simp only [ FB_LOSS, FB_LOSS_HALL, FB_LOSS_INC, FB_LOSS_SSI, HALL_STAT, HALL_STAT_LOSS, INC_STAT, INC_STAT_LOSS, SSI_STAT, SSI_STAT_LOSS]; omega))
        | refine Ev.forFin ?_ ?_)
    | dsimp only | split

theorem State.judgeSsi_ev {m : Nat} {s0 t : State} {i : Fin 4} (h : Ev m s0 t)
    (k : 0x10a000800114c00 &&& m = 0x10a000800114c00 := by decide) : Ev m s0 (State.judgeSsi t i) := by
  refine Ev.comp h ?_ k
  clear h k
  unfold State.judgeSsi
  try dsimp only
  repeat' first
    | (with_reducible first
        | exact Ev.refl _ _
        | intro _
        | refine Ev.ite ?_ ?_
        | refine State.chanLose_ev ?_)
    | dsimp only | split

theorem State.judgeInc_ev {m : Nat} {s0 t : State} {n : Fin 8} (h : Ev m s0 t)
    (k : 0x10a000800114c00 &&& m = 0x10a000800114c00 := by decide) : Ev m s0 (State.judgeInc t n) := by
  refine Ev.comp h ?_ k
  clear h k
  unfold State.judgeInc
  try dsimp only
  repeat' first
    | (with_reducible first
        | exact Ev.refl _ _ | intro _ | refine Ev.ite ?_ ?_ | refine State.chanLose_ev ?_)
    | dsimp only | split

theorem State.judgeHall_ev {m : Nat} {s0 t : State} {h' : Fin 8} (h : Ev m s0 t)
    (k : 0x10a000800114c00 &&& m = 0x10a000800114c00 := by decide) : Ev m s0 (State.judgeHall t h') := by
  refine Ev.comp h ?_ k
  clear h k
  unfold State.judgeHall
  try dsimp only
  repeat' first
    | (with_reducible first
        | exact Ev.refl _ _ | intro _ | refine Ev.ite ?_ ?_ | refine State.chanLose_ev ?_)
    | dsimp only | split

theorem State.speedMode_ev {m : Nat} {s0 t : State} {n : Fin 8} {count : Bool} (h : Ev m s0 t)
    (k : 0x8000800000000 &&& m = 0x8000800000000 := by decide) : Ev m s0 (State.speedMode t n count) := by
  refine Ev.comp h ?_ k
  clear h k
  unfold State.speedMode
  try dsimp only
  repeat' first
    | (with_reducible first
        | exact Ev.refl _ _ | intro _ | refine Ev.ite ?_ ?_
        | refine Ev.put ?_ 19 (by first | decide | (simp only [ FB_SPDSW, FB_SPDSW_V, INC_STAT, INC_STAT_MODE]; omega))
        | refine Ev.putOr ?_ 19 (by first | decide | (simp only [ FB_SPDSW, FB_SPDSW_V, INC_STAT, INC_STAT_MODE]; omega))
        | refine Ev.strobe ?_)
    | dsimp only | split

theorem State.incStep_ev {m : Nat} {s0 t : State} {n : Fin 8} {up : Bool} {ts : Nat} (h : Ev m s0 t)
    (k : 0x8000800200000 &&& m = 0x8000800200000 := by decide) : Ev m s0 (State.incStep t n up ts) := by
  refine Ev.comp h ?_ k
  clear h k
  unfold State.incStep
  try dsimp only
  repeat' first
    | (with_reducible first
        | exact Ev.refl _ _
        | intro _
        | refine Ev.ite ?_ ?_
        | refine Ev.mark ?_
        | refine Ev.put ?_ 19 (by first | decide | (simp only [ INC_CNT, INC_CNT_V, INC_SPDCFG, INC_SPDCFG_FUP, INC_STAT, INC_STAT_DIR, INC_STAT_MODE, INC_STAT_STILL, INC_TS]; omega))
        | refine Ev.setReg64 ?_ 19 (by first | decide | (simp only [ INC_CNT, INC_CNT_V, INC_SPDCFG, INC_SPDCFG_FUP, INC_STAT, INC_STAT_DIR, INC_STAT_MODE, INC_STAT_STILL, INC_TS]; omega)) (by first | decide | (simp only [ INC_CNT, INC_CNT_V, INC_SPDCFG, INC_SPDCFG_FUP, INC_STAT, INC_STAT_DIR, INC_STAT_MODE, INC_STAT_STILL, INC_TS]; omega))
        | refine State.modInc_ev ?_
        | refine State.speedMode_ev ?_)
    | dsimp only | split

theorem State.indexEmcy_ev {m : Nat} {s0 t : State} {n : Fin 8} {kind : Nat} (h : Ev m s0 t)
    (k : 0x204000 &&& m = 0x204000 := by decide) : Ev m s0 (State.indexEmcy t n kind) := by
  refine Ev.comp h ?_ k
  clear h k
  unfold State.indexEmcy
  try dsimp only
  repeat' first
    | (with_reducible first
        | exact Ev.refl _ _ | intro _ | refine Ev.ite ?_ ?_ | refine State.modInc_ev ?_ | refine Ev.emcy ?_)
    | dsimp only | split

theorem State.indexDev_ev {m : Nat} {s0 t : State} {n : Fin 8} (h : Ev m s0 t)
    (k : 0x8000800000000 &&& m = 0x8000800000000 := by decide) : Ev m s0 (State.indexDev t n) := by
  refine Ev.comp h ?_ k
  clear h k
  unfold State.indexDev
  try dsimp only
  repeat' first
    | (with_reducible first
        | exact Ev.refl _ _ | intro _ | refine Ev.ite ?_ ?_
        | refine Ev.bump ?_ 19 (by simp only [ INC_IDXSTAT, INC_IDXSTAT_DEVN, INC_STAT, incFlags]; omega)
        | refine Ev.raise ?_ 19 (by simp only [ INC_IDXSTAT, INC_IDXSTAT_DEVN, INC_STAT, incFlags]; omega))
    | dsimp only | split

theorem State.indexPolicy_ev {m : Nat} {s0 t : State} {n : Fin 8} {d : Int} {ill : Bool} (h : Ev m s0 t)
    (k : 0x10a000800314c00 &&& m = 0x10a000800314c00 := by decide) : Ev m s0 (State.indexPolicy t n d ill) := by
  refine Ev.comp h ?_ k
  clear h k
  unfold State.indexPolicy
  try dsimp only
  repeat' first
    | (with_reducible first
        | exact Ev.refl _ _ | intro _ | refine Ev.ite ?_ ?_ | refine State.indexDev_ev ?_ | refine State.indexEmcy_ev ?_
        | refine State.judgeInc_ev ?_
        | refine Ev.bump ?_ 19 (by simp only [ INC_CFG, INC_CFG_POLICY, INC_CNT, INC_CNT_V, INC_CORRSUM, INC_CORRSUM_V, INC_IDXLIM, INC_IDXLIM_MAXSTEP, INC_IDXLIM_TOL, INC_IDXSTAT, INC_IDXSTAT_CORR, INC_IDXSTAT_CORRN, INC_IDXSTAT_ILLIDX, INC_IDXSTAT_LOCKED, INC_IDXSTAT_OVERSTEP]; omega)
        | refine Ev.put ?_ 19 (by simp only [ INC_CFG, INC_CFG_POLICY, INC_CNT, INC_CNT_V, INC_CORRSUM, INC_CORRSUM_V, INC_IDXLIM, INC_IDXLIM_MAXSTEP, INC_IDXLIM_TOL, INC_IDXSTAT, INC_IDXSTAT_CORR, INC_IDXSTAT_CORRN, INC_IDXSTAT_ILLIDX, INC_IDXSTAT_LOCKED, INC_IDXSTAT_OVERSTEP]; omega))
    | dsimp only | split

theorem State.indexPoint_ev {m : Nat} {s0 t : State} {n : Fin 8} {ill : Bool} {ts : Nat} (h : Ev m s0 t)
    (k : 0x10a000800314c00 &&& m = 0x10a000800314c00 := by decide) : Ev m s0 (State.indexPoint t n ill ts) := by
  refine Ev.comp h ?_ k
  clear h k
  unfold State.indexPoint
  try dsimp only
  repeat' first
    | (with_reducible first
        | exact Ev.refl _ _ | intro _ | refine Ev.ite ?_ ?_ | refine State.capture_ev ?_ | refine State.indexPolicy_ev ?_
        | refine State.modInc_ev ?_
        | refine Ev.bump ?_ 19 (by simp only [ INC_CFG, INC_CFG_POLICY, INC_CNT, INC_CNT_V, INC_CPR, INC_CPR_CPR, INC_IDXCNT, INC_IDXCNT_V, INC_IDXDEV, INC_IDXDEV_V, INC_IDXSTAT, INC_IDXSTAT_CORR, INC_IDXSTAT_IDXN, INC_IDXSTAT_ILLIDX, INC_IDXSTAT_OVERSTEP, INC_IDXSTAT_REFSET, INC_IDXTS, INC_REF, INC_REF_V, INC_STAT, incFlags]; omega)
        | refine Ev.put ?_ 19 (by simp only [ INC_CFG, INC_CFG_POLICY, INC_CNT, INC_CNT_V, INC_CPR, INC_CPR_CPR, INC_IDXCNT, INC_IDXCNT_V, INC_IDXDEV, INC_IDXDEV_V, INC_IDXSTAT, INC_IDXSTAT_CORR, INC_IDXSTAT_IDXN, INC_IDXSTAT_ILLIDX, INC_IDXSTAT_OVERSTEP, INC_IDXSTAT_REFSET, INC_IDXTS, INC_REF, INC_REF_V, INC_STAT, incFlags]; omega)
        | refine Ev.raise ?_ 19 (by simp only [ INC_CFG, INC_CFG_POLICY, INC_CNT, INC_CNT_V, INC_CPR, INC_CPR_CPR, INC_IDXCNT, INC_IDXCNT_V, INC_IDXDEV, INC_IDXDEV_V, INC_IDXSTAT, INC_IDXSTAT_CORR, INC_IDXSTAT_IDXN, INC_IDXSTAT_ILLIDX, INC_IDXSTAT_OVERSTEP, INC_IDXSTAT_REFSET, INC_IDXTS, INC_REF, INC_REF_V, INC_STAT, incFlags]; omega)
        | refine Ev.setReg64 ?_ 19 (by first | decide | (simp only [ INC_CFG, INC_CNT, INC_CPR, INC_IDXCNT, INC_IDXDEV, INC_IDXSTAT, INC_IDXTS, INC_REF, INC_STAT]; omega)) (by first | decide | (simp only [ INC_CFG, INC_CNT, INC_CPR, INC_IDXCNT, INC_IDXDEV, INC_IDXSTAT, INC_IDXTS, INC_REF, INC_STAT]; omega)))
    | dsimp only | split

theorem State.hallIllegal_ev {m : Nat} {s0 t : State} {h' : Fin 8} {ts : Nat} (h : Ev m s0 t)
    (k : 0x10a000800314c00 &&& m = 0x10a000800314c00 := by decide) : Ev m s0 (State.hallIllegal t h' ts) := by
  refine Ev.comp h ?_ k
  clear h k
  unfold State.hallIllegal
  try dsimp only
  repeat' first
    | (with_reducible first
        | exact Ev.refl _ _ | intro _ | refine Ev.ite ?_ ?_ | refine State.capture_ev ?_ | refine State.judgeHall_ev ?_
        | refine State.modHall_ev ?_
        | refine Ev.bump ?_ 19 (by simp only [ HALL_CNT, HALL_CNT_V, HALL_ERRCNT, HALL_ERRCNT_ILLCNT, HALL_STAT, hallFlags]; omega)
        | refine Ev.raise ?_ 19 (by simp only [ HALL_CNT, HALL_CNT_V, HALL_ERRCNT, HALL_ERRCNT_ILLCNT, HALL_STAT, hallFlags]; omega))
    | dsimp only | split

theorem State.ssiFail_ev {m : Nat} {s0 t : State} {i : Fin 4} {cause : Nat} {ts : Nat} (h : Ev m s0 t)
    (k : 0x10a000800314c00 &&& m = 0x10a000800314c00 := by decide) : Ev m s0 (State.ssiFail t i cause ts) := by
  refine Ev.comp h ?_ k
  clear h k
  unfold State.ssiFail
  try dsimp only
  repeat' first
    | (with_reducible first
        | exact Ev.refl _ _ | intro _ | refine Ev.ite ?_ ?_ | refine State.capture_ev ?_ | refine State.chanLose_ev ?_
        | refine State.modSsi_ev ?_
        | refine Ev.bump ?_ 19 (by simp only [ SSI_CNT, SSI_CNT_ERRCNT, SSI_POS, SSI_STAT, SSI_STAT_CAUSE, SSI_STAT_INREAD, ssiFlags]; omega)
        | refine Ev.put ?_ 19 (by simp only [ SSI_CNT, SSI_CNT_ERRCNT, SSI_POS, SSI_STAT, SSI_STAT_CAUSE, SSI_STAT_INREAD, ssiFlags]; omega)
        | refine Ev.raise ?_ 19 (by simp only [ SSI_CNT, SSI_CNT_ERRCNT, SSI_POS, SSI_STAT, SSI_STAT_CAUSE, SSI_STAT_INREAD, ssiFlags]; omega))
    | dsimp only | split

theorem State.ssiStart_ev {m : Nat} {s0 t : State} {i : Fin 4} {dat : Bool} (h : Ev m s0 t)
    (k : 0x10a000800314c00 &&& m = 0x10a000800314c00 := by decide) : Ev m s0 (State.ssiStart t i dat) := by
  refine Ev.comp h ?_ k
  clear h k
  unfold State.ssiStart
  try dsimp only
  repeat' first
    | (with_reducible first
        | exact Ev.refl _ _ | intro _ | refine Ev.ite ?_ ?_ | refine State.modSsi_ev ?_ | refine State.ssiFail_ev ?_
        | refine Ev.bump ?_ 19 (by simp only [ SSI_CFG, SSI_CFG_EN, SSI_CNT, SSI_CNT_SKIP, SSI_STAT, SSI_STAT_INREAD]; omega)
        | refine Ev.put ?_ 19 (by simp only [ SSI_CFG, SSI_CFG_EN, SSI_CNT, SSI_CNT_SKIP, SSI_STAT, SSI_STAT_INREAD]; omega))
    | dsimp only | split

theorem State.ssiCheck_ev {m : Nat} {s0 t : State} {i : Fin 4} {v : Nat} (h : Ev m s0 t)
    (k : 0x10a000800314c00 &&& m = 0x10a000800314c00 := by decide) : Ev m s0 (State.ssiCheck t i v) := by
  refine Ev.comp h ?_ k
  clear h k
  unfold State.ssiCheck
  try dsimp only
  repeat' first
    | (with_reducible first
        | exact Ev.refl _ _ | intro _ | refine Ev.ite ?_ ?_ | refine State.modSsi_ev ?_ | refine State.ssiFail_ev ?_
        | refine Ev.put ?_ 19 (by simp only [ SSI_CFG, SSI_CFG_ERRBIT, SSI_CFG_GRAY, SSI_CFG_NBITS1, SSI_CFG_PAR, SSI_CFG_STBITS, SSI_MAXSTEP, SSI_POS, SSI_SPD, SSI_SPD_V, SSI_STAT, SSI_STAT_INREAD, SSI_TS, ssiFlags]; omega)
        | refine Ev.raise ?_ 19 (by simp only [ SSI_CFG, SSI_CFG_ERRBIT, SSI_CFG_GRAY, SSI_CFG_NBITS1, SSI_CFG_PAR, SSI_CFG_STBITS, SSI_MAXSTEP, SSI_POS, SSI_SPD, SSI_SPD_V, SSI_STAT, SSI_STAT_INREAD, SSI_TS, ssiFlags]; omega)
        | refine Ev.setReg ?_ 19 (by simp only [ SSI_CFG, SSI_CFG_ERRBIT, SSI_CFG_GRAY, SSI_CFG_NBITS1, SSI_CFG_PAR, SSI_CFG_STBITS, SSI_MAXSTEP, SSI_POS, SSI_SPD, SSI_SPD_V, SSI_STAT, SSI_STAT_INREAD, SSI_TS, ssiFlags]; omega)
        | refine Ev.setReg64 ?_ 19 (by first | decide | (simp only [ SSI_CFG, SSI_MAXSTEP, SSI_POS, SSI_SPD, SSI_STAT, SSI_TS]; omega)) (by first | decide | (simp only [ SSI_CFG, SSI_MAXSTEP, SSI_POS, SSI_SPD, SSI_STAT, SSI_TS]; omega)))
    | dsimp only | split

theorem State.armReference_ev {m : Nat} {s0 t : State} {n : Fin 8} (h : Ev m s0 t)
    (k : 0x200000 &&& m = 0x200000 := by decide) : Ev m s0 (State.armReference t n) := by
  refine Ev.comp h ?_ k
  clear h k
  unfold State.armReference
  try dsimp only
  repeat' first
    | (with_reducible first
        | exact Ev.refl _ _
        | intro _
        | refine Ev.ite ?_ ?_
        | refine Ev.mark ?_
        | refine State.modInc_ev ?_)
    | dsimp only | split

theorem State.clearLoss_ev {m : Nat} {s0 t : State} {c : Nat} (h : Ev m s0 t)
    (k : 0x8000000000000 &&& m = 0x8000000000000 := by decide) : Ev m s0 (State.clearLoss t c) := by
  refine Ev.comp h ?_ k
  clear h k
  unfold State.clearLoss
  try dsimp only
  repeat' first
    | (with_reducible first
        | exact Ev.refl _ _ | intro _ | refine Ev.ite ?_ ?_ | refine State.fbRef_ev ?_
        | refine Ev.put ?_ 19 (by first | decide | (simp only [ FB_LOSS, FB_LOSS_HALL, FB_LOSS_INC, FB_LOSS_SSI, HALL_STAT, HALL_STAT_LOSS, INC_STAT, INC_STAT_LOSS, SSI_STAT, SSI_STAT_LOSS]; omega)))
    | dsimp only | split

theorem State.clearLock_ev {m : Nat} {s0 t : State} {n : Fin 8} (h : Ev m s0 t)
    (k : 0x8000000000000 &&& m = 0x8000000000000 := by decide) : Ev m s0 (State.clearLock t n) := by
  refine Ev.comp h ?_ k
  clear h k
  unfold State.clearLock
  try dsimp only
  repeat' first
    | (with_reducible first
        | exact Ev.refl _ _ | intro _ | refine Ev.ite ?_ ?_ | refine State.fbRef_ev ?_
        | refine Ev.put ?_ 19 (by simp only [ INC_IDXSTAT, INC_IDXSTAT_LOCKED]; omega))
    | dsimp only | split

theorem State.clearErr_ev {m : Nat} {s0 t : State} {c : Nat} (h : Ev m s0 t)
    (k : 0x8000000000000 &&& m = 0x8000000000000 := by decide) : Ev m s0 (State.clearErr t c) := by
  refine Ev.comp h ?_ k
  clear h k
  unfold State.clearErr
  try dsimp only
  repeat' first
    | (with_reducible first
        | exact Ev.refl _ _ | intro _ | refine Ev.ite ?_ ?_
        | refine Ev.setReg ?_ 19 (by simp only [ HALL_ERRCNT, INC_ERRCNT, SSI_CNT]; omega))
    | dsimp only | split

theorem State.clearIndex_ev {m : Nat} {s0 t : State} {n : Fin 8} (h : Ev m s0 t)
    (k : 0x8000000200000 &&& m = 0x8000000200000 := by decide) : Ev m s0 (State.clearIndex t n) := by
  refine Ev.comp h ?_ k
  clear h k
  unfold State.clearIndex
  try dsimp only
  repeat' first
    | (with_reducible first
        | exact Ev.refl _ _ | intro _ | refine Ev.ite ?_ ?_ | refine State.modInc_ev ?_
        | refine Ev.put ?_ 19 (by simp only [ INC_CORRSUM, INC_IDXSTAT, INC_IDXSTAT_LOCKED]; omega)
        | refine Ev.setReg ?_ 19 (by simp only [ INC_CORRSUM, INC_IDXSTAT, INC_IDXSTAT_LOCKED]; omega))
    | dsimp only | split

end Sys2Proof.Machine
end

