-- ==== Sys2Proof/Laws/KeepsSequencer.lean ====
section
/-! SUPPORT. What the operations of Machine/Sequencer.lean keep. -/

set_option linter.all false
set_option Elab.async false

namespace Sys2Proof.Machine

theorem State.warmStep3_ev {m : Nat} {s0 t : State} {a : Fin 8} (h : Ev m s0 t)
    (k : 0x50200080011cc00 &&& m = 0x50200080011cc00 := by decide) : Ev m s0 (State.warmStep3 t a) := by
  refine Ev.comp h ?_ k
  clear h k
  unfold State.warmStep3
  try dsimp only
  repeat' first
    | (with_reducible first
        | exact Ev.refl _ _ | intro _ | refine Ev.ite ?_ ?_ | refine State.beginRamp_ev ?_ | refine State.quickStop_ev ?_
        | refine Ev.modAxis ?_ | refine Ev.modCp ?_ | refine Ev.put ?_ 26 (by simp only [ CP_GAP, CP_GAP_V]; omega))
    | dsimp only | split

theorem State.enableStep3_ev {m : Nat} {s0 t : State} {a : Fin 8} (h : Ev m s0 t)
    (k : 0x50200080011cc00 &&& m = 0x50200080011cc00 := by decide) : Ev m s0 (State.enableStep3 t a) := by
  refine Ev.comp h ?_ k
  clear h k
  unfold State.enableStep3
  try dsimp only
  repeat' first
    | (with_reducible first
        | exact Ev.refl _ _ | intro _ | refine Ev.ite ?_ ?_ | refine State.beginRamp_ev ?_ | refine State.haltBit_ev ?_
        | refine State.warmStep3_ev ?_ | refine Ev.modAxis ?_)
    | dsimp only | split

theorem State.enableStep2_ev {m : Nat} {s0 t : State} {a : Fin 8} (h : Ev m s0 t)
    (k : 0x50200080011cc00 &&& m = 0x50200080011cc00 := by decide) : Ev m s0 (State.enableStep2 t a) := by
  refine Ev.comp h ?_ k
  clear h k
  unfold State.enableStep2
  try dsimp only
  repeat' first
    | (with_reducible first
        | exact Ev.refl _ _ | intro _ | refine Ev.ite ?_ ?_ | refine State.brakeCmd_ev ?_ | refine State.enableStep3_ev ?_
        | refine Ev.modAxis ?_)
    | dsimp only | split

theorem State.cwWhen_ev {m : Nat} {s0 t : State} {p : Bool} {a : Fin 8} {src : Bool} {v : BitVec 16} (h : Ev m s0 t)
    (k : 0x502000800114c00 &&& m = 0x502000800114c00 := by decide) : Ev m s0 (State.cwWhen t p a src v) := by
  refine Ev.comp h ?_ k
  clear h k
  unfold State.cwWhen
  try dsimp only
  repeat' first
    | (with_reducible first
        | exact Ev.refl _ _
        | intro _
        | refine Ev.ite ?_ ?_
        | refine Ev.whenHas ?_ ?_
        | refine State.writeCw_ev ?_)
    | dsimp only | split

end Sys2Proof.Machine
end

