-- ==== Sys2Proof/Laws/KeepsWinch.lean ====
section
/-! SUPPORT. What the operations of Machine/Winch.lean keep. -/

set_option linter.all false
set_option Elab.async false

namespace Sys2Proof.Machine

theorem State.tensionUpdate_ev {m : Nat} {s0 t : State} {a : Fin 8} (h : Ev m s0 t)
    (k : 0x102000800114c00 &&& m = 0x102000800114c00 := by decide) : Ev m s0 (State.tensionUpdate t a) := by
  refine Ev.comp h ?_ k
  clear h k
  unfold State.tensionUpdate
  try dsimp only
  repeat' first
    | (with_reducible first
        | exact Ev.refl _ _ | intro _ | refine Ev.ite ?_ ?_ | refine State.winchFault_ev ?_
        | refine Ev.put ?_ 24 (by simp only [ TN_CFG, TN_CFG_FALLBK, TN_CFG_SRC, TN_MEAS, TN_MEAS_TM, WN_STAT, WN_STAT_ESTUSED]; omega))
    | dsimp only | split

theorem State.brakeEvt_ev {m : Nat} {s0 t : State} {a : Fin 8} {b : Nat} (h : Ev m s0 t)
    (k : 0x100000800000000 &&& m = 0x100000800000000 := by decide) : Ev m s0 (State.brakeEvt t a b) := by
  refine Ev.comp h ?_ k
  clear h k
  unfold State.brakeEvt
  try dsimp only
  repeat' first
    | (with_reducible first
        | exact Ev.refl _ _ | intro _ | refine Ev.ite ?_ ?_ | refine Ev.putOr ?_ 24 (by decide)
        | refine Ev.raise ?_ 24 (by decide))
    | dsimp only | split

theorem State.brakeSettled_ev {m : Nat} {s0 t : State} {a : Fin 8} (h : Ev m s0 t)
    (k : 0x100000 &&& m = 0x100000 := by decide) : Ev m s0 (State.brakeSettled t a) := by
  refine Ev.comp h ?_ k
  clear h k
  unfold State.brakeSettled
  try dsimp only
  repeat' first
    | (with_reducible first
        | exact Ev.refl _ _ | intro _ | refine Ev.ite ?_ ?_ | refine Ev.modLio ?_)
    | dsimp only | split

theorem State.emgFollow_ev {m : Nat} {s0 t : State} {a : Fin 8} (h : Ev m s0 t)
    (k : 0x102000a00114f00 &&& m = 0x102000a00114f00 := by decide) : Ev m s0 (State.emgFollow t a) := by
  refine Ev.comp h ?_ k
  clear h k
  unfold State.emgFollow
  try dsimp only
  repeat' first
    | (with_reducible first
        | exact Ev.refl _ _ | intro _ | refine Ev.ite ?_ ?_ | refine State.setEmg_ev ?_)
    | dsimp only | split

theorem State.putBit_ev {m : Nat} {s0 t : State} {f : Fld} {k' : Nat} {v : Bool} (h : Ev m s0 t)
    (k : 0xffffffff00000000 &&& m = 0xffffffff00000000 := by decide) : Ev m s0 (State.putBit t f k' v) := by
  refine Ev.comp h ?_ k
  clear h k
  unfold State.putBit
  try dsimp only
  repeat' first
    | (with_reducible first
        | exact Ev.refl _ _ | intro _ | refine Ev.ite ?_ ?_ | refine Ev.putA ?_)
    | dsimp only | split

theorem State.freeStart_ev {m : Nat} {s0 t : State} {k' : Fin 4} (h : Ev m s0 t)
    (k : 0xffffffff00104000 &&& m = 0xffffffff00104000 := by decide) : Ev m s0 (State.freeStart t k') := by
  refine Ev.comp h ?_ k
  clear h k
  unfold State.freeStart
  try dsimp only
  repeat' first
    | (with_reducible first
        | exact Ev.refl _ _ | intro _ | refine Ev.ite ?_ ?_ | refine State.brakes_ev ?_ | refine State.putBit_ev ?_
        | refine Ev.emcy ?_ | refine Ev.modLio ?_
        | refine Ev.put ?_ 24 (by first | decide | (simp only [ BRK_STAT, BRK_STAT_GOVSET, EMG_LVL, EMG_LVL_FREE]; omega)))
    | dsimp only | split

theorem State.freeEnd_ev {m : Nat} {s0 t : State} {k' : Fin 4} (h : Ev m s0 t)
    (k : 0xffffffff00100000 &&& m = 0xffffffff00100000 := by decide) : Ev m s0 (State.freeEnd t k') := by
  refine Ev.comp h ?_ k
  clear h k
  unfold State.freeEnd
  try dsimp only
  repeat' first
    | (with_reducible first
        | exact Ev.refl _ _ | intro _ | refine Ev.ite ?_ ?_ | refine State.brakes_ev ?_ | refine State.putBit_ev ?_
        | refine Ev.put ?_ 24 (by first | decide | (simp only [ BRK_STAT, BRK_STAT_GOVSET, EMG_LVL, EMG_LVL_FREE]; omega)))
    | dsimp only | split

theorem State.setDriven_ev {m : Nat} {s0 t : State} {k' : Fin 4} {v : Bool} (h : Ev m s0 t)
    (k : 0x100000 &&& m = 0x100000 := by decide) : Ev m s0 (State.setDriven t k' v) := by
  refine Ev.comp h ?_ k
  clear h k
  unfold State.setDriven
  try dsimp only
  repeat' first
    | (with_reducible first
        | exact Ev.refl _ _ | intro _ | refine Ev.ite ?_ ?_ | refine Ev.modLio ?_)
    | dsimp only | split

theorem State.drivenStart_ev {m : Nat} {s0 t : State} {k' : Fin 4} (h : Ev m s0 t)
    (k : 0xffffffff00114f00 &&& m = 0xffffffff00114f00 := by decide) : Ev m s0 (State.drivenStart t k') := by
  refine Ev.comp h ?_ k
  clear h k
  unfold State.drivenStart
  try dsimp only
  repeat' first
    | (with_reducible first
        | exact Ev.refl _ _ | intro _ | refine Ev.ite ?_ ?_ | refine State.emgFollow_ev ?_ | refine State.freeStart_ev ?_
        | refine State.setDriven_ev ?_ | refine Ev.modAxis ?_)
    | dsimp only | split

theorem State.actEnd_ev {m : Nat} {s0 t : State} {k' : Fin 4} (h : Ev m s0 t)
    (k : 0xffffffff00114f00 &&& m = 0xffffffff00114f00 := by decide) : Ev m s0 (State.actEnd t k') := by
  refine Ev.comp h ?_ k
  clear h k
  unfold State.actEnd
  try dsimp only
  repeat' first
    | (with_reducible first
        | exact Ev.refl _ _ | intro _ | refine Ev.ite ?_ ?_ | refine State.emgFollow_ev ?_ | refine State.freeEnd_ev ?_
        | refine State.putBit_ev ?_ | refine State.setDriven_ev ?_ | refine Ev.emcy ?_)
    | dsimp only | split

end Sys2Proof.Machine
end

