-- ==== Sys2Proof/Laws/KeepsEngine.lean ====
section
/-! SUPPORT. What the operations of Machine/Engine.lean keep. -/

set_option linter.all false
set_option Elab.async false

namespace Sys2Proof.Machine

theorem State.modCapture_ev {m : Nat} {s0 t : State} {c : Nat} {w : Int} (h : Ev m s0 t)
    (k : 0x400000 &&& m = 0x400000 := by decide) : Ev m s0 (State.modCapture t c w) := by
  refine Ev.comp h ?_ k
  clear h k
  unfold State.modCapture
  try dsimp only
  repeat' first
    | (with_reducible first
        | exact Ev.refl _ _ | intro _ | refine Ev.ite ?_ ?_ | refine Ev.setModCap ?_ (fun x => ?_)
        | refine Ev.setModCap ?_ (by assumption))
    | (rename_i hc; simp only [Bool.and_eq_true, decide_eq_true_eq] at hc; rw [List.length_append]; exact hc.2) | dsimp only | split

theorem State.modSample_ev {m : Nat} {s0 t : State} {c : Nat} {raw : Int} (h : Ev m s0 t)
    (k : 0xffffffff00400002 &&& m = 0xffffffff00400002 := by decide) : Ev m s0 (State.modSample t c raw) := by
  refine Ev.comp h ?_ k
  clear h k
  unfold State.modSample
  try dsimp only
  repeat' first
    | (with_reducible first
        | exact Ev.refl _ _ | intro _ | refine Ev.ite ?_ ?_ | refine State.modCapture_ev ?_ | refine Ev.drawInt ?_
        | refine Ev.putA ?_ | refine Ev.sputA ?_ | refine Ev.strobe ?_)
    | dsimp only | split

theorem State.popMod_ev {m : Nat} {s0 t : State}  (h : Ev m s0 t)
    (k : 0x400002 &&& m = 0x400002 := by decide) : Ev m s0 (State.popMod t).2 := by
  refine Ev.comp h ?_ k
  clear h k
  unfold State.popMod
  try dsimp only
  repeat' first
    | (with_reducible first
        | exact Ev.refl _ _ | intro _ | refine Ev.ite ?_ ?_ | refine Ev.setModCap ?_ (fun x => ?_) | refine Ev.draw ?_
        | refine Ev.setModCap ?_ (by assumption))
    | (rename_i hq; have x := x.modCap; rw [hq] at x; exact Nat.le_of_succ_le x) | dsimp only | split

theorem State.clearDegraded_ev {m : Nat} {s0 t : State} {a : Fin 8} (h : Ev m s0 t)
    (k : 0x2000000010000 &&& m = 0x2000000010000 := by decide) : Ev m s0 (State.clearDegraded t a) := by
  refine Ev.comp h ?_ k
  clear h k
  unfold State.clearDegraded
  try dsimp only
  repeat' first
    | (with_reducible first
        | exact Ev.refl _ _ | intro _ | refine Ev.ite ?_ ?_ | refine Ev.modEng ?_
        | refine Ev.put ?_ 17 (by simp only [ ENG_STAT, ENG_STAT_DEGPH, ENG_STAT_DEGRADED]; omega))
    | dsimp only | split

theorem State.clearSchedule_ev {m : Nat} {s0 t : State} {a : Fin 8} (h : Ev m s0 t)
    (k : 0x2000000000000 &&& m = 0x2000000000000 := by decide) : Ev m s0 (State.clearSchedule t a) := by
  refine Ev.comp h ?_ k
  clear h k
  unfold State.clearSchedule
  try dsimp only
  repeat' first
    | (with_reducible first
        | exact Ev.refl _ _ | intro _ | refine Ev.ite ?_ ?_ | refine Ev.setReg ?_ 17 (by simp only [ ENG_SCHED]; omega))
    | dsimp only | split

theorem State.zeroRate_ev {m : Nat} {s0 t : State} {a : Fin 8} (h : Ev m s0 t)
    (k : 0x102000800114c00 &&& m = 0x102000800114c00 := by decide) : Ev m s0 (State.zeroRate t a) := by
  refine Ev.comp h ?_ k
  clear h k
  unfold State.zeroRate
  try dsimp only
  repeat' first
    | (with_reducible first
        | exact Ev.refl _ _ | intro _ | refine Ev.ite ?_ ?_ | refine State.fastHalt_ev ?_ | refine State.leaveTo_ev ?_
        | refine State.recordRefusal_ev ?_)
    | dsimp only | split

theorem State.rampTorque_ev {m : Nat} {s0 t : State} {a : Fin 8} {tgt : Int} (h : Ev m s0 t)
    (k : 0x102000800114c00 &&& m = 0x102000800114c00 := by decide) : Ev m s0 (State.rampTorque t a tgt) := by
  refine Ev.comp h ?_ k
  clear h k
  unfold State.rampTorque
  try dsimp only
  repeat' first
    | (with_reducible first
        | exact Ev.refl _ _ | intro _ | refine Ev.ite ?_ ?_ | refine State.zeroRate_ev ?_ | refine Ev.modAxis ?_)
    | dsimp only | split

theorem State.rampSpeed_ev {m : Nat} {s0 t : State} {a : Fin 8} {tgt : Int} (h : Ev m s0 t)
    (k : 0x102000800114c00 &&& m = 0x102000800114c00 := by decide) : Ev m s0 (State.rampSpeed t a tgt) := by
  refine Ev.comp h ?_ k
  clear h k
  unfold State.rampSpeed
  try dsimp only
  repeat' first
    | (with_reducible first
        | exact Ev.refl _ _ | intro _ | refine Ev.ite ?_ ?_ | refine State.zeroRate_ev ?_ | refine Ev.modAxis ?_)
    | dsimp only | split

theorem State.rampStop_ev {m : Nat} {s0 t : State} {a : Fin 8} {tgt : Int} {rate : Nat} (h : Ev m s0 t)
    (k : 0x400 &&& m = 0x400 := by decide) : Ev m s0 (State.rampStop t a tgt rate) := by
  refine Ev.comp h ?_ k
  clear h k
  unfold State.rampStop
  try dsimp only
  repeat' first
    | (with_reducible first
        | exact Ev.refl _ _ | intro _ | refine Ev.ite ?_ ?_ | refine Ev.modAxis ?_)
    | dsimp only | split

theorem State.rampEdge_ev {m : Nat} {s0 t : State} {a : Fin 8} (h : Ev m s0 t)
    (k : 0x102000800114c00 &&& m = 0x102000800114c00 := by decide) : Ev m s0 (State.rampEdge t a) := by
  refine Ev.comp h ?_ k
  clear h k
  unfold State.rampEdge
  try dsimp only
  repeat' first
    | (with_reducible first
        | exact Ev.refl _ _ | intro _ | refine Ev.ite ?_ ?_ | refine State.rampSpeed_ev ?_ | refine State.rampStop_ev ?_
        | refine State.rampTorque_ev ?_ | refine State.zeroRate_ev ?_ | refine Ev.modAxis ?_)
    | dsimp only | split

theorem State.stillEdge_ev {m : Nat} {s0 t : State} {a : Fin 8} (h : Ev m s0 t)
    (k : 0x102000800110400 &&& m = 0x102000800110400 := by decide) : Ev m s0 (State.stillEdge t a) := by
  refine Ev.comp h ?_ k
  clear h k
  unfold State.stillEdge
  try dsimp only
  repeat' first
    | (with_reducible first
        | exact Ev.refl _ _
        | intro _
        | refine Ev.ite ?_ ?_
        | refine Ev.modAxis ?_
        | refine Ev.modEng ?_
        | refine State.brakeCmd_ev ?_
        | refine State.stopDone_ev ?_)
    | dsimp only | split

theorem State.pendEdge_ev {m : Nat} {s0 t : State} {a : Fin 8} (h : Ev m s0 t)
    (k : 0x2000800110400 &&& m = 0x2000800110400 := by decide) : Ev m s0 (State.pendEdge t a) := by
  refine Ev.comp h ?_ k
  clear h k
  unfold State.pendEdge
  try dsimp only
  repeat' first
    | (with_reducible first
        | exact Ev.refl _ _ | intro _ | refine Ev.ite ?_ ?_ | refine State.emgFromRunning_ev ?_)
    | dsimp only | split

theorem State.tensionLaw_ev {m : Nat} {s0 t : State} {a : Fin 8} (h : Ev m s0 t)
    (k : 0x102000800114c00 &&& m = 0x102000800114c00 := by decide) : Ev m s0 (State.tensionLaw t a) := by
  refine Ev.comp h ?_ k
  clear h k
  unfold State.tensionLaw
  try dsimp only
  repeat' first
    | (with_reducible first
        | exact Ev.refl _ _ | intro _ | refine Ev.ite ?_ ?_ | refine State.winchFault_ev ?_ | refine Ev.modEng ?_
        | refine Ev.put ?_ 24 (by simp only [ TN_MEAS, TN_MEAS_N, WN_STAT, WN_STAT_CLAMP, WN_STAT_RECOVER, WN_STAT_RENDER]; omega))
    | dsimp only | split

theorem State.clampSeen_ev {m : Nat} {s0 t : State} {a : Fin 8} {ref : Int} (h : Ev m s0 t)
    (k : 0x400 &&& m = 0x400 := by decide) : Ev m s0 (State.clampSeen t a ref) := by
  refine Ev.comp h ?_ k
  clear h k
  unfold State.clampSeen
  try dsimp only
  repeat' first
    | (with_reducible first
        | exact Ev.refl _ _
        | intro _
        | refine Ev.ite ?_ ?_
        | refine Ev.modAxis ?_)
    | dsimp only | split

theorem State.speedLoop_ev {m : Nat} {s0 t : State} {a : Fin 8} {ref : Int} (h : Ev m s0 t)
    (k : 0x10400 &&& m = 0x10400 := by decide) : Ev m s0 (State.speedLoop t a ref) := by
  refine Ev.comp h ?_ k
  clear h k
  unfold State.speedLoop
  try dsimp only
  repeat' first
    | (with_reducible first
        | exact Ev.refl _ _
        | intro _
        | refine Ev.ite ?_ ?_
        | refine Ev.modEng ?_
        | refine State.clampSeen_ev ?_)
    | dsimp only | split

theorem State.demand_ev {m : Nat} {s0 t : State} {a : Fin 8} (h : Ev m s0 t)
    (k : 0x102000800114c00 &&& m = 0x102000800114c00 := by decide) : Ev m s0 (State.demand t a) := by
  refine Ev.comp h ?_ k
  clear h k
  unfold State.demand
  try dsimp only
  repeat' first
    | (with_reducible first
        | exact Ev.refl _ _ | intro _ | refine Ev.ite ?_ ?_ | refine State.speedLoop_ev ?_ | refine State.tensionLaw_ev ?_
        | refine Ev.modEng ?_)
    | dsimp only | split

theorem State.currentLoop_ev {m : Nat} {s0 t : State} {a : Fin 8} (h : Ev m s0 t)
    (k : 0x10400 &&& m = 0x10400 := by decide) : Ev m s0 (State.currentLoop t a).2 := by
  refine Ev.comp h ?_ k
  clear h k
  unfold State.currentLoop
  try dsimp only
  repeat' first
    | (with_reducible first
        | exact Ev.refl _ _ | intro _ | refine Ev.ite ?_ ?_ | refine Ev.modAxis ?_ | refine Ev.modEng ?_)
    | dsimp only | split

theorem State.duties_ev {m : Nat} {s0 t : State} {a : Fin 8} (h : Ev m s0 t)
    (k : 0x102000800114c00 &&& m = 0x102000800114c00 := by decide) : Ev m s0 (State.duties t a).2 := by
  refine Ev.comp h ?_ k
  clear h k
  unfold State.duties
  try dsimp only
  repeat' first
    | (with_reducible first
        | exact Ev.refl _ _ | intro _ | refine Ev.ite ?_ ?_ | refine State.currentLoop_ev ?_ | refine State.demand_ev ?_
        | refine Ev.put ?_ 17 (by simp only [ ENG_BOOT, ENG_BOOT_RFON, ENG_CFG, ENG_CFG_CYC, ENG_PWM, ENG_PWM_DT, ENG_SCALE, ENG_SCALE_UFS, ENG_STAT, ENG_STAT_LIMIT]; omega))
    | dsimp only | split

theorem State.publish_ev {m : Nat} {s0 t : State} {a : Fin 8} {pl : Plan} (h : Ev m s0 t)
    (k : 0x102000800114c00 &&& m = 0x102000800114c00 := by decide) : Ev m s0 (State.publish t a pl) := by
  refine Ev.comp h ?_ k
  clear h k
  unfold State.publish
  try dsimp only
  repeat' first
    | (with_reducible first
        | exact Ev.refl _ _ | intro _ | refine Ev.ite ?_ ?_ | refine State.engineFault_ev ?_
        | refine Ev.bumpBy ?_ 17 (by simp only [ ENG_CFG, ENG_CFG_CYC, ENG_MARGIN, ENG_MARGIN_V, ENG_SCHED, ENG_SCHED_MAXSLIP, ENG_SCHED_QPEAK, ENG_SCHED_SLIPS]; omega)
        | refine Ev.modEng ?_ | refine Ev.modPort ?_ (by with_unfolding_all exact fun _ h => ⟨h.rx, h.ten⟩)
        | refine Ev.put ?_ 17 (by simp only [ ENG_CFG, ENG_CFG_CYC, ENG_MARGIN, ENG_MARGIN_V, ENG_SCHED, ENG_SCHED_MAXSLIP, ENG_SCHED_QPEAK, ENG_SCHED_SLIPS]; omega)
        | refine Ev.foldl ?_ _ ?_)
    | dsimp only | split

theorem State.putFree_ev {m : Nat} {s0 t : State} {f : Fld} {v : Int} {lo : Int} {hi : Int} (h : Ev m s0 t)
    (k : 0xffffffff00000002 &&& m = 0xffffffff00000002 := by decide) : Ev m s0 (State.putFree t f v lo hi) := by
  refine Ev.comp h ?_ k
  clear h k
  unfold State.putFree
  try dsimp only
  repeat' first
    | (with_reducible first
        | exact Ev.refl _ _ | intro _ | refine Ev.ite ?_ ?_ | refine Ev.draw ?_ | refine Ev.putA ?_ | refine Ev.sputA ?_)
    | dsimp only | split

theorem State.sampleRegs_ev {m : Nat} {s0 t : State} {a : Fin 8} (h : Ev m s0 t)
    (k : 0xffffffff00010002 &&& m = 0xffffffff00010002 := by decide) : Ev m s0 (State.sampleRegs t a) := by
  refine Ev.comp h ?_ k
  clear h k
  unfold State.sampleRegs
  try dsimp only
  repeat' first
    | (with_reducible first
        | exact Ev.refl _ _ | intro _ | refine Ev.ite ?_ ?_ | refine State.putFree_ev ?_ | refine Ev.modEng ?_)
    | dsimp only | split

theorem State.cycleWork_ev {m : Nat} {s0 t : State} {a : Fin 8} (h : Ev m s0 t)
    (k : 0x102000800114c00 &&& m = 0x102000800114c00 := by decide) : Ev m s0 (State.cycleWork t a) := by
  refine Ev.comp h ?_ k
  clear h k
  unfold State.cycleWork
  try dsimp only
  repeat' first
    | (with_reducible first
        | exact Ev.refl _ _ | intro _ | refine Ev.ite ?_ ?_ | refine State.duties_ev ?_ | refine State.pendEdge_ev ?_
        | refine State.publish_ev ?_ | refine State.rampEdge_ev ?_ | refine State.stillEdge_ev ?_ | refine Ev.modAxis ?_
        | refine Ev.modEng ?_ | refine Ev.put ?_ 17 (by simp only [ ENG_STAT, ENG_STAT_EDGES, ENG_TDEM, ENG_TDEM_T]; omega))
    | dsimp only | split

end Sys2Proof.Machine
end

