-- ==== Sys2Proof/Laws/KeepsRing.lean ====
section
/-! SUPPORT. What the operations of Machine/Ring.lean keep. -/

set_option linter.all false
set_option Elab.async false

namespace Sys2Proof.Machine

theorem State.ringOut_ev {m : Nat} {s0 t : State} {onB : Bool} {good : Bool} {f : List Byte} (h : Ev m s0 t)
    (k : 0x4 &&& m = 0x4 := by decide) : Ev m s0 (State.ringOut t onB good f) := by
  refine Ev.comp h ?_ k
  clear h k
  unfold State.ringOut
  try dsimp only
  repeat' first
    | (with_reducible first
        | exact Ev.refl _ _ | intro _ | refine Ev.ite ?_ ?_ | refine Ev.send ?_)
    | dsimp only | split

theorem State.nextFseq_ev {m : Nat} {s0 t : State}  (h : Ev m s0 t)
    (k : 0x800000 &&& m = 0x800000 := by decide) : Ev m s0 (State.nextFseq t) := by
  refine Ev.comp h ?_ k
  clear h k
  unfold State.nextFseq
  try dsimp only
  repeat' first
    | (with_reducible first
        | exact Ev.refl _ _ | intro _ | refine Ev.ite ?_ ?_ | refine Ev.modRing ?_)
    | dsimp only | split

theorem State.originate_ev {m : Nat} {s0 t : State} {ty : Nat} {dst : Nat} {pay : List Byte} (h : Ev m s0 t)
    (k : 0x800004 &&& m = 0x800004 := by decide) : Ev m s0 (State.originate t ty dst pay) := by
  refine Ev.comp h ?_ k
  clear h k
  unfold State.originate
  try dsimp only
  repeat' first
    | (with_reducible first
        | exact Ev.refl _ _ | intro _ | refine Ev.ite ?_ ?_ | refine State.nextFseq_ev ?_ | refine State.ringOut_ev ?_)
    | dsimp only | split

theorem State.originateOn_ev {m : Nat} {s0 t : State} {onB : Bool} {ty : Nat} {dst : Nat} {hops : Nat} {pay : List Byte} (h : Ev m s0 t)
    (k : 0x800004 &&& m = 0x800004 := by decide) : Ev m s0 (State.originateOn t onB ty dst hops pay) := by
  refine Ev.comp h ?_ k
  clear h k
  unfold State.originateOn
  try dsimp only
  repeat' first
    | (with_reducible first
        | exact Ev.refl _ _ | intro _ | refine Ev.ite ?_ ?_ | refine State.nextFseq_ev ?_ | refine State.ringOut_ev ?_)
    | dsimp only | split

theorem State.ringEvt_ev {m : Nat} {s0 t : State} {b : Nat} (h : Ev m s0 t)
    (k : 0x10000800000000 &&& m = 0x10000800000000 := by decide) : Ev m s0 (State.ringEvt t b) := by
  refine Ev.comp h ?_ k
  clear h k
  unfold State.ringEvt
  try dsimp only
  repeat' first
    | (with_reducible first
        | exact Ev.refl _ _ | intro _ | refine Ev.ite ?_ ?_ | refine Ev.raise ?_ 20 (by decide))
    | dsimp only | split

theorem State.setRstate_ev {m : Nat} {s0 t : State} {broken : Bool} (h : Ev m s0 t)
    (k : 0x10000800800000 &&& m = 0x10000800800000 := by decide) : Ev m s0 (State.setRstate t broken) := by
  refine Ev.comp h ?_ k
  clear h k
  unfold State.setRstate
  try dsimp only
  repeat' first
    | (with_reducible first
        | exact Ev.refl _ _ | intro _ | refine Ev.ite ?_ ?_ | refine State.ringEvt_ev ?_ | refine Ev.modRing ?_)
    | dsimp only | split

theorem State.ringTo_ev {m : Nat} {s0 t : State} {broken : Bool} (h : Ev m s0 t)
    (k : 0x10000800800000 &&& m = 0x10000800800000 := by decide) : Ev m s0 (State.ringTo t broken) := by
  refine Ev.comp h ?_ k
  clear h k
  unfold State.ringTo
  try dsimp only
  repeat' first
    | (with_reducible first
        | exact Ev.refl _ _ | intro _ | refine Ev.ite ?_ ?_ | refine State.setRstate_ev ?_ | refine Ev.modRing ?_)
    | dsimp only | split

theorem State.ringJoin_ev {m : Nat} {s0 t : State}  (h : Ev m s0 t)
    (k : 0x800000 &&& m = 0x800000 := by decide) : Ev m s0 (State.ringJoin t) := by
  refine Ev.comp h ?_ k
  clear h k
  unfold State.ringJoin
  try dsimp only
  repeat' first
    | (with_reducible first
        | exact Ev.refl _ _ | intro _ | refine Ev.ite ?_ ?_ | refine Ev.modRing ?_)
    | dsimp only | split

theorem State.ringDuplicate_ev {m : Nat} {s0 t : State}  (h : Ev m s0 t)
    (k : 0x10000800804000 &&& m = 0x10000800804000 := by decide) : Ev m s0 (State.ringDuplicate t) := by
  refine Ev.comp h ?_ k
  clear h k
  unfold State.ringDuplicate
  try dsimp only
  repeat' first
    | (with_reducible first
        | exact Ev.refl _ _ | intro _ | refine Ev.ite ?_ ?_ | refine State.ringEvt_ev ?_ | refine Ev.emcy ?_
        | refine Ev.modRing ?_)
    | dsimp only | split

theorem State.ringDecide_ev {m : Nat} {s0 t : State} {broken : Bool} (h : Ev m s0 t)
    (k : 0x10000800804000 &&& m = 0x10000800804000 := by decide) : Ev m s0 (State.ringDecide t broken) := by
  refine Ev.comp h ?_ k
  clear h k
  unfold State.ringDecide
  try dsimp only
  repeat' first
    | (with_reducible first
        | exact Ev.refl _ _ | intro _ | refine Ev.ite ?_ ?_ | refine State.ringTo_ev ?_ | refine Ev.bump ?_ 20 (by decide)
        | refine Ev.emcy ?_ | refine Ev.modRing ?_)
    | dsimp only | split

theorem State.forwardFrame_ev {m : Nat} {s0 t : State} {onB : Bool} {fcs : Bool} {f : List Byte} {res : Nat} (h : Ev m s0 t)
    (k : 0x4 &&& m = 0x4 := by decide) : Ev m s0 (State.forwardFrame t onB fcs f res) := by
  refine Ev.comp h ?_ k
  clear h k
  unfold State.forwardFrame
  try dsimp only
  repeat' first
    | (with_reducible first
        | exact Ev.refl _ _ | intro _ | refine Ev.ite ?_ ?_ | refine State.ringOut_ev ?_)
    | dsimp only | split

theorem State.ringRx_ev {m : Nat} {s0 t : State} {onB : Bool} {fcs : Bool} {f : List Byte} {res : Nat} (h : Ev m s0 t)
    (k : 0x10000800804004 &&& m = 0x10000800804004 := by decide) : Ev m s0 (State.ringRx t onB fcs f res).1 := by
  refine Ev.comp h ?_ k
  clear h k
  unfold State.ringRx
  try dsimp only
  repeat' first
    | (with_reducible first
        | exact Ev.refl _ _ | intro _ | refine Ev.ite ?_ ?_ | refine State.forwardFrame_ev ?_ | refine State.ringDuplicate_ev ?_
        | refine Ev.bump ?_ 20 (by decide) | refine Ev.modRing ?_)
    | dsimp only | split

theorem State.ringTake_ev {m : Nat} {s0 t : State} {onB : Bool} {fcs : Bool} {f : List Byte} {ty : Nat} {act : State → State} (h : Ev m s0 t) (hact : ∀ v, Ev m v (act v))
    (k : 0x10000800804004 &&& m = 0x10000800804004 := by decide) : Ev m s0 (State.ringTake t onB fcs f ty act) := by
  unfold State.ringTake
  try dsimp only
  repeat' first
    | (with_reducible first
        | exact Ev.refl _ _ | exact h | refine Ev.trans ?_ (hact _ ) | exact h | refine Ev.trans ?_ (hact _ ) | intro _
        | refine Ev.ite ?_ ?_ | refine State.ringRx_ev ?_ (sub_trans (by decide) k))
    | dsimp only | split

theorem State.correctTime_ev {m : Nat} {s0 t : State} {e : Int} (h : Ev m s0 t)
    (k : 0x10000800804002 &&& m = 0x10000800804002 := by decide) : Ev m s0 (State.correctTime t e) := by
  refine Ev.comp h ?_ k
  clear h k
  unfold State.correctTime
  try dsimp only
  repeat' first
    | (with_reducible first
        | exact Ev.refl _ _ | intro _ | refine Ev.ite ?_ ?_ | refine State.ringEvt_ev ?_ | refine Ev.bump ?_ 20 (by decide)
        | refine Ev.drawInt ?_ | refine Ev.emcy ?_ | refine Ev.modRing ?_ | refine Ev.put ?_ 20 (by decide))
    | dsimp only | split

theorem State.acceptBeacon_ev {m : Nat} {s0 t : State} {onB : Bool} {f : List Byte} {late : Nat} (h : Ev m s0 t)
    (k : 0x10000800804002 &&& m = 0x10000800804002 := by decide) : Ev m s0 (State.acceptBeacon t onB f late) := by
  refine Ev.comp h ?_ k
  clear h k
  unfold State.acceptBeacon
  try dsimp only
  repeat' first
    | (with_reducible first
        | exact Ev.refl _ _ | intro _ | refine Ev.ite ?_ ?_ | refine State.correctTime_ev ?_ | refine State.ringTo_ev ?_
        | refine Ev.modRing ?_
        | refine Ev.put ?_ 20 (by first | decide | (simp only [ RING_CAPCT, RING_CAPFB, RING_CFG, RING_CFG_CYC, RING_ERR, RING_ERR_CYCMIS]; omega))
        | refine Ev.setReg64 ?_ 20 (by first | decide | (simp only [ RING_CAPCT, RING_CAPFB, RING_CFG, RING_ERR]; omega)) (by first | decide | (simp only [ RING_CAPCT, RING_CAPFB, RING_CFG, RING_ERR]; omega)))
    | dsimp only | split

theorem State.ringEnable_ev {m : Nat} {s0 t : State}  (h : Ev m s0 t)
    (k : 0x800000 &&& m = 0x800000 := by decide) : Ev m s0 (State.ringEnable t) := by
  refine Ev.comp h ?_ k
  clear h k
  unfold State.ringEnable
  try dsimp only
  repeat' first
    | (with_reducible first
        | exact Ev.refl _ _ | intro _ | refine Ev.ite ?_ ?_ | refine State.ringJoin_ev ?_ | refine Ev.modRing ?_)
    | dsimp only | split

theorem State.ringDisable_ev {m : Nat} {s0 t : State}  (h : Ev m s0 t)
    (k : 0x10000800800000 &&& m = 0x10000800800000 := by decide) : Ev m s0 (State.ringDisable t) := by
  refine Ev.comp h ?_ k
  clear h k
  unfold State.ringDisable
  try dsimp only
  repeat' first
    | (with_reducible first
        | exact Ev.refl _ _ | intro _ | refine Ev.ite ?_ ?_ | refine State.ringEvt_ev ?_ | refine Ev.modRing ?_
        | refine Ev.put ?_ 20 (by decide))
    | dsimp only | split

theorem State.ringRejoin_ev {m : Nat} {s0 t : State}  (h : Ev m s0 t)
    (k : 0x800000 &&& m = 0x800000 := by decide) : Ev m s0 (State.ringRejoin t) := by
  refine Ev.comp h ?_ k
  clear h k
  unfold State.ringRejoin
  try dsimp only
  repeat' first
    | (with_reducible first
        | exact Ev.refl _ _ | intro _ | refine Ev.ite ?_ ?_ | refine Ev.modRing ?_)
    | dsimp only | split

theorem State.ringClearCounts_ev {m : Nat} {s0 t : State}  (h : Ev m s0 t)
    (k : 0x10000000000000 &&& m = 0x10000000000000 := by decide) : Ev m s0 (State.ringClearCounts t) := by
  refine Ev.comp h ?_ k
  clear h k
  unfold State.ringClearCounts
  try dsimp only
  repeat' first
    | (with_reducible first
        | exact Ev.refl _ _ | intro _ | refine Ev.ite ?_ ?_ | refine Ev.setReg ?_ 20 (by decide))
    | dsimp only | split

theorem State.judgeCycle_ev {m : Nat} {s0 t : State}  (h : Ev m s0 t)
    (k : 0x10000800804000 &&& m = 0x10000800804000 := by decide) : Ev m s0 (State.judgeCycle t) := by
  refine Ev.comp h ?_ k
  clear h k
  unfold State.judgeCycle
  try dsimp only
  repeat' first
    | (with_reducible first
        | exact Ev.refl _ _ | intro _ | refine Ev.ite ?_ ?_ | refine State.ringDecide_ev ?_ | refine Ev.modRing ?_)
    | dsimp only | split

theorem meanDelay_ev {m : Nat} {s0 t : State} {l : List Int} (h : Ev m s0 t)
    (k : 0x2 &&& m = 0x2 := by decide) : Ev m s0 (meanDelay t l).2 := by
  refine Ev.comp h ?_ k
  clear h k
  unfold meanDelay
  try dsimp only
  repeat' first
    | (with_reducible first
        | exact Ev.refl _ _ | intro _ | refine Ev.ite ?_ ?_ | refine Ev.draw ?_ | refine Ev.foldl ?_ _ ?_)
    | dsimp only | split

theorem State.modGrp_ev {m : Nat} {s0 t : State} {g : Fin 16} {f : Grp → Grp} (h : Ev m s0 t)
    (k : 0x800000 &&& m = 0x800000 := by decide) : Ev m s0 (State.modGrp t g f) := by
  refine Ev.comp h ?_ k
  clear h k
  unfold State.modGrp
  try dsimp only
  repeat' first
    | (with_reducible first
        | exact Ev.refl _ _ | intro _ | refine Ev.ite ?_ ?_ | refine Ev.modRing ?_)
    | dsimp only | split

theorem State.modMem_ev {m : Nat} {s0 t : State} {a : Fin 8} {f : GrpAxis → GrpAxis} (h : Ev m s0 t)
    (k : 0x800000 &&& m = 0x800000 := by decide) : Ev m s0 (State.modMem t a f) := by
  refine Ev.comp h ?_ k
  clear h k
  unfold State.modMem
  try dsimp only
  repeat' first
    | (with_reducible first
        | exact Ev.refl _ _ | intro _ | refine Ev.ite ?_ ?_ | refine Ev.modRing ?_)
    | dsimp only | split

theorem State.grpEvt_ev {m : Nat} {s0 t : State} {g : Fin 16} (h : Ev m s0 t)
    (k : 0x800000000 &&& m = 0x800000000 := by decide) : Ev m s0 (State.grpEvt t g) := by
  refine Ev.comp h ?_ k
  clear h k
  unfold State.grpEvt
  try dsimp only
  repeat' first
    | (with_reducible first
        | exact Ev.refl _ _ | intro _ | refine Ev.ite ?_ ?_ | refine Ev.strobe ?_)
    | dsimp only | split

theorem State.enterDroop_ev {m : Nat} {s0 t : State} {g : Fin 16} {a : Fin 8} {cause : Nat} (h : Ev m s0 t)
    (k : 0x800804000 &&& m = 0x800804000 := by decide) : Ev m s0 (State.enterDroop t g a cause) := by
  refine Ev.comp h ?_ k
  clear h k
  unfold State.enterDroop
  try dsimp only
  repeat' first
    | (with_reducible first
        | exact Ev.refl _ _ | intro _ | refine Ev.ite ?_ ?_ | refine State.grpEvt_ev ?_ | refine State.modMem_ev ?_
        | refine Ev.emcy ?_)
    | dsimp only | split

theorem State.droopUpdate_ev {m : Nat} {s0 t : State} {g : Fin 16} {a : Fin 8} (h : Ev m s0 t)
    (k : 0x12000000000000 &&& m = 0x12000000000000 := by decide) : Ev m s0 (State.droopUpdate t g a) := by
  refine Ev.comp h ?_ k
  clear h k
  unfold State.droopUpdate
  try dsimp only
  repeat' first
    | (with_reducible first
        | exact Ev.refl _ _ | intro _ | refine Ev.ite ?_ ?_
        | refine Ev.sput ?_ 17 (by simp only [ ENG_RREF_TQ, ENG_RREF_TQ_V, ENG_SPD, ENG_SPD_V]; omega)
        | refine Ev.sput ?_ 20 (by simp only [ GRP_DROOP, GRP_DROOP_DLIM, GRP_DROOP_KD]; omega))
    | dsimp only | split

theorem State.putGrpList_ev {m : Nat} {s0 t : State} {g : Fin 16} {l : List (Nat × Nat × Bool)} (h : Ev m s0 t)
    (k : 0x10000000000000 &&& m = 0x10000000000000 := by decide) : Ev m s0 (State.putGrpList t g l) := by
  refine Ev.comp h ?_ k
  clear h k
  unfold State.putGrpList
  try dsimp only
  repeat' first
    | (with_reducible first
        | exact Ev.refl _ _ | intro _ | refine Ev.ite ?_ ?_ | refine Ev.setReg ?_ 20 (by simp only [ GRP_LIST]; omega)
        | refine Ev.forN ?_ ?_)
    | dsimp only | split

theorem State.memberShare_ev {m : Nat} {s0 t : State} {g : Fin 16} {droop : Bool} {hold : Bool} {l : List (Nat × Int)} {a : Fin 8} (h : Ev m s0 t)
    (k : 0x12000800804000 &&& m = 0x12000800804000 := by decide) : Ev m s0 (State.memberShare t g droop hold l a) := by
  refine Ev.comp h ?_ k
  clear h k
  unfold State.memberShare
  try dsimp only
  repeat' first
    | (with_reducible first
        | exact Ev.refl _ _ | intro _ | refine Ev.ite ?_ ?_ | refine State.enterDroop_ev ?_ | refine State.modMem_ev ?_
        | refine Ev.sput ?_ 17 (by simp only [ ENG_RREF_TQ, ENG_RREF_TQ_V]; omega)
        | refine Ev.sput ?_ 20 (by simp only [ GRP_CFG2, GRP_CFG2_RSTEP]; omega))
    | dsimp only | split

theorem State.applyShare_ev {m : Nat} {s0 t : State} {g : Fin 16} {u : Nat} {rep : Bool} {sat : Bool} {droop : Bool} {pseq : Nat} {gt : Nat} {l : List (Nat × Int)} {jn : List Nat} (h : Ev m s0 t)
    (k : 0x12000800804000 &&& m = 0x12000800804000 := by decide) : Ev m s0 (State.applyShare t g u rep sat droop pseq gt l jn) := by
  refine Ev.comp h ?_ k
  clear h k
  unfold State.applyShare
  try dsimp only
  repeat' first
    | (with_reducible first
        | exact Ev.refl _ _ | intro _ | refine Ev.ite ?_ ?_ | refine State.grpEvt_ev ?_ | refine State.memberShare_ev ?_
        | refine State.putGrpList_ev ?_
        | refine Ev.bump ?_ 20 (by simp only [ GRP_CNT, GRP_CNT_REPEATS, GRP_G, GRP_G_V, GRP_LIST, GRP_LIST_INCL, GRP_LIST_KEY, GRP_MEMB, GRP_STAT, GRP_STAT_LEADER, GRP_STAT_PSEQ, GRP_STAT_REPEAT, GRP_STAT_SAT]; omega)
        | refine Ev.put ?_ 20 (by simp only [ GRP_CNT, GRP_CNT_REPEATS, GRP_G, GRP_G_V, GRP_LIST, GRP_LIST_INCL, GRP_LIST_KEY, GRP_MEMB, GRP_STAT, GRP_STAT_LEADER, GRP_STAT_PSEQ, GRP_STAT_REPEAT, GRP_STAT_SAT]; omega)
        | refine Ev.setReg ?_ 20 (by simp only [ GRP_CNT, GRP_CNT_REPEATS, GRP_G, GRP_G_V, GRP_LIST, GRP_LIST_INCL, GRP_LIST_KEY, GRP_MEMB, GRP_STAT, GRP_STAT_LEADER, GRP_STAT_PSEQ, GRP_STAT_REPEAT, GRP_STAT_SAT]; omega)
        | refine Ev.foldl ?_ _ ?_)
    | dsimp only | split

theorem refFits_ev {m : Nat} {s0 t : State} {v : Int} (h : Ev m s0 t)
    (k : 0x2 &&& m = 0x2 := by decide) : Ev m s0 (refFits t v).2 := by
  refine Ev.comp h ?_ k
  clear h k
  unfold refFits
  try dsimp only
  repeat' first
    | (with_reducible first
        | exact Ev.refl _ _ | intro _ | refine Ev.ite ?_ ?_ | refine Ev.drawInt ?_)
    | dsimp only | split

theorem State.computeShares_ev {m : Nat} {s0 t : State} {g : Fin 16} (h : Ev m s0 t)
    (k : 0x12000800804006 &&& m = 0x12000800804006 := by decide) : Ev m s0 (State.computeShares t g) := by
  refine Ev.comp h ?_ k
  clear h k
  unfold State.computeShares
  try dsimp only
  repeat' first
    | (with_reducible first
        | exact Ev.refl _ _ | intro _ | refine Ev.ite ?_ ?_ | assumption | refine Ev.foldlSnd (fun _ _ _ => ?_) _ _ ?_
        | refine State.applyShare_ev ?_ | refine State.modGrp_ev ?_ | refine State.originate_ev ?_ | refine refFits_ev ?_
        | refine Ev.put ?_ 20 (by simp only [ GRP_CFG2, GRP_CFG2_JOINSTEP, GRP_CFG2_RAMP, GRP_DEM, GRP_DEM_V, GRP_G, GRP_G_V, GRP_STAT, GRP_STAT_PSEQ, GRP_STAT_QUORATE]; omega)
        | refine Ev.foldl ?_ _ ?_)
    | dsimp only | split

theorem State.repeatShare_ev {m : Nat} {s0 t : State} {g : Fin 16} (h : Ev m s0 t)
    (k : 0x12000800804004 &&& m = 0x12000800804004 := by decide) : Ev m s0 (State.repeatShare t g) := by
  refine Ev.comp h ?_ k
  clear h k
  unfold State.repeatShare
  try dsimp only
  repeat' first
    | (with_reducible first
        | exact Ev.refl _ _ | intro _ | refine Ev.ite ?_ ?_ | refine State.applyShare_ev ?_ | refine State.originate_ev ?_)
    | dsimp only | split

theorem State.excludeUnit_ev {m : Nat} {s0 t : State} {g : Fin 16} {u : Nat} (h : Ev m s0 t)
    (k : 0x10000000804000 &&& m = 0x10000000804000 := by decide) : Ev m s0 (State.excludeUnit t g u) := by
  refine Ev.comp h ?_ k
  clear h k
  unfold State.excludeUnit
  try dsimp only
  repeat' first
    | (with_reducible first
        | exact Ev.refl _ _ | intro _ | refine Ev.ite ?_ ?_ | refine State.modGrp_ev ?_
        | refine Ev.bump ?_ 20 (by simp only [ GRP_CNT, GRP_CNT_EXCL]; omega) | refine Ev.emcy ?_)
    | dsimp only | split

theorem State.startLead_ev {m : Nat} {s0 t : State} {g : Fin 16} (h : Ev m s0 t)
    (k : 0x804000 &&& m = 0x804000 := by decide) : Ev m s0 (State.startLead t g) := by
  refine Ev.comp h ?_ k
  clear h k
  unfold State.startLead
  try dsimp only
  repeat' first
    | (with_reducible first
        | exact Ev.refl _ _ | intro _ | refine Ev.ite ?_ ?_ | refine State.modGrp_ev ?_ | refine Ev.emcy ?_)
    | dsimp only | split

theorem State.leadPoint_ev {m : Nat} {s0 t : State} {g : Fin 16} (h : Ev m s0 t)
    (k : 0x12000800804006 &&& m = 0x12000800804006 := by decide) : Ev m s0 (State.leadPoint t g) := by
  refine Ev.comp h ?_ k
  clear h k
  unfold State.leadPoint
  try dsimp only
  repeat' first
    | (with_reducible first
        | exact Ev.refl _ _ | intro _ | refine Ev.ite ?_ ?_ | refine State.computeShares_ev ?_ | refine State.excludeUnit_ev ?_
        | refine State.modGrp_ev ?_ | refine State.repeatShare_ev ?_ | refine Ev.foldl ?_ _ ?_)
    | dsimp only | split

theorem State.nakTx_ev {m : Nat} {s0 t : State}  (h : Ev m s0 t)
    (k : 0x10000800000000 &&& m = 0x10000800000000 := by decide) : Ev m s0 (State.nakTx t) := by
  refine Ev.comp h ?_ k
  clear h k
  unfold State.nakTx
  try dsimp only
  repeat' first
    | (with_reducible first
        | exact Ev.refl _ _ | intro _ | refine Ev.ite ?_ ?_ | refine State.ringEvt_ev ?_ | refine Ev.bump ?_ 20 (by decide))
    | dsimp only | split

theorem State.nakRx_ev {m : Nat} {s0 t : State}  (h : Ev m s0 t)
    (k : 0x10000800000000 &&& m = 0x10000800000000 := by decide) : Ev m s0 (State.nakRx t) := by
  refine Ev.comp h ?_ k
  clear h k
  unfold State.nakRx
  try dsimp only
  repeat' first
    | (with_reducible first
        | exact Ev.refl _ _ | intro _ | refine Ev.ite ?_ ?_ | refine State.ringEvt_ev ?_ | refine Ev.bump ?_ 20 (by decide))
    | dsimp only | split

theorem State.sysAnswer_ev {m : Nat} {s0 t : State} {to_ : Nat} {st : Nat} {tid : Nat} {data : List Byte} (h : Ev m s0 t)
    (k : 0x10000800800004 &&& m = 0x10000800800004 := by decide) : Ev m s0 (State.sysAnswer t to_ st tid data) := by
  refine Ev.comp h ?_ k
  clear h k
  unfold State.sysAnswer
  try dsimp only
  repeat' first
    | (with_reducible first
        | exact Ev.refl _ _ | intro _ | refine Ev.ite ?_ ?_ | refine State.nakTx_ev ?_ | refine State.originate_ev ?_)
    | dsimp only | split

theorem State.rxRecord_ev {m : Nat} {s0 t u : State} {r : List Word} (hu : State.rxRecord t r = some u) (h : Ev m s0 t)
    (k : 0x10000800800000 &&& m = 0x10000800800000 := by decide) : Ev m s0 u := by
  refine Ev.comp h ?_ k
  clear h k
  unfold State.rxRecord at hu
  split at hu
  · simp only [Option.some.injEq] at hu
    subst hu
    exact State.ringEvt_ev (Ev.modRing (Ev.refl _ _) fun x => ⟨x.1, by simp only [List.length_append]; omega⟩)
  · contradiction

theorem State.rxGetD_ev {m : Nat} {s0 t : State} {r : List Word} (h : Ev m s0 t) (k : 0x10000800800000 &&& m = 0x10000800800000 := by decide) :
    Ev m s0 ((State.rxRecord t r).getD t) := by
  cases hq : State.rxRecord t r with
  | none => exact h
  | some u => exact State.rxRecord_ev hq h k

theorem State.preSysReq_ev {m : Nat} {s0 t : State} {fcs : Bool} {f : List Byte} (h : Ev m s0 t)
    (k : 0x10000800800104 &&& m = 0x10000800800104 := by decide) : Ev m s0 (State.preSysReq t fcs f) := by
  refine Ev.comp h ?_ k
  clear h k
  unfold State.preSysReq
  try dsimp only
  repeat' first
    | (with_reducible first
        | exact Ev.refl _ _ | intro _ | refine Ev.ite ?_ ?_ | refine State.sysAnswer_ev ?_ | refine Ev.modSys ?_
        | refine Ev.setWire ?_)
    | dsimp only | split

theorem State.sysReq_ev {m : Nat} {s0 t : State} {onB : Bool} {fcs : Bool} {f : List Byte} {ok : Nat → Bool} {act : State → State} (h : Ev m s0 t) (hact : ∀ v, Ev m v (act v))
    (k : 0x10000800804104 &&& m = 0x10000800804104 := by decide) : Ev m s0 (State.sysReq t onB fcs f ok act) := by
  unfold State.sysReq
  try dsimp only
  repeat' first
    | (with_reducible first
        | exact Ev.refl _ _ | exact h | refine Ev.trans ?_ (hact _ ) | exact h | refine Ev.trans ?_ (hact _ ) | intro _
        | refine Ev.ite ?_ ?_ | refine State.preSysReq_ev ?_ (sub_trans (by decide) k)
        | refine State.ringTake_ev ?_ ?_ (sub_trans (by decide) k) | refine State.sysAnswer_ev ?_ (sub_trans (by decide) k))
    | dsimp only | split

theorem State.localNak_ev {m : Nat} {s0 t : State} {code : Nat} {tid : Nat} {odst : Nat} (h : Ev m s0 t)
    (k : 0x10000800800000 &&& m = 0x10000800800000 := by decide) : Ev m s0 (State.localNak t code tid odst) := by
  refine Ev.comp h ?_ k
  clear h k
  unfold State.localNak
  try dsimp only
  repeat' first
    | (with_reducible first
        | exact Ev.refl _ _ | intro _ | refine Ev.ite ?_ ?_ | refine State.rxGetD_ev ?_ | refine State.nakRx_ev ?_
        | refine State.rxRecord_ev ?_)
    | dsimp only | split

theorem State.txEntry_ev {m : Nat} {s0 t : State} {w0 : Nat} {w1 : Nat} {data : List Byte} (h : Ev m s0 t)
    (k : 0x10000800800004 &&& m = 0x10000800800004 := by decide) : Ev m s0 (State.txEntry t w0 w1 data) := by
  refine Ev.comp h ?_ k
  clear h k
  unfold State.txEntry
  try dsimp only
  repeat' first
    | (with_reducible first
        | exact Ev.refl _ _ | intro _ | refine Ev.ite ?_ ?_ | refine State.localNak_ev ?_ | refine State.originate_ev ?_
        | refine State.sysAnswer_ev ?_ | refine Ev.modRing ?_)
    | dsimp only | split

theorem txDrain_ev {m : Nat} {s0 t : State} {x0 : Nat} (h : Ev m s0 t)
    (k : 0x10000800800004 &&& m = 0x10000800800004 := by decide) : Ev m s0 (txDrain x0 t) := by
  refine Ev.comp h ?_ k
  clear h k
  induction x0 generalizing t 
  all_goals unfold txDrain
  · exact Ev.refl _ _
  rename_i ih
  try dsimp only
  repeat' first
    | (with_reducible first
        | exact Ev.refl _ _ | refine Ev.trans ?_ ih | refine Ev.trans ?_ ih | intro _ | refine Ev.ite ?_ ?_
        | refine Ev.modRing ?_ (fun x => ⟨?_, x.2⟩) | refine State.localNak_ev ?_ | refine State.txEntry_ev ?_
        | refine Ev.modRing ?_)
    | (rename_i hq _ x; have x := x.1; rw [hq] at x; exact Nat.le_trans (Nat.le_succ_of_le (Nat.le_succ _)) x) | (rename_i x; have x := x.1; simp_all only [List.length_cons, List.length_drop]; omega) | dsimp only | split

theorem State.txPush_ev {m : Nat} {s0 t : State} {w : Word} (h : Ev m s0 t)
    (k : 0x10000800800004 &&& m = 0x10000800800004 := by decide) : Ev m s0 (State.txPush t w) := by
  refine Ev.comp h ?_ k
  clear h k
  unfold State.txPush
  try dsimp only
  repeat' first
    | (with_reducible first
        | exact Ev.refl _ _ | intro _ | refine Ev.ite ?_ ?_ | refine Ev.modRing ?_ (fun x => ⟨?_, x.2⟩) | refine txDrain_ev ?_
        | refine Ev.modRing ?_)
    | (simp only [List.length_append, List.length_singleton]; omega) | dsimp only | split

theorem State.ringPop_ev {m : Nat} {s0 t : State}  (h : Ev m s0 t)
    (k : 0x800000 &&& m = 0x800000 := by decide) : Ev m s0 (State.ringPop t).2 := by
  refine Ev.comp h ?_ k
  clear h k
  unfold State.ringPop
  try dsimp only
  repeat' first
    | (with_reducible first
        | exact Ev.refl _ _ | intro _ | refine Ev.ite ?_ ?_ | refine Ev.modRing ?_ (fun x => ⟨x.1, ?_⟩) | refine Ev.modRing ?_)
    | (rename_i hq; have x := x.2; rw [hq] at x; exact Nat.le_of_succ_le x) | dsimp only | split

end Sys2Proof.Machine
end

