-- ==== Sys2Proof/Laws/KeepsCopy.lean ====
section
/-! SUPPORT. What the operations of Machine/Copy.lean keep. -/

set_option linter.all false
set_option Elab.async false

namespace Sys2Proof.Machine

theorem State.pairJudge_ev {m : Nat} {s0 t : State}  (h : Ev m s0 t)
    (k : 0x40000000000c000 &&& m = 0x40000000000c000 := by decide) : Ev m s0 (State.pairJudge t) := by
  refine Ev.comp h ?_ k
  clear h k
  unfold State.pairJudge
  try dsimp only
  repeat' first
    | (with_reducible first
        | exact Ev.refl _ _ | intro _ | refine Ev.ite ?_ ?_ | refine Ev.emcy ?_ | refine Ev.modCp ?_
        | refine Ev.put ?_ 26 (by decide))
    | dsimp only | split

theorem State.copyPart_ev {m : Nat} {s0 t u : State} {n : Nat} {p : CopyPart} (hu : State.copyPart t n = some (p, u)) (h : Ev m s0 t)
    (k : 0x400000000008000 &&& m = 0x400000000008000 := by decide) : Ev m s0 u := by
  refine Ev.comp h ?_ k
  clear h k
  unfold State.copyPart at hu
  repeat' split at hu
  all_goals first
    | contradiction
    | (simp only [Option.some.injEq, Prod.mk.injEq] at hu
       rw [← hu.2]
       first | exact Ev.refl _ _ | exact Ev.bump (Ev.modCp (Ev.refl _ _)) 26 (by decide))

theorem State.copyDrift_ev {m : Nat} {s0 t : State} {old : List (Nat × Nat)} {e : Nat × Nat} (h : Ev m s0 t)
    (k : 0x40000000000c000 &&& m = 0x40000000000c000 := by decide) : Ev m s0 (State.copyDrift t old e) := by
  refine Ev.comp h ?_ k
  clear h k
  unfold State.copyDrift
  try dsimp only
  repeat' first
    | (with_reducible first
        | exact Ev.refl _ _ | intro _ | refine Ev.ite ?_ ?_ | refine Ev.emcy ?_ | refine Ev.modCp ?_
        | refine Ev.put ?_ 26 (by decide))
    | dsimp only | split

theorem State.tryCommit_ev {m : Nat} {s0 t : State}  (h : Ev m s0 t)
    (k : 0x40000080000c000 &&& m = 0x40000080000c000 := by decide) : Ev m s0 (State.tryCommit t) := by
  refine Ev.comp h ?_ k
  clear h k
  unfold State.tryCommit
  try dsimp only
  repeat' first
    | (with_reducible first
        | exact Ev.refl _ _ | intro _ | refine Ev.ite ?_ ?_ | refine State.copyDrift_ev ?_ | refine State.cpEvt_ev ?_
        | refine State.pairJudge_ev ?_ | refine Ev.modCp ?_ | refine Ev.put ?_ 26 (by decide)
        | refine Ev.wrapUp ?_ 26 (by decide) | refine Ev.foldl ?_ _ ?_)
    | dsimp only | split

theorem State.copyRx_ev {m : Nat} {s0 t : State} {onB : Bool} {fcs : Bool} {f : List Byte} {ty : Nat} {g : CopyPart → CopyPart} (h : Ev m s0 t)
    (k : 0x41000080080c004 &&& m = 0x41000080080c004 := by decide) : Ev m s0 (State.copyRx t onB fcs f ty g) := by
  refine Ev.comp h ?_ k
  clear h k
  unfold State.copyRx
  try dsimp only
  repeat' first
    | (with_reducible first
        | exact Ev.refl _ _ | intro _ | refine Ev.ite ?_ ?_ | refine State.copyPart_ev ?_ | refine State.ringTake_ev ?_ ?_
        | refine State.tryCommit_ev ?_ | refine Ev.modCp ?_)
    | (rename_i hq; refine State.copyPart_ev hq ?_) | dsimp only | split

theorem State.lampsFromImage_ev {m : Nat} {s0 t : State}  (h : Ev m s0 t)
    (k : 0x502000b0011cf00 &&& m = 0x502000b0011cf00 := by decide) : Ev m s0 (State.lampsFromImage t) := by
  refine Ev.comp h ?_ k
  clear h k
  unfold State.lampsFromImage
  try dsimp only
  repeat' first
    | (with_reducible first
        | exact Ev.refl _ _ | intro _ | refine Ev.ite ?_ ?_ | refine State.lampDarken_ev ?_ | refine Ev.forFin ?_ ?_)
    | dsimp only | split

theorem State.takeover_ev {m : Nat} {s0 t : State}  (h : Ev m s0 t)
    (k : 0x500000000108000 &&& m = 0x500000000108000 := by decide) : Ev m s0 (State.takeover t) := by
  refine Ev.comp h ?_ k
  clear h k
  unfold State.takeover
  try dsimp only
  repeat' first
    | (with_reducible first
        | exact Ev.refl _ _ | intro _ | refine Ev.ite ?_ ?_ | refine State.brakeCmd_ev ?_ | refine Ev.bump ?_ 26 (by decide)
        | refine Ev.modCp ?_ | refine Ev.put ?_ 26 (by decide) | refine Ev.forFin ?_ ?_ | refine Ev.foldl ?_ _ ?_)
    | dsimp only | split

theorem State.applyRef_ev {m : Nat} {s0 t : State} {e : Nat × Nat} (h : Ev m s0 t)
    (k : 0xffffffff00000000 &&& m = 0xffffffff00000000 := by decide) : Ev m s0 (State.applyRef t e) := by
  refine Ev.comp h ?_ k
  clear h k
  unfold State.applyRef
  try dsimp only
  repeat' first
    | (with_reducible first
        | exact Ev.refl _ _ | intro _ | refine Ev.ite ?_ ?_ | refine Ev.putA ?_ | refine Ev.sputA ?_)
    | dsimp only | split

theorem State.applyGroup_ev {m : Nat} {s0 t : State} {b : List Byte} (h : Ev m s0 t)
    (k : 0x410000000800000 &&& m = 0x410000000800000 := by decide) : Ev m s0 (State.applyGroup t b) := by
  refine Ev.comp h ?_ k
  clear h k
  unfold State.applyGroup
  try dsimp only
  repeat' first
    | (with_reducible first
        | exact Ev.refl _ _ | intro _ | refine Ev.ite ?_ ?_ | refine State.modGrp_ev ?_ | refine State.modMem_ev ?_
        | refine Ev.put ?_ 20 (by simp only [ GRP_DEM, GRP_DEM_V, GRP_G, GRP_G_V, GRP_STAT, GRP_STAT_LEADER, GRP_STAT_PSEQ]; omega)
        | refine Ev.put ?_ 26 (by decide) | refine Ev.foldl ?_ _ ?_)
    | dsimp only | split

theorem State.applyImage_ev {m : Nat} {s0 t : State}  (h : Ev m s0 t)
    (k : 0xffffffff00800000 &&& m = 0xffffffff00800000 := by decide) : Ev m s0 (State.applyImage t) := by
  refine Ev.comp h ?_ k
  clear h k
  unfold State.applyImage
  try dsimp only
  repeat' first
    | (with_reducible first
        | exact Ev.refl _ _ | intro _ | refine Ev.ite ?_ ?_ | refine State.applyGroup_ev ?_ | refine State.applyRef_ev ?_
        | refine State.modMem_ev ?_ | refine Ev.put ?_ 17 (by simp only [ AX_MODESEL, AX_MODESEL_MODESEL]; omega)
        | refine Ev.forFin ?_ ?_ | refine Ev.foldl ?_ _ ?_)
    | dsimp only | split

theorem State.conflict_ev {m : Nat} {s0 t : State} {kind : Nat} (h : Ev m s0 t)
    (k : 0x400000800004000 &&& m = 0x400000800004000 := by decide) : Ev m s0 (State.conflict t kind) := by
  refine Ev.comp h ?_ k
  clear h k
  unfold State.conflict
  try dsimp only
  repeat' first
    | (with_reducible first
        | exact Ev.refl _ _ | intro _ | refine Ev.ite ?_ ?_ | refine State.cpEvt_ev ?_ | refine Ev.bump ?_ 26 (by decide)
        | refine Ev.emcy ?_ | refine Ev.put ?_ 26 (by decide))
    | dsimp only | split

theorem State.usrFlip_ev {m : Nat} {s0 t : State}  (h : Ev m s0 t)
    (k : 0x400000000000000 &&& m = 0x400000000000000 := by decide) : Ev m s0 (State.usrFlip t) := by
  refine Ev.comp h ?_ k
  clear h k
  unfold State.usrFlip
  try dsimp only
  repeat' first
    | (with_reducible first
        | exact Ev.refl _ _ | intro _ | refine Ev.ite ?_ ?_ | refine Ev.wrapUp ?_ 26 (by decide))
    | dsimp only | split

theorem State.copyClr_ev {m : Nat} {s0 t : State}  (h : Ev m s0 t)
    (k : 0x400000000000000 &&& m = 0x400000000000000 := by decide) : Ev m s0 (State.copyClr t) := by
  refine Ev.comp h ?_ k
  clear h k
  unfold State.copyClr
  try dsimp only
  repeat' first
    | (with_reducible first
        | exact Ev.refl _ _ | intro _ | refine Ev.ite ?_ ?_ | refine Ev.setReg ?_ 26 (by decide))
    | dsimp only | split

theorem State.writeCpCtrl_ev {m : Nat} {s0 t : State} {v : Nat} (h : Ev m s0 t)
    (k : 0x400000000008000 &&& m = 0x400000000008000 := by decide) : Ev m s0 (State.writeCpCtrl t v) := by
  refine Ev.comp h ?_ k
  clear h k
  unfold State.writeCpCtrl
  try dsimp only
  repeat' first
    | (with_reducible first
        | exact Ev.refl _ _ | intro _ | refine Ev.ite ?_ ?_ | refine State.copyClr_ev ?_ | refine State.handoverAsk_ev ?_
        | refine State.usrFlip_ev ?_)
    | dsimp only | split

end Sys2Proof.Machine
end

