-- ==== Sys2Proof/Laws/KeepsMem.lean ====
section
/-! SUPPORT. What the operations of Machine/Mem.lean keep. -/

set_option linter.all false
set_option Elab.async false

namespace Sys2Proof.Machine

theorem State.setByte_ev {m : Nat} {s0 t : State} {a : Nat} {b : Byte} (h : Ev m s0 t)
    (k : 0x40 &&& m = 0x40 := by decide) : Ev m s0 (State.setByte t a b) := by
  refine Ev.comp h ?_ k
  clear h k
  unfold State.setByte
  try dsimp only
  repeat' first
    | (with_reducible first
        | exact Ev.refl _ _ | intro _ | refine Ev.ite ?_ ?_
        | refine Ev.mem ?_ (fun x => sparseWf_set (d := memDefault) _ _ x.mem) | refine Ev.mem ?_)
    | dsimp only | split

theorem State.setBytes_ev {m : Nat} {s0 t : State} {x0 : Nat} {x1 : List Byte} (h : Ev m s0 t)
    (k : 0x40 &&& m = 0x40 := by decide) : Ev m s0 (State.setBytes x0 x1 t) := by
  refine Ev.comp h ?_ k
  clear h k
  induction x1 generalizing t x0
  all_goals unfold State.setBytes
  · exact Ev.refl _ _
  rename_i ih
  try dsimp only
  repeat' first
    | (with_reducible first
        | exact Ev.refl _ _ | refine Ev.trans ?_ ih | refine Ev.trans ?_ ih | intro _ | refine Ev.ite ?_ ?_
        | refine State.setByte_ev ?_)
    | dsimp only | split

theorem State.dropBytes_ev {m : Nat} {s0 t : State} {a : Nat} {n : Nat} (h : Ev m s0 t)
    (k : 0x40 &&& m = 0x40 := by decide) : Ev m s0 (State.dropBytes t a n) := by
  refine Ev.comp h ?_ k
  clear h k
  unfold State.dropBytes
  try dsimp only
  repeat' first
    | (with_reducible first
        | exact Ev.refl _ _ | intro _ | refine Ev.ite ?_ ?_ | refine Ev.mem ?_ (fun x => sparseWf_filter _ x.mem)
        | refine Ev.mem ?_)
    | dsimp only | split

theorem State.dropErrs_ev {m : Nat} {s0 t : State} {a : Nat} {n : Nat} (h : Ev m s0 t)
    (k : 0x80 &&& m = 0x80 := by decide) : Ev m s0 (State.dropErrs t a n) := by
  refine Ev.comp h ?_ k
  clear h k
  unfold State.dropErrs
  try dsimp only
  repeat' first
    | (with_reducible first
        | exact Ev.refl _ _ | intro _ | refine Ev.ite ?_ ?_ | refine Ev.memErr ?_ (fun x => sparseWf_filter _ x.memErr))
    | dsimp only | split

theorem State.dropRam_ev {m : Nat} {s0 t : State}  (h : Ev m s0 t)
    (k : 0x40 &&& m = 0x40 := by decide) : Ev m s0 (State.dropRam t) := by
  refine Ev.comp h ?_ k
  clear h k
  unfold State.dropRam
  try dsimp only
  repeat' first
    | (with_reducible first
        | exact Ev.refl _ _ | intro _ | refine Ev.ite ?_ ?_ | refine Ev.mem ?_ (fun x => sparseWf_filter _ x.mem)
        | refine Ev.mem ?_)
    | dsimp only | split

theorem State.setErr_ev {m : Nat} {s0 t : State} {a : Nat} {e : Nat} (h : Ev m s0 t)
    (k : 0x80 &&& m = 0x80 := by decide) : Ev m s0 (State.setErr t a e) := by
  refine Ev.comp h ?_ k
  clear h k
  unfold State.setErr
  try dsimp only
  repeat' first
    | (with_reducible first
        | exact Ev.refl _ _ | intro _ | refine Ev.ite ?_ ?_
        | refine Ev.memErr ?_ (fun x => sparseWf_set (d := fun _ => 0) _ _ x.memErr) | refine Ev.memErr ?_)
    | dsimp only | split

theorem State.noErrs_ev {m : Nat} {s0 t : State}  (h : Ev m s0 t)
    (k : 0x80 &&& m = 0x80 := by decide) : Ev m s0 (State.noErrs t) := by
  refine Ev.comp h ?_ k
  clear h k
  unfold State.noErrs
  try dsimp only
  repeat' first
    | (with_reducible first
        | exact Ev.refl _ _ | intro _ | refine Ev.ite ?_ ?_ | refine Ev.memErr ?_ (fun _ => rfl) | refine Ev.memErr ?_)
    | dsimp only | split

theorem State.memErrRecord_ev {m : Nat} {s0 t : State} {m' : Nat} {a : Nat} {unc : Bool} (h : Ev m s0 t)
    (k : 0xc00000002 &&& m = 0xc00000002 := by decide) : Ev m s0 (State.memErrRecord t m' a unc) := by
  refine Ev.comp h ?_ k
  clear h k
  unfold State.memErrRecord
  try dsimp only
  repeat' first
    | (with_reducible first
        | exact Ev.refl _ _ | intro _ | refine Ev.ite ?_ ?_ | refine Ev.bump ?_ 2 (by decide) | refine Ev.put ?_ 2 (by decide)
        | refine Ev.setFreeCtr ?_ | refine Ev.strobe ?_)
    | dsimp only | split

theorem State.memRead_ev {m : Nat} {s0 t : State} {m' : Nat} {a : Nat} {n : Nat} (h : Ev m s0 t)
    (k : 0xc00000082 &&& m = 0xc00000082 := by decide) : Ev m s0 (State.memRead t m' a n).2 := by
  refine Ev.comp h ?_ k
  clear h k
  unfold State.memRead
  try dsimp only
  repeat' first
    | (with_reducible first
        | exact Ev.refl _ _ | intro _ | refine Ev.ite ?_ ?_ | refine State.memErrRecord_ev ?_ | refine State.setErr_ev ?_)
    | dsimp only | split

theorem State.breakRes_ev {m : Nat} {s0 t : State} {c : Option (Fin 4)} {a : Nat} (h : Ev m s0 t)
    (k : 0x1000000 &&& m = 0x1000000 := by decide) : Ev m s0 (State.breakRes t c a) := by
  refine Ev.comp h ?_ k
  clear h k
  unfold State.breakRes
  try dsimp only
  repeat' first
    | (with_reducible first
        | exact Ev.refl _ _ | intro _ | refine Ev.ite ?_ ?_ | refine Ev.modPr ?_)
    | dsimp only | split

theorem State.memWrite_ev {m : Nat} {s0 t : State} {m' : Nat} {c : Option (Fin 4)} {a : Nat} {n : Nat} {v : Nat} (h : Ev m s0 t)
    (k : 0xc010000c2 &&& m = 0xc010000c2 := by decide) : Ev m s0 (State.memWrite t m' c a n v).2 := by
  refine Ev.comp h ?_ k
  clear h k
  unfold State.memWrite
  try dsimp only
  repeat' first
    | (with_reducible first
        | exact Ev.refl _ _ | intro _ | refine Ev.ite ?_ ?_ | refine State.breakRes_ev ?_ | refine State.memRead_ev ?_
        | refine State.setBytes_ev ?_ | refine State.setErr_ev ?_ | refine Ev.put ?_ 2 (by decide))
    | dsimp only | split

end Sys2Proof.Machine
end

