-- ==== Sys2Proof/Laws/KeepsTenants.lean ====
section
/-! SUPPORT. What the operations of Machine/Tenants.lean keep. -/

set_option linter.all false
set_option Elab.async false

namespace Sys2Proof.Machine

theorem State.modCan_ev {m : Nat} {s0 t : State} {ch : Fin 2} {f : CanCh → CanCh} (h : Ev m s0 t)
    (hf : t.srv.can[ch].rxQ.length ≤ 512 → (f t.srv.can[ch]).rxQ.length ≤ 512 := by with_unfolding_all exact fun x => x)
    (k : 0x4000 &&& m = 0x4000 := by decide) : Ev m s0 (State.modCan t ch f) := by
  refine Ev.modSrv h (fun x => ⟨x.objs, x.emcy, x.hist, fun c => ?_⟩) (bit_of k (by decide))
  dsimp only
  rw [upd_get]
  split
  · exact hf (x.rx ch)
  · exact x.rx c

theorem State.canSend_ev {m : Nat} {s0 t : State} {ch : Fin 2} {id : Nat} {data : List Byte} (h : Ev m s0 t)
    (k : 0x20000000000004 &&& m = 0x20000000000004 := by decide) : Ev m s0 (State.canSend t ch id data) := by
  refine Ev.comp h ?_ k
  clear h k
  unfold State.canSend
  try dsimp only
  repeat' first
    | (with_reducible first
        | exact Ev.refl _ _ | intro _ | refine Ev.ite ?_ ?_ | refine Ev.send ?_
        | refine Ev.wrapUp ?_ 21 (by simp only [ CAN_CFG, CAN_CFG_FD, CAN_CNT, CAN_CNT_TXOK]; omega))
    | dsimp only | split

theorem State.sdoAbort_ev {m : Nat} {s0 t : State} {ch : Fin 2} {idx : Nat} {sub : Nat} {code : Nat} (h : Ev m s0 t)
    (k : 0x20000000000004 &&& m = 0x20000000000004 := by decide) : Ev m s0 (State.sdoAbort t ch idx sub code) := by
  refine Ev.comp h ?_ k
  clear h k
  unfold State.sdoAbort
  try dsimp only
  repeat' first
    | (with_reducible first
        | exact Ev.refl _ _ | intro _ | refine Ev.ite ?_ ?_ | refine State.canSend_ev ?_)
    | dsimp only | split

theorem State.abandoned_ev {m : Nat} {s0 t : State}  (h : Ev m s0 t)
    (k : 0x100000000 &&& m = 0x100000000 := by decide) : Ev m s0 (State.abandoned t) := by
  refine Ev.comp h ?_ k
  clear h k
  unfold State.abandoned
  try dsimp only
  repeat' first
    | (with_reducible first
        | exact Ev.refl _ _ | intro _ | refine Ev.ite ?_ ?_ | refine Ev.bump ?_ 0 (by decide))
    | dsimp only | split

theorem State.sdoClear_ev {m : Nat} {s0 t : State} {ch : Fin 2} (h : Ev m s0 t)
    (k : 0x4000 &&& m = 0x4000 := by decide) : Ev m s0 (State.sdoClear t ch) := by
  refine Ev.comp h ?_ k
  clear h k
  unfold State.sdoClear
  try dsimp only
  repeat' first
    | (with_reducible first
        | exact Ev.refl _ _
        | intro _
        | refine Ev.ite ?_ ?_
        | refine Ev.modSrv ?_)
    | dsimp only | split

theorem State.sdoAbandon_ev {m : Nat} {s0 t : State} {ch : Fin 2} (h : Ev m s0 t)
    (k : 0x20000100004004 &&& m = 0x20000100004004 := by decide) : Ev m s0 (State.sdoAbandon t ch) := by
  refine Ev.comp h ?_ k
  clear h k
  unfold State.sdoAbandon
  try dsimp only
  repeat' first
    | (with_reducible first
        | exact Ev.refl _ _
        | intro _
        | refine Ev.ite ?_ ?_
        | refine State.abandoned_ev ?_
        | refine State.sdoAbort_ev ?_
        | refine State.sdoClear_ev ?_)
    | dsimp only | split

theorem State.dropSdoReplies_ev {m : Nat} {s0 t : State} {ch : Fin 2} (h : Ev m s0 t)
    (k : 0x100004000 &&& m = 0x100004000 := by decide) : Ev m s0 (State.dropSdoReplies t ch) := by
  refine Ev.comp h ?_ k
  clear h k
  unfold State.dropSdoReplies
  try dsimp only
  repeat' first
    | (with_reducible first
        | exact Ev.refl _ _
        | intro _
        | refine Ev.ite ?_ ?_
        | refine Ev.bumpBy ?_ 0 (by first | decide | (simp only [ ABND_CNT, ABND_CNT_DROP]; omega))
        | refine State.modCan_ev ?_)
    | dsimp only | split

theorem takeResps_length (n : Nat) (l : List Word) : (takeResps n l).2.length ≤ l.length := by
  induction n, l using takeResps.induct with
  | case1 n w0 w1 rest k hk => simp only [takeResps]; rw [if_pos (show rest.length < _ from hk)]
  | case2 n w0 w1 rest k hk hw ih =>
    simp only [takeResps]; rw [if_neg (show ¬ rest.length < _ from hk), if_pos hw]
    simp only [k, List.length_drop, List.length_cons] at *; omega
  | case3 n w0 w1 rest k hk hw ih =>
    simp only [takeResps]; rw [if_neg (show ¬ rest.length < _ from hk), if_neg hw]
    simp only [k, List.length_drop, List.length_cons, List.length_append, List.length_take] at *; omega
  | case4 => simp_all [takeResps]

theorem State.dropRingReplies_ev {m : Nat} {s0 t : State} (h : Ev m s0 t)
    (k : 0x100800000 &&& m = 0x100800000 := by decide) : Ev m s0 (State.dropRingReplies t) := by
  refine Ev.comp h ?_ k
  clear h k
  unfold State.dropRingReplies
  refine Ev.bumpBy ?_ 0 (by first | decide | (simp only [ ABND_CNT, ABND_CNT_DROP]; omega))
  exact Ev.modRing (Ev.refl _ _) fun x => ⟨Nat.le_trans (takeResps_length _ _) x.1, x.2⟩

theorem State.ringAbandon_ev {m : Nat} {s0 t : State}  (h : Ev m s0 t)
    (k : 0x10000900800004 &&& m = 0x10000900800004 := by decide) : Ev m s0 (State.ringAbandon t) := by
  refine Ev.comp h ?_ k
  clear h k
  unfold State.ringAbandon
  try dsimp only
  repeat' first
    | (with_reducible first
        | exact Ev.refl _ _ | intro _ | refine Ev.ite ?_ ?_ | refine State.abandoned_ev ?_ | refine State.sysAnswer_ev ?_
        | refine Ev.modRing ?_ | refine Ev.foldl ?_ _ ?_)
    | dsimp only | split

theorem State.modDma_ev {m : Nat} {s0 t : State} {c : Fin 32} {f : DmaCh → DmaCh} (h : Ev m s0 t)
    (k : 0x1000000 &&& m = 0x1000000 := by decide) : Ev m s0 (State.modDma t c f) := by
  refine Ev.comp h ?_ k
  clear h k
  unfold State.modDma
  try dsimp only
  repeat' first
    | (with_reducible first
        | exact Ev.refl _ _ | intro _ | refine Ev.ite ?_ ?_ | refine Ev.modPr ?_)
    | dsimp only | split

theorem State.dmaResume_ev {m : Nat} {s0 t : State} {c : Fin 32} (h : Ev m s0 t)
    (k : 0x1000000000 &&& m = 0x1000000000 := by decide) : Ev m s0 (State.dmaResume t c) := by
  refine Ev.comp h ?_ k
  clear h k
  unfold State.dmaResume
  try dsimp only
  repeat' first
    | (with_reducible first
        | exact Ev.refl _ _ | intro _ | refine Ev.ite ?_ ?_
        | refine Ev.setReg ?_ 4 (by simp only [ DMA_RES_CNT, DMA_RES_CTRL, DMA_RES_DESC, DMA_RES_DST, DMA_RES_SRC]; omega))
    | dsimp only | split

theorem State.dmaStop_ev {m : Nat} {s0 t : State} {c : Fin 32} {code : Nat} (h : Ev m s0 t)
    (k : 0x1001000000 &&& m = 0x1001000000 := by decide) : Ev m s0 (State.dmaStop t c code) := by
  refine Ev.comp h ?_ k
  clear h k
  unfold State.dmaStop
  try dsimp only
  repeat' first
    | (with_reducible first
        | exact Ev.refl _ _
        | intro _
        | refine Ev.ite ?_ ?_
        | refine Ev.modPr ?_
        | refine Ev.put ?_ 4 (by first | decide | (simp only [ DMA_FLAGS, DMA_FLAGS_STOP, DMA_STAT, DMA_STAT_CODE, DMA_STAT_STATE]; omega))
        | refine State.dmaResume_ev ?_)
    | dsimp only | split

theorem State.dmaAbandon_ev {m : Nat} {s0 t : State} {c : Fin 32} (h : Ev m s0 t)
    (k : 0x1101000000 &&& m = 0x1101000000 := by decide) : Ev m s0 (State.dmaAbandon t c) := by
  refine Ev.comp h ?_ k
  clear h k
  unfold State.dmaAbandon
  try dsimp only
  repeat' first
    | (with_reducible first
        | exact Ev.refl _ _
        | intro _
        | refine Ev.ite ?_ ?_
        | refine Ev.mark ?_
        | refine Ev.modPr ?_
        | refine Ev.put ?_ 4 (by first | decide | (simp only [ DMA_FAULT_INFO, DMA_FAULT_INFO_PRIOR, DMA_FLAGS, DMA_FLAGS_STOP, DMA_STAT, DMA_STAT_CODE, DMA_STAT_STATE]; omega))
        | refine State.abandoned_ev ?_
        | refine State.dmaStop_ev ?_)
    | dsimp only | split

theorem State.dmaAbandonOf_ev {m : Nat} {s0 t : State} {t' : Nat} (h : Ev m s0 t)
    (k : 0x1101000000 &&& m = 0x1101000000 := by decide) : Ev m s0 (State.dmaAbandonOf t t') := by
  refine Ev.comp h ?_ k
  clear h k
  unfold State.dmaAbandonOf
  try dsimp only
  repeat' first
    | (with_reducible first
        | exact Ev.refl _ _ | intro _ | refine Ev.ite ?_ ?_ | refine State.dmaAbandon_ev ?_ | refine Ev.forFin ?_ ?_)
    | dsimp only | split

theorem State.setPset_ev {m : Nat} {s0 t : State} {g : PGroup} {a : Fin 8} {v : Pset} (h : Ev m s0 t)
    (k : 0xe0000 &&& m = 0xe0000 := by decide) : Ev m s0 (State.setPset t g a v) := by
  refine Ev.comp h ?_ k
  clear h k
  unfold State.setPset
  try dsimp only
  repeat' first
    | (with_reducible first
        | exact Ev.refl _ _ | intro _ | refine Ev.ite ?_ ?_ | refine Ev.setGain ?_ | refine Ev.setRoute ?_
        | refine Ev.setTension ?_)
    | dsimp only | split

theorem State.psetReload_ev {m : Nat} {s0 t : State} {g : PGroup} {a : Fin 8} (h : Ev m s0 t)
    (k : 0xffffffff000e0000 &&& m = 0xffffffff000e0000 := by decide) : Ev m s0 (State.psetReload t g a) := by
  refine Ev.comp h ?_ k
  clear h k
  unfold State.psetReload
  try dsimp only
  repeat' first
    | (with_reducible first
        | exact Ev.refl _ _ | intro _ | refine Ev.ite ?_ ?_ | refine State.setPset_ev ?_ | refine Ev.putA ?_)
    | dsimp only | split

theorem State.psetDrop_ev {m : Nat} {s0 t : State} {t' : Nat} (h : Ev m s0 t)
    (k : 0xffffffff000e0000 &&& m = 0xffffffff000e0000 := by decide) : Ev m s0 (State.psetDrop t t') := by
  refine Ev.comp h ?_ k
  clear h k
  unfold State.psetDrop
  try dsimp only
  repeat' first
    | (with_reducible first
        | exact Ev.refl _ _ | intro _ | refine Ev.ite ?_ ?_ | refine State.psetReload_ev ?_ | refine Ev.forFin ?_ ?_
        | refine Ev.foldl ?_ _ ?_)
    | dsimp only | split

theorem State.txAbort_ev {m : Nat} {s0 t : State}  (h : Ev m s0 t)
    (k : 0x4000000 &&& m = 0x4000000 := by decide) : Ev m s0 (State.txAbort t) := by
  refine Ev.comp h ?_ k
  clear h k
  unfold State.txAbort
  try dsimp only
  repeat' first
    | (with_reducible first
        | exact Ev.refl _ _ | intro _ | refine Ev.ite ?_ ?_ | refine Ev.modStore ?_)
    | dsimp only | split

theorem State.modCore_ev {m : Nat} {s0 t : State} {c : Fin 4} {f : CoreSt → CoreSt} (h : Ev m s0 t)
    (k : 0x1000000 &&& m = 0x1000000 := by decide) : Ev m s0 (State.modCore t c f) := by
  refine Ev.comp h ?_ k
  clear h k
  unfold State.modCore
  try dsimp only
  repeat' first
    | (with_reducible first
        | exact Ev.refl _ _ | intro _ | refine Ev.ite ?_ ?_ | refine Ev.modPr ?_)
    | dsimp only | split

theorem State.modBank_ev {m : Nat} {s0 t : State} {t' : Fin 8} {f : Bank → Bank} (h : Ev m s0 t)
    (k : 0x1000000 &&& m = 0x1000000 := by decide) : Ev m s0 (State.modBank t t' f) := by
  refine Ev.comp h ?_ k
  clear h k
  unfold State.modBank
  try dsimp only
  repeat' first
    | (with_reducible first
        | exact Ev.refl _ _ | intro _ | refine Ev.ite ?_ ?_ | refine Ev.modPr ?_)
    | dsimp only | split

theorem State.settle_ev {m : Nat} {s0 t : State} {c : Fin 4} (h : Ev m s0 t)
    (k : 0x1000000 &&& m = 0x1000000 := by decide) : Ev m s0 (State.settle t c) := by
  refine Ev.comp h ?_ k
  clear h k
  unfold State.settle
  try dsimp only
  repeat' first
    | (with_reducible first
        | exact Ev.refl _ _ | intro _ | refine Ev.ite ?_ ?_ | refine State.modCore_ev ?_)
    | dsimp only | split

theorem State.rotate_ev {m : Nat} {s0 t : State} {c : Fin 4} (h : Ev m s0 t)
    (k : 0x1000000 &&& m = 0x1000000 := by decide) : Ev m s0 (State.rotate t c) := by
  refine Ev.comp h ?_ k
  clear h k
  unfold State.rotate
  try dsimp only
  repeat' first
    | (with_reducible first
        | exact Ev.refl _ _ | intro _ | refine Ev.ite ?_ ?_ | refine State.modCore_ev ?_ | refine State.settle_ev ?_)
    | dsimp only | split

theorem State.entryClears_ev {m : Nat} {s0 t : State} {e : Nat} (h : Ev m s0 t)
    (k : 0xffffffff00000000 &&& m = 0xffffffff00000000 := by decide) : Ev m s0 (State.entryClears t e) := by
  refine Ev.comp h ?_ k
  clear h k
  unfold State.entryClears
  try dsimp only
  repeat' first
    | (with_reducible first
        | exact Ev.refl _ _
        | intro _
        | refine Ev.ite ?_ ?_
        | refine Ev.putA ?_)
    | dsimp only | split

theorem State.takeEvent_ev {m : Nat} {s0 t : State} {c : Fin 4} {e : Nat} (h : Ev m s0 t)
    (k : 0xffffffff01002000 &&& m = 0xffffffff01002000 := by decide) : Ev m s0 (State.takeEvent t c e) := by
  refine Ev.comp h ?_ k
  clear h k
  unfold State.takeEvent
  try dsimp only
  repeat' first
    | (with_reducible first
        | exact Ev.refl _ _
        | intro _
        | refine Ev.ite ?_ ?_
        | refine Ev.putA ?_
        | refine Ev.setWaiting ?_
        | refine State.entryClears_ev ?_
        | refine State.modBank_ev ?_
        | refine State.modCore_ev ?_
        | refine State.settle_ev ?_)
    | dsimp only | split

theorem State.dropEntries_ev {m : Nat} {s0 t : State} {t' : Fin 8} (h : Ev m s0 t)
    (k : 0xffffffff01000000 &&& m = 0xffffffff01000000 := by decide) : Ev m s0 (State.dropEntries t t') := by
  refine Ev.comp h ?_ k
  clear h k
  unfold State.dropEntries
  try dsimp only
  repeat' first
    | (with_reducible first
        | exact Ev.refl _ _ | intro _ | refine Ev.ite ?_ ?_ | refine State.modCore_ev ?_ | refine Ev.putA ?_
        | refine Ev.forFin ?_ ?_ | refine Ev.foldl ?_ _ ?_)
    | dsimp only | split

theorem State.dropPending_ev {m : Nat} {s0 t : State} {t' : Fin 8} (h : Ev m s0 t)
    (k : 0xffffffff00000000 &&& m = 0xffffffff00000000 := by decide) : Ev m s0 (State.dropPending t t') := by
  refine Ev.comp h ?_ k
  clear h k
  unfold State.dropPending
  try dsimp only
  repeat' first
    | (with_reducible first
        | exact Ev.refl _ _ | intro _ | refine Ev.ite ?_ ?_ | refine State.abandoned_ev ?_ | refine Ev.putA ?_
        | refine Ev.foldl ?_ _ ?_)
    | dsimp only | split

theorem State.dropSelects_ev {m : Nat} {s0 t : State} {t' : Nat} {got : List (List Bool)} (h : Ev m s0 t)
    (k : 0x103000a0011cf02 &&& m = 0x103000a0011cf02 := by decide) : Ev m s0 (State.dropSelects t t' got) := by
  refine Ev.comp h ?_ k
  clear h k
  unfold State.dropSelects
  try dsimp only
  repeat' first
    | (with_reducible first
        | exact Ev.refl _ _ | intro _ | refine Ev.ite ?_ ?_ | refine Ev.modPort ?_ (fun _ h => ⟨h.rx, Nat.zero_le _⟩)
        | refine State.cutFlight_ev ?_ | refine Ev.modPort ?_ (by with_unfolding_all exact fun _ h => ⟨h.rx, h.ten⟩)
        | refine Ev.forFin ?_ ?_)
    | dsimp only | split

theorem State.dropRequests_ev {m : Nat} {s0 t : State} {t' : Nat} (h : Ev m s0 t)
    (k : 0x30000900804004 &&& m = 0x30000900804004 := by decide) : Ev m s0 (State.dropRequests t t') := by
  refine Ev.comp h ?_ k
  clear h k
  unfold State.dropRequests
  try dsimp only
  repeat' first
    | (with_reducible first
        | exact Ev.refl _ _
        | intro _
        | refine Ev.ite ?_ ?_
        | refine State.dropRingReplies_ev ?_
        | refine State.dropSdoReplies_ev ?_
        | refine State.ringAbandon_ev ?_
        | refine State.sdoAbandon_ev ?_)
    | dsimp only | split

theorem State.tenantReset_ev {m : Nat} {s0 t : State} {t' : Fin 8} {got : List (List Bool)} {restart : Bool} (h : Ev m s0 t)
    (k : 0xffffffff059fef06 &&& m = 0xffffffff059fef06 := by decide) : Ev m s0 (State.tenantReset t t' got restart) := by
  refine Ev.comp h ?_ k
  clear h k
  unfold State.tenantReset
  try dsimp only
  repeat' first
    | (with_reducible first
        | exact Ev.refl _ _
        | intro _
        | refine Ev.ite ?_ ?_
        | refine Ev.mark ?_
        | refine Ev.put ?_ 2 (by first | decide | (simp only [ TWU_KILL, TWU_KILL_STOPPED]; omega))
        | refine Ev.setWaiting ?_
        | refine State.dmaAbandonOf_ev ?_
        | refine State.dropEntries_ev ?_
        | refine State.dropPending_ev ?_
        | refine State.dropRequests_ev ?_
        | refine State.dropSelects_ev ?_
        | refine State.modBank_ev ?_
        | refine State.psetDrop_ev ?_
        | refine State.settle_ev ?_
        | refine State.txAbort_ev ?_)
    | dsimp only | split

theorem State.contain_ev {m : Nat} {s0 t : State} {t' : Fin 8} (h : Ev m s0 t)
    (k : 0xffffffff059fef06 &&& m = 0xffffffff059fef06 := by decide) : Ev m s0 (State.contain t t') := by
  refine Ev.comp h ?_ k
  clear h k
  unfold State.contain
  try dsimp only
  repeat' first
    | (with_reducible first
        | exact Ev.refl _ _ | intro _ | refine Ev.ite ?_ ?_ | refine State.modCore_ev ?_ | refine State.tenantReset_ev ?_
        | refine Ev.bump ?_ 2 (by decide) | refine Ev.emcy ?_ | refine Ev.modPr ?_ | refine Ev.put ?_ 2 (by decide)
        | refine Ev.putOr ?_ 2 (by decide) | refine Ev.strobe ?_)
    | dsimp only | split

theorem State.trap_ev {m : Nat} {s0 t : State} {c : Fin 4} {cause : Word} {tval : Word} (h : Ev m s0 t)
    (k : 0xffffffff059fef06 &&& m = 0xffffffff059fef06 := by decide) : Ev m s0 (State.trap t c cause tval) := by
  refine Ev.comp h ?_ k
  clear h k
  unfold State.trap
  try dsimp only
  repeat' first
    | (with_reducible first
        | exact Ev.refl _ _ | intro _ | refine Ev.ite ?_ ?_ | refine State.contain_ev ?_ | refine State.modBank_ev ?_
        | refine State.modCore_ev ?_)
    | dsimp only | split

theorem State.misaligned_ev {m : Nat} {s0 t : State} {c : Fin 4} {k' : Acc} {a : Nat} (h : Ev m s0 t)
    (k : 0xffffffff059fef06 &&& m = 0xffffffff059fef06 := by decide) : Ev m s0 (State.misaligned t c k' a) := by
  refine Ev.comp h ?_ k
  clear h k
  unfold State.misaligned
  try dsimp only
  repeat' first
    | (with_reducible first
        | exact Ev.refl _ _ | intro _ | refine Ev.ite ?_ ?_ | refine State.contain_ev ?_ | refine State.trap_ev ?_)
    | dsimp only | split

theorem State.accessFault_ev {m : Nat} {s0 t : State} {c : Fin 4} {k' : Acc} {a : Nat} {n : Nat} {reason : Nat} {win : Nat} (h : Ev m s0 t)
    (k : 0xffffffff059fef06 &&& m = 0xffffffff059fef06 := by decide) : Ev m s0 (State.accessFault t c k' a n reason win) := by
  refine Ev.comp h ?_ k
  clear h k
  unfold State.accessFault
  try dsimp only
  repeat' first
    | (with_reducible first
        | exact Ev.refl _ _ | intro _ | refine Ev.ite ?_ ?_ | refine State.contain_ev ?_ | refine State.modBank_ev ?_
        | refine State.trap_ev ?_)
    | dsimp only | split

end Sys2Proof.Machine
end

