-- ==== Sys2Proof/Laws/KeepsStore.lean ====
section
/-! SUPPORT. What the operations of Machine/Store.lean keep. -/

set_option linter.all false
set_option Elab.async false

namespace Sys2Proof.Machine

theorem State.logPut_ev {m : Nat} {s0 t : State} {b : List Byte} (h : Ev m s0 t)
    (k : 0x4000040 &&& m = 0x4000040 := by decide) : Ev m s0 (State.logPut t b).2 := by
  refine Ev.comp h ?_ k
  clear h k
  unfold State.logPut
  try dsimp only
  repeat' first
    | (with_reducible first
        | exact Ev.refl _ _ | intro _ | refine Ev.ite ?_ ?_ | refine State.setBytes_ev ?_ | refine Ev.modStore ?_)
    | dsimp only | split

theorem State.appendRec_ev {m : Nat} {s0 t : State} {typ : Nat} {num : Nat} {layout : Nat} {tseq : Nat} {data : List Byte} (h : Ev m s0 t)
    (k : 0x4000040 &&& m = 0x4000040 := by decide) : Ev m s0 (State.appendRec t typ num layout tseq data) := by
  refine Ev.comp h ?_ k
  clear h k
  unfold State.appendRec
  try dsimp only
  repeat' first
    | (with_reducible first
        | exact Ev.refl _ _ | intro _ | refine Ev.ite ?_ ?_ | refine State.logPut_ev ?_ | refine Ev.modStore ?_)
    | dsimp only | split

theorem State.setBankWord_ev {m : Nat} {s0 t : State} {b : Nat} {slot : Nat} {v : Nat} (h : Ev m s0 t)
    (k : 0x40 &&& m = 0x40 := by decide) : Ev m s0 (State.setBankWord t b slot v) := by
  refine Ev.comp h ?_ k
  clear h k
  unfold State.setBankWord
  try dsimp only
  repeat' first
    | (with_reducible first
        | exact Ev.refl _ _ | intro _ | refine Ev.ite ?_ ?_ | refine State.setBytes_ev ?_)
    | dsimp only | split

theorem State.setMarker_ev {m : Nat} {s0 t : State} {b : Nat} {slot : Nat} (h : Ev m s0 t)
    (k : 0x40 &&& m = 0x40 := by decide) : Ev m s0 (State.setMarker t b slot) := by
  refine Ev.comp h ?_ k
  clear h k
  unfold State.setMarker
  try dsimp only
  repeat' first
    | (with_reducible first
        | exact Ev.refl _ _ | intro _ | refine Ev.ite ?_ ?_ | refine State.setBankWord_ev ?_)
    | dsimp only | split

theorem State.failBank_ev {m : Nat} {s0 t : State} {b : Nat} {reason : Nat} (h : Ev m s0 t)
    (k : 0x4000040 &&& m = 0x4000040 := by decide) : Ev m s0 (State.failBank t b reason) := by
  refine Ev.comp h ?_ k
  clear h k
  unfold State.failBank
  try dsimp only
  repeat' first
    | (with_reducible first
        | exact Ev.refl _ _ | intro _ | refine Ev.ite ?_ ?_ | refine State.setBankWord_ev ?_ | refine State.setMarker_ev ?_
        | refine Ev.modStore ?_)
    | dsimp only | split

theorem State.tryBank_ev {m : Nat} {s0 t : State} {b : Nat} (h : Ev m s0 t)
    (k : 0x4000040 &&& m = 0x4000040 := by decide) : Ev m s0 (State.tryBank t b).2 := by
  refine Ev.comp h ?_ k
  clear h k
  unfold State.tryBank
  try dsimp only
  repeat' first
    | (with_reducible first
        | exact Ev.refl _ _ | intro _ | refine Ev.ite ?_ ?_ | refine State.failBank_ev ?_ | refine State.setMarker_ev ?_)
    | dsimp only | split

theorem chooseBank_ev {m : Nat} {s0 t : State} {x0 : Nat} (h : Ev m s0 t)
    (k : 0x4000040 &&& m = 0x4000040 := by decide) : Ev m s0 (chooseBank x0 t).2 := by
  refine Ev.comp h ?_ k
  clear h k
  induction x0 generalizing t with
  | zero => rw [chooseBank]; exact Ev.refl _ _
  | succ n ih =>
    rw [chooseBank]
    cases t.nextBank with
    | none => exact Ev.refl _ _
    | some b =>
      have hb : Ev 0x4000040 t (t.tryBank b).2 := State.tryBank_ev (Ev.refl _ _)
      dsimp only
      generalize t.tryBank b = r at hb ⊢
      obtain ⟨c, u⟩ := r
      cases c
      · exact hb.trans ih
      · exact hb

theorem State.storeErr_ev {m : Nat} {s0 t : State} {e : Nat} (h : Ev m s0 t)
    (k : 0x200000800000000 &&& m = 0x200000800000000 := by decide) : Ev m s0 (State.storeErr t e) := by
  refine Ev.comp h ?_ k
  clear h k
  unfold State.storeErr
  try dsimp only
  repeat' first
    | (with_reducible first
        | exact Ev.refl _ _ | intro _ | refine Ev.ite ?_ ?_ | refine Ev.put ?_ 25 (by decide)
        | refine Ev.raise ?_ 25 (by decide))
    | dsimp only | split

theorem State.storeCmd_ev {m : Nat} {s0 t : State} {ten : Nat} {op : Nat} (h : Ev m s0 t)
    (k : 0x200000804000000 &&& m = 0x200000804000000 := by decide) : Ev m s0 (State.storeCmd t ten op) := by
  refine Ev.comp h ?_ k
  clear h k
  unfold State.storeCmd
  try dsimp only
  repeat' first
    | (with_reducible first
        | exact Ev.refl _ _ | intro _ | refine Ev.ite ?_ ?_ | refine State.storeErr_ev ?_ | refine Ev.modStore ?_
        | refine Ev.put ?_ 25 (by first | decide | (simp only [ STORE_ARG, STORE_STAT, STORE_STAT_LASTERR]; omega)))
    | dsimp only | split

theorem State.txCommit_ev {m : Nat} {s0 t : State}  (h : Ev m s0 t)
    (k : 0x4000040 &&& m = 0x4000040 := by decide) : Ev m s0 (State.txCommit t) := by
  refine Ev.comp h ?_ k
  clear h k
  unfold State.txCommit
  try dsimp only
  repeat' first
    | (with_reducible first
        | exact Ev.refl _ _ | intro _ | refine Ev.ite ?_ ?_ | refine State.logPut_ev ?_ | refine Ev.modStore ?_)
    | dsimp only | split

theorem State.eraseTo_ev {m : Nat} {s0 t : State} {k' : Nat} (h : Ev m s0 t)
    (k : 0x4000040 &&& m = 0x4000040 := by decide) : Ev m s0 (State.eraseTo t k') := by
  refine Ev.comp h ?_ k
  clear h k
  unfold State.eraseTo
  try dsimp only
  repeat' first
    | (with_reducible first
        | exact Ev.refl _ _ | intro _ | refine Ev.ite ?_ ?_ | refine State.dropBytes_ev ?_ | refine Ev.modStore ?_)
    | dsimp only | split

theorem State.clearBankwr_ev {m : Nat} {s0 t : State}  (h : Ev m s0 t)
    (k : 0x4000000 &&& m = 0x4000000 := by decide) : Ev m s0 (State.clearBankwr t) := by
  refine Ev.comp h ?_ k
  clear h k
  unfold State.clearBankwr
  try dsimp only
  repeat' first
    | (with_reducible first
        | exact Ev.refl _ _ | intro _ | refine Ev.ite ?_ ?_ | refine Ev.modStore ?_)
    | dsimp only | split

theorem State.verifyBank_ev {m : Nat} {s0 t : State}  (h : Ev m s0 t)
    (k : 0x200000004000040 &&& m = 0x200000004000040 := by decide) : Ev m s0 (State.verifyBank t) := by
  refine Ev.comp h ?_ k
  clear h k
  unfold State.verifyBank
  try dsimp only
  repeat' first
    | (with_reducible first
        | exact Ev.refl _ _ | intro _ | refine Ev.ite ?_ ?_ | refine State.clearBankwr_ev ?_ | refine State.setBankWord_ev ?_
        | refine State.setMarker_ev ?_ | refine Ev.put ?_ 25 (by decide))
    | dsimp only | split

theorem State.progBank_ev {m : Nat} {s0 t : State} {a : Nat} {data : List Byte} (h : Ev m s0 t)
    (k : 0x4000040 &&& m = 0x4000040 := by decide) : Ev m s0 (State.progBank t a data) := by
  refine Ev.comp h ?_ k
  clear h k
  unfold State.progBank
  try dsimp only
  repeat' first
    | (with_reducible first
        | exact Ev.refl _ _ | intro _ | refine Ev.ite ?_ ?_ | refine State.eraseTo_ev ?_ | refine State.setBytes_ev ?_)
    | dsimp only | split

theorem State.storeDo_ev {m : Nat} {s0 t : State} {c : StoreCmd} (h : Ev m s0 t)
    (k : 0x200000004000040 &&& m = 0x200000004000040 := by decide) : Ev m s0 (State.storeDo t c) := by
  refine Ev.comp h ?_ k
  clear h k
  unfold State.storeDo
  try dsimp only
  repeat' first
    | (with_reducible first
        | exact Ev.refl _ _ | intro _ | refine Ev.ite ?_ ?_ | refine State.appendRec_ev ?_ | refine State.clearBankwr_ev ?_
        | refine State.eraseTo_ev ?_ | refine State.failBank_ev ?_ | refine State.progBank_ev ?_
        | refine State.setBankWord_ev ?_ | refine State.setMarker_ev ?_ | refine State.txAbort_ev ?_
        | refine State.txCommit_ev ?_ | refine State.verifyBank_ev ?_ | refine Ev.put ?_ 25 (by decide)
        | refine Ev.setReg ?_ 25 (by decide))
    | dsimp only | split

theorem State.eraseEnd_ev {m : Nat} {s0 t : State}  (h : Ev m s0 t)
    (k : 0x4000040 &&& m = 0x4000040 := by decide) : Ev m s0 (State.eraseEnd t) := by
  refine Ev.comp h ?_ k
  clear h k
  unfold State.eraseEnd
  try dsimp only
  repeat' first
    | (with_reducible first
        | exact Ev.refl _ _ | intro _ | refine Ev.ite ?_ ?_ | refine State.eraseTo_ev ?_ | refine Ev.modStore ?_)
    | dsimp only | split

theorem State.wearCheck_ev {m : Nat} {s0 t : State}  (h : Ev m s0 t)
    (k : 0x4004000 &&& m = 0x4004000 := by decide) : Ev m s0 (State.wearCheck t) := by
  refine Ev.comp h ?_ k
  clear h k
  unfold State.wearCheck
  try dsimp only
  repeat' first
    | (with_reducible first
        | exact Ev.refl _ _ | intro _ | refine Ev.ite ?_ ?_ | refine Ev.emcy ?_ | refine Ev.modStore ?_)
    | dsimp only | split

theorem State.eraseSector_ev {m : Nat} {s0 t : State} {k' : Nat} (h : Ev m s0 t)
    (k : 0x4000040 &&& m = 0x4000040 := by decide) : Ev m s0 (State.eraseSector t k') := by
  refine Ev.comp h ?_ k
  clear h k
  unfold State.eraseSector
  try dsimp only
  repeat' first
    | (with_reducible first
        | exact Ev.refl _ _ | intro _ | refine Ev.ite ?_ ?_ | refine State.dropBytes_ev ?_ | refine Ev.modStore ?_)
    | dsimp only | split

theorem State.moveRec_ev {m : Nat} {s0 t : State} {r : StoreRec} (h : Ev m s0 t)
    (k : 0x4000040 &&& m = 0x4000040 := by decide) : Ev m s0 (State.moveRec t r) := by
  refine Ev.comp h ?_ k
  clear h k
  unfold State.moveRec
  try dsimp only
  repeat' first
    | (with_reducible first
        | exact Ev.refl _ _ | intro _ | refine Ev.ite ?_ ?_ | refine State.logPut_ev ?_ | refine Ev.modStore ?_)
    | dsimp only | split

end Sys2Proof.Machine
end

