-- ==== Sys2Proof/Laws/KeepsTagOps.lean ====
section
/-! SUPPORT. What the operations of Machine/TagOps.lean keep. -/

set_option linter.all false
set_option Elab.async false

namespace Sys2Proof.Machine

theorem State.setTagBlock_ev {m : Nat} {s0 t : State} {k' : Nat} {v : Word} (h : Ev m s0 t)
    (k : 0x8000000 &&& m = 0x8000000 := by decide) : Ev m s0 (State.setTagBlock t k' v) := by
  refine Ev.comp h ?_ k
  clear h k
  unfold State.setTagBlock
  try dsimp only
  repeat' first
    | (with_reducible first
        | exact Ev.refl _ _ | intro _ | refine Ev.ite ?_ ?_
        | refine Ev.modTag ?_ (fun x => sparseWf_set (d := fun _ => 0) _ _ x) | refine Ev.modTag ?_)
    | dsimp only | split

theorem State.tagDo_ev {m : Nat} {s0 t : State} {k' : Nat} {w : Option Word} (h : Ev m s0 t)
    (k : 0x80000008000000 &&& m = 0x80000008000000 := by decide) : Ev m s0 (State.tagDo t k' w) := by
  refine Ev.comp h ?_ k
  clear h k
  unfold State.tagDo
  try dsimp only
  repeat' first
    | (with_reducible first
        | exact Ev.refl _ _ | intro _ | refine Ev.ite ?_ ?_ | refine State.setTagBlock_ev ?_ | refine Ev.put ?_ 23 (by decide)
        | refine Ev.setReg ?_ 23 (by decide))
    | dsimp only | split

theorem State.tagAccess_ev {m : Nat} {s0 t : State} {k' : Nat} {w : Option Word} (h : Ev m s0 t)
    (k : 0x80000808000000 &&& m = 0x80000808000000 := by decide) : Ev m s0 (State.tagAccess t k' w) := by
  refine Ev.comp h ?_ k
  clear h k
  unfold State.tagAccess
  try dsimp only
  repeat' first
    | (with_reducible first
        | exact Ev.refl _ _ | intro _ | refine Ev.ite ?_ ?_ | refine State.tagDo_ev ?_ | refine Ev.bump ?_ 23 (by decide)
        | refine Ev.modTag ?_ | refine Ev.put ?_ 23 (by decide) | refine Ev.raise ?_ 23 (by decide))
    | dsimp only | split

theorem State.writeTagCtrl_ev {m : Nat} {s0 t : State} {v : Nat} (h : Ev m s0 t)
    (k : 0x80000808000000 &&& m = 0x80000808000000 := by decide) : Ev m s0 (State.writeTagCtrl t v) := by
  refine Ev.comp h ?_ k
  clear h k
  unfold State.writeTagCtrl
  try dsimp only
  repeat' first
    | (with_reducible first
        | exact Ev.refl _ _ | intro _ | refine Ev.ite ?_ ?_ | refine State.tagAccess_ev ?_ | refine Ev.put ?_ 23 (by decide))
    | dsimp only | split

theorem State.tagClrCnt_ev {m : Nat} {s0 t : State}  (h : Ev m s0 t)
    (k : 0x80000000000000 &&& m = 0x80000000000000 := by decide) : Ev m s0 (State.tagClrCnt t) := by
  refine Ev.comp h ?_ k
  clear h k
  unfold State.tagClrCnt
  try dsimp only
  repeat' first
    | (with_reducible first
        | exact Ev.refl _ _ | intro _ | refine Ev.ite ?_ ?_ | refine Ev.setReg ?_ 23 (by decide))
    | dsimp only | split

theorem State.tagClrRfw_ev {m : Nat} {s0 t : State}  (h : Ev m s0 t)
    (k : 0x8000000 &&& m = 0x8000000 := by decide) : Ev m s0 (State.tagClrRfw t) := by
  refine Ev.comp h ?_ k
  clear h k
  unfold State.tagClrRfw
  try dsimp only
  repeat' first
    | (with_reducible first
        | exact Ev.refl _ _ | intro _ | refine Ev.ite ?_ ?_ | refine Ev.modTag ?_)
    | dsimp only | split

theorem State.rfTo_ev {m : Nat} {s0 t : State} {v : Nat} (h : Ev m s0 t)
    (k : 0x80000808000000 &&& m = 0x80000808000000 := by decide) : Ev m s0 (State.rfTo t v) := by
  refine Ev.comp h ?_ k
  clear h k
  unfold State.rfTo
  try dsimp only
  repeat' first
    | (with_reducible first
        | exact Ev.refl _ _ | intro _ | refine Ev.ite ?_ ?_ | refine Ev.modTag ?_ | refine Ev.raise ?_ 23 (by decide))
    | dsimp only | split

theorem State.rfOut_ev {m : Nat} {s0 t : State} {d : List Byte} (h : Ev m s0 t)
    (k : 0x4 &&& m = 0x4 := by decide) : Ev m s0 (State.rfOut t d) := by
  refine Ev.comp h ?_ k
  clear h k
  unfold State.rfOut
  try dsimp only
  repeat' first
    | (with_reducible first
        | exact Ev.refl _ _ | intro _ | refine Ev.ite ?_ ?_ | refine Ev.send ?_)
    | dsimp only | split

theorem State.rfErr_ev {m : Nat} {s0 t : State} {e : Nat} (h : Ev m s0 t)
    (k : 0x4 &&& m = 0x4 := by decide) : Ev m s0 (State.rfErr t e) := by
  refine Ev.comp h ?_ k
  clear h k
  unfold State.rfErr
  try dsimp only
  repeat' first
    | (with_reducible first
        | exact Ev.refl _ _ | intro _ | refine Ev.ite ?_ ?_ | refine State.rfOut_ev ?_)
    | dsimp only | split

theorem State.rfReq_ev {m : Nat} {s0 t : State} {mode : Nat} {f : State → State} (h : Ev m s0 t) (hf : ∀ v, Ev m v (f v))
    (k : 0x80000808000000 &&& m = 0x80000808000000 := by decide) : Ev m s0 (State.rfReq t mode f) := by
  unfold State.rfReq
  try dsimp only
  repeat' first
    | (with_reducible first
        | exact Ev.refl _ _ | exact h | refine Ev.trans ?_ (hf _ ) | exact h | refine Ev.trans ?_ (hf _ ) | intro _
        | refine Ev.ite ?_ ?_ | refine State.rfTo_ev ?_ (sub_trans (by decide) k))
    | dsimp only | split

theorem State.rfChange_ev {m : Nat} {s0 t : State} {ext : Bool} {k' : Nat} {f : State → State} (h : Ev m s0 t) (hf : ∀ v, Ev m v (f v))
    (k : 0x80000008004004 &&& m = 0x80000008004004 := by decide) : Ev m s0 (State.rfChange t ext k' f) := by
  unfold State.rfChange
  try dsimp only
  repeat' first
    | (with_reducible first
        | exact Ev.refl _ _ | exact h | refine Ev.trans ?_ (hf _ ) | exact h | refine Ev.trans ?_ (hf _ ) | intro _
        | refine Ev.ite ?_ ?_ | refine State.rfErr_ev ?_ (sub_trans (by decide) k)
        | refine State.rfOut_ev ?_ (sub_trans (by decide) k) | refine Ev.bump ?_ 23 (by decide) (bit_of k (by decide))
        | refine Ev.emcy ?_ (bit_of k (by decide))
        | refine Ev.modTag ?_ (by with_unfolding_all exact fun x => x) (bit_of k (by decide)))
    | dsimp only | split

theorem State.optRepair_ev {m : Nat} {s0 t : State}  (h : Ev m s0 t)
    (k : 0x100 &&& m = 0x100 := by decide) : Ev m s0 (State.optRepair t) := by
  refine Ev.comp h ?_ k
  clear h k
  unfold State.optRepair
  try dsimp only
  repeat' first
    | (with_reducible first
        | exact Ev.refl _ _ | intro _ | refine Ev.ite ?_ ?_ | refine Ev.modSys ?_)
    | dsimp only | split

theorem State.optRequest_ev {m : Nat} {s0 t : State}  (h : Ev m s0 t)
    (k : 0x8000100 &&& m = 0x8000100 := by decide) : Ev m s0 (State.optRequest t) := by
  refine Ev.comp h ?_ k
  clear h k
  unfold State.optRequest
  try dsimp only
  repeat' first
    | (with_reducible first
        | exact Ev.refl _ _ | intro _ | refine Ev.ite ?_ ?_ | refine State.setTagBlock_ev ?_ | refine Ev.modSys ?_)
    | dsimp only | split

end Sys2Proof.Machine
end

