-- ==== Sys2Proof/Laws/KeepsReset.lean ====
section
/-! SUPPORT. What the operations of Machine/Reset.lean keep. -/

set_option linter.all false
set_option Elab.async false

namespace Sys2Proof.Machine

theorem State.rstFlag_ev {m : Nat} {s0 t : State} {src : RstSource} (h : Ev m s0 t)
    (k : 0x100000000 &&& m = 0x100000000 := by decide) : Ev m s0 (State.rstFlag t src) := by
  refine Ev.comp h ?_ k
  clear h k
  unfold State.rstFlag
  try dsimp only
  repeat' first
    | (with_reducible first
        | exact Ev.refl _ _ | intro _ | refine Ev.ite ?_ ?_ | refine Ev.putOr ?_ 0 (by decide))
    | dsimp only | split

theorem State.rstHist_ev {m : Nat} {s0 t : State} {src : RstSource} (h : Ev m s0 t)
    (k : 0x100000000 &&& m = 0x100000000 := by decide) : Ev m s0 (State.rstHist t src) := by
  refine Ev.comp h ?_ k
  clear h k
  unfold State.rstHist
  try dsimp only
  repeat' first
    | (with_reducible first
        | exact Ev.refl _ _ | intro _ | refine Ev.ite ?_ ?_ | refine Ev.put ?_ 0 (by decide))
    | dsimp only | split

theorem State.inputLevels_ev {m : Nat} {s0 t : State} {old : State} (h : Ev m s0 t)
    (k : 0x100000000000000 &&& m = 0x100000000000000 := by decide) : Ev m s0 (State.inputLevels t old) := by
  refine Ev.comp h ?_ k
  clear h k
  unfold State.inputLevels
  try dsimp only
  repeat' first
    | (with_reducible first
        | exact Ev.refl _ _ | intro _ | refine Ev.ite ?_ ?_
        | refine Ev.put ?_ 24 (by first | decide | (simp only [ BRK_STAT, BRK_STAT_FB, EMG_LVL, EMG_LVL_EMG, GPI_LVL, GPI_LVL_V]; omega))
        | refine Ev.forFin ?_ ?_)
    | dsimp only | split

theorem State.clearParts_ev {m : Nat} {s0 t : State} {whole : Bool} (h : Ev m s0 t)
    (k : 0xffffffff0fffed31 &&& m = 0xffffffff0fffed31 := by decide) : Ev m s0 (State.clearParts t whole) := by
  refine Ev.comp h ?_ k
  clear h k
  refine ⟨rfl, rfl, rfl, fun x => ?_, fun p hp => ?_⟩
  · refine { x with regs := ?_, hold := rfl, srv := ⟨rfl, Nat.zero_le _, Nat.zero_le _, ?_⟩, capQ := Nat.zero_le _, modCap := Nat.zero_le _, ringTx := Nat.zero_le _, ringRx := Nat.zero_le _, ports := ?_ }
    · show sparseWf resetWord 0 (if whole then [] else _) = true
      split
      · rfl
      · exact sparseWf_filter _ x.regs
    · intro ch; fin_cases ch <;> exact Nat.zero_le _
    · intro p; fin_cases p <;> exact ⟨Nat.zero_le _, Nat.zero_le _⟩
  · cases p <;> first | rfl | exact absurd hp (by decide) | exact absurd hp (by rename_i q; fin_cases q <;> decide)

theorem State.haldReset_ev {m : Nat} {s0 t : State} {whole : Bool} (h : Ev m s0 t)
    (k : 0xffffffff0fffed31 &&& m = 0xffffffff0fffed31 := by decide) : Ev m s0 (State.haldReset t whole) := by
  refine Ev.comp h ?_ k
  clear h k
  unfold State.haldReset
  try dsimp only
  repeat' first
    | (with_reducible first
        | exact Ev.refl _ _ | intro _ | refine Ev.ite ?_ ?_ | refine State.clearParts_ev ?_ | refine State.inputLevels_ev ?_
        | refine State.txAbort_ev ?_ | refine Ev.put ?_ 0 (by decide) | refine Ev.put ?_ 1 (by decide)
        | refine Ev.setReg ?_ 0 (by decide) | refine Ev.setReg ?_ 1 (by decide))
    | dsimp only | split

theorem State.enterReset_ev {m : Nat} {s0 t : State} {src : RstSource} (h : Ev m s0 t)
    (k : 0xffffffff0fffed31 &&& m = 0xffffffff0fffed31 := by decide) : Ev m s0 (State.enterReset t src) := by
  refine Ev.comp h ?_ k
  clear h k
  unfold State.enterReset
  try dsimp only
  repeat' first
    | (with_reducible first
        | exact Ev.refl _ _ | intro _ | refine Ev.ite ?_ ?_ | refine State.haldReset_ev ?_ | refine State.rstHist_ev ?_
        | refine Ev.bump ?_ 0 (by decide) | refine Ev.modSys ?_)
    | dsimp only | split

theorem State.preDisable_ev {m : Nat} {s0 t : State} {a : Fin 8} (h : Ev m s0 t)
    (k : 0x102000800110400 &&& m = 0x102000800110400 := by decide) : Ev m s0 (State.preDisable t a) := by
  refine Ev.comp h ?_ k
  clear h k
  unfold State.preDisable
  try dsimp only
  repeat' first
    | (with_reducible first
        | exact Ev.refl _ _
        | intro _
        | refine Ev.ite ?_ ?_
        | refine Ev.raise ?_ 17 (by first | decide | (simp only [ AX_EVT, axEvt]; omega))
        | refine State.axisTo_ev ?_
        | refine State.haltAxis_ev ?_)
    | dsimp only | split

theorem State.preStart_ev {m : Nat} {s0 t : State}  (h : Ev m s0 t)
    (k : 0x502000b0111cf00 &&& m = 0x502000b0111cf00 := by decide) : Ev m s0 (State.preStart t) := by
  refine Ev.comp h ?_ k
  clear h k
  unfold State.preStart
  try dsimp only
  repeat' first
    | (with_reducible first
        | exact Ev.refl _ _
        | intro _
        | refine Ev.ite ?_ ?_
        | refine Ev.forFin ?_ ?_
        | refine State.claimRelease_ev ?_
        | refine State.haltPort_ev ?_
        | refine State.modCore_ev ?_
        | refine State.preDisable_ev ?_
        | refine State.resetSignal_ev ?_)
    | dsimp only | split

theorem State.holdAnswer_ev {m : Nat} {s0 t : State} {f : State → State} (h : Ev m s0 t) (hf : ∀ v, Ev m v (f v))
    (k : 0x104 &&& m = 0x104 := by decide) : Ev m s0 (State.holdAnswer t f) := by
  unfold State.holdAnswer
  exact Ev.modSys (Ev.setWire (Ev.trans h (hf t)) (bit_of k (by decide))) (k := bit_of k (by decide))

theorem State.preAnswer_ev {m : Nat} {s0 t : State} (h : Ev m s0 t)
    (k : 0x30000900804104 &&& m = 0x30000900804104 := by decide) : Ev m s0 (State.preAnswer t) := by
  refine Ev.comp h ?_ k
  clear h k
  unfold State.preAnswer
  try dsimp only
  repeat' first
    | (with_reducible first
        | exact Ev.refl _ _
        | intro _
        | refine Ev.ite ?_ ?_
        | refine Ev.foldl ?_ _ ?_
        | refine Ev.forFin ?_ ?_
        | refine Ev.modRing ?_
        | refine State.dropRingReplies_ev ?_
        | refine State.dropSdoReplies_ev ?_
        | refine State.holdAnswer_ev ?_ ?_
        | refine State.sdoAbort_ev ?_
        | refine State.sdoClear_ev ?_
        | refine State.sysAnswer_ev ?_)
    | dsimp only | split

theorem State.sysRequest_ev {m : Nat} {s0 t : State} {src : RstSource} {first : List (Bool × List Msg)} (h : Ev m s0 t)
    (k : 0x532001b0191cf04 &&& m = 0x532001b0191cf04 := by decide) : Ev m s0 (State.sysRequest t src first) := by
  refine Ev.comp h ?_ k
  clear h k
  unfold State.sysRequest
  try dsimp only
  repeat' first
    | (with_reducible first
        | exact Ev.refl _ _
        | intro _
        | refine Ev.ite ?_ ?_
        | refine Ev.foldl ?_ _ ?_
        | refine Ev.forFin ?_ ?_
        | refine Ev.modSys ?_
        | refine State.dmaAbandon_ev ?_
        | refine State.preAnswer_ev ?_
        | refine State.preStart_ev ?_
        | refine State.rstFlag_ev ?_)
    | dsimp only | split

theorem State.rstLine_ev {m : Nat} {s0 t : State}  (h : Ev m s0 t)
    (k : 0xffffffff0fffef31 &&& m = 0xffffffff0fffef31 := by decide) : Ev m s0 (State.rstLine t) := by
  refine Ev.comp h ?_ k
  clear h k
  unfold State.rstLine
  try dsimp only
  repeat' first
    | (with_reducible first
        | exact Ev.refl _ _ | intro _ | refine Ev.ite ?_ ?_ | refine State.enterReset_ev ?_ | refine State.preStart_ev ?_
        | refine State.resetSignal_ev ?_ | refine State.rstFlag_ev ?_ | refine Ev.bumpBy ?_ 0 (by decide) | refine Ev.modSys ?_
        | refine Ev.put ?_ 0 (by decide))
    | dsimp only | split

theorem State.writeSysRst_ev {m : Nat} {s0 t : State} {v : Word} (h : Ev m s0 t)
    (k : 0x532001b0191cf04 &&& m = 0x532001b0191cf04 := by decide) : Ev m s0 (State.writeSysRst t v) := by
  refine Ev.comp h ?_ k
  clear h k
  unfold State.writeSysRst
  try dsimp only
  repeat' first
    | (with_reducible first
        | exact Ev.refl _ _ | intro _ | refine Ev.ite ?_ ?_ | refine State.sysRequest_ev ?_)
    | dsimp only | split

theorem State.writeWdtKick_ev {m : Nat} {s0 t : State} {v : Word} (h : Ev m s0 t)
    (k : 0x532001b0191cf04 &&& m = 0x532001b0191cf04 := by decide) : Ev m s0 (State.writeWdtKick t v) := by
  refine Ev.comp h ?_ k
  clear h k
  unfold State.writeWdtKick
  try dsimp only
  repeat' first
    | (with_reducible first
        | exact Ev.refl _ _ | intro _ | refine Ev.ite ?_ ?_ | refine State.sysRequest_ev ?_ | refine Ev.modSys ?_)
    | dsimp only | split

theorem State.coldStart_ev {m : Nat} {s0 t : State} {src : RstSource} {sw : BitVec 8} {lv : BitVec 32} (h : Ev m s0 t)
    (k : 0xffffffff0fffefb1 &&& m = 0xffffffff0fffefb1 := by decide) : Ev m s0 (State.coldStart t src sw lv) := by
  refine Ev.comp h ?_ k
  clear h k
  unfold State.coldStart
  try dsimp only
  repeat' first
    | (with_reducible first
        | exact Ev.refl _ _ | intro _ | refine Ev.ite ?_ ?_ | refine State.haldReset_ev ?_ | refine State.lockout_ev ?_
        | refine State.noErrs_ev ?_ | refine State.rstFlag_ev ?_ | refine Ev.modBg ?_ | refine Ev.modSys ?_
        | refine Ev.put ?_ 0 (by decide))
    | dsimp only | split

theorem State.tryStart_ev {m : Nat} {s0 t : State} {sw : BitVec 8} {lv : BitVec 32} (h : Ev m s0 t)
    (k : 0xffffffff0fffefb1 &&& m = 0xffffffff0fffefb1 := by decide) : Ev m s0 (State.tryStart t sw lv) := by
  refine Ev.comp h ?_ k
  clear h k
  unfold State.tryStart
  try dsimp only
  repeat' first
    | (with_reducible first
        | exact Ev.refl _ _ | intro _ | refine Ev.ite ?_ ?_ | refine State.coldStart_ev ?_ | refine Ev.modBear ?_)
    | dsimp only | split

theorem State.loadOptions_ev {m : Nat} {s0 t : State}  (h : Ev m s0 t)
    (k : 0x100000100 &&& m = 0x100000100 := by decide) : Ev m s0 (State.loadOptions t) := by
  refine Ev.comp h ?_ k
  clear h k
  unfold State.loadOptions
  try dsimp only
  repeat' first
    | (with_reducible first
        | exact Ev.refl _ _ | intro _ | refine Ev.ite ?_ ?_ | refine Ev.modSys ?_ | refine Ev.put ?_ 0 (by decide)
        | refine Ev.setReg ?_ 0 (by decide))
    | dsimp only | split

theorem State.latchRole_ev {m : Nat} {s0 t : State} {c : Vector (BitVec 6) 8} (h : Ev m s0 t)
    (k : 0x100000000 &&& m = 0x100000000 := by decide) : Ev m s0 (State.latchRole t c) := by
  refine Ev.comp h ?_ k
  clear h k
  unfold State.latchRole
  try dsimp only
  repeat' first
    | (with_reducible first
        | exact Ev.refl _ _ | intro _ | refine Ev.ite ?_ ?_ | refine Ev.put ?_ 0 (by decide) | refine Ev.setReg ?_ 0 (by decide))
    | dsimp only | split

theorem State.deriveNode_ev {m : Nat} {s0 t : State}  (h : Ev m s0 t)
    (k : 0x40000100000100 &&& m = 0x40000100000100 := by decide) : Ev m s0 (State.deriveNode t) := by
  refine Ev.comp h ?_ k
  clear h k
  unfold State.deriveNode
  try dsimp only
  repeat' first
    | (with_reducible first
        | exact Ev.refl _ _ | intro _ | refine Ev.ite ?_ ?_ | refine Ev.modSys ?_ | refine Ev.put ?_ 0 (by decide)
        | refine Ev.put ?_ 22 (by simp only [ RPDO_COBID, TPDO_COBID]; omega) | refine Ev.setReg ?_ 0 (by decide)
        | refine Ev.setReg ?_ 22 (by simp only [ RPDO_COBID, TPDO_COBID]; omega) | refine Ev.forN ?_ ?_)
    | dsimp only | split

theorem State.startEmcys_ev {m : Nat} {s0 t : State}  (h : Ev m s0 t)
    (k : 0x2004000 &&& m = 0x2004000 := by decide) : Ev m s0 (State.startEmcys t) := by
  refine Ev.comp h ?_ k
  clear h k
  unfold State.startEmcys
  try dsimp only
  repeat' first
    | (with_reducible first
        | exact Ev.refl _ _ | intro _ | refine Ev.ite ?_ ?_ | refine Ev.emcy ?_ | refine Ev.modBear ?_)
    | dsimp only | split

theorem State.coreRelease_ev {m : Nat} {s0 t : State}  (h : Ev m s0 t)
    (k : 0x10d0041c0 &&& m = 0x10d0041c0 := by decide) : Ev m s0 (State.coreRelease t) := by
  refine Ev.comp h ?_ k
  clear h k
  unfold State.coreRelease
  try dsimp only
  repeat' first
    | (with_reducible first
        | exact Ev.refl _ _
        | intro _
        | refine Ev.ite ?_ ?_
        | refine Ev.emcy ?_
        | refine Ev.foldl ?_ _ ?_
        | refine Ev.modStore ?_
        | refine Ev.modSys ?_
        | refine Ev.put ?_ 0 (by first | decide | (simp only [ BOOT_CTRL, BOOT_CTRL_BANK, BOOT_CTRL_KEY]; omega))
        | refine State.dropBytes_ev ?_
        | refine State.dropErrs_ev ?_
        | refine State.dropRam_ev ?_
        | refine State.modBank_ev ?_
        | refine State.modCore_ev ?_
        | refine State.optRepair_ev ?_
        | refine State.optRequest_ev ?_
        | refine State.settle_ev ?_
        | refine chooseBank_ev ?_)
    | dsimp only | split

theorem State.writeTenRst_ev {m : Nat} {s0 t : State} {v : Word} {got : List (List Bool)} (h : Ev m s0 t)
    (k : 0xffffffff059fef06 &&& m = 0xffffffff059fef06 := by decide) : Ev m s0 (State.writeTenRst t v got) := by
  refine Ev.comp h ?_ k
  clear h k
  unfold State.writeTenRst
  try dsimp only
  repeat' first
    | (with_reducible first
        | exact Ev.refl _ _ | intro _ | refine Ev.ite ?_ ?_ | refine State.tenantReset_ev ?_ | refine Ev.forFin ?_ ?_)
    | dsimp only | split

theorem State.portReset_ev {m : Nat} {s0 t : State} {p : Fin 6} (h : Ev m s0 t)
    (k : 0x1001901000800 &&& m = 0x1001901000800 := by decide) : Ev m s0 (State.portReset t p) := by
  refine Ev.comp h ?_ k
  clear h k
  unfold State.portReset
  try dsimp only
  repeat' first
    | (with_reducible first
        | exact Ev.refl _ _
        | intro _
        | refine Ev.ite ?_ ?_
        | refine Ev.bump ?_ 0 (by first | decide | (simp only [ ABND_CNT, ABND_CNT_DROP, RSTCTL_STAT, RSTCTL_STAT_PORTREF]; omega))
        | refine Ev.forFin ?_ ?_
        | refine Ev.mark ?_
        | refine Ev.modPort ?_ (by with_unfolding_all exact fun _ h => ⟨h.rx, h.ten⟩)
        | refine Ev.putOr ?_ 0 (by first | decide | (simp only [ ABND_CNT, ABND_CNT_DROP, RSTCTL_STAT, RSTCTL_STAT_PORTREF]; omega))
        | refine Ev.strobe ?_
        | refine State.dmaAbandon_ev ?_
        | refine State.haltPort_ev ?_
        | refine State.portClear_ev ?_)
    | dsimp only | split

theorem State.writePortRst_ev {m : Nat} {s0 t : State} {v : Word} (h : Ev m s0 t)
    (k : 0x1001901000800 &&& m = 0x1001901000800 := by decide) : Ev m s0 (State.writePortRst t v) := by
  refine Ev.comp h ?_ k
  clear h k
  unfold State.writePortRst
  try dsimp only
  repeat' first
    | (with_reducible first
        | exact Ev.refl _ _ | intro _ | refine Ev.ite ?_ ?_ | refine State.portReset_ev ?_ | refine Ev.forFin ?_ ?_)
    | dsimp only | split

end Sys2Proof.Machine
end

