-- ==== Sys2Proof/Laws/KeepsBear.lean ====
section
/-! SUPPORT. What the operations of Machine/Bear.lean keep. -/

set_option linter.all false
set_option Elab.async false

namespace Sys2Proof.Machine

theorem State.lampTest_ev {m : Nat} {s0 t : State}  (h : Ev m s0 t)
    (k : 0x2000000 &&& m = 0x2000000 := by decide) : Ev m s0 (State.lampTest t) := by
  refine Ev.comp h ?_ k
  clear h k
  unfold State.lampTest
  try dsimp only
  repeat' first
    | (with_reducible first
        | exact Ev.refl _ _ | intro _ | refine Ev.ite ?_ ?_ | refine Ev.modBear ?_)
    | dsimp only | split

theorem State.feedReport_ev {m : Nat} {s0 t : State} {onB : Bool} {valid : Bool} (h : Ev m s0 t)
    (k : 0x900004000 &&& m = 0x900004000 := by decide) : Ev m s0 (State.feedReport t onB valid) := by
  refine Ev.comp h ?_ k
  clear h k
  unfold State.feedReport
  try dsimp only
  repeat' first
    | (with_reducible first
        | exact Ev.refl _ _ | intro _ | refine Ev.ite ?_ ?_ | refine Ev.bump ?_ 0 (by decide) | refine Ev.emcy ?_
        | refine Ev.put ?_ 0 (by decide) | refine Ev.strobe ?_)
    | dsimp only | split

theorem State.parkRequest_ev {m : Nat} {s0 t : State}  (h : Ev m s0 t)
    (k : 0x103000b0011cf02 &&& m = 0x103000b0011cf02 := by decide) : Ev m s0 (State.parkRequest t).2 := by
  refine Ev.comp h ?_ k
  clear h k
  unfold State.parkRequest
  try dsimp only
  repeat' first
    | (with_reducible first
        | exact Ev.refl _ _ | intro _ | refine Ev.ite ?_ ?_ | refine State.parkJudge_ev ?_ | refine State.parkPort_ev ?_
        | refine Ev.forFin ?_ ?_)
    | dsimp only | split

theorem State.unpark_ev {m : Nat} {s0 t : State}  (h : Ev m s0 t)
    (k : 0x900004000 &&& m = 0x900004000 := by decide) : Ev m s0 (State.unpark t) := by
  refine Ev.comp h ?_ k
  clear h k
  unfold State.unpark
  try dsimp only
  repeat' first
    | (with_reducible first
        | exact Ev.refl _ _ | intro _ | refine Ev.ite ?_ ?_ | refine State.parkTo_ev ?_)
    | dsimp only | split

theorem State.writeBearPark_ev {m : Nat} {s0 t : State} {v : Nat} (h : Ev m s0 t)
    (k : 0x103000b0011cf02 &&& m = 0x103000b0011cf02 := by decide) : Ev m s0 (State.writeBearPark t v) := by
  refine Ev.comp h ?_ k
  clear h k
  unfold State.writeBearPark
  try dsimp only
  repeat' first
    | (with_reducible first
        | exact Ev.refl _ _ | intro _ | refine Ev.ite ?_ ?_ | refine State.parkRequest_ev ?_ | refine State.unpark_ev ?_)
    | dsimp only | split

theorem State.bridgeSend_ev {m : Nat} {s0 t : State} {resp : Bool} {f : List Byte} (h : Ev m s0 t)
    (k : 0x4 &&& m = 0x4 := by decide) : Ev m s0 (State.bridgeSend t resp f) := by
  refine Ev.comp h ?_ k
  clear h k
  unfold State.bridgeSend
  try dsimp only
  repeat' first
    | (with_reducible first
        | exact Ev.refl _ _ | intro _ | refine Ev.ite ?_ ?_ | refine Ev.send ?_)
    | dsimp only | split

theorem State.bridgeLink_ev {m : Nat} {s0 t : State} {up : Bool} (h : Ev m s0 t)
    (k : 0x802004000 &&& m = 0x802004000 := by decide) : Ev m s0 (State.bridgeLink t up) := by
  refine Ev.comp h ?_ k
  clear h k
  unfold State.bridgeLink
  try dsimp only
  repeat' first
    | (with_reducible first
        | exact Ev.refl _ _ | intro _ | refine Ev.ite ?_ ?_ | refine Ev.emcy ?_ | refine Ev.modBear ?_ | refine Ev.strobe ?_)
    | dsimp only | split

theorem State.bridgeHeard_ev {m : Nat} {s0 t : State} {good : Bool} (h : Ev m s0 t)
    (k : 0x802004000 &&& m = 0x802004000 := by decide) : Ev m s0 (State.bridgeHeard t good) := by
  refine Ev.comp h ?_ k
  clear h k
  unfold State.bridgeHeard
  try dsimp only
  repeat' first
    | (with_reducible first
        | exact Ev.refl _ _ | intro _ | refine Ev.ite ?_ ?_ | refine State.bridgeLink_ev ?_ | refine Ev.modBear ?_)
    | dsimp only | split

theorem State.bridgeNext_ev {m : Nat} {s0 t : State}  (h : Ev m s0 t)
    (k : 0x2000004 &&& m = 0x2000004 := by decide) : Ev m s0 (State.bridgeNext t) := by
  refine Ev.comp h ?_ k
  clear h k
  unfold State.bridgeNext
  try dsimp only
  repeat' first
    | (with_reducible first
        | exact Ev.refl _ _ | intro _ | refine Ev.ite ?_ ?_ | refine State.bridgeSend_ev ?_ | refine Ev.modBear ?_)
    | dsimp only | split

theorem State.bridgeNoRoute_ev {m : Nat} {s0 t : State} {p : List Byte} (h : Ev m s0 t)
    (k : 0x10000800800004 &&& m = 0x10000800800004 := by decide) : Ev m s0 (State.bridgeNoRoute t p) := by
  refine Ev.comp h ?_ k
  clear h k
  unfold State.bridgeNoRoute
  try dsimp only
  repeat' first
    | (with_reducible first
        | exact Ev.refl _ _ | intro _ | refine Ev.ite ?_ ?_ | refine State.sysAnswer_ev ?_)
    | dsimp only | split

theorem State.bridgeFail_ev {m : Nat} {s0 t : State}  (h : Ev m s0 t)
    (k : 0x10000902800004 &&& m = 0x10000902800004 := by decide) : Ev m s0 (State.bridgeFail t) := by
  refine Ev.comp h ?_ k
  clear h k
  unfold State.bridgeFail
  try dsimp only
  repeat' first
    | (with_reducible first
        | exact Ev.refl _ _ | intro _ | refine Ev.ite ?_ ?_ | refine State.bridgeNext_ev ?_ | refine State.bridgeNoRoute_ev ?_
        | refine State.bridgeSend_ev ?_ | refine Ev.bump ?_ 0 (by decide) | refine Ev.modBear ?_)
    | dsimp only | split

theorem State.bridged_ev {m : Nat} {s0 t : State} {f : State → State} (h : Ev m s0 t) (hf : ∀ v, Ev m v (f v))
    (k : 0x0 &&& m = 0x0 := by decide) : Ev m s0 (State.bridged t f) := by
  unfold State.bridged
  try dsimp only
  repeat' first
    | (with_reducible first
        | exact Ev.refl _ _ | exact h | refine Ev.trans ?_ (hf _ ) | exact h | refine Ev.trans ?_ (hf _ ) | intro _
        | refine Ev.ite ?_ ?_ | refine Ev.whenUp ?_ ?_)
    | dsimp only | split

end Sys2Proof.Machine
end

