-- ==== Sys2Proof/Laws/KeepsNet.lean ====
section
/-! SUPPORT. What the operations of Machine/Net.lean keep. -/

set_option linter.all false
set_option Elab.async false

namespace Sys2Proof.Machine

theorem State.setObj_ev {m : Nat} {s0 t : State} {idx : Nat} {sub : Nat} {v : Nat} (h : Ev m s0 t)
    (k : 0x4000 &&& m = 0x4000 := by decide) : Ev m s0 (State.setObj t idx sub v) := by
  refine Ev.comp h ?_ k
  clear h k
  unfold State.setObj
  try dsimp only
  repeat' first
    | (with_reducible first
        | exact Ev.refl _ _ | intro _ | refine Ev.ite ?_ ?_
        | refine Ev.modSrv ?_ (fun x => ⟨sparseWf_set (d := objDefault) _ _ x.objs, x.emcy, x.hist, x.rx⟩) | refine Ev.modSrv ?_)
    | dsimp only | split

theorem State.canEvt_ev {m : Nat} {s0 t : State} {ch : Fin 2} {b : Nat} (h : Ev m s0 t)
    (k : 0x20000800000000 &&& m = 0x20000800000000 := by decide) : Ev m s0 (State.canEvt t ch b) := by
  refine Ev.comp h ?_ k
  clear h k
  unfold State.canEvt
  try dsimp only
  repeat' first
    | (with_reducible first
        | exact Ev.refl _ _ | intro _ | refine Ev.ite ?_ ?_ | refine Ev.raise ?_ 21 (by simp only [ CAN_EVT, CAN_EVT_EV]; omega))
    | dsimp only | split

theorem State.canRx_ev {m : Nat} {s0 t : State} {ch : Fin 2} {f : State → State} (h : Ev m s0 t) (hf : ∀ v, Ev m v (f v))
    (k : 0x20000800000000 &&& m = 0x20000800000000 := by decide) : Ev m s0 (State.canRx t ch f) := by
  unfold State.canRx
  try dsimp only
  repeat' first
    | (with_reducible first
        | exact Ev.refl _ _ | exact h | refine Ev.trans ?_ (hf _ ) | exact h | refine Ev.trans ?_ (hf _ ) | intro _
        | refine Ev.ite ?_ ?_ | refine State.canEvt_ev ?_ (sub_trans (by decide) k)
        | refine Ev.wrapUp ?_ 21 (by simp only [ CAN_CNT, CAN_CNT_RXOK]; omega) (bit_of k (by decide)) | refine Ev.whenUp ?_ ?_)
    | dsimp only | split

theorem State.canPut_ev {m : Nat} {s0 t : State} {ch : Fin 2} {id : Nat} {data : List Byte} (h : Ev m s0 t)
    (k : 0x20000800000004 &&& m = 0x20000800000004 := by decide) : Ev m s0 (State.canPut t ch id data) := by
  refine Ev.comp h ?_ k
  clear h k
  unfold State.canPut
  try dsimp only
  repeat' first
    | (with_reducible first
        | exact Ev.refl _ _ | intro _ | refine Ev.ite ?_ ?_ | refine State.canEvt_ev ?_ | refine State.canSend_ev ?_)
    | dsimp only | split

theorem State.canAll_ev {m : Nat} {s0 t : State} {id : Nat} {data : List Byte} (h : Ev m s0 t)
    (k : 0x20000800000004 &&& m = 0x20000800000004 := by decide) : Ev m s0 (State.canAll t id data) := by
  refine Ev.comp h ?_ k
  clear h k
  unfold State.canAll
  try dsimp only
  repeat' first
    | (with_reducible first
        | exact Ev.refl _ _ | intro _ | refine Ev.ite ?_ ?_ | refine State.canPut_ev ?_)
    | dsimp only | split

theorem State.canLost_ev {m : Nat} {s0 t : State} {ch : Fin 2} (h : Ev m s0 t)
    (k : 0x20000800004000 &&& m = 0x20000800004000 := by decide) : Ev m s0 (State.canLost t ch) := by
  refine Ev.comp h ?_ k
  clear h k
  unfold State.canLost
  try dsimp only
  repeat' first
    | (with_reducible first
        | exact Ev.refl _ _ | intro _ | refine Ev.ite ?_ ?_ | refine State.canEvt_ev ?_
        | refine Ev.bump ?_ 21 (by simp only [ CAN_CNT2, CAN_CNT2_LOST]; omega) | refine Ev.emcy ?_)
    | dsimp only | split

theorem canDrain_ev {m : Nat} {s0 t : State} {x0 : Nat} {x1 : Fin 2} (h : Ev m s0 t)
    (k : 0x20000800004004 &&& m = 0x20000800004004 := by decide) : Ev m s0 (canDrain x0 x1 t) := by
  refine Ev.comp h ?_ k
  clear h k
  induction x0 generalizing t 
  all_goals unfold canDrain
  · exact Ev.refl _ _
  rename_i ih
  try dsimp only
  repeat' first
    | (with_reducible first
        | exact Ev.refl _ _ | refine Ev.trans ?_ ih | refine Ev.trans ?_ ih | intro _ | refine Ev.ite ?_ ?_
        | refine State.canPut_ev ?_ | refine State.modCan_ev ?_ | refine Ev.modSrv ?_)
    | dsimp only | split

theorem State.canFlush_ev {m : Nat} {s0 t : State}  (h : Ev m s0 t)
    (k : 0x20000800004004 &&& m = 0x20000800004004 := by decide) : Ev m s0 (State.canFlush t) := by
  refine Ev.comp h ?_ k
  clear h k
  unfold State.canFlush
  try dsimp only
  repeat' first
    | (with_reducible first
        | exact Ev.refl _ _ | intro _ | refine Ev.ite ?_ ?_ | refine canDrain_ev ?_)
    | dsimp only | split

theorem State.canPush_ev {m : Nat} {s0 t : State} {ch : Fin 2} {w : Word} (h : Ev m s0 t)
    (k : 0x20000800004004 &&& m = 0x20000800004004 := by decide) : Ev m s0 (State.canPush t ch w) := by
  refine Ev.comp h ?_ k
  clear h k
  unfold State.canPush
  try dsimp only
  repeat' first
    | (with_reducible first
        | exact Ev.refl _ _ | intro _ | refine Ev.ite ?_ ?_ | refine canDrain_ev ?_ | refine State.canLost_ev ?_
        | refine State.modCan_ev ?_)
    | dsimp only | split

theorem State.canPop_ev {m : Nat} {s0 t : State} {ch : Fin 2} (h : Ev m s0 t)
    (k : 0x4000 &&& m = 0x4000 := by decide) : Ev m s0 (State.canPop t ch).2 := by
  refine Ev.comp h ?_ k
  clear h k
  unfold State.canPop
  try dsimp only
  repeat' first
    | (with_reducible first
        | exact Ev.refl _ _ | intro _ | refine Ev.ite ?_ ?_ | refine State.modCan_ev ?_ (fun x => ?_)
        | refine State.modCan_ev ?_)
    | (rename_i hq; rw [hq] at x; exact Nat.le_of_succ_le x) | dsimp only | split

theorem State.canRecord_ev {m : Nat} {s0 t : State} {ch : Fin 2} {id : Nat} {data : List Byte} (h : Ev m s0 t)
    (k : 0x20000800004000 &&& m = 0x20000800004000 := by decide) : Ev m s0 (State.canRecord t ch id data) := by
  refine Ev.comp h ?_ k
  clear h k
  unfold State.canRecord
  try dsimp only
  repeat' first
    | (with_reducible first
        | exact Ev.refl _ _ | intro _ | refine Ev.ite ?_ ?_ | refine State.modCan_ev ?_ (fun x => ?_)
        | refine State.canLost_ev ?_ | refine State.modCan_ev ?_)
    | (simp only [List.length_append]; omega) | dsimp only | split

theorem State.lossAxis_ev {m : Nat} {s0 t : State} {t' : Nat} {a : Fin 8} (h : Ev m s0 t)
    (k : 0x142000800114c00 &&& m = 0x142000800114c00 := by decide) : Ev m s0 (State.lossAxis t t' a) := by
  refine Ev.comp h ?_ k
  clear h k
  unfold State.lossAxis
  try dsimp only
  repeat' first
    | (with_reducible first
        | exact Ev.refl _ _
        | intro _
        | refine Ev.ite ?_ ?_
        | refine Ev.modAxis ?_
        | refine Ev.putOr ?_ 22 (by first | decide | (simp only [ PDO_LOSS, PDO_LOSS_AX]; omega))
        | refine State.fastHalt_ev ?_
        | refine State.leaveTo_ev ?_
        | refine State.markAct_ev ?_
        | refine State.quickStop_ev ?_
        | refine State.takeFault_ev ?_)
    | dsimp only | split

theorem State.commLoss_ev {m : Nat} {s0 t : State} {t' : Nat} {m' : Nat} (h : Ev m s0 t)
    (k : 0x142000800114c00 &&& m = 0x142000800114c00 := by decide) : Ev m s0 (State.commLoss t t' m') := by
  refine Ev.comp h ?_ k
  clear h k
  unfold State.commLoss
  try dsimp only
  repeat' first
    | (with_reducible first
        | exact Ev.refl _ _ | intro _ | refine Ev.ite ?_ ?_ | refine State.lossAxis_ev ?_ | refine Ev.forFin ?_ ?_)
    | dsimp only | split

theorem State.canCounters_ev {m : Nat} {s0 t : State} {ch : Fin 2} {tec : Nat} {rec : Nat} {errs : Nat} (h : Ev m s0 t)
    (k : 0x20000800000000 &&& m = 0x20000800000000 := by decide) : Ev m s0 (State.canCounters t ch tec rec errs) := by
  refine Ev.comp h ?_ k
  clear h k
  unfold State.canCounters
  try dsimp only
  repeat' first
    | (with_reducible first
        | exact Ev.refl _ _ | intro _ | refine Ev.ite ?_ ?_ | refine State.canEvt_ev ?_
        | refine Ev.bumpBy ?_ 21 (by simp only [ CAN_CNT2, CAN_CNT2_ERRFR, CAN_STAT, CAN_STAT_REC, CAN_STAT_TEC, CAN_STAT_WARN]; omega)
        | refine Ev.put ?_ 21 (by simp only [ CAN_CNT2, CAN_CNT2_ERRFR, CAN_STAT, CAN_STAT_REC, CAN_STAT_TEC, CAN_STAT_WARN]; omega))
    | dsimp only | split

theorem State.pdoEvt_ev {m : Nat} {s0 t : State} {b : Nat} (h : Ev m s0 t)
    (k : 0x40000800000000 &&& m = 0x40000800000000 := by decide) : Ev m s0 (State.pdoEvt t b) := by
  refine Ev.comp h ?_ k
  clear h k
  unfold State.pdoEvt
  try dsimp only
  repeat' first
    | (with_reducible first
        | exact Ev.refl _ _ | intro _ | refine Ev.ite ?_ ?_ | refine Ev.raise ?_ 22 (by decide))
    | dsimp only | split

theorem State.pdoCobWrite_ev {m : Nat} {s0 t : State} {tx : Bool} {n : Fin 16} {v : Nat} (h : Ev m s0 t)
    (k : 0x40000800004000 &&& m = 0x40000800004000 := by decide) : Ev m s0 (State.pdoCobWrite t tx n v).2 := by
  refine Ev.comp h ?_ k
  clear h k
  unfold State.pdoCobWrite
  try dsimp only
  repeat' first
    | (with_reducible first
        | exact Ev.refl _ _ | intro _ | refine Ev.ite ?_ ?_ | refine State.pdoEvt_ev ?_ | refine Ev.modSrv ?_
        | refine Ev.put ?_ 22 (by first | decide | (simp only [ RPDO_COBID, TPDO_COBID, pdoAxes, pdoBase, pdoId, pdoInvalid, pdoLen, pdoMapErr, pdoNent]; (try split) <;> omega)))
    | dsimp only | split

theorem State.applyMap_ev {m : Nat} {s0 t : State} {tx : Bool} {n : Nat} (h : Ev m s0 t)
    (k : 0xffffffff00000000 &&& m = 0xffffffff00000000 := by decide) : Ev m s0 (State.applyMap t tx n) := by
  refine Ev.comp h ?_ k
  clear h k
  unfold State.applyMap
  try dsimp only
  repeat' first
    | (with_reducible first
        | exact Ev.refl _ _ | intro _ | refine Ev.ite ?_ ?_ | refine Ev.setRegA ?_ | refine Ev.forN ?_ ?_)
    | dsimp only | split

theorem State.loadCan_ev {m : Nat} {s0 t : State} {ch : Fin 2} (h : Ev m s0 t)
    (k : 0x20000000000002 &&& m = 0x20000000000002 := by decide) : Ev m s0 (State.loadCan t ch) := by
  refine Ev.comp h ?_ k
  clear h k
  unfold State.loadCan
  try dsimp only
  repeat' first
    | (with_reducible first
        | exact Ev.refl _ _ | intro _ | refine Ev.ite ?_ ?_ | refine Ev.draw ?_
        | refine Ev.put ?_ 21 (by simp only [ CAN_CFG, CAN_CFG_EN, CAN_CFG_FD, CAN_CFG_TDC, CAN_CFG_TDCO, CAN_DBT, CAN_DBT_BRP, CAN_DBT_SJW, CAN_DBT_TSEG1, CAN_DBT_TSEG2, CAN_NBT, CAN_NBT_BRP]; omega)
        | refine Ev.setReg ?_ 21 (by simp only [ CAN_CFG, CAN_CFG_EN, CAN_CFG_FD, CAN_CFG_TDC, CAN_CFG_TDCO, CAN_DBT, CAN_DBT_BRP, CAN_DBT_SJW, CAN_DBT_TSEG1, CAN_DBT_TSEG2, CAN_NBT, CAN_NBT_BRP]; omega))
    | dsimp only | split

theorem State.setHbc_ev {m : Nat} {s0 t : State} {k' : Fin 4} {v : Nat} (h : Ev m s0 t)
    (k : 0x40000000004000 &&& m = 0x40000000004000 := by decide) : Ev m s0 (State.setHbc t k' v) := by
  refine Ev.comp h ?_ k
  clear h k
  unfold State.setHbc
  try dsimp only
  repeat' first
    | (with_reducible first
        | exact Ev.refl _ _ | intro _ | refine Ev.ite ?_ ?_ | refine Ev.modSrv ?_
        | refine Ev.put ?_ 22 (by simp only [ PDO_HBC, PDO_HBC_EN, PDO_HBC_EXPIRED, PDO_HBC_NODE, PDO_HBC_TIMEMS]; omega))
    | dsimp only | split

theorem State.putComm_ev {m : Nat} {s0 t : State} {idx : Nat} {sub : Nat} {v : Nat} (h : Ev m s0 t)
    (k : 0xffffffff00004000 &&& m = 0xffffffff00004000 := by decide) : Ev m s0 (State.putComm t idx sub v) := by
  refine Ev.comp h ?_ k
  clear h k
  unfold State.putComm
  try dsimp only
  repeat' first
    | (with_reducible first
        | exact Ev.refl _ _ | intro _ | refine Ev.ite ?_ ?_ | refine State.applyMap_ev ?_ | refine State.pdoCobWrite_ev ?_
        | refine State.setHbc_ev ?_ | refine State.setObj_ev ?_
        | refine Ev.put ?_ 22 (by first | decide | (simp only [ PDO_HB, PDO_HB_PRODMS, PDO_SYNC, PDO_SYNC_COBID, RPDO_COBID, TPDO_COBID, pdoBase, pdoEvms, pdoInhibit, pdoMask, pdoType]; (try split) <;> omega)))
    | dsimp only | split

theorem State.loadComm_ev {m : Nat} {s0 t : State}  (h : Ev m s0 t)
    (k : 0xffffffff00004002 &&& m = 0xffffffff00004002 := by decide) : Ev m s0 (State.loadComm t) := by
  refine Ev.comp h ?_ k
  clear h k
  unfold State.loadComm
  try dsimp only
  repeat' first
    | (with_reducible first
        | exact Ev.refl _ _ | intro _ | refine Ev.ite ?_ ?_ | refine State.loadCan_ev ?_ | refine State.pdoCobWrite_ev ?_
        | refine State.putComm_ev ?_
        | refine Ev.setReg ?_ 22 (by first | decide | (simp only [ RPDO_COBID, TPDO_COBID, pdoBase]; (try split) <;> omega))
        | refine Ev.forFin ?_ ?_ | refine Ev.forN ?_ ?_ | refine Ev.foldl ?_ _ ?_)
    | dsimp only | split

theorem State.bootUp_ev {m : Nat} {s0 t : State}  (h : Ev m s0 t)
    (k : 0x60000800000004 &&& m = 0x60000800000004 := by decide) : Ev m s0 (State.bootUp t) := by
  refine Ev.comp h ?_ k
  clear h k
  unfold State.bootUp
  try dsimp only
  repeat' first
    | (with_reducible first
        | exact Ev.refl _ _ | intro _ | refine Ev.ite ?_ ?_ | refine State.canAll_ev ?_ | refine Ev.put ?_ 22 (by decide))
    | dsimp only | split

theorem State.restartTimers_ev {m : Nat} {s0 t : State}  (h : Ev m s0 t)
    (k : 0x4000 &&& m = 0x4000 := by decide) : Ev m s0 (State.restartTimers t) := by
  refine Ev.comp h ?_ k
  clear h k
  unfold State.restartTimers
  try dsimp only
  repeat' first
    | (with_reducible first
        | exact Ev.refl _ _ | intro _ | refine Ev.ite ?_ ?_ | refine Ev.modSrv ?_ | refine Ev.forFin ?_ ?_)
    | dsimp only | split

theorem State.nmtRx_ev {m : Nat} {s0 t : State} {ch : Fin 2} {node : BitVec 8} {f : State → State} (h : Ev m s0 t) (hf : ∀ v, Ev m v (f v))
    (k : 0x20000800000000 &&& m = 0x20000800000000 := by decide) : Ev m s0 (State.nmtRx t ch node f) := by
  unfold State.nmtRx
  try dsimp only
  repeat' first
    | (with_reducible first
        | exact Ev.refl _ _ | exact h | refine Ev.trans ?_ (hf _ ) | exact h | refine Ev.trans ?_ (hf _ ) | intro _
        | refine Ev.ite ?_ ?_ | refine State.canEvt_ev ?_ (sub_trans (by decide) k)
        | refine State.canRx_ev ?_ ?_ (sub_trans (by decide) k))
    | dsimp only | split

theorem State.nmtLeave_ev {m : Nat} {s0 t : State} {to_ : Nat} (h : Ev m s0 t)
    (k : 0x142000800114c00 &&& m = 0x142000800114c00 := by decide) : Ev m s0 (State.nmtLeave t to_) := by
  refine Ev.comp h ?_ k
  clear h k
  unfold State.nmtLeave
  try dsimp only
  repeat' first
    | (with_reducible first
        | exact Ev.refl _ _ | intro _ | refine Ev.ite ?_ ?_ | refine State.commLoss_ev ?_ | refine Ev.emcy ?_
        | refine Ev.put ?_ 22 (by decide))
    | dsimp only | split

theorem State.commReset_ev {m : Nat} {s0 t : State} {ch : Fin 2} (h : Ev m s0 t)
    (k : 0xffffffff00004004 &&& m = 0xffffffff00004004 := by decide) : Ev m s0 (State.commReset t ch) := by
  refine Ev.comp h ?_ k
  clear h k
  unfold State.commReset
  extract_lets u lost keep v w
  have hu : Ev 0xffffffff00004004 t u := State.sdoAbandon_ev (Ev.refl _ _)
  have hv : Ev 0xffffffff00004004 t v := by
    refine Ev.putA (hu.trans ⟨rfl, rfl, rfl, fun x => { x with regs := sparseWf_filter _ x.regs }, fun p hp => ?_⟩)
    cases p <;> first | rfl | exact absurd hp (by rename_i q; fin_cases q <;> decide)
  have hw : Ev 0xffffffff00004004 t w := Ev.forN hv fun i v _ => Ev.ite (fun _ => Ev.setRegA (Ev.setRegA (Ev.refl _ _))) fun _ => Ev.refl _ _
  refine Ev.modSrv (Ev.bumpByA hw) fun x => ⟨sparseWf_filter _ x.objs, x.emcy, x.hist, ?_⟩
  intro ch; fin_cases ch <;> exact Nat.zero_le _

theorem State.pdoKick_ev {m : Nat} {s0 t : State} {v : Word} (h : Ev m s0 t)
    (k : 0x40000000000000 &&& m = 0x40000000000000 := by decide) : Ev m s0 (State.pdoKick t v) := by
  refine Ev.comp h ?_ k
  clear h k
  unfold State.pdoKick
  try dsimp only
  repeat' first
    | (with_reducible first
        | exact Ev.refl _ _
        | intro _
        | refine Ev.ite ?_ ?_
        | refine Ev.mark ?_
        | refine Ev.put ?_ 22 (by first | decide | (simp only [ PDO_HB, PDO_HB_ALIVE]; omega)))
    | dsimp only | split

theorem State.emcySend_ev {m : Nat} {s0 t : State} {e : Emcy} (h : Ev m s0 t)
    (k : 0x20000800004004 &&& m = 0x20000800004004 := by decide) : Ev m s0 (State.emcySend t e) := by
  refine Ev.comp h ?_ k
  clear h k
  unfold State.emcySend
  try dsimp only
  repeat' first
    | (with_reducible first
        | exact Ev.refl _ _ | intro _ | refine Ev.ite ?_ ?_
        | refine Ev.modSrv ?_ (fun x => ⟨x.objs, x.emcy, by simp only [List.length_take]; omega, x.rx⟩)
        | refine State.canPut_ev ?_ | refine Ev.modSrv ?_)
    | dsimp only | split

theorem State.bootDoneSet_ev {m : Nat} {s0 t : State}  (h : Ev m s0 t)
    (k : 0xffffffff01002100 &&& m = 0xffffffff01002100 := by decide) : Ev m s0 (State.bootDoneSet t) := by
  refine Ev.comp h ?_ k
  clear h k
  unfold State.bootDoneSet
  try dsimp only
  repeat' first
    | (with_reducible first
        | exact Ev.refl _ _ | intro _ | refine Ev.ite ?_ ?_ | refine State.dmaAbandonOf_ev ?_ | refine State.dropEntries_ev ?_
        | refine State.dropPending_ev ?_ | refine State.modBank_ev ?_ | refine State.modCore_ev ?_ | refine State.settle_ev ?_
        | refine Ev.modSys ?_ | refine Ev.put ?_ 0 (by decide)
        | refine Ev.put ?_ 2 (by simp only [ TEN_CORE, TEN_CORE_EN]; omega) | refine Ev.setWaiting ?_ | refine Ev.forFin ?_ ?_)
    | dsimp only | split

end Sys2Proof.Machine
end

