-- ==== Sys2Proof/Laws/KeepsEvents.lean ====
section
/-! SUPPORT. What the operations of Machine/Events.lean keep. -/

set_option linter.all false
set_option Elab.async false

namespace Sys2Proof.Machine

theorem State.evtForeign_ev {m : Nat} {s0 t : State} {e : Nat} (h : Ev m s0 t)
    (k : 0x800000000 &&& m = 0x800000000 := by decide) : Ev m s0 (State.evtForeign t e) := by
  refine Ev.comp h ?_ k
  clear h k
  unfold State.evtForeign
  try dsimp only
  repeat' first
    | (with_reducible first
        | exact Ev.refl _ _ | intro _ | refine Ev.ite ?_ ?_ | refine Ev.bump ?_ 3 (by decide) | refine Ev.put ?_ 3 (by decide)
        | refine Ev.strobe ?_)
    | dsimp only | split

theorem State.evtCtlWrite_ev {m : Nat} {s0 t : State} {ten : Nat} {e : Nat} {v : Word} (h : Ev m s0 t)
    (k : 0xffffffff00000000 &&& m = 0xffffffff00000000 := by decide) : Ev m s0 (State.evtCtlWrite t ten e v) := by
  refine Ev.comp h ?_ k
  clear h k
  unfold State.evtCtlWrite
  try dsimp only
  repeat' first
    | (with_reducible first
        | exact Ev.refl _ _ | intro _ | refine Ev.ite ?_ ?_ | refine State.evtForeign_ev ?_ | refine Ev.putA ?_)
    | dsimp only | split

theorem State.doorbell_ev {m : Nat} {s0 t : State} {n : Nat} (h : Ev m s0 t)
    (k : 0x800000000 &&& m = 0x800000000 := by decide) : Ev m s0 (State.doorbell t n) := by
  refine Ev.comp h ?_ k
  clear h k
  unfold State.doorbell
  try dsimp only
  repeat' first
    | (with_reducible first
        | exact Ev.refl _ _ | intro _ | refine Ev.ite ?_ ?_ | refine State.evtForeign_ev ?_ | refine Ev.strobe ?_)
    | dsimp only | split

theorem State.psetRefuse_ev {m : Nat} {s0 t : State} {g : PGroup} {a : Fin 8} (h : Ev m s0 t)
    (k : 0xffffffff00000000 &&& m = 0xffffffff00000000 := by decide) : Ev m s0 (State.psetRefuse t g a) := by
  refine Ev.comp h ?_ k
  clear h k
  unfold State.psetRefuse
  try dsimp only
  repeat' first
    | (with_reducible first
        | exact Ev.refl _ _ | intro _ | refine Ev.ite ?_ ?_ | refine Ev.putA ?_ | refine Ev.strobe ?_)
    | dsimp only | split

theorem State.psetWrite_ev {m : Nat} {s0 t : State} {g : PGroup} {a : Fin 8} {i : Nat} {ten : Nat} {v : Word} (h : Ev m s0 t)
    (k : 0xffffffff000e0000 &&& m = 0xffffffff000e0000 := by decide) : Ev m s0 (State.psetWrite t g a i ten v) := by
  refine Ev.comp h ?_ k
  clear h k
  unfold State.psetWrite
  try dsimp only
  repeat' first
    | (with_reducible first
        | exact Ev.refl _ _ | intro _ | refine Ev.ite ?_ ?_ | refine State.psetRefuse_ev ?_ | refine State.setPset_ev ?_
        | refine Ev.putA ?_)
    | dsimp only | split

theorem State.routeRamp_ev {m : Nat} {s0 t : State} {a : Fin 8} {old : Nat} (h : Ev m s0 t)
    (k : 0x400 &&& m = 0x400 := by decide) : Ev m s0 (State.routeRamp t a old) := by
  refine Ev.comp h ?_ k
  clear h k
  unfold State.routeRamp
  try dsimp only
  repeat' first
    | (with_reducible first
        | exact Ev.refl _ _ | intro _ | refine Ev.ite ?_ ?_ | refine Ev.modAxis ?_)
    | dsimp only | split

theorem State.psetCommit_ev {m : Nat} {s0 t : State} {g : PGroup} {a : Fin 8} {ten : Nat} (h : Ev m s0 t)
    (k : 0xffffffff000e4400 &&& m = 0xffffffff000e4400 := by decide) : Ev m s0 (State.psetCommit t g a ten) := by
  refine Ev.comp h ?_ k
  clear h k
  unfold State.psetCommit
  try dsimp only
  repeat' first
    | (with_reducible first
        | exact Ev.refl _ _ | intro _ | refine Ev.ite ?_ ?_ | refine State.psetRefuse_ev ?_ | refine State.psetReload_ev ?_
        | refine State.refuse_ev ?_ | refine State.routeRamp_ev ?_ | refine State.setPset_ev ?_ | refine Ev.putA ?_
        | refine Ev.strobe ?_)
    | dsimp only | split

theorem State.psetDiscard_ev {m : Nat} {s0 t : State} {g : PGroup} {a : Fin 8} {ten : Nat} (h : Ev m s0 t)
    (k : 0xffffffff000e0000 &&& m = 0xffffffff000e0000 := by decide) : Ev m s0 (State.psetDiscard t g a ten) := by
  refine Ev.comp h ?_ k
  clear h k
  unfold State.psetDiscard
  try dsimp only
  repeat' first
    | (with_reducible first
        | exact Ev.refl _ _ | intro _ | refine Ev.ite ?_ ?_ | refine State.psetRefuse_ev ?_ | refine State.psetReload_ev ?_)
    | dsimp only | split

theorem State.psetCtlWrite_ev {m : Nat} {s0 t : State} {g : PGroup} {a : Fin 8} {ten : Nat} {v : Word} (h : Ev m s0 t)
    (k : 0xffffffff000e4400 &&& m = 0xffffffff000e4400 := by decide) : Ev m s0 (State.psetCtlWrite t g a ten v) := by
  refine Ev.comp h ?_ k
  clear h k
  unfold State.psetCtlWrite
  try dsimp only
  repeat' first
    | (with_reducible first
        | exact Ev.refl _ _ | intro _ | refine Ev.ite ?_ ?_ | refine State.psetCommit_ev ?_ | refine State.psetDiscard_ev ?_
        | refine State.psetRefuse_ev ?_ | refine Ev.putA ?_)
    | dsimp only | split

theorem State.dmaForeign_ev {m : Nat} {s0 t : State} {c : Nat} (h : Ev m s0 t)
    (k : 0x1800000000 &&& m = 0x1800000000 := by decide) : Ev m s0 (State.dmaForeign t c) := by
  refine Ev.comp h ?_ k
  clear h k
  unfold State.dmaForeign
  try dsimp only
  repeat' first
    | (with_reducible first
        | exact Ev.refl _ _ | intro _ | refine Ev.ite ?_ ?_ | refine Ev.bump ?_ 4 (by decide) | refine Ev.put ?_ 4 (by decide)
        | refine Ev.strobe ?_)
    | dsimp only | split

theorem State.cmdRef_ev {m : Nat} {s0 t : State} {c : Nat} (h : Ev m s0 t)
    (k : 0xffffffff00000000 &&& m = 0xffffffff00000000 := by decide) : Ev m s0 (State.cmdRef t c) := by
  refine Ev.comp h ?_ k
  clear h k
  unfold State.cmdRef
  try dsimp only
  repeat' first
    | (with_reducible first
        | exact Ev.refl _ _ | intro _ | refine Ev.ite ?_ ?_ | refine Ev.putA ?_)
    | dsimp only | split

theorem State.dmaComplete_ev {m : Nat} {s0 t : State} {c : Fin 32} (h : Ev m s0 t)
    (k : 0x1801000000 &&& m = 0x1801000000 := by decide) : Ev m s0 (State.dmaComplete t c) := by
  refine Ev.comp h ?_ k
  clear h k
  unfold State.dmaComplete
  try dsimp only
  repeat' first
    | (with_reducible first
        | exact Ev.refl _ _ | intro _ | refine Ev.ite ?_ ?_ | refine State.modDma_ev ?_
        | refine Ev.put ?_ 4 (by simp only [ DMA_FLAGS, DMA_FLAGS_DONE, DMA_STAT, DMA_STAT_CODE, DMA_STAT_STATE]; omega)
        | refine Ev.strobe ?_)
    | dsimp only | split

theorem State.dmaStart_ev {m : Nat} {s0 t : State} {c : Fin 32} (h : Ev m s0 t)
    (k : 0xffffffff01000000 &&& m = 0xffffffff01000000 := by decide) : Ev m s0 (State.dmaStart t c) := by
  refine Ev.comp h ?_ k
  clear h k
  unfold State.dmaStart
  try dsimp only
  repeat' first
    | (with_reducible first
        | exact Ev.refl _ _ | intro _ | refine Ev.ite ?_ ?_ | refine State.cmdRef_ev ?_ | refine State.modDma_ev ?_
        | refine Ev.put ?_ 4 (by simp only [ DMA_DESC, DMA_STAT, DMA_STAT_STATE]; omega))
    | dsimp only | split

theorem State.dmaStopCmd_ev {m : Nat} {s0 t : State} {c : Fin 32} (h : Ev m s0 t)
    (k : 0xffffffff01000000 &&& m = 0xffffffff01000000 := by decide) : Ev m s0 (State.dmaStopCmd t c) := by
  refine Ev.comp h ?_ k
  clear h k
  unfold State.dmaStopCmd
  try dsimp only
  repeat' first
    | (with_reducible first
        | exact Ev.refl _ _
        | intro _
        | refine Ev.ite ?_ ?_
        | refine State.cmdRef_ev ?_
        | refine State.dmaFault_ev ?_
        | refine State.dmaStop_ev ?_)
    | dsimp only | split

theorem State.dmaResumeCmd_ev {m : Nat} {s0 t : State} {c : Fin 32} (h : Ev m s0 t)
    (k : 0xffffffff01000000 &&& m = 0xffffffff01000000 := by decide) : Ev m s0 (State.dmaResumeCmd t c) := by
  refine Ev.comp h ?_ k
  clear h k
  unfold State.dmaResumeCmd
  try dsimp only
  repeat' first
    | (with_reducible first
        | exact Ev.refl _ _
        | intro _
        | refine Ev.ite ?_ ?_
        | refine Ev.mark ?_
        | refine Ev.put ?_ 4 (by first | decide | (simp only [ DMA_RES_CNT, DMA_RES_CNT_CNT, DMA_RES_CNT_DESCPEND, DMA_RES_DESC, DMA_RES_DST, DMA_RES_SRC, DMA_STAT, DMA_STAT_STATE]; omega))
        | refine State.cmdRef_ev ?_
        | refine State.dmaComplete_ev ?_
        | refine State.modDma_ev ?_)
    | dsimp only | split

theorem State.dmaDiscard_ev {m : Nat} {s0 t : State} {c : Fin 32} (h : Ev m s0 t)
    (k : 0xffffffff01000000 &&& m = 0xffffffff01000000 := by decide) : Ev m s0 (State.dmaDiscard t c) := by
  refine Ev.comp h ?_ k
  clear h k
  unfold State.dmaDiscard
  try dsimp only
  repeat' first
    | (with_reducible first
        | exact Ev.refl _ _ | intro _ | refine Ev.ite ?_ ?_ | refine State.cmdRef_ev ?_ | refine State.modDma_ev ?_
        | refine Ev.put ?_ 4 (by simp only [ DMA_RES_CNT, DMA_RES_CTRL, DMA_RES_DESC, DMA_RES_DST, DMA_RES_SRC, DMA_STAT, DMA_STAT_CODE, DMA_STAT_STATE]; omega)
        | refine Ev.setReg ?_ 4 (by simp only [ DMA_RES_CNT, DMA_RES_CTRL, DMA_RES_DESC, DMA_RES_DST, DMA_RES_SRC, DMA_STAT, DMA_STAT_CODE, DMA_STAT_STATE]; omega))
    | dsimp only | split

theorem State.dmaBy_ev {m : Nat} {s0 t : State} {ten : Nat} {c : Fin 32} {f : State → State} (h : Ev m s0 t) (hf : ∀ v, Ev m v (f v))
    (k : 0x1800000000 &&& m = 0x1800000000 := by decide) : Ev m s0 (State.dmaBy t ten c f) := by
  unfold State.dmaBy
  try dsimp only
  repeat' first
    | (with_reducible first
        | exact Ev.refl _ _ | exact h | refine Ev.trans ?_ (hf _ ) | exact h | refine Ev.trans ?_ (hf _ ) | intro _
        | refine Ev.ite ?_ ?_ | refine State.dmaForeign_ev ?_ (sub_trans (by decide) k))
    | dsimp only | split

theorem State.dmaCmd_ev {m : Nat} {s0 t : State} {c : Fin 32} {k' : Nat} (h : Ev m s0 t)
    (k : 0xffffffff01000000 &&& m = 0xffffffff01000000 := by decide) : Ev m s0 (State.dmaCmd t c k') := by
  refine Ev.comp h ?_ k
  clear h k
  unfold State.dmaCmd
  try dsimp only
  repeat' first
    | (with_reducible first
        | exact Ev.refl _ _ | intro _ | refine Ev.ite ?_ ?_ | refine State.cmdRef_ev ?_ | refine State.dmaDiscard_ev ?_
        | refine State.dmaResumeCmd_ev ?_ | refine State.dmaStart_ev ?_ | refine State.dmaStopCmd_ev ?_)
    | dsimp only | split

theorem State.protCount_ev {m : Nat} {s0 t : State} {ten : Nat} {a : Nat} (h : Ev m s0 t)
    (k : 0xc00004000 &&& m = 0xc00004000 := by decide) : Ev m s0 (State.protCount t ten a) := by
  refine Ev.comp h ?_ k
  clear h k
  unfold State.protCount
  try dsimp only
  repeat' first
    | (with_reducible first
        | exact Ev.refl _ _ | intro _ | refine Ev.ite ?_ ?_ | refine Ev.bump ?_ 2 (by decide) | refine Ev.emcy ?_
        | refine Ev.put ?_ 2 (by decide) | refine Ev.setReg ?_ 2 (by decide) | refine Ev.strobe ?_)
    | dsimp only | split

theorem State.tenCoreWrite_ev {m : Nat} {s0 t : State} {t' : Nat} {v : Word} (h : Ev m s0 t)
    (k : 0xffffffff00000000 &&& m = 0xffffffff00000000 := by decide) : Ev m s0 (State.tenCoreWrite t t' v) := by
  refine Ev.comp h ?_ k
  clear h k
  unfold State.tenCoreWrite
  try dsimp only
  repeat' first
    | (with_reducible first
        | exact Ev.refl _ _ | intro _ | refine Ev.ite ?_ ?_ | refine Ev.putA ?_)
    | dsimp only | split

end Sys2Proof.Machine
end

