-- ==== Sys2Proof/Laws/KeepsViews.lean ====
section
/-! SUPPORT. What the operations of Machine/Views.lean keep. -/

set_option linter.all false
set_option Elab.async false

namespace Sys2Proof.Machine

theorem State.low64Read_ev {m : Nat} {s0 t : State} {ten : Nat} {port : Nat} {a : Nat} (h : Ev m s0 t)
    (k : 0x10 &&& m = 0x10 := by decide) : Ev m s0 (State.low64Read t ten port a).2 := by
  refine Ev.comp h ?_ k
  clear h k
  unfold State.low64Read
  try dsimp only
  repeat' first
    | (with_reducible first
        | exact Ev.refl _ _ | intro _ | refine Ev.ite ?_ ?_
        | refine Ev.hold ?_ (fun x => sparseWf_set (d := fun _ => 0) _ _ x.hold) | refine Ev.hold ?_)
    | dsimp only | split

theorem State.regRead_ev {m : Nat} {s0 t : State} {ten : Nat} {port : Nat} {a : Nat} (h : Ev m s0 t)
    (k : 0x1000000e04812 &&& m = 0x1000000e04812 := by decide) : Ev m s0 (State.regRead t ten port a).2 := by
  refine Ev.comp h ?_ k
  clear h k
  unfold State.regRead
  try dsimp only
  repeat' first
    | (with_reducible first
        | exact Ev.refl _ _ | intro _ | refine Ev.ite ?_ ?_ | refine State.canPop_ev ?_ | refine State.low64Read_ev ?_
        | refine State.popCap_ev ?_ | refine State.popMod_ev ?_ | refine State.popRx_ev ?_ | refine State.ringPop_ev ?_
        | refine Ev.setFreeCtr ?_)
    | dsimp only | split

end Sys2Proof.Machine
end

