-- ==== Sys2Proof/Laws/KeepsBus.lean ====
section
/-! SUPPORT. What the operations of Machine/Bus.lean keep. -/

set_option linter.all false
set_option Elab.async false

namespace Sys2Proof.Machine

theorem State.plainWrite_ev {m : Nat} {s0 t : State} {ten : Nat} {a : Nat} {v : Word} {no : Word} (h : Ev m s0 t)
    (k : 0xffffffff00000000 &&& m = 0xffffffff00000000 := by decide) : Ev m s0 (State.plainWrite t ten a v no) := by
  refine Ev.comp h ?_ k
  clear h k
  unfold State.plainWrite
  try dsimp only
  repeat' first
    | (with_reducible first
        | exact Ev.refl _ _ | intro _ | refine Ev.ite ?_ ?_ | refine Ev.setRegA ?_)
    | dsimp only | split

theorem State.sysWrite_ev {m : Nat} {s0 t : State} {ten : Nat} {a : Nat} {v : Word} (h : Ev m s0 t)
    (k : 0xffffffff079fef06 &&& m = 0xffffffff079fef06 := by decide) : Ev m s0 (State.sysWrite t ten a v) := by
  refine Ev.comp h ?_ k
  clear h k
  unfold State.sysWrite
  try dsimp only
  repeat' first
    | (with_reducible first
        | exact Ev.refl _ _ | intro _ | refine Ev.ite ?_ ?_ | refine State.bootDoneSet_ev ?_ | refine State.lampTest_ev ?_
        | refine State.plainWrite_ev ?_ | refine State.writeBearPark_ev ?_ | refine State.writePortRst_ev ?_
        | refine State.writeSysRst_ev ?_ | refine State.writeTenRst_ev ?_ | refine State.writeWdtKick_ev ?_)
    | dsimp only | split

theorem State.safeWrite_ev {m : Nat} {s0 t : State} {ten : Nat} {a : Nat} {v : Word} (h : Ev m s0 t)
    (k : 0xffffffff00004200 &&& m = 0xffffffff00004200 := by decide) : Ev m s0 (State.safeWrite t ten a v) := by
  refine Ev.comp h ?_ k
  clear h k
  unfold State.safeWrite
  try dsimp only
  repeat' first
    | (with_reducible first
        | exact Ev.refl _ _ | intro _ | refine Ev.ite ?_ ?_ | refine State.fblor_ev ?_ | refine State.hbArm_ev ?_
        | refine State.hbResponse_ev ?_ | refine State.plainWrite_ev ?_ | refine State.scsCommand_ev ?_)
    | dsimp only | split

theorem State.twuWrite_ev {m : Nat} {s0 t : State} {ten : Nat} {port : Nat} {a : Nat} {v : Word} (h : Ev m s0 t)
    (k : 0xffffffff01004000 &&& m = 0xffffffff01004000 := by decide) : Ev m s0 (State.twuWrite t ten port a v) := by
  refine Ev.comp h ?_ k
  clear h k
  unfold State.twuWrite
  try dsimp only
  repeat' first
    | (with_reducible first
        | exact Ev.refl _ _ | intro _ | refine Ev.ite ?_ ?_ | refine State.plainWrite_ev ?_ | refine State.protCount_ev ?_
        | refine State.tenCoreWrite_ev ?_ | refine Ev.modPr ?_
        | refine Ev.put ?_ 2 (by first | decide | (simp only [ MEMERR_INJ, MEMERR_INJ_MODE, MEMERR_SCRUB, MEMERR_STAT, TEN_OWN, TEN_OWN_OWN, TWU_STAT, TWU_STAT_CFGERR]; omega)))
    | dsimp only | split

theorem State.evtWrite_ev {m : Nat} {s0 t : State} {ten : Nat} {a : Nat} {v : Word} (h : Ev m s0 t)
    (k : 0xffffffff00000000 &&& m = 0xffffffff00000000 := by decide) : Ev m s0 (State.evtWrite t ten a v) := by
  refine Ev.comp h ?_ k
  clear h k
  unfold State.evtWrite
  try dsimp only
  repeat' first
    | (with_reducible first
        | exact Ev.refl _ _ | intro _ | refine Ev.ite ?_ ?_ | refine State.doorbell_ev ?_ | refine State.evtCtlWrite_ev ?_
        | refine State.plainWrite_ev ?_)
    | dsimp only | split

theorem State.dmaWrite_ev {m : Nat} {s0 t : State} {ten : Nat} {c : Fin 32} {a : Nat} {v : Word} (h : Ev m s0 t)
    (k : 0xffffffff01000000 &&& m = 0xffffffff01000000 := by decide) : Ev m s0 (State.dmaWrite t ten c a v) := by
  refine Ev.comp h ?_ k
  clear h k
  unfold State.dmaWrite
  try dsimp only
  repeat' first
    | (with_reducible first
        | exact Ev.refl _ _ | intro _ | refine Ev.ite ?_ ?_ | refine State.cmdRef_ev ?_ | refine State.dmaCmd_ev ?_
        | refine State.plainWrite_ev ?_)
    | dsimp only | split

theorem State.writeSpCfg_ev {m : Nat} {s0 t : State} {ten : Nat} {p : Fin 6} {a : Nat} {v : Word} (h : Ev m s0 t)
    (k : 0xffffffff00000000 &&& m = 0xffffffff00000000 := by decide) : Ev m s0 (State.writeSpCfg t ten p a v) := by
  refine Ev.comp h ?_ k
  clear h k
  unfold State.writeSpCfg
  try dsimp only
  repeat' first
    | (with_reducible first
        | exact Ev.refl _ _ | intro _ | refine Ev.ite ?_ ?_ | refine State.ctlRef_ev ?_ | refine State.plainWrite_ev ?_)
    | dsimp only | split

theorem State.portWrite_ev {m : Nat} {s0 t : State} {ten : Nat} {p : Fin 6} {a : Nat} {v : Word} (h : Ev m s0 t)
    (k : 0xffffffff0011cf02 &&& m = 0xffffffff0011cf02 := by decide) : Ev m s0 (State.portWrite t ten p a v) := by
  refine Ev.comp h ?_ k
  clear h k
  unfold State.portWrite
  try dsimp only
  repeat' first
    | (with_reducible first
        | exact Ev.refl _ _ | intro _ | refine Ev.ite ?_ ?_ | refine State.ctlRef_ev ?_ | refine State.plainWrite_ev ?_
        | refine State.pushTq_ev ?_ | refine State.writeSpCfg_ev ?_ | refine State.writeSpCtrl_ev ?_
        | refine Ev.put ?_ 0 (by decide))
    | dsimp only | split

theorem State.axisWrite_ev {m : Nat} {s0 t : State} {ten : Nat} {x : Fin 8} {a : Nat} {v : Word} (h : Ev m s0 t)
    (k : 0xffffffff001f4c00 &&& m = 0xffffffff001f4c00 := by decide) : Ev m s0 (State.axisWrite t ten x a v) := by
  refine Ev.comp h ?_ k
  clear h k
  unfold State.axisWrite
  try dsimp only
  repeat' first
    | (with_reducible first
        | exact Ev.refl _ _ | intro _ | refine Ev.ite ?_ ?_ | refine State.clearDegraded_ev ?_
        | refine State.clearSchedule_ev ?_ | refine State.plainWrite_ev ?_ | refine State.psetCtlWrite_ev ?_
        | refine State.psetWrite_ev ?_ | refine State.restartCycles_ev ?_ | refine State.writeCw_ev ?_
        | refine State.writeCwsrc_ev ?_ | refine State.writeInit_ev ?_ | refine State.writeMode_ev ?_
        | refine Ev.put ?_ 17 (by simp only [ ENG_CFG, ENG_CFG_LEAD, ENG_STAT, ENG_STAT_CFGREF]; omega))
    | dsimp only | split

theorem State.modRefuse_ev {m : Nat} {s0 t : State} {l : List Nat} (h : Ev m s0 t)
    (k : 0xffffffff00000000 &&& m = 0xffffffff00000000 := by decide) : Ev m s0 (State.modRefuse t l) := by
  refine Ev.comp h ?_ k
  clear h k
  unfold State.modRefuse
  try dsimp only
  repeat' first
    | (with_reducible first
        | exact Ev.refl _ _ | intro _ | refine Ev.ite ?_ ?_ | refine Ev.putA ?_ | refine Ev.foldl ?_ _ ?_)
    | dsimp only | split

theorem State.modWrite_ev {m : Nat} {s0 t : State} {ten : Nat} {a : Nat} {v : Word} (h : Ev m s0 t)
    (k : 0xffffffff00000000 &&& m = 0xffffffff00000000 := by decide) : Ev m s0 (State.modWrite t ten a v) := by
  refine Ev.comp h ?_ k
  clear h k
  unfold State.modWrite
  try dsimp only
  repeat' first
    | (with_reducible first
        | exact Ev.refl _ _ | intro _ | refine Ev.ite ?_ ?_ | refine State.modRefuse_ev ?_ | refine State.plainWrite_ev ?_
        | refine Ev.putA ?_)
    | dsimp only | split

theorem State.idleWrite_ev {m : Nat} {s0 t : State} {ten : Nat} {c : Nat} {a : Nat} {v : Word} {fits : Bool} (h : Ev m s0 t)
    (k : 0xffffffff00000000 &&& m = 0xffffffff00000000 := by decide) : Ev m s0 (State.idleWrite t ten c a v fits) := by
  refine Ev.comp h ?_ k
  clear h k
  unfold State.idleWrite
  try dsimp only
  repeat' first
    | (with_reducible first
        | exact Ev.refl _ _ | intro _ | refine Ev.ite ?_ ?_ | refine State.fbRef_ev ?_ | refine State.plainWrite_ev ?_)
    | dsimp only | split

theorem State.incCtrl_ev {m : Nat} {s0 t : State} {n : Fin 8} {v : Nat} (h : Ev m s0 t)
    (k : 0x8000000200000 &&& m = 0x8000000200000 := by decide) : Ev m s0 (State.incCtrl t n v) := by
  refine Ev.comp h ?_ k
  clear h k
  unfold State.incCtrl
  try dsimp only
  repeat' first
    | (with_reducible first
        | exact Ev.refl _ _ | intro _ | refine Ev.ite ?_ ?_ | refine State.armReference_ev ?_ | refine State.clearErr_ev ?_
        | refine State.clearIndex_ev ?_ | refine State.clearLock_ev ?_ | refine State.clearLoss_ev ?_)
    | dsimp only | split

theorem State.incWrite_ev {m : Nat} {s0 t : State} {ten : Nat} {n : Fin 8} {a : Nat} {v : Word} (h : Ev m s0 t)
    (k : 0xffffffff00314c00 &&& m = 0xffffffff00314c00 := by decide) : Ev m s0 (State.incWrite t ten n a v) := by
  refine Ev.comp h ?_ k
  clear h k
  unfold State.incWrite
  try dsimp only
  repeat' first
    | (with_reducible first
        | exact Ev.refl _ _ | intro _ | refine Ev.ite ?_ ?_ | refine State.idleWrite_ev ?_ | refine State.incCtrl_ev ?_
        | refine State.judgeInc_ev ?_ | refine State.plainWrite_ev ?_)
    | dsimp only | split

theorem State.hallWrite_ev {m : Nat} {s0 t : State} {ten : Nat} {h' : Fin 8} {a : Nat} {v : Word} (h : Ev m s0 t)
    (k : 0xffffffff00114c00 &&& m = 0xffffffff00114c00 := by decide) : Ev m s0 (State.hallWrite t ten h' a v) := by
  refine Ev.comp h ?_ k
  clear h k
  unfold State.hallWrite
  try dsimp only
  repeat' first
    | (with_reducible first
        | exact Ev.refl _ _ | intro _ | refine Ev.ite ?_ ?_ | refine State.clearErr_ev ?_ | refine State.clearLoss_ev ?_
        | refine State.idleWrite_ev ?_ | refine State.judgeHall_ev ?_ | refine State.plainWrite_ev ?_)
    | dsimp only | split

theorem State.ssiWrite_ev {m : Nat} {s0 t : State} {ten : Nat} {i : Fin 4} {a : Nat} {v : Word} (h : Ev m s0 t)
    (k : 0xffffffff00314c02 &&& m = 0xffffffff00314c02 := by decide) : Ev m s0 (State.ssiWrite t ten i a v) := by
  refine Ev.comp h ?_ k
  clear h k
  unfold State.ssiWrite
  try dsimp only
  repeat' first
    | (with_reducible first
        | exact Ev.refl _ _
        | intro _
        | refine Ev.ite ?_ ?_
        | refine Ev.draw ?_
        | refine State.clearErr_ev ?_
        | refine State.clearLoss_ev ?_
        | refine State.idleWrite_ev ?_
        | refine State.judgeSsi_ev ?_
        | refine State.plainWrite_ev ?_
        | refine State.ssiStart_ev ?_)
    | dsimp only | split

theorem State.fbWrite_ev {m : Nat} {s0 t : State} {ten : Nat} {a : Nat} {v : Word} (h : Ev m s0 t)
    (k : 0xffffffff00314c02 &&& m = 0xffffffff00314c02 := by decide) : Ev m s0 (State.fbWrite t ten a v) := by
  refine Ev.comp h ?_ k
  clear h k
  unfold State.fbWrite
  try dsimp only
  repeat' first
    | (with_reducible first
        | exact Ev.refl _ _ | intro _ | refine Ev.ite ?_ ?_ | refine State.hallWrite_ev ?_ | refine State.incWrite_ev ?_
        | refine State.plainWrite_ev ?_ | refine State.ssiWrite_ev ?_)
    | dsimp only | split

theorem State.ringRef_ev {m : Nat} {s0 t : State}  (h : Ev m s0 t)
    (k : 0x10000000000000 &&& m = 0x10000000000000 := by decide) : Ev m s0 (State.ringRef t) := by
  refine Ev.comp h ?_ k
  clear h k
  unfold State.ringRef
  try dsimp only
  repeat' first
    | (with_reducible first
        | exact Ev.refl _ _ | intro _ | refine Ev.ite ?_ ?_ | refine Ev.put ?_ 20 (by decide))
    | dsimp only | split

theorem State.grpWrite_ev {m : Nat} {s0 t : State} {ten : Nat} {g : Fin 16} {o : Nat} {a : Nat} {v : Word} (h : Ev m s0 t)
    (k : 0xffffffff00000000 &&& m = 0xffffffff00000000 := by decide) : Ev m s0 (State.grpWrite t ten g o a v) := by
  refine Ev.comp h ?_ k
  clear h k
  unfold State.grpWrite
  try dsimp only
  repeat' first
    | (with_reducible first
        | exact Ev.refl _ _ | intro _ | refine Ev.ite ?_ ?_ | refine State.plainWrite_ev ?_ | refine State.ringRef_ev ?_)
    | dsimp only | split

theorem State.ringWrite_ev {m : Nat} {s0 t : State} {ten : Nat} {a : Nat} {v : Word} (h : Ev m s0 t)
    (k : 0xffffffff00800004 &&& m = 0xffffffff00800004 := by decide) : Ev m s0 (State.ringWrite t ten a v) := by
  refine Ev.comp h ?_ k
  clear h k
  unfold State.ringWrite
  try dsimp only
  repeat' first
    | (with_reducible first
        | exact Ev.refl _ _ | intro _ | refine Ev.ite ?_ ?_ | refine State.grpWrite_ev ?_ | refine State.modMem_ev ?_
        | refine State.plainWrite_ev ?_ | refine State.ringClearCounts_ev ?_ | refine State.ringDisable_ev ?_
        | refine State.ringEnable_ev ?_ | refine State.ringRef_ev ?_ | refine State.ringRejoin_ev ?_ | refine State.txPush_ev ?_)
    | dsimp only | split

theorem State.writeCanCfg_ev {m : Nat} {s0 t : State} {ten : Nat} {ch : Fin 2} {a : Nat} {v : Word} (h : Ev m s0 t)
    (k : 0xffffffff00004004 &&& m = 0xffffffff00004004 := by decide) : Ev m s0 (State.writeCanCfg t ten ch a v) := by
  refine Ev.comp h ?_ k
  clear h k
  unfold State.writeCanCfg
  try dsimp only
  repeat' first
    | (with_reducible first
        | exact Ev.refl _ _ | intro _ | refine Ev.ite ?_ ?_ | refine State.canFlush_ev ?_ | refine State.modCan_ev ?_
        | refine State.plainWrite_ev ?_
        | refine Ev.put ?_ 21 (by simp only [ CAN_CFG, CAN_CFG_EN, CAN_STAT, CAN_STAT_CFGREF]; omega))
    | dsimp only | split

theorem State.canWrite_ev {m : Nat} {s0 t : State} {ten : Nat} {ch : Fin 2} {a : Nat} {v : Word} (h : Ev m s0 t)
    (k : 0xffffffff00004004 &&& m = 0xffffffff00004004 := by decide) : Ev m s0 (State.canWrite t ten ch a v) := by
  refine Ev.comp h ?_ k
  clear h k
  unfold State.canWrite
  try dsimp only
  repeat' first
    | (with_reducible first
        | exact Ev.refl _ _ | intro _ | refine Ev.ite ?_ ?_ | refine State.canPush_ev ?_ | refine State.plainWrite_ev ?_
        | refine State.writeCanCfg_ev ?_
        | refine Ev.put ?_ 21 (by simp only [ CAN_CFG, CAN_CFG_EN, CAN_STAT, CAN_STAT_CFGREF]; omega))
    | dsimp only | split

theorem State.pdoRef_ev {m : Nat} {s0 t : State}  (h : Ev m s0 t)
    (k : 0x40000000000000 &&& m = 0x40000000000000 := by decide) : Ev m s0 (State.pdoRef t) := by
  refine Ev.comp h ?_ k
  clear h k
  unfold State.pdoRef
  try dsimp only
  repeat' first
    | (with_reducible first
        | exact Ev.refl _ _ | intro _ | refine Ev.ite ?_ ?_ | refine Ev.put ?_ 22 (by decide))
    | dsimp only | split

theorem State.pdoRegWrite_ev {m : Nat} {s0 t : State} {ten : Nat} {tx : Bool} {n : Fin 16} {o : Nat} {a : Nat} {v : Word} (h : Ev m s0 t)
    (k : 0xffffffff00004000 &&& m = 0xffffffff00004000 := by decide) : Ev m s0 (State.pdoRegWrite t ten tx n o a v) := by
  refine Ev.comp h ?_ k
  clear h k
  unfold State.pdoRegWrite
  try dsimp only
  repeat' first
    | (with_reducible first
        | exact Ev.refl _ _ | intro _ | refine Ev.ite ?_ ?_ | refine State.pdoCobWrite_ev ?_ | refine State.pdoRef_ev ?_
        | refine State.plainWrite_ev ?_)
    | dsimp only | split

theorem State.pdoWrite_ev {m : Nat} {s0 t : State} {ten : Nat} {a : Nat} {v : Word} (h : Ev m s0 t)
    (k : 0xffffffff00004000 &&& m = 0xffffffff00004000 := by decide) : Ev m s0 (State.pdoWrite t ten a v) := by
  refine Ev.comp h ?_ k
  clear h k
  unfold State.pdoWrite
  try dsimp only
  repeat' first
    | (with_reducible first
        | exact Ev.refl _ _ | intro _ | refine Ev.ite ?_ ?_ | refine State.pdoKick_ev ?_ | refine State.pdoRegWrite_ev ?_
        | refine State.plainWrite_ev ?_ | refine Ev.modSrv ?_
        | refine Ev.put ?_ 22 (by first | decide | (simp only [ PDO_HBC, PDO_HBC_EXPIRED, PDO_KICK]; omega)))
    | dsimp only | split

theorem State.tagWrite_ev {m : Nat} {s0 t : State} {ten : Nat} {a : Nat} {v : Word} (h : Ev m s0 t)
    (k : 0xffffffff08000000 &&& m = 0xffffffff08000000 := by decide) : Ev m s0 (State.tagWrite t ten a v) := by
  refine Ev.comp h ?_ k
  clear h k
  unfold State.tagWrite
  try dsimp only
  repeat' first
    | (with_reducible first
        | exact Ev.refl _ _ | intro _ | refine Ev.ite ?_ ?_ | refine State.plainWrite_ev ?_ | refine State.tagClrCnt_ev ?_
        | refine State.tagClrRfw_ev ?_ | refine State.writeTagCtrl_ev ?_)
    | dsimp only | split

theorem State.lioRef_ev {m : Nat} {s0 t : State}  (h : Ev m s0 t)
    (k : 0x100000000000000 &&& m = 0x100000000000000 := by decide) : Ev m s0 (State.lioRef t) := by
  refine Ev.comp h ?_ k
  clear h k
  unfold State.lioRef
  try dsimp only
  repeat' first
    | (with_reducible first
        | exact Ev.refl _ _ | intro _ | refine Ev.ite ?_ ?_ | refine Ev.put ?_ 24 (by decide))
    | dsimp only | split

theorem State.lioSafe_ev {m : Nat} {s0 t : State} {ten : Nat} {a : Nat} {v : Word} {l : List Nat} {fits : Bool} (h : Ev m s0 t)
    (k : 0xffffffff00000000 &&& m = 0xffffffff00000000 := by decide) : Ev m s0 (State.lioSafe t ten a v l fits) := by
  refine Ev.comp h ?_ k
  clear h k
  unfold State.lioSafe
  try dsimp only
  repeat' first
    | (with_reducible first
        | exact Ev.refl _ _ | intro _ | refine Ev.ite ?_ ?_ | refine State.lioRef_ev ?_ | refine State.plainWrite_ev ?_)
    | dsimp only | split

theorem State.lampSettle_ev {m : Nat} {s0 t : State} {n : Fin 8} (h : Ev m s0 t)
    (k : 0x502000b0011cf00 &&& m = 0x502000b0011cf00 := by decide) : Ev m s0 (State.lampSettle t n) := by
  refine Ev.comp h ?_ k
  clear h k
  unfold State.lampSettle
  try dsimp only
  repeat' first
    | (with_reducible first
        | exact Ev.refl _ _ | intro _ | refine Ev.ite ?_ ?_ | refine State.inhibits_ev ?_ | refine State.judgeLamps_ev ?_
        | refine State.modLamp_ev ?_
        | refine Ev.put ?_ 24 (by simp only [ LAMP_CFG, LAMP_CFG_EN, LAMP_STAT, LAMP_STAT_DARK]; omega))
    | dsimp only | split

theorem State.lampWrite_ev {m : Nat} {s0 t : State} {ten : Nat} {n : Fin 8} {a : Nat} {v : Word} (h : Ev m s0 t)
    (k : 0xffffffff0011cf00 &&& m = 0xffffffff0011cf00 := by decide) : Ev m s0 (State.lampWrite t ten n a v) := by
  refine Ev.comp h ?_ k
  clear h k
  unfold State.lampWrite
  try dsimp only
  repeat' first
    | (with_reducible first
        | exact Ev.refl _ _
        | intro _
        | refine Ev.ite ?_ ?_
        | refine State.lampClrCnt_ev ?_
        | refine State.lampLit_ev ?_
        | refine State.lampRetry_ev ?_
        | refine State.lampSettle_ev ?_
        | refine State.lioRef_ev ?_
        | refine State.lioSafe_ev ?_
        | refine State.plainWrite_ev ?_)
    | dsimp only | split

theorem State.winchWrite_ev {m : Nat} {s0 t : State} {ten : Nat} {x : Fin 8} {o : Nat} {a : Nat} {v : Word} (h : Ev m s0 t)
    (k : 0xffffffff000e4400 &&& m = 0xffffffff000e4400 := by decide) : Ev m s0 (State.winchWrite t ten x o a v) := by
  refine Ev.comp h ?_ k
  clear h k
  unfold State.winchWrite
  try dsimp only
  repeat' first
    | (with_reducible first
        | exact Ev.refl _ _ | intro _ | refine Ev.ite ?_ ?_ | refine State.lioSafe_ev ?_ | refine State.plainWrite_ev ?_
        | refine State.psetCtlWrite_ev ?_ | refine State.psetWrite_ev ?_)
    | dsimp only | split

theorem State.lioWrite_ev {m : Nat} {s0 t : State} {ten : Nat} {a : Nat} {v : Word} (h : Ev m s0 t)
    (k : 0xffffffff001fcf00 &&& m = 0xffffffff001fcf00 := by decide) : Ev m s0 (State.lioWrite t ten a v) := by
  refine Ev.comp h ?_ k
  clear h k
  unfold State.lioWrite
  try dsimp only
  repeat' first
    | (with_reducible first
        | exact Ev.refl _ _
        | intro _
        | refine Ev.ite ?_ ?_
        | refine State.brakes_ev ?_
        | refine State.lampWrite_ev ?_
        | refine State.lioRef_ev ?_
        | refine State.lioSafe_ev ?_
        | refine State.plainWrite_ev ?_
        | refine State.winchWrite_ev ?_
        | refine State.writeGpo_ev ?_)
    | dsimp only | split

theorem State.storeWrite_ev {m : Nat} {s0 t : State} {ten : Nat} {a : Nat} {v : Word} (h : Ev m s0 t)
    (k : 0xffffffff04000000 &&& m = 0xffffffff04000000 := by decide) : Ev m s0 (State.storeWrite t ten a v) := by
  refine Ev.comp h ?_ k
  clear h k
  unfold State.storeWrite
  try dsimp only
  repeat' first
    | (with_reducible first
        | exact Ev.refl _ _ | intro _ | refine Ev.ite ?_ ?_ | refine State.plainWrite_ev ?_ | refine State.storeCmd_ev ?_)
    | dsimp only | split

theorem State.cpRef_ev {m : Nat} {s0 t : State}  (h : Ev m s0 t)
    (k : 0x400000000000000 &&& m = 0x400000000000000 := by decide) : Ev m s0 (State.cpRef t) := by
  refine Ev.comp h ?_ k
  clear h k
  unfold State.cpRef
  try dsimp only
  repeat' first
    | (with_reducible first
        | exact Ev.refl _ _ | intro _ | refine Ev.ite ?_ ?_ | refine Ev.put ?_ 26 (by decide))
    | dsimp only | split

theorem State.cpEnable_ev {m : Nat} {s0 t : State} {was : Bool} (h : Ev m s0 t)
    (k : 0x40000000000c000 &&& m = 0x40000000000c000 := by decide) : Ev m s0 (State.cpEnable t was) := by
  refine Ev.comp h ?_ k
  clear h k
  unfold State.cpEnable
  try dsimp only
  repeat' first
    | (with_reducible first
        | exact Ev.refl _ _ | intro _ | refine Ev.ite ?_ ?_ | refine State.pairJudge_ev ?_ | refine Ev.put ?_ 26 (by decide))
    | dsimp only | split

theorem State.writeCpCfg_ev {m : Nat} {s0 t : State} {ten : Nat} {a : Nat} {v : Word} (h : Ev m s0 t)
    (k : 0xffffffff0000c000 &&& m = 0xffffffff0000c000 := by decide) : Ev m s0 (State.writeCpCfg t ten a v) := by
  refine Ev.comp h ?_ k
  clear h k
  unfold State.writeCpCfg
  try dsimp only
  repeat' first
    | (with_reducible first
        | exact Ev.refl _ _ | intro _ | refine Ev.ite ?_ ?_ | refine State.cpEnable_ev ?_ | refine State.cpRef_ev ?_
        | refine State.plainWrite_ev ?_)
    | dsimp only | split

theorem State.cpWrite_ev {m : Nat} {s0 t : State} {ten : Nat} {a : Nat} {v : Word} (h : Ev m s0 t)
    (k : 0xffffffff0000c000 &&& m = 0xffffffff0000c000 := by decide) : Ev m s0 (State.cpWrite t ten a v) := by
  refine Ev.comp h ?_ k
  clear h k
  unfold State.cpWrite
  try dsimp only
  repeat' first
    | (with_reducible first
        | exact Ev.refl _ _ | intro _ | refine Ev.ite ?_ ?_ | refine State.cpRef_ev ?_ | refine State.pairJudge_ev ?_
        | refine State.plainWrite_ev ?_ | refine State.writeCpCfg_ev ?_ | refine State.writeCpCtrl_ev ?_ | refine Ev.modCp ?_)
    | dsimp only | split

theorem State.low64Write_ev {m : Nat} {s0 t : State} {port : Nat} {a : Nat} {v : Word} (h : Ev m s0 t)
    (k : 0x20 &&& m = 0x20 := by decide) : Ev m s0 (State.low64Write t port a v) := by
  refine Ev.comp h ?_ k
  clear h k
  unfold State.low64Write
  try dsimp only
  repeat' first
    | (with_reducible first
        | exact Ev.refl _ _ | intro _ | refine Ev.ite ?_ ?_ | refine Ev.setPend64 ?_)
    | dsimp only | split

theorem State.high64Write_ev {m : Nat} {s0 t : State} {port : Nat} {a : Nat} {v : Word} (h : Ev m s0 t)
    (k : 0xffffffff00000020 &&& m = 0xffffffff00000020 := by decide) : Ev m s0 (State.high64Write t port a v) := by
  refine Ev.comp h ?_ k
  clear h k
  unfold State.high64Write
  try dsimp only
  repeat' first
    | (with_reducible first
        | exact Ev.refl _ _ | intro _ | refine Ev.ite ?_ ?_ | refine State.ringRef_ev ?_ | refine Ev.setPend64 ?_
        | refine Ev.setRegA ?_)
    | dsimp only | split

theorem State.blockWrite_ev {m : Nat} {s0 t : State} {ten : Nat} {port : Nat} {a : Nat} {v : Word} (h : Ev m s0 t)
    (k : 0xffffffff0fbfef26 &&& m = 0xffffffff0fbfef26 := by decide) : Ev m s0 (State.blockWrite t ten port a v) := by
  refine Ev.comp h ?_ k
  clear h k
  unfold State.blockWrite
  try dsimp only
  repeat' first
    | (with_reducible first
        | exact Ev.refl _ _ | intro _ | refine Ev.ite ?_ ?_ | refine State.axisWrite_ev ?_ | refine State.canWrite_ev ?_
        | refine State.cpWrite_ev ?_ | refine State.dmaForeign_ev ?_ | refine State.dmaWrite_ev ?_ | refine State.evtWrite_ev ?_
        | refine State.fbWrite_ev ?_ | refine State.high64Write_ev ?_ | refine State.lioWrite_ev ?_
        | refine State.low64Write_ev ?_ | refine State.modWrite_ev ?_ | refine State.pdoWrite_ev ?_
        | refine State.portWrite_ev ?_ | refine State.ringWrite_ev ?_ | refine State.safeWrite_ev ?_
        | refine State.storeWrite_ev ?_ | refine State.sysWrite_ev ?_ | refine State.tagWrite_ev ?_)
    | dsimp only | split

theorem State.regWrite_ev {m : Nat} {s0 t : State} {ten : Nat} {port : Nat} {a : Nat} {v : Word} (h : Ev m s0 t)
    (k : 0xffffffff0fbfef26 &&& m = 0xffffffff0fbfef26 := by decide) : Ev m s0 (State.regWrite t ten port a v) := by
  refine Ev.comp h ?_ k
  clear h k
  unfold State.regWrite
  try dsimp only
  repeat' first
    | (with_reducible first
        | exact Ev.refl _ _ | intro _ | refine Ev.ite ?_ ?_ | refine State.blockWrite_ev ?_ | refine State.protCount_ev ?_
        | refine State.twuWrite_ev ?_)
    | dsimp only | split

end Sys2Proof.Machine
end

