-- ==== Sys2Proof/Laws/KeepsOd.lean ====
section
/-! SUPPORT. What the operations of Machine/Od.lean keep. -/

set_option linter.all false
set_option Elab.async false

namespace Sys2Proof.Machine

theorem State.srvRead_ev {m : Nat} {s0 t : State} {a : Nat} (h : Ev m s0 t)
    (k : 0x1000000e04812 &&& m = 0x1000000e04812 := by decide) : Ev m s0 (State.srvRead t a).2 := by
  refine Ev.comp h ?_ k
  clear h k
  unfold State.srvRead
  try dsimp only
  repeat' first
    | (with_reducible first
        | exact Ev.refl _ _ | intro _ | refine Ev.ite ?_ ?_ | refine State.regRead_ev ?_)
    | dsimp only | split

theorem State.srvTag_ev {m : Nat} {s0 t : State} {k' : Nat} {w : Option Word} (h : Ev m s0 t)
    (k : 0x80000808000000 &&& m = 0x80000808000000 := by decide) : Ev m s0 (State.srvTag t k' w).2 := by
  refine Ev.comp h ?_ k
  clear h k
  unfold State.srvTag
  try dsimp only
  repeat' first
    | (with_reducible first
        | exact Ev.refl _ _ | intro _ | refine Ev.ite ?_ ?_ | refine State.tagAccess_ev ?_ | refine State.tagDo_ev ?_
        | refine Ev.modTag ?_)
    | dsimp only | split

theorem srvTagRead_ev {m : Nat} {s0 t : State} {x0 : Nat} {x1 : Nat} (h : Ev m s0 t)
    (k : 0x80000808000000 &&& m = 0x80000808000000 := by decide) : Ev m s0 (srvTagRead x0 x1 t).2 := by
  refine Ev.comp h ?_ k
  clear h k
  induction x0 generalizing t x1
  all_goals unfold srvTagRead
  · exact Ev.refl _ _
  rename_i ih
  try dsimp only
  repeat' first
    | (with_reducible first
        | exact Ev.refl _ _ | refine Ev.trans ?_ ih | refine Ev.trans ?_ ih | intro _ | refine Ev.ite ?_ ?_
        | refine State.srvTag_ev ?_)
    | dsimp only | split

theorem State.readFold_ev {m : Nat} {s0 : State} (l : List Nat) :
    ∀ (p : List Byte × State), Ev m s0 p.2 → (∀ a t, Ev m s0 t → Ev m s0 (State.srvRead t a).2) →
      Ev m s0 (l.foldl (fun (p : List Byte × State) a => (p.1 ++ leBytes 4 (p.2.srvRead a).1, (p.2.srvRead a).2)) p).2 := by
  induction l with
  | nil => exact fun p h _ => h
  | cons a l ih => exact fun p h g => ih _ (g a p.2 h) g

theorem State.odRead_ev {m : Nat} {s0 t : State} {idx : Nat} {e : OdEnt} (h : Ev m s0 t)
    (k : 0x81000808e04812 &&& m = 0x81000808e04812 := by decide) : Ev m s0 (State.odRead t idx e).2 := by
  refine Ev.comp h ?_ k
  clear h k
  unfold State.odRead
  try dsimp only
  repeat' first
    | (with_reducible first
        | exact Ev.refl _ _ | intro _ | refine Ev.ite ?_ ?_ | refine State.srvRead_ev ?_ | refine srvTagRead_ev ?_
        | refine Ev.setFreeCtr ?_ | refine Ev.foldl ?_ _ ?_)
    | refine State.readFold_ev _ _ ?_ (fun a t h => State.srvRead_ev h) | dsimp only | split

end Sys2Proof.Machine
end

