-- ==== Sys2Proof/Laws/KeepsServer.lean ====
section
/-! SUPPORT. What the operations of Machine/Server.lean keep. -/

set_option linter.all false
set_option Elab.async false

namespace Sys2Proof.Machine

theorem State.srvStore_ev {m : Nat} {s0 t : State} {op : Nat} (h : Ev m s0 t)
    (k : 0x200000804000040 &&& m = 0x200000804000040 := by decide) : Ev m s0 (State.srvStore t op).2 := by
  refine Ev.comp h ?_ k
  clear h k
  unfold State.srvStore
  try dsimp only
  repeat' first
    | (with_reducible first
        | exact Ev.refl _ _ | intro _ | refine Ev.ite ?_ ?_ | refine State.storeCmd_ev ?_ | refine State.storeDo_ev ?_
        | refine Ev.modStore ?_ | refine Ev.raise ?_ 25 (by decide))
    | dsimp only | split

theorem State.srvCommit_ev {m : Nat} {s0 t : State} {ok : Bool} {f : Srv → Srv} (hf : SoundSrv t.srv → SoundSrv (f t.srv)) (h : Ev m s0 t)
    (k : 0x4004002 &&& m = 0x4004002 := by decide) : Ev m s0 (State.srvCommit t ok f).2 := by
  refine Ev.comp h ?_ k
  clear h k
  unfold State.srvCommit
  try dsimp only
  repeat' first
    | (with_reducible first
        | exact Ev.refl _ _ | intro _ | refine Ev.ite ?_ ?_ | refine Ev.emcy ?_ | refine Ev.draw ?_ | refine Ev.modStore ?_
        | refine Ev.modSrv ?_ hf)
    | dsimp only | split

theorem State.saveObjects_ev {m : Nat} {s0 t : State} {sub : Nat} {v : Nat} {ok : Bool} (h : Ev m s0 t)
    (k : 0x4004002 &&& m = 0x4004002 := by decide) : Ev m s0 (State.saveObjects t sub v ok).2 := by
  refine Ev.comp h ?_ k
  clear h k
  unfold State.saveObjects
  try dsimp only
  repeat' first
    | (with_reducible first
        | exact Ev.refl _ _ | intro _ | refine Ev.ite ?_ ?_
        | refine State.srvCommit_ev (by with_unfolding_all exact fun x => ⟨x.objs, x.emcy, x.hist, x.rx⟩) ?_
        | refine Ev.foldl ?_ _ ?_)
    | dsimp only | split

theorem State.restoreObjects_ev {m : Nat} {s0 t : State} {sub : Nat} {v : Nat} {ok : Bool} (h : Ev m s0 t)
    (k : 0x4004002 &&& m = 0x4004002 := by decide) : Ev m s0 (State.restoreObjects t sub v ok).2 := by
  refine Ev.comp h ?_ k
  clear h k
  unfold State.restoreObjects
  try dsimp only
  repeat' first
    | (with_reducible first
        | exact Ev.refl _ _ | intro _ | refine Ev.ite ?_ ?_
        | refine State.srvCommit_ev (by with_unfolding_all exact fun x => ⟨x.objs, x.emcy, x.hist, x.rx⟩) ?_)
    | dsimp only | split

theorem odRefused_ev {m : Nat} {s0 t : State} {ok : Bool} (h : Ev m s0 t)
    (k : 0x0 &&& m = 0x0 := by decide) : Ev m s0 (odRefused ok t).2 := by
  refine Ev.comp h ?_ k
  clear h k
  unfold odRefused
  try dsimp only
  repeat' first
    | (with_reducible first
        | exact Ev.refl _ _ | intro _ | refine Ev.ite ?_ ?_)
    | dsimp only | split

theorem State.odField_ev {m : Nat} {s0 t : State} {a : Nat} {sh : Nat} {n : Nat} {v : Nat} (h : Ev m s0 t)
    (k : 0xffffffff0fbfef26 &&& m = 0xffffffff0fbfef26 := by decide) : Ev m s0 (State.odField t a sh n v).2 := by
  refine Ev.comp h ?_ k
  clear h k
  unfold State.odField
  try dsimp only
  repeat' first
    | (with_reducible first
        | exact Ev.refl _ _ | intro _ | refine Ev.ite ?_ ?_ | refine odRefused_ev ?_ | refine State.regWrite_ev ?_)
    | dsimp only | split

theorem State.odHalf_ev {m : Nat} {s0 t : State} {base : Nat} {high : Bool} {v : Nat} (h : Ev m s0 t)
    (k : 0xffffffff0fbfef26 &&& m = 0xffffffff0fbfef26 := by decide) : Ev m s0 (State.odHalf t base high v).2 := by
  refine Ev.comp h ?_ k
  clear h k
  unfold State.odHalf
  try dsimp only
  repeat' first
    | (with_reducible first
        | exact Ev.refl _ _ | intro _ | refine Ev.ite ?_ ?_ | refine odRefused_ev ?_ | refine State.regWrite_ev ?_)
    | dsimp only | split

theorem State.odWords_ev {m : Nat} {s0 t : State} {l : List Nat} {v : Nat} (h : Ev m s0 t)
    (k : 0xffffffff0fbfef26 &&& m = 0xffffffff0fbfef26 := by decide) : Ev m s0 (State.odWords t l v).2 := by
  refine Ev.comp h ?_ k
  clear h k
  unfold State.odWords
  try dsimp only
  repeat' first
    | (with_reducible first
        | exact Ev.refl _ _ | intro _ | refine Ev.ite ?_ ?_ | refine odRefused_ev ?_ | refine State.regWrite_ev ?_
        | refine Ev.foldl ?_ _ ?_)
    | dsimp only | split

theorem State.odMap_ev {m : Nat} {s0 t : State} {tx : Bool} {n : Fin 16} {idx : Nat} {sub : Nat} {v : Nat} (h : Ev m s0 t)
    (k : 0xffffffff00004000 &&& m = 0xffffffff00004000 := by decide) : Ev m s0 (State.odMap t tx n idx sub v).2 := by
  refine Ev.comp h ?_ k
  clear h k
  unfold State.odMap
  try dsimp only
  repeat' first
    | (with_reducible first
        | exact Ev.refl _ _ | intro _ | refine Ev.ite ?_ ?_ | refine State.putComm_ev ?_ | refine Ev.foldl ?_ _ ?_)
    | dsimp only | split

theorem State.odComPut_ev {m : Nat} {s0 t : State} {tx : Bool} {n : Fin 16} {sub : Nat} {v : Nat} (h : Ev m s0 t)
    (k : 0xffffffff0fbfef26 &&& m = 0xffffffff0fbfef26 := by decide) : Ev m s0 (State.odComPut t tx n sub v).2 := by
  refine Ev.comp h ?_ k
  clear h k
  unfold State.odComPut
  try dsimp only
  repeat' first
    | (with_reducible first
        | exact Ev.refl _ _ | intro _ | refine Ev.ite ?_ ?_ | refine State.odField_ev ?_ | refine State.pdoCobWrite_ev ?_)
    | dsimp only | split

theorem State.odCiaPut_ev {m : Nat} {s0 t : State} {a : Fin 8} {o : Nat} {v : Nat} (h : Ev m s0 t)
    (k : 0xffffffff0fbfef26 &&& m = 0xffffffff0fbfef26 := by decide) : Ev m s0 (State.odCiaPut t a o v).2 := by
  refine Ev.comp h ?_ k
  clear h k
  unfold State.odCiaPut
  try dsimp only
  repeat' first
    | (with_reducible first
        | exact Ev.refl _ _ | intro _ | refine Ev.ite ?_ ?_ | refine State.odField_ev ?_ | refine odRefused_ev ?_
        | refine State.regWrite_ev ?_ | refine State.setObj_ev ?_ | refine Ev.modAxis ?_ | refine Ev.modEng ?_)
    | dsimp only | split

theorem State.odTension_ev {m : Nat} {s0 t : State} {a : Fin 8} {sub : Nat} {v : Nat} (h : Ev m s0 t)
    (k : 0xffffffff000e4400 &&& m = 0xffffffff000e4400 := by decide) : Ev m s0 (State.odTension t a sub v).2 := by
  refine Ev.comp h ?_ k
  clear h k
  unfold State.odTension
  try dsimp only
  repeat' first
    | (with_reducible first
        | exact Ev.refl _ _ | intro _ | refine Ev.ite ?_ ?_ | refine odRefused_ev ?_ | refine State.psetCtlWrite_ev ?_
        | refine State.psetRefuse_ev ?_ | refine State.psetWrite_ev ?_)
    | dsimp only | split

theorem State.odVendorPut_ev {m : Nat} {s0 t : State} {idx : Nat} {sub : Nat} {v : Nat} (h : Ev m s0 t)
    (k : 0xffffffff0fbfef26 &&& m = 0xffffffff0fbfef26 := by decide) : Ev m s0 (State.odVendorPut t idx sub v).2 := by
  refine Ev.comp h ?_ k
  clear h k
  unfold State.odVendorPut
  try dsimp only
  repeat' first
    | (with_reducible first
        | exact Ev.refl _ _ | intro _ | refine Ev.ite ?_ ?_ | refine State.handoverAsk_ev ?_ | refine State.odField_ev ?_
        | refine State.odHalf_ev ?_ | refine odRefused_ev ?_ | refine State.parkRequest_ev ?_ | refine State.regWrite_ev ?_
        | refine State.scsCommand_ev ?_ | refine State.scsComplete_ev ?_ | refine State.setObj_ev ?_ | refine State.unpark_ev ?_)
    | dsimp only | split

theorem State.odPut_ev {m : Nat} {s0 t : State} {idx : Nat} {sub : Nat} {v : Nat} {ok : Bool} (h : Ev m s0 t)
    (k : 0xffffffff0fbfef26 &&& m = 0xffffffff0fbfef26 := by decide) : Ev m s0 (State.odPut t idx sub v ok).2 := by
  refine Ev.comp h ?_ k
  clear h k
  unfold State.odPut
  try dsimp only
  repeat' first
    | (with_reducible first
        | exact Ev.refl _ _ | intro _ | refine Ev.ite ?_ ?_
        | refine Ev.modSrv ?_ (fun x => ⟨x.objs, x.emcy, Nat.zero_le _, x.rx⟩) | refine State.odCiaPut_ev ?_
        | refine State.odComPut_ev ?_ | refine State.odField_ev ?_ | refine State.odMap_ev ?_ | refine State.odTension_ev ?_
        | refine State.odVendorPut_ev ?_ | refine State.odWords_ev ?_ | refine State.putComm_ev ?_
        | refine State.restoreObjects_ev ?_ | refine State.saveObjects_ev ?_ | refine State.setObj_ev ?_ | refine Ev.modSrv ?_)
    | dsimp only | split

theorem srvTagWrite_ev {m : Nat} {s0 t : State} {x0 : Nat} {x1 : List Word} (h : Ev m s0 t)
    (k : 0x80000808000000 &&& m = 0x80000808000000 := by decide) : Ev m s0 (srvTagWrite x0 x1 t).2 := by
  refine Ev.comp h ?_ k
  clear h k
  induction x1 generalizing t x0
  all_goals unfold srvTagWrite
  · exact Ev.refl _ _
  rename_i ih
  try dsimp only
  repeat' first
    | (with_reducible first
        | exact Ev.refl _ _ | refine Ev.trans ?_ ih | refine Ev.trans ?_ ih | intro _ | refine Ev.ite ?_ ?_
        | refine State.srvTag_ev ?_)
    | dsimp only | split

theorem State.odWrite_ev {m : Nat} {s0 t : State} {idx : Nat} {sub : Nat} {data : List Byte} {ok : Bool} (h : Ev m s0 t)
    (k : 0xffffffff0fbfef26 &&& m = 0xffffffff0fbfef26 := by decide) : Ev m s0 (State.odWrite t idx sub data ok).2 := by
  refine Ev.comp h ?_ k
  clear h k
  unfold State.odWrite
  try dsimp only
  repeat' first
    | (with_reducible first
        | exact Ev.refl _ _ | intro _ | refine Ev.ite ?_ ?_ | refine State.odPut_ev ?_ | refine srvTagWrite_ev ?_
        | refine Ev.emcy ?_)
    | dsimp only | split

theorem State.imageDrop_ev {m : Nat} {s0 t : State}  (h : Ev m s0 t)
    (k : 0x200000804000040 &&& m = 0x200000804000040 := by decide) : Ev m s0 (State.imageDrop t) := by
  refine Ev.comp h ?_ k
  clear h k
  unfold State.imageDrop
  try dsimp only
  repeat' first
    | (with_reducible first
        | exact Ev.refl _ _ | intro _ | refine Ev.ite ?_ ?_ | refine State.srvStore_ev ?_ | refine Ev.modStore ?_)
    | dsimp only | split

theorem State.imageStart_ev {m : Nat} {s0 t : State}  (h : Ev m s0 t)
    (k : 0x200000804004040 &&& m = 0x200000804004040 := by decide) : Ev m s0 (State.imageStart t).2 := by
  refine Ev.comp h ?_ k
  clear h k
  unfold State.imageStart
  try dsimp only
  repeat' first
    | (with_reducible first
        | exact Ev.refl _ _ | intro _ | refine Ev.ite ?_ ?_ | refine State.srvStore_ev ?_ | refine Ev.emcy ?_
        | refine Ev.modStore ?_)
    | dsimp only | split

theorem State.imageRefuse_ev {m : Nat} {s0 t : State} {got : List Byte} (h : Ev m s0 t)
    (k : 0x200000804000042 &&& m = 0x200000804000042 := by decide) : Ev m s0 (State.imageRefuse t got).2 := by
  refine Ev.comp h ?_ k
  clear h k
  unfold State.imageRefuse
  try dsimp only
  repeat' first
    | (with_reducible first
        | exact Ev.refl _ _ | intro _ | refine Ev.ite ?_ ?_ | refine State.imageDrop_ev ?_ | refine Ev.draw ?_
        | refine Ev.put ?_ 25 (by decide))
    | dsimp only | split

theorem imageProg_ev {m : Nat} {s0 t : State} {x0 : Nat} {x1 : Nat} {x2 : List Byte} (h : Ev m s0 t)
    (k : 0x4000040 &&& m = 0x4000040 := by decide) : Ev m s0 (imageProg x0 x1 x2 t) := by
  refine Ev.comp h ?_ k
  clear h k
  induction x0 generalizing t x1
  all_goals unfold imageProg
  · exact Ev.refl _ _
  rename_i ih
  try dsimp only
  repeat' first
    | (with_reducible first
        | exact Ev.refl _ _ | refine Ev.trans ?_ ih | refine Ev.trans ?_ ih | intro _ | refine Ev.ite ?_ ?_
        | refine State.progBank_ev ?_)
    | dsimp only | split

theorem State.imageData_ev {m : Nat} {s0 t : State} {data : List Byte} (h : Ev m s0 t)
    (k : 0x200000804000042 &&& m = 0x200000804000042 := by decide) : Ev m s0 (State.imageData t data).2 := by
  refine Ev.comp h ?_ k
  clear h k
  unfold State.imageData
  try dsimp only
  repeat' first
    | (with_reducible first
        | exact Ev.refl _ _ | intro _ | refine Ev.ite ?_ ?_ | refine imageProg_ev ?_ | refine State.imageRefuse_ev ?_
        | refine Ev.modStore ?_)
    | dsimp only | split

theorem State.imageEnd_ev {m : Nat} {s0 t : State}  (h : Ev m s0 t)
    (k : 0x200000804000040 &&& m = 0x200000804000040 := by decide) : Ev m s0 (State.imageEnd t).2 := by
  refine Ev.comp h ?_ k
  clear h k
  unfold State.imageEnd
  try dsimp only
  repeat' first
    | (with_reducible first
        | exact Ev.refl _ _ | intro _ | refine Ev.ite ?_ ?_ | refine State.progBank_ev ?_ | refine State.srvStore_ev ?_
        | refine Ev.modStore ?_)
    | dsimp only | split

theorem srvTagPut_ev {m : Nat} {s0 t : State} {x0 : Nat} {x1 : List Word} (h : Ev m s0 t)
    (k : 0x80000808000000 &&& m = 0x80000808000000 := by decide) : Ev m s0 (srvTagPut x0 x1 t).2 := by
  refine Ev.comp h ?_ k
  clear h k
  induction x1 generalizing t x0
  all_goals unfold srvTagPut
  · exact Ev.refl _ _
  rename_i ih
  try dsimp only
  repeat' first
    | (with_reducible first
        | exact Ev.refl _ _ | refine Ev.trans ?_ ih | refine Ev.trans ?_ ih | intro _ | refine Ev.ite ?_ ?_
        | refine State.srvTag_ev ?_)
    | dsimp only | split

theorem State.optionPut_ev {m : Nat} {s0 t : State} {data : List Byte} (h : Ev m s0 t)
    (k : 0x80000808000000 &&& m = 0x80000808000000 := by decide) : Ev m s0 (State.optionPut t data).2 := by
  refine Ev.comp h ?_ k
  clear h k
  unfold State.optionPut
  try dsimp only
  repeat' first
    | (with_reducible first
        | exact Ev.refl _ _ | intro _ | refine Ev.ite ?_ ?_ | refine srvTagPut_ev ?_)
    | dsimp only | split

theorem State.loadData_ev {m : Nat} {s0 t : State} {old : List Byte} {data : List Byte} (h : Ev m s0 t)
    (k : 0x200000804000042 &&& m = 0x200000804000042 := by decide) : Ev m s0 (State.loadData t old data).2 := by
  refine Ev.comp h ?_ k
  clear h k
  unfold State.loadData
  try dsimp only
  repeat' first
    | (with_reducible first
        | exact Ev.refl _ _ | intro _ | refine Ev.ite ?_ ?_ | refine State.imageData_ev ?_ | refine State.imageDrop_ev ?_)
    | dsimp only | split

theorem State.loadEnd_ev {m : Nat} {s0 t : State} {got : List Byte} (h : Ev m s0 t)
    (k : 0x28000080c004042 &&& m = 0x28000080c004042 := by decide) : Ev m s0 (State.loadEnd t got).2 := by
  refine Ev.comp h ?_ k
  clear h k
  unfold State.loadEnd
  try dsimp only
  repeat' first
    | (with_reducible first
        | exact Ev.refl _ _ | intro _ | refine Ev.ite ?_ ?_ | refine State.imageData_ev ?_ | refine State.imageEnd_ev ?_
        | refine State.imageStart_ev ?_ | refine State.optionPut_ev ?_)
    | dsimp only | split

theorem State.sdoReply_ev {m : Nat} {s0 t : State} {ch : Fin 2} {b : List Byte} (h : Ev m s0 t)
    (k : 0x20000800000004 &&& m = 0x20000800000004 := by decide) : Ev m s0 (State.sdoReply t ch b) := by
  refine Ev.comp h ?_ k
  clear h k
  unfold State.sdoReply
  try dsimp only
  repeat' first
    | (with_reducible first
        | exact Ev.refl _ _ | intro _ | refine Ev.ite ?_ ?_ | refine State.canPut_ev ?_)
    | dsimp only | split

theorem sdoDone_ev {m : Nat} {s0 : State} {ch : Fin 2} {idx sub : Nat} {r : Nat × State} (h : Ev m s0 r.2)
    (k : 0x20000800000004 &&& m = 0x20000800000004 := by decide) : Ev m s0 (sdoDone ch idx sub r) := by
  unfold sdoDone
  exact Ev.ite (fun _ => State.sdoReply_ev h k) fun _ => State.sdoReply_ev h k

theorem State.sdoFail_ev {m : Nat} {s0 t : State} {ch : Fin 2} {idx : Nat} {sub : Nat} {code : Nat} (h : Ev m s0 t)
    (k : 0x20000800000004 &&& m = 0x20000800000004 := by decide) : Ev m s0 (State.sdoFail t ch idx sub code) := by
  refine Ev.comp h ?_ k
  clear h k
  unfold State.sdoFail
  try dsimp only
  repeat' first
    | (with_reducible first
        | exact Ev.refl _ _ | intro _ | refine Ev.ite ?_ ?_ | refine sdoDone_ev ?_)
    | dsimp only | split

theorem State.xferDrop_ev {m : Nat} {s0 t : State} {ch : Fin 2} (h : Ev m s0 t)
    (k : 0x200000804004040 &&& m = 0x200000804004040 := by decide) : Ev m s0 (State.xferDrop t ch) := by
  refine Ev.comp h ?_ k
  clear h k
  unfold State.xferDrop
  try dsimp only
  repeat' first
    | (with_reducible first
        | exact Ev.refl _ _ | intro _ | refine Ev.ite ?_ ?_ | refine State.imageDrop_ev ?_ | refine Ev.modSrv ?_)
    | dsimp only | split

theorem State.sdoRx_ev {m : Nat} {s0 t : State} {ch : Fin 2} {idx : Nat} {sub : Nat} {req : List Byte} {served : Bool} {f : State → State} (h : Ev m s0 t) (hf : ∀ v, Ev m v (f v))
    (k : 0x60000900004004 &&& m = 0x60000900004004 := by decide) : Ev m s0 (State.sdoRx t ch idx sub req served f) := by
  unfold State.sdoRx
  try dsimp only
  repeat' first
    | (with_reducible first
        | exact Ev.refl _ _
        | refine Ev.trans ?_ (hf _ )
        | exact h
        | intro _
        | refine Ev.ite ?_ ?_
        | refine Ev.bump ?_ 0 (by first | decide | (simp only [ FW_LOST, FW_LOST_COUNT]; omega)) (k := bit_of k (by decide))
        | refine Ev.bump ?_ 21 (by first | decide | (simp only [ CAN_CNT3, CAN_CNT3_IGN]; omega)) (k := bit_of k (by decide))
        | refine Ev.bump ?_ 22 (by first | decide | (simp only [ PDO_HB, PDO_HB_ALIVE]; omega)) (k := bit_of k (by decide))
        | refine Ev.modSrv ?_ (by with_unfolding_all exact fun x => ⟨x.objs, x.emcy, x.hist, x.rx⟩) (bit_of k (by decide))
        | refine Ev.modSrv ?_ (k := bit_of k (by decide))
        | refine State.abandoned_ev ?_ (k := sub_trans (by decide) k)
        | refine State.canEvt_ev ?_ (k := sub_trans (by decide) k)
        | refine State.canRecord_ev ?_ (sub_trans (by decide) k)
        | refine State.canRx_ev ?_ ?_ (k := sub_trans (by decide) k)
        | refine State.sdoFail_ev ?_ (k := sub_trans (by decide) k))
    | dsimp only | split

theorem State.sdoOpen_ev {m : Nat} {s0 t : State} {ch : Fin 2} {idx : Nat} {sub : Nat} {f : State → State} (h : Ev m s0 t) (hf : ∀ v, Ev m v (f v))
    (k : 0x220000804004044 &&& m = 0x220000804004044 := by decide) : Ev m s0 (State.sdoOpen t ch idx sub f) := by
  unfold State.sdoOpen
  try dsimp only
  repeat' first
    | (with_reducible first
        | exact Ev.refl _ _ | exact h | refine Ev.trans ?_ (hf _ ) | exact h | refine Ev.trans ?_ (hf _ ) | intro _
        | refine Ev.ite ?_ ?_ | refine State.sdoFail_ev ?_ (sub_trans (by decide) k)
        | refine State.xferDrop_ev ?_ (sub_trans (by decide) k))
    | dsimp only | split

theorem State.sdoGive_ev {m : Nat} {s0 t : State} {ch : Fin 2} {idx : Nat} {sub : Nat} {b : List Byte} (h : Ev m s0 t)
    (k : 0x20000800004004 &&& m = 0x20000800004004 := by decide) : Ev m s0 (State.sdoGive t ch idx sub b) := by
  refine Ev.comp h ?_ k
  clear h k
  unfold State.sdoGive
  try dsimp only
  repeat' first
    | (with_reducible first
        | exact Ev.refl _ _ | intro _ | refine Ev.ite ?_ ?_ | refine State.sdoReply_ev ?_ | refine Ev.modSrv ?_)
    | dsimp only | split

theorem State.sdoWrite_ev {m : Nat} {s0 t : State} {ch : Fin 2} {idx : Nat} {sub : Nat} {data : List Byte} {ok : Bool} (h : Ev m s0 t)
    (k : 0xffffffff0fbfef66 &&& m = 0xffffffff0fbfef66 := by decide) : Ev m s0 (State.sdoWrite t ch idx sub data ok) := by
  refine Ev.comp h ?_ k
  clear h k
  unfold State.sdoWrite
  try dsimp only
  repeat' first
    | (with_reducible first
        | exact Ev.refl _ _ | intro _ | refine Ev.ite ?_ ?_ | refine State.loadEnd_ev ?_ | refine State.odWrite_ev ?_
        | refine sdoDone_ev ?_ | refine State.sdoFail_ev ?_)
    | dsimp only | split

theorem State.sdoBegin_ev {m : Nat} {s0 t : State} {ch : Fin 2} {idx : Nat} {sub : Nat} {size : Nat} (h : Ev m s0 t)
    (k : 0x220000804004044 &&& m = 0x220000804004044 := by decide) : Ev m s0 (State.sdoBegin t ch idx sub size) := by
  refine Ev.comp h ?_ k
  clear h k
  unfold State.sdoBegin
  try dsimp only
  repeat' first
    | (with_reducible first
        | exact Ev.refl _ _ | intro _ | refine Ev.ite ?_ ?_ | refine State.imageStart_ev ?_ | refine sdoDone_ev ?_
        | refine State.sdoFail_ev ?_ | refine Ev.modSrv ?_)
    | dsimp only | split

theorem State.segDown_ev {m : Nat} {s0 t : State} {ch : Fin 2} {x : Xfer} {last : Bool} {data : List Byte} (h : Ev m s0 t)
    (k : 0xffffffff0fbfef66 &&& m = 0xffffffff0fbfef66 := by decide) : Ev m s0 (State.segDown t ch x last data) := by
  refine Ev.comp h ?_ k
  clear h k
  unfold State.segDown
  try dsimp only
  repeat' first
    | (with_reducible first
        | exact Ev.refl _ _ | intro _ | refine Ev.ite ?_ ?_ | refine State.loadData_ev ?_ | refine State.loadEnd_ev ?_
        | refine State.odWrite_ev ?_ | refine State.sdoFail_ev ?_ | refine State.sdoReply_ev ?_ | refine State.xferDrop_ev ?_
        | refine Ev.modSrv ?_)
    | dsimp only | split

theorem State.segUp_ev {m : Nat} {s0 t : State} {ch : Fin 2} {x : Xfer} (h : Ev m s0 t)
    (k : 0x20000800004004 &&& m = 0x20000800004004 := by decide) : Ev m s0 (State.segUp t ch x) := by
  refine Ev.comp h ?_ k
  clear h k
  unfold State.segUp
  try dsimp only
  repeat' first
    | (with_reducible first
        | exact Ev.refl _ _ | intro _ | refine Ev.ite ?_ ?_ | refine State.sdoReply_ev ?_ | refine Ev.modSrv ?_)
    | dsimp only | split

theorem State.sdoServe_ev {m : Nat} {s0 t : State} {ch : Fin 2} {idx : Nat} {sub : Nat} {data : List Byte} {ok : Bool} (h : Ev m s0 t)
    (k : 0xffffffff0fbfef66 &&& m = 0xffffffff0fbfef66 := by decide) : Ev m s0 (State.sdoServe t ch idx sub data ok) := by
  refine Ev.comp h ?_ k
  clear h k
  unfold State.sdoServe
  try dsimp only
  repeat' first
    | (with_reducible first
        | exact Ev.refl _ _ | intro _ | refine Ev.ite ?_ ?_ | refine State.sdoOpen_ev ?_ ?_ | refine State.sdoRx_ev ?_ ?_
        | refine State.sdoWrite_ev ?_)
    | dsimp only | split

theorem State.serverStart_ev {m : Nat} {s0 t : State}  (h : Ev m s0 t)
    (k : 0xffffffff0fbfef26 &&& m = 0xffffffff0fbfef26 := by decide) : Ev m s0 (State.serverStart t) := by
  refine Ev.comp h ?_ k
  clear h k
  unfold State.serverStart
  try dsimp only
  repeat' first
    | (with_reducible first
        | exact Ev.refl _ _ | intro _ | refine Ev.ite ?_ ?_ | refine State.bootUp_ev ?_ | refine State.loadComm_ev ?_
        | refine State.odPut_ev ?_ | refine State.psetCommit_ev ?_ | refine Ev.forFin ?_ ?_ | refine Ev.foldl ?_ _ ?_)
    | dsimp only | split

theorem State.busWrite_ev {m : Nat} {s0 t : State} {ten : Nat} {port : Nat} {a : Nat} {v : Word} (h : Ev m s0 t)
    (k : 0xffffffff0fbfef26 &&& m = 0xffffffff0fbfef26 := by decide) : Ev m s0 (State.busWrite t ten port a v) := by
  refine Ev.comp h ?_ k
  clear h k
  unfold State.busWrite
  try dsimp only
  repeat' first
    | (with_reducible first
        | exact Ev.refl _ _ | intro _ | refine Ev.ite ?_ ?_ | refine State.regWrite_ev ?_ | refine State.serverStart_ev ?_)
    | dsimp only | split

end Sys2Proof.Machine
end

