-- ==== Sys2Proof/Laws/KeepsCores.lean ====
section
/-! SUPPORT. What the operations of Machine/Cores.lean keep. -/

set_option linter.all false
set_option Elab.async false

namespace Sys2Proof.Machine

theorem State.byCore_ev {m : Nat} {s0 t : State} {c : Fin 4} {f : Fin 8 → State → State} (h : Ev m s0 t) (hf : ∀ i0 v, Ev m v (f i0 v))
    (k : 0x0 &&& m = 0x0 := by decide) : Ev m s0 (State.byCore t c f) := by
  unfold State.byCore
  try dsimp only
  repeat' first
    | (with_reducible first
        | exact Ev.refl _ _ | exact h | refine Ev.trans ?_ (hf _ _ ) | exact h | refine Ev.trans ?_ (hf _ _ ) | intro _
        | refine Ev.ite ?_ ?_ | refine Ev.whenUp ?_ ?_)
    | dsimp only | split

theorem State.setX_ev {m : Nat} {s0 t : State} {t' : Fin 8} {rd : Fin 32} {v : Word} (h : Ev m s0 t)
    (k : 0x1000000 &&& m = 0x1000000 := by decide) : Ev m s0 (State.setX t t' rd v) := by
  refine Ev.comp h ?_ k
  clear h k
  unfold State.setX
  try dsimp only
  repeat' first
    | (with_reducible first
        | exact Ev.refl _ _ | intro _ | refine Ev.ite ?_ ?_ | refine State.modBank_ev ?_)
    | dsimp only | split

theorem State.setF_ev {m : Nat} {s0 t : State} {t' : Fin 8} {rd : Fin 32} {v : Word} (h : Ev m s0 t)
    (k : 0x1000000 &&& m = 0x1000000 := by decide) : Ev m s0 (State.setF t t' rd v) := by
  refine Ev.comp h ?_ k
  clear h k
  unfold State.setF
  try dsimp only
  repeat' first
    | (with_reducible first
        | exact Ev.refl _ _ | intro _ | refine Ev.ite ?_ ?_ | refine State.modBank_ev ?_)
    | dsimp only | split

theorem State.illegal_ev {m : Nat} {s0 t : State} {c : Fin 4} (h : Ev m s0 t)
    (k : 0xffffffff059fef06 &&& m = 0xffffffff059fef06 := by decide) : Ev m s0 (State.illegal t c) := by
  refine Ev.comp h ?_ k
  clear h k
  unfold State.illegal
  try dsimp only
  repeat' first
    | (with_reducible first
        | exact Ev.refl _ _ | intro _ | refine Ev.ite ?_ ?_ | refine State.trap_ev ?_ | refine Ev.draw ?_)
    | dsimp only | split

theorem State.access_ev {m : Nat} {s0 t : State} {c : Fin 4} {t' : Fin 8} {k' : Acc} {a : Nat} {n : Nat} {f : State → State} (h : Ev m s0 t) (hf : ∀ v, Ev m v (f v))
    (k : 0xffffffff059fef06 &&& m = 0xffffffff059fef06 := by decide) : Ev m s0 (State.access t c t' k' a n f) := by
  unfold State.access
  try dsimp only
  repeat' first
    | (with_reducible first
        | exact Ev.refl _ _ | exact h | refine Ev.trans ?_ (hf _ ) | exact h | refine Ev.trans ?_ (hf _ ) | intro _
        | refine Ev.ite ?_ ?_ | refine State.accessFault_ev ?_ (sub_trans (by decide) k)
        | refine State.misaligned_ev ?_ (sub_trans (by decide) k))
    | dsimp only | split

theorem State.readThen_ev {m : Nat} {s0 t : State} {c : Fin 4} {t' : Fin 8} {k' : Acc} {a : Nat} {n : Nat} {f : Nat → State → State} (h : Ev m s0 t) (hf : ∀ i0 v, Ev m v (f i0 v))
    (k : 0xffffffff05ffef96 &&& m = 0xffffffff05ffef96 := by decide) : Ev m s0 (State.readThen t c t' k' a n f) := by
  unfold State.readThen
  try dsimp only
  repeat' first
    | (with_reducible first
        | exact Ev.refl _ _ | exact h | refine Ev.trans ?_ (hf _ _ ) | exact h | refine Ev.trans ?_ (hf _ _ ) | intro _
        | refine Ev.ite ?_ ?_ | refine State.accessFault_ev ?_ (sub_trans (by decide) k)
        | refine State.memRead_ev ?_ (sub_trans (by decide) k) | refine State.regRead_ev ?_ (sub_trans (by decide) k))
    | (rename State.memRead _ _ _ _ = _ => hq; replace hq := congrArg Prod.snd hq; dsimp only at hq; rw [← hq]; clear hq) | dsimp only | split

theorem State.storeDone_ev {m : Nat} {s0 t : State} {c : Fin 4} {t' : Fin 8} {k' : Acc} {a : Nat} {n : Nat} {v : Nat} {f : State → State} (h : Ev m s0 t) (hf : ∀ v, Ev m v (f v))
    (k : 0xffffffff0fbfefe6 &&& m = 0xffffffff0fbfefe6 := by decide) : Ev m s0 (State.storeDone t c t' k' a n v f) := by
  unfold State.storeDone
  try dsimp only
  repeat' first
    | (with_reducible first
        | exact Ev.refl _ _ | exact h | refine Ev.trans ?_ (hf _ ) | exact h | refine Ev.trans ?_ (hf _ ) | intro _
        | refine Ev.ite ?_ ?_ | refine State.accessFault_ev ?_ (sub_trans (by decide) k)
        | refine State.busWrite_ev ?_ (sub_trans (by decide) k) | refine State.memWrite_ev ?_ (sub_trans (by decide) k))
    | (rename State.memWrite _ _ _ _ _ _ = _ => hq; replace hq := congrArg Prod.snd hq; dsimp only at hq; rw [← hq]; clear hq) | dsimp only | split

theorem State.cacheRead_ev {m : Nat} {s0 t : State} {c : Fin 4} {a : Nat} {v : Nat} (h : Ev m s0 t)
    (k : 0x1000002 &&& m = 0x1000002 := by decide) : Ev m s0 (State.cacheRead t c a v).2 := by
  refine Ev.comp h ?_ k
  clear h k
  unfold State.cacheRead
  try dsimp only
  repeat' first
    | (with_reducible first
        | exact Ev.refl _ _ | intro _ | refine Ev.ite ?_ ?_ | refine State.modCore_ev ?_ | refine Ev.draw ?_)
    | dsimp only | split

theorem State.fetchPart_ev {m : Nat} {s0 t : State} {c : Fin 4} {t' : Fin 8} {a : Nat} {n : Nat} {f : Nat → State → State} (h : Ev m s0 t) (hf : ∀ i0 v, Ev m v (f i0 v))
    (k : 0xffffffff059fef86 &&& m = 0xffffffff059fef86 := by decide) : Ev m s0 (State.fetchPart t c t' a n f) := by
  unfold State.fetchPart
  try dsimp only
  repeat' first
    | (with_reducible first
        | exact Ev.refl _ _ | exact h | refine Ev.trans ?_ (hf _ _ ) | exact h | refine Ev.trans ?_ (hf _ _ ) | intro _
        | refine Ev.ite ?_ ?_ | refine State.accessFault_ev ?_ (sub_trans (by decide) k)
        | refine State.cacheRead_ev ?_ (sub_trans (by decide) k) | refine State.memRead_ev ?_ (sub_trans (by decide) k))
    | (rename State.memRead _ _ _ _ = _ => hq; replace hq := congrArg Prod.snd hq; dsimp only at hq; rw [← hq]; clear hq) | dsimp only | split

theorem State.retire_ev {m : Nat} {s0 t : State} {c : Fin 4} (h : Ev m s0 t)
    (k : 0x1000000 &&& m = 0x1000000 := by decide) : Ev m s0 (State.retire t c) := by
  refine Ev.comp h ?_ k
  clear h k
  unfold State.retire
  try dsimp only
  repeat' first
    | (with_reducible first
        | exact Ev.refl _ _
        | intro _
        | refine Ev.ite ?_ ?_
        | refine State.modCore_ev ?_)
    | dsimp only | split

theorem State.unissue_ev {m : Nat} {s0 t : State} {c : Fin 4} (h : Ev m s0 t)
    (k : 0x1000000 &&& m = 0x1000000 := by decide) : Ev m s0 (State.unissue t c) := by
  refine Ev.comp h ?_ k
  clear h k
  unfold State.unissue
  try dsimp only
  repeat' first
    | (with_reducible first
        | exact Ev.refl _ _
        | intro _
        | refine Ev.ite ?_ ?_
        | refine State.modCore_ev ?_)
    | dsimp only | split

theorem State.dmaFault_ev {m : Nat} {s0 t : State} {c : Fin 32} {code : Nat} {a : Nat} {reason : Nat} {desc : Bool} {side : Bool} (h : Ev m s0 t)
    (k : 0x1001000000 &&& m = 0x1001000000 := by decide) : Ev m s0 (State.dmaFault t c code a reason desc side) := by
  refine Ev.comp h ?_ k
  clear h k
  unfold State.dmaFault
  try dsimp only
  repeat' first
    | (with_reducible first
        | exact Ev.refl _ _
        | intro _
        | refine Ev.ite ?_ ?_
        | refine Ev.mark ?_
        | refine Ev.put ?_ 4 (by first | decide | (simp only [ DMA_FAULT_ADDR, DMA_FAULT_INFO, DMA_FAULT_INFO_DESC, DMA_FAULT_INFO_REASON, DMA_FAULT_INFO_SIDE]; omega))
        | refine Ev.setReg ?_ 4 (by first | decide | (simp only [ DMA_FAULT_ADDR, DMA_FAULT_INFO, DMA_FAULT_INFO_DESC, DMA_FAULT_INFO_REASON, DMA_FAULT_INFO_SIDE]; omega))
        | refine State.dmaStop_ev ?_)
    | dsimp only | split

theorem State.dmaRead_ev {m : Nat} {s0 t : State} {c : Fin 32} {a : Nat} {n : Nat} (h : Ev m s0 t)
    (k : 0x1000c00e04892 &&& m = 0x1000c00e04892 := by decide) : Ev m s0 (State.dmaRead t c a n).2 := by
  refine Ev.comp h ?_ k
  clear h k
  unfold State.dmaRead
  try dsimp only
  repeat' first
    | (with_reducible first
        | exact Ev.refl _ _ | intro _ | refine Ev.ite ?_ ?_ | refine State.memRead_ev ?_ | refine State.regRead_ev ?_)
    | dsimp only | split

theorem dmaWords_ev {m : Nat} {s0 t : State} {x0 : Nat} {x1 : Nat} {x2 : Fin 32} (h : Ev m s0 t)
    (k : 0x1000c00e04892 &&& m = 0x1000c00e04892 := by decide) : Ev m s0 (dmaWords x0 x1 x2 t).2 := by
  refine Ev.comp h ?_ k
  clear h k
  induction x0 generalizing t x1
  all_goals unfold dmaWords
  · exact Ev.refl _ _
  rename_i ih
  try dsimp only
  repeat' first
    | (with_reducible first
        | exact Ev.refl _ _ | refine Ev.trans ?_ ih | refine Ev.trans ?_ ih | intro _ | refine Ev.ite ?_ ?_
        | refine State.dmaRead_ev ?_)
    | (rename dmaWords _ _ _ _ = _ => hq; replace hq := congrArg Prod.snd hq; dsimp only at hq; rw [← hq]; clear hq) | (rename State.dmaRead _ _ _ _ = _ => hq; replace hq := congrArg Prod.snd hq; dsimp only at hq; rw [← hq]; clear hq) | dsimp only | split

theorem State.dmaAdvance_ev {m : Nat} {s0 t : State} {c : Fin 32} {n : Nat} (h : Ev m s0 t)
    (k : 0x1801000000 &&& m = 0x1801000000 := by decide) : Ev m s0 (State.dmaAdvance t c n) := by
  refine Ev.comp h ?_ k
  clear h k
  unfold State.dmaAdvance
  try dsimp only
  repeat' first
    | (with_reducible first
        | exact Ev.refl _ _ | intro _ | refine Ev.ite ?_ ?_ | refine State.dmaComplete_ev ?_ | refine State.modDma_ev ?_)
    | dsimp only | split

theorem State.dmaBeat_ev {m : Nat} {s0 t : State} {c : Fin 32} (h : Ev m s0 t)
    (k : 0xffffffff0fffeff6 &&& m = 0xffffffff0fffeff6 := by decide) : Ev m s0 (State.dmaBeat t c) := by
  refine Ev.comp h ?_ k
  clear h k
  unfold State.dmaBeat
  try dsimp only
  repeat' first
    | (with_reducible first
        | exact Ev.refl _ _ | intro _ | refine Ev.ite ?_ ?_ | refine State.busWrite_ev ?_ | refine State.dmaAdvance_ev ?_
        | refine State.dmaFault_ev ?_ | refine State.dmaRead_ev ?_ | refine State.memWrite_ev ?_)
    | (rename State.memWrite _ _ _ _ _ _ = _ => hq; replace hq := congrArg Prod.snd hq; dsimp only at hq; rw [← hq]; clear hq) | (rename State.dmaRead _ _ _ _ = _ => hq; replace hq := congrArg Prod.snd hq; dsimp only at hq; rw [← hq]; clear hq) | dsimp only | split

end Sys2Proof.Machine
end

