-- ==== Sys2Proof/Laws/KeepsCopyPoint.lean ====
section
/-! SUPPORT. What the operations of Machine/CopyPoint.lean keep. -/

set_option linter.all false
set_option Elab.async false

namespace Sys2Proof.Machine

theorem copyWords_ev {m : Nat} {s0 t : State} {x0 : Nat} {x1 : Nat} (h : Ev m s0 t)
    (k : 0x1000c00e04892 &&& m = 0x1000c00e04892 := by decide) : Ev m s0 (copyWords x0 x1 t).2 := by
  refine Ev.comp h ?_ k
  clear h k
  induction x0 generalizing t x1
  all_goals unfold copyWords
  · exact Ev.refl _ _
  rename_i ih
  try dsimp only
  repeat' first
    | (with_reducible first
        | exact Ev.refl _ _ | refine Ev.trans ?_ ih | refine Ev.trans ?_ ih | intro _ | refine Ev.ite ?_ ?_
        | refine State.memRead_ev ?_ | refine State.regRead_ev ?_)
    | dsimp only | split

theorem State.userBlock_ev {m : Nat} {s0 t : State}  (h : Ev m s0 t)
    (k : 0x1000c00e04892 &&& m = 0x1000c00e04892 := by decide) : Ev m s0 (State.userBlock t).2 := by
  refine Ev.comp h ?_ k
  clear h k
  unfold State.userBlock
  try dsimp only
  repeat' first
    | (with_reducible first
        | exact Ev.refl _ _ | intro _ | refine Ev.ite ?_ ?_ | refine copyWords_ev ?_)
    | dsimp only | split

theorem State.copySend_ev {m : Nat} {s0 t : State} {ty : Nat} {pay : List Byte} (h : Ev m s0 t)
    (k : 0x800004 &&& m = 0x800004 := by decide) : Ev m s0 (State.copySend t ty pay) := by
  refine Ev.comp h ?_ k
  clear h k
  unfold State.copySend
  try dsimp only
  repeat' first
    | (with_reducible first
        | exact Ev.refl _ _ | intro _ | refine Ev.ite ?_ ?_ | refine State.originate_ev ?_)
    | dsimp only | split

theorem State.pairSend_ev {m : Nat} {s0 t : State}  (h : Ev m s0 t)
    (k : 0x800004 &&& m = 0x800004 := by decide) : Ev m s0 (State.pairSend t) := by
  refine Ev.comp h ?_ k
  clear h k
  unfold State.pairSend
  try dsimp only
  repeat' first
    | (with_reducible first
        | exact Ev.refl _ _ | intro _ | refine Ev.ite ?_ ?_ | refine State.copySend_ev ?_)
    | dsimp only | split

theorem State.copyBurst_ev {m : Nat} {s0 t : State} {n : Nat} {img : List Byte} (h : Ev m s0 t)
    (k : 0x808004 &&& m = 0x808004 := by decide) : Ev m s0 (State.copyBurst t n img) := by
  refine Ev.comp h ?_ k
  clear h k
  unfold State.copyBurst
  try dsimp only
  repeat' first
    | (with_reducible first
        | exact Ev.refl _ _ | intro _ | refine Ev.ite ?_ ?_ | refine State.copySend_ev ?_ | refine State.pairSend_ev ?_
        | refine Ev.modCp ?_ | refine Ev.foldl ?_ _ ?_)
    | dsimp only | split

theorem State.dutyPoint_ev {m : Nat} {s0 t : State}  (h : Ev m s0 t)
    (k : 0x401000c00e0c896 &&& m = 0x401000c00e0c896 := by decide) : Ev m s0 (State.dutyPoint t) := by
  refine Ev.comp h ?_ k
  clear h k
  unfold State.dutyPoint
  try dsimp only
  repeat' first
    | (with_reducible first
        | exact Ev.refl _ _ | intro _ | refine Ev.ite ?_ ?_ | refine State.copyBurst_ev ?_ | refine State.userBlock_ev ?_
        | refine Ev.put ?_ 26 (by decide))
    | dsimp only | split

theorem State.standbyPoint_ev {m : Nat} {s0 t : State}  (h : Ev m s0 t)
    (k : 0x808004 &&& m = 0x808004 := by decide) : Ev m s0 (State.standbyPoint t) := by
  refine Ev.comp h ?_ k
  clear h k
  unfold State.standbyPoint
  try dsimp only
  repeat' first
    | (with_reducible first
        | exact Ev.refl _ _ | intro _ | refine Ev.ite ?_ ?_ | refine State.pairSend_ev ?_ | refine Ev.modCp ?_)
    | dsimp only | split

end Sys2Proof.Machine
end

