-- ==== Sys2Proof/Laws/KeepsPdo.lean ====
section
/-! SUPPORT. What the operations of Machine/Pdo.lean keep. -/

set_option linter.all false
set_option Elab.async false

namespace Sys2Proof.Machine

theorem State.rpdoRefs_ev {m : Nat} {s0 t : State} {l : List RpdoVal} (h : Ev m s0 t)
    (k : 0xffffffff00000000 &&& m = 0xffffffff00000000 := by decide) : Ev m s0 (State.rpdoRefs t l) := by
  refine Ev.comp h ?_ k
  clear h k
  unfold State.rpdoRefs
  try dsimp only
  repeat' first
    | (with_reducible first
        | exact Ev.refl _ _ | intro _ | refine Ev.ite ?_ ?_ | refine Ev.setRegA ?_ | refine Ev.foldl ?_ _ ?_)
    | dsimp only | split

theorem State.rpdoCmds_ev {m : Nat} {s0 t : State} {l : List RpdoVal} (h : Ev m s0 t)
    (k : 0x502000800114c00 &&& m = 0x502000800114c00 := by decide) : Ev m s0 (State.rpdoCmds t l) := by
  refine Ev.comp h ?_ k
  clear h k
  unfold State.rpdoCmds
  try dsimp only
  repeat' first
    | (with_reducible first
        | exact Ev.refl _ _ | intro _ | refine Ev.ite ?_ ?_ | refine State.writeCw_ev ?_ | refine State.writeMode_ev ?_
        | refine Ev.forFin ?_ ?_)
    | dsimp only | split

theorem State.rpdoColl_ev {m : Nat} {s0 t : State} {i : RpdoIn} (h : Ev m s0 t)
    (k : 0x40000000004000 &&& m = 0x40000000004000 := by decide) : Ev m s0 (State.rpdoColl t i) := by
  refine Ev.comp h ?_ k
  clear h k
  unfold State.rpdoColl
  try dsimp only
  repeat' first
    | (with_reducible first
        | exact Ev.refl _ _
        | intro _
        | refine Ev.ite ?_ ?_
        | refine Ev.bump ?_ 22 (by first | decide | (simp only [ PDO_STAT, PDO_STAT_COLL]; omega))
        | refine Ev.emcy ?_
        | refine Ev.foldl ?_ _ ?_)
    | dsimp only | split

theorem State.rpdoDone_ev {m : Nat} {s0 t : State} {i : RpdoIn} {disc : List RpdoVal} (h : Ev m s0 t)
    (k : 0x40000800004000 &&& m = 0x40000800004000 := by decide) : Ev m s0 (State.rpdoDone t i disc) := by
  refine Ev.comp h ?_ k
  clear h k
  unfold State.rpdoDone
  try dsimp only
  repeat' first
    | (with_reducible first
        | exact Ev.refl _ _
        | intro _
        | refine Ev.ite ?_ ?_
        | refine Ev.emcy ?_
        | refine Ev.mark ?_
        | refine Ev.modSrv ?_
        | refine Ev.raise ?_ 22 (by first | decide | (simp only [ PDO_RXEVT, RPDO_CTL, RPDO_CTL_EVTMS]; omega))
        | refine Ev.wrapUp ?_ 22 (by first | decide | (simp only [ PDO_RXEVT, RPDO_COBID, RPDO_CTL, RPDO_CTL_EVTMS, TPDO_COBID, pdoBase, pdoCount]; (try split) <;> omega))
        | refine State.pdoEvt_ev ?_)
    | dsimp only | split

theorem State.rpdoApply_ev {m : Nat} {s0 t : State} {l : List RpdoIn} (h : Ev m s0 t)
    (k : 0xffffffff00114c00 &&& m = 0xffffffff00114c00 := by decide) : Ev m s0 (State.rpdoApply t l) := by
  refine Ev.comp h ?_ k
  clear h k
  unfold State.rpdoApply
  try dsimp only
  repeat' first
    | (with_reducible first
        | exact Ev.refl _ _
        | intro _
        | refine Ev.ite ?_ ?_
        | refine Ev.foldl ?_ _ ?_
        | refine State.rpdoCmds_ev ?_
        | refine State.rpdoColl_ev ?_
        | refine State.rpdoDone_ev ?_
        | refine State.rpdoRefs_ev ?_)
    | dsimp only | split

theorem State.rpdoJudge_ev {m : Nat} {s0 t : State} {ch : Fin 2} {r : Fin 16} {data : List Byte} (h : Ev m s0 t)
    (k : 0x40000800004000 &&& m = 0x40000800004000 := by decide) : Ev m s0 (State.rpdoJudge t ch r data).2 := by
  refine Ev.comp h ?_ k
  clear h k
  unfold State.rpdoJudge
  try dsimp only
  repeat' first
    | (with_reducible first
        | exact Ev.refl _ _ | intro _ | refine Ev.ite ?_ ?_ | refine State.pdoEvt_ev ?_
        | refine Ev.bump ?_ 22 (by first | decide | (simp only [ RPDO_COBID, TPDO_COBID, pdoBase, pdoLen, pdoMask]; (try split) <;> omega))
        | refine Ev.emcy ?_ | refine Ev.modSrv ?_)
    | dsimp only | split

theorem State.rpdoFrame_ev {m : Nat} {s0 t : State} {ch : Fin 2} {r : Fin 16} {data : List Byte} (h : Ev m s0 t)
    (k : 0x40000800004000 &&& m = 0x40000800004000 := by decide) : Ev m s0 (State.rpdoFrame t ch r data) := by
  refine Ev.comp h ?_ k
  clear h k
  unfold State.rpdoFrame
  try dsimp only
  repeat' first
    | (with_reducible first
        | exact Ev.refl _ _
        | intro _
        | refine Ev.ite ?_ ?_
        | refine Ev.mark ?_
        | refine Ev.modSrv ?_
        | refine State.rpdoJudge_ev ?_)
    | (rename State.rpdoJudge _ _ _ _ = _ => hq; replace hq := congrArg Prod.snd hq; dsimp only at hq; rw [← hq]; clear hq) | dsimp only | split

theorem State.rpdoRx_ev {m : Nat} {s0 t : State} {ch : Fin 2} {id : Nat} {data : List Byte} (h : Ev m s0 t)
    (k : 0x60000800004000 &&& m = 0x60000800004000 := by decide) : Ev m s0 (State.rpdoRx t ch id data) := by
  refine Ev.comp h ?_ k
  clear h k
  unfold State.rpdoRx
  try dsimp only
  repeat' first
    | (with_reducible first
        | exact Ev.refl _ _ | intro _ | refine Ev.ite ?_ ?_ | refine State.canRx_ev ?_ ?_ | refine State.rpdoFrame_ev ?_
        | refine Ev.foldl ?_ _ ?_)
    | dsimp only | split

theorem State.tpdoSend_ev {m : Nat} {s0 t : State} {n : Fin 16} {d : List Byte} (h : Ev m s0 t)
    (k : 0x60000800004004 &&& m = 0x60000800004004 := by decide) : Ev m s0 (State.tpdoSend t n d) := by
  refine Ev.comp h ?_ k
  clear h k
  unfold State.tpdoSend
  try dsimp only
  repeat' first
    | (with_reducible first
        | exact Ev.refl _ _ | intro _ | refine Ev.ite ?_ ?_ | refine State.canPut_ev ?_ | refine State.pdoEvt_ev ?_
        | refine Ev.modSrv ?_
        | refine Ev.wrapUp ?_ 22 (by first | decide | (simp only [ RPDO_COBID, TPDO_COBID, pdoBase, pdoCount, pdoId, pdoMask]; (try split) <;> omega)))
    | dsimp only | split

theorem State.tpdoSync_ev {m : Nat} {s0 t : State} {n : Fin 16} (h : Ev m s0 t)
    (k : 0x60000800004004 &&& m = 0x60000800004004 := by decide) : Ev m s0 (State.tpdoSync t n) := by
  refine Ev.comp h ?_ k
  clear h k
  unfold State.tpdoSync
  try dsimp only
  repeat' first
    | (with_reducible first
        | exact Ev.refl _ _ | intro _ | refine Ev.ite ?_ ?_ | refine State.tpdoSend_ev ?_ | refine Ev.modSrv ?_)
    | dsimp only | split

end Sys2Proof.Machine
end

