-- ==== Sys2Proof/Laws/ExecBadger.lean ====
section
/-! SUPPORT. Each command of Machine/Badger.lean runs, and what it keeps. -/

set_option linter.all false
set_option Elab.async false

namespace Sys2Proof.Machine

theorem execStoInputOpen_keeps (chB : Bool) (t : State) : ∃ u, execStoInputOpen chB t = .next u ∧ Ev 0x102000a00114f00 t u := by
  refine ⟨_, rfl, ?_⟩
  try dsimp only
  repeat' first
    | (with_reducible first
        | exact Ev.refl _ _ | intro _ | refine Ev.ite ?_ ?_ | refine State.stopDemand_ev ?_ | refine Ev.modBg ?_)
    | dsimp only | split

theorem execStoInputClose_keeps (chB : Bool) (t : State) : ∃ u, execStoInputClose chB t = .next u ∧ Ev 0x200 t u := by
  refine ⟨_, rfl, ?_⟩
  try dsimp only
  repeat' first
    | (with_reducible first
        | exact Ev.refl _ _ | intro _ | refine Ev.ite ?_ ?_ | refine State.ss1Unhold_ev ?_ | refine Ev.modBg ?_)
    | dsimp only | split

theorem execStoDiscrepancyTimeout_keeps (t : State) : ∃ u, execStoDiscrepancyTimeout t = .next u ∧ Ev 0x502000b0011cf00 t u := by
  refine ⟨_, rfl, ?_⟩
  try dsimp only
  repeat' first
    | (with_reducible first
        | exact Ev.refl _ _ | intro _ | refine Ev.ite ?_ ?_ | refine State.lockout_ev ?_)
    | dsimp only | split

theorem execSs1DelayExpiry_keeps (t : State) : ∃ u, execSs1DelayExpiry t = .next u ∧ Ev 0x100000a00100300 t u := by
  refine ⟨_, rfl, ?_⟩
  try dsimp only
  repeat' first
    | (with_reducible first
        | exact Ev.refl _ _ | intro _ | refine Ev.ite ?_ ?_ | refine State.cut_ev ?_ | refine State.ss1Unhold_ev ?_
        | refine Ev.modBg ?_)
    | dsimp only | split

theorem execChannelRelease_keeps (t : State) : ∃ u, execChannelRelease t = .next u ∧ Ev 0x100000a00100300 t u := by
  refine ⟨_, rfl, ?_⟩
  try dsimp only
  repeat' first
    | (with_reducible first
        | exact Ev.refl _ _ | intro _ | refine Ev.ite ?_ ?_ | refine State.brakes_ev ?_ | refine State.cut_ev ?_
        | refine Ev.modBg ?_)
    | dsimp only | split

theorem execHaltNRelease_keeps (t : State) : ∃ u, execHaltNRelease t = .next u ∧ Ev 0x100000a00100300 t u := by
  refine ⟨_, rfl, ?_⟩
  try dsimp only
  repeat' first
    | (with_reducible first
        | exact Ev.refl _ _ | intro _ | refine Ev.ite ?_ ?_ | refine State.cut_ev ?_ | refine Ev.modBg ?_ | refine Ev.modSys ?_)
    | dsimp only | split

theorem execShutdownReadback_keeps (haltHigh : Bool) (pins : PinLevels) (t : State) : ∃ u, execShutdownReadback haltHigh pins t = .next u ∧ Ev 0x502000b0011cf00 t u := by
  refine ⟨_, rfl, ?_⟩
  try dsimp only
  repeat' first
    | (with_reducible first
        | exact Ev.refl _ _ | intro _ | refine Ev.ite ?_ ?_ | refine State.lockout_ev ?_ | refine Ev.modBg ?_)
    | dsimp only | split

theorem execBrakeFeedbackTimeout_keeps (a : Fin 8) (relLow : Bool) (t : State) : ∃ u, execBrakeFeedbackTimeout a relLow t = .next u ∧ Ev 0x502000b0011cf00 t u := by
  refine ⟨_, rfl, ?_⟩
  try dsimp only
  repeat' first
    | (with_reducible first
        | exact Ev.refl _ _
        | intro _
        | refine Ev.ite ?_ ?_
        | refine Ev.modBg ?_
        | refine State.lockout_ev ?_)
    | dsimp only | split

theorem execSlsWindowEnd_keeps (tap : Fin 2) (own : Nat) (t : State) : ∃ u, execSlsWindowEnd tap own t = .next u ∧ Ev 0x502000b0011cf02 t u := by
  refine ⟨_, rfl, ?_⟩
  try dsimp only
  repeat' first
    | (with_reducible first
        | exact Ev.refl _ _
        | intro _
        | refine Ev.ite ?_ ?_
        | refine Ev.modBg ?_
        | refine State.lockout_ev ?_
        | refine State.slsMean_ev ?_)
    | dsimp only | split

theorem execSealReread_keeps (sw : BitVec 8) (t : State) : ∃ u, execSealReread sw t = .next u ∧ Ev 0x502000b0011cf00 t u := by
  refine ⟨_, rfl, ?_⟩
  try dsimp only
  repeat' first
    | (with_reducible first
        | exact Ev.refl _ _ | intro _ | refine Ev.ite ?_ ?_ | refine State.lockout_ev ?_ | refine Ev.modBg ?_)
    | dsimp only | split

theorem execGuardInputOpen_keeps (g : Fin 4) (chB : Bool) (t : State) : ∃ u, execGuardInputOpen g chB t = .next u ∧ Ev 0x102000a00114f00 t u := by
  refine ⟨_, rfl, ?_⟩
  try dsimp only
  repeat' first
    | (with_reducible first
        | exact Ev.refl _ _ | intro _ | refine Ev.ite ?_ ?_ | refine State.guardChange_ev ?_ | refine State.stopDemand_ev ?_)
    | dsimp only | split

theorem execGuardInputClose_keeps (g : Fin 4) (chB : Bool) (t : State) : ∃ u, execGuardInputClose g chB t = .next u ∧ Ev 0xa00000200 t u := by
  refine ⟨_, rfl, ?_⟩
  try dsimp only
  repeat' first
    | (with_reducible first
        | exact Ev.refl _ _ | intro _ | refine Ev.ite ?_ ?_ | refine State.guardChange_ev ?_ | refine State.ss1Unhold_ev ?_)
    | dsimp only | split

theorem execGuardDiscrepancyTimeout_keeps (g : Fin 4) (t : State) : ∃ u, execGuardDiscrepancyTimeout g t = .next u ∧ Ev 0x502000b0011cf00 t u := by
  refine ⟨_, rfl, ?_⟩
  try dsimp only
  repeat' first
    | (with_reducible first
        | exact Ev.refl _ _ | intro _ | refine Ev.ite ?_ ?_ | refine State.lockout_ev ?_)
    | dsimp only | split

theorem execScsLoad_keeps (t : State) : ∃ u, execScsLoad t = .next u ∧ Ev 0x200000200 t u := by
  refine ⟨_, rfl, ?_⟩
  try dsimp only
  repeat' first
    | (with_reducible first
        | exact Ev.refl _ _ | intro _ | refine Ev.ite ?_ ?_ | refine State.scsCommand_ev ?_ | refine Ev.whenUp ?_ ?_)
    | dsimp only | split

theorem execScsCommit_keeps (t : State) : ∃ u, execScsCommit t = .next u ∧ Ev 0x200000200 t u := by
  refine ⟨_, rfl, ?_⟩
  try dsimp only
  repeat' first
    | (with_reducible first
        | exact Ev.refl _ _ | intro _ | refine Ev.ite ?_ ?_ | refine State.scsCommand_ev ?_ | refine Ev.whenUp ?_ ?_)
    | dsimp only | split

theorem execScsCommandComplete_keeps (t : State) : ∃ u, execScsCommandComplete t = .next u ∧ Ev 0x502000b0011cf00 t u := by
  refine ⟨_, rfl, ?_⟩
  try dsimp only
  repeat' first
    | (with_reducible first
        | exact Ev.refl _ _ | intro _ | refine Ev.ite ?_ ?_ | refine State.scsComplete_ev ?_ | refine Ev.whenUp ?_ ?_)
    | dsimp only | split

theorem execHbArm_keeps (arm : Bool) (t : State) : ∃ u, execHbArm arm t = .next u ∧ Ev 0x200 t u := by
  refine ⟨_, rfl, ?_⟩
  try dsimp only
  repeat' first
    | (with_reducible first
        | exact Ev.refl _ _ | intro _ | refine Ev.ite ?_ ?_ | refine State.hbArm_ev ?_ | refine Ev.whenUp ?_ ?_)
    | dsimp only | split

theorem execHbChallenge_keeps (chal : BitVec 8) (t : State) : ∃ u, execHbChallenge chal t = .next u ∧ Ev 0x502000b0011cf00 t u := by
  refine ⟨_, rfl, ?_⟩
  try dsimp only
  repeat' first
    | (with_reducible first
        | exact Ev.refl _ _ | intro _ | refine Ev.ite ?_ ?_ | refine State.bgEvent_ev ?_ | refine State.judgeLamps_ev ?_
        | refine State.lockout_ev ?_ | refine Ev.modBg ?_ | refine Ev.put ?_ 1 (by decide))
    | dsimp only | split

theorem execHbResponse_keeps (w : Word) (t : State) : ∃ u, execHbResponse w t = .next u ∧ Ev 0x200000200 t u := by
  refine ⟨_, rfl, ?_⟩
  try dsimp only
  repeat' first
    | (with_reducible first
        | exact Ev.refl _ _ | intro _ | refine Ev.ite ?_ ?_ | refine State.hbResponse_ev ?_ | refine Ev.whenUp ?_ ?_)
    | dsimp only | split

theorem execLorPressDisagree_keeps (a : Bool) (b : Bool) (t : State) : ∃ u, execLorPressDisagree a b t = .next u ∧ Ev 0xa00004200 t u := by
  refine ⟨_, rfl, ?_⟩
  try dsimp only
  repeat' first
    | (with_reducible first
        | exact Ev.refl _ _ | intro _ | refine Ev.ite ?_ ?_ | refine State.bgEmcy_ev ?_ | refine State.bgEvent_ev ?_
        | refine Ev.modBg ?_)
    | dsimp only | split

theorem execLorPressTimeout_keeps (t : State) : ∃ u, execLorPressTimeout t = .next u ∧ Ev 0xa00000200 t u := by
  refine ⟨_, rfl, ?_⟩
  try dsimp only
  repeat' first
    | (with_reducible first
        | exact Ev.refl _ _ | intro _ | refine Ev.ite ?_ ?_ | refine State.bgEvent_ev ?_ | refine Ev.modBg ?_)
    | dsimp only | split

theorem execLorActRelease_keeps (pressed : Nat) (released : Nat) (t : State) : ∃ u, execLorActRelease pressed released t = .next u ∧ Ev 0xa00004200 t u := by
  refine ⟨_, rfl, ?_⟩
  try dsimp only
  repeat' first
    | (with_reducible first
        | exact Ev.refl _ _ | intro _ | refine Ev.ite ?_ ?_ | refine State.bgEmcy_ev ?_ | refine State.bgEvent_ev ?_
        | refine State.lockoutClear_ev ?_ | refine Ev.modBg ?_)
    | dsimp only | split

theorem execFieldbusLorRequest_keeps (key : Word) (t : State) : ∃ u, execFieldbusLorRequest key t = .next u ∧ Ev 0xa00004200 t u := by
  refine ⟨_, rfl, ?_⟩
  try dsimp only
  repeat' first
    | (with_reducible first
        | exact Ev.refl _ _ | intro _ | refine Ev.ite ?_ ?_ | refine State.fblor_ev ?_ | refine Ev.whenUp ?_ ?_)
    | dsimp only | split

theorem execFblorWindowExpiry_keeps (t : State) : ∃ u, execFblorWindowExpiry t = .next u ∧ Ev 0x200 t u := by
  refine ⟨_, rfl, ?_⟩
  try dsimp only
  repeat' first
    | (with_reducible first
        | exact Ev.refl _ _ | intro _ | refine Ev.ite ?_ ?_ | refine Ev.modBg ?_)
    | dsimp only | split

theorem execBackgroundSelftestFail_keeps (test : Fin 8) (t : State) : ∃ u, execBackgroundSelftestFail test t = .next u ∧ Ev 0x502000b0011cf00 t u := by
  refine ⟨_, rfl, ?_⟩
  try dsimp only
  repeat' first
    | (with_reducible first
        | exact Ev.refl _ _ | intro _ | refine Ev.ite ?_ ?_ | refine State.lockout_ev ?_ | refine Ev.modBg ?_)
    | dsimp only | split

end Sys2Proof.Machine
end

