-- ==== Sys2Proof/Laws/ExecBear.lean ====
section
/-! SUPPORT. Each command of Machine/Bear.lean runs, and what it keeps. -/

set_option linter.all false
set_option Elab.async false

namespace Sys2Proof.Machine

theorem execSeatingComplete_keeps (sw : BitVec 8) (lv : BitVec 32) (t : State) : ∃ u, execSeatingComplete sw lv t = .next u ∧ Ev 0xffffffff0fffefb1 t u := by
  refine ⟨_, rfl, ?_⟩
  try dsimp only
  repeat' first
    | (with_reducible first
        | exact Ev.refl _ _ | intro _ | refine Ev.ite ?_ ?_ | refine State.lampTest_ev ?_ | refine State.tryStart_ev ?_
        | refine Ev.modBear ?_)
    | dsimp only | split

theorem execBenchDetect_keeps (sw : BitVec 8) (lv : BitVec 32) (t : State) : ∃ u, execBenchDetect sw lv t = .next u ∧ Ev 0xffffffff0fffefb1 t u := by
  refine ⟨_, rfl, ?_⟩
  try dsimp only
  repeat' first
    | (with_reducible first
        | exact Ev.refl _ _ | intro _ | refine Ev.ite ?_ ?_ | refine State.tryStart_ev ?_ | refine Ev.modBear ?_)
    | dsimp only | split

theorem execPresencePinContact_keeps (pin3 : Bool) (contact : Bool) (t : State) : ∃ u, execPresencePinContact pin3 contact t = .next u ∧ Ev 0x2000000 t u := by
  refine ⟨_, rfl, ?_⟩
  try dsimp only
  repeat' first
    | (with_reducible first
        | exact Ev.refl _ _ | intro _ | refine Ev.ite ?_ ?_ | refine Ev.modBear ?_)
    | dsimp only | split

theorem execPresenceLost_keeps (p1 : Bool) (p3 : Bool) (t : State) : ∃ u, execPresenceLost p1 p3 t = .next u ∧ Ev 0xffffffff0fffef31 t u := by
  refine ⟨_, rfl, ?_⟩
  try dsimp only
  repeat' first
    | (with_reducible first
        | exact Ev.refl _ _ | intro _ | refine Ev.ite ?_ ?_ | refine State.rstLine_ev ?_ | refine Ev.modBear ?_
        | refine Ev.put ?_ 0 (by decide))
    | dsimp only | split

theorem execFeedChange_keeps (onB : Bool) (valid : Bool) (collapsed : Bool) (sw : BitVec 8) (lv : BitVec 32) (t : State) : ∃ u, execFeedChange onB valid collapsed sw lv t = .next u ∧ Ev 0xffffffff0fffefb1 t u := by
  refine ⟨_, rfl, ?_⟩
  try dsimp only
  repeat' first
    | (with_reducible first
        | exact Ev.refl _ _
        | intro _
        | refine Ev.ite ?_ ?_
        | refine Ev.bump ?_ 0 (by first | decide | (simp only [ BEAR_FEEDCNT, BEAR_FEEDCNT_DIPS]; omega))
        | refine Ev.mark ?_
        | refine Ev.modBear ?_
        | refine State.feedReport_ev ?_
        | refine State.tryStart_ev ?_)
    | dsimp only | split

theorem execBrownOut_keeps (t : State) : ∃ u, execBrownOut t = .next u ∧ Ev 0xffffffff0fffef31 t u := by
  refine ⟨_, rfl, ?_⟩
  try dsimp only
  repeat' first
    | (with_reducible first
        | exact Ev.refl _ _ | intro _ | refine Ev.ite ?_ ?_ | refine State.haldReset_ev ?_ | refine Ev.modBear ?_
        | refine Ev.modBg ?_ | refine Ev.modSys ?_)
    | dsimp only | split

theorem execParkRequest_keeps (button : Bool) (t : State) : ∃ u, execParkRequest button t = .next u ∧ Ev 0x103000b0011cf02 t u := by
  refine ⟨_, rfl, ?_⟩
  try dsimp only
  repeat' first
    | (with_reducible first
        | exact Ev.refl _ _ | intro _ | refine Ev.ite ?_ ?_ | refine State.parkRequest_ev ?_ | refine State.unpark_ev ?_
        | refine Ev.whenUp ?_ ?_)
    | dsimp only | split

theorem execUnpark_keeps (t : State) : ∃ u, execUnpark t = .next u ∧ Ev 0x900004000 t u := by
  refine ⟨_, rfl, ?_⟩
  try dsimp only
  repeat' first
    | (with_reducible first
        | exact Ev.refl _ _ | intro _ | refine Ev.ite ?_ ?_ | refine State.unpark_ev ?_ | refine Ev.whenUp ?_ ?_)
    | dsimp only | split

theorem execParkSafeToPull_keeps (idle : Bool) (t : State) : ∃ u, execParkSafeToPull idle t = .next u ∧ Ev 0x900004000 t u := by
  refine ⟨_, rfl, ?_⟩
  try dsimp only
  repeat' first
    | (with_reducible first
        | exact Ev.refl _ _ | intro _ | refine Ev.ite ?_ ?_ | refine State.parkTo_ev ?_ | refine Ev.whenUp ?_ ?_)
    | dsimp only | split

theorem execParkHandoverTimeout_keeps (t : State) : ∃ u, execParkHandoverTimeout t = .next u ∧ Ev 0x900004000 t u := by
  refine ⟨_, rfl, ?_⟩
  try dsimp only
  repeat' first
    | (with_reducible first
        | exact Ev.refl _ _ | intro _ | refine Ev.ite ?_ ?_ | refine State.parkRefuse_ev ?_ | refine Ev.whenUp ?_ ?_)
    | dsimp only | split

theorem execHandoverRelease_keeps (t : State) : ∃ u, execHandoverRelease t = .next u ∧ Ev 0x503000b0011cf02 t u := by
  refine ⟨_, rfl, ?_⟩
  try dsimp only
  repeat' first
    | (with_reducible first
        | exact Ev.refl _ _ | intro _ | refine Ev.ite ?_ ?_ | refine State.claimRelease_ev ?_ | refine State.parkPort_ev ?_
        | refine Ev.whenUp ?_ ?_ | refine Ev.forFin ?_ ?_)
    | dsimp only | split

theorem execLampTestCommand_keeps (t : State) : ∃ u, execLampTestCommand t = .next u ∧ Ev 0x2000000 t u := by
  refine ⟨_, rfl, ?_⟩
  try dsimp only
  repeat' first
    | (with_reducible first
        | exact Ev.refl _ _ | intro _ | refine Ev.ite ?_ ?_ | refine State.lampTest_ev ?_ | refine Ev.whenUp ?_ ?_)
    | dsimp only | split

theorem execBridgePass_keeps (onB : Bool) (fcs : Bool) (f : List (BitVec 8)) (over_ : Bool) (t : State) : ∃ u, execBridgePass onB fcs f over_ t = .next u ∧ Ev 0x10000802804004 t u := by
  refine ⟨_, rfl, ?_⟩
  try dsimp only
  repeat' first
    | (with_reducible first
        | exact Ev.refl _ _ | intro _ | refine Ev.ite ?_ ?_ | refine State.bridgeNext_ev ?_ | refine State.bridgeNoRoute_ev ?_
        | refine State.ringRx_ev ?_ | refine State.sysAnswer_ev ?_ | refine Ev.modBear ?_)
    | dsimp only | split

theorem execBridgeDataRx_keeps (resp : Bool) (f : List (BitVec 8)) (t : State) : ∃ u, execBridgeDataRx resp f t = .next u ∧ Ev 0x802804004 t u := by
  refine ⟨_, rfl, ?_⟩
  try dsimp only
  repeat' first
    | (with_reducible first
        | exact Ev.refl _ _ | intro _ | refine Ev.ite ?_ ?_ | refine State.bridgeHeard_ev ?_ | refine State.bridgeSend_ev ?_
        | refine State.bridged_ev ?_ ?_ | refine State.originate_ev ?_ | refine Ev.modBear ?_)
    | dsimp only | split

theorem execBridgeAckRx_keeps (f : List (BitVec 8)) (t : State) : ∃ u, execBridgeAckRx f t = .next u ∧ Ev 0x802004004 t u := by
  refine ⟨_, rfl, ?_⟩
  try dsimp only
  repeat' first
    | (with_reducible first
        | exact Ev.refl _ _ | intro _ | refine Ev.ite ?_ ?_ | refine State.bridgeHeard_ev ?_ | refine State.bridgeNext_ev ?_
        | refine State.bridged_ev ?_ ?_ | refine Ev.modBear ?_)
    | dsimp only | split

theorem execBridgeNakRx_keeps (f : List (BitVec 8)) (t : State) : ∃ u, execBridgeNakRx f t = .next u ∧ Ev 0x10000902804004 t u := by
  refine ⟨_, rfl, ?_⟩
  try dsimp only
  repeat' first
    | (with_reducible first
        | exact Ev.refl _ _ | intro _ | refine Ev.ite ?_ ?_ | refine State.bridgeFail_ev ?_ | refine State.bridgeHeard_ev ?_
        | refine State.bridged_ev ?_ ?_ | refine Ev.bump ?_ 0 (by decide))
    | dsimp only | split

theorem execBridgeKeepRx_keeps (f : List (BitVec 8)) (t : State) : ∃ u, execBridgeKeepRx f t = .next u ∧ Ev 0x802004000 t u := by
  refine ⟨_, rfl, ?_⟩
  try dsimp only
  repeat' first
    | (with_reducible first
        | exact Ev.refl _ _ | intro _ | refine Ev.ite ?_ ?_ | refine State.bridgeHeard_ev ?_ | refine State.bridged_ev ?_ ?_)
    | dsimp only | split

theorem execBridgeResendTimeout_keeps (t : State) : ∃ u, execBridgeResendTimeout t = .next u ∧ Ev 0x10000902800004 t u := by
  refine ⟨_, rfl, ?_⟩
  try dsimp only
  repeat' first
    | (with_reducible first
        | exact Ev.refl _ _ | intro _ | refine Ev.ite ?_ ?_ | refine State.bridgeFail_ev ?_ | refine State.bridged_ev ?_ ?_)
    | dsimp only | split

theorem execBridgeKeepTx_keeps (t : State) : ∃ u, execBridgeKeepTx t = .next u ∧ Ev 0x4 t u := by
  refine ⟨_, rfl, ?_⟩
  try dsimp only
  repeat' first
    | (with_reducible first
        | exact Ev.refl _ _ | intro _ | refine Ev.ite ?_ ?_ | refine State.bridgeSend_ev ?_ | refine State.bridged_ev ?_ ?_)
    | dsimp only | split

theorem execBridgeLinkTimeout_keeps (t : State) : ∃ u, execBridgeLinkTimeout t = .next u ∧ Ev 0x802004000 t u := by
  refine ⟨_, rfl, ?_⟩
  try dsimp only
  repeat' first
    | (with_reducible first
        | exact Ev.refl _ _ | intro _ | refine Ev.ite ?_ ?_ | refine State.bridgeLink_ev ?_ | refine State.bridged_ev ?_ ?_
        | refine Ev.modBear ?_)
    | dsimp only | split

end Sys2Proof.Machine
end

