-- ==== Sys2Proof/Laws/ExecCopy.lean ====
section
/-! SUPPORT. Each command of Machine/Copy.lean runs, and what it keeps. -/

set_option linter.all false
set_option Elab.async false

namespace Sys2Proof.Machine

theorem execPairFrameRx_keeps (onB : Bool) (fcs : Bool) (f : List (BitVec 8)) (t : State) : ∃ u, execPairFrameRx onB fcs f t = .next u ∧ Ev 0x41000080080c004 t u := by
  refine ⟨_, rfl, ?_⟩
  try dsimp only
  repeat' first
    | (with_reducible first
        | exact Ev.refl _ _ | intro _ | refine Ev.ite ?_ ?_ | refine State.pairJudge_ev ?_ | refine State.ringTake_ev ?_ ?_
        | refine Ev.modCp ?_ | refine Ev.setReg ?_ 26 (by decide))
    | dsimp only | split

theorem execPartnerPairLost_keeps (t : State) : ∃ u, execPartnerPairLost t = .next u ∧ Ev 0xc000 t u := by
  refine ⟨_, rfl, ?_⟩
  try dsimp only
  repeat' first
    | (with_reducible first
        | exact Ev.refl _ _ | intro _ | refine Ev.ite ?_ ?_ | refine Ev.emcy ?_ | refine Ev.modCp ?_ | refine Ev.whenUp ?_ ?_)
    | dsimp only | split

theorem execSnapshotStale_keeps (t : State) : ∃ u, execSnapshotStale t = .next u ∧ Ev 0x40000080000c000 t u := by
  refine ⟨_, rfl, ?_⟩
  try dsimp only
  repeat' first
    | (with_reducible first
        | exact Ev.refl _ _ | intro _ | refine Ev.ite ?_ ?_ | refine State.cpEvt_ev ?_ | refine State.pairJudge_ev ?_
        | refine Ev.emcy ?_ | refine Ev.modCp ?_ | refine Ev.whenUp ?_ ?_)
    | dsimp only | split

theorem execCopyDataRx_keeps (onB : Bool) (fcs : Bool) (f : List (BitVec 8)) (t : State) : ∃ u, execCopyDataRx onB fcs f t = .next u ∧ Ev 0x41000080080c004 t u := by
  refine ⟨_, rfl, ?_⟩
  try dsimp only
  repeat' first
    | (with_reducible first
        | exact Ev.refl _ _ | intro _ | refine Ev.ite ?_ ?_ | refine State.copyRx_ev ?_)
    | dsimp only | split

theorem execCopyTrailerRx_keeps (onB : Bool) (fcs : Bool) (f : List (BitVec 8)) (t : State) : ∃ u, execCopyTrailerRx onB fcs f t = .next u ∧ Ev 0x41000080080c004 t u := by
  refine ⟨_, rfl, ?_⟩
  try dsimp only
  repeat' first
    | (with_reducible first
        | exact Ev.refl _ _ | intro _ | refine Ev.ite ?_ ?_ | refine State.copyRx_ev ?_)
    | dsimp only | split

theorem execCopyCommitRx_keeps (onB : Bool) (fcs : Bool) (f : List (BitVec 8)) (t : State) : ∃ u, execCopyCommitRx onB fcs f t = .next u ∧ Ev 0x41000080080c004 t u := by
  refine ⟨_, rfl, ?_⟩
  try dsimp only
  repeat' first
    | (with_reducible first
        | exact Ev.refl _ _ | intro _ | refine Ev.ite ?_ ?_ | refine State.copyRx_ev ?_)
    | dsimp only | split

theorem execPartnerLineChange_keeps (high : Bool) (t : State) : ∃ u, execPartnerLineChange high t = .next u ∧ Ev 0x400000800008000 t u := by
  refine ⟨_, rfl, ?_⟩
  try dsimp only
  repeat' first
    | (with_reducible first
        | exact Ev.refl _ _ | intro _ | refine Ev.ite ?_ ?_ | refine State.cpEvt_ev ?_ | refine Ev.modCp ?_
        | refine Ev.whenUp ?_ ?_)
    | dsimp only | split

theorem execClaimTake_keeps (t : State) : ∃ u, execClaimTake t = .next u ∧ Ev 0x502000b0011cf00 t u := by
  refine ⟨_, rfl, ?_⟩
  try dsimp only
  repeat' first
    | (with_reducible first
        | exact Ev.refl _ _ | intro _ | refine Ev.ite ?_ ?_ | refine State.judgeLamps_ev ?_ | refine State.lampsFromImage_ev ?_
        | refine State.pairJudge_ev ?_ | refine State.takeover_ev ?_ | refine Ev.modCp ?_ | refine Ev.put ?_ 26 (by decide)
        | refine Ev.whenUp ?_ ?_)
    | dsimp only | split

theorem execClaimTimerExpiry_keeps (t : State) : ∃ u, execClaimTimerExpiry t = .next u ∧ Ev 0x50200090011cc00 t u := by
  refine ⟨_, rfl, ?_⟩
  try dsimp only
  repeat' first
    | (with_reducible first
        | exact Ev.refl _ _ | intro _ | refine Ev.ite ?_ ?_ | refine State.claimRelease_ev ?_ | refine Ev.modCp ?_)
    | dsimp only | split

theorem execPortsQuiet_keeps (since : List Nat) (t : State) : ∃ u, execPortsQuiet since t = .next u ∧ Ev 0xffffffff0091cc00 t u := by
  refine ⟨_, rfl, ?_⟩
  try dsimp only
  repeat' first
    | (with_reducible first
        | exact Ev.refl _ _ | intro _ | refine Ev.ite ?_ ?_ | refine State.applyImage_ev ?_ | refine State.portStream_ev ?_
        | refine State.takeCheck_ev ?_ | refine Ev.modCp ?_ | refine Ev.whenUp ?_ ?_ | refine Ev.forFin ?_ ?_)
    | dsimp only | split

theorem execQuietCheckTimeout_keeps (t : State) : ∃ u, execQuietCheckTimeout t = .next u ∧ Ev 0x50200090011cc00 t u := by
  refine ⟨_, rfl, ?_⟩
  try dsimp only
  repeat' first
    | (with_reducible first
        | exact Ev.refl _ _ | intro _ | refine Ev.ite ?_ ?_ | refine State.claimRelease_ev ?_ | refine State.conflict_ev ?_
        | refine Ev.modCp ?_ | refine Ev.whenUp ?_ ?_)
    | dsimp only | split

theorem execClaimConflict_keeps (t : State) : ∃ u, execClaimConflict t = .next u ∧ Ev 0x50200090011cc00 t u := by
  refine ⟨_, rfl, ?_⟩
  try dsimp only
  repeat' first
    | (with_reducible first
        | exact Ev.refl _ _ | intro _ | refine Ev.ite ?_ ?_ | refine State.claimRelease_ev ?_ | refine State.conflict_ev ?_
        | refine Ev.whenUp ?_ ?_)
    | dsimp only | split

theorem execHandoverRequest_keeps (t : State) : ∃ u, execHandoverRequest t = .next u ∧ Ev 0x8000 t u := by
  refine ⟨_, rfl, ?_⟩
  try dsimp only
  repeat' first
    | (with_reducible first
        | exact Ev.refl _ _ | intro _ | refine Ev.ite ?_ ?_ | refine State.handoverAsk_ev ?_ | refine Ev.whenUp ?_ ?_)
    | dsimp only | split

theorem execUserBufferFlip_keeps (t : State) : ∃ u, execUserBufferFlip t = .next u ∧ Ev 0x400000000000000 t u := by
  refine ⟨_, rfl, ?_⟩
  try dsimp only
  repeat' first
    | (with_reducible first
        | exact Ev.refl _ _ | intro _ | refine Ev.ite ?_ ?_ | refine State.usrFlip_ev ?_ | refine Ev.whenUp ?_ ?_)
    | dsimp only | split

theorem execCopyClearCount_keeps (t : State) : ∃ u, execCopyClearCount t = .next u ∧ Ev 0x400000000000000 t u := by
  refine ⟨_, rfl, ?_⟩
  try dsimp only
  repeat' first
    | (with_reducible first
        | exact Ev.refl _ _ | intro _ | refine Ev.ite ?_ ?_ | refine State.copyClr_ev ?_ | refine Ev.whenUp ?_ ?_)
    | dsimp only | split

end Sys2Proof.Machine
end

