-- ==== Sys2Proof/Laws/ExecCopyPoint.lean ====
section
/-! SUPPORT. Each command of Machine/CopyPoint.lean runs, and what it keeps. -/

set_option linter.all false
set_option Elab.async false

namespace Sys2Proof.Machine

theorem execCopyPoint_keeps (t : State) : ∃ u, execCopyPoint t = .next u ∧ Ev 0x401000c00e0c896 t u := by
  refine ⟨_, rfl, ?_⟩
  try dsimp only
  repeat' first
    | (with_reducible first
        | exact Ev.refl _ _ | intro _ | refine Ev.ite ?_ ?_ | refine State.dutyPoint_ev ?_ | refine State.pairJudge_ev ?_
        | refine State.standbyPoint_ev ?_ | refine Ev.whenUp ?_ ?_)
    | dsimp only | split

end Sys2Proof.Machine
end

