-- ==== Sys2Proof/Laws/ExecCores.lean ====
section
/-! SUPPORT. Each command of Machine/Cores.lean runs, and what it keeps. -/

set_option linter.all false
set_option Elab.async false

namespace Sys2Proof.Machine

theorem execLoad_keeps (c : Fin 4) (addr : Word) (size : Fin 3) (sgnd : Bool) (fp : Bool) (rd : Fin 32) (t : State) : ∃ u, execLoad c addr size sgnd fp rd t = .next u ∧ Ev 0xffffffff05ffef9e t u := by
  refine ⟨_, rfl, ?_⟩
  try dsimp only
  repeat' first
    | (with_reducible first
        | exact Ev.refl _ _
        | intro _
        | refine Ev.ite ?_ ?_
        | refine Ev.setRdata ?_
        | refine State.access_ev ?_ ?_
        | refine State.byCore_ev ?_ ?_
        | refine State.illegal_ev ?_
        | refine State.readThen_ev ?_ ?_
        | refine State.setF_ev ?_
        | refine State.setX_ev ?_)
    | dsimp only | split

theorem execStore_keeps (c : Fin 4) (addr : Word) (size : Fin 3) (v : Word) (t : State) : ∃ u, execStore c addr size v t = .next u ∧ Ev 0xffffffff0fbfefe6 t u := by
  refine ⟨_, rfl, ?_⟩
  try dsimp only
  repeat' first
    | (with_reducible first
        | exact Ev.refl _ _ | intro _ | refine Ev.ite ?_ ?_ | refine State.access_ev ?_ ?_ | refine State.byCore_ev ?_ ?_
        | refine State.storeDone_ev ?_ ?_)
    | exact Ev.refl _ _ | dsimp only | split

theorem execAmo_keeps (c : Fin 4) (op : Fin 9) (addr : Word) (v : Word) (rd : Fin 32) (t : State) : ∃ u, execAmo c op addr v rd t = .next u ∧ Ev 0xffffffff0fffeff6 t u := by
  refine ⟨_, rfl, ?_⟩
  try dsimp only
  repeat' first
    | (with_reducible first
        | exact Ev.refl _ _ | intro _ | refine Ev.ite ?_ ?_ | refine State.access_ev ?_ ?_ | refine State.byCore_ev ?_ ?_
        | refine State.readThen_ev ?_ ?_ | refine State.setX_ev ?_ | refine State.storeDone_ev ?_ ?_)
    | dsimp only | split

theorem execLoadReserved_keeps (c : Fin 4) (addr : Word) (rd : Fin 32) (t : State) : ∃ u, execLoadReserved c addr rd t = .next u ∧ Ev 0xffffffff05ffef9e t u := by
  refine ⟨_, rfl, ?_⟩
  try dsimp only
  repeat' first
    | (with_reducible first
        | exact Ev.refl _ _ | intro _ | refine Ev.ite ?_ ?_ | refine State.access_ev ?_ ?_ | refine State.byCore_ev ?_ ?_
        | refine State.modCore_ev ?_ | refine State.readThen_ev ?_ ?_ | refine State.setX_ev ?_ | refine Ev.setRdata ?_)
    | dsimp only | split

theorem execStoreConditional_keeps (c : Fin 4) (addr : Word) (v : Word) (rd : Fin 32) (t : State) : ∃ u, execStoreConditional c addr v rd t = .next u ∧ Ev 0xffffffff0fbfefe6 t u := by
  refine ⟨_, rfl, ?_⟩
  try dsimp only
  repeat' first
    | (with_reducible first
        | exact Ev.refl _ _ | intro _ | refine Ev.ite ?_ ?_ | refine State.access_ev ?_ ?_ | refine State.byCore_ev ?_ ?_
        | refine State.modCore_ev ?_ | refine State.setX_ev ?_ | refine State.storeDone_ev ?_ ?_)
    | dsimp only | split

theorem execInstructionFetch_keeps (c : Fin 4) (addr : Word) (wide : Bool) (t : State) : ∃ u, execInstructionFetch c addr wide t = .next u ∧ Ev 0xffffffff059fef8e t u := by
  refine ⟨_, rfl, ?_⟩
  try dsimp only
  repeat' first
    | (with_reducible first
        | exact Ev.refl _ _
        | intro _
        | refine Ev.ite ?_ ?_
        | refine Ev.setRdata ?_
        | refine State.byCore_ev ?_ ?_
        | refine State.fetchPart_ev ?_ ?_
        | refine State.modBank_ev ?_
        | refine State.modCore_ev ?_
        | refine State.retire_ev ?_)
    | dsimp only | split

theorem execFenceI_keeps (c : Fin 4) (t : State) : ∃ u, execFenceI c t = .next u ∧ Ev 0x1000000 t u := by
  refine ⟨_, rfl, ?_⟩
  try dsimp only
  repeat' first
    | (with_reducible first
        | exact Ev.refl _ _ | intro _ | refine Ev.ite ?_ ?_ | refine State.byCore_ev ?_ ?_ | refine State.modCore_ev ?_)
    | dsimp only | split

theorem execCsrAccess_keeps (c : Fin 4) (csr : BitVec 12) (op : Fin 3) (src : Word) (x0 : Bool) (rd : Fin 32) (t : State) : ∃ u, execCsrAccess c csr op src x0 rd t = .next u ∧ Ev 0xffffffff059fef0e t u := by
  refine ⟨_, rfl, ?_⟩
  try dsimp only
  repeat' first
    | (with_reducible first
        | exact Ev.refl _ _ | intro _ | refine Ev.ite ?_ ?_ | refine State.byCore_ev ?_ ?_ | refine State.illegal_ev ?_
        | refine State.modBank_ev ?_ | refine State.setX_ev ?_ | refine Ev.setFreeCtr ?_ | refine Ev.setRdata ?_)
    | dsimp only | split

theorem execWfi_keeps (c : Fin 4) (t : State) : ∃ u, execWfi c t = .next u ∧ Ev 0xffffffff059fef06 t u := by
  refine ⟨_, rfl, ?_⟩
  try dsimp only
  repeat' first
    | (with_reducible first
        | exact Ev.refl _ _
        | intro _
        | refine Ev.ite ?_ ?_
        | refine Ev.setWaiting ?_
        | refine State.byCore_ev ?_ ?_
        | refine State.illegal_ev ?_
        | refine State.modBank_ev ?_
        | refine State.retire_ev ?_
        | refine State.rotate_ev ?_)
    | dsimp only | split

theorem execMret_keeps (c : Fin 4) (t : State) : ∃ u, execMret c t = .next u ∧ Ev 0xffffffff059fef06 t u := by
  refine ⟨_, rfl, ?_⟩
  try dsimp only
  repeat' first
    | (with_reducible first
        | exact Ev.refl _ _ | intro _ | refine Ev.ite ?_ ?_ | refine Ev.putA ?_ | refine State.byCore_ev ?_ ?_
        | refine State.illegal_ev ?_ | refine State.modBank_ev ?_ | refine State.modCore_ev ?_ | refine State.settle_ev ?_
        | refine Ev.put ?_ 3 (by simp only [ EVT_CTL, EVT_CTL_ACTIVE]; omega))
    | dsimp only | split

theorem execIllegalInstruction_keeps (c : Fin 4) (t : State) : ∃ u, execIllegalInstruction c t = .next u ∧ Ev 0xffffffff059fef06 t u := by
  refine ⟨_, rfl, ?_⟩
  try dsimp only
  repeat' first
    | (with_reducible first
        | exact Ev.refl _ _ | intro _ | refine Ev.ite ?_ ?_ | refine State.byCore_ev ?_ ?_ | refine State.illegal_ev ?_)
    | dsimp only | split

theorem execEbreak_keeps (c : Fin 4) (t : State) : ∃ u, execEbreak c t = .next u ∧ Ev 0xffffffff059fef06 t u := by
  refine ⟨_, rfl, ?_⟩
  try dsimp only
  repeat' first
    | (with_reducible first
        | exact Ev.refl _ _ | intro _ | refine Ev.ite ?_ ?_ | refine State.byCore_ev ?_ ?_ | refine State.trap_ev ?_
        | refine Ev.draw ?_)
    | dsimp only | split

theorem execBackgroundSliceExpiry_keeps (c : Fin 4) (t : State) : ∃ u, execBackgroundSliceExpiry c t = .next u ∧ Ev 0x1000000 t u := by
  refine ⟨_, rfl, ?_⟩
  try dsimp only
  repeat' first
    | (with_reducible first
        | exact Ev.refl _ _
        | intro _
        | refine Ev.ite ?_ ?_
        | refine State.byCore_ev ?_ ?_
        | refine State.rotate_ev ?_
        | refine State.unissue_ev ?_)
    | dsimp only | split

theorem execEventEntry_keeps (c : Fin 4) (pc : Word) (t : State) : ∃ u, execEventEntry c pc t = .next u ∧ Ev 0xffffffff01002000 t u := by
  refine ⟨_, rfl, ?_⟩
  try dsimp only
  repeat' first
    | (with_reducible first
        | exact Ev.refl _ _
        | intro _
        | refine Ev.ite ?_ ?_
        | refine Ev.whenUp ?_ ?_
        | refine State.modBank_ev ?_
        | refine State.retire_ev ?_
        | refine State.takeEvent_ev ?_
        | refine State.unissue_ev ?_)
    | dsimp only | split

theorem execScrubRead_keeps (t : State) : ∃ u, execScrubRead t = .next u ∧ Ev 0xc01000082 t u := by
  refine ⟨_, rfl, ?_⟩
  try dsimp only
  repeat' first
    | (with_reducible first
        | exact Ev.refl _ _ | intro _ | refine Ev.ite ?_ ?_ | refine State.memRead_ev ?_ | refine Ev.modPr ?_
        | refine Ev.whenUp ?_ ?_)
    | dsimp only | split

theorem execMemerrInject_keeps (ten : Fin 8) (c : Fin 4) (mode : BitVec 2) (t : State) : ∃ u, execMemerrInject ten c mode t = .next u ∧ Ev 0xffffffff01004000 t u := by
  refine ⟨_, rfl, ?_⟩
  try dsimp only
  repeat' first
    | (with_reducible first
        | exact Ev.refl _ _ | intro _ | refine Ev.ite ?_ ?_ | refine State.twuWrite_ev ?_ | refine Ev.whenUp ?_ ?_)
    | dsimp only | split

theorem execDmaDescriptorFetch_keeps (c : Fin 32) (t : State) : ∃ u, execDmaDescriptorFetch c t = .next u ∧ Ev 0x1001c01e04892 t u := by
  refine ⟨_, rfl, ?_⟩
  try dsimp only
  repeat' first
    | (with_reducible first
        | exact Ev.refl _ _ | intro _ | refine Ev.ite ?_ ?_ | refine State.dmaFault_ev ?_ | refine State.dmaStop_ev ?_
        | refine dmaWords_ev ?_ | refine State.modDma_ev ?_ | refine Ev.whenUp ?_ ?_)
    | (have hq := congrArg Prod.snd ‹dmaWords _ _ _ _ = _›; dsimp only at hq; rw [← hq]) | (next a => have hq := congrArg Prod.snd a; dsimp only at hq; rw [← hq]) | dsimp only | split

theorem execDmaBeat_keeps (t : State) : ∃ u, execDmaBeat t = .next u ∧ Ev 0xffffffff0fffeff6 t u := by
  refine ⟨_, rfl, ?_⟩
  try dsimp only
  repeat' first
    | (with_reducible first
        | exact Ev.refl _ _ | intro _ | refine Ev.ite ?_ ?_ | refine State.dmaBeat_ev ?_ | refine Ev.modPr ?_
        | refine Ev.whenUp ?_ ?_)
    | dsimp only | split

end Sys2Proof.Machine
end

