-- ==== Sys2Proof/Laws/ExecEngine.lean ====
section
/-! SUPPORT. Each command of Machine/Engine.lean runs, and what it keeps. -/

set_option linter.all false
set_option Elab.async false

namespace Sys2Proof.Machine

theorem execControlCycleStart_keeps (a : Fin 8) (t : State) : ∃ u, execControlCycleStart a t = .next u ∧ Ev 0x2000000010000 t u := by
  refine ⟨_, rfl, ?_⟩
  try dsimp only
  repeat' first
    | (with_reducible first
        | exact Ev.refl _ _ | intro _ | refine Ev.ite ?_ ?_ | refine Ev.modEng ?_
        | refine Ev.put ?_ 17 (by simp only [ AX_CTRL, AX_CTRL_INIT, ENG_CFG, ENG_CFG_CYC, ENG_CFG_DOUBLE, ENG_CYCCNT, ENG_CYCCNT_V, ENG_STAT, ENG_STAT_HALF]; omega)
        | refine Ev.whenUp ?_ ?_)
    | dsimp only | split

theorem execModulatorStuck_keeps (c : Fin 64) (t : State) : ∃ u, execModulatorStuck c t = .next u ∧ Ev 0x106000800114c00 t u := by
  refine ⟨_, rfl, ?_⟩
  try dsimp only
  repeat' first
    | (with_reducible first
        | exact Ev.refl _ _ | intro _ | refine Ev.ite ?_ ?_ | refine State.engineFault_ev ?_
        | refine Ev.put ?_ 18 (by simp only [ MOD_CFG, MOD_CFG_AXIS, MOD_CFG_EN, MOD_STAT, MOD_STAT_STUCK]; omega)
        | refine Ev.strobe ?_ | refine Ev.whenUp ?_ ?_)
    | dsimp only | split

theorem execModCapturePop_keeps (t : State) : ∃ u, execModCapturePop t = .next u ∧ Ev 0x40000a t u := by
  refine ⟨_, rfl, ?_⟩
  try dsimp only
  repeat' first
    | (with_reducible first
        | exact Ev.refl _ _ | intro _ | refine Ev.ite ?_ ?_ | refine State.popMod_ev ?_ | refine Ev.setRdata ?_
        | refine Ev.whenUp ?_ ?_)
    | dsimp only | split

theorem execClearDegraded_keeps (a : Fin 8) (t : State) : ∃ u, execClearDegraded a t = .next u ∧ Ev 0x2000000010000 t u := by
  refine ⟨_, rfl, ?_⟩
  try dsimp only
  repeat' first
    | (with_reducible first
        | exact Ev.refl _ _ | intro _ | refine Ev.ite ?_ ?_ | refine State.clearDegraded_ev ?_ | refine Ev.whenUp ?_ ?_)
    | dsimp only | split

theorem execClearSchedule_keeps (a : Fin 8) (t : State) : ∃ u, execClearSchedule a t = .next u ∧ Ev 0x2000000000000 t u := by
  refine ⟨_, rfl, ?_⟩
  try dsimp only
  repeat' first
    | (with_reducible first
        | exact Ev.refl _ _ | intro _ | refine Ev.ite ?_ ?_ | refine State.clearSchedule_ev ?_ | refine Ev.whenUp ?_ ?_)
    | dsimp only | split

theorem execFilterOutputReady_keeps (a : Fin 8) (raw : List Int) (t : State) : ∃ u, execFilterOutputReady a raw t = .next u ∧ Ev 0xffffffff00514c02 t u := by
  refine ⟨_, rfl, ?_⟩
  try dsimp only
  repeat' first
    | (with_reducible first
        | exact Ev.refl _ _ | intro _ | refine Ev.ite ?_ ?_ | refine State.cycleWork_ev ?_ | refine State.engineFault_ev ?_
        | refine State.modSample_ev ?_ | refine State.sampleRegs_ev ?_ | refine State.stillEdge_ev ?_ | refine Ev.modEng ?_
        | refine Ev.strobe ?_ | refine Ev.whenUp ?_ ?_ | refine Ev.foldl ?_ _ ?_)
    | dsimp only | split

end Sys2Proof.Machine
end

