-- ==== Sys2Proof/Laws/ExecEvents.lean ====
section
/-! SUPPORT. Each command of Machine/Events.lean runs, and what it keeps. -/

set_option linter.all false
set_option Elab.async false

namespace Sys2Proof.Machine

theorem execEventStrobe_keeps (e : BitVec 10) (t : State) : ∃ u, execEventStrobe e t = .next u ∧ Ev 0x800000000 t u := by
  refine ⟨_, rfl, ?_⟩
  try dsimp only
  repeat' first
    | (with_reducible first
        | exact Ev.refl _ _ | intro _ | refine Ev.ite ?_ ?_ | refine Ev.strobe ?_)
    | dsimp only | split

theorem execEvtCtlWrite_keeps (ten : Fin 8) (e : BitVec 10) (v : Word) (t : State) : ∃ u, execEvtCtlWrite ten e v t = .next u ∧ Ev 0xffffffff00000000 t u := by
  refine ⟨_, rfl, ?_⟩
  try dsimp only
  repeat' first
    | (with_reducible first
        | exact Ev.refl _ _ | intro _ | refine Ev.ite ?_ ?_ | refine State.evtCtlWrite_ev ?_ | refine Ev.whenUp ?_ ?_)
    | dsimp only | split

theorem execDoorbell_keeps (n : BitVec 10) (t : State) : ∃ u, execDoorbell n t = .next u ∧ Ev 0x800000000 t u := by
  refine ⟨_, rfl, ?_⟩
  try dsimp only
  repeat' first
    | (with_reducible first
        | exact Ev.refl _ _ | intro _ | refine Ev.ite ?_ ?_ | refine State.doorbell_ev ?_ | refine Ev.whenUp ?_ ?_)
    | dsimp only | split

theorem execPsetShadowWrite_keeps (g : Fin 3) (a : Fin 8) (k' : Fin 10) (ten : Fin 8) (v : Word) (t : State) : ∃ u, execPsetShadowWrite g a k' ten v t = .next u ∧ Ev 0xffffffff000e0000 t u := by
  refine ⟨_, rfl, ?_⟩
  try dsimp only
  repeat' first
    | (with_reducible first
        | exact Ev.refl _ _ | intro _ | refine Ev.ite ?_ ?_ | refine State.psetWrite_ev ?_ | refine Ev.whenUp ?_ ?_)
    | dsimp only | split

theorem execPsetCommit_keeps (g : Fin 3) (a : Fin 8) (ten : Fin 8) (t : State) : ∃ u, execPsetCommit g a ten t = .next u ∧ Ev 0xffffffff000e4400 t u := by
  refine ⟨_, rfl, ?_⟩
  try dsimp only
  repeat' first
    | (with_reducible first
        | exact Ev.refl _ _ | intro _ | refine Ev.ite ?_ ?_ | refine State.psetCommit_ev ?_ | refine Ev.whenUp ?_ ?_)
    | dsimp only | split

theorem execPsetDiscard_keeps (g : Fin 3) (a : Fin 8) (ten : Fin 8) (t : State) : ∃ u, execPsetDiscard g a ten t = .next u ∧ Ev 0xffffffff000e0000 t u := by
  refine ⟨_, rfl, ?_⟩
  try dsimp only
  repeat' first
    | (with_reducible first
        | exact Ev.refl _ _ | intro _ | refine Ev.ite ?_ ?_ | refine State.psetDiscard_ev ?_ | refine Ev.whenUp ?_ ?_)
    | dsimp only | split

theorem execDmaStart_keeps (ten : Fin 8) (c : Fin 32) (t : State) : ∃ u, execDmaStart ten c t = .next u ∧ Ev 0xffffffff01000000 t u := by
  refine ⟨_, rfl, ?_⟩
  try dsimp only
  repeat' first
    | (with_reducible first
        | exact Ev.refl _ _ | intro _ | refine Ev.ite ?_ ?_ | refine State.dmaBy_ev ?_ ?_ | refine State.dmaStart_ev ?_
        | refine Ev.whenUp ?_ ?_)
    | dsimp only | split

theorem execDmaStop_keeps (ten : Fin 8) (c : Fin 32) (t : State) : ∃ u, execDmaStop ten c t = .next u ∧ Ev 0xffffffff01000000 t u := by
  refine ⟨_, rfl, ?_⟩
  try dsimp only
  repeat' first
    | (with_reducible first
        | exact Ev.refl _ _ | intro _ | refine Ev.ite ?_ ?_ | refine State.dmaBy_ev ?_ ?_ | refine State.dmaStopCmd_ev ?_
        | refine Ev.whenUp ?_ ?_)
    | dsimp only | split

theorem execDmaResume_keeps (ten : Fin 8) (c : Fin 32) (t : State) : ∃ u, execDmaResume ten c t = .next u ∧ Ev 0xffffffff01000000 t u := by
  refine ⟨_, rfl, ?_⟩
  try dsimp only
  repeat' first
    | (with_reducible first
        | exact Ev.refl _ _ | intro _ | refine Ev.ite ?_ ?_ | refine State.dmaBy_ev ?_ ?_ | refine State.dmaResumeCmd_ev ?_
        | refine Ev.whenUp ?_ ?_)
    | dsimp only | split

theorem execDmaAbandon_keeps (ten : Fin 8) (c : Fin 32) (t : State) : ∃ u, execDmaAbandon ten c t = .next u ∧ Ev 0xffffffff01000000 t u := by
  refine ⟨_, rfl, ?_⟩
  try dsimp only
  repeat' first
    | (with_reducible first
        | exact Ev.refl _ _ | intro _ | refine Ev.ite ?_ ?_ | refine State.dmaBy_ev ?_ ?_ | refine State.dmaDiscard_ev ?_
        | refine Ev.whenUp ?_ ?_)
    | dsimp only | split

theorem execTenCoreWrite_keeps (ten : Fin 8) (t' : Fin 8) (v : Word) (t : State) : ∃ u, execTenCoreWrite ten t' v t = .next u ∧ Ev 0xffffffff00004000 t u := by
  refine ⟨_, rfl, ?_⟩
  try dsimp only
  repeat' first
    | (with_reducible first
        | exact Ev.refl _ _ | intro _ | refine Ev.ite ?_ ?_ | refine State.protCount_ev ?_ | refine State.tenCoreWrite_ev ?_
        | refine Ev.whenUp ?_ ?_)
    | dsimp only | split

end Sys2Proof.Machine
end

