-- ==== Sys2Proof/Laws/ExecFeedback.lean ====
section
/-! SUPPORT. Each command of Machine/Feedback.lean runs, and what it keeps. -/

set_option linter.all false
set_option Elab.async false

namespace Sys2Proof.Machine

theorem execIncAbEdge_keeps (n : Fin 8) (a : HeldLevel) (b : HeldLevel) (t : State) : ∃ u, execIncAbEdge n a b t = .next u ∧ Ev 0x10a000800314c00 t u := by
  refine ⟨_, rfl, ?_⟩
  try dsimp only
  repeat' first
    | (with_reducible first
        | exact Ev.refl _ _
        | intro _
        | refine Ev.ite ?_ ?_
        | refine Ev.bump ?_ 19 (by first | decide | (simp only [ INC_CFG, INC_CFG_EN, INC_CFG_FILT, INC_CFG_INV, INC_CNT, INC_CNT_V, INC_ERRCNT, INC_ERRCNT_ILLCNT, INC_STAT, incFlags]; omega))
        | refine Ev.raise ?_ 19 (by first | decide | (simp only [ INC_CFG, INC_CFG_EN, INC_CFG_FILT, INC_CFG_INV, INC_CNT, INC_CNT_V, INC_ERRCNT, INC_ERRCNT_ILLCNT, INC_STAT, incFlags]; omega))
        | refine Ev.whenHas ?_ ?_
        | refine State.capture_ev ?_
        | refine State.incStep_ev ?_
        | refine State.judgeInc_ev ?_
        | refine State.modInc_ev ?_)
    | dsimp only | split

theorem execIndexPoint_keeps (n : Fin 8) (z : HeldLevel) (ill : Bool) (t : State) : ∃ u, execIndexPoint n z ill t = .next u ∧ Ev 0x10a000800314c00 t u := by
  refine ⟨_, rfl, ?_⟩
  try dsimp only
  repeat' first
    | (with_reducible first
        | exact Ev.refl _ _
        | intro _
        | refine Ev.ite ?_ ?_
        | refine Ev.whenHas ?_ ?_
        | refine State.indexPoint_ev ?_)
    | dsimp only | split

theorem execWireFaultDetect_keeps (c : BitVec 8) (k' : Fin 3) (t : State) : ∃ u, execWireFaultDetect c k' t = .next u ∧ Ev 0x10a000800314c00 t u := by
  refine ⟨_, rfl, ?_⟩
  try dsimp only
  repeat' first
    | (with_reducible first
        | exact Ev.refl _ _ | intro _ | refine Ev.ite ?_ ?_ | refine State.capture_ev ?_ | refine State.judgeHall_ev ?_
        | refine State.judgeInc_ev ?_
        | refine Ev.bump ?_ 19 (by simp only [ HALL_CFG, HALL_CFG_EN, HALL_CNT, HALL_CNT_V, HALL_ERRCNT, HALL_ERRCNT_WFCNT, HALL_STAT, HALL_STAT_WFLIVE, INC_CFG, INC_CFG_EN, INC_CNT, INC_CNT_V, INC_ERRCNT, INC_ERRCNT_WFCNT, INC_STAT, INC_STAT_WFLIVE, hallFlags, incFlags]; omega)
        | refine Ev.putOr ?_ 19 (by simp only [ HALL_CFG, HALL_CFG_EN, HALL_CNT, HALL_CNT_V, HALL_ERRCNT, HALL_ERRCNT_WFCNT, HALL_STAT, HALL_STAT_WFLIVE, INC_CFG, INC_CFG_EN, INC_CNT, INC_CNT_V, INC_ERRCNT, INC_ERRCNT_WFCNT, INC_STAT, INC_STAT_WFLIVE, hallFlags, incFlags]; omega)
        | refine Ev.raise ?_ 19 (by simp only [ HALL_CFG, HALL_CFG_EN, HALL_CNT, HALL_CNT_V, HALL_ERRCNT, HALL_ERRCNT_WFCNT, HALL_STAT, HALL_STAT_WFLIVE, INC_CFG, INC_CFG_EN, INC_CNT, INC_CNT_V, INC_ERRCNT, INC_ERRCNT_WFCNT, INC_STAT, INC_STAT_WFLIVE, hallFlags, incFlags]; omega)
        | refine Ev.whenUp ?_ ?_)
    | dsimp only | split

theorem execWireFaultClear_keeps (c : BitVec 8) (k' : Fin 3) (t : State) : ∃ u, execWireFaultClear c k' t = .next u ∧ Ev 0x8000000000000 t u := by
  refine ⟨_, rfl, ?_⟩
  try dsimp only
  repeat' first
    | (with_reducible first
        | exact Ev.refl _ _
        | intro _
        | refine Ev.ite ?_ ?_
        | refine Ev.put ?_ 19 (by first | decide | (simp only [ HALL_STAT, HALL_STAT_WFLIVE, INC_STAT, INC_STAT_WFLIVE]; omega))
        | refine Ev.whenHas ?_ ?_)
    | dsimp only | split

theorem execSpeedStopTimeout_keeps (c : BitVec 8) (t : State) : ∃ u, execSpeedStopTimeout c t = .next u ∧ Ev 0x8000000000000 t u := by
  refine ⟨_, rfl, ?_⟩
  try dsimp only
  repeat' first
    | (with_reducible first
        | exact Ev.refl _ _
        | intro _
        | refine Ev.ite ?_ ?_
        | refine Ev.put ?_ 19 (by first | decide | (simp only [ HALL_STAT, HALL_STAT_STILL, INC_STAT, INC_STAT_STILL, SSI_SPD, SSI_SPD_V]; omega))
        | refine Ev.whenHas ?_ ?_)
    | dsimp only | split

theorem execCountWindowEnd_keeps (n : Fin 8) (t : State) : ∃ u, execCountWindowEnd n t = .next u ∧ Ev 0x8000800200000 t u := by
  refine ⟨_, rfl, ?_⟩
  try dsimp only
  repeat' first
    | (with_reducible first
        | exact Ev.refl _ _
        | intro _
        | refine Ev.ite ?_ ?_
        | refine Ev.whenHas ?_ ?_
        | refine State.modInc_ev ?_
        | refine State.speedMode_ev ?_)
    | dsimp only | split

theorem execHallTransition_keeps (h' : Fin 8) (v : HeldHall) (t : State) : ∃ u, execHallTransition h' v t = .next u ∧ Ev 0x10a000800314c00 t u := by
  refine ⟨_, rfl, ?_⟩
  try dsimp only
  repeat' first
    | (with_reducible first
        | exact Ev.refl _ _
        | intro _
        | refine Ev.ite ?_ ?_
        | refine Ev.put ?_ 19 (by first | decide | (simp only [ HALL_CFG, HALL_CFG_EN, HALL_CFG_FILT, HALL_CFG_INV, HALL_CNT, HALL_CNT_V, HALL_STAT, HALL_STATE, HALL_STATE_SECTOR, HALL_STATE_UVW, HALL_STAT_DIR, HALL_STAT_STILL, HALL_TS]; omega))
        | refine Ev.setReg64 ?_ 19 (by first | decide | (simp only [ HALL_CFG, HALL_CFG_EN, HALL_CFG_FILT, HALL_CFG_INV, HALL_CNT, HALL_CNT_V, HALL_STAT, HALL_STATE, HALL_STATE_SECTOR, HALL_STATE_UVW, HALL_STAT_DIR, HALL_STAT_STILL, HALL_TS]; omega)) (by first | decide | (simp only [ HALL_CFG, HALL_CFG_EN, HALL_CFG_FILT, HALL_CFG_INV, HALL_CNT, HALL_CNT_V, HALL_STAT, HALL_STATE, HALL_STATE_SECTOR, HALL_STATE_UVW, HALL_STAT_DIR, HALL_STAT_STILL, HALL_TS]; omega))
        | refine Ev.whenHas ?_ ?_
        | refine State.hallIllegal_ev ?_
        | refine State.modHall_ev ?_)
    | dsimp only | split

theorem execHallInvalidTimeout_keeps (h' : Fin 8) (t : State) : ∃ u, execHallInvalidTimeout h' t = .next u ∧ Ev 0x10a000800314c00 t u := by
  refine ⟨_, rfl, ?_⟩
  try dsimp only
  repeat' first
    | (with_reducible first
        | exact Ev.refl _ _ | intro _ | refine Ev.ite ?_ ?_ | refine State.judgeHall_ev ?_ | refine State.modHall_ev ?_
        | refine Ev.whenUp ?_ ?_)
    | dsimp only | split

theorem execSsiReadStart_keeps (i : Fin 4) (dat : Bool) (t : State) : ∃ u, execSsiReadStart i dat t = .next u ∧ Ev 0x10a000800314c00 t u := by
  refine ⟨_, rfl, ?_⟩
  try dsimp only
  repeat' first
    | (with_reducible first
        | exact Ev.refl _ _ | intro _ | refine Ev.ite ?_ ?_ | refine State.ssiStart_ev ?_ | refine Ev.whenUp ?_ ?_)
    | dsimp only | split

theorem execSsiReadCommand_keeps (i : Fin 4) (dat : Bool) (t : State) : ∃ u, execSsiReadCommand i dat t = .next u ∧ Ev 0x10a000800314c00 t u := by
  refine ⟨_, rfl, ?_⟩
  try dsimp only
  repeat' first
    | (with_reducible first
        | exact Ev.refl _ _ | intro _ | refine Ev.ite ?_ ?_ | refine State.ssiStart_ev ?_ | refine Ev.whenUp ?_ ?_)
    | dsimp only | split

theorem execSsiReadComplete_keeps (i : Fin 4) (v : Nat) (eof : Bool) (mono : Bool) (t : State) : ∃ u, execSsiReadComplete i v eof mono t = .next u ∧ Ev 0x10a000800314c00 t u := by
  refine ⟨_, rfl, ?_⟩
  try dsimp only
  repeat' first
    | (with_reducible first
        | exact Ev.refl _ _ | intro _ | refine Ev.ite ?_ ?_ | refine State.ssiCheck_ev ?_ | refine State.ssiFail_ev ?_
        | refine Ev.whenUp ?_ ?_)
    | dsimp only | split

theorem execTapSpeedSend_keeps (k' : Fin 2) (t : State) : ∃ u, execTapSpeedSend k' t = .next u ∧ Ev 0x8000800200200 t u := by
  refine ⟨_, rfl, ?_⟩
  try dsimp only
  repeat' first
    | (with_reducible first
        | exact Ev.refl _ _ | intro _ | refine Ev.ite ?_ ?_ | refine Ev.modBg ?_ | refine Ev.modFb ?_
        | refine Ev.put ?_ 19 (by first | decide | (simp only [ FB_TAP, FB_TAPF, FB_TAPF_HZ, FB_TAPWARN, FB_TAPWARN_HZ, FB_TAP_NOEST, FB_TAP_WARN]; omega))
        | refine Ev.strobe ?_ | refine Ev.whenUp ?_ ?_)
    | dsimp only | split

theorem execArmReference_keeps (n : Fin 8) (t : State) : ∃ u, execArmReference n t = .next u ∧ Ev 0x200000 t u := by
  refine ⟨_, rfl, ?_⟩
  try dsimp only
  repeat' first
    | (with_reducible first
        | exact Ev.refl _ _
        | intro _
        | refine Ev.ite ?_ ?_
        | refine Ev.whenHas ?_ ?_
        | refine State.armReference_ev ?_)
    | dsimp only | split

theorem execClearLoss_keeps (c : BitVec 8) (t : State) : ∃ u, execClearLoss c t = .next u ∧ Ev 0x8000000000000 t u := by
  refine ⟨_, rfl, ?_⟩
  try dsimp only
  repeat' first
    | (with_reducible first
        | exact Ev.refl _ _
        | intro _
        | refine Ev.ite ?_ ?_
        | refine Ev.whenHas ?_ ?_
        | refine State.clearLoss_ev ?_)
    | dsimp only | split

theorem execClearLock_keeps (n : Fin 8) (t : State) : ∃ u, execClearLock n t = .next u ∧ Ev 0x8000000000000 t u := by
  refine ⟨_, rfl, ?_⟩
  try dsimp only
  repeat' first
    | (with_reducible first
        | exact Ev.refl _ _
        | intro _
        | refine Ev.ite ?_ ?_
        | refine Ev.whenHas ?_ ?_
        | refine State.clearLock_ev ?_)
    | dsimp only | split

theorem execClearErrorCount_keeps (c : BitVec 8) (t : State) : ∃ u, execClearErrorCount c t = .next u ∧ Ev 0x8000000000000 t u := by
  refine ⟨_, rfl, ?_⟩
  try dsimp only
  repeat' first
    | (with_reducible first
        | exact Ev.refl _ _
        | intro _
        | refine Ev.ite ?_ ?_
        | refine Ev.whenHas ?_ ?_
        | refine State.clearErr_ev ?_)
    | dsimp only | split

theorem execClearIndexRecord_keeps (n : Fin 8) (t : State) : ∃ u, execClearIndexRecord n t = .next u ∧ Ev 0x8000000200000 t u := by
  refine ⟨_, rfl, ?_⟩
  try dsimp only
  repeat' first
    | (with_reducible first
        | exact Ev.refl _ _
        | intro _
        | refine Ev.ite ?_ ?_
        | refine Ev.whenHas ?_ ?_
        | refine State.clearIndex_ev ?_)
    | dsimp only | split

theorem execFbCapturePop_keeps (t : State) : ∃ u, execFbCapturePop t = .next u ∧ Ev 0x200008 t u := by
  refine ⟨_, rfl, ?_⟩
  try dsimp only
  repeat' first
    | (with_reducible first
        | exact Ev.refl _ _ | intro _ | refine Ev.ite ?_ ?_ | refine State.popCap_ev ?_ | refine Ev.setRdata ?_
        | refine Ev.whenUp ?_ ?_)
    | dsimp only | split

end Sys2Proof.Machine
end

