-- ==== Sys2Proof/Laws/ExecLamps.lean ====
section
/-! SUPPORT. Each command of Machine/Lamps.lean runs, and what it keeps. -/

set_option linter.all false
set_option Elab.async false

namespace Sys2Proof.Machine

theorem execLampWindowJudge_keeps (n : Fin 8) (mA : Nat) (t : State) : ∃ u, execLampWindowJudge n mA t = .next u ∧ Ev 0x502000b0011cf00 t u := by
  refine ⟨_, rfl, ?_⟩
  try dsimp only
  repeat' first
    | (with_reducible first
        | exact Ev.refl _ _ | intro _ | refine Ev.ite ?_ ?_ | refine State.lampClear_ev ?_ | refine State.lampDarken_ev ?_
        | refine State.modLamp_ev ?_
        | refine Ev.put ?_ 24 (by simp only [ LAMP_CFG, LAMP_CFG_DARKTH, LAMP_I, LAMP_I_IWIN, LAMP_STAT, LAMP_STAT_OFFLATCH]; omega)
        | refine Ev.whenUp ?_ ?_)
    | dsimp only | split

theorem execLampColdPulse_keeps (n : Fin 8) (i1 : Nat) (i2 : Nat) (t : State) : ∃ u, execLampColdPulse n i1 i2 t = .next u ∧ Ev 0x502000b0011cf00 t u := by
  refine ⟨_, rfl, ?_⟩
  try dsimp only
  repeat' first
    | (with_reducible first
        | exact Ev.refl _ _ | intro _ | refine Ev.ite ?_ ?_ | refine State.lampClear_ev ?_ | refine State.lampDarken_ev ?_
        | refine Ev.put ?_ 24 (by simp only [ LAMP_CFG, LAMP_CFG_DARKTH, LAMP_CFG_EN, LAMP_CNT, LAMP_CNT_PROVES, LAMP_I, LAMP_I_IPULSE, LAMP_STAT, LAMP_STAT_OFFLATCH]; omega)
        | refine Ev.raise ?_ 24 (by simp only [ LAMP_CFG, LAMP_CFG_DARKTH, LAMP_CFG_EN, LAMP_CNT, LAMP_CNT_PROVES, LAMP_I, LAMP_I_IPULSE, LAMP_STAT, LAMP_STAT_OFFLATCH]; omega)
        | refine Ev.wrapUp ?_ 24 (by simp only [ LAMP_CFG, LAMP_CFG_DARKTH, LAMP_CFG_EN, LAMP_CNT, LAMP_CNT_PROVES, LAMP_I, LAMP_I_IPULSE, LAMP_STAT, LAMP_STAT_OFFLATCH]; omega)
        | refine Ev.whenUp ?_ ?_)
    | dsimp only | split

theorem execLampOverload_keeps (n : Fin 8) (t : State) : ∃ u, execLampOverload n t = .next u ∧ Ev 0x502000b0011cf00 t u := by
  refine ⟨_, rfl, ?_⟩
  try dsimp only
  repeat' first
    | (with_reducible first
        | exact Ev.refl _ _ | intro _ | refine Ev.ite ?_ ?_ | refine State.lampDarken_ev ?_
        | refine Ev.bump ?_ 24 (by simp only [ LAMP_CFG, LAMP_CFG_EN, LAMP_CNT, LAMP_CNT_DARKCNT, LAMP_STAT, LAMP_STAT_DARK, LAMP_STAT_OFFLATCH]; omega)
        | refine Ev.put ?_ 24 (by simp only [ LAMP_CFG, LAMP_CFG_EN, LAMP_CNT, LAMP_CNT_DARKCNT, LAMP_STAT, LAMP_STAT_DARK, LAMP_STAT_OFFLATCH]; omega)
        | refine Ev.raise ?_ 24 (by simp only [ LAMP_CFG, LAMP_CFG_EN, LAMP_CNT, LAMP_CNT_DARKCNT, LAMP_STAT, LAMP_STAT_DARK, LAMP_STAT_OFFLATCH]; omega)
        | refine Ev.whenUp ?_ ?_)
    | dsimp only | split

theorem execLampRetry_keeps (n : Fin 8) (t : State) : ∃ u, execLampRetry n t = .next u ∧ Ev 0x100000000100000 t u := by
  refine ⟨_, rfl, ?_⟩
  try dsimp only
  repeat' first
    | (with_reducible first
        | exact Ev.refl _ _
        | intro _
        | refine Ev.ite ?_ ?_
        | refine Ev.whenHas ?_ ?_
        | refine State.lampRetry_ev ?_)
    | dsimp only | split

theorem execLampClearCount_keeps (n : Fin 8) (t : State) : ∃ u, execLampClearCount n t = .next u ∧ Ev 0x100000000000000 t u := by
  refine ⟨_, rfl, ?_⟩
  try dsimp only
  repeat' first
    | (with_reducible first
        | exact Ev.refl _ _
        | intro _
        | refine Ev.ite ?_ ?_
        | refine Ev.whenHas ?_ ?_
        | refine State.lampClrCnt_ev ?_)
    | dsimp only | split

theorem execGpiChange_keeps (v : BitVec 8) (t : State) : ∃ u, execGpiChange v t = .next u ∧ Ev 0x100000800000000 t u := by
  refine ⟨_, rfl, ?_⟩
  try dsimp only
  repeat' first
    | (with_reducible first
        | exact Ev.refl _ _ | intro _ | refine Ev.ite ?_ ?_ | refine Ev.put ?_ 24 (by decide)
        | refine Ev.putOr ?_ 24 (by decide) | refine Ev.raise ?_ 24 (by decide) | refine Ev.whenUp ?_ ?_)
    | dsimp only | split

theorem execGpoOverload_keeps (i : Fin 4) (t : State) : ∃ u, execGpoOverload i t = .next u ∧ Ev 0x100000000104000 t u := by
  refine ⟨_, rfl, ?_⟩
  try dsimp only
  repeat' first
    | (with_reducible first
        | exact Ev.refl _ _ | intro _ | refine Ev.ite ?_ ?_ | refine Ev.emcy ?_ | refine Ev.modLio ?_
        | refine Ev.putOr ?_ 24 (by decide) | refine Ev.whenUp ?_ ?_)
    | dsimp only | split

end Sys2Proof.Machine
end

