-- ==== Sys2Proof/Laws/ExecNet.lean ====
section
/-! SUPPORT. Each command of Machine/Net.lean runs, and what it keeps. -/

set_option linter.all false
set_option Elab.async false

namespace Sys2Proof.Machine

theorem execCanTxPush_keeps (ch : Fin 2) (w : Word) (t : State) : ∃ u, execCanTxPush ch w t = .next u ∧ Ev 0x20000800004004 t u := by
  refine ⟨_, rfl, ?_⟩
  try dsimp only
  repeat' first
    | (with_reducible first
        | exact Ev.refl _ _ | intro _ | refine Ev.ite ?_ ?_ | refine State.canPush_ev ?_ | refine Ev.whenUp ?_ ?_)
    | dsimp only | split

theorem execCanRxPop_keeps (ch : Fin 2) (t : State) : ∃ u, execCanRxPop ch t = .next u ∧ Ev 0x4008 t u := by
  refine ⟨_, rfl, ?_⟩
  try dsimp only
  repeat' first
    | (with_reducible first
        | exact Ev.refl _ _ | intro _ | refine Ev.ite ?_ ?_ | refine State.canPop_ev ?_ | refine Ev.setRdata ?_
        | refine Ev.whenUp ?_ ?_)
    | dsimp only | split

theorem execCanFrameIgnored_keeps (ch : Fin 2) (t : State) : ∃ u, execCanFrameIgnored ch t = .next u ∧ Ev 0x20000000000000 t u := by
  refine ⟨_, rfl, ?_⟩
  try dsimp only
  repeat' first
    | (with_reducible first
        | exact Ev.refl _ _ | intro _ | refine Ev.ite ?_ ?_
        | refine Ev.bump ?_ 21 (by simp only [ CAN_CNT3, CAN_CNT3_IGN]; omega) | refine Ev.whenUp ?_ ?_)
    | dsimp only | split

theorem execCanErrorPassive_keeps (ch : Fin 2) (tec : BitVec 8) (rec : BitVec 8) (errs : Nat) (t : State) : ∃ u, execCanErrorPassive ch tec rec errs t = .next u ∧ Ev 0x20000800004000 t u := by
  refine ⟨_, rfl, ?_⟩
  try dsimp only
  repeat' first
    | (with_reducible first
        | exact Ev.refl _ _ | intro _ | refine Ev.ite ?_ ?_ | refine State.canCounters_ev ?_ | refine State.modCan_ev ?_
        | refine Ev.emcy ?_ | refine Ev.whenUp ?_ ?_)
    | dsimp only | split

theorem execCanErrorActive_keeps (ch : Fin 2) (tec : BitVec 8) (rec : BitVec 8) (errs : Nat) (t : State) : ∃ u, execCanErrorActive ch tec rec errs t = .next u ∧ Ev 0x20000800004000 t u := by
  refine ⟨_, rfl, ?_⟩
  try dsimp only
  repeat' first
    | (with_reducible first
        | exact Ev.refl _ _ | intro _ | refine Ev.ite ?_ ?_ | refine State.canCounters_ev ?_ | refine State.modCan_ev ?_
        | refine Ev.whenUp ?_ ?_)
    | dsimp only | split

theorem execCanBusOff_keeps (ch : Fin 2) (errs : Nat) (t : State) : ∃ u, execCanBusOff ch errs t = .next u ∧ Ev 0x162000800114c00 t u := by
  refine ⟨_, rfl, ?_⟩
  try dsimp only
  repeat' first
    | (with_reducible first
        | exact Ev.refl _ _ | intro _ | refine Ev.ite ?_ ?_ | refine State.canCounters_ev ?_ | refine State.canEvt_ev ?_
        | refine State.commLoss_ev ?_ | refine State.modCan_ev ?_
        | refine Ev.bump ?_ 21 (by simp only [ CAN_STAT, CAN_STAT_BOFFCNT, CAN_STAT_REC]; omega) | refine Ev.emcy ?_
        | refine Ev.whenUp ?_ ?_)
    | dsimp only | split

theorem execCanBusOffRecovery_keeps (ch : Fin 2) (t : State) : ∃ u, execCanBusOffRecovery ch t = .next u ∧ Ev 0x20000800004004 t u := by
  refine ⟨_, rfl, ?_⟩
  try dsimp only
  repeat' first
    | (with_reducible first
        | exact Ev.refl _ _ | intro _ | refine Ev.ite ?_ ?_ | refine State.canCounters_ev ?_ | refine canDrain_ev ?_
        | refine State.modCan_ev ?_ | refine Ev.emcy ?_ | refine Ev.whenUp ?_ ?_)
    | dsimp only | split

theorem execPdoCobidWrite_keeps (tx : Bool) (n : Fin 16) (v : Word) (t : State) : ∃ u, execPdoCobidWrite tx n v t = .next u ∧ Ev 0x40000800004000 t u := by
  refine ⟨_, rfl, ?_⟩
  try dsimp only
  repeat' first
    | (with_reducible first
        | exact Ev.refl _ _ | intro _ | refine Ev.ite ?_ ?_ | refine State.pdoCobWrite_ev ?_ | refine Ev.whenUp ?_ ?_)
    | dsimp only | split

theorem execNmtStart_keeps (ch : Fin 2) (node : BitVec 8) (t : State) : ∃ u, execNmtStart ch node t = .next u ∧ Ev 0x60000800000000 t u := by
  refine ⟨_, rfl, ?_⟩
  try dsimp only
  repeat' first
    | (with_reducible first
        | exact Ev.refl _ _ | intro _ | refine Ev.ite ?_ ?_ | refine State.nmtRx_ev ?_ ?_ | refine Ev.put ?_ 22 (by decide))
    | dsimp only | split

theorem execNmtStop_keeps (ch : Fin 2) (node : BitVec 8) (t : State) : ∃ u, execNmtStop ch node t = .next u ∧ Ev 0x162000800114c00 t u := by
  refine ⟨_, rfl, ?_⟩
  try dsimp only
  repeat' first
    | (with_reducible first
        | exact Ev.refl _ _ | intro _ | refine Ev.ite ?_ ?_ | refine State.nmtLeave_ev ?_ | refine State.nmtRx_ev ?_ ?_)
    | dsimp only | split

theorem execNmtEnterPreOperational_keeps (ch : Fin 2) (node : BitVec 8) (t : State) : ∃ u, execNmtEnterPreOperational ch node t = .next u ∧ Ev 0x162000800114c00 t u := by
  refine ⟨_, rfl, ?_⟩
  try dsimp only
  repeat' first
    | (with_reducible first
        | exact Ev.refl _ _ | intro _ | refine Ev.ite ?_ ?_ | refine State.nmtLeave_ev ?_ | refine State.nmtRx_ev ?_ ?_)
    | dsimp only | split

theorem execNmtResetNode_keeps (ch : Fin 2) (node : BitVec 8) (t : State) : ∃ u, execNmtResetNode ch node t = .next u ∧ Ev 0x532001b0191cf04 t u := by
  refine ⟨_, rfl, ?_⟩
  try dsimp only
  repeat' first
    | (with_reducible first
        | exact Ev.refl _ _ | intro _ | refine Ev.ite ?_ ?_ | refine State.nmtRx_ev ?_ ?_ | refine State.sysRequest_ev ?_)
    | dsimp only | split

theorem execNmtResetCommunication_keeps (ch : Fin 2) (node : BitVec 8) (t : State) : ∃ u, execNmtResetCommunication ch node t = .next u ∧ Ev 0xffffffff00004006 t u := by
  refine ⟨_, rfl, ?_⟩
  try dsimp only
  repeat' first
    | (with_reducible first
        | exact Ev.refl _ _ | intro _ | refine Ev.ite ?_ ?_ | refine State.bootUp_ev ?_ | refine State.commReset_ev ?_
        | refine State.loadComm_ev ?_ | refine State.nmtRx_ev ?_ ?_ | refine State.restartTimers_ev ?_)
    | dsimp only | split

theorem execHeartbeatProduce_keeps (t : State) : ∃ u, execHeartbeatProduce t = .next u ∧ Ev 0x20000800000004 t u := by
  refine ⟨_, rfl, ?_⟩
  try dsimp only
  repeat' first
    | (with_reducible first
        | exact Ev.refl _ _ | intro _ | refine Ev.ite ?_ ?_ | refine State.canAll_ev ?_ | refine Ev.whenUp ?_ ?_)
    | dsimp only | split

theorem execServerKick_keeps (v : Word) (t : State) : ∃ u, execServerKick v t = .next u ∧ Ev 0x40000000000000 t u := by
  refine ⟨_, rfl, ?_⟩
  try dsimp only
  repeat' first
    | (with_reducible first
        | exact Ev.refl _ _ | intro _ | refine Ev.ite ?_ ?_ | refine State.pdoKick_ev ?_ | refine Ev.whenUp ?_ ?_)
    | dsimp only | split

theorem execServerAliveLapse_keeps (t : State) : ∃ u, execServerAliveLapse t = .next u ∧ Ev 0x40000000000000 t u := by
  refine ⟨_, rfl, ?_⟩
  try dsimp only
  repeat' first
    | (with_reducible first
        | exact Ev.refl _ _ | intro _ | refine Ev.ite ?_ ?_ | refine Ev.put ?_ 22 (by decide) | refine Ev.whenUp ?_ ?_)
    | dsimp only | split

theorem execHeartbeatRx_keeps (ch : Fin 2) (node : BitVec 7) (t : State) : ∃ u, execHeartbeatRx ch node t = .next u ∧ Ev 0x60000800004000 t u := by
  refine ⟨_, rfl, ?_⟩
  try dsimp only
  repeat' first
    | (with_reducible first
        | exact Ev.refl _ _ | intro _ | refine Ev.ite ?_ ?_ | refine State.canRx_ev ?_ ?_ | refine Ev.modSrv ?_
        | refine Ev.put ?_ 22 (by simp only [ PDO_HBC, PDO_HBC_EN, PDO_HBC_EXPIRED, PDO_HBC_NODE, PDO_HBC_TIMEMS]; omega)
        | refine Ev.forFin ?_ ?_)
    | dsimp only | split

theorem execHeartbeatConsumerExpiry_keeps (k' : Fin 4) (t : State) : ∃ u, execHeartbeatConsumerExpiry k' t = .next u ∧ Ev 0x142000800114c00 t u := by
  refine ⟨_, rfl, ?_⟩
  try dsimp only
  repeat' first
    | (with_reducible first
        | exact Ev.refl _ _ | intro _ | refine Ev.ite ?_ ?_ | refine State.commLoss_ev ?_ | refine Ev.emcy ?_
        | refine Ev.modSrv ?_ | refine Ev.put ?_ 22 (by simp only [ PDO_HBC, PDO_HBC_EN, PDO_HBC_EXPIRED, PDO_HBC_NODE]; omega)
        | refine Ev.whenUp ?_ ?_)
    | dsimp only | split

theorem execEmcyTransmit_keeps (t : State) : ∃ u, execEmcyTransmit t = .next u ∧ Ev 0x20000800004004 t u := by
  refine ⟨_, rfl, ?_⟩
  try dsimp only
  repeat' first
    | (with_reducible first
        | exact Ev.refl _ _ | intro _ | refine Ev.ite ?_ ?_ | refine Ev.modSrv ?_ (fun x => ⟨x.objs, ?_, x.hist, x.rx⟩)
        | refine State.emcySend_ev ?_ | refine Ev.modSrv ?_ | refine Ev.whenUp ?_ ?_)
    | exact x.emcy | (rename_i hq; have x := x.emcy; rw [hq] at x; exact Nat.le_of_succ_le x) | dsimp only | split

end Sys2Proof.Machine
end

