-- ==== Sys2Proof/Laws/ExecPdo.lean ====
section
/-! SUPPORT. Each command of Machine/Pdo.lean runs, and what it keeps. -/

set_option linter.all false
set_option Elab.async false

namespace Sys2Proof.Machine

theorem execRpdoRx_keeps (ch : Fin 2) (id : BitVec 11) (data : List (BitVec 8)) (both : Bool) (id2 : BitVec 11) (data2 : List (BitVec 8)) (t : State) : ∃ u, execRpdoRx ch id data both id2 data2 t = .next u ∧ Ev 0xffffffff00114c00 t u := by
  refine ⟨_, rfl, ?_⟩
  try dsimp only
  repeat' first
    | (with_reducible first
        | exact Ev.refl _ _
        | intro _
        | refine Ev.ite ?_ ?_
        | refine State.rpdoApply_ev ?_
        | refine State.rpdoRx_ev ?_)
    | dsimp only | split

theorem execRpdoEventTimeout_keeps (r : Fin 16) (t : State) : ∃ u, execRpdoEventTimeout r t = .next u ∧ Ev 0x142000800114c00 t u := by
  refine ⟨_, rfl, ?_⟩
  try dsimp only
  repeat' first
    | (with_reducible first
        | exact Ev.refl _ _ | intro _ | refine Ev.ite ?_ ?_ | refine State.commLoss_ev ?_ | refine State.pdoEvt_ev ?_
        | refine Ev.emcy ?_ | refine Ev.modSrv ?_
        | refine Ev.put ?_ 22 (by first | decide | (simp only [ RPDO_AXES, RPDO_AXES_AXES, RPDO_COBID, RPDO_CTL, RPDO_CTL_EVTMS, TPDO_COBID, pdoBase, pdoInvalid, pdoLate, pdoMask]; (try split) <;> omega))
        | refine Ev.whenUp ?_ ?_)
    | dsimp only | split

theorem execTpdoTransmit_keeps (n : Fin 16) (timer : Bool) (t : State) : ∃ u, execTpdoTransmit n timer t = .next u ∧ Ev 0x60000800004004 t u := by
  refine ⟨_, rfl, ?_⟩
  try dsimp only
  repeat' first
    | (with_reducible first
        | exact Ev.refl _ _ | intro _ | refine Ev.ite ?_ ?_ | refine State.tpdoSend_ev ?_ | refine Ev.whenUp ?_ ?_)
    | dsimp only | split

theorem execSyncRx_keeps (ch : Fin 2) (id : BitVec 11) (t : State) : ∃ u, execSyncRx ch id t = .next u ∧ Ev 0xffffffff00114c04 t u := by
  refine ⟨_, rfl, ?_⟩
  try dsimp only
  repeat' first
    | (with_reducible first
        | exact Ev.refl _ _ | intro _ | refine Ev.ite ?_ ?_ | refine State.canRx_ev ?_ ?_ | refine State.pdoEvt_ev ?_
        | refine State.rpdoApply_ev ?_ | refine State.tpdoSync_ev ?_ | refine Ev.forFin ?_ ?_)
    | dsimp only | split

end Sys2Proof.Machine
end

