-- ==== Sys2Proof/Laws/ExecPorts.lean ====
section
/-! SUPPORT. Each command of Machine/Ports.lean runs, and what it keeps. -/

set_option linter.all false
set_option Elab.async false

namespace Sys2Proof.Machine

theorem execSatelliteReply_keeps (p : Fin 6) (bits : List Bool) (t : State) : ∃ u, execSatelliteReply p bits t = .next u ∧ Ev 0x50300080011cc00 t u := by
  refine ⟨_, rfl, ?_⟩
  try dsimp only
  repeat' first
    | (with_reducible first
        | exact Ev.refl _ _ | intro _ | refine Ev.ite ?_ ?_ | refine State.classify_ev ?_ | refine State.rawWord_ev ?_
        | refine State.takeCheck_ev ?_ | refine Ev.modPort ?_ (by with_unfolding_all exact fun _ h => ⟨h.rx, h.ten⟩)
        | refine Ev.whenUp ?_ ?_)
    | dsimp only | split

theorem execSlotBoundary_keeps (p : Fin 6) (t : State) : ∃ u, execSlotBoundary p t = .next u ∧ Ev 0x503000a0011cf06 t u := by
  refine ⟨_, rfl, ?_⟩
  try dsimp only
  repeat' first
    | (with_reducible first
        | exact Ev.refl _ _ | intro _ | refine Ev.ite ?_ ?_ | refine State.alloffDone_ev ?_ | refine State.alloffSend_ev ?_
        | refine State.closeFlight_ev ?_ | refine State.parkPort_ev ?_ | refine State.slotTake_ev ?_
        | refine State.takeCheck_ev ?_ | refine Ev.modPort ?_ (by with_unfolding_all exact fun _ h => ⟨h.rx, h.ten⟩))
    | dsimp only | split

theorem execAlloffSequenceComplete_keeps (p : Fin 6) (t : State) : ∃ u, execAlloffSequenceComplete p t = .next u ∧ Ev 0x103000a0011cf02 t u := by
  refine ⟨_, rfl, ?_⟩
  try dsimp only
  repeat' first
    | (with_reducible first
        | exact Ev.refl _ _ | intro _ | refine Ev.ite ?_ ?_ | refine State.alloffDone_ev ?_ | refine State.parkPort_ev ?_)
    | dsimp only | split

theorem execTenantQueuePush_keeps (p : Fin 6) (ten : Fin 8) (w : Word) (t : State) : ∃ u, execTenantQueuePush p ten w t = .next u ∧ Ev 0x1000000000800 t u := by
  refine ⟨_, rfl, ?_⟩
  try dsimp only
  repeat' first
    | (with_reducible first
        | exact Ev.refl _ _ | intro _ | refine Ev.ite ?_ ?_ | refine State.pushTq_ev ?_ | refine Ev.whenUp ?_ ?_)
    | dsimp only | split

theorem execReceiveFifoPop_keeps (p : Fin 6) (t : State) : ∃ u, execReceiveFifoPop p t = .next u ∧ Ev 0x1000000000808 t u := by
  refine ⟨_, rfl, ?_⟩
  try dsimp only
  repeat' first
    | (with_reducible first
        | exact Ev.refl _ _
        | intro _
        | refine Ev.ite ?_ ?_
        | refine Ev.setRdata ?_
        | refine Ev.whenHas ?_ ?_
        | refine State.popRx_ev ?_)
    | dsimp only | split

theorem execHaltStart_keeps (p : Fin 6) (bits : List Bool) (t : State) : ∃ u, execHaltStart p bits t = .next u ∧ Ev 0x503000a0011cf06 t u := by
  refine ⟨_, rfl, ?_⟩
  try dsimp only
  repeat' first
    | (with_reducible first
        | exact Ev.refl _ _
        | intro _
        | refine Ev.ite ?_ ?_
        | refine Ev.draw ?_
        | refine Ev.forFin ?_ ?_
        | refine Ev.modPort ?_ (by with_unfolding_all exact fun _ h => ⟨h.rx, h.ten⟩)
        | refine Ev.send ?_
        | refine State.cutFlight_ev ?_
        | refine State.dropStatus_ev ?_
        | refine State.engineFault_ev ?_
        | refine State.levelsOffPort_ev ?_
        | refine State.portEvt_ev ?_
        | refine State.portFault_ev ?_)
    | dsimp only | split

theorem execHaltFrameTwelfthEdge_keeps (p : Fin 6) (t : State) : ∃ u, execHaltFrameTwelfthEdge p t = .next u ∧ Ev 0x1000000010900 t u := by
  refine ⟨_, rfl, ?_⟩
  try dsimp only
  repeat' first
    | (with_reducible first
        | exact Ev.refl _ _ | intro _ | refine Ev.ite ?_ ?_ | refine State.portClear_ev ?_ | refine State.portOff_ev ?_
        | refine Ev.modPort ?_ (by with_unfolding_all exact fun _ h => ⟨h.rx, h.ten⟩) | refine Ev.modSys ?_)
    | dsimp only | split

theorem execPortEnable_keeps (p : Fin 6) (t : State) : ∃ u, execPortEnable p t = .next u ∧ Ev 0x3000000010800 t u := by
  refine ⟨_, rfl, ?_⟩
  try dsimp only
  repeat' first
    | (with_reducible first
        | exact Ev.refl _ _
        | intro _
        | refine Ev.ite ?_ ?_
        | refine Ev.whenHas ?_ ?_
        | refine State.portEnable_ev ?_)
    | dsimp only | split

theorem execPortDisable_keeps (p : Fin 6) (t : State) : ∃ u, execPortDisable p t = .next u ∧ Ev 0x103000a0011cf02 t u := by
  refine ⟨_, rfl, ?_⟩
  try dsimp only
  repeat' first
    | (with_reducible first
        | exact Ev.refl _ _
        | intro _
        | refine Ev.ite ?_ ?_
        | refine Ev.whenHas ?_ ?_
        | refine State.portDisable_ev ?_)
    | dsimp only | split

theorem execPortResume_keeps (p : Fin 6) (t : State) : ∃ u, execPortResume p t = .next u ∧ Ev 0x3000000010800 t u := by
  refine ⟨_, rfl, ?_⟩
  try dsimp only
  repeat' first
    | (with_reducible first
        | exact Ev.refl _ _
        | intro _
        | refine Ev.ite ?_ ?_
        | refine Ev.whenHas ?_ ?_
        | refine State.portResume_ev ?_)
    | dsimp only | split

theorem execPortHaltRequest_keeps (p : Fin 6) (t : State) : ∃ u, execPortHaltRequest p t = .next u ∧ Ev 0x800 t u := by
  refine ⟨_, rfl, ?_⟩
  try dsimp only
  repeat' first
    | (with_reducible first
        | exact Ev.refl _ _
        | intro _
        | refine Ev.ite ?_ ?_
        | refine Ev.whenHas ?_ ?_
        | refine State.haltPort_ev ?_)
    | dsimp only | split

theorem execClearReentered_keeps (p : Fin 6) (t : State) : ∃ u, execClearReentered p t = .next u ∧ Ev 0x800 t u := by
  refine ⟨_, rfl, ?_⟩
  try dsimp only
  repeat' first
    | (with_reducible first
        | exact Ev.refl _ _
        | intro _
        | refine Ev.ite ?_ ?_
        | refine Ev.whenHas ?_ ?_
        | refine State.clrReent_ev ?_)
    | dsimp only | split

theorem execHaltNFall_keeps (t : State) : ∃ u, execHaltNFall t = .next u ∧ Ev 0x102000a0011cf00 t u := by
  refine ⟨_, rfl, ?_⟩
  try dsimp only
  repeat' first
    | (with_reducible first
        | exact Ev.refl _ _ | intro _ | refine Ev.ite ?_ ?_ | refine State.cutAxes_ev ?_ | refine State.haltPort_ev ?_
        | refine Ev.modCp ?_ | refine Ev.modSys ?_ | refine Ev.forFin ?_ ?_)
    | dsimp only | split

theorem execSpAlertNFall_keeps (p : Fin 6) (t : State) : ∃ u, execSpAlertNFall p t = .next u ∧ Ev 0x1000800000800 t u := by
  refine ⟨_, rfl, ?_⟩
  try dsimp only
  repeat' first
    | (with_reducible first
        | exact Ev.refl _ _
        | intro _
        | refine Ev.ite ?_ ?_
        | refine Ev.forFin ?_ ?_
        | refine Ev.whenHas ?_ ?_
        | refine State.haltPort_ev ?_
        | refine State.portEvt_ev ?_)
    | dsimp only | split

end Sys2Proof.Machine
end

