-- ==== Sys2Proof/Laws/ExecReset.lean ====
section
/-! SUPPORT. Each command of Machine/Reset.lean runs, and what it keeps. -/

set_option linter.all false
set_option Elab.async false

namespace Sys2Proof.Machine

theorem execPreResetPhaseEnd_keeps (n : Nat) (t : State) : ∃ u, execPreResetPhaseEnd n t = .next u ∧ Ev 0xffffffff0fffed35 t u := by
  refine ⟨_, rfl, ?_⟩
  try dsimp only
  repeat' first
    | (with_reducible first
        | exact Ev.refl _ _ | intro _ | refine Ev.ite ?_ ?_ | refine State.enterReset_ev ?_ | refine Ev.bumpBy ?_ 0 (by decide)
        | refine Ev.setWire ?_)
    | dsimp only | split

theorem execRstNAssert_keeps (t : State) : ∃ u, execRstNAssert t = .next u ∧ Ev 0xffffffff0fffef31 t u := by
  refine ⟨_, rfl, ?_⟩
  try dsimp only
  repeat' first
    | (with_reducible first
        | exact Ev.refl _ _ | intro _ | refine Ev.ite ?_ ?_ | refine State.rstLine_ev ?_)
    | dsimp only | split

theorem execHalduxResetExit_keeps (t : State) : ∃ u, execHalduxResetExit t = .next u ∧ Ev 0x100 t u := by
  refine ⟨_, rfl, ?_⟩
  try dsimp only
  repeat' first
    | (with_reducible first
        | exact Ev.refl _ _ | intro _ | refine Ev.ite ?_ ?_ | refine Ev.modSys ?_)
    | dsimp only | split

theorem execSoftwareSystemReset_keeps (v : Word) (t : State) : ∃ u, execSoftwareSystemReset v t = .next u ∧ Ev 0x532001b0191cf04 t u := by
  refine ⟨_, rfl, ?_⟩
  try dsimp only
  repeat' first
    | (with_reducible first
        | exact Ev.refl _ _ | intro _ | refine Ev.ite ?_ ?_ | refine State.writeSysRst_ev ?_ | refine Ev.whenUp ?_ ?_)
    | dsimp only | split

theorem execWatchdogKick_keeps (v : Word) (t : State) : ∃ u, execWatchdogKick v t = .next u ∧ Ev 0x532001b0191cf04 t u := by
  refine ⟨_, rfl, ?_⟩
  try dsimp only
  repeat' first
    | (with_reducible first
        | exact Ev.refl _ _ | intro _ | refine Ev.ite ?_ ?_ | refine State.writeWdtKick_ev ?_ | refine Ev.whenUp ?_ ?_)
    | dsimp only | split

theorem execWatchdogExpiry_keeps (t : State) : ∃ u, execWatchdogExpiry t = .next u ∧ Ev 0x532001b0191cf04 t u := by
  refine ⟨_, rfl, ?_⟩
  try dsimp only
  repeat' first
    | (with_reducible first
        | exact Ev.refl _ _ | intro _ | refine Ev.ite ?_ ?_ | refine State.sysRequest_ev ?_)
    | dsimp only | split

theorem execPllLockLoss_keeps (t : State) : ∃ u, execPllLockLoss t = .next u ∧ Ev 0x100 t u := by
  refine ⟨_, rfl, ?_⟩
  try dsimp only
  repeat' first
    | (with_reducible first
        | exact Ev.refl _ _ | intro _ | refine Ev.ite ?_ ?_ | refine Ev.modSys ?_)
    | dsimp only | split

theorem execSysResetUnit_keeps (onB : Bool) (fcs : Bool) (f : List (BitVec 8)) (t : State) : ∃ u, execSysResetUnit onB fcs f t = .next u ∧ Ev 0x532001b0191cf04 t u := by
  refine ⟨_, rfl, ?_⟩
  try dsimp only
  repeat' first
    | (with_reducible first
        | exact Ev.refl _ _
        | intro _
        | refine Ev.ite ?_ ?_
        | refine Ev.setWire ?_
        | refine State.preSysReq_ev ?_
        | refine State.sysAnswer_ev ?_
        | refine State.sysReq_ev ?_ ?_
        | refine State.sysRequest_ev ?_)
    | dsimp only | split

theorem execPowerOnReset_keeps (sw : BitVec 8) (lv : BitVec 32) (t : State) : ∃ u, execPowerOnReset sw lv t = .next u ∧ Ev 0xffffffff0fffefb1 t u := by
  refine ⟨_, rfl, ?_⟩
  try dsimp only
  repeat' first
    | (with_reducible first
        | exact Ev.refl _ _ | intro _ | refine Ev.ite ?_ ?_ | refine State.tryStart_ev ?_ | refine Ev.modBear ?_)
    | dsimp only | split

theorem execPllLock_keeps (c : Vector (BitVec 6) 8) (t : State) : ∃ u, execPllLock c t = .next u ∧ Ev 0x4000010f8041c0 t u := by
  refine ⟨_, rfl, ?_⟩
  try dsimp only
  repeat' first
    | (with_reducible first
        | exact Ev.refl _ _ | intro _ | refine Ev.ite ?_ ?_ | refine State.coreRelease_ev ?_ | refine State.deriveNode_ev ?_
        | refine State.latchRole_ev ?_ | refine State.loadOptions_ev ?_ | refine State.ringJoin_ev ?_
        | refine State.startEmcys_ev ?_ | refine Ev.modSys ?_)
    | dsimp only | split

theorem execSelftestComplete_keeps (failed : Option (Fin 8)) (t : State) : ∃ u, execSelftestComplete failed t = .next u ∧ Ev 0x502000b0d11cfc0 t u := by
  refine ⟨_, rfl, ?_⟩
  try dsimp only
  repeat' first
    | (with_reducible first
        | exact Ev.refl _ _ | intro _ | refine Ev.ite ?_ ?_ | refine State.bgEmcy_ev ?_ | refine State.bgEvent_ev ?_
        | refine State.coreRelease_ev ?_ | refine State.lockout_ev ?_ | refine Ev.modBg ?_)
    | dsimp only | split

theorem execBadgerLateTimeout_keeps (t : State) : ∃ u, execBadgerLateTimeout t = .next u ∧ Ev 0x10d0041c0 t u := by
  refine ⟨_, rfl, ?_⟩
  try dsimp only
  repeat' first
    | (with_reducible first
        | exact Ev.refl _ _ | intro _ | refine Ev.ite ?_ ?_ | refine State.coreRelease_ev ?_ | refine Ev.put ?_ 0 (by decide))
    | dsimp only | split

theorem execTenantReset_keeps (v : Word) (got : List (List Bool)) (t : State) : ∃ u, execTenantReset v got t = .next u ∧ Ev 0xffffffff059fef06 t u := by
  refine ⟨_, rfl, ?_⟩
  try dsimp only
  repeat' first
    | (with_reducible first
        | exact Ev.refl _ _ | intro _ | refine Ev.ite ?_ ?_ | refine State.writeTenRst_ev ?_ | refine Ev.whenUp ?_ ?_)
    | dsimp only | split

theorem execPortReset_keeps (v : Word) (t : State) : ∃ u, execPortReset v t = .next u ∧ Ev 0x1001901000800 t u := by
  refine ⟨_, rfl, ?_⟩
  try dsimp only
  repeat' first
    | (with_reducible first
        | exact Ev.refl _ _ | intro _ | refine Ev.ite ?_ ?_ | refine State.writePortRst_ev ?_ | refine Ev.whenUp ?_ ?_)
    | dsimp only | split

end Sys2Proof.Machine
end

