-- ==== Sys2Proof/Laws/ExecRing.lean ====
section
/-! SUPPORT. Each command of Machine/Ring.lean runs, and what it keeps. -/

set_option linter.all false
set_option Elab.async false

namespace Sys2Proof.Machine

theorem execRingEnable_keeps (t : State) : ∃ u, execRingEnable t = .next u ∧ Ev 0x800000 t u := by
  refine ⟨_, rfl, ?_⟩
  try dsimp only
  repeat' first
    | (with_reducible first
        | exact Ev.refl _ _ | intro _ | refine Ev.ite ?_ ?_ | refine State.ringEnable_ev ?_ | refine Ev.whenUp ?_ ?_)
    | dsimp only | split

theorem execRingDisable_keeps (t : State) : ∃ u, execRingDisable t = .next u ∧ Ev 0x10000800800000 t u := by
  refine ⟨_, rfl, ?_⟩
  try dsimp only
  repeat' first
    | (with_reducible first
        | exact Ev.refl _ _ | intro _ | refine Ev.ite ?_ ?_ | refine State.ringDisable_ev ?_ | refine Ev.whenUp ?_ ?_)
    | dsimp only | split

theorem execRingRejoin_keeps (t : State) : ∃ u, execRingRejoin t = .next u ∧ Ev 0x800000 t u := by
  refine ⟨_, rfl, ?_⟩
  try dsimp only
  repeat' first
    | (with_reducible first
        | exact Ev.refl _ _ | intro _ | refine Ev.ite ?_ ?_ | refine State.ringRejoin_ev ?_ | refine Ev.whenUp ?_ ?_)
    | dsimp only | split

theorem execRingClearCount_keeps (t : State) : ∃ u, execRingClearCount t = .next u ∧ Ev 0x10000000000000 t u := by
  refine ⟨_, rfl, ?_⟩
  try dsimp only
  repeat' first
    | (with_reducible first
        | exact Ev.refl _ _ | intro _ | refine Ev.ite ?_ ?_ | refine State.ringClearCounts_ev ?_ | refine Ev.whenUp ?_ ?_)
    | dsimp only | split

theorem execRingForeignFrame_keeps (t : State) : ∃ u, execRingForeignFrame t = .next u ∧ Ev 0x10000000000000 t u := by
  refine ⟨_, rfl, ?_⟩
  try dsimp only
  repeat' first
    | (with_reducible first
        | exact Ev.refl _ _ | intro _ | refine Ev.ite ?_ ?_ | refine Ev.bump ?_ 20 (by decide) | refine Ev.whenUp ?_ ?_)
    | dsimp only | split

theorem execUnknownTypeFrame_keeps (onB : Bool) (fcs : Bool) (f : List (BitVec 8)) (t : State) : ∃ u, execUnknownTypeFrame onB fcs f t = .next u ∧ Ev 0x10000800804004 t u := by
  refine ⟨_, rfl, ?_⟩
  try dsimp only
  repeat' first
    | (with_reducible first
        | exact Ev.refl _ _ | intro _ | refine Ev.ite ?_ ?_ | refine State.ringRx_ev ?_)
    | dsimp only | split

theorem execBeaconTx_keeps (t : State) : ∃ u, execBeaconTx t = .next u ∧ Ev 0x10000800804004 t u := by
  refine ⟨_, rfl, ?_⟩
  try dsimp only
  repeat' first
    | (with_reducible first
        | exact Ev.refl _ _ | intro _ | refine Ev.ite ?_ ?_ | refine State.judgeCycle_ev ?_ | refine State.originate_ev ?_
        | refine Ev.modRing ?_ | refine Ev.whenUp ?_ ?_)
    | dsimp only | split

theorem execBeaconRx_keeps (onB : Bool) (fcs : Bool) (f : List (BitVec 8)) (res : Nat) (late : Nat) (t : State) : ∃ u, execBeaconRx onB fcs f res late t = .next u ∧ Ev 0x10000800804006 t u := by
  refine ⟨_, rfl, ?_⟩
  try dsimp only
  repeat' first
    | (with_reducible first
        | exact Ev.refl _ _ | intro _ | refine Ev.ite ?_ ?_ | refine State.acceptBeacon_ev ?_ | refine State.ringRx_ev ?_
        | refine Ev.modRing ?_)
    | dsimp only | split

theorem execLinkevtRx_keeps (onB : Bool) (fcs : Bool) (f : List (BitVec 8)) (t : State) : ∃ u, execLinkevtRx onB fcs f t = .next u ∧ Ev 0x10000800804004 t u := by
  refine ⟨_, rfl, ?_⟩
  try dsimp only
  repeat' first
    | (with_reducible first
        | exact Ev.refl _ _ | intro _ | refine Ev.ite ?_ ?_ | refine State.ringDecide_ev ?_ | refine State.ringTake_ev ?_ ?_)
    | dsimp only | split

theorem execRingLinkChange_keeps (onB : Bool) (lk : Bool) (t : State) : ∃ u, execRingLinkChange onB lk t = .next u ∧ Ev 0x10000800804004 t u := by
  refine ⟨_, rfl, ?_⟩
  try dsimp only
  repeat' first
    | (with_reducible first
        | exact Ev.refl _ _ | intro _ | refine Ev.ite ?_ ?_ | refine State.originateOn_ev ?_ | refine State.ringDecide_ev ?_
        | refine State.ringEvt_ev ?_ | refine Ev.modRing ?_ | refine Ev.whenUp ?_ ?_)
    | dsimp only | split

theorem execPdelayTx_keeps (t : State) : ∃ u, execPdelayTx t = .next u ∧ Ev 0x800004 t u := by
  refine ⟨_, rfl, ?_⟩
  try dsimp only
  repeat' first
    | (with_reducible first
        | exact Ev.refl _ _ | intro _ | refine Ev.ite ?_ ?_ | refine State.originateOn_ev ?_ | refine Ev.modRing ?_
        | refine Ev.whenUp ?_ ?_)
    | dsimp only | split

theorem execPdelayReqRx_keeps (onB : Bool) (fcs : Bool) (f : List (BitVec 8)) (late : Nat) (t : State) : ∃ u, execPdelayReqRx onB fcs f late t = .next u ∧ Ev 0x10000800804004 t u := by
  refine ⟨_, rfl, ?_⟩
  try dsimp only
  repeat' first
    | (with_reducible first
        | exact Ev.refl _ _ | intro _ | refine Ev.ite ?_ ?_ | refine State.originateOn_ev ?_ | refine State.ringRx_ev ?_)
    | dsimp only | split

theorem execPdelayRespRx_keeps (onB : Bool) (fcs : Bool) (f : List (BitVec 8)) (late : Nat) (t : State) : ∃ u, execPdelayRespRx onB fcs f late t = .next u ∧ Ev 0x10000800804006 t u := by
  refine ⟨_, rfl, ?_⟩
  try dsimp only
  repeat' first
    | (with_reducible first
        | exact Ev.refl _ _ | intro _ | refine Ev.ite ?_ ?_ | refine meanDelay_ev ?_ | refine State.ringRx_ev ?_
        | refine Ev.modRing ?_ | refine Ev.put ?_ 20 (by decide))
    | dsimp only | split

theorem execGroupPeriodStart_keeps (g : Fin 16) (t : State) : ∃ u, execGroupPeriodStart g t = .next u ∧ Ev 0x12000800804004 t u := by
  refine ⟨_, rfl, ?_⟩
  try dsimp only
  repeat' first
    | (with_reducible first
        | exact Ev.refl _ _ | intro _ | refine Ev.ite ?_ ?_ | refine State.droopUpdate_ev ?_ | refine State.enterDroop_ev ?_
        | refine State.modGrp_ev ?_ | refine State.originate_ev ?_ | refine Ev.whenUp ?_ ?_ | refine Ev.foldl ?_ _ ?_)
    | dsimp only | split

theorem execAvailRx_keeps (onB : Bool) (fcs : Bool) (f : List (BitVec 8)) (t : State) : ∃ u, execAvailRx onB fcs f t = .next u ∧ Ev 0x10000800804004 t u := by
  refine ⟨_, rfl, ?_⟩
  try dsimp only
  repeat' first
    | (with_reducible first
        | exact Ev.refl _ _ | intro _ | refine Ev.ite ?_ ?_ | refine State.modGrp_ev ?_ | refine State.ringTake_ev ?_ ?_)
    | dsimp only | split

theorem execShareRx_keeps (onB : Bool) (fcs : Bool) (f : List (BitVec 8)) (t : State) : ∃ u, execShareRx onB fcs f t = .next u ∧ Ev 0x12000800804004 t u := by
  refine ⟨_, rfl, ?_⟩
  try dsimp only
  repeat' first
    | (with_reducible first
        | exact Ev.refl _ _ | intro _ | refine Ev.ite ?_ ?_ | refine State.applyShare_ev ?_ | refine State.modGrp_ev ?_
        | refine State.ringTake_ev ?_ ?_ | refine Ev.put ?_ 20 (by simp only [ GRP_STAT, GRP_STAT_QUORATE]; omega))
    | dsimp only | split

theorem execSharePoint_keeps (g : Fin 16) (t : State) : ∃ u, execSharePoint g t = .next u ∧ Ev 0x12000800804006 t u := by
  refine ⟨_, rfl, ?_⟩
  try dsimp only
  repeat' first
    | (with_reducible first
        | exact Ev.refl _ _ | intro _ | refine Ev.ite ?_ ?_ | refine State.leadPoint_ev ?_ | refine State.modGrp_ev ?_
        | refine State.startLead_ev ?_ | refine Ev.whenUp ?_ ?_)
    | dsimp only | split

theorem execSysPing_keeps (onB : Bool) (fcs : Bool) (f : List (BitVec 8)) (t : State) : ∃ u, execSysPing onB fcs f t = .next u ∧ Ev 0x10000800804104 t u := by
  refine ⟨_, rfl, ?_⟩
  try dsimp only
  repeat' first
    | (with_reducible first
        | exact Ev.refl _ _ | intro _ | refine Ev.ite ?_ ?_ | refine State.sysAnswer_ev ?_ | refine State.sysReq_ev ?_ ?_)
    | dsimp only | split

theorem execSysMail_keeps (onB : Bool) (fcs : Bool) (f : List (BitVec 8)) (t : State) : ∃ u, execSysMail onB fcs f t = .next u ∧ Ev 0x10000800804104 t u := by
  refine ⟨_, rfl, ?_⟩
  try dsimp only
  repeat' first
    | (with_reducible first
        | exact Ev.refl _ _ | intro _ | refine Ev.ite ?_ ?_ | refine State.rxRecord_ev ?_ | refine State.sysAnswer_ev ?_
        | refine State.sysReq_ev ?_ ?_)
    | (rename_i hq; exact State.rxRecord_ev hq (Ev.refl _ _)) | dsimp only | split

theorem execSysQuery_keeps (onB : Bool) (fcs : Bool) (f : List (BitVec 8)) (t : State) : ∃ u, execSysQuery onB fcs f t = .next u ∧ Ev 0x10000800804104 t u := by
  refine ⟨_, rfl, ?_⟩
  try dsimp only
  repeat' first
    | (with_reducible first
        | exact Ev.refl _ _ | intro _ | refine Ev.ite ?_ ?_ | refine State.rxRecord_ev ?_ | refine State.sysAnswer_ev ?_
        | refine State.sysReq_ev ?_ ?_ | refine Ev.modRing ?_)
    | (rename_i hq; exact State.rxRecord_ev hq (Ev.refl _ _)) | dsimp only | split

theorem execSysUnknownCommand_keeps (onB : Bool) (fcs : Bool) (f : List (BitVec 8)) (t : State) : ∃ u, execSysUnknownCommand onB fcs f t = .next u ∧ Ev 0x10000800804104 t u := by
  refine ⟨_, rfl, ?_⟩
  try dsimp only
  repeat' first
    | (with_reducible first
        | exact Ev.refl _ _ | intro _ | refine Ev.ite ?_ ?_ | refine State.sysAnswer_ev ?_ | refine State.sysReq_ev ?_ ?_)
    | dsimp only | split

theorem execSysRespRx_keeps (onB : Bool) (fcs : Bool) (f : List (BitVec 8)) (t : State) : ∃ u, execSysRespRx onB fcs f t = .next u ∧ Ev 0x10000800804004 t u := by
  refine ⟨_, rfl, ?_⟩
  try dsimp only
  repeat' first
    | (with_reducible first
        | exact Ev.refl _ _ | intro _ | refine Ev.ite ?_ ?_ | refine State.rxGetD_ev ?_ | refine State.nakRx_ev ?_
        | refine State.ringTake_ev ?_ ?_ | refine State.rxRecord_ev ?_)
    | dsimp only | split

theorem execQueryTimeout_keeps (osrc : BitVec 12) (tid : BitVec 16) (t : State) : ∃ u, execQueryTimeout osrc tid t = .next u ∧ Ev 0x10000800800004 t u := by
  refine ⟨_, rfl, ?_⟩
  try dsimp only
  repeat' first
    | (with_reducible first
        | exact Ev.refl _ _ | intro _ | refine Ev.ite ?_ ?_ | refine State.sysAnswer_ev ?_ | refine Ev.modRing ?_
        | refine Ev.whenUp ?_ ?_)
    | dsimp only | split

theorem execRingTxPush_keeps (w : Word) (t : State) : ∃ u, execRingTxPush w t = .next u ∧ Ev 0x10000800800004 t u := by
  refine ⟨_, rfl, ?_⟩
  try dsimp only
  repeat' first
    | (with_reducible first
        | exact Ev.refl _ _ | intro _ | refine Ev.ite ?_ ?_ | refine State.txPush_ev ?_ | refine Ev.whenUp ?_ ?_)
    | dsimp only | split

theorem execRingRxPop_keeps (t : State) : ∃ u, execRingRxPop t = .next u ∧ Ev 0x800008 t u := by
  refine ⟨_, rfl, ?_⟩
  try dsimp only
  repeat' first
    | (with_reducible first
        | exact Ev.refl _ _ | intro _ | refine Ev.ite ?_ ?_ | refine State.ringPop_ev ?_ | refine Ev.setRdata ?_
        | refine Ev.whenUp ?_ ?_)
    | dsimp only | split

theorem execRingListenTimeout_keeps (t : State) : ∃ u, execRingListenTimeout t = .next u ∧ Ev 0x10000800800004 t u := by
  refine ⟨_, rfl, ?_⟩
  try dsimp only
  repeat' first
    | (with_reducible first
        | exact Ev.refl _ _ | intro _ | refine Ev.ite ?_ ?_ | refine State.ringTo_ev ?_ | refine txDrain_ev ?_
        | refine Ev.modRing ?_ | refine Ev.whenUp ?_ ?_)
    | dsimp only | split

theorem execBeaconLossTimeout_keeps (t : State) : ∃ u, execBeaconLossTimeout t = .next u ∧ Ev 0x800000 t u := by
  refine ⟨_, rfl, ?_⟩
  try dsimp only
  repeat' first
    | (with_reducible first
        | exact Ev.refl _ _ | intro _ | refine Ev.ite ?_ ?_ | refine Ev.modRing ?_ | refine Ev.whenUp ?_ ?_)
    | dsimp only | split

theorem execElectionTimeout_keeps (t : State) : ∃ u, execElectionTimeout t = .next u ∧ Ev 0x10000800800000 t u := by
  refine ⟨_, rfl, ?_⟩
  try dsimp only
  repeat' first
    | (with_reducible first
        | exact Ev.refl _ _ | intro _ | refine Ev.ite ?_ ?_ | refine State.ringTo_ev ?_ | refine Ev.modRing ?_
        | refine Ev.whenUp ?_ ?_)
    | dsimp only | split

theorem execFseqRecordLapse_keeps (src : BitVec 12) (t : State) : ∃ u, execFseqRecordLapse src t = .next u ∧ Ev 0x800000 t u := by
  refine ⟨_, rfl, ?_⟩
  try dsimp only
  repeat' first
    | (with_reducible first
        | exact Ev.refl _ _ | intro _ | refine Ev.ite ?_ ?_ | refine Ev.modRing ?_ | refine Ev.whenUp ?_ ?_)
    | dsimp only | split

end Sys2Proof.Machine
end

