-- ==== Sys2Proof/Laws/ExecSatellite.lean ====
section
/-! SUPPORT. Each command of Machine/Satellite.lean runs, and what it keeps. -/

set_option linter.all false
set_option Elab.async false

namespace Sys2Proof.Machine

theorem execSatEdgeEvent_keeps (p : Fin 6) (k' : Fin 8) (swH : Switching) (swL : Switching) (t : State) : ∃ u, execSatEdgeEvent p k' swH swL t = .next u ∧ Ev 0x1000 t u := by
  refine ⟨_, rfl, ?_⟩
  try dsimp only
  repeat' first
    | (with_reducible first
        | exact Ev.refl _ _ | intro _ | refine Ev.ite ?_ ?_ | refine State.modSat_ev ?_ | refine State.satWhen_ev ?_ ?_)
    | dsimp only | split

theorem execSatAlloff_keeps (p : Fin 6) (sels : BitVec 8) (t' : Nat) (alive : Fin 16) (swH : Switching) (swL : Switching) (t : State) : ∃ u, execSatAlloff p sels t' alive swH swL t = .next u ∧ Ev 0x1000 t u := by
  refine ⟨_, rfl, ?_⟩
  try dsimp only
  repeat' first
    | (with_reducible first
        | exact Ev.refl _ _
        | intro _
        | refine Ev.ite ?_ ?_
        | refine Ev.forFin ?_ ?_
        | refine State.modSat_ev ?_
        | refine State.satFrame_ev ?_ ?_)
    | dsimp only | split

theorem execSatEdge_keeps (p : Fin 6) (k' : Fin 8) (t' : Nat) (alive : Fin 16) (payload : BitVec 24) (t : State) : ∃ u, execSatEdge p k' t' alive payload t = .next u ∧ Ev 0x1004 t u := by
  refine ⟨_, rfl, ?_⟩
  try dsimp only
  repeat' first
    | (with_reducible first
        | exact Ev.refl _ _
        | intro _
        | refine Ev.ite ?_ ?_
        | refine State.modSat_ev ?_
        | refine State.satDo_ev ?_
        | refine State.satFrame_ev ?_ ?_
        | refine State.satRefuse_ev ?_
        | refine State.satReply_ev ?_)
    | dsimp only | split

theorem execSatEdgeS_keeps (p : Fin 6) (sels : BitVec 8) (t' : Nat) (alive : Fin 16) (payload : BitVec 24) (t : State) : ∃ u, execSatEdgeS p sels t' alive payload t = .next u ∧ Ev 0x1000 t u := by
  refine ⟨_, rfl, ?_⟩
  try dsimp only
  repeat' first
    | (with_reducible first
        | exact Ev.refl _ _
        | intro _
        | refine Ev.ite ?_ ?_
        | refine Ev.forFin ?_ ?_
        | refine State.modSat_ev ?_
        | refine State.satFrame_ev ?_ ?_)
    | dsimp only | split

theorem execSatRead_keeps (p : Fin 6) (k' : Fin 8) (f : CmdFrame) (payload : BitVec 24) (t : State) : ∃ u, execSatRead p k' f payload t = .next u ∧ Ev 0x1004 t u := by
  refine ⟨_, rfl, ?_⟩
  try dsimp only
  repeat' first
    | (with_reducible first
        | exact Ev.refl _ _
        | intro _
        | refine Ev.ite ?_ ?_
        | refine State.answer_ev ?_
        | refine State.modSat_ev ?_
        | refine State.satFrame_ev ?_ ?_)
    | dsimp only | split

theorem execSatWrite_keeps (p : Fin 6) (k' : Fin 8) (t' : Nat) (alive : Fin 16) (payload : BitVec 24) (cmp : Bool) (t : State) : ∃ u, execSatWrite p k' t' alive payload cmp t = .next u ∧ Ev 0x1004 t u := by
  refine ⟨_, rfl, ?_⟩
  try dsimp only
  repeat' first
    | (with_reducible first
        | exact Ev.refl _ _
        | intro _
        | refine Ev.ite ?_ ?_
        | refine State.satFrame_ev ?_ ?_
        | refine State.satWriteReg_ev ?_)
    | dsimp only | split

theorem execSatConfigDone_keeps (p : Fin 6) (k' : Fin 8) (t' : Nat) (alive : Fin 16) (t : State) : ∃ u, execSatConfigDone p k' t' alive t = .next u ∧ Ev 0x1004 t u := by
  refine ⟨_, rfl, ?_⟩
  try dsimp only
  repeat' first
    | (with_reducible first
        | exact Ev.refl _ _
        | intro _
        | refine Ev.ite ?_ ?_
        | refine State.satFrame_ev ?_ ?_
        | refine State.satWriteReg_ev ?_)
    | dsimp only | split

theorem execSatFlagsClear_keeps (p : Fin 6) (k' : Fin 8) (t' : Nat) (alive : Fin 16) (bits : BitVec 16) (cmp : Bool) (t : State) : ∃ u, execSatFlagsClear p k' t' alive bits cmp t = .next u ∧ Ev 0x1004 t u := by
  refine ⟨_, rfl, ?_⟩
  try dsimp only
  repeat' first
    | (with_reducible first
        | exact Ev.refl _ _
        | intro _
        | refine Ev.ite ?_ ?_
        | refine State.satFrame_ev ?_ ?_
        | refine State.satWriteReg_ev ?_)
    | dsimp only | split

theorem execSatErrcntClear_keeps (p : Fin 6) (k' : Fin 8) (t' : Nat) (alive : Fin 16) (data : BitVec 16) (t : State) : ∃ u, execSatErrcntClear p k' t' alive data t = .next u ∧ Ev 0x1004 t u := by
  refine ⟨_, rfl, ?_⟩
  try dsimp only
  repeat' first
    | (with_reducible first
        | exact Ev.refl _ _
        | intro _
        | refine Ev.ite ?_ ?_
        | refine State.satFrame_ev ?_ ?_
        | refine State.satWriteReg_ev ?_)
    | dsimp only | split

theorem execSatStatus_keeps (p : Fin 6) (k' : Fin 8) (f : CmdFrame) (payload : BitVec 24) (t : State) : ∃ u, execSatStatus p k' f payload t = .next u ∧ Ev 0x1004 t u := by
  refine ⟨_, rfl, ?_⟩
  try dsimp only
  repeat' first
    | (with_reducible first
        | exact Ev.refl _ _
        | intro _
        | refine Ev.ite ?_ ?_
        | refine State.satDo_ev ?_
        | refine State.satFrame_ev ?_ ?_
        | refine State.satRefuse_ev ?_)
    | dsimp only | split

theorem execSatTlmStart_keeps (p : Fin 6) (k' : Fin 8) (f : CmdFrame) (payload : BitVec 24) (t : State) : ∃ u, execSatTlmStart p k' f payload t = .next u ∧ Ev 0x1004 t u := by
  refine ⟨_, rfl, ?_⟩
  try dsimp only
  repeat' first
    | (with_reducible first
        | exact Ev.refl _ _
        | intro _
        | refine Ev.ite ?_ ?_
        | refine State.satBusy_ev ?_
        | refine State.satDo_ev ?_
        | refine State.satFrame_ev ?_ ?_
        | refine State.satRefuse_ev ?_)
    | dsimp only | split

theorem execSatTlmRead_keeps (p : Fin 6) (k' : Fin 8) (f : CmdFrame) (payload : BitVec 24) (t : State) : ∃ u, execSatTlmRead p k' f payload t = .next u ∧ Ev 0x1004 t u := by
  refine ⟨_, rfl, ?_⟩
  try dsimp only
  repeat' first
    | (with_reducible first
        | exact Ev.refl _ _
        | intro _
        | refine Ev.ite ?_ ?_
        | refine State.satDo_ev ?_
        | refine State.satFrame_ev ?_ ?_
        | refine State.satRefuse_ev ?_)
    | dsimp only | split

theorem execSatTlmConversionDone_keeps (p : Fin 6) (k' : Fin 8) (result : BitVec 12) (ovr : Bool) (t : State) : ∃ u, execSatTlmConversionDone p k' result ovr t = .next u ∧ Ev 0x1000 t u := by
  refine ⟨_, rfl, ?_⟩
  try dsimp only
  repeat' first
    | (with_reducible first
        | exact Ev.refl _ _ | intro _ | refine Ev.ite ?_ ?_ | refine State.modSat_ev ?_ | refine State.satWhen_ev ?_ ?_)
    | dsimp only | split

theorem execSatDiagStart_keeps (p : Fin 6) (k' : Fin 8) (t' : Nat) (alive : Fin 16) (payload : BitVec 24) (t : State) : ∃ u, execSatDiagStart p k' t' alive payload t = .next u ∧ Ev 0x1004 t u := by
  refine ⟨_, rfl, ?_⟩
  try dsimp only
  repeat' first
    | (with_reducible first
        | exact Ev.refl _ _
        | intro _
        | refine Ev.ite ?_ ?_
        | refine State.satBusy_ev ?_
        | refine State.satDo_ev ?_
        | refine State.satFrame_ev ?_ ?_
        | refine State.satRefuse_ev ?_)
    | dsimp only | split

theorem execSatDiagRead_keeps (p : Fin 6) (k' : Fin 8) (f : CmdFrame) (payload : BitVec 24) (t : State) : ∃ u, execSatDiagRead p k' f payload t = .next u ∧ Ev 0x1004 t u := by
  refine ⟨_, rfl, ?_⟩
  try dsimp only
  repeat' first
    | (with_reducible first
        | exact Ev.refl _ _
        | intro _
        | refine Ev.ite ?_ ?_
        | refine State.satDo_ev ?_
        | refine State.satFrame_ev ?_ ?_
        | refine State.satRefuse_ev ?_)
    | dsimp only | split

theorem execSatDiagRunDone_keeps (p : Fin 6) (k' : Fin 8) (va : BitVec 12) (vb : BitVec 12) (tb : Nat) (t : State) : ∃ u, execSatDiagRunDone p k' va vb tb t = .next u ∧ Ev 0x1000 t u := by
  refine ⟨_, rfl, ?_⟩
  try dsimp only
  repeat' first
    | (with_reducible first
        | exact Ev.refl _ _ | intro _ | refine Ev.ite ?_ ?_ | refine State.modSat_ev ?_ | refine State.satWhen_ev ?_ ?_)
    | dsimp only | split

theorem execSatSreset_keeps (p : Fin 6) (k' : Fin 8) (f : CmdFrame) (payload : BitVec 24) (t : State) : ∃ u, execSatSreset p k' f payload t = .next u ∧ Ev 0x1004 t u := by
  refine ⟨_, rfl, ?_⟩
  try dsimp only
  repeat' first
    | (with_reducible first
        | exact Ev.refl _ _
        | intro _
        | refine Ev.ite ?_ ?_
        | refine State.satDo_ev ?_
        | refine State.satFrame_ev ?_ ?_
        | refine State.satRefuse_ev ?_)
    | dsimp only | split

theorem execSatReservedOpcode_keeps (p : Fin 6) (k' : Fin 8) (f : OpFrame) (t : State) : ∃ u, execSatReservedOpcode p k' f t = .next u ∧ Ev 0x1004 t u := by
  refine ⟨_, rfl, ?_⟩
  try dsimp only
  repeat' first
    | (with_reducible first
        | exact Ev.refl _ _
        | intro _
        | refine Ev.ite ?_ ?_
        | refine State.satFrame_ev ?_ ?_
        | refine State.satRefuse_ev ?_)
    | dsimp only | split

theorem execSatBadCommand_keeps (p : Fin 6) (k' : Fin 8) (f : BadFrame) (t : State) : ∃ u, execSatBadCommand p k' f t = .next u ∧ Ev 0x1006 t u := by
  refine ⟨_, rfl, ?_⟩
  try dsimp only
  repeat' first
    | (with_reducible first
        | exact Ev.refl _ _
        | intro _
        | refine Ev.ite ?_ ?_
        | refine Ev.draw ?_
        | refine State.answer_ev ?_
        | refine State.modSat_ev ?_
        | refine State.satWhen_ev ?_ ?_
        | refine State.settle_ev ?_)
    | dsimp only | split

theorem execSatHaltRecognition_keeps (p : Fin 6) (k' : Fin 8) (h' : HaltStage) (t : State) : ∃ u, execSatHaltRecognition p k' h' t = .next u ∧ Ev 0x1000 t u := by
  refine ⟨_, rfl, ?_⟩
  try dsimp only
  repeat' first
    | (with_reducible first
        | exact Ev.refl _ _
        | intro _
        | refine Ev.ite ?_ ?_
        | refine State.modSat_ev ?_
        | refine State.satWhen_ev ?_ ?_
        | refine State.settle_ev ?_)
    | dsimp only | split

theorem execSatSelectRelease_keeps (p : Fin 6) (k' : Fin 8) (t : State) : ∃ u, execSatSelectRelease p k' t = .next u ∧ Ev 0x1000 t u := by
  refine ⟨_, rfl, ?_⟩
  try dsimp only
  repeat' first
    | (with_reducible first
        | exact Ev.refl _ _ | intro _ | refine Ev.ite ?_ ?_ | refine State.modSat_ev ?_ | refine State.satWhen_ev ?_ ?_)
    | dsimp only | split

theorem execSatClockAbsence_keeps (p : Fin 6) (c : SatAt) (t : State) : ∃ u, execSatClockAbsence p c t = .next u ∧ Ev 0x1000 t u := by
  refine ⟨_, rfl, ?_⟩
  try dsimp only
  repeat' first
    | (with_reducible first
        | exact Ev.refl _ _
        | intro _
        | refine Ev.ite ?_ ?_
        | refine State.modSat_ev ?_
        | refine State.satWhen_ev ?_ ?_
        | refine State.settle_ev ?_)
    | dsimp only | split

theorem execSatReset_keeps (p : Fin 6) (k' : Fin 8) (t : State) : ∃ u, execSatReset p k' t = .next u ∧ Ev 0x1000 t u := by
  refine ⟨_, rfl, ?_⟩
  try dsimp only
  repeat' first
    | (with_reducible first
        | exact Ev.refl _ _ | intro _ | refine Ev.ite ?_ ?_ | refine State.modSat_ev ?_)
    | dsimp only | split

theorem execSatResetExit_keeps (p : Fin 6) (k' : Fin 8) (t : State) : ∃ u, execSatResetExit p k' t = .next u ∧ Ev 0x1000 t u := by
  refine ⟨_, rfl, ?_⟩
  try dsimp only
  repeat' first
    | (with_reducible first
        | exact Ev.refl _ _ | intro _ | refine Ev.ite ?_ ?_ | refine State.modSat_ev ?_)
    | dsimp only | split

theorem execSatUvEntry_keeps (p : Fin 6) (k' : Fin 8) (high : Bool) (neg : Bool) (now : Nat) (t : State) : ∃ u, execSatUvEntry p k' high neg now t = .next u ∧ Ev 0x1000 t u := by
  refine ⟨_, rfl, ?_⟩
  try dsimp only
  repeat' first
    | (with_reducible first
        | exact Ev.refl _ _ | intro _ | refine Ev.ite ?_ ?_ | refine State.modSat_ev ?_)
    | dsimp only | split

theorem execSatUvExit_keeps (p : Fin 6) (k' : Fin 8) (high : Bool) (neg : Bool) (t : State) : ∃ u, execSatUvExit p k' high neg t = .next u ∧ Ev 0x1000 t u := by
  refine ⟨_, rfl, ?_⟩
  try dsimp only
  repeat' first
    | (with_reducible first
        | exact Ev.refl _ _ | intro _ | refine Ev.ite ?_ ?_ | refine State.modSat_ev ?_)
    | dsimp only | split

theorem execSatGateSupplyCollapse_keeps (p : Fin 6) (k' : Fin 8) (high : Bool) (now : Nat) (t : State) : ∃ u, execSatGateSupplyCollapse p k' high now t = .next u ∧ Ev 0x1000 t u := by
  refine ⟨_, rfl, ?_⟩
  try dsimp only
  repeat' first
    | (with_reducible first
        | exact Ev.refl _ _ | intro _ | refine Ev.ite ?_ ?_ | refine State.modSat_ev ?_)
    | dsimp only | split

theorem execSatGateSupplyReturn_keeps (p : Fin 6) (k' : Fin 8) (high : Bool) (t : State) : ∃ u, execSatGateSupplyReturn p k' high t = .next u ∧ Ev 0x1000 t u := by
  refine ⟨_, rfl, ?_⟩
  try dsimp only
  repeat' first
    | (with_reducible first
        | exact Ev.refl _ _ | intro _ | refine Ev.ite ?_ ?_ | refine State.modSat_ev ?_)
    | dsimp only | split

theorem execSatScLatch_keeps (p : Fin 6) (k' : Fin 8) (sc : ScSamples) (t : State) : ∃ u, execSatScLatch p k' sc t = .next u ∧ Ev 0x1000 t u := by
  refine ⟨_, rfl, ?_⟩
  try dsimp only
  repeat' first
    | (with_reducible first
        | exact Ev.refl _ _ | intro _ | refine Ev.ite ?_ ?_ | refine State.modSat_ev ?_ | refine State.satWhen_ev ?_ ?_)
    | dsimp only | split

end Sys2Proof.Machine
end

