-- ==== Sys2Proof/Laws/ExecSequencer.lean ====
section
/-! SUPPORT. Each command of Machine/Sequencer.lean runs, and what it keeps. -/

set_option linter.all false
set_option Elab.async false

namespace Sys2Proof.Machine

theorem execPrechargeEnd_keeps (a : Fin 8) (t : State) : ∃ u, execPrechargeEnd a t = .next u ∧ Ev 0x50200080011cc00 t u := by
  refine ⟨_, rfl, ?_⟩
  try dsimp only
  repeat' first
    | (with_reducible first
        | exact Ev.refl _ _
        | intro _
        | refine Ev.ite ?_ ?_
        | refine Ev.put ?_ 17 (by first | decide | (simp only [ ENG_STAT, ENG_STAT_PRECHG]; omega))
        | refine Ev.whenHas ?_ ?_
        | refine State.enableStep2_ev ?_)
    | dsimp only | split

theorem execBrakeLiftWaitEnd_keeps (a : Fin 8) (t : State) : ∃ u, execBrakeLiftWaitEnd a t = .next u ∧ Ev 0x50200080011cc00 t u := by
  refine ⟨_, rfl, ?_⟩
  try dsimp only
  repeat' first
    | (with_reducible first
        | exact Ev.refl _ _
        | intro _
        | refine Ev.ite ?_ ?_
        | refine Ev.whenHas ?_ ?_
        | refine State.enableStep3_ev ?_)
    | dsimp only | split

theorem execStandstillReached_keeps (a : Fin 8) (t : State) : ∃ u, execStandstillReached a t = .next u ∧ Ev 0x102000800100400 t u := by
  refine ⟨_, rfl, ?_⟩
  try dsimp only
  repeat' first
    | (with_reducible first
        | exact Ev.refl _ _
        | intro _
        | refine Ev.ite ?_ ?_
        | refine Ev.modAxis ?_
        | refine Ev.whenHas ?_ ?_
        | refine State.stopDone_ev ?_)
    | dsimp only | split

theorem execCwShutdown_keeps (a : Fin 8) (src : Bool) (v : BitVec 16) (t : State) : ∃ u, execCwShutdown a src v t = .next u ∧ Ev 0x502000800114c00 t u := by
  refine ⟨_, rfl, ?_⟩
  try dsimp only
  repeat' first
    | (with_reducible first
        | exact Ev.refl _ _ | intro _ | refine Ev.ite ?_ ?_ | refine State.cwWhen_ev ?_)
    | dsimp only | split

theorem execCwSwitchOn_keeps (a : Fin 8) (src : Bool) (v : BitVec 16) (t : State) : ∃ u, execCwSwitchOn a src v t = .next u ∧ Ev 0x502000800114c00 t u := by
  refine ⟨_, rfl, ?_⟩
  try dsimp only
  repeat' first
    | (with_reducible first
        | exact Ev.refl _ _ | intro _ | refine Ev.ite ?_ ?_ | refine State.cwWhen_ev ?_)
    | dsimp only | split

theorem execCwEnableOperation_keeps (a : Fin 8) (src : Bool) (v : BitVec 16) (t : State) : ∃ u, execCwEnableOperation a src v t = .next u ∧ Ev 0x502000800114c00 t u := by
  refine ⟨_, rfl, ?_⟩
  try dsimp only
  repeat' first
    | (with_reducible first
        | exact Ev.refl _ _ | intro _ | refine Ev.ite ?_ ?_ | refine State.cwWhen_ev ?_ | refine State.enableOp_ev ?_)
    | dsimp only | split

theorem execCwDisableOperation_keeps (a : Fin 8) (src : Bool) (v : BitVec 16) (t : State) : ∃ u, execCwDisableOperation a src v t = .next u ∧ Ev 0x502000800114c00 t u := by
  refine ⟨_, rfl, ?_⟩
  try dsimp only
  repeat' first
    | (with_reducible first
        | exact Ev.refl _ _ | intro _ | refine Ev.ite ?_ ?_ | refine State.cwWhen_ev ?_)
    | dsimp only | split

theorem execCwDisableVoltage_keeps (a : Fin 8) (src : Bool) (v : BitVec 16) (t : State) : ∃ u, execCwDisableVoltage a src v t = .next u ∧ Ev 0x502000800114c00 t u := by
  refine ⟨_, rfl, ?_⟩
  try dsimp only
  repeat' first
    | (with_reducible first
        | exact Ev.refl _ _ | intro _ | refine Ev.ite ?_ ?_ | refine State.cwWhen_ev ?_)
    | dsimp only | split

theorem execCwQuickStop_keeps (a : Fin 8) (src : Bool) (v : BitVec 16) (t : State) : ∃ u, execCwQuickStop a src v t = .next u ∧ Ev 0x502000800114c00 t u := by
  refine ⟨_, rfl, ?_⟩
  try dsimp only
  repeat' first
    | (with_reducible first
        | exact Ev.refl _ _ | intro _ | refine Ev.ite ?_ ?_ | refine State.cwWhen_ev ?_ | refine State.quickStop_ev ?_)
    | dsimp only | split

theorem execCwHalt_keeps (a : Fin 8) (src : Bool) (v : BitVec 16) (t : State) : ∃ u, execCwHalt a src v t = .next u ∧ Ev 0x502000800114c00 t u := by
  refine ⟨_, rfl, ?_⟩
  try dsimp only
  repeat' first
    | (with_reducible first
        | exact Ev.refl _ _ | intro _ | refine Ev.ite ?_ ?_ | refine State.cwWhen_ev ?_)
    | dsimp only | split

theorem execCwFaultReset_keeps (a : Fin 8) (src : Bool) (v : BitVec 16) (t : State) : ∃ u, execCwFaultReset a src v t = .next u ∧ Ev 0x502000800114c00 t u := by
  refine ⟨_, rfl, ?_⟩
  try dsimp only
  repeat' first
    | (with_reducible first
        | exact Ev.refl _ _ | intro _ | refine Ev.ite ?_ ?_ | refine State.cwWhen_ev ?_)
    | dsimp only | split

theorem execModeSelectWrite_keeps (a : Fin 8) (code : BitVec 8) (t : State) : ∃ u, execModeSelectWrite a code t = .next u ∧ Ev 0x2000800114400 t u := by
  refine ⟨_, rfl, ?_⟩
  try dsimp only
  repeat' first
    | (with_reducible first
        | exact Ev.refl _ _
        | intro _
        | refine Ev.ite ?_ ?_
        | refine Ev.whenHas ?_ ?_
        | refine State.writeMode_ev ?_)
    | dsimp only | split

theorem execCwsrcWrite_keeps (a : Fin 8) (pdo : Bool) (t : State) : ∃ u, execCwsrcWrite a pdo t = .next u ∧ Ev 0x2000800004400 t u := by
  refine ⟨_, rfl, ?_⟩
  try dsimp only
  repeat' first
    | (with_reducible first
        | exact Ev.refl _ _
        | intro _
        | refine Ev.ite ?_ ?_
        | refine Ev.whenHas ?_ ?_
        | refine State.writeCwsrc_ev ?_)
    | dsimp only | split

theorem execAxInitWrite_keeps (a : Fin 8) (v : Bool) (t : State) : ∃ u, execAxInitWrite a v t = .next u ∧ Ev 0x2000800110400 t u := by
  refine ⟨_, rfl, ?_⟩
  try dsimp only
  repeat' first
    | (with_reducible first
        | exact Ev.refl _ _
        | intro _
        | refine Ev.ite ?_ ?_
        | refine Ev.whenHas ?_ ?_
        | refine State.writeInit_ev ?_)
    | dsimp only | split

theorem execEmergencyRequestOn_keeps (a : Fin 8) (t : State) : ∃ u, execEmergencyRequestOn a t = .next u ∧ Ev 0x102000a00114f00 t u := by
  refine ⟨_, rfl, ?_⟩
  try dsimp only
  repeat' first
    | (with_reducible first
        | exact Ev.refl _ _
        | intro _
        | refine Ev.ite ?_ ?_
        | refine Ev.whenHas ?_ ?_
        | refine State.emgOn_ev ?_)
    | dsimp only | split

theorem execEmergencyRequestOff_keeps (a : Fin 8) (t : State) : ∃ u, execEmergencyRequestOff a t = .next u ∧ Ev 0x102000800114c00 t u := by
  refine ⟨_, rfl, ?_⟩
  try dsimp only
  repeat' first
    | (with_reducible first
        | exact Ev.refl _ _
        | intro _
        | refine Ev.ite ?_ ?_
        | refine Ev.whenHas ?_ ?_
        | refine State.emgOff_ev ?_)
    | dsimp only | split

end Sys2Proof.Machine
end

