-- ==== Sys2Proof/Laws/ExecServer.lean ====
section
/-! SUPPORT. Each command of Machine/Server.lean runs, and what it keeps. -/

set_option linter.all false
set_option Elab.async false

namespace Sys2Proof.Machine

theorem execSdoUpload_keeps (ch : Fin 2) (idx : BitVec 16) (sub : BitVec 8) (served : Bool) (t : State) : ∃ u, execSdoUpload ch idx sub served t = .next u ∧ Ev 0x2e100090ce04856 t u := by
  refine ⟨_, rfl, ?_⟩
  try dsimp only
  repeat' first
    | (with_reducible first
        | exact Ev.refl _ _ | intro _ | refine Ev.ite ?_ ?_ | refine State.odRead_ev ?_ | refine State.sdoFail_ev ?_
        | refine State.sdoGive_ev ?_ | refine State.sdoOpen_ev ?_ ?_ | refine State.sdoRx_ev ?_ ?_)
    | (rename_i hq; have hq := congrArg Prod.snd hq; dsimp only at hq; rw [← hq]) | dsimp only | split

theorem execSdoDownload_keeps (ch : Fin 2) (idx : BitVec 16) (sub : BitVec 8) (seg : Bool) (size : Nat) (data : List (BitVec 8)) (served : Bool) (t : State) : ∃ u, execSdoDownload ch idx sub seg size data served t = .next u ∧ Ev 0xffffffff0fbfef66 t u := by
  refine ⟨_, rfl, ?_⟩
  try dsimp only
  repeat' first
    | (with_reducible first
        | exact Ev.refl _ _ | intro _ | refine Ev.ite ?_ ?_ | refine State.sdoBegin_ev ?_ | refine State.sdoOpen_ev ?_ ?_
        | refine State.sdoRx_ev ?_ ?_ | refine State.sdoWrite_ev ?_)
    | dsimp only | split

theorem execSdoSegment_keeps (ch : Fin 2) (cs : BitVec 3) (toggle : Bool) (last : Bool) (data : List (BitVec 8)) (t : State) : ∃ u, execSdoSegment ch cs toggle last data t = .next u ∧ Ev 0xffffffff0fbfef66 t u := by
  refine ⟨_, rfl, ?_⟩
  try dsimp only
  repeat' first
    | (with_reducible first
        | exact Ev.refl _ _ | intro _ | refine Ev.ite ?_ ?_ | refine State.sdoFail_ev ?_ | refine State.sdoRx_ev ?_ ?_
        | refine State.segDown_ev ?_ | refine State.segUp_ev ?_ | refine State.xferDrop_ev ?_)
    | dsimp only | split

theorem execSdoTimeout_keeps (ch : Fin 2) (t : State) : ∃ u, execSdoTimeout ch t = .next u ∧ Ev 0x220000804004044 t u := by
  refine ⟨_, rfl, ?_⟩
  try dsimp only
  repeat' first
    | (with_reducible first
        | exact Ev.refl _ _ | intro _ | refine Ev.ite ?_ ?_ | refine State.sdoFail_ev ?_ | refine State.xferDrop_ev ?_
        | refine Ev.whenUp ?_ ?_)
    | dsimp only | split

theorem execErrorHistoryClear_keeps (ch : Fin 2) (v : BitVec 8) (t : State) : ∃ u, execErrorHistoryClear ch v t = .next u ∧ Ev 0xffffffff0fbfef66 t u := by
  refine ⟨_, rfl, ?_⟩
  try dsimp only
  repeat' first
    | (with_reducible first
        | exact Ev.refl _ _ | intro _ | refine Ev.ite ?_ ?_ | refine State.sdoServe_ev ?_)
    | dsimp only | split

theorem execStoreParameters_keeps (ch : Fin 2) (sub : BitVec 8) (v : Word) (ok : Bool) (t : State) : ∃ u, execStoreParameters ch sub v ok t = .next u ∧ Ev 0xffffffff0fbfef66 t u := by
  refine ⟨_, rfl, ?_⟩
  try dsimp only
  repeat' first
    | (with_reducible first
        | exact Ev.refl _ _ | intro _ | refine Ev.ite ?_ ?_ | refine State.sdoServe_ev ?_)
    | dsimp only | split

theorem execRestoreDefaults_keeps (ch : Fin 2) (sub : BitVec 8) (v : Word) (ok : Bool) (t : State) : ∃ u, execRestoreDefaults ch sub v ok t = .next u ∧ Ev 0xffffffff0fbfef66 t u := by
  refine ⟨_, rfl, ?_⟩
  try dsimp only
  repeat' first
    | (with_reducible first
        | exact Ev.refl _ _ | intro _ | refine Ev.ite ?_ ?_ | refine State.sdoServe_ev ?_)
    | dsimp only | split

theorem execImageDownload_keeps (ch : Fin 2) (image : List (BitVec 8)) (t : State) : ∃ u, execImageDownload ch image t = .next u ∧ Ev 0xffffffff0fbfef66 t u := by
  refine ⟨_, rfl, ?_⟩
  try dsimp only
  repeat' first
    | (with_reducible first
        | exact Ev.refl _ _
        | intro _
        | refine Ev.ite ?_ ?_
        | refine State.canRx_ev ?_ ?_
        | refine State.loadEnd_ev ?_
        | refine State.sdoServe_ev ?_
        | refine sdoDone_ev ?_)
    | dsimp only | split

theorem execOptionRequestDownload_keeps (ch : Fin 2) (data : List (BitVec 8)) (t : State) : ∃ u, execOptionRequestDownload ch data t = .next u ∧ Ev 0xffffffff0fbfef66 t u := by
  refine ⟨_, rfl, ?_⟩
  try dsimp only
  repeat' first
    | (with_reducible first
        | exact Ev.refl _ _ | intro _ | refine Ev.ite ?_ ?_ | refine State.sdoServe_ev ?_)
    | dsimp only | split

theorem execBootDoneSet_keeps (t : State) : ∃ u, execBootDoneSet t = .next u ∧ Ev 0xffffffff0fbfef26 t u := by
  refine ⟨_, rfl, ?_⟩
  try dsimp only
  repeat' first
    | (with_reducible first
        | exact Ev.refl _ _ | intro _ | refine Ev.ite ?_ ?_ | refine State.bootDoneSet_ev ?_ | refine State.serverStart_ev ?_
        | refine Ev.whenUp ?_ ?_)
    | dsimp only | split

theorem execRegisterWrite_keeps (ten : Fin 8) (port : Fin 6) (a : Nat) (v : Word) (t : State) : ∃ u, execRegisterWrite ten port a v t = .next u ∧ Ev 0xffffffff0fbfef26 t u := by
  refine ⟨_, rfl, ?_⟩
  try dsimp only
  repeat' first
    | (with_reducible first
        | exact Ev.refl _ _ | intro _ | refine Ev.ite ?_ ?_ | refine State.busWrite_ev ?_ | refine Ev.whenUp ?_ ?_)
    | dsimp only | split

theorem execReg64LowWrite_keeps (ten : Fin 8) (port : Fin 6) (a : Nat) (v : Word) (t : State) : ∃ u, execReg64LowWrite ten port a v t = .next u ∧ Ev 0xffffffff0fbfef26 t u := by
  refine ⟨_, rfl, ?_⟩
  try dsimp only
  repeat' first
    | (with_reducible first
        | exact Ev.refl _ _ | intro _ | refine Ev.ite ?_ ?_ | refine State.regWrite_ev ?_ | refine Ev.whenUp ?_ ?_)
    | dsimp only | split

theorem execReg64HighWrite_keeps (ten : Fin 8) (port : Fin 6) (a : Nat) (v : Word) (t : State) : ∃ u, execReg64HighWrite ten port a v t = .next u ∧ Ev 0xffffffff0fbfef26 t u := by
  refine ⟨_, rfl, ?_⟩
  try dsimp only
  repeat' first
    | (with_reducible first
        | exact Ev.refl _ _ | intro _ | refine Ev.ite ?_ ?_ | refine State.regWrite_ev ?_ | refine Ev.whenUp ?_ ?_)
    | dsimp only | split

end Sys2Proof.Machine
end

