-- ==== Sys2Proof/Laws/ExecStore.lean ====
section
/-! SUPPORT. Each command of Machine/Store.lean runs, and what it keeps. -/

set_option linter.all false
set_option Elab.async false

namespace Sys2Proof.Machine

theorem execStoreCommandComplete_keeps (ok : Bool) (t : State) : ∃ u, execStoreCommandComplete ok t = .next u ∧ Ev 0x200000804000040 t u := by
  refine ⟨_, rfl, ?_⟩
  try dsimp only
  repeat' first
    | (with_reducible first
        | exact Ev.refl _ _ | intro _ | refine Ev.ite ?_ ?_ | refine State.storeDo_ev ?_ | refine State.storeErr_ev ?_
        | refine Ev.modStore ?_ | refine Ev.raise ?_ 25 (by decide) | refine Ev.whenUp ?_ ?_)
    | dsimp only | split

theorem execStoreAppend_keeps (ten : Fin 8) (t : State) : ∃ u, execStoreAppend ten t = .next u ∧ Ev 0x200000804000000 t u := by
  refine ⟨_, rfl, ?_⟩
  try dsimp only
  repeat' first
    | (with_reducible first
        | exact Ev.refl _ _ | intro _ | refine Ev.ite ?_ ?_ | refine State.storeCmd_ev ?_ | refine Ev.whenUp ?_ ?_)
    | dsimp only | split

theorem execStoreDelete_keeps (ten : Fin 8) (t : State) : ∃ u, execStoreDelete ten t = .next u ∧ Ev 0x200000804000000 t u := by
  refine ⟨_, rfl, ?_⟩
  try dsimp only
  repeat' first
    | (with_reducible first
        | exact Ev.refl _ _ | intro _ | refine Ev.ite ?_ ?_ | refine State.storeCmd_ev ?_ | refine Ev.whenUp ?_ ?_)
    | dsimp only | split

theorem execStoreCommit_keeps (ten : Fin 8) (t : State) : ∃ u, execStoreCommit ten t = .next u ∧ Ev 0x200000804000000 t u := by
  refine ⟨_, rfl, ?_⟩
  try dsimp only
  repeat' first
    | (with_reducible first
        | exact Ev.refl _ _ | intro _ | refine Ev.ite ?_ ?_ | refine State.storeCmd_ev ?_ | refine Ev.whenUp ?_ ?_)
    | dsimp only | split

theorem execStoreAbort_keeps (ten : Fin 8) (t : State) : ∃ u, execStoreAbort ten t = .next u ∧ Ev 0x200000804000000 t u := by
  refine ⟨_, rfl, ?_⟩
  try dsimp only
  repeat' first
    | (with_reducible first
        | exact Ev.refl _ _ | intro _ | refine Ev.ite ?_ ?_ | refine State.storeCmd_ev ?_ | refine Ev.whenUp ?_ ?_)
    | dsimp only | split

theorem execStoreFind_keeps (ten : Fin 8) (t : State) : ∃ u, execStoreFind ten t = .next u ∧ Ev 0x200000804000000 t u := by
  refine ⟨_, rfl, ?_⟩
  try dsimp only
  repeat' first
    | (with_reducible first
        | exact Ev.refl _ _ | intro _ | refine Ev.ite ?_ ?_ | refine State.storeCmd_ev ?_ | refine Ev.whenUp ?_ ?_)
    | dsimp only | split

theorem execStoreErasebank_keeps (ten : Fin 8) (t : State) : ∃ u, execStoreErasebank ten t = .next u ∧ Ev 0x200000804000000 t u := by
  refine ⟨_, rfl, ?_⟩
  try dsimp only
  repeat' first
    | (with_reducible first
        | exact Ev.refl _ _ | intro _ | refine Ev.ite ?_ ?_ | refine State.storeCmd_ev ?_ | refine Ev.whenUp ?_ ?_)
    | dsimp only | split

theorem execStoreProg_keeps (ten : Fin 8) (t : State) : ∃ u, execStoreProg ten t = .next u ∧ Ev 0x200000804000000 t u := by
  refine ⟨_, rfl, ?_⟩
  try dsimp only
  repeat' first
    | (with_reducible first
        | exact Ev.refl _ _ | intro _ | refine Ev.ite ?_ ?_ | refine State.storeCmd_ev ?_ | refine Ev.whenUp ?_ ?_)
    | dsimp only | split

theorem execStoreVerify_keeps (ten : Fin 8) (t : State) : ∃ u, execStoreVerify ten t = .next u ∧ Ev 0x200000804000000 t u := by
  refine ⟨_, rfl, ?_⟩
  try dsimp only
  repeat' first
    | (with_reducible first
        | exact Ev.refl _ _ | intro _ | refine Ev.ite ?_ ?_ | refine State.storeCmd_ev ?_ | refine Ev.whenUp ?_ ?_)
    | dsimp only | split

theorem execStoreAbandonbank_keeps (ten : Fin 8) (t : State) : ∃ u, execStoreAbandonbank ten t = .next u ∧ Ev 0x200000804000000 t u := by
  refine ⟨_, rfl, ?_⟩
  try dsimp only
  repeat' first
    | (with_reducible first
        | exact Ev.refl _ _ | intro _ | refine Ev.ite ?_ ?_ | refine State.storeCmd_ev ?_ | refine Ev.whenUp ?_ ?_)
    | dsimp only | split

theorem execStoreConfirm_keeps (ten : Fin 8) (t : State) : ∃ u, execStoreConfirm ten t = .next u ∧ Ev 0x200000804000000 t u := by
  refine ⟨_, rfl, ?_⟩
  try dsimp only
  repeat' first
    | (with_reducible first
        | exact Ev.refl _ _ | intro _ | refine Ev.ite ?_ ?_ | refine State.storeCmd_ev ?_ | refine Ev.whenUp ?_ ?_)
    | dsimp only | split

theorem execStoreFallback_keeps (ten : Fin 8) (t : State) : ∃ u, execStoreFallback ten t = .next u ∧ Ev 0x200000804000000 t u := by
  refine ⟨_, rfl, ?_⟩
  try dsimp only
  repeat' first
    | (with_reducible first
        | exact Ev.refl _ _ | intro _ | refine Ev.ite ?_ ?_ | refine State.storeCmd_ev ?_ | refine Ev.whenUp ?_ ?_)
    | dsimp only | split

theorem execBackgroundEraseComplete_keeps (t : State) : ∃ u, execBackgroundEraseComplete t = .next u ∧ Ev 0x4000040 t u := by
  refine ⟨_, rfl, ?_⟩
  try dsimp only
  repeat' first
    | (with_reducible first
        | exact Ev.refl _ _ | intro _ | refine Ev.ite ?_ ?_ | refine State.eraseEnd_ev ?_ | refine Ev.whenUp ?_ ?_)
    | dsimp only | split

theorem execReclaimStep_keeps (t : State) : ∃ u, execReclaimStep t = .next u ∧ Ev 0x4004040 t u := by
  refine ⟨_, rfl, ?_⟩
  try dsimp only
  repeat' first
    | (with_reducible first
        | exact Ev.refl _ _ | intro _ | refine Ev.ite ?_ ?_ | refine State.eraseSector_ev ?_ | refine State.logPut_ev ?_
        | refine State.moveRec_ev ?_ | refine State.wearCheck_ev ?_ | refine Ev.whenUp ?_ ?_ | refine Ev.foldl ?_ _ ?_)
    | dsimp only | split

theorem execStoreScanComplete_keeps (t : State) : ∃ u, execStoreScanComplete t = .next u ∧ Ev 0x4004000 t u := by
  refine ⟨_, rfl, ?_⟩
  try dsimp only
  repeat' first
    | (with_reducible first
        | exact Ev.refl _ _ | intro _ | refine Ev.ite ?_ ?_ | refine State.txAbort_ev ?_ | refine State.wearCheck_ev ?_
        | refine Ev.modStore ?_ | refine Ev.whenUp ?_ ?_)
    | dsimp only | split

end Sys2Proof.Machine
end

