-- ==== Sys2Proof/Laws/ExecTagOps.lean ====
section
/-! SUPPORT. Each command of Machine/TagOps.lean runs, and what it keeps. -/

set_option linter.all false
set_option Elab.async false

namespace Sys2Proof.Machine

theorem execTagRead_keeps (block : BitVec 12) (t : State) : ∃ u, execTagRead block t = .next u ∧ Ev 0x80000808000000 t u := by
  refine ⟨_, rfl, ?_⟩
  try dsimp only
  repeat' first
    | (with_reducible first
        | exact Ev.refl _ _ | intro _ | refine Ev.ite ?_ ?_ | refine State.tagAccess_ev ?_ | refine Ev.whenUp ?_ ?_)
    | dsimp only | split

theorem execTagWrite_keeps (block : BitVec 12) (t : State) : ∃ u, execTagWrite block t = .next u ∧ Ev 0x80000808000000 t u := by
  refine ⟨_, rfl, ?_⟩
  try dsimp only
  repeat' first
    | (with_reducible first
        | exact Ev.refl _ _ | intro _ | refine Ev.ite ?_ ?_ | refine State.tagAccess_ev ?_ | refine Ev.whenUp ?_ ?_)
    | dsimp only | split

theorem execTagPendingComplete_keeps (t : State) : ∃ u, execTagPendingComplete t = .next u ∧ Ev 0x80000008000000 t u := by
  refine ⟨_, rfl, ?_⟩
  try dsimp only
  repeat' first
    | (with_reducible first
        | exact Ev.refl _ _ | intro _ | refine Ev.ite ?_ ?_ | refine State.tagDo_ev ?_ | refine Ev.modTag ?_
        | refine Ev.whenUp ?_ ?_)
    | dsimp only | split

theorem execTagClearCount_keeps (t : State) : ∃ u, execTagClearCount t = .next u ∧ Ev 0x80000000000000 t u := by
  refine ⟨_, rfl, ?_⟩
  try dsimp only
  repeat' first
    | (with_reducible first
        | exact Ev.refl _ _ | intro _ | refine Ev.ite ?_ ?_ | refine State.tagClrCnt_ev ?_ | refine Ev.whenUp ?_ ?_)
    | dsimp only | split

theorem execTagClearRfw_keeps (t : State) : ∃ u, execTagClearRfw t = .next u ∧ Ev 0x8000000 t u := by
  refine ⟨_, rfl, ?_⟩
  try dsimp only
  repeat' first
    | (with_reducible first
        | exact Ev.refl _ _ | intro _ | refine Ev.ite ?_ ?_ | refine State.tagClrRfw_ev ?_ | refine Ev.whenUp ?_ ?_)
    | dsimp only | split

theorem execRfFieldChange_keeps (on : Bool) (t : State) : ∃ u, execRfFieldChange on t = .next u ∧ Ev 0x80000808000000 t u := by
  refine ⟨_, rfl, ?_⟩
  try dsimp only
  repeat' first
    | (with_reducible first
        | exact Ev.refl _ _ | intro _ | refine Ev.ite ?_ ?_ | refine State.rfTo_ev ?_ | refine Ev.modTag ?_)
    | dsimp only | split

theorem execRfStateTimeout_keeps (inv : Bool) (t : State) : ∃ u, execRfStateTimeout inv t = .next u ∧ Ev 0x80000808000000 t u := by
  refine ⟨_, rfl, ?_⟩
  try dsimp only
  repeat' first
    | (with_reducible first
        | exact Ev.refl _ _ | intro _ | refine Ev.ite ?_ ?_ | refine State.rfTo_ev ?_)
    | dsimp only | split

theorem execRfInventory_keeps (maskLen : Fin 65) (mask : BitVec 64) (t : State) : ∃ u, execRfInventory maskLen mask t = .next u ∧ Ev 0x80000808000004 t u := by
  refine ⟨_, rfl, ?_⟩
  try dsimp only
  repeat' first
    | (with_reducible first
        | exact Ev.refl _ _ | intro _ | refine Ev.ite ?_ ?_ | refine State.rfOut_ev ?_ | refine State.rfTo_ev ?_)
    | dsimp only | split

theorem execRfStayQuiet_keeps (t : State) : ∃ u, execRfStayQuiet t = .next u ∧ Ev 0x80000808000000 t u := by
  refine ⟨_, rfl, ?_⟩
  try dsimp only
  repeat' first
    | (with_reducible first
        | exact Ev.refl _ _ | intro _ | refine Ev.ite ?_ ?_ | refine State.rfTo_ev ?_ | refine Ev.modTag ?_)
    | dsimp only | split

theorem execRfSelect_keeps (mine : Bool) (t : State) : ∃ u, execRfSelect mine t = .next u ∧ Ev 0x80000808000004 t u := by
  refine ⟨_, rfl, ?_⟩
  try dsimp only
  repeat' first
    | (with_reducible first
        | exact Ev.refl _ _ | intro _ | refine Ev.ite ?_ ?_ | refine State.rfOut_ev ?_ | refine State.rfTo_ev ?_
        | refine Ev.modTag ?_)
    | dsimp only | split

theorem execRfResetToReady_keeps (mode : Fin 3) (t : State) : ∃ u, execRfResetToReady mode t = .next u ∧ Ev 0x80000808000004 t u := by
  refine ⟨_, rfl, ?_⟩
  try dsimp only
  repeat' first
    | (with_reducible first
        | exact Ev.refl _ _ | intro _ | refine Ev.ite ?_ ?_ | refine State.rfOut_ev ?_ | refine State.rfReq_ev ?_ ?_
        | refine Ev.modTag ?_)
    | dsimp only | split

theorem execRfReadBlock_keeps (mode : Fin 3) (ext : Bool) (first : Nat) (n : Nat) (t : State) : ∃ u, execRfReadBlock mode ext first n t = .next u ∧ Ev 0x80000808000004 t u := by
  refine ⟨_, rfl, ?_⟩
  try dsimp only
  repeat' first
    | (with_reducible first
        | exact Ev.refl _ _ | intro _ | refine Ev.ite ?_ ?_ | refine State.rfErr_ev ?_ | refine State.rfOut_ev ?_
        | refine State.rfReq_ev ?_ ?_)
    | dsimp only | split

theorem execRfWriteBlock_keeps (mode : Fin 3) (ext : Bool) (block : BitVec 12) (data : Word) (t : State) : ∃ u, execRfWriteBlock mode ext block data t = .next u ∧ Ev 0x80000808004004 t u := by
  refine ⟨_, rfl, ?_⟩
  try dsimp only
  repeat' first
    | (with_reducible first
        | exact Ev.refl _ _ | intro _ | refine Ev.ite ?_ ?_ | refine State.rfChange_ev ?_ ?_ | refine State.rfReq_ev ?_ ?_
        | refine State.setTagBlock_ev ?_)
    | dsimp only | split

theorem execRfLockBlock_keeps (mode : Fin 3) (ext : Bool) (block : BitVec 12) (t : State) : ∃ u, execRfLockBlock mode ext block t = .next u ∧ Ev 0x80000808004004 t u := by
  refine ⟨_, rfl, ?_⟩
  try dsimp only
  repeat' first
    | (with_reducible first
        | exact Ev.refl _ _ | intro _ | refine Ev.ite ?_ ?_ | refine State.rfChange_ev ?_ ?_ | refine State.rfReq_ev ?_ ?_
        | refine Ev.modTag ?_)
    | dsimp only | split

theorem execRfGetSystemInfo_keeps (mode : Fin 3) (ext : Bool) (t : State) : ∃ u, execRfGetSystemInfo mode ext t = .next u ∧ Ev 0x80000808000004 t u := by
  refine ⟨_, rfl, ?_⟩
  try dsimp only
  repeat' first
    | (with_reducible first
        | exact Ev.refl _ _ | intro _ | refine Ev.ite ?_ ?_ | refine State.rfOut_ev ?_ | refine State.rfReq_ev ?_ ?_)
    | dsimp only | split

theorem execRfGetBlockSecurity_keeps (mode : Fin 3) (ext : Bool) (first : Nat) (n : Nat) (t : State) : ∃ u, execRfGetBlockSecurity mode ext first n t = .next u ∧ Ev 0x80000808000004 t u := by
  refine ⟨_, rfl, ?_⟩
  try dsimp only
  repeat' first
    | (with_reducible first
        | exact Ev.refl _ _ | intro _ | refine Ev.ite ?_ ?_ | refine State.rfErr_ev ?_ | refine State.rfOut_ev ?_
        | refine State.rfReq_ev ?_ ?_)
    | dsimp only | split

theorem execRfUnsupportedCommand_keeps (mode : Fin 3) (t : State) : ∃ u, execRfUnsupportedCommand mode t = .next u ∧ Ev 0x80000808000004 t u := by
  refine ⟨_, rfl, ?_⟩
  try dsimp only
  repeat' first
    | (with_reducible first
        | exact Ev.refl _ _ | intro _ | refine Ev.ite ?_ ?_ | refine State.rfErr_ev ?_ | refine State.rfReq_ev ?_ ?_)
    | dsimp only | split

end Sys2Proof.Machine
end

