-- ==== Sys2Proof/Laws/ExecViews.lean ====
section
/-! SUPPORT. Each command of Machine/Views.lean runs, and what it keeps. -/

set_option linter.all false
set_option Elab.async false

namespace Sys2Proof.Machine

theorem execReg64LowRead_keeps (ten : Fin 8) (port : Fin 6) (a : Nat) (t : State) : ∃ u, execReg64LowRead ten port a t = .next u ∧ Ev 0x18 t u := by
  refine ⟨_, rfl, ?_⟩
  try dsimp only
  repeat' first
    | (with_reducible first
        | exact Ev.refl _ _ | intro _ | refine Ev.ite ?_ ?_ | refine State.low64Read_ev ?_ | refine Ev.setRdata ?_
        | refine Ev.whenUp ?_ ?_)
    | dsimp only | split

end Sys2Proof.Machine
end

