-- ==== Sys2Proof/Laws/ExecWinch.lean ====
section
/-! SUPPORT. Each command of Machine/Winch.lean runs, and what it keeps. -/

set_option linter.all false
set_option Elab.async false

namespace Sys2Proof.Machine

theorem execDrumOverspeedDetect_keeps (a : Fin 8) (t : State) : ∃ u, execDrumOverspeedDetect a t = .next u ∧ Ev 0x102000800114c00 t u := by
  refine ⟨_, rfl, ?_⟩
  try dsimp only
  repeat' first
    | (with_reducible first
        | exact Ev.refl _ _ | intro _ | refine Ev.ite ?_ ?_ | refine State.winchFault_ev ?_ | refine Ev.whenUp ?_ ?_)
    | dsimp only | split

theorem execAinWindow_keeps (i : Fin 8) (sum : Nat) (t : State) : ∃ u, execAinWindow i sum t = .next u ∧ Ev 0x102000800114c00 t u := by
  refine ⟨_, rfl, ?_⟩
  try dsimp only
  repeat' first
    | (with_reducible first
        | exact Ev.refl _ _ | intro _ | refine Ev.ite ?_ ?_ | refine State.tensionUpdate_ev ?_ | refine Ev.emcy ?_
        | refine Ev.modLio ?_
        | refine Ev.put ?_ 24 (by first | decide | (simp only [ AIN_CFG, AIN_CFG_EN, AIN_CFG_ROLE, AIN_OUT, AIN_STAT, AIN_STAT_RANGE, AIN_STAT_VALID, AIN_VAL, AIN_VAL_UA, LIO_EVT]; omega))
        | refine Ev.raise ?_ 24 (by first | decide | (simp only [ AIN_CFG, AIN_CFG_EN, AIN_CFG_ROLE, AIN_OUT, AIN_STAT, AIN_STAT_RANGE, AIN_STAT_VALID, AIN_VAL, AIN_VAL_UA, LIO_EVT]; omega))
        | refine Ev.setReg ?_ 24 (by first | decide | (simp only [ AIN_CFG, AIN_CFG_EN, AIN_CFG_ROLE, AIN_OUT, AIN_STAT, AIN_STAT_RANGE, AIN_STAT_VALID, AIN_VAL, AIN_VAL_UA, LIO_EVT]; omega))
        | refine Ev.whenUp ?_ ?_)
    | dsimp only | split

theorem execSlackLineDetect_keeps (a : Fin 8) (t : State) : ∃ u, execSlackLineDetect a t = .next u ∧ Ev 0x102000800114c00 t u := by
  refine ⟨_, rfl, ?_⟩
  try dsimp only
  repeat' first
    | (with_reducible first
        | exact Ev.refl _ _ | intro _ | refine Ev.ite ?_ ?_ | refine State.winchFault_ev ?_ | refine Ev.emcy ?_
        | refine Ev.put ?_ 24 (by simp only [ WN_SLACK, WN_SLACK_SLACK, WN_SLACK_SLREACT, WN_STAT, WN_STAT_SLACK]; omega)
        | refine Ev.whenUp ?_ ?_)
    | dsimp only | split

theorem execBrakeReleaseTimeout_keeps (a : Fin 8) (t : State) : ∃ u, execBrakeReleaseTimeout a t = .next u ∧ Ev 0x102000800114c00 t u := by
  refine ⟨_, rfl, ?_⟩
  try dsimp only
  repeat' first
    | (with_reducible first
        | exact Ev.refl _ _
        | intro _
        | refine Ev.ite ?_ ?_
        | refine Ev.modAxis ?_
        | refine Ev.whenHas ?_ ?_
        | refine State.brakeEvt_ev ?_
        | refine State.brakeSettled_ev ?_
        | refine State.winchFault_ev ?_)
    | dsimp only | split

theorem execBrakeSetTimeout_keeps (a : Fin 8) (t : State) : ∃ u, execBrakeSetTimeout a t = .next u ∧ Ev 0x100000800104000 t u := by
  refine ⟨_, rfl, ?_⟩
  try dsimp only
  repeat' first
    | (with_reducible first
        | exact Ev.refl _ _ | intro _ | refine Ev.ite ?_ ?_ | refine State.brakeEvt_ev ?_ | refine State.brakeSettled_ev ?_
        | refine Ev.emcy ?_
        | refine Ev.put ?_ 24 (by simp only [ BRK_CFG, BRK_CFG_FBEN, BRK_STAT, BRK_STAT_FB, BRK_STAT_NOTSET, BRK_STAT_OUT]; omega)
        | refine Ev.whenUp ?_ ?_)
    | dsimp only | split

theorem execBrkFbChange_keeps (a : Fin 8) (lifted : Bool) (t : State) : ∃ u, execBrkFbChange a lifted t = .next u ∧ Ev 0x100000800100600 t u := by
  refine ⟨_, rfl, ?_⟩
  try dsimp only
  repeat' first
    | (with_reducible first
        | exact Ev.refl _ _ | intro _ | refine Ev.ite ?_ ?_ | refine State.brakeEvt_ev ?_ | refine State.brakeSettled_ev ?_
        | refine Ev.modAxis ?_ | refine Ev.modBg ?_
        | refine Ev.put ?_ 24 (by simp only [ BRK_CFG, BRK_CFG_FBEN, BRK_STAT, BRK_STAT_FB, BRK_STAT_OUT]; omega)
        | refine Ev.whenUp ?_ ?_)
    | dsimp only | split

theorem execEmgInputChange_keeps (a : Fin 8) (level : Bool) (t : State) : ∃ u, execEmgInputChange a level t = .next u ∧ Ev 0x102000a00114f00 t u := by
  refine ⟨_, rfl, ?_⟩
  try dsimp only
  repeat' first
    | (with_reducible first
        | exact Ev.refl _ _
        | intro _
        | refine Ev.ite ?_ ?_
        | refine Ev.put ?_ 24 (by first | decide | (simp only [ EMG_LVL, EMG_LVL_EMG]; omega))
        | refine Ev.whenHas ?_ ?_
        | refine State.emgFollow_ev ?_)
    | dsimp only | split

theorem execErlActStart_keeps (k' : Fin 4) (pressed : Nat) (released : Nat) (t : State) : ∃ u, execErlActStart k' pressed released t = .next u ∧ Ev 0xffffffff00114f00 t u := by
  refine ⟨_, rfl, ?_⟩
  try dsimp only
  repeat' first
    | (with_reducible first
        | exact Ev.refl _ _ | intro _ | refine Ev.ite ?_ ?_ | refine State.drivenStart_ev ?_ | refine State.freeStart_ev ?_
        | refine State.putBit_ev ?_ | refine Ev.emcy ?_ | refine Ev.whenUp ?_ ?_)
    | dsimp only | split

theorem execErlActEnd_keeps (k' : Fin 4) (t : State) : ∃ u, execErlActEnd k' t = .next u ∧ Ev 0xffffffff00114f00 t u := by
  refine ⟨_, rfl, ?_⟩
  try dsimp only
  repeat' first
    | (with_reducible first
        | exact Ev.refl _ _ | intro _ | refine Ev.ite ?_ ?_ | refine State.actEnd_ev ?_ | refine Ev.whenUp ?_ ?_)
    | dsimp only | split

theorem execErlActVoid_keeps (k' : Fin 4) (t : State) : ∃ u, execErlActVoid k' t = .next u ∧ Ev 0xffffffff00114f00 t u := by
  refine ⟨_, rfl, ?_⟩
  try dsimp only
  repeat' first
    | (with_reducible first
        | exact Ev.refl _ _ | intro _ | refine Ev.ite ?_ ?_ | refine State.actEnd_ev ?_ | refine State.putBit_ev ?_
        | refine Ev.emcy ?_ | refine Ev.whenUp ?_ ?_)
    | dsimp only | split

theorem execErlGovernorTick_keeps (k' : Fin 4) (t : State) : ∃ u, execErlGovernorTick k' t = .next u ∧ Ev 0xffffffff00100000 t u := by
  refine ⟨_, rfl, ?_⟩
  try dsimp only
  repeat' first
    | (with_reducible first
        | exact Ev.refl _ _ | intro _ | refine Ev.ite ?_ ?_ | refine State.brakes_ev ?_ | refine State.freeEnd_ev ?_
        | refine Ev.modLio ?_
        | refine Ev.put ?_ 24 (by first | decide | (simp only [ BRK_STAT, BRK_STAT_GOVSET, EMG_LVL, EMG_LVL_FREE, ERL_GOV, ERL_GOV_GOV]; omega))
        | refine Ev.whenUp ?_ ?_)
    | dsimp only | split

end Sys2Proof.Machine
end

