-- ==== Sys2Proof/Laws/Exec.lean ====
section
/-! SUPPORT. Every command runs, and keeps the queue, the member, the time and soundness. -/

set_option linter.all false
set_option Elab.async false

namespace Sys2Proof.Machine

/-- Each command answers a next state that comes from the old one by operations that keep soundness. -/
theorem exec_ev (c : Instr) (s : State) : ∃ t m, exec c s = .next t ∧ Ev m s t := by
  cases c with
  | registerWrite ten port a v => obtain ⟨u, h, e⟩ := execRegisterWrite_keeps ten port a v s; exact ⟨u, _, h, e⟩
  | reg64LowRead ten port a => obtain ⟨u, h, e⟩ := execReg64LowRead_keeps ten port a s; exact ⟨u, _, h, e⟩
  | reg64LowWrite ten port a v => obtain ⟨u, h, e⟩ := execReg64LowWrite_keeps ten port a v s; exact ⟨u, _, h, e⟩
  | reg64HighWrite ten port a v => obtain ⟨u, h, e⟩ := execReg64HighWrite_keeps ten port a v s; exact ⟨u, _, h, e⟩
  | instructionFetch c addr wide => obtain ⟨u, h, e⟩ := execInstructionFetch_keeps c addr wide s; exact ⟨u, _, h, e⟩
  | load c addr size sgnd fp rd => obtain ⟨u, h, e⟩ := execLoad_keeps c addr size sgnd fp rd s; exact ⟨u, _, h, e⟩
  | store c addr size v => obtain ⟨u, h, e⟩ := execStore_keeps c addr size v s; exact ⟨u, _, h, e⟩
  | amo c op addr v rd => obtain ⟨u, h, e⟩ := execAmo_keeps c op addr v rd s; exact ⟨u, _, h, e⟩
  | loadReserved c addr rd => obtain ⟨u, h, e⟩ := execLoadReserved_keeps c addr rd s; exact ⟨u, _, h, e⟩
  | storeConditional c addr v rd => obtain ⟨u, h, e⟩ := execStoreConditional_keeps c addr v rd s; exact ⟨u, _, h, e⟩
  | csrAccess c csr op src x0 rd => obtain ⟨u, h, e⟩ := execCsrAccess_keeps c csr op src x0 rd s; exact ⟨u, _, h, e⟩
  | fenceI c => obtain ⟨u, h, e⟩ := execFenceI_keeps c s; exact ⟨u, _, h, e⟩
  | wfi c => obtain ⟨u, h, e⟩ := execWfi_keeps c s; exact ⟨u, _, h, e⟩
  | mret c => obtain ⟨u, h, e⟩ := execMret_keeps c s; exact ⟨u, _, h, e⟩
  | illegalInstruction c => obtain ⟨u, h, e⟩ := execIllegalInstruction_keeps c s; exact ⟨u, _, h, e⟩
  | backgroundSliceExpiry c => obtain ⟨u, h, e⟩ := execBackgroundSliceExpiry_keeps c s; exact ⟨u, _, h, e⟩
  | scrubRead => obtain ⟨u, h, e⟩ := execScrubRead_keeps  s; exact ⟨u, _, h, e⟩
  | memerrInject ten c mode => obtain ⟨u, h, e⟩ := execMemerrInject_keeps ten c mode s; exact ⟨u, _, h, e⟩
  | tenCoreWrite ten t v => obtain ⟨u, h, e⟩ := execTenCoreWrite_keeps ten t v s; exact ⟨u, _, h, e⟩
  | eventStrobe e => obtain ⟨u, h, e⟩ := execEventStrobe_keeps e s; exact ⟨u, _, h, e⟩
  | eventEntry c pc => obtain ⟨u, h, e⟩ := execEventEntry_keeps c pc s; exact ⟨u, _, h, e⟩
  | evtCtlWrite ten e v => obtain ⟨u, h, e⟩ := execEvtCtlWrite_keeps ten e v s; exact ⟨u, _, h, e⟩
  | doorbell n => obtain ⟨u, h, e⟩ := execDoorbell_keeps n s; exact ⟨u, _, h, e⟩
  | dmaStart ten c => obtain ⟨u, h, e⟩ := execDmaStart_keeps ten c s; exact ⟨u, _, h, e⟩
  | dmaStop ten c => obtain ⟨u, h, e⟩ := execDmaStop_keeps ten c s; exact ⟨u, _, h, e⟩
  | dmaResume ten c => obtain ⟨u, h, e⟩ := execDmaResume_keeps ten c s; exact ⟨u, _, h, e⟩
  | dmaAbandon ten c => obtain ⟨u, h, e⟩ := execDmaAbandon_keeps ten c s; exact ⟨u, _, h, e⟩
  | dmaDescriptorFetch c => obtain ⟨u, h, e⟩ := execDmaDescriptorFetch_keeps c s; exact ⟨u, _, h, e⟩
  | dmaBeat => obtain ⟨u, h, e⟩ := execDmaBeat_keeps  s; exact ⟨u, _, h, e⟩
  | psetShadowWrite g a k ten v => obtain ⟨u, h, e⟩ := execPsetShadowWrite_keeps g a k ten v s; exact ⟨u, _, h, e⟩
  | psetCommit g a ten => obtain ⟨u, h, e⟩ := execPsetCommit_keeps g a ten s; exact ⟨u, _, h, e⟩
  | psetDiscard g a ten => obtain ⟨u, h, e⟩ := execPsetDiscard_keeps g a ten s; exact ⟨u, _, h, e⟩
  | powerOnReset sw lv => obtain ⟨u, h, e⟩ := execPowerOnReset_keeps sw lv s; exact ⟨u, _, h, e⟩
  | selftestComplete failed => obtain ⟨u, h, e⟩ := execSelftestComplete_keeps failed s; exact ⟨u, _, h, e⟩
  | badgerLateTimeout => obtain ⟨u, h, e⟩ := execBadgerLateTimeout_keeps  s; exact ⟨u, _, h, e⟩
  | stoInputOpen chB => obtain ⟨u, h, e⟩ := execStoInputOpen_keeps chB s; exact ⟨u, _, h, e⟩
  | stoInputClose chB => obtain ⟨u, h, e⟩ := execStoInputClose_keeps chB s; exact ⟨u, _, h, e⟩
  | stoDiscrepancyTimeout => obtain ⟨u, h, e⟩ := execStoDiscrepancyTimeout_keeps  s; exact ⟨u, _, h, e⟩
  | ss1DelayExpiry => obtain ⟨u, h, e⟩ := execSs1DelayExpiry_keeps  s; exact ⟨u, _, h, e⟩
  | channelRelease => obtain ⟨u, h, e⟩ := execChannelRelease_keeps  s; exact ⟨u, _, h, e⟩
  | haltNRelease => obtain ⟨u, h, e⟩ := execHaltNRelease_keeps  s; exact ⟨u, _, h, e⟩
  | shutdownReadback haltHigh gpeHigh => obtain ⟨u, h, e⟩ := execShutdownReadback_keeps haltHigh gpeHigh s; exact ⟨u, _, h, e⟩
  | brakeFeedbackTimeout a relLow => obtain ⟨u, h, e⟩ := execBrakeFeedbackTimeout_keeps a relLow s; exact ⟨u, _, h, e⟩
  | slsWindowEnd tap own => obtain ⟨u, h, e⟩ := execSlsWindowEnd_keeps tap own s; exact ⟨u, _, h, e⟩
  | sealReread sw => obtain ⟨u, h, e⟩ := execSealReread_keeps sw s; exact ⟨u, _, h, e⟩
  | guardInputOpen g chB => obtain ⟨u, h, e⟩ := execGuardInputOpen_keeps g chB s; exact ⟨u, _, h, e⟩
  | guardInputClose g chB => obtain ⟨u, h, e⟩ := execGuardInputClose_keeps g chB s; exact ⟨u, _, h, e⟩
  | guardDiscrepancyTimeout g => obtain ⟨u, h, e⟩ := execGuardDiscrepancyTimeout_keeps g s; exact ⟨u, _, h, e⟩
  | scsLoad => obtain ⟨u, h, e⟩ := execScsLoad_keeps  s; exact ⟨u, _, h, e⟩
  | scsCommit => obtain ⟨u, h, e⟩ := execScsCommit_keeps  s; exact ⟨u, _, h, e⟩
  | scsCommandComplete => obtain ⟨u, h, e⟩ := execScsCommandComplete_keeps  s; exact ⟨u, _, h, e⟩
  | hbArm arm => obtain ⟨u, h, e⟩ := execHbArm_keeps arm s; exact ⟨u, _, h, e⟩
  | hbChallenge chal => obtain ⟨u, h, e⟩ := execHbChallenge_keeps chal s; exact ⟨u, _, h, e⟩
  | hbResponse w => obtain ⟨u, h, e⟩ := execHbResponse_keeps w s; exact ⟨u, _, h, e⟩
  | lorPressDisagree a b => obtain ⟨u, h, e⟩ := execLorPressDisagree_keeps a b s; exact ⟨u, _, h, e⟩
  | lorPressTimeout => obtain ⟨u, h, e⟩ := execLorPressTimeout_keeps  s; exact ⟨u, _, h, e⟩
  | lorActRelease pressed released => obtain ⟨u, h, e⟩ := execLorActRelease_keeps pressed released s; exact ⟨u, _, h, e⟩
  | fieldbusLorRequest key => obtain ⟨u, h, e⟩ := execFieldbusLorRequest_keeps key s; exact ⟨u, _, h, e⟩
  | fblorWindowExpiry => obtain ⟨u, h, e⟩ := execFblorWindowExpiry_keeps  s; exact ⟨u, _, h, e⟩
  | cwShutdown a src v => obtain ⟨u, h, e⟩ := execCwShutdown_keeps a src v s; exact ⟨u, _, h, e⟩
  | cwSwitchOn a src v => obtain ⟨u, h, e⟩ := execCwSwitchOn_keeps a src v s; exact ⟨u, _, h, e⟩
  | cwEnableOperation a src v => obtain ⟨u, h, e⟩ := execCwEnableOperation_keeps a src v s; exact ⟨u, _, h, e⟩
  | cwDisableOperation a src v => obtain ⟨u, h, e⟩ := execCwDisableOperation_keeps a src v s; exact ⟨u, _, h, e⟩
  | cwDisableVoltage a src v => obtain ⟨u, h, e⟩ := execCwDisableVoltage_keeps a src v s; exact ⟨u, _, h, e⟩
  | cwQuickStop a src v => obtain ⟨u, h, e⟩ := execCwQuickStop_keeps a src v s; exact ⟨u, _, h, e⟩
  | cwHalt a src v => obtain ⟨u, h, e⟩ := execCwHalt_keeps a src v s; exact ⟨u, _, h, e⟩
  | cwFaultReset a src v => obtain ⟨u, h, e⟩ := execCwFaultReset_keeps a src v s; exact ⟨u, _, h, e⟩
  | modeSelectWrite a code => obtain ⟨u, h, e⟩ := execModeSelectWrite_keeps a code s; exact ⟨u, _, h, e⟩
  | cwsrcWrite a pdo => obtain ⟨u, h, e⟩ := execCwsrcWrite_keeps a pdo s; exact ⟨u, _, h, e⟩
  | axInitWrite a v => obtain ⟨u, h, e⟩ := execAxInitWrite_keeps a v s; exact ⟨u, _, h, e⟩
  | emergencyRequestOn a => obtain ⟨u, h, e⟩ := execEmergencyRequestOn_keeps a s; exact ⟨u, _, h, e⟩
  | emergencyRequestOff a => obtain ⟨u, h, e⟩ := execEmergencyRequestOff_keeps a s; exact ⟨u, _, h, e⟩
  | standstillReached a => obtain ⟨u, h, e⟩ := execStandstillReached_keeps a s; exact ⟨u, _, h, e⟩
  | prechargeEnd a => obtain ⟨u, h, e⟩ := execPrechargeEnd_keeps a s; exact ⟨u, _, h, e⟩
  | brakeLiftWaitEnd a => obtain ⟨u, h, e⟩ := execBrakeLiftWaitEnd_keeps a s; exact ⟨u, _, h, e⟩
  | softwareSystemReset v => obtain ⟨u, h, e⟩ := execSoftwareSystemReset_keeps v s; exact ⟨u, _, h, e⟩
  | preResetPhaseEnd n => obtain ⟨u, h, e⟩ := execPreResetPhaseEnd_keeps n s; exact ⟨u, _, h, e⟩
  | watchdogKick v => obtain ⟨u, h, e⟩ := execWatchdogKick_keeps v s; exact ⟨u, _, h, e⟩
  | watchdogExpiry => obtain ⟨u, h, e⟩ := execWatchdogExpiry_keeps  s; exact ⟨u, _, h, e⟩
  | rstNAssert => obtain ⟨u, h, e⟩ := execRstNAssert_keeps  s; exact ⟨u, _, h, e⟩
  | halduxResetExit => obtain ⟨u, h, e⟩ := execHalduxResetExit_keeps  s; exact ⟨u, _, h, e⟩
  | pllLock c => obtain ⟨u, h, e⟩ := execPllLock_keeps c s; exact ⟨u, _, h, e⟩
  | pllLockLoss => obtain ⟨u, h, e⟩ := execPllLockLoss_keeps  s; exact ⟨u, _, h, e⟩
  | bootDoneSet => obtain ⟨u, h, e⟩ := execBootDoneSet_keeps  s; exact ⟨u, _, h, e⟩
  | tenantReset v got => obtain ⟨u, h, e⟩ := execTenantReset_keeps v got s; exact ⟨u, _, h, e⟩
  | portReset v => obtain ⟨u, h, e⟩ := execPortReset_keeps v s; exact ⟨u, _, h, e⟩
  | portEnable p => obtain ⟨u, h, e⟩ := execPortEnable_keeps p s; exact ⟨u, _, h, e⟩
  | portDisable p => obtain ⟨u, h, e⟩ := execPortDisable_keeps p s; exact ⟨u, _, h, e⟩
  | portResume p => obtain ⟨u, h, e⟩ := execPortResume_keeps p s; exact ⟨u, _, h, e⟩
  | portHaltRequest p => obtain ⟨u, h, e⟩ := execPortHaltRequest_keeps p s; exact ⟨u, _, h, e⟩
  | clearReentered p => obtain ⟨u, h, e⟩ := execClearReentered_keeps p s; exact ⟨u, _, h, e⟩
  | haltNFall => obtain ⟨u, h, e⟩ := execHaltNFall_keeps  s; exact ⟨u, _, h, e⟩
  | spAlertNFall p => obtain ⟨u, h, e⟩ := execSpAlertNFall_keeps p s; exact ⟨u, _, h, e⟩
  | haltStart p bits => obtain ⟨u, h, e⟩ := execHaltStart_keeps p bits s; exact ⟨u, _, h, e⟩
  | slotBoundary p => obtain ⟨u, h, e⟩ := execSlotBoundary_keeps p s; exact ⟨u, _, h, e⟩
  | alloffSequenceComplete p => obtain ⟨u, h, e⟩ := execAlloffSequenceComplete_keeps p s; exact ⟨u, _, h, e⟩
  | satelliteReply p bits => obtain ⟨u, h, e⟩ := execSatelliteReply_keeps p bits s; exact ⟨u, _, h, e⟩
  | tenantQueuePush p ten w => obtain ⟨u, h, e⟩ := execTenantQueuePush_keeps p ten w s; exact ⟨u, _, h, e⟩
  | receiveFifoPop p => obtain ⟨u, h, e⟩ := execReceiveFifoPop_keeps p s; exact ⟨u, _, h, e⟩
  | satAlloff p sels t alive tswH tswL => obtain ⟨u, h, e⟩ := execSatAlloff_keeps p sels t alive tswH tswL s; exact ⟨u, _, h, e⟩
  | satEdge p k t alive payload => obtain ⟨u, h, e⟩ := execSatEdge_keeps p k t alive payload s; exact ⟨u, _, h, e⟩
  | satEdgeS p sels t alive payload => obtain ⟨u, h, e⟩ := execSatEdgeS_keeps p sels t alive payload s; exact ⟨u, _, h, e⟩
  | satRead p k alive payload => obtain ⟨u, h, e⟩ := execSatRead_keeps p k alive payload s; exact ⟨u, _, h, e⟩
  | satWrite p k t alive payload cmp => obtain ⟨u, h, e⟩ := execSatWrite_keeps p k t alive payload cmp s; exact ⟨u, _, h, e⟩
  | satConfigDone p k t alive => obtain ⟨u, h, e⟩ := execSatConfigDone_keeps p k t alive s; exact ⟨u, _, h, e⟩
  | satFlagsClear p k t alive bits cmp => obtain ⟨u, h, e⟩ := execSatFlagsClear_keeps p k t alive bits cmp s; exact ⟨u, _, h, e⟩
  | satErrcntClear p k t alive data => obtain ⟨u, h, e⟩ := execSatErrcntClear_keeps p k t alive data s; exact ⟨u, _, h, e⟩
  | satStatus p k alive payload => obtain ⟨u, h, e⟩ := execSatStatus_keeps p k alive payload s; exact ⟨u, _, h, e⟩
  | satTlmStart p k alive payload => obtain ⟨u, h, e⟩ := execSatTlmStart_keeps p k alive payload s; exact ⟨u, _, h, e⟩
  | satTlmRead p k alive payload => obtain ⟨u, h, e⟩ := execSatTlmRead_keeps p k alive payload s; exact ⟨u, _, h, e⟩
  | satDiagStart p k t alive payload => obtain ⟨u, h, e⟩ := execSatDiagStart_keeps p k t alive payload s; exact ⟨u, _, h, e⟩
  | satDiagRead p k alive payload => obtain ⟨u, h, e⟩ := execSatDiagRead_keeps p k alive payload s; exact ⟨u, _, h, e⟩
  | satSreset p k alive payload => obtain ⟨u, h, e⟩ := execSatSreset_keeps p k alive payload s; exact ⟨u, _, h, e⟩
  | satReservedOpcode p k alive => obtain ⟨u, h, e⟩ := execSatReservedOpcode_keeps p k alive s; exact ⟨u, _, h, e⟩
  | satBadCommand p k startLow => obtain ⟨u, h, e⟩ := execSatBadCommand_keeps p k startLow s; exact ⟨u, _, h, e⟩
  | satHaltRecognition p k t => obtain ⟨u, h, e⟩ := execSatHaltRecognition_keeps p k t s; exact ⟨u, _, h, e⟩
  | satSelectRelease p k => obtain ⟨u, h, e⟩ := execSatSelectRelease_keeps p k s; exact ⟨u, _, h, e⟩
  | satClockAbsence p k => obtain ⟨u, h, e⟩ := execSatClockAbsence_keeps p k s; exact ⟨u, _, h, e⟩
  | satReset p k => obtain ⟨u, h, e⟩ := execSatReset_keeps p k s; exact ⟨u, _, h, e⟩
  | satEdgeEvent p k tswH tswL => obtain ⟨u, h, e⟩ := execSatEdgeEvent_keeps p k tswH tswL s; exact ⟨u, _, h, e⟩
  | satTlmConversionDone p k result ovr => obtain ⟨u, h, e⟩ := execSatTlmConversionDone_keeps p k result ovr s; exact ⟨u, _, h, e⟩
  | satDiagRunDone p k va vb tb => obtain ⟨u, h, e⟩ := execSatDiagRunDone_keeps p k va vb tb s; exact ⟨u, _, h, e⟩
  | satUvEntry p k high neg now => obtain ⟨u, h, e⟩ := execSatUvEntry_keeps p k high neg now s; exact ⟨u, _, h, e⟩
  | satGateSupplyCollapse p k high now => obtain ⟨u, h, e⟩ := execSatGateSupplyCollapse_keeps p k high now s; exact ⟨u, _, h, e⟩
  | satScLatch p k high => obtain ⟨u, h, e⟩ := execSatScLatch_keeps p k high s; exact ⟨u, _, h, e⟩
  | controlCycleStart a => obtain ⟨u, h, e⟩ := execControlCycleStart_keeps a s; exact ⟨u, _, h, e⟩
  | filterOutputReady a raw => obtain ⟨u, h, e⟩ := execFilterOutputReady_keeps a raw s; exact ⟨u, _, h, e⟩
  | modulatorStuck c => obtain ⟨u, h, e⟩ := execModulatorStuck_keeps c s; exact ⟨u, _, h, e⟩
  | clearDegraded a => obtain ⟨u, h, e⟩ := execClearDegraded_keeps a s; exact ⟨u, _, h, e⟩
  | clearSchedule a => obtain ⟨u, h, e⟩ := execClearSchedule_keeps a s; exact ⟨u, _, h, e⟩
  | modCapturePop => obtain ⟨u, h, e⟩ := execModCapturePop_keeps  s; exact ⟨u, _, h, e⟩
  | incAbEdge n a b => obtain ⟨u, h, e⟩ := execIncAbEdge_keeps n a b s; exact ⟨u, _, h, e⟩
  | indexPoint n rising ill => obtain ⟨u, h, e⟩ := execIndexPoint_keeps n rising ill s; exact ⟨u, _, h, e⟩
  | wireFaultDetect c k => obtain ⟨u, h, e⟩ := execWireFaultDetect_keeps c k s; exact ⟨u, _, h, e⟩
  | wireFaultClear c k => obtain ⟨u, h, e⟩ := execWireFaultClear_keeps c k s; exact ⟨u, _, h, e⟩
  | speedStopTimeout c => obtain ⟨u, h, e⟩ := execSpeedStopTimeout_keeps c s; exact ⟨u, _, h, e⟩
  | countWindowEnd n => obtain ⟨u, h, e⟩ := execCountWindowEnd_keeps n s; exact ⟨u, _, h, e⟩
  | hallTransition h v => obtain ⟨u, h, e⟩ := execHallTransition_keeps h v s; exact ⟨u, _, h, e⟩
  | hallInvalidTimeout h => obtain ⟨u, h, e⟩ := execHallInvalidTimeout_keeps h s; exact ⟨u, _, h, e⟩
  | ssiReadStart k dat => obtain ⟨u, h, e⟩ := execSsiReadStart_keeps k dat s; exact ⟨u, _, h, e⟩
  | ssiReadCommand k dat => obtain ⟨u, h, e⟩ := execSsiReadCommand_keeps k dat s; exact ⟨u, _, h, e⟩
  | ssiReadComplete k v eof mono => obtain ⟨u, h, e⟩ := execSsiReadComplete_keeps k v eof mono s; exact ⟨u, _, h, e⟩
  | tapSpeedSend k => obtain ⟨u, h, e⟩ := execTapSpeedSend_keeps k s; exact ⟨u, _, h, e⟩
  | armReference n => obtain ⟨u, h, e⟩ := execArmReference_keeps n s; exact ⟨u, _, h, e⟩
  | clearLoss c => obtain ⟨u, h, e⟩ := execClearLoss_keeps c s; exact ⟨u, _, h, e⟩
  | clearLock n => obtain ⟨u, h, e⟩ := execClearLock_keeps n s; exact ⟨u, _, h, e⟩
  | clearErrorCount c => obtain ⟨u, h, e⟩ := execClearErrorCount_keeps c s; exact ⟨u, _, h, e⟩
  | clearIndexRecord n => obtain ⟨u, h, e⟩ := execClearIndexRecord_keeps n s; exact ⟨u, _, h, e⟩
  | fbCapturePop => obtain ⟨u, h, e⟩ := execFbCapturePop_keeps  s; exact ⟨u, _, h, e⟩
  | lampWindowJudge n mA => obtain ⟨u, h, e⟩ := execLampWindowJudge_keeps n mA s; exact ⟨u, _, h, e⟩
  | lampColdPulse n i1 i2 => obtain ⟨u, h, e⟩ := execLampColdPulse_keeps n i1 i2 s; exact ⟨u, _, h, e⟩
  | lampOverload n => obtain ⟨u, h, e⟩ := execLampOverload_keeps n s; exact ⟨u, _, h, e⟩
  | lampRetry n => obtain ⟨u, h, e⟩ := execLampRetry_keeps n s; exact ⟨u, _, h, e⟩
  | lampClearCount n => obtain ⟨u, h, e⟩ := execLampClearCount_keeps n s; exact ⟨u, _, h, e⟩
  | ainWindow k sum => obtain ⟨u, h, e⟩ := execAinWindow_keeps k sum s; exact ⟨u, _, h, e⟩
  | brakeReleaseTimeout a => obtain ⟨u, h, e⟩ := execBrakeReleaseTimeout_keeps a s; exact ⟨u, _, h, e⟩
  | brkFbChange a lifted => obtain ⟨u, h, e⟩ := execBrkFbChange_keeps a lifted s; exact ⟨u, _, h, e⟩
  | brakeSetTimeout a => obtain ⟨u, h, e⟩ := execBrakeSetTimeout_keeps a s; exact ⟨u, _, h, e⟩
  | slackLineDetect a => obtain ⟨u, h, e⟩ := execSlackLineDetect_keeps a s; exact ⟨u, _, h, e⟩
  | drumOverspeedDetect a => obtain ⟨u, h, e⟩ := execDrumOverspeedDetect_keeps a s; exact ⟨u, _, h, e⟩
  | emgInputChange a level => obtain ⟨u, h, e⟩ := execEmgInputChange_keeps a level s; exact ⟨u, _, h, e⟩
  | erlActStart k pressed released => obtain ⟨u, h, e⟩ := execErlActStart_keeps k pressed released s; exact ⟨u, _, h, e⟩
  | erlActEnd k => obtain ⟨u, h, e⟩ := execErlActEnd_keeps k s; exact ⟨u, _, h, e⟩
  | erlActVoid k => obtain ⟨u, h, e⟩ := execErlActVoid_keeps k s; exact ⟨u, _, h, e⟩
  | erlGovernorTick k => obtain ⟨u, h, e⟩ := execErlGovernorTick_keeps k s; exact ⟨u, _, h, e⟩
  | gpiChange v => obtain ⟨u, h, e⟩ := execGpiChange_keeps v s; exact ⟨u, _, h, e⟩
  | gpoOverload k => obtain ⟨u, h, e⟩ := execGpoOverload_keeps k s; exact ⟨u, _, h, e⟩
  | ringEnable => obtain ⟨u, h, e⟩ := execRingEnable_keeps  s; exact ⟨u, _, h, e⟩
  | ringDisable => obtain ⟨u, h, e⟩ := execRingDisable_keeps  s; exact ⟨u, _, h, e⟩
  | ringRejoin => obtain ⟨u, h, e⟩ := execRingRejoin_keeps  s; exact ⟨u, _, h, e⟩
  | ringClearCount => obtain ⟨u, h, e⟩ := execRingClearCount_keeps  s; exact ⟨u, _, h, e⟩
  | ringForeignFrame => obtain ⟨u, h, e⟩ := execRingForeignFrame_keeps  s; exact ⟨u, _, h, e⟩
  | beaconTx => obtain ⟨u, h, e⟩ := execBeaconTx_keeps  s; exact ⟨u, _, h, e⟩
  | beaconRx onB fcs f res late => obtain ⟨u, h, e⟩ := execBeaconRx_keeps onB fcs f res late s; exact ⟨u, _, h, e⟩
  | linkevtRx onB fcs f => obtain ⟨u, h, e⟩ := execLinkevtRx_keeps onB fcs f s; exact ⟨u, _, h, e⟩
  | ringLinkChange onB lk => obtain ⟨u, h, e⟩ := execRingLinkChange_keeps onB lk s; exact ⟨u, _, h, e⟩
  | pdelayTx => obtain ⟨u, h, e⟩ := execPdelayTx_keeps  s; exact ⟨u, _, h, e⟩
  | pdelayReqRx onB fcs f late => obtain ⟨u, h, e⟩ := execPdelayReqRx_keeps onB fcs f late s; exact ⟨u, _, h, e⟩
  | pdelayRespRx onB fcs f late => obtain ⟨u, h, e⟩ := execPdelayRespRx_keeps onB fcs f late s; exact ⟨u, _, h, e⟩
  | ringListenTimeout => obtain ⟨u, h, e⟩ := execRingListenTimeout_keeps  s; exact ⟨u, _, h, e⟩
  | beaconLossTimeout => obtain ⟨u, h, e⟩ := execBeaconLossTimeout_keeps  s; exact ⟨u, _, h, e⟩
  | electionTimeout => obtain ⟨u, h, e⟩ := execElectionTimeout_keeps  s; exact ⟨u, _, h, e⟩
  | fseqRecordLapse src => obtain ⟨u, h, e⟩ := execFseqRecordLapse_keeps src s; exact ⟨u, _, h, e⟩
  | groupPeriodStart g => obtain ⟨u, h, e⟩ := execGroupPeriodStart_keeps g s; exact ⟨u, _, h, e⟩
  | availRx onB fcs f => obtain ⟨u, h, e⟩ := execAvailRx_keeps onB fcs f s; exact ⟨u, _, h, e⟩
  | sharePoint g => obtain ⟨u, h, e⟩ := execSharePoint_keeps g s; exact ⟨u, _, h, e⟩
  | shareRx onB fcs f => obtain ⟨u, h, e⟩ := execShareRx_keeps onB fcs f s; exact ⟨u, _, h, e⟩
  | sysPing onB fcs f => obtain ⟨u, h, e⟩ := execSysPing_keeps onB fcs f s; exact ⟨u, _, h, e⟩
  | sysResetUnit onB fcs f => obtain ⟨u, h, e⟩ := execSysResetUnit_keeps onB fcs f s; exact ⟨u, _, h, e⟩
  | sysMail onB fcs f => obtain ⟨u, h, e⟩ := execSysMail_keeps onB fcs f s; exact ⟨u, _, h, e⟩
  | sysQuery onB fcs f => obtain ⟨u, h, e⟩ := execSysQuery_keeps onB fcs f s; exact ⟨u, _, h, e⟩
  | sysUnknownCommand onB fcs f => obtain ⟨u, h, e⟩ := execSysUnknownCommand_keeps onB fcs f s; exact ⟨u, _, h, e⟩
  | sysRespRx onB fcs f => obtain ⟨u, h, e⟩ := execSysRespRx_keeps onB fcs f s; exact ⟨u, _, h, e⟩
  | queryTimeout osrc tid => obtain ⟨u, h, e⟩ := execQueryTimeout_keeps osrc tid s; exact ⟨u, _, h, e⟩
  | bridgePass onB fcs f beyond => obtain ⟨u, h, e⟩ := execBridgePass_keeps onB fcs f beyond s; exact ⟨u, _, h, e⟩
  | ringTxPush w => obtain ⟨u, h, e⟩ := execRingTxPush_keeps w s; exact ⟨u, _, h, e⟩
  | ringRxPop => obtain ⟨u, h, e⟩ := execRingRxPop_keeps  s; exact ⟨u, _, h, e⟩
  | copyPoint => obtain ⟨u, h, e⟩ := execCopyPoint_keeps  s; exact ⟨u, _, h, e⟩
  | copyDataRx onB fcs f => obtain ⟨u, h, e⟩ := execCopyDataRx_keeps onB fcs f s; exact ⟨u, _, h, e⟩
  | copyTrailerRx onB fcs f => obtain ⟨u, h, e⟩ := execCopyTrailerRx_keeps onB fcs f s; exact ⟨u, _, h, e⟩
  | copyCommitRx onB fcs f => obtain ⟨u, h, e⟩ := execCopyCommitRx_keeps onB fcs f s; exact ⟨u, _, h, e⟩
  | pairFrameRx onB fcs f => obtain ⟨u, h, e⟩ := execPairFrameRx_keeps onB fcs f s; exact ⟨u, _, h, e⟩
  | partnerLineChange high => obtain ⟨u, h, e⟩ := execPartnerLineChange_keeps high s; exact ⟨u, _, h, e⟩
  | claimTake => obtain ⟨u, h, e⟩ := execClaimTake_keeps  s; exact ⟨u, _, h, e⟩
  | claimTimerExpiry => obtain ⟨u, h, e⟩ := execClaimTimerExpiry_keeps  s; exact ⟨u, _, h, e⟩
  | portsQuiet since => obtain ⟨u, h, e⟩ := execPortsQuiet_keeps since s; exact ⟨u, _, h, e⟩
  | quietCheckTimeout => obtain ⟨u, h, e⟩ := execQuietCheckTimeout_keeps  s; exact ⟨u, _, h, e⟩
  | claimConflict => obtain ⟨u, h, e⟩ := execClaimConflict_keeps  s; exact ⟨u, _, h, e⟩
  | handoverRequest => obtain ⟨u, h, e⟩ := execHandoverRequest_keeps  s; exact ⟨u, _, h, e⟩
  | handoverRelease => obtain ⟨u, h, e⟩ := execHandoverRelease_keeps  s; exact ⟨u, _, h, e⟩
  | userBufferFlip => obtain ⟨u, h, e⟩ := execUserBufferFlip_keeps  s; exact ⟨u, _, h, e⟩
  | copyClearCount => obtain ⟨u, h, e⟩ := execCopyClearCount_keeps  s; exact ⟨u, _, h, e⟩
  | snapshotStale => obtain ⟨u, h, e⟩ := execSnapshotStale_keeps  s; exact ⟨u, _, h, e⟩
  | partnerPairLost => obtain ⟨u, h, e⟩ := execPartnerPairLost_keeps  s; exact ⟨u, _, h, e⟩
  | seatingComplete sw lv => obtain ⟨u, h, e⟩ := execSeatingComplete_keeps sw lv s; exact ⟨u, _, h, e⟩
  | benchDetect sw lv => obtain ⟨u, h, e⟩ := execBenchDetect_keeps sw lv s; exact ⟨u, _, h, e⟩
  | presenceLost p1 p3 => obtain ⟨u, h, e⟩ := execPresenceLost_keeps p1 p3 s; exact ⟨u, _, h, e⟩
  | feedChange onB valid collapsed sw lv => obtain ⟨u, h, e⟩ := execFeedChange_keeps onB valid collapsed sw lv s; exact ⟨u, _, h, e⟩
  | brownOut => obtain ⟨u, h, e⟩ := execBrownOut_keeps  s; exact ⟨u, _, h, e⟩
  | parkRequest button => obtain ⟨u, h, e⟩ := execParkRequest_keeps button s; exact ⟨u, _, h, e⟩
  | parkSafeToPull idle => obtain ⟨u, h, e⟩ := execParkSafeToPull_keeps idle s; exact ⟨u, _, h, e⟩
  | parkHandoverTimeout => obtain ⟨u, h, e⟩ := execParkHandoverTimeout_keeps  s; exact ⟨u, _, h, e⟩
  | unpark => obtain ⟨u, h, e⟩ := execUnpark_keeps  s; exact ⟨u, _, h, e⟩
  | lampTestCommand => obtain ⟨u, h, e⟩ := execLampTestCommand_keeps  s; exact ⟨u, _, h, e⟩
  | bridgeDataRx resp f => obtain ⟨u, h, e⟩ := execBridgeDataRx_keeps resp f s; exact ⟨u, _, h, e⟩
  | bridgeAckRx f => obtain ⟨u, h, e⟩ := execBridgeAckRx_keeps f s; exact ⟨u, _, h, e⟩
  | bridgeNakRx f => obtain ⟨u, h, e⟩ := execBridgeNakRx_keeps f s; exact ⟨u, _, h, e⟩
  | bridgeKeepRx f => obtain ⟨u, h, e⟩ := execBridgeKeepRx_keeps f s; exact ⟨u, _, h, e⟩
  | bridgeResendTimeout => obtain ⟨u, h, e⟩ := execBridgeResendTimeout_keeps  s; exact ⟨u, _, h, e⟩
  | bridgeKeepTx => obtain ⟨u, h, e⟩ := execBridgeKeepTx_keeps  s; exact ⟨u, _, h, e⟩
  | bridgeLinkTimeout => obtain ⟨u, h, e⟩ := execBridgeLinkTimeout_keeps  s; exact ⟨u, _, h, e⟩
  | nmtStart ch node => obtain ⟨u, h, e⟩ := execNmtStart_keeps ch node s; exact ⟨u, _, h, e⟩
  | nmtStop ch node => obtain ⟨u, h, e⟩ := execNmtStop_keeps ch node s; exact ⟨u, _, h, e⟩
  | nmtEnterPreOperational ch node => obtain ⟨u, h, e⟩ := execNmtEnterPreOperational_keeps ch node s; exact ⟨u, _, h, e⟩
  | nmtResetNode ch node => obtain ⟨u, h, e⟩ := execNmtResetNode_keeps ch node s; exact ⟨u, _, h, e⟩
  | nmtResetCommunication ch node => obtain ⟨u, h, e⟩ := execNmtResetCommunication_keeps ch node s; exact ⟨u, _, h, e⟩
  | sdoUpload ch idx sub served => obtain ⟨u, h, e⟩ := execSdoUpload_keeps ch idx sub served s; exact ⟨u, _, h, e⟩
  | sdoDownload ch idx sub seg size data served => obtain ⟨u, h, e⟩ := execSdoDownload_keeps ch idx sub seg size data served s; exact ⟨u, _, h, e⟩
  | sdoSegment ch cs toggle last data => obtain ⟨u, h, e⟩ := execSdoSegment_keeps ch cs toggle last data s; exact ⟨u, _, h, e⟩
  | sdoTimeout ch => obtain ⟨u, h, e⟩ := execSdoTimeout_keeps ch s; exact ⟨u, _, h, e⟩
  | rpdoRx ch id data both id2 data2 => obtain ⟨u, h, e⟩ := execRpdoRx_keeps ch id data both id2 data2 s; exact ⟨u, _, h, e⟩
  | syncRx ch id => obtain ⟨u, h, e⟩ := execSyncRx_keeps ch id s; exact ⟨u, _, h, e⟩
  | tpdoTransmit n timer => obtain ⟨u, h, e⟩ := execTpdoTransmit_keeps n timer s; exact ⟨u, _, h, e⟩
  | rpdoEventTimeout r => obtain ⟨u, h, e⟩ := execRpdoEventTimeout_keeps r s; exact ⟨u, _, h, e⟩
  | pdoCobidWrite tx n v => obtain ⟨u, h, e⟩ := execPdoCobidWrite_keeps tx n v s; exact ⟨u, _, h, e⟩
  | heartbeatProduce => obtain ⟨u, h, e⟩ := execHeartbeatProduce_keeps  s; exact ⟨u, _, h, e⟩
  | serverKick v => obtain ⟨u, h, e⟩ := execServerKick_keeps v s; exact ⟨u, _, h, e⟩
  | serverAliveLapse => obtain ⟨u, h, e⟩ := execServerAliveLapse_keeps  s; exact ⟨u, _, h, e⟩
  | heartbeatRx ch node => obtain ⟨u, h, e⟩ := execHeartbeatRx_keeps ch node s; exact ⟨u, _, h, e⟩
  | heartbeatConsumerExpiry k => obtain ⟨u, h, e⟩ := execHeartbeatConsumerExpiry_keeps k s; exact ⟨u, _, h, e⟩
  | canErrorPassive ch tec rec errs => obtain ⟨u, h, e⟩ := execCanErrorPassive_keeps ch tec rec errs s; exact ⟨u, _, h, e⟩
  | canBusOff ch errs => obtain ⟨u, h, e⟩ := execCanBusOff_keeps ch errs s; exact ⟨u, _, h, e⟩
  | canBusOffRecovery ch => obtain ⟨u, h, e⟩ := execCanBusOffRecovery_keeps ch s; exact ⟨u, _, h, e⟩
  | canFrameIgnored ch => obtain ⟨u, h, e⟩ := execCanFrameIgnored_keeps ch s; exact ⟨u, _, h, e⟩
  | canTxPush ch w => obtain ⟨u, h, e⟩ := execCanTxPush_keeps ch w s; exact ⟨u, _, h, e⟩
  | canRxPop ch => obtain ⟨u, h, e⟩ := execCanRxPop_keeps ch s; exact ⟨u, _, h, e⟩
  | emcyTransmit => obtain ⟨u, h, e⟩ := execEmcyTransmit_keeps  s; exact ⟨u, _, h, e⟩
  | errorHistoryClear ch v => obtain ⟨u, h, e⟩ := execErrorHistoryClear_keeps ch v s; exact ⟨u, _, h, e⟩
  | storeParameters ch sub v ok => obtain ⟨u, h, e⟩ := execStoreParameters_keeps ch sub v ok s; exact ⟨u, _, h, e⟩
  | restoreDefaults ch sub v ok => obtain ⟨u, h, e⟩ := execRestoreDefaults_keeps ch sub v ok s; exact ⟨u, _, h, e⟩
  | storeAppend ten => obtain ⟨u, h, e⟩ := execStoreAppend_keeps ten s; exact ⟨u, _, h, e⟩
  | storeDelete ten => obtain ⟨u, h, e⟩ := execStoreDelete_keeps ten s; exact ⟨u, _, h, e⟩
  | storeCommit ten => obtain ⟨u, h, e⟩ := execStoreCommit_keeps ten s; exact ⟨u, _, h, e⟩
  | storeAbort ten => obtain ⟨u, h, e⟩ := execStoreAbort_keeps ten s; exact ⟨u, _, h, e⟩
  | storeFind ten => obtain ⟨u, h, e⟩ := execStoreFind_keeps ten s; exact ⟨u, _, h, e⟩
  | storeErasebank ten => obtain ⟨u, h, e⟩ := execStoreErasebank_keeps ten s; exact ⟨u, _, h, e⟩
  | storeProg ten => obtain ⟨u, h, e⟩ := execStoreProg_keeps ten s; exact ⟨u, _, h, e⟩
  | storeVerify ten => obtain ⟨u, h, e⟩ := execStoreVerify_keeps ten s; exact ⟨u, _, h, e⟩
  | storeAbandonbank ten => obtain ⟨u, h, e⟩ := execStoreAbandonbank_keeps ten s; exact ⟨u, _, h, e⟩
  | storeConfirm ten => obtain ⟨u, h, e⟩ := execStoreConfirm_keeps ten s; exact ⟨u, _, h, e⟩
  | storeFallback ten => obtain ⟨u, h, e⟩ := execStoreFallback_keeps ten s; exact ⟨u, _, h, e⟩
  | storeCommandComplete ok => obtain ⟨u, h, e⟩ := execStoreCommandComplete_keeps ok s; exact ⟨u, _, h, e⟩
  | backgroundEraseComplete => obtain ⟨u, h, e⟩ := execBackgroundEraseComplete_keeps  s; exact ⟨u, _, h, e⟩
  | reclaimStep => obtain ⟨u, h, e⟩ := execReclaimStep_keeps  s; exact ⟨u, _, h, e⟩
  | storeScanComplete => obtain ⟨u, h, e⟩ := execStoreScanComplete_keeps  s; exact ⟨u, _, h, e⟩
  | imageDownload ch image => obtain ⟨u, h, e⟩ := execImageDownload_keeps ch image s; exact ⟨u, _, h, e⟩
  | optionRequestDownload ch data => obtain ⟨u, h, e⟩ := execOptionRequestDownload_keeps ch data s; exact ⟨u, _, h, e⟩
  | tagRead block => obtain ⟨u, h, e⟩ := execTagRead_keeps block s; exact ⟨u, _, h, e⟩
  | tagWrite block => obtain ⟨u, h, e⟩ := execTagWrite_keeps block s; exact ⟨u, _, h, e⟩
  | tagPendingComplete => obtain ⟨u, h, e⟩ := execTagPendingComplete_keeps  s; exact ⟨u, _, h, e⟩
  | tagClearCount => obtain ⟨u, h, e⟩ := execTagClearCount_keeps  s; exact ⟨u, _, h, e⟩
  | tagClearRfw => obtain ⟨u, h, e⟩ := execTagClearRfw_keeps  s; exact ⟨u, _, h, e⟩
  | rfFieldChange on => obtain ⟨u, h, e⟩ := execRfFieldChange_keeps on s; exact ⟨u, _, h, e⟩
  | rfStateTimeout inv => obtain ⟨u, h, e⟩ := execRfStateTimeout_keeps inv s; exact ⟨u, _, h, e⟩
  | rfInventory maskLen mask => obtain ⟨u, h, e⟩ := execRfInventory_keeps maskLen mask s; exact ⟨u, _, h, e⟩
  | rfStayQuiet => obtain ⟨u, h, e⟩ := execRfStayQuiet_keeps  s; exact ⟨u, _, h, e⟩
  | rfSelect mine => obtain ⟨u, h, e⟩ := execRfSelect_keeps mine s; exact ⟨u, _, h, e⟩
  | rfResetToReady mode => obtain ⟨u, h, e⟩ := execRfResetToReady_keeps mode s; exact ⟨u, _, h, e⟩
  | rfReadBlock mode ext first n => obtain ⟨u, h, e⟩ := execRfReadBlock_keeps mode ext first n s; exact ⟨u, _, h, e⟩
  | rfWriteBlock mode ext block data => obtain ⟨u, h, e⟩ := execRfWriteBlock_keeps mode ext block data s; exact ⟨u, _, h, e⟩
  | rfLockBlock mode ext block => obtain ⟨u, h, e⟩ := execRfLockBlock_keeps mode ext block s; exact ⟨u, _, h, e⟩
  | rfGetSystemInfo mode ext => obtain ⟨u, h, e⟩ := execRfGetSystemInfo_keeps mode ext s; exact ⟨u, _, h, e⟩
  | rfGetBlockSecurity mode ext first n => obtain ⟨u, h, e⟩ := execRfGetBlockSecurity_keeps mode ext first n s; exact ⟨u, _, h, e⟩
  | rfUnsupportedCommand mode => obtain ⟨u, h, e⟩ := execRfUnsupportedCommand_keeps mode s; exact ⟨u, _, h, e⟩
  | backgroundSelftestFail test => obtain ⟨u, h, e⟩ := execBackgroundSelftestFail_keeps test s; exact ⟨u, _, h, e⟩
  | ebreak c => obtain ⟨u, h, e⟩ := execEbreak_keeps c s; exact ⟨u, _, h, e⟩
  | satUvExit p k high neg => obtain ⟨u, h, e⟩ := execSatUvExit_keeps p k high neg s; exact ⟨u, _, h, e⟩
  | satGateSupplyReturn p k high => obtain ⟨u, h, e⟩ := execSatGateSupplyReturn_keeps p k high s; exact ⟨u, _, h, e⟩
  | satResetExit p k => obtain ⟨u, h, e⟩ := execSatResetExit_keeps p k s; exact ⟨u, _, h, e⟩
  | haltFrameTwelfthEdge p => obtain ⟨u, h, e⟩ := execHaltFrameTwelfthEdge_keeps p s; exact ⟨u, _, h, e⟩
  | presencePinContact pin3 contact => obtain ⟨u, h, e⟩ := execPresencePinContact_keeps pin3 contact s; exact ⟨u, _, h, e⟩
  | canErrorActive ch tec rec errs => obtain ⟨u, h, e⟩ := execCanErrorActive_keeps ch tec rec errs s; exact ⟨u, _, h, e⟩
  | unknownTypeFrame onB fcs f => obtain ⟨u, h, e⟩ := execUnknownTypeFrame_keeps onB fcs f s; exact ⟨u, _, h, e⟩

end Sys2Proof.Machine
end

