-- ==== Sys2Proof/Laws/State.lean ====
section
/-! SUPPORT. One lemma per field per update: a proof never unfolds a record update. -/

set_option Elab.async false

namespace Sys2Proof.Machine

/-! ### Vectors -/

@[simp] theorem upd_same {α : Type} {n : Nat} (v : Vector α n) (i : Fin n) (f : α → α) : (upd v i f)[i] = f v[i] := by
  simp [upd]

theorem upd_ne {α : Type} {n : Nat} (v : Vector α n) (i j : Fin n) (f : α → α) (h : j ≠ i) : (upd v i f)[j] = v[j] := by
  simp only [upd, Fin.getElem_fin, Vector.getElem_set]
  rw [if_neg (fun e => h (Fin.ext e.symm))]

/-! `State.modSys` -/

@[simp] theorem State.modSys_pending (s : State) (f : SysSt → SysSt) : (s.modSys f).pending = s.pending := rfl
@[simp] theorem State.modSys_member (s : State) (f : SysSt → SysSt) : (s.modSys f).member = s.member := rfl
@[simp] theorem State.modSys_time (s : State) (f : SysSt → SysSt) : (s.modSys f).time = s.time := rfl
@[simp] theorem State.modSys_clk (s : State) (f : SysSt → SysSt) : (s.modSys f).clk = s.clk := rfl
@[simp] theorem State.modSys_freeCtr (s : State) (f : SysSt → SysSt) : (s.modSys f).freeCtr = s.freeCtr := rfl
@[simp] theorem State.modSys_wire (s : State) (f : SysSt → SysSt) : (s.modSys f).wire = s.wire := rfl
@[simp] theorem State.modSys_rdata (s : State) (f : SysSt → SysSt) : (s.modSys f).rdata = s.rdata := rfl
@[simp] theorem State.modSys_regs (s : State) (f : SysSt → SysSt) : (s.modSys f).regs = s.regs := rfl
@[simp] theorem State.modSys_hold (s : State) (f : SysSt → SysSt) : (s.modSys f).hold = s.hold := rfl
@[simp] theorem State.modSys_pend64 (s : State) (f : SysSt → SysSt) : (s.modSys f).pend64 = s.pend64 := rfl
@[simp] theorem State.modSys_mem (s : State) (f : SysSt → SysSt) : (s.modSys f).mem = s.mem := rfl
@[simp] theorem State.modSys_memErr (s : State) (f : SysSt → SysSt) : (s.modSys f).memErr = s.memErr := rfl
@[simp] theorem State.modSys_sys (s : State) (f : SysSt → SysSt) : (s.modSys f).sys = f s.sys := rfl
@[simp] theorem State.modSys_bg (s : State) (f : SysSt → SysSt) : (s.modSys f).bg = s.bg := rfl
@[simp] theorem State.modSys_axes (s : State) (f : SysSt → SysSt) : (s.modSys f).axes = s.axes := rfl
@[simp] theorem State.modSys_ports (s : State) (f : SysSt → SysSt) : (s.modSys f).ports = s.ports := rfl
@[simp] theorem State.modSys_sats (s : State) (f : SysSt → SysSt) : (s.modSys f).sats = s.sats := rfl
@[simp] theorem State.modSys_waiting (s : State) (f : SysSt → SysSt) : (s.modSys f).waiting = s.waiting := rfl
@[simp] theorem State.modSys_srv (s : State) (f : SysSt → SysSt) : (s.modSys f).srv = s.srv := rfl
@[simp] theorem State.modSys_cp (s : State) (f : SysSt → SysSt) : (s.modSys f).cp = s.cp := rfl
@[simp] theorem State.modSys_eng (s : State) (f : SysSt → SysSt) : (s.modSys f).eng = s.eng := rfl
@[simp] theorem State.modSys_gain (s : State) (f : SysSt → SysSt) : (s.modSys f).gain = s.gain := rfl
@[simp] theorem State.modSys_route (s : State) (f : SysSt → SysSt) : (s.modSys f).route = s.route := rfl
@[simp] theorem State.modSys_tension (s : State) (f : SysSt → SysSt) : (s.modSys f).tension = s.tension := rfl
@[simp] theorem State.modSys_lio (s : State) (f : SysSt → SysSt) : (s.modSys f).lio = s.lio := rfl
@[simp] theorem State.modSys_fb (s : State) (f : SysSt → SysSt) : (s.modSys f).fb = s.fb := rfl
@[simp] theorem State.modSys_modCap (s : State) (f : SysSt → SysSt) : (s.modSys f).modCap = s.modCap := rfl
@[simp] theorem State.modSys_ring (s : State) (f : SysSt → SysSt) : (s.modSys f).ring = s.ring := rfl
@[simp] theorem State.modSys_pr (s : State) (f : SysSt → SysSt) : (s.modSys f).pr = s.pr := rfl
@[simp] theorem State.modSys_bear (s : State) (f : SysSt → SysSt) : (s.modSys f).bear = s.bear := rfl
@[simp] theorem State.modSys_store (s : State) (f : SysSt → SysSt) : (s.modSys f).store = s.store := rfl
@[simp] theorem State.modSys_tag (s : State) (f : SysSt → SysSt) : (s.modSys f).tag = s.tag := rfl
@[simp] theorem State.modSys_edge (s : State) (f : SysSt → SysSt) : (s.modSys f).edge = s.edge := rfl
@[simp] theorem State.reg_modSys (s : State) (f : SysSt → SysSt) (x : Nat) : (s.modSys f).reg x = s.reg x := rfl
@[simp] theorem State.get_modSys (s : State) (f : SysSt → SysSt) (x : Fld) : (s.modSys f).get x = s.get x := rfl
@[simp] theorem State.flag_modSys (s : State) (f : SysSt → SysSt) (x : Fld) : (s.modSys f).flag x = s.flag x := rfl

/-! `State.modBg` -/

@[simp] theorem State.modBg_pending (s : State) (f : Badger → Badger) : (s.modBg f).pending = s.pending := rfl
@[simp] theorem State.modBg_member (s : State) (f : Badger → Badger) : (s.modBg f).member = s.member := rfl
@[simp] theorem State.modBg_time (s : State) (f : Badger → Badger) : (s.modBg f).time = s.time := rfl
@[simp] theorem State.modBg_clk (s : State) (f : Badger → Badger) : (s.modBg f).clk = s.clk := rfl
@[simp] theorem State.modBg_freeCtr (s : State) (f : Badger → Badger) : (s.modBg f).freeCtr = s.freeCtr := rfl
@[simp] theorem State.modBg_wire (s : State) (f : Badger → Badger) : (s.modBg f).wire = s.wire := rfl
@[simp] theorem State.modBg_rdata (s : State) (f : Badger → Badger) : (s.modBg f).rdata = s.rdata := rfl
@[simp] theorem State.modBg_regs (s : State) (f : Badger → Badger) : (s.modBg f).regs = s.regs := rfl
@[simp] theorem State.modBg_hold (s : State) (f : Badger → Badger) : (s.modBg f).hold = s.hold := rfl
@[simp] theorem State.modBg_pend64 (s : State) (f : Badger → Badger) : (s.modBg f).pend64 = s.pend64 := rfl
@[simp] theorem State.modBg_mem (s : State) (f : Badger → Badger) : (s.modBg f).mem = s.mem := rfl
@[simp] theorem State.modBg_memErr (s : State) (f : Badger → Badger) : (s.modBg f).memErr = s.memErr := rfl
@[simp] theorem State.modBg_sys (s : State) (f : Badger → Badger) : (s.modBg f).sys = s.sys := rfl
@[simp] theorem State.modBg_bg (s : State) (f : Badger → Badger) : (s.modBg f).bg = f s.bg := rfl
@[simp] theorem State.modBg_axes (s : State) (f : Badger → Badger) : (s.modBg f).axes = s.axes := rfl
@[simp] theorem State.modBg_ports (s : State) (f : Badger → Badger) : (s.modBg f).ports = s.ports := rfl
@[simp] theorem State.modBg_sats (s : State) (f : Badger → Badger) : (s.modBg f).sats = s.sats := rfl
@[simp] theorem State.modBg_waiting (s : State) (f : Badger → Badger) : (s.modBg f).waiting = s.waiting := rfl
@[simp] theorem State.modBg_srv (s : State) (f : Badger → Badger) : (s.modBg f).srv = s.srv := rfl
@[simp] theorem State.modBg_cp (s : State) (f : Badger → Badger) : (s.modBg f).cp = s.cp := rfl
@[simp] theorem State.modBg_eng (s : State) (f : Badger → Badger) : (s.modBg f).eng = s.eng := rfl
@[simp] theorem State.modBg_gain (s : State) (f : Badger → Badger) : (s.modBg f).gain = s.gain := rfl
@[simp] theorem State.modBg_route (s : State) (f : Badger → Badger) : (s.modBg f).route = s.route := rfl
@[simp] theorem State.modBg_tension (s : State) (f : Badger → Badger) : (s.modBg f).tension = s.tension := rfl
@[simp] theorem State.modBg_lio (s : State) (f : Badger → Badger) : (s.modBg f).lio = s.lio := rfl
@[simp] theorem State.modBg_fb (s : State) (f : Badger → Badger) : (s.modBg f).fb = s.fb := rfl
@[simp] theorem State.modBg_modCap (s : State) (f : Badger → Badger) : (s.modBg f).modCap = s.modCap := rfl
@[simp] theorem State.modBg_ring (s : State) (f : Badger → Badger) : (s.modBg f).ring = s.ring := rfl
@[simp] theorem State.modBg_pr (s : State) (f : Badger → Badger) : (s.modBg f).pr = s.pr := rfl
@[simp] theorem State.modBg_bear (s : State) (f : Badger → Badger) : (s.modBg f).bear = s.bear := rfl
@[simp] theorem State.modBg_store (s : State) (f : Badger → Badger) : (s.modBg f).store = s.store := rfl
@[simp] theorem State.modBg_tag (s : State) (f : Badger → Badger) : (s.modBg f).tag = s.tag := rfl
@[simp] theorem State.modBg_edge (s : State) (f : Badger → Badger) : (s.modBg f).edge = s.edge := rfl
@[simp] theorem State.reg_modBg (s : State) (f : Badger → Badger) (x : Nat) : (s.modBg f).reg x = s.reg x := rfl
@[simp] theorem State.get_modBg (s : State) (f : Badger → Badger) (x : Fld) : (s.modBg f).get x = s.get x := rfl
@[simp] theorem State.flag_modBg (s : State) (f : Badger → Badger) (x : Fld) : (s.modBg f).flag x = s.flag x := rfl

/-! `State.modSrv` -/

@[simp] theorem State.modSrv_pending (s : State) (f : Srv → Srv) : (s.modSrv f).pending = s.pending := rfl
@[simp] theorem State.modSrv_member (s : State) (f : Srv → Srv) : (s.modSrv f).member = s.member := rfl
@[simp] theorem State.modSrv_time (s : State) (f : Srv → Srv) : (s.modSrv f).time = s.time := rfl
@[simp] theorem State.modSrv_clk (s : State) (f : Srv → Srv) : (s.modSrv f).clk = s.clk := rfl
@[simp] theorem State.modSrv_freeCtr (s : State) (f : Srv → Srv) : (s.modSrv f).freeCtr = s.freeCtr := rfl
@[simp] theorem State.modSrv_wire (s : State) (f : Srv → Srv) : (s.modSrv f).wire = s.wire := rfl
@[simp] theorem State.modSrv_rdata (s : State) (f : Srv → Srv) : (s.modSrv f).rdata = s.rdata := rfl
@[simp] theorem State.modSrv_regs (s : State) (f : Srv → Srv) : (s.modSrv f).regs = s.regs := rfl
@[simp] theorem State.modSrv_hold (s : State) (f : Srv → Srv) : (s.modSrv f).hold = s.hold := rfl
@[simp] theorem State.modSrv_pend64 (s : State) (f : Srv → Srv) : (s.modSrv f).pend64 = s.pend64 := rfl
@[simp] theorem State.modSrv_mem (s : State) (f : Srv → Srv) : (s.modSrv f).mem = s.mem := rfl
@[simp] theorem State.modSrv_memErr (s : State) (f : Srv → Srv) : (s.modSrv f).memErr = s.memErr := rfl
@[simp] theorem State.modSrv_sys (s : State) (f : Srv → Srv) : (s.modSrv f).sys = s.sys := rfl
@[simp] theorem State.modSrv_bg (s : State) (f : Srv → Srv) : (s.modSrv f).bg = s.bg := rfl
@[simp] theorem State.modSrv_axes (s : State) (f : Srv → Srv) : (s.modSrv f).axes = s.axes := rfl
@[simp] theorem State.modSrv_ports (s : State) (f : Srv → Srv) : (s.modSrv f).ports = s.ports := rfl
@[simp] theorem State.modSrv_sats (s : State) (f : Srv → Srv) : (s.modSrv f).sats = s.sats := rfl
@[simp] theorem State.modSrv_waiting (s : State) (f : Srv → Srv) : (s.modSrv f).waiting = s.waiting := rfl
@[simp] theorem State.modSrv_srv (s : State) (f : Srv → Srv) : (s.modSrv f).srv = f s.srv := rfl
@[simp] theorem State.modSrv_cp (s : State) (f : Srv → Srv) : (s.modSrv f).cp = s.cp := rfl
@[simp] theorem State.modSrv_eng (s : State) (f : Srv → Srv) : (s.modSrv f).eng = s.eng := rfl
@[simp] theorem State.modSrv_gain (s : State) (f : Srv → Srv) : (s.modSrv f).gain = s.gain := rfl
@[simp] theorem State.modSrv_route (s : State) (f : Srv → Srv) : (s.modSrv f).route = s.route := rfl
@[simp] theorem State.modSrv_tension (s : State) (f : Srv → Srv) : (s.modSrv f).tension = s.tension := rfl
@[simp] theorem State.modSrv_lio (s : State) (f : Srv → Srv) : (s.modSrv f).lio = s.lio := rfl
@[simp] theorem State.modSrv_fb (s : State) (f : Srv → Srv) : (s.modSrv f).fb = s.fb := rfl
@[simp] theorem State.modSrv_modCap (s : State) (f : Srv → Srv) : (s.modSrv f).modCap = s.modCap := rfl
@[simp] theorem State.modSrv_ring (s : State) (f : Srv → Srv) : (s.modSrv f).ring = s.ring := rfl
@[simp] theorem State.modSrv_pr (s : State) (f : Srv → Srv) : (s.modSrv f).pr = s.pr := rfl
@[simp] theorem State.modSrv_bear (s : State) (f : Srv → Srv) : (s.modSrv f).bear = s.bear := rfl
@[simp] theorem State.modSrv_store (s : State) (f : Srv → Srv) : (s.modSrv f).store = s.store := rfl
@[simp] theorem State.modSrv_tag (s : State) (f : Srv → Srv) : (s.modSrv f).tag = s.tag := rfl
@[simp] theorem State.modSrv_edge (s : State) (f : Srv → Srv) : (s.modSrv f).edge = s.edge := rfl
@[simp] theorem State.reg_modSrv (s : State) (f : Srv → Srv) (x : Nat) : (s.modSrv f).reg x = s.reg x := rfl
@[simp] theorem State.get_modSrv (s : State) (f : Srv → Srv) (x : Fld) : (s.modSrv f).get x = s.get x := rfl
@[simp] theorem State.flag_modSrv (s : State) (f : Srv → Srv) (x : Fld) : (s.modSrv f).flag x = s.flag x := rfl

/-! `State.modCp` -/

@[simp] theorem State.modCp_pending (s : State) (f : Cp → Cp) : (s.modCp f).pending = s.pending := rfl
@[simp] theorem State.modCp_member (s : State) (f : Cp → Cp) : (s.modCp f).member = s.member := rfl
@[simp] theorem State.modCp_time (s : State) (f : Cp → Cp) : (s.modCp f).time = s.time := rfl
@[simp] theorem State.modCp_clk (s : State) (f : Cp → Cp) : (s.modCp f).clk = s.clk := rfl
@[simp] theorem State.modCp_freeCtr (s : State) (f : Cp → Cp) : (s.modCp f).freeCtr = s.freeCtr := rfl
@[simp] theorem State.modCp_wire (s : State) (f : Cp → Cp) : (s.modCp f).wire = s.wire := rfl
@[simp] theorem State.modCp_rdata (s : State) (f : Cp → Cp) : (s.modCp f).rdata = s.rdata := rfl
@[simp] theorem State.modCp_regs (s : State) (f : Cp → Cp) : (s.modCp f).regs = s.regs := rfl
@[simp] theorem State.modCp_hold (s : State) (f : Cp → Cp) : (s.modCp f).hold = s.hold := rfl
@[simp] theorem State.modCp_pend64 (s : State) (f : Cp → Cp) : (s.modCp f).pend64 = s.pend64 := rfl
@[simp] theorem State.modCp_mem (s : State) (f : Cp → Cp) : (s.modCp f).mem = s.mem := rfl
@[simp] theorem State.modCp_memErr (s : State) (f : Cp → Cp) : (s.modCp f).memErr = s.memErr := rfl
@[simp] theorem State.modCp_sys (s : State) (f : Cp → Cp) : (s.modCp f).sys = s.sys := rfl
@[simp] theorem State.modCp_bg (s : State) (f : Cp → Cp) : (s.modCp f).bg = s.bg := rfl
@[simp] theorem State.modCp_axes (s : State) (f : Cp → Cp) : (s.modCp f).axes = s.axes := rfl
@[simp] theorem State.modCp_ports (s : State) (f : Cp → Cp) : (s.modCp f).ports = s.ports := rfl
@[simp] theorem State.modCp_sats (s : State) (f : Cp → Cp) : (s.modCp f).sats = s.sats := rfl
@[simp] theorem State.modCp_waiting (s : State) (f : Cp → Cp) : (s.modCp f).waiting = s.waiting := rfl
@[simp] theorem State.modCp_srv (s : State) (f : Cp → Cp) : (s.modCp f).srv = s.srv := rfl
@[simp] theorem State.modCp_cp (s : State) (f : Cp → Cp) : (s.modCp f).cp = f s.cp := rfl
@[simp] theorem State.modCp_eng (s : State) (f : Cp → Cp) : (s.modCp f).eng = s.eng := rfl
@[simp] theorem State.modCp_gain (s : State) (f : Cp → Cp) : (s.modCp f).gain = s.gain := rfl
@[simp] theorem State.modCp_route (s : State) (f : Cp → Cp) : (s.modCp f).route = s.route := rfl
@[simp] theorem State.modCp_tension (s : State) (f : Cp → Cp) : (s.modCp f).tension = s.tension := rfl
@[simp] theorem State.modCp_lio (s : State) (f : Cp → Cp) : (s.modCp f).lio = s.lio := rfl
@[simp] theorem State.modCp_fb (s : State) (f : Cp → Cp) : (s.modCp f).fb = s.fb := rfl
@[simp] theorem State.modCp_modCap (s : State) (f : Cp → Cp) : (s.modCp f).modCap = s.modCap := rfl
@[simp] theorem State.modCp_ring (s : State) (f : Cp → Cp) : (s.modCp f).ring = s.ring := rfl
@[simp] theorem State.modCp_pr (s : State) (f : Cp → Cp) : (s.modCp f).pr = s.pr := rfl
@[simp] theorem State.modCp_bear (s : State) (f : Cp → Cp) : (s.modCp f).bear = s.bear := rfl
@[simp] theorem State.modCp_store (s : State) (f : Cp → Cp) : (s.modCp f).store = s.store := rfl
@[simp] theorem State.modCp_tag (s : State) (f : Cp → Cp) : (s.modCp f).tag = s.tag := rfl
@[simp] theorem State.modCp_edge (s : State) (f : Cp → Cp) : (s.modCp f).edge = s.edge := rfl
@[simp] theorem State.reg_modCp (s : State) (f : Cp → Cp) (x : Nat) : (s.modCp f).reg x = s.reg x := rfl
@[simp] theorem State.get_modCp (s : State) (f : Cp → Cp) (x : Fld) : (s.modCp f).get x = s.get x := rfl
@[simp] theorem State.flag_modCp (s : State) (f : Cp → Cp) (x : Fld) : (s.modCp f).flag x = s.flag x := rfl

/-! `State.modLio` -/

@[simp] theorem State.modLio_pending (s : State) (f : Lio → Lio) : (s.modLio f).pending = s.pending := rfl
@[simp] theorem State.modLio_member (s : State) (f : Lio → Lio) : (s.modLio f).member = s.member := rfl
@[simp] theorem State.modLio_time (s : State) (f : Lio → Lio) : (s.modLio f).time = s.time := rfl
@[simp] theorem State.modLio_clk (s : State) (f : Lio → Lio) : (s.modLio f).clk = s.clk := rfl
@[simp] theorem State.modLio_freeCtr (s : State) (f : Lio → Lio) : (s.modLio f).freeCtr = s.freeCtr := rfl
@[simp] theorem State.modLio_wire (s : State) (f : Lio → Lio) : (s.modLio f).wire = s.wire := rfl
@[simp] theorem State.modLio_rdata (s : State) (f : Lio → Lio) : (s.modLio f).rdata = s.rdata := rfl
@[simp] theorem State.modLio_regs (s : State) (f : Lio → Lio) : (s.modLio f).regs = s.regs := rfl
@[simp] theorem State.modLio_hold (s : State) (f : Lio → Lio) : (s.modLio f).hold = s.hold := rfl
@[simp] theorem State.modLio_pend64 (s : State) (f : Lio → Lio) : (s.modLio f).pend64 = s.pend64 := rfl
@[simp] theorem State.modLio_mem (s : State) (f : Lio → Lio) : (s.modLio f).mem = s.mem := rfl
@[simp] theorem State.modLio_memErr (s : State) (f : Lio → Lio) : (s.modLio f).memErr = s.memErr := rfl
@[simp] theorem State.modLio_sys (s : State) (f : Lio → Lio) : (s.modLio f).sys = s.sys := rfl
@[simp] theorem State.modLio_bg (s : State) (f : Lio → Lio) : (s.modLio f).bg = s.bg := rfl
@[simp] theorem State.modLio_axes (s : State) (f : Lio → Lio) : (s.modLio f).axes = s.axes := rfl
@[simp] theorem State.modLio_ports (s : State) (f : Lio → Lio) : (s.modLio f).ports = s.ports := rfl
@[simp] theorem State.modLio_sats (s : State) (f : Lio → Lio) : (s.modLio f).sats = s.sats := rfl
@[simp] theorem State.modLio_waiting (s : State) (f : Lio → Lio) : (s.modLio f).waiting = s.waiting := rfl
@[simp] theorem State.modLio_srv (s : State) (f : Lio → Lio) : (s.modLio f).srv = s.srv := rfl
@[simp] theorem State.modLio_cp (s : State) (f : Lio → Lio) : (s.modLio f).cp = s.cp := rfl
@[simp] theorem State.modLio_eng (s : State) (f : Lio → Lio) : (s.modLio f).eng = s.eng := rfl
@[simp] theorem State.modLio_gain (s : State) (f : Lio → Lio) : (s.modLio f).gain = s.gain := rfl
@[simp] theorem State.modLio_route (s : State) (f : Lio → Lio) : (s.modLio f).route = s.route := rfl
@[simp] theorem State.modLio_tension (s : State) (f : Lio → Lio) : (s.modLio f).tension = s.tension := rfl
@[simp] theorem State.modLio_lio (s : State) (f : Lio → Lio) : (s.modLio f).lio = f s.lio := rfl
@[simp] theorem State.modLio_fb (s : State) (f : Lio → Lio) : (s.modLio f).fb = s.fb := rfl
@[simp] theorem State.modLio_modCap (s : State) (f : Lio → Lio) : (s.modLio f).modCap = s.modCap := rfl
@[simp] theorem State.modLio_ring (s : State) (f : Lio → Lio) : (s.modLio f).ring = s.ring := rfl
@[simp] theorem State.modLio_pr (s : State) (f : Lio → Lio) : (s.modLio f).pr = s.pr := rfl
@[simp] theorem State.modLio_bear (s : State) (f : Lio → Lio) : (s.modLio f).bear = s.bear := rfl
@[simp] theorem State.modLio_store (s : State) (f : Lio → Lio) : (s.modLio f).store = s.store := rfl
@[simp] theorem State.modLio_tag (s : State) (f : Lio → Lio) : (s.modLio f).tag = s.tag := rfl
@[simp] theorem State.modLio_edge (s : State) (f : Lio → Lio) : (s.modLio f).edge = s.edge := rfl
@[simp] theorem State.reg_modLio (s : State) (f : Lio → Lio) (x : Nat) : (s.modLio f).reg x = s.reg x := rfl
@[simp] theorem State.get_modLio (s : State) (f : Lio → Lio) (x : Fld) : (s.modLio f).get x = s.get x := rfl
@[simp] theorem State.flag_modLio (s : State) (f : Lio → Lio) (x : Fld) : (s.modLio f).flag x = s.flag x := rfl

/-! `State.modFb` -/

@[simp] theorem State.modFb_pending (s : State) (f : Fb → Fb) : (s.modFb f).pending = s.pending := rfl
@[simp] theorem State.modFb_member (s : State) (f : Fb → Fb) : (s.modFb f).member = s.member := rfl
@[simp] theorem State.modFb_time (s : State) (f : Fb → Fb) : (s.modFb f).time = s.time := rfl
@[simp] theorem State.modFb_clk (s : State) (f : Fb → Fb) : (s.modFb f).clk = s.clk := rfl
@[simp] theorem State.modFb_freeCtr (s : State) (f : Fb → Fb) : (s.modFb f).freeCtr = s.freeCtr := rfl
@[simp] theorem State.modFb_wire (s : State) (f : Fb → Fb) : (s.modFb f).wire = s.wire := rfl
@[simp] theorem State.modFb_rdata (s : State) (f : Fb → Fb) : (s.modFb f).rdata = s.rdata := rfl
@[simp] theorem State.modFb_regs (s : State) (f : Fb → Fb) : (s.modFb f).regs = s.regs := rfl
@[simp] theorem State.modFb_hold (s : State) (f : Fb → Fb) : (s.modFb f).hold = s.hold := rfl
@[simp] theorem State.modFb_pend64 (s : State) (f : Fb → Fb) : (s.modFb f).pend64 = s.pend64 := rfl
@[simp] theorem State.modFb_mem (s : State) (f : Fb → Fb) : (s.modFb f).mem = s.mem := rfl
@[simp] theorem State.modFb_memErr (s : State) (f : Fb → Fb) : (s.modFb f).memErr = s.memErr := rfl
@[simp] theorem State.modFb_sys (s : State) (f : Fb → Fb) : (s.modFb f).sys = s.sys := rfl
@[simp] theorem State.modFb_bg (s : State) (f : Fb → Fb) : (s.modFb f).bg = s.bg := rfl
@[simp] theorem State.modFb_axes (s : State) (f : Fb → Fb) : (s.modFb f).axes = s.axes := rfl
@[simp] theorem State.modFb_ports (s : State) (f : Fb → Fb) : (s.modFb f).ports = s.ports := rfl
@[simp] theorem State.modFb_sats (s : State) (f : Fb → Fb) : (s.modFb f).sats = s.sats := rfl
@[simp] theorem State.modFb_waiting (s : State) (f : Fb → Fb) : (s.modFb f).waiting = s.waiting := rfl
@[simp] theorem State.modFb_srv (s : State) (f : Fb → Fb) : (s.modFb f).srv = s.srv := rfl
@[simp] theorem State.modFb_cp (s : State) (f : Fb → Fb) : (s.modFb f).cp = s.cp := rfl
@[simp] theorem State.modFb_eng (s : State) (f : Fb → Fb) : (s.modFb f).eng = s.eng := rfl
@[simp] theorem State.modFb_gain (s : State) (f : Fb → Fb) : (s.modFb f).gain = s.gain := rfl
@[simp] theorem State.modFb_route (s : State) (f : Fb → Fb) : (s.modFb f).route = s.route := rfl
@[simp] theorem State.modFb_tension (s : State) (f : Fb → Fb) : (s.modFb f).tension = s.tension := rfl
@[simp] theorem State.modFb_lio (s : State) (f : Fb → Fb) : (s.modFb f).lio = s.lio := rfl
@[simp] theorem State.modFb_fb (s : State) (f : Fb → Fb) : (s.modFb f).fb = f s.fb := rfl
@[simp] theorem State.modFb_modCap (s : State) (f : Fb → Fb) : (s.modFb f).modCap = s.modCap := rfl
@[simp] theorem State.modFb_ring (s : State) (f : Fb → Fb) : (s.modFb f).ring = s.ring := rfl
@[simp] theorem State.modFb_pr (s : State) (f : Fb → Fb) : (s.modFb f).pr = s.pr := rfl
@[simp] theorem State.modFb_bear (s : State) (f : Fb → Fb) : (s.modFb f).bear = s.bear := rfl
@[simp] theorem State.modFb_store (s : State) (f : Fb → Fb) : (s.modFb f).store = s.store := rfl
@[simp] theorem State.modFb_tag (s : State) (f : Fb → Fb) : (s.modFb f).tag = s.tag := rfl
@[simp] theorem State.modFb_edge (s : State) (f : Fb → Fb) : (s.modFb f).edge = s.edge := rfl
@[simp] theorem State.reg_modFb (s : State) (f : Fb → Fb) (x : Nat) : (s.modFb f).reg x = s.reg x := rfl
@[simp] theorem State.get_modFb (s : State) (f : Fb → Fb) (x : Fld) : (s.modFb f).get x = s.get x := rfl
@[simp] theorem State.flag_modFb (s : State) (f : Fb → Fb) (x : Fld) : (s.modFb f).flag x = s.flag x := rfl

/-! `State.modRing` -/

@[simp] theorem State.modRing_pending (s : State) (f : Ring → Ring) : (s.modRing f).pending = s.pending := rfl
@[simp] theorem State.modRing_member (s : State) (f : Ring → Ring) : (s.modRing f).member = s.member := rfl
@[simp] theorem State.modRing_time (s : State) (f : Ring → Ring) : (s.modRing f).time = s.time := rfl
@[simp] theorem State.modRing_clk (s : State) (f : Ring → Ring) : (s.modRing f).clk = s.clk := rfl
@[simp] theorem State.modRing_freeCtr (s : State) (f : Ring → Ring) : (s.modRing f).freeCtr = s.freeCtr := rfl
@[simp] theorem State.modRing_wire (s : State) (f : Ring → Ring) : (s.modRing f).wire = s.wire := rfl
@[simp] theorem State.modRing_rdata (s : State) (f : Ring → Ring) : (s.modRing f).rdata = s.rdata := rfl
@[simp] theorem State.modRing_regs (s : State) (f : Ring → Ring) : (s.modRing f).regs = s.regs := rfl
@[simp] theorem State.modRing_hold (s : State) (f : Ring → Ring) : (s.modRing f).hold = s.hold := rfl
@[simp] theorem State.modRing_pend64 (s : State) (f : Ring → Ring) : (s.modRing f).pend64 = s.pend64 := rfl
@[simp] theorem State.modRing_mem (s : State) (f : Ring → Ring) : (s.modRing f).mem = s.mem := rfl
@[simp] theorem State.modRing_memErr (s : State) (f : Ring → Ring) : (s.modRing f).memErr = s.memErr := rfl
@[simp] theorem State.modRing_sys (s : State) (f : Ring → Ring) : (s.modRing f).sys = s.sys := rfl
@[simp] theorem State.modRing_bg (s : State) (f : Ring → Ring) : (s.modRing f).bg = s.bg := rfl
@[simp] theorem State.modRing_axes (s : State) (f : Ring → Ring) : (s.modRing f).axes = s.axes := rfl
@[simp] theorem State.modRing_ports (s : State) (f : Ring → Ring) : (s.modRing f).ports = s.ports := rfl
@[simp] theorem State.modRing_sats (s : State) (f : Ring → Ring) : (s.modRing f).sats = s.sats := rfl
@[simp] theorem State.modRing_waiting (s : State) (f : Ring → Ring) : (s.modRing f).waiting = s.waiting := rfl
@[simp] theorem State.modRing_srv (s : State) (f : Ring → Ring) : (s.modRing f).srv = s.srv := rfl
@[simp] theorem State.modRing_cp (s : State) (f : Ring → Ring) : (s.modRing f).cp = s.cp := rfl
@[simp] theorem State.modRing_eng (s : State) (f : Ring → Ring) : (s.modRing f).eng = s.eng := rfl
@[simp] theorem State.modRing_gain (s : State) (f : Ring → Ring) : (s.modRing f).gain = s.gain := rfl
@[simp] theorem State.modRing_route (s : State) (f : Ring → Ring) : (s.modRing f).route = s.route := rfl
@[simp] theorem State.modRing_tension (s : State) (f : Ring → Ring) : (s.modRing f).tension = s.tension := rfl
@[simp] theorem State.modRing_lio (s : State) (f : Ring → Ring) : (s.modRing f).lio = s.lio := rfl
@[simp] theorem State.modRing_fb (s : State) (f : Ring → Ring) : (s.modRing f).fb = s.fb := rfl
@[simp] theorem State.modRing_modCap (s : State) (f : Ring → Ring) : (s.modRing f).modCap = s.modCap := rfl
@[simp] theorem State.modRing_ring (s : State) (f : Ring → Ring) : (s.modRing f).ring = f s.ring := rfl
@[simp] theorem State.modRing_pr (s : State) (f : Ring → Ring) : (s.modRing f).pr = s.pr := rfl
@[simp] theorem State.modRing_bear (s : State) (f : Ring → Ring) : (s.modRing f).bear = s.bear := rfl
@[simp] theorem State.modRing_store (s : State) (f : Ring → Ring) : (s.modRing f).store = s.store := rfl
@[simp] theorem State.modRing_tag (s : State) (f : Ring → Ring) : (s.modRing f).tag = s.tag := rfl
@[simp] theorem State.modRing_edge (s : State) (f : Ring → Ring) : (s.modRing f).edge = s.edge := rfl
@[simp] theorem State.reg_modRing (s : State) (f : Ring → Ring) (x : Nat) : (s.modRing f).reg x = s.reg x := rfl
@[simp] theorem State.get_modRing (s : State) (f : Ring → Ring) (x : Fld) : (s.modRing f).get x = s.get x := rfl
@[simp] theorem State.flag_modRing (s : State) (f : Ring → Ring) (x : Fld) : (s.modRing f).flag x = s.flag x := rfl

/-! `State.modPr` -/

@[simp] theorem State.modPr_pending (s : State) (f : Procs → Procs) : (s.modPr f).pending = s.pending := rfl
@[simp] theorem State.modPr_member (s : State) (f : Procs → Procs) : (s.modPr f).member = s.member := rfl
@[simp] theorem State.modPr_time (s : State) (f : Procs → Procs) : (s.modPr f).time = s.time := rfl
@[simp] theorem State.modPr_clk (s : State) (f : Procs → Procs) : (s.modPr f).clk = s.clk := rfl
@[simp] theorem State.modPr_freeCtr (s : State) (f : Procs → Procs) : (s.modPr f).freeCtr = s.freeCtr := rfl
@[simp] theorem State.modPr_wire (s : State) (f : Procs → Procs) : (s.modPr f).wire = s.wire := rfl
@[simp] theorem State.modPr_rdata (s : State) (f : Procs → Procs) : (s.modPr f).rdata = s.rdata := rfl
@[simp] theorem State.modPr_regs (s : State) (f : Procs → Procs) : (s.modPr f).regs = s.regs := rfl
@[simp] theorem State.modPr_hold (s : State) (f : Procs → Procs) : (s.modPr f).hold = s.hold := rfl
@[simp] theorem State.modPr_pend64 (s : State) (f : Procs → Procs) : (s.modPr f).pend64 = s.pend64 := rfl
@[simp] theorem State.modPr_mem (s : State) (f : Procs → Procs) : (s.modPr f).mem = s.mem := rfl
@[simp] theorem State.modPr_memErr (s : State) (f : Procs → Procs) : (s.modPr f).memErr = s.memErr := rfl
@[simp] theorem State.modPr_sys (s : State) (f : Procs → Procs) : (s.modPr f).sys = s.sys := rfl
@[simp] theorem State.modPr_bg (s : State) (f : Procs → Procs) : (s.modPr f).bg = s.bg := rfl
@[simp] theorem State.modPr_axes (s : State) (f : Procs → Procs) : (s.modPr f).axes = s.axes := rfl
@[simp] theorem State.modPr_ports (s : State) (f : Procs → Procs) : (s.modPr f).ports = s.ports := rfl
@[simp] theorem State.modPr_sats (s : State) (f : Procs → Procs) : (s.modPr f).sats = s.sats := rfl
@[simp] theorem State.modPr_waiting (s : State) (f : Procs → Procs) : (s.modPr f).waiting = s.waiting := rfl
@[simp] theorem State.modPr_srv (s : State) (f : Procs → Procs) : (s.modPr f).srv = s.srv := rfl
@[simp] theorem State.modPr_cp (s : State) (f : Procs → Procs) : (s.modPr f).cp = s.cp := rfl
@[simp] theorem State.modPr_eng (s : State) (f : Procs → Procs) : (s.modPr f).eng = s.eng := rfl
@[simp] theorem State.modPr_gain (s : State) (f : Procs → Procs) : (s.modPr f).gain = s.gain := rfl
@[simp] theorem State.modPr_route (s : State) (f : Procs → Procs) : (s.modPr f).route = s.route := rfl
@[simp] theorem State.modPr_tension (s : State) (f : Procs → Procs) : (s.modPr f).tension = s.tension := rfl
@[simp] theorem State.modPr_lio (s : State) (f : Procs → Procs) : (s.modPr f).lio = s.lio := rfl
@[simp] theorem State.modPr_fb (s : State) (f : Procs → Procs) : (s.modPr f).fb = s.fb := rfl
@[simp] theorem State.modPr_modCap (s : State) (f : Procs → Procs) : (s.modPr f).modCap = s.modCap := rfl
@[simp] theorem State.modPr_ring (s : State) (f : Procs → Procs) : (s.modPr f).ring = s.ring := rfl
@[simp] theorem State.modPr_pr (s : State) (f : Procs → Procs) : (s.modPr f).pr = f s.pr := rfl
@[simp] theorem State.modPr_bear (s : State) (f : Procs → Procs) : (s.modPr f).bear = s.bear := rfl
@[simp] theorem State.modPr_store (s : State) (f : Procs → Procs) : (s.modPr f).store = s.store := rfl
@[simp] theorem State.modPr_tag (s : State) (f : Procs → Procs) : (s.modPr f).tag = s.tag := rfl
@[simp] theorem State.modPr_edge (s : State) (f : Procs → Procs) : (s.modPr f).edge = s.edge := rfl
@[simp] theorem State.reg_modPr (s : State) (f : Procs → Procs) (x : Nat) : (s.modPr f).reg x = s.reg x := rfl
@[simp] theorem State.get_modPr (s : State) (f : Procs → Procs) (x : Fld) : (s.modPr f).get x = s.get x := rfl
@[simp] theorem State.flag_modPr (s : State) (f : Procs → Procs) (x : Fld) : (s.modPr f).flag x = s.flag x := rfl

/-! `State.modBear` -/

@[simp] theorem State.modBear_pending (s : State) (f : Bear → Bear) : (s.modBear f).pending = s.pending := rfl
@[simp] theorem State.modBear_member (s : State) (f : Bear → Bear) : (s.modBear f).member = s.member := rfl
@[simp] theorem State.modBear_time (s : State) (f : Bear → Bear) : (s.modBear f).time = s.time := rfl
@[simp] theorem State.modBear_clk (s : State) (f : Bear → Bear) : (s.modBear f).clk = s.clk := rfl
@[simp] theorem State.modBear_freeCtr (s : State) (f : Bear → Bear) : (s.modBear f).freeCtr = s.freeCtr := rfl
@[simp] theorem State.modBear_wire (s : State) (f : Bear → Bear) : (s.modBear f).wire = s.wire := rfl
@[simp] theorem State.modBear_rdata (s : State) (f : Bear → Bear) : (s.modBear f).rdata = s.rdata := rfl
@[simp] theorem State.modBear_regs (s : State) (f : Bear → Bear) : (s.modBear f).regs = s.regs := rfl
@[simp] theorem State.modBear_hold (s : State) (f : Bear → Bear) : (s.modBear f).hold = s.hold := rfl
@[simp] theorem State.modBear_pend64 (s : State) (f : Bear → Bear) : (s.modBear f).pend64 = s.pend64 := rfl
@[simp] theorem State.modBear_mem (s : State) (f : Bear → Bear) : (s.modBear f).mem = s.mem := rfl
@[simp] theorem State.modBear_memErr (s : State) (f : Bear → Bear) : (s.modBear f).memErr = s.memErr := rfl
@[simp] theorem State.modBear_sys (s : State) (f : Bear → Bear) : (s.modBear f).sys = s.sys := rfl
@[simp] theorem State.modBear_bg (s : State) (f : Bear → Bear) : (s.modBear f).bg = s.bg := rfl
@[simp] theorem State.modBear_axes (s : State) (f : Bear → Bear) : (s.modBear f).axes = s.axes := rfl
@[simp] theorem State.modBear_ports (s : State) (f : Bear → Bear) : (s.modBear f).ports = s.ports := rfl
@[simp] theorem State.modBear_sats (s : State) (f : Bear → Bear) : (s.modBear f).sats = s.sats := rfl
@[simp] theorem State.modBear_waiting (s : State) (f : Bear → Bear) : (s.modBear f).waiting = s.waiting := rfl
@[simp] theorem State.modBear_srv (s : State) (f : Bear → Bear) : (s.modBear f).srv = s.srv := rfl
@[simp] theorem State.modBear_cp (s : State) (f : Bear → Bear) : (s.modBear f).cp = s.cp := rfl
@[simp] theorem State.modBear_eng (s : State) (f : Bear → Bear) : (s.modBear f).eng = s.eng := rfl
@[simp] theorem State.modBear_gain (s : State) (f : Bear → Bear) : (s.modBear f).gain = s.gain := rfl
@[simp] theorem State.modBear_route (s : State) (f : Bear → Bear) : (s.modBear f).route = s.route := rfl
@[simp] theorem State.modBear_tension (s : State) (f : Bear → Bear) : (s.modBear f).tension = s.tension := rfl
@[simp] theorem State.modBear_lio (s : State) (f : Bear → Bear) : (s.modBear f).lio = s.lio := rfl
@[simp] theorem State.modBear_fb (s : State) (f : Bear → Bear) : (s.modBear f).fb = s.fb := rfl
@[simp] theorem State.modBear_modCap (s : State) (f : Bear → Bear) : (s.modBear f).modCap = s.modCap := rfl
@[simp] theorem State.modBear_ring (s : State) (f : Bear → Bear) : (s.modBear f).ring = s.ring := rfl
@[simp] theorem State.modBear_pr (s : State) (f : Bear → Bear) : (s.modBear f).pr = s.pr := rfl
@[simp] theorem State.modBear_bear (s : State) (f : Bear → Bear) : (s.modBear f).bear = f s.bear := rfl
@[simp] theorem State.modBear_store (s : State) (f : Bear → Bear) : (s.modBear f).store = s.store := rfl
@[simp] theorem State.modBear_tag (s : State) (f : Bear → Bear) : (s.modBear f).tag = s.tag := rfl
@[simp] theorem State.modBear_edge (s : State) (f : Bear → Bear) : (s.modBear f).edge = s.edge := rfl
@[simp] theorem State.reg_modBear (s : State) (f : Bear → Bear) (x : Nat) : (s.modBear f).reg x = s.reg x := rfl
@[simp] theorem State.get_modBear (s : State) (f : Bear → Bear) (x : Fld) : (s.modBear f).get x = s.get x := rfl
@[simp] theorem State.flag_modBear (s : State) (f : Bear → Bear) (x : Fld) : (s.modBear f).flag x = s.flag x := rfl

/-! `State.modStore` -/

@[simp] theorem State.modStore_pending (s : State) (f : Store → Store) : (s.modStore f).pending = s.pending := rfl
@[simp] theorem State.modStore_member (s : State) (f : Store → Store) : (s.modStore f).member = s.member := rfl
@[simp] theorem State.modStore_time (s : State) (f : Store → Store) : (s.modStore f).time = s.time := rfl
@[simp] theorem State.modStore_clk (s : State) (f : Store → Store) : (s.modStore f).clk = s.clk := rfl
@[simp] theorem State.modStore_freeCtr (s : State) (f : Store → Store) : (s.modStore f).freeCtr = s.freeCtr := rfl
@[simp] theorem State.modStore_wire (s : State) (f : Store → Store) : (s.modStore f).wire = s.wire := rfl
@[simp] theorem State.modStore_rdata (s : State) (f : Store → Store) : (s.modStore f).rdata = s.rdata := rfl
@[simp] theorem State.modStore_regs (s : State) (f : Store → Store) : (s.modStore f).regs = s.regs := rfl
@[simp] theorem State.modStore_hold (s : State) (f : Store → Store) : (s.modStore f).hold = s.hold := rfl
@[simp] theorem State.modStore_pend64 (s : State) (f : Store → Store) : (s.modStore f).pend64 = s.pend64 := rfl
@[simp] theorem State.modStore_mem (s : State) (f : Store → Store) : (s.modStore f).mem = s.mem := rfl
@[simp] theorem State.modStore_memErr (s : State) (f : Store → Store) : (s.modStore f).memErr = s.memErr := rfl
@[simp] theorem State.modStore_sys (s : State) (f : Store → Store) : (s.modStore f).sys = s.sys := rfl
@[simp] theorem State.modStore_bg (s : State) (f : Store → Store) : (s.modStore f).bg = s.bg := rfl
@[simp] theorem State.modStore_axes (s : State) (f : Store → Store) : (s.modStore f).axes = s.axes := rfl
@[simp] theorem State.modStore_ports (s : State) (f : Store → Store) : (s.modStore f).ports = s.ports := rfl
@[simp] theorem State.modStore_sats (s : State) (f : Store → Store) : (s.modStore f).sats = s.sats := rfl
@[simp] theorem State.modStore_waiting (s : State) (f : Store → Store) : (s.modStore f).waiting = s.waiting := rfl
@[simp] theorem State.modStore_srv (s : State) (f : Store → Store) : (s.modStore f).srv = s.srv := rfl
@[simp] theorem State.modStore_cp (s : State) (f : Store → Store) : (s.modStore f).cp = s.cp := rfl
@[simp] theorem State.modStore_eng (s : State) (f : Store → Store) : (s.modStore f).eng = s.eng := rfl
@[simp] theorem State.modStore_gain (s : State) (f : Store → Store) : (s.modStore f).gain = s.gain := rfl
@[simp] theorem State.modStore_route (s : State) (f : Store → Store) : (s.modStore f).route = s.route := rfl
@[simp] theorem State.modStore_tension (s : State) (f : Store → Store) : (s.modStore f).tension = s.tension := rfl
@[simp] theorem State.modStore_lio (s : State) (f : Store → Store) : (s.modStore f).lio = s.lio := rfl
@[simp] theorem State.modStore_fb (s : State) (f : Store → Store) : (s.modStore f).fb = s.fb := rfl
@[simp] theorem State.modStore_modCap (s : State) (f : Store → Store) : (s.modStore f).modCap = s.modCap := rfl
@[simp] theorem State.modStore_ring (s : State) (f : Store → Store) : (s.modStore f).ring = s.ring := rfl
@[simp] theorem State.modStore_pr (s : State) (f : Store → Store) : (s.modStore f).pr = s.pr := rfl
@[simp] theorem State.modStore_bear (s : State) (f : Store → Store) : (s.modStore f).bear = s.bear := rfl
@[simp] theorem State.modStore_store (s : State) (f : Store → Store) : (s.modStore f).store = f s.store := rfl
@[simp] theorem State.modStore_tag (s : State) (f : Store → Store) : (s.modStore f).tag = s.tag := rfl
@[simp] theorem State.modStore_edge (s : State) (f : Store → Store) : (s.modStore f).edge = s.edge := rfl
@[simp] theorem State.reg_modStore (s : State) (f : Store → Store) (x : Nat) : (s.modStore f).reg x = s.reg x := rfl
@[simp] theorem State.get_modStore (s : State) (f : Store → Store) (x : Fld) : (s.modStore f).get x = s.get x := rfl
@[simp] theorem State.flag_modStore (s : State) (f : Store → Store) (x : Fld) : (s.modStore f).flag x = s.flag x := rfl

/-! `State.modTag` -/

@[simp] theorem State.modTag_pending (s : State) (f : Tag → Tag) : (s.modTag f).pending = s.pending := rfl
@[simp] theorem State.modTag_member (s : State) (f : Tag → Tag) : (s.modTag f).member = s.member := rfl
@[simp] theorem State.modTag_time (s : State) (f : Tag → Tag) : (s.modTag f).time = s.time := rfl
@[simp] theorem State.modTag_clk (s : State) (f : Tag → Tag) : (s.modTag f).clk = s.clk := rfl
@[simp] theorem State.modTag_freeCtr (s : State) (f : Tag → Tag) : (s.modTag f).freeCtr = s.freeCtr := rfl
@[simp] theorem State.modTag_wire (s : State) (f : Tag → Tag) : (s.modTag f).wire = s.wire := rfl
@[simp] theorem State.modTag_rdata (s : State) (f : Tag → Tag) : (s.modTag f).rdata = s.rdata := rfl
@[simp] theorem State.modTag_regs (s : State) (f : Tag → Tag) : (s.modTag f).regs = s.regs := rfl
@[simp] theorem State.modTag_hold (s : State) (f : Tag → Tag) : (s.modTag f).hold = s.hold := rfl
@[simp] theorem State.modTag_pend64 (s : State) (f : Tag → Tag) : (s.modTag f).pend64 = s.pend64 := rfl
@[simp] theorem State.modTag_mem (s : State) (f : Tag → Tag) : (s.modTag f).mem = s.mem := rfl
@[simp] theorem State.modTag_memErr (s : State) (f : Tag → Tag) : (s.modTag f).memErr = s.memErr := rfl
@[simp] theorem State.modTag_sys (s : State) (f : Tag → Tag) : (s.modTag f).sys = s.sys := rfl
@[simp] theorem State.modTag_bg (s : State) (f : Tag → Tag) : (s.modTag f).bg = s.bg := rfl
@[simp] theorem State.modTag_axes (s : State) (f : Tag → Tag) : (s.modTag f).axes = s.axes := rfl
@[simp] theorem State.modTag_ports (s : State) (f : Tag → Tag) : (s.modTag f).ports = s.ports := rfl
@[simp] theorem State.modTag_sats (s : State) (f : Tag → Tag) : (s.modTag f).sats = s.sats := rfl
@[simp] theorem State.modTag_waiting (s : State) (f : Tag → Tag) : (s.modTag f).waiting = s.waiting := rfl
@[simp] theorem State.modTag_srv (s : State) (f : Tag → Tag) : (s.modTag f).srv = s.srv := rfl
@[simp] theorem State.modTag_cp (s : State) (f : Tag → Tag) : (s.modTag f).cp = s.cp := rfl
@[simp] theorem State.modTag_eng (s : State) (f : Tag → Tag) : (s.modTag f).eng = s.eng := rfl
@[simp] theorem State.modTag_gain (s : State) (f : Tag → Tag) : (s.modTag f).gain = s.gain := rfl
@[simp] theorem State.modTag_route (s : State) (f : Tag → Tag) : (s.modTag f).route = s.route := rfl
@[simp] theorem State.modTag_tension (s : State) (f : Tag → Tag) : (s.modTag f).tension = s.tension := rfl
@[simp] theorem State.modTag_lio (s : State) (f : Tag → Tag) : (s.modTag f).lio = s.lio := rfl
@[simp] theorem State.modTag_fb (s : State) (f : Tag → Tag) : (s.modTag f).fb = s.fb := rfl
@[simp] theorem State.modTag_modCap (s : State) (f : Tag → Tag) : (s.modTag f).modCap = s.modCap := rfl
@[simp] theorem State.modTag_ring (s : State) (f : Tag → Tag) : (s.modTag f).ring = s.ring := rfl
@[simp] theorem State.modTag_pr (s : State) (f : Tag → Tag) : (s.modTag f).pr = s.pr := rfl
@[simp] theorem State.modTag_bear (s : State) (f : Tag → Tag) : (s.modTag f).bear = s.bear := rfl
@[simp] theorem State.modTag_store (s : State) (f : Tag → Tag) : (s.modTag f).store = s.store := rfl
@[simp] theorem State.modTag_tag (s : State) (f : Tag → Tag) : (s.modTag f).tag = f s.tag := rfl
@[simp] theorem State.modTag_edge (s : State) (f : Tag → Tag) : (s.modTag f).edge = s.edge := rfl
@[simp] theorem State.reg_modTag (s : State) (f : Tag → Tag) (x : Nat) : (s.modTag f).reg x = s.reg x := rfl
@[simp] theorem State.get_modTag (s : State) (f : Tag → Tag) (x : Fld) : (s.modTag f).get x = s.get x := rfl
@[simp] theorem State.flag_modTag (s : State) (f : Tag → Tag) (x : Fld) : (s.modTag f).flag x = s.flag x := rfl

/-! `State.modEng` -/

@[simp] theorem State.modEng_pending (s : State) (a : Fin 8) (f : Eng → Eng) : (s.modEng a f).pending = s.pending := rfl
@[simp] theorem State.modEng_member (s : State) (a : Fin 8) (f : Eng → Eng) : (s.modEng a f).member = s.member := rfl
@[simp] theorem State.modEng_time (s : State) (a : Fin 8) (f : Eng → Eng) : (s.modEng a f).time = s.time := rfl
@[simp] theorem State.modEng_clk (s : State) (a : Fin 8) (f : Eng → Eng) : (s.modEng a f).clk = s.clk := rfl
@[simp] theorem State.modEng_freeCtr (s : State) (a : Fin 8) (f : Eng → Eng) : (s.modEng a f).freeCtr = s.freeCtr := rfl
@[simp] theorem State.modEng_wire (s : State) (a : Fin 8) (f : Eng → Eng) : (s.modEng a f).wire = s.wire := rfl
@[simp] theorem State.modEng_rdata (s : State) (a : Fin 8) (f : Eng → Eng) : (s.modEng a f).rdata = s.rdata := rfl
@[simp] theorem State.modEng_regs (s : State) (a : Fin 8) (f : Eng → Eng) : (s.modEng a f).regs = s.regs := rfl
@[simp] theorem State.modEng_hold (s : State) (a : Fin 8) (f : Eng → Eng) : (s.modEng a f).hold = s.hold := rfl
@[simp] theorem State.modEng_pend64 (s : State) (a : Fin 8) (f : Eng → Eng) : (s.modEng a f).pend64 = s.pend64 := rfl
@[simp] theorem State.modEng_mem (s : State) (a : Fin 8) (f : Eng → Eng) : (s.modEng a f).mem = s.mem := rfl
@[simp] theorem State.modEng_memErr (s : State) (a : Fin 8) (f : Eng → Eng) : (s.modEng a f).memErr = s.memErr := rfl
@[simp] theorem State.modEng_sys (s : State) (a : Fin 8) (f : Eng → Eng) : (s.modEng a f).sys = s.sys := rfl
@[simp] theorem State.modEng_bg (s : State) (a : Fin 8) (f : Eng → Eng) : (s.modEng a f).bg = s.bg := rfl
@[simp] theorem State.modEng_axes (s : State) (a : Fin 8) (f : Eng → Eng) : (s.modEng a f).axes = s.axes := rfl
@[simp] theorem State.modEng_ports (s : State) (a : Fin 8) (f : Eng → Eng) : (s.modEng a f).ports = s.ports := rfl
@[simp] theorem State.modEng_sats (s : State) (a : Fin 8) (f : Eng → Eng) : (s.modEng a f).sats = s.sats := rfl
@[simp] theorem State.modEng_waiting (s : State) (a : Fin 8) (f : Eng → Eng) : (s.modEng a f).waiting = s.waiting := rfl
@[simp] theorem State.modEng_srv (s : State) (a : Fin 8) (f : Eng → Eng) : (s.modEng a f).srv = s.srv := rfl
@[simp] theorem State.modEng_cp (s : State) (a : Fin 8) (f : Eng → Eng) : (s.modEng a f).cp = s.cp := rfl
@[simp] theorem State.modEng_eng (s : State) (a : Fin 8) (f : Eng → Eng) : (s.modEng a f).eng = upd s.eng a f := rfl
@[simp] theorem State.modEng_gain (s : State) (a : Fin 8) (f : Eng → Eng) : (s.modEng a f).gain = s.gain := rfl
@[simp] theorem State.modEng_route (s : State) (a : Fin 8) (f : Eng → Eng) : (s.modEng a f).route = s.route := rfl
@[simp] theorem State.modEng_tension (s : State) (a : Fin 8) (f : Eng → Eng) : (s.modEng a f).tension = s.tension := rfl
@[simp] theorem State.modEng_lio (s : State) (a : Fin 8) (f : Eng → Eng) : (s.modEng a f).lio = s.lio := rfl
@[simp] theorem State.modEng_fb (s : State) (a : Fin 8) (f : Eng → Eng) : (s.modEng a f).fb = s.fb := rfl
@[simp] theorem State.modEng_modCap (s : State) (a : Fin 8) (f : Eng → Eng) : (s.modEng a f).modCap = s.modCap := rfl
@[simp] theorem State.modEng_ring (s : State) (a : Fin 8) (f : Eng → Eng) : (s.modEng a f).ring = s.ring := rfl
@[simp] theorem State.modEng_pr (s : State) (a : Fin 8) (f : Eng → Eng) : (s.modEng a f).pr = s.pr := rfl
@[simp] theorem State.modEng_bear (s : State) (a : Fin 8) (f : Eng → Eng) : (s.modEng a f).bear = s.bear := rfl
@[simp] theorem State.modEng_store (s : State) (a : Fin 8) (f : Eng → Eng) : (s.modEng a f).store = s.store := rfl
@[simp] theorem State.modEng_tag (s : State) (a : Fin 8) (f : Eng → Eng) : (s.modEng a f).tag = s.tag := rfl
@[simp] theorem State.modEng_edge (s : State) (a : Fin 8) (f : Eng → Eng) : (s.modEng a f).edge = s.edge := rfl
@[simp] theorem State.reg_modEng (s : State) (a : Fin 8) (f : Eng → Eng) (x : Nat) : (s.modEng a f).reg x = s.reg x := rfl
@[simp] theorem State.get_modEng (s : State) (a : Fin 8) (f : Eng → Eng) (x : Fld) : (s.modEng a f).get x = s.get x := rfl
@[simp] theorem State.flag_modEng (s : State) (a : Fin 8) (f : Eng → Eng) (x : Fld) : (s.modEng a f).flag x = s.flag x := rfl

/-! `State.modAxis` -/

@[simp] theorem State.modAxis_pending (s : State) (a : Fin 8) (f : Axis → Axis) : (s.modAxis a f).pending = s.pending := rfl
@[simp] theorem State.modAxis_member (s : State) (a : Fin 8) (f : Axis → Axis) : (s.modAxis a f).member = s.member := rfl
@[simp] theorem State.modAxis_time (s : State) (a : Fin 8) (f : Axis → Axis) : (s.modAxis a f).time = s.time := rfl
@[simp] theorem State.modAxis_clk (s : State) (a : Fin 8) (f : Axis → Axis) : (s.modAxis a f).clk = s.clk := rfl
@[simp] theorem State.modAxis_freeCtr (s : State) (a : Fin 8) (f : Axis → Axis) : (s.modAxis a f).freeCtr = s.freeCtr := rfl
@[simp] theorem State.modAxis_wire (s : State) (a : Fin 8) (f : Axis → Axis) : (s.modAxis a f).wire = s.wire := rfl
@[simp] theorem State.modAxis_rdata (s : State) (a : Fin 8) (f : Axis → Axis) : (s.modAxis a f).rdata = s.rdata := rfl
@[simp] theorem State.modAxis_regs (s : State) (a : Fin 8) (f : Axis → Axis) : (s.modAxis a f).regs = s.regs := rfl
@[simp] theorem State.modAxis_hold (s : State) (a : Fin 8) (f : Axis → Axis) : (s.modAxis a f).hold = s.hold := rfl
@[simp] theorem State.modAxis_pend64 (s : State) (a : Fin 8) (f : Axis → Axis) : (s.modAxis a f).pend64 = s.pend64 := rfl
@[simp] theorem State.modAxis_mem (s : State) (a : Fin 8) (f : Axis → Axis) : (s.modAxis a f).mem = s.mem := rfl
@[simp] theorem State.modAxis_memErr (s : State) (a : Fin 8) (f : Axis → Axis) : (s.modAxis a f).memErr = s.memErr := rfl
@[simp] theorem State.modAxis_sys (s : State) (a : Fin 8) (f : Axis → Axis) : (s.modAxis a f).sys = s.sys := rfl
@[simp] theorem State.modAxis_bg (s : State) (a : Fin 8) (f : Axis → Axis) : (s.modAxis a f).bg = s.bg := rfl
@[simp] theorem State.modAxis_axes (s : State) (a : Fin 8) (f : Axis → Axis) : (s.modAxis a f).axes = upd s.axes a f := rfl
@[simp] theorem State.modAxis_ports (s : State) (a : Fin 8) (f : Axis → Axis) : (s.modAxis a f).ports = s.ports := rfl
@[simp] theorem State.modAxis_sats (s : State) (a : Fin 8) (f : Axis → Axis) : (s.modAxis a f).sats = s.sats := rfl
@[simp] theorem State.modAxis_waiting (s : State) (a : Fin 8) (f : Axis → Axis) : (s.modAxis a f).waiting = s.waiting := rfl
@[simp] theorem State.modAxis_srv (s : State) (a : Fin 8) (f : Axis → Axis) : (s.modAxis a f).srv = s.srv := rfl
@[simp] theorem State.modAxis_cp (s : State) (a : Fin 8) (f : Axis → Axis) : (s.modAxis a f).cp = s.cp := rfl
@[simp] theorem State.modAxis_eng (s : State) (a : Fin 8) (f : Axis → Axis) : (s.modAxis a f).eng = s.eng := rfl
@[simp] theorem State.modAxis_gain (s : State) (a : Fin 8) (f : Axis → Axis) : (s.modAxis a f).gain = s.gain := rfl
@[simp] theorem State.modAxis_route (s : State) (a : Fin 8) (f : Axis → Axis) : (s.modAxis a f).route = s.route := rfl
@[simp] theorem State.modAxis_tension (s : State) (a : Fin 8) (f : Axis → Axis) : (s.modAxis a f).tension = s.tension := rfl
@[simp] theorem State.modAxis_lio (s : State) (a : Fin 8) (f : Axis → Axis) : (s.modAxis a f).lio = s.lio := rfl
@[simp] theorem State.modAxis_fb (s : State) (a : Fin 8) (f : Axis → Axis) : (s.modAxis a f).fb = s.fb := rfl
@[simp] theorem State.modAxis_modCap (s : State) (a : Fin 8) (f : Axis → Axis) : (s.modAxis a f).modCap = s.modCap := rfl
@[simp] theorem State.modAxis_ring (s : State) (a : Fin 8) (f : Axis → Axis) : (s.modAxis a f).ring = s.ring := rfl
@[simp] theorem State.modAxis_pr (s : State) (a : Fin 8) (f : Axis → Axis) : (s.modAxis a f).pr = s.pr := rfl
@[simp] theorem State.modAxis_bear (s : State) (a : Fin 8) (f : Axis → Axis) : (s.modAxis a f).bear = s.bear := rfl
@[simp] theorem State.modAxis_store (s : State) (a : Fin 8) (f : Axis → Axis) : (s.modAxis a f).store = s.store := rfl
@[simp] theorem State.modAxis_tag (s : State) (a : Fin 8) (f : Axis → Axis) : (s.modAxis a f).tag = s.tag := rfl
@[simp] theorem State.modAxis_edge (s : State) (a : Fin 8) (f : Axis → Axis) : (s.modAxis a f).edge = s.edge := rfl
@[simp] theorem State.reg_modAxis (s : State) (a : Fin 8) (f : Axis → Axis) (x : Nat) : (s.modAxis a f).reg x = s.reg x := rfl
@[simp] theorem State.get_modAxis (s : State) (a : Fin 8) (f : Axis → Axis) (x : Fld) : (s.modAxis a f).get x = s.get x := rfl
@[simp] theorem State.flag_modAxis (s : State) (a : Fin 8) (f : Axis → Axis) (x : Fld) : (s.modAxis a f).flag x = s.flag x := rfl

/-! `State.modPort` -/

@[simp] theorem State.modPort_pending (s : State) (p : Fin 6) (f : Port → Port) : (s.modPort p f).pending = s.pending := rfl
@[simp] theorem State.modPort_member (s : State) (p : Fin 6) (f : Port → Port) : (s.modPort p f).member = s.member := rfl
@[simp] theorem State.modPort_time (s : State) (p : Fin 6) (f : Port → Port) : (s.modPort p f).time = s.time := rfl
@[simp] theorem State.modPort_clk (s : State) (p : Fin 6) (f : Port → Port) : (s.modPort p f).clk = s.clk := rfl
@[simp] theorem State.modPort_freeCtr (s : State) (p : Fin 6) (f : Port → Port) : (s.modPort p f).freeCtr = s.freeCtr := rfl
@[simp] theorem State.modPort_wire (s : State) (p : Fin 6) (f : Port → Port) : (s.modPort p f).wire = s.wire := rfl
@[simp] theorem State.modPort_rdata (s : State) (p : Fin 6) (f : Port → Port) : (s.modPort p f).rdata = s.rdata := rfl
@[simp] theorem State.modPort_regs (s : State) (p : Fin 6) (f : Port → Port) : (s.modPort p f).regs = s.regs := rfl
@[simp] theorem State.modPort_hold (s : State) (p : Fin 6) (f : Port → Port) : (s.modPort p f).hold = s.hold := rfl
@[simp] theorem State.modPort_pend64 (s : State) (p : Fin 6) (f : Port → Port) : (s.modPort p f).pend64 = s.pend64 := rfl
@[simp] theorem State.modPort_mem (s : State) (p : Fin 6) (f : Port → Port) : (s.modPort p f).mem = s.mem := rfl
@[simp] theorem State.modPort_memErr (s : State) (p : Fin 6) (f : Port → Port) : (s.modPort p f).memErr = s.memErr := rfl
@[simp] theorem State.modPort_sys (s : State) (p : Fin 6) (f : Port → Port) : (s.modPort p f).sys = s.sys := rfl
@[simp] theorem State.modPort_bg (s : State) (p : Fin 6) (f : Port → Port) : (s.modPort p f).bg = s.bg := rfl
@[simp] theorem State.modPort_axes (s : State) (p : Fin 6) (f : Port → Port) : (s.modPort p f).axes = s.axes := rfl
@[simp] theorem State.modPort_ports (s : State) (p : Fin 6) (f : Port → Port) : (s.modPort p f).ports = upd s.ports p f := rfl
@[simp] theorem State.modPort_sats (s : State) (p : Fin 6) (f : Port → Port) : (s.modPort p f).sats = s.sats := rfl
@[simp] theorem State.modPort_waiting (s : State) (p : Fin 6) (f : Port → Port) : (s.modPort p f).waiting = s.waiting := rfl
@[simp] theorem State.modPort_srv (s : State) (p : Fin 6) (f : Port → Port) : (s.modPort p f).srv = s.srv := rfl
@[simp] theorem State.modPort_cp (s : State) (p : Fin 6) (f : Port → Port) : (s.modPort p f).cp = s.cp := rfl
@[simp] theorem State.modPort_eng (s : State) (p : Fin 6) (f : Port → Port) : (s.modPort p f).eng = s.eng := rfl
@[simp] theorem State.modPort_gain (s : State) (p : Fin 6) (f : Port → Port) : (s.modPort p f).gain = s.gain := rfl
@[simp] theorem State.modPort_route (s : State) (p : Fin 6) (f : Port → Port) : (s.modPort p f).route = s.route := rfl
@[simp] theorem State.modPort_tension (s : State) (p : Fin 6) (f : Port → Port) : (s.modPort p f).tension = s.tension := rfl
@[simp] theorem State.modPort_lio (s : State) (p : Fin 6) (f : Port → Port) : (s.modPort p f).lio = s.lio := rfl
@[simp] theorem State.modPort_fb (s : State) (p : Fin 6) (f : Port → Port) : (s.modPort p f).fb = s.fb := rfl
@[simp] theorem State.modPort_modCap (s : State) (p : Fin 6) (f : Port → Port) : (s.modPort p f).modCap = s.modCap := rfl
@[simp] theorem State.modPort_ring (s : State) (p : Fin 6) (f : Port → Port) : (s.modPort p f).ring = s.ring := rfl
@[simp] theorem State.modPort_pr (s : State) (p : Fin 6) (f : Port → Port) : (s.modPort p f).pr = s.pr := rfl
@[simp] theorem State.modPort_bear (s : State) (p : Fin 6) (f : Port → Port) : (s.modPort p f).bear = s.bear := rfl
@[simp] theorem State.modPort_store (s : State) (p : Fin 6) (f : Port → Port) : (s.modPort p f).store = s.store := rfl
@[simp] theorem State.modPort_tag (s : State) (p : Fin 6) (f : Port → Port) : (s.modPort p f).tag = s.tag := rfl
@[simp] theorem State.modPort_edge (s : State) (p : Fin 6) (f : Port → Port) : (s.modPort p f).edge = s.edge := rfl
@[simp] theorem State.reg_modPort (s : State) (p : Fin 6) (f : Port → Port) (x : Nat) : (s.modPort p f).reg x = s.reg x := rfl
@[simp] theorem State.get_modPort (s : State) (p : Fin 6) (f : Port → Port) (x : Fld) : (s.modPort p f).get x = s.get x := rfl
@[simp] theorem State.flag_modPort (s : State) (p : Fin 6) (f : Port → Port) (x : Fld) : (s.modPort p f).flag x = s.flag x := rfl

/-! `State.modSat` -/

@[simp] theorem State.modSat_pending (s : State) (p : Fin 6) (k : Fin 8) (f : Sat → Sat) : (s.modSat p k f).pending = s.pending := rfl
@[simp] theorem State.modSat_member (s : State) (p : Fin 6) (k : Fin 8) (f : Sat → Sat) : (s.modSat p k f).member = s.member := rfl
@[simp] theorem State.modSat_time (s : State) (p : Fin 6) (k : Fin 8) (f : Sat → Sat) : (s.modSat p k f).time = s.time := rfl
@[simp] theorem State.modSat_clk (s : State) (p : Fin 6) (k : Fin 8) (f : Sat → Sat) : (s.modSat p k f).clk = s.clk := rfl
@[simp] theorem State.modSat_freeCtr (s : State) (p : Fin 6) (k : Fin 8) (f : Sat → Sat) : (s.modSat p k f).freeCtr = s.freeCtr := rfl
@[simp] theorem State.modSat_wire (s : State) (p : Fin 6) (k : Fin 8) (f : Sat → Sat) : (s.modSat p k f).wire = s.wire := rfl
@[simp] theorem State.modSat_rdata (s : State) (p : Fin 6) (k : Fin 8) (f : Sat → Sat) : (s.modSat p k f).rdata = s.rdata := rfl
@[simp] theorem State.modSat_regs (s : State) (p : Fin 6) (k : Fin 8) (f : Sat → Sat) : (s.modSat p k f).regs = s.regs := rfl
@[simp] theorem State.modSat_hold (s : State) (p : Fin 6) (k : Fin 8) (f : Sat → Sat) : (s.modSat p k f).hold = s.hold := rfl
@[simp] theorem State.modSat_pend64 (s : State) (p : Fin 6) (k : Fin 8) (f : Sat → Sat) : (s.modSat p k f).pend64 = s.pend64 := rfl
@[simp] theorem State.modSat_mem (s : State) (p : Fin 6) (k : Fin 8) (f : Sat → Sat) : (s.modSat p k f).mem = s.mem := rfl
@[simp] theorem State.modSat_memErr (s : State) (p : Fin 6) (k : Fin 8) (f : Sat → Sat) : (s.modSat p k f).memErr = s.memErr := rfl
@[simp] theorem State.modSat_sys (s : State) (p : Fin 6) (k : Fin 8) (f : Sat → Sat) : (s.modSat p k f).sys = s.sys := rfl
@[simp] theorem State.modSat_bg (s : State) (p : Fin 6) (k : Fin 8) (f : Sat → Sat) : (s.modSat p k f).bg = s.bg := rfl
@[simp] theorem State.modSat_axes (s : State) (p : Fin 6) (k : Fin 8) (f : Sat → Sat) : (s.modSat p k f).axes = s.axes := rfl
@[simp] theorem State.modSat_ports (s : State) (p : Fin 6) (k : Fin 8) (f : Sat → Sat) : (s.modSat p k f).ports = s.ports := rfl
@[simp] theorem State.modSat_sats (s : State) (p : Fin 6) (k : Fin 8) (f : Sat → Sat) : (s.modSat p k f).sats = upd s.sats (satIdx p k) f := rfl
@[simp] theorem State.modSat_waiting (s : State) (p : Fin 6) (k : Fin 8) (f : Sat → Sat) : (s.modSat p k f).waiting = s.waiting := rfl
@[simp] theorem State.modSat_srv (s : State) (p : Fin 6) (k : Fin 8) (f : Sat → Sat) : (s.modSat p k f).srv = s.srv := rfl
@[simp] theorem State.modSat_cp (s : State) (p : Fin 6) (k : Fin 8) (f : Sat → Sat) : (s.modSat p k f).cp = s.cp := rfl
@[simp] theorem State.modSat_eng (s : State) (p : Fin 6) (k : Fin 8) (f : Sat → Sat) : (s.modSat p k f).eng = s.eng := rfl
@[simp] theorem State.modSat_gain (s : State) (p : Fin 6) (k : Fin 8) (f : Sat → Sat) : (s.modSat p k f).gain = s.gain := rfl
@[simp] theorem State.modSat_route (s : State) (p : Fin 6) (k : Fin 8) (f : Sat → Sat) : (s.modSat p k f).route = s.route := rfl
@[simp] theorem State.modSat_tension (s : State) (p : Fin 6) (k : Fin 8) (f : Sat → Sat) : (s.modSat p k f).tension = s.tension := rfl
@[simp] theorem State.modSat_lio (s : State) (p : Fin 6) (k : Fin 8) (f : Sat → Sat) : (s.modSat p k f).lio = s.lio := rfl
@[simp] theorem State.modSat_fb (s : State) (p : Fin 6) (k : Fin 8) (f : Sat → Sat) : (s.modSat p k f).fb = s.fb := rfl
@[simp] theorem State.modSat_modCap (s : State) (p : Fin 6) (k : Fin 8) (f : Sat → Sat) : (s.modSat p k f).modCap = s.modCap := rfl
@[simp] theorem State.modSat_ring (s : State) (p : Fin 6) (k : Fin 8) (f : Sat → Sat) : (s.modSat p k f).ring = s.ring := rfl
@[simp] theorem State.modSat_pr (s : State) (p : Fin 6) (k : Fin 8) (f : Sat → Sat) : (s.modSat p k f).pr = s.pr := rfl
@[simp] theorem State.modSat_bear (s : State) (p : Fin 6) (k : Fin 8) (f : Sat → Sat) : (s.modSat p k f).bear = s.bear := rfl
@[simp] theorem State.modSat_store (s : State) (p : Fin 6) (k : Fin 8) (f : Sat → Sat) : (s.modSat p k f).store = s.store := rfl
@[simp] theorem State.modSat_tag (s : State) (p : Fin 6) (k : Fin 8) (f : Sat → Sat) : (s.modSat p k f).tag = s.tag := rfl
@[simp] theorem State.modSat_edge (s : State) (p : Fin 6) (k : Fin 8) (f : Sat → Sat) : (s.modSat p k f).edge = s.edge := rfl
@[simp] theorem State.reg_modSat (s : State) (p : Fin 6) (k : Fin 8) (f : Sat → Sat) (x : Nat) : (s.modSat p k f).reg x = s.reg x := rfl
@[simp] theorem State.get_modSat (s : State) (p : Fin 6) (k : Fin 8) (f : Sat → Sat) (x : Fld) : (s.modSat p k f).get x = s.get x := rfl
@[simp] theorem State.flag_modSat (s : State) (p : Fin 6) (k : Fin 8) (f : Sat → Sat) (x : Fld) : (s.modSat p k f).flag x = s.flag x := rfl

/-! `State.setWaiting` -/

@[simp] theorem State.setWaiting_pending (s : State) (v : BitVec 8) : (s.setWaiting v).pending = s.pending := rfl
@[simp] theorem State.setWaiting_member (s : State) (v : BitVec 8) : (s.setWaiting v).member = s.member := rfl
@[simp] theorem State.setWaiting_time (s : State) (v : BitVec 8) : (s.setWaiting v).time = s.time := rfl
@[simp] theorem State.setWaiting_clk (s : State) (v : BitVec 8) : (s.setWaiting v).clk = s.clk := rfl
@[simp] theorem State.setWaiting_freeCtr (s : State) (v : BitVec 8) : (s.setWaiting v).freeCtr = s.freeCtr := rfl
@[simp] theorem State.setWaiting_wire (s : State) (v : BitVec 8) : (s.setWaiting v).wire = s.wire := rfl
@[simp] theorem State.setWaiting_rdata (s : State) (v : BitVec 8) : (s.setWaiting v).rdata = s.rdata := rfl
@[simp] theorem State.setWaiting_regs (s : State) (v : BitVec 8) : (s.setWaiting v).regs = s.regs := rfl
@[simp] theorem State.setWaiting_hold (s : State) (v : BitVec 8) : (s.setWaiting v).hold = s.hold := rfl
@[simp] theorem State.setWaiting_pend64 (s : State) (v : BitVec 8) : (s.setWaiting v).pend64 = s.pend64 := rfl
@[simp] theorem State.setWaiting_mem (s : State) (v : BitVec 8) : (s.setWaiting v).mem = s.mem := rfl
@[simp] theorem State.setWaiting_memErr (s : State) (v : BitVec 8) : (s.setWaiting v).memErr = s.memErr := rfl
@[simp] theorem State.setWaiting_sys (s : State) (v : BitVec 8) : (s.setWaiting v).sys = s.sys := rfl
@[simp] theorem State.setWaiting_bg (s : State) (v : BitVec 8) : (s.setWaiting v).bg = s.bg := rfl
@[simp] theorem State.setWaiting_axes (s : State) (v : BitVec 8) : (s.setWaiting v).axes = s.axes := rfl
@[simp] theorem State.setWaiting_ports (s : State) (v : BitVec 8) : (s.setWaiting v).ports = s.ports := rfl
@[simp] theorem State.setWaiting_sats (s : State) (v : BitVec 8) : (s.setWaiting v).sats = s.sats := rfl
@[simp] theorem State.setWaiting_waiting (s : State) (v : BitVec 8) : (s.setWaiting v).waiting = v := rfl
@[simp] theorem State.setWaiting_srv (s : State) (v : BitVec 8) : (s.setWaiting v).srv = s.srv := rfl
@[simp] theorem State.setWaiting_cp (s : State) (v : BitVec 8) : (s.setWaiting v).cp = s.cp := rfl
@[simp] theorem State.setWaiting_eng (s : State) (v : BitVec 8) : (s.setWaiting v).eng = s.eng := rfl
@[simp] theorem State.setWaiting_gain (s : State) (v : BitVec 8) : (s.setWaiting v).gain = s.gain := rfl
@[simp] theorem State.setWaiting_route (s : State) (v : BitVec 8) : (s.setWaiting v).route = s.route := rfl
@[simp] theorem State.setWaiting_tension (s : State) (v : BitVec 8) : (s.setWaiting v).tension = s.tension := rfl
@[simp] theorem State.setWaiting_lio (s : State) (v : BitVec 8) : (s.setWaiting v).lio = s.lio := rfl
@[simp] theorem State.setWaiting_fb (s : State) (v : BitVec 8) : (s.setWaiting v).fb = s.fb := rfl
@[simp] theorem State.setWaiting_modCap (s : State) (v : BitVec 8) : (s.setWaiting v).modCap = s.modCap := rfl
@[simp] theorem State.setWaiting_ring (s : State) (v : BitVec 8) : (s.setWaiting v).ring = s.ring := rfl
@[simp] theorem State.setWaiting_pr (s : State) (v : BitVec 8) : (s.setWaiting v).pr = s.pr := rfl
@[simp] theorem State.setWaiting_bear (s : State) (v : BitVec 8) : (s.setWaiting v).bear = s.bear := rfl
@[simp] theorem State.setWaiting_store (s : State) (v : BitVec 8) : (s.setWaiting v).store = s.store := rfl
@[simp] theorem State.setWaiting_tag (s : State) (v : BitVec 8) : (s.setWaiting v).tag = s.tag := rfl
@[simp] theorem State.setWaiting_edge (s : State) (v : BitVec 8) : (s.setWaiting v).edge = s.edge := rfl
@[simp] theorem State.reg_setWaiting (s : State) (v : BitVec 8) (x : Nat) : (s.setWaiting v).reg x = s.reg x := rfl
@[simp] theorem State.get_setWaiting (s : State) (v : BitVec 8) (x : Fld) : (s.setWaiting v).get x = s.get x := rfl
@[simp] theorem State.flag_setWaiting (s : State) (v : BitVec 8) (x : Fld) : (s.setWaiting v).flag x = s.flag x := rfl

/-! `State.setRdata` -/

@[simp] theorem State.setRdata_pending (s : State) (v : Nat) : (s.setRdata v).pending = s.pending := rfl
@[simp] theorem State.setRdata_member (s : State) (v : Nat) : (s.setRdata v).member = s.member := rfl
@[simp] theorem State.setRdata_time (s : State) (v : Nat) : (s.setRdata v).time = s.time := rfl
@[simp] theorem State.setRdata_clk (s : State) (v : Nat) : (s.setRdata v).clk = s.clk := rfl
@[simp] theorem State.setRdata_freeCtr (s : State) (v : Nat) : (s.setRdata v).freeCtr = s.freeCtr := rfl
@[simp] theorem State.setRdata_wire (s : State) (v : Nat) : (s.setRdata v).wire = s.wire := rfl
@[simp] theorem State.setRdata_rdata (s : State) (v : Nat) : (s.setRdata v).rdata = v := rfl
@[simp] theorem State.setRdata_regs (s : State) (v : Nat) : (s.setRdata v).regs = s.regs := rfl
@[simp] theorem State.setRdata_hold (s : State) (v : Nat) : (s.setRdata v).hold = s.hold := rfl
@[simp] theorem State.setRdata_pend64 (s : State) (v : Nat) : (s.setRdata v).pend64 = s.pend64 := rfl
@[simp] theorem State.setRdata_mem (s : State) (v : Nat) : (s.setRdata v).mem = s.mem := rfl
@[simp] theorem State.setRdata_memErr (s : State) (v : Nat) : (s.setRdata v).memErr = s.memErr := rfl
@[simp] theorem State.setRdata_sys (s : State) (v : Nat) : (s.setRdata v).sys = s.sys := rfl
@[simp] theorem State.setRdata_bg (s : State) (v : Nat) : (s.setRdata v).bg = s.bg := rfl
@[simp] theorem State.setRdata_axes (s : State) (v : Nat) : (s.setRdata v).axes = s.axes := rfl
@[simp] theorem State.setRdata_ports (s : State) (v : Nat) : (s.setRdata v).ports = s.ports := rfl
@[simp] theorem State.setRdata_sats (s : State) (v : Nat) : (s.setRdata v).sats = s.sats := rfl
@[simp] theorem State.setRdata_waiting (s : State) (v : Nat) : (s.setRdata v).waiting = s.waiting := rfl
@[simp] theorem State.setRdata_srv (s : State) (v : Nat) : (s.setRdata v).srv = s.srv := rfl
@[simp] theorem State.setRdata_cp (s : State) (v : Nat) : (s.setRdata v).cp = s.cp := rfl
@[simp] theorem State.setRdata_eng (s : State) (v : Nat) : (s.setRdata v).eng = s.eng := rfl
@[simp] theorem State.setRdata_gain (s : State) (v : Nat) : (s.setRdata v).gain = s.gain := rfl
@[simp] theorem State.setRdata_route (s : State) (v : Nat) : (s.setRdata v).route = s.route := rfl
@[simp] theorem State.setRdata_tension (s : State) (v : Nat) : (s.setRdata v).tension = s.tension := rfl
@[simp] theorem State.setRdata_lio (s : State) (v : Nat) : (s.setRdata v).lio = s.lio := rfl
@[simp] theorem State.setRdata_fb (s : State) (v : Nat) : (s.setRdata v).fb = s.fb := rfl
@[simp] theorem State.setRdata_modCap (s : State) (v : Nat) : (s.setRdata v).modCap = s.modCap := rfl
@[simp] theorem State.setRdata_ring (s : State) (v : Nat) : (s.setRdata v).ring = s.ring := rfl
@[simp] theorem State.setRdata_pr (s : State) (v : Nat) : (s.setRdata v).pr = s.pr := rfl
@[simp] theorem State.setRdata_bear (s : State) (v : Nat) : (s.setRdata v).bear = s.bear := rfl
@[simp] theorem State.setRdata_store (s : State) (v : Nat) : (s.setRdata v).store = s.store := rfl
@[simp] theorem State.setRdata_tag (s : State) (v : Nat) : (s.setRdata v).tag = s.tag := rfl
@[simp] theorem State.setRdata_edge (s : State) (v : Nat) : (s.setRdata v).edge = s.edge := rfl
@[simp] theorem State.reg_setRdata (s : State) (v : Nat) (x : Nat) : (s.setRdata v).reg x = s.reg x := rfl
@[simp] theorem State.get_setRdata (s : State) (v : Nat) (x : Fld) : (s.setRdata v).get x = s.get x := rfl
@[simp] theorem State.flag_setRdata (s : State) (v : Nat) (x : Fld) : (s.setRdata v).flag x = s.flag x := rfl

/-! `State.setFreeCtr` -/

@[simp] theorem State.setFreeCtr_pending (s : State) (v : Nat) : (s.setFreeCtr v).pending = s.pending := rfl
@[simp] theorem State.setFreeCtr_member (s : State) (v : Nat) : (s.setFreeCtr v).member = s.member := rfl
@[simp] theorem State.setFreeCtr_time (s : State) (v : Nat) : (s.setFreeCtr v).time = s.time := rfl
@[simp] theorem State.setFreeCtr_clk (s : State) (v : Nat) : (s.setFreeCtr v).clk = s.clk := rfl
@[simp] theorem State.setFreeCtr_freeCtr (s : State) (v : Nat) : (s.setFreeCtr v).freeCtr = v := rfl
@[simp] theorem State.setFreeCtr_wire (s : State) (v : Nat) : (s.setFreeCtr v).wire = s.wire := rfl
@[simp] theorem State.setFreeCtr_rdata (s : State) (v : Nat) : (s.setFreeCtr v).rdata = s.rdata := rfl
@[simp] theorem State.setFreeCtr_regs (s : State) (v : Nat) : (s.setFreeCtr v).regs = s.regs := rfl
@[simp] theorem State.setFreeCtr_hold (s : State) (v : Nat) : (s.setFreeCtr v).hold = s.hold := rfl
@[simp] theorem State.setFreeCtr_pend64 (s : State) (v : Nat) : (s.setFreeCtr v).pend64 = s.pend64 := rfl
@[simp] theorem State.setFreeCtr_mem (s : State) (v : Nat) : (s.setFreeCtr v).mem = s.mem := rfl
@[simp] theorem State.setFreeCtr_memErr (s : State) (v : Nat) : (s.setFreeCtr v).memErr = s.memErr := rfl
@[simp] theorem State.setFreeCtr_sys (s : State) (v : Nat) : (s.setFreeCtr v).sys = s.sys := rfl
@[simp] theorem State.setFreeCtr_bg (s : State) (v : Nat) : (s.setFreeCtr v).bg = s.bg := rfl
@[simp] theorem State.setFreeCtr_axes (s : State) (v : Nat) : (s.setFreeCtr v).axes = s.axes := rfl
@[simp] theorem State.setFreeCtr_ports (s : State) (v : Nat) : (s.setFreeCtr v).ports = s.ports := rfl
@[simp] theorem State.setFreeCtr_sats (s : State) (v : Nat) : (s.setFreeCtr v).sats = s.sats := rfl
@[simp] theorem State.setFreeCtr_waiting (s : State) (v : Nat) : (s.setFreeCtr v).waiting = s.waiting := rfl
@[simp] theorem State.setFreeCtr_srv (s : State) (v : Nat) : (s.setFreeCtr v).srv = s.srv := rfl
@[simp] theorem State.setFreeCtr_cp (s : State) (v : Nat) : (s.setFreeCtr v).cp = s.cp := rfl
@[simp] theorem State.setFreeCtr_eng (s : State) (v : Nat) : (s.setFreeCtr v).eng = s.eng := rfl
@[simp] theorem State.setFreeCtr_gain (s : State) (v : Nat) : (s.setFreeCtr v).gain = s.gain := rfl
@[simp] theorem State.setFreeCtr_route (s : State) (v : Nat) : (s.setFreeCtr v).route = s.route := rfl
@[simp] theorem State.setFreeCtr_tension (s : State) (v : Nat) : (s.setFreeCtr v).tension = s.tension := rfl
@[simp] theorem State.setFreeCtr_lio (s : State) (v : Nat) : (s.setFreeCtr v).lio = s.lio := rfl
@[simp] theorem State.setFreeCtr_fb (s : State) (v : Nat) : (s.setFreeCtr v).fb = s.fb := rfl
@[simp] theorem State.setFreeCtr_modCap (s : State) (v : Nat) : (s.setFreeCtr v).modCap = s.modCap := rfl
@[simp] theorem State.setFreeCtr_ring (s : State) (v : Nat) : (s.setFreeCtr v).ring = s.ring := rfl
@[simp] theorem State.setFreeCtr_pr (s : State) (v : Nat) : (s.setFreeCtr v).pr = s.pr := rfl
@[simp] theorem State.setFreeCtr_bear (s : State) (v : Nat) : (s.setFreeCtr v).bear = s.bear := rfl
@[simp] theorem State.setFreeCtr_store (s : State) (v : Nat) : (s.setFreeCtr v).store = s.store := rfl
@[simp] theorem State.setFreeCtr_tag (s : State) (v : Nat) : (s.setFreeCtr v).tag = s.tag := rfl
@[simp] theorem State.setFreeCtr_edge (s : State) (v : Nat) : (s.setFreeCtr v).edge = s.edge := rfl
@[simp] theorem State.reg_setFreeCtr (s : State) (v : Nat) (x : Nat) : (s.setFreeCtr v).reg x = s.reg x := rfl
@[simp] theorem State.get_setFreeCtr (s : State) (v : Nat) (x : Fld) : (s.setFreeCtr v).get x = s.get x := rfl
@[simp] theorem State.flag_setFreeCtr (s : State) (v : Nat) (x : Fld) : (s.setFreeCtr v).flag x = s.flag x := rfl

/-! `State.setWire` -/

@[simp] theorem State.setWire_pending (s : State) (v : List Msg) : (s.setWire v).pending = s.pending := rfl
@[simp] theorem State.setWire_member (s : State) (v : List Msg) : (s.setWire v).member = s.member := rfl
@[simp] theorem State.setWire_time (s : State) (v : List Msg) : (s.setWire v).time = s.time := rfl
@[simp] theorem State.setWire_clk (s : State) (v : List Msg) : (s.setWire v).clk = s.clk := rfl
@[simp] theorem State.setWire_freeCtr (s : State) (v : List Msg) : (s.setWire v).freeCtr = s.freeCtr := rfl
@[simp] theorem State.setWire_wire (s : State) (v : List Msg) : (s.setWire v).wire = v := rfl
@[simp] theorem State.setWire_rdata (s : State) (v : List Msg) : (s.setWire v).rdata = s.rdata := rfl
@[simp] theorem State.setWire_regs (s : State) (v : List Msg) : (s.setWire v).regs = s.regs := rfl
@[simp] theorem State.setWire_hold (s : State) (v : List Msg) : (s.setWire v).hold = s.hold := rfl
@[simp] theorem State.setWire_pend64 (s : State) (v : List Msg) : (s.setWire v).pend64 = s.pend64 := rfl
@[simp] theorem State.setWire_mem (s : State) (v : List Msg) : (s.setWire v).mem = s.mem := rfl
@[simp] theorem State.setWire_memErr (s : State) (v : List Msg) : (s.setWire v).memErr = s.memErr := rfl
@[simp] theorem State.setWire_sys (s : State) (v : List Msg) : (s.setWire v).sys = s.sys := rfl
@[simp] theorem State.setWire_bg (s : State) (v : List Msg) : (s.setWire v).bg = s.bg := rfl
@[simp] theorem State.setWire_axes (s : State) (v : List Msg) : (s.setWire v).axes = s.axes := rfl
@[simp] theorem State.setWire_ports (s : State) (v : List Msg) : (s.setWire v).ports = s.ports := rfl
@[simp] theorem State.setWire_sats (s : State) (v : List Msg) : (s.setWire v).sats = s.sats := rfl
@[simp] theorem State.setWire_waiting (s : State) (v : List Msg) : (s.setWire v).waiting = s.waiting := rfl
@[simp] theorem State.setWire_srv (s : State) (v : List Msg) : (s.setWire v).srv = s.srv := rfl
@[simp] theorem State.setWire_cp (s : State) (v : List Msg) : (s.setWire v).cp = s.cp := rfl
@[simp] theorem State.setWire_eng (s : State) (v : List Msg) : (s.setWire v).eng = s.eng := rfl
@[simp] theorem State.setWire_gain (s : State) (v : List Msg) : (s.setWire v).gain = s.gain := rfl
@[simp] theorem State.setWire_route (s : State) (v : List Msg) : (s.setWire v).route = s.route := rfl
@[simp] theorem State.setWire_tension (s : State) (v : List Msg) : (s.setWire v).tension = s.tension := rfl
@[simp] theorem State.setWire_lio (s : State) (v : List Msg) : (s.setWire v).lio = s.lio := rfl
@[simp] theorem State.setWire_fb (s : State) (v : List Msg) : (s.setWire v).fb = s.fb := rfl
@[simp] theorem State.setWire_modCap (s : State) (v : List Msg) : (s.setWire v).modCap = s.modCap := rfl
@[simp] theorem State.setWire_ring (s : State) (v : List Msg) : (s.setWire v).ring = s.ring := rfl
@[simp] theorem State.setWire_pr (s : State) (v : List Msg) : (s.setWire v).pr = s.pr := rfl
@[simp] theorem State.setWire_bear (s : State) (v : List Msg) : (s.setWire v).bear = s.bear := rfl
@[simp] theorem State.setWire_store (s : State) (v : List Msg) : (s.setWire v).store = s.store := rfl
@[simp] theorem State.setWire_tag (s : State) (v : List Msg) : (s.setWire v).tag = s.tag := rfl
@[simp] theorem State.setWire_edge (s : State) (v : List Msg) : (s.setWire v).edge = s.edge := rfl
@[simp] theorem State.reg_setWire (s : State) (v : List Msg) (x : Nat) : (s.setWire v).reg x = s.reg x := rfl
@[simp] theorem State.get_setWire (s : State) (v : List Msg) (x : Fld) : (s.setWire v).get x = s.get x := rfl
@[simp] theorem State.flag_setWire (s : State) (v : List Msg) (x : Fld) : (s.setWire v).flag x = s.flag x := rfl

/-! `State.setPend64` -/

@[simp] theorem State.setPend64_pending (s : State) (v : List (Nat × Word)) : (s.setPend64 v).pending = s.pending := rfl
@[simp] theorem State.setPend64_member (s : State) (v : List (Nat × Word)) : (s.setPend64 v).member = s.member := rfl
@[simp] theorem State.setPend64_time (s : State) (v : List (Nat × Word)) : (s.setPend64 v).time = s.time := rfl
@[simp] theorem State.setPend64_clk (s : State) (v : List (Nat × Word)) : (s.setPend64 v).clk = s.clk := rfl
@[simp] theorem State.setPend64_freeCtr (s : State) (v : List (Nat × Word)) : (s.setPend64 v).freeCtr = s.freeCtr := rfl
@[simp] theorem State.setPend64_wire (s : State) (v : List (Nat × Word)) : (s.setPend64 v).wire = s.wire := rfl
@[simp] theorem State.setPend64_rdata (s : State) (v : List (Nat × Word)) : (s.setPend64 v).rdata = s.rdata := rfl
@[simp] theorem State.setPend64_regs (s : State) (v : List (Nat × Word)) : (s.setPend64 v).regs = s.regs := rfl
@[simp] theorem State.setPend64_hold (s : State) (v : List (Nat × Word)) : (s.setPend64 v).hold = s.hold := rfl
@[simp] theorem State.setPend64_pend64 (s : State) (v : List (Nat × Word)) : (s.setPend64 v).pend64 = v := rfl
@[simp] theorem State.setPend64_mem (s : State) (v : List (Nat × Word)) : (s.setPend64 v).mem = s.mem := rfl
@[simp] theorem State.setPend64_memErr (s : State) (v : List (Nat × Word)) : (s.setPend64 v).memErr = s.memErr := rfl
@[simp] theorem State.setPend64_sys (s : State) (v : List (Nat × Word)) : (s.setPend64 v).sys = s.sys := rfl
@[simp] theorem State.setPend64_bg (s : State) (v : List (Nat × Word)) : (s.setPend64 v).bg = s.bg := rfl
@[simp] theorem State.setPend64_axes (s : State) (v : List (Nat × Word)) : (s.setPend64 v).axes = s.axes := rfl
@[simp] theorem State.setPend64_ports (s : State) (v : List (Nat × Word)) : (s.setPend64 v).ports = s.ports := rfl
@[simp] theorem State.setPend64_sats (s : State) (v : List (Nat × Word)) : (s.setPend64 v).sats = s.sats := rfl
@[simp] theorem State.setPend64_waiting (s : State) (v : List (Nat × Word)) : (s.setPend64 v).waiting = s.waiting := rfl
@[simp] theorem State.setPend64_srv (s : State) (v : List (Nat × Word)) : (s.setPend64 v).srv = s.srv := rfl
@[simp] theorem State.setPend64_cp (s : State) (v : List (Nat × Word)) : (s.setPend64 v).cp = s.cp := rfl
@[simp] theorem State.setPend64_eng (s : State) (v : List (Nat × Word)) : (s.setPend64 v).eng = s.eng := rfl
@[simp] theorem State.setPend64_gain (s : State) (v : List (Nat × Word)) : (s.setPend64 v).gain = s.gain := rfl
@[simp] theorem State.setPend64_route (s : State) (v : List (Nat × Word)) : (s.setPend64 v).route = s.route := rfl
@[simp] theorem State.setPend64_tension (s : State) (v : List (Nat × Word)) : (s.setPend64 v).tension = s.tension := rfl
@[simp] theorem State.setPend64_lio (s : State) (v : List (Nat × Word)) : (s.setPend64 v).lio = s.lio := rfl
@[simp] theorem State.setPend64_fb (s : State) (v : List (Nat × Word)) : (s.setPend64 v).fb = s.fb := rfl
@[simp] theorem State.setPend64_modCap (s : State) (v : List (Nat × Word)) : (s.setPend64 v).modCap = s.modCap := rfl
@[simp] theorem State.setPend64_ring (s : State) (v : List (Nat × Word)) : (s.setPend64 v).ring = s.ring := rfl
@[simp] theorem State.setPend64_pr (s : State) (v : List (Nat × Word)) : (s.setPend64 v).pr = s.pr := rfl
@[simp] theorem State.setPend64_bear (s : State) (v : List (Nat × Word)) : (s.setPend64 v).bear = s.bear := rfl
@[simp] theorem State.setPend64_store (s : State) (v : List (Nat × Word)) : (s.setPend64 v).store = s.store := rfl
@[simp] theorem State.setPend64_tag (s : State) (v : List (Nat × Word)) : (s.setPend64 v).tag = s.tag := rfl
@[simp] theorem State.setPend64_edge (s : State) (v : List (Nat × Word)) : (s.setPend64 v).edge = s.edge := rfl
@[simp] theorem State.reg_setPend64 (s : State) (v : List (Nat × Word)) (x : Nat) : (s.setPend64 v).reg x = s.reg x := rfl
@[simp] theorem State.get_setPend64 (s : State) (v : List (Nat × Word)) (x : Fld) : (s.setPend64 v).get x = s.get x := rfl
@[simp] theorem State.flag_setPend64 (s : State) (v : List (Nat × Word)) (x : Fld) : (s.setPend64 v).flag x = s.flag x := rfl

/-! `State.setModCap` -/

@[simp] theorem State.setModCap_pending (s : State) (v : List Word) : (s.setModCap v).pending = s.pending := rfl
@[simp] theorem State.setModCap_member (s : State) (v : List Word) : (s.setModCap v).member = s.member := rfl
@[simp] theorem State.setModCap_time (s : State) (v : List Word) : (s.setModCap v).time = s.time := rfl
@[simp] theorem State.setModCap_clk (s : State) (v : List Word) : (s.setModCap v).clk = s.clk := rfl
@[simp] theorem State.setModCap_freeCtr (s : State) (v : List Word) : (s.setModCap v).freeCtr = s.freeCtr := rfl
@[simp] theorem State.setModCap_wire (s : State) (v : List Word) : (s.setModCap v).wire = s.wire := rfl
@[simp] theorem State.setModCap_rdata (s : State) (v : List Word) : (s.setModCap v).rdata = s.rdata := rfl
@[simp] theorem State.setModCap_regs (s : State) (v : List Word) : (s.setModCap v).regs = s.regs := rfl
@[simp] theorem State.setModCap_hold (s : State) (v : List Word) : (s.setModCap v).hold = s.hold := rfl
@[simp] theorem State.setModCap_pend64 (s : State) (v : List Word) : (s.setModCap v).pend64 = s.pend64 := rfl
@[simp] theorem State.setModCap_mem (s : State) (v : List Word) : (s.setModCap v).mem = s.mem := rfl
@[simp] theorem State.setModCap_memErr (s : State) (v : List Word) : (s.setModCap v).memErr = s.memErr := rfl
@[simp] theorem State.setModCap_sys (s : State) (v : List Word) : (s.setModCap v).sys = s.sys := rfl
@[simp] theorem State.setModCap_bg (s : State) (v : List Word) : (s.setModCap v).bg = s.bg := rfl
@[simp] theorem State.setModCap_axes (s : State) (v : List Word) : (s.setModCap v).axes = s.axes := rfl
@[simp] theorem State.setModCap_ports (s : State) (v : List Word) : (s.setModCap v).ports = s.ports := rfl
@[simp] theorem State.setModCap_sats (s : State) (v : List Word) : (s.setModCap v).sats = s.sats := rfl
@[simp] theorem State.setModCap_waiting (s : State) (v : List Word) : (s.setModCap v).waiting = s.waiting := rfl
@[simp] theorem State.setModCap_srv (s : State) (v : List Word) : (s.setModCap v).srv = s.srv := rfl
@[simp] theorem State.setModCap_cp (s : State) (v : List Word) : (s.setModCap v).cp = s.cp := rfl
@[simp] theorem State.setModCap_eng (s : State) (v : List Word) : (s.setModCap v).eng = s.eng := rfl
@[simp] theorem State.setModCap_gain (s : State) (v : List Word) : (s.setModCap v).gain = s.gain := rfl
@[simp] theorem State.setModCap_route (s : State) (v : List Word) : (s.setModCap v).route = s.route := rfl
@[simp] theorem State.setModCap_tension (s : State) (v : List Word) : (s.setModCap v).tension = s.tension := rfl
@[simp] theorem State.setModCap_lio (s : State) (v : List Word) : (s.setModCap v).lio = s.lio := rfl
@[simp] theorem State.setModCap_fb (s : State) (v : List Word) : (s.setModCap v).fb = s.fb := rfl
@[simp] theorem State.setModCap_modCap (s : State) (v : List Word) : (s.setModCap v).modCap = v := rfl
@[simp] theorem State.setModCap_ring (s : State) (v : List Word) : (s.setModCap v).ring = s.ring := rfl
@[simp] theorem State.setModCap_pr (s : State) (v : List Word) : (s.setModCap v).pr = s.pr := rfl
@[simp] theorem State.setModCap_bear (s : State) (v : List Word) : (s.setModCap v).bear = s.bear := rfl
@[simp] theorem State.setModCap_store (s : State) (v : List Word) : (s.setModCap v).store = s.store := rfl
@[simp] theorem State.setModCap_tag (s : State) (v : List Word) : (s.setModCap v).tag = s.tag := rfl
@[simp] theorem State.setModCap_edge (s : State) (v : List Word) : (s.setModCap v).edge = s.edge := rfl
@[simp] theorem State.reg_setModCap (s : State) (v : List Word) (x : Nat) : (s.setModCap v).reg x = s.reg x := rfl
@[simp] theorem State.get_setModCap (s : State) (v : List Word) (x : Fld) : (s.setModCap v).get x = s.get x := rfl
@[simp] theorem State.flag_setModCap (s : State) (v : List Word) (x : Fld) : (s.setModCap v).flag x = s.flag x := rfl

/-! `State.setGain` -/

@[simp] theorem State.setGain_pending (s : State) (v : Vector Pset 8) : (s.setGain v).pending = s.pending := rfl
@[simp] theorem State.setGain_member (s : State) (v : Vector Pset 8) : (s.setGain v).member = s.member := rfl
@[simp] theorem State.setGain_time (s : State) (v : Vector Pset 8) : (s.setGain v).time = s.time := rfl
@[simp] theorem State.setGain_clk (s : State) (v : Vector Pset 8) : (s.setGain v).clk = s.clk := rfl
@[simp] theorem State.setGain_freeCtr (s : State) (v : Vector Pset 8) : (s.setGain v).freeCtr = s.freeCtr := rfl
@[simp] theorem State.setGain_wire (s : State) (v : Vector Pset 8) : (s.setGain v).wire = s.wire := rfl
@[simp] theorem State.setGain_rdata (s : State) (v : Vector Pset 8) : (s.setGain v).rdata = s.rdata := rfl
@[simp] theorem State.setGain_regs (s : State) (v : Vector Pset 8) : (s.setGain v).regs = s.regs := rfl
@[simp] theorem State.setGain_hold (s : State) (v : Vector Pset 8) : (s.setGain v).hold = s.hold := rfl
@[simp] theorem State.setGain_pend64 (s : State) (v : Vector Pset 8) : (s.setGain v).pend64 = s.pend64 := rfl
@[simp] theorem State.setGain_mem (s : State) (v : Vector Pset 8) : (s.setGain v).mem = s.mem := rfl
@[simp] theorem State.setGain_memErr (s : State) (v : Vector Pset 8) : (s.setGain v).memErr = s.memErr := rfl
@[simp] theorem State.setGain_sys (s : State) (v : Vector Pset 8) : (s.setGain v).sys = s.sys := rfl
@[simp] theorem State.setGain_bg (s : State) (v : Vector Pset 8) : (s.setGain v).bg = s.bg := rfl
@[simp] theorem State.setGain_axes (s : State) (v : Vector Pset 8) : (s.setGain v).axes = s.axes := rfl
@[simp] theorem State.setGain_ports (s : State) (v : Vector Pset 8) : (s.setGain v).ports = s.ports := rfl
@[simp] theorem State.setGain_sats (s : State) (v : Vector Pset 8) : (s.setGain v).sats = s.sats := rfl
@[simp] theorem State.setGain_waiting (s : State) (v : Vector Pset 8) : (s.setGain v).waiting = s.waiting := rfl
@[simp] theorem State.setGain_srv (s : State) (v : Vector Pset 8) : (s.setGain v).srv = s.srv := rfl
@[simp] theorem State.setGain_cp (s : State) (v : Vector Pset 8) : (s.setGain v).cp = s.cp := rfl
@[simp] theorem State.setGain_eng (s : State) (v : Vector Pset 8) : (s.setGain v).eng = s.eng := rfl
@[simp] theorem State.setGain_gain (s : State) (v : Vector Pset 8) : (s.setGain v).gain = v := rfl
@[simp] theorem State.setGain_route (s : State) (v : Vector Pset 8) : (s.setGain v).route = s.route := rfl
@[simp] theorem State.setGain_tension (s : State) (v : Vector Pset 8) : (s.setGain v).tension = s.tension := rfl
@[simp] theorem State.setGain_lio (s : State) (v : Vector Pset 8) : (s.setGain v).lio = s.lio := rfl
@[simp] theorem State.setGain_fb (s : State) (v : Vector Pset 8) : (s.setGain v).fb = s.fb := rfl
@[simp] theorem State.setGain_modCap (s : State) (v : Vector Pset 8) : (s.setGain v).modCap = s.modCap := rfl
@[simp] theorem State.setGain_ring (s : State) (v : Vector Pset 8) : (s.setGain v).ring = s.ring := rfl
@[simp] theorem State.setGain_pr (s : State) (v : Vector Pset 8) : (s.setGain v).pr = s.pr := rfl
@[simp] theorem State.setGain_bear (s : State) (v : Vector Pset 8) : (s.setGain v).bear = s.bear := rfl
@[simp] theorem State.setGain_store (s : State) (v : Vector Pset 8) : (s.setGain v).store = s.store := rfl
@[simp] theorem State.setGain_tag (s : State) (v : Vector Pset 8) : (s.setGain v).tag = s.tag := rfl
@[simp] theorem State.setGain_edge (s : State) (v : Vector Pset 8) : (s.setGain v).edge = s.edge := rfl
@[simp] theorem State.reg_setGain (s : State) (v : Vector Pset 8) (x : Nat) : (s.setGain v).reg x = s.reg x := rfl
@[simp] theorem State.get_setGain (s : State) (v : Vector Pset 8) (x : Fld) : (s.setGain v).get x = s.get x := rfl
@[simp] theorem State.flag_setGain (s : State) (v : Vector Pset 8) (x : Fld) : (s.setGain v).flag x = s.flag x := rfl

/-! `State.setRoute` -/

@[simp] theorem State.setRoute_pending (s : State) (v : Vector Pset 8) : (s.setRoute v).pending = s.pending := rfl
@[simp] theorem State.setRoute_member (s : State) (v : Vector Pset 8) : (s.setRoute v).member = s.member := rfl
@[simp] theorem State.setRoute_time (s : State) (v : Vector Pset 8) : (s.setRoute v).time = s.time := rfl
@[simp] theorem State.setRoute_clk (s : State) (v : Vector Pset 8) : (s.setRoute v).clk = s.clk := rfl
@[simp] theorem State.setRoute_freeCtr (s : State) (v : Vector Pset 8) : (s.setRoute v).freeCtr = s.freeCtr := rfl
@[simp] theorem State.setRoute_wire (s : State) (v : Vector Pset 8) : (s.setRoute v).wire = s.wire := rfl
@[simp] theorem State.setRoute_rdata (s : State) (v : Vector Pset 8) : (s.setRoute v).rdata = s.rdata := rfl
@[simp] theorem State.setRoute_regs (s : State) (v : Vector Pset 8) : (s.setRoute v).regs = s.regs := rfl
@[simp] theorem State.setRoute_hold (s : State) (v : Vector Pset 8) : (s.setRoute v).hold = s.hold := rfl
@[simp] theorem State.setRoute_pend64 (s : State) (v : Vector Pset 8) : (s.setRoute v).pend64 = s.pend64 := rfl
@[simp] theorem State.setRoute_mem (s : State) (v : Vector Pset 8) : (s.setRoute v).mem = s.mem := rfl
@[simp] theorem State.setRoute_memErr (s : State) (v : Vector Pset 8) : (s.setRoute v).memErr = s.memErr := rfl
@[simp] theorem State.setRoute_sys (s : State) (v : Vector Pset 8) : (s.setRoute v).sys = s.sys := rfl
@[simp] theorem State.setRoute_bg (s : State) (v : Vector Pset 8) : (s.setRoute v).bg = s.bg := rfl
@[simp] theorem State.setRoute_axes (s : State) (v : Vector Pset 8) : (s.setRoute v).axes = s.axes := rfl
@[simp] theorem State.setRoute_ports (s : State) (v : Vector Pset 8) : (s.setRoute v).ports = s.ports := rfl
@[simp] theorem State.setRoute_sats (s : State) (v : Vector Pset 8) : (s.setRoute v).sats = s.sats := rfl
@[simp] theorem State.setRoute_waiting (s : State) (v : Vector Pset 8) : (s.setRoute v).waiting = s.waiting := rfl
@[simp] theorem State.setRoute_srv (s : State) (v : Vector Pset 8) : (s.setRoute v).srv = s.srv := rfl
@[simp] theorem State.setRoute_cp (s : State) (v : Vector Pset 8) : (s.setRoute v).cp = s.cp := rfl
@[simp] theorem State.setRoute_eng (s : State) (v : Vector Pset 8) : (s.setRoute v).eng = s.eng := rfl
@[simp] theorem State.setRoute_gain (s : State) (v : Vector Pset 8) : (s.setRoute v).gain = s.gain := rfl
@[simp] theorem State.setRoute_route (s : State) (v : Vector Pset 8) : (s.setRoute v).route = v := rfl
@[simp] theorem State.setRoute_tension (s : State) (v : Vector Pset 8) : (s.setRoute v).tension = s.tension := rfl
@[simp] theorem State.setRoute_lio (s : State) (v : Vector Pset 8) : (s.setRoute v).lio = s.lio := rfl
@[simp] theorem State.setRoute_fb (s : State) (v : Vector Pset 8) : (s.setRoute v).fb = s.fb := rfl
@[simp] theorem State.setRoute_modCap (s : State) (v : Vector Pset 8) : (s.setRoute v).modCap = s.modCap := rfl
@[simp] theorem State.setRoute_ring (s : State) (v : Vector Pset 8) : (s.setRoute v).ring = s.ring := rfl
@[simp] theorem State.setRoute_pr (s : State) (v : Vector Pset 8) : (s.setRoute v).pr = s.pr := rfl
@[simp] theorem State.setRoute_bear (s : State) (v : Vector Pset 8) : (s.setRoute v).bear = s.bear := rfl
@[simp] theorem State.setRoute_store (s : State) (v : Vector Pset 8) : (s.setRoute v).store = s.store := rfl
@[simp] theorem State.setRoute_tag (s : State) (v : Vector Pset 8) : (s.setRoute v).tag = s.tag := rfl
@[simp] theorem State.setRoute_edge (s : State) (v : Vector Pset 8) : (s.setRoute v).edge = s.edge := rfl
@[simp] theorem State.reg_setRoute (s : State) (v : Vector Pset 8) (x : Nat) : (s.setRoute v).reg x = s.reg x := rfl
@[simp] theorem State.get_setRoute (s : State) (v : Vector Pset 8) (x : Fld) : (s.setRoute v).get x = s.get x := rfl
@[simp] theorem State.flag_setRoute (s : State) (v : Vector Pset 8) (x : Fld) : (s.setRoute v).flag x = s.flag x := rfl

/-! `State.setTension` -/

@[simp] theorem State.setTension_pending (s : State) (v : Vector Pset 8) : (s.setTension v).pending = s.pending := rfl
@[simp] theorem State.setTension_member (s : State) (v : Vector Pset 8) : (s.setTension v).member = s.member := rfl
@[simp] theorem State.setTension_time (s : State) (v : Vector Pset 8) : (s.setTension v).time = s.time := rfl
@[simp] theorem State.setTension_clk (s : State) (v : Vector Pset 8) : (s.setTension v).clk = s.clk := rfl
@[simp] theorem State.setTension_freeCtr (s : State) (v : Vector Pset 8) : (s.setTension v).freeCtr = s.freeCtr := rfl
@[simp] theorem State.setTension_wire (s : State) (v : Vector Pset 8) : (s.setTension v).wire = s.wire := rfl
@[simp] theorem State.setTension_rdata (s : State) (v : Vector Pset 8) : (s.setTension v).rdata = s.rdata := rfl
@[simp] theorem State.setTension_regs (s : State) (v : Vector Pset 8) : (s.setTension v).regs = s.regs := rfl
@[simp] theorem State.setTension_hold (s : State) (v : Vector Pset 8) : (s.setTension v).hold = s.hold := rfl
@[simp] theorem State.setTension_pend64 (s : State) (v : Vector Pset 8) : (s.setTension v).pend64 = s.pend64 := rfl
@[simp] theorem State.setTension_mem (s : State) (v : Vector Pset 8) : (s.setTension v).mem = s.mem := rfl
@[simp] theorem State.setTension_memErr (s : State) (v : Vector Pset 8) : (s.setTension v).memErr = s.memErr := rfl
@[simp] theorem State.setTension_sys (s : State) (v : Vector Pset 8) : (s.setTension v).sys = s.sys := rfl
@[simp] theorem State.setTension_bg (s : State) (v : Vector Pset 8) : (s.setTension v).bg = s.bg := rfl
@[simp] theorem State.setTension_axes (s : State) (v : Vector Pset 8) : (s.setTension v).axes = s.axes := rfl
@[simp] theorem State.setTension_ports (s : State) (v : Vector Pset 8) : (s.setTension v).ports = s.ports := rfl
@[simp] theorem State.setTension_sats (s : State) (v : Vector Pset 8) : (s.setTension v).sats = s.sats := rfl
@[simp] theorem State.setTension_waiting (s : State) (v : Vector Pset 8) : (s.setTension v).waiting = s.waiting := rfl
@[simp] theorem State.setTension_srv (s : State) (v : Vector Pset 8) : (s.setTension v).srv = s.srv := rfl
@[simp] theorem State.setTension_cp (s : State) (v : Vector Pset 8) : (s.setTension v).cp = s.cp := rfl
@[simp] theorem State.setTension_eng (s : State) (v : Vector Pset 8) : (s.setTension v).eng = s.eng := rfl
@[simp] theorem State.setTension_gain (s : State) (v : Vector Pset 8) : (s.setTension v).gain = s.gain := rfl
@[simp] theorem State.setTension_route (s : State) (v : Vector Pset 8) : (s.setTension v).route = s.route := rfl
@[simp] theorem State.setTension_tension (s : State) (v : Vector Pset 8) : (s.setTension v).tension = v := rfl
@[simp] theorem State.setTension_lio (s : State) (v : Vector Pset 8) : (s.setTension v).lio = s.lio := rfl
@[simp] theorem State.setTension_fb (s : State) (v : Vector Pset 8) : (s.setTension v).fb = s.fb := rfl
@[simp] theorem State.setTension_modCap (s : State) (v : Vector Pset 8) : (s.setTension v).modCap = s.modCap := rfl
@[simp] theorem State.setTension_ring (s : State) (v : Vector Pset 8) : (s.setTension v).ring = s.ring := rfl
@[simp] theorem State.setTension_pr (s : State) (v : Vector Pset 8) : (s.setTension v).pr = s.pr := rfl
@[simp] theorem State.setTension_bear (s : State) (v : Vector Pset 8) : (s.setTension v).bear = s.bear := rfl
@[simp] theorem State.setTension_store (s : State) (v : Vector Pset 8) : (s.setTension v).store = s.store := rfl
@[simp] theorem State.setTension_tag (s : State) (v : Vector Pset 8) : (s.setTension v).tag = s.tag := rfl
@[simp] theorem State.setTension_edge (s : State) (v : Vector Pset 8) : (s.setTension v).edge = s.edge := rfl
@[simp] theorem State.reg_setTension (s : State) (v : Vector Pset 8) (x : Nat) : (s.setTension v).reg x = s.reg x := rfl
@[simp] theorem State.get_setTension (s : State) (v : Vector Pset 8) (x : Fld) : (s.setTension v).get x = s.get x := rfl
@[simp] theorem State.flag_setTension (s : State) (v : Vector Pset 8) (x : Fld) : (s.setTension v).flag x = s.flag x := rfl

/-! `State.send` -/

@[simp] theorem State.send_pending (s : State) (m : Msg) : (s.send m).pending = s.pending := rfl
@[simp] theorem State.send_member (s : State) (m : Msg) : (s.send m).member = s.member := rfl
@[simp] theorem State.send_time (s : State) (m : Msg) : (s.send m).time = s.time := rfl
@[simp] theorem State.send_clk (s : State) (m : Msg) : (s.send m).clk = s.clk := rfl
@[simp] theorem State.send_freeCtr (s : State) (m : Msg) : (s.send m).freeCtr = s.freeCtr := rfl
@[simp] theorem State.send_wire (s : State) (m : Msg) : (s.send m).wire = m :: s.wire := rfl
@[simp] theorem State.send_rdata (s : State) (m : Msg) : (s.send m).rdata = s.rdata := rfl
@[simp] theorem State.send_regs (s : State) (m : Msg) : (s.send m).regs = s.regs := rfl
@[simp] theorem State.send_hold (s : State) (m : Msg) : (s.send m).hold = s.hold := rfl
@[simp] theorem State.send_pend64 (s : State) (m : Msg) : (s.send m).pend64 = s.pend64 := rfl
@[simp] theorem State.send_mem (s : State) (m : Msg) : (s.send m).mem = s.mem := rfl
@[simp] theorem State.send_memErr (s : State) (m : Msg) : (s.send m).memErr = s.memErr := rfl
@[simp] theorem State.send_sys (s : State) (m : Msg) : (s.send m).sys = s.sys := rfl
@[simp] theorem State.send_bg (s : State) (m : Msg) : (s.send m).bg = s.bg := rfl
@[simp] theorem State.send_axes (s : State) (m : Msg) : (s.send m).axes = s.axes := rfl
@[simp] theorem State.send_ports (s : State) (m : Msg) : (s.send m).ports = s.ports := rfl
@[simp] theorem State.send_sats (s : State) (m : Msg) : (s.send m).sats = s.sats := rfl
@[simp] theorem State.send_waiting (s : State) (m : Msg) : (s.send m).waiting = s.waiting := rfl
@[simp] theorem State.send_srv (s : State) (m : Msg) : (s.send m).srv = s.srv := rfl
@[simp] theorem State.send_cp (s : State) (m : Msg) : (s.send m).cp = s.cp := rfl
@[simp] theorem State.send_eng (s : State) (m : Msg) : (s.send m).eng = s.eng := rfl
@[simp] theorem State.send_gain (s : State) (m : Msg) : (s.send m).gain = s.gain := rfl
@[simp] theorem State.send_route (s : State) (m : Msg) : (s.send m).route = s.route := rfl
@[simp] theorem State.send_tension (s : State) (m : Msg) : (s.send m).tension = s.tension := rfl
@[simp] theorem State.send_lio (s : State) (m : Msg) : (s.send m).lio = s.lio := rfl
@[simp] theorem State.send_fb (s : State) (m : Msg) : (s.send m).fb = s.fb := rfl
@[simp] theorem State.send_modCap (s : State) (m : Msg) : (s.send m).modCap = s.modCap := rfl
@[simp] theorem State.send_ring (s : State) (m : Msg) : (s.send m).ring = s.ring := rfl
@[simp] theorem State.send_pr (s : State) (m : Msg) : (s.send m).pr = s.pr := rfl
@[simp] theorem State.send_bear (s : State) (m : Msg) : (s.send m).bear = s.bear := rfl
@[simp] theorem State.send_store (s : State) (m : Msg) : (s.send m).store = s.store := rfl
@[simp] theorem State.send_tag (s : State) (m : Msg) : (s.send m).tag = s.tag := rfl
@[simp] theorem State.send_edge (s : State) (m : Msg) : (s.send m).edge = s.edge := rfl
@[simp] theorem State.reg_send (s : State) (m : Msg) (x : Nat) : (s.send m).reg x = s.reg x := rfl
@[simp] theorem State.get_send (s : State) (m : Msg) (x : Fld) : (s.send m).get x = s.get x := rfl
@[simp] theorem State.flag_send (s : State) (m : Msg) (x : Fld) : (s.send m).flag x = s.flag x := rfl

/-! `State.setByte` -/

@[simp] theorem State.setByte_pending (s : State) (a : Nat) (b : Byte) : (s.setByte a b).pending = s.pending := rfl
@[simp] theorem State.setByte_member (s : State) (a : Nat) (b : Byte) : (s.setByte a b).member = s.member := rfl
@[simp] theorem State.setByte_time (s : State) (a : Nat) (b : Byte) : (s.setByte a b).time = s.time := rfl
@[simp] theorem State.setByte_clk (s : State) (a : Nat) (b : Byte) : (s.setByte a b).clk = s.clk := rfl
@[simp] theorem State.setByte_freeCtr (s : State) (a : Nat) (b : Byte) : (s.setByte a b).freeCtr = s.freeCtr := rfl
@[simp] theorem State.setByte_wire (s : State) (a : Nat) (b : Byte) : (s.setByte a b).wire = s.wire := rfl
@[simp] theorem State.setByte_rdata (s : State) (a : Nat) (b : Byte) : (s.setByte a b).rdata = s.rdata := rfl
@[simp] theorem State.setByte_regs (s : State) (a : Nat) (b : Byte) : (s.setByte a b).regs = s.regs := rfl
@[simp] theorem State.setByte_hold (s : State) (a : Nat) (b : Byte) : (s.setByte a b).hold = s.hold := rfl
@[simp] theorem State.setByte_pend64 (s : State) (a : Nat) (b : Byte) : (s.setByte a b).pend64 = s.pend64 := rfl
@[simp] theorem State.setByte_mem (s : State) (a : Nat) (b : Byte) : (s.setByte a b).mem = sparseSet (memDefault a) a b s.mem := rfl
@[simp] theorem State.setByte_memErr (s : State) (a : Nat) (b : Byte) : (s.setByte a b).memErr = s.memErr := rfl
@[simp] theorem State.setByte_sys (s : State) (a : Nat) (b : Byte) : (s.setByte a b).sys = s.sys := rfl
@[simp] theorem State.setByte_bg (s : State) (a : Nat) (b : Byte) : (s.setByte a b).bg = s.bg := rfl
@[simp] theorem State.setByte_axes (s : State) (a : Nat) (b : Byte) : (s.setByte a b).axes = s.axes := rfl
@[simp] theorem State.setByte_ports (s : State) (a : Nat) (b : Byte) : (s.setByte a b).ports = s.ports := rfl
@[simp] theorem State.setByte_sats (s : State) (a : Nat) (b : Byte) : (s.setByte a b).sats = s.sats := rfl
@[simp] theorem State.setByte_waiting (s : State) (a : Nat) (b : Byte) : (s.setByte a b).waiting = s.waiting := rfl
@[simp] theorem State.setByte_srv (s : State) (a : Nat) (b : Byte) : (s.setByte a b).srv = s.srv := rfl
@[simp] theorem State.setByte_cp (s : State) (a : Nat) (b : Byte) : (s.setByte a b).cp = s.cp := rfl
@[simp] theorem State.setByte_eng (s : State) (a : Nat) (b : Byte) : (s.setByte a b).eng = s.eng := rfl
@[simp] theorem State.setByte_gain (s : State) (a : Nat) (b : Byte) : (s.setByte a b).gain = s.gain := rfl
@[simp] theorem State.setByte_route (s : State) (a : Nat) (b : Byte) : (s.setByte a b).route = s.route := rfl
@[simp] theorem State.setByte_tension (s : State) (a : Nat) (b : Byte) : (s.setByte a b).tension = s.tension := rfl
@[simp] theorem State.setByte_lio (s : State) (a : Nat) (b : Byte) : (s.setByte a b).lio = s.lio := rfl
@[simp] theorem State.setByte_fb (s : State) (a : Nat) (b : Byte) : (s.setByte a b).fb = s.fb := rfl
@[simp] theorem State.setByte_modCap (s : State) (a : Nat) (b : Byte) : (s.setByte a b).modCap = s.modCap := rfl
@[simp] theorem State.setByte_ring (s : State) (a : Nat) (b : Byte) : (s.setByte a b).ring = s.ring := rfl
@[simp] theorem State.setByte_pr (s : State) (a : Nat) (b : Byte) : (s.setByte a b).pr = s.pr := rfl
@[simp] theorem State.setByte_bear (s : State) (a : Nat) (b : Byte) : (s.setByte a b).bear = s.bear := rfl
@[simp] theorem State.setByte_store (s : State) (a : Nat) (b : Byte) : (s.setByte a b).store = s.store := rfl
@[simp] theorem State.setByte_tag (s : State) (a : Nat) (b : Byte) : (s.setByte a b).tag = s.tag := rfl
@[simp] theorem State.setByte_edge (s : State) (a : Nat) (b : Byte) : (s.setByte a b).edge = s.edge := rfl
@[simp] theorem State.reg_setByte (s : State) (a : Nat) (b : Byte) (x : Nat) : (s.setByte a b).reg x = s.reg x := rfl
@[simp] theorem State.get_setByte (s : State) (a : Nat) (b : Byte) (x : Fld) : (s.setByte a b).get x = s.get x := rfl
@[simp] theorem State.flag_setByte (s : State) (a : Nat) (b : Byte) (x : Fld) : (s.setByte a b).flag x = s.flag x := rfl

/-! `State.setErr` -/

@[simp] theorem State.setErr_pending (s : State) (a e : Nat) : (s.setErr a e).pending = s.pending := rfl
@[simp] theorem State.setErr_member (s : State) (a e : Nat) : (s.setErr a e).member = s.member := rfl
@[simp] theorem State.setErr_time (s : State) (a e : Nat) : (s.setErr a e).time = s.time := rfl
@[simp] theorem State.setErr_clk (s : State) (a e : Nat) : (s.setErr a e).clk = s.clk := rfl
@[simp] theorem State.setErr_freeCtr (s : State) (a e : Nat) : (s.setErr a e).freeCtr = s.freeCtr := rfl
@[simp] theorem State.setErr_wire (s : State) (a e : Nat) : (s.setErr a e).wire = s.wire := rfl
@[simp] theorem State.setErr_rdata (s : State) (a e : Nat) : (s.setErr a e).rdata = s.rdata := rfl
@[simp] theorem State.setErr_regs (s : State) (a e : Nat) : (s.setErr a e).regs = s.regs := rfl
@[simp] theorem State.setErr_hold (s : State) (a e : Nat) : (s.setErr a e).hold = s.hold := rfl
@[simp] theorem State.setErr_pend64 (s : State) (a e : Nat) : (s.setErr a e).pend64 = s.pend64 := rfl
@[simp] theorem State.setErr_mem (s : State) (a e : Nat) : (s.setErr a e).mem = s.mem := rfl
@[simp] theorem State.setErr_memErr (s : State) (a e : Nat) : (s.setErr a e).memErr = sparseSet 0 (a / 4 * 4) e s.memErr := rfl
@[simp] theorem State.setErr_sys (s : State) (a e : Nat) : (s.setErr a e).sys = s.sys := rfl
@[simp] theorem State.setErr_bg (s : State) (a e : Nat) : (s.setErr a e).bg = s.bg := rfl
@[simp] theorem State.setErr_axes (s : State) (a e : Nat) : (s.setErr a e).axes = s.axes := rfl
@[simp] theorem State.setErr_ports (s : State) (a e : Nat) : (s.setErr a e).ports = s.ports := rfl
@[simp] theorem State.setErr_sats (s : State) (a e : Nat) : (s.setErr a e).sats = s.sats := rfl
@[simp] theorem State.setErr_waiting (s : State) (a e : Nat) : (s.setErr a e).waiting = s.waiting := rfl
@[simp] theorem State.setErr_srv (s : State) (a e : Nat) : (s.setErr a e).srv = s.srv := rfl
@[simp] theorem State.setErr_cp (s : State) (a e : Nat) : (s.setErr a e).cp = s.cp := rfl
@[simp] theorem State.setErr_eng (s : State) (a e : Nat) : (s.setErr a e).eng = s.eng := rfl
@[simp] theorem State.setErr_gain (s : State) (a e : Nat) : (s.setErr a e).gain = s.gain := rfl
@[simp] theorem State.setErr_route (s : State) (a e : Nat) : (s.setErr a e).route = s.route := rfl
@[simp] theorem State.setErr_tension (s : State) (a e : Nat) : (s.setErr a e).tension = s.tension := rfl
@[simp] theorem State.setErr_lio (s : State) (a e : Nat) : (s.setErr a e).lio = s.lio := rfl
@[simp] theorem State.setErr_fb (s : State) (a e : Nat) : (s.setErr a e).fb = s.fb := rfl
@[simp] theorem State.setErr_modCap (s : State) (a e : Nat) : (s.setErr a e).modCap = s.modCap := rfl
@[simp] theorem State.setErr_ring (s : State) (a e : Nat) : (s.setErr a e).ring = s.ring := rfl
@[simp] theorem State.setErr_pr (s : State) (a e : Nat) : (s.setErr a e).pr = s.pr := rfl
@[simp] theorem State.setErr_bear (s : State) (a e : Nat) : (s.setErr a e).bear = s.bear := rfl
@[simp] theorem State.setErr_store (s : State) (a e : Nat) : (s.setErr a e).store = s.store := rfl
@[simp] theorem State.setErr_tag (s : State) (a e : Nat) : (s.setErr a e).tag = s.tag := rfl
@[simp] theorem State.setErr_edge (s : State) (a e : Nat) : (s.setErr a e).edge = s.edge := rfl
@[simp] theorem State.reg_setErr (s : State) (a e : Nat) (x : Nat) : (s.setErr a e).reg x = s.reg x := rfl
@[simp] theorem State.get_setErr (s : State) (a e : Nat) (x : Fld) : (s.setErr a e).get x = s.get x := rfl
@[simp] theorem State.flag_setErr (s : State) (a e : Nat) (x : Fld) : (s.setErr a e).flag x = s.flag x := rfl

/-! `State.setReg` -/

@[simp] theorem State.setReg_pending (s : State) (a : Nat) (v : Word) : (s.setReg a v).pending = s.pending := rfl
@[simp] theorem State.setReg_member (s : State) (a : Nat) (v : Word) : (s.setReg a v).member = s.member := rfl
@[simp] theorem State.setReg_time (s : State) (a : Nat) (v : Word) : (s.setReg a v).time = s.time := rfl
@[simp] theorem State.setReg_clk (s : State) (a : Nat) (v : Word) : (s.setReg a v).clk = s.clk := rfl
@[simp] theorem State.setReg_freeCtr (s : State) (a : Nat) (v : Word) : (s.setReg a v).freeCtr = s.freeCtr := rfl
@[simp] theorem State.setReg_wire (s : State) (a : Nat) (v : Word) : (s.setReg a v).wire = s.wire := rfl
@[simp] theorem State.setReg_rdata (s : State) (a : Nat) (v : Word) : (s.setReg a v).rdata = s.rdata := rfl
@[simp] theorem State.setReg_hold (s : State) (a : Nat) (v : Word) : (s.setReg a v).hold = s.hold := rfl
@[simp] theorem State.setReg_pend64 (s : State) (a : Nat) (v : Word) : (s.setReg a v).pend64 = s.pend64 := rfl
@[simp] theorem State.setReg_mem (s : State) (a : Nat) (v : Word) : (s.setReg a v).mem = s.mem := rfl
@[simp] theorem State.setReg_memErr (s : State) (a : Nat) (v : Word) : (s.setReg a v).memErr = s.memErr := rfl
@[simp] theorem State.setReg_sys (s : State) (a : Nat) (v : Word) : (s.setReg a v).sys = s.sys := rfl
@[simp] theorem State.setReg_bg (s : State) (a : Nat) (v : Word) : (s.setReg a v).bg = s.bg := rfl
@[simp] theorem State.setReg_axes (s : State) (a : Nat) (v : Word) : (s.setReg a v).axes = s.axes := rfl
@[simp] theorem State.setReg_ports (s : State) (a : Nat) (v : Word) : (s.setReg a v).ports = s.ports := rfl
@[simp] theorem State.setReg_sats (s : State) (a : Nat) (v : Word) : (s.setReg a v).sats = s.sats := rfl
@[simp] theorem State.setReg_waiting (s : State) (a : Nat) (v : Word) : (s.setReg a v).waiting = s.waiting := rfl
@[simp] theorem State.setReg_srv (s : State) (a : Nat) (v : Word) : (s.setReg a v).srv = s.srv := rfl
@[simp] theorem State.setReg_cp (s : State) (a : Nat) (v : Word) : (s.setReg a v).cp = s.cp := rfl
@[simp] theorem State.setReg_eng (s : State) (a : Nat) (v : Word) : (s.setReg a v).eng = s.eng := rfl
@[simp] theorem State.setReg_gain (s : State) (a : Nat) (v : Word) : (s.setReg a v).gain = s.gain := rfl
@[simp] theorem State.setReg_route (s : State) (a : Nat) (v : Word) : (s.setReg a v).route = s.route := rfl
@[simp] theorem State.setReg_tension (s : State) (a : Nat) (v : Word) : (s.setReg a v).tension = s.tension := rfl
@[simp] theorem State.setReg_lio (s : State) (a : Nat) (v : Word) : (s.setReg a v).lio = s.lio := rfl
@[simp] theorem State.setReg_fb (s : State) (a : Nat) (v : Word) : (s.setReg a v).fb = s.fb := rfl
@[simp] theorem State.setReg_modCap (s : State) (a : Nat) (v : Word) : (s.setReg a v).modCap = s.modCap := rfl
@[simp] theorem State.setReg_ring (s : State) (a : Nat) (v : Word) : (s.setReg a v).ring = s.ring := rfl
@[simp] theorem State.setReg_pr (s : State) (a : Nat) (v : Word) : (s.setReg a v).pr = s.pr := rfl
@[simp] theorem State.setReg_bear (s : State) (a : Nat) (v : Word) : (s.setReg a v).bear = s.bear := rfl
@[simp] theorem State.setReg_store (s : State) (a : Nat) (v : Word) : (s.setReg a v).store = s.store := rfl
@[simp] theorem State.setReg_tag (s : State) (a : Nat) (v : Word) : (s.setReg a v).tag = s.tag := rfl
@[simp] theorem State.setReg_edge (s : State) (a : Nat) (v : Word) : (s.setReg a v).edge = s.edge := rfl

/-! `State.put` -/

@[simp] theorem State.put_pending (s : State) (g : Fld) (v : Nat) : (s.put g v).pending = s.pending := rfl
@[simp] theorem State.put_member (s : State) (g : Fld) (v : Nat) : (s.put g v).member = s.member := rfl
@[simp] theorem State.put_time (s : State) (g : Fld) (v : Nat) : (s.put g v).time = s.time := rfl
@[simp] theorem State.put_clk (s : State) (g : Fld) (v : Nat) : (s.put g v).clk = s.clk := rfl
@[simp] theorem State.put_freeCtr (s : State) (g : Fld) (v : Nat) : (s.put g v).freeCtr = s.freeCtr := rfl
@[simp] theorem State.put_wire (s : State) (g : Fld) (v : Nat) : (s.put g v).wire = s.wire := rfl
@[simp] theorem State.put_rdata (s : State) (g : Fld) (v : Nat) : (s.put g v).rdata = s.rdata := rfl
@[simp] theorem State.put_hold (s : State) (g : Fld) (v : Nat) : (s.put g v).hold = s.hold := rfl
@[simp] theorem State.put_pend64 (s : State) (g : Fld) (v : Nat) : (s.put g v).pend64 = s.pend64 := rfl
@[simp] theorem State.put_mem (s : State) (g : Fld) (v : Nat) : (s.put g v).mem = s.mem := rfl
@[simp] theorem State.put_memErr (s : State) (g : Fld) (v : Nat) : (s.put g v).memErr = s.memErr := rfl
@[simp] theorem State.put_sys (s : State) (g : Fld) (v : Nat) : (s.put g v).sys = s.sys := rfl
@[simp] theorem State.put_bg (s : State) (g : Fld) (v : Nat) : (s.put g v).bg = s.bg := rfl
@[simp] theorem State.put_axes (s : State) (g : Fld) (v : Nat) : (s.put g v).axes = s.axes := rfl
@[simp] theorem State.put_ports (s : State) (g : Fld) (v : Nat) : (s.put g v).ports = s.ports := rfl
@[simp] theorem State.put_sats (s : State) (g : Fld) (v : Nat) : (s.put g v).sats = s.sats := rfl
@[simp] theorem State.put_waiting (s : State) (g : Fld) (v : Nat) : (s.put g v).waiting = s.waiting := rfl
@[simp] theorem State.put_srv (s : State) (g : Fld) (v : Nat) : (s.put g v).srv = s.srv := rfl
@[simp] theorem State.put_cp (s : State) (g : Fld) (v : Nat) : (s.put g v).cp = s.cp := rfl
@[simp] theorem State.put_eng (s : State) (g : Fld) (v : Nat) : (s.put g v).eng = s.eng := rfl
@[simp] theorem State.put_gain (s : State) (g : Fld) (v : Nat) : (s.put g v).gain = s.gain := rfl
@[simp] theorem State.put_route (s : State) (g : Fld) (v : Nat) : (s.put g v).route = s.route := rfl
@[simp] theorem State.put_tension (s : State) (g : Fld) (v : Nat) : (s.put g v).tension = s.tension := rfl
@[simp] theorem State.put_lio (s : State) (g : Fld) (v : Nat) : (s.put g v).lio = s.lio := rfl
@[simp] theorem State.put_fb (s : State) (g : Fld) (v : Nat) : (s.put g v).fb = s.fb := rfl
@[simp] theorem State.put_modCap (s : State) (g : Fld) (v : Nat) : (s.put g v).modCap = s.modCap := rfl
@[simp] theorem State.put_ring (s : State) (g : Fld) (v : Nat) : (s.put g v).ring = s.ring := rfl
@[simp] theorem State.put_pr (s : State) (g : Fld) (v : Nat) : (s.put g v).pr = s.pr := rfl
@[simp] theorem State.put_bear (s : State) (g : Fld) (v : Nat) : (s.put g v).bear = s.bear := rfl
@[simp] theorem State.put_store (s : State) (g : Fld) (v : Nat) : (s.put g v).store = s.store := rfl
@[simp] theorem State.put_tag (s : State) (g : Fld) (v : Nat) : (s.put g v).tag = s.tag := rfl

/-! `State.sput` -/

@[simp] theorem State.sput_pending (s : State) (g : Fld) (v : Int) : (s.sput g v).pending = s.pending := rfl
@[simp] theorem State.sput_member (s : State) (g : Fld) (v : Int) : (s.sput g v).member = s.member := rfl
@[simp] theorem State.sput_time (s : State) (g : Fld) (v : Int) : (s.sput g v).time = s.time := rfl
@[simp] theorem State.sput_clk (s : State) (g : Fld) (v : Int) : (s.sput g v).clk = s.clk := rfl
@[simp] theorem State.sput_freeCtr (s : State) (g : Fld) (v : Int) : (s.sput g v).freeCtr = s.freeCtr := rfl
@[simp] theorem State.sput_wire (s : State) (g : Fld) (v : Int) : (s.sput g v).wire = s.wire := rfl
@[simp] theorem State.sput_rdata (s : State) (g : Fld) (v : Int) : (s.sput g v).rdata = s.rdata := rfl
@[simp] theorem State.sput_hold (s : State) (g : Fld) (v : Int) : (s.sput g v).hold = s.hold := rfl
@[simp] theorem State.sput_pend64 (s : State) (g : Fld) (v : Int) : (s.sput g v).pend64 = s.pend64 := rfl
@[simp] theorem State.sput_mem (s : State) (g : Fld) (v : Int) : (s.sput g v).mem = s.mem := rfl
@[simp] theorem State.sput_memErr (s : State) (g : Fld) (v : Int) : (s.sput g v).memErr = s.memErr := rfl
@[simp] theorem State.sput_sys (s : State) (g : Fld) (v : Int) : (s.sput g v).sys = s.sys := rfl
@[simp] theorem State.sput_bg (s : State) (g : Fld) (v : Int) : (s.sput g v).bg = s.bg := rfl
@[simp] theorem State.sput_axes (s : State) (g : Fld) (v : Int) : (s.sput g v).axes = s.axes := rfl
@[simp] theorem State.sput_ports (s : State) (g : Fld) (v : Int) : (s.sput g v).ports = s.ports := rfl
@[simp] theorem State.sput_sats (s : State) (g : Fld) (v : Int) : (s.sput g v).sats = s.sats := rfl
@[simp] theorem State.sput_waiting (s : State) (g : Fld) (v : Int) : (s.sput g v).waiting = s.waiting := rfl
@[simp] theorem State.sput_srv (s : State) (g : Fld) (v : Int) : (s.sput g v).srv = s.srv := rfl
@[simp] theorem State.sput_cp (s : State) (g : Fld) (v : Int) : (s.sput g v).cp = s.cp := rfl
@[simp] theorem State.sput_eng (s : State) (g : Fld) (v : Int) : (s.sput g v).eng = s.eng := rfl
@[simp] theorem State.sput_gain (s : State) (g : Fld) (v : Int) : (s.sput g v).gain = s.gain := rfl
@[simp] theorem State.sput_route (s : State) (g : Fld) (v : Int) : (s.sput g v).route = s.route := rfl
@[simp] theorem State.sput_tension (s : State) (g : Fld) (v : Int) : (s.sput g v).tension = s.tension := rfl
@[simp] theorem State.sput_lio (s : State) (g : Fld) (v : Int) : (s.sput g v).lio = s.lio := rfl
@[simp] theorem State.sput_fb (s : State) (g : Fld) (v : Int) : (s.sput g v).fb = s.fb := rfl
@[simp] theorem State.sput_modCap (s : State) (g : Fld) (v : Int) : (s.sput g v).modCap = s.modCap := rfl
@[simp] theorem State.sput_ring (s : State) (g : Fld) (v : Int) : (s.sput g v).ring = s.ring := rfl
@[simp] theorem State.sput_pr (s : State) (g : Fld) (v : Int) : (s.sput g v).pr = s.pr := rfl
@[simp] theorem State.sput_bear (s : State) (g : Fld) (v : Int) : (s.sput g v).bear = s.bear := rfl
@[simp] theorem State.sput_store (s : State) (g : Fld) (v : Int) : (s.sput g v).store = s.store := rfl
@[simp] theorem State.sput_tag (s : State) (g : Fld) (v : Int) : (s.sput g v).tag = s.tag := rfl

/-! `State.putOr` -/

@[simp] theorem State.putOr_pending (s : State) (g : Fld) (v : Nat) : (s.putOr g v).pending = s.pending := rfl
@[simp] theorem State.putOr_member (s : State) (g : Fld) (v : Nat) : (s.putOr g v).member = s.member := rfl
@[simp] theorem State.putOr_time (s : State) (g : Fld) (v : Nat) : (s.putOr g v).time = s.time := rfl
@[simp] theorem State.putOr_clk (s : State) (g : Fld) (v : Nat) : (s.putOr g v).clk = s.clk := rfl
@[simp] theorem State.putOr_freeCtr (s : State) (g : Fld) (v : Nat) : (s.putOr g v).freeCtr = s.freeCtr := rfl
@[simp] theorem State.putOr_wire (s : State) (g : Fld) (v : Nat) : (s.putOr g v).wire = s.wire := rfl
@[simp] theorem State.putOr_rdata (s : State) (g : Fld) (v : Nat) : (s.putOr g v).rdata = s.rdata := rfl
@[simp] theorem State.putOr_hold (s : State) (g : Fld) (v : Nat) : (s.putOr g v).hold = s.hold := rfl
@[simp] theorem State.putOr_pend64 (s : State) (g : Fld) (v : Nat) : (s.putOr g v).pend64 = s.pend64 := rfl
@[simp] theorem State.putOr_mem (s : State) (g : Fld) (v : Nat) : (s.putOr g v).mem = s.mem := rfl
@[simp] theorem State.putOr_memErr (s : State) (g : Fld) (v : Nat) : (s.putOr g v).memErr = s.memErr := rfl
@[simp] theorem State.putOr_sys (s : State) (g : Fld) (v : Nat) : (s.putOr g v).sys = s.sys := rfl
@[simp] theorem State.putOr_bg (s : State) (g : Fld) (v : Nat) : (s.putOr g v).bg = s.bg := rfl
@[simp] theorem State.putOr_axes (s : State) (g : Fld) (v : Nat) : (s.putOr g v).axes = s.axes := rfl
@[simp] theorem State.putOr_ports (s : State) (g : Fld) (v : Nat) : (s.putOr g v).ports = s.ports := rfl
@[simp] theorem State.putOr_sats (s : State) (g : Fld) (v : Nat) : (s.putOr g v).sats = s.sats := rfl
@[simp] theorem State.putOr_waiting (s : State) (g : Fld) (v : Nat) : (s.putOr g v).waiting = s.waiting := rfl
@[simp] theorem State.putOr_srv (s : State) (g : Fld) (v : Nat) : (s.putOr g v).srv = s.srv := rfl
@[simp] theorem State.putOr_cp (s : State) (g : Fld) (v : Nat) : (s.putOr g v).cp = s.cp := rfl
@[simp] theorem State.putOr_eng (s : State) (g : Fld) (v : Nat) : (s.putOr g v).eng = s.eng := rfl
@[simp] theorem State.putOr_gain (s : State) (g : Fld) (v : Nat) : (s.putOr g v).gain = s.gain := rfl
@[simp] theorem State.putOr_route (s : State) (g : Fld) (v : Nat) : (s.putOr g v).route = s.route := rfl
@[simp] theorem State.putOr_tension (s : State) (g : Fld) (v : Nat) : (s.putOr g v).tension = s.tension := rfl
@[simp] theorem State.putOr_lio (s : State) (g : Fld) (v : Nat) : (s.putOr g v).lio = s.lio := rfl
@[simp] theorem State.putOr_fb (s : State) (g : Fld) (v : Nat) : (s.putOr g v).fb = s.fb := rfl
@[simp] theorem State.putOr_modCap (s : State) (g : Fld) (v : Nat) : (s.putOr g v).modCap = s.modCap := rfl
@[simp] theorem State.putOr_ring (s : State) (g : Fld) (v : Nat) : (s.putOr g v).ring = s.ring := rfl
@[simp] theorem State.putOr_pr (s : State) (g : Fld) (v : Nat) : (s.putOr g v).pr = s.pr := rfl
@[simp] theorem State.putOr_bear (s : State) (g : Fld) (v : Nat) : (s.putOr g v).bear = s.bear := rfl
@[simp] theorem State.putOr_store (s : State) (g : Fld) (v : Nat) : (s.putOr g v).store = s.store := rfl
@[simp] theorem State.putOr_tag (s : State) (g : Fld) (v : Nat) : (s.putOr g v).tag = s.tag := rfl

/-! `State.bump` -/

@[simp] theorem State.bump_pending (s : State) (g : Fld) : (s.bump g).pending = s.pending := rfl
@[simp] theorem State.bump_member (s : State) (g : Fld) : (s.bump g).member = s.member := rfl
@[simp] theorem State.bump_time (s : State) (g : Fld) : (s.bump g).time = s.time := rfl
@[simp] theorem State.bump_clk (s : State) (g : Fld) : (s.bump g).clk = s.clk := rfl
@[simp] theorem State.bump_freeCtr (s : State) (g : Fld) : (s.bump g).freeCtr = s.freeCtr := rfl
@[simp] theorem State.bump_wire (s : State) (g : Fld) : (s.bump g).wire = s.wire := rfl
@[simp] theorem State.bump_rdata (s : State) (g : Fld) : (s.bump g).rdata = s.rdata := rfl
@[simp] theorem State.bump_hold (s : State) (g : Fld) : (s.bump g).hold = s.hold := rfl
@[simp] theorem State.bump_pend64 (s : State) (g : Fld) : (s.bump g).pend64 = s.pend64 := rfl
@[simp] theorem State.bump_mem (s : State) (g : Fld) : (s.bump g).mem = s.mem := rfl
@[simp] theorem State.bump_memErr (s : State) (g : Fld) : (s.bump g).memErr = s.memErr := rfl
@[simp] theorem State.bump_sys (s : State) (g : Fld) : (s.bump g).sys = s.sys := rfl
@[simp] theorem State.bump_bg (s : State) (g : Fld) : (s.bump g).bg = s.bg := rfl
@[simp] theorem State.bump_axes (s : State) (g : Fld) : (s.bump g).axes = s.axes := rfl
@[simp] theorem State.bump_ports (s : State) (g : Fld) : (s.bump g).ports = s.ports := rfl
@[simp] theorem State.bump_sats (s : State) (g : Fld) : (s.bump g).sats = s.sats := rfl
@[simp] theorem State.bump_waiting (s : State) (g : Fld) : (s.bump g).waiting = s.waiting := rfl
@[simp] theorem State.bump_srv (s : State) (g : Fld) : (s.bump g).srv = s.srv := rfl
@[simp] theorem State.bump_cp (s : State) (g : Fld) : (s.bump g).cp = s.cp := rfl
@[simp] theorem State.bump_eng (s : State) (g : Fld) : (s.bump g).eng = s.eng := rfl
@[simp] theorem State.bump_gain (s : State) (g : Fld) : (s.bump g).gain = s.gain := rfl
@[simp] theorem State.bump_route (s : State) (g : Fld) : (s.bump g).route = s.route := rfl
@[simp] theorem State.bump_tension (s : State) (g : Fld) : (s.bump g).tension = s.tension := rfl
@[simp] theorem State.bump_lio (s : State) (g : Fld) : (s.bump g).lio = s.lio := rfl
@[simp] theorem State.bump_fb (s : State) (g : Fld) : (s.bump g).fb = s.fb := rfl
@[simp] theorem State.bump_modCap (s : State) (g : Fld) : (s.bump g).modCap = s.modCap := rfl
@[simp] theorem State.bump_ring (s : State) (g : Fld) : (s.bump g).ring = s.ring := rfl
@[simp] theorem State.bump_pr (s : State) (g : Fld) : (s.bump g).pr = s.pr := rfl
@[simp] theorem State.bump_bear (s : State) (g : Fld) : (s.bump g).bear = s.bear := rfl
@[simp] theorem State.bump_store (s : State) (g : Fld) : (s.bump g).store = s.store := rfl
@[simp] theorem State.bump_tag (s : State) (g : Fld) : (s.bump g).tag = s.tag := rfl

/-! `State.bumpBy` -/

@[simp] theorem State.bumpBy_pending (s : State) (g : Fld) (n : Nat) : (s.bumpBy g n).pending = s.pending := rfl
@[simp] theorem State.bumpBy_member (s : State) (g : Fld) (n : Nat) : (s.bumpBy g n).member = s.member := rfl
@[simp] theorem State.bumpBy_time (s : State) (g : Fld) (n : Nat) : (s.bumpBy g n).time = s.time := rfl
@[simp] theorem State.bumpBy_clk (s : State) (g : Fld) (n : Nat) : (s.bumpBy g n).clk = s.clk := rfl
@[simp] theorem State.bumpBy_freeCtr (s : State) (g : Fld) (n : Nat) : (s.bumpBy g n).freeCtr = s.freeCtr := rfl
@[simp] theorem State.bumpBy_wire (s : State) (g : Fld) (n : Nat) : (s.bumpBy g n).wire = s.wire := rfl
@[simp] theorem State.bumpBy_rdata (s : State) (g : Fld) (n : Nat) : (s.bumpBy g n).rdata = s.rdata := rfl
@[simp] theorem State.bumpBy_hold (s : State) (g : Fld) (n : Nat) : (s.bumpBy g n).hold = s.hold := rfl
@[simp] theorem State.bumpBy_pend64 (s : State) (g : Fld) (n : Nat) : (s.bumpBy g n).pend64 = s.pend64 := rfl
@[simp] theorem State.bumpBy_mem (s : State) (g : Fld) (n : Nat) : (s.bumpBy g n).mem = s.mem := rfl
@[simp] theorem State.bumpBy_memErr (s : State) (g : Fld) (n : Nat) : (s.bumpBy g n).memErr = s.memErr := rfl
@[simp] theorem State.bumpBy_sys (s : State) (g : Fld) (n : Nat) : (s.bumpBy g n).sys = s.sys := rfl
@[simp] theorem State.bumpBy_bg (s : State) (g : Fld) (n : Nat) : (s.bumpBy g n).bg = s.bg := rfl
@[simp] theorem State.bumpBy_axes (s : State) (g : Fld) (n : Nat) : (s.bumpBy g n).axes = s.axes := rfl
@[simp] theorem State.bumpBy_ports (s : State) (g : Fld) (n : Nat) : (s.bumpBy g n).ports = s.ports := rfl
@[simp] theorem State.bumpBy_sats (s : State) (g : Fld) (n : Nat) : (s.bumpBy g n).sats = s.sats := rfl
@[simp] theorem State.bumpBy_waiting (s : State) (g : Fld) (n : Nat) : (s.bumpBy g n).waiting = s.waiting := rfl
@[simp] theorem State.bumpBy_srv (s : State) (g : Fld) (n : Nat) : (s.bumpBy g n).srv = s.srv := rfl
@[simp] theorem State.bumpBy_cp (s : State) (g : Fld) (n : Nat) : (s.bumpBy g n).cp = s.cp := rfl
@[simp] theorem State.bumpBy_eng (s : State) (g : Fld) (n : Nat) : (s.bumpBy g n).eng = s.eng := rfl
@[simp] theorem State.bumpBy_gain (s : State) (g : Fld) (n : Nat) : (s.bumpBy g n).gain = s.gain := rfl
@[simp] theorem State.bumpBy_route (s : State) (g : Fld) (n : Nat) : (s.bumpBy g n).route = s.route := rfl
@[simp] theorem State.bumpBy_tension (s : State) (g : Fld) (n : Nat) : (s.bumpBy g n).tension = s.tension := rfl
@[simp] theorem State.bumpBy_lio (s : State) (g : Fld) (n : Nat) : (s.bumpBy g n).lio = s.lio := rfl
@[simp] theorem State.bumpBy_fb (s : State) (g : Fld) (n : Nat) : (s.bumpBy g n).fb = s.fb := rfl
@[simp] theorem State.bumpBy_modCap (s : State) (g : Fld) (n : Nat) : (s.bumpBy g n).modCap = s.modCap := rfl
@[simp] theorem State.bumpBy_ring (s : State) (g : Fld) (n : Nat) : (s.bumpBy g n).ring = s.ring := rfl
@[simp] theorem State.bumpBy_pr (s : State) (g : Fld) (n : Nat) : (s.bumpBy g n).pr = s.pr := rfl
@[simp] theorem State.bumpBy_bear (s : State) (g : Fld) (n : Nat) : (s.bumpBy g n).bear = s.bear := rfl
@[simp] theorem State.bumpBy_store (s : State) (g : Fld) (n : Nat) : (s.bumpBy g n).store = s.store := rfl
@[simp] theorem State.bumpBy_tag (s : State) (g : Fld) (n : Nat) : (s.bumpBy g n).tag = s.tag := rfl

/-! `State.wrapUp` -/

@[simp] theorem State.wrapUp_pending (s : State) (g : Fld) : (s.wrapUp g).pending = s.pending := rfl
@[simp] theorem State.wrapUp_member (s : State) (g : Fld) : (s.wrapUp g).member = s.member := rfl
@[simp] theorem State.wrapUp_time (s : State) (g : Fld) : (s.wrapUp g).time = s.time := rfl
@[simp] theorem State.wrapUp_clk (s : State) (g : Fld) : (s.wrapUp g).clk = s.clk := rfl
@[simp] theorem State.wrapUp_freeCtr (s : State) (g : Fld) : (s.wrapUp g).freeCtr = s.freeCtr := rfl
@[simp] theorem State.wrapUp_wire (s : State) (g : Fld) : (s.wrapUp g).wire = s.wire := rfl
@[simp] theorem State.wrapUp_rdata (s : State) (g : Fld) : (s.wrapUp g).rdata = s.rdata := rfl
@[simp] theorem State.wrapUp_hold (s : State) (g : Fld) : (s.wrapUp g).hold = s.hold := rfl
@[simp] theorem State.wrapUp_pend64 (s : State) (g : Fld) : (s.wrapUp g).pend64 = s.pend64 := rfl
@[simp] theorem State.wrapUp_mem (s : State) (g : Fld) : (s.wrapUp g).mem = s.mem := rfl
@[simp] theorem State.wrapUp_memErr (s : State) (g : Fld) : (s.wrapUp g).memErr = s.memErr := rfl
@[simp] theorem State.wrapUp_sys (s : State) (g : Fld) : (s.wrapUp g).sys = s.sys := rfl
@[simp] theorem State.wrapUp_bg (s : State) (g : Fld) : (s.wrapUp g).bg = s.bg := rfl
@[simp] theorem State.wrapUp_axes (s : State) (g : Fld) : (s.wrapUp g).axes = s.axes := rfl
@[simp] theorem State.wrapUp_ports (s : State) (g : Fld) : (s.wrapUp g).ports = s.ports := rfl
@[simp] theorem State.wrapUp_sats (s : State) (g : Fld) : (s.wrapUp g).sats = s.sats := rfl
@[simp] theorem State.wrapUp_waiting (s : State) (g : Fld) : (s.wrapUp g).waiting = s.waiting := rfl
@[simp] theorem State.wrapUp_srv (s : State) (g : Fld) : (s.wrapUp g).srv = s.srv := rfl
@[simp] theorem State.wrapUp_cp (s : State) (g : Fld) : (s.wrapUp g).cp = s.cp := rfl
@[simp] theorem State.wrapUp_eng (s : State) (g : Fld) : (s.wrapUp g).eng = s.eng := rfl
@[simp] theorem State.wrapUp_gain (s : State) (g : Fld) : (s.wrapUp g).gain = s.gain := rfl
@[simp] theorem State.wrapUp_route (s : State) (g : Fld) : (s.wrapUp g).route = s.route := rfl
@[simp] theorem State.wrapUp_tension (s : State) (g : Fld) : (s.wrapUp g).tension = s.tension := rfl
@[simp] theorem State.wrapUp_lio (s : State) (g : Fld) : (s.wrapUp g).lio = s.lio := rfl
@[simp] theorem State.wrapUp_fb (s : State) (g : Fld) : (s.wrapUp g).fb = s.fb := rfl
@[simp] theorem State.wrapUp_modCap (s : State) (g : Fld) : (s.wrapUp g).modCap = s.modCap := rfl
@[simp] theorem State.wrapUp_ring (s : State) (g : Fld) : (s.wrapUp g).ring = s.ring := rfl
@[simp] theorem State.wrapUp_pr (s : State) (g : Fld) : (s.wrapUp g).pr = s.pr := rfl
@[simp] theorem State.wrapUp_bear (s : State) (g : Fld) : (s.wrapUp g).bear = s.bear := rfl
@[simp] theorem State.wrapUp_store (s : State) (g : Fld) : (s.wrapUp g).store = s.store := rfl
@[simp] theorem State.wrapUp_tag (s : State) (g : Fld) : (s.wrapUp g).tag = s.tag := rfl

/-! `State.setReg64` -/

@[simp] theorem State.setReg64_pending (s : State) (a v : Nat) : (s.setReg64 a v).pending = s.pending := rfl
@[simp] theorem State.setReg64_member (s : State) (a v : Nat) : (s.setReg64 a v).member = s.member := rfl
@[simp] theorem State.setReg64_time (s : State) (a v : Nat) : (s.setReg64 a v).time = s.time := rfl
@[simp] theorem State.setReg64_clk (s : State) (a v : Nat) : (s.setReg64 a v).clk = s.clk := rfl
@[simp] theorem State.setReg64_freeCtr (s : State) (a v : Nat) : (s.setReg64 a v).freeCtr = s.freeCtr := rfl
@[simp] theorem State.setReg64_wire (s : State) (a v : Nat) : (s.setReg64 a v).wire = s.wire := rfl
@[simp] theorem State.setReg64_rdata (s : State) (a v : Nat) : (s.setReg64 a v).rdata = s.rdata := rfl
@[simp] theorem State.setReg64_hold (s : State) (a v : Nat) : (s.setReg64 a v).hold = s.hold := rfl
@[simp] theorem State.setReg64_pend64 (s : State) (a v : Nat) : (s.setReg64 a v).pend64 = s.pend64 := rfl
@[simp] theorem State.setReg64_mem (s : State) (a v : Nat) : (s.setReg64 a v).mem = s.mem := rfl
@[simp] theorem State.setReg64_memErr (s : State) (a v : Nat) : (s.setReg64 a v).memErr = s.memErr := rfl
@[simp] theorem State.setReg64_sys (s : State) (a v : Nat) : (s.setReg64 a v).sys = s.sys := rfl
@[simp] theorem State.setReg64_bg (s : State) (a v : Nat) : (s.setReg64 a v).bg = s.bg := rfl
@[simp] theorem State.setReg64_axes (s : State) (a v : Nat) : (s.setReg64 a v).axes = s.axes := rfl
@[simp] theorem State.setReg64_ports (s : State) (a v : Nat) : (s.setReg64 a v).ports = s.ports := rfl
@[simp] theorem State.setReg64_sats (s : State) (a v : Nat) : (s.setReg64 a v).sats = s.sats := rfl
@[simp] theorem State.setReg64_waiting (s : State) (a v : Nat) : (s.setReg64 a v).waiting = s.waiting := rfl
@[simp] theorem State.setReg64_srv (s : State) (a v : Nat) : (s.setReg64 a v).srv = s.srv := rfl
@[simp] theorem State.setReg64_cp (s : State) (a v : Nat) : (s.setReg64 a v).cp = s.cp := rfl
@[simp] theorem State.setReg64_eng (s : State) (a v : Nat) : (s.setReg64 a v).eng = s.eng := rfl
@[simp] theorem State.setReg64_gain (s : State) (a v : Nat) : (s.setReg64 a v).gain = s.gain := rfl
@[simp] theorem State.setReg64_route (s : State) (a v : Nat) : (s.setReg64 a v).route = s.route := rfl
@[simp] theorem State.setReg64_tension (s : State) (a v : Nat) : (s.setReg64 a v).tension = s.tension := rfl
@[simp] theorem State.setReg64_lio (s : State) (a v : Nat) : (s.setReg64 a v).lio = s.lio := rfl
@[simp] theorem State.setReg64_fb (s : State) (a v : Nat) : (s.setReg64 a v).fb = s.fb := rfl
@[simp] theorem State.setReg64_modCap (s : State) (a v : Nat) : (s.setReg64 a v).modCap = s.modCap := rfl
@[simp] theorem State.setReg64_ring (s : State) (a v : Nat) : (s.setReg64 a v).ring = s.ring := rfl
@[simp] theorem State.setReg64_pr (s : State) (a v : Nat) : (s.setReg64 a v).pr = s.pr := rfl
@[simp] theorem State.setReg64_bear (s : State) (a v : Nat) : (s.setReg64 a v).bear = s.bear := rfl
@[simp] theorem State.setReg64_store (s : State) (a v : Nat) : (s.setReg64 a v).store = s.store := rfl
@[simp] theorem State.setReg64_tag (s : State) (a v : Nat) : (s.setReg64 a v).tag = s.tag := rfl
@[simp] theorem State.setReg64_edge (s : State) (a v : Nat) : (s.setReg64 a v).edge = s.edge := rfl

/-! `State.noteSet` -/

@[simp] theorem State.noteSet_pending (s : State) (a : Nat) (m : Word) : (s.noteSet a m).pending = s.pending := rfl
@[simp] theorem State.noteSet_member (s : State) (a : Nat) (m : Word) : (s.noteSet a m).member = s.member := rfl
@[simp] theorem State.noteSet_time (s : State) (a : Nat) (m : Word) : (s.noteSet a m).time = s.time := rfl
@[simp] theorem State.noteSet_clk (s : State) (a : Nat) (m : Word) : (s.noteSet a m).clk = s.clk := rfl
@[simp] theorem State.noteSet_freeCtr (s : State) (a : Nat) (m : Word) : (s.noteSet a m).freeCtr = s.freeCtr := rfl
@[simp] theorem State.noteSet_wire (s : State) (a : Nat) (m : Word) : (s.noteSet a m).wire = s.wire := rfl
@[simp] theorem State.noteSet_rdata (s : State) (a : Nat) (m : Word) : (s.noteSet a m).rdata = s.rdata := rfl
@[simp] theorem State.noteSet_regs (s : State) (a : Nat) (m : Word) : (s.noteSet a m).regs = s.regs := rfl
@[simp] theorem State.noteSet_hold (s : State) (a : Nat) (m : Word) : (s.noteSet a m).hold = s.hold := rfl
@[simp] theorem State.noteSet_pend64 (s : State) (a : Nat) (m : Word) : (s.noteSet a m).pend64 = s.pend64 := rfl
@[simp] theorem State.noteSet_mem (s : State) (a : Nat) (m : Word) : (s.noteSet a m).mem = s.mem := rfl
@[simp] theorem State.noteSet_memErr (s : State) (a : Nat) (m : Word) : (s.noteSet a m).memErr = s.memErr := rfl
@[simp] theorem State.noteSet_sys (s : State) (a : Nat) (m : Word) : (s.noteSet a m).sys = s.sys := rfl
@[simp] theorem State.noteSet_bg (s : State) (a : Nat) (m : Word) : (s.noteSet a m).bg = s.bg := rfl
@[simp] theorem State.noteSet_axes (s : State) (a : Nat) (m : Word) : (s.noteSet a m).axes = s.axes := rfl
@[simp] theorem State.noteSet_ports (s : State) (a : Nat) (m : Word) : (s.noteSet a m).ports = s.ports := rfl
@[simp] theorem State.noteSet_sats (s : State) (a : Nat) (m : Word) : (s.noteSet a m).sats = s.sats := rfl
@[simp] theorem State.noteSet_waiting (s : State) (a : Nat) (m : Word) : (s.noteSet a m).waiting = s.waiting := rfl
@[simp] theorem State.noteSet_srv (s : State) (a : Nat) (m : Word) : (s.noteSet a m).srv = s.srv := rfl
@[simp] theorem State.noteSet_cp (s : State) (a : Nat) (m : Word) : (s.noteSet a m).cp = s.cp := rfl
@[simp] theorem State.noteSet_eng (s : State) (a : Nat) (m : Word) : (s.noteSet a m).eng = s.eng := rfl
@[simp] theorem State.noteSet_gain (s : State) (a : Nat) (m : Word) : (s.noteSet a m).gain = s.gain := rfl
@[simp] theorem State.noteSet_route (s : State) (a : Nat) (m : Word) : (s.noteSet a m).route = s.route := rfl
@[simp] theorem State.noteSet_tension (s : State) (a : Nat) (m : Word) : (s.noteSet a m).tension = s.tension := rfl
@[simp] theorem State.noteSet_lio (s : State) (a : Nat) (m : Word) : (s.noteSet a m).lio = s.lio := rfl
@[simp] theorem State.noteSet_fb (s : State) (a : Nat) (m : Word) : (s.noteSet a m).fb = s.fb := rfl
@[simp] theorem State.noteSet_modCap (s : State) (a : Nat) (m : Word) : (s.noteSet a m).modCap = s.modCap := rfl
@[simp] theorem State.noteSet_ring (s : State) (a : Nat) (m : Word) : (s.noteSet a m).ring = s.ring := rfl
@[simp] theorem State.noteSet_pr (s : State) (a : Nat) (m : Word) : (s.noteSet a m).pr = s.pr := rfl
@[simp] theorem State.noteSet_bear (s : State) (a : Nat) (m : Word) : (s.noteSet a m).bear = s.bear := rfl
@[simp] theorem State.noteSet_store (s : State) (a : Nat) (m : Word) : (s.noteSet a m).store = s.store := rfl
@[simp] theorem State.noteSet_tag (s : State) (a : Nat) (m : Word) : (s.noteSet a m).tag = s.tag := rfl
@[simp] theorem State.flag_noteSet (s : State) (a : Nat) (m : Word) (x : Fld) : (s.noteSet a m).flag x = s.flag x := rfl

/-! `State.mark` -/

@[simp] theorem State.mark_pending (s : State) (e : EdgeMark) : (s.mark e).pending = s.pending := rfl
@[simp] theorem State.mark_member (s : State) (e : EdgeMark) : (s.mark e).member = s.member := rfl
@[simp] theorem State.mark_time (s : State) (e : EdgeMark) : (s.mark e).time = s.time := rfl
@[simp] theorem State.mark_clk (s : State) (e : EdgeMark) : (s.mark e).clk = s.clk := rfl
@[simp] theorem State.mark_freeCtr (s : State) (e : EdgeMark) : (s.mark e).freeCtr = s.freeCtr := rfl
@[simp] theorem State.mark_wire (s : State) (e : EdgeMark) : (s.mark e).wire = s.wire := rfl
@[simp] theorem State.mark_rdata (s : State) (e : EdgeMark) : (s.mark e).rdata = s.rdata := rfl
@[simp] theorem State.mark_regs (s : State) (e : EdgeMark) : (s.mark e).regs = s.regs := rfl
@[simp] theorem State.mark_hold (s : State) (e : EdgeMark) : (s.mark e).hold = s.hold := rfl
@[simp] theorem State.mark_pend64 (s : State) (e : EdgeMark) : (s.mark e).pend64 = s.pend64 := rfl
@[simp] theorem State.mark_mem (s : State) (e : EdgeMark) : (s.mark e).mem = s.mem := rfl
@[simp] theorem State.mark_memErr (s : State) (e : EdgeMark) : (s.mark e).memErr = s.memErr := rfl
@[simp] theorem State.mark_sys (s : State) (e : EdgeMark) : (s.mark e).sys = s.sys := rfl
@[simp] theorem State.mark_bg (s : State) (e : EdgeMark) : (s.mark e).bg = s.bg := rfl
@[simp] theorem State.mark_axes (s : State) (e : EdgeMark) : (s.mark e).axes = s.axes := rfl
@[simp] theorem State.mark_ports (s : State) (e : EdgeMark) : (s.mark e).ports = s.ports := rfl
@[simp] theorem State.mark_sats (s : State) (e : EdgeMark) : (s.mark e).sats = s.sats := rfl
@[simp] theorem State.mark_waiting (s : State) (e : EdgeMark) : (s.mark e).waiting = s.waiting := rfl
@[simp] theorem State.mark_srv (s : State) (e : EdgeMark) : (s.mark e).srv = s.srv := rfl
@[simp] theorem State.mark_cp (s : State) (e : EdgeMark) : (s.mark e).cp = s.cp := rfl
@[simp] theorem State.mark_eng (s : State) (e : EdgeMark) : (s.mark e).eng = s.eng := rfl
@[simp] theorem State.mark_gain (s : State) (e : EdgeMark) : (s.mark e).gain = s.gain := rfl
@[simp] theorem State.mark_route (s : State) (e : EdgeMark) : (s.mark e).route = s.route := rfl
@[simp] theorem State.mark_tension (s : State) (e : EdgeMark) : (s.mark e).tension = s.tension := rfl
@[simp] theorem State.mark_lio (s : State) (e : EdgeMark) : (s.mark e).lio = s.lio := rfl
@[simp] theorem State.mark_fb (s : State) (e : EdgeMark) : (s.mark e).fb = s.fb := rfl
@[simp] theorem State.mark_modCap (s : State) (e : EdgeMark) : (s.mark e).modCap = s.modCap := rfl
@[simp] theorem State.mark_ring (s : State) (e : EdgeMark) : (s.mark e).ring = s.ring := rfl
@[simp] theorem State.mark_pr (s : State) (e : EdgeMark) : (s.mark e).pr = s.pr := rfl
@[simp] theorem State.mark_bear (s : State) (e : EdgeMark) : (s.mark e).bear = s.bear := rfl
@[simp] theorem State.mark_store (s : State) (e : EdgeMark) : (s.mark e).store = s.store := rfl
@[simp] theorem State.mark_tag (s : State) (e : EdgeMark) : (s.mark e).tag = s.tag := rfl
@[simp] theorem State.reg_mark (s : State) (e : EdgeMark) (x : Nat) : (s.mark e).reg x = s.reg x := rfl
@[simp] theorem State.get_mark (s : State) (e : EdgeMark) (x : Fld) : (s.mark e).get x = s.get x := rfl
@[simp] theorem State.flag_mark (s : State) (e : EdgeMark) (x : Fld) : (s.mark e).flag x = s.flag x := rfl

/-- Bits noted are seen. -/
theorem State.setNow_noteSet (s : State) (a : Nat) (m : Word) (x : Nat) (h : x ≠ a) : (s.noteSet a m).setNow x = s.setNow x := by
  unfold State.setNow State.noteSet
  dsimp only
  split
  · rfl
  · rw [List.foldl_cons, if_neg (Ne.symm h)]

/-! What strobes, W1C bits and EMCYs change: the registers alone, the server alone. -/

/-- `t` differs from `s` in its registers and the record of the present edge alone. -/
def State.regsOnly (s t : State) : Prop := ∃ l e, t = { s with regs := l, edge := e }

theorem State.regsOnly.refl (s : State) : s.regsOnly s := ⟨s.regs, s.edge, rfl⟩

theorem State.regsOnly.put {s t : State} (h : s.regsOnly t) (f : Fld) (v : Nat) : s.regsOnly (t.put f v) := by
  obtain ⟨_, _, rfl⟩ := h; exact ⟨_, _, rfl⟩

theorem State.regsOnly.putOr {s t : State} (h : s.regsOnly t) (f : Fld) (v : Nat) : s.regsOnly (t.putOr f v) := by
  obtain ⟨_, _, rfl⟩ := h; exact ⟨_, _, rfl⟩

theorem State.regsOnly.strobeRaw {s t : State} (h : s.regsOnly t) (e : Nat) : s.regsOnly (t.strobeRaw e) := by
  unfold State.strobeRaw; split <;> exact h.put _ _

theorem State.regsOnly.strobe {s t : State} (h : s.regsOnly t) (e : Nat) : s.regsOnly (t.strobe e) := by
  have hb : s.regsOnly (t.bump EVT_STAT_ORPHAN) := h.put _ _
  unfold State.strobe
  split
  · exact h
  · split
    · dsimp only
      split
      · exact hb
      · split
        · exact (hb.put _ _).put _ _
        · exact (hb.put _ _).strobeRaw _
    · exact h.strobeRaw _

/-- A strobe changes registers alone. -/
theorem State.strobe_regs (s : State) (e : Nat) : s.regsOnly (s.strobe e) := (State.regsOnly.refl s).strobe e

/-- A raised bit changes registers alone. -/
theorem State.raise_regs (s : State) (g : Fld) (b base : Nat) : s.regsOnly (s.raise g b base) :=
  ((State.regsOnly.refl s).putOr g _).strobe _

/-- An EMCY changes the server alone. -/
theorem State.emcy_srv (s : State) (code : Nat) (bytes : List Nat) : ∃ v, s.emcy code bytes = { s with srv := v } := by
  unfold State.emcy
  split <;> exact ⟨_, rfl⟩

@[simp] theorem State.strobe_pending (s : State) (e : Nat) : (s.strobe e).pending = s.pending := by
  obtain ⟨_, _, h⟩ := s.strobe_regs e; rw [h]
@[simp] theorem State.strobe_member (s : State) (e : Nat) : (s.strobe e).member = s.member := by
  obtain ⟨_, _, h⟩ := s.strobe_regs e; rw [h]
@[simp] theorem State.strobe_time (s : State) (e : Nat) : (s.strobe e).time = s.time := by
  obtain ⟨_, _, h⟩ := s.strobe_regs e; rw [h]
@[simp] theorem State.strobe_clk (s : State) (e : Nat) : (s.strobe e).clk = s.clk := by
  obtain ⟨_, _, h⟩ := s.strobe_regs e; rw [h]
@[simp] theorem State.strobe_freeCtr (s : State) (e : Nat) : (s.strobe e).freeCtr = s.freeCtr := by
  obtain ⟨_, _, h⟩ := s.strobe_regs e; rw [h]
@[simp] theorem State.strobe_wire (s : State) (e : Nat) : (s.strobe e).wire = s.wire := by
  obtain ⟨_, _, h⟩ := s.strobe_regs e; rw [h]
@[simp] theorem State.strobe_rdata (s : State) (e : Nat) : (s.strobe e).rdata = s.rdata := by
  obtain ⟨_, _, h⟩ := s.strobe_regs e; rw [h]
@[simp] theorem State.strobe_hold (s : State) (e : Nat) : (s.strobe e).hold = s.hold := by
  obtain ⟨_, _, h⟩ := s.strobe_regs e; rw [h]
@[simp] theorem State.strobe_pend64 (s : State) (e : Nat) : (s.strobe e).pend64 = s.pend64 := by
  obtain ⟨_, _, h⟩ := s.strobe_regs e; rw [h]
@[simp] theorem State.strobe_mem (s : State) (e : Nat) : (s.strobe e).mem = s.mem := by
  obtain ⟨_, _, h⟩ := s.strobe_regs e; rw [h]
@[simp] theorem State.strobe_memErr (s : State) (e : Nat) : (s.strobe e).memErr = s.memErr := by
  obtain ⟨_, _, h⟩ := s.strobe_regs e; rw [h]
@[simp] theorem State.strobe_sys (s : State) (e : Nat) : (s.strobe e).sys = s.sys := by
  obtain ⟨_, _, h⟩ := s.strobe_regs e; rw [h]
@[simp] theorem State.strobe_bg (s : State) (e : Nat) : (s.strobe e).bg = s.bg := by
  obtain ⟨_, _, h⟩ := s.strobe_regs e; rw [h]
@[simp] theorem State.strobe_axes (s : State) (e : Nat) : (s.strobe e).axes = s.axes := by
  obtain ⟨_, _, h⟩ := s.strobe_regs e; rw [h]
@[simp] theorem State.strobe_ports (s : State) (e : Nat) : (s.strobe e).ports = s.ports := by
  obtain ⟨_, _, h⟩ := s.strobe_regs e; rw [h]
@[simp] theorem State.strobe_sats (s : State) (e : Nat) : (s.strobe e).sats = s.sats := by
  obtain ⟨_, _, h⟩ := s.strobe_regs e; rw [h]
@[simp] theorem State.strobe_waiting (s : State) (e : Nat) : (s.strobe e).waiting = s.waiting := by
  obtain ⟨_, _, h⟩ := s.strobe_regs e; rw [h]
@[simp] theorem State.strobe_srv (s : State) (e : Nat) : (s.strobe e).srv = s.srv := by
  obtain ⟨_, _, h⟩ := s.strobe_regs e; rw [h]
@[simp] theorem State.strobe_cp (s : State) (e : Nat) : (s.strobe e).cp = s.cp := by
  obtain ⟨_, _, h⟩ := s.strobe_regs e; rw [h]
@[simp] theorem State.strobe_eng (s : State) (e : Nat) : (s.strobe e).eng = s.eng := by
  obtain ⟨_, _, h⟩ := s.strobe_regs e; rw [h]
@[simp] theorem State.strobe_gain (s : State) (e : Nat) : (s.strobe e).gain = s.gain := by
  obtain ⟨_, _, h⟩ := s.strobe_regs e; rw [h]
@[simp] theorem State.strobe_route (s : State) (e : Nat) : (s.strobe e).route = s.route := by
  obtain ⟨_, _, h⟩ := s.strobe_regs e; rw [h]
@[simp] theorem State.strobe_tension (s : State) (e : Nat) : (s.strobe e).tension = s.tension := by
  obtain ⟨_, _, h⟩ := s.strobe_regs e; rw [h]
@[simp] theorem State.strobe_lio (s : State) (e : Nat) : (s.strobe e).lio = s.lio := by
  obtain ⟨_, _, h⟩ := s.strobe_regs e; rw [h]
@[simp] theorem State.strobe_fb (s : State) (e : Nat) : (s.strobe e).fb = s.fb := by
  obtain ⟨_, _, h⟩ := s.strobe_regs e; rw [h]
@[simp] theorem State.strobe_modCap (s : State) (e : Nat) : (s.strobe e).modCap = s.modCap := by
  obtain ⟨_, _, h⟩ := s.strobe_regs e; rw [h]
@[simp] theorem State.strobe_ring (s : State) (e : Nat) : (s.strobe e).ring = s.ring := by
  obtain ⟨_, _, h⟩ := s.strobe_regs e; rw [h]
@[simp] theorem State.strobe_pr (s : State) (e : Nat) : (s.strobe e).pr = s.pr := by
  obtain ⟨_, _, h⟩ := s.strobe_regs e; rw [h]
@[simp] theorem State.strobe_bear (s : State) (e : Nat) : (s.strobe e).bear = s.bear := by
  obtain ⟨_, _, h⟩ := s.strobe_regs e; rw [h]
@[simp] theorem State.strobe_store (s : State) (e : Nat) : (s.strobe e).store = s.store := by
  obtain ⟨_, _, h⟩ := s.strobe_regs e; rw [h]
@[simp] theorem State.strobe_tag (s : State) (e : Nat) : (s.strobe e).tag = s.tag := by
  obtain ⟨_, _, h⟩ := s.strobe_regs e; rw [h]
@[simp] theorem State.raise_pending (s : State) (g : Fld) (b base : Nat) : (s.raise g b base).pending = s.pending := by
  obtain ⟨_, _, h⟩ := s.raise_regs g b base; rw [h]
@[simp] theorem State.raise_member (s : State) (g : Fld) (b base : Nat) : (s.raise g b base).member = s.member := by
  obtain ⟨_, _, h⟩ := s.raise_regs g b base; rw [h]
@[simp] theorem State.raise_time (s : State) (g : Fld) (b base : Nat) : (s.raise g b base).time = s.time := by
  obtain ⟨_, _, h⟩ := s.raise_regs g b base; rw [h]
@[simp] theorem State.raise_clk (s : State) (g : Fld) (b base : Nat) : (s.raise g b base).clk = s.clk := by
  obtain ⟨_, _, h⟩ := s.raise_regs g b base; rw [h]
@[simp] theorem State.raise_freeCtr (s : State) (g : Fld) (b base : Nat) : (s.raise g b base).freeCtr = s.freeCtr := by
  obtain ⟨_, _, h⟩ := s.raise_regs g b base; rw [h]
@[simp] theorem State.raise_wire (s : State) (g : Fld) (b base : Nat) : (s.raise g b base).wire = s.wire := by
  obtain ⟨_, _, h⟩ := s.raise_regs g b base; rw [h]
@[simp] theorem State.raise_rdata (s : State) (g : Fld) (b base : Nat) : (s.raise g b base).rdata = s.rdata := by
  obtain ⟨_, _, h⟩ := s.raise_regs g b base; rw [h]
@[simp] theorem State.raise_hold (s : State) (g : Fld) (b base : Nat) : (s.raise g b base).hold = s.hold := by
  obtain ⟨_, _, h⟩ := s.raise_regs g b base; rw [h]
@[simp] theorem State.raise_pend64 (s : State) (g : Fld) (b base : Nat) : (s.raise g b base).pend64 = s.pend64 := by
  obtain ⟨_, _, h⟩ := s.raise_regs g b base; rw [h]
@[simp] theorem State.raise_mem (s : State) (g : Fld) (b base : Nat) : (s.raise g b base).mem = s.mem := by
  obtain ⟨_, _, h⟩ := s.raise_regs g b base; rw [h]
@[simp] theorem State.raise_memErr (s : State) (g : Fld) (b base : Nat) : (s.raise g b base).memErr = s.memErr := by
  obtain ⟨_, _, h⟩ := s.raise_regs g b base; rw [h]
@[simp] theorem State.raise_sys (s : State) (g : Fld) (b base : Nat) : (s.raise g b base).sys = s.sys := by
  obtain ⟨_, _, h⟩ := s.raise_regs g b base; rw [h]
@[simp] theorem State.raise_bg (s : State) (g : Fld) (b base : Nat) : (s.raise g b base).bg = s.bg := by
  obtain ⟨_, _, h⟩ := s.raise_regs g b base; rw [h]
@[simp] theorem State.raise_axes (s : State) (g : Fld) (b base : Nat) : (s.raise g b base).axes = s.axes := by
  obtain ⟨_, _, h⟩ := s.raise_regs g b base; rw [h]
@[simp] theorem State.raise_ports (s : State) (g : Fld) (b base : Nat) : (s.raise g b base).ports = s.ports := by
  obtain ⟨_, _, h⟩ := s.raise_regs g b base; rw [h]
@[simp] theorem State.raise_sats (s : State) (g : Fld) (b base : Nat) : (s.raise g b base).sats = s.sats := by
  obtain ⟨_, _, h⟩ := s.raise_regs g b base; rw [h]
@[simp] theorem State.raise_waiting (s : State) (g : Fld) (b base : Nat) : (s.raise g b base).waiting = s.waiting := by
  obtain ⟨_, _, h⟩ := s.raise_regs g b base; rw [h]
@[simp] theorem State.raise_srv (s : State) (g : Fld) (b base : Nat) : (s.raise g b base).srv = s.srv := by
  obtain ⟨_, _, h⟩ := s.raise_regs g b base; rw [h]
@[simp] theorem State.raise_cp (s : State) (g : Fld) (b base : Nat) : (s.raise g b base).cp = s.cp := by
  obtain ⟨_, _, h⟩ := s.raise_regs g b base; rw [h]
@[simp] theorem State.raise_eng (s : State) (g : Fld) (b base : Nat) : (s.raise g b base).eng = s.eng := by
  obtain ⟨_, _, h⟩ := s.raise_regs g b base; rw [h]
@[simp] theorem State.raise_gain (s : State) (g : Fld) (b base : Nat) : (s.raise g b base).gain = s.gain := by
  obtain ⟨_, _, h⟩ := s.raise_regs g b base; rw [h]
@[simp] theorem State.raise_route (s : State) (g : Fld) (b base : Nat) : (s.raise g b base).route = s.route := by
  obtain ⟨_, _, h⟩ := s.raise_regs g b base; rw [h]
@[simp] theorem State.raise_tension (s : State) (g : Fld) (b base : Nat) : (s.raise g b base).tension = s.tension := by
  obtain ⟨_, _, h⟩ := s.raise_regs g b base; rw [h]
@[simp] theorem State.raise_lio (s : State) (g : Fld) (b base : Nat) : (s.raise g b base).lio = s.lio := by
  obtain ⟨_, _, h⟩ := s.raise_regs g b base; rw [h]
@[simp] theorem State.raise_fb (s : State) (g : Fld) (b base : Nat) : (s.raise g b base).fb = s.fb := by
  obtain ⟨_, _, h⟩ := s.raise_regs g b base; rw [h]
@[simp] theorem State.raise_modCap (s : State) (g : Fld) (b base : Nat) : (s.raise g b base).modCap = s.modCap := by
  obtain ⟨_, _, h⟩ := s.raise_regs g b base; rw [h]
@[simp] theorem State.raise_ring (s : State) (g : Fld) (b base : Nat) : (s.raise g b base).ring = s.ring := by
  obtain ⟨_, _, h⟩ := s.raise_regs g b base; rw [h]
@[simp] theorem State.raise_pr (s : State) (g : Fld) (b base : Nat) : (s.raise g b base).pr = s.pr := by
  obtain ⟨_, _, h⟩ := s.raise_regs g b base; rw [h]
@[simp] theorem State.raise_bear (s : State) (g : Fld) (b base : Nat) : (s.raise g b base).bear = s.bear := by
  obtain ⟨_, _, h⟩ := s.raise_regs g b base; rw [h]
@[simp] theorem State.raise_store (s : State) (g : Fld) (b base : Nat) : (s.raise g b base).store = s.store := by
  obtain ⟨_, _, h⟩ := s.raise_regs g b base; rw [h]
@[simp] theorem State.raise_tag (s : State) (g : Fld) (b base : Nat) : (s.raise g b base).tag = s.tag := by
  obtain ⟨_, _, h⟩ := s.raise_regs g b base; rw [h]
@[simp] theorem State.emcy_pending (s : State) (c : Nat) (l : List Nat) : (s.emcy c l).pending = s.pending := by
  obtain ⟨_, h⟩ := s.emcy_srv c l; rw [h]
@[simp] theorem State.emcy_member (s : State) (c : Nat) (l : List Nat) : (s.emcy c l).member = s.member := by
  obtain ⟨_, h⟩ := s.emcy_srv c l; rw [h]
@[simp] theorem State.emcy_time (s : State) (c : Nat) (l : List Nat) : (s.emcy c l).time = s.time := by
  obtain ⟨_, h⟩ := s.emcy_srv c l; rw [h]
@[simp] theorem State.emcy_clk (s : State) (c : Nat) (l : List Nat) : (s.emcy c l).clk = s.clk := by
  obtain ⟨_, h⟩ := s.emcy_srv c l; rw [h]
@[simp] theorem State.emcy_freeCtr (s : State) (c : Nat) (l : List Nat) : (s.emcy c l).freeCtr = s.freeCtr := by
  obtain ⟨_, h⟩ := s.emcy_srv c l; rw [h]
@[simp] theorem State.emcy_wire (s : State) (c : Nat) (l : List Nat) : (s.emcy c l).wire = s.wire := by
  obtain ⟨_, h⟩ := s.emcy_srv c l; rw [h]
@[simp] theorem State.emcy_rdata (s : State) (c : Nat) (l : List Nat) : (s.emcy c l).rdata = s.rdata := by
  obtain ⟨_, h⟩ := s.emcy_srv c l; rw [h]
@[simp] theorem State.emcy_regs (s : State) (c : Nat) (l : List Nat) : (s.emcy c l).regs = s.regs := by
  obtain ⟨_, h⟩ := s.emcy_srv c l; rw [h]
@[simp] theorem State.emcy_hold (s : State) (c : Nat) (l : List Nat) : (s.emcy c l).hold = s.hold := by
  obtain ⟨_, h⟩ := s.emcy_srv c l; rw [h]
@[simp] theorem State.emcy_pend64 (s : State) (c : Nat) (l : List Nat) : (s.emcy c l).pend64 = s.pend64 := by
  obtain ⟨_, h⟩ := s.emcy_srv c l; rw [h]
@[simp] theorem State.emcy_mem (s : State) (c : Nat) (l : List Nat) : (s.emcy c l).mem = s.mem := by
  obtain ⟨_, h⟩ := s.emcy_srv c l; rw [h]
@[simp] theorem State.emcy_memErr (s : State) (c : Nat) (l : List Nat) : (s.emcy c l).memErr = s.memErr := by
  obtain ⟨_, h⟩ := s.emcy_srv c l; rw [h]
@[simp] theorem State.emcy_sys (s : State) (c : Nat) (l : List Nat) : (s.emcy c l).sys = s.sys := by
  obtain ⟨_, h⟩ := s.emcy_srv c l; rw [h]
@[simp] theorem State.emcy_bg (s : State) (c : Nat) (l : List Nat) : (s.emcy c l).bg = s.bg := by
  obtain ⟨_, h⟩ := s.emcy_srv c l; rw [h]
@[simp] theorem State.emcy_axes (s : State) (c : Nat) (l : List Nat) : (s.emcy c l).axes = s.axes := by
  obtain ⟨_, h⟩ := s.emcy_srv c l; rw [h]
@[simp] theorem State.emcy_ports (s : State) (c : Nat) (l : List Nat) : (s.emcy c l).ports = s.ports := by
  obtain ⟨_, h⟩ := s.emcy_srv c l; rw [h]
@[simp] theorem State.emcy_sats (s : State) (c : Nat) (l : List Nat) : (s.emcy c l).sats = s.sats := by
  obtain ⟨_, h⟩ := s.emcy_srv c l; rw [h]
@[simp] theorem State.emcy_waiting (s : State) (c : Nat) (l : List Nat) : (s.emcy c l).waiting = s.waiting := by
  obtain ⟨_, h⟩ := s.emcy_srv c l; rw [h]
@[simp] theorem State.emcy_cp (s : State) (c : Nat) (l : List Nat) : (s.emcy c l).cp = s.cp := by
  obtain ⟨_, h⟩ := s.emcy_srv c l; rw [h]
@[simp] theorem State.emcy_eng (s : State) (c : Nat) (l : List Nat) : (s.emcy c l).eng = s.eng := by
  obtain ⟨_, h⟩ := s.emcy_srv c l; rw [h]
@[simp] theorem State.emcy_gain (s : State) (c : Nat) (l : List Nat) : (s.emcy c l).gain = s.gain := by
  obtain ⟨_, h⟩ := s.emcy_srv c l; rw [h]
@[simp] theorem State.emcy_route (s : State) (c : Nat) (l : List Nat) : (s.emcy c l).route = s.route := by
  obtain ⟨_, h⟩ := s.emcy_srv c l; rw [h]
@[simp] theorem State.emcy_tension (s : State) (c : Nat) (l : List Nat) : (s.emcy c l).tension = s.tension := by
  obtain ⟨_, h⟩ := s.emcy_srv c l; rw [h]
@[simp] theorem State.emcy_lio (s : State) (c : Nat) (l : List Nat) : (s.emcy c l).lio = s.lio := by
  obtain ⟨_, h⟩ := s.emcy_srv c l; rw [h]
@[simp] theorem State.emcy_fb (s : State) (c : Nat) (l : List Nat) : (s.emcy c l).fb = s.fb := by
  obtain ⟨_, h⟩ := s.emcy_srv c l; rw [h]
@[simp] theorem State.emcy_modCap (s : State) (c : Nat) (l : List Nat) : (s.emcy c l).modCap = s.modCap := by
  obtain ⟨_, h⟩ := s.emcy_srv c l; rw [h]
@[simp] theorem State.emcy_ring (s : State) (c : Nat) (l : List Nat) : (s.emcy c l).ring = s.ring := by
  obtain ⟨_, h⟩ := s.emcy_srv c l; rw [h]
@[simp] theorem State.emcy_pr (s : State) (c : Nat) (l : List Nat) : (s.emcy c l).pr = s.pr := by
  obtain ⟨_, h⟩ := s.emcy_srv c l; rw [h]
@[simp] theorem State.emcy_bear (s : State) (c : Nat) (l : List Nat) : (s.emcy c l).bear = s.bear := by
  obtain ⟨_, h⟩ := s.emcy_srv c l; rw [h]
@[simp] theorem State.emcy_store (s : State) (c : Nat) (l : List Nat) : (s.emcy c l).store = s.store := by
  obtain ⟨_, h⟩ := s.emcy_srv c l; rw [h]
@[simp] theorem State.emcy_tag (s : State) (c : Nat) (l : List Nat) : (s.emcy c l).tag = s.tag := by
  obtain ⟨_, h⟩ := s.emcy_srv c l; rw [h]
@[simp] theorem State.emcy_edge (s : State) (c : Nat) (l : List Nat) : (s.emcy c l).edge = s.edge := by
  obtain ⟨_, h⟩ := s.emcy_srv c l; rw [h]
@[simp] theorem State.reg_emcy (s : State) (c : Nat) (l : List Nat) (x : Nat) : (s.emcy c l).reg x = s.reg x := by
  obtain ⟨_, h⟩ := s.emcy_srv c l; rw [h]; rfl
@[simp] theorem State.get_emcy (s : State) (c : Nat) (l : List Nat) (x : Fld) : (s.emcy c l).get x = s.get x := by
  unfold State.get; rw [State.reg_emcy]
@[simp] theorem State.flag_emcy (s : State) (c : Nat) (l : List Nat) (x : Fld) : (s.emcy c l).flag x = s.flag x := by
  unfold State.flag; rw [State.get_emcy]

end Sys2Proof.Machine
end

