-- ==== Sys2Proof/Tests/Slice0.lean ====
section
/-! SUPPORT. Tests: the witness states, one theorem per statement that its hypotheses can be met, the ill-formed terms, and a few
commands on the numbers of the manual's worked cases. -/

namespace Sys2Proof.Tests

set_option linter.all false
set_option maxRecDepth 100000
-- one theorem after another: each waits for the kernel, and many waiting threads would fill the memory limit
set_option Elab.async false

open Sys2Proof.Machine

/-! ### Witness states -/

/-- The state at the beginning of an edge: nothing has happened on it yet. -/
def fresh (s : State) : State :=
  { s with edge := { regs0 := s.regs, fb0 := s.fb, gain0 := s.gain, route0 := s.route, tension0 := s.tension } }
/-- A unit that has started: clocked, BOOT_DONE set. -/
def live : State := ({ State.reset with sys := { State.reset.sys with phase := .run, boot := .done } }).put BOOT_CTRL_BOOT_DONE 1
/-- The supervisor up, its self-test passed, the STO inputs closed. -/
def pw : State := live.modBg fun b => { b with powered := true, selftest := .passed, stoA := true, stoB := true, grdA := 15, grdB := 15 }
/-- A set in force: SLS of tap 0 with a fixed limit of 100 Hz, guard 0 with reaction STO, brake 2 supervised. -/
def scsSet : List Word := [1, 0x05, 0x00320004, 0, 0x18, 1000, 100, 0x00640032]
def pws : State := pw.modBg fun b => { b with inForce := some scsSet, hbArmed := true, hbRun := true }
/-- A set whose checksum is right, as the one accepted. -/
def scsGood : List Word :=
  let w : List Word := [1, 0, 0x00320000, 0, 0, 1000, 100, 0x00640032, 0, 1000, 100, 0x00640032, 0, 0, 0]
  w ++ [BitVec.ofNat 32 (crc32 (wordBytes w))]
def scsMatch : State := (pws.put BG_SCS_STAT_BUSY 1).modBg fun b => { b with scsLoad := true, scsStage := scsGood, accepted := some (scsWord scsGood 15) }
/-- HALT_N registered high, identity valid; axis 1 initialised. -/
def seq0 : State := ((live.modSys fun y => { y with haltN := true, identity := true }).put ROLE_STAT_CODE 0).put (AX_CTRL_INIT 1) 1
/-- Axis 1 in a state and mode, its ramp registers set. -/
def axAt (st : Cia) (m : Int) : State := (((seq0.modAxis 1 fun x => { x with st := st, mode := m, step := 3 }).setReg (AX_TSLOPE 1) 500).setReg (AX_PDEC 1) 600).setReg (AX_QSDEC 1) 700
/-- Axis 1 in Switched on with everything the enable asks for. -/
def ready1 : State :=
  let s := (axAt .switchedOn 0).put (AX_MODESEL_MODESEL 1) 3
  let s := (((s.put (ENG_CFG_LEAD 1) 2).put (ENG_CFG_CYC 1) 58).put (MOD_AX_SOFS 1) 10).put (MOD_AX_MDIV 1) 8
  let s := ((s.put (SP_CLK_N 2) 2).put (SP_CFG_AXMAP 2) 2).modPort 2 fun q => { q with st := .stream, cfgDone := 255 }
  let s := (((s.put (ENG_PWM_MINP 1) 500).put (ENG_PWM_DT 1) 100).put (ENG_BOOT_RFON 1) 600).put (ENG_BOOT_RFPER 1) 10
  let s := (List.range 3).foldl (fun s x => (s.put (ENG_PH_PORT 1 x) 2).put (ENG_PH_SELMASK 1 x) (3 * 4 ^ x)) s
  let s := ((s.put (ENG_SCALE_IFS 1) 100).put (ENG_SCALE_UFS 1) 100).put (ENG_FB_SRC 1) 1
  s.put (INC_CFG_EN 1) 1
/-- Port 2 streaming in D mode with eight selects of pattern style. -/
def stream2 : State :=
  let s := ((live.put (SP_CFG_DMODE 2) 1).put (SP_CFG_SELMAP 2) 255).put (SP_BUSY_STYLE 2) 255
  (s.put (SP_CFG2_BADLIM 2) 8).modPort 2 fun q => { q with st := .stream, slot := 7 }
def fl2 : Flight := ⟨.tenant, 0, 0x0800AB00, 3, false, 5, 0, 1, 0, true⟩
/-- The bits of a good reply to `fl2`: alive 1, status 0, payload 0. -/
def goodBits : List Bool := false :: (List.range 40).map fun i => bitOf (frameWord 1 0 0x1234) (39 - i)
def badBits : List Bool := false :: (List.range 40).map fun i => bitOf (frameWord 1 0 0x1234 + 1) (39 - i)
/-- Incremental channel 1, Hall set 1 and SSI channel 1 enabled, 1024 counts, 4 pole pairs. -/
def fb1 : State := ((((live.put (INC_CFG_EN 1) 1).put (INC_CPR_CPR 1) 1024).put (HALL_CFG_EN 1) 1).put (HALL_CFG_PP 1) 4).put (SSI_CFG_EN 1) 1
/-- Lamp 1 enabled, steady, threshold 100 mA. -/
def lamp1 : State := ((live.put (LAMP_CFG_EN 1) 1).put (LAMP_MODE_MODE 1) 1).put (LAMP_CFG_DARKTH 1) 100
/-- Axis 1 with channel 3 as its phase A modulator, ready for a sample. -/
def samp1 : State :=
  let s := ((axAt .disabled 0).put (MOD_CFG_EN 3) 1).put (MOD_CFG_AXIS 3) 1
  let s := ((s.put (MOD_CAL_GAIN 3) 16384).put (MOD_CAL_OFFSET 3) 0).put (MOD_AX_EN 1) 1
  let s := (((s.put (ENG_CFG_LEAD 1) 2).put (ENG_CFG_CYC 1) 58).put (SP_CLK_N 2) 2).put (MOD_AX_MDIV 1) 8
  let s := ((s.put (ENG_SCALE_IFS 1) 100).put (ENG_PROT_OCLIM 1) 50).put (ENG_UDCLIM_UDCMAX 1) 900
  s.modEng 1 fun e => { e with sampled := false }
/-- Emergency release 1 of axis 1 enabled in FREE form, its conditions holding. -/
def erl1 : State :=
  let s := ((((axAt .disabled 0).put (ERL_CFG_EN 1) 1).put (ERL_CFG_AXIS 1) 1).put (ERL_CFG_FORM 1) 1).put (ERL_GOV_GOV 1) 100
  ((s.put (WN_DRUM_DRUMSRC 1) 1).put (INC_CFG_EN 1) 1).modBg fun b => { b with powered := true, permit := true, snap := 16 }
/-- Unit 5 of ring 1, joined and CLOSED, both links up. -/
def rg : State :=
  ((((live.put NODE_VALID 1).put NODE_RINGNO 1).put NODE_UNIT 5).put ROLE_STAT_CODE 0).modRing fun r =>
    { r with st := .closed, linkA := true, linkB := true, fseq := 7, sentN := 3 }
/-- A ring frame of TYPE `ty` from unit 3 of ring 1 to `dst`. -/
def rf (ty dst : Nat) (pay : List Byte) : List Byte :=
  padTo 60 (beBytes 6 0x0347D1000000 ++ beBytes 6 0x0247D1000043 ++ beBytes 2 0x88B5 ++ [0x10, BitVec.ofNat 8 ty] ++ beBytes 2 67
    ++ beBytes 2 dst ++ beBytes 2 9 ++ [64, 0] ++ beBytes 2 pay.length ++ pay)
/-- The same unit a member of group 2 with its axis 1, rated 10 N·m. -/
def grp : State :=
  (((((rg.put (GRP_CFG_EN 2) 1).put (RG_AX_EN 1) 1).put (RG_AX_GROUP 1) 2).put (RG_AX_RATED 1) 2560).put (GRP_CFG2_RSTEP 2) 50)
/-- A SHARE payload of group 2 that lists axis 1 of unit 5 with 30. -/
def sharePl : List Byte := sharePay 2 0 4 1000 [(41, 30)]
/-- A SYS payload from unit 3 to unit 5, with TID 0x1234. -/
def sysPl (cmd : Nat) (d : List Byte) : List Byte := sysPay 67 69 8 cmd 0x1234 d
/-- The pair enabled, SW8 on, slot 1, partner unit 6; axis 1 paired, on port 2. -/
def cpS : State :=
  let s := ((((rg.put CP_CFG_EN 1).put CP_CFG_PARTNER 6).put CP_CFG_PER 5).put CP_CFG_MAXAGE 3).put ROLE_STAT_CODE 1
  ((s.put CP_AX_AXMAP 2).put (SP_CFG_AXMAP 2) 2).modBg fun b => { b with powered := true, snap := 128 }
/-- The standby of that pair, and its duty, streaming on port 2 with axis 1 in Operation enabled. -/
def sby : State := cpS.put CP_STAT_ROLE 2
def duty1 : State :=
  let s := ((cpS.put CP_STAT_ROLE 1).modCp fun c => { c with claim := true }).modPort 2 fun q => { q with st := .stream }
  s.modAxis 1 fun x => { x with st := .enabled, mode := 3 }
/-- A frame of the partner (unit 6 of ring 1) to unit 5. -/
def pf (ty : Nat) (pay : List Byte) : List Byte := fput (rf ty 69 pay) 16 2 70
/-- What a fitting partner's PAIR frame says, and its payload. -/
def pairOk : PairInfo := ⟨1, 2, 128, 3, 0, 0, 2, 5, 3, 1, 70⟩
def pairPl : List Byte := [1, 2, 128, 3] ++ beBytes 4 0 ++ beBytes 4 0 ++ [2, 5, 3, 1]
/-- An image of epoch 9 without axes, groups or user area, its pieces received but the last frame. -/
def img9 : List Byte := leBytes 4 9 ++ leBytes 8 0 ++ leBytes 4 0 ++ List.replicate 16 0
def part9 : CopyPart := ⟨9, [(0, img9)], some (32, crc32 img9), some 0⟩
/-- The store scanned, bank A running and confirmed. -/
def st1 : State := (live.setBankWord 0 20 0xFFFFFFFF).modStore fun x => { x with ready := true, used := [0], off := 16 }
/-- The same with a transaction of tenant 3 open. -/
def tx1 : State := (st1.setMarker 0 5).modStore fun x => { x with tx := some (1, 3), tseq := 1 }
/-- The field on, the tag in a state of R544, and an axis in SERVICE with SW7 on. -/
def tag1 : State := live.modTag fun x => { x with field := true, sess := 1 }
def svc1 : State := (tag1.modBg fun b => { b with snap := 64 }).modAxis 1 fun x => { x with st := .enabled, mode := -3 }
/-- A running duty whose supervisor is powered, a query and an answer waiting. -/
def run1 : State := ((duty1.modBg fun b => { b with haltN := true, gpeN := false, permit := true }).modRing fun r => { r with queries := [(67, 5)] }).modSys
  fun y => { y with wdtOn := true }
/-- The same in the pre-reset phase of a software request, with two answers of step 4 held. -/
def pre1 : State := run1.modSys fun y => { y with phase := .pre, preSrc := some .software, preAnswers := [(true, [⟨.ring, [0, 1], []⟩]), (false, [⟨.ring, [1, 1], []⟩])] }
/-- Seated with both pins and the rail up, no feed; and one that has started. -/
def seat0 : State := State.reset.modBear fun b => { b with rail := true, seated := true, beenSeated := true, pres1 := true, pres3 := true }
def wait0 : State := (seat0.coldStart .powerOn 0 0)
/-- A bridge with its link up, one frame outstanding. -/
def brg : State := (((rg.put RING_CFG_ROLE 1).setReg (RING_BRT 0) 4).modBear fun b => { b with up := true, good := 3, seq := 6 })
def brgOut : State := brg.modBear fun b => { b with out := some (false, sysPay 67 133 7 1 9 [], false) }
/-- Both CAN channels enabled on node 5, Operational, the server running. -/
def can1 : State :=
  let s := ((((rg.put NODE_NODEID 5).put (CAN_CFG_EN 0) 1).put (CAN_CFG_EN 1) 1).put PDO_NMT_STATE 2).put PDO_HB_ALIVE 1
  ((s.put (EVT_ROUTE_TENANT 17) 3).put (TEN_CORE_EN 3) 1).put (TEN_CORE_CORE 3) 1
/-- Axis 1 under fieldbus control in Operation enabled, speed mode; object 0x6007 as in its default. -/
def fbus : State := (((can1.modAxis 1 fun x => { x with st := .enabled, mode := 3, step := 3 }).put (AX_CWSRC_SRC 1) 1).put (AX_CTRL_INIT 1) 1)
/-- DMA channel 5 owned by tenant 3, its resume registers set. -/
def dma1 : State := ((((can1.put (DMA_CFG_OWNER 5) 3).setReg (DMA_DESC 5) 0x20000100).setReg (DMA_RES_SRC 5) 0x20001000).setReg (DMA_RES_CNT 5) 7)
/-- RPDO 2 valid at 0x205 on both channels, 2 bytes, asynchronous, with one entry: AX_CW of axis 1; TPDO 3 at 0x185 with AX_SW of axis 1. -/
def pdo1 : State :=
  let s := (fbus.setReg (RPDO_COBID 2) 0x205).setReg (RPDO_CTL 2) 0x03FF0064
  let s := ((s.setReg (pdoMap false 2 0) (BitVec.ofNat 32 ((AX_CW 1 - 0x40000000) / 4 * 8192 + 64))).put (pdoLen false 2) 2).put (pdoNent false 2) 1
  let s := ((s.put (pdoAxes false 2) 2).setReg (TPDO_COBID 3) 0x185).setReg (pdoBase true 3 + 4) 0x03FF0000
  ((s.setReg (pdoMap true 3 0) (BitVec.ofNat 32 ((AX_SW 1 - 0x40000000) / 4 * 8192 + 64))).put (pdoLen true 3) 2).put (pdoNent true 3) 1
/-- Core 1 runs tenant 3 with window 0 over shared SRAM and window 1 over all peripherals, every right, every block its own. -/
def core1 : State :=
  let s := (((can1.put (TEN_CORE_EN 3) 1).put (TEN_CORE_CORE 3) 1).put (TEN_OWN_OWN 3) 0x7FFFFFF).modCore 1 fun x => { x with run := some 3, back := some 3 }
  ((s.setReg (TW_BASE 3 0) 0x2000000F).setReg (TW_LIM 3 0) 0x203FF001).modBank 3 fun b => { b with pc := 0x20001000, mtvec := 0x20000101 }

/-! ### The hypotheses of the statements can be met, clause by clause -/

theorem wit_SatelliteAnswersReads :
    (let s : State := live; let p : Fin 6 := 2; let k : Fin 8 := 3; let f : CmdFrame := ⟨1000, 5⟩; (s.listens p k)) ∧
    (let s : State := live; let p : Fin 6 := 2; let k : Fin 8 := 3; let f : CmdFrame := ⟨1000, 5⟩; let payload : BitVec 24 := 0x090000#24; let v : Nat := 255; (s.listens p k) ∧ (payload.toNat / 2 ^ 22 = 0) ∧ (payload.toNat % 2 ^ 16 = 0) ∧ ((s.heard p k f).readReg (payload.toNat / 65536) = some v)) ∧
    (let s : State := live; let p : Fin 6 := 2; let k : Fin 8 := 3; let f : CmdFrame := ⟨1000, 5⟩; let i : Fin 7 := 6; (s.listens p k)) ∧
    (let s : State := live; let p : Fin 6 := 2; let k : Fin 8 := 3; let f : CmdFrame := ⟨1000, 5⟩; (s.listens p k)) := by
  refine ⟨?_, ?_, ?_, ?_⟩ <;> (dsimp only [State.listens]; decide +kernel)

theorem wit_SatelliteWritesTakeEffect :
    (let s : State := live; let p : Fin 6 := 2; let k : Fin 8 := 3; let now : Nat := 1000; let alive : Fin 16 := 5; let payload : BitVec 24 := 0x090020#24; let cmp : Bool := false; let a : Nat := 9; let b : Nat := 1; let v : Nat := 32; let m : Nat := 255; ((s.sat p k).inReset = false) ∧ ((s.sat p k).frame = .idle) ∧ (payload.toNat = a * 65536 + v) ∧ (v < 65536) ∧ (satSetBit a = some b) ∧ (satWritable a = some m) ∧ (v &&& (0xFFFF ^^^ m) = 0) ∧ (satInRange a v = true) ∧ ((s.sat p k).done = false)) ∧
    (let s : State := (live.modSat 2 3 fun x => { x with written := 0x3FF }); let p : Fin 6 := 2; let k : Fin 8 := 3; let now : Nat := 1000; let alive : Fin 16 := 5; ((s.sat p k).inReset = false) ∧ ((s.sat p k).frame = .idle) ∧ ((s.sat p k).written = 0x3FF) ∧ ((s.sat p k).done = false)) ∧
    (let s : State := live; let p : Fin 6 := 2; let k : Fin 8 := 3; let now : Nat := 1000; let alive : Fin 16 := 5; let bits : BitVec 16 := 0x0170#16; let cmp : Bool := true; ((s.sat p k).inReset = false) ∧ ((s.sat p k).frame = .idle) ∧ (bits.toNat &&& (0xFFFF ^^^ 0x81F7) = 0) ∧ ((bits.getLsbD 7 && cmp) = false) ∧ ((bits.getLsbD 6 && ((s.sat p k).low.posUv || (s.sat p k).low.negUv)) = false)) ∧
    (let s : State := live; let p : Fin 6 := 2; let k : Fin 8 := 3; let now : Nat := 1000; let alive : Fin 16 := 5; let data : BitVec 16 := 7#16; ((s.sat p k).inReset = false) ∧ ((s.sat p k).frame = .idle)) ∧
    (let s : State := live; let p : Fin 6 := 2; let k : Fin 8 := 3; let now : Nat := 1000; let alive : Fin 16 := 5; ((s.sat p k).inReset = false) ∧ ((s.sat p k).srstDue = false) ∧ ((s.sat p k).frame ≠ .opened)) ∧
    (let s : State := (live.modSat 2 3 fun x => { x with written := 0x3FF, frame := .opened }); let p : Fin 6 := 2; let k : Fin 8 := 3; let now : Nat := 1000; let alive : Fin 16 := 5; ((s.sat p k).inReset = false) ∧ ((s.sat p k).srstDue = false) ∧ ((s.sat p k).frame = .opened)) := by
  refine ⟨?_, ?_, ?_, ?_, ?_, ?_⟩ <;> (dsimp only; decide +kernel)

theorem wit_SatelliteRunsAndRefusals :
    (let s : State := live; let p : Fin 6 := 2; let k : Fin 8 := 3; let f : CmdFrame := ⟨1000, 5⟩; let i : Fin 7 := 4; ((s.sat p k).inReset = false) ∧ ((s.sat p k).frame = .idle) ∧ (bitOf (s.sat p k).tlmcfg 15 = false) ∧ ((s.sat p k).conv = none) ∧ ((s.sat p k).diag = none)) ∧
    (let s : State := (live.modSat 2 3 fun x => { x with conv := some 4 }); let p : Fin 6 := 2; let k : Fin 8 := 3; let result : BitVec 12 := 0x123#12; let ovr : Bool := true; let c : Fin 7 := 4; let v : Nat := 4095; ((s.sat p k).inReset = false) ∧ ((s.sat p k).conv = some c) ∧ ((v = if ovr then 4095 else result.toNat))) ∧
    (let s : State := live; let p : Fin 6 := 2; let k : Fin 8 := 3; let f : CmdFrame := ⟨1000, 5⟩; let isel : Fin 3 := 2; ((s.sat p k).inReset = false) ∧ ((s.sat p k).frame = .idle) ∧ ((s.sat p k).diag = none) ∧ ((s.sat p k).still (f.t + 81) = true)) ∧
    (let s : State := (live.modSat 2 3 fun x => { x with diag := some 1 }); let p : Fin 6 := 2; let k : Fin 8 := 3; let va : BitVec 12 := 900#12; let vb : BitVec 12 := 800#12; let tb : Nat := 4000; ((s.sat p k).inReset = false) ∧ ((s.sat p k).diag.isSome = true) ∧ ((s.sat p k).conv = none)) ∧
    (let s : State := live; let p : Fin 6 := 2; let k : Fin 8 := 3; let f : OpFrame := ⟨1000, 5, 11⟩; ((s.sat p k).inReset = false) ∧ ((s.sat p k).frame = .idle) ∧ (satReserved f.opcode = true)) ∧
    (let s : State := live; let p : Fin 6 := 2; let k : Fin 8 := 3; let f : BadFrame := ⟨1000, true, false⟩; ((s.sat p k).inReset = false) ∧ ((s.sat p k).frame ≠ .taken)) := by
  refine ⟨?_, ?_, ?_, ?_, ?_, ?_⟩ <;> (dsimp only; decide +kernel)

theorem wit_SatelliteGateCommands :
    (let s : State := (live.modSat 2 3 fun x => { x with boot := false, done := true, written := 0x3FF }); let p : Fin 6 := 2; let now : Nat := 1000; let alive : Fin 16 := 5; let k : Fin 8 := 3; let payload : BitVec 24 := 0x0C30FF#24; (s.listens p k) ∧ (bitsOf payload.toNat 21 20 = 0) ∧ ((s.sat p k).edgeBad now payload.toNat = false) ∧ ((s.sat p k).boot = false)) ∧
    (let s : State := (live.modSat 2 3 fun x => { x with boot := false, events := [⟨1300, 1172, true, true⟩, ⟨1200, 1172, false, true⟩] }); let p : Fin 6 := 2; let now : Nat := 1000; let alive : Fin 16 := 5; let k : Fin 8 := 3; let swH : Switching := ⟨20, 3⟩; let swL : Switching := ⟨30, 3⟩; let due : Nat := 1200; ((s.sat p k).inReset = false) ∧ ((s.sat p k).nextDue = some due)) ∧
    (let s : State := (live.modSat 2 3 fun x => { x with boot := false, events := [⟨1300, 1172, true, true⟩] }); let p : Fin 6 := 2; let now : Nat := 1000; let alive : Fin 16 := 5; let k : Fin 8 := 3; let swH : Switching := ⟨20, 3⟩; let swL : Switching := ⟨30, 3⟩; let e : SatEvent := ⟨1300, 1172, true, true⟩; ((s.sat p k).inReset = false) ∧ ((s.sat p k).events = [e]) ∧ ((s.sat p k).diag = none) ∧ (((s.sat p k).gate e.high).posUv = false) ∧ (((s.sat p k).gate e.high).negUv = false) ∧ (((s.sat p k).gate (!e.high)).on = false) ∧ (((s.sat p k).gate (!e.high)).offAt = none)) := by
  refine ⟨?_, ?_, ?_⟩ <;> (dsimp only [State.listens]; decide +kernel)

theorem wit_SatelliteProtection :
    (let s : State := live; let p : Fin 6 := 2; let k : Fin 8 := 3; let now : Nat := 77; ((s.sat p k).inReset = false) ∧ ((s.sat p k).frame ≠ .taken)) ∧
    (let s : State := live; let p : Fin 6 := 2; let k : Fin 8 := 3; let now : Nat := 77; ((s.sat p k).inReset = false) ∧ ((s.sat p k).frame ≠ .taken)) ∧
    (let s : State := live; let p : Fin 6 := 2; let k : Fin 8 := 3; let now : Nat := 77; ((s.sat p k).inReset = false)) ∧
    (let s : State := (live.modSat 2 3 fun x => { x with high := { x.high with on := true } }); let p : Fin 6 := 2; let k : Fin 8 := 3; let high : Bool := true; let neg : Bool := false; let now : Nat := 9; (((s.sat p k).gate high).on = true) ∧ (((if neg then ((s.sat p k).gate high).negUv else ((s.sat p k).gate high).posUv) = false))) ∧
    (let s : State := (live.modSat 2 3 fun x => { x with low := { x.low with collapsed := true, posUv := true } }); let p : Fin 6 := 2; let k : Fin 8 := 3; let high : Bool := false; (((s.sat p k).gate high).collapsed = true)) ∧
    (let s : State := (live.modSat 2 3 fun x => { x with sccfg := 0x48, high := { x.high with on := true } }); let p : Fin 6 := 2; let k : Fin 8 := 3; let high : Bool := true; let now : Nat := 1000; let mv : List Nat := List.replicate 6 9000; ((s.sat p k).inReset = false) ∧ (((s.sat p k).gate high).on = true) ∧ ((bitOf (s.sat p k).sccfg (if high then 3 else 2) = true)) ∧ (((s.sat p k).gate high).onAt + (s.sat p k).blank + bitsOf (s.sat p k).sccfg 7 4 ≤ now + 1) ∧ (bitsOf (s.sat p k).sccfg 7 4 ≤ mv.length) ∧ ((∀ v ∈ mv, scThreshold (s.sat p k).sccfg < v))) := by
  refine ⟨?_, ?_, ?_, ?_, ?_, ?_⟩ <;> (dsimp only; decide +kernel)

theorem wit_ChannelsCutAndRelease :
    (let s : State := pws; let chB : Bool := true; (s.bg.powered = true) ∧ (s.stoOpen chB = false)) ∧
    (let s : State := (pw.modBg fun b => { b with inForce := some [0x101], release := .run, haltN := true, permit := true, gpeN := false }); let chB : Bool := false; (s.bg.powered = true) ∧ (s.stoOpen chB = false) ∧ (s.scs 0 8 8 0 = 1) ∧ (s.bg.release ≠ .gate)) ∧
    (let s : State := (pws.modBg fun b => { b with stoB := false, stoNeed := true, stoBothOpen := true }); let chB : Bool := true; (s.bg.powered = true) ∧ (s.stoOpen chB = true) ∧ (s.stoOpen (!chB) = false)) ∧
    (let s : State := pws; let g : Fin 4 := 0; let chB : Bool := false; (s.bg.powered = true) ∧ (s.grdOpen g chB = false) ∧ (bitOf (s.guard g) 0 = true) ∧ (bitsOf (s.guard g) 3 2 = 1)) ∧
    (let s : State := (pws.modBg fun b => { b with grdA := 0 }); let g : Fin 4 := 0; let chB : Bool := false; (s.bg.powered = true) ∧ (s.grdOpen g chB = true)) ∧
    (let s : State := (pws.modBg fun b => { b with ss1 := true }); (s.bg.powered = true) ∧ (s.bg.ss1 = true)) ∧
    (let s : State := pws; (s.releaseOk = true) ∧ (s.bg.release = .cut)) ∧
    (let s : State := live; (s.releaseOk = false)) ∧
    (let s : State := (pws.modBg fun b => { b with release := .gate, gpeN := false, permit := true }); (s.releaseOk = true) ∧ (s.bg.release = .gate)) ∧
    (let s : State := (pw.modBg fun b => { b with release := .gate, gpeN := false, permit := true }); (s.releaseOk = false) ∧ (s.bg.release = .gate)) := by
  refine ⟨?_, ?_, ?_, ?_, ?_, ?_, ?_, ?_, ?_, ?_⟩ <;> (dsimp only; decide +kernel)

theorem wit_SupervisorFaultsLatch :
    (let s : State := (pws.modBg fun b => { b with stoB := false }); (s.bg.powered = true) ∧ (s.stoOpen false ≠ s.stoOpen true)) ∧
    (let s : State := pws; let a : Fin 8 := 2; let relLow : Bool := true; (s.bg.powered = true) ∧ (bitOf (s.scs 2 7 0 0) a = true) ∧ (relLow ≠ s.bg.brkFb.getLsbD a.1)) ∧
    (let s : State := (pws.modBg fun b => { b with sls := upd b.sls 0 fun t => { t with sent := [49, 51] } }); let tap : Fin 2 := 0; let own : Nat := 50; let x : Nat := 49; let y : Nat := 51; (s.bg.powered = true) ∧ (s.scs (4 + 4 * tap.1) 3 3 0 = 1) ∧ (s.bg.sls[tap].sent = [x, y])) ∧
    (let s : State := (pws.modBg fun b => { b with sls := upd b.sls 0 fun t => { t with sent := [149, 151], viol := 4 } }); let tap : Fin 2 := 0; let own : Nat := 150; let x : Nat := 149; let y : Nat := 151; (s.bg.powered = true) ∧ (s.scs (4 + 4 * tap.1) 3 3 0 = 1) ∧ (s.bg.sls[tap].sent = [x, y]) ∧ (s.scs (4 + 4 * tap.1) 4 4 0 = 1) ∧ (s.scs (6 + 4 * tap.1) 31 0 0 < own) ∧ (s.bg.sls[tap].viol = 4)) ∧
    (let s : State := pws; let sw : BitVec 8 := 0#8; (s.bg.powered = true) ∧ (sw.toNat = s.bg.snap)) ∧
    (let s : State := (pws.modBg fun b => { b with sealMis := 1 }); let sw : BitVec 8 := 4#8; let i : Nat := 2; (s.bg.powered = true) ∧ (sw.toNat ≠ s.bg.snap) ∧ (s.bg.sealMis = 1) ∧ ((firstIdx (fun j => bitOf sw.toNat j != bitOf s.bg.snap j) (List.range 8) = some i))) ∧
    (let s : State := pws; let haltHigh : Bool := false; let pins : PinLevels := ⟨true, 0⟩; (s.bg.powered = true) ∧ (haltHigh = s.bg.haltN) ∧ (pins.gpe = s.bg.gpeN)) ∧
    (let s : State := (pws.modBg fun b => { b with rbHalt := 3 }); let haltHigh : Bool := true; let pins : PinLevels := ⟨true, 0⟩; (s.bg.powered = true) ∧ (haltHigh ≠ s.bg.haltN) ∧ (s.bg.rbHalt = 3)) ∧
    (let s : State := (pws.modBg fun b => { b with hbOpen := true, hbMiss := 1 }); let chal : BitVec 8 := 90#8; (s.bg.powered = true) ∧ (s.bg.hbArmed = true) ∧ (s.bg.hbOpen = true) ∧ (s.bg.hbAnswered = false) ∧ (s.bg.hbMiss = 1)) ∧
    (let s : State := pws; let test : Fin 8 := 3; (s.bg.powered = true)) := by
  refine ⟨?_, ?_, ?_, ?_, ?_, ?_, ?_, ?_, ?_, ?_⟩ <;> (dsimp only; decide +kernel)

theorem wit_SafetySetCommands :
    (let s : State := pws; (s.up = true) ∧ (s.get BG_SCS_STAT_BUSY = 0)) ∧
    (let s : State := (pws.put BG_SCS_STAT_BUSY 1); (s.up = true) ∧ (s.get BG_SCS_STAT_BUSY = 1)) ∧
    (let s : State := pws; (s.up = true) ∧ (s.get BG_SCS_STAT_BUSY = 0)) ∧
    (let s : State := ((pws.put BG_SCS_STAT_BUSY 1).modBg fun b => { b with scsLoad := true, scsStage := [1] }); let e : Nat := 1; (s.up = true) ∧ (s.bg.powered = true) ∧ (s.get BG_SCS_STAT_BUSY = 1) ∧ (s.bg.scsLoad = true) ∧ (scsError s s.bg.scsStage = e) ∧ (0 < e)) ∧
    (let s : State := scsMatch; (s.up = true) ∧ (s.bg.powered = true) ∧ (s.get BG_SCS_STAT_BUSY = 1) ∧ (s.bg.scsLoad = true) ∧ (scsError s s.bg.scsStage = 0) ∧ (s.bg.accepted = some (scsWord s.bg.scsStage 15))) ∧
    (let s : State := ((pws.put BG_SCS_STAT_BUSY 1).modBg fun b => { b with scsCommit := true, scsAct := true, cand := some scsSet, actAt := some 0 }); let w : List Word := scsSet; (s.up = true) ∧ (s.bg.powered = true) ∧ (s.get BG_SCS_STAT_BUSY = 1) ∧ (s.bg.scsLoad = false) ∧ (s.bg.scsCommit = true) ∧ (s.bg.cand = some w) ∧ (s.candHolds = true) ∧ (s.bg.scsAct = true)) ∧
    (let s : State := pw; (s.up = true) ∧ (s.bg.powered = true) ∧ (s.bg.hbArmed = false)) ∧
    (let s : State := (pws.modBg fun b => { b with hbOpen := true, hbAnswered := true }); let chal : BitVec 8 := 90#8; (s.up = true) ∧ (s.bg.powered = true) ∧ (s.bg.hbArmed = true) ∧ (s.bg.hbOpen = true) ∧ (s.bg.hbAnswered = true)) ∧
    (let s : State := ((pws.put BG_HB_CHAL_CHAL 0x5A).modBg fun b => { b with hbOpen := true }); let w : Word := 0x000009A5#32; (s.up = true) ∧ (s.bg.powered = true) ∧ (s.bg.hbArmed = true) ∧ (s.bg.hbOpen = true) ∧ (s.bg.hbWrites = 0) ∧ (fieldOf w 7 0 = 255 - s.get BG_HB_CHAL_CHAL) ∧ (modesValid s (fieldOf w 31 8) = true)) ∧
    (let s : State := ((pws.put BG_HB_CHAL_CHAL 0x5A).modBg fun b => { b with hbOpen := true }); let w : Word := 0x00000011#32; (s.up = true) ∧ (s.bg.powered = true) ∧ (s.bg.hbArmed = true) ∧ (s.bg.hbOpen = true) ∧ ((s.bg.hbWrites ≠ 0 ∨ fieldOf w 7 0 ≠ 255 - s.get BG_HB_CHAL_CHAL))) := by
  refine ⟨?_, ?_, ?_, ?_, ?_, ?_, ?_, ?_, ?_, ?_⟩ <;> (dsimp only; decide +kernel)

theorem wit_LockoutResetActs :
    (let s : State := pws; let a : Bool := true; (s.bg.powered = true)) ∧
    (let s : State := pws; (s.bg.powered = true)) ∧
    (let s : State := (pws.modBg fun b => { b with latched := true, first := 1, causes := 2, causeIdx := [(1, 0)] }); let pressed : Nat := 800; let released : Nat := 1500; (s.bg.powered = true) ∧ (500 ≤ pressed) ∧ (pressed < 5000) ∧ (1000 ≤ released) ∧ (s.bg.lorVoid = false) ∧ (s.bg.latched = true) ∧ (s.allGone = true)) ∧
    (let s : State := (pws.modBg fun b => { b with latched := true, first := 9, causes := 512, causeIdx := [(9, 0)] }); let pressed : Nat := 800; let released : Nat := 1500; (s.bg.powered = true) ∧ (500 ≤ pressed) ∧ (pressed < 5000) ∧ (1000 ≤ released) ∧ (s.bg.lorVoid = false) ∧ (s.bg.latched = true) ∧ (s.allGone = false)) ∧
    (let s : State := (pws.modBg fun b => { b with latched := true, snap := 8, live := 8, window := true }); (s.bg.powered = true) ∧ (s.up = true) ∧ (s.bg.window = true) ∧ (bitOf s.bg.snap 3 = true) ∧ (s.allGone = true)) ∧
    (let s : State := pws; let key : Word := 0x5555#32; (s.bg.powered = true) ∧ (s.up = true) ∧ ((key ≠ 0xA55A ∨ s.bg.window = false))) ∧
    (let s : State := pws; (s.bg.powered = true)) := by
  refine ⟨?_, ?_, ?_, ?_, ?_, ?_, ?_⟩ <;> (dsimp only; decide +kernel)

theorem wit_ControlwordInSafeStates :
    (let s : State := (fresh (axAt .disabled 0)); let a : Fin 8 := 1; let src : Bool := false; let v : BitVec 16 := 6#16; (s.up = true) ∧ (s.hasAxis a = true) ∧ (s.quietEdge) ∧ (s.unclaimed = false) ∧ (s.axes[a].warm = false) ∧ (s.cp.take = none) ∧ (s.get (AX_CWSRC_SRC a) = b2n src) ∧ (cwCmd v.toNat = .shutdown) ∧ ((s.axes[a].st = .disabled ∨ s.axes[a].st = .switchedOn))) ∧
    (let s : State := (fresh (axAt .disabled 0)); let a : Fin 8 := 1; let src : Bool := true; let v : BitVec 16 := 6#16; (s.up = true) ∧ (s.hasAxis a = true) ∧ (s.quietEdge) ∧ (s.unclaimed = false) ∧ (s.axes[a].warm = false) ∧ (s.cp.take = none) ∧ (s.get (AX_CWSRC_SRC a) = b2n (!src)) ∧ (cwCmd v.toNat = .shutdown)) ∧
    (let s : State := (fresh (axAt .ready 0)); let a : Fin 8 := 1; let src : Bool := false; let v : BitVec 16 := 7#16; (s.up = true) ∧ (s.hasAxis a = true) ∧ (s.quietEdge) ∧ (s.unclaimed = false) ∧ (s.axes[a].warm = false) ∧ (s.cp.take = none) ∧ (s.get (AX_CWSRC_SRC a) = b2n src) ∧ (cwCmd v.toNat = .switchOn) ∧ (s.axes[a].st = .ready)) ∧
    (let s : State := (fresh ready1); let a : Fin 8 := 1; let src : Bool := false; let v : BitVec 16 := 15#16; let m : Int := 3; (s.up = true) ∧ (s.hasAxis a = true) ∧ (s.quietEdge) ∧ (s.unclaimed = false) ∧ (s.axes[a].warm = false) ∧ (s.cp.take = none) ∧ (s.get (AX_CWSRC_SRC a) = b2n src) ∧ (cwCmd v.toNat = .enableOp) ∧ (s.axes[a].st = .switchedOn) ∧ (m = sgn 8 (s.get (AX_MODESEL_MODESEL a))) ∧ (m ≠ 0) ∧ (s.routeOf a ≠ 2) ∧ (s.sys.haltN = true) ∧ (s.sys.ss1 = false) ∧ (s.axes[a].inhibit = false) ∧ (s.parked = false) ∧ (s.stageReady a = true) ∧ (s.freeActs a = false) ∧ (s.chanEn (s.get (ENG_FB_SRC a)) = true) ∧ (s.chanLoss (s.get (ENG_FB_SRC a)) = false)) ∧
    (let s : State := (fresh (ready1.modSys fun y => { y with haltN := false })); let a : Fin 8 := 1; let src : Bool := false; let v : BitVec 16 := 15#16; (s.up = true) ∧ (s.hasAxis a = true) ∧ (s.quietEdge) ∧ (s.unclaimed = false) ∧ (s.axes[a].warm = false) ∧ (s.cp.take = none) ∧ (s.get (AX_CWSRC_SRC a) = b2n src) ∧ (cwCmd v.toNat = .enableOp) ∧ (s.axes[a].st = .switchedOn) ∧ (s.sys.haltN = false)) ∧
    (let s : State := (fresh (axAt .fault 0)); let a : Fin 8 := 1; let src : Bool := false; let v : BitVec 16 := 0x80#16; (s.up = true) ∧ (s.hasAxis a = true) ∧ (s.quietEdge) ∧ (s.unclaimed = false) ∧ (s.axes[a].warm = false) ∧ (s.cp.take = none) ∧ (s.get (AX_CWSRC_SRC a) = b2n src) ∧ (bitOf v.toNat 7 = true) ∧ (bitOf (s.get (AX_CW_CW a)) 7 = false) ∧ (s.axes[a].st = .fault) ∧ (s.causePresent a = false)) ∧
    (let s : State := (fresh ((axAt .fault 0).put ⟨ENG_FAULT 1, 13, 0⟩ 4096)); let a : Fin 8 := 1; let src : Bool := false; let v : BitVec 16 := 0x80#16; (s.up = true) ∧ (s.hasAxis a = true) ∧ (s.quietEdge) ∧ (s.unclaimed = false) ∧ (s.axes[a].warm = false) ∧ (s.cp.take = none) ∧ (s.get (AX_CWSRC_SRC a) = b2n src) ∧ (bitOf v.toNat 7 = true) ∧ (bitOf (s.get (AX_CW_CW a)) 7 = false) ∧ (s.axes[a].st = .fault) ∧ (s.causePresent a = true)) := by
  refine ⟨?_, ?_, ?_, ?_, ?_, ?_, ?_⟩ <;> (dsimp only [State.quietEdge]; decide +kernel)

theorem wit_ControlwordInOperation :
    (let s : State := (fresh ((axAt .enabled 3).put (AX_OPT_DOOPT 1) 0)); let a : Fin 8 := 1; let src : Bool := false; let v : BitVec 16 := 7#16; (s.up = true) ∧ (s.hasAxis a = true) ∧ (s.quietEdge) ∧ (s.get (AX_CWSRC_SRC a) = b2n src) ∧ (s.unclaimed = false) ∧ (s.axes[a].warm = false) ∧ (s.cp.take = none) ∧ (cwCmd v.toNat = .switchOn) ∧ (s.axes[a].st = .enabled) ∧ (s.axes[a].code ≠ 5) ∧ (s.get (AX_OPT_DOOPT a) = 0)) ∧
    (let s : State := (fresh ((axAt .enabled 3).put (AX_OPT_DOOPT 1) 1)); let a : Fin 8 := 1; let src : Bool := false; let v : BitVec 16 := 7#16; (s.up = true) ∧ (s.hasAxis a = true) ∧ (s.quietEdge) ∧ (s.get (AX_CWSRC_SRC a) = b2n src) ∧ (s.unclaimed = false) ∧ (s.axes[a].warm = false) ∧ (s.cp.take = none) ∧ (cwCmd v.toNat = .switchOn) ∧ (s.axes[a].st = .enabled) ∧ (s.axes[a].code ≠ 5) ∧ (s.get (AX_OPT_DOOPT a) = 1) ∧ (Ramp.rate s a (s.softRamp a .toSwitchedOn) ≠ 0)) ∧
    (let s : State := (fresh (axAt .enabled 3)); let a : Fin 8 := 1; let src : Bool := false; let v : BitVec 16 := 0#16; (s.up = true) ∧ (s.hasAxis a = true) ∧ (s.quietEdge) ∧ (s.get (AX_CWSRC_SRC a) = b2n src) ∧ (s.unclaimed = false) ∧ (s.axes[a].warm = false) ∧ (s.cp.take = none) ∧ (cwCmd v.toNat = .disableVoltage) ∧ ((s.axes[a].st = .enabled ∨ s.axes[a].st = .quickStop)) ∧ (s.axes[a].code ≠ 5)) ∧
    (let s : State := (fresh (axAt .enabled 3)); let a : Fin 8 := 1; let src : Bool := false; let v : BitVec 16 := 2#16; (s.up = true) ∧ (s.hasAxis a = true) ∧ (s.quietEdge) ∧ (s.get (AX_CWSRC_SRC a) = b2n src) ∧ (s.unclaimed = false) ∧ (s.axes[a].warm = false) ∧ (s.cp.take = none) ∧ (cwCmd v.toNat = .quickStop) ∧ (s.axes[a].st = .enabled) ∧ (s.axes[a].code ≠ 5) ∧ (Ramp.rate s a (s.quickRamp a) ≠ 0)) ∧
    (let s : State := (fresh (axAt .enabled 3)); let a : Fin 8 := 1; let src : Bool := false; let v : BitVec 16 := 0x10F#16; (s.up = true) ∧ (s.hasAxis a = true) ∧ (s.quietEdge) ∧ (s.get (AX_CWSRC_SRC a) = b2n src) ∧ (s.unclaimed = false) ∧ (s.axes[a].warm = false) ∧ (s.cp.take = none) ∧ (bitOf v.toNat 8 = true) ∧ (bitOf (s.get (AX_CW_CW a)) 8 = false) ∧ (cwCmd v.toNat = .enableOp) ∧ (s.axes[a].st = .enabled) ∧ (s.axes[a].code ≠ 5) ∧ (s.axes[a].code ≠ 1) ∧ (s.axes[a].step = 3) ∧ (s.axes[a].pendEmg = false) ∧ (s.axes[a].ramp.stops = false) ∧ ((Ramp.rate s a (if s.get (AX_OPT_HALTOPT a) = 2 then .stopSpeed true .stayZero else s.softRamp a .stayZero) ≠ 0))) ∧
    (let s : State := (fresh (axAt .enabled (-2))); let a : Fin 8 := 1; let src : Bool := false; let v : BitVec 16 := 2#16; (s.up = true) ∧ (s.hasAxis a = true) ∧ (s.quietEdge) ∧ (s.get (AX_CWSRC_SRC a) = b2n src) ∧ (s.unclaimed = false) ∧ (s.axes[a].warm = false) ∧ (s.cp.take = none) ∧ (cwCmd v.toNat = .quickStop) ∧ (s.axes[a].code = 5)) := by
  refine ⟨?_, ?_, ?_, ?_, ?_, ?_⟩ <;> (dsimp only [State.quietEdge]; decide +kernel)

theorem wit_AxisWritesAndEmergency :
    (let s : State := (fresh (axAt .disabled 0)); let a : Fin 8 := 1; let code : BitVec 8 := 3#8; (s.up = true) ∧ (s.hasAxis a = true) ∧ (s.quietEdge) ∧ (modeValid (sgn 8 code.toNat) = true) ∧ (s.axes[a].code = 0)) ∧
    (let s : State := (fresh (axAt .disabled 0)); let a : Fin 8 := 1; (s.up = true) ∧ (s.hasAxis a = true) ∧ (s.quietEdge)) ∧
    (let s : State := (fresh (axAt .enabled (-2))); let a : Fin 8 := 1; let code : BitVec 8 := 3#8; (s.up = true) ∧ (s.hasAxis a = true) ∧ (s.quietEdge) ∧ (s.axes[a].code = 5) ∧ (code.toNat ≠ 0xFE)) ∧
    (let s : State := (fresh (axAt .enabled 3)); let a : Fin 8 := 1; (s.up = true) ∧ (s.hasAxis a = true) ∧ (s.quietEdge) ∧ (s.axes[a].st = .enabled) ∧ (s.axes[a].code = 3) ∧ (s.sys.haltN = true) ∧ (s.sys.ss1 = false) ∧ (s.axes[a].step = 3) ∧ (s.axes[a].pendEmg = false) ∧ (s.axes[a].ramp.stops = false)) ∧
    (let s : State := (fresh (axAt .disabled 0)); let a : Fin 8 := 1; let pdo : Bool := true; (s.up = true) ∧ (s.hasAxis a = true) ∧ (s.quietEdge) ∧ (s.isSafe a = true)) ∧
    (let s : State := (fresh (axAt .enabled 3)); let a : Fin 8 := 1; let pdo : Bool := true; (s.up = true) ∧ (s.hasAxis a = true) ∧ (s.quietEdge) ∧ (s.isSafe a = false)) ∧
    (let s : State := (fresh live); let a : Fin 8 := 1; (s.up = true) ∧ (s.hasAxis a = true) ∧ (s.quietEdge) ∧ (s.axes[a].st = .notReady)) ∧
    (let s : State := (fresh (axAt .disabled 0)); let a : Fin 8 := 1; (s.up = true) ∧ (s.hasAxis a = true) ∧ (s.quietEdge) ∧ (s.isSafe a = true)) ∧
    (let s : State := (fresh ((axAt .disabled 0).modSys fun y => { y with haltN := false })); let a : Fin 8 := 1; (s.up = true) ∧ (s.hasAxis a = true) ∧ (s.quietEdge) ∧ (s.axes[a].emgReq = false) ∧ (s.unclaimed = false) ∧ (s.sys.haltN = false) ∧ (s.sys.ss1 = false)) ∧
    (let s : State := (fresh ((axAt .enabled (-3)).modBg fun b => { b with snap := 16 })); let a : Fin 8 := 1; (s.up = true) ∧ (s.hasAxis a = true) ∧ (s.quietEdge) ∧ (s.axes[a].emgReq = false) ∧ (s.unclaimed = false) ∧ (s.sys.haltN = true) ∧ (s.sys.ss1 = false) ∧ (s.speedClass ≠ 0) ∧ (s.axes[a].code = 1)) ∧
    (let s : State := (fresh ((axAt .enabled (-2)).modAxis 1 fun x => { x with emgReq := true })); let a : Fin 8 := 1; (s.up = true) ∧ (s.hasAxis a = true) ∧ (s.quietEdge) ∧ (s.axes[a].emgReq = true) ∧ (s.axes[a].code = 5) ∧ (s.axes[a].byScs = false) ∧ (s.reg (AX_PDEC a) ≠ 0)) ∧
    (let s : State := (fresh ((axAt .enabled 3).modAxis 1 fun x => { x with emgReq := true, pendEmg := true })); let a : Fin 8 := 1; (s.up = true) ∧ (s.hasAxis a = true) ∧ (s.quietEdge) ∧ (s.axes[a].emgReq = true) ∧ (s.axes[a].code ≠ 5) ∧ (s.axes[a].pendEmg = true)) := by
  refine ⟨?_, ?_, ?_, ?_, ?_, ?_, ?_, ?_, ?_, ?_, ?_, ?_⟩ <;> (dsimp only [State.quietEdge]; decide +kernel)

theorem wit_EnableSequenceAndStandstill :
    (let s : State := (((axAt .enabled 3).modAxis 1 fun x => { x with step := 1 }).put (BRK_CFG_EN 1) 1); let a : Fin 8 := 1; (s.up = true) ∧ (s.hasAxis a = true) ∧ (s.axes[a].code ≠ 0) ∧ (s.axes[a].step = 1) ∧ (s.axes[a].ramp = .none) ∧ (s.axes[a].warm = false) ∧ (s.get (BRK_CFG_EN a) = 1)) ∧
    (let s : State := ((axAt .enabled 3).modAxis 1 fun x => { x with step := 1 }); let a : Fin 8 := 1; (s.up = true) ∧ (s.hasAxis a = true) ∧ (s.axes[a].code = 3) ∧ (s.axes[a].step = 1) ∧ (s.axes[a].ramp = .none) ∧ (s.axes[a].warm = false) ∧ (s.get (BRK_CFG_EN a) = 0) ∧ (bitOf (s.get (AX_CW_CW a)) 8 = false)) ∧
    (let s : State := ((axAt .enabled 4).modAxis 1 fun x => { x with step := 2, lifting := true }); let a : Fin 8 := 1; (s.up = true) ∧ (s.hasAxis a = true) ∧ (s.axes[a].code = 2) ∧ (s.axes[a].step = 2) ∧ (s.axes[a].ramp = .none) ∧ (s.axes[a].warm = false) ∧ (s.axes[a].lifting = true) ∧ (s.reg (AX_TSLOPE a) ≠ 0) ∧ (bitOf (s.get (AX_CW_CW a)) 8 = false)) ∧
    (let s : State := ((axAt .enabled 3).modAxis 1 fun x => { x with ramp := .stopSpeed true .toReady, stillFrom := some 0 }); let a : Fin 8 := 1; let fast : Bool := true; (s.up = true) ∧ (s.hasAxis a = true) ∧ (s.axes[a].stillFrom.isSome = true) ∧ (s.axes[a].ramp = .stopSpeed fast .toReady)) ∧
    (let s : State := ((axAt .quickStop 3).modAxis 1 fun x => { x with ramp := .stopSpeed true .holdQuick, stillFrom := some 0 }); let a : Fin 8 := 1; let fast : Bool := true; (s.up = true) ∧ (s.hasAxis a = true) ∧ (s.axes[a].stillFrom.isSome = true) ∧ (s.axes[a].ramp = .stopSpeed fast .holdQuick)) := by
  refine ⟨?_, ?_, ?_, ?_, ?_⟩ <;> (dsimp only; decide +kernel)

theorem wit_PortControlAndQueues :
    (let s : State := live; let p : Fin 6 := 2; (s.up = true) ∧ (s.hasPort p = true) ∧ (s.ports[p].st = .off) ∧ (s.pairBar p = false) ∧ (s.parked = false)) ∧
    (let s : State := (live.put BEAR_STAT_PARK 2); let p : Fin 6 := 2; (s.up = true) ∧ (s.hasPort p = true) ∧ (s.ports[p].st = .off) ∧ (s.parked = true)) ∧
    (let s : State := stream2; let p : Fin 6 := 2; (s.up = true) ∧ (s.hasPort p = true) ∧ (s.ports[p].st ≠ .off) ∧ (s.ports[p].live = false) ∧ (s.allSafe (s.axmap p) = true) ∧ (s.ports[p].flight = none)) ∧
    (let s : State := (stream2.modPort 2 fun q => { q with live := true }); let p : Fin 6 := 2; (s.up = true) ∧ (s.hasPort p = true) ∧ (s.ports[p].st ≠ .off) ∧ (s.ports[p].live = true)) ∧
    (let s : State := ((stream2.modPort 2 fun q => { q with st := .halt, twelfth := true }).modSys fun y => { y with haltN := true }); let p : Fin 6 := 2; (s.up = true) ∧ (s.hasPort p = true) ∧ (s.ports[p].st = .halt) ∧ (s.ports[p].twelfth = true) ∧ (s.sys.haltN = true) ∧ (s.alertN p = true) ∧ (s.allSafe (s.axmap p) = true)) ∧
    (let s : State := stream2; let p : Fin 6 := 2; (s.up = true) ∧ (s.hasPort p = true) ∧ ((s.sys.haltN = false ∨ s.ports[p].twelfth = false))) ∧
    (let s : State := stream2; let p : Fin 6 := 2; (s.up = true) ∧ (s.hasPort p = true) ∧ (s.ports[p].st = .stream) ∧ (s.ports[p].haltDue = none)) ∧
    (let s : State := stream2; let p : Fin 6 := 2; (s.up = true) ∧ (s.hasPort p = true)) ∧
    (let s : State := stream2; let p : Fin 6 := 2; let ten : Fin 8 := 0; let w : Word := 5#32; (s.up = true) ∧ (s.hasPort p = true) ∧ (s.get (SP_CFG2_TQOWNER p) = ten) ∧ (s.ports[p].tenQ.length < 256) ∧ (s.ports[p].resetting = false) ∧ (s.marked (.portReset p) = false)) ∧
    (let s : State := stream2; let p : Fin 6 := 2; let ten : Fin 8 := 3; let w : Word := 5#32; (s.up = true) ∧ (s.hasPort p = true) ∧ ((s.get (SP_CFG2_TQOWNER p) ≠ ten ∨ 256 ≤ s.ports[p].tenQ.length)) ∧ (s.ports[p].resetting = false) ∧ (s.marked (.portReset p) = false)) ∧
    (let s : State := (live.modPort 2 fun q => { q with resetting := true }); let p : Fin 6 := 2; let ten : Fin 8 := 3; let w : Word := 5#32; (s.up = true) ∧ (s.hasPort p = true) ∧ ((s.ports[p].resetting = true ∨ s.marked (.portReset p) = true))) ∧
    (let s : State := (stream2.modPort 2 fun q => { q with rxQ := [7, 8] }); let p : Fin 6 := 2; let w : Word := 7#32; let q : List Word := [8#32]; (s.up = true) ∧ (s.hasPort p = true) ∧ (s.ports[p].rxQ = w :: q)) ∧
    (let s : State := stream2; let p : Fin 6 := 2; (s.up = true) ∧ (s.hasPort p = true) ∧ (s.ports[p].rxQ = [])) := by
  refine ⟨?_, ?_, ?_, ?_, ?_, ?_, ?_, ?_, ?_, ?_, ?_, ?_, ?_⟩ <;> (dsimp only; decide +kernel)

theorem wit_HaltsReachThePorts :
    (let s : State := stream2; (s.clocked = true)) ∧
    (let s : State := (stream2.put (SP_CFG_ALERTACT 2) 1); let p : Fin 6 := 2; (s.clocked = true) ∧ (s.up = true) ∧ (s.hasPort p = true) ∧ (s.get (SP_CFG_ALERTACT p) = 1) ∧ (s.ports[p].st = .stream) ∧ (s.ports[p].haltDue = none)) ∧
    (let s : State := (stream2.modPort 2 fun q => { q with haltDue := some 4 }); let p : Fin 6 := 2; let bits : List Bool := []; let c : Nat := 4; (s.clocked = true) ∧ (s.ports[p].haltDue = some c) ∧ (s.ports[p].st = .stream) ∧ (s.ports[p].resetting = false) ∧ (s.cp.take = none)) ∧
    (let s : State := (stream2.modPort 2 fun q => { q with st := .halt }); let p : Fin 6 := 2; (s.clocked = true) ∧ (s.ports[p].st = .halt) ∧ (s.ports[p].resetting = false) ∧ (s.ports[p].offAtTwelfth = false) ∧ (s.parked = false)) ∧
    (let s : State := (stream2.modPort 2 fun q => { q with st := .halt, offAtTwelfth := true }); let p : Fin 6 := 2; (s.clocked = true) ∧ (s.ports[p].st = .halt) ∧ (s.ports[p].resetting = false) ∧ (s.ports[p].offAtTwelfth = true)) ∧
    (let s : State := (stream2.modPort 2 fun q => { q with st := .halt, resetting := true }); let p : Fin 6 := 2; (s.clocked = true) ∧ (s.ports[p].st = .halt) ∧ (s.ports[p].resetting = true)) ∧
    (let s : State := (stream2.modPort 2 fun q => { q with alloff := some [], live := true }); let p : Fin 6 := 2; (s.clocked = true) ∧ (s.ports[p].alloff = some []) ∧ (s.parked = false)) := by
  refine ⟨?_, ?_, ?_, ?_, ?_, ?_, ?_⟩ <;> (dsimp only; decide +kernel)

theorem wit_SlotsAndReplies :
    (let s : State := (stream2.modPort 2 fun q => { q with rawBusy := 3 }); let p : Fin 6 := 2; (s.clocked = true) ∧ (s.ports[p].st = .stream) ∧ (0 < s.ports[p].rawBusy)) ∧
    (let s : State := (stream2.modPort 2 fun q => { q with tenQ := [0x08003000, 0x05000000] }); let p : Fin 6 := 2; let h : Word := 0x08003000#32; let d : Word := 0x05000000#32; let c : Nat := 3; let op : Nat := 5; let pl : Nat := 0; (s.clocked = true) ∧ (s.ports[p].st = .stream) ∧ (s.ports[p].rawBusy = 0) ∧ (s.ports[p].flight = none) ∧ (s.ports[p].alloff = none) ∧ (s.cp.take = none) ∧ (s.parked = false) ∧ (s.ports[p].engQ = []) ∧ (s.ports[p].tenQ = [h, d]) ∧ (s.marked (.pushed p) = false) ∧ (s.dmode p = true) ∧ (bitsOf h.toNat 31 30 = 0) ∧ (bitsOf h.toNat 15 12 = c) ∧ (c < 8) ∧ (d.toNat = op * 2 ^ 24 + pl) ∧ (pl < 2 ^ 24) ∧ (s.entryInvalid p h.toNat [d] = false)) ∧
    (let s : State := (stream2.modPort 2 fun q => { q with engQ := [⟨7, false, 1, 3, 1, 0x0C30FF⟩] }); let p : Fin 6 := 2; let e : EngEntry := ⟨7, false, 1, 3, 1, 0x0C30FF⟩; let c : Nat := 3; let op : Nat := 1; let pl : Nat := 0x0C30FF; (s.clocked = true) ∧ (s.ports[p].st = .stream) ∧ (s.ports[p].rawBusy = 0) ∧ (s.ports[p].flight = none) ∧ (s.ports[p].alloff = none) ∧ (s.cp.take = none) ∧ (s.parked = false) ∧ (s.ports[p].engQ = [e]) ∧ (e.rslot = s.ports[p].slot % 1024) ∧ (e.opcode = op) ∧ (e.payload = pl) ∧ (e.bcast = false) ∧ (s.dmode p = true) ∧ (e.sel = c) ∧ (c < 8) ∧ (c ∈ s.fitted p)) ∧
    (let s : State := (stream2.modPort 2 fun q => { q with flight := some fl2 }); let p : Fin 6 := 2; let bits : List Bool := goodBits; let fl : Flight := fl2; (s.clocked = true) ∧ (s.up = true) ∧ (s.ports[p].flight = some fl) ∧ (fl.await = true) ∧ (fl.src = .tenant) ∧ (bitOf fl.hdr 27 = true) ∧ (bits.length = 41) ∧ (replyClass fl.alive bits = 6) ∧ (s.ports[p].rxQ.length ≤ 126) ∧ (s.cp.take = none)) ∧
    (let s : State := (stream2.modPort 2 fun q => { q with flight := some fl2 }); let p : Fin 6 := 2; let bits : List Bool := badBits; let fl : Flight := fl2; (s.clocked = true) ∧ (s.up = true) ∧ (s.ports[p].flight = some fl) ∧ (fl.await = true) ∧ (fl.src = .tenant) ∧ (replyClass fl.alive bits = 3) ∧ (s.cp.take = none)) := by
  refine ⟨?_, ?_, ?_, ?_, ?_⟩ <;> (dsimp only; decide +kernel)

theorem wit_IncrementalCounting :
    (let s : State := (fb1.put (INC_STAT_MODE 1) 1); let n : Fin 8 := 1; let a : HeldLevel := ⟨true, 0⟩; let b : HeldLevel := ⟨true, 0⟩; (s.up = true) ∧ (n.1 < s.nInc) ∧ (a.held ≤ s.get (INC_CFG_FILT n)) ∧ (b.held ≤ s.get (INC_CFG_FILT n)) ∧ (s.fb.inc[n].lv < 4)) ∧
    (let s : State := fb1; let n : Fin 8 := 1; let a : HeldLevel := ⟨true, 9⟩; let b : HeldLevel := ⟨false, 9⟩; (s.up = true) ∧ (n.1 < s.nInc) ∧ (s.get (INC_CFG_FILT n) < a.held) ∧ (s.get (INC_CFG_FILT n) < b.held) ∧ (s.get (INC_CFG_EN n) = 1) ∧ ((quad (b2n a.level + 2 * b2n b.level) + 4 - quad s.fb.inc[n].lv) % 4 = 1) ∧ (s.get (INC_CFG_INV n) = 0)) ∧
    (let s : State := fb1; let n : Fin 8 := 1; let a : HeldLevel := ⟨false, 9⟩; let b : HeldLevel := ⟨true, 9⟩; (s.up = true) ∧ (n.1 < s.nInc) ∧ (s.get (INC_CFG_FILT n) < a.held) ∧ (s.get (INC_CFG_FILT n) < b.held) ∧ (s.get (INC_CFG_EN n) = 1) ∧ ((quad (b2n a.level + 2 * b2n b.level) + 4 - quad s.fb.inc[n].lv) % 4 = 3) ∧ (s.get (INC_CFG_INV n) = 0)) ∧
    (let s : State := fb1; let n : Fin 8 := 1; let a : HeldLevel := ⟨true, 9⟩; let b : HeldLevel := ⟨true, 9⟩; (s.up = true) ∧ (n.1 < s.nInc) ∧ (s.get (INC_CFG_FILT n) < a.held) ∧ (s.get (INC_CFG_FILT n) < b.held) ∧ (s.get (INC_CFG_EN n) = 1) ∧ ((quad (b2n a.level + 2 * b2n b.level) + 4 - quad s.fb.inc[n].lv) % 4 = 2)) ∧
    (let s : State := (fb1.put (INC_CNT_V 1) 1500); let n : Fin 8 := 1; let z : HeldLevel := ⟨true, 9⟩; let ill : Bool := false; (s.up = true) ∧ (n.1 < s.nInc) ∧ (s.get (INC_CFG_FILT n) < z.held) ∧ (s.get (INC_CFG_EN n) = 1) ∧ (bitOf (s.get (INC_STAT_WFLIVE n)) 2 = false) ∧ (z.level ≠ s.flag (INC_STAT_DIR n)) ∧ (s.get (INC_CFG_ZGATE n) = 0) ∧ (s.get (INC_CFG_POLICY n) = 0) ∧ (s.fb.inc[n].armRef = false)) ∧
    (let s : State := ((fb1.put (INC_CNT_V 1) 1500).modInc 1 fun e => { e with armRef := true }); let n : Fin 8 := 1; let z : HeldLevel := ⟨true, 9⟩; let ill : Bool := false; (s.up = true) ∧ (n.1 < s.nInc) ∧ (s.get (INC_CFG_FILT n) < z.held) ∧ (s.get (INC_CFG_EN n) = 1) ∧ (bitOf (s.get (INC_STAT_WFLIVE n)) 2 = false) ∧ (z.level ≠ s.flag (INC_STAT_DIR n)) ∧ (s.get (INC_CFG_ZGATE n) = 0) ∧ (s.fb.inc[n].armRef = true) ∧ (s.marked (.armed n) = false)) ∧
    (let s : State := (fb1.put (INC_STAT_MODE 1) 1); let n : Fin 8 := 1; (s.up = true) ∧ (n.1 < s.nInc) ∧ (s.get (INC_STAT_MODE n) = 1) ∧ (s.fb.inc[n].winHad = false)) ∧
    (let s : State := ((fb1.put (INC_STAT_MODE 1) 1).modInc 1 fun e => { e with winHad := true, cntE := 7, hist := [900, 800], winT := 100 }); let n : Fin 8 := 1; let t0 : Nat := 900; let l : List Nat := [800]; (s.up = true) ∧ (n.1 < s.nInc) ∧ (s.get (INC_STAT_MODE n) = 1) ∧ (s.fb.inc[n].winHad = true) ∧ (s.fb.inc[n].hist = t0 :: l)) ∧
    (let s : State := fb1; let n : Fin 8 := 1; (s.up = true) ∧ (n.1 < s.nInc)) := by
  refine ⟨?_, ?_, ?_, ?_, ?_, ?_, ?_, ?_, ?_⟩ <;> (dsimp only; decide +kernel)

theorem wit_WireFaultsAndStops :
    (let s : State := fb1; let n : Fin 8 := 1; let k : Fin 3 := 1; (s.up = true) ∧ (n.1 < s.nInc) ∧ (s.get (INC_CFG_EN n) = 1) ∧ (bitOf (s.get (INC_STAT_WFLIVE n)) k = false)) ∧
    (let s : State := fb1; let n : Fin 8 := 1; let k : Fin 3 := 1; (s.up = true) ∧ (n.1 < s.nHall) ∧ (s.get (HALL_CFG_EN n) = 1) ∧ (bitOf (s.get (HALL_STAT_WFLIVE n)) k = false)) ∧
    (let s : State := (fb1.put (INC_STAT_WFLIVE 1) 7); let n : Fin 8 := 1; let k : Fin 3 := 1; (s.up = true) ∧ (n.1 < s.nInc)) ∧
    (let s : State := fb1; let n : Fin 8 := 1; let k : Fin 3 := 1; (s.up = true) ∧ (n.1 < s.nHall)) ∧
    (let s : State := fb1; let n : Fin 8 := 1; (s.up = true) ∧ (n.1 < s.nInc)) ∧
    (let s : State := fb1; let n : Fin 8 := 1; (s.up = true) ∧ (n.1 < s.nHall)) ∧
    (let s : State := fb1; let n : Fin 8 := 1; let i : Fin 4 := 1; (s.up = true) ∧ (i.1 < s.nSsi)) ∧
    (let s : State := ((fb1.put (INC_STAT_LOSS 1) 1).put FB_LOSS_INC 2); let n : Fin 8 := 1; (s.up = true) ∧ (n.1 < s.nInc) ∧ (s.chanUsed n = false) ∧ (s.incLost n = false)) ∧
    (let s : State := (fb1.put (INC_STAT_WFLIVE 1) 1); let n : Fin 8 := 1; (s.up = true) ∧ (n.1 < s.nInc) ∧ ((s.chanUsed n = true ∨ s.incLost n = true))) ∧
    (let s : State := (fb1.put (HALL_STAT_LOSS 1) 1); let n : Fin 8 := 1; (s.up = true) ∧ (n.1 < s.nHall) ∧ (s.chanUsed (0x10 + n.1) = false) ∧ (s.hallLost n = false)) ∧
    (let s : State := (fb1.put (SSI_STAT_LOSS 1) 1); let n : Fin 8 := 1; let i : Fin 4 := 1; (s.up = true) ∧ (i.1 < s.nSsi) ∧ (s.chanUsed (0x20 + i.1) = false) ∧ (s.ssiLost i = false)) ∧
    (let s : State := fb1; let n : Fin 8 := 1; (s.up = true) ∧ (n.1 < s.nInc) ∧ (s.chanUsed n = false)) ∧
    (let s : State := fb1; let n : Fin 8 := 1; (s.up = true) ∧ (n.1 < s.nInc)) ∧
    (let s : State := fb1; let n : Fin 8 := 1; (s.up = true) ∧ (n.1 < s.nHall)) ∧
    (let s : State := fb1; let n : Fin 8 := 1; let i : Fin 4 := 1; (s.up = true) ∧ (i.1 < s.nSsi)) ∧
    (let s : State := fb1; let n : Fin 8 := 1; (s.up = true) ∧ (n.1 < s.nInc)) := by
  refine ⟨?_, ?_, ?_, ?_, ?_, ?_, ?_, ?_, ?_, ?_, ?_, ?_, ?_, ?_, ?_, ?_⟩ <;> (dsimp only; decide +kernel)

theorem wit_HallSets :
    (let s : State := (fb1.modHall 1 fun e => { e with lv := 5 }); let h : Fin 8 := 1; let v : HeldHall := ⟨4, 0⟩; (s.up = true) ∧ (h.1 < s.nHall) ∧ (s.get (HALL_CFG_EN h) = 1) ∧ (v.held ≤ s.get (HALL_CFG_FILT h))) ∧
    (let s : State := (fb1.modHall 1 fun e => { e with lv := 5 }); let h : Fin 8 := 1; let v : HeldHall := ⟨4, 9⟩; let k : Nat := 1; let j : Nat := 0; (s.up = true) ∧ (h.1 < s.nHall) ∧ (s.get (HALL_CFG_EN h) = 1) ∧ (s.get (HALL_CFG_FILT h) < v.held) ∧ (hallSector v.state = some k) ∧ (hallSector s.fb.hall[h].lv = some j) ∧ ((k + 6 - j) % 6 = 1) ∧ (s.get (HALL_CFG_INV h) = 0)) ∧
    (let s : State := (fb1.modHall 1 fun e => { e with lv := 5 }); let h : Fin 8 := 1; let v : HeldHall := ⟨1, 9⟩; let k : Nat := 5; let j : Nat := 0; (s.up = true) ∧ (h.1 < s.nHall) ∧ (s.get (HALL_CFG_EN h) = 1) ∧ (s.get (HALL_CFG_FILT h) < v.held) ∧ (hallSector v.state = some k) ∧ (hallSector s.fb.hall[h].lv = some j) ∧ ((k + 6 - j) % 6 = 5) ∧ (s.get (HALL_CFG_INV h) = 0)) ∧
    (let s : State := (fb1.modHall 1 fun e => { e with lv := 5 }); let h : Fin 8 := 1; let v : HeldHall := ⟨7, 9⟩; (s.up = true) ∧ (h.1 < s.nHall) ∧ (s.get (HALL_CFG_EN h) = 1) ∧ (s.get (HALL_CFG_FILT h) < v.held) ∧ (hallSector v.state = none) ∧ (s.fb.hall[h].lv ≠ v.state)) ∧
    (let s : State := (fb1.modHall 1 fun e => { e with lv := 5 }); let h : Fin 8 := 1; let v : HeldHall := ⟨2, 9⟩; let k : Nat := 3; let j : Nat := 0; (s.up = true) ∧ (h.1 < s.nHall) ∧ (s.get (HALL_CFG_EN h) = 1) ∧ (s.get (HALL_CFG_FILT h) < v.held) ∧ (hallSector v.state = some k) ∧ (hallSector s.fb.hall[h].lv = some j) ∧ ((k + 6 - j) % 6 ≠ 0) ∧ ((k + 6 - j) % 6 ≠ 1) ∧ ((k + 6 - j) % 6 ≠ 5)) ∧
    (let s : State := (fb1.modHall 1 fun e => { e with lv := 7 }); let h : Fin 8 := 1; (s.up = true) ∧ (h.1 < s.nHall) ∧ (s.get (HALL_CFG_EN h) = 1) ∧ (hallSector s.fb.hall[h].lv = none)) := by
  refine ⟨?_, ?_, ?_, ?_, ?_, ?_⟩ <;> (dsimp only; decide +kernel)

theorem wit_SsiReadsAndTaps :
    (let s : State := fb1; let i : Fin 4 := 1; (s.up = true) ∧ (i.1 < s.nSsi) ∧ (s.get (SSI_CFG_EN i) = 1) ∧ (s.unclaimed = false) ∧ (s.get (SSI_STAT_INREAD i) = 0)) ∧
    (let s : State := (fb1.put (SSI_STAT_INREAD 1) 1); let i : Fin 4 := 1; let dat : Bool := true; (s.up = true) ∧ (i.1 < s.nSsi) ∧ (s.get (SSI_CFG_EN i) = 1) ∧ (s.unclaimed = false) ∧ (s.get (SSI_STAT_INREAD i) = 1)) ∧
    (let s : State := fb1; let i : Fin 4 := 1; (s.up = true) ∧ (i.1 < s.nSsi) ∧ (s.get (SSI_CFG_EN i) = 1) ∧ (s.unclaimed = false) ∧ (s.get (SSI_STAT_INREAD i) = 0)) ∧
    (let s : State := fb1; let i : Fin 4 := 1; (s.up = true) ∧ (i.1 < s.nSsi) ∧ (s.get (SSI_CFG_EN i) = 1) ∧ (s.unclaimed = false) ∧ (s.get (SSI_STAT_INREAD i) = 0) ∧ (s.get (SSI_CFG_TRIG i) = 0)) ∧
    (let s : State := fb1; let i : Fin 4 := 1; (s.up = true) ∧ (i.1 < s.nSsi) ∧ (s.get (SSI_CFG_EN i) = 1) ∧ (s.unclaimed = false) ∧ (s.get (SSI_STAT_INREAD i) = 0) ∧ (s.get (SSI_CFG_TRIG i) = 0)) ∧
    (let s : State := ((fb1.put (SSI_STAT_INREAD 1) 1).put (SSI_CFG_NBITS1 1) 15); let i : Fin 4 := 1; let v : Nat := 0x1234; (s.up = true) ∧ (s.get (SSI_STAT_INREAD i) = 1) ∧ (s.get (SSI_CFG_PAR i) = 0) ∧ (s.get (SSI_CFG_ERRBIT i) = 0) ∧ (s.get (SSI_CFG_GRAY i) = 0) ∧ (s.reg (SSI_MAXSTEP i) = 0)) ∧
    (let s : State := (fb1.put (SSI_STAT_INREAD 1) 1); let i : Fin 4 := 1; let v : Nat := 5; let mono : Bool := true; (s.up = true) ∧ (s.get (SSI_STAT_INREAD i) = 1)) ∧
    (let s : State := (fb1.put (SSI_STAT_INREAD 1) 1); let i : Fin 4 := 1; let v : Nat := 5; (s.up = true) ∧ (s.get (SSI_STAT_INREAD i) = 1)) ∧
    (let s : State := pws; let i : Fin 4 := 1; let k : Fin 2 := 0; (s.up = true) ∧ (s.tapEn k = true) ∧ (s.bg.powered = true)) ∧
    (let s : State := (fb1.modFb fun z => { z with capQ := [7, 8] }); let i : Fin 4 := 1; let w : Word := 7#32; let l : List Word := [8#32]; (s.up = true) ∧ (s.fb.capQ = w :: l)) ∧
    (let s : State := fb1; let i : Fin 4 := 1; (s.up = true) ∧ (s.fb.capQ = [])) := by
  refine ⟨?_, ?_, ?_, ?_, ?_, ?_, ?_, ?_, ?_, ?_, ?_⟩ <;> (dsimp only; decide +kernel)

theorem wit_LampsProveAndDarken :
    (let s : State := lamp1; let n : Fin 8 := 1; let mA : Nat := 150; (s.up = true) ∧ (n.1 < s.nLamps) ∧ (s.unclaimed = false) ∧ (s.lampPattern n = true) ∧ (s.get (LAMP_STAT_OFFLATCH n) = 0) ∧ (s.get (LAMP_CFG_DARKTH n) ≤ mA)) ∧
    (let s : State := (lamp1.modLamp 1 fun l => { l with low := 9 }); let n : Fin 8 := 1; let mA : Nat := 50; (s.up = true) ∧ (n.1 < s.nLamps) ∧ (s.unclaimed = false) ∧ (s.lampPattern n = true) ∧ (s.get (LAMP_STAT_OFFLATCH n) = 0) ∧ (mA < s.get (LAMP_CFG_DARKTH n)) ∧ (s.lio.lamps[n].low = 9)) ∧
    (let s : State := (lamp1.put (LAMP_MODE_MODE 1) 0); let n : Fin 8 := 1; let i1 : Nat := 150; let i2 : Nat := 140; (s.up = true) ∧ (n.1 < s.nLamps) ∧ (s.unclaimed = false) ∧ (s.get (LAMP_CFG_EN n) = 1) ∧ (s.lampPattern n = false) ∧ (s.get (LAMP_STAT_OFFLATCH n) = 0) ∧ (s.get (LAMP_CFG_DARKTH n) ≤ i1) ∧ (s.get (LAMP_CFG_DARKTH n) ≤ i2)) ∧
    (let s : State := (lamp1.put (LAMP_MODE_MODE 1) 0); let n : Fin 8 := 1; let i1 : Nat := 150; let i2 : Nat := 40; (s.up = true) ∧ (n.1 < s.nLamps) ∧ (s.unclaimed = false) ∧ (s.get (LAMP_CFG_EN n) = 1) ∧ (s.lampPattern n = false) ∧ (s.get (LAMP_STAT_OFFLATCH n) = 0) ∧ ((i1 < s.get (LAMP_CFG_DARKTH n) ∨ i2 < s.get (LAMP_CFG_DARKTH n)))) ∧
    (let s : State := lamp1; let n : Fin 8 := 1; (s.up = true) ∧ (n.1 < s.nLamps) ∧ (s.unclaimed = false) ∧ (s.get (LAMP_CFG_EN n) = 1) ∧ (s.get (LAMP_STAT_OFFLATCH n) = 0)) ∧
    (let s : State := (lamp1.put (LAMP_STAT_OFFLATCH 1) 1); let n : Fin 8 := 1; (s.up = true) ∧ (n.1 < s.nLamps) ∧ (s.unclaimed = false)) ∧
    (let s : State := lamp1; let n : Fin 8 := 1; (s.up = true) ∧ (n.1 < s.nLamps) ∧ (s.unclaimed = false)) := by
  refine ⟨?_, ?_, ?_, ?_, ?_, ?_, ?_⟩ <;> (dsimp only; decide +kernel)

theorem wit_InputsOutputsAndBrakes :
    (let s : State := (live.put GPI_CFG_MASK 255); let v : BitVec 8 := 5#8; (s.up = true)) ∧
    (let s : State := (live.put GPO_OUT_V 15); let k : Fin 4 := 2; (s.up = true) ∧ (bitOf (s.get GPO_OUT_V) k = true) ∧ (s.lio.gpoOff.getLsbD k = false) ∧ (s.unclaimed = false)) ∧
    (let s : State := ((live.put (AIN_CFG_EN 2) 1).modLio fun z => { z with ains := upd z.ains 2 fun x => { x with bad := 9 } }); let i : Fin 8 := 2; let sum : Nat := 30000; (s.up = true) ∧ (s.get (AIN_CFG_EN i) = 1) ∧ (s.get (AIN_CFG_ROLE i) ≠ 2) ∧ ((sum < 36000 ∨ 210000 < sum)) ∧ (s.lio.ains[i].bad = 9) ∧ (s.get (AIN_STAT_RANGE i) = 0)) ∧
    (let s : State := (((live.put (AIN_CFG_EN 2) 1).put (AIN_STAT_RANGE 2) 1).modLio fun z => { z with ains := upd z.ains 2 fun x => { x with good := 9 } }); let i : Fin 8 := 2; let sum : Nat := 120000; (s.up = true) ∧ (s.get (AIN_CFG_EN i) = 1) ∧ (s.get (AIN_CFG_ROLE i) ≠ 2) ∧ (36000 ≤ sum) ∧ (sum ≤ 210000) ∧ (sum % 10 = 0) ∧ (s.lio.ains[i].good = 9)) ∧
    (let s : State := (((axAt .enabled 3).put (TN_CFG_SRC 1) 1).put (WN_SLACK_SLACK 1) 40); let a : Fin 8 := 1; let m : Nat := 0; (s.up = true) ∧ (s.tensionNow a = some m) ∧ (s.isSafe a = false) ∧ (m < s.get (WN_SLACK_SLACK a)) ∧ (s.get (WN_STAT_SLACK a) = 0) ∧ (s.get (WN_SLACK_SLREACT a) ≠ 2)) ∧
    (let s : State := ((((axAt .enabled 3).put (TN_CFG_SRC 1) 1).put (WN_SLACK_SLACK 1) 40).put (WN_SLACK_SLREACT 1) 2); let a : Fin 8 := 1; let m : Nat := 0; (s.up = true) ∧ (s.tensionNow a = some m) ∧ (s.isSafe a = false) ∧ (m < s.get (WN_SLACK_SLACK a)) ∧ (s.get (WN_STAT_SLACK a) = 0) ∧ (s.get (WN_SLACK_SLREACT a) = 2)) ∧
    (let s : State := (((((axAt .enabled 3).put (WN_DRUM_DRUMSRC 1) 0xFF).put (WN_GEAR_GEAR 1) 256).put (WN_DRUM_DOS 1) 10).put (ENG_SPD_V 1) (65536 * 500)); let a : Fin 8 := 1; (s.up = true) ∧ (s.isSafe a = false) ∧ (s.get (WN_DRUM_DOS a) ≠ 0) ∧ (s.drumUsable a = true) ∧ (s.drumAbove a (s.get (WN_DRUM_DOS a)) = true)) ∧
    (let s : State := (((axAt .enabled 3).put (BRK_CFG_EN 1) 1).modAxis 1 fun x => { x with step := 2 }); let a : Fin 8 := 1; (s.up = true) ∧ (s.hasAxis a = true) ∧ (s.isSafe a = false) ∧ (s.get (BRK_CFG_EN a) = 1) ∧ (s.axes[a].step = 2) ∧ (s.axes[a].lifting = false) ∧ (s.get (BRK_CFG_FBEN a) = 0)) ∧
    (let s : State := ((((axAt .enabled 3).put (BRK_CFG_EN 1) 1).put (BRK_CFG_FBEN 1) 1).modAxis 1 fun x => { x with step := 2 }); let a : Fin 8 := 1; (s.up = true) ∧ (s.hasAxis a = true) ∧ (s.isSafe a = false) ∧ (s.get (BRK_CFG_EN a) = 1) ∧ (s.axes[a].step = 2) ∧ (s.axes[a].lifting = false) ∧ (s.get (BRK_CFG_FBEN a) = 1) ∧ (s.get (BRK_STAT_FB a) = 0)) ∧
    (let s : State := ((live.put (BRK_CFG_FBEN 1) 1).put (BRK_STAT_FB 1) 1); let a : Fin 8 := 1; (s.up = true) ∧ (s.get (BRK_CFG_FBEN a) = 1) ∧ (s.get (BRK_STAT_OUT a) = 0) ∧ (s.get (BRK_STAT_FB a) = 1) ∧ (s.get (BRK_STAT_NOTSET a) = 0)) ∧
    (let s : State := (axAt .enabled 3); let a : Fin 8 := 1; let lifted : Bool := true; (s.up = true) ∧ (s.hasAxis a = true) ∧ (s.flag (BRK_STAT_FB a) = !lifted)) := by
  refine ⟨?_, ?_, ?_, ?_, ?_, ?_, ?_, ?_, ?_, ?_, ?_⟩ <;> (dsimp only; decide +kernel)

theorem wit_EmergencyInputsAndRelease :
    (let s : State := erl1; let a : Fin 8 := 1; let level : Bool := true; (s.up = true) ∧ (s.hasAxis a = true)) ∧
    (let s : State := (erl1.put (ERL_CFG_FORM 1) 0); let k : Fin 4 := 1; let pressed : Nat := 800; let released : Nat := 1500; (s.up = true) ∧ (s.get (ERL_CFG_EN k) = 1) ∧ (bitOf (s.get EMG_LVL_ACT) k = false) ∧ (500 ≤ pressed) ∧ (1000 ≤ released) ∧ (s.get (ERL_CFG_FORM k) = 0)) ∧
    (let s : State := erl1; let k : Fin 4 := 1; let pressed : Nat := 800; let released : Nat := 1500; (s.up = true) ∧ (s.get (ERL_CFG_EN k) = 1) ∧ (bitOf (s.get EMG_LVL_ACT) k = false) ∧ (500 ≤ pressed) ∧ (1000 ≤ released) ∧ (s.get (ERL_CFG_FORM k) = 1) ∧ (s.freeReason k = 0)) ∧
    (let s : State := (erl1.modBg fun b => { b with permit := false }); let k : Fin 4 := 1; let pressed : Nat := 800; let released : Nat := 1500; (s.up = true) ∧ (s.get (ERL_CFG_EN k) = 1) ∧ (bitOf (s.get EMG_LVL_ACT) k = false) ∧ (500 ≤ pressed) ∧ (1000 ≤ released) ∧ (s.get (ERL_CFG_FORM k) = 1) ∧ (s.freeReason k ≠ 0)) ∧
    (let s : State := ((erl1.putBit EMG_LVL_ACT 1 true).putBit EMG_LVL_FREE 1 true); let k : Fin 4 := 1; (s.up = true) ∧ (bitOf (s.get EMG_LVL_ACT) k = true)) ∧
    (let s : State := erl1; let k : Fin 4 := 1; (s.up = true) ∧ (s.get (ERL_CFG_EN k) = 1)) ∧
    (let s : State := ((erl1.putBit EMG_LVL_FREE 1 true).modBg fun b => { b with permit := false }); let k : Fin 4 := 1; (s.up = true) ∧ (bitOf (s.get EMG_LVL_FREE) k = true) ∧ (s.freeReason k ≠ 0)) ∧
    (let s : State := ((((erl1.putBit EMG_LVL_FREE 1 true).put (WN_DRUM_DRUMSRC 1) 0xFF).put (WN_GEAR_GEAR 1) 256).put (ENG_SPD_V 1) (65536 * 500)); let k : Fin 4 := 1; (s.up = true) ∧ (bitOf (s.get EMG_LVL_FREE) k = true) ∧ (s.freeReason k = 0) ∧ (s.get (ERL_GOV_GOV k) * (s.drumSpeed (s.erlAxis k)).2 ≤ (s.drumSpeed (s.erlAxis k)).1.natAbs) ∧ (s.get (BRK_STAT_GOVSET (s.erlAxis k)) = 0)) := by
  refine ⟨?_, ?_, ?_, ?_, ?_, ?_, ?_, ?_⟩ <;> (dsimp only; decide +kernel)

theorem wit_EngineCycle :
    (let s : State := samp1; let a : Fin 8 := 1; (s.up = true) ∧ (s.get (AX_CTRL_INIT a) = 1)) ∧
    (let s : State := samp1; let a : Fin 8 := 1; let raw : List Int := [100]; (s.up = true) ∧ (s.get (AX_CTRL_INIT a) = 1) ∧ (s.mclkOff a = false) ∧ (s.eng[a].sampled = false) ∧ (s.get (MOD_AX_EN a) = 1) ∧ (s.readyClk a < s.get (ENG_CFG_CYC a) * 43 * s.portN (s.lead a))) ∧
    (let s : State := (samp1.modEng 1 fun e => { e with sampled := true }); let a : Fin 8 := 1; let raw : List Int := [1, 2, 3]; (s.up = true) ∧ (s.eng[a].sampled = true)) ∧
    (let s : State := samp1; let a : Fin 8 := 1; let c : Fin 64 := 3; let x : Int := 20000; (s.up = true) ∧ (s.get (AX_CTRL_INIT a) = 1) ∧ (s.mclkOff a = false) ∧ (s.eng[a].sampled = false) ∧ (s.get (MOD_AX_EN a) = 1) ∧ (s.readyClk a < s.get (ENG_CFG_CYC a) * 43 * s.portN (s.lead a)) ∧ (s.hasAxis a = true) ∧ (s.axisChannels a = [c.1]) ∧ (s.get (MOD_CFG_ROLE c) = 0) ∧ (s.sget (MOD_CAL_GAIN c) = 16384) ∧ (s.sget (MOD_CAL_OFFSET c) = 0) ∧ (-32768 ≤ x) ∧ (x ≤ 32767) ∧ ((s.get (ENG_PROT_OCLIM a) * 32767 : Nat) < x.natAbs * s.get (ENG_SCALE_IFS a)) ∧ (s.axes[a].st ≠ .fault) ∧ (s.axes[a].st ≠ .faultReact)) ∧
    (let s : State := (samp1.modAxis 1 fun x => { x with st := .enabled, mode := 3 }); let a : Fin 8 := 1; let c : Fin 64 := 3; (s.up = true) ∧ (c.1 < s.nMod) ∧ (s.get (MOD_CFG_EN c) = 1) ∧ (s.get (MOD_CFG_AXIS c) = a) ∧ (s.mclkOff a = false) ∧ (s.isSafe a = false)) ∧
    (let s : State := (live.setModCap [7, 8]); let a : Fin 8 := 1; let w : Word := 7#32; let l : List Word := [8#32]; (s.up = true) ∧ (s.modCap = w :: l)) ∧
    (let s : State := samp1; let a : Fin 8 := 1; (s.up = true) ∧ (s.modCap = [])) ∧
    (let s : State := samp1; let a : Fin 8 := 1; (s.up = true)) ∧
    (let s : State := samp1; let a : Fin 8 := 1; (s.up = true)) := by
  refine ⟨?_, ?_, ?_, ?_, ?_, ?_, ?_, ?_, ?_⟩ <;> (dsimp only; decide +kernel)

theorem wit_RingJoiningAndDelays :
    (let s : State := (rg.modRing fun r => { r with st := .off }); (s.up = true) ∧ (s.ring.st = .off)) ∧
    (let s : State := rg; (s.up = true) ∧ (s.ringInUse = false) ∧ (s.ring.st ≠ .off)) ∧
    (let s : State := ((rg.modAxis 1 fun x => { x with st := .enabled, mode := 3 }).setRoute (rg.route.set 1 ⟨[2], [2]⟩)); (s.up = true) ∧ (s.ringInUse = true)) ∧
    (let s : State := (rg.modRing fun r => { r with st := .duplicate }); (s.up = true) ∧ (s.ring.st = .duplicate)) ∧
    (let s : State := rg; (s.up = true)) ∧
    (let s : State := (rg.modRing fun r => { r with st := .listen, heard := some true }); let b : Bool := true; (s.up = true) ∧ (s.ring.st = .listen) ∧ (s.ring.heard = some b) ∧ (s.ring.txQ = [])) ∧
    (let s : State := (rg.modRing fun r => { r with st := .listen }); (s.up = true) ∧ (s.ring.st = .listen) ∧ (s.ring.heard = none) ∧ (s.ring.txQ = [])) ∧
    (let s : State := rg; (s.up = true) ∧ (s.ring.master = false) ∧ ((s.ring.st = .closed ∨ s.ring.st = .broken))) ∧
    (let s : State := ((rg.modRing fun r => { r with st := .elect }).put RING_CFG_MPRIO 3); (s.up = true) ∧ (s.ring.st = .elect) ∧ (s.get RING_CFG_MPRIO ≠ 0)) ∧
    (let s : State := rg; (s.up = true) ∧ (s.ring.st ≠ .off)) ∧
    (let s : State := rg; let onB : Bool := true; let fcs : Bool := true; let f : List (BitVec 8) := rf 3 0x8040 [0, 9]; let late : Nat := 8; (s.up = true) ∧ (s.ring.st ≠ .off) ∧ (fcs = true) ∧ (fget f 12 2 = 0x88B5) ∧ (s.ownSrc f = false) ∧ (fget f 15 1 = 3)) ∧
    (let s : State := rg; let onB : Bool := true; let fcs : Bool := true; let f : List (BitVec 8) := rf 4 0x8040 (beBytes 2 0 ++ beBytes 8 5 ++ beBytes 8 6); let late : Nat := 8; (s.up = true) ∧ (s.ring.st ≠ .off) ∧ (fcs = true) ∧ (fget f 12 2 = 0x88B5) ∧ (s.ownSrc f = false) ∧ (fget f 15 1 = 4) ∧ (fget f 26 2 = s.ring.pseq)) := by
  refine ⟨?_, ?_, ?_, ?_, ?_, ?_, ?_, ?_, ?_, ?_, ?_, ?_⟩ <;> (dsimp only; decide +kernel)

theorem wit_RingFrames :
    (let s : State := rg; (s.up = true) ∧ (s.ring.st ≠ .off)) ∧
    (let s : State := rg; let onB : Bool := false; let fcs : Bool := true; let f : List (BitVec 8) := rf 0x50 0x8040 []; (s.up = true) ∧ (fcs = true) ∧ (s.ring.st ≠ .off) ∧ (fget f 12 2 = 0x88B5) ∧ (knownType (fget f 15 1) = false) ∧ (s.ownSrc f = false)) ∧
    (let s : State := rg; let onB : Bool := true; let fcs : Bool := false; let f : List (BitVec 8) := rf 0x50 0x8040 []; (s.up = true) ∧ (fcs = false) ∧ (s.ring.st ≠ .off) ∧ (fget f 12 2 = 0x88B5) ∧ (fget f 15 1 ≠ 1) ∧ (s.ownSrc f = false)) ∧
    (let s : State := (rg.modRing fun r => { r with master := true }); (s.up = true) ∧ (s.ring.master = true)) ∧
    (let s : State := rg; let onB : Bool := false; let fcs : Bool := true; let f : List (BitVec 8) := rf 1 0x8040 (beBytes 8 1000 ++ beBytes 4 0 ++ [1, 3, 2, 0]); let res : Nat := 10; let late : Nat := 5; (s.up = true) ∧ (s.hears fcs f 1) ∧ (s.ring.master = false) ∧ ((s.ring.st = .closed ∨ s.ring.st = .broken))) ∧
    (let s : State := (rg.modRing fun r => { r with master := true, bcn := some 9, fseq := 9 }); let onB : Bool := false; let fcs : Bool := true; let f : List (BitVec 8) := fput (rf 1 0x8040 (beBytes 8 1000 ++ beBytes 4 0 ++ [1, 3, 2, 0])) 16 2 69; let res : Nat := 10; let late : Nat := 5; (s.up = true) ∧ (fcs = true) ∧ (s.ring.master = true) ∧ (s.ring.joined = true) ∧ (fget f 12 2 = 0x88B5) ∧ (s.ownSrc f = true) ∧ (fget f 15 1 = 1) ∧ (s.ring.bcn = some (fget f 20 2)) ∧ (s.ring.originated (fget f 20 2) = true)) ∧
    (let s : State := (rg.modRing fun r => { r with master := true }); let onB : Bool := false; let fcs : Bool := true; let f : List (BitVec 8) := rf 2 0x8040 [0, 0]; (s.up = true) ∧ (s.hears fcs f 2) ∧ (s.ring.master = true) ∧ (fget f 27 1 = 0)) ∧
    (let s : State := rg; let onB : Bool := false; let lk : Bool := false; (s.up = true) ∧ (s.ring.joined = true) ∧ (s.linkUp onB = !lk)) ∧
    (let s : State := rg; let src : BitVec 12 := 67#12; (s.up = true)) := by
  refine ⟨?_, ?_, ?_, ?_, ?_, ?_, ?_, ?_, ?_⟩ <;> (dsimp only [State.hears]; decide +kernel)

theorem wit_ShareGroups :
    (let s : State := grp; let g : Fin 16 := 2; (s.up = true) ∧ (s.grpOn g = true) ∧ (s.ring.joined = true) ∧ (s.unclaimed = false)) ∧
    (let s : State := grp; let g : Fin 16 := 2; let onB : Bool := false; let fcs : Bool := true; let f : List (BitVec 8) := rf 0x11 0x8040 ([2, 1] ++ beBytes 2 4 ++ [1, 0x80] ++ beBytes 4 2560 ++ beBytes 4 2000); (s.up = true) ∧ (s.grpOn g = true) ∧ (s.hears fcs f 0x11) ∧ (fget f 26 1 % 16 = g.1)) ∧
    (let s : State := grp; let g : Fin 16 := 2; let onB : Bool := false; let fcs : Bool := true; let f : List (BitVec 8) := rf 0x10 0x8040 sharePl; (s.up = true) ∧ (s.grpOn g = true) ∧ (s.hears fcs f 0x10) ∧ (fget f 26 1 % 16 = g.1) ∧ ((s.ring.groups[g].lead = false ∨ fget f 16 2 % 64 ≤ s.unitAddr)) ∧ (s.ring.groups[g].gotFrom = none)) ∧
    (let s : State := grp; let g : Fin 16 := 2; let onB : Bool := false; let fcs : Bool := true; let f : List (BitVec 8) := rf 0x10 0x8040 (sharePay 2 0x20 4 1000 [(41, 0)]); let a : Fin 8 := 1; (s.up = true) ∧ (s.grpOn g = true) ∧ (s.hears fcs f 0x10) ∧ (fget f 26 1 % 16 = g.1) ∧ ((s.ring.groups[g].lead = false ∨ fget f 16 2 % 64 ≤ s.unitAddr)) ∧ (s.ring.groups[g].gotFrom = none) ∧ (a ∈ s.ownMembers g) ∧ (bitOf (fget f 27 1) 5 = true)) ∧
    (let s : State := grp; let g : Fin 16 := 2; let onB : Bool := false; let fcs : Bool := true; let f : List (BitVec 8) := rf 0x10 0x8040 sharePl; let a : Fin 8 := 1; (s.up = true) ∧ (s.grpOn g = true) ∧ (s.hears fcs f 0x10) ∧ (fget f 26 1 % 16 = g.1) ∧ ((s.ring.groups[g].lead = false ∨ fget f 16 2 % 64 ≤ s.unitAddr)) ∧ (s.ring.groups[g].gotFrom = none) ∧ (s.ownMembers g = [a]) ∧ (bitOf (fget f 27 1) 5 = false) ∧ (bitOf (fget f 27 1) 7 = false) ∧ (1 ≤ fget f 34 1) ∧ (fget f 36 2 % 512 = s.memKey a) ∧ (s.ring.members[a].settled = false)) ∧
    (let s : State := ((grp.put (GRP_CFG_NUNITS1 2) 0).modGrp 2 fun x => { x with quiet := 40, av := [(5, [grp.availEntry 1])] }); let g : Fin 16 := 2; (s.up = true) ∧ (s.grpOn g = true) ∧ (s.ring.joined = true) ∧ (s.unclaimed = false) ∧ (s.ring.groups[g].lead = false) ∧ (3 + 2 * s.leadRank g ≤ s.ring.groups[g].quiet) ∧ (s.quorate g [s.unitAddr] = true) ∧ (s.ring.groups[g].units = none) ∧ (s.ring.groups[g].av = [(s.unitAddr, (s.ownMembers g).map s.availEntry)]) ∧ (s.ring.groups[g].inc = []) ∧ (s.ring.groups[g].known = []) ∧ (s.get NODE_UNIT < 64) ∧ (s.ring.groups[g].force = false)) ∧
    (let s : State := grp; let g : Fin 16 := 2; (s.up = true) ∧ (s.grpOn g = true) ∧ (s.ring.groups[g].lead = false) ∧ (s.ring.groups[g].force = false) ∧ (s.ring.groups[g].quiet < 3)) := by
  refine ⟨?_, ?_, ?_, ?_, ?_, ?_, ?_⟩ <;> (dsimp only [State.hears]; decide +kernel)

theorem wit_SystemFrames :
    (let s : State := rg; let onB : Bool := false; let fcs : Bool := true; let f : List (BitVec 8) := rf 0x20 69 (sysPl 1 [1, 2, 3]); (s.up = true) ∧ (s.hears fcs f 0x20) ∧ (sysOdst f = s.sysAddr) ∧ (sysCmd f = 1) ∧ (sysLenOk f = true)) ∧
    (let s : State := rg; let onB : Bool := false; let fcs : Bool := true; let f : List (BitVec 8) := fput (rf 0x20 69 (sysPl 1 [])) 34 2 300; (s.up = true) ∧ (s.hears fcs f 0x20) ∧ (sysOdst f = s.sysAddr) ∧ (sysCmd f = 1) ∧ (sysLenOk f = false)) ∧
    (let s : State := rg; let onB : Bool := false; let fcs : Bool := true; let f : List (BitVec 8) := rf 0x20 69 (sysPl 3 [1, 2, 3]); (s.up = true) ∧ (s.hears fcs f 0x20) ∧ (sysOdst f = s.sysAddr) ∧ (sysCmd f = 3) ∧ (sysLenOk f = true) ∧ (s.ring.rxQ.length + (sysRecord 0x20 3 (sysTid f) (sysOsrc f) (sysData f)).length ≤ 512)) ∧
    (let s : State := (rg.modRing fun r => { r with rxQ := List.replicate 511 0 }); let onB : Bool := false; let fcs : Bool := true; let f : List (BitVec 8) := rf 0x20 69 (sysPl 3 [1, 2, 3]); (s.up = true) ∧ (s.hears fcs f 0x20) ∧ (sysOdst f = s.sysAddr) ∧ (sysCmd f = 3) ∧ (sysLenOk f = true) ∧ (512 < s.ring.rxQ.length + (sysRecord 0x20 3 (sysTid f) (sysOsrc f) (sysData f)).length)) ∧
    (let s : State := rg; let onB : Bool := false; let fcs : Bool := true; let f : List (BitVec 8) := rf 0x20 69 (sysPl 4 [1, 2, 3]); (s.up = true) ∧ (s.hears fcs f 0x20) ∧ (sysOdst f = s.sysAddr) ∧ (sysCmd f = 4) ∧ (sysLenOk f = true) ∧ (s.ring.rxQ.length + (sysRecord 0x20 4 (sysTid f) (sysOsrc f) (sysData f)).length ≤ 512)) ∧
    (let s : State := rg; let onB : Bool := false; let fcs : Bool := true; let f : List (BitVec 8) := rf 0x20 69 (sysPl 9 [1, 2, 3]); (s.up = true) ∧ (s.hears fcs f 0x20) ∧ (sysOdst f = s.sysAddr) ∧ ((sysCmd f = 0 ∨ 4 < sysCmd f)) ∧ (sysLenOk f = true)) ∧
    (let s : State := rg; let onB : Bool := true; let fcs : Bool := true; let f : List (BitVec 8) := rf 0x21 69 (sysPl 5 []); (s.up = true) ∧ (s.hears fcs f 0x21) ∧ (sysOdst f = s.sysAddr)) ∧
    (let s : State := (rg.modRing fun r => { r with queries := [(67, 5)] }); let osrc : BitVec 12 := 67#12; let tid : BitVec 16 := 5#16; (s.up = true) ∧ (s.ring.queries.contains (osrc.toNat, tid.toNat) = true)) ∧
    (let s : State := (rg.modRing fun r => { r with txQ := [0x20010007#32] }); let w : Word := 0x00430000#32; let w0 : Word := 0x20010007#32; (s.up = true) ∧ (s.ring.joined = true) ∧ (s.ring.txQ = [w0]) ∧ (txBad w0.toNat w.toNat = false) ∧ (bitsOf w.toNat 8 0 = 0) ∧ (bitsOf w0.toNat 31 24 = 0x20) ∧ ((bitsOf w.toNat 27 16 / 64 = s.get NODE_RINGNO ∨ s.ringBit (RING_ROUTE 0) (bitsOf w.toNat 27 16 / 64) = true))) ∧
    (let s : State := (rg.modRing fun r => { r with txQ := [0x20010007#32] }); let w : Word := 0x00830000#32; let w0 : Word := 0x20010007#32; (s.up = true) ∧ (s.ring.joined = true) ∧ (s.ring.txQ = [w0]) ∧ (txBad w0.toNat w.toNat = false) ∧ (bitsOf w.toNat 8 0 = 0) ∧ (bitsOf w0.toNat 31 24 = 0x20) ∧ (bitsOf w.toNat 27 16 / 64 ≠ s.get NODE_RINGNO) ∧ (s.ringBit (RING_ROUTE 0) (bitsOf w.toNat 27 16 / 64) = false)) ∧
    (let s : State := (rg.modRing fun r => { r with rxQ := [7, 8] }); let w : Word := 7#32; let l : List Word := [8#32]; (s.up = true) ∧ (s.ring.rxQ = w :: l)) ∧
    (let s : State := rg; (s.up = true) ∧ (s.ring.rxQ = [])) := by
  refine ⟨?_, ?_, ?_, ?_, ?_, ?_, ?_, ?_, ?_, ?_, ?_, ?_⟩ <;> (dsimp only [State.hears]; decide +kernel)

theorem wit_PairAndCopyFrames :
    (let s : State := sby; let onB : Bool := false; let fcs : Bool := true; let f : List (BitVec 8) := pf 0x33 pairPl; (s.up = true) ∧ (s.hears fcs f 0x33) ∧ (s.cpOn = true)) ∧
    (let s : State := sby; (s.up = true) ∧ (s.cpOn = true) ∧ (s.cp.lost = false)) ∧
    (let s : State := sby; (s.up = true) ∧ (s.get CP_STAT_ROLE = 2) ∧ (s.cp.stale = false)) ∧
    (let s : State := sby; let onB : Bool := false; let fcs : Bool := true; let f : List (BitVec 8) := pf 0x30 (beBytes 4 9 ++ beBytes 2 0 ++ beBytes 2 32 ++ beBytes 2 0 ++ img9); (s.up = true) ∧ (s.hears fcs f 0x30) ∧ (s.cpOn = true) ∧ (s.get CP_STAT_ROLE = 2) ∧ (fget f 16 2 = s.partnerAddr) ∧ (s.copyNewer (fget f 26 4) = true) ∧ (s.cp.part = none)) ∧
    (let s : State := (sby.modCp fun c => { c with part := some { part9 with commit := none } }); let onB : Bool := false; let fcs : Bool := true; let f : List (BitVec 8) := pf 0x30 (beBytes 4 9 ++ beBytes 2 0 ++ beBytes 2 32 ++ beBytes 2 0 ++ img9); let p : CopyPart := { part9 with commit := none }; (s.up = true) ∧ (s.hears fcs f 0x30) ∧ (s.cpOn = true) ∧ (s.get CP_STAT_ROLE = 2) ∧ (fget f 16 2 = s.partnerAddr) ∧ (s.copyNewer (fget f 26 4) = true) ∧ (s.cp.part = some p) ∧ (p.epoch = fget f 26 4) ∧ (p.commit = none)) ∧
    (let s : State := (sby.modCp fun c => { c with part := some { part9 with epoch := 8 } }); let onB : Bool := false; let fcs : Bool := true; let f : List (BitVec 8) := pf 0x30 (beBytes 4 9 ++ beBytes 2 0 ++ beBytes 2 32 ++ beBytes 2 0 ++ img9); let p : CopyPart := { part9 with epoch := 8 }; (s.up = true) ∧ (s.hears fcs f 0x30) ∧ (s.cpOn = true) ∧ (s.get CP_STAT_ROLE = 2) ∧ (fget f 16 2 = s.partnerAddr) ∧ (s.copyNewer (fget f 26 4) = true) ∧ (s.cp.part = some p) ∧ (newerEpoch (fget f 26 4) p.epoch = true) ∧ (p.epoch ≠ fget f 26 4)) ∧
    (let s : State := sby; let onB : Bool := false; let fcs : Bool := true; let f : List (BitVec 8) := pf 0x31 (beBytes 4 9 ++ beBytes 2 32 ++ beBytes 4 77 ++ beBytes 2 1); (s.up = true) ∧ (s.hears fcs f 0x31) ∧ (s.cpOn = true) ∧ (s.get CP_STAT_ROLE = 2) ∧ (fget f 16 2 = s.partnerAddr) ∧ (s.copyNewer (fget f 26 4) = true) ∧ (s.cp.part = none)) ∧
    (let s : State := (sby.modCp fun c => { c with part := some { part9 with commit := none } }); let onB : Bool := false; let fcs : Bool := true; let f : List (BitVec 8) := pf 0x31 (beBytes 4 9 ++ beBytes 2 32 ++ beBytes 4 77 ++ beBytes 2 1); let p : CopyPart := { part9 with commit := none }; (s.up = true) ∧ (s.hears fcs f 0x31) ∧ (s.cpOn = true) ∧ (s.get CP_STAT_ROLE = 2) ∧ (fget f 16 2 = s.partnerAddr) ∧ (s.copyNewer (fget f 26 4) = true) ∧ (s.cp.part = some p) ∧ (p.epoch = fget f 26 4) ∧ (p.commit = none)) ∧
    (let s : State := (sby.modCp fun c => { c with part := some { part9 with commit := none } }); let onB : Bool := false; let fcs : Bool := true; let f : List (BitVec 8) := pf 0x32 (beBytes 4 9 ++ beBytes 4 (2 ^ 32 - 1 - 9) ++ beBytes 1 0); let p : CopyPart := { part9 with commit := none }; let l : List (BitVec 8) := img9; (s.up = true) ∧ (s.hears fcs f 0x32) ∧ (s.cpOn = true) ∧ (s.get CP_STAT_ROLE = 2) ∧ (fget f 16 2 = s.partnerAddr) ∧ (s.cp.com = none) ∧ (s.cp.part = some p) ∧ (fget f 26 4 = p.epoch) ∧ (p.epoch < 2 ^ 32) ∧ (fget f 30 4 + fget f 26 4 = 0xFFFFFFFF) ∧ ((CopyPart.mk p.epoch p.data p.trailer (some (fget f 34 1))).whole = some l)) ∧
    (let s : State := (sby.modCp fun c => { c with com := some ⟨9, img9, []⟩ }); let onB : Bool := false; let fcs : Bool := true; let f : List (BitVec 8) := pf 0x32 (beBytes 4 9 ++ beBytes 4 (2 ^ 32 - 1 - 9) ++ beBytes 1 0); let m : CopyImg := ⟨9, img9, []⟩; (s.up = true) ∧ (s.hears fcs f 0x32) ∧ (s.cp.com = some m) ∧ (newerEpoch (fget f 26 4) m.epoch = false)) := by
  refine ⟨?_, ?_, ?_, ?_, ?_, ?_, ?_, ?_, ?_, ?_⟩ <;> (dsimp only [State.hears]; decide +kernel)

theorem wit_ClaimLines :
    (let s : State := cpS; let high : Bool := false; (s.up = true) ∧ (s.cpOn = true) ∧ (s.cp.partnerHigh = !high)) ∧
    (let s : State := cpS; (s.up = true) ∧ (s.cpOn = true) ∧ (s.cp.claim = false) ∧ (s.cp.partnerHigh = true) ∧ (s.cp.barred = 0) ∧ (s.bg.latched = false) ∧ (s.cp.seen = false) ∧ (s.copyImg = none) ∧ ((∀ n : Fin 8, s.get (LAMP_STAT_DARK n) = 0))) ∧
    (let s : State := (sby.modCp fun c => { c with seen := true }); (s.up = true) ∧ (s.cpOn = true) ∧ (s.cp.claim = false) ∧ (s.cp.partnerHigh = true) ∧ (s.cp.barred = 0) ∧ (s.bg.latched = false) ∧ (s.cp.seen = true) ∧ (s.copyImg = none) ∧ ((∀ n : Fin 8, s.get (LAMP_STAT_DARK n) = 0))) ∧
    (let s : State := duty1; (s.up = true) ∧ (s.cpOn = true) ∧ (s.cp.claim = true)) ∧
    (let s : State := duty1; (s.up = true) ∧ (s.cpOn = true) ∧ (s.cp.claim = true) ∧ (s.cp.found = false)) ∧
    (let s : State := (duty1.modCp fun c => { c with partnerHigh := false }); (s.up = true) ∧ (s.cpOn = true) ∧ (s.cp.claim = true) ∧ (s.cp.partnerHigh = false) ∧ (s.streamsPaired = true)) ∧
    (let s : State := (((duty1.modCp fun c => { c with partnerHigh := false }).modPort 2 fun q => { q with st := .halt }).put CP_CFG_PARTNER 3); (s.up = true) ∧ (s.cpOn = true) ∧ (s.cp.claim = true) ∧ (s.cp.partnerHigh = false) ∧ (s.streamsPaired = false) ∧ (s.get CP_CFG_PARTNER < s.unitAddr)) ∧
    (let s : State := ((duty1.modCp fun c => { c with partnerHigh := false }).modPort 2 fun q => { q with st := .halt }); (s.up = true) ∧ (s.cpOn = true) ∧ (s.cp.claim = true) ∧ (s.cp.partnerHigh = false) ∧ (s.streamsPaired = false) ∧ (s.unitAddr ≤ s.get CP_CFG_PARTNER)) ∧
    (let s : State := cpS; let since : List Nat := []; (s.up = true) ∧ (s.cpOn = true) ∧ (s.cp.take = none)) ∧
    (let s : State := (sby.modCp fun c => { c with take := some ⟨0, 1, 0, false, false, Vector.replicate 6 [], []⟩ }); let since : List Nat := []; (s.up = true) ∧ (s.cpOn = true) ∧ (s.cp.take = some ⟨0, 1, 0, false, false, Vector.replicate 6 [], []⟩) ∧ (s.cp.com = none)) := by
  refine ⟨?_, ?_, ?_, ?_, ?_, ?_, ?_, ?_, ?_, ?_⟩ <;> (dsimp only; decide +kernel)

theorem wit_DutyCommands :
    (let s : State := (duty1.put CP_STAT_PAIR 3); (s.up = true) ∧ (s.get CP_STAT_ROLE = 1) ∧ (s.get CP_STAT_PAIR = 3) ∧ (s.cp.claim = true)) ∧
    (let s : State := duty1; (s.up = true) ∧ ((s.get CP_STAT_ROLE ≠ 1 ∨ s.get CP_STAT_PAIR ≠ 3 ∨ s.cp.claim = false))) ∧
    (let s : State := (duty1.modCp fun c => { c with ho := 2 }); (s.up = true) ∧ (s.cp.claim = true) ∧ (s.cp.ho = 2)) ∧
    (let s : State := duty1; (s.up = true)) ∧
    (let s : State := duty1; (s.up = true)) ∧
    (let s : State := duty1; (s.up = true) ∧ (s.cpOn = true) ∧ (s.get CP_STAT_ROLE = 1) ∧ (s.cp.claim = true)) ∧
    (let s : State := sby; (s.up = true) ∧ (s.cpOn = true) ∧ (s.get CP_STAT_ROLE = 2)) := by
  refine ⟨?_, ?_, ?_, ?_, ?_, ?_, ?_⟩ <;> (dsimp only; decide +kernel)

theorem wit_StoreAcceptance :
    (let s : State := (st1.setReg (STORE_ARG 1) 0x00050000); let ten : Fin 8 := 3; (s.up = true) ∧ (s.store.cmd = none) ∧ (s.store.ready = true) ∧ (s.parked = false) ∧ (s.store.tx = none) ∧ (s.recRefusal ten.1 true (s.reg (STORE_ARG 0)).toNat ((s.reg (STORE_ARG 1)).toNat / 65536) ((s.reg (STORE_ARG 1)).toNat % 65536) ((s.reg (STORE_ARG 2)).toNat % 65536) = 0)) ∧
    (let s : State := (tx1.modStore fun x => { x with tx := some (1, 2) }); let ten : Fin 8 := 3; let q : Nat := 1; let d : Nat := 2; (s.up = true) ∧ (s.store.cmd = none) ∧ (s.store.ready = true) ∧ (s.parked = false) ∧ (s.store.tx = some (q, d)) ∧ (d ≠ ten.1)) ∧
    (let s : State := (tx1.setReg (STORE_ARG 1) 0x00050000); let ten : Fin 8 := 3; let q : Nat := 1; (s.up = true) ∧ (s.store.cmd = none) ∧ (s.store.ready = true) ∧ (s.parked = false) ∧ (s.store.tx = some (q, ten.1)) ∧ (1 ≤ (s.reg (STORE_ARG 1)).toNat / 65536) ∧ ((s.reg (STORE_ARG 1)).toNat / 65536 ≤ 0xEFFF) ∧ (s.store.txBytes ≤ 65536 - 48)) ∧
    (let s : State := tx1; let ten : Fin 8 := 3; let q : Nat := 1; (s.up = true) ∧ (s.store.cmd = none) ∧ (s.store.ready = true) ∧ (s.parked = false) ∧ (s.store.tx = some (q, ten.1)) ∧ (s.confirmed = true)) ∧
    (let s : State := (st1.modStore fun x => { x with tx := some (1, 3), tseq := 1 }); let ten : Fin 8 := 3; let q : Nat := 1; (s.up = true) ∧ (s.store.cmd = none) ∧ (s.store.ready = true) ∧ (s.parked = false) ∧ (s.store.tx = some (q, ten.1)) ∧ (s.confirmed = false) ∧ (s.store.txLayout ≠ some s.runLayout)) ∧
    (let s : State := tx1; let ten : Fin 8 := 3; let q : Nat := 1; (s.up = true) ∧ (s.store.cmd = none) ∧ (s.store.ready = true) ∧ (s.parked = false) ∧ (s.store.tx = some (q, ten.1))) ∧
    (let s : State := tx1; let ten : Fin 8 := 3; (s.up = true) ∧ (s.store.cmd = none) ∧ (s.store.ready = true)) ∧
    (let s : State := tx1; let ten : Fin 8 := 3; (s.up = true) ∧ (s.store.cmd = none) ∧ (s.parked = false)) ∧
    (let s : State := (((tx1.modStore fun x => { x with prog := true }).setReg (STORE_ARG 0) 0x20000000).setReg (STORE_ARG 1) 0x10800100); let ten : Fin 8 := 3; (s.up = true) ∧ (s.store.cmd = none) ∧ (s.parked = false) ∧ (s.store.prog = true) ∧ (srcOk (s.reg (STORE_ARG 0)).toNat 256 = true) ∧ (bankBase s.otherBank ≤ (s.reg (STORE_ARG 1)).toNat) ∧ ((s.reg (STORE_ARG 1)).toNat + 256 ≤ bankBase s.otherBank + 0x800000) ∧ ((s.reg (STORE_ARG 1)).toNat % 256 = 0)) ∧
    (let s : State := tx1; let ten : Fin 8 := 3; (s.up = true) ∧ (s.store.cmd = none) ∧ (s.parked = false) ∧ (s.store.prog = false)) ∧
    (let s : State := tx1; let ten : Fin 8 := 3; (s.up = true) ∧ (s.store.cmd = none) ∧ (s.parked = false)) ∧
    (let s : State := (tx1.put BEAR_STAT_PARK 3); let ten : Fin 8 := 3; (s.up = true) ∧ (s.store.cmd = none) ∧ (s.parked = true)) ∧
    (let s : State := tx1; let ten : Fin 8 := 3; (s.up = true) ∧ (s.store.cmd = none) ∧ (s.parked = false)) ∧
    (let s : State := tx1; let ten : Fin 8 := 3; (s.up = true) ∧ (s.store.cmd = none) ∧ (s.parked = false) ∧ ((s.confirmed = true ∨ s.store.layNow = s.runLayout))) ∧
    (let s : State := st1; let ten : Fin 8 := 3; (s.up = true) ∧ (s.store.cmd = none) ∧ (s.parked = false) ∧ (s.confirmed = false) ∧ (s.store.layNow ≠ s.runLayout)) ∧
    (let s : State := (st1.setReg (STORE_ARG 1) 2); let ten : Fin 8 := 3; (s.up = true) ∧ (s.store.cmd = none) ∧ (s.parked = false) ∧ (s.confirmed = false) ∧ ((s.reg (STORE_ARG 1)).toNat = 2)) ∧
    (let s : State := tx1; let ten : Fin 8 := 3; (s.up = true) ∧ (s.store.cmd = none) ∧ (s.parked = false) ∧ (s.confirmed = true)) := by
  refine ⟨?_, ?_, ?_, ?_, ?_, ?_, ?_, ?_, ?_, ?_, ?_, ?_, ?_, ?_, ?_, ?_, ?_⟩ <;> (dsimp only; decide +kernel)

theorem wit_StoreCompletion :
    (let s : State := (tx1.modStore fun x => { x with cmd := some ⟨3, 0, 0, 0, 3⟩ }); let good : Bool := false; let c : StoreCmd := ⟨3, 0, 0, 0, 3⟩; (s.up = true) ∧ (s.store.cmd = some c) ∧ (good = false)) ∧
    (let s : State := (tx1.modStore fun x => { x with cmd := some ⟨1, 0x20000000, 0x00050004, 2, 3⟩ }); let good : Bool := true; let c : StoreCmd := ⟨1, 0x20000000, 0x00050004, 2, 3⟩; let q : Nat × Nat := (1, 3); (s.up = true) ∧ (s.store.cmd = some c) ∧ (good = true) ∧ (c.op = 1) ∧ (s.store.tx = some q)) ∧
    (let s : State := (tx1.modStore fun x => { x with cmd := some ⟨2, 0, 0x00050000, 0, 3⟩ }); let good : Bool := true; let c : StoreCmd := ⟨2, 0, 0x00050000, 0, 3⟩; let q : Nat × Nat := (1, 3); (s.up = true) ∧ (s.store.cmd = some c) ∧ (good = true) ∧ (c.op = 2) ∧ (s.store.tx = some q)) ∧
    (let s : State := (tx1.modStore fun x => { x with cmd := some ⟨8, 0, 0x00050000, 0, 3⟩, eraseAt := some 0, bankwr := true }); let good : Bool := true; let c : StoreCmd := ⟨8, 0, 0x00050000, 0, 3⟩; (s.up = true) ∧ (s.store.cmd = some c) ∧ (good = true) ∧ (c.op = 8) ∧ (s.store.eraseAt = some 0)) ∧
    (let s : State := (tx1.modStore fun x => { x with cmd := some ⟨9, 0x20000000, 0x10800000, 0, 3⟩ }); let good : Bool := true; let c : StoreCmd := ⟨9, 0x20000000, 0x10800000, 0, 3⟩; (s.up = true) ∧ (s.store.cmd = some c) ∧ (good = true) ∧ (c.op = 9) ∧ (s.store.eraseAt = none) ∧ (bankBase s.otherBank ≤ c.a1) ∧ (c.a1 + 256 ≤ bankBase s.otherBank + 0x800000) ∧ (srcOk c.a0 256 = true)) ∧
    (let s : State := (live.modStore fun x => { x with ready := true, cmd := some ⟨12, 0, 0x00050000, 0, 3⟩ }); let good : Bool := true; let c : StoreCmd := ⟨12, 0, 0x00050000, 0, 3⟩; (s.up = true) ∧ (s.store.cmd = some c) ∧ (good = true) ∧ (c.op = 0xC) ∧ (s.confirmed = false) ∧ (s.store.migFrom = none)) ∧
    (let s : State := (live.modStore fun x => { x with ready := true, cmd := some ⟨13, 0x00080007, 2, 0, 3⟩ }); let good : Bool := true; let c : StoreCmd := ⟨13, 0x00080007, 2, 0, 3⟩; (s.up = true) ∧ (s.store.cmd = some c) ∧ (good = true) ∧ (c.op = 0xD) ∧ (s.confirmed = false)) ∧
    (let s : State := (tx1.modStore fun x => { x with cmd := some ⟨3, 0, 0, 0, 3⟩ }); let good : Bool := true; let c : StoreCmd := ⟨3, 0, 0, 0, 3⟩; (s.up = true) ∧ (s.store.cmd = some c) ∧ (good = true) ∧ (c.op = 3) ∧ (s.store.tx.isSome = true)) ∧
    (let s : State := (tx1.modStore fun x => { x with cmd := some ⟨4, 0, 0, 0, 3⟩ }); let good : Bool := true; let c : StoreCmd := ⟨4, 0, 0, 0, 3⟩; let q : Nat × Nat := (1, 3); (s.up = true) ∧ (s.store.cmd = some c) ∧ (good = true) ∧ (c.op = 4) ∧ (s.store.tx = some q)) ∧
    (let s : State := ((tx1.modStore fun x => { x with cmd := some ⟨5, 0, 0x00050000, 2, 3⟩ }).modStore fun x => { x with recs := [⟨1, 5, 2, 9, 0x11000020, [7]⟩] }); let good : Bool := true; let c : StoreCmd := ⟨5, 0, 0x00050000, 2, 3⟩; let e : StoreRec := ⟨1, 5, 2, 9, 0x11000020, [7]⟩; (s.up = true) ∧ (s.store.cmd = some c) ∧ (good = true) ∧ (c.op = 5) ∧ (s.store.find (c.a1 / 65536) (c.a2 % 65536) = some e)) ∧
    (let s : State := (tx1.modStore fun x => { x with cmd := some ⟨5, 0, 0x00050000, 2, 3⟩ }); let good : Bool := true; let c : StoreCmd := ⟨5, 0, 0x00050000, 2, 3⟩; (s.up = true) ∧ (s.store.cmd = some c) ∧ (good = true) ∧ (c.op = 5) ∧ (s.store.find (c.a1 / 65536) (c.a2 % 65536) = none)) ∧
    (let s : State := (tx1.modStore fun x => { x with cmd := some ⟨10, 0, 0, 0, 3⟩ }); let good : Bool := true; let c : StoreCmd := ⟨0xA, 0, 0, 0, 3⟩; (s.up = true) ∧ (s.store.cmd = some c) ∧ (good = true) ∧ (c.op = 0xA) ∧ (s.imgField s.otherBank 0 4 ≠ 0x47D10F1E)) ∧
    (let s : State := (tx1.modStore fun x => { x with cmd := some ⟨11, 0, 0, 0, 3⟩ }); let good : Bool := true; let c : StoreCmd := ⟨0xB, 0, 0, 0, 3⟩; (s.up = true) ∧ (s.store.cmd = some c) ∧ (good = true) ∧ (c.op = 0xB)) ∧
    (let s : State := (tx1.modStore fun x => { x with eraseAt := some 3, bankwr := true }); (s.up = true) ∧ (s.store.eraseAt.isSome = true)) ∧
    (let s : State := live; (s.up = true) ∧ (s.store.ready = false)) ∧
    (let s : State := (st1.modStore fun x => { x with used := List.range 240, recs := [⟨1, 5, 2, 9, 0x11000020, [7]⟩] }); let k : Nat := 0; let l : List Nat := (List.range 239).map (· + 1); (s.up = true) ∧ (s.store.used = k :: l) ∧ (s.store.ready = true) ∧ (s.parked = false) ∧ (s.store.erased.length < 24)) ∧
    (let s : State := (st1.modStore fun x => { x with used := List.range 240 }); let k : Nat := 0; let l : List Nat := (List.range 239).map (· + 1); (s.up = true) ∧ (s.store.used = k :: l) ∧ (s.store.ready = true) ∧ (s.parked = false) ∧ (s.store.erased.length < 24) ∧ (k ∉ l) ∧ (s.store.recs = []) ∧ (s.store.off ≤ 4096)) := by
  refine ⟨?_, ?_, ?_, ?_, ?_, ?_, ?_, ?_, ?_, ?_, ?_, ?_, ?_, ?_, ?_, ?_, ?_⟩ <;> (dsimp only; decide +kernel)

theorem wit_TagWired :
    (let s : State := tag1; let block : BitVec 12 := 9#12; (s.up = true) ∧ (s.tag.wired = none) ∧ (s.tag.sess < 2)) ∧
    (let s : State := tag1; let block : BitVec 12 := 1025#12; (s.up = true) ∧ (s.tag.wired = none) ∧ (s.tag.sess < 2) ∧ (1024 ≤ block.toNat) ∧ (block.toNat ≤ 3890) ∧ ((sparseWf (fun _ => 0) 0 s.tag.blocks = true))) ∧
    (let s : State := tag1; let block : BitVec 12 := 5#12; (s.up = true) ∧ ((block.toNat < 1024 ∨ 3890 < block.toNat))) ∧
    (let s : State := (tag1.modTag fun x => { x with sess := 3 }); let block : BitVec 12 := 9#12; (s.up = true) ∧ (s.tag.sess = 3)) ∧
    (let s : State := (tag1.modTag fun x => { x with sess := 2 }); let block : BitVec 12 := 9#12; (s.up = true) ∧ (s.tag.sess = 2) ∧ (s.tag.wired = none)) ∧
    (let s : State := (tag1.modTag fun x => { x with wired := some (9, none) }); let k : Nat := 9; (s.up = true) ∧ (s.tag.wired = some (k, none))) ∧
    (let s : State := (tag1.modTag fun x => { x with wired := some (1029, some 3) }); let k : Nat := 1029; let v : Word := 3#32; (s.up = true) ∧ (s.tag.wired = some (k, some v)) ∧ ((sparseWf (fun _ => 0) 0 s.tag.blocks = true))) ∧
    (let s : State := tag1; (s.up = true)) ∧
    (let s : State := tag1; (s.up = true)) := by
  refine ⟨?_, ?_, ?_, ?_, ?_, ?_, ?_, ?_, ?_⟩ <;> (dsimp only; decide +kernel)

theorem wit_TagRadio :
    (let s : State := tag1; let mode : Fin 3 := 1; let inv : Bool := false; (s.tag.field = true)) ∧
    (let s : State := tag1; let mode : Fin 3 := 1; let maskLen : Fin 65 := 4; let mask : BitVec 64 := 0#64; (s.tag.field = true) ∧ (s.tag.rf ≠ .quiet) ∧ (leNat s.tagUid % 2 ^ maskLen.1 = mask.toNat % 2 ^ maskLen.1)) ∧
    (let s : State := tag1; let mode : Fin 3 := 1; (s.tag.field = true)) ∧
    (let s : State := tag1; let mode : Fin 3 := 1; let mine : Bool := true; (s.tag.field = true) ∧ (mine = true)) ∧
    (let s : State := tag1; let mode : Fin 3 := 1; let mine : Bool := false; (s.tag.field = true) ∧ (mine = false)) ∧
    (let s : State := tag1; let mode : Fin 3 := 1; (s.tag.hears mode = true)) ∧
    (let s : State := tag1; let mode : Fin 3 := 1; let ext : Bool := true; let first : Nat := 300; let n : Nat := 4; (s.tag.hears mode = true) ∧ (1 ≤ n) ∧ (n ≤ 64) ∧ (first + n ≤ rfTop ext + 1)) ∧
    (let s : State := tag1; let mode : Fin 3 := 1; let ext : Bool := false; let first : Nat := 255; let n : Nat := 2; (s.tag.hears mode = true) ∧ ((n = 0 ∨ 64 < n ∨ rfTop ext + 1 < first + n))) ∧
    (let s : State := svc1; let mode : Fin 3 := 1; let ext : Bool := true; let block : BitVec 12 := 1030#12; let data : Word := 7#32; (s.tag.hears mode = true) ∧ (block.toNat ≤ rfTop ext) ∧ (s.rfLocked block.toNat = false) ∧ (s.rfLiveBar block.toNat = false)) ∧
    (let s : State := tag1; let mode : Fin 3 := 1; let ext : Bool := true; let block : BitVec 12 := 1030#12; let data : Word := 7#32; (s.tag.hears mode = true) ∧ (block.toNat ≤ rfTop ext) ∧ (s.rfLocked block.toNat = false) ∧ (s.rfLiveBar block.toNat = true)) ∧
    (let s : State := tag1; let mode : Fin 3 := 1; let ext : Bool := true; let block : BitVec 12 := 200#12; let data : Word := 7#32; (s.tag.hears mode = true) ∧ (block.toNat ≤ rfTop ext) ∧ (s.rfLocked block.toNat = true)) ∧
    (let s : State := svc1; let mode : Fin 3 := 1; let ext : Bool := true; let block : BitVec 12 := 1030#12; (s.tag.hears mode = true) ∧ (block.toNat ≤ rfTop ext) ∧ (s.rfLocked block.toNat = false) ∧ (s.rfLiveBar block.toNat = false)) ∧
    (let s : State := tag1; let mode : Fin 3 := 1; let ext : Bool := true; (s.tag.hears mode = true)) ∧
    (let s : State := tag1; let mode : Fin 3 := 1; let ext : Bool := false; let first : Nat := 250; let n : Nat := 6; (s.tag.hears mode = true) ∧ (1 ≤ n) ∧ (first + n ≤ rfTop ext + 1)) ∧
    (let s : State := tag1; let mode : Fin 3 := 1; (s.tag.hears mode = true)) := by
  refine ⟨?_, ?_, ?_, ?_, ?_, ?_, ?_, ?_, ?_, ?_, ?_, ?_, ?_, ?_, ?_⟩ <;> (dsimp only [State.hears]; decide +kernel)

theorem wit_ResetRequests :
    (let s : State := run1; let v : Word := 0x5AC3#32; (s.up = true) ∧ (s.sys.wdtOn = true) ∧ (v = 0x00005AC3)) ∧
    (let s : State := run1; let v : Word := 0#32; (s.up = true) ∧ (s.sys.wdtOn = true) ∧ (v ≠ 0x00005AC3)) ∧
    (let s : State := run1; (s.up = true) ∧ (s.sys.wdtOn = true)) ∧
    (let s : State := (run1.put RING_CFG_RSTEN 1); let onB : Bool := false; let fcs : Bool := true; let f : List (BitVec 8) := rf 0x20 69 (sysPl 2 [0, 0, 0x5E, 0x7A]); (sysLenOk f = true) ∧ (sysCmd f = 2) ∧ (s.hears fcs f 0x20) ∧ (sysOdst f = s.sysAddr) ∧ (s.get RING_CFG_RSTEN = 1) ∧ (sysDlen f = 4) ∧ (leNat (sysData f) = 0x7A5E0000)) ∧
    (let s : State := run1; let onB : Bool := false; let fcs : Bool := true; let f : List (BitVec 8) := rf 0x20 69 (sysPl 2 [0, 0, 0x5E, 0x7A]); (sysLenOk f = true) ∧ (sysCmd f = 2) ∧ (s.hears fcs f 0x20) ∧ (sysOdst f = s.sysAddr) ∧ ((s.get RING_CFG_RSTEN = 0 ∨ sysDlen f ≠ 4 ∨ leNat (sysData f) ≠ 0x7A5E0000))) ∧
    (let s : State := pre1; let n : Nat := 1; (s.sys.phase = .pre)) ∧
    (let s : State := run1; (s.sys.phase = .run)) ∧
    (let s : State := (run1.modSys fun y => { y with phase := .lost, pllLost := true }); (s.sys.phase = .lost)) ∧
    (let s : State := wait0; ((s.sys.phase = .held ∨ s.sys.phase = .wait))) ∧
    (let s : State := State.reset; (s.sys.phase = .off)) ∧
    (let s : State := (run1.modSys fun y => { y with phase := .held }); (s.sys.phase = .held) ∧ ((s.bear.beenSeated = false ∨ s.bear.seated = true))) ∧
    (let s : State := run1; (s.clocked = true)) := by
  refine ⟨?_, ?_, ?_, ?_, ?_, ?_, ?_, ?_, ?_, ?_, ?_, ?_⟩ <;> (dsimp only [State.hears]; decide +kernel)

theorem wit_StartUp :
    (let s : State := seat0; let sw : BitVec 8 := 5#8; let lv : BitVec 32 := 0x3#32; (s.sys.phase = .off) ∧ ((s.bear.seated = true ∨ s.bear.bench = true)) ∧ (bitsOf sw.toNat 1 0 ≠ 3)) ∧
    (let s : State := wait0; let vc : Vector (BitVec 6) 8 := (Vector.replicate 8 60#6).set 3 0; (s.sys.phase = .wait) ∧ (s.sys.cold = true) ∧ (s.bg.selftest = .running) ∧ (((vc.all fun x => roleCode x == roleCode vc[0]) = false))) ∧
    (let s : State := wait0; let vc : Vector (BitVec 6) 8 := Vector.replicate 8 40#6; (s.sys.phase = .wait) ∧ (s.sys.cold = true) ∧ (s.bg.selftest = .running) ∧ (((vc.all fun x => roleCode x == roleCode vc[0]) = true)) ∧ (1 ≤ roleCode vc[0]) ∧ (roleCode vc[0] ≤ 14)) ∧
    (let s : State := (wait0.modSys fun y => { y with phase := .run, boot := .waitTest }); let failed : Option (Fin 8) := none; (s.bg.powered = true) ∧ (s.bg.selftest = .running) ∧ (failed = none)) ∧
    (let s : State := wait0; let failed : Option (Fin 8) := some 2; let k : Fin 8 := 2; (s.bg.powered = true) ∧ (s.bg.selftest = .running) ∧ (failed = some k)) ∧
    (let s : State := (wait0.modSys fun y => { y with phase := .run, boot := .waitTest }); (s.up = true) ∧ (s.sys.boot = .waitTest)) := by
  refine ⟨?_, ?_, ?_, ?_, ?_, ?_⟩ <;> (dsimp only; decide +kernel)

theorem wit_PartResets :
    (let s : State := ((run1.put (TEN_CORE_EN 2) 1).modStore fun x => { x with tx := some (1, 2) }); let v : Word := 0xC3A50004#32; let got : List (List Bool) := []; let i : Fin 8 := 2; (s.up = true) ∧ (s.bootDone = true) ∧ (v = BitVec.ofNat 32 (0xC3A50000 + 2 ^ i.1)) ∧ (i ≠ 0) ∧ (s.tenantState i ≠ 0)) ∧
    (let s : State := run1; let v : Word := 4#32; let got : List (List Bool) := []; (s.up = true) ∧ ((s.bootDone = false ∨ fieldOf v 31 16 ≠ 0xC3A5 ∨ bitOf v.toNat 0 = true))) ∧
    (let s : State := run1; let v : Word := 0xC3A50002#32; let p : Fin 6 := 1; (s.up = true) ∧ (v = BitVec.ofNat 32 (0xC3A50000 + 2 ^ p.1)) ∧ (p.1 < s.nPorts) ∧ (s.allSafe (s.axmap p) = true) ∧ (s.ports[p].st = .off)) ∧
    (let s : State := (run1.modAxis 1 fun x => { x with st := .disabled }); let v : Word := 0xC3A50004#32; let p : Fin 6 := 2; (s.up = true) ∧ (v = BitVec.ofNat 32 (0xC3A50000 + 2 ^ p.1)) ∧ (p.1 < s.nPorts) ∧ (s.allSafe (s.axmap p) = true) ∧ (s.ports[p].st = .stream)) ∧
    (let s : State := run1; let v : Word := 0xC3A50004#32; let p : Fin 6 := 2; (s.up = true) ∧ (v = BitVec.ofNat 32 (0xC3A50000 + 2 ^ p.1)) ∧ (p.1 < s.nPorts) ∧ (s.allSafe (s.axmap p) = false)) ∧
    (let s : State := run1; let v : Word := 0x4#32; (s.up = true) ∧ (fieldOf v 31 16 ≠ 0xC3A5)) := by
  refine ⟨?_, ?_, ?_, ?_, ?_, ?_⟩ <;> (dsimp only; decide +kernel)

theorem wit_SeatingAndFeeds :
    (let s : State := (State.reset.modBear fun b => { b with rail := true, openAtRail := true, feedA := true }); let sw : BitVec 8 := 5#8; let lv : BitVec 32 := 3#32; (s.bear.seated = false)) ∧
    (let s : State := (State.reset.modBear fun b => { b with rail := true, feedA := true }); let sw : BitVec 8 := 5#8; let lv : BitVec 32 := 3#32; (s.bear.seated = false) ∧ (s.bear.pres1 = false) ∧ (s.bear.pres3 = false)) ∧
    (let s : State := (run1.modBear fun b => { b with seated := true, beenSeated := true, pres1 := true, pres3 := true }); let p1 : Bool := false; let p3 : Bool := true; (s.bear.seated = true) ∧ ((p1 = false ∨ p3 = false))) ∧
    (let s : State := (run1.modBear fun b => { b with feedA := true, feedB := true }); let onB : Bool := true; let valid : Bool := false; let collapsed : Bool := false; let sw : BitVec 8 := 0#8; let lv : BitVec 32 := 0#32; (((if onB then s.bear.feedB else s.bear.feedA) = !valid)) ∧ (((if onB then s.bear.feedA else s.bear.feedB) = true)) ∧ (s.clocked = true)) ∧
    (let s : State := (run1.modBear fun b => { b with feedB := true }); let onB : Bool := true; let valid : Bool := false; let collapsed : Bool := false; let sw : BitVec 8 := 0#8; let lv : BitVec 32 := 0#32; (((if onB then s.bear.feedB else s.bear.feedA) = !valid)) ∧ (((if onB then s.bear.feedA else s.bear.feedB) = false)) ∧ (valid = false)) ∧
    (let s : State := run1; let onB : Bool := true; let valid : Bool := true; let collapsed : Bool := false; let sw : BitVec 8 := 0#8; let lv : BitVec 32 := 0#32; (((if onB then s.bear.feedB else s.bear.feedA) = !valid)) ∧ (((if onB then s.bear.feedA else s.bear.feedB) = false)) ∧ (valid = true) ∧ (s.sys.phase ≠ .off) ∧ (s.marked (.feedFell (!onB)) = false)) ∧
    (let s : State := seat0; let onB : Bool := true; let valid : Bool := true; let collapsed : Bool := true; let sw : BitVec 8 := 1#8; let lv : BitVec 32 := 0#32; (((if onB then s.bear.feedB else s.bear.feedA) = !valid)) ∧ (((if onB then s.bear.feedA else s.bear.feedB) = false)) ∧ (valid = true) ∧ (s.sys.phase = .off)) ∧
    (let s : State := run1; (s.bear.feedA = false) ∧ (s.bear.feedB = false) ∧ (s.sys.phase ≠ .off)) := by
  refine ⟨?_, ?_, ?_, ?_, ?_, ?_, ?_, ?_⟩ <;> (dsimp only; decide +kernel)

theorem wit_ParkAndLampTest :
    (let s : State := (live.modStore fun x => { x with bankwr := true }); let button : Bool := false; (s.up = true) ∧ ((button = false ∨ s.get BEAR_STAT_PARK = 0)) ∧ (s.storeWriting = true)) ∧
    (let s : State := (live.modPort 2 fun q => { q with st := .stream }); let button : Bool := true; (s.up = true) ∧ ((button = false ∨ s.get BEAR_STAT_PARK = 0)) ∧ (s.storeWriting = false) ∧ (s.allSafe 255 = true)) ∧
    (let s : State := (live.modAxis 1 fun x => { x with st := .enabled, mode := 3 }); let button : Bool := true; (s.up = true) ∧ ((button = false ∨ s.get BEAR_STAT_PARK = 0)) ∧ (s.storeWriting = false) ∧ (s.allSafe 255 = false) ∧ (s.get CP_STAT_ROLE ≠ 1)) ∧
    (let s : State := (live.put BEAR_STAT_PARK 2); let button : Bool := true; (s.up = true) ∧ (button = true) ∧ (s.get BEAR_STAT_PARK ≠ 0)) ∧
    (let s : State := (live.put BEAR_STAT_PARK 2); (s.up = true)) ∧
    (let s : State := (live.put BEAR_STAT_PARK 2); let idle : Bool := true; (s.up = true) ∧ (s.parked = true) ∧ (idle = true) ∧ (s.storeWriting = false) ∧ ((∀ p : Fin 6, s.ports[p].st = .off))) ∧
    (let s : State := (live.put BEAR_STAT_PARK 3); let idle : Bool := false; (s.up = true) ∧ (s.parked = true) ∧ ((idle = false ∨ s.storeWriting = true))) ∧
    (let s : State := ((live.put BEAR_STAT_PARK 1).modCp fun c => { c with claim := true }); (s.up = true) ∧ (s.get BEAR_STAT_PARK = 1) ∧ (s.cp.claim = true)) ∧
    (let s : State := live; (s.up = true)) := by
  refine ⟨?_, ?_, ?_, ?_, ?_, ?_, ?_, ?_, ?_⟩ <;> (dsimp only; decide +kernel)

theorem wit_BridgeLink :
    (let s : State := brg; let onB : Bool := false; let fcs : Bool := true; let f : List (BitVec 8) := rf 0x20 0x8040 (sysPay 67 133 8 1 9 []); let ov : Bool := false; (s.up = true) ∧ (s.twinMode = 2) ∧ (s.hears fcs f 0x20) ∧ (s.ringBit (RING_BRT 0) (sysOdst f / 64) = true) ∧ (fget f 30 1 ≠ 0) ∧ (s.bear.up = true) ∧ (ov = false) ∧ (s.bear.out = none) ∧ (s.bear.wait = [])) ∧
    (let s : State := (brg.modBear fun b => { b with up := false }); let onB : Bool := false; let fcs : Bool := true; let f : List (BitVec 8) := rf 0x20 0x8040 (sysPay 67 133 8 1 9 []); let ov : Bool := false; (s.up = true) ∧ (s.twinMode = 2) ∧ (s.hears fcs f 0x20) ∧ (s.ringBit (RING_BRT 0) (sysOdst f / 64) = true) ∧ ((fget f 30 1 = 0 ∨ s.bear.up = false))) ∧
    (let s : State := brg; let onB : Bool := false; let fcs : Bool := true; let f : List (BitVec 8) := rf 0x20 0x8040 (sysPay 67 133 8 1 9 []); let ov : Bool := true; (s.up = true) ∧ (s.twinMode = 2) ∧ (s.hears fcs f 0x20) ∧ (s.ringBit (RING_BRT 0) (sysOdst f / 64) = true) ∧ (fget f 30 1 ≠ 0) ∧ (s.bear.up = true) ∧ (ov = true)) ∧
    (let s : State := brg; let resp : Bool := false; let f : List (BitVec 8) := bridgeFrame 1 4 (some (sysPay 133 67 7 1 9 [])); (s.up = true) ∧ (s.twinMode = 2) ∧ (bridgeGood 1 f = true) ∧ (s.bear.rxSeq ≠ some (fget f 2 1))) ∧
    (let s : State := brg; let resp : Bool := false; let f : List (BitVec 8) := [0xC3, 1, 4]; (s.up = true) ∧ (s.twinMode = 2) ∧ (bridgeGood 1 f = false)) ∧
    (let s : State := brgOut; let f : List (BitVec 8) := bridgeFrame 2 6 none; (s.up = true) ∧ (s.twinMode = 2) ∧ (bridgeGood 2 f = true) ∧ (fget f 2 1 = s.bear.seq) ∧ (s.bear.wait = [])) ∧
    (let s : State := brgOut; let f : List (BitVec 8) := bridgeFrame 3 6 none; let x : Bool := false; let p : List (BitVec 8) := sysPay 67 133 7 1 9 []; (s.up = true) ∧ (s.twinMode = 2) ∧ (bridgeGood 3 f = true) ∧ (fget f 2 1 = s.bear.seq) ∧ (s.bear.out = some (x, p, false))) ∧
    (let s : State := brgOut; let x : Bool := false; let p : List (BitVec 8) := sysPay 67 133 7 1 9 []; (s.up = true) ∧ (s.twinMode = 2) ∧ (s.bear.out = some (x, p, false))) ∧
    (let s : State := (brg.modBear fun b => { b with out := some (false, sysPay 67 133 7 1 9 [], true) }); let x : Bool := false; let p : List (BitVec 8) := sysPay 67 133 7 1 9 []; (s.up = true) ∧ (s.twinMode = 2) ∧ (s.bear.out = some (x, p, true)) ∧ (s.bear.wait = [])) ∧
    (let s : State := (brg.modBear fun b => { b with up := false, good := 2 }); let f : List (BitVec 8) := bridgeFrame 4 0 none; (s.up = true) ∧ (s.twinMode = 2) ∧ (bridgeGood 4 f = true) ∧ (s.bear.good ≤ 3)) ∧
    (let s : State := brg; (s.up = true) ∧ (s.twinMode = 2)) ∧
    (let s : State := brg; (s.up = true) ∧ (s.twinMode = 2)) := by
  refine ⟨?_, ?_, ?_, ?_, ?_, ?_, ?_, ?_, ?_, ?_, ?_, ?_⟩ <;> (dsimp only [State.hears]; decide +kernel)

theorem wit_CanChannels :
    (let s : State := can1; let ch : Fin 2 := 1; let w : Word := 0x01230000#32; (s.up = true) ∧ (ch.1 < s.nCan) ∧ (s.srv.can[ch].txQ = []) ∧ (s.srv.can[ch].skip = 0) ∧ (s.canTx ch = true) ∧ (fieldOf w 6 0 = 0)) ∧
    (let s : State := can1; let ch : Fin 2 := 1; let w : Word := 0x01230008#32; (s.up = true) ∧ (ch.1 < s.nCan) ∧ (s.srv.can[ch].txQ = []) ∧ (s.srv.can[ch].skip = 0) ∧ (1 ≤ fieldOf w 6 0)) ∧
    (let s : State := (can1.modCan 1 fun c => { c with rxQ := [7, 8] }); let ch : Fin 2 := 1; let w : Word := 7#32; let l : List Word := [8#32]; (s.up = true) ∧ (s.srv.can[ch].rxQ = w :: l)) ∧
    (let s : State := can1; let ch : Fin 2 := 1; (s.up = true) ∧ (s.srv.can[ch].rxQ = [])) ∧
    (let s : State := can1; let ch : Fin 2 := 1; (s.up = true) ∧ (s.canOn ch = true)) ∧
    (let s : State := can1; let ch : Fin 2 := 1; let tec : BitVec 8 := 130#8; let rc : BitVec 8 := 3#8; let errs : Nat := 4; (s.up = true) ∧ (s.canOn ch = true) ∧ (s.srv.can[ch].state = 0) ∧ ((128 ≤ tec.toNat ∨ 128 ≤ rc.toNat))) ∧
    (let s : State := (can1.modCan 1 fun c => { c with state := 1 }); let ch : Fin 2 := 1; let tec : BitVec 8 := 100#8; let rc : BitVec 8 := 3#8; let errs : Nat := 0; (s.up = true) ∧ (s.canOn ch = true) ∧ (s.srv.can[ch].state = 1) ∧ (tec.toNat < 128) ∧ (rc.toNat < 128)) ∧
    (let s : State := can1; let ch : Fin 2 := 1; let errs : Nat := 9; (s.up = true) ∧ (s.canOn ch = true) ∧ (s.srv.can[1 - ch].state ≠ 2)) ∧
    (let s : State := (fbus.modCan 0 fun c => { c with state := 2 }); let ch : Fin 2 := 1; let errs : Nat := 9; (s.up = true) ∧ (s.canOn ch = true) ∧ (s.srv.can[1 - ch].state = 2)) ∧
    (let s : State := ((can1.put (CAN_CFG_ABOR 1) 1).modCan 1 fun c => { c with state := 2 }); let ch : Fin 2 := 1; (s.up = true) ∧ (s.srv.can[ch].state = 2) ∧ (s.get (CAN_CFG_ABOR ch) = 1) ∧ (s.srv.can[ch].txQ = [])) := by
  refine ⟨?_, ?_, ?_, ?_, ?_, ?_, ?_, ?_, ?_, ?_⟩ <;> (dsimp only; decide +kernel)

theorem wit_NmtAndHeartbeats :
    (let s : State := can1; let ch : Fin 2 := 0; let node : BitVec 8 := 5#8; (s.up = true) ∧ (s.canOn ch = true) ∧ ((node = 0 ∨ (s.hasId = true ∧ node.toNat = s.nodeId))) ∧ (s.nmt ≠ 0)) ∧
    (let s : State := can1; let ch : Fin 2 := 0; let node : BitVec 8 := 9#8; (s.up = true) ∧ (s.canOn ch = true) ∧ (node ≠ 0) ∧ (node.toNat ≠ s.nodeId)) ∧
    (let s : State := fbus; let ch : Fin 2 := 0; let node : BitVec 8 := 5#8; (s.up = true) ∧ (s.canOn ch = true) ∧ ((node = 0 ∨ (s.hasId = true ∧ node.toNat = s.nodeId))) ∧ (s.nmt ≠ 0)) ∧
    (let s : State := fbus; let ch : Fin 2 := 0; let node : BitVec 8 := 5#8; (s.up = true) ∧ (s.canOn ch = true) ∧ ((node = 0 ∨ (s.hasId = true ∧ node.toNat = s.nodeId))) ∧ (s.nmt ≠ 0)) ∧
    (let s : State := can1; let ch : Fin 2 := 0; let node : BitVec 8 := 5#8; (s.up = true) ∧ (s.canOn ch = true) ∧ ((node = 0 ∨ (s.hasId = true ∧ node.toNat = s.nodeId)))) ∧
    (let s : State := (can1.put BOOT_CTRL_BOOT_DONE 0); let ch : Fin 2 := 0; let node : BitVec 8 := 5#8; (s.up = true) ∧ (s.canOn ch = true) ∧ ((node = 0 ∨ (s.hasId = true ∧ node.toNat = s.nodeId))) ∧ (s.serverUp = false)) ∧
    (let s : State := can1; let ch : Fin 2 := 0; let node : BitVec 8 := 5#8; (s.up = true) ∧ (s.canOn ch = true) ∧ ((node = 0 ∨ (s.hasId = true ∧ node.toNat = s.nodeId))) ∧ (s.serverUp = true)) ∧
    (let s : State := (can1.put PDO_HB_PRODMS 100); (s.up = true) ∧ (s.get PDO_HB_PRODMS ≠ 0) ∧ (s.nmt ≠ 0) ∧ (s.get PDO_HB_ALIVE = 1)) ∧
    (let s : State := can1; let v : Word := 0xA11E#32; (s.up = true)) ∧
    (let s : State := can1; (s.up = true) ∧ (s.marked .kicked = false)) ∧
    (let s : State := can1; let ch : Fin 2 := 0; let node : BitVec 7 := 9#7; (s.up = true) ∧ (s.canOn ch = true)) ∧
    (let s : State := ((fbus.put (PDO_HBC_EN 2) 1).modSrv fun x => { x with hbc := x.hbc.set 2 true }); let k : Fin 4 := 2; (s.up = true) ∧ (s.get (PDO_HBC_EN k) = 1) ∧ (s.srv.hbc[k] = true)) ∧
    (let s : State := (can1.modSrv fun x => { x with emcyQ := [⟨0x8130, [5]⟩] }); let e : Emcy := ⟨0x8130, [5]⟩; let l : List Emcy := []; (s.up = true) ∧ (s.serverUp = true) ∧ ((s.nmt = 1 ∨ s.nmt = 2)) ∧ ((s.canTx 0 = true ∨ s.canTx 1 = true)) ∧ ((s.srv.emcyLost = 0 ∨ 32 ≤ s.srv.emcyQ.length)) ∧ (s.srv.emcyQ = e :: l) ∧ (e.code < 65536)) := by
  refine ⟨?_, ?_, ?_, ?_, ?_, ?_, ?_, ?_, ?_, ?_, ?_, ?_, ?_⟩ <;> (dsimp only; decide +kernel)

theorem wit_PdosAndViews :
    (let s : State := (pdo1.put (pdoInvalid false 2) 1); let tx : Bool := false; let n : Fin 16 := 2; let v : Word := 0x205#32; let len : Nat := 2; let k : Nat := 1; let ax : Nat := 2; (s.up = true) ∧ (v.getLsbD 31 = false) ∧ (s.get (pdoInvalid tx n) = 1) ∧ (s.pdoCheck tx n = some (len, k, ax))) ∧
    (let s : State := ((pdo1.put (pdoInvalid false 2) 1).setReg (pdoMap false 2 0) 64); let tx : Bool := false; let n : Fin 16 := 2; let v : Word := 0x205#32; (s.up = true) ∧ (v.getLsbD 31 = false) ∧ (s.get (pdoInvalid tx n) = 1) ∧ (s.pdoCheck tx n = none)) ∧
    (let s : State := pdo1; let tx : Bool := true; let n : Fin 16 := 3; let v : Word := 0x80000185#32; (s.up = true) ∧ (v.getLsbD 31 = true)) ∧
    (let s : State := ((pdo1.setReg (pdoMap false 2 0) 0).put (pdoLen false 2) 0); let ch : Fin 2 := 0; let id : BitVec 11 := 0x205#11; let data : List (BitVec 8) := []; let both : Bool := false; let id2 : BitVec 11 := 0#11; let data2 : List (BitVec 8) := []; let n : Fin 16 := 2; (s.up = true) ∧ (both = false) ∧ (s.canOn ch = true) ∧ (s.rpdoMatch id.toNat = [n]) ∧ (s.nmt = 2) ∧ (bitOf (s.get (pdoMask false n)) ch = true) ∧ (240 < s.get (pdoType false n)) ∧ (data.length = s.get (pdoLen false n)) ∧ (s.mapWords false n = [])) ∧
    (let s : State := ((pdo1.setReg (pdoMap false 2 0) (BitVec.ofNat 32 ((ENG_PREF_SPD 1 - 0x40000000) / 4 * 8192 + 128))).put (pdoLen false 2) 4); let ch : Fin 2 := 0; let id : BitVec 11 := 0x205#11; let data : List (BitVec 8) := [6, 0, 1, 0]; let both : Bool := false; let id2 : BitVec 11 := 0#11; let data2 : List (BitVec 8) := []; let n : Fin 16 := 2; let a : Fin 8 := 1; (s.up = true) ∧ (both = false) ∧ (s.canOn ch = true) ∧ (s.rpdoMatch id.toNat = [n]) ∧ (s.nmt = 2) ∧ (bitOf (s.get (pdoMask false n)) ch = true) ∧ (240 < s.get (pdoType false n)) ∧ (data.length = 4) ∧ (s.get (pdoLen false n) = 4) ∧ (s.mapWords false n = [(ENG_PREF_SPD a - 0x40000000) / 4 * 8192 + 128])) ∧
    (let s : State := pdo1; let ch : Fin 2 := 0; let id : BitVec 11 := 0x205#11; let data : List (BitVec 8) := [6]; let both : Bool := false; let id2 : BitVec 11 := 0#11; let data2 : List (BitVec 8) := []; let n : Fin 16 := 2; (s.up = true) ∧ (both = false) ∧ (s.canOn ch = true) ∧ (s.rpdoMatch id.toNat = [n]) ∧ (s.nmt = 2) ∧ (bitOf (s.get (pdoMask false n)) ch = true) ∧ (data.length < s.get (pdoLen false n))) ∧
    (let s : State := (pdo1.put (pdoType false 2) 1); let ch : Fin 2 := 0; let id : BitVec 11 := 0x205#11; let data : List (BitVec 8) := [6, 0]; let both : Bool := false; let id2 : BitVec 11 := 0#11; let data2 : List (BitVec 8) := []; let n : Fin 16 := 2; (s.up = true) ∧ (both = false) ∧ (s.canOn ch = true) ∧ (s.rpdoMatch id.toNat = [n]) ∧ (s.nmt = 2) ∧ (bitOf (s.get (pdoMask false n)) ch = true) ∧ (s.get (pdoType false n) ≤ 240) ∧ (data.length = s.get (pdoLen false n))) ∧
    (let s : State := (pdo1.modSrv fun x => { x with rpdo := upd x.rpdo 2 fun y => { y with timed := true } }); let n : Fin 16 := 2; (s.up = true) ∧ (s.srv.rpdo[n].timed = true) ∧ (s.get (pdoInvalid false n) = 0) ∧ (s.get (RPDO_CTL_EVTMS n) ≠ 0) ∧ (s.marked (.applied n) = false)) ∧
    (let s : State := pdo1; let n : Fin 16 := 3; let timer : Bool := false; (s.up = true) ∧ (254 ≤ s.get (pdoType true n)) ∧ (s.srv.tpdo[n].last ≠ some (s.tpdoData n)) ∧ (s.tpdoMay n = true)) ∧
    (let s : State := ((pdo1.put PDO_SYNC_EN 1).put PDO_SYNC_COBID 0x80); let ch : Fin 2 := 0; let id : BitVec 11 := 0x80#11; (s.up = true) ∧ (s.canOn ch = true) ∧ (s.get PDO_SYNC_EN = 1) ∧ (s.get PDO_SYNC_COBID = id.toNat) ∧ (s.get PDO_SYNC_CH = ch.1) ∧ (s.hasId = true)) ∧
    (let s : State := pdo1; let ten : Fin 8 := 3; let port : Fin 6 := 1; let a : Nat := FB_TIME_LO; (s.up = true) ∧ (isLow64 a = true) ∧ (s.absentReg a = false)) ∧
    (let s : State := pdo1; let ten : Fin 8 := 3; let port : Fin 6 := 1; (s.up = true) ∧ ((sparseWf (fun _ => 0) 0 s.hold = true))) := by
  refine ⟨?_, ?_, ?_, ?_, ?_, ?_, ?_, ?_, ?_, ?_, ?_, ?_⟩ <;> (dsimp only; decide +kernel)

theorem wit_EventControls :
    (let s : State := can1; let e : BitVec 10 := 17#10; (s.up = true) ∧ (e.toNat < s.nEvents) ∧ (evReserved e.toNat = false) ∧ (s.marked (.tenReset (s.srcTenant e.toNat)) = false) ∧ (s.orphan e.toNat = false)) ∧
    (let s : State := can1; let e : BitVec 10 := 15#10; (s.up = true) ∧ ((s.nEvents ≤ e.toNat ∨ evReserved e.toNat = true))) ∧
    (let s : State := can1; let e : BitVec 10 := 20#10; (s.up = true) ∧ (e.toNat < s.nEvents) ∧ (e.toNat ≠ 13) ∧ (evReserved e.toNat = false) ∧ (s.marked (.tenReset (s.srcTenant e.toNat)) = false) ∧ (s.orphan e.toNat = true) ∧ (s.orphan 13 = true)) ∧
    (let s : State := can1; let ten : Fin 8 := 3; let e : BitVec 10 := 17#10; let v : Word := 0x20000001#32; (s.up = true) ∧ (e.toNat < s.nEvents) ∧ (s.get (EVT_ROUTE_TENANT e.toNat) = ten.1)) ∧
    (let s : State := can1; let ten : Fin 8 := 4; let e : BitVec 10 := 17#10; let v : Word := 0x20000001#32; (s.up = true) ∧ (e.toNat < s.nEvents) ∧ (s.get (EVT_ROUTE_TENANT e.toNat) ≠ ten.1) ∧ (s.bootDone = true)) ∧
    (let s : State := can1; let n : BitVec 10 := 17#10; (s.up = true) ∧ (isDoorbell n.toNat = true) ∧ (n.toNat < s.nEvents) ∧ (s.marked (.tenReset (s.srcTenant n.toNat)) = false) ∧ (s.orphan n.toNat = false)) ∧
    (let s : State := can1; let n : BitVec 10 := 30#10; (s.up = true) ∧ (isDoorbell n.toNat = false)) ∧
    (let s : State := (can1.put BOOT_CTRL_BOOT_DONE 0); let ten : Fin 8 := 0; let x : Fin 8 := 5; let v : Word := 0x12#32; (s.up = true) ∧ (s.bootDone = false) ∧ (ten = 0) ∧ (x ≠ 0) ∧ (x.1 < s.nTenants) ∧ ((v.toNat / 16 % 2 = 1 → v.toNat % 4 < s.nCores ∧ s.coreLoad (v.toNat % 4) x < 4))) ∧
    (let s : State := ({ can1 with member := .hx1 }.put BOOT_CTRL_BOOT_DONE 0); let ten : Fin 8 := 0; let x : Fin 8 := 1; let v : Word := 0x13#32; (s.up = true) ∧ (s.bootDone = false) ∧ (ten = 0) ∧ (x ≠ 0) ∧ (x.1 < s.nTenants) ∧ (v.toNat / 16 % 2 = 1) ∧ ((s.nCores ≤ v.toNat % 4 ∨ 4 ≤ s.coreLoad (v.toNat % 4) x))) ∧
    (let s : State := can1; let ten : Fin 8 := 4; let x : Fin 8 := 5; let v : Word := 0x13#32; (s.up = true) ∧ (s.bootDone = true) ∧ (x.1 < s.nTenants)) := by
  refine ⟨?_, ?_, ?_, ?_, ?_, ?_, ?_, ?_, ?_, ?_⟩ <;> (dsimp only; decide +kernel)

theorem wit_ParameterGroups :
    (let s : State := can1; let g : Fin 3 := 0; let a : Fin 8 := 1; let ten : Fin 8 := 3; let k : Fin 10 := 2; let v : Word := 99#32; (s.up = true) ∧ (a.1 < s.nAxes) ∧ (k.1 < (groupOf g).masks.length) ∧ (s.psetHeld (groupOf g) a ten = false) ∧ ((groupOf g).fits k.1 v = true)) ∧
    (let s : State := ((can1.put (psDirty (PGroup.gain.ctl 1)) 1).put (psHolder (PGroup.gain.ctl 1)) 4); let g : Fin 3 := 0; let a : Fin 8 := 1; let ten : Fin 8 := 3; let k : Fin 10 := 2; let v : Word := 99#32; (s.up = true) ∧ (a.1 < s.nAxes) ∧ (k.1 < (groupOf g).masks.length) ∧ (s.psetHeld (groupOf g) a ten = true)) ∧
    (let s : State := can1; let g : Fin 3 := 0; let a : Fin 8 := 1; let ten : Fin 8 := 3; let k : Fin 10 := 9; let v : Word := 0#32; (s.up = true) ∧ (a.1 < s.nAxes) ∧ (k.1 < (groupOf g).masks.length) ∧ (s.psetHeld (groupOf g) a ten = false) ∧ ((groupOf g).fits k.1 v = false)) ∧
    (let s : State := ((can1.put (psDirty (PGroup.gain.ctl 1)) 1).put (psHolder (PGroup.gain.ctl 1)) 3); let g : Fin 3 := 0; let a : Fin 8 := 1; let ten : Fin 8 := 3; (s.up = true) ∧ (a.1 < s.nAxes) ∧ (s.get (psDirty ((groupOf g).ctl a)) = 1) ∧ (s.get (psHolder ((groupOf g).ctl a)) = ten.1) ∧ ((groupOf g = .route → (s.route[a].shadow.headD 0).toNat % 4 < 2))) ∧
    (let s : State := ((can1.put (psDirty (PGroup.gain.ctl 1)) 1).put (psHolder (PGroup.gain.ctl 1)) 4); let g : Fin 3 := 0; let a : Fin 8 := 1; let ten : Fin 8 := 3; (s.up = true) ∧ (a.1 < s.nAxes) ∧ (s.get (psDirty ((groupOf g).ctl a)) = 1) ∧ (s.get (psHolder ((groupOf g).ctl a)) ≠ ten.1)) ∧
    (let s : State := can1; let g : Fin 3 := 0; let a : Fin 8 := 1; let ten : Fin 8 := 3; (s.up = true) ∧ (a.1 < s.nAxes) ∧ (s.get (psDirty ((groupOf g).ctl a)) = 0)) ∧
    (let s : State := ((can1.put (psDirty (PGroup.gain.ctl 1)) 1).put (psHolder (PGroup.gain.ctl 1)) 3); let g : Fin 3 := 0; let a : Fin 8 := 1; let ten : Fin 8 := 3; (s.up = true) ∧ (a.1 < s.nAxes) ∧ (s.get (psDirty ((groupOf g).ctl a)) = 1) ∧ (s.get (psHolder ((groupOf g).ctl a)) = ten.1)) ∧
    (let s : State := ((can1.put (psDirty (PGroup.gain.ctl 1)) 1).put (psHolder (PGroup.gain.ctl 1)) 4); let g : Fin 3 := 0; let a : Fin 8 := 1; let ten : Fin 8 := 3; (s.up = true) ∧ (a.1 < s.nAxes) ∧ (s.get (psDirty ((groupOf g).ctl a)) = 1) ∧ (s.get (psHolder ((groupOf g).ctl a)) ≠ ten.1)) := by
  refine ⟨?_, ?_, ?_, ?_, ?_, ?_, ?_, ?_⟩ <;> (dsimp only; decide +kernel)

theorem wit_SdoService :
    (let s : State := can1; let ch : Fin 2 := 0; let idx : BitVec 16 := 0x3000#16; let sub : BitVec 8 := 0#8; let served : Bool := true; (s.serves ch) ∧ (served = true) ∧ (s.odCheck idx.toNat sub.toNat false ≠ 0)) ∧
    (let s : State := can1; let ch : Fin 2 := 0; let idx : BitVec 16 := 0x1017#16; let sub : BitVec 8 := 0#8; let served : Bool := true; (s.serves ch) ∧ (served = true) ∧ (idx = 0x1017) ∧ (sub = 0)) ∧
    (let s : State := can1; let ch : Fin 2 := 0; let idx : BitVec 16 := 0x1018#16; let sub : BitVec 8 := 1#8; let served : Bool := true; let e : OdEnt := ((can1.odEnt 0x1018 1).getD ⟨0, .ro, .num 0⟩); let b : List (BitVec 8) := (((can1.odRead 0x1018 ((can1.odEnt 0x1018 1).getD ⟨0, .ro, .num 0⟩)).1.getD [])); (s.serves ch) ∧ (served = true) ∧ (s.odCheck idx.toNat sub.toNat false = 0) ∧ (s.odEnt idx.toNat sub.toNat = some e) ∧ (e.src = .num (leNat b)) ∧ (e.size = b.length) ∧ (1 ≤ b.length) ∧ (b.length ≤ 4)) ∧
    (let s : State := can1; let ch : Fin 2 := 0; let idx : BitVec 16 := 0x1008#16; let sub : BitVec 8 := 0#8; let served : Bool := true; let e : OdEnt := ((can1.odEnt 0x1008 0).getD ⟨0, .ro, .num 0⟩); let b : List (BitVec 8) := (match (((can1.odEnt 0x1008 0).getD ⟨0, .ro, .num 0⟩)).src with | .text b => b | _ => []); (s.serves ch) ∧ (served = true) ∧ (s.odCheck idx.toNat sub.toNat false = 0) ∧ (s.odEnt idx.toNat sub.toNat = some e) ∧ (e.src = .text b) ∧ (idx ≠ 0x2E01) ∧ (idx ≠ 0x2E02) ∧ (4 < b.length)) ∧
    (let s : State := can1; let ch : Fin 2 := 0; let idx : BitVec 16 := 0x1017#16; let sub : BitVec 8 := 0#8; let served : Bool := false; (s.serves ch) ∧ (served = false) ∧ (s.srv.can[ch].rxQ.length ≤ 509)) ∧
    (let s : State := can1; let ch : Fin 2 := 0; let idx : BitVec 16 := 0x1017#16; let sub : BitVec 8 := 0#8; let seg : Bool := false; let size : Nat := 0; let data : List (BitVec 8) := [0x2C, 1]; let served : Bool := true; (s.serves ch) ∧ (served = true) ∧ (seg = false) ∧ (idx = 0x1017) ∧ (sub = 0) ∧ (data.length = 2)) ∧
    (let s : State := can1; let ch : Fin 2 := 0; let idx : BitVec 16 := 0x1000#16; let sub : BitVec 8 := 0#8; let seg : Bool := true; let size : Nat := 4; let data : List (BitVec 8) := [1, 2, 3, 4]; let served : Bool := true; (s.serves ch) ∧ (served = true) ∧ (s.odCheck idx.toNat sub.toNat true ≠ 0)) ∧
    (let s : State := can1; let ch : Fin 2 := 0; let idx : BitVec 16 := 0x1017#16; let sub : BitVec 8 := 0#8; let seg : Bool := false; let size : Nat := 0; let data : List (BitVec 8) := [1]; let served : Bool := true; (s.serves ch) ∧ (served = true) ∧ (seg = false) ∧ (idx = 0x1017) ∧ (sub = 0) ∧ (data.length ≠ 2)) ∧
    (let s : State := can1; let ch : Fin 2 := 0; let idx : BitVec 16 := 0x1017#16; let sub : BitVec 8 := 0#8; let seg : Bool := true; let size : Nat := 2; let data : List (BitVec 8) := []; let served : Bool := true; (s.serves ch) ∧ (served = true) ∧ (seg = true) ∧ (idx = 0x1017) ∧ (sub = 0) ∧ ((size = 0 ∨ size = 2))) := by
  refine ⟨?_, ?_, ?_, ?_, ?_, ?_, ?_, ?_, ?_⟩ <;> (dsimp only [State.serves]; decide +kernel)

theorem wit_SdoTransfers :
    (let s : State := (can1.modSrv fun v => { v with xfer := v.xfer.set 0 (some ⟨true, 0x1008, 0, [65, 66, 67, 68, 69, 70, 71, 72, 73], false⟩) }); let ch : Fin 2 := 0; let cs : BitVec 3 := 3#3; let toggle : Bool := false; let last : Bool := false; let data : List (BitVec 8) := []; let x : Xfer := ⟨true, 0x1008, 0, [65, 66, 67, 68, 69, 70, 71, 72, 73], false⟩; (s.up = true) ∧ (s.canOn ch = true) ∧ (s.canTx ch = true) ∧ (s.nmt ≠ 0) ∧ (s.nmt ≠ 3) ∧ (s.get PDO_HB_ALIVE = 1) ∧ (s.serverUp = true) ∧ (s.srv.xfer[ch] = some x) ∧ (x.up = true) ∧ (cs = 3) ∧ (toggle = x.toggle)) ∧
    (let s : State := (can1.modSrv fun v => { v with xfer := v.xfer.set 0 (some ⟨false, 0x1017, 0, [], false⟩) }); let ch : Fin 2 := 0; let cs : BitVec 3 := 0#3; let toggle : Bool := false; let last : Bool := false; let data : List (BitVec 8) := [7]; let x : Xfer := ⟨false, 0x1017, 0, [], false⟩; (s.up = true) ∧ (s.canOn ch = true) ∧ (s.canTx ch = true) ∧ (s.nmt ≠ 0) ∧ (s.nmt ≠ 3) ∧ (s.get PDO_HB_ALIVE = 1) ∧ (s.serverUp = true) ∧ (s.srv.xfer[ch] = some x) ∧ (x.up = false) ∧ (cs = 0) ∧ (toggle = x.toggle) ∧ (last = false) ∧ (x.idx ≠ 0x2C02)) ∧
    (let s : State := (can1.modSrv fun v => { v with xfer := v.xfer.set 0 (some ⟨false, 0x1017, 0, [], false⟩) }); let ch : Fin 2 := 0; let cs : BitVec 3 := 0#3; let toggle : Bool := false; let last : Bool := true; let data : List (BitVec 8) := [7, 1]; let x : Xfer := ⟨false, 0x1017, 0, [], false⟩; (s.up = true) ∧ (s.canOn ch = true) ∧ (s.canTx ch = true) ∧ (s.nmt ≠ 0) ∧ (s.nmt ≠ 3) ∧ (s.get PDO_HB_ALIVE = 1) ∧ (s.serverUp = true) ∧ (s.srv.xfer[ch] = some x) ∧ (x.up = false) ∧ (cs = 0) ∧ (toggle = x.toggle) ∧ (last = true) ∧ (x.idx = 0x1017) ∧ (x.sub = 0) ∧ ((x.data ++ data).length = 2)) ∧
    (let s : State := (can1.modSrv fun v => { v with xfer := v.xfer.set 0 (some ⟨true, 0x1008, 0, [65, 66, 67, 68, 69, 70, 71, 72, 73], false⟩) }); let ch : Fin 2 := 0; let cs : BitVec 3 := 3#3; let toggle : Bool := true; let last : Bool := false; let data : List (BitVec 8) := []; let x : Xfer := ⟨true, 0x1008, 0, [65, 66, 67, 68, 69, 70, 71, 72, 73], false⟩; (s.up = true) ∧ (s.canOn ch = true) ∧ (s.canTx ch = true) ∧ (s.nmt ≠ 0) ∧ (s.nmt ≠ 3) ∧ (s.get PDO_HB_ALIVE = 1) ∧ (s.serverUp = true) ∧ (s.srv.xfer[ch] = some x) ∧ ((cs = (if x.up then 3 else 0))) ∧ (toggle ≠ x.toggle) ∧ (x.idx ≠ 0x2C02)) ∧
    (let s : State := (can1.modSrv fun v => { v with xfer := v.xfer.set 0 (some ⟨true, 0x1008, 0, [65, 66, 67, 68, 69, 70, 71, 72, 73], false⟩) }); let ch : Fin 2 := 0; let cs : BitVec 3 := 4#3; let toggle : Bool := false; let last : Bool := false; let data : List (BitVec 8) := []; let x : Xfer := ⟨true, 0x1008, 0, [65, 66, 67, 68, 69, 70, 71, 72, 73], false⟩; (s.up = true) ∧ (s.canOn ch = true) ∧ (s.canTx ch = true) ∧ (s.nmt ≠ 0) ∧ (s.nmt ≠ 3) ∧ (s.get PDO_HB_ALIVE = 1) ∧ (s.serverUp = true) ∧ (s.srv.xfer[ch] = some x) ∧ (cs = 4) ∧ (x.idx ≠ 0x2C02)) ∧
    (let s : State := can1; let ch : Fin 2 := 0; let cs : BitVec 3 := 3#3; let toggle : Bool := false; let last : Bool := false; let data : List (BitVec 8) := []; (s.up = true) ∧ (s.canOn ch = true) ∧ (s.canTx ch = true) ∧ (s.nmt ≠ 0) ∧ (s.nmt ≠ 3) ∧ (s.get PDO_HB_ALIVE = 1) ∧ (s.serverUp = true) ∧ (s.srv.xfer[ch] = none) ∧ (cs ≠ 4)) ∧
    (let s : State := (can1.put PDO_HB_ALIVE 0); let ch : Fin 2 := 0; let idx : BitVec 16 := 0x1017#16; let sub : BitVec 8 := 0#8; let served : Bool := true; (s.up = true) ∧ (s.canOn ch = true) ∧ (s.canTx ch = true) ∧ (s.nmt ≠ 0) ∧ (s.nmt ≠ 3) ∧ (s.get PDO_HB_ALIVE = 0)) ∧
    (let s : State := (can1.modSrv fun v => { v with xfer := v.xfer.set 0 (some ⟨false, 0x1017, 0, [], false⟩) }); let ch : Fin 2 := 0; let x : Xfer := ⟨false, 0x1017, 0, [], false⟩; (s.up = true) ∧ (s.canOn ch = true) ∧ (s.canTx ch = true) ∧ (s.nmt ≠ 0) ∧ (s.nmt ≠ 3) ∧ (s.srv.xfer[ch] = some x) ∧ (x.idx ≠ 0x2C02)) := by
  refine ⟨?_, ?_, ?_, ?_, ?_, ?_, ?_, ?_⟩ <;> (dsimp only; decide +kernel)

theorem wit_ServerObjects :
    (let s : State := can1; let ch : Fin 2 := 0; let v : BitVec 8 := 0#8; (s.serves ch) ∧ (v = 0)) ∧
    (let s : State := can1; let ch : Fin 2 := 0; let v : BitVec 8 := 3#8; (s.serves ch) ∧ (v ≠ 0)) ∧
    (let s : State := (({ can1 with mem := (st1.setMarker 0 5).mem }.modStore fun x => { x with ready := true })); let ch : Fin 2 := 0; let sub : BitVec 8 := 2#8; let v : Word := 0x65766173#32; let good : Bool := true; (s.serves ch) ∧ (1 ≤ sub.toNat) ∧ (sub.toNat ≤ 3) ∧ (s.parked = false) ∧ (s.store.cmd = none) ∧ (s.store.ready = true) ∧ (s.store.notHolder 2 = false) ∧ (s.confirmed = true) ∧ (good = true) ∧ (v = 0x65766173)) ∧
    (let s : State := can1; let ch : Fin 2 := 0; let sub : BitVec 8 := 1#8; let v : Word := 1#32; let good : Bool := true; (s.serves ch) ∧ (1 ≤ sub.toNat) ∧ (sub.toNat ≤ 3) ∧ (v ≠ 0x65766173)) ∧
    (let s : State := (({ can1 with mem := (st1.setMarker 0 5).mem }.modStore fun x => { x with ready := true })); let ch : Fin 2 := 0; let sub : BitVec 8 := 1#8; let v : Word := 0x64616F6C#32; let good : Bool := true; (s.serves ch) ∧ (1 ≤ sub.toNat) ∧ (sub.toNat ≤ 3) ∧ (s.parked = false) ∧ (s.store.cmd = none) ∧ (s.store.ready = true) ∧ (s.store.notHolder 2 = false) ∧ (s.confirmed = true) ∧ (good = true) ∧ (v = 0x64616F6C)) ∧
    (let s : State := (can1.put BEAR_STAT_PARK 2); let ch : Fin 2 := 0; let sub : BitVec 8 := 1#8; let v : Word := 0x64616F6C#32; let good : Bool := true; (s.serves ch) ∧ (1 ≤ sub.toNat) ∧ (sub.toNat ≤ 3) ∧ (v = 0x64616F6C) ∧ (s.parked = true)) ∧
    (let s : State := can1; let ch : Fin 2 := 0; let image : List (BitVec 8) := (List.replicate 6 1) ++ [1] ++ List.replicate 249 7; (s.serves ch) ∧ (s.allSafe 255 = true) ∧ (s.parked = false) ∧ (s.store.cmd = none) ∧ (s.store.image = none) ∧ (isOptReq image = false) ∧ (image.length = 256) ∧ ((image.getD 6 0).toNat = s.otherBank)) ∧
    (let s : State := can1; let ch : Fin 2 := 0; let image : List (BitVec 8) := List.replicate 300 7; (s.serves ch) ∧ (s.allSafe 255 = true) ∧ (s.parked = false) ∧ (s.store.cmd = none) ∧ (s.store.image = none) ∧ (isOptReq image = false) ∧ (12 ≤ image.length) ∧ ((image.getD 6 0).toNat ≠ s.otherBank)) ∧
    (let s : State := can1; let ch : Fin 2 := 0; let data : List (BitVec 8) := leBytes 4 0x47D10B7E ++ List.replicate 196 3; (s.serves ch) ∧ (s.allSafe 255 = true) ∧ (isOptReq data = true) ∧ (data.length = 200) ∧ (s.tag.sess < 2) ∧ (s.tag.wired = none) ∧ ((sparseWf (fun _ => 0) 0 s.tag.blocks = true))) ∧
    (let s : State := ((can1.put BOOT_CTRL_BOOT_DONE 0).modSys fun y => { y with boot := .rom }); let ch : Fin 2 := 0; (s.up = true) ∧ (s.bootDone = false) ∧ (s.sys.boot = .rom) ∧ (bitOf (s.get TWU_KILL_STOPPED) 0 = false)) ∧
    (let s : State := (((can1.put BOOT_CTRL_BOOT_DONE 0).modSys fun y => { y with boot := .rom }).put TWU_KILL_STOPPED 1); let ch : Fin 2 := 0; (s.up = true) ∧ (s.bootDone = false) ∧ (s.sys.boot = .rom) ∧ (bitOf (s.get TWU_KILL_STOPPED) 0 = true)) ∧
    (let s : State := ((can1.put BOOT_CTRL_BOOT_DONE 0).modSys fun y => { y with boot := .rom }); let ch : Fin 2 := 0; (s.up = true) ∧ (s.bootDone = false) ∧ (s.sys.boot = .rom) ∧ (bitOf (s.get TWU_KILL_STOPPED) 0 = false) ∧ (s.srv.saved = [])) := by
  refine ⟨?_, ?_, ?_, ?_, ?_, ?_, ?_, ?_, ?_, ?_, ?_, ?_⟩ <;> (dsimp only [State.serves]; decide +kernel)

theorem wit_RegisterBus :
    (let s : State := (fresh can1); let ten : Fin 8 := 2; let port : Fin 6 := 1; let a : Nat := AX_PACC 1; let b : Fin 32 := 17; let r : RegRow := ((regRow (AX_PACC 1)).getD ⟨0, 0, 0, 0, 0, 0, 0, 0, 0, 0, 0, false⟩); let v : Word := 0x12345678#32; (s.up = true) ∧ (plainAt a = true) ∧ (s.absentReg a = false) ∧ (regRow a = some r) ∧ (b.1 = a / 65536 % 32) ∧ ((s.bootDone = false ∨ r.rwb = 0))) ∧
    (let s : State := (fresh can1); let ten : Fin 8 := 2; let port : Fin 6 := 1; let a : Nat := EVT_ROUTE 17; let b : Fin 32 := 3; let r : RegRow := ((regRow (EVT_ROUTE 17)).getD ⟨0, 0, 0, 0, 0, 0, 0, 0, 0, 0, 0, false⟩); let v : Word := 0x12345678#32; (s.up = true) ∧ (plainAt a = true) ∧ (s.absentReg a = false) ∧ (regRow a = some r) ∧ (b.1 = a / 65536 % 32) ∧ (s.bootDone = true) ∧ (r.rwb ≠ 0)) ∧
    (let s : State := can1; let ten : Fin 8 := 2; let port : Fin 6 := 1; let a : Nat := 0x40190100; let v : Word := 0x12345678#32; (s.up = true) ∧ ((s.absentReg a = true ∨ (plainAt a = true ∧ regRow a = none)))) ∧
    (let s : State := can1; let ten : Fin 8 := 2; let port : Fin 6 := 1; let a : Nat := TEN_OWN 1; let v : Word := 0x12345678#32; (s.up = true) ∧ (s.bootDone = true) ∧ (a / 65536 = 0x4002) ∧ (s.absentReg a = false) ∧ (a ≠ MEMERR_STAT) ∧ (a ≠ MEMERR_INJ)) ∧
    (let s : State := can1; let ten : Fin 8 := 2; let port : Fin 6 := 1; let g : Fin 16 := 3; let v : Word := 0x12345678#32; (s.up = true) ∧ (s.bootDone = true)) ∧
    (let s : State := can1; let ten : Fin 8 := 2; let port : Fin 6 := 1; let a : Fin 8 := 3; let v : Word := 0x12345678#32; (s.up = true) ∧ (s.bootDone = true) ∧ (a.1 < s.nAxes)) ∧
    (let s : State := can1; let ten : Fin 8 := 2; let port : Fin 6 := 1; let v : Word := 0x12345678#32; (s.up = true) ∧ (s.bootDone = true)) ∧
    (let s : State := can1; let ten : Fin 8 := 2; let port : Fin 6 := 1; let n : Fin 8 := 2; let v : Word := 0x12345678#32; (s.up = true) ∧ (s.bootDone = true)) ∧
    (let s : State := fbus; let ten : Fin 8 := 2; let port : Fin 6 := 1; let a : Fin 8 := 1; let v : Word := 0x12345678#32; (s.up = true) ∧ (s.bootDone = true) ∧ (a.1 < s.nAxes) ∧ (s.isSafe a = false)) ∧
    (let s : State := can1; let ten : Fin 8 := 2; let port : Fin 6 := 1; let x : Fin 8 := 5; let v : Word := 0x12345678#32; (s.up = true) ∧ (s.bootDone = true) ∧ (x.1 < s.nTenants)) ∧
    (let s : State := can1; let ten : Fin 8 := 2; let port : Fin 6 := 1; let v : Word := 0x12345678#32; (s.up = true) ∧ (s.bootDone = true)) ∧
    (let s : State := can1; let ten : Fin 8 := 2; let port : Fin 6 := 1; let a : Nat := RING_BRT 0; let v : Word := 0x12345678#32; (s.up = true) ∧ (isLow64 a = true) ∧ (a / 65536 = 0x4014)) ∧
    (let s : State := can1; let ten : Fin 8 := 2; let port : Fin 6 := 1; let a : Nat := FB_TIME_LO; let v : Word := 0x12345678#32; (s.up = true) ∧ (isLow64 a = true) ∧ (a / 65536 = 0x4013)) ∧
    (let s : State := { can1 with pend64 := [(portKey 1 (RING_ROUTE 0), 9#32)] }; let ten : Fin 8 := 2; let port : Fin 6 := 1; let a : Nat := RING_ROUTE 0; let v : Word := 0x12345678#32; (s.up = true) ∧ ((a = RING_ROUTE 0 ∨ (a = RING_BRT 0 ∧ s.ring.st = .off)))) ∧
    (let s : State := can1; let ten : Fin 8 := 2; let port : Fin 6 := 1; let a : Nat := FB_TIME_LO + 4; let v : Word := 0x12345678#32; (s.up = true) ∧ (isHigh64 a = true) ∧ (s.absentReg a = false) ∧ (a ≠ RING_ROUTE 0 + 4) ∧ (a ≠ RING_BRT 0 + 4)) ∧
    (let s : State := can1; let ten : Fin 8 := 2; let port : Fin 6 := 1; let v : Word := 0x12345678#32; (s.up = true) ∧ (s.ring.st ≠ .off)) := by
  refine ⟨?_, ?_, ?_, ?_, ?_, ?_, ?_, ?_, ?_, ?_, ?_, ?_, ?_, ?_, ?_, ?_⟩ <;> (dsimp only; decide +kernel)

theorem wit_CoreAccesses :
    (let s : State := core1; let c : Fin 4 := 1; let x : Fin 8 := 3; let addr : Word := 0x20000104#32; let size : Fin 3 := 1; let sgnd : Bool := true; let fp : Bool := false; let rd : Fin 32 := 7; (s.runs c x) ∧ (addr.toNat % (accBytes size) = 0) ∧ (isPeriph addr.toNat = false) ∧ (s.check { tenant := x, umode := s.pr.banks[x].dataUser } .load addr.toNat (accBytes size) = none) ∧ ((isRam addr.toNat = true → s.wordErr addr.toNat = 0)) ∧ (fp = false)) ∧
    (let s : State := core1; let c : Fin 4 := 1; let x : Fin 8 := 3; let addr : Word := 0x20000104#32; let size : Fin 3 := 1; let sgnd : Bool := true; let fp : Bool := true; let rd : Fin 32 := 7; (s.runs c x) ∧ (addr.toNat % (accBytes size) = 0) ∧ (isPeriph addr.toNat = false) ∧ (s.check { tenant := x, umode := s.pr.banks[x].dataUser } .load addr.toNat (accBytes size) = none) ∧ ((isRam addr.toNat = true → s.wordErr addr.toNat = 0)) ∧ (fp = true)) ∧
    (let s : State := core1; let c : Fin 4 := 1; let x : Fin 8 := 3; let addr : Word := 0x20000105#32; let size : Fin 3 := 1; let sgnd : Bool := true; let fp : Bool := false; let rd : Fin 32 := 7; (s.runs c x) ∧ (addr.toNat % accBytes size ≠ 0) ∧ (isPeriph addr.toNat = false) ∧ (s.faultHeld x = false) ∧ (s.pr.banks[x].exc < 15)) ∧
    (let s : State := core1; let c : Fin 4 := 1; let x : Fin 8 := 3; let addr : Word := 0x08100000#32; let size : Fin 3 := 1; let sgnd : Bool := true; let fp : Bool := false; let rd : Fin 32 := 7; let r_ : Nat := 1; let win : Nat := 0x1F; (s.runs c x) ∧ (addr.toNat % accBytes size = 0) ∧ (isPeriph addr.toNat = false) ∧ (s.check { tenant := x, umode := s.pr.banks[x].dataUser } .load addr.toNat (accBytes size) = some (r_, win)) ∧ (1 ≤ r_) ∧ (r_ ≤ 7) ∧ (s.faultHeld x = false) ∧ (s.pr.banks[x].exc < 15)) ∧
    (let s : State := core1; let c : Fin 4 := 1; let x : Fin 8 := 3; let addr : Word := 0x20000104#32; let size : Fin 3 := 2; let v : Word := 0x12345678#32; (s.runs c x) ∧ (addr.toNat % (accBytes size) = 0) ∧ (isPeriph addr.toNat = false) ∧ (s.check { tenant := x, umode := s.pr.banks[x].dataUser } .store addr.toNat (accBytes size) = none) ∧ ((isRam addr.toNat = true → s.wordErr addr.toNat = 0)) ∧ (s.get MEMERR_INJ_MODE = 0)) ∧
    (let s : State := core1; let c : Fin 4 := 1; let x : Fin 8 := 3; let addr : Word := 0x20000105#32; let size : Fin 3 := 2; let v : Word := 0x12345678#32; (s.runs c x) ∧ (addr.toNat % accBytes size ≠ 0) ∧ (isPeriph addr.toNat = false) ∧ (s.faultHeld x = false) ∧ (s.pr.banks[x].exc < 15)) ∧
    (let s : State := core1; let c : Fin 4 := 1; let x : Fin 8 := 3; let addr : Word := 0x08100000#32; let size : Fin 3 := 2; let v : Word := 0x12345678#32; let r_ : Nat := 1; let win : Nat := 0x1F; (s.runs c x) ∧ (addr.toNat % accBytes size = 0) ∧ (isPeriph addr.toNat = false) ∧ (s.check { tenant := x, umode := s.pr.banks[x].dataUser } .store addr.toNat (accBytes size) = some (r_, win)) ∧ (1 ≤ r_) ∧ (r_ ≤ 7) ∧ (s.faultHeld x = false) ∧ (s.pr.banks[x].exc < 15)) ∧
    (let s : State := core1; let c : Fin 4 := 1; let x : Fin 8 := 3; let op : Fin 9 := 1; let addr : Word := 0x20000104#32; let v : Word := 5#32; let rd : Fin 32 := 9; (s.runs c x) ∧ (addr.toNat % (4) = 0) ∧ (isPeriph addr.toNat = false) ∧ (s.check { tenant := x, umode := s.pr.banks[x].dataUser } .amo addr.toNat (4) = none) ∧ ((isRam addr.toNat = true → s.wordErr addr.toNat = 0)) ∧ (s.get MEMERR_INJ_MODE = 0)) ∧
    (let s : State := core1; let c : Fin 4 := 1; let x : Fin 8 := 3; let addr : Word := 0x20000104#32; let rd : Fin 32 := 9; (s.runs c x) ∧ (addr.toNat % (4) = 0) ∧ (isPeriph addr.toNat = false) ∧ (s.check { tenant := x, umode := s.pr.banks[x].dataUser } .lr addr.toNat (4) = none) ∧ ((isRam addr.toNat = true → s.wordErr addr.toNat = 0))) ∧
    (let s : State := (core1.modCore 1 fun z => { z with res := some 0x20000104 }); let c : Fin 4 := 1; let x : Fin 8 := 3; let addr : Word := 0x20000104#32; let v : Word := 5#32; let rd : Fin 32 := 9; (s.runs c x) ∧ (addr.toNat % (4) = 0) ∧ (isPeriph addr.toNat = false) ∧ (s.check { tenant := x, umode := s.pr.banks[x].dataUser } .sc addr.toNat (4) = none) ∧ (s.pr.cores[c].res = some addr.toNat) ∧ (s.get MEMERR_INJ_MODE = 0)) ∧
    (let s : State := core1; let c : Fin 4 := 1; let x : Fin 8 := 3; let addr : Word := 0x20000104#32; let v : Word := 5#32; let rd : Fin 32 := 9; (s.runs c x) ∧ (addr.toNat % (4) = 0) ∧ (isPeriph addr.toNat = false) ∧ (s.check { tenant := x, umode := s.pr.banks[x].dataUser } .sc addr.toNat (4) = none) ∧ (s.pr.cores[c].res ≠ some addr.toNat)) := by
  refine ⟨?_, ?_, ?_, ?_, ?_, ?_, ?_, ?_, ?_, ?_, ?_⟩ <;> (dsimp only [State.runs]; decide +kernel)

theorem wit_CoreFlow :
    (let s : State := core1; let c : Fin 4 := 1; let x : Fin 8 := 3; let addr : Word := 0x20000105#32; let wide : Bool := false; (s.runs c x) ∧ (wide = false) ∧ (s.check { tenant := x, umode := s.pr.banks[x].umode } .fetch (addr.toNat / 2 * 2) 2 = none) ∧ ((∀ k : Fin 2, isRam (addr.toNat / 2 * 2 + 2 * k) = true → s.wordErr (addr.toNat / 2 * 2 + 2 * k) = 0)) ∧ ((∀ k : Fin 2, (s.pr.cores[c].icache.find? fun e => e.1 == addr.toNat / 2 * 2 + 2 * k) = none))) ∧
    (let s : State := core1; let c : Fin 4 := 1; let x : Fin 8 := 3; let addr : Word := 0x20000105#32; let wide : Bool := true; (s.runs c x) ∧ (wide = true) ∧ (addr.toNat / 2 * 2 % 4096 ≠ 4094) ∧ (s.check { tenant := x, umode := s.pr.banks[x].umode } .fetch (addr.toNat / 2 * 2) 4 = none) ∧ ((∀ k : Fin 2, isRam (addr.toNat / 2 * 2 + 2 * k) = true → s.wordErr (addr.toNat / 2 * 2 + 2 * k) = 0)) ∧ ((∀ k : Fin 2, (s.pr.cores[c].icache.find? fun e => e.1 == addr.toNat / 2 * 2 + 2 * k) = none))) ∧
    (let s : State := core1; let c : Fin 4 := 1; let x : Fin 8 := 3; let addr : Word := 0x08100000#32; let wide : Bool := false; let r_ : Nat := 1; let win : Nat := 0x1F; (s.runs c x) ∧ (wide = false) ∧ (s.check { tenant := x, umode := s.pr.banks[x].umode } .fetch (addr.toNat / 2 * 2) 2 = some (r_, win)) ∧ (r_ ≠ 8) ∧ (s.faultHeld x = false) ∧ (s.pr.banks[x].exc < 15)) ∧
    (let s : State := core1; let c : Fin 4 := 1; let x : Fin 8 := 3; (s.runs c x)) ∧
    (let s : State := core1; let c : Fin 4 := 1; let x : Fin 8 := 3; let csr : BitVec 12 := 0x340#12; let op : Fin 3 := 0; let src : Word := 77#32; let old : Word := core1.pr.banks[3].mscratch; let z : Bool := false; let rd : Fin 32 := 4; (s.runs c x) ∧ (s.csrRead c x csr.toNat = some old) ∧ (s.pr.banks[x].csrBars csr.toNat (op == 0 || !z) = false)) ∧
    (let s : State := core1; let c : Fin 4 := 1; let x : Fin 8 := 3; let csr : BitVec 12 := 0x340#12; let op : Fin 3 := 0; let src : Word := 77#32; let z : Bool := false; let rd : Fin 32 := 4; (s.runs c x) ∧ (csr = 0x340) ∧ (z = false) ∧ (s.pr.banks[x].umode = false)) ∧
    (let s : State := core1; let c : Fin 4 := 1; let x : Fin 8 := 3; let csr : BitVec 12 := 0x7C0#12; let op : Fin 3 := 1; let src : Word := 77#32; let z : Bool := true; let rd : Fin 32 := 4; (s.runs c x) ∧ (csr = 0x7C0) ∧ (op ≠ 0) ∧ (z = true) ∧ (s.pr.banks[x].umode = false)) ∧
    (let s : State := core1; let c : Fin 4 := 1; let x : Fin 8 := 3; let csr : BitVec 12 := 0x5C0#12; let op : Fin 3 := 0; let src : Word := 77#32; let z : Bool := false; let rd : Fin 32 := 4; (s.runs c x) ∧ ((s.csrRead c x csr.toNat = none ∨ s.pr.banks[x].csrBars csr.toNat (op == 0 || !z) = true)) ∧ (s.pr.banks[x].exc < 15)) ∧
    (let s : State := core1; let c : Fin 4 := 1; let x : Fin 8 := 3; (s.runs c x) ∧ (s.pr.banks[x].umode = false) ∧ (s.pr.cores[c].stack = []) ∧ (s.pr.cores[c].back = some x) ∧ (s.bootDone = true)) ∧
    (let s : State := (core1.modCore 1 fun z => { z with stack := [⟨3, 3, 17⟩] }); let c : Fin 4 := 1; let x : Fin 8 := 3; (s.runs c x) ∧ (s.pr.banks[x].umode = false) ∧ (s.pr.cores[c].stack ≠ [])) ∧
    (let s : State := (core1.modBank 3 fun b => { b with exc := 2 }); let c : Fin 4 := 1; let x : Fin 8 := 3; (s.runs c x) ∧ (s.pr.banks[x].umode = false) ∧ (1 ≤ s.pr.banks[x].exc)) ∧
    (let s : State := (core1.modCore 1 fun z => { z with stack := [⟨3, 3, 17⟩] }); let c : Fin 4 := 1; let x : Fin 8 := 3; let e : EvEntry := ⟨3, 3, 17⟩; let l : List EvEntry := []; (s.runs c x) ∧ (s.pr.banks[x].umode = false) ∧ (s.pr.banks[x].exc = 0) ∧ (s.pr.cores[c].stack = e :: l)) ∧
    (let s : State := core1; let c : Fin 4 := 1; let x : Fin 8 := 3; (s.runs c x) ∧ (s.pr.banks[x].exc < 15)) ∧
    (let s : State := core1; let c : Fin 4 := 1; let x : Fin 8 := 3; (s.runs c x) ∧ (s.pr.banks[x].exc < 15)) ∧
    (let s : State := (core1.modBank 3 fun b => { b with exc := 15 }); let c : Fin 4 := 1; let x : Fin 8 := 3; (s.runs c x) ∧ (15 ≤ s.pr.banks[x].exc) ∧ (x ≠ 0)) ∧
    (let s : State := core1; let c : Fin 4 := 1; let x : Fin 8 := 3; (s.runs c x) ∧ (s.pr.cores[c].stack = []) ∧ (((s.nextBack c (match s.pr.cores[c].back with | some b => b.1 | none => 7)).isSome = true))) ∧
    (let s : State := ((core1.put (EVT_CTL_PEND 17) 1).put (EVT_CTL_EN 17) 1).modBank 3 fun b => { b with mie := 0x800, mstatus := 8 }; let c : Fin 4 := 1; let x : Fin 8 := 3; let pc : Word := 0x20001234#32; let e : Nat := 17; let y : Fin 8 := 3; (s.runs c x) ∧ (s.bestSrc c = some e) ∧ (e < 768) ∧ (y = s.srcTenant e)) ∧
    (let s : State := core1; let c : Fin 4 := 1; let x : Fin 8 := 3; let pc : Word := 0#32; (s.runs c x) ∧ (s.bestSrc c = none)) := by
  refine ⟨?_, ?_, ?_, ?_, ?_, ?_, ?_, ?_, ?_, ?_, ?_, ?_, ?_, ?_, ?_, ?_, ?_, ?_⟩ <;> (dsimp only [State.runs]; decide +kernel)

theorem wit_MemoryAndDma :
    (let s : State := (dma1.put MEMERR_SCRUB_EN 1); (s.up = true) ∧ (s.get MEMERR_SCRUB_EN = 1) ∧ ((sparseWf (fun _ => 0) 0 s.memErr = true))) ∧
    (let s : State := ((dma1.put (TEN_OWN_OWN 3) 1).modAxis 1 fun x => { x with st := .enabled, mode := -3 }); let ten : Fin 8 := 3; let c : Fin 4 := 1; let mode : BitVec 2 := 1#2; (s.up = true) ∧ (c.1 < s.nCores) ∧ (bitOf (s.get (TEN_OWN_OWN ten)) 0 = true) ∧ (s.bootDone = true) ∧ (mode ≠ 3) ∧ (s.serviceNow = true)) ∧
    (let s : State := dma1; let ten : Fin 8 := 3; let c : Fin 4 := 1; let mode : BitVec 2 := 1#2; (s.up = true) ∧ (c.1 < s.nCores) ∧ (bitOf (s.get (TEN_OWN_OWN ten)) 0 = false) ∧ (s.bootDone = true)) ∧
    (let s : State := dma1; let ten : Fin 8 := 3; let c : Fin 32 := 5; (s.up = true) ∧ (c.1 < s.nDma) ∧ (s.dmaMay ten c = true) ∧ (s.get (DMA_STAT_STATE c) = 0)) ∧
    (let s : State := (dma1.put (DMA_STAT_STATE 5) 2); let ten : Fin 8 := 3; let c : Fin 32 := 5; (s.up = true) ∧ (c.1 < s.nDma) ∧ (s.dmaMay ten c = true) ∧ (s.get (DMA_STAT_STATE c) ≠ 0)) ∧
    (let s : State := dma1; let ten : Fin 8 := 4; let c : Fin 32 := 5; (s.up = true) ∧ (c.1 < s.nDma) ∧ (s.dmaMay ten c = false)) ∧
    (let s : State := (dma1.put (DMA_STAT_STATE 5) 1); let ten : Fin 8 := 3; let c : Fin 32 := 5; (s.up = true) ∧ (c.1 < s.nDma) ∧ (s.dmaMay ten c = true) ∧ (s.get (DMA_STAT_STATE c) = 1)) ∧
    (let s : State := (dma1.put (DMA_STAT_STATE 5) 2); let ten : Fin 8 := 3; let c : Fin 32 := 5; (s.up = true) ∧ (c.1 < s.nDma) ∧ (s.dmaMay ten c = true) ∧ (s.get (DMA_STAT_STATE c) = 2) ∧ (s.get (DMA_RES_CNT_CNT c) ≠ 0) ∧ (s.marked (.dmaReset c) = false)) ∧
    (let s : State := (dma1.put (DMA_STAT_STATE 5) 2); let ten : Fin 8 := 3; let c : Fin 32 := 5; (s.up = true) ∧ (c.1 < s.nDma) ∧ (s.dmaMay ten c = true) ∧ (s.get (DMA_STAT_STATE c) = 2)) ∧
    (let s : State := (({ core1 with mem := (State.setBytes 0x20000100 (leBytes 4 0x20001000 ++ leBytes 4 0x20002000 ++ leBytes 4 0x00020003 ++ leBytes 4 0) core1).mem }.put (DMA_CFG_OWNER 5) 3).put (DMA_STAT_STATE 5) 1).modDma 5 fun z => { z with fetch := true, desc := 0x20000100 }; let c : Fin 32 := 5; (s.up = true) ∧ (s.get (DMA_STAT_STATE c) = 1) ∧ (s.pr.dma[c].fetch = true) ∧ (isPeriph s.pr.dma[c].desc = false) ∧ (isPeriph (s.pr.dma[c].desc + 12) = false) ∧ ((∀ k : Fin 4, isPeriph (s.pr.dma[c].desc + 4 * k) = false ∧ s.check (s.dmaBy_ c) .load (s.pr.dma[c].desc + 4 * k) 4 = none ∧ (isRam (s.pr.dma[c].desc + 4 * k) = true → s.wordErr (s.pr.dma[c].desc + 4 * k) = 0))) ∧ (descOk (leNat (s.memBytes (s.pr.dma[c].desc + 0) 4)) (leNat (s.memBytes (s.pr.dma[c].desc + 4) 4)) (leNat (s.memBytes (s.pr.dma[c].desc + 8) 4)) (leNat (s.memBytes (s.pr.dma[c].desc + 12) 4)) = true)) ∧
    (let s : State := (({ core1 with mem := (State.setBytes 0x20000100 (leBytes 4 0x20001000 ++ leBytes 4 0x20002000 ++ leBytes 4 0x00030003 ++ leBytes 4 0) core1).mem }.put (DMA_CFG_OWNER 5) 3).put (DMA_STAT_STATE 5) 1).modDma 5 fun z => { z with fetch := true, desc := 0x20000100 }; let c : Fin 32 := 5; (s.up = true) ∧ (s.get (DMA_STAT_STATE c) = 1) ∧ (s.pr.dma[c].fetch = true) ∧ (isPeriph s.pr.dma[c].desc = false) ∧ (isPeriph (s.pr.dma[c].desc + 12) = false) ∧ ((∀ k : Fin 4, isPeriph (s.pr.dma[c].desc + 4 * k) = false ∧ s.check (s.dmaBy_ c) .load (s.pr.dma[c].desc + 4 * k) 4 = none ∧ (isRam (s.pr.dma[c].desc + 4 * k) = true → s.wordErr (s.pr.dma[c].desc + 4 * k) = 0))) ∧ (descOk (leNat (s.memBytes (s.pr.dma[c].desc + 0) 4)) (leNat (s.memBytes (s.pr.dma[c].desc + 4) 4)) (leNat (s.memBytes (s.pr.dma[c].desc + 8) 4)) (leNat (s.memBytes (s.pr.dma[c].desc + 12) 4)) = false)) ∧
    (let s : State := (({ core1 with mem := (State.setBytes 0x20000100 (leBytes 4 0x20001000 ++ leBytes 4 0x20002000 ++ leBytes 4 0x00020003 ++ leBytes 4 0) core1).mem }.put (DMA_CFG_OWNER 5) 3).put (DMA_STAT_STATE 5) 1).modDma 5 fun z => { z with src := 0x20001000, dst := 0x20002000, cnt := 3, ctrl := 0x00020003 }; let k : Fin 4 := 3; let c : Fin 32 := 5; (s.up = true) ∧ (s.dmaGrant = some (k, c)) ∧ (isPeriph s.pr.dma[c].src = false) ∧ (isPeriph s.pr.dma[c].dst = false) ∧ (s.check (s.dmaBy_ c) .load s.pr.dma[c].src (2 ^ bitsOf s.pr.dma[c].ctrl 17 16) = none) ∧ (s.check (s.dmaBy_ c) .store s.pr.dma[c].dst (2 ^ bitsOf s.pr.dma[c].ctrl 17 16) = none) ∧ ((isRam s.pr.dma[c].src = true → s.wordErr s.pr.dma[c].src = 0)) ∧ ((isRam s.pr.dma[c].dst = true → s.wordErr s.pr.dma[c].dst = 0)) ∧ (1 < s.pr.dma[c].cnt) ∧ (bitsOf s.pr.dma[c].ctrl 17 16 ≤ 2)) ∧
    (let s : State := (({ core1 with mem := (State.setBytes 0x20000100 (leBytes 4 0x20001000 ++ leBytes 4 0x20002000 ++ leBytes 4 0x00020003 ++ leBytes 4 0) core1).mem }.put (DMA_CFG_OWNER 5) 3).put (DMA_STAT_STATE 5) 1).modDma 5 fun z => { z with src := 0x08101000, dst := 0x20002000, cnt := 3, ctrl := 0x00020003 }; let k : Fin 4 := 3; let c : Fin 32 := 5; let r_ : Nat := 1; let win : Nat := 0x1F; (s.up = true) ∧ (s.dmaGrant = some (k, c)) ∧ (s.check (s.dmaBy_ c) .load s.pr.dma[c].src (2 ^ bitsOf s.pr.dma[c].ctrl 17 16) = some (r_, win))) ∧
    (let s : State := dma1; (s.up = true) ∧ (s.dmaGrant = none)) := by
  refine ⟨?_, ?_, ?_, ?_, ?_, ?_, ?_, ?_, ?_, ?_, ?_, ?_, ?_, ?_⟩ <;> (dsimp only; decide +kernel)

theorem wit_SresetKey :
    (let s : State := live; let p : Fin 6 := 2; let k : Fin 8 := 3; let f : CmdFrame := ⟨1000, 5⟩; ((s.sat p k).inReset = false) ∧ ((s.sat p k).frame = .idle)) ∧
    (let s : State := live; let p : Fin 6 := 2; let k : Fin 8 := 3; let f : CmdFrame := ⟨1000, 5⟩; let payload : BitVec 24 := 0xA55A01#24; ((s.sat p k).inReset = false) ∧ ((s.sat p k).frame = .idle) ∧ (payload ≠ 0xA55A00)) ∧
    (let s : State := (live.modSat 2 3 fun x => { x with srstDue := true, done := true, boot := false }); let p : Fin 6 := 2; let k : Fin 8 := 3; let f : CmdFrame := ⟨1000, 5⟩; ((s.sat p k).inReset = false) ∧ ((s.sat p k).srstDue = true)) := by
  refine ⟨?_, ?_, ?_⟩ <;> (dsimp only; decide +kernel)

theorem wit_ConfigurationSetGuard :
    (let s : State := (live.modSat 2 3 fun x => { x with boot := false, done := true, written := 0x3FF }); let p : Fin 6 := 2; let k : Fin 8 := 3; let f : CmdFrame := ⟨1000, 5⟩; let payload : BitVec 24 := 0x090020#24; let cmp : Bool := false; let a : Nat := 9; let b : Nat := 1; let v : Nat := 32; let m : Nat := 255; (s.listens p k) ∧ ((s.sat p k).done = true) ∧ (payload.toNat = a * 65536 + v) ∧ (v < 65536) ∧ (satSetBit a = some b) ∧ (satWritable a = some m) ∧ (v &&& (0xFFFF ^^^ m) = 0) ∧ (satInRange a v = true) ∧ ((s.sat p k).high.on = false) ∧ ((s.sat p k).low.on = false) ∧ ((s.sat p k).events = []) ∧ ((s.sat p k).high.profEnd ≤ f.t + 81) ∧ ((s.sat p k).low.profEnd ≤ f.t + 81)) ∧
    (let s : State := (live.modSat 2 3 fun x => { x with boot := false, done := true, written := 0x3FF, low := { x.low with on := true } }); let p : Fin 6 := 2; let k : Fin 8 := 3; let f : CmdFrame := ⟨1000, 5⟩; let payload : BitVec 24 := 0x090020#24; let cmp : Bool := false; let a : Nat := 9; let b : Nat := 1; let v : Nat := 32; let m : Nat := 255; (s.listens p k) ∧ ((s.sat p k).done = true) ∧ (payload.toNat = a * 65536 + v) ∧ (v < 65536) ∧ (satSetBit a = some b) ∧ (satWritable a = some m) ∧ (v &&& (0xFFFF ^^^ m) = 0) ∧ (satInRange a v = true) ∧ ((¬ ((s.sat p k).high.on = false ∧ (s.sat p k).low.on = false ∧ (s.sat p k).events = [] ∧ (s.sat p k).high.profEnd ≤ f.t + 81 ∧ (s.sat p k).low.profEnd ≤ f.t + 81)))) := by
  refine ⟨?_, ?_⟩ <;> (dsimp only [State.listens]; decide +kernel)

theorem wit_GuardDiscrepancy :
    (let s : State := (pws.modBg fun b => { b with grdB := 0 }); let g : Fin 4 := 0; (s.bg.powered = true) ∧ (bitOf (s.guard g) 0 = true) ∧ (s.grdOpen g false ≠ s.grdOpen g true)) := by
  dsimp only; decide +kernel

theorem wit_SystemResetRegister :
    (let s : State := run1; let v : Word := 0x5E7A#32; (s.up = true) ∧ (v = 0x00005E7A)) ∧
    (let s : State := run1; let v : Word := 0#32; (v ≠ 0x00005E7A)) := by
  refine ⟨?_, ?_⟩ <;> (dsimp only; decide +kernel)

theorem wit_StepRunsTheFrontCommand :
    (let s : State := live; (s.pending = [])) := by
  dsimp only; decide +kernel

/-- A sound state with a command in front. -/
theorem wit_EveryStepKeepsSoundness : Sound { live with pending := [.brownOut] } :=
  { regs := by decide +kernel, mem := by decide +kernel, memErr := by decide +kernel, hold := by decide +kernel, tag := by decide +kernel
    srv := ⟨by decide +kernel, by decide +kernel, by decide +kernel, by decide +kernel⟩
    capQ := by decide +kernel, modCap := by decide +kernel, ringTx := by decide +kernel, ringRx := by decide +kernel
    ports := fun p => ⟨by revert p; decide +kernel, by revert p; decide +kernel⟩ }

/-! ### Ill-formed commands are refused by `Instr.wf`, one term for each check -/

theorem test_wf_good : (Instr.registerWrite 1 0 0x40110000 5).wf = true ∧ (Instr.eventStrobe 767).wf = true := by decide
theorem test_wf_register_outside : (Instr.registerWrite 1 0 0x40200000 5).wf = false := by decide
theorem test_wf_register_odd : (Instr.reg64LowRead 1 0 0x40110002).wf = false := by decide
theorem test_wf_odd_pc : (Instr.eventEntry 0 0x20001235#32).wf = false ∧ (Instr.instructionFetch 0 3#32 true).wf = false := by decide
theorem test_wf_load_size : (Instr.load 0 0#32 1 false true 3).wf = false := by decide
theorem test_wf_event_number : (Instr.eventStrobe 768).wf = false := by decide
theorem test_wf_group_word : (Instr.psetShadowWrite 2 0 5 1 0).wf = false ∧ (Instr.psetShadowWrite 1 0 1 1 0).wf = false := by decide
theorem test_wf_ports : (Instr.portsQuiet [1, 2, 3]).wf = false := by decide
theorem test_wf_frame_bits : (Instr.haltStart 0 (List.replicate 65 true)).wf = false := by decide
theorem test_wf_filter : (Instr.filterOutputReady 0 [32768]).wf = false := by decide
theorem test_wf_ssi : (Instr.ssiReadComplete 0 (2 ^ 32) false false).wf = false := by decide
theorem test_wf_ain : (Instr.ainWindow 0 655351).wf = false := by decide
theorem test_wf_ring_short : (Instr.sysPing false true [1, 2, 3]).wf = false := by decide
theorem test_wf_bridge_long : (Instr.bridgeKeepRx (List.replicate 1601 0)).wf = false := by decide +kernel
theorem test_wf_can_long : (Instr.rpdoRx 0 0 (List.replicate 65 0) false 0 []).wf = false := by decide +kernel
theorem test_wf_rpdo_second : (Instr.rpdoRx 0 0 [] false 0 [1]).wf = false := by decide
theorem test_wf_blocks : (Instr.rfReadBlock 0 true 4095 2).wf = false := by decide

/-! ### Numbers of the manual's worked cases -/

/-- The outcome is a next state with this property. -/
def after (o : Host.Outcome State Fault Refusal) (p : State → Bool) : Bool := match o with | .next t => p t | _ => false

/-- 08_jalzil_core.md, worked case: the EDGE command with alive counter 7 is 0x71_0829_AAFA. -/
theorem test_edge_word : frameWord 7 1 0x0829AA = 0x710829AAFA := by decide +kernel
/-- The same: high side off at position 10, low side on at position 170. -/
theorem test_edge_events : edgeEvs 0x0829AA = [⟨true, false, 10⟩, ⟨false, true, 170⟩] := by decide +kernel
/-- 04_reset_startup.md, worked case: counts 50 and 46 are codes 3 and 4. -/
theorem test_role_codes : roleCode 50#6 = 3 ∧ roleCode 46#6 = 4 := by decide
/-- 10_current_loop.md, worked case: filter output ready 4,804 clk after the boundary with MOD_AX 0x820C_0019. -/
theorem test_filter_ready : (live.setReg (MOD_AX 0) 0x820C0019).readyClk 0 = 4804 := by decide +kernel
/-- 13_potrix_ring.md, worked case: the SHARE payload of the drum group. -/
theorem test_share_payload : sharePay 0 0x40 0x04D3 12600 [(282, 0), (283, 1000)] =
    [0x00, 0x40, 0x04, 0xD3, 0x00, 0x00, 0x31, 0x38, 0x02, 0x00, 0x01, 0x1A, 0x00, 0x00, 0x01, 0x1B, 0x03, 0xE8] := by decide +kernel
/-- The published check values of the two CRCs the manual names (R55, R107). -/
theorem test_crcs : crc32 (List.ofFn fun i : Fin 9 => BitVec.ofNat 8 (0x31 + i)) = 0xCBF43926 ∧
    crc16 (List.ofFn fun i : Fin 9 => BitVec.ofNat 8 (0x31 + i)) = 0x29B1 := by decide +kernel

/-- Incremental channel 2 of 11_lynx_feedback.md's worked case, its counter 6 counts below the truth. -/
def enc2 : State :=
  let s := ((live.setReg (INC_CFG 2) 0x82000504).setReg (INC_CPR 2) 0x2000).setReg (INC_REF 2) 1234
  (s.setReg (INC_IDXLIM 2) 0x00100002).setReg (INC_CNT 2) 4916428
/-- Its step 3 and 4: D = −6, the counter corrected to 0x004B_04D2, CORRSUM 6. -/
theorem test_index_corrects : after (execIndexPoint 2 ⟨true, 100⟩ false enc2) (fun t => decide (t.reg (INC_IDXDEV 2) = 0xFFFFFFFA ∧ t.reg (INC_IDXCNT 2) = 0x004B04CC ∧ t.reg (INC_CNT 2) = 0x004B04D2)) = true := by
  decide +kernel

/-- Tenant 3 on core 2 with the windows of 05_cores_tenants.md's worked case. -/
def trim : State :=
  let s := ((live.setReg (TEN_CORE 3) 0x12).setReg (TEN_OWN 3) 0x300C).modCore 2 fun x => { x with run := some 3, back := some 3 }
  let w := fun (s : State) (i : Nat) (b l : Word) => (s.setReg (TW_BASE 3 i) b).setReg (TW_LIM 3 i) l
  w (w (w (w (w (w s 0 0x10200005 0x1023F001) 1 0x08200003 0x0823F001) 2 0x20300003 0x2030F001) 3 0x40112003 0x40113001)
    4 0x40030003 0x4003F001) 5 0x40040003 0x4004F001
/-- Its stray store to the lamp block: cause 7, mtval and mfaddr the address, mfcause 0x801F_0231. -/
theorem test_stray_store : after (execStore 2 0x40180010#32 2 1#32 trim) (fun t => decide (t.pr.banks[3].mcause = 7 ∧ t.pr.banks[3].mtval = 0x40180010#32 ∧ t.pr.banks[3].mfaddr = 0x40180010#32 ∧
        t.pr.banks[3].mfcause.toNat = 0x801F0231)) = true := by
  decide +kernel
/-- 16_field_network.md, worked case: the map word of AX_CW of axis 0 is 0x8800_0040. -/
theorem test_map_word : (AX_CW 0 - 0x40000000) / 4 * 0x2000 + 0x40 = 0x88000040 := by decide
/-- 17_object_dictionary.md, worked case: SP_STAT of port 4 in HALT with cause 5 and select 1 re-entered reads 0x8A04_0100. -/
theorem test_sp_stat : (live.modPort 4 fun q => { q with st := .halt, haltCause := 5, reent := 2 }).spStat 4 = 0x8A040100 := by
  decide +kernel
/-- The same case: the EMCY of axis 5 reads 52 FF A1 05 06 00 00 00 on CAN A, COB-ID 0xA3. -/
def emcy5 : State :=
  let s := (((live.put NODE_VALID 1).put NODE_NODEID 35).put (CAN_CFG_EN 0) 1).put PDO_NMT_STATE 2
  let s := (s.put PDO_HB_ALIVE 1).modAxis 5 fun x => { x with st := .fault }
  (s.modBear fun b => { b with feedA := true, feedB := true }).modSrv fun x => { x with emcyQ := [⟨0xFF52, [5, 6]⟩] }
theorem test_emcy_frame : after (execEmcyTransmit emcy5) (fun t => decide (t.wire = [⟨.can 0, [0xA3, 0], [0x52, 0xFF, 0xA1, 0x05, 0x06, 0, 0, 0]⟩])) = true := by
  decide +kernel
/-- R98: the key of SYS_RST starts the pre-reset phase; a value one off is discarded. -/
theorem test_reset_key : after (execSoftwareSystemReset 0x5E7A#32 live) (fun t => decide (t.sys.phase = .pre)) = true ∧
    after (execSoftwareSystemReset 0x5E7B#32 live) (fun t => decide (t.sys.phase = .run)) = true := by
  decide +kernel
/-- A step takes the command in front and leaves the rest. -/
theorem test_step : after (step { live with pending := [.brownOut, .scrubRead] }) (fun t => decide (t.pending = [.scrubRead])) = true := by
  decide +kernel
/-- A step on an empty queue counts one edge of CLKS. -/
theorem test_tick : after (step live) (fun t => decide (t.clk = live.clk + 1 ∧ t.time = live.time + 1)) = true := by
  decide +kernel
/-- The state after reset is sound (the statement ResetIsSound says more). -/
theorem test_reset_idle : State.reset.pending = [] ∧ State.reset.regs = [] ∧ State.reset.bg.haltN = false := by decide +kernel

end Sys2Proof.Tests
end

section
/-! PROOFS. One step of the block: the front command on the rest of the queue, or one edge of CLKS; every step keeps soundness. -/

namespace Sys2Proof.Machine

/-! ### One edge of CLKS (log entry 2) -/

/-- The strobes of DMA channels that stopped on the edge before (R175) change the event registers and the list of those channels. -/
theorem State.dueStrobes_ev {m : Nat} {s t : State} (h : Ev m s t) (k : 0x801000000 &&& m = 0x801000000 := by decide) :
    Ev m s t.dueStrobes :=
  .comp h (.foldl (fun u _ => (Ev.refl _ u).strobe) _ (Ev.refl _ t).modPr) k

theorem State.errEdge_regs (s : State) : s.errEdge.regs = s.regs := by
  unfold State.errEdge
  split
  · rfl
  · split
    · unfold State.emcy
      split <;> rfl
    · rfl

/-- With no stop of a DMA channel due, nothing strobes. -/
theorem State.dueStrobes_regs (s : State) (h : s.pr.dmaDue = []) : s.dueStrobes.regs = s.regs := by
  unfold State.dueStrobes
  rw [h]
  rfl

/-- What `State.tick` does on an edge while CLKS runs, once the time and the counts have moved. -/
theorem State.edgeWork_ev (s : State) : Ev 0x801004000 s s.dueStrobes.errEdge :=
  State.errEdge_ev (State.dueStrobes_ev (Ev.refl _ s))

/-- An edge is a change of the clock, the server, the ring's time, the DMA and the event registers, at the next moment. -/
theorem State.tick_ev (s : State) : Ev 0x801804001 { s with time := s.time + 1 } s.tick := by
  unfold State.tick
  dsimp only
  refine .ite (fun _ => ?_) (fun _ => (Ev.refl _ _).edge)
  have hmoved := ((Ev.refl 0x801804001 { s with time := s.time + 1 }).clk (v := s.clk + 1)).ring (v := s.ring.advance)
    fun hs => ⟨hs.ringTx, hs.ringRx⟩
  exact .comp hmoved.edge (State.edgeWork_ev _) (by decide)

theorem State.tick_clk (s : State) : s.tick.clk = if s.clocked = true then s.clk + 1 else s.clk := by
  unfold State.tick
  dsimp only
  split
  · exact (State.edgeWork_ev _).same .clk (by decide)
  · rfl

theorem State.tick_regs (s : State) (h : s.pr.dmaDue = []) : s.tick.regs = s.regs := by
  unfold State.tick
  dsimp only
  split
  · rw [State.errEdge_regs]
    exact State.dueStrobes_regs _ h
  · rfl

/-- Soundness does not speak of the time. -/
theorem Sound.setTime {s : State} (h : Sound s) (n : Nat) : Sound { s with time := n } := { h with }

/-- Soundness does not speak of the queue. -/
theorem Sound.setPending {s : State} (h : Sound s) (l : List Instr) : Sound { s with pending := l } := { h with }

/-! ### One step -/

theorem step_of_empty {s : State} (h : s.pending = []) : step s = .next s.tick := by
  unfold step
  rw [h]

theorem step_of_cons {s : State} {c : Instr} {rest : List Instr} (h : s.pending = c :: rest) :
    step s = exec c { s with pending := rest } := by
  unfold step
  rw [h]

/-- Settles O58: a step on a queue is `exec` of its front; on an empty queue it is `State.tick`, which is a change of few parts. -/
theorem stepRunsTheFrontCommand : Obligations.StepRunsTheFrontCommand := by
  refine ⟨fun s c rest => step_of_cons (s := { s with pending := c :: rest }) rfl, fun s hempty => ?_⟩
  have htick := s.tick_ev
  exact ⟨s.tick, step_of_empty hempty, htick.pending.trans hempty, htick.time, s.tick_clk, s.tick_regs,
    htick.same .mem (by decide), htick.same .axes (by decide), htick.same .ports (by decide), htick.same .sats (by decide),
    htick.same .bg (by decide), htick.same .sys (by decide), htick.member, htick.same .wire (by decide)⟩

/-- Settles O60, by the two kinds of step: an edge of CLKS (`State.tick_ev`) and a command (`exec_ev`). -/
theorem everyStepKeepsSoundness : Obligations.EveryStepKeepsSoundness := by
  intro s hsound
  cases hqueue : s.pending with
  | nil =>
    have htick := s.tick_ev
    exact ⟨s.tick, step_of_empty hqueue, htick.sound (hsound.setTime _), htick.pending.trans hqueue, htick.member,
      fun hne => absurd rfl hne⟩
  | cons c rest =>
    obtain ⟨t, _, hexec, hev⟩ := exec_ev c { s with pending := rest }
    exact ⟨t, (step_of_cons hqueue).trans hexec, hev.sound (hsound.setPending rest), hev.pending, hev.member, fun _ => hev.time⟩

end Sys2Proof.Machine
end

section
/-! PROOFS. A clear of GPI_EVT that meets a new event on the same edge (R12). -/

namespace Sys2Proof.Machine

theorem exec_registerWrite_of_up {s : State} (h : s.up = true) (ten : Fin 8) (port : Fin 6) (a : Nat) (v : Word) :
    exec (.registerWrite ten port a v) s = .next (s.busWrite ten port a v) :=
  congrArg Host.Outcome.next (if_pos h)

/-- A unit that has started, with general input 0 watched. -/
def inputWatched : State :=
  ((State.reset.modSys fun y => { y with phase := .run }).put BOOT_CTRL_BOOT_DONE 1).put GPI_CFG_MASK 1

/-- The same unit on the edge on which input 0 has gone high. -/
def inputJustChanged : State :=
  ((inputWatched.put GPI_LVL_V 1).putOr GPI_EVT_V 1).raise ⟨LIO_EVT, 4, 0⟩ 4 88

/-- The model reaches that state by the command of R382. -/
theorem exec_gpiChange_inputWatched : exec (.gpiChange 1) inputWatched = .next inputJustChanged := by rfl

/-- R12: the new event outlasts a 1 written to its bit on the same edge. -/
theorem gpiEvt_outlasts_clear_on_its_edge :
    inputJustChanged.get GPI_EVT_V = 1 ∧ (inputJustChanged.busWrite (2 : Fin 8) (0 : Fin 6) GPI_EVT 1).get GPI_EVT_V = 1 := by
  decide +kernel

/-- Refutes O50: its clause on GPI_EVT says that a 1 written clears the bit in every started unit, without the premise that hardware
does not set the bit on the same edge (R12; the first clause has it). On the edge of a GPI_CHANGE the model, as R12 asks, keeps the bit. -/
theorem not_registerBus : ¬ Obligations.RegisterBus := by
  intro h
  have hup : inputJustChanged.up = true := by decide +kernel
  have hboot : inputJustChanged.bootDone = true := by decide +kernel
  obtain ⟨-, -, -, -, -, -, hgpiEvt, -⟩ := h inputJustChanged 2 0 hup
  obtain ⟨t, hexec, hcleared, -⟩ := hgpiEvt 1 hboot
  rw [exec_registerWrite_of_up hup] at hexec
  cases hexec
  obtain ⟨hbefore, hafter⟩ := gpiEvt_outlasts_clear_on_its_edge
  rw [hbefore, hafter] at hcleared
  exact absurd hcleared (by decide)

end Sys2Proof.Machine
end

section
/-! PROOFS. The state after reset (R30, R37, R92). -/

namespace Sys2Proof.Machine

/-- No register has been written yet, so each reads its reset value. -/
theorem State.reset_reg (a : Nat) : State.reset.reg a = resetWord a := rfl

theorem State.reset_port (p : Fin 6) : State.reset.ports[p] = {} := Vector.getElem_replicate p.2

theorem State.reset_axis (a : Fin 8) : State.reset.axes[a] = {} := Vector.getElem_replicate a.2

theorem SoundPort.ofReset : SoundPort {} := ⟨Nat.zero_le _, Nat.zero_le _⟩

theorem SoundSrv.ofReset : SoundSrv {} where
  objs := rfl
  emcy := Nat.zero_le _
  hist := Nat.zero_le _
  rx ch := by
    have hempty : ({} : Srv).can[ch] = {} := Vector.getElem_replicate ch.2
    rw [hempty]
    exact Nat.zero_le _

/-- Every sparse store is the empty list and so is every FIFO. -/
theorem State.reset_sound : Sound State.reset where
  regs := rfl
  mem := rfl
  memErr := rfl
  hold := rfl
  tag := rfl
  srv := .ofReset
  capQ := Nat.zero_le _
  modCap := Nat.zero_le _
  ringTx := Nat.zero_le _
  ringRx := Nat.zero_le _
  ports p := State.reset_port p ▸ .ofReset

/-- R37: HALT_N low, GPE_N high, the permit withdrawn. -/
theorem State.reset_cutLevels : State.reset.cutLevels := ⟨rfl, rfl, rfl⟩

/-- An axis that is not enabled is in SAFE (R66). -/
theorem State.reset_isSafe (a : Fin 8) : State.reset.isSafe a = true := by
  unfold State.isSafe
  rw [State.reset_axis]
  rfl

/-- Settles O59: nothing has been written or queued, and every axis and every port is as its type's defaults say. -/
theorem resetIsSound : Obligations.ResetIsSound :=
  ⟨State.reset_sound, rfl, rfl, rfl, State.reset_reg, State.reset_cutLevels,
    fun p => congrArg Port.st (State.reset_port p), State.reset_isSafe⟩

end Sys2Proof.Machine
end

section
/-! PROOFS. The watchdog of a unit that offers the image-load service (R97, R119). -/

namespace Sys2Proof.Machine

theorem State.up_iff (s : State) : s.up = true ↔ s.sys.phase = .run := by
  unfold State.up
  exact beq_iff_eq

/-- R119: the image-load service services the watchdog itself, so that no expiry resets it. -/
theorem exec_watchdogExpiry_of_service {s : State} (h : s.sys.boot = .service) : exec .watchdogExpiry s = .next s := by
  show execWatchdogExpiry s = .next s
  simp [execWatchdogExpiry, h]

/-- A unit without a code bank, before its first power-up: the commands of R117 wait that start it on the bench, with every safety input
open and the lock-out reset button not pressed, measure ROLE code 4 in each window and report a self-test that passes. -/
def benchStart : State :=
  { State.reset with
    pending := [.benchDetect 0 8, .powerOnReset 0 8, .pllLock (Vector.replicate 8 46), .selftestComplete none] }

/-- The outcome is a next state of which `p` holds. -/
def leadsTo (o : Host.Outcome State Fault Refusal) (p : State → Bool) : Bool :=
  match o with
  | .next t => p t
  | _ => false

theorem exists_next_of_leadsTo {o : Host.Outcome State Fault Refusal} {p : State → Bool} (h : leadsTo o p = true) :
    ∃ t, o = .next t ∧ p t = true := by
  cases o with
  | next t => exact ⟨t, rfl, h⟩
  | fault r => exact nomatch h
  | refused r => exact nomatch h

/-- The unit, once started, runs its watchdog and offers the image-load service: no bank passes verification (R119). -/
theorem benchStart_run : leadsTo (Sys2Proof.core.run 4 benchStart)
    (fun t => decide (t.up = true ∧ t.sys.wdtOn = true ∧ t.sys.boot = .service)) = true := by
  decide +kernel

/-- Refutes O36: its clause on WATCHDOG_EXPIRY asks for the pre-reset phase in every started unit whose watchdog runs, without the
premise that the unit is not in the image-load service, which services the watchdog itself (R119). The unit that four steps start from
`benchStart` is in it, and stays as it is. -/
theorem not_resetRequests : ¬ Obligations.ResetRequests := by
  intro h
  obtain ⟨s, -, hstarted⟩ := exists_next_of_leadsTo benchStart_run
  obtain ⟨hup, hwdt, hservice⟩ := of_decide_eq_true hstarted
  obtain ⟨-, -, hexpiry, -⟩ := h s
  obtain ⟨t, hexec, ⟨hpre, -⟩, -⟩ := hexpiry hup hwdt
  rw [exec_watchdogExpiry_of_service hservice] at hexec
  obtain rfl : s = t := Host.Outcome.next.inj hexec
  rw [s.up_iff.mp hup] at hpre
  exact absurd hpre (by decide)

end Sys2Proof.Machine
end

section
/-! PROOFS. Frames from what operations keep, and the cut and the lock-out of the safety supervisor (R37, R57). -/

namespace Sys2Proof.Machine

/-- The parts of a list as the bits of a number, as the frames of `Ev` hold them. -/
def Part.mask (ps : List Part) : Nat := ps.foldr (fun p m => 2 ^ p.bit ||| m) 0

/-- Every part, one list of them all. -/
def Part.all : List Part :=
  ([.clk, .freeCtr, .wire, .rdata, .hold, .pend64, .mem, .memErr, .sys, .bg, .axes, .ports, .sats, .waiting, .srv, .cp, .eng, .gain,
    .route, .tension, .lio, .fb, .modCap, .ring, .pr, .bear, .store, .tag] : List Part) ++ Part.allRegs

theorem Part.find_bit (p : Part) : Part.all.find? (fun q => q.bit == p.bit) = some p := by
  cases p with
  | regs b => revert b; decide
  | _ => rfl

theorem Part.bit_injective : Function.Injective Part.bit := by
  intro p q h
  have hp := p.find_bit
  rw [h, q.find_bit] at hp
  exact (Option.some.inj hp).symm

theorem Part.testBit_mask_of_not_mem {ps : List Part} {p : Part} (h : p ∉ ps) : (Part.mask ps).testBit p.bit = false := by
  induction ps with
  | nil => exact Nat.zero_testBit _
  | cons q ps ih =>
    obtain ⟨hne, hnot⟩ := not_or.mp (fun e => h (List.mem_cons.mpr e))
    have hq : q.bit ≠ p.bit := fun e => hne (Part.bit_injective e.symm)
    show (2 ^ q.bit ||| Part.mask ps).testBit p.bit = false
    rw [Nat.testBit_or, Nat.testBit_two_pow_of_ne hq, ih hnot, Bool.or_false]

/-- The frame of a statement, from what the operations keep. -/
theorem Ev.onlyChanges {ps : List Part} {s t : State} (h : Ev (Part.mask ps) s t) : s.onlyChanges t ps :=
  ⟨h.pending, h.member, h.time, fun p hp => h.same p (Part.testBit_mask_of_not_mem hp)⟩

/-- The same, from what a command keeps. -/
theorem onlyChanges_of_keeps {m : Nat} {ps : List Part} {o : Host.Outcome State Fault Refusal} {s t : State}
    (hkeeps : ∃ u, o = .next u ∧ Ev m s u) (hnext : o = .next t) (k : m &&& Part.mask ps = m) : s.onlyChanges t ps := by
  obtain ⟨u, hu, hev⟩ := hkeeps
  obtain rfl : u = t := Host.Outcome.next.inj (hu.symm.trans hnext)
  exact (hev.mono k).onlyChanges

theorem State.bgEvent_bg (s : State) (b : Nat) : (s.bgEvent b).bg = s.bg :=
  (State.bgEvent_ev (m := 0xa00000000) (.refl _ s) (by decide)).same .bg (by decide)

theorem State.bgEmcy_bg (s : State) (code : Nat) (bytes : List Nat) : (s.bgEmcy code bytes).bg = s.bg :=
  (State.bgEmcy_ev (m := 0x4000) (.refl _ s) (by decide)).same .bg (by decide)

theorem State.brakes_bg (s : State) : s.brakes.bg = s.bg :=
  (State.brakes_ev (m := 0x100000000100000) (.refl _ s) (by decide)).same .bg (by decide)

theorem State.claimRelease_bg (s : State) : s.claimRelease.bg = s.bg :=
  (State.claimRelease_ev (m := 0x50200090011cc00) (.refl _ s) (by decide)).same .bg (by decide)

/-- A cut takes the channels and the permit to their safe levels and ends a release and an SS1-t delay (R37). -/
def Badger.afterCut (b : Badger) : Badger := { b with haltN := false, permit := false, gpeN := true, release := .cut, ss1 := false }

@[simp] theorem State.cut_bg (s : State) : s.cut.bg = s.bg.afterCut := by
  unfold State.cut
  dsimp only
  split
  · rw [State.bgEvent_bg, State.brakes_bg]; rfl
  · rw [State.brakes_bg]; rfl

/-- Latching lock-out with cause `c` and index `i` records them beside the cut (R57, R62). -/
def Badger.afterLockout (b : Badger) (c i : Nat) : Badger :=
  { b.afterCut with
    latched := true
    first := if b.latched then b.first else c
    index := if b.latched then b.index else i
    causes := b.causes ||| 2 ^ c
    causeIdx := if (c, i) ∈ b.causeIdx then b.causeIdx else (c, i) :: b.causeIdx
    lockCnt := if b.latched then b.lockCnt else satInc 0xFFFF b.lockCnt
    window := if bitOf b.causes c then b.window else false
    testPassSince := if c = 5 then false else b.testPassSince }

theorem State.lockout_bg {s : State} (h : s.bg.powered = true) (c i : Nat) : (s.lockout c i).bg = s.bg.afterLockout c i := by
  unfold State.lockout
  rw [h]
  dsimp only [Bool.not_true]
  cases hnew : bitOf s.bg.causes c
  · simp [State.bgEmcy_bg, State.bgEvent_bg, State.claimRelease_bg, Badger.afterLockout, Badger.afterCut, hnew]
  · simp [State.claimRelease_bg, Badger.afterLockout, Badger.afterCut, hnew]

theorem bitOf_eq_testBit (v i : Nat) : bitOf v i = v.testBit i := (Nat.testBit_eq_decide_div_mod_eq).symm

theorem bitOf_or (m n i : Nat) : bitOf (m ||| n) i = (bitOf m i || bitOf n i) := by
  simp only [bitOf_eq_testBit, Nat.testBit_or]

theorem bitOf_two_pow_self (c : Nat) : bitOf (2 ^ c) c = true := (bitOf_eq_testBit _ _).trans Nat.testBit_two_pow_self

/-- The supervisor of `u` is powered, and no lock-out has been latched between `s` and `u`. -/
def State.sameRecord (s u : State) : Prop :=
  u.bg.powered = true ∧ u.bg.latched = s.bg.latched ∧ u.bg.first = s.bg.first ∧ u.bg.index = s.bg.index

theorem State.lockedOut_lockout {s u : State} {c i : Nat} (h : s.sameRecord u) : s.lockedOut (u.lockout c i) c i := by
  obtain ⟨hp, hl, hf, hi⟩ := h
  unfold State.lockedOut
  rw [State.lockout_bg hp]
  refine ⟨rfl, rfl, rfl, rfl, ?_, ?_⟩
  · show bitOf (u.bg.causes ||| 2 ^ c) c = true
    rw [bitOf_or, bitOf_two_pow_self, Bool.or_true]
  · show ((if u.bg.latched = true then u.bg.first else c), (if u.bg.latched = true then u.bg.index else i)) = _
    rw [hl, hf, hi]
    split <;> rfl

theorem State.lockout_of_not_powered {s : State} (h : s.bg.powered = false) (c i : Nat) : s.lockout c i = s := by
  unfold State.lockout
  rw [h]
  rfl

/-- What the record of a lock-out does not hold, it keeps. -/
theorem State.lockout_keeps {α : Type} (part : Badger → α)
    (s : State) (c i : Nat) (hpart : ∀ b : Badger, part (b.afterLockout c i) = part b := by exact fun _ => rfl) :
    part (s.lockout c i).bg = part s.bg := by
  cases hp : s.bg.powered
  · rw [State.lockout_of_not_powered hp]
  · rw [State.lockout_bg hp, hpart]

/-- A further lock-out keeps the first one's record. -/
theorem State.lockedOut.lockout {s t : State} {c i : Nat} (h : s.lockedOut t c i) (d j : Nat) : s.lockedOut (t.lockout d j) c i := by
  cases hp : t.bg.powered
  · rw [State.lockout_of_not_powered hp]
    exact h
  · obtain ⟨hlatched, -, -, -, hcause, hfirst⟩ := h
    unfold State.lockedOut
    rw [State.lockout_bg hp]
    refine ⟨rfl, rfl, rfl, rfl, ?_, ?_⟩
    · show bitOf (t.bg.causes ||| 2 ^ d) c = true
      rw [bitOf_or, hcause, Bool.true_or]
    · show ((if t.bg.latched = true then t.bg.first else d), (if t.bg.latched = true then t.bg.index else j)) = _
      rw [hlatched]
      exact hfirst

end Sys2Proof.Machine
end

section
/-! PROOFS. Faults that latch lock-out (R40, R44, R46, R47, R49, R51, R53, R57, R58). -/

namespace Sys2Proof.Machine

theorem exec_guardDiscrepancyTimeout {s : State} {g : Fin 4} (hpresent : bitOf (s.guard g) 0 = true)
    (hdiffer : s.grdOpen g false ≠ s.grdOpen g true) : exec (.guardDiscrepancyTimeout g) s = .next (s.lockout 2 g) := by
  show Host.Outcome.next (ite _ _ _) = _
  rw [if_pos (by rw [hpresent, Bool.true_and, bne_iff_ne]; exact hdiffer)]

/-- Settles O56: a present guard whose channels disagree latches lock-out with the guard as its index. -/
theorem guardDiscrepancy : Obligations.GuardDiscrepancy := by
  intro s g hpowered hpresent hdiffer
  exact ⟨_, exec_guardDiscrepancyTimeout hpresent hdiffer, State.lockedOut_lockout ⟨hpowered, rfl, rfl, rfl⟩,
    (State.lockout_ev (.refl _ s)).onlyChanges⟩

theorem exec_stoDiscrepancyTimeout {s : State} (hdiffer : s.stoOpen false ≠ s.stoOpen true) :
    exec .stoDiscrepancyTimeout s = .next (s.lockout 1 0) :=
  congrArg Host.Outcome.next (if_pos (bne_iff_ne.mpr hdiffer))

/-! ### Safely limited speed (R47, R49) -/

/-- The two frequencies of a tap at the end of its window. -/
def State.slsMeasured (s : State) (tap : Fin 2) (own fwd : Nat) : State :=
  s.modBg fun b => { b with sls := upd b.sls tap fun t => { t with own := own, fwd := fwd, sent := [] } }

/-- The counts of windows over the limit and of disagreement, from the frequencies as they stand. -/
def State.slsCounted (s : State) (tap : Fin 2) : State :=
  let beyond := s.slsOver tap
  let differ := !s.slsClose tap
  s.modBg fun b => { b with sls := upd b.sls tap fun t =>
    { t with viol := if beyond then t.viol + 1 else 0
             disagree := if differ then some (match t.disagree with | none => 0 | some d => d + 2) else none } }

/-- The lock-outs that the counts of a tap ask for. -/
def State.slsActs (s : State) (tap : Fin 2) : State :=
  let s3 := if 5 ≤ s.bg.sls[tap].viol then s.lockout 7 tap else s
  match s.bg.sls[tap].disagree with
  | some d => if s.scs (7 + 4 * tap.1) 31 16 0 ≤ d then s3.lockout 8 tap else s3
  | none => s3

theorem exec_slsWindowEnd {s : State} {tap : Fin 2} {own x y : Nat} (hpowered : s.bg.powered = true)
    (hactive : s.scs (4 + 4 * tap.1) 3 3 0 = 1) (hsent : s.bg.sls[tap].sent = [x, y]) :
    exec (.slsWindowEnd tap own) s = .next (((s.slsMeasured tap own ((x + y) / 2)).slsCounted tap).slsActs tap) := by
  have hmean : s.slsMean tap = ((x + y) / 2, s) := by
    unfold State.slsMean
    rw [hsent]
  show Host.Outcome.next (ite _ _ _) = _
  rw [if_neg (by rw [hpowered, hactive]; decide), hmean]
  rfl

/-- A limit that is fixed in the set bounds the active limit, whatever the mode allows (R47, R48). -/
theorem State.slsLimit_le_of_fixed {s : State} {tap : Fin 2} (hactive : s.scs (4 + 4 * tap.1) 3 3 0 = 1)
    (hfixed : s.scs (4 + 4 * tap.1) 4 4 0 = 1) :
    ∃ l, s.slsLimit tap = some l ∧ l ≤ 100 * s.scs (4 + 4 * tap.1 + 2) 31 0 0 := by
  unfold State.slsLimit
  dsimp only
  rw [hactive, hfixed]
  generalize Option.map (fun p => p * s.scs (4 + 4 * tap.1 + 1) 31 0 0) _ = modeLimit
  cases modeLimit with
  | none => exact ⟨_, rfl, le_refl _⟩
  | some x => exact ⟨_, rfl, Nat.min_le_right _ _⟩

theorem State.slsOver_of_fixed {s : State} {tap : Fin 2} (hactive : s.scs (4 + 4 * tap.1) 3 3 0 = 1)
    (hfixed : s.scs (4 + 4 * tap.1) 4 4 0 = 1) (hover : s.scs (6 + 4 * tap.1) 31 0 0 < s.bg.sls[tap].own) :
    s.slsOver tap = true := by
  obtain ⟨l, hlimit, hle⟩ := State.slsLimit_le_of_fixed hactive hfixed
  have hword : 6 + 4 * tap.1 = 4 + 4 * tap.1 + 2 := by omega
  rw [hword] at hover
  unfold State.slsOver
  rw [hlimit]
  simp only [Bool.or_eq_true, decide_eq_true_eq]
  omega

@[simp] theorem State.slsMeasured_tap (s : State) (tap : Fin 2) (own fwd : Nat) :
    (s.slsMeasured tap own fwd).bg.sls[tap] = { s.bg.sls[tap] with own := own, fwd := fwd, sent := [] } := upd_same _ _ _

@[simp] theorem State.slsCounted_tap (s : State) (tap : Fin 2) :
    (s.slsCounted tap).bg.sls[tap] = { s.bg.sls[tap] with
      viol := if s.slsOver tap then s.bg.sls[tap].viol + 1 else 0
      disagree := if !s.slsClose tap then some (match s.bg.sls[tap].disagree with | none => 0 | some d => d + 2) else none } :=
  upd_same _ _ _

theorem State.slsActs_sls (s : State) (tap : Fin 2) : (s.slsActs tap).bg.sls = s.bg.sls := by
  have hfirst : (if 5 ≤ s.bg.sls[tap].viol then s.lockout 7 tap else s).bg.sls = s.bg.sls := by
    split
    · exact State.lockout_keeps Badger.sls _ _ _
    · rfl
  unfold State.slsActs
  dsimp only
  split
  · split
    · exact (State.lockout_keeps Badger.sls _ _ _).trans hfirst
    · exact hfirst
  · exact hfirst

/-- The fifth window over the limit latches; a discrepancy found in the same window comes after it. -/
theorem State.lockedOut_slsActs {s u : State} {tap : Fin 2} (h : s.sameRecord u) (hviol : 5 ≤ u.bg.sls[tap].viol) :
    s.lockedOut (u.slsActs tap) 7 tap := by
  have hlocked : s.lockedOut (u.lockout 7 tap) 7 tap := State.lockedOut_lockout h
  unfold State.slsActs
  rw [if_pos hviol]
  dsimp only
  split
  · split
    · exact hlocked.lockout _ _
    · exact hlocked
  · exact hlocked

/-! ### Readback and seal (R40, R51) -/

theorem exec_sealReread_same {s : State} {sw : BitVec 8} (hpowered : s.bg.powered = true) (hsame : sw.toNat = s.bg.snap) :
    exec (.sealReread sw) s = .next (s.modBg fun b => { b with live := sw.toNat, sealMis := 0 }) := by
  show Host.Outcome.next (ite _ _ _) = _
  rw [hpowered, hsame]
  simp

theorem exec_sealReread_differ {s : State} {sw : BitVec 8} (hpowered : s.bg.powered = true) (hdiffer : sw.toNat ≠ s.bg.snap)
    (hbefore : s.bg.sealMis = 1) :
    exec (.sealReread sw) s = .next ((s.modBg fun b => { b with live := sw.toNat, sealMis := 2 }).lockout 3
      ((firstIdx (fun j => bitOf sw.toNat j != bitOf s.bg.snap j) (List.range 8)).getD 0)) := by
  show Host.Outcome.next (ite _ _ _) = _
  have hmis : (sw.toNat != s.bg.snap) = true := bne_iff_ne.mpr hdiffer
  simp [hpowered, hmis, State.modBg, hbefore]

/-- The levels read back at the pins, and the readings in a row that differ. -/
def State.readBack (s : State) (haltHigh : Bool) (pins : PinLevels) : State :=
  s.modBg fun b =>
    { b with
      haltLvl := haltHigh, gpeLvl := pins.gpe, relLow := pins.relLow
      rbHalt := if haltHigh = b.haltN then 0 else b.rbHalt + 1
      rbGpe := if pins.gpe = b.gpeN then 0 else b.rbGpe + 1 }

/-- The lock-outs that the readings ask for. -/
def State.readbackActs (s : State) : State :=
  let s2 := if s.bg.rbHalt ≥ 4 then s.lockout 12 0 else s
  if s.bg.rbGpe ≥ 4 then s2.lockout 12 1 else s2

/-- The status registers of the supervisor refreshed (log entry 10). -/
def State.refreshed (s : State) : State := s.modBg fun b => { b with shown := s.bgWords }

theorem exec_shutdownReadback {s : State} (hpowered : s.bg.powered = true) (haltHigh : Bool) (pins : PinLevels) :
    exec (.shutdownReadback haltHigh pins) s = .next ((s.readBack haltHigh pins).readbackActs.refreshed) := by
  show Host.Outcome.next (ite _ _ _) = _
  rw [hpowered]
  rfl

theorem State.readbackActs_of_few {s : State} (hhalt : s.bg.rbHalt < 4) (hgpe : s.bg.rbGpe < 4) : s.readbackActs = s := by
  unfold State.readbackActs
  rw [if_neg (Nat.not_le.mpr hhalt), if_neg (Nat.not_le.mpr hgpe)]

theorem State.lockedOut_readbackActs {s u : State} (h : s.sameRecord u) (hhalt : 4 ≤ u.bg.rbHalt) : s.lockedOut u.readbackActs 12 0 := by
  have hlocked : s.lockedOut (u.lockout 12 0) 12 0 := State.lockedOut_lockout h
  unfold State.readbackActs
  rw [if_pos hhalt]
  dsimp only
  split
  · exact hlocked.lockout _ _
  · exact hlocked

/-! ### Heartbeat (R58) -/

/-- The counts of unanswered and of answered periods at the end of one. -/
def State.hbCounted (s : State) : State :=
  s.modBg fun b => { b with hbMiss := if s.bg.hbAnswered then 0 else b.hbMiss + 1
                            hbRow := if s.bg.hbAnswered then b.hbRow + 1 else 0 }

/-- An open period is judged at the next challenge. -/
def State.hbJudged (s : State) : State :=
  if !s.bg.hbOpen then s else if 2 ≤ s.hbCounted.bg.hbMiss then s.hbCounted.lockout 9 0 else s.hbCounted

/-- A new challenge opens a period. -/
def State.hbOpened (s : State) : State := s.modBg fun b => { b with hbOpen := true, hbWrites := 0, hbAnswered := false }

/-- Haldux, where it is clocked, sees the challenge. -/
def State.hbShown (s : State) (chal : BitVec 8) : State :=
  if s.clocked then (s.put BG_HB_CHAL_CHAL chal.toNat).bgEvent 4 else s

theorem exec_hbChallenge {s : State} (hpowered : s.bg.powered = true) (harmed : s.bg.hbArmed = true) (chal : BitVec 8) :
    exec (.hbChallenge chal) s = .next ((s.hbJudged.judgeLamps.hbOpened).hbShown chal) := by
  show Host.Outcome.next (ite _ _ _) = _
  rw [hpowered, harmed]
  rfl

theorem State.hbShown_bg (s : State) (chal : BitVec 8) : (s.hbShown chal).bg = s.bg := by
  unfold State.hbShown
  split
  · rw [State.bgEvent_bg]
    rfl
  · rfl

/-- What each turn of a fold keeps holds at its end. -/
theorem forN_induction {P : State → Prop} {n : Nat} {f : Nat → State → State} {s : State} (h0 : P s)
    (hstep : ∀ i t, P t → P (f i t)) : P (forN n f s) := by
  unfold forN
  generalize List.range n = l
  induction l generalizing s with
  | nil => exact h0
  | cons i l ih => exact ih (hstep i s h0)

/-- What a lock-out keeps, the judgement of the lamp lines keeps. -/
theorem State.judgeLamps_induction {P : State → Prop} {s : State} (h0 : P s) (hstep : ∀ c i t, P t → P (t.lockout c i)) :
    P s.judgeLamps := by
  unfold State.judgeLamps
  split
  · refine forN_induction h0 fun n t ht => ?_
    split
    · exact hstep _ _ _ ht
    · exact ht
  · exact h0

theorem State.lockedOut.judgeLamps {s t : State} {c i : Nat} (h : s.lockedOut t c i) : s.lockedOut t.judgeLamps c i :=
  State.judgeLamps_induction (P := fun u => s.lockedOut u c i) h fun d j _ hu => hu.lockout d j

@[simp] theorem State.hbCounted_hbMiss (s : State) :
    s.hbCounted.bg.hbMiss = if s.bg.hbAnswered then 0 else s.bg.hbMiss + 1 := rfl

theorem State.lockedOut_hbJudged {s : State} (hpowered : s.bg.powered = true) (hopen : s.bg.hbOpen = true)
    (hunanswered : s.bg.hbAnswered = false) (hmiss : s.bg.hbMiss = 1) : s.lockedOut s.hbJudged 9 0 := by
  have hsecond : 2 ≤ s.hbCounted.bg.hbMiss := by simp [hunanswered, hmiss]
  unfold State.hbJudged
  rw [if_neg (by simp [hopen]), if_pos hsecond]
  exact State.lockedOut_lockout ⟨hpowered, rfl, rfl, rfl⟩

/-! ### The statement -/

/-- BRAKE_REL_N of axis `a` as it has been read at its pin. -/
def State.relLowRead (s : State) (a : Fin 8) (relLow : Bool) : State :=
  let m : BitVec 8 := BitVec.ofNat 8 (2 ^ a.1)
  s.modBg fun b => { b with relLow := if relLow then b.relLow ||| m else b.relLow &&& ~~~m }

theorem exec_brakeFeedbackTimeout {s : State} {a : Fin 8} {relLow : Bool} (hsupervised : bitOf (s.scs 2 7 0 0) a = true)
    (hdiffer : relLow ≠ s.bg.brkFb.getLsbD a.1) :
    exec (.brakeFeedbackTimeout a relLow) s = .next ((s.relLowRead a relLow).lockout 6 a) := by
  have hjudged : (bitOf (s.scs 2 7 0 0) a && relLow != s.bg.brkFb.getLsbD a.1) = true := by
    rw [hsupervised, Bool.true_and, bne_iff_ne]
    exact hdiffer
  exact congrArg Host.Outcome.next (if_pos hjudged)

theorem exec_backgroundSelftestFail {s : State} (hpowered : s.bg.powered = true) (test : Fin 8) :
    exec (.backgroundSelftestFail test) s = .next ((s.modBg fun b => { b with selftest := .failed }).lockout 5 test) := by
  show Host.Outcome.next (State.lockout (ite _ _ _) 5 test) = _
  rw [if_pos hpowered]

/-- Settles O7: each fault ends in `State.lockout` with its cause and index; a later lock-out of the same command keeps that record. -/
theorem supervisorFaultsLatch : Obligations.SupervisorFaultsLatch := by
  intro s hpowered
  refine ⟨fun hdiffer => ?_, fun a relLow hsupervised hdiffer => ?_, fun tap own x y hactive hsent => ?_,
    fun tap own x y hactive hsent hfixed hover hviol => ?_, fun sw hsame => ?_, fun sw i hdiffer hbefore hidx => ?_,
    fun haltHigh pins hhalt hgpe => ?_, fun haltHigh pins hhalt hbefore => ?_,
    fun chal harmed hopen hunanswered hmiss => ?_, fun test => ?_⟩
  · have hexec := exec_stoDiscrepancyTimeout hdiffer
    exact ⟨_, hexec, State.lockedOut_lockout ⟨hpowered, rfl, rfl, rfl⟩,
      onlyChanges_of_keeps (execStoDiscrepancyTimeout_keeps s) hexec (by decide)⟩
  · have hexec := exec_brakeFeedbackTimeout hsupervised hdiffer
    exact ⟨_, hexec, State.lockedOut_lockout ⟨hpowered, rfl, rfl, rfl⟩,
      onlyChanges_of_keeps (execBrakeFeedbackTimeout_keeps a relLow s) hexec (by decide)⟩
  · have hexec := exec_slsWindowEnd (own := own) hpowered hactive hsent
    refine ⟨_, hexec, ?_, ?_, ?_, onlyChanges_of_keeps (execSlsWindowEnd_keeps tap own s) hexec (by decide)⟩ <;>
      rw [State.slsActs_sls, State.slsCounted_tap, State.slsMeasured_tap]
  · have hexec := exec_slsWindowEnd (own := own) hpowered hactive hsent
    have hbeyond : (s.slsMeasured tap own ((x + y) / 2)).slsOver tap = true :=
      State.slsOver_of_fixed hactive hfixed (by rw [State.slsMeasured_tap]; exact hover)
    refine ⟨_, hexec, State.lockedOut_slsActs ⟨hpowered, rfl, rfl, rfl⟩ ?_,
      onlyChanges_of_keeps (execSlsWindowEnd_keeps tap own s) hexec (by decide)⟩
    rw [State.slsCounted_tap, hbeyond, State.slsMeasured_tap]
    exact Nat.succ_le_succ hviol.ge
  · exact ⟨_, exec_sealReread_same hpowered hsame, rfl, rfl, rfl, (Ev.modBg (.refl _ s)).onlyChanges⟩
  · have hexec := exec_sealReread_differ hpowered hdiffer hbefore
    rw [hidx] at hexec
    exact ⟨_, hexec, State.lockedOut_lockout ⟨hpowered, rfl, rfl, rfl⟩,
      State.lockout_keeps Badger.live _ _ _, onlyChanges_of_keeps (execSealReread_keeps sw s) hexec (by decide)⟩
  · have hexec := exec_shutdownReadback hpowered haltHigh pins
    have hmatch : (s.readBack haltHigh pins).bg.rbHalt = 0 ∧ (s.readBack haltHigh pins).bg.rbGpe = 0 := ⟨if_pos hhalt, if_pos hgpe⟩
    rw [State.readbackActs_of_few (by omega) (by omega)] at hexec
    exact ⟨_, hexec, hmatch.1, hmatch.2, rfl, rfl, rfl, rfl, (Ev.modBg (Ev.modBg (.refl _ s))).onlyChanges⟩
  · have hexec := exec_shutdownReadback hpowered haltHigh pins
    have hfourth : (s.readBack haltHigh pins).bg.rbHalt = 4 :=
      (if_neg hhalt).trans (congrArg (· + 1) hbefore)
    exact ⟨_, hexec, State.lockedOut_readbackActs ⟨hpowered, rfl, rfl, rfl⟩ hfourth.ge, rfl,
      onlyChanges_of_keeps (execShutdownReadback_keeps haltHigh pins s) hexec (by decide)⟩
  · have hexec := exec_hbChallenge hpowered harmed chal
    have hlocked : s.lockedOut s.hbJudged.judgeLamps.hbOpened 9 0 := (State.lockedOut_hbJudged hpowered hopen hunanswered hmiss).judgeLamps
    refine ⟨_, hexec, ?_, ?_, onlyChanges_of_keeps (execHbChallenge_keeps chal s) hexec (by decide)⟩
    · unfold State.lockedOut
      rw [State.hbShown_bg]
      exact hlocked
    · rw [State.hbShown_bg]
      rfl
  · have hexec := exec_backgroundSelftestFail hpowered test
    exact ⟨_, hexec, State.lockedOut_lockout ⟨hpowered, rfl, rfl, rfl⟩,
      State.lockout_keeps Badger.selftest _ _ _,
      onlyChanges_of_keeps (execBackgroundSelftestFail_keeps test s) hexec (by decide)⟩

end Sys2Proof.Machine
end

section
/-! PROOFS. The shut-down channels: stop demands that cut them and the conditions that release them (R37 to R52). -/

namespace Sys2Proof.Machine

/-! ### Stop demands (R42, R43) -/

theorem State.cut_cutLevels (s : State) : s.cut.cutLevels := by
  unfold State.cutLevels
  rw [State.cut_bg]
  exact ⟨rfl, rfl, rfl⟩

theorem State.ss1Axes_bg (s : State) : s.ss1Axes.bg = s.bg :=
  (State.ss1Axes_ev (m := 0x102000800114c00) (.refl _ s) (by decide)).same .bg (by decide)

/-- The delay stands in BG_STATUS, with its event. -/
def State.ss1Noted (s : State) : State := (s.modBg fun b => { b with ss1 := true }).bgEvent 3

/-- A clocked Haldux is told of the delay, and its axes react (R87). -/
def State.ss1Told (s : State) : State := if s.clocked then (s.modSys fun z => { z with ss1 := true }).ss1Axes else s

theorem State.ss1Start_eq {s : State} (h : s.bg.ss1 = false) :
    s.ss1Start = (if s.bg.release == .gate then s.cut else s).ss1Noted.ss1Told := by
  unfold State.ss1Start
  rw [h]
  rfl

theorem State.ss1Told_bg (s : State) : s.ss1Told.bg = s.bg := by
  unfold State.ss1Told
  split
  · exact State.ss1Axes_bg _
  · rfl

theorem State.ss1Noted_bg (s : State) : s.ss1Noted.bg = { s.bg with ss1 := true } := State.bgEvent_bg _ _

theorem State.ss1Start_bg {s : State} (h : s.bg.ss1 = false) :
    s.ss1Start.bg = { (if s.bg.release == .gate then s.bg.afterCut else s.bg) with ss1 := true } := by
  rw [State.ss1Start_eq h, State.ss1Told_bg, State.ss1Noted_bg]
  split
  · rw [State.cut_bg]
  · rfl

theorem State.ss1Start_of_ss1 {s : State} (h : s.bg.ss1 = true) : s.ss1Start = s := by
  unfold State.ss1Start
  rw [if_pos h]

/-- But during a release, the start of a delay leaves the channels as they are (R39, R42). -/
theorem State.ss1Start_bg_of_not_gate {s : State} (h : s.bg.release ≠ .gate) : s.ss1Start.bg = { s.bg with ss1 := true } := by
  cases hss1 : s.bg.ss1
  · rw [State.ss1Start_bg hss1, if_neg (by rw [beq_iff_eq]; exact h)]
  · rw [State.ss1Start_of_ss1 hss1, ← hss1]

/-- What neither a cut nor the start of an SS1-t delay touches, a stop demand keeps. -/
theorem State.stopDemand_keeps {α : Type} (part : Badger → α) (s : State) (react : Nat)
    (hcut : ∀ b : Badger, part b.afterCut = part b := by exact fun _ => rfl)
    (hss1 : ∀ b : Badger, part { b with ss1 := true } = part b := by exact fun _ => rfl) :
    part (s.stopDemand react).bg = part s.bg := by
  unfold State.stopDemand
  split
  · cases h : s.bg.ss1
    · rw [State.ss1Start_bg h, hss1]
      split
      · exact hcut _
      · rfl
    · rw [State.ss1Start_of_ss1 h]
  · rw [State.cut_bg, hcut]

theorem State.stopDemand_sto (s : State) : s.stopDemand 1 = s.cut := by
  unfold State.stopDemand
  rw [show ((1 : Nat) == 2) = false from rfl, Bool.and_false]
  rfl

theorem State.stopDemand_ss1 {s : State} (h : s.bg.inForce.isSome = true) : s.stopDemand 2 = s.ss1Start := by
  unfold State.stopDemand
  rw [h]
  rfl

/-! ### STO inputs (R41 to R45) -/

/-- A set that gives a field another value than its default is in force. -/
theorem State.inForce_isSome_of_scs {s : State} {i hi lo d v : Nat} (h : s.scs i hi lo d = v) (hne : v ≠ d) :
    s.bg.inForce.isSome = true := by
  unfold State.scs at h
  cases hset : s.bg.inForce with
  | none =>
    rw [hset] at h
    exact absurd h.symm hne
  | some w => rfl

theorem State.stoOpen_congr {s t : State} (hsnap : t.bg.snap = s.bg.snap) (hA : t.bg.stoA = s.bg.stoA) (hB : t.bg.stoB = s.bg.stoB)
    (chB : Bool) : t.stoOpen chB = s.stoOpen chB := by
  unfold State.stoOpen
  rw [hsnap, hA, hB]

/-- A channel of the STO pair takes a level. -/
def State.stoSet (s : State) (chB lvl : Bool) : State := s.modBg fun b => if chB then { b with stoB := lvl } else { b with stoA := lvl }

/-- The level at which a channel is open: 0 V, but 24 V for channel B of the antivalent type (R41). -/
def State.stoOpenLevel (s : State) (chB : Bool) : Bool := chB && bitsOf s.bg.snap 1 0 == 2

theorem State.stoOpen_stoSet_same (s : State) (chB lvl : Bool) : (s.stoSet chB lvl).stoOpen chB = (lvl == s.stoOpenLevel chB) := by
  cases chB
  · cases lvl <;> rfl
  · show (if bitsOf s.bg.snap 1 0 = 2 then lvl else !lvl) = (lvl == (bitsOf s.bg.snap 1 0 == 2))
    split <;> rename_i h <;> cases lvl <;> simp [h]

theorem State.stoOpen_stoSet_other (s : State) (chB lvl : Bool) : (s.stoSet chB lvl).stoOpen (!chB) = s.stoOpen (!chB) := by
  cases chB <;> rfl

theorem State.stoSet_keeps {α : Type} (part : Badger → α) (s : State) (chB lvl : Bool)
    (hA : ∀ (b : Badger) (x : Bool), part { b with stoA := x } = part b := by exact fun _ _ => rfl)
    (hB : ∀ (b : Badger) (x : Bool), part { b with stoB := x } = part b := by exact fun _ _ => rfl) :
    part (s.stoSet chB lvl).bg = part s.bg := by
  cases chB
  · exact hA _ _
  · exact hB _ _

/-- A demand that waits for both channels open together and then closed together (R45). -/
def State.stoDemanded (s : State) : State :=
  s.modBg fun b => { b with stoNeed := true, stoBothOpen := s.stoOpen false && s.stoOpen true || (b.stoNeed && b.stoBothOpen) }

theorem exec_stoInputOpen {s : State} {chB : Bool} (hpowered : s.bg.powered = true) (hclosed : s.stoOpen chB = false) :
    exec (.stoInputOpen chB) s =
      .next ((s.stoSet chB (s.stoOpenLevel chB)).stoDemanded.stopDemand (if s.scs 0 8 8 0 = 1 then 2 else 1)) := by
  show Host.Outcome.next (ite _ _ _) = _
  rw [if_neg (by rw [hpowered, hclosed]; decide)]
  cases chB <;> rfl

/-- Both channels read closed after both have been open together: the demand ends (R45). -/
def State.stoRejoined (s : State) : State :=
  if !s.stoOpen false && !s.stoOpen true && s.bg.stoBothOpen then s.modBg fun b => { b with stoNeed := false, stoBothOpen := false }
  else s

theorem exec_stoInputClose {s : State} {chB : Bool} (hpowered : s.bg.powered = true) (hopen : s.stoOpen chB = true) :
    exec (.stoInputClose chB) s = .next (s.stoSet chB (!s.stoOpenLevel chB)).stoRejoined.ss1Unhold := by
  show Host.Outcome.next (ite _ _ _) = _
  rw [if_neg (by rw [hpowered, hopen]; decide)]
  cases chB <;> rfl

theorem State.stoOpen_stoRejoined (s : State) (c : Bool) : s.stoRejoined.stoOpen c = s.stoOpen c := by
  unfold State.stoRejoined
  split <;> rfl

theorem State.stoRejoined_stoNeed {s : State} (hclosed : ∀ c, s.stoOpen c = false) :
    s.stoRejoined.bg.stoNeed = (s.bg.stoNeed && !s.bg.stoBothOpen) := by
  unfold State.stoRejoined
  rw [hclosed, hclosed]
  cases hboth : s.bg.stoBothOpen
  · exact (Bool.and_true _).symm
  · exact (Bool.and_false _).symm

/-- The hold of an SS1-t delay that has ended goes once everything reads closed (R39). -/
theorem State.ss1Unhold_ss1Hold (s : State) : s.ss1Unhold.bg.ss1Hold = (s.bg.ss1Hold && !(!s.bg.ss1 && s.stopClosed)) := by
  unfold State.ss1Unhold
  cases hhold : s.bg.ss1Hold
  · exact hhold
  · rw [Bool.true_and, Bool.true_and]
    cases hover : (!s.bg.ss1 && s.stopClosed)
    · exact hhold
    · rfl

theorem State.ss1Unhold_keeps {α : Type} (part : Badger → α) (s : State)
    (hpart : ∀ b : Badger, part { b with ss1Hold := false } = part b := by exact fun _ => rfl) :
    part s.ss1Unhold.bg = part s.bg := by
  unfold State.ss1Unhold
  split
  · exact hpart _
  · rfl

/-- Whether everything reads closed is a matter of the supervisor alone. -/
theorem State.stopClosed_congr {s t : State} (h : t.bg = s.bg) : t.stopClosed = s.stopClosed := by
  unfold State.stopClosed State.guardHold State.guard State.scs State.grdOpen State.stoOpen
  rw [h]

theorem getLsbD_ofNat_two_pow {w : Nat} (i : Fin w) : (BitVec.ofNat w (2 ^ i.1)).getLsbD i.1 = true := by
  rw [BitVec.getLsbD_ofNat, Nat.testBit_two_pow_self, Bool.and_true]
  exact decide_eq_true i.2

/-- A bit set or cleared by its mask reads as it was set. -/
theorem getLsbD_setBit {w : Nat} (x : BitVec w) (i : Fin w) (level : Bool) :
    (if level then x ||| BitVec.ofNat w (2 ^ i.1) else x &&& ~~~BitVec.ofNat w (2 ^ i.1)).getLsbD i.1 = level := by
  have hmask := getLsbD_ofNat_two_pow i
  generalize BitVec.ofNat w (2 ^ i.1) = m at hmask ⊢
  cases level
  · show (x &&& ~~~m).getLsbD i.1 = false
    rw [BitVec.getLsbD_and, BitVec.getLsbD_not, hmask, Bool.not_true, Bool.and_false, Bool.and_false]
  · show (x ||| m).getLsbD i.1 = true
    rw [BitVec.getLsbD_or, hmask, Bool.or_true]

/-! ### Guard inputs (R52) -/

/-- A channel of a guard takes a level. -/
def State.grdSet (s : State) (g : Fin 4) (chB level : Bool) : State :=
  let m : BitVec 4 := BitVec.ofNat 4 (2 ^ g.1)
  s.modBg fun b =>
    if chB then { b with grdB := if level then b.grdB ||| m else b.grdB &&& ~~~m }
    else { b with grdA := if level then b.grdA ||| m else b.grdA &&& ~~~m }

/-- The start-up test of a guard sees it open and then closed (R54). -/
def State.grdTested (s : State) (g : Fin 4) : State :=
  let bothOpen := s.grdOpen g false && s.grdOpen g true
  let bothClosed := !s.grdOpen g false && !s.grdOpen g true
  s.modBg fun b => { b with gtest := upd b.gtest g fun t =>
    if t.pending && bothOpen then { t with openSeen := true }
    else if t.pending && t.openSeen && bothClosed then { pending := false, openSeen := false, passed := true } else t }

theorem State.guardChange_eq (s : State) (g : Fin 4) (chB level : Bool) : s.guardChange g chB level =
    if bitOf (s.guard g) 0 then ((s.grdSet g chB level).grdTested g).bgEvent 5 else (s.grdSet g chB level).grdTested g := rfl

theorem State.guardChange_bg (s : State) (g : Fin 4) (chB level : Bool) :
    (s.guardChange g chB level).bg = ((s.grdSet g chB level).grdTested g).bg := by
  rw [State.guardChange_eq]
  split
  · exact State.bgEvent_bg _ _
  · rfl

theorem State.grdOpen_guardChange (s : State) (g : Fin 4) (chB level : Bool) :
    (s.guardChange g chB level).grdOpen g chB = !level := by
  unfold State.grdOpen
  rw [State.guardChange_bg]
  cases chB
  · exact congrArg not (getLsbD_setBit s.bg.grdA g level)
  · exact congrArg not (getLsbD_setBit s.bg.grdB g level)

theorem State.guardChange_keeps {α : Type} (part : Badger → α) (s : State) (g : Fin 4) (chB level : Bool)
    (hpart : ∀ (b : Badger) (x y : BitVec 4) (v : Vector GuardTest 4), part { b with grdA := x, grdB := y, gtest := v } = part b := by
      exact fun _ _ _ _ => rfl) : part (s.guardChange g chB level).bg = part s.bg := by
  rw [State.guardChange_bg]
  cases chB
  · exact hpart s.bg _ s.bg.grdB _
  · exact hpart s.bg s.bg.grdA _ _

theorem exec_guardInputOpen {s : State} {g : Fin 4} {chB : Bool} (hpowered : s.bg.powered = true) (hclosed : s.grdOpen g chB = false)
    (hpresent : bitOf (s.guard g) 0 = true) (hreact : bitsOf (s.guard g) 3 2 = 1) :
    exec (.guardInputOpen g chB) s = .next (s.guardChange g chB false).cut := by
  show Host.Outcome.next (ite _ _ (ite _ _ _)) = _
  rw [if_neg (by rw [hpowered, hclosed]; decide), if_pos (by rw [hpresent, hreact]; decide), hreact, State.stopDemand_sto]

theorem exec_guardInputClose {s : State} {g : Fin 4} {chB : Bool} (hpowered : s.bg.powered = true) (hopen : s.grdOpen g chB = true) :
    exec (.guardInputClose g chB) s = .next (s.guardChange g chB true).ss1Unhold :=
  congrArg Host.Outcome.next (if_neg (by rw [hpowered, hopen]; decide))

/-! ### The end of an SS1-t delay and the release (R39, R42) -/

/-- The delay has ended in a cut, and the release waits for the inputs (R39). -/
def State.ss1Held (s : State) : State := s.cut.modBg fun b => { b with ss1Hold := true }

theorem exec_ss1DelayExpiry {s : State} (h : s.bg.ss1 = true) : exec .ss1DelayExpiry s = .next s.ss1Held.ss1Unhold :=
  congrArg Host.Outcome.next (if_pos h)

theorem State.ss1Held_bg (s : State) : s.ss1Held.bg = { s.bg.afterCut with ss1Hold := true } := by
  show { s.cut.bg with ss1Hold := true } = _
  rw [State.cut_bg]

/-- A cut opens and closes no input. -/
theorem State.ss1Held_stopClosed (s : State) : s.ss1Held.stopClosed = s.stopClosed :=
  State.stopClosed_congr (s := s.modBg fun b => { b.afterCut with ss1Hold := true }) s.ss1Held_bg

/-- GPE_N goes low with the permit given; HALT_N follows 20 ms later (R39). -/
def State.gateReleased (s : State) : State := (s.modBg fun b => { b with gpeN := false, permit := true, release := .gate }).brakes

theorem State.gateReleased_bg (s : State) : s.gateReleased.bg = { s.bg with gpeN := false, permit := true, release := .gate } :=
  State.brakes_bg _

theorem exec_channelRelease (s : State) :
    exec .channelRelease s = .next (if s.releaseOk && s.bg.release == .cut then s.gateReleased else s) := rfl

/-- HALT_N goes high, and Haldux registers it where it is clocked. -/
def State.haltReleased (s : State) : State :=
  let s1 := s.modBg fun b => { b with haltN := true, release := .run }
  if s.clocked then (s1.modSys fun z => { z with haltN := true }) else s1

theorem exec_haltNRelease {s : State} (h : s.bg.release = .gate) :
    exec .haltNRelease s = .next (if s.releaseOk then s.haltReleased else s.cut) := by
  show Host.Outcome.next (ite _ _ _) = _
  rw [if_neg (by rw [h]; decide)]
  rfl

theorem State.haltReleased_bg (s : State) : s.haltReleased.bg = { s.bg with haltN := true, release := .run } := by
  unfold State.haltReleased
  dsimp only
  split <;> rfl

theorem State.haltReleased_sys {s : State} (h : s.clocked = true) : s.haltReleased.sys.haltN = true := by
  unfold State.haltReleased
  rw [if_pos h]
  rfl

/-! ### The statement -/

/-- Settles O6: the inputs act by `State.stopDemand`, whose one effect on the channels is `State.cut`, and the release by its
conditions. -/
theorem channelsCutAndRelease : Obligations.ChannelsCutAndRelease := by
  intro s
  refine ⟨fun chB hpowered hclosed => ?_, fun chB hpowered hclosed hss1 hgate => ?_, fun chB hpowered hopen hother => ?_,
    fun g chB hpowered hclosed hpresent hreact => ?_, fun g chB hpowered hopen => ?_, fun hpowered hss1 => ?_, fun hok hcut => ?_,
    fun hbad => ?_, fun hok hgate => ?_, fun hbad hgate => ?_⟩
  · have hexec := exec_stoInputOpen hpowered hclosed
    refine ⟨_, hexec, ?_, State.stopDemand_keeps Badger.stoNeed _ _, fun hsto => ?_,
      onlyChanges_of_keeps (execStoInputOpen_keeps chB s) hexec (by decide)⟩
    · rw [State.stoOpen_congr (State.stopDemand_keeps Badger.snap _ _) (State.stopDemand_keeps Badger.stoA _ _)
        (State.stopDemand_keeps Badger.stoB _ _) chB]
      exact (s.stoOpen_stoSet_same chB _).trans (beq_self_eq_true _)
    · rw [if_neg hsto, State.stopDemand_sto]
      exact State.cut_cutLevels _
  · have hexec := exec_stoInputOpen hpowered hclosed
    have hset : (s.stoSet chB (s.stoOpenLevel chB)).stoDemanded.bg.inForce.isSome = true := by
      show (s.stoSet chB _).bg.inForce.isSome = true
      rw [State.stoSet_keeps Badger.inForce]
      exact State.inForce_isSome_of_scs hss1 (by decide)
    rw [if_pos hss1, State.stopDemand_ss1 hset] at hexec
    have hgate' : (s.stoSet chB (s.stoOpenLevel chB)).stoDemanded.bg.release ≠ .gate := by
      show (s.stoSet chB _).bg.release ≠ .gate
      rw [State.stoSet_keeps Badger.release]
      exact hgate
    refine ⟨_, hexec, ?_, ?_, ?_, onlyChanges_of_keeps (execStoInputOpen_keeps chB s) hexec (by decide)⟩ <;>
      rw [State.ss1Start_bg_of_not_gate hgate']
    · exact State.stoSet_keeps Badger.haltN s chB _
    · exact State.stoSet_keeps Badger.permit s chB _
  · have hexec := exec_stoInputClose hpowered hopen
    have hclosed : (s.stoSet chB (!s.stoOpenLevel chB)).stoOpen chB = false := by
      rw [State.stoOpen_stoSet_same]
      cases s.stoOpenLevel chB <;> rfl
    have hall : ∀ c, (s.stoSet chB (!s.stoOpenLevel chB)).stoOpen c = false := by
      intro c
      rcases Bool.eq_or_eq_not c chB with rfl | rfl
      · exact hclosed
      · rw [State.stoOpen_stoSet_other, hother]
    refine ⟨_, hexec, ?_, ?_, onlyChanges_of_keeps (execStoInputClose_keeps chB s) hexec (by decide)⟩
    · rw [State.stoOpen_congr (State.ss1Unhold_keeps Badger.snap _) (State.ss1Unhold_keeps Badger.stoA _)
        (State.ss1Unhold_keeps Badger.stoB _) chB, State.stoOpen_stoRejoined]
      exact hclosed
    · rw [State.ss1Unhold_keeps Badger.stoNeed, State.stoRejoined_stoNeed hall, State.stoSet_keeps Badger.stoNeed,
        State.stoSet_keeps Badger.stoBothOpen]
  · have hexec := exec_guardInputOpen hpowered hclosed hpresent hreact
    refine ⟨_, hexec, ?_, State.cut_cutLevels _, onlyChanges_of_keeps (execGuardInputOpen_keeps g chB s) hexec (by decide)⟩
    have hopen := State.grdOpen_guardChange s g chB false
    unfold State.grdOpen at hopen ⊢
    rw [State.cut_bg]
    exact hopen
  · have hexec := exec_guardInputClose hpowered hopen
    refine ⟨_, hexec, ?_, ?_, ?_, onlyChanges_of_keeps (execGuardInputClose_keeps g chB s) hexec (by decide)⟩
    · have hkept := State.grdOpen_guardChange s g chB true
      unfold State.grdOpen at hkept ⊢
      rw [State.ss1Unhold_keeps Badger.grdA, State.ss1Unhold_keeps Badger.grdB]
      exact hkept
    · rw [State.ss1Unhold_keeps Badger.haltN, State.guardChange_keeps Badger.haltN]
    · rw [State.ss1Unhold_keeps Badger.gpeN, State.guardChange_keeps Badger.gpeN]
  · have hexec := exec_ss1DelayExpiry hss1
    refine ⟨_, hexec, ?_, ?_, ?_, onlyChanges_of_keeps (execSs1DelayExpiry_keeps s) hexec (by decide)⟩
    · unfold State.cutLevels
      rw [State.ss1Unhold_keeps Badger.haltN, State.ss1Unhold_keeps Badger.gpeN, State.ss1Unhold_keeps Badger.permit, State.ss1Held_bg]
      exact ⟨rfl, rfl, rfl⟩
    · rw [State.ss1Unhold_keeps Badger.ss1, State.ss1Held_bg]
      rfl
    · rw [State.ss1Unhold_ss1Hold, State.ss1Held_stopClosed, State.ss1Held_bg]
      rfl
  · have hexec := exec_channelRelease s
    rw [if_pos (by rw [hok, hcut]; rfl)] at hexec
    refine ⟨_, hexec, ?_, ?_, ?_, ?_, onlyChanges_of_keeps (execChannelRelease_keeps s) hexec (by decide)⟩ <;> rw [State.gateReleased_bg]
  · have hexec := exec_channelRelease s
    rw [hbad] at hexec
    exact ⟨_, hexec, rfl⟩
  · have hexec := exec_haltNRelease hgate
    rw [if_pos hok] at hexec
    refine ⟨_, hexec, ?_, ?_, ?_, ?_, State.haltReleased_sys, onlyChanges_of_keeps (execHaltNRelease_keeps s) hexec (by decide)⟩ <;>
      rw [State.haltReleased_bg]
  · have hexec := exec_haltNRelease hgate
    rw [if_neg (by rw [hbad]; decide)] at hexec
    refine ⟨_, hexec, State.cut_cutLevels s, ?_, onlyChanges_of_keeps (execHaltNRelease_keeps s) hexec (by decide)⟩
    rw [State.cut_bg]
    rfl

end Sys2Proof.Machine
end

section
/-! PROOFS. The safety configuration set and the heartbeat (R54 to R56, R58). -/

namespace Sys2Proof.Machine

/-! ### Registers -/

/-- A field reads what has been written to it, where it fits. -/
theorem State.get_put_fits (s : State) (f : Fld) {v : Nat} (hv : v < 2 ^ f.width) (h : f.hi < 32) (hl : f.lo ≤ f.hi) :
    (s.put f v).get f = v :=
  (s.get_put_same f v h hl).trans (Nat.mod_eq_of_lt hv)

theorem State.flag_eq_false {s : State} {f : Fld} (h : s.get f = 0) : s.flag f = false := by
  unfold State.flag
  rw [h]
  rfl

theorem State.flag_eq_true {s : State} {f : Fld} (h : s.get f = 1) : s.flag f = true := by
  unfold State.flag
  rw [h]
  rfl

theorem State.keepsRegs.refl (s : State) (block : Fin 32) (but : List Nat) : s.keepsRegs s block but := fun _ _ _ => rfl

theorem State.keepsRegs.setReg {s t : State} {block : Fin 32} {but : List Nat} (h : s.keepsRegs t block but) {a : Nat} {v : Word}
    (ha : a ∈ but) : s.keepsRegs (t.setReg a v) block but :=
  fun b hb hnot => (t.reg_setReg_ne v fun e : b = a => hnot (e ▸ ha)).trans (h b hb hnot)

theorem State.keepsRegs.put {s t : State} {block : Fin 32} {but : List Nat} (h : s.keepsRegs t block but) {f : Fld} {v : Nat}
    (ha : f.addr ∈ but) : s.keepsRegs (t.put f v) block but := h.setReg ha

theorem State.keepsRegs.modBg {s t : State} {block : Fin 32} {but : List Nat} (h : s.keepsRegs t block but) {f : Badger → Badger} :
    s.keepsRegs (t.modBg f) block but := h

/-- A W1C bit raised in a listed register; its event is in block 3. -/
theorem State.keepsRegs.raise {s t : State} {block : Fin 32} {but : List Nat} (h : s.keepsRegs t block but) {f : Fld} {i j : Nat}
    (ha : f.addr ∈ but) (hblock : block ≠ 3) : s.keepsRegs (t.raise f i j) block but := by
  intro b hb hnot
  have hb3 : b / 65536 ≠ 0x4003 := fun e => hblock (Fin.ext (hb.symm.trans (by rw [e]; rfl)))
  exact (State.reg_strobe _ _ _ hb3).trans ((State.reg_putOr_ne _ _ fun e : b = f.addr => hnot (e ▸ ha)).trans (h b hb hnot))

theorem State.keepsRegs.bgEvent {s t : State} {block : Fin 32} {but : List Nat} (h : s.keepsRegs t block but) {b : Nat}
    (ha : BG_EVENTS ∈ but) (hblock : block ≠ 3) : s.keepsRegs (t.bgEvent b) block but := by
  unfold State.bgEvent
  split
  · exact h.raise ha hblock
  · exact h

/-! ### Commands to a unit that runs -/

theorem State.whenUp_of_up {s : State} (h : s.up = true) (f : State → State) : s.whenUp f = f s := if_pos h

theorem State.clocked_of_up {s : State} (h : s.up = true) : s.clocked = true := by
  unfold State.up at h
  unfold State.clocked
  rw [h]
  rfl

/-! ### SCS commands accepted (R55, R56) -/

/-- A command accepted: BUSY, and the supervisor holds what it works on. -/
def State.scsTaken (s : State) (load : Bool) : State :=
  (s.put BG_SCS_STAT_BUSY 1).modBg fun b =>
    { b with scsLoad := load, scsCommit := !load, scsAct := s.recentAct,
             scsStage := if load then (List.range 16).map fun i => s.reg (BG_SCS_STAGE i) else b.scsStage }

theorem State.scsCommand_of_idle {s : State} (h : s.get BG_SCS_STAT_BUSY = 0) (load : Bool) : s.scsCommand load = s.scsTaken load := by
  unfold State.scsCommand
  rw [State.flag_eq_false h]
  rfl

theorem State.scsCommand_of_busy {s : State} (h : s.get BG_SCS_STAT_BUSY = 1) (load : Bool) :
    s.scsCommand load = s.put BG_SCS_STAT_LASTERR 6 := by
  unfold State.scsCommand
  rw [State.flag_eq_true h]
  rfl

theorem exec_scsLoad {s : State} (h : s.up = true) : exec .scsLoad s = .next (s.scsCommand true) :=
  congrArg Host.Outcome.next (State.whenUp_of_up h _)

theorem exec_scsCommit {s : State} (h : s.up = true) : exec .scsCommit s = .next (s.scsCommand false) :=
  congrArg Host.Outcome.next (State.whenUp_of_up h _)

theorem State.scsTaken_busy (s : State) (load : Bool) : (s.scsTaken load).get BG_SCS_STAT_BUSY = 1 :=
  State.get_put_fits s BG_SCS_STAT_BUSY (by decide) (by decide) (by decide)

theorem State.scsTaken_keepsRegs (s : State) (load : Bool) : s.keepsRegs (s.scsTaken load) 1 [BG_SCS_STAT] :=
  (State.keepsRegs.refl s _ _).put (by decide)

/-! ### SCS commands carried out (R55, R56) -/

/-- The command in progress ends. -/
def State.scsEnded (s : State) : State := (s.put BG_SCS_STAT_BUSY 0).modBg fun b => { b with scsLoad := false, scsCommit := false }

theorem State.scsEnded_busy (s : State) : s.scsEnded.get BG_SCS_STAT_BUSY = 0 :=
  s.get_put_fits BG_SCS_STAT_BUSY (by decide) (by decide) (by decide)

theorem State.scsComplete_load {s : State} (hbusy : s.get BG_SCS_STAT_BUSY = 1) (hpowered : s.bg.powered = true)
    (hload : s.bg.scsLoad = true) : s.scsComplete = s.scsEnded.scsLoaded s.bg.scsStage := by
  unfold State.scsComplete
  rw [State.flag_eq_true hbusy, hpowered, hload]
  rfl

theorem State.scsComplete_commit {s : State} (hbusy : s.get BG_SCS_STAT_BUSY = 1) (hpowered : s.bg.powered = true)
    (hload : s.bg.scsLoad = false) (hcommit : s.bg.scsCommit = true) : s.scsComplete = s.scsEnded.scsCommitted := by
  unfold State.scsComplete
  rw [State.flag_eq_true hbusy, hpowered, hload, hcommit]
  rfl

theorem exec_scsCommandComplete {s : State} (h : s.up = true) : exec .scsCommandComplete s = .next s.scsComplete :=
  congrArg Host.Outcome.next (State.whenUp_of_up h _)

/-- The judgement of a set asks the state only for its member (R55). -/
theorem scsError_congr {s t : State} (h : t.member = s.member) (w : List Word) : scsError t w = scsError s w := by
  unfold scsError scsRange State.nAxes
  rw [h]

theorem scsError_le (s : State) (w : List Word) : scsError s w ≤ 4 := by
  unfold scsError
  split_ifs <;> decide

theorem State.keepsRegs.dropCand {s t : State} (h : s.keepsRegs t 1 [BG_SCS_STAT]) : s.keepsRegs t.dropCand 1 [BG_SCS_STAT] :=
  h.modBg.put (by decide)

theorem State.scsEnded_keepsRegs (s : State) : s.keepsRegs s.scsEnded 1 [BG_SCS_STAT] :=
  ((State.keepsRegs.refl s _ _).put (by decide)).modBg

theorem State.scsLoaded_of_error {s : State} {w : List Word} (h : scsError s w ≠ 0) :
    s.scsLoaded w = s.dropCand.put BG_SCS_STAT_LASTERR (scsError s w) := if_pos h

/-- A set without a fault is loaded. -/
def State.scsStored (s : State) (w : List Word) : State :=
  ((s.dropCand.modBg fun b => { b with loaded := some w }).put BG_SCS_STAT_LASTERR 0).put BG_SCS_STAT_LOADED 1

theorem State.keepsRegs.scsStored {s t : State} (h : s.keepsRegs t 1 [BG_SCS_STAT]) (w : List Word) :
    s.keepsRegs (t.scsStored w) 1 [BG_SCS_STAT] := (h.dropCand.modBg.put (by decide)).put (by decide)

theorem State.scsLoaded_of_accepted {s : State} {w : List Word} (h : scsError s w = 0) (haccepted : s.bg.accepted = some (scsWord w 15)) :
    s.scsLoaded w = ((s.scsStored w).putInForce w).put BG_SCS_STAT_MATCH 1 := by
  unfold State.scsLoaded
  rw [h, haccepted]
  exact if_pos rfl

/-- A set that takes effect is a matter of the supervisor alone. -/
theorem State.reg_putInForce (s : State) (w : List Word) (a : Nat) : (s.putInForce w).reg a = s.reg a := by
  unfold State.putInForce
  dsimp only
  split <;> rfl

theorem State.get_putInForce (s : State) (w : List Word) (f : Fld) : (s.putInForce w).get f = s.get f := by
  unfold State.get
  rw [State.reg_putInForce]

theorem State.putInForce_inForce (s : State) (w : List Word) : (s.putInForce w).bg.inForce = some w := by
  unfold State.putInForce
  dsimp only
  split <;> rfl

theorem State.putInForce_accepted (s : State) (w : List Word) : (s.putInForce w).bg.accepted = s.bg.accepted := by
  unfold State.putInForce
  dsimp only
  split <;> rfl

theorem State.keepsRegs.putInForce {s t : State} {block : Fin 32} {but : List Nat} (h : s.keepsRegs t block but) (w : List Word) :
    s.keepsRegs (t.putInForce w) block but :=
  fun a ha hnot => (t.reg_putInForce w a).trans (h a ha hnot)

theorem State.dropCand_bg (s : State) : s.dropCand.bg = { s.bg with cand := none } := rfl

/-- A candidate that still holds, with its local act, becomes the accepted set in force (R56). -/
theorem State.scsCommitted_of_holds {s : State} {w : List Word} (hcand : s.bg.cand = some w) (hholds : s.candHolds = true)
    (hact : s.bg.scsAct = true) : s.scsCommitted =
      (((((s.modBg fun b => { b with accepted := some (scsWord w 15), loaded := some w }).putInForce w).dropCand.put
        BG_SCS_STAT_MATCH 1).put BG_SCS_STAT_COMMITTED 1).put BG_SCS_STAT_LASTERR 0) := by
  unfold State.scsCommitted
  rw [hcand, hholds, hact]
  rfl

/-! ### The heartbeat (R58) -/

theorem exec_hbArm {s : State} (hup : s.up = true) (hpowered : s.bg.powered = true) (harmed : s.bg.hbArmed = false) :
    exec (.hbArm true) s = .next (s.modBg fun b => { b with
      hbArmed := true, hbRun := false, hbWrites := 0, hbAnswered := false, hbMiss := 0, hbRow := 0, hbModes := 0, hbOpen := false }) := by
  show Host.Outcome.next (s.whenUp _) = _
  rw [State.whenUp_of_up hup]
  unfold State.hbArm
  rw [hpowered, harmed]
  rfl

theorem State.brakes_sys (s : State) : s.brakes.sys = s.sys :=
  (State.brakes_ev (m := 0x100000000100000) (.refl _ s) (by decide)).same .sys (by decide)

theorem State.bgEvent_sys (s : State) (b : Nat) : (s.bgEvent b).sys = s.sys :=
  (State.bgEvent_ev (m := 0xa00000000) (.refl _ s) (by decide)).same .sys (by decide)

theorem State.bgEmcy_sys (s : State) (code : Nat) (bytes : List Nat) : (s.bgEmcy code bytes).sys = s.sys :=
  (State.bgEmcy_ev (m := 0x4000) (.refl _ s) (by decide)).same .sys (by decide)

theorem State.claimRelease_sys (s : State) : s.claimRelease.sys = s.sys :=
  (State.claimRelease_ev (m := 0x50200090011cc00) (.refl _ s) (by decide)).same .sys (by decide)

theorem State.cut_sys (s : State) : s.cut.sys = { s.sys with ss1 := false } := by
  unfold State.cut
  dsimp only
  split
  · rw [State.bgEvent_sys, State.brakes_sys]
    rfl
  · rw [State.brakes_sys]
    rfl

/-- A lock-out stops no clock. -/
theorem State.lockout_phase (s : State) (c i : Nat) : (s.lockout c i).sys.phase = s.sys.phase := by
  unfold State.lockout
  dsimp only
  split
  · rfl
  · split
    · rw [State.bgEmcy_sys, State.bgEvent_sys, State.claimRelease_sys, State.modBg_sys, State.cut_sys]
    · rw [State.claimRelease_sys, State.modBg_sys, State.cut_sys]

theorem State.lockout_clocked (s : State) (c i : Nat) : (s.lockout c i).clocked = s.clocked := by
  unfold State.clocked
  rw [State.lockout_phase]

theorem State.clocked_congr {s t : State} (h : t.sys = s.sys) : t.clocked = s.clocked := by
  unfold State.clocked
  rw [h]

theorem State.hbJudged_of_answered {s : State} (hopen : s.bg.hbOpen = true) (hanswered : s.bg.hbAnswered = true) :
    s.hbJudged = s.hbCounted := by
  have hnone : s.hbCounted.bg.hbMiss = 0 := by rw [State.hbCounted_hbMiss, if_pos hanswered]
  unfold State.hbJudged
  rw [hopen, hnone]
  rfl

theorem State.hbShown_chal {s : State} {chal : BitVec 8} (h : s.clocked = true) :
    (s.hbShown chal).get BG_HB_CHAL_CHAL = chal.toNat := by
  have hother : ((s.put BG_HB_CHAL_CHAL chal.toNat).bgEvent 4).reg BG_HB_CHAL = (s.put BG_HB_CHAL_CHAL chal.toNat).reg BG_HB_CHAL :=
    ((State.keepsRegs.refl _ 1 [BG_EVENTS]).bgEvent (by decide) (by decide)) BG_HB_CHAL (by decide) (by decide)
  unfold State.hbShown
  rw [if_pos h]
  unfold State.get
  rw [show BG_HB_CHAL_CHAL.addr = BG_HB_CHAL from rfl, hother]
  exact s.get_put_fits BG_HB_CHAL_CHAL chal.isLt (by decide) (by decide)

/-- An answer is taken: the one right write of an open period (R58). -/
def State.hbTaken (s : State) (w : Word) (good : Bool) : State :=
  s.modBg fun b =>
    { b with hbWrites := b.hbWrites + 1, hbAnswered := good, hbRun := b.hbRun || good
             hbModes := if good then fieldOf w 31 8 else b.hbModes }

theorem exec_hbResponse {s : State} {w : Word} {good : Bool} (hup : s.up = true) (hpowered : s.bg.powered = true)
    (harmed : s.bg.hbArmed = true) (hopen : s.bg.hbOpen = true)
    (hgood : (s.bg.hbWrites == 0 && fieldOf w 7 0 == 255 - s.get BG_HB_CHAL_CHAL && modesValid s (fieldOf w 31 8)) = good) :
    exec (.hbResponse w) s = .next (if good && (s.hbTaken w good).bg.cand.isSome && !(s.hbTaken w good).candHolds
      then (s.hbTaken w good).dropCand else s.hbTaken w good) := by
  subst hgood
  show Host.Outcome.next (s.whenUp _) = _
  rw [State.whenUp_of_up hup]
  unfold State.hbResponse
  rw [if_neg (by rw [hpowered, harmed, hopen]; decide)]
  rfl

/-! ### The statement -/

/-- Settles O8: each command's outcome as the lemmas above give it, its registers by the fields of BG_SCS_STAT it writes. -/
theorem safetySetCommands : Obligations.SafetySetCommands := by
  intro s
  refine ⟨fun hup hidle => ?_, fun hup hbusy => ?_, fun hup hidle => ?_, fun e hup hpowered hbusy hload he hpos => ?_,
    fun hup hpowered hbusy hload hfit haccepted => ?_, fun w hup hpowered hbusy hload hcommit hcand hholds hact => ?_,
    fun hup hpowered harmed => ?_, fun chal hup hpowered harmed hopen hanswered => ?_,
    fun w hup hpowered harmed hopen hfirst hanswer hmodes => ?_, fun w hup hpowered harmed hopen hwrong => ?_⟩
  · have hexec := exec_scsLoad hup
    rw [State.scsCommand_of_idle hidle] at hexec
    exact ⟨_, hexec, s.scsTaken_busy true, rfl, rfl, rfl, onlyChanges_of_keeps (execScsLoad_keeps s) hexec (by decide),
      s.scsTaken_keepsRegs true⟩
  · have hexec := exec_scsLoad hup
    rw [State.scsCommand_of_busy hbusy] at hexec
    exact ⟨_, hexec, s.get_put_fits BG_SCS_STAT_LASTERR (by decide) (by decide) (by decide), rfl,
      onlyChanges_of_keeps (execScsLoad_keeps s) hexec (by decide),
      (State.keepsRegs.refl s _ _).put (by decide)⟩
  · have hexec := exec_scsCommit hup
    rw [State.scsCommand_of_idle hidle] at hexec
    exact ⟨_, hexec, s.scsTaken_busy false, rfl, rfl, rfl, onlyChanges_of_keeps (execScsCommit_keeps s) hexec (by decide),
      s.scsTaken_keepsRegs false⟩
  · have hexec := exec_scsCommandComplete hup
    have herror : scsError s.scsEnded s.bg.scsStage = e := (scsError_congr rfl _).trans he
    have hsmall : e ≤ 4 := he ▸ scsError_le s s.bg.scsStage
    rw [State.scsComplete_load hbusy hpowered hload, State.scsLoaded_of_error (by omega), herror] at hexec
    refine ⟨_, hexec, ?_, State.get_put_fits _ BG_SCS_STAT_LASTERR (Nat.lt_of_le_of_lt hsmall (by decide)) (by decide) (by decide),
      rfl, rfl, onlyChanges_of_keeps (execScsCommandComplete_keeps s) hexec (by decide), s.scsEnded_keepsRegs.dropCand.put (by decide)⟩
    simp (disch := decide) only [State.get_put_disj, State.dropCand, State.get_modBg, State.scsEnded_busy]
  · have hexec := exec_scsCommandComplete hup
    have hnone : scsError s.scsEnded s.bg.scsStage = 0 := (scsError_congr rfl _).trans hfit
    rw [State.scsComplete_load hbusy hpowered hload, State.scsLoaded_of_accepted hnone haccepted] at hexec
    refine ⟨_, hexec, ?_, State.get_put_fits _ BG_SCS_STAT_MATCH (by decide) (by decide) (by decide), ?_, State.putInForce_inForce _ _,
      onlyChanges_of_keeps (execScsCommandComplete_keeps s) hexec (by decide),
      ((s.scsEnded_keepsRegs.scsStored _).putInForce _).put (by decide)⟩
    · rw [State.get_put_disj _ _ (by decide) (by decide) (by decide) (by decide), State.get_putInForce]
      simp (disch := decide) only [State.get_put_disj, State.scsStored, State.dropCand, State.get_modBg, State.scsEnded_busy]
    · rw [State.get_put_disj _ _ (by decide) (by decide) (by decide) (by decide), State.get_putInForce]
      exact State.get_put_fits _ BG_SCS_STAT_LOADED (by decide) (by decide) (by decide)
  · have hexec := exec_scsCommandComplete hup
    have hends := State.scsCommitted_of_holds (s := s.scsEnded) hcand hholds hact
    rw [State.scsComplete_commit hbusy hpowered hload hcommit, hends] at hexec
    refine ⟨_, hexec, ?_, ?_, ?_, ?_, ?_, onlyChanges_of_keeps (execScsCommandComplete_keeps s) hexec (by decide),
      (((s.scsEnded_keepsRegs.modBg.putInForce w).dropCand.put (by decide)).put (by decide)).put (by decide)⟩
    · simp (disch := decide) only [State.get_put_disj, State.dropCand, State.get_modBg, State.get_putInForce, State.scsEnded_busy]
    · rw [State.get_put_disj _ _ (by decide) (by decide) (by decide) (by decide)]
      exact State.get_put_fits _ BG_SCS_STAT_COMMITTED (by decide) (by decide) (by decide)
    · simp only [State.put_bg, State.dropCand_bg, State.putInForce_accepted, State.modBg_bg]
    · simp only [State.put_bg, State.dropCand_bg, State.putInForce_inForce]
    · simp only [State.put_bg, State.dropCand_bg]
  · have hexec := exec_hbArm hup hpowered harmed
    exact ⟨_, hexec, rfl, rfl, rfl, onlyChanges_of_keeps (execHbArm_keeps true s) hexec (by decide)⟩
  · have hexec := exec_hbChallenge hpowered harmed chal
    rw [State.hbJudged_of_answered hopen hanswered] at hexec
    have hcount : s.hbCounted.bg.hbMiss = 0 := if_pos hanswered
    have hjudged : s.hbCounted.judgeLamps.clocked = true ∧ s.hbCounted.judgeLamps.bg.hbMiss = 0 :=
      State.judgeLamps_induction (P := fun t => t.clocked = true ∧ t.bg.hbMiss = 0)
        ⟨(State.clocked_congr rfl).trans (State.clocked_of_up hup), hcount⟩
        fun c i t ht => ⟨(t.lockout_clocked c i).trans ht.1, (State.lockout_keeps Badger.hbMiss t c i).trans ht.2⟩
    refine ⟨_, hexec, ?_, ?_, ?_, State.hbShown_chal ((State.clocked_congr rfl).trans hjudged.1), ?_,
      onlyChanges_of_keeps (execHbChallenge_keeps chal s) hexec (by decide)⟩ <;>
      rw [State.hbShown_bg]
    · rfl
    · rfl
    · rfl
    · exact hjudged.2
  · have hgood : (s.bg.hbWrites == 0 && fieldOf w 7 0 == 255 - s.get BG_HB_CHAL_CHAL && modesValid s (fieldOf w 31 8)) = true := by
      rw [hfirst, hanswer, hmodes, beq_self_eq_true, beq_self_eq_true]
      rfl
    have hexec := exec_hbResponse hup hpowered harmed hopen hgood
    refine ⟨_, hexec, ?_, ?_, ?_, onlyChanges_of_keeps (execHbResponse_keeps w s) hexec (by decide)⟩ <;> split
    · rfl
    · rfl
    · exact Bool.or_true _
    · exact Bool.or_true _
    · rfl
    · rfl
  · have hbad : (s.bg.hbWrites == 0 && fieldOf w 7 0 == 255 - s.get BG_HB_CHAL_CHAL && modesValid s (fieldOf w 31 8)) = false := by
      rcases hwrong with hsecond | hother
      · rw [beq_eq_false_iff_ne.mpr hsecond]
        rfl
      · rw [beq_eq_false_iff_ne.mpr hother, Bool.and_false]
        rfl
    have hexec := exec_hbResponse hup hpowered harmed hopen hbad
    rw [Bool.false_and, Bool.false_and, if_neg Bool.false_ne_true] at hexec
    exact ⟨_, hexec, rfl, rfl, (Ev.modBg (.refl _ s)).onlyChanges⟩

end Sys2Proof.Machine
end

section
/-! PROOFS. The lock-out reset acts and the fieldbus request (R60 to R62). -/

namespace Sys2Proof.Machine

/-! ### EMCYs (R65, R500) -/

theorem State.queued_emcy {s u : State} {code : Nat} {bytes : List Nat} (h : u.srv = s.srv) : s.queued (u.emcy code bytes) code bytes := by
  unfold State.queued State.emcy
  rw [h]
  split <;> rfl

theorem State.bgEvent_srv (s : State) (b : Nat) : (s.bgEvent b).srv = s.srv :=
  (State.bgEvent_ev (m := 0xa00000000) (.refl _ s) (by decide)).same .srv (by decide)

/-- An event of the supervisor and its EMCY, where Haldux is clocked (R65). -/
theorem State.queued_bgEmcy_bgEvent {s u : State} {b code : Nat} {bytes : List Nat} (hsrv : u.srv = s.srv) (hsys : u.sys = s.sys)
    (hclocked : s.clocked = true) : s.queued ((u.bgEvent b).bgEmcy code bytes) code bytes := by
  unfold State.bgEmcy
  rw [State.clocked_congr ((u.bgEvent_sys b).trans hsys), if_pos hclocked]
  exact State.queued_emcy ((u.bgEvent_srv b).trans hsrv)

theorem State.reg_bgEmcy (s : State) (code : Nat) (bytes : List Nat) (a : Nat) : (s.bgEmcy code bytes).reg a = s.reg a := by
  unfold State.bgEmcy
  split
  · exact State.reg_emcy _ _ _ _
  · rfl

/-! ### Presses (R60) -/

theorem exec_lorPressDisagree {s : State} (hpowered : s.bg.powered = true) (a : Bool) : exec (.lorPressDisagree a a) s =
    .next (((s.modBg fun g => { g with lorA := a, lorB := a, lorVoid := true }).bgEvent 6).bgEmcy 0xFF0D []) := by
  show Host.Outcome.next (ite _ _ _) = _
  rw [if_neg (by rw [hpowered]; cases a <;> decide)]

theorem exec_lorPressTimeout {s : State} (hpowered : s.bg.powered = true) : exec .lorPressTimeout s =
    .next ((s.modBg fun g => { g with lorA := true, lorB := false, lorVoid := true }).bgEvent 6) := by
  show Host.Outcome.next (ite _ _ _) = _
  rw [if_neg (by rw [hpowered]; decide)]

/-! ### The local release act (R60, R61) -/

/-- A complete act: both contacts read released, and its time is recorded (R56). -/
def State.lorActed (s : State) : State :=
  s.modBg fun g => { g with lorA := false, lorB := true, lorVoid := false, actAt := some s.time }

/-- A refused act: the fieldbus window as SW4 says, LORREF and its EMCY (R62). -/
def State.lorRefused (s : State) : State := ((s.modBg fun g => { g with window := bitOf g.snap 3 }).bgEvent 7).bgEmcy 0xFF10 []

theorem exec_lorActRelease {s : State} {pressed released : Nat} (hpowered : s.bg.powered = true) (hlong : 500 ≤ pressed)
    (hshort : pressed < 5000) (hfree : 1000 ≤ released) (hvalid : s.bg.lorVoid = false) (hlatched : s.bg.latched = true) :
    exec (.lorActRelease pressed released) s =
      .next (if s.allGone then s.lorActed.lockoutClear else s.lorActed.lorRefused) := by
  have hok : (500 ≤ pressed && pressed < 5000 && 1000 ≤ released && !s.bg.lorVoid) = true := by
    rw [hvalid, decide_eq_true hlong, decide_eq_true hshort, decide_eq_true hfree]
    rfl
  have hlocked : ¬(!s.lorActed.bg.latched) = true := by
    show ¬(!s.bg.latched) = true
    rw [hlatched]
    decide
  show Host.Outcome.next (ite _ _ (ite _ _ _)) = _
  rw [if_neg (by rw [hpowered]; decide), hok, if_neg (by decide)]
  exact congrArg Host.Outcome.next (if_neg hlocked)

/-- A lock-out that is cleared (R61). -/
theorem State.lockoutClear_bg (s : State) : ∃ v, s.lockoutClear.bg = { s.bg with
    latched := false, first := 0, index := 0, causes := 0, causeIdx := [], window := false, gtest := v } :=
  ⟨_, (State.bgEmcy_bg _ _ _).trans (State.bgEvent_bg _ _)⟩

theorem State.queued_lockoutClear {s u : State} (hsrv : u.srv = s.srv) (hsys : u.sys = s.sys) (hclocked : s.clocked = true) :
    s.queued u.lockoutClear 0xFF12 [] := State.queued_bgEmcy_bgEvent hsrv hsys hclocked

theorem State.lorRefused_bg (s : State) : s.lorRefused.bg = { s.bg with window := bitOf s.bg.snap 3 } :=
  (State.bgEmcy_bg _ _ _).trans (State.bgEvent_bg _ _)

/-! ### The fieldbus request (R62) -/

theorem exec_fieldbusLorRequest {s : State} (hup : s.up = true) (hpowered : s.bg.powered = true) (key : Word) :
    exec (.fieldbusLorRequest key) s = .next (s.fblor key) := by
  show Host.Outcome.next (s.whenUp _) = _
  rw [State.whenUp_of_up hup, if_pos hpowered]

theorem State.fblor_of_window {s : State} (hwindow : s.bg.window = true) (hsw4 : bitOf s.bg.snap 3 = true) (hgone : s.allGone = true) :
    s.fblor 0xA55A = s.lockoutClear := by
  unfold State.fblor
  rw [hwindow, hsw4, if_neg (by decide), if_pos hgone]

theorem State.fblor_refused {s : State} {key : Word} (h : key ≠ 0xA55A ∨ s.bg.window = false) :
    s.fblor key = (s.bgEvent 7).bgEmcy 0xFF11 [] := by
  unfold State.fblor
  refine if_pos (h.imp_right fun hclosed => .inl ?_)
  rw [hclosed]
  rfl

/-! ### The statement -/

/-- Settles O9: the acts change the record of the supervisor, and each reports with its event and EMCY. -/
theorem lockoutResetActs : Obligations.LockoutResetActs := by
  intro s hpowered
  refine ⟨fun a => ?_, ?_, fun pressed released hlong hshort hfree hvalid hlatched hgone => ?_,
    fun pressed released hlong hshort hfree hvalid hlatched hstands => ?_, fun hup hwindow hsw4 hgone => ?_,
    fun key hup hrefused => ?_, ?_⟩
  · have hexec := exec_lorPressDisagree hpowered a
    refine ⟨_, hexec, ?_, ?_, ?_, State.queued_bgEmcy_bgEvent rfl rfl,
      onlyChanges_of_keeps (execLorPressDisagree_keeps a a s) hexec (by decide)⟩ <;>
      rw [State.bgEmcy_bg, State.bgEvent_bg, State.modBg_bg]
  · have hexec := exec_lorPressTimeout hpowered
    refine ⟨_, hexec, ?_, ?_, onlyChanges_of_keeps (execLorPressTimeout_keeps s) hexec (by decide)⟩ <;>
      rw [State.bgEvent_bg, State.modBg_bg]
  · have hexec := exec_lorActRelease hpowered hlong hshort hfree hvalid hlatched
    rw [if_pos hgone] at hexec
    obtain ⟨v, hbg⟩ := s.lorActed.lockoutClear_bg
    refine ⟨_, hexec, ?_, ?_, ?_, ?_, State.queued_lockoutClear rfl rfl,
      onlyChanges_of_keeps (execLorActRelease_keeps pressed released s) hexec (by decide)⟩ <;> rw [hbg]
    rfl
  · have hexec := exec_lorActRelease hpowered hlong hshort hfree hvalid hlatched
    rw [hstands, if_neg Bool.false_ne_true] at hexec
    refine ⟨_, hexec, ?_, ?_, ?_, State.queued_bgEmcy_bgEvent rfl rfl,
      onlyChanges_of_keeps (execLorActRelease_keeps pressed released s) hexec (by decide)⟩ <;> rw [State.lorRefused_bg]
    · rfl
    · exact hlatched
    · rfl
  · have hexec := exec_fieldbusLorRequest hup hpowered 0xA55A
    rw [State.fblor_of_window hwindow hsw4 hgone] at hexec
    obtain ⟨v, hbg⟩ := s.lockoutClear_bg
    refine ⟨_, hexec, ?_, ?_, ?_, State.queued_lockoutClear rfl rfl (State.clocked_of_up hup),
      onlyChanges_of_keeps (execFieldbusLorRequest_keeps _ s) hexec (by decide)⟩ <;> rw [hbg]
  · have hexec := exec_fieldbusLorRequest hup hpowered key
    rw [State.fblor_refused hrefused] at hexec
    exact ⟨_, hexec, (State.bgEmcy_bg _ _ _).trans (State.bgEvent_bg _ _), State.queued_bgEmcy_bgEvent rfl rfl (State.clocked_of_up hup),
      (State.bgEmcy_ev (State.bgEvent_ev (.refl _ s) (by decide)) (by decide)).onlyChanges,
      fun a ha hnot => (State.reg_bgEmcy _ _ _ a).trans
        (((State.keepsRegs.refl s 1 [BG_EVENTS]).bgEvent (by decide) (by decide)) a ha hnot)⟩
  · exact ⟨_, rfl, rfl, onlyChanges_of_keeps (execFblorWindowExpiry_keeps s) rfl (by decide)⟩

end Sys2Proof.Machine
end

section
/-! PROOFS. The release of core 0 and the errors marked in memory (R92, R118). -/

namespace Sys2Proof.Machine

/-- A unit that runs and waits for the self-test with no reset of the power-on family recorded, and an error marked in the first word of
the TCM of core 0. -/
def waitWithMarkedError : State :=
  { (State.reset.modSys fun y => { y with phase := .run, boot := .waitTest }) with memErr := [(0x08000000, 1)] }

theorem waitWithMarkedError_waits : waitWithMarkedError.up = true ∧ waitWithMarkedError.sys.boot = .waitTest := ⟨rfl, rfl⟩

/-- The boot ROM zeroes the TCM of core 0, and words written whole hold no marked error (R92). -/
theorem badgerLate_drops_errors :
    leadsTo (exec .badgerLateTimeout waitWithMarkedError) (fun t => decide (t.memErr ≠ waitWithMarkedError.memErr)) = true := by
  decide +kernel

/-- Refutes O37: the frames of its clauses on SELFTEST_COMPLETE and BADGER_LATE_TIMEOUT leave out the errors marked in memory
(`.memErr`), and their premises do not say that the unit starts from the power-on family. In `waitWithMarkedError`, which meets the
premises of the clause on BADGER_LATE_TIMEOUT, the release of core 0 drops the error marked in its TCM. -/
theorem not_startUp : ¬ Obligations.StartUp := by
  intro h
  obtain ⟨-, -, -, -, -, hlate⟩ := h waitWithMarkedError
  obtain ⟨hup, hwaits⟩ := waitWithMarkedError_waits
  obtain ⟨t, hexec, -, -, -, -, -, -, -, hsame⟩ := hlate hup hwaits
  obtain ⟨u, hnext, hdropped⟩ := exists_next_of_leadsTo badgerLate_drops_errors
  obtain rfl : t = u := Host.Outcome.next.inj (hexec.symm.trans hnext)
  exact of_decide_eq_true hdropped (hsame .memErr (by decide))

end Sys2Proof.Machine
end

section
/-! PROOFS. Drive faults: what `State.takeFault` and `State.winchFault` do to the axis and to the registers (R78, R89, R383). -/

namespace Sys2Proof.Machine

/-! ### Registers a strobe, a raised bit and a fold leave alone -/

theorem forFin_induction {P : State → Prop} {n : Nat} {f : Fin n → State → State} {s : State} (h0 : P s)
    (hstep : ∀ i t, P t → P (f i t)) : P (forFin n f s) := by
  unfold forFin
  generalize List.finRange n = l
  induction l generalizing s with
  | nil => exact h0
  | cons i l ih => exact ih (hstep i s h0)

/-- A block of registers that an operation does not touch. -/
theorem Ev.reg {m : Nat} {s t : State} (h : Ev m s t) (b : Fin 32) {a : Nat} (ha : a / 65536 % 32 = b.1)
    (hb : m.testBit (32 + b.1) = false) : t.reg a = s.reg a := h.same (.regs b) hb a ha

/-- Parts that are no registers. -/
theorem Ev.reg_of_small {m : Nat} {s t : State} (h : Ev m s t) (a : Nat) (hm : m < 2 ^ 32) : t.reg a = s.reg a :=
  h.same (.regs ⟨a / 65536 % 32, Nat.mod_lt _ (by decide)⟩)
    (Nat.testBit_lt_two_pow (Nat.lt_of_lt_of_le hm (Nat.pow_le_pow_right (by decide) (Nat.le_add_right _ _)))) a rfl

/-- A bit set in a field reads 1. -/
theorem State.get_putOr_bit (s : State) (f : Fld) {i : Nat} (hi : i < f.width) (hhi : f.hi < 32) (hlo : f.lo ≤ f.hi) :
    bitOf ((s.putOr f (2 ^ i)).get f) i = true := by
  have hfits : s.get f ||| 2 ^ i < 2 ^ f.width := Nat.or_lt_two_pow (s.get_lt f) (Nat.pow_lt_pow_right (by decide) hi)
  rw [State.get_putOr_same _ _ _ hhi hlo, Nat.mod_eq_of_lt hfits, bitOf_or, bitOf_two_pow_self, Bool.or_true]

/-- Two states with the same registers. -/
theorem State.keepsRegs.congr {s t u : State} {block : Fin 32} {but : List Nat} (h : s.keepsRegs t block but)
    (hregs : ∀ a, a / 65536 % 32 = block.1 → u.reg a = t.reg a) : s.keepsRegs u block but :=
  fun a ha hnot => (hregs a ha).trans (h a ha hnot)

theorem State.keepsRegs.get {s t : State} {block : Fin 32} {but : List Nat} (h : s.keepsRegs t block but) {f : Fld}
    (hblock : f.addr / 65536 % 32 = block.1) (hnot : f.addr ∉ but) : t.get f = s.get f := by
  unfold State.get
  rw [h f.addr hblock hnot]

theorem State.keepsRegs.emcy {s t : State} {block : Fin 32} {but : List Nat} (h : s.keepsRegs t block but) {code : Nat}
    {bytes : List Nat} : s.keepsRegs (t.emcy code bytes) block but := h.congr fun a _ => State.reg_emcy _ _ _ a

theorem State.keepsRegs.putOr {s t : State} {block : Fin 32} {but : List Nat} (h : s.keepsRegs t block but) {f : Fld} {v : Nat}
    (ha : f.addr ∈ but) : s.keepsRegs (t.putOr f v) block but := h.setReg ha

/-! ### Brake outputs (R355) -/

/-- The status registers of the brakes. -/
def brakeStats : List Nat := (List.range 8).map BRK_STAT

theorem mem_brakeStats (a : Fin 8) : BRK_STAT a ∈ brakeStats := List.mem_map_of_mem (List.mem_range.mpr a.2)

/-- The conditions of an output of R355 hold. -/
def State.brakeOutput (s : State) (a : Fin 8) : Bool :=
  s.bg.permit && (s.flag (BRK_STAT_CMD a) || s.linkHeld a || (s.freeActs a && !s.flag (BRK_STAT_GOVSET a)))

/-- The conditions and the output as the status register of the brake shows them. -/
def State.brakeShown (s : State) (a : Fin 8) : State :=
  (((s.put (BRK_STAT_PERMIT a) (b2n s.bg.permit)).put (BRK_STAT_LINKHELD a) (b2n (s.linkHeld a))).put (BRK_STAT_ERLACT a)
    (b2n (s.freeActs a))).put (BRK_STAT_OUT a) (b2n (s.brakeOutput a))

/-- A changed output waits for its brake to follow. -/
def State.brakeWaits (s : State) (a : Fin 8) : State := s.modLio fun z => { z with brkWait := s.lio.brkWait ||| BitVec.ofNat 8 (2 ^ a.1) }

theorem State.brakeOut_eq (s : State) (a : Fin 8) : s.brakeOut a =
    if s.brakeOutput a = s.flag (BRK_STAT_OUT a) then s.brakeShown a
    else if s.brakeOutput a then ((s.brakeShown a).brakeWaits a).put (BRK_STAT_NOTSET a) 0 else (s.brakeShown a).brakeWaits a := rfl

theorem State.keepsRegs.brakeOut {s t : State} {block : Fin 32} {but : List Nat} (h : s.keepsRegs t block but) {a : Fin 8}
    (ha : BRK_STAT a ∈ but) : s.keepsRegs (t.brakeOut a) block but := by
  have hshown : s.keepsRegs (t.brakeShown a) block but := (((h.put ha).put ha).put ha).put ha
  have hwaits : s.keepsRegs ((t.brakeShown a).brakeWaits a) block but := hshown.congr fun _ _ => rfl
  rw [State.brakeOut_eq]
  split
  · exact hshown
  · split
    · exact hwaits.put ha
    · exact hwaits

theorem State.keepsRegs.brakes {s t : State} {block : Fin 32} {but : List Nat} (h : s.keepsRegs t block but)
    (hbut : ∀ a : Fin 8, BRK_STAT a ∈ but) : s.keepsRegs t.brakes block but :=
  forFin_induction (P := fun u => s.keepsRegs u block but) h fun a _ hu => hu.brakeOut (hbut a)

theorem State.brakeShown_cmd (s : State) (a b : Fin 8) : (s.brakeShown a).get (BRK_STAT_CMD b) = s.get (BRK_STAT_CMD b) := by
  have hput : ∀ (u : State) {i v : Nat}, i < 31 → (u.put ⟨BRK_STAT a, i, i⟩ v).get (BRK_STAT_CMD b) = u.get (BRK_STAT_CMD b) :=
    fun u i v hlt => u.get_put_disj v (le_refl i) (by decide : 31 < 32) (le_refl 31) (.inl hlt)
  calc (s.brakeShown a).get (BRK_STAT_CMD b)
    _ = _ := hput _ (by decide)
    _ = _ := hput _ (by decide)
    _ = _ := hput _ (by decide)
    _ = s.get (BRK_STAT_CMD b) := hput s (by decide)

/-- The outputs follow the commands, and do not change them. -/
theorem State.brakeOut_cmd (s : State) (a b : Fin 8) : (s.brakeOut a).get (BRK_STAT_CMD b) = s.get (BRK_STAT_CMD b) := by
  rw [State.brakeOut_eq]
  split
  · exact s.brakeShown_cmd a b
  · split
    · exact (State.get_put_disj _ _ (le_refl 24) (by decide : 31 < 32) (le_refl 31) (.inl (by decide : 24 < 31))).trans
        (s.brakeShown_cmd a b)
    · exact s.brakeShown_cmd a b

theorem State.brakes_cmd (s : State) (b : Fin 8) : s.brakes.get (BRK_STAT_CMD b) = s.get (BRK_STAT_CMD b) :=
  forFin_induction (P := fun u => u.get (BRK_STAT_CMD b) = s.get (BRK_STAT_CMD b)) rfl
    fun a t ht => (t.brakeOut_cmd a b).trans ht

theorem State.brakeCmd_cmd (s : State) (a : Fin 8) : (s.brakeCmd a false).get (BRK_STAT_CMD a) = 0 :=
  (State.brakes_cmd _ a).trans (s.get_put_fits (BRK_STAT_CMD a) (Nat.two_pow_pos _) (by decide : 31 < 32) (le_refl 31))

/-! ### The sequencer's state changes (R66, R78) -/

/-- A state change moves the axis alone, and is shown by STATECHG or was none. -/
theorem State.axisTo_cases (s : State) (a : Fin 8) (st : Cia) (mode : Int) : ∃ u : State, u.regs = s.regs ∧ u.axes[a].st = st ∧
    (∀ b : Fin 8, b ≠ a → u.axes[b] = s.axes[b]) ∧ (s.axisTo a st mode = u ∨ s.axisTo a st mode = u.raise (axEvt a) 0 (evAxis a)) := by
  unfold State.axisTo
  extract_lets old moved new marked lit shown
  have hmoved : moved.axes[a].st = st ∧ ∀ b : Fin 8, b ≠ a → moved.axes[b] = s.axes[b] :=
    ⟨congrArg Axis.st (upd_same _ _ _), fun b hb => upd_ne _ _ _ _ hb⟩
  have hmarked : marked.regs = s.regs ∧ marked.axes = moved.axes := by
    simp only [marked]
    split <;> exact ⟨rfl, rfl⟩
  have hlit : lit.regs = s.regs ∧ lit.axes = moved.axes := by
    simp only [lit]
    split
    · exact hmarked
    · exact hmarked
  have hshown : shown.regs = s.regs ∧ shown.axes[a].st = st ∧ ∀ b : Fin 8, b ≠ a → shown.axes[b] = s.axes[b] := by
    simp only [shown]
    obtain ⟨hregs, haxes⟩ := hlit
    have hget : ∀ b : Fin 8, lit.axes[b] = moved.axes[b] := fun b => congrArg (fun v : Vector Axis 8 => v[b]) haxes
    split
    · exact ⟨hregs, (congrArg Axis.st (hget a)).trans hmoved.1, fun b hb => (hget b).trans (hmoved.2 b hb)⟩
    · exact ⟨hregs, (congrArg Axis.st ((upd_same _ _ _).trans rfl)).trans ((congrArg Axis.st (hget a)).trans hmoved.1),
        fun b hb => (upd_ne _ _ _ _ hb).trans ((hget b).trans (hmoved.2 b hb))⟩
  refine ⟨shown, hshown.1, hshown.2.1, hshown.2.2, ?_⟩
  split
  · exact .inl rfl
  · exact .inr rfl

theorem State.keepsRegs.axisTo {s t : State} {block : Fin 32} {but : List Nat} (h : s.keepsRegs t block but) {a : Fin 8} {st : Cia}
    {mode : Int} (ha : AX_EVT a ∈ but) (hblock : block ≠ 3) : s.keepsRegs (t.axisTo a st mode) block but := by
  obtain ⟨u, hregs, -, -, hu⟩ := t.axisTo_cases a st mode
  have hkept : s.keepsRegs u block but := h.congr fun x _ => by
    unfold State.reg
    rw [hregs]
  rcases hu with hu | hu <;> rw [hu]
  · exact hkept
  · exact hkept.raise (f := axEvt a) ha hblock

theorem State.axisTo_st (s : State) (a : Fin 8) (st : Cia) (mode : Int) : (s.axisTo a st mode).axes[a].st = st := by
  obtain ⟨u, -, hst, -, hu⟩ := s.axisTo_cases a st mode
  rcases hu with hu | hu <;> rw [hu]
  · exact hst
  · rw [State.raise_axes]
    exact hst

theorem State.keepsOtherAxes.axisTo {s t : State} {a : Fin 8} (h : s.keepsOtherAxes t a) {st : Cia} {mode : Int} :
    s.keepsOtherAxes (t.axisTo a st mode) a := by
  intro b hb
  obtain ⟨u, -, -, hothers, hu⟩ := t.axisTo_cases a st mode
  rcases hu with hu | hu <;> rw [hu]
  · exact (hothers b hb).trans (h b hb)
  · rw [State.raise_axes]
    exact (hothers b hb).trans (h b hb)

theorem State.keepsOtherAxes.refl (s : State) (a : Fin 8) : s.keepsOtherAxes s a := fun _ _ => rfl

theorem State.keepsOtherAxes.congr {s t u : State} {a : Fin 8} (h : s.keepsOtherAxes t a) (haxes : u.axes = t.axes) :
    s.keepsOtherAxes u a := fun b hb => (congrArg (fun v : Vector Axis 8 => v[b]) haxes).trans (h b hb)

theorem State.keepsOtherAxes.modAxis {s t : State} {a : Fin 8} (h : s.keepsOtherAxes t a) {f : Axis → Axis} :
    s.keepsOtherAxes (t.modAxis a f) a := fun b hb => (upd_ne _ _ _ _ hb).trans (h b hb)

/-! ### The fast halt (R78) -/

/-- Registers of the sequencer and of the engine that a fast halt and its state changes write. -/
def haltRegs (a : Fin 8) : List Nat := [AX_EVT a, ENG_STAT a]

theorem State.stopEngine_keepsRegs {s t : State} {a : Fin 8} (h : s.keepsRegs t 17 (haltRegs a)) :
    s.keepsRegs (t.stopEngine a) 17 (haltRegs a) := by
  have hmem : ENG_STAT a ∈ haltRegs a := List.mem_cons_of_mem _ List.mem_cons_self
  have hputs : s.keepsRegs (((t.put (ENG_STAT_EDGES a) 0).put (ENG_STAT_PRECHG a) 0).put (ENG_STAT_LIMIT a) 0) 17 (haltRegs a) :=
    ((h.put hmem).put hmem).put hmem
  exact hputs

theorem State.haltAxisPorts_regs (s : State) (a : Fin 8) (x : Nat) : (s.haltAxisPorts a).reg x = s.reg x :=
  (State.haltAxisPorts_ev (m := 0x800) (.refl _ s) (by decide)).reg_of_small x (by decide)

theorem State.levelsOff_regs (s : State) (a : Fin 8) (x : Nat) : (s.levelsOff a).reg x = s.reg x := rfl

theorem State.brakeCmd_block17 (s : State) (a : Fin 8) (release : Bool) {x : Nat} (hx : x / 65536 % 32 = 17) :
    (s.brakeCmd a release).reg x = s.reg x :=
  (State.brakeCmd_ev (m := 0x100000000100000) (.refl _ s) (by decide)).reg 17 hx (by decide)

theorem State.fastHalt_keepsRegs {s t : State} {a : Fin 8} (h : s.keepsRegs t 17 (haltRegs a)) :
    s.keepsRegs (t.fastHalt a) 17 (haltRegs a) := by
  have hports : s.keepsRegs (t.haltAxisPorts a) 17 (haltRegs a) := h.congr fun x _ => t.haltAxisPorts_regs a x
  have hengine := (State.stopEngine_keepsRegs hports).congr fun x _ => State.levelsOff_regs _ a x
  unfold State.fastHalt State.haltAxis
  exact hengine.congr fun x hx => State.brakeCmd_block17 _ a false hx

theorem State.stopEngine_edges (s : State) (a : Fin 8) : (s.stopEngine a).get (ENG_STAT_EDGES a) = 0 := by
  show (((s.put (ENG_STAT_EDGES a) 0).put (ENG_STAT_PRECHG a) 0).put (ENG_STAT_LIMIT a) 0).get (ENG_STAT_EDGES a) = 0
  rw [State.get_put_disj _ _ (le_refl 27) (by decide : 31 < 32) (le_refl 31) (.inl (by decide : 27 < 31)),
    State.get_put_disj _ _ (le_refl 30) (by decide : 31 < 32) (le_refl 31) (.inl (by decide : 30 < 31))]
  exact s.get_put_fits _ (Nat.two_pow_pos _) (by decide : 31 < 32) (le_refl 31)

theorem State.fastHalt_edges (s : State) (a : Fin 8) : (s.fastHalt a).get (ENG_STAT_EDGES a) = 0 := by
  have hblock : (ENG_STAT_EDGES a).addr / 65536 % 32 = 17 := by revert a; decide
  have hstop := (s.haltAxisPorts a).stopEngine_edges a
  unfold State.fastHalt State.haltAxis State.get at *
  rw [State.brakeCmd_block17 _ a false hblock, State.levelsOff_regs]
  exact hstop

theorem State.fastHalt_cmd (s : State) (a : Fin 8) : (s.fastHalt a).get (BRK_STAT_CMD a) = 0 := by
  unfold State.fastHalt State.haltAxis
  exact State.brakeCmd_cmd _ a

theorem State.brakes_axes (s : State) : s.brakes.axes = s.axes :=
  (State.brakes_ev (m := 0x100000000100000) (.refl _ s) (by decide)).same .axes (by decide)

theorem State.haltAxisPorts_axes (s : State) (a : Fin 8) : (s.haltAxisPorts a).axes = s.axes :=
  (State.haltAxisPorts_ev (m := 0x800) (.refl _ s) (by decide)).same .axes (by decide)

theorem State.stopEngine_otherAxes {s t : State} {a : Fin 8} (h : s.keepsOtherAxes t a) : s.keepsOtherAxes (t.stopEngine a) a := by
  have hputs : (((t.put (ENG_STAT_EDGES a) 0).put (ENG_STAT_PRECHG a) 0).put (ENG_STAT_LIMIT a) 0).axes = t.axes := by
    simp only [State.put_axes]
  unfold State.stopEngine
  exact (h.congr hputs).modAxis

theorem State.fastHalt_otherAxes {s t : State} {a : Fin 8} (h : s.keepsOtherAxes t a) : s.keepsOtherAxes (t.fastHalt a) a := by
  have hstop : s.keepsOtherAxes ((t.haltAxisPorts a).stopEngine a) a := State.stopEngine_otherAxes (h.congr (t.haltAxisPorts_axes a))
  have hoff : s.keepsOtherAxes (((t.haltAxisPorts a).stopEngine a).levelsOff a) a := hstop
  unfold State.fastHalt State.haltAxis State.brakeCmd
  exact hoff.congr ((State.brakes_axes _).trans (State.put_axes _ _ _))

/-- In block 24 a fast halt writes the status registers of the brakes alone. -/
theorem State.fastHalt_keepsRegs24 {s t : State} {a : Fin 8} {but : List Nat} (h : s.keepsRegs t 24 but)
    (hbut : ∀ b : Fin 8, BRK_STAT b ∈ but) : s.keepsRegs (t.fastHalt a) 24 but := by
  have hengine : s.keepsRegs (((t.haltAxisPorts a).stopEngine a).levelsOff a) 24 but :=
    h.congr fun x hx => ((State.levelsOff_regs _ a x).trans
      ((State.stopEngine_ev (m := 0x2000000000400) (.refl _ _) (by decide)).reg 24 hx (by decide))).trans (t.haltAxisPorts_regs a x)
  unfold State.fastHalt State.haltAxis State.brakeCmd
  exact (hengine.put (f := BRK_STAT_CMD a) (hbut a)).brakes hbut

/-! ### Drive faults (R89) -/

/-- The request of a drive fault is recorded and shown. -/
def State.faultNoted (s : State) (a : Fin 8) (axerr : Nat) : State :=
  ((s.markAct 3 a).put (AX_ERR_ERRCODE a) axerr).raise (axEvt a) 2 (evAxis a)

/-- After its fast halt an axis that was `x` is taken to Fault, and the fault is reported. -/
def State.faultEntered (s : State) (a : Fin 8) (cause axerr : Nat) (x : Axis) : State :=
  (if x.code = 5 then ((s.axisTo a .faultReact x.mode).axisTo a .fault x.mode).raise (axEvt a) 4 (evAxis a)
    else (s.axisTo a .faultReact x.mode).axisTo a .fault x.mode).emcy axerr [a, cause, 0, 0, 0]

/-- An axis that is in no fault state takes a drive fault. -/
theorem State.takeFault_eq {s : State} {a : Fin 8} (h : s.inFault a = false) (cause axerr : Nat) : s.takeFault a cause axerr =
    ((s.faultNoted a axerr).fastHalt a).faultEntered a cause axerr s.axes[a] := by
  unfold State.inFault at h
  rw [Bool.or_eq_false_iff, beq_eq_false_iff_ne, beq_eq_false_iff_ne] at h
  obtain ⟨hfault, hreact⟩ := h
  unfold State.takeFault
  exact if_neg fun e => e.elim hfault hreact

theorem State.keepsRegs.faultEntered {s t : State} {block : Fin 32} {but : List Nat} (h : s.keepsRegs t block but) {a : Fin 8}
    {cause axerr : Nat} {x : Axis} (ha : AX_EVT a ∈ but) (hblock : block ≠ 3) :
    s.keepsRegs (t.faultEntered a cause axerr x) block but := by
  have hfault : s.keepsRegs ((t.axisTo a .faultReact x.mode).axisTo a .fault x.mode) block but := (h.axisTo ha hblock).axisTo ha hblock
  unfold State.faultEntered
  split
  · exact (hfault.raise (f := axEvt a) ha hblock).emcy
  · exact hfault.emcy

theorem State.faultEntered_axes (s : State) (a : Fin 8) (cause axerr : Nat) (x : Axis) :
    (s.faultEntered a cause axerr x).axes = ((s.axisTo a .faultReact x.mode).axisTo a .fault x.mode).axes := by
  unfold State.faultEntered
  rw [State.emcy_axes]
  split
  · exact State.raise_axes _ _ _ _
  · rfl

theorem State.faultNoted_axes (s : State) (a : Fin 8) (axerr : Nat) : (s.faultNoted a axerr).axes = s.axes := State.raise_axes _ _ _ _

/-- A drive fault ends in Fault with its error code, no edges published and the brake commanded set. -/
theorem State.takeFault_faulted {s : State} {a : Fin 8} {cause axerr : Nat} (h : s.inFault a = false) (herr : axerr < 2 ^ 16) :
    (s.takeFault a cause axerr).faulted a axerr := by
  obtain ⟨herr17, hstat17, hstat24⟩ : AX_ERR a / 65536 % 32 = 17 ∧ ENG_STAT a / 65536 % 32 = 17 ∧ BRK_STAT a / 65536 % 32 = 24 := by
    clear h; revert a; decide
  obtain ⟨herrNot, hstatNot, hcmdNot⟩ : AX_ERR a ∉ haltRegs a ∧ ENG_STAT a ∉ [AX_EVT a] ∧ BRK_STAT a ∉ [AX_EVT a] := by
    clear h herr17 hstat17 hstat24; revert a; decide
  have hcode : ((s.markAct 3 a).put (AX_ERR_ERRCODE a) axerr).keepsRegs (s.takeFault a cause axerr) 17 (haltRegs a) := by
    rw [State.takeFault_eq h]
    have hnoted := (State.keepsRegs.refl ((s.markAct 3 a).put (AX_ERR_ERRCODE a) axerr) 17 (haltRegs a)).raise (f := axEvt a) (i := 2)
      (j := evAxis a) List.mem_cons_self (by decide)
    exact (State.fastHalt_keepsRegs hnoted).faultEntered List.mem_cons_self (by decide)
  have hhalt : ∀ {b : Fin 32} {f : Fld}, b ≠ 3 → f.addr / 65536 % 32 = b.1 → f.addr ∉ [AX_EVT a] →
      (s.takeFault a cause axerr).get f = ((s.faultNoted a axerr).fastHalt a).get f := by
    intro b f hb hblock hnot
    rw [State.takeFault_eq h]
    exact ((State.keepsRegs.refl _ b _).faultEntered List.mem_cons_self hb).get hblock hnot
  refine ⟨?_, ?_, ?_, ?_⟩
  · rw [State.takeFault_eq h, State.faultEntered_axes]
    exact State.axisTo_st _ _ _ _
  · exact (hcode.get (f := AX_ERR_ERRCODE a) herr17 herrNot).trans (State.get_put_fits _ _ herr (by decide : 15 < 32) (Nat.zero_le _))
  · exact (hhalt (b := 17) (f := ENG_STAT_EDGES a) (by decide) hstat17 hstatNot).trans (State.fastHalt_edges _ a)
  · exact (hhalt (b := 24) (f := BRK_STAT_CMD a) (by decide) hstat24 hcmdNot).trans (State.fastHalt_cmd _ a)

/-- No other axis feels a drive fault. -/
theorem State.keepsOtherAxes.takeFault {s t : State} {a : Fin 8} {cause axerr : Nat} (h : s.keepsOtherAxes t a)
    (hno : t.inFault a = false) : s.keepsOtherAxes (t.takeFault a cause axerr) a := by
  rw [State.takeFault_eq hno]
  exact (State.fastHalt_otherAxes (h.congr (t.faultNoted_axes a axerr))).axisTo.axisTo.congr (State.faultEntered_axes _ _ _ _ _)

/-! ### Drive faults of the lamps and I/O block (R383) -/

/-- The registers of block 24 that a drive fault may write: its record and the brakes' status registers. -/
def winchFaultRegs (a : Fin 8) : List Nat := WN_FAULT a :: AX_EVT a :: brakeStats

/-- A cause of R383 is recorded in the map, and as the first one if none was. -/
def State.winchNoted (s : State) (a : Fin 8) (c : Nat) : State :=
  if s.get (WN_FAULT_FIRST a) = 0 then (s.putOr (WN_FAULT_MAP a) (2 ^ c)).put (WN_FAULT_FIRST a) c else s.putOr (WN_FAULT_MAP a) (2 ^ c)

theorem State.winchFault_eq {s : State} {a : Fin 8} (h : s.inFault a = false) (c : Nat) :
    s.winchFault a c = (s.winchNoted a c).takeFault a (0x10 + c) (0xFF72 + c) := by
  unfold State.winchFault
  rw [h]
  exact if_neg fun e => absurd e.1 (by decide)

theorem State.winchNoted_axes (s : State) (a : Fin 8) (c : Nat) : (s.winchNoted a c).axes = s.axes := by
  unfold State.winchNoted
  split <;> simp only [State.put_axes, State.putOr_axes]

theorem State.winchNoted_inFault (s : State) (a : Fin 8) (c : Nat) : (s.winchNoted a c).inFault a = s.inFault a := by
  unfold State.inFault
  rw [State.winchNoted_axes]

theorem State.winchNoted_map (s : State) (a : Fin 8) {c : Nat} (hc : c < 8) :
    bitOf ((s.winchNoted a c).get (WN_FAULT_MAP a)) c = true := by
  have hor : bitOf ((s.putOr (WN_FAULT_MAP a) (2 ^ c)).get (WN_FAULT_MAP a)) c = true :=
    s.get_putOr_bit _ hc (by decide : 15 < 32) (by decide : 8 ≤ 15)
  unfold State.winchNoted
  split
  · rw [State.get_put_disj (f := WN_FAULT_FIRST a) (g := WN_FAULT_MAP a) _ _ (by decide : 0 ≤ 7) (by decide : 15 < 32) (by decide : 8 ≤ 15)
      (.inl (by decide : 7 < 8))]
    exact hor
  · exact hor

theorem State.faultNoted_keepsRegs24 {s t : State} {a : Fin 8} {but : List Nat} {axerr : Nat} (h : s.keepsRegs t 24 but)
    (hevt : AX_EVT a ∈ but) : s.keepsRegs (t.faultNoted a axerr) 24 but := by
  have herr : AX_ERR a / 65536 % 32 ≠ 24 := by
    clear hevt; revert a; decide
  have hcode : s.keepsRegs ((t.markAct 3 a).put (AX_ERR_ERRCODE a) axerr) 24 but := by
    intro x hx hnot
    have hne : x ≠ AX_ERR a := fun e => herr (e ▸ hx)
    exact (State.reg_put_ne _ _ hne).trans (h x hx hnot)
  exact hcode.raise (f := axEvt a) hevt (by decide)

theorem State.keepsRegs.takeFault {s t : State} {a : Fin 8} {but : List Nat} {cause axerr : Nat} (h : s.keepsRegs t 24 but)
    (hno : t.inFault a = false) (hevt : AX_EVT a ∈ but) (hbut : ∀ b : Fin 8, BRK_STAT b ∈ but) :
    s.keepsRegs (t.takeFault a cause axerr) 24 but := by
  rw [State.takeFault_eq hno]
  exact (State.fastHalt_keepsRegs24 (State.faultNoted_keepsRegs24 h hevt) hbut).faultEntered hevt (by decide)

theorem State.keepsRegs.winchNoted {s t : State} {a : Fin 8} {but : List Nat} {c : Nat} (h : s.keepsRegs t 24 but)
    (hbut : WN_FAULT a ∈ but) : s.keepsRegs (t.winchNoted a c) 24 but := by
  unfold State.winchNoted
  split
  · exact (h.putOr hbut).put hbut
  · exact h.putOr hbut

/-- A drive fault of this block writes its record and the brakes' status alone in block 24. -/
theorem State.keepsRegs.winchFault {s t : State} {a : Fin 8} {c : Nat} (h : s.keepsRegs t 24 (winchFaultRegs a))
    (hno : t.inFault a = false) : s.keepsRegs (t.winchFault a c) 24 (winchFaultRegs a) := by
  rw [State.winchFault_eq hno]
  exact (h.winchNoted List.mem_cons_self).takeFault ((t.winchNoted_inFault a c).trans hno) (List.mem_cons_of_mem _ List.mem_cons_self)
    fun b => List.mem_cons_of_mem _ (List.mem_cons_of_mem _ (mem_brakeStats b))

theorem State.winchFault_faulted {s : State} {a : Fin 8} (h : s.inFault a = false) {c : Nat} (hc : c < 8) :
    (s.winchFault a c).faulted a (0xFF72 + c) := by
  rw [State.winchFault_eq h]
  exact State.takeFault_faulted ((s.winchNoted_inFault a c).trans h) (by omega)

/-- A drive fault of this block stands in the map of its axis. -/
theorem State.winchFault_map {s : State} {a : Fin 8} (h : s.inFault a = false) {c : Nat} (hc : c < 8) :
    bitOf ((s.winchFault a c).get (WN_FAULT_MAP a)) c = true := by
  obtain ⟨hblock, hnot⟩ : WN_FAULT a / 65536 % 32 = 24 ∧ WN_FAULT a ∉ AX_EVT a :: brakeStats := by
    clear h; revert a; decide
  have hkept : (s.winchNoted a c).keepsRegs (s.winchFault a c) 24 (AX_EVT a :: brakeStats) := by
    rw [State.winchFault_eq h]
    exact (State.keepsRegs.refl _ _ _).takeFault ((s.winchNoted_inFault a c).trans h) List.mem_cons_self
      fun b => List.mem_cons_of_mem _ (mem_brakeStats b)
  rw [hkept.get (f := WN_FAULT_MAP a) hblock hnot]
  exact s.winchNoted_map a hc

theorem State.keepsOtherAxes.winchFault {s t : State} {a : Fin 8} {c : Nat} (h : s.keepsOtherAxes t a) (hno : t.inFault a = false) :
    s.keepsOtherAxes (t.winchFault a c) a := by
  rw [State.winchFault_eq hno]
  exact (h.congr (t.winchNoted_axes a c)).takeFault ((t.winchNoted_inFault a c).trans hno)

end Sys2Proof.Machine
end

section
/-! PROOFS. General inputs and outputs, analog windows, slack, overspeed and the brake timeouts (R46, R353 to R383). -/

namespace Sys2Proof.Machine

/-! ### Raised bits -/

/-- A raised bit is set in its field. -/
theorem State.bit_raise (s : State) (f : Fld) {i j : Nat} (hlow : f.addr / 65536 ≠ 0x4003) (hi : i < f.width)
    (hhi : f.hi < 32) (hlo : f.lo ≤ f.hi) : bitOf ((s.raise f i j).get f) i = true := by
  have hget : (s.raise f i j).get f = (s.putOr f (2 ^ i)).get f := by
    unfold State.raise State.get
    rw [State.reg_strobe _ _ _ hlow]
  rw [hget]
  exact s.get_putOr_bit f hi hhi hlo

/-- A raised bit leaves the other registers as they are, but for those of the events. -/
theorem State.get_raise_ne (s : State) {f g : Fld} {i j : Nat} (hne : g.addr ≠ f.addr)
    (hlow : g.addr / 65536 ≠ 0x4003) : (s.raise f i j).get g = s.get g := by
  unfold State.raise State.get
  rw [State.reg_strobe _ _ _ hlow, State.reg_putOr_ne _ _ hne]

/-- A raised bit leaves the other fields of its register as they are. -/
theorem State.get_raise_disj (s : State) {f g : Fld} {i j : Nat} (hlo : f.lo ≤ f.hi) (hhi : g.hi < 32)
    (hgl : g.lo ≤ g.hi) (hdisj : f.hi < g.lo ∨ g.hi < f.lo)
    (hlow : g.addr / 65536 ≠ 0x4003) : (s.raise f i j).get g = s.get g := by
  have hput : (s.raise f i j).get g = (s.put f (s.get f ||| 2 ^ i)).get g := by
    unfold State.raise State.get
    rw [State.reg_strobe _ _ _ hlow]
    rfl
  rw [hput]
  exact State.get_put_disj _ _ hlo hhi hgl hdisj

theorem State.keepsRegs.modLio {s t : State} {block : Fin 32} {but : List Nat} (h : s.keepsRegs t block but) {f : Lio → Lio} :
    s.keepsRegs (t.modLio f) block but := h

theorem State.keepsRegs.modAxis {s t : State} {block : Fin 32} {but : List Nat} (h : s.keepsRegs t block but) {a : Fin 8}
    {f : Axis → Axis} : s.keepsRegs (t.modAxis a f) block but := h

/-! ### General inputs and outputs (R382) -/

/-- The masked inputs that change when their levels become `v`. -/
def State.gpiChanged (s : State) (v : BitVec 8) : Nat := (s.get GPI_LVL_V ^^^ v.toNat) &&& s.get GPI_CFG_MASK

theorem exec_gpiChange {s : State} (hup : s.up = true) (v : BitVec 8) : exec (.gpiChange v) s = .next
    (if s.gpiChanged v = 0 then s.put GPI_LVL_V v.toNat
      else ((s.put GPI_LVL_V v.toNat).putOr GPI_EVT_V (s.gpiChanged v)).raise ⟨LIO_EVT, 4, 0⟩ 4 88) :=
  congrArg _ (s.whenUp_of_up hup _)

theorem State.put_gpiLvl (s : State) (v : BitVec 8) : (s.put GPI_LVL_V v.toNat).get GPI_LVL_V = v.toNat :=
  s.get_put_fits GPI_LVL_V v.isLt (by decide) (by decide)

theorem exec_gpoOverload {s : State} (hup : s.up = true) {k : Fin 4} (hout : bitOf (s.get GPO_OUT_V) k = true)
    (hon : s.lio.gpoOff.getLsbD k = false) (hclaimed : s.unclaimed = false) : exec (.gpoOverload k) s = .next
    (((s.modLio fun z => { z with gpoOff := s.lio.gpoOff ||| BitVec.ofNat 4 (2 ^ k.1) }).putOr GPO_STAT_OVL (2 ^ k.1)).emcy
      0xFF79 [k, 0, 0, 0, 0]) := by
  show Host.Outcome.next (s.whenUp _) = _
  rw [State.whenUp_of_up hup, hout, hon, hclaimed]
  rfl

theorem gpiChange_shown {s : State} (hup : s.up = true) (v : BitVec 8) : ∃ t, exec (.gpiChange v) s = .next t ∧
    t.get GPI_LVL_V = v.toNat ∧ t.get GPI_EVT_V = s.get GPI_EVT_V ||| s.gpiChanged v ∧
    (s.gpiChanged v ≠ 0 → bitOf (t.get ⟨LIO_EVT, 4, 0⟩) 4 = true) ∧ s.keepsRegs t 24 [GPI_LVL, GPI_EVT, LIO_EVT] := by
  have hexec := exec_gpiChange hup v
  by_cases hnone : s.gpiChanged v = 0
  · rw [if_pos hnone] at hexec
    refine ⟨_, hexec, s.put_gpiLvl v, ?_, fun h => absurd hnone h, (State.keepsRegs.refl s _ _).put (by decide)⟩
    rw [hnone, Nat.or_zero]
    exact s.get_put_ne _ (by decide)
  · rw [if_neg hnone] at hexec
    have hfits : (s.put GPI_LVL_V v.toNat).get GPI_EVT_V ||| s.gpiChanged v < 2 ^ GPI_EVT_V.width :=
      Nat.or_lt_two_pow (State.get_lt _ _) (Nat.and_lt_two_pow _ (State.get_lt _ GPI_CFG_MASK))
    refine ⟨_, hexec, ?_, ?_, fun _ => State.bit_raise _ ⟨LIO_EVT, 4, 0⟩ (by decide) (by decide) (by decide) (by decide),
      (((State.keepsRegs.refl s _ _).put (by decide)).putOr (by decide)).raise (by decide) (by decide)⟩
    · rw [State.get_raise_ne _ (by decide) (by decide)]
      exact (State.get_setReg_ne _ _ (by decide)).trans (s.put_gpiLvl v)
    · rw [State.get_raise_ne _ (by decide) (by decide), State.get_putOr_same _ _ _ (by decide) (by decide), Nat.mod_eq_of_lt hfits,
        State.get_put_ne _ _ (by decide)]

theorem gpoOverload_shown {s : State} (hup : s.up = true) {k : Fin 4} (hout : bitOf (s.get GPO_OUT_V) k = true)
    (hon : s.lio.gpoOff.getLsbD k = false) (hclaimed : s.unclaimed = false) : ∃ t, exec (.gpoOverload k) s = .next t ∧
    bitOf (t.get GPO_STAT_OVL) k = true ∧ t.lio.gpoOff.getLsbD k = true ∧ s.queued t 0xFF79 [k, 0, 0, 0, 0] ∧
    s.keepsRegs t 24 [GPO_STAT] := by
  refine ⟨_, exec_gpoOverload hup hout hon hclaimed, ?_, ?_, State.queued_emcy rfl,
    ((State.keepsRegs.refl s 24 [GPO_STAT]).modLio.putOr (by decide)).emcy⟩
  · rw [State.get_emcy]
    exact State.get_putOr_bit _ GPO_STAT_OVL k.2 (by decide) (by decide)
  · rw [State.emcy_lio]
    exact (getLsbD_setBit s.lio.gpoOff k true)

/-! ### Analog windows (R353) -/

/-- What the counts of an input become with a window of sum `sum`. -/
def ainCount (sum : Nat) (x : Ain) : Ain :=
  if decide (sum < 36000) || decide (210000 < sum) then { bad := satInc 10 x.bad, good := 0 } else { bad := 0, good := satInc 10 x.good }

/-- The current in microamperes, as a window of sum `sum` gives it. -/
def ainCurrent (sum : Nat) : Nat := (roundDiv 13 sum 10).toNat

/-- The current of the window is shown. -/
def State.ainRead (s : State) (i : Fin 8) (sum : Nat) : State := s.put (AIN_VAL_UA i) (min (ainCurrent sum) 65535)

/-- The window is counted. -/
def State.ainCounted (s : State) (i : Fin 8) (sum : Nat) : State :=
  (s.ainRead i sum).modLio fun z => { z with ains := upd (s.ainRead i sum).lio.ains i (ainCount sum) }

/-- The counts of an input after a window of sum `sum`. -/
def State.ainCounts (s : State) (i : Fin 8) (sum : Nat) : Ain := ainCount sum s.lio.ains[i]

theorem State.ainCounted_ains (s : State) (i : Fin 8) (sum : Nat) : (s.ainCounted i sum).lio.ains[i] = s.ainCounts i sum := by
  have hread : (s.ainRead i sum).lio = s.lio := State.put_lio _ _ _
  show (upd (s.ainRead i sum).lio.ains i (ainCount sum))[i] = _
  rw [upd_same, hread]
  rfl

/-- RANGE and VALID as judged. -/
def State.ainJudged (s : State) (i : Fin 8) (range : Bool) : State :=
  (s.put (AIN_STAT_RANGE i) (b2n range)).put (AIN_STAT_VALID i) (b2n !range)

/-- RANGE as the counts of an input make it. -/
def State.ainRange (s : State) (i : Fin 8) (sum : Nat) : Bool :=
  if (s.ainCounts i sum).bad = 10 then true else if (s.ainCounts i sum).good = 10 then false else s.flag (AIN_STAT_RANGE i)

theorem exec_ainWindow {s : State} (hup : s.up = true) {i : Fin 8} {sum : Nat} (hen : s.get (AIN_CFG_EN i) = 1)
    (hrole : s.get (AIN_CFG_ROLE i) ≠ 2) : exec (.ainWindow i sum) s = .next
    (if s.ainRange i sum then
      if !s.flag (AIN_STAT_RANGE i) then
        (((s.ainCounted i sum).ainJudged i true).raise ⟨LIO_EVT, 4, 0⟩ 3 88).emcy 0xFF72 [i, 0, 0, 0, 0]
      else (s.ainCounted i sum).ainJudged i true
    else ((s.ainCounted i sum).ainJudged i false).setReg (AIN_OUT i) (BitVec.ofInt 32 (s.ainOutput i (ainCurrent sum)))) := by
  refine congrArg Host.Outcome.next ((s.whenUp_of_up hup _).trans ?_)
  rw [State.flag_eq_true hen, if_neg (by decide)]
  extract_lets out ua t1 t2 x was range t3 t4 t5
  rw [if_neg hrole]
  have hcounts : x = s.ainCounts i sum := s.ainCounted_ains i sum
  have hrange : range = s.ainRange i sum := by
    simp only [range, hcounts]
    rfl
  have hjudged : t3 = (s.ainCounted i sum).ainJudged i range := rfl
  simp only [t5, t4, was, hjudged, hrange]
  cases s.ainRange i sum
  · simp only [Bool.false_and, Bool.false_eq_true, if_false]
    rfl
  · simp only [Bool.true_and, if_true]

/-- The tenth window in a row out of range. -/
theorem State.ainCounts_bad {s : State} {i : Fin 8} {sum : Nat} (hout : sum < 36000 ∨ 210000 < sum) (hbad : s.lio.ains[i].bad = 9) :
    s.ainCounts i sum = { bad := 10, good := 0 } := by
  unfold State.ainCounts ainCount
  rw [hbad, if_pos (by simpa using hout)]
  rfl

/-- The tenth window in a row in range. -/
theorem State.ainCounts_good {s : State} {i : Fin 8} {sum : Nat} (hlow : 36000 ≤ sum) (hhigh : sum ≤ 210000)
    (hgood : s.lio.ains[i].good = 9) : s.ainCounts i sum = { bad := 0, good := 10 } := by
  have hin : ¬(decide (sum < 36000) || decide (210000 < sum)) = true := by
    simp only [Bool.or_eq_true, decide_eq_true_eq]
    omega
  unfold State.ainCounts ainCount
  rw [hgood, if_neg hin]
  rfl

theorem ainCurrent_of_multiple {sum : Nat} (h : sum % 10 = 0) : ainCurrent sum = sum / 10 := by
  have hexact : (sum : Int) % ((10 : Nat) : Int) = 0 := by omega
  unfold ainCurrent roundDiv
  rw [if_neg (by decide), if_pos hexact]
  omega

theorem b2n_lt (b : Bool) : b2n b < 2 := by cases b <;> decide

theorem State.ainJudged_range (s : State) (i : Fin 8) (range : Bool) : (s.ainJudged i range).get (AIN_STAT_RANGE i) = b2n range :=
  (State.get_put_disj (f := AIN_STAT_VALID i) (g := AIN_STAT_RANGE i) _ _ (le_refl 30) (by decide : 31 < 32) (le_refl 31)
    (.inl (by decide : 30 < 31))).trans
    (State.get_put_fits s (AIN_STAT_RANGE i) (b2n_lt range) (by decide : 31 < 32) (le_refl 31))

theorem State.ainJudged_valid (s : State) (i : Fin 8) (range : Bool) : (s.ainJudged i range).get (AIN_STAT_VALID i) = b2n !range :=
  State.get_put_fits _ (AIN_STAT_VALID i) (b2n_lt !range) (by decide : 30 < 32) (le_refl 30)

theorem State.ainJudged_lio (s : State) (i : Fin 8) (range : Bool) : (s.ainJudged i range).lio = s.lio :=
  (State.put_lio _ _ _).trans (State.put_lio _ _ _)

/-- The counts and their verdict are in the block of the lamps and I/O. -/
theorem State.ainJudged_ev (s : State) (i : Fin 8) (sum : Nat) (range : Bool) :
    Ev (Part.mask [.lio, .regs 24]) s ((s.ainCounted i sum).ainJudged i range) := by
  obtain ⟨hval, hstat⟩ : AIN_VAL i / 65536 % 32 = 24 ∧ AIN_STAT i / 65536 % 32 = 24 := by
    revert i; decide
  have hcounted : Ev (Part.mask [.lio, .regs 24]) s (s.ainCounted i sum) :=
    ((Ev.refl _ s).put (f := AIN_VAL_UA i) 24 hval (by decide)).modLio (by decide)
  exact (hcounted.put (f := AIN_STAT_RANGE i) 24 hstat (by decide)).put (f := AIN_STAT_VALID i) 24 hstat (by decide)

theorem ainWindow_bad {s : State} (hup : s.up = true) {i : Fin 8} {sum : Nat} (hen : s.get (AIN_CFG_EN i) = 1)
    (hrole : s.get (AIN_CFG_ROLE i) ≠ 2) (hout : sum < 36000 ∨ 210000 < sum) (hbad : s.lio.ains[i].bad = 9)
    (hwas : s.get (AIN_STAT_RANGE i) = 0) : ∃ t, exec (.ainWindow i sum) s = .next t ∧ t.get (AIN_STAT_RANGE i) = 1 ∧
    t.get (AIN_STAT_VALID i) = 0 ∧ t.lio.ains[i].bad = 10 ∧ bitOf (t.get ⟨LIO_EVT, 4, 0⟩) 3 = true ∧
    s.queued t 0xFF72 [i, 0, 0, 0, 0] ∧ s.onlyChanges t [.srv, .lio, .regs 3, .regs 24] := by
  obtain ⟨hlow, hne⟩ : AIN_STAT i / 65536 ≠ 0x4003 ∧ AIN_STAT i ≠ LIO_EVT := by
    clear hen hrole hbad hwas; revert i; decide
  have hcounts := State.ainCounts_bad hout hbad
  have hrange : s.ainRange i sum = true := by
    unfold State.ainRange
    rw [hcounts]
    rfl
  have hexec := exec_ainWindow hup hen hrole (sum := sum)
  rw [hrange, if_pos rfl, State.flag_eq_false hwas, if_pos (by decide)] at hexec
  refine ⟨_, hexec, ?_, ?_, ?_, ?_, State.queued_emcy ?_, ?_⟩
  · rw [State.get_emcy, State.get_raise_ne _ (by exact hne) (by exact hlow)]
    exact State.ainJudged_range _ i true
  · rw [State.get_emcy, State.get_raise_ne _ (by exact hne) (by exact hlow)]
    exact State.ainJudged_valid _ i true
  · rw [State.emcy_lio, State.raise_lio, State.ainJudged_lio, State.ainCounted_ains, hcounts]
  · rw [State.get_emcy]
    exact State.bit_raise _ ⟨LIO_EVT, 4, 0⟩ (by decide) (by decide) (by decide) (by decide)
  · exact (State.raise_srv _ _ _ _).trans ((s.ainJudged_ev i sum true).same .srv (by decide))
  · exact ((((s.ainJudged_ev i sum true).mono (by decide)).raise 24 (by decide) (by decide) (by decide)).emcy (by decide)).onlyChanges

theorem ainWindow_good {s : State} (hup : s.up = true) {i : Fin 8} {sum : Nat} (hen : s.get (AIN_CFG_EN i) = 1)
    (hrole : s.get (AIN_CFG_ROLE i) ≠ 2) (hlow : 36000 ≤ sum) (hhigh : sum ≤ 210000) (hexact : sum % 10 = 0)
    (hgood : s.lio.ains[i].good = 9) : ∃ t, exec (.ainWindow i sum) s = .next t ∧ t.get (AIN_STAT_RANGE i) = 0 ∧
    t.get (AIN_STAT_VALID i) = 1 ∧ t.lio.ains[i] = { bad := 0, good := 10 } ∧ t.get (AIN_VAL_UA i) = sum / 10 ∧
    s.onlyChanges t [.lio, .regs 24] := by
  obtain ⟨hout, hvalOut, hstatOut, hstatVal⟩ : AIN_OUT i / 65536 % 32 = 24 ∧ AIN_VAL i ≠ AIN_OUT i ∧ AIN_STAT i ≠ AIN_OUT i ∧
      AIN_VAL i ≠ AIN_STAT i := by
    clear hen hrole hgood; revert i; decide
  have hcounts := State.ainCounts_good hlow hhigh hgood
  have hrange : s.ainRange i sum = false := by
    unfold State.ainRange
    rw [hcounts]
    rfl
  have hexec := exec_ainWindow hup hen hrole (sum := sum)
  rw [hrange, if_neg Bool.false_ne_true] at hexec
  refine ⟨_, hexec, ?_, ?_, ?_, ?_, ((s.ainJudged_ev i sum false).setReg 24 hout (by decide)).onlyChanges⟩
  · rw [State.get_setReg_ne _ _ (by exact hstatOut)]
    exact State.ainJudged_range _ i false
  · rw [State.get_setReg_ne _ _ (by exact hstatOut)]
    exact State.ainJudged_valid _ i false
  · show ((s.ainCounted i sum).ainJudged i false).lio.ains[i] = _
    rw [State.ainJudged_lio, State.ainCounted_ains, hcounts]
  · have hshown : (s.put (AIN_VAL_UA i) (min (ainCurrent sum) 65535)).get (AIN_VAL_UA i) = min (ainCurrent sum) 65535 :=
      State.get_put_fits _ _ (by show _ < 65536; omega) (by decide : 15 < 32) (by decide : 0 ≤ 15)
    rw [State.get_setReg_ne _ _ (by exact hvalOut)]
    unfold State.ainJudged
    rw [State.get_put_ne _ _ (by exact hstatVal), State.get_put_ne _ _ (by exact hstatVal)]
    show (s.put (AIN_VAL_UA i) (min (ainCurrent sum) 65535)).get (AIN_VAL_UA i) = _
    rw [hshown, ainCurrent_of_multiple hexact]
    omega

/-! ### Slack line and drum overspeed (R366, R367) -/

/-- An axis out of SAFE is in no fault state. -/
theorem State.inFault_of_not_safe {s : State} {a : Fin 8} (h : s.isSafe a = false) : s.inFault a = false := by
  unfold State.isSafe at h
  unfold State.inFault
  generalize s.axes[a] = x at h ⊢
  unfold Axis.code at h
  cases hst : x.st <;> simp [hst] at h ⊢

theorem State.isSafe_congr {s t : State} (h : t.axes = s.axes) (a : Fin 8) : t.isSafe a = s.isSafe a := by
  unfold State.isSafe
  rw [h]

/-- What the statements say of a drive fault `c` of R383 on axis `a`. -/
theorem winchFault_shown {s u : State} {a : Fin 8} {c : Nat} (hsafe : u.isSafe a = false) (hc : c < 8) (hothers : s.keepsOtherAxes u a) :
    (u.winchFault a c).faulted a (0xFF72 + c) ∧ bitOf ((u.winchFault a c).get (WN_FAULT_MAP a)) c = true ∧
      s.keepsOtherAxes (u.winchFault a c) a := by
  have hno := State.inFault_of_not_safe hsafe
  exact ⟨State.winchFault_faulted hno hc, State.winchFault_map hno hc, hothers.winchFault hno⟩

/-- A register of the block that no drive fault writes. -/
theorem State.get_winchFault {u : State} {a : Fin 8} {c : Nat} {f : Fld} (hsafe : u.isSafe a = false) (hblock : f.addr / 65536 % 32 = 24)
    (hnot : f.addr ∉ winchFaultRegs a) : (u.winchFault a c).get f = u.get f :=
  ((State.keepsRegs.refl u 24 _).winchFault (State.inFault_of_not_safe hsafe)).get hblock hnot

theorem exec_slackLineDetect {s : State} (hup : s.up = true) {a : Fin 8} {m : Nat} (hm : s.tensionNow a = some m)
    (hsafe : s.isSafe a = false) (hslack : m < s.get (WN_SLACK_SLACK a)) (hwas : s.get (WN_STAT_SLACK a) = 0) :
    exec (.slackLineDetect a) s = .next (if s.get (WN_SLACK_SLREACT a) = 2 then (s.put (WN_STAT_SLACK a) 1).winchFault a 3
      else (s.put (WN_STAT_SLACK a) 1).emcy 0xFF75 [a, 1, 0, 0, 0]) := by
  refine congrArg Host.Outcome.next ((s.whenUp_of_up hup _).trans ?_)
  rw [hm]
  dsimp only
  rw [hsafe, if_neg Bool.false_ne_true, if_pos hslack, State.flag_eq_false hwas, if_neg Bool.false_ne_true]

theorem State.put_slack (s : State) (a : Fin 8) : (s.put (WN_STAT_SLACK a) 1).get (WN_STAT_SLACK a) = 1 :=
  State.get_put_fits _ _ (by show 1 < 2 ^ 1; decide) (by decide : 31 < 32) (le_refl 31)

theorem slackLineDetect_warned {s : State} (hup : s.up = true) {a : Fin 8} {m : Nat} (hm : s.tensionNow a = some m)
    (hsafe : s.isSafe a = false) (hslack : m < s.get (WN_SLACK_SLACK a)) (hwas : s.get (WN_STAT_SLACK a) = 0)
    (hreact : s.get (WN_SLACK_SLREACT a) ≠ 2) : ∃ t, exec (.slackLineDetect a) s = .next t ∧ t.get (WN_STAT_SLACK a) = 1 ∧
    s.queued t 0xFF75 [a, 1, 0, 0, 0] ∧ s.onlyChanges t [.srv, .regs 24] ∧ s.keepsRegs t 24 [WN_STAT a] := by
  have hexec := exec_slackLineDetect hup hm hsafe hslack hwas
  rw [if_neg hreact] at hexec
  have hblock : WN_STAT a / 65536 % 32 = 24 := by
    clear hm hsafe hslack hwas hreact hexec; revert a; decide
  exact ⟨_, hexec, (State.get_emcy _ _ _ _).trans (s.put_slack a), State.queued_emcy rfl,
    (((Ev.refl _ s).put (f := WN_STAT_SLACK a) 24 hblock (by decide)).emcy (by decide)).onlyChanges,
    ((State.keepsRegs.refl s 24 [WN_STAT a]).put (f := WN_STAT_SLACK a) List.mem_cons_self).emcy⟩

theorem slackLineDetect_faulted {s : State} (hup : s.up = true) {a : Fin 8} {m : Nat} (hm : s.tensionNow a = some m)
    (hsafe : s.isSafe a = false) (hslack : m < s.get (WN_SLACK_SLACK a)) (hwas : s.get (WN_STAT_SLACK a) = 0)
    (hreact : s.get (WN_SLACK_SLREACT a) = 2) : ∃ t, exec (.slackLineDetect a) s = .next t ∧ t.get (WN_STAT_SLACK a) = 1 ∧
    t.faulted a 0xFF75 ∧ bitOf (t.get (WN_FAULT_MAP a)) 3 = true ∧ s.keepsOtherAxes t a := by
  have hexec := exec_slackLineDetect hup hm hsafe hslack hwas
  rw [if_pos hreact] at hexec
  obtain ⟨hblock, hnot⟩ : WN_STAT a / 65536 % 32 = 24 ∧ WN_STAT a ∉ winchFaultRegs a := by
    clear hm hsafe hslack hwas hreact hexec; revert a; decide
  have haxes : (s.put (WN_STAT_SLACK a) 1).axes = s.axes := s.put_axes _ _
  have hsafe' : (s.put (WN_STAT_SLACK a) 1).isSafe a = false := (State.isSafe_congr haxes a).trans hsafe
  exact ⟨_, hexec, (State.get_winchFault (f := WN_STAT_SLACK a) hsafe' hblock hnot).trans (s.put_slack a),
    winchFault_shown (c := 3) hsafe' (by decide) ((State.keepsOtherAxes.refl s a).congr haxes)⟩

theorem exec_drumOverspeedDetect {s : State} (hup : s.up = true) {a : Fin 8} (hsafe : s.isSafe a = false)
    (hlimit : s.get (WN_DRUM_DOS a) ≠ 0) (husable : s.drumUsable a = true) (habove : s.drumAbove a (s.get (WN_DRUM_DOS a)) = true) :
    exec (.drumOverspeedDetect a) s = .next (s.winchFault a 4) := by
  refine congrArg Host.Outcome.next ((s.whenUp_of_up hup _).trans ?_)
  rw [hsafe, husable, habove, beq_false_of_ne hlimit]
  rfl

/-! ### Brakes (R46, R356, R359, R360) -/

theorem State.brakeSettled_wait (s : State) (a : Fin 8) : (s.brakeSettled a).lio.brkWait.getLsbD a = false :=
  getLsbD_setBit s.lio.brkWait a false

/-- An event of a brake sets its bit and the bit of the axis. -/
theorem State.brakeEvt_bit (s : State) (a : Fin 8) {b : Nat} (hb : b < 5) : bitOf ((s.brakeEvt a b).get ⟨LIO_EVT, 4, 0⟩) b = true :=
  State.bit_raise _ ⟨LIO_EVT, 4, 0⟩ (by decide) hb (by decide) (by decide)

theorem State.brakeEvt_axis (s : State) (a : Fin 8) (b : Nat) : bitOf ((s.brakeEvt a b).get LIO_EVT_BRKAX) a = true := by
  unfold State.brakeEvt
  rw [State.get_raise_disj _ (by decide) (by decide) (by decide) (by decide) (by decide)]
  exact s.get_putOr_bit LIO_EVT_BRKAX a.2 (by decide) (by decide)

theorem State.brakeEvt_axes (s : State) (a : Fin 8) (b : Nat) : (s.brakeEvt a b).axes = s.axes := State.raise_axes _ _ _ _

theorem State.keepsRegs.brakeEvt {s t : State} {but : List Nat} (h : s.keepsRegs t 24 but) {a : Fin 8} {b : Nat} (ha : LIO_EVT ∈ but) :
    s.keepsRegs (t.brakeEvt a b) 24 but := by
  unfold State.brakeEvt
  exact (h.putOr ha).raise ha (by decide)

theorem State.whenHas_of_up {s : State} {has : Bool} (hup : s.up = true) (hhas : has = true) (f : State → State) : s.whenHas has f = f s :=
  if_pos (by rw [hup, hhas]; rfl)

/-- The brake is lifted, as T_LIFT begins. -/
def Axis.lift (x : Axis) : Axis := { x with lifting := true }

theorem exec_brakeReleaseTimeout {s : State} (hup : s.up = true) {a : Fin 8} (hhas : s.hasAxis a = true) (hsafe : s.isSafe a = false)
    (hen : s.get (BRK_CFG_EN a) = 1) (hstep : s.axes[a].step = 2) (hlifting : s.axes[a].lifting = false) :
    exec (.brakeReleaseTimeout a) s = .next (if !s.flag (BRK_CFG_FBEN a) then (s.brakeSettled a).modAxis a Axis.lift
      else if s.flag (BRK_STAT_FB a) then s.brakeSettled a else ((s.brakeSettled a).brakeEvt a 1).winchFault a 1) := by
  refine congrArg Host.Outcome.next ((State.whenHas_of_up hup hhas _).trans ?_)
  dsimp only
  rw [hsafe, State.flag_eq_true hen, hstep, hlifting]
  rfl

theorem brakeReleaseTimeout_lifts {s : State} (hup : s.up = true) {a : Fin 8} (hhas : s.hasAxis a = true) (hsafe : s.isSafe a = false)
    (hen : s.get (BRK_CFG_EN a) = 1) (hstep : s.axes[a].step = 2) (hlifting : s.axes[a].lifting = false)
    (hfben : s.get (BRK_CFG_FBEN a) = 0) : ∃ t, exec (.brakeReleaseTimeout a) s = .next t ∧ t.axes[a].lifting = true ∧
    t.axes[a].st = s.axes[a].st ∧ t.lio.brkWait.getLsbD a = false ∧ s.keepsOtherAxes t a ∧ s.onlyChanges t [.axes, .lio] := by
  have hexec := exec_brakeReleaseTimeout hup hhas hsafe hen hstep hlifting
  rw [State.flag_eq_false hfben, if_pos (by decide)] at hexec
  have hlift : ((s.brakeSettled a).modAxis a Axis.lift).axes[a] = s.axes[a].lift := upd_same _ _ _
  refine ⟨_, hexec, ?_, ?_, s.brakeSettled_wait a, ((State.keepsOtherAxes.refl s a).congr rfl).modAxis,
    ((Ev.refl _ s).modLio (by decide) |>.modAxis (by decide)).onlyChanges⟩ <;> rw [hlift] <;> rfl

theorem brakeReleaseTimeout_faulted {s : State} (hup : s.up = true) {a : Fin 8} (hhas : s.hasAxis a = true) (hsafe : s.isSafe a = false)
    (hen : s.get (BRK_CFG_EN a) = 1) (hstep : s.axes[a].step = 2) (hlifting : s.axes[a].lifting = false)
    (hfben : s.get (BRK_CFG_FBEN a) = 1) (hfb : s.get (BRK_STAT_FB a) = 0) : ∃ t, exec (.brakeReleaseTimeout a) s = .next t ∧
    t.faulted a 0xFF73 ∧ bitOf (t.get ⟨LIO_EVT, 4, 0⟩) 1 = true ∧ bitOf (t.get LIO_EVT_BRKAX) a = true ∧ s.keepsOtherAxes t a := by
  have hexec := exec_brakeReleaseTimeout hup hhas hsafe hen hstep hlifting
  rw [State.flag_eq_true hfben, if_neg (by decide), State.flag_eq_false hfb, if_neg Bool.false_ne_true] at hexec
  have haxes : ((s.brakeSettled a).brakeEvt a 1).axes = s.axes := State.brakeEvt_axes _ a 1
  have hsafe' : ((s.brakeSettled a).brakeEvt a 1).isSafe a = false := (State.isSafe_congr haxes a).trans hsafe
  have hevt : LIO_EVT ∉ winchFaultRegs a := by
    clear hhas hsafe hen hstep hlifting hfben hfb hexec haxes hsafe'; revert a; decide
  obtain ⟨hfault, -, hothers⟩ := winchFault_shown (c := 1) hsafe' (by decide) ((State.keepsOtherAxes.refl s a).congr haxes)
  refine ⟨_, hexec, hfault, ?_, ?_, hothers⟩
  · rw [State.get_winchFault hsafe' (by decide) hevt]
    exact State.brakeEvt_bit _ a (by decide)
  · rw [State.get_winchFault hsafe' (by decide) hevt]
    exact State.brakeEvt_axis _ a 1

theorem exec_brakeSetTimeout {s : State} (hup : s.up = true) {a : Fin 8} (hfben : s.get (BRK_CFG_FBEN a) = 1)
    (hout : s.get (BRK_STAT_OUT a) = 0) (hfb : s.get (BRK_STAT_FB a) = 1) (hwas : s.get (BRK_STAT_NOTSET a) = 0) :
    exec (.brakeSetTimeout a) s = .next
      ((((s.brakeSettled a).put (BRK_STAT_NOTSET a) 1).brakeEvt a 1).emcy 0xFF71 [a, 0, 0, 0, 0]) := by
  refine congrArg Host.Outcome.next ((s.whenUp_of_up hup _).trans ?_)
  dsimp only
  rw [State.flag_eq_true hfben, State.flag_eq_false hout, State.flag_eq_true hfb, State.flag_eq_false hwas]
  rfl

theorem brakeStat_ne_lioEvt (a : Fin 8) : BRK_STAT a ≠ LIO_EVT ∧ BRK_STAT a / 65536 ≠ 0x4003 := by
  revert a; decide

theorem State.get_brakeEvt_ne (s : State) {a : Fin 8} {b : Nat} {f : Fld} (hne : f.addr ≠ LIO_EVT) (hlow : f.addr / 65536 ≠ 0x4003) :
    (s.brakeEvt a b).get f = s.get f := by
  unfold State.brakeEvt
  rw [State.get_raise_ne _ hne hlow]
  unfold State.get
  rw [State.reg_putOr_ne _ _ hne]

theorem State.brakeEvt_srv (s : State) (a : Fin 8) (b : Nat) : (s.brakeEvt a b).srv = s.srv := State.raise_srv _ _ _ _

theorem brakeSetTimeout_shown {s : State} (hup : s.up = true) {a : Fin 8} (hfben : s.get (BRK_CFG_FBEN a) = 1)
    (hout : s.get (BRK_STAT_OUT a) = 0) (hfb : s.get (BRK_STAT_FB a) = 1) (hwas : s.get (BRK_STAT_NOTSET a) = 0) :
    ∃ t, exec (.brakeSetTimeout a) s = .next t ∧ t.get (BRK_STAT_NOTSET a) = 1 ∧ bitOf (t.get ⟨LIO_EVT, 4, 0⟩) 1 = true ∧
      s.queued t 0xFF71 [a, 0, 0, 0, 0] ∧ s.keepsRegs t 24 [BRK_STAT a, LIO_EVT] := by
  obtain ⟨hne, hlow⟩ := brakeStat_ne_lioEvt a
  have hkept : s.keepsRegs ((s.brakeSettled a).put (BRK_STAT_NOTSET a) 1) 24 [BRK_STAT a, LIO_EVT] :=
    (State.keepsRegs.refl s 24 _).modLio.put (f := BRK_STAT_NOTSET a) List.mem_cons_self
  refine ⟨_, exec_brakeSetTimeout hup hfben hout hfb hwas, ?_, ?_, State.queued_emcy (State.brakeEvt_srv _ a 1),
    (hkept.brakeEvt (List.mem_cons_of_mem _ List.mem_cons_self)).emcy⟩
  · rw [State.get_emcy, State.get_brakeEvt_ne _ (by exact hne) (by exact hlow)]
    exact State.get_put_fits _ _ (by show 1 < 2 ^ 1; decide) (by decide : 24 < 32) (le_refl 24)
  · rw [State.get_emcy]
    exact State.brakeEvt_bit _ a (by decide)

/-! ### The feedback line of a brake -/

/-- The supervisor reads the line too (R46). -/
def State.brkFbRead (s : State) (a : Fin 8) (lifted : Bool) : State := s.modBg fun b =>
  if b.powered then { b with brkFb := if lifted then b.brkFb ||| BitVec.ofNat 8 (2 ^ a.1) else b.brkFb &&& ~~~BitVec.ofNat 8 (2 ^ a.1) }
  else b

/-- A change of the output explains the new level. -/
def State.brkFbExplained (s : State) (a : Fin 8) (lifted : Bool) : Bool :=
  s.lio.brkWait.getLsbD a.1 && s.flag (BRK_STAT_OUT a) == lifted

/-- The line is shown, and a change without a cause is an event. -/
def State.brkFbShown (s : State) (a : Fin 8) (lifted : Bool) : State :=
  if s.brkFbExplained a lifted then (s.put (BRK_STAT_FB a) (b2n lifted)).brakeSettled a
  else if s.flag (BRK_CFG_FBEN a) then (s.put (BRK_STAT_FB a) (b2n lifted)).brakeEvt a 0 else s.put (BRK_STAT_FB a) (b2n lifted)

/-- In step 2 a lifted brake starts T_LIFT. -/
def State.brkFbActs (s : State) (a : Fin 8) (lifted : Bool) : State :=
  if lifted && s.flag (BRK_CFG_FBEN a) && s.axes[a].step == 2 then (s.brkFbShown a lifted).modAxis a Axis.lift else s.brkFbShown a lifted

theorem exec_brkFbChange {s : State} (hup : s.up = true) {a : Fin 8} {lifted : Bool} (hhas : s.hasAxis a = true)
    (hfb : s.flag (BRK_STAT_FB a) = !lifted) :
    exec (.brkFbChange a lifted) s = .next ((s.brkFbRead a lifted).brkFbActs a lifted) := by
  have hup' : (s.brkFbRead a lifted).up = true := hup
  have hfb' : (s.brkFbRead a lifted).flag (BRK_STAT_FB a) ≠ lifted := by
    show s.flag (BRK_STAT_FB a) ≠ lifted
    rw [hfb]
    cases lifted <;> decide
  refine congrArg Host.Outcome.next ?_
  rw [hhas, if_neg (by decide)]
  exact (State.whenUp_of_up hup' _).trans (if_neg hfb')

theorem State.brkFbRead_bit (s : State) (a : Fin 8) (lifted : Bool) (hpowered : s.bg.powered = true) :
    (s.brkFbRead a lifted).bg.brkFb.getLsbD a = lifted := by
  unfold State.brkFbRead
  rw [State.modBg_bg, hpowered, if_pos rfl]
  exact getLsbD_setBit s.bg.brkFb a lifted

/-- A property of the new level put that settling, an event and the start of T_LIFT keep. -/
theorem State.brkFbActs_cases {P : State → Prop} {s : State} {a : Fin 8} {lifted : Bool} (hput : P (s.put (BRK_STAT_FB a) (b2n lifted)))
    (hsettled : ∀ t, P t → P (t.brakeSettled a)) (hevt : ∀ t, P t → P (t.brakeEvt a 0)) (hlift : ∀ t, P t → P (t.modAxis a Axis.lift)) :
    P (s.brkFbActs a lifted) := by
  have hshown : P (s.brkFbShown a lifted) := by
    unfold State.brkFbShown
    split
    · exact hsettled _ hput
    · split
      · exact hevt _ hput
      · exact hput
  unfold State.brkFbActs
  split
  · exact hlift _ hshown
  · exact hshown

/-- The level is shown, the supervisor stands as in `bg`, and no other axis and no other register of the block has changed. -/
def State.brkFbSaid (s t : State) (a : Fin 8) (lifted : Bool) (bg : Badger) : Prop :=
  t.get (BRK_STAT_FB a) = b2n lifted ∧ t.bg = bg ∧ s.keepsOtherAxes t a ∧ s.keepsRegs t 24 [BRK_STAT a, LIO_EVT]

theorem State.brkFbSaid.brakeEvt {s t : State} {a : Fin 8} {lifted : Bool} {bg : Badger} (h : s.brkFbSaid t a lifted bg) :
    s.brkFbSaid (t.brakeEvt a 0) a lifted bg := by
  obtain ⟨hfb, hbg, haxes, hregs⟩ := h
  obtain ⟨hne, hlow⟩ := brakeStat_ne_lioEvt a
  exact ⟨(t.get_brakeEvt_ne (f := BRK_STAT_FB a) hne hlow).trans hfb, (State.raise_bg _ _ _ _).trans hbg,
    haxes.congr (t.brakeEvt_axes a 0), hregs.brakeEvt (List.mem_cons_of_mem _ List.mem_cons_self)⟩

theorem State.brkFbSaid_brkFbActs (s : State) (a : Fin 8) (lifted : Bool) :
    s.brkFbSaid ((s.brkFbRead a lifted).brkFbActs a lifted) a lifted (s.brkFbRead a lifted).bg := by
  refine State.brkFbActs_cases (P := fun t => s.brkFbSaid t a lifted (s.brkFbRead a lifted).bg) ⟨?_, ?_, ?_, ?_⟩ (fun _ h => h)
    (fun _ h => h.brakeEvt) fun t h => ?_
  · exact State.get_put_fits _ _ (b2n_lt lifted) (by decide : 28 < 32) (le_refl 28)
  · exact State.put_bg _ _ _
  · exact (State.keepsOtherAxes.refl s a).congr ((State.put_axes _ _ _).trans rfl)
  · exact (State.keepsRegs.refl s 24 _).modBg.put (f := BRK_STAT_FB a) List.mem_cons_self
  · obtain ⟨hfb, hbg, haxes, hregs⟩ := h
    exact ⟨hfb, hbg, haxes.modAxis, hregs.modAxis⟩

/-! ### The statement -/

/-- Settles O22, input by input: each clause is the command's effect, as its lemma above says it, within the frame of the command. -/
theorem inputsOutputsAndBrakes : Obligations.InputsOutputsAndBrakes := by
  intro s hup
  refine ⟨fun v => ?_, fun k hout hon hclaimed => ?_, fun i sum hen hrole hout hbad hwas => ainWindow_bad hup hen hrole hout hbad hwas,
    fun i sum hen hrole hlow hhigh hexact hgood => ainWindow_good hup hen hrole hlow hhigh hexact hgood,
    fun a m hm hsafe hslack hwas hreact => slackLineDetect_warned hup hm hsafe hslack hwas hreact,
    fun a m hm hsafe hslack hwas hreact => ?_, fun a hsafe hlimit husable habove => ?_,
    fun a hhas hsafe hen hstep hlifting hfben => brakeReleaseTimeout_lifts hup hhas hsafe hen hstep hlifting hfben,
    fun a hhas hsafe hen hstep hlifting hfben hfb => ?_, fun a hfben hout hfb hwas => ?_, fun a lifted hhas hfb => ?_⟩
  · obtain ⟨t, hexec, hlvl, hevt, hlio, hregs⟩ := gpiChange_shown hup v
    exact ⟨t, hexec, hlvl, hevt, hlio, onlyChanges_of_keeps (execGpiChange_keeps v s) hexec (by decide), hregs⟩
  · obtain ⟨t, hexec, hovl, hoff, hqueued, hregs⟩ := gpoOverload_shown hup hout hon hclaimed
    exact ⟨t, hexec, hovl, hoff, hqueued, onlyChanges_of_keeps (execGpoOverload_keeps k s) hexec (by decide), hregs⟩
  · obtain ⟨t, hexec, hslacked, hfault, hmap, hothers⟩ := slackLineDetect_faulted hup hm hsafe hslack hwas hreact
    exact ⟨t, hexec, hslacked, hfault, hmap, hothers, onlyChanges_of_keeps (execSlackLineDetect_keeps a s) hexec (by decide)⟩
  · have hexec := exec_drumOverspeedDetect hup hsafe hlimit husable habove
    obtain ⟨hfault, hmap, hothers⟩ := winchFault_shown (c := 4) hsafe (by decide) (.refl s a)
    exact ⟨_, hexec, hfault, hmap, hothers, onlyChanges_of_keeps (execDrumOverspeedDetect_keeps a s) hexec (by decide)⟩
  · obtain ⟨t, hexec, hfault, hevt, haxis, hothers⟩ := brakeReleaseTimeout_faulted hup hhas hsafe hen hstep hlifting hfben hfb
    exact ⟨t, hexec, hfault, hevt, haxis, hothers, onlyChanges_of_keeps (execBrakeReleaseTimeout_keeps a s) hexec (by decide)⟩
  · obtain ⟨t, hexec, hnotset, hevt, hqueued, hregs⟩ := brakeSetTimeout_shown hup hfben hout hfb hwas
    exact ⟨t, hexec, hnotset, hevt, hqueued, onlyChanges_of_keeps (execBrakeSetTimeout_keeps a s) hexec (by decide), hregs⟩
  · have hexec := exec_brkFbChange hup hhas hfb
    obtain ⟨hshown, hbg, hothers, hregs⟩ := s.brkFbSaid_brkFbActs a lifted
    refine ⟨_, hexec, hshown, fun hpowered => ?_, hothers, onlyChanges_of_keeps (execBrkFbChange_keeps a lifted s) hexec (by decide), hregs⟩
    rw [hbg]
    exact s.brkFbRead_bit a lifted hpowered

end Sys2Proof.Machine
end

section
/-! PROOFS. A pending EMERGENCY at the end of the pre-charge (R81, R83). -/

namespace Sys2Proof.Machine

/-- A started unit of speed class 1 with HALT_N high, whose axis 1 is in SPEED in the pre-charge of its enable sequence, without a brake,
and turns at 200 min^-1, above the EMERGENCY clamp of its class (135 min^-1). -/
def speedPrecharge : State :=
  let unit := (State.reset.modSys fun y => { y with phase := .run, haltN := true }).modBg fun b => { b with snap := 16 }
  let turning := (unit.put (ENG_SPD_V 1) (200 * 65536)).setReg (AX_QSDEC 1) 700
  turning.modAxis 1 fun x => { x with st := .enabled, mode := 3, step := 1 }

/-- Axis 1 stands as the clause of O13 on the end of a pre-charge without a brake asks. -/
def endsPrecharge (s : State) : Bool :=
  decide (s.up = true ∧ s.hasAxis 1 = true ∧ s.axes[(1 : Fin 8)].code = 3 ∧ s.axes[(1 : Fin 8)].step = 1 ∧
    s.axes[(1 : Fin 8)].ramp = .none ∧ s.axes[(1 : Fin 8)].warm = false ∧ s.get (BRK_CFG_EN 1) = 0 ∧
    bitOf (s.get (AX_CW_CW 1)) 8 = false)

/-- An emergency request above the clamp leaves the axis in its pre-charge, with EMERGENCY pending (R83, log entry 68); at the end of the
pre-charge the axis takes the ramp toward the clamp. -/
theorem pending_emergency_takes_its_ramp :
    leadsTo (exec (.emergencyRequestOn 1) speedPrecharge) (fun s => endsPrecharge s &&
      leadsTo (exec (.prechargeEnd 1) s) fun t => t.axes[(1 : Fin 8)].ramp == .pendEmg) = true := by
  decide +kernel

/-- Refutes O13: its clauses on the end of the pre-charge without a brake and on the end of the lift wait ask for the reference ramp of the
mode, without the premise that no EMERGENCY is pending. An emergency request during the pre-charge makes one pending without changing what
the clause asks of the axis, and then the pre-charge ends in the ramp toward the EMERGENCY clamp (R83). -/
theorem not_enableSequenceAndStandstill : ¬ Obligations.EnableSequenceAndStandstill := by
  intro h
  obtain ⟨s, -, hreached⟩ := exists_next_of_leadsTo pending_emergency_takes_its_ramp
  obtain ⟨hpremises, hpending⟩ := Bool.and_eq_true_iff.mp hreached
  obtain ⟨hup, haxis, hcode, hstep, hnone, hwarm, hbrake, hhalt⟩ := of_decide_eq_true hpremises
  obtain ⟨u, hnext, hramp⟩ := exists_next_of_leadsTo hpending
  obtain ⟨-, hprecharge, -⟩ := h s 1 hup haxis
  obtain ⟨t, hexec, -, hspeed, -⟩ := hprecharge hcode hstep hnone hwarm hbrake hhalt
  obtain rfl : t = u := Host.Outcome.next.inj (hexec.symm.trans hnext)
  rw [hspeed] at hramp
  exact absurd hramp (by decide)

end Sys2Proof.Machine
end

section
/-! PROOFS. What the steps of the sequencer leave of an axis and of its registers: a state change, a refusal, a fast halt, a ramp and the
entry into a mode (R66, R74, R78, R80, R81). -/

namespace Sys2Proof.Machine

/-! ### Frames -/

theorem State.keepsRegs.mono {s t : State} {block : Fin 32} {but more : List Nat} (h : s.keepsRegs t block but) (hsub : but ⊆ more) :
    s.keepsRegs t block more := fun a ha hnot => h a ha fun hmem => hnot (hsub hmem)

/-- Registers of block 17 that judging a controlword of axis `a` may write. -/
def judgedRegs (a : Fin 8) : List Nat := AX_EVT a :: ENG_STAT a :: [AX_REFUSE a, AX_ERR a, ENG_FAULT a]

theorem haltRegs_subset_judgedRegs (a : Fin 8) : haltRegs a ⊆ judgedRegs a :=
  List.cons_subset_cons _ (List.cons_subset_cons _ (List.nil_subset _))

/-- The judgement of a controlword of axis `a` leads from `s` to `t`: no other axis has changed, and in block 17 only its registers. -/
def State.judges (s t : State) (a : Fin 8) : Prop := s.keepsOtherAxes t a ∧ s.keepsRegs t 17 (judgedRegs a)

theorem State.judges.refl (s : State) (a : Fin 8) : s.judges s a := ⟨.refl s a, .refl s 17 _⟩

theorem State.judges.modAxis {s t : State} {a : Fin 8} (h : s.judges t a) {f : Axis → Axis} : s.judges (t.modAxis a f) a :=
  ⟨h.1.modAxis, h.2.modAxis⟩

/-- An operation that touches neither the axes nor block 17. -/
theorem State.judges.ev {s t u : State} {a : Fin 8} {m : Nat} (h : s.judges t a) (hev : Ev m t u) (haxes : m.testBit 10 = false)
    (hregs : m.testBit 49 = false) : s.judges u a :=
  ⟨h.1.congr (hev.same .axes haxes), h.2.congr fun _ hx => hev.reg 17 hx hregs⟩

theorem State.judges.put {s t : State} {a : Fin 8} (h : s.judges t a) {f : Fld} {v : Nat} (ha : f.addr ∈ judgedRegs a) :
    s.judges (t.put f v) a :=
  ⟨h.1.congr (t.put_axes f v), h.2.put ha⟩

theorem State.judges.accept {s t : State} {a : Fin 8} (h : s.judges t a) : s.judges (t.accept a) a := h.modAxis

theorem State.judges.axisTo {s t : State} {a : Fin 8} (h : s.judges t a) {st : Cia} {mode : Int} : s.judges (t.axisTo a st mode) a :=
  ⟨h.1.axisTo, h.2.axisTo List.mem_cons_self (by decide)⟩

theorem State.judges.raise {s t : State} {a : Fin 8} (h : s.judges t a) {i : Nat} : s.judges (t.raise (axEvt a) i (evAxis a)) a :=
  ⟨h.1.congr (t.raise_axes _ _ _), h.2.raise (f := axEvt a) List.mem_cons_self (by decide)⟩

theorem State.judges.fastHalt {s t : State} {a : Fin 8} (h : s.judges t a) : s.judges (t.fastHalt a) a := by
  have hhalt := (State.fastHalt_keepsRegs (State.keepsRegs.refl t 17 (haltRegs a))).mono (haltRegs_subset_judgedRegs a)
  exact ⟨State.fastHalt_otherAxes h.1, fun x hx hnot => (hhalt x hx hnot).trans (h.2 x hx hnot)⟩

/-! ### State changes (R66) -/

theorem State.axis_congr {s t : State} (h : t.axes = s.axes) (a : Fin 8) : t.axes[a] = s.axes[a] :=
  congrArg (fun v : Vector Axis 8 => v[a]) h

theorem State.modAxis_axis (s : State) (a : Fin 8) (f : Axis → Axis) : (s.modAxis a f).axes[a] = f s.axes[a] := upd_same _ _ _

/-- An axis that has taken a state, with its mode and the EMCYs it withholds. -/
def Axis.taken (x : Axis) (st : Cia) (mode : Int) (withheld : List Nat) : Axis := { x with st := st, mode := mode, withheld := withheld }

/-- An axis that takes a state keeps everything but its mode and the EMCYs withheld. -/
theorem State.axisTo_axis (s : State) (a : Fin 8) (st : Cia) (mode : Int) :
    ∃ w, (s.axisTo a st mode).axes[a] = s.axes[a].taken st mode w := by
  unfold State.axisTo
  extract_lets old moved new marked lit shown
  have hmoved : moved.axes[a] = s.axes[a].taken st mode s.axes[a].withheld := s.modAxis_axis a _
  have hmarked : marked.axes = moved.axes := by
    simp only [marked]
    split <;> rfl
  have hlit : lit.axes[a] = moved.axes[a] := by
    refine State.axis_congr ?_ a
    simp only [lit]
    split <;> exact hmarked
  have hshown : ∃ w, shown.axes[a] = s.axes[a].taken st mode w := by
    simp only [shown]
    split
    · exact ⟨_, hlit.trans hmoved⟩
    · exact ⟨[], (State.modAxis_axis _ _ _).trans (congrArg (fun x => { x with withheld := [] }) (hlit.trans hmoved))⟩
  split
  · exact hshown
  · obtain ⟨w, hw⟩ := hshown
    exact ⟨w, (State.axis_congr (State.raise_axes _ _ _ _) a).trans hw⟩

theorem State.axisTo_keeps {α : Type} (part : Axis → α) (s : State) (a : Fin 8) (st : Cia) (mode : Int)
    (hpart : ∀ (x : Axis) (c : Cia) (m : Int) (w : List Nat), part (x.taken c m w) = part x := by exact fun _ _ _ _ => rfl) :
    part (s.axisTo a st mode).axes[a] = part s.axes[a] := by
  obtain ⟨w, hw⟩ := s.axisTo_axis a st mode
  rw [hw, hpart]

theorem State.axisTo_mode (s : State) (a : Fin 8) (st : Cia) (mode : Int) : (s.axisTo a st mode).axes[a].mode = mode := by
  obtain ⟨w, hw⟩ := s.axisTo_axis a st mode
  rw [hw]
  rfl

/-- A state change shows itself in AX_EVT alone. -/
theorem State.reg_axisTo (s : State) {a : Fin 8} {st : Cia} {mode : Int} {x : Nat} (b : Fin 32) (hb : b ≠ 3)
    (hblock : x / 65536 % 32 = b.1) (hnot : x ≠ AX_EVT a) : (s.axisTo a st mode).reg x = s.reg x :=
  ((State.keepsRegs.refl s b [AX_EVT a]).axisTo List.mem_cons_self hb) x hblock fun h => hnot (List.mem_singleton.mp h)

theorem State.get_axisTo (s : State) {a : Fin 8} {st : Cia} {mode : Int} {f : Fld} (b : Fin 32) (hb : b ≠ 3)
    (hblock : f.addr / 65536 % 32 = b.1) (hnot : f.addr ≠ AX_EVT a) : (s.axisTo a st mode).get f = s.get f :=
  congrArg (fun w : Word => fieldOf w f.hi f.lo) (s.reg_axisTo b hb hblock hnot)

theorem State.accept_keeps {α : Type} (part : Axis → α) (s : State) (a : Fin 8)
    (hpart : ∀ x : Axis, part { x with withheld := [] } = part x := by exact fun _ => rfl) :
    part (s.accept a).axes[a] = part s.axes[a] := by
  unfold State.accept
  rw [State.modAxis_axis, hpart]

@[simp] theorem State.get_accept (s : State) (a : Fin 8) (f : Fld) : (s.accept a).get f = s.get f := rfl
@[simp] theorem State.reg_accept (s : State) (a : Fin 8) (x : Nat) : (s.accept a).reg x = s.reg x := rfl

/-! ### Refusals (R74) -/

/-- The refusal as AX_REFUSE records it, with AX_EVT.REFUSED. -/
def State.refusalNoted (s : State) (a : Fin 8) (cmd reason : Nat) : State :=
  (((s.bump (AX_REFUSE_COUNT a)).put (AX_REFUSE_REASON a) reason).put (AX_REFUSE_CMD a) cmd).raise (axEvt a) 1 (evAxis a)

theorem State.refuse_eq (s : State) (a : Fin 8) (cmd reason : Nat) (req : Int) : s.refuse a cmd reason req =
    (if reason ∈ s.axes[a].withheld then s.refusalNoted a cmd reason
      else ((s.refusalNoted a cmd reason).emcy (0xFF00 + reason) [a, cmd, s.axes[a].st.code, modeByte req, 0]).modAxis a
        fun x => { x with withheld := reason :: x.withheld }).modAxis a fun x => { x with refusedNow := true } := rfl

theorem State.refusalNoted_axes (s : State) (a : Fin 8) (cmd reason : Nat) : (s.refusalNoted a cmd reason).axes = s.axes :=
  (State.raise_axes _ _ _ _).trans ((State.put_axes _ _ _).trans ((State.put_axes _ _ _).trans (State.put_axes _ _ _)))

/-- An axis whose command has been refused. -/
def Axis.refused (x : Axis) (withheld : List Nat) : Axis := { x with withheld := withheld, refusedNow := true }

/-- A refused axis keeps everything but what says so. -/
theorem State.refuse_axis (s : State) (a : Fin 8) (cmd reason : Nat) (req : Int) :
    ∃ w, (s.refuse a cmd reason req).axes[a] = s.axes[a].refused w := by
  have hnoted : (s.refusalNoted a cmd reason).axes[a] = s.axes[a] := State.axis_congr (s.refusalNoted_axes a cmd reason) a
  rw [State.refuse_eq]
  split
  · refine ⟨s.axes[a].withheld, ?_⟩
    rw [State.modAxis_axis, hnoted]
    rfl
  · refine ⟨reason :: s.axes[a].withheld, ?_⟩
    rw [State.modAxis_axis, State.modAxis_axis, (State.axis_congr (State.emcy_axes _ _ _) a).trans hnoted]
    rfl

theorem State.refuse_get (s : State) (a : Fin 8) (cmd reason : Nat) (req : Int) (f : Fld) :
    (s.refuse a cmd reason req).get f = (s.refusalNoted a cmd reason).get f := by
  rw [State.refuse_eq, State.get_modAxis]
  split
  · rfl
  · rw [State.get_modAxis, State.get_emcy]

theorem State.refusalNoted_reason (s : State) (a : Fin 8) (cmd : Nat) {reason : Nat} (h : reason < 256) :
    (s.refusalNoted a cmd reason).get (AX_REFUSE_REASON a) = reason := by
  obtain ⟨hne, hlow⟩ : AX_REFUSE a ≠ AX_EVT a ∧ AX_REFUSE a / 65536 ≠ 0x4003 := by revert a; decide
  unfold State.refusalNoted
  rw [State.get_raise_ne _ (by exact hne) (by exact hlow)]
  rw [State.get_put_disj (f := AX_REFUSE_CMD a) (g := AX_REFUSE_REASON a) _ _ (Nat.zero_le 7) (by decide : 15 < 32) (by decide : 8 ≤ 15)
    (.inl (by decide : 7 < 8))]
  exact State.get_put_fits _ _ h (by decide : 15 < 32) (by decide : 8 ≤ 15)

theorem State.refusalNoted_cmd (s : State) (a : Fin 8) {cmd : Nat} (reason : Nat) (h : cmd < 256) :
    (s.refusalNoted a cmd reason).get (AX_REFUSE_CMD a) = cmd := by
  obtain ⟨hne, hlow⟩ : AX_REFUSE a ≠ AX_EVT a ∧ AX_REFUSE a / 65536 ≠ 0x4003 := by revert a; decide
  unfold State.refusalNoted
  rw [State.get_raise_ne _ (by exact hne) (by exact hlow)]
  exact State.get_put_fits _ _ h (by decide : 7 < 32) (Nat.zero_le 7)

/-- A refusal is what R74 says of it. -/
theorem State.refuses_refuse {s t : State} {a : Fin 8} {cmd reason : Nat} (haxes : t.axes = s.axes) (hcmd : cmd < 256)
    (hreason : reason < 256) (req : Int) : s.refuses (t.refuse a cmd reason req) a cmd reason := by
  obtain ⟨w, hw⟩ := t.refuse_axis a cmd reason req
  refine ⟨(t.refuse_get a cmd reason req _).trans (t.refusalNoted_reason a cmd hreason),
    (t.refuse_get a cmd reason req _).trans (t.refusalNoted_cmd a reason hcmd), ?_, ?_, ?_, ?_⟩ <;>
    rw [hw, State.axis_congr haxes a] <;> rfl

theorem State.judges.refuse {s t : State} {a : Fin 8} (h : s.judges t a) {cmd reason : Nat} {req : Int} :
    s.judges (t.refuse a cmd reason req) a := by
  have hmem : AX_REFUSE a ∈ judgedRegs a := List.mem_cons_of_mem _ (List.mem_cons_of_mem _ List.mem_cons_self)
  have hnoted : s.judges (t.refusalNoted a cmd reason) a := ((((h.put hmem).put hmem).put hmem).raise)
  rw [State.refuse_eq]
  split
  · exact hnoted.modAxis
  · exact ((hnoted.ev (Ev.emcy (m := 0x4000) (.refl _ _)) (by decide) (by decide)).modAxis).modAxis

/-! ### The fast halt (R78) -/

theorem State.brakeCmd_axes (s : State) (a : Fin 8) (release : Bool) : (s.brakeCmd a release).axes = s.axes :=
  (State.brakeCmd_ev (m := 0x100000000100000) (.refl _ s) (by decide)).same .axes (by decide)

/-- What a stopped engine leaves of its axis. -/
def Axis.stopped (x : Axis) : Axis :=
  { x with step := 0, lifting := false, ramp := .none, idle := false, pendEmg := false, byScs := false, warm := false, clampFrom := none }

theorem State.stopEngine_axis (s : State) (a : Fin 8) : (s.stopEngine a).axes[a] = s.axes[a].stopped := by
  have hputs : (((s.put (ENG_STAT_EDGES a) 0).put (ENG_STAT_PRECHG a) 0).put (ENG_STAT_LIMIT a) 0).axes = s.axes := by
    simp only [State.put_axes]
  exact (State.modAxis_axis _ a Axis.stopped).trans (congrArg Axis.stopped (State.axis_congr hputs a))

theorem State.levelsOff_axes (s : State) (a : Fin 8) : (s.levelsOff a).axes = s.axes := by
  unfold State.levelsOff
  rw [State.modEng_axes]

theorem State.fastHalt_axis (s : State) (a : Fin 8) : (s.fastHalt a).axes[a] = s.axes[a].stopped := by
  have hstop : ((s.haltAxisPorts a).stopEngine a).axes[a] = s.axes[a].stopped :=
    (State.stopEngine_axis _ a).trans (congrArg Axis.stopped (State.axis_congr (s.haltAxisPorts_axes a) a))
  unfold State.fastHalt State.haltAxis
  rw [State.axis_congr (State.brakeCmd_axes _ a false) a, State.axis_congr (State.levelsOff_axes _ a) a]
  exact hstop

/-- A fast halt into a state: no edges, the brake commanded set, the axis in the state without a ramp. -/
theorem State.fastHalt_axisTo_shown (s : State) (a : Fin 8) (st : Cia) (mode : Int) {t : State}
    (ht : t = ((s.fastHalt a).axisTo a st mode).accept a) :
    t.axes[a].st = st ∧ t.get (ENG_STAT_EDGES a) = 0 ∧ t.get (BRK_STAT_CMD a) = 0 ∧ t.axes[a].step = 0 ∧ t.axes[a].ramp = .none := by
  obtain ⟨⟨heng, hengNot⟩, hbrk, hbrkNot⟩ : (ENG_STAT a / 65536 % 32 = 17 ∧ ENG_STAT a ≠ AX_EVT a) ∧ BRK_STAT a / 65536 % 32 = 24 ∧
      BRK_STAT a ≠ AX_EVT a := by
    clear ht; revert a; decide
  have hstep : (s.fastHalt a).axes[a].step = 0 := congrArg Axis.step (s.fastHalt_axis a)
  have hramp : (s.fastHalt a).axes[a].ramp = .none := congrArg Axis.ramp (s.fastHalt_axis a)
  rw [ht, State.get_accept, State.get_accept]
  exact ⟨(State.accept_keeps Axis.st _ a).trans (State.axisTo_st _ a st mode),
    (State.get_axisTo _ 17 (by decide) heng hengNot).trans (s.fastHalt_edges a),
    (State.get_axisTo _ 24 (by decide) hbrk hbrkNot).trans (s.fastHalt_cmd a),
    ((State.accept_keeps Axis.step _ a).trans (State.axisTo_keeps Axis.step _ a st mode)).trans hstep,
    ((State.accept_keeps Axis.ramp _ a).trans (State.axisTo_keeps Axis.ramp _ a st mode)).trans hramp⟩

/-! ### Ramps (R80) -/

/-- The axis as a ramp begins, before its references are set. -/
def State.rampSet (s : State) (a : Fin 8) (r : Ramp) (st : Cia) (cmd : Nat) : State :=
  let x := s.axes[a]
  let leaves : Bool := r.stops && (x.step == 1 || x.step == 2)
  (if leaves then s.put (ENG_STAT_PRECHG a) 0 else s).modAxis a fun y => { y with
    ramp := r
    rampCmd := some cmd
    idle := false
    step := if leaves then 0 else y.step
    lifting := y.lifting && !leaves
    spdRef := if st == .quickStop || x.torqueLoop || leaves then s.spdNow a else y.spdRef }

/-- The references a ramp begins at: a torque ramp, and the loop that follows another one, at the last torque demand. -/
def State.rampFrom (s u : State) (a : Fin 8) (r : Ramp) : State :=
  match r with
  | .stopTorque _ => u.modAxis a fun y => { y with tqRef := s.eng[a].tLast }
  | _ => if s.axes[a].torqueLoop && !u.axes[a].torqueLoop then (u.modEng a fun e => { e with intS := s.eng[a].tLast })
    else if !s.axes[a].torqueLoop && u.axes[a].torqueLoop && !s.axes[a].idle && s.axes[a].step == 3 then
      u.modAxis a fun y => { y with tqRef := s.eng[a].tLast }
    else u

theorem State.beginRamp_of_rate {s : State} {a : Fin 8} {r : Ramp} (h : r.rate s a ≠ 0) (st : Cia) (cmd : Nat) : s.beginRamp a r st cmd =
    if r.stops && s.axes[a].ramp == r && s.axes[a].st == st then s
    else (s.rampFrom (s.rampSet a r st cmd) a r).axisTo a st s.axes[a].mode := by
  unfold State.beginRamp
  dsimp only
  rw [if_neg h]
  rfl

/-- Setting the references changes the axis in its torque reference at most. -/
theorem State.rampFrom_cases {P : State → Prop} {s u : State} {a : Fin 8} {r : Ramp} (h : P u)
    (haxis : ∀ q : Int, P (u.modAxis a fun y => { y with tqRef := q })) (heng : ∀ f, P (u.modEng a f)) : P (s.rampFrom u a r) := by
  unfold State.rampFrom
  split
  · exact haxis _
  · split
    · exact heng _
    · split
      · exact haxis _
      · exact h

theorem State.rampSet_ramp (s : State) (a : Fin 8) (r : Ramp) (st : Cia) (cmd : Nat) : (s.rampSet a r st cmd).axes[a].ramp = r := by
  unfold State.rampSet
  rw [State.modAxis_axis]

theorem State.judges.rampSet {s t : State} {a : Fin 8} (h : s.judges t a) {r : Ramp} {st : Cia} {cmd : Nat} :
    s.judges (t.rampSet a r st cmd) a := by
  have hmem : ENG_STAT a ∈ judgedRegs a := List.mem_cons_of_mem _ List.mem_cons_self
  have hleaves : ∀ leaves : Bool, s.judges (if leaves then t.put (ENG_STAT_PRECHG a) 0 else t) a := by
    intro leaves
    split
    · exact h.put hmem
    · exact h
  exact (hleaves _).modAxis

/-- A ramp at a rate begins: the axis is on it, in the state named. -/
theorem State.beginRamp_shown {s : State} {a : Fin 8} {r : Ramp} (h : r.rate s a ≠ 0) (st : Cia) (cmd : Nat) :
    (s.beginRamp a r st cmd).axes[a].st = st ∧ (s.beginRamp a r st cmd).axes[a].ramp = r := by
  rw [State.beginRamp_of_rate h]
  split
  next hruns =>
    obtain ⟨hramp, hst⟩ := Bool.and_eq_true_iff.mp hruns
    exact ⟨beq_iff_eq.mp hst, beq_iff_eq.mp (Bool.and_eq_true_iff.mp hramp).2⟩
  next =>
    refine ⟨State.axisTo_st _ _ _ _, (State.axisTo_keeps Axis.ramp _ a st _).trans ?_⟩
    have hset := s.rampSet_ramp a r st cmd
    exact State.rampFrom_cases (P := fun u => u.axes[a].ramp = r) hset (fun q => by rw [State.modAxis_axis]; exact hset) fun _ => hset

theorem State.judges.beginRamp {s t : State} {a : Fin 8} (h : s.judges t a) {r : Ramp} (hrate : r.rate t a ≠ 0) {st : Cia} {cmd : Nat} :
    s.judges (t.beginRamp a r st cmd) a := by
  rw [State.beginRamp_of_rate hrate]
  split
  · exact h
  · have hset : s.judges (t.rampSet a r st cmd) a := h.rampSet
    exact (State.rampFrom_cases (P := fun u => s.judges u a) hset (fun _ => hset.modAxis) fun _ => hset).axisTo

/-! ### The entry into a mode (R81, R308) -/

/-- Step 1 of the enable sequence: edges and pre-charge, the references of the axis at rest. -/
def State.enableSet (s : State) (a : Fin 8) : State :=
  ((s.put (ENG_STAT_EDGES a) 1).put (ENG_STAT_PRECHG a) 1).modAxis a
    fun x => { x with step := 1, lifting := false, ramp := .none, idle := false, byScs := false, spdRef := s.spdNow a, tqRef := 0,
                      rampCmd := none }

/-- With an enabled source that is not lost no drive fault meets the entry (R349). -/
theorem State.enterMode_of_feedback {s : State} {a : Fin 8} (hen : s.chanEn (s.get (ENG_FB_SRC a)) = true)
    (hloss : s.chanLoss (s.get (ENG_FB_SRC a)) = false) (m : Int) :
    s.enterMode a m = ((s.enableSet a).presetLoops a).axisTo a .enabled m := by
  unfold State.enterMode
  dsimp only
  rw [hen, hloss, if_neg (by decide)]
  rfl

theorem State.judges.enableSet {s t : State} {a : Fin 8} (h : s.judges t a) : s.judges (t.enableSet a) a := by
  have hmem : ENG_STAT a ∈ judgedRegs a := List.mem_cons_of_mem _ List.mem_cons_self
  exact ((h.put (f := ENG_STAT_EDGES a) hmem).put (f := ENG_STAT_PRECHG a) hmem).modAxis

theorem State.judges.presetLoops {s t : State} {a : Fin 8} (h : s.judges t a) : s.judges (t.presetLoops a) a :=
  h.ev (State.presetLoops_ev (m := 0x10000) (.refl _ t) (by decide)) (by decide) (by decide)

theorem State.presetLoops_axes (s : State) (a : Fin 8) : (s.presetLoops a).axes = s.axes := by
  unfold State.presetLoops
  extract_lets ke
  rw [State.modEng_axes]

theorem State.get_presetLoops (s : State) (a : Fin 8) (f : Fld) : (s.presetLoops a).get f = s.get f := by
  unfold State.presetLoops
  extract_lets ke
  rw [State.get_modEng]

theorem State.enableSet_step (s : State) (a : Fin 8) : (s.enableSet a).axes[a].step = 1 := by
  unfold State.enableSet
  rw [State.modAxis_axis]

theorem State.enableSet_edges (s : State) (a : Fin 8) : (s.enableSet a).get (ENG_STAT_EDGES a) = 1 := by
  unfold State.enableSet
  rw [State.get_modAxis, State.get_put_disj (f := ENG_STAT_PRECHG a) (g := ENG_STAT_EDGES a) _ _ (le_refl 30) (by decide : 31 < 32)
    (le_refl 31) (.inl (by decide : 30 < 31))]
  exact State.get_put_fits s (ENG_STAT_EDGES a) (by show 1 < 2 ^ 1; decide) (by decide : 31 < 32) (le_refl 31)

theorem State.enableSet_precharge (s : State) (a : Fin 8) : (s.enableSet a).get (ENG_STAT_PRECHG a) = 1 := by
  unfold State.enableSet
  rw [State.get_modAxis]
  exact State.get_put_fits _ (ENG_STAT_PRECHG a) (by show 1 < 2 ^ 1; decide) (by decide : 30 < 32) (le_refl 30)

end Sys2Proof.Machine
end

section
/-! PROOFS. The controlword: how a write is judged, and what it does in the SAFE states and in operation (R71 to R84, R89). -/

namespace Sys2Proof.Machine

/-! ### A write of AX_CW (R71, R72) -/

/-- A write of AX_CW by `src` is judged: its source is the one named, the unit may act, and nothing else has happened on the edge. -/
structure State.judgesCw (s : State) (a : Fin 8) (src : Bool) : Prop where
  up : s.up = true
  has : s.hasAxis a = true
  quiet : s.edge.marks = []
  source : s.get (AX_CWSRC_SRC a) = b2n src
  claimed : s.unclaimed = false
  settled : s.axes[a].warm = false
  alone : s.cp.take = none

/-- The controlword is stored. -/
def State.cwStored (s : State) (a : Fin 8) (v : BitVec 16) : State := s.put (AX_CW_CW a) v.toNat

theorem State.judgesCw.outcome {s : State} {a : Fin 8} {src p : Bool} (h : s.judgesCw a src) (v : BitVec 16) (hp : p = true) :
    (Host.Outcome.next (s.cwWhen p a src v) : Host.Outcome State Fault Refusal) =
      .next ((s.cwStored a v).evalCw a (s.get (AX_CW_CW a)) v.toNat) := by
  refine congrArg Host.Outcome.next ((State.whenHas_of_up h.up h.has _).trans ?_)
  rw [hp, if_pos rfl]
  unfold State.writeCw
  rw [if_neg (fun hne => hne h.source)]
  dsimp only
  rw [h.claimed, h.settled, h.alone]
  rfl

theorem State.cwStored_axes (s : State) (a : Fin 8) (v : BitVec 16) : (s.cwStored a v).axes = s.axes := State.put_axes _ _ _

theorem State.cwStored_axis (s : State) (a : Fin 8) (v : BitVec 16) (b : Fin 8) : (s.cwStored a v).axes[b] = s.axes[b] :=
  State.axis_congr (s.cwStored_axes a v) b

theorem State.get_cwStored_ne (s : State) {a : Fin 8} (v : BitVec 16) {f : Fld} (h : f.addr ≠ AX_CW a) :
    (s.cwStored a v).get f = s.get f := State.get_put_ne _ _ h

theorem State.reg_cwStored_ne (s : State) {a : Fin 8} (v : BitVec 16) {x : Nat} (h : x ≠ AX_CW a) :
    (s.cwStored a v).reg x = s.reg x := State.reg_put_ne _ _ h

/-- The stored controlword outlasts its judgement. -/
theorem State.judges.cw {s t : State} {a : Fin 8} {v : BitVec 16} (h : (s.cwStored a v).judges t a) :
    t.get (AX_CW_CW a) = v.toNat := by
  obtain ⟨hblock, hnot⟩ : AX_CW a / 65536 % 32 = 17 ∧ AX_CW a ∉ judgedRegs a := by
    clear h; revert a; decide
  exact (h.2.get (f := AX_CW_CW a) hblock hnot).trans (s.get_put_fits (AX_CW_CW a) v.isLt (by decide : 15 < 32) (Nat.zero_le 15))

theorem State.judges.others {s t : State} {a : Fin 8} {v : BitVec 16} (h : (s.cwStored a v).judges t a) : s.keepsOtherAxes t a :=
  fun b hb => (h.1 b hb).trans (s.cwStored_axis a v b)

/-! ### The judgement (R72, R77, R84) -/

theorem State.beatenBy_of_quiet {s : State} (h : s.edge.marks = []) (a : Fin 8) (r : Nat) : s.beatenBy a r = none := by
  unfold State.beatenBy State.actedOn
  rw [h]
  rfl

/-- Out of EMERGENCY and of Fault only the state command counts. -/
theorem State.evalCw_of_noFault {s : State} {a : Fin 8} (hquiet : s.edge.marks = []) (hcode : s.axes[a].code ≠ 5)
    (hst : s.axes[a].st ≠ .fault) (old v : Nat) : s.evalCw a old v = s.cwState a old v := by
  have hreset : s.faultReset a = s := if_pos (bne_iff_ne.mpr hst)
  unfold State.evalCw
  rw [State.beatenBy_of_quiet hquiet, hreset]
  dsimp only
  rw [if_neg hcode, ite_self, if_pos rfl]

theorem State.evalCw_of_emergency {s : State} {a : Fin 8} (hquiet : s.edge.marks = []) (hcode : s.axes[a].code = 5) (old v : Nat) :
    s.evalCw a old v = s.refuse a (cwCode old v) 0x26 (sgn 8 (s.get (AX_MODESEL_MODESEL a))) := by
  unfold State.evalCw
  rw [State.beatenBy_of_quiet hquiet]
  dsimp only
  rw [if_pos hcode]

theorem State.cwState_of_fault {s : State} {a : Fin 8} (h : s.axes[a].st = .fault) (old v : Nat) : s.cwState a old v = s := by
  unfold State.cwState
  dsimp only
  rw [h]

theorem Axis.code_of_not_running {x : Axis} (henabled : x.st ≠ .enabled) (hquick : x.st ≠ .quickStop) : x.code = 0 := by
  unfold Axis.code
  rw [beq_false_of_ne henabled, beq_false_of_ne hquick]
  rfl

/-- In Fault the rising bit 7 is a fault reset, and nothing else acts. -/
theorem State.evalCw_of_fault {s : State} {a : Fin 8} (hquiet : s.edge.marks = []) (hst : s.axes[a].st = .fault) {old v : Nat}
    (hset : bitOf v 7 = true) (hwas : bitOf old 7 = false) : s.evalCw a old v = s.faultReset a := by
  have hcode : s.axes[a].code ≠ 5 := by
    rw [Axis.code_of_not_running (by rw [hst]; decide) (by rw [hst]; decide)]
    decide
  unfold State.evalCw
  rw [State.beatenBy_of_quiet hquiet]
  have hrise : (bitOf v 7 && !bitOf old 7) = true := by rw [hset, hwas]; rfl
  dsimp only
  rw [if_neg hcode, hrise, if_pos rfl]
  split
  next hsame => exact State.cwState_of_fault (hsame.trans hst) old v
  next => rfl

/-! ### What the storing of a controlword leaves as it is -/

theorem State.cwStored_marks {s : State} (h : s.edge.marks = []) (a : Fin 8) (v : BitVec 16) : (s.cwStored a v).edge.marks = [] := h

theorem State.cwStored_modesel (s : State) (a : Fin 8) (v : BitVec 16) :
    (s.cwStored a v).get (AX_MODESEL_MODESEL a) = s.get (AX_MODESEL_MODESEL a) :=
  s.get_cwStored_ne v (by simp only [AX_MODESEL_MODESEL, AX_MODESEL, AX_CW]; omega)

theorem State.cwStored_opt (s : State) (a : Fin 8) (v : BitVec 16) {f : Fld} (h : f.addr = AX_OPT a) :
    (s.cwStored a v).get f = s.get f :=
  s.get_cwStored_ne v (by rw [h]; simp only [AX_OPT, AX_CW]; omega)

theorem State.cwStored_rate (s : State) (a : Fin 8) (v : BitVec 16) (r : Ramp) : r.rate (s.cwStored a v) a = r.rate s a := by
  have htslope := s.reg_cwStored_ne v (a := a) (x := AX_TSLOPE a) (by simp only [AX_TSLOPE, AX_CW]; omega)
  have hpdec := s.reg_cwStored_ne v (a := a) (x := AX_PDEC a) (by simp only [AX_PDEC, AX_CW]; omega)
  have hqsdec := s.reg_cwStored_ne v (a := a) (x := AX_QSDEC a) (by simp only [AX_QSDEC, AX_CW]; omega)
  cases r with
  | none | speed => rfl
  | torque | stopTorque => exact congrArg BitVec.toNat htslope
  | pendEmg => exact congrArg BitVec.toNat hqsdec
  | stopSpeed fast =>
    cases fast
    · exact congrArg BitVec.toNat hpdec
    · exact congrArg BitVec.toNat hqsdec

theorem State.cwStored_quickRamp (s : State) (a : Fin 8) (v : BitVec 16) : (s.cwStored a v).quickRamp a = s.quickRamp a := by
  unfold State.quickRamp
  rw [s.cwStored_opt a v (f := AX_OPT_QSOPT a) rfl]

theorem State.cwStored_softRamp (s : State) (a : Fin 8) (v : BitVec 16) (g : Goal) : (s.cwStored a v).softRamp a g = s.softRamp a g := by
  unfold State.softRamp
  rw [s.cwStored_axis a v a]

theorem State.cwStored_parked (s : State) (a : Fin 8) (v : BitVec 16) : (s.cwStored a v).parked = s.parked := by
  unfold State.parked
  rw [s.get_cwStored_ne v (by simp only [BEAR_STAT_PARK, BEAR_STAT, AX_CW]; omega)]

theorem State.cwStored_freeActs (s : State) (a : Fin 8) (v : BitVec 16) : (s.cwStored a v).freeActs a = s.freeActs a := by
  have hlvl := s.get_cwStored_ne v (a := a) (f := EMG_LVL_FREE) (by simp only [EMG_LVL_FREE, EMG_LVL, AX_CW]; omega)
  have hcfg : ∀ k, (s.cwStored a v).get (ERL_CFG_AXIS k) = s.get (ERL_CFG_AXIS k) := fun k =>
    s.get_cwStored_ne v (by simp only [ERL_CFG_AXIS, ERL_CFG, AX_CW]; omega)
  unfold State.freeActs
  simp only [hlvl, hcfg]

theorem State.cwStored_chan (s : State) (a : Fin 8) (v : BitVec 16) (c : Nat) :
    (s.cwStored a v).chanEn c = s.chanEn c ∧ (s.cwStored a v).chanLoss c = s.chanLoss c := by
  unfold State.chanEn State.chanLoss State.flag State.cwStored
  constructor <;> simp (disch := (simp only [INC_CFG_EN, HALL_CFG_EN, SSI_CFG_EN, INC_CFG, HALL_CFG, SSI_CFG, INC_STAT_LOSS,
    HALL_STAT_LOSS, SSI_STAT_LOSS, INC_STAT, HALL_STAT, SSI_STAT, AX_CW_CW, AX_CW]; omega)) only [State.get_put_ne]

theorem State.cwStored_source (s : State) (a : Fin 8) (v : BitVec 16) :
    (s.cwStored a v).get (ENG_FB_SRC a) = s.get (ENG_FB_SRC a) :=
  s.get_cwStored_ne v (by simp only [ENG_FB_SRC, ENG_FB, AX_CW]; omega)

theorem State.cwStored_stageReady (s : State) (a : Fin 8) (v : BitVec 16) : (s.cwStored a v).stageReady a = s.stageReady a := by
  unfold State.stageReady State.axesHeld State.engineReady State.phaseSels State.phasePort State.portN State.axmap State.flag
    State.cwStored
  simp (disch := (simp only [AX_CTRL_INIT, ROLE_STAT_CODE, ENG_CFG_LEAD, SP_CLK_N, ENG_CFG_CYC, MOD_AX_SOFS, MOD_AX_MDIV, SP_CFG_AXMAP,
    ENG_PWM_MINP, ENG_PWM_DT, ENG_BOOT_RFON, ENG_BOOT_RFPER, ENG_CFG_DEGRADE, ENG_CFG_FILL, ENG_PH_SELMASK, ENG_PH_PAR, ENG_PH_PORT,
    ENG_SCALE_IFS, ENG_SCALE_UFS, AX_CTRL, ROLE_STAT, ENG_CFG, SP_CLK, MOD_AX, SP_CFG, ENG_PWM, ENG_BOOT, ENG_PH, ENG_SCALE,
    AX_CW_CW, AX_CW]; omega)) only [State.get_put_ne, State.put_sys, State.put_ports]
  rfl

theorem State.cwStored_ainOf (s : State) (a : Fin 8) (v : BitVec 16) (r : Nat) : (s.cwStored a v).ainOf a r = s.ainOf a r := by
  unfold State.ainOf State.flag State.cwStored
  simp (disch := (simp only [AIN_CFG_EN, AIN_CFG_ROLE, AIN_CFG_AXIS, AIN_STAT_VALID, AIN_CFG, AIN_STAT, AX_CW_CW, AX_CW]; omega)) only
    [State.get_put_ne]

theorem State.cwStored_causePresent (s : State) (a : Fin 8) (v : BitVec 16) : (s.cwStored a v).causePresent a = s.causePresent a := by
  have hchan := s.cwStored_chan a v (s.get (ENG_FB_SRC a))
  have hst : ∀ b : Fin 8, (s.cwStored a v).axes[b] = s.axes[b] := s.cwStored_axis a v
  have halert : ∀ p, (s.cwStored a v).alertN p = s.alertN p := fun p => rfl
  have hmod : ∀ c, (s.cwStored a v).flag (MOD_CFG_EN c) = s.flag (MOD_CFG_EN c) ∧
      (s.cwStored a v).get (MOD_CFG_AXIS c) = s.get (MOD_CFG_AXIS c) ∧
      (s.cwStored a v).flag (MOD_STAT_STUCK c) = s.flag (MOD_STAT_STUCK c) := by
    intro c
    unfold State.flag
    refine ⟨?_, ?_, ?_⟩ <;>
      rw [s.get_cwStored_ne v (by simp only [AX_CW, MOD_CFG_EN, MOD_CFG_AXIS, MOD_STAT_STUCK, MOD_CFG, MOD_STAT]; omega)]
  have hmap : ∀ p : Fin 6, (s.cwStored a v).axmap p = s.axmap p := fun p =>
    s.get_cwStored_ne v (by simp only [SP_CFG_AXMAP, SP_CFG, AX_CW]; omega)
  have hm := s.get_cwStored_ne v (a := a) (f := ⟨ENG_FAULT a, 13, 0⟩) (by simp only [ENG_FAULT, AX_CW]; omega)
  have hw := s.get_cwStored_ne v (a := a) (f := WN_FAULT_MAP a) (by simp only [WN_FAULT_MAP, WN_FAULT, AX_CW]; omega)
  have htsrc := s.get_cwStored_ne v (a := a) (f := TN_CFG_SRC a) (by simp only [TN_CFG_SRC, TN_CFG, AX_CW]; omega)
  have htfb := s.get_cwStored_ne v (a := a) (f := TN_CFG_FALLBK a) (by simp only [TN_CFG_FALLBK, TN_CFG, AX_CW]; omega)
  unfold State.causePresent
  simp only [hst, hm, hw, halert, hmod, hmap, hchan, s.cwStored_source, htsrc, htfb, s.cwStored_ainOf]
  rfl

theorem State.cwStored_st (s : State) (a : Fin 8) (v : BitVec 16) : (s.cwStored a v).axes[a].st = s.axes[a].st :=
  congrArg Axis.st (s.cwStored_axis a v a)

theorem State.cwStored_code (s : State) (a : Fin 8) (v : BitVec 16) : (s.cwStored a v).axes[a].code = s.axes[a].code :=
  congrArg Axis.code (s.cwStored_axis a v a)

/-! ### Commands of the SAFE states (R77, R89, R307) -/

theorem State.cwState_shutdown {s : State} {a : Fin 8} {old v : Nat} (hcmd : cwCmd v = .shutdown)
    (hst : s.axes[a].st = .disabled ∨ s.axes[a].st = .switchedOn) :
    s.cwState a old v = (s.axisTo a .ready s.axes[a].mode).accept a := by
  unfold State.cwState
  dsimp only
  rw [hcmd]
  rcases hst with hst | hst <;> rw [hst]

theorem State.cwState_switchOn {s : State} {a : Fin 8} {old v : Nat} (hcmd : cwCmd v = .switchOn) (hst : s.axes[a].st = .ready) :
    s.cwState a old v = (s.axisTo a .switchedOn s.axes[a].mode).accept a := by
  unfold State.cwState
  dsimp only
  rw [hcmd, hst]

theorem State.cwState_enableOp {s : State} {a : Fin 8} {old v : Nat} (hcmd : cwCmd v = .enableOp) (hst : s.axes[a].st = .switchedOn) :
    s.cwState a old v = s.enableOp a := by
  unfold State.cwState
  dsimp only
  rw [hcmd, hst]

/-- Nothing bars mode `m` to the axis (R76, R86, R307, R373). -/
structure State.mayEnter (s : State) (a : Fin 8) (m : Int) : Prop where
  selected : m = sgn 8 (s.get (AX_MODESEL_MODESEL a))
  someMode : m ≠ 0
  route : s.routeOf a ≠ 2
  uncut : s.sys.haltN = true
  undelayed : s.sys.ss1 = false
  uninhibited : s.axes[a].inhibit = false
  unparked : s.parked = false
  ready : s.stageReady a = true
  held : s.freeActs a = false

theorem State.mayEnter.cwStored {s : State} {a : Fin 8} {m : Int} (h : s.mayEnter a m) (v : BitVec 16) :
    (s.cwStored a v).mayEnter a m where
  selected := h.selected.trans (congrArg (sgn 8) (s.cwStored_modesel a v).symm)
  someMode := h.someMode
  route := h.route
  uncut := h.uncut
  undelayed := h.undelayed
  uninhibited := (congrArg Axis.inhibit (s.cwStored_axis a v a)).trans h.uninhibited
  unparked := (s.cwStored_parked a v).trans h.unparked
  ready := (s.cwStored_stageReady a v).trans h.ready
  held := (s.cwStored_freeActs a v).trans h.held

theorem State.mayEnter.enableOp {s : State} {a : Fin 8} {m : Int} (h : s.mayEnter a m) : s.enableOp a = (s.enterMode a m).accept a := by
  have hcut : (!s.sys.haltN || s.sys.ss1) = false := by rw [h.uncut, h.undelayed]; rfl
  unfold State.enableOp
  dsimp only
  rw [← h.selected, hcut, h.uninhibited, h.unparked, h.ready, h.held, if_neg Bool.false_ne_true, if_neg Bool.false_ne_true,
    if_neg Bool.false_ne_true, if_neg (by decide), if_neg (fun hroute => h.route hroute.1),
    if_neg (fun hbar => hbar.elim h.someMode Bool.false_ne_true)]

theorem State.enableOp_of_cut {s : State} (h : s.sys.haltN = false) (a : Fin 8) :
    s.enableOp a = s.refuse a 1 0x20 (sgn 8 (s.get (AX_MODESEL_MODESEL a))) := by
  unfold State.enableOp
  dsimp only
  rw [h]
  rfl

/-- The entry into a mode: enabled in it, on the first step of the enable sequence, edges and pre-charge on. -/
theorem State.enterMode_shown {s t : State} {a : Fin 8} {m : Int} (hen : s.chanEn (s.get (ENG_FB_SRC a)) = true)
    (hloss : s.chanLoss (s.get (ENG_FB_SRC a)) = false) (ht : t = (s.enterMode a m).accept a) :
    t.axes[a].st = .enabled ∧ t.axes[a].mode = m ∧ t.axes[a].step = 1 ∧ t.get (ENG_STAT_EDGES a) = 1 ∧
      t.get (ENG_STAT_PRECHG a) = 1 := by
  obtain ⟨hblock, hnot⟩ : ENG_STAT a / 65536 % 32 = 17 ∧ ENG_STAT a ≠ AX_EVT a := by
    clear ht hen hloss; revert a; decide
  have hget : ∀ f : Fld, f.addr = ENG_STAT a → t.get f = (s.enableSet a).get f := by
    intro f hf
    rw [ht, State.get_accept, State.enterMode_of_feedback hen hloss, State.get_axisTo _ 17 (by decide) (hf ▸ hblock) (hf ▸ hnot),
      State.get_presetLoops]
  have hstep : ((s.enableSet a).presetLoops a).axes[a].step = 1 :=
    (congrArg Axis.step (State.axis_congr (State.presetLoops_axes _ a) a)).trans (s.enableSet_step a)
  refine ⟨?_, ?_, ?_, (hget _ rfl).trans (s.enableSet_edges a), (hget _ rfl).trans (s.enableSet_precharge a)⟩ <;>
    rw [ht, State.enterMode_of_feedback hen hloss]
  · exact (State.accept_keeps Axis.st _ a).trans (State.axisTo_st _ a _ m)
  · exact (State.accept_keeps Axis.mode _ a).trans (State.axisTo_mode _ a _ m)
  · exact ((State.accept_keeps Axis.step _ a).trans (State.axisTo_keeps Axis.step _ a _ m)).trans hstep

theorem State.judges.enterMode {s : State} {a : Fin 8} {m : Int} (hen : s.chanEn (s.get (ENG_FB_SRC a)) = true)
    (hloss : s.chanLoss (s.get (ENG_FB_SRC a)) = false) : s.judges (s.enterMode a m) a := by
  rw [State.enterMode_of_feedback hen hloss]
  exact (((State.judges.refl s a).enableSet).presetLoops).axisTo

theorem State.faultReset_of_present {s : State} {a : Fin 8} (hst : s.axes[a].st = .fault) (h : s.causePresent a = true) :
    s.faultReset a = s.refuse a 3 0x23 (sgn 8 (s.get (AX_MODESEL_MODESEL a))) := by
  unfold State.faultReset
  rw [hst, if_neg (by decide), if_pos h]

theorem State.faultReset_of_gone {s : State} {a : Fin 8} (hst : s.axes[a].st = .fault) (h : s.causePresent a = false) :
    s.faultReset a = ((s.clearFault a).axisTo a .disabled s.axes[a].mode).accept a := by
  unfold State.faultReset
  rw [hst, if_neg (by decide), h, if_neg Bool.false_ne_true]

/-- An accepted fault reset: Switch on disabled, the record of the fault cleared. -/
theorem State.clearFault_shown (s : State) (a : Fin 8) (mode : Int) {t : State}
    (ht : t = ((s.clearFault a).axisTo a .disabled mode).accept a) :
    t.axes[a].st = .disabled ∧ t.reg (ENG_FAULT a) = 0 ∧ t.reg (WN_FAULT a) = 0 ∧ t.get (AX_ERR_ERRCODE a) = 0 := by
  obtain ⟨⟨hf, hfEvt⟩, ⟨hw, hwEvt⟩, ⟨he, heEvt⟩, hfw, hfe, hwe⟩ : (ENG_FAULT a / 65536 % 32 = 17 ∧ ENG_FAULT a ≠ AX_EVT a) ∧
      (WN_FAULT a / 65536 % 32 = 24 ∧ WN_FAULT a ≠ AX_EVT a) ∧ (AX_ERR a / 65536 % 32 = 17 ∧ AX_ERR a ≠ AX_EVT a) ∧
      ENG_FAULT a ≠ WN_FAULT a ∧ ENG_FAULT a ≠ AX_ERR a ∧ WN_FAULT a ≠ AX_ERR a := by
    clear ht; revert a; decide
  rw [ht, State.reg_accept, State.reg_accept, State.get_accept]
  refine ⟨(State.accept_keeps Axis.st _ a).trans (State.axisTo_st _ a _ mode), ?_, ?_, ?_⟩
  · rw [State.reg_axisTo _ 17 (by decide) hf hfEvt]
    unfold State.clearFault
    rw [State.reg_put_ne _ _ (by exact hfe), State.reg_setReg_ne _ _ hfw, State.reg_setReg_same]
  · rw [State.reg_axisTo _ 24 (by decide) hw hwEvt]
    unfold State.clearFault
    rw [State.reg_put_ne _ _ (by exact hwe), State.reg_setReg_same]
  · rw [State.get_axisTo _ 17 (by decide) (by exact he) (by exact heEvt)]
    exact State.get_put_fits _ (AX_ERR_ERRCODE a) (by show 0 < 2 ^ 16; decide) (by decide : 15 < 32) (Nat.zero_le 15)

theorem State.judges.setReg {s t : State} {a : Fin 8} (h : s.judges t a) {x : Nat} {w : Word} (hx : x ∈ judgedRegs a) :
    s.judges (t.setReg x w) a :=
  ⟨h.1.congr rfl, h.2.setReg hx⟩

theorem State.judges.clearFault {s t : State} {a : Fin 8} (h : s.judges t a) : s.judges (t.clearFault a) a := by
  obtain ⟨hfault, herr, hblock⟩ : ENG_FAULT a ∈ judgedRegs a ∧ AX_ERR a ∈ judgedRegs a ∧ WN_FAULT a / 65536 % 32 = 24 := by
    clear h; revert a; decide
  have hwinch : s.judges ((t.setReg (ENG_FAULT a) 0).setReg (WN_FAULT a) 0) a :=
    (h.setReg hfault).ev (Ev.setReg (m := 0x100000000000000) (.refl _ _) 24 hblock (by decide)) (by decide) (by decide)
  exact hwinch.put herr

/-! ### The controlword in the SAFE states -/

/-- From the source that AX_CWSRC does not name the write only sets AX_EVT.FOREIGN (R71). -/
theorem State.cwWhen_foreign {s : State} {a : Fin 8} {src p : Bool} {v : BitVec 16} (hup : s.up = true) (hhas : s.hasAxis a = true)
    (hsrc : s.get (AX_CWSRC_SRC a) = b2n (!src)) (hp : p = true) :
    (Host.Outcome.next (s.cwWhen p a src v) : Host.Outcome State Fault Refusal) = .next (s.raise (axEvt a) 5 (evAxis a)) := by
  have hne : s.get (AX_CWSRC_SRC a) ≠ b2n src := by rw [hsrc]; cases src <;> decide
  refine congrArg Host.Outcome.next ((State.whenHas_of_up hup hhas _).trans ?_)
  rw [hp, if_pos rfl]
  unfold State.writeCw
  rw [if_pos hne]

/-- Out of EMERGENCY and of Fault the outcome is that of the state command. -/
theorem State.judgesCw.stateOutcome {s t : State} {a : Fin 8} {src p : Bool} (h : s.judgesCw a src) (v : BitVec 16) (hp : p = true)
    (hcode : s.axes[a].code ≠ 5) (hfault : s.axes[a].st ≠ .fault)
    (hstate : (s.cwStored a v).cwState a (s.get (AX_CW_CW a)) v.toNat = t) :
    (Host.Outcome.next (s.cwWhen p a src v) : Host.Outcome State Fault Refusal) = .next t := by
  have hcode' : (s.cwStored a v).axes[a].code ≠ 5 := (s.cwStored_code a v).symm ▸ hcode
  have hfault' : (s.cwStored a v).axes[a].st ≠ .fault := (s.cwStored_st a v).symm ▸ hfault
  rw [h.outcome v hp, State.evalCw_of_noFault (State.cwStored_marks h.quiet a v) hcode' hfault', hstate]

/-- In Fault the outcome of the rising bit 7 is that of the fault reset. -/
theorem State.judgesCw.faultOutcome {s t : State} {a : Fin 8} {src : Bool} (h : s.judgesCw a src) (v : BitVec 16)
    (hset : bitOf v.toNat 7 = true) (hwas : bitOf (s.get (AX_CW_CW a)) 7 = false) (hst : s.axes[a].st = .fault)
    (hreset : (s.cwStored a v).faultReset a = t) :
    (Host.Outcome.next (s.cwWhen (bitOf v.toNat 7 && !bitOf (s.get (AX_CW_CW a)) 7) a src v) : Host.Outcome State Fault Refusal) =
      .next t := by
  rw [h.outcome v (by rw [hset, hwas]; rfl),
    State.evalCw_of_fault (State.cwStored_marks h.quiet a v) ((s.cwStored_st a v).trans hst) hset hwas, hreset]

theorem State.raise_foreign (s : State) (a : Fin 8) : (s.raise (axEvt a) 5 (evAxis a)).get (AX_CW_CW a) = s.get (AX_CW_CW a) ∧
    bitOf ((s.raise (axEvt a) 5 (evAxis a)).get (axEvt a)) 5 = true ∧ (s.raise (axEvt a) 5 (evAxis a)).axes = s.axes ∧
    s.onlyChanges (s.raise (axEvt a) 5 (evAxis a)) [.regs 3, .regs 17] ∧ s.keepsRegs (s.raise (axEvt a) 5 (evAxis a)) 17 [AX_EVT a] := by
  obtain ⟨⟨hne, hlow⟩, hevt, hblock⟩ : (AX_CW a ≠ AX_EVT a ∧ AX_CW a / 65536 ≠ 0x4003) ∧ AX_EVT a / 65536 ≠ 0x4003 ∧
      AX_EVT a / 65536 % 32 = 17 := by
    revert a; decide
  exact ⟨State.get_raise_ne s (by exact hne) (by exact hlow),
    s.bit_raise (axEvt a) (by exact hevt) (by decide : 5 < 5 - 0 + 1) (by decide : 5 < 32) (Nat.zero_le 5), s.raise_axes _ _ _,
    (Ev.raise (m := Part.mask [.regs 3, .regs 17]) (.refl _ s) 17 (by exact hblock) (by decide)).onlyChanges,
    (State.keepsRegs.refl s 17 [AX_EVT a]).raise (f := axEvt a) List.mem_cons_self (by decide)⟩

/-- Settles O10: out of EMERGENCY the stored controlword is judged by its state command, in Fault by its fault-reset bit. -/
theorem controlwordInSafeStates : Obligations.ControlwordInSafeStates := by
  unfold Obligations.ControlwordInSafeStates
  intro s a src v hup hhas hquiet hclaimed hsettled halone
  have hjudged (hsrc : s.get (AX_CWSRC_SRC a) = b2n src) : s.judgesCw a src :=
    ⟨hup, hhas, hquiet.1, hsrc, hclaimed, hsettled, halone⟩
  have hself := State.judges.refl (s.cwStored a v) a
  have hcode {c : Cia} (hst : s.axes[a].st = c) (henabled : c ≠ .enabled) (hquick : c ≠ .quickStop) : s.axes[a].code ≠ 5 := by
    rw [Axis.code_of_not_running (hst ▸ henabled) (hst ▸ hquick)]
    decide
  refine ⟨?_, ?_, ?_, ?_, ?_, ?_, ?_⟩
  · intro hsrc hcmd hst
    have hstate := State.cwState_shutdown (old := s.get (AX_CW_CW a)) hcmd ((s.cwStored_st a v).symm ▸ hst)
    have hsafe : s.axes[a].code ≠ 5 := hst.elim (fun h => hcode h (by decide) (by decide)) fun h => hcode h (by decide) (by decide)
    have hfault : s.axes[a].st ≠ .fault := by rcases hst with h | h <;> rw [h] <;> decide
    have hexec := (hjudged hsrc).stateOutcome v (beq_iff_eq.mpr hcmd) hsafe hfault hstate
    have hto := (hself.axisTo (st := .ready) (mode := (s.cwStored a v).axes[a].mode)).accept
    exact ⟨_, hexec, (State.accept_keeps Axis.st _ a).trans (State.axisTo_st _ a _ _), hto.cw, hto.others,
      onlyChanges_of_keeps (execCwShutdown_keeps a src v s) hexec (by decide)⟩
  · intro hsrc hcmd
    exact ⟨_, State.cwWhen_foreign hup hhas hsrc (beq_iff_eq.mpr hcmd), s.raise_foreign a⟩
  · intro hsrc hcmd hst
    have hp : (cwCmd v.toNat == .switchOn && s.axes[a].st != .enabled) = true := by rw [hcmd, hst]; decide
    have hstate := State.cwState_switchOn (old := s.get (AX_CW_CW a)) hcmd ((s.cwStored_st a v).trans hst)
    have hexec := (hjudged hsrc).stateOutcome v hp (hcode hst (by decide) (by decide)) (by rw [hst]; decide) hstate
    have hto := (hself.axisTo (st := .switchedOn) (mode := (s.cwStored a v).axes[a].mode)).accept
    exact ⟨_, hexec, (State.accept_keeps Axis.st _ a).trans (State.axisTo_st _ a _ _), hto.cw, hto.others,
      onlyChanges_of_keeps (execCwSwitchOn_keeps a src v s) hexec (by decide)⟩
  · intro m hsrc hcmd hst hm hm0 hroute hhalt hss1 hinh hpark hready hfree hen hloss
    have hmay : s.mayEnter a m := ⟨hm, hm0, hroute, hhalt, hss1, hinh, hpark, hready, hfree⟩
    have hstate := (State.cwState_enableOp (old := s.get (AX_CW_CW a)) hcmd ((s.cwStored_st a v).trans hst)).trans
      (hmay.cwStored v).enableOp
    have hexec := (hjudged hsrc).stateOutcome v (beq_iff_eq.mpr hcmd) (hcode hst (by decide) (by decide)) (by rw [hst]; decide) hstate
    obtain ⟨hen', hloss'⟩ := s.cwStored_source a v ▸
      And.intro (((s.cwStored_chan a v _).1).trans hen) (((s.cwStored_chan a v _).2).trans hloss)
    have hto := (State.judges.enterMode (m := m) hen' hloss').accept
    obtain ⟨hst', hmode, hstep, hedges, hpre⟩ := State.enterMode_shown (m := m) hen' hloss' rfl
    exact ⟨_, hexec, hst', hmode, hstep, hedges, hpre, hto.cw, hto.others,
      onlyChanges_of_keeps (execCwEnableOperation_keeps a src v s) hexec (by decide)⟩
  · intro hsrc hcmd hst hhalt
    have hstate := (State.cwState_enableOp (old := s.get (AX_CW_CW a)) hcmd ((s.cwStored_st a v).trans hst)).trans
      (State.enableOp_of_cut (s := s.cwStored a v) hhalt a)
    have hexec := (hjudged hsrc).stateOutcome v (beq_iff_eq.mpr hcmd) (hcode hst (by decide) (by decide)) (by rw [hst]; decide) hstate
    exact ⟨_, hexec, State.refuses_refuse (s.cwStored_axes a v) (by decide) (by decide) _, hself.refuse.cw, hself.refuse.others,
      onlyChanges_of_keeps (execCwEnableOperation_keeps a src v s) hexec (by decide)⟩
  · intro hsrc hset hwas hst hgone
    have hexec := (hjudged hsrc).faultOutcome v hset hwas hst
      (State.faultReset_of_gone ((s.cwStored_st a v).trans hst) ((s.cwStored_causePresent a v).trans hgone))
    have hto := (hself.clearFault.axisTo (st := .disabled) (mode := (s.cwStored a v).axes[a].mode)).accept
    obtain ⟨hst', hfault, hwinch, herr⟩ := (s.cwStored a v).clearFault_shown a (s.cwStored a v).axes[a].mode rfl
    exact ⟨_, hexec, hst', hfault, hwinch, herr, hto.cw, hto.others,
      onlyChanges_of_keeps (execCwFaultReset_keeps a src v s) hexec (by decide)⟩
  · intro hsrc hset hwas hst hpresent
    have hexec := (hjudged hsrc).faultOutcome v hset hwas hst
      (State.faultReset_of_present ((s.cwStored_st a v).trans hst) ((s.cwStored_causePresent a v).trans hpresent))
    exact ⟨_, hexec, State.refuses_refuse (s.cwStored_axes a v) (by decide) (by decide) _, hself.refuse.others,
      onlyChanges_of_keeps (execCwFaultReset_keeps a src v s) hexec (by decide)⟩

/-! ### Commands in operation (R77, R78, R80, R84) -/

theorem State.cwState_disableOperation {s : State} {a : Fin 8} {old v : Nat} (hcmd : cwCmd v = .switchOn)
    (hst : s.axes[a].st = .enabled) :
    s.cwState a old v = (s.leaveEnabled a (s.get (AX_OPT_DOOPT a)) .toSwitchedOn .switchedOn).accept a := by
  unfold State.cwState
  dsimp only
  rw [hcmd, hst]

theorem State.cwState_disableVoltage {s : State} {a : Fin 8} {old v : Nat} (hcmd : cwCmd v = .disableVoltage)
    (hst : s.axes[a].st = .enabled ∨ s.axes[a].st = .quickStop) :
    s.cwState a old v = ((s.fastHalt a).axisTo a .disabled s.axes[a].mode).accept a := by
  unfold State.cwState
  dsimp only
  rw [hcmd]
  rcases hst with hst | hst <;> rw [hst]

theorem State.cwState_quickStop {s : State} {a : Fin 8} {old v : Nat} (hcmd : cwCmd v = .quickStop) (hst : s.axes[a].st = .enabled) :
    s.cwState a old v = (s.beginRamp a (s.quickRamp a) .quickStop 5).accept a := by
  unfold State.cwState
  dsimp only
  rw [hcmd, hst]
  rfl

/-- The halt ramp of an axis out of SERVICE (R80). -/
def State.haltRamp (s : State) (a : Fin 8) : Ramp :=
  if s.get (AX_OPT_HALTOPT a) = 2 then .stopSpeed true .stayZero else s.softRamp a .stayZero

theorem State.cwStored_haltRamp (s : State) (a : Fin 8) (v : BitVec 16) : (s.cwStored a v).haltRamp a = s.haltRamp a := by
  unfold State.haltRamp
  rw [s.cwStored_opt a v (f := AX_OPT_HALTOPT a) rfl, s.cwStored_softRamp]

/-- The halt bit may rise on the axis: step 3, no stop runs and no EMERGENCY pends (R70). -/
structure Axis.mayHalt (x : Axis) : Prop where
  service : x.code ≠ 1
  step : x.step = 3
  settled : x.pendEmg = false
  moving : x.ramp.stops = false

theorem State.haltBit_of_rise {s : State} {a : Fin 8} {old v : Nat} (hset : bitOf v 8 = true) (hwas : bitOf old 8 = false)
    (h : s.axes[a].mayHalt) : s.haltBit a old v = (s.beginRamp a (s.haltRamp a) .enabled 5).accept a := by
  unfold State.haltBit
  dsimp only
  rw [hset, hwas, if_neg (by decide), h.step, h.settled, if_neg (by decide), if_pos rfl, h.moving, if_neg Bool.false_ne_true,
    if_neg h.service]
  rfl

theorem State.cwState_halt {s : State} {a : Fin 8} {old v : Nat} (hcmd : cwCmd v = .enableOp) (hst : s.axes[a].st = .enabled)
    (hset : bitOf v 8 = true) (hwas : bitOf old 8 = false) (h : s.axes[a].mayHalt) :
    s.cwState a old v = (s.beginRamp a (s.haltRamp a) .enabled 5).accept a := by
  refine Eq.trans ?_ (State.haltBit_of_rise hset hwas h)
  unfold State.cwState
  dsimp only
  rw [hcmd, hst]

theorem cwCode_lt (old v : Nat) : cwCode old v < 256 := by
  unfold cwCode
  split
  · decide
  · split <;> decide

/-! ### The controlword in operation -/

/-- What a ramp that the controlword begins shows. -/
theorem State.cwRamped {s t : State} {a : Fin 8} {v : BitVec 16} {r : Ramp} {st : Cia} (hrate : r.rate s a ≠ 0)
    (ht : t = ((s.cwStored a v).beginRamp a r st 5).accept a) :
    t.axes[a].st = st ∧ t.axes[a].ramp = r ∧ t.get (AX_CW_CW a) = v.toNat ∧ s.keepsOtherAxes t a := by
  have hrate' : r.rate (s.cwStored a v) a ≠ 0 := (s.cwStored_rate a v r).symm ▸ hrate
  obtain ⟨hst, hramp⟩ := State.beginRamp_shown hrate' st 5
  have hjudges := ((State.judges.refl (s.cwStored a v) a).beginRamp hrate' (st := st) (cmd := 5)).accept
  rw [ht]
  exact ⟨(State.accept_keeps Axis.st _ a).trans hst, (State.accept_keeps Axis.ramp _ a).trans hramp, hjudges.cw, hjudges.others⟩

/-- What a fast halt that the controlword commands shows. -/
theorem State.cwHalted {s t : State} {a : Fin 8} {v : BitVec 16} {st : Cia} {mode : Int}
    (ht : t = (((s.cwStored a v).fastHalt a).axisTo a st mode).accept a) :
    t.axes[a].st = st ∧ t.get (ENG_STAT_EDGES a) = 0 ∧ t.get (BRK_STAT_CMD a) = 0 ∧ t.axes[a].step = 0 ∧ t.axes[a].ramp = .none ∧
      t.get (AX_CW_CW a) = v.toNat ∧ s.keepsOtherAxes t a := by
  obtain ⟨hst, hedges, hcmd, hstep, hramp⟩ := (s.cwStored a v).fastHalt_axisTo_shown a st mode ht
  have hjudges := ((State.judges.refl (s.cwStored a v) a).fastHalt.axisTo (st := st) (mode := mode)).accept
  exact ⟨hst, hedges, hcmd, hstep, hramp, ht ▸ hjudges.cw, ht ▸ hjudges.others⟩

/-- Settles O11: each command of an enabled axis is a fast halt or a ramp of its option code. -/
theorem controlwordInOperation : Obligations.ControlwordInOperation := by
  unfold Obligations.ControlwordInOperation
  intro s a src v hup hhas hquiet hsrc hclaimed hsettled halone
  have hj : s.judgesCw a src := ⟨hup, hhas, hquiet.1, hsrc, hclaimed, hsettled, halone⟩
  have hst' {c : Cia} (hst : s.axes[a].st = c) : (s.cwStored a v).axes[a].st = c := (s.cwStored_st a v).trans hst
  have hfault (hst : s.axes[a].st = .enabled ∨ s.axes[a].st = .quickStop) : s.axes[a].st ≠ .fault := by
    rcases hst with h | h <;> rw [h] <;> decide
  have hdoopt := s.cwStored_opt a v (f := AX_OPT_DOOPT a) rfl
  refine ⟨?_, ?_, ?_, ?_, ?_, ?_⟩
  · intro hcmd hst hcode hopt
    have hp : (cwCmd v.toNat == .switchOn && s.axes[a].st == .enabled) = true := by rw [hcmd, hst]; rfl
    have hstate := State.cwState_disableOperation (old := s.get (AX_CW_CW a)) hcmd (hst' hst)
    rw [hdoopt.trans hopt] at hstate
    have hexec := hj.stateOutcome v hp hcode (hfault (.inl hst)) hstate
    obtain ⟨hto, hedges, hbrake, hstep, hramp, hcw, hothers⟩ :=
      State.cwHalted (s := s) (a := a) (v := v) (st := .switchedOn) (mode := (s.cwStored a v).axes[a].mode) rfl
    exact ⟨_, hexec, hto, hedges, hbrake, hstep, hramp, hcw, hothers,
      onlyChanges_of_keeps (execCwDisableOperation_keeps a src v s) hexec (by decide)⟩
  · intro hcmd hst hcode hopt hrate
    have hp : (cwCmd v.toNat == .switchOn && s.axes[a].st == .enabled) = true := by rw [hcmd, hst]; rfl
    have hstate := State.cwState_disableOperation (old := s.get (AX_CW_CW a)) hcmd (hst' hst)
    unfold State.leaveEnabled at hstate
    rw [hdoopt.trans hopt, if_neg (by decide), s.cwStored_softRamp] at hstate
    have hexec := hj.stateOutcome v hp hcode (hfault (.inl hst)) hstate
    obtain ⟨hto, hramp, hcw, hothers⟩ := State.cwRamped (st := .enabled) hrate rfl
    exact ⟨_, hexec, hto, hramp, hcw, hothers,
      onlyChanges_of_keeps (execCwDisableOperation_keeps a src v s) hexec (by decide)⟩
  · intro hcmd hst hcode
    have hexec := hj.stateOutcome v (beq_iff_eq.mpr hcmd) hcode (hfault hst)
      (State.cwState_disableVoltage hcmd (hst.imp hst' hst'))
    obtain ⟨hto, hedges, hbrake, hstep, hramp, hcw, hothers⟩ :=
      State.cwHalted (s := s) (a := a) (v := v) (st := .disabled) (mode := (s.cwStored a v).axes[a].mode) rfl
    exact ⟨_, hexec, hto, hedges, hbrake, hstep, hramp, hcw, hothers,
      onlyChanges_of_keeps (execCwDisableVoltage_keeps a src v s) hexec (by decide)⟩
  · intro hcmd hst hcode hrate
    have hstate := State.cwState_quickStop (old := s.get (AX_CW_CW a)) hcmd (hst' hst)
    rw [s.cwStored_quickRamp] at hstate
    have hexec := hj.stateOutcome v (beq_iff_eq.mpr hcmd) hcode (hfault (.inl hst)) hstate
    obtain ⟨hto, hramp, hcw, hothers⟩ := State.cwRamped (st := .quickStop) hrate rfl
    exact ⟨_, hexec, hto, hramp, hcw, hothers, onlyChanges_of_keeps (execCwQuickStop_keeps a src v s) hexec (by decide)⟩
  · intro hset hwas hcmd hst hcode hservice hstep hpend hstops hrate
    have hp : (bitOf v.toNat 8 && !bitOf (s.get (AX_CW_CW a)) 8) = true := by rw [hset, hwas]; rfl
    have hmay : (s.cwStored a v).axes[a].mayHalt := (s.cwStored_axis a v a).symm ▸ ⟨hservice, hstep, hpend, hstops⟩
    have hstate := State.cwState_halt hcmd (hst' hst) hset hwas hmay
    rw [s.cwStored_haltRamp] at hstate
    have hexec := hj.stateOutcome v hp hcode (hfault (.inl hst)) hstate
    obtain ⟨hto, hramp, hcw, hothers⟩ := State.cwRamped (r := s.haltRamp a) (st := .enabled) hrate rfl
    exact ⟨_, hexec, hto, hramp, hcw, hothers, onlyChanges_of_keeps (execCwHalt_keeps a src v s) hexec (by decide)⟩
  · intro hcmd hcode
    have hexec := (hj.outcome v (beq_iff_eq.mpr hcmd)).trans (congrArg Host.Outcome.next
      (State.evalCw_of_emergency (State.cwStored_marks hj.quiet a v) ((s.cwStored_code a v).trans hcode) _ _))
    exact ⟨_, hexec, State.refuses_refuse (s.cwStored_axes a v) (cwCode_lt _ _) (by decide) _,
      (State.judges.refl (s.cwStored a v) a).refuse.others,
      onlyChanges_of_keeps (execCwQuickStop_keeps a src v s) hexec (by decide)⟩

end Sys2Proof.Machine
end

section
/-! PROOFS. Halts and the ports: what asks for a halt, what a due halt does, and what ends it (R211 to R215). -/

namespace Sys2Proof.Machine

/-! ### Ports -/

theorem State.ports_congr {s t : State} (h : t.ports = s.ports) (p : Fin 6) : t.ports[p] = s.ports[p] :=
  congrArg (fun v : Vector Port 6 => v[p]) h

theorem State.modPort_port (s : State) (p : Fin 6) (f : Port → Port) : (s.modPort p f).ports[p] = f s.ports[p] := upd_same _ _ _

theorem State.modPort_port_ne (s : State) {p q : Fin 6} (f : Port → Port) (h : q ≠ p) : (s.modPort p f).ports[q] = s.ports[q] :=
  upd_ne _ _ _ _ h

theorem Ev.port {m : Nat} {s t : State} (h : Ev m s t) (hports : m.testBit 11 = false) (p : Fin 6) : t.ports[p] = s.ports[p] :=
  State.ports_congr (h.same .ports hports) p

theorem State.keepsOtherPorts.refl (s : State) (p : Fin 6) : s.keepsOtherPorts s p := fun _ _ => rfl

theorem State.keepsOtherPorts.congr {s t u : State} {p : Fin 6} (h : s.keepsOtherPorts t p) (hports : u.ports = t.ports) :
    s.keepsOtherPorts u p := fun q hq => (State.ports_congr hports q).trans (h q hq)

theorem State.keepsOtherPorts.modPort {s t : State} {p : Fin 6} (h : s.keepsOtherPorts t p) {f : Port → Port} :
    s.keepsOtherPorts (t.modPort p f) p := fun q hq => (t.modPort_port_ne f hq).trans (h q hq)

/-! ### Requests of a halt (R78, R213) -/

/-- What requests of a halt make of a port: a streaming one has a halt due, any other stays as it is. -/
def Port.asked (q r : Port) : Prop :=
  r = q ∨ q.st = .stream ∧ ∃ due who at_, r = { q with haltDue := due, haltBy := who, haltAt := at_ }

theorem Port.asked.trans {q r u : Port} (h : q.asked r) (h' : r.asked u) : q.asked u := by
  rcases h with rfl | ⟨hst, due, who, at_, rfl⟩
  · exact h'
  · rcases h' with rfl | ⟨-, due', who', at', rfl⟩
    · exact .inr ⟨hst, due, who, at_, rfl⟩
    · exact .inr ⟨hst, due', who', at', rfl⟩

theorem Port.asked.resetting {q r : Port} (h : q.asked r) : r.resetting = q.resetting := by
  rcases h with rfl | ⟨-, _, _, _, rfl⟩ <;> rfl

theorem Port.asked.eq {q r : Port} (h : q.asked r) (hst : q.st ≠ .stream) : r = q := by
  rcases h with h | ⟨hstream, -⟩
  · exact h
  · exact absurd hstream hst

/-- Nothing but requests of a halt has reached the ports. -/
def State.asksPorts (s t : State) : Prop := ∀ p : Fin 6, s.ports[p].asked t.ports[p]

theorem State.asksPorts.refl (s : State) : s.asksPorts s := fun _ => .inl rfl

theorem State.asksPorts.trans {s t u : State} (h : s.asksPorts t) (h' : t.asksPorts u) : s.asksPorts u := fun p => (h p).trans (h' p)

/-- An operation that leaves the ports alone. -/
theorem State.asksPorts.ev {s t u : State} {m : Nat} (h : s.asksPorts t) (hev : Ev m t u) (hports : m.testBit 11 = false) :
    s.asksPorts u := fun p => (hev.port hports p).symm ▸ h p

theorem State.haltPort_asks (s : State) (p : Fin 6) (cause who : Nat) : s.asksPorts (s.haltPort p cause who) := by
  intro q
  unfold State.haltPort
  by_cases hq : q = p
  · subst hq
    rw [State.modPort_port]
    split
    · exact .inl rfl
    next hst =>
      have hstream : s.ports[q].st = .stream := by simpa using hst
      split
      · exact .inr ⟨hstream, _, _, _, rfl⟩
      · split
        · exact .inr ⟨hstream, _, _, _, rfl⟩
        · split
          · exact .inr ⟨hstream, _, _, _, rfl⟩
          · exact .inl rfl
  · exact .inl (s.modPort_port_ne _ hq)

theorem State.haltAxisPorts_asks (s : State) (a : Fin 8) : s.asksPorts (s.haltAxisPorts a) := by
  refine forFin_induction (P := s.asksPorts) (.refl s) fun p t ht => ?_
  split
  · exact ht.trans (t.haltPort_asks p _ _)
  · exact ht

theorem State.fastHalt_asks (s : State) (a : Fin 8) : s.asksPorts (s.fastHalt a) :=
  (s.haltAxisPorts_asks a).ev (State.haltAxis_ev (m := 0x102000000110400) (.refl _ _)) (by decide)

theorem State.takeFault_asks (s : State) (a : Fin 8) (cause axerr : Nat) : s.asksPorts (s.takeFault a cause axerr) := by
  have hblock : AX_ERR a / 65536 % 32 = 17 ∧ AX_EVT a / 65536 % 32 = 17 := by revert a; decide
  have hnoted : s.asksPorts (((s.markAct 3 a).put (AX_ERR_ERRCODE a) axerr).raise (axEvt a) 2 (evAxis a)) :=
    (State.asksPorts.refl s).ev (m := 0x2000800000000)
      (Ev.raise (Ev.put (Ev.mark (.refl _ s)) 17 hblock.1) 17 hblock.2) (by decide)
  have hhalted := hnoted.trans (State.fastHalt_asks _ a)
  unfold State.takeFault
  dsimp only
  split
  · exact hhalted
  · have hto := hhalted.ev (m := 0x2000800100400)
      (State.axisTo_ev (a := a) (st := .fault) (mode := s.axes[a].mode)
        (State.axisTo_ev (a := a) (st := .faultReact) (mode := s.axes[a].mode) (.refl _ _))) (by decide)
    refine State.asksPorts.ev (m := 0x2000800004000) ?_ (Ev.emcy (.refl _ _)) (by decide)
    split
    · exact hto.ev (m := 0x2000800000000) (Ev.raise (.refl _ _) 17 hblock.2) (by decide)
    · exact hto

theorem State.engineFault_asks (s : State) (a : Fin 8) (c : Nat) : s.asksPorts (s.engineFault a c) := by
  have hblock : ENG_FAULT a / 65536 % 32 = 17 := by revert a; decide
  unfold State.engineFault
  split
  · exact .refl s
  · split
    · exact .refl s
    · dsimp only
      have hmap : s.asksPorts (s.putOr ⟨ENG_FAULT a, 13, 0⟩ (2 ^ c)) :=
        (State.asksPorts.refl s).ev (m := 0x2000000000000) (Ev.putOr (.refl _ s) 17 hblock) (by decide)
      refine State.asksPorts.trans ?_ (State.takeFault_asks _ a c _)
      split
      · exact hmap.ev (m := 0x2000000000000) (Ev.put (.refl _ _) 17 hblock) (by decide)
      · exact hmap

theorem State.portFault_asks (s : State) (p : Fin 6) (c : Nat) : s.asksPorts (s.portFault p c) := by
  refine forFin_induction (P := s.asksPorts) (.refl s) fun a t ht => ?_
  split
  · exact ht.trans (t.engineFault_asks a c)
  · exact ht

/-! ### A frame that a halt cuts (R209) -/

/-- Port `p` is not being reset, and no takeover runs. -/
structure State.calm (s : State) (p : Fin 6) : Prop where
  port : s.ports[p].resetting = false
  noTake : s.cp.take = none

/-- An operation that leaves the ports and the pair alone. -/
theorem State.calm.ev {s t : State} {p : Fin 6} {m : Nat} (h : s.calm p) (hev : Ev m s t) (hports : m.testBit 11 = false)
    (hcp : m.testBit 15 = false) : t.calm p :=
  ⟨(congrArg Port.resetting (hev.port hports p)).trans h.port, (congrArg Cp.take (hev.same .cp hcp)).trans h.noTake⟩

theorem State.calm.asks {s t : State} {p : Fin 6} {m : Nat} (h : s.calm p) (hasks : s.asksPorts t) (hev : Ev m s t)
    (hcp : m.testBit 15 = false) : t.calm p :=
  ⟨(hasks p).resetting.trans h.port, (congrArg Cp.take (hev.same .cp hcp)).trans h.noTake⟩

theorem State.calm.modPort {s : State} {p q : Fin 6} {f : Port → Port} (h : s.calm p)
    (hf : (f s.ports[q]).resetting = s.ports[q].resetting := by rfl) : (s.modPort q f).calm p := by
  refine ⟨?_, h.noTake⟩
  by_cases hpq : p = q
  · subst hpq
    rw [State.modPort_port, hf]
    exact h.port
  · rw [s.modPort_port_ne f hpq]
    exact h.port

theorem State.calm.bump {s : State} {p : Fin 6} {f : Fld} (h : s.calm p) : (s.bump f).calm p :=
  h.ev (m := allRegs) (Ev.bumpA (.refl _ s)) (by decide) (by decide)

theorem State.calm.put {s : State} {p : Fin 6} {f : Fld} {v : Nat} (h : s.calm p) : (s.put f v).calm p :=
  h.ev (m := allRegs) (Ev.putA (.refl _ s)) (by decide) (by decide)

theorem State.calm.portEvt {s : State} {p q : Fin 6} {b : Nat} (h : s.calm p) : (s.portEvt q b).calm p :=
  h.ev (m := 0x1000800000000) (State.portEvt_ev (.refl _ s)) (by decide) (by decide)

theorem State.calm.engineFault {s : State} {p : Fin 6} {a : Fin 8} {c : Nat} (h : s.calm p) : (s.engineFault a c).calm p :=
  h.asks (m := 0x102000800114c00) (s.engineFault_asks a c) (State.engineFault_ev (.refl _ s)) (by decide)

theorem State.calm.portFault {s : State} {p q : Fin 6} {c : Nat} (h : s.calm p) : (s.portFault q c).calm p :=
  h.asks (m := 0x102000800114c00) (s.portFault_asks q c) (State.portFault_ev (.refl _ s)) (by decide)

theorem State.calm.record {s : State} {p q : Fin 6} {ws : List Word} (h : s.calm p) : (s.record q ws).calm p := by
  unfold State.record
  split
  · exact h.bump.portEvt
  · exact h.modPort

theorem State.calm.badReply {s : State} {p q : Fin 6} {sel c : Nat} (h : s.calm p) : (s.badReply q sel c).calm p := by
  unfold State.badReply
  extract_lets noted read
  have hnoted : noted.calm p := by
    simp only [noted]
    split
    · exact h.bump.portEvt
    · exact h.bump.portEvt
  have hread : read.calm p := hnoted.put.put
  split
  · extract_lets k counted
    have hcounted : counted.calm p := hread.modPort
    split
    · exact hcounted.portFault
    · exact hcounted
  · exact hread

theorem State.calm.reentry {s : State} {p q : Fin 6} {a : Fin 8} {sel : Nat} (h : s.calm p) : (s.reentry a q sel).calm p := by
  have hnoted (x : Nat) (f : Eng → Eng) :
      (((s.put (ENG_STAT_DEGRADED a) 1).putOr (ENG_STAT_DEGPH a) (2 ^ x)).modEng a f).calm p :=
    (h.put.ev (m := allRegs) (Ev.putOrA (.refl _ _)) (by decide) (by decide)).ev (m := 0x10000) (Ev.modEng (.refl _ _)) (by decide)
      (by decide)
  unfold State.reentry
  extract_lets key cov
  split
  · exact h
  · clear_value cov
    cases cov with
    | none => exact h.engineFault
    | some x =>
      dsimp only
      split
      · exact (hnoted x _).ev (m := 0x4000) (Ev.emcy (.refl _ _)) (by decide) (by decide)
      · exact h.engineFault

/-- Each of a list of axes is told. -/
theorem State.calm.each {s : State} {p : Fin 6} (h : s.calm p) {f : State → Fin 8 → State} (hf : ∀ t a, t.calm p → (f t a).calm p)
    (axes : List (Fin 8)) : (axes.foldl f s).calm p :=
  List.foldlRecOn axes f h fun t ht a _ => hf t a ht

theorem State.calm.engineReply {s : State} {p : Fin 6} {fl : Flight} {c w n : Nat} (h : s.calm p) :
    (s.engineReply p fl c w n).calm p := by
  unfold State.engineReply
  split
  next hsel =>
    extract_lets whole pl m q done shown own axes each found k counted
    have hshown : shown.calm p := h.modPort
    have hfound : found.calm p := hshown.ev (m := 0x10000) (State.foundAgain_ev (.refl _ _)) (by decide) (by decide)
    have hcounted : counted.calm p := hfound.modPort
    have hfault {t : State} (ht : t.calm p) : (each (fun t a => t.engineFault a 9) t).calm p := ht.each (fun _ _ hu => hu.engineFault) axes
    split
    · exact hshown.each (fun _ _ hu => hu.reentry) axes
    · split
      · exact hshown
      · split
        · exact hfault hfound
        · split
          · exact hfound.modPort
          · split
            · exact hfault hcounted
            · exact hcounted
  · exact h

theorem State.calm.takeReply {s : State} {p : Fin 6} {key c pl : Nat} (h : s.calm p) : (s.takeReply key c pl).calm p := by
  unfold State.takeReply
  rw [h.noTake]
  exact h

theorem State.calm.classify {s : State} {p : Fin 6} {fl : Flight} {bits : List Bool} (h : s.calm p) : (s.classify p fl bits).calm p := by
  unfold State.classify
  extract_lets c w st reset counted alerted shown m data kept
  have hreset : reset.calm p := h.portEvt
  have hcounted : counted.calm p := by
    simp only [counted]
    split
    · exact h.bump
    · split
      · split
        · refine forFin_induction (P := fun u => u.calm p) hreset.modPort fun a t ht => ?_
          split
          · exact ht.reentry
          · exact ht
        · exact hreset
      · exact h.modPort
  have halerted : alerted.calm p := by
    simp only [alerted]
    split
    · exact hcounted.portEvt
    · exact hcounted
  have hshown : shown.calm p := by
    simp only [shown]
    split
    · exact h.portEvt
    · split
      · exact h.badReply
      · split
        · exact halerted.portEvt
        · exact halerted
  have hkept : kept.calm p := by
    simp only [kept]
    split
    · exact hshown.record
    · exact hshown
  split
  · exact hkept.engineReply
  · split
    · exact hkept.takeReply
    · exact hkept

theorem State.calm.noReply {s : State} {p : Fin 6} {fl : Flight} {cut : Bool} (h : s.calm p) : (s.noReply p fl cut).calm p := by
  have hdrawn : (s.draw 81).2.calm p := ⟨h.port, h.noTake⟩
  unfold State.noReply
  split
  · exact hdrawn.record
  · exact h

theorem State.calm.entryDone {s : State} {p : Fin 6} {fl : Flight} (h : s.calm p) : (s.entryDone p fl).calm p := by
  unfold State.entryDone
  extract_lets ended
  have hended : ended.calm p := h.modPort
  split
  · exact hended.portEvt
  · exact hended

theorem State.calm.cutFlight {s : State} {p : Fin 6} {bits : List Bool} (h : s.calm p) : (s.cutFlight p bits).calm p := by
  unfold State.cutFlight
  split
  · exact h
  next fl _ =>
    extract_lets ended
    refine State.calm.entryDone ?_
    simp only [ended]
    split
    · exact h.classify
    · split
      · exact h.record
      · exact h.noReply

/-- A cut frame without a reply changes its record's place alone: a free value, the port, its registers and the events. -/
theorem State.noReply_record_ev (s : State) (p : Fin 6) (fl : Flight) (cut : Bool) : Ev 0x1000800000802 s (s.noReply p fl cut) := by
  unfold State.noReply
  split
  · exact State.record_ev (Ev.draw (.refl _ s))
  · exact .refl _ s

/-- The parts a cut frame changes. -/
theorem State.cutFlight_parts (s : State) (p : Fin 6) (bits : List Bool) : Ev 0x10300080011cc02 s (s.cutFlight p bits) := by
  unfold State.cutFlight
  split
  · exact .refl _ s
  · refine State.entryDone_ev ?_
    split
    · exact State.classify_ev (.refl _ s)
    · split
      · exact State.rawWord_ev (.refl _ s)
      · exact (State.noReply_record_ev s p _ true).mono (by decide)

/-! ### What a request of a halt does (R212, R213) -/

theorem State.haltPort_port {s : State} {p : Fin 6} (hst : s.ports[p].st = .stream) (hdue : s.ports[p].haltDue = none) (cause who : Nat) :
    (s.haltPort p cause who).ports[p] =
      { s.ports[p] with haltDue := some cause, haltBy := who, haltAt := s.clk + haltLead cause } := by
  unfold State.haltPort
  dsimp only
  rw [State.modPort_port, hst, hdue, if_neg (by decide)]

theorem State.haltPort_otherPorts (s : State) (p : Fin 6) (cause who : Nat) : s.keepsOtherPorts (s.haltPort p cause who) p :=
  (State.keepsOtherPorts.refl s p).modPort

/-- HALT_N asks each port for itself: a port with no halt due, or with this one, has this one due. -/
def Port.haltOpen (q : Port) (cause : Nat) : Prop := q.st = .stream ∧ (q.haltDue = none ∨ q.haltDue = some cause)

theorem State.haltPort_haltDue {s : State} {p : Fin 6} {cause who : Nat} (h : s.ports[p].haltOpen cause) (hcause : cause ≠ 5) :
    (s.haltPort p cause who).ports[p].haltDue = some cause := by
  obtain ⟨hst, hdue | hdue⟩ := h
  · rw [State.haltPort_port hst hdue]
  · unfold State.haltPort
    dsimp only
    rw [State.modPort_port, hst, hdue, if_neg (by decide)]
    dsimp only
    split
    · rfl
    · rw [if_neg fun hboth => hcause hboth.1]
      exact hdue

theorem State.haltPort_st (s : State) (p : Fin 6) (cause who : Nat) (q : Fin 6) : (s.haltPort p cause who).ports[q].st = s.ports[q].st := by
  rcases s.haltPort_asks p cause who q with h | ⟨-, _, _, _, h⟩ <;> rw [h]

theorem State.haltPort_haltOpen {s : State} {p q : Fin 6} {cause who : Nat} (h : s.ports[q].haltOpen cause) (hcause : cause ≠ 5) :
    (s.haltPort p cause who).ports[q].haltOpen cause := by
  refine ⟨(s.haltPort_st p cause who q).trans h.1, ?_⟩
  by_cases hq : q = p
  · subst hq
    exact .inr (State.haltPort_haltDue h hcause)
  · rw [s.haltPort_otherPorts p cause who q hq]
    exact h.2

/-- What one index of a loop brings about and the others keep holds at its end. -/
theorem forFin_reaches {P Q : State → Prop} {n : Nat} {f : Fin n → State → State} {s : State} (i : Fin n) (h0 : P s)
    (hkeep : ∀ j t, P t → P (f j t)) (hreach : ∀ t, P t → Q (f i t)) (hstay : ∀ j t, P t → Q t → Q (f j t)) : Q (forFin n f s) := by
  obtain ⟨l, r, hsplit⟩ := List.append_of_mem (List.mem_finRange i)
  have hbefore : P (l.foldl (fun t j => f j t) s) := List.foldlRecOn l _ h0 fun t ht j _ => hkeep j t ht
  have hafter : ∀ u, P u ∧ Q u → P (r.foldl (fun t j => f j t) u) ∧ Q (r.foldl (fun t j => f j t) u) := fun u hu =>
    List.foldlRecOn (motive := fun t => P t ∧ Q t) r _ hu fun t ht j _ => ⟨hkeep j t ht.1, hstay j t ht.1 ht.2⟩
  unfold forFin
  rw [hsplit, List.foldl_append, List.foldl_cons]
  exact (hafter _ ⟨hkeep i _ hbefore, hreach _ hbefore⟩).2

/-- Every streaming port without a halt due has the halt due that all ports are asked for. -/
theorem State.haltPorts_haltDue {s : State} {q : Fin 6} {cause who : Nat} (hst : s.ports[q].st = .stream)
    (hdue : s.ports[q].haltDue = none) (hcause : cause ≠ 5) :
    (forFin 6 (fun p t => t.haltPort p cause who) s).ports[q].haltDue = some cause := by
  refine forFin_reaches (P := fun t => t.ports[q].haltOpen cause) (Q := fun t => t.ports[q].haltDue = some cause) q ⟨hst, .inl hdue⟩
    (fun p t ht => State.haltPort_haltOpen ht hcause) (fun t ht => State.haltPort_haltDue ht hcause) fun p t ht hdue => ?_
  by_cases hq : q = p
  · subst hq
    exact State.haltPort_haltDue ht hcause
  · rw [t.haltPort_otherPorts p cause who q hq]
    exact hdue

/-! ### The cut (R87) -/

theorem State.haltAxis_otherAxes {s t : State} {a : Fin 8} (h : s.keepsOtherAxes t a) : s.keepsOtherAxes (t.haltAxis a) a :=
  ((State.stopEngine_otherAxes h).congr (State.levelsOff_axes _ a)).congr (State.brakeCmd_axes _ a false)

/-- The axis that the cut takes out of its mode. -/
def State.cutTo (s : State) (a : Fin 8) : State := ((s.markAct 1 a).haltAxis a).axisTo a .disabled s.axes[a].mode

/-- The cut leaves an axis in SAFE as it is and takes any other to Switch on disabled. -/
theorem State.cutAxis_axes (s : State) (a : Fin 8) :
    s.axes[a].code = 0 ∧ s.cutAxis a = s ∨ (s.cutAxis a).axes = (s.cutTo a).axes := by
  unfold State.cutAxis
  extract_lets x out noted
  split
  next hsafe => exact .inl ⟨hsafe, rfl⟩
  next =>
    refine .inr ((State.emcy_axes _ _ _).trans ?_)
    simp only [noted]
    split
    · exact State.raise_axes _ _ _ _
    · rfl

theorem State.cutAxis_code (s : State) (a : Fin 8) : (s.cutAxis a).axes[a].code = 0 := by
  rcases s.cutAxis_axes a with ⟨hsafe, hsame⟩ | hcut
  · rw [hsame]
    exact hsafe
  · have hst : (s.cutAxis a).axes[a].st = .disabled :=
      (congrArg Axis.st (State.axis_congr hcut a)).trans (State.axisTo_st _ a .disabled _)
    exact Axis.code_of_not_running (by rw [hst]; decide) (by rw [hst]; decide)

theorem State.cutAxis_otherAxes (s : State) (a : Fin 8) : s.keepsOtherAxes (s.cutAxis a) a := by
  have hmarked : s.keepsOtherAxes (s.markAct 1 a) a := (State.keepsOtherAxes.refl s a).congr rfl
  rcases s.cutAxis_axes a with ⟨-, hsame⟩ | hcut
  · rw [hsame]
    exact .refl s a
  · exact (State.haltAxis_otherAxes hmarked).axisTo.congr hcut

theorem State.cutAxes_code (s : State) (a : Fin 8) : s.cutAxes.axes[a].code = 0 := by
  refine forFin_reaches (P := fun _ => True) (Q := fun t => t.axes[a].code = 0) a trivial (fun _ _ _ => trivial)
    (fun t _ => t.cutAxis_code a) fun b t _ hcode => ?_
  by_cases hab : a = b
  · subst hab
    exact t.cutAxis_code a
  · rw [t.cutAxis_otherAxes b a hab]
    exact hcode

/-- The parts the cut changes in the axes. -/
theorem State.cutAxes_parts (s : State) : Ev 0x102000800114400 s s.cutAxes :=
  Ev.forFin (Ev.mark (.refl _ s)) fun _ t => State.cutAxis_ev (.refl _ t)

/-! ### A due halt (R211, R312) -/

/-- A port in HALT for cause `c`. -/
def Port.halted (q : Port) (c : Nat) : Port :=
  { q.quiet with st := .halt, haltCause := c, haltDue := none, haltBy := 0, twelfth := false }

/-- The halt frame goes out. -/
def State.haltSent (s : State) (p : Fin 6) (bits : List Bool) (c : Nat) : State :=
  ((((s.cutFlight p bits).modPort p fun q => q.halted c).send ⟨.port p, 3 :: s.haltCodes p, []⟩).portEvt p 2).levelsOffPort p

/-- What the engine learns of a halt for cause `c` on the axes `map`, those of `who` having begun it (R312). -/
def State.haltLearnt (t : State) (p : Fin 6) (c map who : Nat) : State :=
  if c = 2 ∨ c = 3 then t.portFault p 8
  else if c = 4 then t.portFault p 11
  else if c = 5 then forFin 8 (fun a u => if bitOf map a && !bitOf who a then u.engineFault a 11 else u) t
  else t

theorem State.haltLearnt_asks (t : State) (p : Fin 6) (c map who : Nat) : t.asksPorts (t.haltLearnt p c map who) := by
  unfold State.haltLearnt
  split
  · exact t.portFault_asks p 8
  · split
    · exact t.portFault_asks p 11
    · split
      · refine forFin_induction (P := t.asksPorts) (.refl t) fun a u hu => ?_
        split
        · exact hu.trans (u.engineFault_asks a 11)
        · exact hu
      · exact .refl t

theorem State.haltLearnt_parts (t : State) (p : Fin 6) (c map who : Nat) : Ev 0x102000800114c00 t (t.haltLearnt p c map who) := by
  unfold State.haltLearnt
  split
  · exact State.portFault_ev (.refl _ t)
  · split
    · exact State.portFault_ev (.refl _ t)
    · split
      · refine Ev.forFin (.refl _ t) fun a u => ?_
        split
        · exact State.engineFault_ev (.refl _ u)
        · exact .refl _ u
      · exact .refl _ t

/-- What follows the halt frame concerns neither the ports nor the lines. -/
theorem State.haltSent_ev (s : State) (p : Fin 6) (bits : List Bool) (c : Nat) : Ev 0x1000800010000
    (((s.cutFlight p bits).modPort p fun q => q.halted c).send ⟨.port p, 3 :: s.haltCodes p, []⟩) (s.haltSent p bits c) :=
  State.levelsOffPort_ev (State.portEvt_ev (.refl _ _))

theorem State.haltSent_port (s : State) (p : Fin 6) (bits : List Bool) (c : Nat) :
    (s.haltSent p bits c).ports[p] = (s.cutFlight p bits).ports[p].halted c :=
  ((s.haltSent_ev p bits c).port (by decide) p).trans (State.modPort_port _ p _)

theorem State.haltSent_wire (s : State) (p : Fin 6) (bits : List Bool) (c : Nat) :
    ⟨.port p, 3 :: s.haltCodes p, []⟩ ∈ (s.haltSent p bits c).wire := by
  have hwire : (s.haltSent p bits c).wire = _ := (s.haltSent_ev p bits c).same .wire (by decide)
  rw [hwire]
  exact List.mem_cons_self

theorem State.haltSent_parts (s : State) (p : Fin 6) (bits : List Bool) (c : Nat) : Ev 0x10300080011cc06 s (s.haltSent p bits c) :=
  State.levelsOffPort_ev (State.portEvt_ev (Ev.send (Ev.modPort ((s.cutFlight_parts p bits).mono (by decide)))))

theorem State.dropStatus_of_none {s : State} (h : s.cp.take = none) (p : Fin 6) : s.dropStatus p = s := by
  unfold State.dropStatus
  rw [h]

/-- A due halt of a port that is not being reset. -/
theorem execHaltStart_due {s : State} {p : Fin 6} {bits : List Bool} {c : Nat} (hclk : s.clocked = true) (hst : s.ports[p].st = .stream)
    (hdue : s.ports[p].haltDue = some c) (hcalm : s.calm p) : execHaltStart p bits s =
      .next ((s.haltSent p bits c).haltLearnt p c (s.axmap p) (s.cutFlight p bits).ports[p].haltBy) := by
  have hcut : (s.cutFlight p bits).calm p := hcalm.cutFlight
  have hdrop : (s.haltSent p bits c).dropStatus p = s.haltSent p bits c := by
    have hsent : (s.haltSent p bits c).calm p := by
      have hhalted : ((s.cutFlight p bits).modPort p fun q => q.halted c).calm p := hcut.modPort
      exact (hhalted.ev (m := 4) (Ev.send (.refl _ _)) (by decide) (by decide)).ev (s.haltSent_ev p bits c) (by decide) (by decide)
    exact State.dropStatus_of_none hsent.noTake p
  have hclear := hcut.port
  unfold execHaltStart
  rw [hdue]
  dsimp only
  rw [hclk, hst, if_neg (by decide), hclear]
  simp only [Bool.false_eq_true, if_false]
  exact congrArg (fun t => Host.Outcome.next (State.haltLearnt t p c (s.axmap p) (s.cutFlight p bits).ports[p].haltBy)) hdrop

/-! ### The end of a halt (R211, R215, R217) -/

/-- Registers put to their reset values hold them. -/
theorem State.reg_foldl_reset {l : List Nat} {a : Nat} (h : a ∈ l) (s : State) :
    (l.foldl (fun t b => t.setReg b (resetWord b)) s).reg a = resetWord a := by
  have hset : ∀ t : State, (t.setReg a (resetWord a)).reg a = resetWord a := fun t => t.reg_setReg_same a _
  obtain ⟨l₁, l₂, hsplit⟩ := List.append_of_mem h
  rw [hsplit, List.foldl_append, List.foldl_cons]
  refine List.foldlRecOn (motive := fun t : State => t.reg a = resetWord a) l₂ _ (hset _) fun t ht b _ => ?_
  by_cases hab : a = b
  · subst hab
    exact hset t
  · exact (t.reg_setReg_ne _ hab).trans ht

theorem State.foldl_reset_ports (l : List Nat) (s : State) : (l.foldl (fun t b => t.setReg b (resetWord b)) s).ports = s.ports :=
  List.foldlRecOn (motive := fun t : State => t.ports = s.ports) l _ rfl fun t ht b _ =>
    ((Ev.setRegA (m := allRegs) (.refl _ t)).same .ports (by decide)).trans ht

/-- A port at reset (R92). -/
theorem State.portClear_shown (s : State) (p : Fin 6) : (s.portClear p).ports[p] = {} ∧
    (s.portClear p).reg (SP_ACNT p) = resetWord (SP_ACNT p) ∧ (s.portClear p).reg (SP_ERR p) = resetWord (SP_ERR p) ∧
    s.keepsOtherPorts (s.portClear p) p := by
  unfold State.portClear
  extract_lets regs
  have hcount : SP_ACNT p ∈ regs := by simp [regs]
  have herrors : SP_ERR p ∈ regs := by simp [regs]
  clear_value regs
  have hcleared := State.reg_foldl_reset hcount s
  have hforgiven := State.reg_foldl_reset herrors s
  exact ⟨State.modPort_port _ p _, hcleared, hforgiven, ((State.keepsOtherPorts.refl s p).congr (s.foldl_reset_ports regs)).modPort⟩

/-- A port OFF, its frame in flight forgotten. -/
theorem State.portOff_shown (s : State) (p : Fin 6) : (s.portOff p).ports[p].st = .off ∧ (s.portOff p).ports[p].twelfth = false ∧
    s.keepsOtherPorts (s.portOff p) p := by
  have hports : (s.portOff p).ports = _ := (State.levelsOffPort_ev (m := 0x10000) (p := p) (.refl _ (s.modPort p fun q =>
    { q.quiet with st := .off, haltDue := none, haltBy := 0, twelfth := false, offAtTwelfth := false, flight := none })) (by decide)).same
    .ports (by decide)
  have hport := (State.ports_congr hports p).trans (s.modPort_port p _)
  exact ⟨congrArg Port.st hport, congrArg Port.twelfth hport, (State.keepsOtherPorts.refl s p).modPort.congr hports⟩

/-- The pre-reset phase no longer waits for the port (R94). -/
def State.twelfthSeen (s : State) (p : Fin 6) : State := s.modSys fun z => { z with prePorts := s.sys.prePorts &&& (63 - 2 ^ p.1) }

theorem execHaltFrameTwelfthEdge_halt {s : State} {p : Fin 6} (hclk : s.clocked = true) (hst : s.ports[p].st = .halt) :
    execHaltFrameTwelfthEdge p s = .next (if s.ports[p].resetting then (s.twelfthSeen p).portClear p
      else if s.ports[p].offAtTwelfth || s.parked then (s.twelfthSeen p).portOff p
      else (s.twelfthSeen p).modPort p fun q => { q with twelfth := true }) := by
  unfold execHaltFrameTwelfthEdge
  dsimp only
  rw [hclk, hst, if_neg (by decide)]
  rfl

theorem State.parkPort_of_unparked {s : State} (h : s.parked = false) (p : Fin 6) : s.parkPort p = s := by
  unfold State.parkPort
  dsimp only
  rw [h, if_pos (by simp)]

theorem execAlloffSequenceComplete_done {s : State} {p : Fin 6} (hclk : s.clocked = true) (hall : s.ports[p].alloff = some [])
    (hpark : s.parked = false) : execAlloffSequenceComplete p s = .next (s.alloffDone p) := by
  unfold execAlloffSequenceComplete
  rw [hclk, hall, State.parkPort_of_unparked (s := s.alloffDone p) hpark]
  rfl

/-- HALT_N is low, and no takeover finds an axis warm (R447). -/
def State.haltNLow (s : State) : State :=
  (s.modSys fun z => { z with haltN := false, ss1 := false }).modCp
    fun z => { z with take := s.cp.take.map fun tk => { tk with warm := 0 } }

theorem execHaltNFall_clocked {s : State} (hclk : s.clocked = true) :
    execHaltNFall s = .next (forFin 6 (fun p t => t.haltPort p 1 0) s.haltNLow).cutAxes := by
  unfold execHaltNFall
  rw [hclk]
  rfl

theorem execSpAlertNFall_own {s : State} {p : Fin 6} (hup : s.up = true) (hhas : s.hasPort p = true)
    (hact : s.get (SP_CFG_ALERTACT p) = 1) : execSpAlertNFall p s = .next ((s.portEvt p 1).haltPort p 2 0) := by
  unfold execSpAlertNFall
  rw [State.whenHas_of_up hup hhas, hact]
  rfl

/-! ### Halts reach the ports -/

/-- HALT_N falls. -/
theorem haltNFall_halts {s : State} (hclk : s.clocked = true) : ∃ t, exec (.haltNFall) s = .next t ∧ t.sys.haltN = false ∧
    (∀ q : Fin 6, s.ports[q].st = .stream → s.ports[q].haltDue = none → t.ports[q].haltDue = some 1) ∧
    (∀ a : Fin 8, t.axes[a].code = 0) ∧
    s.onlyChanges t [.sys, .axes, .ports, .srv, .cp, .eng, .lio, .regs 3, .regs 17, .regs 24] := by
  have hasked : Ev 0x800 s.haltNLow (forFin 6 (fun p t => t.haltPort p 1 0) s.haltNLow) :=
    Ev.forFin (.refl _ _) fun p t => State.haltPort_ev (.refl _ t)
  have hcut := State.cutAxes_parts (forFin 6 (fun p t => t.haltPort p 1 0) s.haltNLow)
  refine ⟨_, execHaltNFall_clocked hclk, ?_, ?_, State.cutAxes_code _, ?_⟩
  · exact congrArg SysSt.haltN ((hcut.same .sys (by decide)).trans (hasked.same .sys (by decide)))
  · intro q hst hdue
    rw [hcut.port (by decide) q]
    exact State.haltPorts_haltDue (s := s.haltNLow) hst hdue (by decide)
  · have hlow : Ev 0x8100 s s.haltNLow := Ev.modCp (Ev.modSys (.refl _ s))
    exact Ev.onlyChanges (((hlow.mono (by decide)).trans (hasked.mono (by decide))).trans (hcut.mono (by decide)))

/-- ALERT_N of a port that halts itself falls. -/
theorem spAlertNFall_halts {s : State} {p : Fin 6} (hup : s.up = true) (hhas : s.hasPort p = true)
    (hact : s.get (SP_CFG_ALERTACT p) = 1) (hst : s.ports[p].st = .stream) (hdue : s.ports[p].haltDue = none) :
    ∃ t, exec (.spAlertNFall p) s = .next t ∧
      t.ports[p] = { s.ports[p] with haltDue := some 2, haltBy := 0, haltAt := s.clk + 7 } ∧
      bitOf (t.get ⟨SP_EVT p, 10, 0⟩) 1 = true ∧ s.keepsOtherPorts t p ∧ s.onlyChanges t [.ports, .regs 3, .regs 16] := by
  have hevt : Ev 0x1000800000000 s (s.portEvt p 1) := State.portEvt_ev (.refl _ s)
  have hports : (s.portEvt p 1).ports = s.ports := hevt.same .ports (by decide)
  have hport := hevt.port (by decide) p
  have hlow : SP_EVT p / 65536 ≠ 0x4003 := by clear hevt hports hport hup hhas hact hst hdue; revert p; decide
  have hexec := execSpAlertNFall_own hup hhas hact
  refine ⟨_, hexec, ?_, ?_, ?_, onlyChanges_of_keeps (execSpAlertNFall_keeps p s) hexec (by decide)⟩
  · rw [State.haltPort_port (hport.symm ▸ hst) (hport.symm ▸ hdue), hport]
    have hclk : (s.portEvt p 1).clk = s.clk := State.raise_clk _ _ _ _
    rw [hclk]
    rfl
  · exact s.bit_raise ⟨SP_EVT p, 10, 0⟩ hlow (by decide : 1 < 10 - 0 + 1) (by decide : 10 < 32) (Nat.zero_le 10)
  · exact ((State.keepsOtherPorts.refl s p).congr hports).modPort

/-- A due halt starts. -/
theorem haltStart_halts {s : State} {p : Fin 6} {bits : List Bool} {c : Nat} (hclk : s.clocked = true)
    (hdue : s.ports[p].haltDue = some c) (hst : s.ports[p].st = .stream) (hcalm : s.calm p) :
    ∃ t, exec (.haltStart p bits) s = .next t ∧ t.ports[p].st = .halt ∧ t.ports[p].haltCause = c ∧ t.ports[p].engQ = [] ∧
      t.ports[p].live = false ∧ t.ports[p].twelfth = false ∧ ⟨.port p, 3 :: s.haltCodes p, []⟩ ∈ t.wire ∧
      s.onlyChanges t [.freeCtr, .wire, .axes, .ports, .srv, .cp, .eng, .lio, .regs 3, .regs 16, .regs 17, .regs 24, .regs 26] := by
  refine ⟨_, execHaltStart_due hclk hst hdue hcalm, ?_⟩
  have hport := s.haltSent_port p bits c
  have hparts := (s.haltSent p bits c).haltLearnt_parts p c (s.axmap p) (s.cutFlight p bits).ports[p].haltBy
  have hlearnt := ((s.haltSent p bits c).haltLearnt_asks p c (s.axmap p) (s.cutFlight p bits).ports[p].haltBy p).eq
    (by rw [hport]; nofun)
  have hwire := hparts.same .wire (by decide)
  rw [hlearnt, hport]
  exact ⟨rfl, rfl, rfl, rfl, rfl, hwire.symm ▸ s.haltSent_wire p bits c,
    Ev.onlyChanges (((s.haltSent_parts p bits c).mono (by decide)).trans (hparts.mono (by decide)))⟩

/-- Settles O15: of each cause, what it asks of the ports, and of each end of a halt, what it leaves of the port. -/
theorem haltsReachThePorts : Obligations.HaltsReachThePorts := by
  unfold Obligations.HaltsReachThePorts
  intro s hclk
  refine ⟨haltNFall_halts hclk, fun p => spAlertNFall_halts, fun p bits c hdue hst hreset htake =>
    haltStart_halts hclk hdue hst ⟨hreset, htake⟩, ?_, ?_, ?_, ?_⟩
  · intro p hst hreset hoff hpark
    have hexec := execHaltFrameTwelfthEdge_halt hclk hst
    rw [hreset, hoff, hpark, if_neg Bool.false_ne_true, if_neg (by decide)] at hexec
    exact ⟨_, hexec, (s.twelfthSeen p).modPort_port p _, (State.keepsOtherPorts.refl s p).modPort,
      onlyChanges_of_keeps (execHaltFrameTwelfthEdge_keeps p s) hexec (by decide)⟩
  · intro p hst hreset hoff
    have hexec := execHaltFrameTwelfthEdge_halt hclk hst
    rw [hreset, hoff, if_neg Bool.false_ne_true, Bool.true_or, if_pos rfl] at hexec
    obtain ⟨hto, htwelfth, hothers⟩ := (s.twelfthSeen p).portOff_shown p
    exact ⟨_, hexec, hto, htwelfth, hothers, onlyChanges_of_keeps (execHaltFrameTwelfthEdge_keeps p s) hexec (by decide)⟩
  · intro p hst hreset
    have hexec := execHaltFrameTwelfthEdge_halt hclk hst
    rw [hreset, if_pos rfl] at hexec
    obtain ⟨hport, hacnt, herr, hothers⟩ := (s.twelfthSeen p).portClear_shown p
    have hparts : Ev (Part.mask [.sys, .ports, .regs 16]) s ((s.twelfthSeen p).portClear p) :=
      State.portClear_ev (Ev.modSys (.refl _ s) (by decide)) (by decide)
    exact ⟨_, hexec, hport, hacnt, herr, hothers, hparts.onlyChanges⟩
  · intro p hall hpark
    exact ⟨_, execAlloffSequenceComplete_done hclk hall hpark, s.modPort_port p _, (State.keepsOtherPorts.refl s p).modPort,
      Ev.onlyChanges (Ev.modPort (.refl _ s) (k := by decide))⟩

end Sys2Proof.Machine
end

section
/-! PROOFS. The request of a software system reset (R94, R98): what the pre-reset phase begins with. -/

-- one theorem after another: theorems checked side by side each hold a thread, and their stacks fill the memory limit
set_option Elab.async false

namespace Sys2Proof.Machine

/-! ### Halts that are due stay due (R213) -/

/-- A port that has a halt due still has one. -/
def State.keepsHalts (s t : State) : Prop := ∀ p : Fin 6, s.ports[p].haltDue.isSome = true → t.ports[p].haltDue.isSome = true

theorem State.keepsHalts.refl (s : State) : s.keepsHalts s := fun _ => id

theorem State.keepsHalts.trans {s t u : State} (h : s.keepsHalts t) (h' : t.keepsHalts u) : s.keepsHalts u := fun p => h' p ∘ h p

/-- An operation that leaves the ports alone. -/
theorem State.keepsHalts.ev {s t u : State} {m : Nat} (h : s.keepsHalts t) (hev : Ev m t u) (hports : m.testBit 11 = false) :
    s.keepsHalts u := fun p hp => (congrArg (fun q => q.haltDue.isSome) (hev.port hports p)).trans (h p hp)

theorem State.keepsHalts.modPort {s t : State} {p : Fin 6} {f : Port → Port} (h : s.keepsHalts t)
    (hf : ∀ q : Port, q.haltDue.isSome = true → (f q).haltDue.isSome = true) : s.keepsHalts (t.modPort p f) := by
  intro q hq
  by_cases hqp : q = p
  · subst hqp
    rw [State.modPort_port]
    exact hf _ (h q hq)
  · rw [State.modPort_port_ne _ _ hqp]
    exact h q hq

theorem State.keepsHalts.haltPort {s t : State} {p : Fin 6} {cause who : Nat} (h : s.keepsHalts t) :
    s.keepsHalts (t.haltPort p cause who) := by
  refine h.modPort fun q hq => ?_
  split
  · exact hq
  · split
    · rfl
    · split
      · rfl
      · split <;> exact hq

theorem State.fastHalt_keepsHalts (s : State) (a : Fin 8) : s.keepsHalts (s.fastHalt a) := by
  have hports : s.keepsHalts (s.haltAxisPorts a) := by
    refine forFin_induction (P := s.keepsHalts) (.refl s) fun p t ht => ?_
    split
    · exact ht.haltPort
    · exact ht
  exact hports.ev (State.haltAxis_ev (m := 0x102000000110400) (.refl _ _)) (by decide)

theorem State.forceDisabled_keepsHalts (s : State) (a : Fin 8) : s.keepsHalts (s.forceDisabled a) := by
  have hhalted := s.fastHalt_keepsHalts a
  unfold State.forceDisabled
  dsimp only
  split
  · exact hhalted
  · refine hhalted.ev (m := 0x2000800100400) ?_ (by decide)
    split
    · exact Ev.raise (State.axisTo_ev (.refl _ _)) 17 (by simp only [axEvt, AX_EVT]; omega)
    · exact State.axisTo_ev (.refl _ _)

theorem State.claimRelease_keepsHalts (s : State) : s.keepsHalts s.claimRelease := by
  unfold State.claimRelease
  split
  · exact .refl s
  · extract_lets s1 s2 s3 s4
    have hforced : s.keepsHalts s2 := by
      refine forFin_induction (P := s.keepsHalts) (fun _ => id) fun a t ht => ?_
      split
      · exact ht.trans (t.forceDisabled_keepsHalts a)
      · exact ht
    have hports : s.keepsHalts s3 := by
      refine forFin_induction (P := s.keepsHalts) hforced fun p t ht => ?_
      split
      · refine ht.modPort fun q hq => ?_
        split <;> exact hq
      · exact ht
    have hrole : s.keepsHalts s4 := hports
    split
    · exact hrole.ev (State.parkJudge_ev (m := 0x90000c000) (.refl _ _)) (by decide)
    · exact hrole

/-! ### The claim (R428, R430) -/

/-- Without the claim no handover can be asked for, and a park request leaves the claim alone. -/
theorem State.parkJudge_claim {s : State} (h : s.cp.claim = false) : s.parkJudge.2.cp.claim = false := by
  have hrefused (reason : Nat) : (s.parkRefuse reason).cp.claim = false :=
    (congrArg Cp.claim ((State.parkRefuse_ev (m := 0x900004000) (.refl _ s)).same .cp (by decide))).trans h
  unfold State.parkJudge
  split
  · exact hrefused 3
  · split
    · exact (congrArg Cp.claim ((State.parkTo_ev (m := 0x900004000) (.refl _ s)).same .cp (by decide))).trans h
    · rw [if_neg fun hduty => Bool.false_ne_true (h.symm.trans hduty.2)]
      exact hrefused 1

theorem State.claimRelease_claim (s : State) : s.claimRelease.cp.claim = false := by
  unfold State.claimRelease
  split
  next hclaim => simpa using hclaim
  next =>
    extract_lets s1 s2 s3 s4
    have hforced : s2.cp = s1.cp := (Ev.forFin (m := 0x102000800110c00) (.refl _ s1) fun a t =>
      Ev.ite (fun _ => State.forceDisabled_ev (.refl _ t)) fun _ => .refl _ t).same .cp (by decide)
    have hports : s3.cp = s2.cp := forFin_induction (P := fun t => t.cp = s2.cp) rfl fun p t ht => by
      split <;> exact ht
    have hclaim : s4.cp.claim = false := congrArg Cp.claim (hports.trans hforced)
    split
    · exact State.parkJudge_claim hclaim
    · exact hclaim

/-! ### RST_CAUSE (R93) -/

theorem State.parkTo_cause (s : State) (st reason : Nat) : (s.parkTo st reason).reg RST_CAUSE = s.reg RST_CAUSE := by
  unfold State.parkTo
  split
  · rfl
  · rw [State.reg_emcy, State.reg_strobe _ _ _ (by decide), State.reg_put_ne _ _ (by decide)]

theorem State.parkRefuse_cause (s : State) (reason : Nat) : (s.parkRefuse reason).reg RST_CAUSE = s.reg RST_CAUSE :=
  (State.parkTo_cause _ 0 reason).trans (State.reg_put_ne _ _ (by decide))

theorem State.parkJudge_cause (s : State) : s.parkJudge.2.reg RST_CAUSE = s.reg RST_CAUSE := by
  unfold State.parkJudge
  split
  · exact s.parkRefuse_cause 3
  · split
    · exact s.parkTo_cause 2 0
    · split
      · extract_lets h
        split
        · exact (State.parkTo_cause _ 1 0).trans
            ((State.handoverAsk_ev (m := 0x8000) (.refl _ s)).reg 0 (by decide) (by decide))
        · exact s.parkRefuse_cause 2
      · exact s.parkRefuse_cause 1

theorem State.claimRelease_cause (s : State) : s.claimRelease.reg RST_CAUSE = s.reg RST_CAUSE := by
  unfold State.claimRelease
  split
  · rfl
  · extract_lets s1 s2 s3 s4
    have hforced : s2.reg RST_CAUSE = s.reg RST_CAUSE := (Ev.forFin (m := 0x102000800110c00) (.refl _ s1) fun a t =>
      Ev.ite (fun _ => State.forceDisabled_ev (.refl _ t)) fun _ => .refl _ t).reg 0 (by decide) (by decide)
    have hports : s3.reg RST_CAUSE = s2.reg RST_CAUSE := forFin_induction (P := fun t => t.reg RST_CAUSE = s2.reg RST_CAUSE) rfl
      fun p t ht => by split <;> exact ht
    have hrole : s4.reg RST_CAUSE = s.reg RST_CAUSE := (State.reg_put_ne _ _ (by decide)).trans (hports.trans hforced)
    split
    · exact (State.parkJudge_cause s4).trans hrole
    · exact hrole

theorem State.abandoned_cause (s : State) : s.abandoned.reg RST_CAUSE = s.reg RST_CAUSE := State.reg_put_ne _ _ (by decide)

/-- What a stop of a DMA channel leaves alone. -/
theorem State.dmaAbandon_shown (s : State) (c : Fin 32) : (s.dmaAbandon c).reg RST_CAUSE = s.reg RST_CAUSE ∧
    (s.dmaAbandon c).pr.cores = s.pr.cores := by
  have hblock : DMA_STAT c / 65536 % 32 = 4 ∧ DMA_FAULT_INFO c / 65536 % 32 = 4 ∧ DMA_FLAGS c / 65536 % 32 = 4 := by
    revert c; decide
  obtain ⟨hstat, hinfo, hflags⟩ := hblock
  have hresume (t : State) : Ev 0x1000000000 t (t.dmaResume c) := State.dmaResume_ev (.refl _ t)
  unfold State.dmaAbandon
  extract_lets s1 u
  have hmarked : Ev 0x1000000000 s u :=
    Ev.ite (fun _ => Ev.put (Ev.mark (.refl _ s)) 4 hstat) fun _ => Ev.mark (.refl _ s)
  have hu : u.reg RST_CAUSE = s.reg RST_CAUSE ∧ u.pr.cores = s.pr.cores :=
    ⟨hmarked.reg 0 (by decide) (by decide), congrArg Procs.cores (hmarked.same .pr (by decide))⟩
  -- a channel that stops now, whatever it was doing: block 4 is written, and the stop is due
  have hstopped (t : State) (ht : Ev 0x1000000000 u t) (f : Procs → Procs) (hf : ∀ z, (f z).cores = z.cores) :
      (t.modPr f).abandoned.reg RST_CAUSE = s.reg RST_CAUSE ∧ (t.modPr f).abandoned.pr.cores = s.pr.cores :=
    ⟨(State.abandoned_cause _).trans ((ht.reg 0 (by decide) (by decide)).trans hu.1),
      (hf _).trans ((congrArg Procs.cores (ht.same .pr (by decide))).trans hu.2)⟩
  split
  · exact hu
  · exact hstopped _ (Ev.put (Ev.put (Ev.put (hresume u) 4 hstat) 4 hstat) 4 hflags) _ fun _ => rfl
  · split
    · exact hu
    · exact hstopped _ (Ev.put (Ev.put (Ev.put (.refl _ u) 4 hinfo) 4 hstat) 4 hflags) _ fun _ => rfl

theorem State.holdAnswer_cause (s : State) {f : State → State} (hf : ∀ t, (f t).reg RST_CAUSE = t.reg RST_CAUSE) :
    (s.holdAnswer f).reg RST_CAUSE = s.reg RST_CAUSE := hf s

theorem State.dropSdoReplies_cause (s : State) (ch : Fin 2) : (s.dropSdoReplies ch).reg RST_CAUSE = s.reg RST_CAUSE :=
  State.reg_put_ne _ _ (by decide)

theorem State.dropRingReplies_cause (s : State) : s.dropRingReplies.reg RST_CAUSE = s.reg RST_CAUSE :=
  State.reg_put_ne _ _ (by decide)

theorem State.preAnswer_cause (s : State) : s.preAnswer.reg RST_CAUSE = s.reg RST_CAUSE := by
  unfold State.preAnswer
  extract_lets s1 s2
  have hdropped : s1.reg RST_CAUSE = s.reg RST_CAUSE :=
    (State.dropRingReplies_cause _).trans ((State.dropSdoReplies_cause _ 1).trans (s.dropSdoReplies_cause 0))
  have hsdo : s2.reg RST_CAUSE = s.reg RST_CAUSE := by
    refine forFin_induction (P := fun t => t.reg RST_CAUSE = s.reg RST_CAUSE) hdropped fun ch t ht => ?_
    split
    next i j _ =>
      exact (State.holdAnswer_cause t fun u =>
        (State.sdoAbort_ev (m := 0x20000000000004) (.refl _ u)).reg 0 (by decide) (by decide)).trans ht
    next => exact ht
  rw [State.reg_modRing]
  refine List.foldlRecOn (motive := fun t : State => t.reg RST_CAUSE = s.reg RST_CAUSE) _ _ hsdo fun t ht q _ => ?_
  exact (State.holdAnswer_cause t fun u =>
    (State.sysAnswer_ev (m := 0x10000800800004) (.refl _ u)).reg 0 (by decide) (by decide)).trans ht

/-! ### Steps 1 and 2 of R94 -/

theorem State.preDisable_st (s : State) (a : Fin 8) : (s.preDisable a).axes[a].st = .disabled := by
  unfold State.preDisable
  extract_lets x s1 s2
  have hst (st mode) : (s1.axisTo a st mode).axes[a].st = st := State.axisTo_st _ _ _ _
  split
  next hdisabled =>
    have haxis : s1.axes[a] = x.stopped := by
      show ((s.stopEngine a).levelsOff a |>.brakeCmd a false).axes[a] = _
      rw [State.axis_congr (State.brakeCmd_axes _ a false) a, State.axis_congr (State.levelsOff_axes _ a) a, State.stopEngine_axis]
    rw [haxis]
    exact hdisabled
  next =>
    split
    · rw [State.axis_congr (State.raise_axes _ _ _ _) a]
      exact hst _ _
    · exact hst _ _

theorem State.preDisable_otherAxes (s : State) (a : Fin 8) : s.keepsOtherAxes (s.preDisable a) a := by
  have hhalted := State.haltAxis_otherAxes (State.keepsOtherAxes.refl s a)
  unfold State.preDisable
  extract_lets x s1 s2
  split
  · exact hhalted
  · split
    · exact hhalted.axisTo.congr (State.raise_axes _ _ _ _)
    · exact hhalted.axisTo

theorem State.preDisables_safe (s : State) (a : Fin 8) : (forFin 8 (fun b t => t.preDisable b) s).isSafe a = true := by
  have hst : (forFin 8 (fun b t => t.preDisable b) s).axes[a].st = .disabled := by
    refine forFin_reaches (P := fun _ => True) (Q := fun t => t.axes[a].st = .disabled) a trivial (fun _ _ _ => trivial)
      (fun t _ => t.preDisable_st a) fun b t _ ht => ?_
    by_cases hab : a = b
    · subst hab
      exact t.preDisable_st a
    · rw [t.preDisable_otherAxes b a hab]
      exact ht
  exact beq_iff_eq.mpr (Axis.code_of_not_running (by rw [hst]; decide) (by rw [hst]; decide))

theorem State.haltPort_isSome {s : State} {p : Fin 6} {cause who : Nat} (hst : s.ports[p].st = .stream) :
    (s.haltPort p cause who).ports[p].haltDue.isSome = true := by
  cases hdue : s.ports[p].haltDue with
  | none => rw [State.haltPort_port hst hdue]; rfl
  | some c => exact (State.keepsHalts.refl s).haltPort p (by rw [hdue]; rfl)

theorem State.haltPorts_isSome {s : State} {p : Fin 6} (hst : s.ports[p].st = .stream) (cause who : Nat) :
    (forFin 6 (fun q t => t.haltPort q cause who) s).ports[p].haltDue.isSome = true :=
  forFin_reaches (P := fun t => t.ports[p].st = .stream) (Q := fun t => t.ports[p].haltDue.isSome = true) p hst
    (fun q t ht => (t.haltPort_st q cause who p).trans ht) (fun _ ht => State.haltPort_isSome ht)
    fun q t _ hdue => (State.keepsHalts.refl t).haltPort p hdue

theorem State.resetSignal_cutLevels {s : State} (h : s.bg.powered = true) : s.resetSignal.cutLevels := by
  unfold State.resetSignal
  rw [h]
  exact s.cut_cutLevels

/-- What Haldux does at the start of the pre-reset phase, before its answers (R94 steps 1 and 2). -/
structure State.wound (s t : State) : Prop where
  cause : t.reg RST_CAUSE = s.reg RST_CAUSE
  cores : ∀ c : Fin 4, t.pr.cores[c].run = none
  claim : t.cp.claim = false
  safe : ∀ a : Fin 8, t.isSafe a = true
  halts : ∀ p : Fin 6, s.ports[p].st = .stream → t.ports[p].haltDue.isSome = true
  cut : s.bg.powered = true → t.cutLevels

theorem State.preStart_wound (s : State) : s.wound s.preStart := by
  unfold State.preStart
  extract_lets s0 s1 s2
  have hhalts : Ev 0x800 s s0 := Ev.forFin (.refl _ s) fun p t => State.haltPort_ev (.refl _ t)
  have hsignal : Ev 0x100000a00100300 s0 s0.resetSignal := State.resetSignal_ev (.refl _ s0)
  have hcores : Ev 0x1000000 s1 s2 := Ev.forFin (.refl _ s1) fun c t => State.modCore_ev (.refl _ t)
  have haxes : Ev 0x102000800110400 s2 (forFin 8 (fun a t => t.preDisable a) s2) :=
    Ev.forFin (.refl _ s2) fun a t => State.preDisable_ev (.refl _ t)
  have hafter : Ev 0x102000801110400 s1 _ := (hcores.mono (by decide)).comp haxes (by decide)
  refine ⟨?_, fun c => ?_, ?_, s2.preDisables_safe, fun p hp => ?_, fun hpowered => ?_⟩
  · calc _ = s1.reg RST_CAUSE := hafter.reg 0 (by decide) (by decide)
      _ = s0.resetSignal.reg RST_CAUSE := State.claimRelease_cause _
      _ = s0.reg RST_CAUSE := hsignal.reg 0 (by decide) (by decide)
      _ = s.reg RST_CAUSE := hhalts.reg 0 (by decide) (by decide)
  · have hpr : _ = s2.pr := haxes.same .pr (by decide)
    rw [hpr]
    refine forFin_reaches (P := fun _ => True) (Q := fun t => t.pr.cores[c].run = none) c trivial (fun _ _ _ => trivial)
      (fun t _ => congrArg CoreSt.run (upd_same _ _ _)) fun d t _ ht => ?_
    by_cases hcd : c = d
    · subst hcd
      exact congrArg CoreSt.run (upd_same _ _ _)
    · exact (congrArg CoreSt.run (upd_ne _ _ _ _ hcd)).trans ht
  · exact (congrArg Cp.claim (hafter.same .cp (by decide))).trans (State.claimRelease_claim _)
  · have hsome := State.haltPorts_isSome hp 6 0
    exact (((State.claimRelease_keepsHalts _).ev hafter (by decide)) p
      ((congrArg (fun q => q.haltDue.isSome) (hsignal.port (by decide) p)).trans hsome))
  · have hbg : _ = s1.bg := hafter.same .bg (by decide)
    have hpow : s0.bg.powered = true := (congrArg Badger.powered (hhalts.same .bg (by decide))).trans hpowered
    unfold State.cutLevels
    rw [hbg, State.claimRelease_bg]
    exact State.resetSignal_cutLevels hpow

theorem State.wound.isSafe_of_axes {s t u : State} (h : s.wound t) (haxes : u.axes = t.axes) (a : Fin 8) : u.isSafe a = true :=
  (congrArg (fun x : Axis => x.code == 0) (State.axis_congr haxes a)).trans (h.safe a)

/-- The parts that a later step of the phase may still change. -/
theorem State.wound.ev {s t u : State} {m : Nat} (h : s.wound t) (hev : Ev m t u)
    (hm : m.testBit 9 = false ∧ m.testBit 10 = false ∧ m.testBit 11 = false ∧ m.testBit 15 = false)
    (hcause : u.reg RST_CAUSE = t.reg RST_CAUSE) (hcores : u.pr.cores = t.pr.cores) : s.wound u := by
  obtain ⟨hbg, haxes, hports, hcp⟩ := hm
  refine ⟨hcause.trans h.cause, fun c => ?_, ?_, ?_, fun p hp => ?_, fun hpowered => ?_⟩
  · exact (congrArg (fun v : Vector CoreSt 4 => v[c].run) hcores).trans (h.cores c)
  · exact (congrArg Cp.claim (hev.same .cp hcp)).trans h.claim
  · exact h.isSafe_of_axes (hev.same .axes haxes)
  · exact (congrArg (fun q => q.haltDue.isSome) (hev.port hports p)).trans (h.halts p hp)
  · obtain ⟨hhalt, hgpe, hpermit⟩ := h.cut hpowered
    have hsame : u.bg = t.bg := hev.same .bg hbg
    unfold State.cutLevels
    rw [hsame]
    exact ⟨hhalt, hgpe, hpermit⟩

theorem State.wound.dmaAbandons {s t : State} (h : s.wound t) :
    s.wound (forFin 32 (fun c u => if u.get (DMA_STAT_STATE c) = 1 then u.dmaAbandon c else u) t) := by
  refine forFin_induction (P := s.wound) h fun c u hu => ?_
  split
  · exact hu.ev (State.dmaAbandon_ev (m := 0x1101000000) (.refl _ u)) (by decide) (u.dmaAbandon_shown c).1 (u.dmaAbandon_shown c).2
  · exact hu

theorem State.wound.preAnswer {s t : State} (h : s.wound t) : s.wound t.preAnswer := by
  have hev : Ev 0x30000900804104 t t.preAnswer := State.preAnswer_ev (.refl _ t)
  exact h.ev hev (by decide) t.preAnswer_cause (congrArg Procs.cores (hev.same .pr (by decide)))

theorem State.wound.modSys {s t : State} (h : s.wound t) (f : SysSt → SysSt) : s.wound (t.modSys f) :=
  h.ev (m := 0x100) (Ev.modSys (.refl _ t)) (by decide) rfl rfl

/-! ### The request (R93, R94, R98) -/

theorem State.rstFlag_bit (s : State) (src : RstSource) : bitOf ((s.rstFlag src).get ⟨RST_CAUSE, 8, 0⟩) (src.code - 1) = true :=
  s.get_putOr_bit ⟨RST_CAUSE, 8, 0⟩ (by cases src <;> decide) (by decide) (by decide)

/-- A request of system scope on a unit that runs begins the pre-reset phase. -/
theorem State.sysRequest_inPreReset {s : State} (h : s.up = true) (src : RstSource) (first : List (Bool × List Msg)) :
    s.inPreReset (s.sysRequest src first) src := by
  have hrun : s.sys.phase = .run := s.up_iff.mp h
  unfold State.sysRequest
  rw [hrun]
  extract_lets s1 ports
  have hwound := ((State.preStart_wound (s.rstFlag src)).dmaAbandons.modSys fun y => { y with preAnswers := first }).preAnswer.modSys
    fun y => { y with phase := .pre, preSrc := some src, prePorts := ports }
  refine ⟨rfl, rfl, ?_, hwound.cores, hwound.claim, hwound.safe, hwound.halts, hwound.cut⟩
  rw [State.get, hwound.cause]
  exact s.rstFlag_bit src

end Sys2Proof.Machine
end

section
/-! PROOFS. SYS_RST (04_reset_startup.md): O57. -/

set_option Elab.async false

namespace Sys2Proof.Machine

theorem State.writeSysRst_key (s : State) : s.writeSysRst 0x00005E7A = s.sysRequest .software [] := if_pos rfl

theorem State.writeSysRst_other (s : State) {v : Word} (h : v ≠ 0x00005E7A) : s.writeSysRst v = s := if_neg h

/-- Settles O57: the key begins the pre-reset phase as any request of system scope does; any other value is discarded. -/
theorem systemResetRegister : Obligations.SystemResetRegister := by
  unfold Obligations.SystemResetRegister
  refine fun s v => ⟨fun hup hkey => ⟨_, rfl, ?_, onlyChanges_of_keeps (execSoftwareSystemReset_keeps v s) rfl (by decide)⟩,
    fun hkey => ⟨_, rfl, s.writeSysRst_other hkey⟩⟩
  subst hkey
  rw [State.writeSysRst_key]
  exact State.sysRequest_inPreReset hup .software []

end Sys2Proof.Machine
end

section
/-! PROOFS. Communication loss (R498): what the reaction of one axis leaves of the other axes, of the server and of the PDO block, and that
an axis under fieldbus control whose reaction is 1 ends in Fault. -/

set_option Elab.async false

namespace Sys2Proof.Machine

/-! ### What an operation of the sequencer on one axis leaves alone -/

/-- The registers of block 17 in which an operation on axis `a` shows. -/
def axisRegs (a : Fin 8) : List Nat := [AX_EVT a, AX_ERR a, AX_REFUSE a, ENG_STAT a]

theorem axisRegs_block {a : Fin 8} {x : Nat} (h : x ∈ axisRegs a) : x / 65536 = 0x4011 := by
  have hall : ∀ b : Fin 8, ∀ y ∈ axisRegs b, y / 65536 = 0x4011 := by decide
  exact hall a x h

/-- The server but for EMCYs added to its queue. -/
def Srv.gainsEmcys (x y : Srv) : Prop := ∃ l n, y = { x with emcyQ := x.emcyQ ++ l, emcyLost := n }

theorem Srv.gainsEmcys.refl (x : Srv) : x.gainsEmcys x := ⟨[], x.emcyLost, by rw [List.append_nil]⟩

theorem Srv.gainsEmcys.trans {x y z : Srv} (h : x.gainsEmcys y) (h' : y.gainsEmcys z) : x.gainsEmcys z := by
  obtain ⟨l, n, rfl⟩ := h
  obtain ⟨l', n', rfl⟩ := h'
  exact ⟨l ++ l', n', by rw [List.append_assoc]⟩

theorem State.emcy_gainsEmcys (s : State) (code : Nat) (bytes : List Nat) : s.srv.gainsEmcys (s.emcy code bytes).srv := by
  unfold State.emcy
  split
  · exact ⟨[⟨code, bytes⟩], s.srv.emcyLost, rfl⟩
  · exact ⟨[], s.srv.emcyLost + 1, by rw [List.append_nil]⟩

/-- An operation of the sequencer on axis `a`: the other axes, their registers and their brake commands stay, EMCYs may be added to the
queue, and of the PDO block only the record of communication losses may change. -/
structure State.actsOn (s t : State) (a : Fin 8) : Prop where
  axes : s.keepsOtherAxes t a
  regs : s.keepsRegs t 17 (axisRegs a)
  brake : ∀ b : Fin 8, b ≠ a → t.get (BRK_STAT_CMD b) = s.get (BRK_STAT_CMD b)
  pdo : s.keepsRegs t 22 [PDO_LOSS]
  srv : s.srv.gainsEmcys t.srv
  route : t.route = s.route

theorem State.actsOn.refl (s : State) (a : Fin 8) : s.actsOn s a :=
  ⟨.refl s a, .refl s _ _, fun _ _ => rfl, .refl s _ _, .refl _, rfl⟩

theorem BRK_STAT_block (b : Fin 8) : (BRK_STAT_CMD b).addr / 65536 = 0x4018 := by revert b; decide

/-- An operation on other parts of the state: bits 10, 14 and 18 are the axes, the server and the routes, bits 49, 54 and 56 the blocks
17, 22 and 24. -/
theorem State.actsOn.ev {s t u : State} {a : Fin 8} {m : Nat} (h : s.actsOn t a) (hev : Ev m t u)
    (hm : m &&& 0x142000000044400 = 0 := by decide) : s.actsOn u a := by
  have hbit : ∀ i, (0x142000000044400 : Nat).testBit i = true → m.testBit i = false := fun i hi => by
    have hand := congrArg (·.testBit i) hm
    simpa [Nat.testBit_and, hi] using hand
  have hreg (b : Fin 32) (hb : m.testBit (32 + b.1) = false) : ∀ x, x / 65536 % 32 = b.1 → u.reg x = t.reg x :=
    fun x hx => hev.reg b hx hb
  refine ⟨h.axes.congr (hev.same .axes (hbit 10 (by decide))), h.regs.congr (hreg 17 (hbit 49 (by decide))), fun b hb => ?_,
    h.pdo.congr (hreg 22 (hbit 54 (by decide))), ?_, (hev.same .route (hbit 18 (by decide))).trans h.route⟩
  · refine Eq.trans ?_ (h.brake b hb)
    rw [State.get, hreg 24 (hbit 56 (by decide)) _ (by rw [BRK_STAT_block]; rfl)]
    rfl
  · have hsrv : u.srv = t.srv := hev.same .srv (hbit 14 (by decide))
    rw [hsrv]
    exact h.srv

theorem State.actsOn.modAxis {s t : State} {a : Fin 8} {f : Axis → Axis} (h : s.actsOn t a) : s.actsOn (t.modAxis a f) a :=
  ⟨h.axes.modAxis, h.regs, h.brake, h.pdo, h.srv, h.route⟩

/-- A register of the axis is written. -/
theorem State.actsOn.setReg {s t : State} {a : Fin 8} {x : Nat} {v : Word} (h : s.actsOn t a) (hx : x ∈ axisRegs a) :
    s.actsOn (t.setReg x v) a := by
  have hblock := axisRegs_block hx
  have hne {y : Nat} (hy : y / 65536 % 32 ≠ 17) : y ≠ x := fun e => hy (by rw [e, hblock])
  refine ⟨h.axes, h.regs.setReg hx, fun b hb => ?_, fun y hy hnot => ?_, h.srv, h.route⟩
  · refine Eq.trans ?_ (h.brake b hb)
    rw [State.get, State.reg_setReg_ne _ _ (hne (by rw [BRK_STAT_block]; decide))]
    rfl
  · exact (State.reg_setReg_ne _ _ (hne (by rw [hy]; decide))).trans (h.pdo y hy hnot)

theorem State.actsOn.put {s t : State} {a : Fin 8} {f : Fld} {v : Nat} (h : s.actsOn t a) (hf : f.addr ∈ axisRegs a) :
    s.actsOn (t.put f v) a := State.actsOn.ev (m := 0) (h.setReg hf) (Ev.noteSet (.refl _ _))

theorem State.actsOn.raise {s t : State} {a : Fin 8} {f : Fld} {i j : Nat} (h : s.actsOn t a) (hf : f.addr ∈ axisRegs a) :
    s.actsOn (t.raise f i j) a :=
  State.actsOn.ev (m := 0x800000000) (h.setReg hf) (Ev.strobe (Ev.noteSet (.refl _ _)))

theorem State.actsOn.emcy {s t : State} {a : Fin 8} {code : Nat} {bytes : List Nat} (h : s.actsOn t a) :
    s.actsOn (t.emcy code bytes) a := by
  have hev : Ev 0x4000 t (t.emcy code bytes) := Ev.emcy (.refl _ t)
  have hreg (x : Nat) : (t.emcy code bytes).reg x = t.reg x := State.reg_emcy _ _ _ x
  refine ⟨h.axes.congr (State.emcy_axes _ _ _), h.regs.congr fun x _ => hreg x, fun b hb => ?_, h.pdo.congr fun x _ => hreg x,
    h.srv.trans (t.emcy_gainsEmcys code bytes), (hev.same .route (by decide)).trans h.route⟩
  exact (State.get_emcy _ _ _ _).trans (h.brake b hb)

theorem axEvt_mem (a : Fin 8) : (axEvt a).addr ∈ axisRegs a := List.mem_cons_self
theorem AX_REFUSE_mem (a : Fin 8) : AX_REFUSE a ∈ axisRegs a := by simp [axisRegs]
theorem ENG_STAT_mem (a : Fin 8) : ENG_STAT a ∈ axisRegs a := by simp [axisRegs]

theorem State.actsOn.axisTo {s t : State} {a : Fin 8} {st : Cia} {mode : Int} (h : s.actsOn t a) : s.actsOn (t.axisTo a st mode) a := by
  unfold State.axisTo
  extract_lets old moved new marked lit shown
  have hmarked : s.actsOn marked a := by
    simp only [marked]
    split
    · exact State.actsOn.ev (m := 0) h.modAxis (Ev.mark (.refl _ _))
    · exact h.modAxis
  have hlit : s.actsOn lit a := by
    simp only [lit]
    split
    · exact State.actsOn.ev (m := 0x100000) hmarked (State.lampsFollow_ev (.refl _ _))
    · exact hmarked
  have hshown : s.actsOn shown a := by
    simp only [shown]
    split
    · exact hlit
    · exact hlit.modAxis
  split
  · exact hshown
  · exact hshown.raise (axEvt_mem a)

/-- The brake of the axis alone is commanded; the outputs are no commands. -/
theorem State.actsOn.brakeCmd {s t : State} {a : Fin 8} {release : Bool} (h : s.actsOn t a) : s.actsOn (t.brakeCmd a release) a := by
  have hev : Ev 0x100000000100000 t (t.brakeCmd a release) := State.brakeCmd_ev (.refl _ t)
  have hreg (b : Fin 32) (hb : (0x100000000100000 : Nat).testBit (32 + b.1) = false) :
      ∀ x, x / 65536 % 32 = b.1 → (t.brakeCmd a release).reg x = t.reg x := fun x hx => hev.reg b hx hb
  have hsrv : (t.brakeCmd a release).srv = t.srv := hev.same .srv (by decide)
  refine ⟨h.axes.congr (State.brakeCmd_axes _ a _), h.regs.congr (hreg 17 (by decide)), fun b hb => ?_,
    h.pdo.congr (hreg 22 (by decide)), hsrv ▸ h.srv, (hev.same .route (by decide)).trans h.route⟩
  have hne : BRK_STAT b ≠ BRK_STAT a := by
    clear hsrv hreg hev h; revert a b; decide
  refine Eq.trans (State.brakes_cmd _ b) (Eq.trans ?_ (h.brake b hb))
  exact State.get_put_ne _ _ hne

theorem State.actsOn.haltAxis {s t : State} {a : Fin 8} (h : s.actsOn t a) : s.actsOn (t.haltAxis a) a := by
  have hstopped : s.actsOn (t.stopEngine a) a := (((h.put (ENG_STAT_mem a)).put (ENG_STAT_mem a)).put (ENG_STAT_mem a)).modAxis
  exact (hstopped.ev (m := 0x10000) (State.levelsOff_ev (.refl _ _))).brakeCmd

theorem State.actsOn.fastHalt {s t : State} {a : Fin 8} (h : s.actsOn t a) : s.actsOn (t.fastHalt a) a :=
  (h.ev (m := 0x800) (State.haltAxisPorts_ev (.refl _ t))).haltAxis

theorem State.actsOn.leaveTo {s t : State} {a : Fin 8} {st : Cia} (h : s.actsOn t a) : s.actsOn (t.leaveTo a st) a := by
  unfold State.leaveTo
  dsimp only
  split
  · exact h.axisTo.raise (axEvt_mem a)
  · exact h.axisTo

theorem State.actsOn.recordRefusal {s t : State} {a : Fin 8} {cmd reason : Nat} {req : Int} (h : s.actsOn t a) :
    s.actsOn (t.recordRefusal a cmd reason req) a := by
  have hnoted := (((h.put (f := AX_REFUSE_COUNT a) (v := satInc (2 ^ (AX_REFUSE_COUNT a).width - 1) (t.get (AX_REFUSE_COUNT a)))
    (AX_REFUSE_mem a)).put (f := AX_REFUSE_REASON a) (v := reason) (AX_REFUSE_mem a)).put (f := AX_REFUSE_CMD a) (v := cmd)
    (AX_REFUSE_mem a)).raise (i := 1) (j := evAxis a) (axEvt_mem a)
  unfold State.recordRefusal
  dsimp only
  split
  · exact hnoted
  · exact hnoted.emcy.modAxis

theorem State.actsOn.takeFault {s t : State} {a : Fin 8} {cause axerr : Nat} (h : s.actsOn t a) : s.actsOn (t.takeFault a cause axerr) a := by
  have hmarked : s.actsOn (t.markAct 3 a) a := h.ev (m := 0) (Ev.mark (.refl _ _))
  have hnoted := (hmarked.put (f := AX_ERR_ERRCODE a) (v := axerr) (by simp [axisRegs, AX_ERR_ERRCODE])).raise (i := 2) (j := evAxis a)
    (axEvt_mem a)
  unfold State.takeFault
  dsimp only
  split
  · exact hnoted.fastHalt
  · split
    · exact (hnoted.fastHalt.axisTo.axisTo.raise (axEvt_mem a)).emcy
    · exact hnoted.fastHalt.axisTo.axisTo.emcy

/-- The loops' memories are parts of the engine. -/
theorem State.actsOn.modEng {s t : State} {a b : Fin 8} {f : Eng → Eng} (h : s.actsOn t a) : s.actsOn (t.modEng b f) a :=
  h.ev (m := 0x10000) (Ev.modEng (.refl _ _))

theorem State.actsOn.beginRamp {s t : State} {a : Fin 8} {r : Ramp} {st : Cia} {cmd : Nat} (h : s.actsOn t a) :
    s.actsOn (t.beginRamp a r st cmd) a := by
  unfold State.beginRamp
  extract_lets x leaves charged ramped started
  have hcharged : s.actsOn charged a := by
    simp only [charged]
    split
    · exact h.put (ENG_STAT_mem a)
    · exact h
  have hramped : s.actsOn ramped a := hcharged.modAxis
  have hstarted : s.actsOn started a := by
    simp only [started]
    split
    · exact hramped.modAxis
    · split
      · exact hramped.modEng
      · split
        · exact hramped.modAxis
        · exact hramped
  split
  · exact h
  · split
    · exact h.fastHalt.leaveTo.recordRefusal
    · exact hstarted.axisTo

/-! ### The reaction of one axis (R498) -/

/-- The axis is in the record of losses, which says what it lost. -/
def State.lossNoted (s : State) (t : Nat) (a : Fin 8) : State := (s.putOr PDO_LOSS_AX (2 ^ a.1)).modAxis a fun x => { x with lossBy := t }

theorem State.lossNoted_actsOn (s : State) (t : Nat) (a : Fin 8) : s.actsOn (s.lossNoted t a) a := by
  have hreg {x : Nat} (hx : x ≠ PDO_LOSS) : (s.lossNoted t a).reg x = s.reg x :=
    (State.reg_modAxis _ a _ x).trans (State.reg_putOr_ne _ _ hx)
  refine ⟨(State.keepsOtherAxes.refl s a).modAxis, fun x hx _ => hreg fun e => ?_, fun b _ => ?_, fun x _ hnot => ?_, .refl _, rfl⟩
  · exact absurd (e ▸ hx : PDO_LOSS / 65536 % 32 = 17) (by decide)
  · have hne : (BRK_STAT_CMD b).addr ≠ PDO_LOSS := fun e => absurd ((congrArg (· / 65536) e).symm.trans (BRK_STAT_block b)) (by decide)
    rw [State.get, hreg hne]
    rfl
  · exact hreg fun e => hnot (e ▸ List.mem_cons_self)

theorem State.lossAxis_eq {s : State} {a : Fin 8} (h : s.fieldbus a = true) (hreact : s.obj (0x6007 + 0x800 * a.1) 0 = 1) (t : Nat) :
    s.lossAxis t a = (s.lossNoted t a).takeFault a (0x20 + t) (lossError t) := by
  unfold State.lossAxis
  dsimp only
  rw [h, hreact]
  rfl

theorem State.lossAxis_of_free {s : State} {a : Fin 8} (h : s.fieldbus a = false) (t : Nat) : s.lossAxis t a = s := by
  unfold State.lossAxis
  dsimp only
  rw [h]
  rfl

theorem State.lossAxis_actsOn (s : State) (t : Nat) (a : Fin 8) : s.actsOn (s.lossAxis t a) a := by
  have hnoted := s.lossNoted_actsOn t a
  have hmarked : s.actsOn ((s.lossNoted t a).markAct 3 a) a := hnoted.ev (m := 0) (Ev.mark (.refl _ _))
  unfold State.lossAxis
  dsimp only
  split
  · exact .refl s a
  · split
    · exact hnoted.takeFault
    · split
      · exact hmarked.fastHalt.leaveTo
      · split
        · exact hnoted
        · exact hmarked.beginRamp

theorem lossError_lt (t : Nat) : lossError t < 2 ^ 16 := by
  unfold lossError
  split <;> decide

/-- An axis under fieldbus control is in an enabled mode, so in no fault state. -/
theorem State.fieldbus.inFault {s : State} {a : Fin 8} (h : s.fieldbus a = true) : s.inFault a = false := by
  unfold State.fieldbus at h
  have hcode : s.axes[a].code ≠ 0 := by
    intro e
    rw [e] at h
    exact Bool.false_ne_true h
  unfold State.inFault
  rw [Bool.or_eq_false_iff, beq_eq_false_iff_ne, beq_eq_false_iff_ne]
  exact ⟨fun e => hcode (Axis.code_of_not_running (by rw [e]; decide) (by rw [e]; decide)),
    fun e => hcode (Axis.code_of_not_running (by rw [e]; decide) (by rw [e]; decide))⟩

theorem State.lossAxis_faulted {s : State} {a : Fin 8} (h : s.fieldbus a = true) (hreact : s.obj (0x6007 + 0x800 * a.1) 0 = 1) (t : Nat) :
    (s.lossAxis t a).faulted a (lossError t) := by
  rw [State.lossAxis_eq h hreact]
  refine State.takeFault_faulted ?_ (lossError_lt t)
  have hst : (s.lossNoted t a).axes[a].st = s.axes[a].st := (congrArg Axis.st (upd_same _ _ _)).trans rfl
  have hno := State.fieldbus.inFault h
  unfold State.inFault at hno ⊢
  rw [hst]
  exact hno

/-! ### A trigger reaches the axes (R498) -/

theorem AX_CWSRC_kept (a b : Fin 8) : AX_CWSRC b / 65536 % 32 = 17 ∧ AX_CWSRC b ∉ axisRegs a := by revert a b; decide

theorem State.actsOn.fieldbus {s t : State} {a b : Fin 8} (h : s.actsOn t a) (hb : b ≠ a) : t.fieldbus b = s.fieldbus b := by
  have hsrc : t.get (AX_CWSRC_SRC b) = s.get (AX_CWSRC_SRC b) := h.regs.get (AX_CWSRC_kept a b).1 (AX_CWSRC_kept a b).2
  have hroute : t.routeOf b = s.routeOf b := by unfold State.routeOf; rw [h.route]
  unfold State.fieldbus
  rw [h.axes b hb, hsrc, hroute]

theorem State.actsOn.obj {s t : State} {a : Fin 8} (h : s.actsOn t a) (idx sub : Nat) : t.obj idx sub = s.obj idx sub := by
  obtain ⟨l, n, hsrv⟩ := h.srv
  unfold State.obj
  rw [hsrv]

theorem axisRegs_disjoint {a b : Fin 8} (h : b ≠ a) : AX_ERR b ∉ axisRegs a ∧ ENG_STAT b ∉ axisRegs a := by revert a b; decide

/-- A fault of another axis stands. -/
theorem State.actsOn.faulted {s t : State} {a b : Fin 8} {err : Nat} (h : s.actsOn t a) (hb : b ≠ a) (hfault : s.faulted b err) :
    t.faulted b err := by
  obtain ⟨hst, herr, hedges, hcmd⟩ := hfault
  have hblock : AX_ERR b / 65536 % 32 = 17 ∧ ENG_STAT b / 65536 % 32 = 17 := by
    clear hb h hst herr hedges hcmd; revert b; decide
  refine ⟨?_, ?_, ?_, (h.brake b hb).trans hcmd⟩
  · rw [h.axes b hb]
    exact hst
  · exact (h.regs.get (f := AX_ERR_ERRCODE b) hblock.1 (axisRegs_disjoint hb).1).trans herr
  · exact (h.regs.get (f := ENG_STAT_EDGES b) hblock.2 (axisRegs_disjoint hb).2).trans hedges

/-- The reaction of axis `a` to a trigger is still to come. -/
def State.reacts (s : State) (a : Fin 8) : Prop := s.fieldbus a = true ∧ s.obj (0x6007 + 0x800 * a.1) 0 = 1

theorem State.faulted.not_fieldbus {s : State} {a : Fin 8} {err : Nat} (h : s.faulted a err) : s.fieldbus a = false := by
  unfold State.fieldbus
  rw [Axis.code_of_not_running (by rw [h.1]; decide) (by rw [h.1]; decide)]
  rfl

/-- The step of one axis in the loop over all of them. -/
theorem State.lossStep_actsOn (s : State) (t m : Nat) (a : Fin 8) : s.actsOn (if bitOf m a then s.lossAxis t a else s) a := by
  split
  · exact s.lossAxis_actsOn t a
  · exact .refl s a

/-- Every axis under fieldbus control whose reaction is 1 ends in Fault. -/
theorem State.commLoss_faulted {s : State} {a : Fin 8} (h : s.reacts a) (t : Nat) {m : Nat} (hm : bitOf m a = true) :
    (s.commLoss t m).faulted a (lossError t) := by
  have hreach : ∀ u : State, u.reacts a ∨ u.faulted a (lossError t) →
      (if bitOf m a then u.lossAxis t a else u).faulted a (lossError t) := by
    intro u hu
    rw [if_pos hm]
    rcases hu with ⟨hbus, hreact⟩ | hfault
    · exact State.lossAxis_faulted hbus hreact t
    · rw [State.lossAxis_of_free hfault.not_fieldbus]
      exact hfault
  have hstay : ∀ (b : Fin 8) (u : State), u.faulted a (lossError t) →
      (if bitOf m b then u.lossAxis t b else u).faulted a (lossError t) := by
    intro b u hu
    by_cases hab : a = b
    · subst hab
      exact hreach u (.inr hu)
    · exact (u.lossStep_actsOn t m b).faulted hab hu
  refine forFin_reaches (P := fun u => u.reacts a ∨ u.faulted a (lossError t)) (Q := fun u => u.faulted a (lossError t)) a (.inl h)
    (fun b u hu => ?_) hreach fun b u _ => hstay b u
  rcases hu with ⟨hbus, hreact⟩ | hfault
  · by_cases hab : a = b
    · subst hab
      exact .inr (hreach u (.inl ⟨hbus, hreact⟩))
    · have hact := u.lossStep_actsOn t m b
      exact .inl ⟨(hact.fieldbus hab).trans hbus, (hact.obj _ _).trans hreact⟩
  · exact .inr (hstay b u hfault)

/-- What a trigger leaves of the PDO block and of the server. -/
theorem State.commLoss_shown (s : State) (t m : Nat) : s.keepsRegs (s.commLoss t m) 22 [PDO_LOSS] ∧ s.srv.gainsEmcys (s.commLoss t m).srv :=
  forFin_induction (P := fun u => s.keepsRegs u 22 [PDO_LOSS] ∧ s.srv.gainsEmcys u.srv) ⟨.refl s _ _, .refl _⟩ fun a u hu =>
    have hact := u.lossStep_actsOn t m a
    ⟨fun x hx hnot => (hact.pdo x hx hnot).trans (hu.1 x hx hnot), hu.2.trans hact.srv⟩

end Sys2Proof.Machine
end

section
/-! PROOFS. Frames received on a CAN channel, NMT commands, heartbeats and EMCY frames (R473 to R484, R499, R500). -/

set_option Elab.async false

namespace Sys2Proof.Machine

/-! ### A base frame is received (R473) -/

/-- A base frame counts and shows. -/
def State.received (s : State) (ch : Fin 2) : State := (s.wrapUp (CAN_CNT_RXOK ch)).canEvt ch 0

theorem State.canRx_of_on {s : State} {ch : Fin 2} (hup : s.up = true) (hon : s.canOn ch = true) (f : State → State) :
    s.canRx ch f = f (s.received ch) := (State.whenUp_of_up hup _).trans (if_pos hon)

theorem State.received_ev (s : State) (ch : Fin 2) : Ev 0x20000800000000 s (s.received ch) :=
  State.canEvt_ev (Ev.wrapUp (.refl _ s) 21 (by revert ch; decide))

theorem CAN_block (ch : Fin 2) : CAN_CNT ch / 65536 = 0x4015 ∧ CAN_EVT ch / 65536 = 0x4015 ∧ CAN_CNT ch ≠ CAN_EVT ch := by
  revert ch; decide

theorem State.received_rxok (s : State) (ch : Fin 2) :
    (s.received ch).get (CAN_CNT_RXOK ch) = (s.get (CAN_CNT_RXOK ch) + 1) % 2 ^ (CAN_CNT_RXOK ch).width := by
  obtain ⟨hcnt, -, hne⟩ := CAN_block ch
  refine (State.get_raise_ne _ (f := CAN_EVT_EV ch) (g := CAN_CNT_RXOK ch) hne (fun e => absurd (hcnt.symm.trans e) (by decide))).trans ?_
  exact s.get_put_same (CAN_CNT_RXOK ch) _ (by decide : 31 < 32) (by decide : 16 ≤ 31)

/-- The registers of the CAN block that a received frame leaves alone. -/
theorem State.received_keepsRegs (s : State) (ch : Fin 2) : s.keepsRegs (s.received ch) 21 [CAN_CNT ch, CAN_EVT ch] :=
  ((State.keepsRegs.refl s 21 _).put (f := CAN_CNT_RXOK ch) List.mem_cons_self).raise (f := CAN_EVT_EV ch)
    (List.mem_cons_of_mem _ List.mem_cons_self) (by decide)

/-! ### NMT commands (R481) -/

/-- A command for the unit shows in the events of its channel. -/
def State.commanded (s : State) (ch : Fin 2) : State := (s.received ch).canEvt ch 4

theorem State.commanded_ev (s : State) (ch : Fin 2) : Ev 0x20000800000000 s (s.commanded ch) := State.canEvt_ev (s.received_ev ch)

theorem State.commanded_rxok (s : State) (ch : Fin 2) :
    (s.commanded ch).get (CAN_CNT_RXOK ch) = (s.get (CAN_CNT_RXOK ch) + 1) % 2 ^ (CAN_CNT_RXOK ch).width := by
  obtain ⟨hcnt, -, hne⟩ := CAN_block ch
  exact (State.get_raise_ne _ (f := CAN_EVT_EV ch) (g := CAN_CNT_RXOK ch) hne (fun e => absurd (hcnt.symm.trans e) (by decide))).trans (s.received_rxok ch)

theorem State.commanded_event (s : State) (ch : Fin 2) : bitOf ((s.commanded ch).get (CAN_EVT_EV ch)) 4 = true :=
  State.bit_raise _ (CAN_EVT_EV ch) (fun e => absurd ((CAN_block ch).2.1.symm.trans e) (by decide)) (by decide : 4 < 7)
    (by decide : 6 < 32) (by decide : 0 ≤ 6)

/-- Registers outside the event controller and the CAN block. -/
theorem State.commanded_get (s : State) (ch : Fin 2) (f : Fld) (hf : f.addr / 65536 % 32 ≠ 3 ∧ f.addr / 65536 % 32 ≠ 21) :
    (s.commanded ch).get f = s.get f := by
  have hb : (0x20000800000000 : Nat).testBit (32 + f.addr / 65536 % 32) = false := by
    have hlt : f.addr / 65536 % 32 < 32 := Nat.mod_lt _ (by decide)
    have hall : ∀ b < 32, b ≠ 3 → b ≠ 21 → (0x20000800000000 : Nat).testBit (32 + b) = false := by decide
    exact hall _ hlt hf.1 hf.2
  unfold State.get
  rw [(s.commanded_ev ch).reg ⟨f.addr / 65536 % 32, Nat.mod_lt _ (by decide)⟩ rfl hb]

theorem State.commanded_nmt (s : State) (ch : Fin 2) : (s.commanded ch).nmt = s.nmt :=
  s.commanded_get ch PDO_NMT_STATE (by decide)

/-- The node that a command names is this unit, or all of them. -/
def State.named (s : State) (node : BitVec 8) : Prop := node = 0 ∨ (s.hasId = true ∧ node.toNat = s.nodeId)

theorem State.received_id (s : State) (ch : Fin 2) : (s.received ch).hasId = s.hasId ∧ (s.received ch).nodeId = s.nodeId := by
  have hnode : (s.received ch).reg NODE = s.reg NODE := (s.received_ev ch).reg 0 (by decide) (by decide)
  constructor
  · show (fieldOf ((s.received ch).reg NODE) 7 7 != 0) = (fieldOf (s.reg NODE) 7 7 != 0)
    rw [hnode]
  · show fieldOf ((s.received ch).reg NODE) 6 0 = fieldOf (s.reg NODE) 6 0
    rw [hnode]

theorem State.nmtRx_of_named {s : State} {ch : Fin 2} {node : BitVec 8} (hup : s.up = true) (hon : s.canOn ch = true)
    (hnode : s.named node) (f : State → State) : s.nmtRx ch node f = f (s.commanded ch) := by
  obtain ⟨hid, hnum⟩ := s.received_id ch
  refine (State.canRx_of_on hup hon _).trans (if_pos ?_)
  unfold State.nmtFor
  rw [hid, hnum]
  rcases hnode with rfl | ⟨hvalid, hsame⟩
  · rfl
  · rw [hvalid, hsame, beq_self_eq_true, Bool.and_self, Bool.or_true]

theorem State.nmtRx_of_other {s : State} {ch : Fin 2} {node : BitVec 8} (hup : s.up = true) (hon : s.canOn ch = true)
    (hall : node ≠ 0) (hother : node.toNat ≠ s.nodeId) (f : State → State) : s.nmtRx ch node f = s.received ch := by
  refine (State.canRx_of_on hup hon _).trans (if_neg ?_)
  unfold State.nmtFor
  rw [(s.received_id ch).2, beq_false_of_ne hall, beq_false_of_ne hother, Bool.and_false, Bool.or_false]
  exact Bool.false_ne_true

/-! ### "Stop" and "Enter pre-operational" (R481, R498) -/

/-- What leaving the NMT state does before the new state stands. -/
def State.left (s : State) : State := if s.nmt = 2 then (s.emcy 0x8100 [1]).commLoss 3 255 else s

theorem State.nmtLeave_eq {s : State} (h : s.nmt ≠ 0) (st : Nat) : s.nmtLeave st = s.left.put PDO_NMT_STATE st := if_neg h

theorem State.left_ev (s : State) : Ev 0x142000800114c00 s s.left :=
  Ev.ite (fun _ => State.commLoss_ev (Ev.emcy (.refl _ s))) fun _ => .refl _ s

theorem State.put_faulted {s : State} {a : Fin 8} {err : Nat} (h : s.faulted a err) {f : Fld} {v : Nat} (hf : f.addr / 65536 = 0x4016) :
    (s.put f v).faulted a err := by
  obtain ⟨hst, herr, hedges, hcmd⟩ := h
  have hne {g : Fld} (hg : g.addr / 65536 ≠ 0x4016) : (s.put f v).get g = s.get g :=
    s.get_put_ne v fun e => hg ((congrArg (· / 65536) e).trans hf)
  have hblocks : (AX_ERR_ERRCODE a).addr / 65536 ≠ 0x4016 ∧ (ENG_STAT_EDGES a).addr / 65536 ≠ 0x4016 ∧
      (BRK_STAT_CMD a).addr / 65536 ≠ 0x4016 := by
    clear hst herr hedges hcmd hne; revert a; decide
  refine ⟨?_, (hne hblocks.1).trans herr, (hne hblocks.2.1).trans hedges, (hne hblocks.2.2).trans hcmd⟩
  rw [State.axis_congr (State.put_axes _ _ _) a]
  exact hst

theorem bitOf_all_axes (a : Fin 8) : bitOf 255 a = true := by revert a; decide

theorem State.reacts.congr {s t : State} {a : Fin 8} (h : s.reacts a) (haxes : t.axes = s.axes)
    (hsrc : t.get (AX_CWSRC_SRC a) = s.get (AX_CWSRC_SRC a)) (hroute : t.route = s.route) (hobjs : t.srv.objs = s.srv.objs) :
    t.reacts a := by
  have hbus : t.fieldbus a = s.fieldbus a := by
    unfold State.fieldbus State.routeOf
    rw [State.axis_congr haxes a, hsrc, hroute]
  have hobj (idx sub : Nat) : t.obj idx sub = s.obj idx sub := by
    unfold State.obj
    rw [hobjs]
  exact ⟨hbus.trans h.1, (hobj _ _).trans h.2⟩

theorem State.reacts.emcy {s : State} {a : Fin 8} (h : s.reacts a) (code : Nat) (bytes : List Nat) : (s.emcy code bytes).reacts a := by
  obtain ⟨l, n, hsrv⟩ := s.emcy_gainsEmcys code bytes
  exact h.congr (State.emcy_axes s _ _) (State.get_emcy _ _ _ _) ((Ev.emcy (m := 0x4000) (.refl _ s)).same .route (by decide))
    (by rw [hsrv])

theorem State.nmtLeave_faulted {s : State} {a : Fin 8} (hop : s.nmt = 2) (h : s.reacts a) (st : Nat) :
    (s.nmtLeave st).faulted a 0x8100 := by
  rw [State.nmtLeave_eq (by rw [hop]; decide)]
  refine State.put_faulted ?_ (by decide)
  unfold State.left
  rw [if_pos hop]
  exact State.commLoss_faulted (h.emcy _ _) 3 (bitOf_all_axes a)

theorem State.nmtLeave_axes {s : State} (hnmt : s.nmt ≠ 0) (hop : s.nmt ≠ 2) (st : Nat) : (s.nmtLeave st).axes = s.axes := by
  rw [State.nmtLeave_eq hnmt]
  unfold State.left
  rw [if_neg hop]
  exact State.put_axes _ _ _

theorem State.commanded_reacts {s : State} {a : Fin 8} (h : s.reacts a) (ch : Fin 2) : (s.commanded ch).reacts a := by
  have hsrv : (s.commanded ch).srv = s.srv := (s.commanded_ev ch).same .srv (by decide)
  have hblock : (AX_CWSRC_SRC a).addr / 65536 % 32 = 17 := by
    clear h; revert a; decide
  exact h.congr ((s.commanded_ev ch).same .axes (by decide)) (s.commanded_get ch _ (by rw [hblock]; decide))
    ((s.commanded_ev ch).same .route (by decide)) (congrArg Srv.objs hsrv)

/-- A command that takes the unit out of its NMT state (R481, R498). -/
theorem State.nmtLeave_shown {s : State} (hnmt : s.nmt ≠ 0) (ch : Fin 2) {st : Nat} (hst : st < 8) :
    ((s.commanded ch).nmtLeave st).nmt = st ∧
    ((s.commanded ch).nmtLeave st).get (CAN_CNT_RXOK ch) = (s.get (CAN_CNT_RXOK ch) + 1) % 2 ^ (CAN_CNT_RXOK ch).width ∧
    (s.nmt = 2 → ∀ a : Fin 8, s.fieldbus a = true → s.obj (0x6007 + 0x800 * a.1) 0 = 1 →
      ((s.commanded ch).nmtLeave st).faulted a 0x8100) ∧
    (s.nmt ≠ 2 → ((s.commanded ch).nmtLeave st).axes = s.axes) := by
  have hnmt' : (s.commanded ch).nmt ≠ 0 := by rwa [State.commanded_nmt]
  refine ⟨?_, ?_, fun hop a hbus hreact => ?_, fun hop => ?_⟩
  · rw [State.nmtLeave_eq hnmt']
    exact State.get_put_fits _ PDO_NMT_STATE hst (by decide) (by decide)
  · have hcnt : CAN_CNT ch / 65536 = 0x4015 := (CAN_block ch).1
    rw [State.nmtLeave_eq hnmt', State.get_put_ne _ _ (fun e => absurd ((congrArg (· / 65536) e).symm.trans hcnt) (by decide)),
      State.get, (State.left_ev _).reg 21 (by show CAN_CNT ch / 65536 % 32 = 21; rw [hcnt]) (by decide)]
    exact s.commanded_rxok ch
  · exact State.nmtLeave_faulted ((s.commanded_nmt ch).trans hop) (State.commanded_reacts ⟨hbus, hreact⟩ ch) st
  · exact (State.nmtLeave_axes hnmt' (by rwa [State.commanded_nmt]) st).trans ((s.commanded_ev ch).same .axes (by decide))

/-! ### What is sent (R478) -/

theorem State.canPut_parts (s : State) (ch : Fin 2) (id : Nat) (data : List Byte) : Ev 0x20000800000004 s (s.canPut ch id data) :=
  State.canPut_ev (.refl _ s)

theorem State.canPut_keepsRegs (s : State) (ch : Fin 2) (id : Nat) (data : List Byte) :
    s.keepsRegs (s.canPut ch id data) 21 [CAN_CNT ch, CAN_EVT ch] := by
  have hsent : s.keepsRegs (s.canSend ch id data) 21 [CAN_CNT ch, CAN_EVT ch] := by
    unfold State.canSend
    split
    · exact (State.keepsRegs.refl s 21 _).put (f := CAN_CNT_TXOK ch) List.mem_cons_self
    · exact .refl s _ _
  unfold State.canPut
  split
  · exact hsent.raise (f := CAN_EVT_EV ch) (List.mem_cons_of_mem _ List.mem_cons_self) (by decide)
  · exact .refl s _ _

theorem CAN_CFG_kept (c ch : Fin 2) : CAN_CFG c / 65536 % 32 = 21 ∧ CAN_CFG c ∉ [CAN_CNT ch, CAN_EVT ch] := by revert c ch; decide

theorem State.canPut_cfg (s : State) (ch c : Fin 2) (id : Nat) (data : List Byte) :
    (s.canPut ch id data).reg (CAN_CFG c) = s.reg (CAN_CFG c) :=
  s.canPut_keepsRegs ch id data _ (CAN_CFG_kept c ch).1 (CAN_CFG_kept c ch).2

/-- What decides whether a channel may transmit (R477, R479). -/
theorem State.canTx_congr {s t : State} {c : Fin 2} (hcfg : t.reg (CAN_CFG c) = s.reg (CAN_CFG c)) (hnode : t.reg NODE = s.reg NODE)
    (hcan : t.srv.can = s.srv.can) : t.canTx c = s.canTx c := by
  have hen : t.flag (CAN_CFG_EN c) = s.flag (CAN_CFG_EN c) := by
    show (fieldOf (t.reg (CAN_CFG c)) 31 31 != 0) = (fieldOf (s.reg (CAN_CFG c)) 31 31 != 0)
    rw [hcfg]
  have hlom : t.flag (CAN_CFG_LOM c) = s.flag (CAN_CFG_LOM c) := by
    show (fieldOf (t.reg (CAN_CFG c)) 29 29 != 0) = (fieldOf (s.reg (CAN_CFG c)) 29 29 != 0)
    rw [hcfg]
  have hid : t.hasId = s.hasId := by
    show (fieldOf (t.reg NODE) 7 7 != 0) = (fieldOf (s.reg NODE) 7 7 != 0)
    rw [hnode]
  unfold State.canTx
  rw [hen, hlom, hid, hcan]

theorem State.canFd_congr {s t : State} {c : Fin 2} (hcfg : t.reg (CAN_CFG c) = s.reg (CAN_CFG c)) :
    t.flag (CAN_CFG_FD c) = s.flag (CAN_CFG_FD c) := by
  show (fieldOf (t.reg (CAN_CFG c)) 30 30 != 0) = (fieldOf (s.reg (CAN_CFG c)) 30 30 != 0)
  rw [hcfg]

theorem State.canPut_canTx (s : State) (ch c : Fin 2) (id : Nat) (data : List Byte) : (s.canPut ch id data).canTx c = s.canTx c := by
  have hsrv : (s.canPut ch id data).srv = s.srv := (s.canPut_parts ch id data).same .srv (by decide)
  exact State.canTx_congr (s.canPut_cfg ch c id data) ((s.canPut_parts ch id data).reg 0 (by decide) (by decide)) (congrArg Srv.can hsrv)

/-- A frame that is sent stands on the lines, beside those before it. -/
theorem State.canPut_wire {s : State} {ch : Fin 2} (h : s.canTx ch = true) (id : Nat) (data : List Byte) :
    (s.canPut ch id data).wire = ⟨.can ch, [id, b2n (s.flag (CAN_CFG_FD ch))], data⟩ :: s.wire := by
  unfold State.canPut
  rw [if_pos h]
  refine (State.raise_wire _ _ _ _).trans ?_
  unfold State.canSend
  rw [if_pos h]
  rfl

theorem State.canPut_of_not_canTx {s : State} {ch : Fin 2} (h : s.canTx ch = false) (id : Nat) (data : List Byte) :
    s.canPut ch id data = s := if_neg (by rw [h]; exact Bool.false_ne_true)

theorem State.canPut_wire_subset (s : State) (ch : Fin 2) (id : Nat) (data : List Byte) : s.wire ⊆ (s.canPut ch id data).wire := by
  cases h : s.canTx ch with
  | true =>
    rw [State.canPut_wire h]
    exact List.subset_cons_self _ _
  | false =>
    rw [State.canPut_of_not_canTx h]
    exact List.Subset.refl _

theorem State.canAll_wire {s : State} {c : Fin 2} (h : s.canTx c = true) (id : Nat) (data : List Byte) :
    ⟨.can c, [id, b2n (s.flag (CAN_CFG_FD c))], data⟩ ∈ (s.canAll id data).wire := by
  match c with
  | 0 =>
    refine State.canPut_wire_subset _ 1 id data ?_
    rw [State.canPut_wire h]
    exact List.mem_cons_self
  | 1 =>
    unfold State.canAll
    rw [State.canPut_wire ((s.canPut_canTx 0 1 id data).trans h), State.canFd_congr (s.canPut_cfg 0 1 id data)]
    exact List.mem_cons_self

theorem State.canPut_txok {s : State} {ch : Fin 2} (h : s.canTx ch = true) (id : Nat) (data : List Byte) :
    (s.canPut ch id data).get (CAN_CNT_TXOK ch) = (s.get (CAN_CNT_TXOK ch) + 1) % 2 ^ (CAN_CNT_TXOK ch).width := by
  obtain ⟨hcnt, -, hne⟩ := CAN_block ch
  unfold State.canPut
  rw [if_pos h]
  refine (State.get_raise_ne _ (f := CAN_EVT_EV ch) (g := CAN_CNT_TXOK ch) hne (fun e => absurd (hcnt.symm.trans e) (by decide))).trans ?_
  unfold State.canSend
  rw [if_pos h]
  exact s.get_put_same (CAN_CNT_TXOK ch) _ (by decide : 15 < 32) (by decide : 0 ≤ 15)

theorem State.canPut_other_txok (s : State) {ch c : Fin 2} (h : c ≠ ch) (id : Nat) (data : List Byte) :
    (s.canPut ch id data).get (CAN_CNT_TXOK c) = s.get (CAN_CNT_TXOK c) := by
  have hkept : CAN_CNT c / 65536 % 32 = 21 ∧ CAN_CNT c ∉ [CAN_CNT ch, CAN_EVT ch] := by revert c ch; decide
  exact (s.canPut_keepsRegs ch id data).get hkept.1 hkept.2

/-! ### Heartbeats consumed (R484) -/

/-- The step of entry `k` at a heartbeat of `node`. -/
def State.hbcHears (s : State) (node : BitVec 7) (k : Fin 4) : State :=
  if s.flag (PDO_HBC_EN k) && s.get (PDO_HBC_NODE k) == node.toNat && s.get (PDO_HBC_TIMEMS k) != 0 then
    (s.put (PDO_HBC_EXPIRED k) 0).modSrv fun x => { x with hbc := x.hbc.set k true } else s

/-- Entry `k` consumes the heartbeat of `node`. -/
def State.consumes (s : State) (node : BitVec 7) (k : Fin 4) : Prop :=
  s.flag (PDO_HBC_EN k) = true ∧ s.get (PDO_HBC_NODE k) = node.toNat ∧ s.get (PDO_HBC_TIMEMS k) ≠ 0

/-- The time of entry `k` runs, and it has not expired. -/
def State.hbcRuns (s : State) (k : Fin 4) : Prop := s.srv.hbc[k] = true ∧ s.get (PDO_HBC_EXPIRED k) = 0

theorem State.hbcHears_of_consumes {s : State} {node : BitVec 7} {k : Fin 4} (h : s.consumes node k) :
    s.hbcHears node k = (s.put (PDO_HBC_EXPIRED k) 0).modSrv fun x => { x with hbc := x.hbc.set k true } := by
  obtain ⟨hen, hnode, htime⟩ := h
  refine if_pos ?_
  rw [hen, hnode, beq_self_eq_true, Bool.true_and, Bool.true_and]
  exact bne_iff_ne.mpr htime

theorem State.hbcHears_get (s : State) (node : BitVec 7) (k : Fin 4) {f : Fld}
    (hf : ∀ v, (s.put (PDO_HBC_EXPIRED k) v).get f = s.get f) : (s.hbcHears node k).get f = s.get f := by
  unfold State.hbcHears
  split
  · exact hf 0
  · rfl

/-- The parameters of every entry stay. -/
theorem State.consumes.hbcHears {s : State} {node : BitVec 7} {k : Fin 4} (h : s.consumes node k) (j : Fin 4) :
    (s.hbcHears node j).consumes node k := by
  have hput {hi lo : Nat} (v : Nat) (hlt : hi < 30 ∨ 30 < lo) (hhi : hi < 32) (hle : lo ≤ hi) :
      (s.put (PDO_HBC_EXPIRED j) v).get ⟨PDO_HBC k, hi, lo⟩ = s.get ⟨PDO_HBC k, hi, lo⟩ :=
    s.get_put_disj v (le_refl 30) hhi hle hlt.symm
  obtain ⟨hen, hnode, htime⟩ := h
  refine ⟨?_, (s.hbcHears_get node j fun v => hput v (.inl (by decide)) (by decide) (by decide)).trans hnode, ?_⟩
  · unfold State.flag at hen ⊢
    rw [s.hbcHears_get (f := PDO_HBC_EN k) node j fun v => hput v (.inr (by decide)) (by decide) (by decide)]
    exact hen
  · rw [s.hbcHears_get (f := PDO_HBC_TIMEMS k) node j fun v => hput v (.inl (by decide)) (by decide) (by decide)]
    exact htime

theorem State.hbcHears_runs {s : State} {node : BitVec 7} {k : Fin 4} (h : s.consumes node k) : (s.hbcHears node k).hbcRuns k := by
  rw [State.hbcHears_of_consumes h]
  exact ⟨Vector.getElem_set_self k.2, s.get_put_fits (PDO_HBC_EXPIRED k) (Nat.two_pow_pos _) (by decide : 30 < 32) (le_refl 30)⟩

theorem State.hbcRuns.hbcHears {s : State} {k j : Fin 4} (h : s.hbcRuns k) (hjk : k ≠ j) (node : BitVec 7) : (s.hbcHears node j).hbcRuns k := by
  have hne : PDO_HBC k ≠ PDO_HBC j := by
    clear h; revert k j; decide
  obtain ⟨hruns, hexp⟩ := h
  refine ⟨?_, (s.hbcHears_get node j fun v => s.get_put_ne v hne).trans hexp⟩
  unfold State.hbcHears
  split
  · exact (Vector.getElem_set_ne j.2 k.2 fun e => hjk (Fin.ext e.symm)).trans hruns
  · exact hruns

theorem State.hbcHears_all {s : State} {node : BitVec 7} {k : Fin 4} (h : s.consumes node k) :
    (forFin 4 (fun j t => t.hbcHears node j) s).hbcRuns k := by
  refine forFin_reaches (P := fun t => t.consumes node k) (Q := fun t => t.hbcRuns k) k h (fun j t ht => ht.hbcHears j)
    (fun t ht => State.hbcHears_runs ht) fun j t ht hruns => ?_
  by_cases hjk : k = j
  · subst hjk
    exact State.hbcHears_runs ht
  · exact hruns.hbcHears hjk node

theorem exec_heartbeatRx {s : State} {ch : Fin 2} (hup : s.up = true) (hon : s.canOn ch = true) (node : BitVec 7) :
    exec (.heartbeatRx ch node) s = .next (forFin 4 (fun k t => t.hbcHears node k) (s.received ch)) :=
  congrArg _ (State.canRx_of_on hup hon _)

theorem State.received_consumes {s : State} {node : BitVec 7} {k : Fin 4} (h : s.consumes node k) (ch : Fin 2) :
    (s.received ch).consumes node k := by
  have hreg : (s.received ch).reg (PDO_HBC k) = s.reg (PDO_HBC k) :=
    (s.received_ev ch).reg 22 (by clear h; revert k; decide) (by decide)
  have hget (hi lo : Nat) : (s.received ch).get ⟨PDO_HBC k, hi, lo⟩ = s.get ⟨PDO_HBC k, hi, lo⟩ := congrArg (fieldOf · hi lo) hreg
  obtain ⟨hen, hnode, htime⟩ := h
  refine ⟨?_, (hget 22 16).trans hnode, fun e => htime ((hget 15 0).symm.trans e)⟩
  exact (congrArg (· != 0) (hget 31 31)).trans hen

theorem State.hbcHears_rxok (s : State) (node : BitVec 7) (c : Fin 2) :
    (forFin 4 (fun k t => t.hbcHears node k) s).get (CAN_CNT_RXOK c) = s.get (CAN_CNT_RXOK c) :=
  forFin_induction (P := fun t => t.get (CAN_CNT_RXOK c) = s.get (CAN_CNT_RXOK c)) rfl fun k t ht =>
    (t.hbcHears_get node k fun v => t.get_put_ne v (by clear ht; revert k c; decide)).trans ht

/-! ### The expiry of a consumer (R484, R498) -/

/-- The time of entry `k` is over: its flag, and no time that runs. -/
def State.hbcOver (s : State) (k : Fin 4) : State := (s.put (PDO_HBC_EXPIRED k) 1).modSrv fun x => { x with hbc := x.hbc.set k false }

/-- Entry `k` has expired, with its EMCY. -/
def State.hbcExpired (s : State) (k : Fin 4) : State := (s.hbcOver k).emcy 0x8130 [k + 1, s.get (PDO_HBC_NODE k)]

theorem exec_heartbeatConsumerExpiry {s : State} {k : Fin 4} (hup : s.up = true) (hen : s.get (PDO_HBC_EN k) = 1)
    (hruns : s.srv.hbc[k] = true) : exec (.heartbeatConsumerExpiry k) s = .next ((s.hbcExpired k).commLoss 2 255) := by
  refine congrArg Host.Outcome.next ((State.whenUp_of_up hup _).trans (if_neg ?_))
  rw [State.flag_eq_true hen, hruns]
  exact Bool.false_ne_true

theorem State.hbcOver_reacts {s : State} {a : Fin 8} (h : s.reacts a) (k : Fin 4) : (s.hbcOver k).reacts a := by
  have hne : (AX_CWSRC_SRC a).addr ≠ (PDO_HBC_EXPIRED k).addr := by
    clear h; revert a k; decide
  have hsrc : (s.hbcOver k).get (AX_CWSRC_SRC a) = s.get (AX_CWSRC_SRC a) := (State.get_modSrv _ _ _).trans (s.get_put_ne 1 hne)
  exact h.congr rfl hsrc rfl rfl

theorem State.hbcOver_expired (s : State) (k : Fin 4) : (s.hbcOver k).get (PDO_HBC_EXPIRED k) = 1 :=
  (State.get_modSrv _ _ _).trans
    (s.get_put_fits (PDO_HBC_EXPIRED k) (by decide : 1 < 2 ^ (30 + 1 - 30)) (by decide : 30 < 32) (le_refl 30))

theorem State.hbcExpired_shown (s : State) (k : Fin 4) :
    ((s.hbcExpired k).commLoss 2 255).get (PDO_HBC_EXPIRED k) = 1 ∧ ((s.hbcExpired k).commLoss 2 255).srv.hbc[k] = false := by
  obtain ⟨hregs, l, n, hsrv⟩ := (s.hbcExpired k).commLoss_shown 2 255
  have hkept : PDO_HBC k / 65536 % 32 = 22 ∧ PDO_HBC k ∉ [PDO_LOSS] := by
    clear hregs hsrv; revert k; decide
  obtain ⟨l', n', hemcy⟩ := (s.hbcOver k).emcy_gainsEmcys 0x8130 [k + 1, s.get (PDO_HBC_NODE k)]
  refine ⟨?_, ?_⟩
  · exact (hregs.get (f := PDO_HBC_EXPIRED k) hkept.1 hkept.2).trans ((State.get_emcy _ _ _ _).trans (s.hbcOver_expired k))
  · rw [hsrv, State.hbcExpired, hemcy]
    exact Vector.getElem_set_self k.2

theorem State.hbcExpired_emcy {s : State} (h : s.srv.emcyQ.length < 32) (k : Fin 4) :
    ((s.hbcExpired k).commLoss 2 255).srv.emcyQ[s.srv.emcyQ.length]? = some ⟨0x8130, [k + 1, s.get (PDO_HBC_NODE k)]⟩ := by
  obtain ⟨l, n, hsrv⟩ := ((s.hbcExpired k).commLoss_shown 2 255).2
  have hq : (s.hbcExpired k).srv.emcyQ = s.srv.emcyQ ++ [⟨0x8130, [k + 1, s.get (PDO_HBC_NODE k)]⟩] := by
    have hqueued := State.queued_emcy (s := s.hbcOver k) (code := 0x8130) (bytes := [k + 1, s.get (PDO_HBC_NODE k)]) rfl
    unfold State.queued at hqueued
    rwa [if_pos (show (s.hbcOver k).srv.emcyQ.length < 32 from h)] at hqueued
  rw [hsrv]
  show ((s.hbcExpired k).srv.emcyQ ++ l)[s.srv.emcyQ.length]? = _
  rw [hq, List.append_assoc, List.getElem?_append_right (le_refl _), Nat.sub_self]
  rfl

/-! ### EMCY frames (R499, R500) -/

theorem exec_emcyTransmit {s : State} {e : Emcy} {l : List Emcy} (hup : s.up = true) (hserver : s.serverUp = true)
    (hnmt : s.nmt = 1 ∨ s.nmt = 2) (htx : s.canTx 0 = true ∨ s.canTx 1 = true) (hlost : s.srv.emcyLost = 0 ∨ 32 ≤ s.srv.emcyQ.length)
    (hq : s.srv.emcyQ = e :: l) : exec .emcyTransmit s = .next ((s.modSrv fun x => { x with emcyQ := l }).emcySend e) := by
  have hsends : (!s.serverUp || !(s.nmt == 1 || s.nmt == 2) || !(s.canTx 0 || s.canTx 1)) = false := by
    rw [hserver]
    rcases hnmt with hnmt | hnmt <;> rcases htx with htx | htx <;> simp [hnmt, htx]
  refine congrArg Host.Outcome.next ((State.whenUp_of_up hup _).trans ?_)
  rw [hsends, if_neg Bool.false_ne_true, if_neg (fun hboth => by omega), hq]

/-- The server with `v` at the head of its error history (R500). -/
def Srv.emcyNoted (x : Srv) (v : Nat) : Srv := { x with hist := (v :: x.hist).take 16 }

/-- A sent EMCY leaves its entry, with the code in the low half, at the head of the error history. -/
theorem State.emcySend_srv (s : State) (e : Emcy) :
    ∃ v, (s.emcySend e).srv = s.srv.emcyNoted v ∧ v % 65536 = e.code % 65536 := by
  unfold State.emcySend
  extract_lets er b data put
  have hput (ch : Fin 2) (t : State) : (put ch t).srv = t.srv := (State.canPut_ev (m := 0x20000800000004) (.refl _ t)).same .srv (by decide)
  refine ⟨er * 2 ^ 24 + b.headD 0 % 256 * 2 ^ 16 + e.code, ?_, by omega⟩
  exact congrArg (Srv.emcyNoted · _) ((hput 1 _).trans (hput 0 s))

theorem State.emcySend_txok {s : State} {c : Fin 2} (h : s.canTx c = true) (e : Emcy) :
    (s.emcySend e).get (CAN_CNT_TXOK c) = (s.get (CAN_CNT_TXOK c) + 1) % 2 ^ (CAN_CNT_TXOK c).width := by
  unfold State.emcySend
  extract_lets er b data put
  show (put 1 (put 0 s)).get (CAN_CNT_TXOK c) = _
  match c with
  | 0 => exact (State.canPut_other_txok _ (by decide : (0 : Fin 2) ≠ 1) _ _).trans (State.canPut_txok h _ _)
  | 1 =>
    have htx : (put 0 s).canTx 1 = true := (s.canPut_canTx 0 1 _ _).trans h
    rw [State.canPut_txok htx]
    congr 2
    exact State.canPut_other_txok s (by decide : (1 : Fin 2) ≠ 0) _ _

/-- The oldest EMCY has been sent: it leaves the queue and heads the history. -/
theorem State.emcySend_shown (s : State) (e : Emcy) (l : List Emcy) :
    ((s.modSrv fun x => { x with emcyQ := l }).emcySend e).srv.emcyQ = l ∧
    ((s.modSrv fun x => { x with emcyQ := l }).emcySend e).srv.hist.length ≤ 16 ∧
    ((s.modSrv fun x => { x with emcyQ := l }).emcySend e).srv.hist.head?.map (· % 65536) = some (e.code % 65536) := by
  obtain ⟨v, hsrv, hcode⟩ := State.emcySend_srv (s.modSrv fun x => { x with emcyQ := l }) e
  rw [hsrv]
  exact ⟨rfl, List.length_take_le _ _, congrArg some hcode⟩

end Sys2Proof.Machine
end

section
/-! PROOFS. "Reset communication" (R92, R101, R481, R482): the scope of the reset, and the load of the communication objects. -/

set_option Elab.async false

namespace Sys2Proof.Machine

/-! ### The registers that the reset keeps (R92) -/

/-- A sparse store filtered by key. -/
theorem sparseGet_filter {α : Type} (keep : Nat → Bool) (d : α) (k : Nat) (m : List (Nat × α)) :
    sparseGet d k (m.filter fun r => keep r.1) = if keep k then sparseGet d k m else d := by
  induction m with
  | nil => simp [sparseGet]
  | cons e m ih =>
    obtain ⟨j, v⟩ := e
    rw [List.filter_cons]
    by_cases hj : j = k
    · subst hj
      cases hkeep : keep j <;> simp [sparseGet, ih, hkeep]
    · cases hkeep : keep j <;> simp [sparseGet, ih, hj]

/-- Outside the CAN block and the PDO block, and the record of communication losses. -/
def commKept (a : Nat) : Bool := a / 0x10000 != 0x4015 && (a / 0x10000 != 0x4016 || a == PDO_LOSS)

/-- The reset of the two blocks alone. -/
def State.commFiltered (s : State) : State := { s with regs := s.regs.filter fun r => commKept r.1 }

theorem State.reg_commFiltered (s : State) (a : Nat) : s.commFiltered.reg a = if commKept a then s.reg a else resetWord a :=
  sparseGet_filter commKept _ a s.regs

/-- The predefined COB-IDs of PDO `n` (R477), with the identity of `s`. -/
def State.predefined (s : State) (n : Nat) (v : State) : State :=
  if s.hasId then (v.setReg (RPDO_COBID n) (BitVec.ofNat 32 (s.pdoDefault false n))).setReg (TPDO_COBID n)
    (BitVec.ofNat 32 (s.pdoDefault true n)) else v

/-- The server after the reset. -/
def Srv.commReset (x : Srv) : Srv :=
  { x with can := Vector.replicate 2 {}, xfer := Vector.replicate 2 none, await := Vector.replicate 2 none,
           rpdo := Vector.replicate 16 {}, tpdo := Vector.replicate 16 {}, hbc := Vector.replicate 4 false,
           objs := x.objs.filter fun e => !commObj (e.1 / 256) }

theorem State.commReset_eq (s : State) (ch : Fin 2) : ∃ lost, s.commReset ch =
    ((forN 4 s.predefined ((s.sdoAbandon ch).commFiltered.put PDO_HB_ALIVE (s.get PDO_HB_ALIVE))).bumpBy ABND_CNT_DROP lost).modSrv
      Srv.commReset := ⟨_, rfl⟩

/-- What each turn of a loop over numbers below `n` keeps. -/
theorem forN_keeps {P : State → Prop} {n : Nat} {f : Nat → State → State} {s : State} (h0 : P s) (hstep : ∀ i < n, ∀ t, P t → P (f i t)) :
    P (forN n f s) :=
  List.foldlRecOn (motive := P) (List.range n) _ h0 fun t ht i hi => hstep i (List.mem_range.mp hi) t ht

/-- The registers that hold predefined COB-IDs. -/
def predefinedRegs : List Nat := (List.range 4).map RPDO_COBID ++ (List.range 4).map TPDO_COBID

theorem State.reg_predefined (s u : State) {a : Nat} (ha : a ∉ predefinedRegs) : (forN 4 s.predefined u).reg a = u.reg a := by
  refine forN_keeps (P := fun v => v.reg a = u.reg a) rfl fun n hn v hv => ?_
  have hr : a ≠ RPDO_COBID n := fun e => ha (List.mem_append_left _ (List.mem_map.mpr ⟨n, List.mem_range.mpr hn, e.symm⟩))
  have ht : a ≠ TPDO_COBID n := fun e => ha (List.mem_append_right _ (List.mem_map.mpr ⟨n, List.mem_range.mpr hn, e.symm⟩))
  unfold State.predefined
  split
  · exact (State.reg_setReg_ne _ _ ht).trans ((State.reg_setReg_ne _ _ hr).trans hv)
  · exact hv

/-- A register after the reset: what it was, or its reset value. -/
theorem State.reg_commReset (s : State) (ch : Fin 2) {a : Nat} (ha : a ∉ PDO_HB :: ABND_CNT :: predefinedRegs) :
    (s.commReset ch).reg a = if commKept a then (s.sdoAbandon ch).reg a else resetWord a := by
  obtain ⟨lost, heq⟩ := s.commReset_eq ch
  obtain ⟨hhb, hrest⟩ := not_or.mp (fun e => ha (List.mem_cons.mpr e))
  obtain ⟨habnd, hdef⟩ := not_or.mp (fun e => hrest (List.mem_cons.mpr e))
  rw [heq, State.reg_modSrv, State.bumpBy, State.reg_put_ne _ _ habnd, State.reg_predefined _ _ hdef, State.reg_put_ne _ _ hhb,
    State.reg_commFiltered]

theorem State.sdoAbandon_keepsRegs (s : State) (ch : Fin 2) : s.keepsRegs (s.sdoAbandon ch) 0 [ABND_CNT] := by
  have habort (i j : Nat) (x : Nat) (hx : x / 65536 % 32 = 0) : (s.sdoAbort ch i j 0x08000020).reg x = s.reg x :=
    (State.sdoAbort_ev (m := 0x20000000000004) (.refl _ s)).reg 0 hx (by decide)
  unfold State.sdoAbandon
  split
  next i j _ =>
    dsimp only
    split
    · exact ((State.keepsRegs.refl s 0 _).congr (habort i j)).put (f := ABND_CNT_ABND) List.mem_cons_self
    · exact (State.keepsRegs.refl s 0 _).congr (habort i j)
  next => exact .refl s _ _

/-- Block 0 holds the count of what was abandoned, and all else stays. -/
theorem State.commReset_keepsRegs (s : State) (ch : Fin 2) : s.keepsRegs (s.commReset ch) 0 [ABND_CNT] := by
  intro a ha hnot
  have hkept : commKept a = true ∧ a ∉ PDO_HB :: ABND_CNT :: predefinedRegs := by
    have hfar : ∀ x ∈ PDO_HB :: predefinedRegs, x / 65536 % 32 ≠ 0 := by decide
    refine ⟨?_, fun hmem => ?_⟩
    · unfold commKept
      rw [bne_iff_ne.mpr (by omega), bne_iff_ne.mpr (by omega)]
      rfl
    · simp only [List.mem_cons] at hmem hnot hfar
      rcases hmem with e | e | e
      · exact hfar a (.inl e) ha
      · exact hnot (.inl e)
      · exact hfar a (.inr e) ha
  rw [State.reg_commReset s ch hkept.2, if_pos hkept.1]
  exact s.sdoAbandon_keepsRegs ch a ha hnot

/-- The other blocks. -/
theorem State.commReset_block {s : State} {ch : Fin 2} {a : Nat}
    (ha : a / 65536 % 32 ≠ 0 ∧ a / 65536 % 32 ≠ 21 ∧ a / 65536 % 32 ≠ 22) : (s.commReset ch).reg a = s.reg a := by
  obtain ⟨h0, h21, h22⟩ := ha
  have hkept : commKept a = true := by
    unfold commKept
    rw [bne_iff_ne.mpr (by omega), bne_iff_ne.mpr (by omega)]
    rfl
  have hnot : a ∉ PDO_HB :: ABND_CNT :: predefinedRegs := by
    have hnear : ∀ x ∈ PDO_HB :: ABND_CNT :: predefinedRegs, x / 65536 % 32 = 0 ∨ x / 65536 % 32 = 22 := by decide
    exact fun hmem => (hnear a hmem).elim h0 h22
  rw [State.reg_commReset s ch hnot, if_pos hkept]
  have hbit : ∀ b : Fin 32, b.1 ≠ 0 → b.1 ≠ 21 → (0x20000100004004 : Nat).testBit (32 + b.1) = false := by decide
  exact (State.sdoAbandon_ev (m := 0x20000100004004) (.refl _ s)).reg ⟨a / 65536 % 32, Nat.mod_lt _ (by decide)⟩ rfl (hbit _ h0 h21)

/-- The frame of an operation that may write any register, from what it keeps of the blocks that are not listed. -/
theorem Ev.onlyChanges_of_blocks {l ps : List Part} {s t : State} (h : Ev (Part.mask (Part.withRegs l)) s t) (hl : l ⊆ ps)
    (hregs : ∀ b : Fin 32, .regs b ∉ ps → (Part.regs b).same s t) : s.onlyChanges t ps := by
  refine ⟨h.pending, h.member, h.time, fun p hp => ?_⟩
  by_cases hreg : p ∈ Part.allRegs
  · obtain ⟨b, -, rfl⟩ := List.mem_map.mp hreg
    exact hregs b hp
  · exact h.same p (Part.testBit_mask_of_not_mem fun hmem => (List.mem_append.mp hmem).elim (fun e => hp (hl e)) hreg)

/-- The parts of the reset (R92): the lines, the server, the count of what was dropped and the two blocks. -/
theorem State.commReset_onlyChanges (s : State) (ch : Fin 2) :
    s.onlyChanges (s.commReset ch) [.wire, .srv, .regs 0, .regs 21, .regs 22] := by
  refine Ev.onlyChanges_of_blocks (l := [.wire, .srv]) (State.commReset_ev (.refl _ s) (by decide)) (by decide) fun b hb a ha => ?_
  have hblock : b.1 ≠ 0 ∧ b.1 ≠ 21 ∧ b.1 ≠ 22 := by
    clear ha; revert b; decide
  exact State.commReset_block (by rwa [ha])

/-! ### What the reset leaves (R92, R101) -/

theorem State.commReset_srv (s : State) (ch : Fin 2) : (s.commReset ch).srv.can = Vector.replicate 2 {} ∧
    (s.commReset ch).srv.xfer = Vector.replicate 2 none := ⟨rfl, rfl⟩

theorem State.commReset_nmt (s : State) (ch : Fin 2) : (s.commReset ch).nmt = 0 := by
  have hreg : (s.commReset ch).reg PDO_NMT = resetWord PDO_NMT := s.reg_commReset ch (by decide)
  show fieldOf ((s.commReset ch).reg PDO_NMT) 2 0 = 0
  rw [hreg]
  decide

theorem State.commReset_canCfg (s : State) (ch c : Fin 2) : (s.commReset ch).reg (CAN_CFG c) = resetWord (CAN_CFG c) := by
  have hkept : CAN_CFG c ∉ PDO_HB :: ABND_CNT :: predefinedRegs ∧ commKept (CAN_CFG c) = false := by revert c; decide
  rw [State.reg_commReset s ch hkept.1, hkept.2]
  rfl

theorem State.commReset_loss (s : State) (ch : Fin 2) : (s.commReset ch).reg PDO_LOSS = s.reg PDO_LOSS := by
  rw [State.reg_commReset s ch (by decide), if_pos (by decide)]
  exact (State.sdoAbandon_ev (m := 0x20000100004004) (.refl _ s)).reg 22 (by decide) (by decide)

theorem State.commReset_alive (s : State) (ch : Fin 2) : (s.commReset ch).get PDO_HB_ALIVE = s.get PDO_HB_ALIVE := by
  obtain ⟨lost, heq⟩ := s.commReset_eq ch
  rw [heq, State.get_modSrv, State.bumpBy, State.get_put_ne _ _ (by decide), State.get, State.reg_predefined _ _ (by decide)]
  exact State.get_put_fits _ PDO_HB_ALIVE (s.get_lt _) (by decide) (by decide)

/-! ### The server stays up (R482, R488) -/

theorem State.serverUp_congr {s t : State} (hboot : t.reg BOOT_CTRL = s.reg BOOT_CTRL) (hten : t.reg (TEN_CORE 2) = s.reg (TEN_CORE 2))
    (hkill : t.reg TWU_KILL = s.reg TWU_KILL) (hwait : t.waiting = s.waiting) : t.serverUp = s.serverUp := by
  have hdone : t.bootDone = s.bootDone := by
    show (fieldOf (t.reg BOOT_CTRL) _ _ != 0) = (fieldOf (s.reg BOOT_CTRL) _ _ != 0)
    rw [hboot]
  have hen : t.get (TEN_CORE_EN (2 : Fin 8)) = s.get (TEN_CORE_EN (2 : Fin 8)) := congrArg (fieldOf · 4 4) hten
  have hstopped : t.get TWU_KILL_STOPPED = s.get TWU_KILL_STOPPED := congrArg (fieldOf · 23 16) hkill
  unfold State.serverUp State.tenantState
  rw [hdone, hen, hstopped, hwait]
  rfl

theorem State.commanded_serverUp (s : State) (ch : Fin 2) : (s.commanded ch).serverUp = s.serverUp :=
  State.serverUp_congr ((s.commanded_ev ch).reg 0 (by decide) (by decide)) ((s.commanded_ev ch).reg 2 (by decide) (by decide))
    ((s.commanded_ev ch).reg 2 (by decide) (by decide)) ((s.commanded_ev ch).same .waiting (by decide))

theorem State.commReset_serverUp (s : State) (ch : Fin 2) : (s.commReset ch).serverUp = s.serverUp :=
  State.serverUp_congr (s.commReset_keepsRegs ch _ (by decide) (by decide)) (State.commReset_block (by decide))
    (State.commReset_block (by decide)) ((State.commReset_ev (m := 0xffffffff00004004) (.refl _ s)).same .waiting (by decide))

/-! ### The load of the communication objects (R475, R482, R508) -/

/-- A register of the PDO block other than the record of losses. -/
def pdoAddr (a : Nat) : Prop := a / 65536 = 0x4016 ∧ a ≠ PDO_LOSS

/-- What the load of the communication objects leaves alone: all but the server's parts of them, the PDO block and the CAN block, where
the record of losses stays, and the open transfers. -/
structure State.commLoads (s t : State) : Prop where
  ev : Ev 0x60000800004002 s t
  loss : t.reg PDO_LOSS = s.reg PDO_LOSS
  xfer : t.srv.xfer = s.srv.xfer

theorem State.commLoads.refl (s : State) : s.commLoads s := ⟨.refl _ s, rfl, rfl⟩

/-- An operation on neither the server nor the PDO block. -/
theorem State.commLoads.evOf {s t u : State} {m : Nat} (h : s.commLoads t) (hev : Ev m t u) (hm : m &&& 0x60000800004002 = m)
    (hsrv : m.testBit 14 = false) (hpdo : m.testBit 54 = false) : s.commLoads u := by
  have hsame : u.srv = t.srv := hev.same .srv hsrv
  exact ⟨h.ev.comp hev hm, (hev.reg 22 (by decide) hpdo).trans h.loss, (congrArg Srv.xfer hsame).trans h.xfer⟩

theorem State.commLoads.setReg {s t : State} (h : s.commLoads t) {a : Nat} {v : Word} (ha : pdoAddr a) : s.commLoads (t.setReg a v) :=
  ⟨Ev.setReg h.ev 22 (by rw [ha.1]), (State.reg_setReg_ne _ _ (Ne.symm ha.2)).trans h.loss, h.xfer⟩

theorem State.commLoads.put {s t : State} (h : s.commLoads t) {f : Fld} {v : Nat} (hf : pdoAddr f.addr) : s.commLoads (t.put f v) :=
  State.commLoads.evOf (m := 0) (h.setReg hf) (Ev.noteSet (.refl _ _)) (by decide) (by decide) (by decide)

theorem State.commLoads.modSrv {s t : State} (h : s.commLoads t) {f : Srv → Srv}
    (hxfer : ∀ x, (f x).xfer = x.xfer) (hf : SoundSrv t.srv → SoundSrv (f t.srv)) : s.commLoads (t.modSrv f) :=
  ⟨Ev.modSrv h.ev hf, h.loss, (hxfer _).trans h.xfer⟩

theorem pdoAddr_of_base (tx : Bool) {n k : Nat} (hn : n < 16) (hk : k < 0x80) : pdoAddr (pdoBase tx n + k) := by
  unfold pdoAddr pdoBase PDO_LOSS RPDO_COBID TPDO_COBID
  cases tx <;> constructor <;> simp <;> omega

theorem State.commLoads.pdoCobWrite {s t : State} (h : s.commLoads t) (tx : Bool) (n : Fin 16) (v : Nat) :
    s.commLoads (t.pdoCobWrite tx n v).2 := by
  have hbase {k : Nat} (hk : k < 0x80) : pdoAddr (pdoBase tx n + k) := pdoAddr_of_base tx n.2 hk
  have hnamed (inv : Nat) : s.commLoads ((t.put (pdoInvalid tx n) inv).put (pdoId tx n) v) :=
    (h.put (hbase (k := 0) (by decide))).put (hbase (k := 0) (by decide))
  unfold State.pdoCobWrite
  extract_lets inv u
  split
  · dsimp only
    split
    · exact hnamed _
    · refine (hnamed _).modSrv (fun x => ?_) fun x => ?_
      · cases tx <;> rfl
      · cases tx <;> exact ⟨x.objs, x.emcy, x.hist, x.rx⟩
  · split
    · exact (((hnamed 0).put (hbase (by decide))).put (hbase (by decide))).put (hbase (by decide))
    · refine State.commLoads.evOf (m := 0x800000000) ((h.put (f := pdoMapErr tx n) (hbase (by decide))).setReg (a := PDO_EVT) ?_)
        (Ev.strobe (Ev.noteSet (.refl _ _))) (by decide) (by decide) (by decide)
      exact ⟨by decide, by decide⟩

theorem State.commLoads.setObj {s t : State} (h : s.commLoads t) (idx sub v : Nat) : s.commLoads (t.setObj idx sub v) :=
  ⟨State.setObj_ev h.ev, h.loss, h.xfer⟩

theorem State.commLoads.applyMap {s t : State} (h : s.commLoads t) (tx : Bool) (n : Fin 16) : s.commLoads (t.applyMap tx n) := by
  refine forN_keeps (P := s.commLoads) h fun e he u hu => hu.setReg ?_
  unfold pdoMap
  rw [Nat.add_assoc]
  exact pdoAddr_of_base tx n.2 (by omega)

theorem State.commLoads.setHbc {s t : State} (h : s.commLoads t) (k : Fin 4) (v : Nat) : s.commLoads (t.setHbc k v) := by
  have haddr : pdoAddr (PDO_HBC k) := by
    clear h; revert k; unfold pdoAddr; decide
  have hput : s.commLoads ((((t.put (PDO_HBC_NODE k) (v / 65536 % 128)).put (PDO_HBC_TIMEMS k) v).put (PDO_HBC_EN k)
    (b2n (decide (0 < v / 65536 % 128) && decide (0 < v % 65536)))).put (PDO_HBC_EXPIRED k) 0) :=
    (((h.put haddr).put haddr).put haddr).put haddr
  exact hput.modSrv (f := fun x => { x with hbc := x.hbc.set k false }) (fun _ => rfl) fun x => ⟨x.objs, x.emcy, x.hist, x.rx⟩

theorem State.commLoads.putComm {s t : State} (h : s.commLoads t) (idx sub v : Nat) : s.commLoads (t.putComm idx sub v) := by
  unfold State.putComm
  split
  next tx n _ =>
    have hbase : pdoAddr (pdoBase tx n + 4) := pdoAddr_of_base tx n.2 (by decide)
    split
    · exact h.pdoCobWrite tx n v
    · split
      · exact h.put hbase
      · split
        next hinhibit => exact h.put (f := pdoInhibit n) (pdoAddr_of_base true n.2 (by decide))
        next =>
          split
          · exact h.put hbase
          · exact h
  next =>
    split
    next tx n _ =>
      dsimp only
      split
      · exact (h.setObj idx sub v).applyMap tx n
      · exact h.setObj idx sub v
    next =>
      split
      · exact h.put ⟨by decide, by decide⟩
      · split
        · split
          · exact h.setHbc _ v
          · exact h
        · split
          · exact h.put ⟨by decide, by decide⟩
          · split
            · split
              · exact h.put (pdoAddr_of_base false (by omega) (by decide))
              · split
                · exact h.put (pdoAddr_of_base true (by omega) (by decide))
                · exact h
            · exact h.setObj idx sub v

theorem State.commLoads.puts {s t : State} (h : s.commLoads t) (l : List (Nat × Nat)) (sub : Nat × Nat → Nat) :
    s.commLoads (l.foldl (fun u e => u.putComm (e.1 / 256) (sub e) e.2) t) :=
  List.foldlRecOn (motive := s.commLoads) l _ h fun _ hu e _ => hu.putComm _ _ e.2

theorem State.loadComm_loads (s : State) : s.commLoads s.loadComm := by
  unfold State.loadComm
  extract_lets l cob cnt s1 s2 s3 s4
  have hbase : s.commLoads s1 := forN_keeps (P := s.commLoads) (.refl s) fun n hn t ht =>
    (ht.setReg (pdoAddr_of_base false (k := 0) hn (by decide))).setReg (pdoAddr_of_base true (k := 0) hn (by decide))
  have hmaps : s.commLoads s3 := (hbase.puts _ fun e => e.1 % 256).puts _ fun _ => 0
  have hcan : s.commLoads s4 := hmaps.evOf (m := 0x20000000000002) (State.loadCan_ev (State.loadCan_ev (.refl _ s3))) (by decide) (by decide)
    (by decide)
  refine List.foldlRecOn (motive := s.commLoads) _ _ hcan fun t ht tx _ => ?_
  exact forFin_induction (P := s.commLoads) ht fun n u hu => hu.pdoCobWrite tx n _

/-! ### The boot-up message (R477, R482) -/

theorem State.bootUp_loss (s : State) : s.bootUp.reg PDO_LOSS = s.reg PDO_LOSS := by
  have hall : (s.canAll (0x700 + s.nodeId) [0]).reg PDO_LOSS = s.reg PDO_LOSS :=
    (State.canAll_ev (m := 0x20000800000004) (.refl _ s)).reg 22 (by decide) (by decide)
  have hpre : ((s.canAll (0x700 + s.nodeId) [0]).put PDO_NMT_STATE 1).reg PDO_LOSS = s.reg PDO_LOSS :=
    (State.reg_put_ne _ _ (by decide)).trans hall
  unfold State.bootUp
  split
  · rfl
  · dsimp only
    split
    · exact (State.reg_put_ne _ _ (by decide)).trans hpre
    · exact hpre

theorem State.bootUp_nmt {s : State} (h : s.hasId = true) : s.bootUp.nmt = 1 ∨ s.bootUp.nmt = 2 := by
  have hput (t : State) {v : Nat} (hv : v < 8) : (t.put PDO_NMT_STATE v).nmt = v :=
    t.get_put_fits PDO_NMT_STATE hv (by decide) (by decide)
  unfold State.bootUp
  rw [h, Bool.not_true, if_neg Bool.false_ne_true]
  dsimp only
  split
  · exact .inr (hput _ (by decide))
  · exact .inl (hput _ (by decide))

theorem State.bootUp_srv (s : State) : s.bootUp.srv = s.srv :=
  (State.bootUp_ev (m := 0x60000800000004) (.refl _ s)).same .srv (by decide)

theorem State.restartTimers_xfer (s : State) : s.restartTimers.srv.xfer = s.srv.xfer := by
  refine forFin_induction (P := fun t => t.srv.xfer = s.srv.xfer) rfl fun r t ht => ?_
  dsimp only
  split <;> exact ht

theorem State.hasId_congr {s t : State} (h : t.reg NODE = s.reg NODE) : t.hasId = s.hasId := by
  show (fieldOf (t.reg NODE) 7 7 != 0) = (fieldOf (s.reg NODE) 7 7 != 0)
  rw [h]

/-- The server loads its objects and comes up. -/
def State.commStarted (s : State) : State := s.loadComm.bootUp.restartTimers

theorem State.commStarted_ev (s : State) : Ev 0x60000800004006 s s.commStarted :=
  State.restartTimers_ev (State.bootUp_ev (s.loadComm_loads.ev.mono (by decide)))

theorem State.commStarted_loss (s : State) : s.commStarted.reg PDO_LOSS = s.reg PDO_LOSS :=
  ((State.restartTimers_ev (m := 0x4000) (.refl _ _)).reg_of_small _ (by decide)).trans
    ((State.bootUp_loss _).trans s.loadComm_loads.loss)

theorem State.commStarted_xfer (s : State) : s.commStarted.srv.xfer = s.srv.xfer :=
  (State.restartTimers_xfer _).trans ((congrArg Srv.xfer (State.bootUp_srv _)).trans s.loadComm_loads.xfer)

theorem State.commStarted_nmt {s : State} (h : s.hasId = true) : s.commStarted.nmt = 1 ∨ s.commStarted.nmt = 2 := by
  have hid : s.loadComm.hasId = true := (State.hasId_congr (s.loadComm_loads.ev.reg 0 (by decide) (by decide))).trans h
  have hnmt : s.commStarted.nmt = s.loadComm.bootUp.nmt :=
    congrArg (fieldOf · 2 0) ((State.restartTimers_ev (m := 0x4000) (.refl _ _)).reg_of_small PDO_NMT (by decide))
  rw [hnmt]
  exact State.bootUp_nmt hid

end Sys2Proof.Machine
end

section
/-! PROOFS. NMT commands, heartbeats and EMCY frames (16_field_network.md): O43. -/

set_option Elab.async false

namespace Sys2Proof.Machine

/-! ### Frames in a row -/

theorem State.onlyChanges.mono {s t : State} {ps qs : List Part} (h : s.onlyChanges t ps) (hsub : ps ⊆ qs) : s.onlyChanges t qs := by
  obtain ⟨hpending, hmember, htime, hparts⟩ := h
  exact ⟨hpending, hmember, htime, fun p hp => hparts p fun hmem => hp (hsub hmem)⟩

theorem State.onlyChanges.trans {s t u : State} {ps : List Part} (h : s.onlyChanges t ps) (h' : t.onlyChanges u ps) : s.onlyChanges u ps := by
  obtain ⟨hpending, hmember, htime, hparts⟩ := h
  obtain ⟨hpending', hmember', htime', hparts'⟩ := h'
  exact ⟨hpending'.trans hpending, hmember'.trans hmember, htime'.trans htime, fun p hp => p.same_trans (hparts p hp) (hparts' p hp)⟩

/-! ### The commands -/

theorem exec_nmtStart {s : State} {ch : Fin 2} {node : BitVec 8} (hup : s.up = true) (hon : s.canOn ch = true) (hnode : s.named node)
    (hnmt : s.nmt ≠ 0) : exec (.nmtStart ch node) s = .next ((s.commanded ch).put PDO_NMT_STATE 2) := by
  refine congrArg Host.Outcome.next ((State.nmtRx_of_named hup hon hnode _).trans (if_neg ?_))
  rwa [State.commanded_nmt]

/-- The two commands that take the unit out of its NMT state. -/
theorem exec_nmtStop {s : State} {ch : Fin 2} {node : BitVec 8} (hup : s.up = true) (hon : s.canOn ch = true) (hnode : s.named node) :
    exec (.nmtStop ch node) s = .next ((s.commanded ch).nmtLeave 3) :=
  congrArg Host.Outcome.next (State.nmtRx_of_named hup hon hnode _)

theorem exec_nmtEnterPreOperational {s : State} {ch : Fin 2} {node : BitVec 8} (hup : s.up = true) (hon : s.canOn ch = true)
    (hnode : s.named node) : exec (.nmtEnterPreOperational ch node) s = .next ((s.commanded ch).nmtLeave 1) :=
  congrArg Host.Outcome.next (State.nmtRx_of_named hup hon hnode _)

theorem exec_nmtResetNode {s : State} {ch : Fin 2} {node : BitVec 8} (hup : s.up = true) (hon : s.canOn ch = true) (hnode : s.named node) :
    exec (.nmtResetNode ch node) s = .next ((s.commanded ch).sysRequest .nmt []) := by
  refine congrArg Host.Outcome.next ((if_neg ?_).trans (State.nmtRx_of_named hup hon hnode _))
  rw [s.up_iff.mp hup]
  decide

theorem State.commanded_up {s : State} (h : s.up = true) (ch : Fin 2) : (s.commanded ch).up = true :=
  (congrArg (fun y : SysSt => y.phase == .run) ((s.commanded_ev ch).same .sys (by decide))).trans h

/-- "Reset communication": with the server up, its objects follow. -/
theorem exec_nmtResetCommunication {s : State} {ch : Fin 2} {node : BitVec 8} (hup : s.up = true) (hon : s.canOn ch = true)
    (hnode : s.named node) : exec (.nmtResetCommunication ch node) s = .next
      (if s.serverUp then ((s.commanded ch).commReset ch).commStarted else (s.commanded ch).commReset ch) := by
  refine congrArg Host.Outcome.next ((State.nmtRx_of_named hup hon hnode _).trans ((if_neg ?_).trans ?_))
  · rw [(State.up_iff _).mp (State.commanded_up hup ch)]
    decide
  · show (if ((s.commanded ch).commReset ch).serverUp then _ else _) = _
    rw [State.commReset_serverUp, State.commanded_serverUp]
    rfl

theorem State.inPreReset_of_commanded {s t : State} {ch : Fin 2} {src : RstSource} (h : (s.commanded ch).inPreReset t src) :
    s.inPreReset t src := by
  have hports (p : Fin 6) : (s.commanded ch).ports[p] = s.ports[p] := (s.commanded_ev ch).port (by decide) p
  have hbg : (s.commanded ch).bg = s.bg := (s.commanded_ev ch).same .bg (by decide)
  obtain ⟨hphase, hsrc, hcause, hcores, hclaim, hsafe, hhalts, hcut⟩ := h
  exact ⟨hphase, hsrc, hcause, hcores, hclaim, hsafe, fun p hp => hhalts p (by rw [hports]; exact hp), fun hpow => hcut (by rw [hbg]; exact hpow)⟩

/-- What both ends of a "reset communication" leave of the unit, from the reset alone. -/
theorem State.commReset_commanded (s : State) (ch : Fin 2) :
    ((s.commanded ch).commReset ch).get PDO_HB_ALIVE = s.get PDO_HB_ALIVE ∧
    ((s.commanded ch).commReset ch).reg PDO_LOSS = s.reg PDO_LOSS ∧ ((s.commanded ch).commReset ch).hasId = s.hasId ∧
    s.onlyChanges ((s.commanded ch).commReset ch) [.wire, .srv, .regs 0, .regs 3, .regs 21, .regs 22] := by
  have hcommanded : s.onlyChanges (s.commanded ch) [.wire, .srv, .regs 0, .regs 3, .regs 21, .regs 22] :=
    ((s.commanded_ev ch).mono (by decide)).onlyChanges
  refine ⟨((s.commanded ch).commReset_alive ch).trans (s.commanded_get ch _ (by decide)), ?_, ?_,
    hcommanded.trans (((s.commanded ch).commReset_onlyChanges ch).mono (by decide))⟩
  · exact ((s.commanded ch).commReset_loss ch).trans ((s.commanded_ev ch).reg 22 (by decide) (by decide))
  · exact State.hasId_congr (((s.commanded ch).commReset_keepsRegs ch _ (by decide) (by decide)).trans
      ((s.commanded_ev ch).reg 0 (by decide) (by decide)))

/-! ### Heartbeats -/

theorem exec_heartbeatProduce {s : State} (hup : s.up = true) (hprod : s.get PDO_HB_PRODMS ≠ 0) (hnmt : s.nmt ≠ 0)
    (halive : s.get PDO_HB_ALIVE = 1) : exec .heartbeatProduce s = .next (s.canAll (0x700 + s.nodeId) (leBytes 1 (hbCode s.nmt))) := by
  refine congrArg Host.Outcome.next ((State.whenUp_of_up hup _).trans (if_neg ?_))
  rw [State.flag_eq_true halive]
  exact fun h => h.elim hprod fun h => h.elim hnmt fun h => h rfl

theorem State.pdoKick_key (s : State) : s.pdoKick 0x0000A11E = (s.mark .kicked).put PDO_HB_ALIVE 1 := if_pos rfl

theorem State.pdoKick_other (s : State) {v : Word} (h : v ≠ 0x0000A11E) : s.pdoKick v = s := if_neg h

theorem State.pdoKick_alive (s : State) (v : Word) :
    (s.pdoKick v).get PDO_HB_ALIVE = (if v = 0x0000A11E then 1 else s.get PDO_HB_ALIVE) ∧ s.keepsRegs (s.pdoKick v) 22 [PDO_HB] := by
  by_cases h : v = 0x0000A11E
  · subst h
    rw [State.pdoKick_key, if_pos rfl]
    exact ⟨State.get_put_fits _ PDO_HB_ALIVE (by decide) (by decide) (by decide), (State.keepsRegs.refl s 22 _).setReg List.mem_cons_self⟩
  · rw [State.pdoKick_other s h, if_neg h]
    exact ⟨rfl, .refl s _ _⟩

theorem exec_serverAliveLapse {s : State} (hup : s.up = true) (h : s.marked .kicked = false) :
    exec .serverAliveLapse s = .next (s.put PDO_HB_ALIVE 0) :=
  congrArg Host.Outcome.next ((State.whenUp_of_up hup _).trans (if_neg (by rw [h]; exact Bool.false_ne_true)))

/-- Settles O43: a frame that is received is counted and shown, then its command acts; a loss of communication takes every axis under
fieldbus control whose reaction is 1 to Fault, as `State.commLoss_faulted` says; "reset communication" is the reset of the two blocks,
then the load of the server's objects. -/
theorem nmtAndHeartbeats : Obligations.NmtAndHeartbeats := by
  unfold Obligations.NmtAndHeartbeats
  intro s hup
  refine ⟨fun ch node hon hnode hnmt => ?_, fun ch node hon hall hother => ?_, fun ch node hon hnode hnmt => ?_,
    fun ch node hon hnode hnmt => ?_, fun ch node hon hnode => ?_, fun ch node hon hnode hserver => ?_,
    fun ch node hon hnode hserver => ?_, fun hprod hnmt halive => ?_, fun v => ?_, fun hkick => ?_, fun ch node hon => ?_,
    fun k hen hruns => ?_, fun e l hserver hnmt htx hlost hq hcode => ?_⟩
  · have hexec := exec_nmtStart hup hon hnode hnmt
    have hne {f : Fld} (hf : f.addr / 65536 = 0x4015) : f.addr ≠ PDO_NMT_STATE.addr :=
      fun h => absurd ((congrArg (· / 65536) h).symm.trans hf) (by decide)
    refine ⟨_, hexec, State.get_put_fits _ PDO_NMT_STATE (by decide) (by decide) (by decide), ?_, ?_,
      onlyChanges_of_keeps (execNmtStart_keeps ch node s) hexec (by decide)⟩
    · rw [State.get_put_ne _ _ (hne (CAN_block ch).1)]
      exact s.commanded_rxok ch
    · rw [State.get_put_ne _ _ (hne (CAN_block ch).2.1)]
      exact s.commanded_event ch
  · have hexec : exec (.nmtStart ch node) s = .next (s.received ch) :=
      congrArg Host.Outcome.next (State.nmtRx_of_other hup hon hall hother _)
    exact ⟨_, hexec, congrArg (fieldOf · 2 0) ((s.received_ev ch).reg 22 (by decide) (by decide)), s.received_rxok ch,
      ((s.received_ev ch).mono (by decide)).onlyChanges⟩
  · have hexec := exec_nmtStop hup hon hnode
    obtain ⟨hstate, hrx, hloss, haxes⟩ := State.nmtLeave_shown hnmt ch (st := 3) (by decide)
    exact ⟨_, hexec, hstate, hrx, hloss, haxes, onlyChanges_of_keeps (execNmtStop_keeps ch node s) hexec (by decide)⟩
  · have hexec := exec_nmtEnterPreOperational hup hon hnode
    obtain ⟨hstate, hrx, hloss, haxes⟩ := State.nmtLeave_shown hnmt ch (st := 1) (by decide)
    exact ⟨_, hexec, hstate, hrx, hloss, haxes, onlyChanges_of_keeps (execNmtEnterPreOperational_keeps ch node s) hexec (by decide)⟩
  · have hexec := exec_nmtResetNode hup hon hnode
    exact ⟨_, hexec, State.inPreReset_of_commanded (State.sysRequest_inPreReset (State.commanded_up hup ch) .nmt []),
      onlyChanges_of_keeps (execNmtResetNode_keeps ch node s) hexec (by decide)⟩
  · have hexec := exec_nmtResetCommunication hup hon hnode
    rw [hserver, if_neg Bool.false_ne_true] at hexec
    obtain ⟨halive, hloss, -, hframe⟩ := s.commReset_commanded ch
    obtain ⟨hcan, hxfer⟩ := (s.commanded ch).commReset_srv ch
    exact ⟨_, hexec, (s.commanded ch).commReset_nmt ch, hcan, hxfer, halive, hloss, (s.commanded ch).commReset_canCfg ch, hframe⟩
  · have hexec := exec_nmtResetCommunication hup hon hnode
    rw [hserver, if_pos rfl] at hexec
    obtain ⟨-, hloss, hid, hframe⟩ := s.commReset_commanded ch
    refine ⟨_, hexec, fun hvalid => State.commStarted_nmt (hid.trans hvalid), (State.commStarted_xfer _).trans
      ((s.commanded ch).commReset_srv ch).2, (State.commStarted_loss _).trans hloss, ?_⟩
    exact (hframe.mono (by decide)).trans ((State.commStarted_ev _).mono (by decide)).onlyChanges
  · have hexec := exec_heartbeatProduce hup hprod hnmt halive
    exact ⟨_, hexec, fun c hc => State.canAll_wire hc _ _, onlyChanges_of_keeps (execHeartbeatProduce_keeps s) hexec (by decide)⟩
  · have hexec : exec (.serverKick v) s = .next (s.pdoKick v) := congrArg Host.Outcome.next (State.whenUp_of_up hup _)
    obtain ⟨halive, hkept⟩ := s.pdoKick_alive v
    exact ⟨_, hexec, halive, onlyChanges_of_keeps (execServerKick_keeps v s) hexec (by decide), hkept⟩
  · have hexec := exec_serverAliveLapse hup hkick
    exact ⟨_, hexec, State.get_put_fits _ PDO_HB_ALIVE (by decide) (by decide) (by decide),
      onlyChanges_of_keeps (execServerAliveLapse_keeps s) hexec (by decide), (State.keepsRegs.refl s 22 _).put List.mem_cons_self⟩
  · have hexec := exec_heartbeatRx hup hon node
    refine ⟨_, hexec, (State.hbcHears_rxok _ node ch).trans (s.received_rxok ch), fun k hen hnode htime => ?_,
      onlyChanges_of_keeps (execHeartbeatRx_keeps ch node s) hexec (by decide)⟩
    exact State.hbcHears_all (State.received_consumes ⟨State.flag_eq_true hen, hnode, htime⟩ ch)
  · have hexec := exec_heartbeatConsumerExpiry hup hen hruns
    obtain ⟨hexpired, hover⟩ := s.hbcExpired_shown k
    refine ⟨_, hexec, hexpired, hover, fun a hbus hreact => ?_, fun hroom => State.hbcExpired_emcy hroom k,
      onlyChanges_of_keeps (execHeartbeatConsumerExpiry_keeps k s) hexec (by decide)⟩
    exact State.commLoss_faulted ((State.hbcOver_reacts ⟨hbus, hreact⟩ k).emcy _ _) 2 (bitOf_all_axes a)
  · have hexec := exec_emcyTransmit hup hserver hnmt htx hlost hq
    obtain ⟨hqueue, hlen, hhead⟩ := s.emcySend_shown e l
    exact ⟨_, hexec, hqueue, hlen, hhead, fun c hc => State.emcySend_txok (s := s.modSrv fun x => { x with emcyQ := l }) hc e,
      onlyChanges_of_keeps (execEmcyTransmit_keeps s) hexec (by decide)⟩

end Sys2Proof.Machine
end

section
/-! PROOFS. A write request that the server serves at once (R480 to R489): the frame is received, the entry is written, one answer goes
out. -/

set_option Elab.async false

namespace Sys2Proof.Machine

/-! ### The link of an answer (R477, R486) -/

/-- An answer on channel `ch` goes out in `t` as it would in `s`, behind the same messages. -/
structure State.sameLink (s t : State) (ch : Fin 2) : Prop where
  wire : t.wire = s.wire
  node : t.reg NODE = s.reg NODE
  cfg : t.reg (CAN_CFG ch) = s.reg (CAN_CFG ch)
  can : t.srv.can = s.srv.can

theorem State.sameLink.refl (s : State) (ch : Fin 2) : s.sameLink s ch := ⟨rfl, rfl, rfl, rfl⟩

theorem State.sameLink.trans {s t u : State} {ch : Fin 2} (h : s.sameLink t ch) (h' : t.sameLink u ch) : s.sameLink u ch :=
  ⟨h'.wire.trans h.wire, h'.node.trans h.node, h'.cfg.trans h.cfg, h'.can.trans h.can⟩

/-- An operation on neither the lines nor the server nor blocks 0 and 21. -/
theorem State.sameLink.ev {s t u : State} {ch : Fin 2} {m : Nat} (h : s.sameLink t ch) (hev : Ev m t u)
    (hm : m.testBit 2 = false ∧ m.testBit 14 = false ∧ m.testBit 32 = false ∧ m.testBit 53 = false := by decide) : s.sameLink u ch := by
  obtain ⟨hwire, hsrv, hblock0, hblock21⟩ := hm
  have hsame : u.srv = t.srv := hev.same .srv hsrv
  exact h.trans ⟨hev.same .wire hwire, hev.reg 0 (by decide) hblock0, hev.reg 21 (CAN_CFG_kept ch ch).1 hblock21, congrArg Srv.can hsame⟩

/-- A change of the server that leaves the channels. -/
theorem State.sameLink.modSrv {s t : State} {ch : Fin 2} {f : Srv → Srv} (h : s.sameLink t ch) (hf : ∀ x, (f x).can = x.can) :
    s.sameLink (t.modSrv f) ch := ⟨h.wire, h.node, h.cfg, (hf _).trans h.can⟩

/-- The answer to a download: confirmed, or aborted with a code. -/
def doneBytes (idx sub code : Nat) : List Byte := if code = 0 then sdoHead 0x60 idx sub ++ leBytes 4 0 else sdoHead 0x80 idx sub ++ leBytes 4 code

theorem sdoDone_eq (ch : Fin 2) (idx sub : Nat) (r : Nat × State) : sdoDone ch idx sub r = r.2.sdoReply ch (doneBytes idx sub r.1) := by
  unfold sdoDone doneBytes
  split <;> rfl

/-- One answer stands on the lines. -/
theorem State.sameLink.answered {s : State} {ch : Fin 2} {r : Nat × State} (h : s.sameLink r.2 ch) (htx : s.canTx ch = true)
    (idx sub : Nat) : s.answered (sdoDone ch idx sub r) ch (doneBytes idx sub r.1) := by
  have htx' : r.2.canTx ch = true := (State.canTx_congr h.cfg h.node h.can).trans htx
  have hnode : r.2.nodeId = s.nodeId := congrArg (fieldOf · 6 0) h.node
  unfold State.answered
  rw [sdoDone_eq, State.sdoReply, State.canPut_wire htx', h.wire, hnode, State.canFd_congr h.cfg]

/-! ### A request that is served (R480, R482, R485) -/

/-- A request of the server has been received. -/
def State.requested (s : State) (ch : Fin 2) : State := (s.received ch).canEvt ch 5

theorem State.requested_ev (s : State) (ch : Fin 2) : Ev 0x20000800000000 s (s.requested ch) := State.canEvt_ev (s.received_ev ch)

theorem State.requested_srv (s : State) (ch : Fin 2) : (s.requested ch).srv = s.srv := (s.requested_ev ch).same .srv (by decide)

theorem State.received_sameLink (s : State) (ch : Fin 2) : s.sameLink (s.received ch) ch := by
  have hsrv : (s.received ch).srv = s.srv := (s.received_ev ch).same .srv (by decide)
  exact ⟨(s.received_ev ch).same .wire (by decide), (s.received_ev ch).reg 0 (by decide) (by decide),
    s.received_keepsRegs ch _ (CAN_CFG_kept ch ch).1 (CAN_CFG_kept ch ch).2, congrArg Srv.can hsrv⟩

theorem State.requested_sameLink (s : State) (ch : Fin 2) : s.sameLink (s.requested ch) ch :=
  ⟨(s.requested_ev ch).same .wire (by decide), (s.requested_ev ch).reg 0 (by decide) (by decide),
    ((s.received_keepsRegs ch).raise (f := CAN_EVT_EV ch) (List.mem_cons_of_mem _ List.mem_cons_self) (by decide)) _
      (CAN_CFG_kept ch ch).1 (CAN_CFG_kept ch ch).2, congrArg Srv.can (s.requested_srv ch)⟩

/-- No transfer is open on the channel: none has to end for a request. -/
theorem State.xferDrop_of_none {s : State} {ch : Fin 2} (h : s.srv.xfer[ch] = none) : s.xferDrop ch = s := by
  have hset : s.srv.xfer.set ch none = s.srv.xfer := by
    have hself := Vector.set_getElem_self (xs := s.srv.xfer) ch.2
    rwa [show s.srv.xfer[ch.1] = none from h] at hself
  unfold State.xferDrop
  rw [h]
  show { s with srv := { s.srv with xfer := s.srv.xfer.set ch none } } = s
  rw [hset]

theorem State.sdoOpen_of_none {s : State} {ch : Fin 2} (h : s.srv.xfer[ch] = none) (idx sub : Nat) (f : State → State) :
    s.sdoOpen ch idx sub f = f s := by
  unfold State.sdoOpen
  rw [State.xferDrop_of_none h, if_neg (by rw [h]; exact Bool.false_ne_true)]

/-- A channel that serves sends. -/
theorem State.serves.canTx {s : State} {ch : Fin 2} (h : s.serves ch) : s.canTx ch = true := by
  obtain ⟨-, -, htx, -⟩ := h
  exact htx

theorem State.canTx_hasId {s : State} {ch : Fin 2} (h : s.canTx ch = true) : s.hasId = true := by
  unfold State.canTx at h
  simp only [Bool.and_eq_true] at h
  obtain ⟨⟨⟨-, hid⟩, -⟩, -⟩ := h
  exact hid

/-- Registers outside the event controller and the CAN block stay as a request is received. -/
theorem State.received_get (s : State) (ch : Fin 2) (f : Fld) (b : Fin 32) (hf : f.addr / 65536 % 32 = b.1)
    (hb : (0x20000800000000 : Nat).testBit (32 + b.1) = false) : (s.received ch).get f = s.get f :=
  congrArg (fieldOf · f.hi f.lo) ((s.received_ev ch).reg b hf hb)

theorem State.sdoServe_eq {s : State} {ch : Fin 2} (h : s.serves ch) (idx sub : Nat) (data : List Byte) (ok : Bool) :
    s.sdoServe ch idx sub data ok = (s.requested ch).sdoWrite ch idx sub data ok := by
  obtain ⟨hup, hon, htx, hinit, hstopped, halive, hserver, hxfer⟩ := h
  have hid : (s.received ch).hasId = true := (s.received_id ch).1.trans (State.canTx_hasId htx)
  have hnmt : (s.received ch).nmt = s.nmt := s.received_get ch PDO_NMT_STATE 22 (by decide) (by decide)
  have hlive : (s.requested ch).flag PDO_HB_ALIVE = true :=
    State.flag_eq_true ((congrArg (fieldOf · 31 31) ((s.requested_ev ch).reg 22 (by decide) (by decide))).trans halive)
  have hup' : (s.requested ch).serverUp = true := (State.serverUp_congr ((s.requested_ev ch).reg 0 (by decide) (by decide))
    ((s.requested_ev ch).reg 2 (by decide) (by decide)) ((s.requested_ev ch).reg 2 (by decide) (by decide))
    ((s.requested_ev ch).same .waiting (by decide))).trans hserver
  unfold State.sdoServe State.sdoRx
  rw [if_neg (by rw [s.up_iff.mp hup]; decide), State.canRx_of_on hup hon, hid, hnmt, beq_false_of_ne hinit, Bool.not_true, Bool.false_or,
    if_neg Bool.false_ne_true, if_neg hstopped]
  show (if !(s.requested ch).flag PDO_HB_ALIVE then _ else if !true || !(s.requested ch).serverUp then _ else _) = _
  rw [hlive, hup', Bool.not_true, if_neg Bool.false_ne_true, Bool.or_false, if_neg Bool.false_ne_true]
  exact State.sdoOpen_of_none ((congrArg (fun x : Srv => x.xfer[ch]) (s.requested_srv ch)).trans hxfer) _ _ _

/-- A write that passes checks 1 and 2, of an entry other than an image. -/
theorem State.sdoWrite_eq {s : State} {idx sub : Nat} (hcheck : s.odCheck idx sub true = 0) (hidx : idx ≠ 0x2C02) (ch : Fin 2)
    (data : List Byte) (ok : Bool) : s.sdoWrite ch idx sub data ok = sdoDone ch idx sub (s.odWrite idx sub data ok) := by
  unfold State.sdoWrite
  rw [hcheck]
  exact if_neg hidx

/-- A write that passes checks 3 to 5. -/
theorem State.odWrite_eq {s : State} {idx sub : Nat} {data : List Byte} (hlen : s.odLen idx sub data.length = true)
    (hgate : s.odGate idx sub (leNat data) = true) (hseal : s.odSeal idx = true) (hidx : idx ≠ 0x2E02) (ok : Bool) :
    s.odWrite idx sub data ok = if s.odFits idx sub (leNat data) then s.odPut idx sub (leNat data) ok else (0x06090030, s) := by
  unfold State.odWrite
  dsimp only
  rw [hlen, hgate, hseal, Bool.not_true, if_neg Bool.false_ne_true, if_neg Bool.false_ne_true, if_neg Bool.false_ne_true, if_neg hidx]
  cases s.odFits idx sub (leNat data) <;> rfl

/-! ### The error history (R500) -/

theorem State.odEnt_history (s : State) : s.odEnt 0x1003 0 = some ⟨1, .rw, .num s.srv.hist.length⟩ := rfl

theorem State.odCheck_history (s : State) : s.odCheck 0x1003 0 true = 0 := by
  unfold State.odCheck
  rw [State.odEnt_history]
  rfl

theorem leNat_byte (v : BitVec 8) : leNat [v] = v.toNat := by
  simp [leNat]

theorem State.historyWrite (s : State) (ch : Fin 2) (v : BitVec 8) : s.sdoWrite ch 0x1003 0 [v] true =
    sdoDone ch 0x1003 0 (if v = 0 then (0, s.modSrv fun x => { x with hist := [] }) else (0x06090030, s)) := by
  have hlen : s.odLen 0x1003 0 1 = true := by
    unfold State.odLen
    rw [State.odEnt_history]
    rfl
  have hfits : s.odFits 0x1003 0 v.toNat = (v.toNat == 0) := rfl
  have hput (w : Nat) : s.odPut 0x1003 0 w true = (0, s.modSrv fun x => { x with hist := [] }) := rfl
  rw [State.sdoWrite_eq s.odCheck_history (by decide), State.odWrite_eq (data := [v]) hlen rfl rfl (by decide), leNat_byte, hfits, hput]
  by_cases h : v = 0
  · subst h; rfl
  · rw [if_neg h, if_neg]
    intro e
    exact h (BitVec.eq_of_toNat_eq (beq_iff_eq.mp e))

end Sys2Proof.Machine
end

section
/-! PROOFS. Saving and restoring (R508, R549): which entries a save takes, and the commit of the server. -/

set_option Elab.async false

namespace Sys2Proof.Machine

/-! ### The entries of a save (R508) -/

/-- Registers that the value of an entry is found in. -/
def OdSrc.regs : OdSrc → List Nat
  | .num _ => []
  | .text _ => []
  | .fld a _ _ => [a]
  | .words l => l

@[simp] theorem OdSrc.regs_num (v : Nat) : (OdSrc.num v).regs = [] := rfl
@[simp] theorem OdSrc.regs_text (b : List Byte) : (OdSrc.text b).regs = [] := rfl

/-- What of an entry says whether a save takes it. -/
def OdEnt.kind (e : OdEnt) : OdAcc × List Nat := (e.acc, e.src.regs)

@[simp] theorem odRo_kind (n : Nat) (x : OdSrc) : (odRo n x).map OdEnt.kind = some (.ro, x.regs) := rfl
@[simp] theorem odRw_kind (n : Nat) (x : OdSrc) : (odRw n x).map OdEnt.kind = some (.rw, x.regs) := rfl
@[simp] theorem odConst_kind (n v : Nat) : (odConst n v).map OdEnt.kind = some (.const, []) := rfl
@[simp] theorem text_kind (n : Nat) (b : List Byte) : (some (OdEnt.mk n .const (.text b))).map OdEnt.kind = some (.const, []) := rfl

theorem State.odBase_kind (s t : State) (idx sub : Nat) : (t.odBase idx sub).map OdEnt.kind = (s.odBase idx sub).map OdEnt.kind := by
  unfold State.odBase
  split <;> simp [apply_ite (Option.map OdEnt.kind), -Nat.reducePow]

theorem State.odSys_kind (s t : State) (idx sub : Nat) : (t.odSys idx sub).map OdEnt.kind = (s.odSys idx sub).map OdEnt.kind := by
  unfold State.odSys
  split <;> simp

theorem State.odNet_kind (s t : State) (idx sub : Nat) : (t.odNet idx sub).map OdEnt.kind = (s.odNet idx sub).map OdEnt.kind := by
  unfold State.odNet
  split <;> simp [apply_ite (Option.map OdEnt.kind)]

theorem State.odCia_kind (s t : State) (h : t.route = s.route) (a : Fin 8) (o : Nat) :
    (t.odCia a o).map OdEnt.kind = (s.odCia a o).map OdEnt.kind := by
  have hr : t.routeOf a = s.routeOf a := congrArg (fun r : Vector _ 8 => (r[a].live.headD 0).toNat % 4) h
  unfold State.odCia
  split <;> simp [tqTarget, spdTarget, hr]

theorem State.odIo_kind (s t : State) (idx sub : Nat) : (t.odIo idx sub).map OdEnt.kind = (s.odIo idx sub).map OdEnt.kind := by
  unfold State.odIo
  split
  · rfl
  · split <;> simp [apply_ite (Option.map OdEnt.kind)]

theorem State.odComm_kind (s t : State) (idx sub : Nat) : (t.odComm idx sub).map OdEnt.kind = (s.odComm idx sub).map OdEnt.kind := by
  unfold State.odComm
  split
  · split <;> simp [apply_ite (Option.map OdEnt.kind)]
  · split
    · simp [apply_ite (Option.map OdEnt.kind)]
    · exact State.odBase_kind s t _ _

/-- Two states on the same routes list the same entries, with the same access and the same registers; only values differ. -/
theorem State.odEnt_kind (s t : State) (h : t.route = s.route) (idx sub : Nat) :
    (t.odEnt idx sub).map OdEnt.kind = (s.odEnt idx sub).map OdEnt.kind := by
  unfold State.odEnt
  split
  · simp only [apply_ite (Option.map OdEnt.kind), odCia_kind s t h]
  · simp only [apply_ite (Option.map OdEnt.kind), odComm_kind s t, odIo_kind s t, odSys_kind s t, odNet_kind s t]

theorem State.absentReg_congr {s t : State} (h : t.member = s.member) : t.absentReg = s.absentReg := by
  funext a
  unfold State.absentReg
  simp only [State.nTenants, State.nCores, State.nEvents, State.nDma, State.nPorts, State.nAxes, State.nMod, State.nInc,
    State.nHall, State.nSsi, State.nCan, State.nLamps, h]
  <;> rfl

/-- An entry is absent with its index or with a register it is found in. -/
theorem State.odAbsent_eq (s : State) (idx sub : Nat) (e : OdEnt) :
    s.odAbsent idx sub e = (s.odAbsent idx sub ⟨0, .ro, .num 0⟩ || e.src.regs.any s.absentReg) := by
  obtain ⟨n, acc, src⟩ := e
  unfold State.odAbsent
  cases src <;> simp [OdSrc.regs]

theorem State.odAbsent_congr {s t : State} (h : t.member = s.member) (idx sub : Nat) {e e' : OdEnt} (hregs : e'.src.regs = e.src.regs) :
    t.odAbsent idx sub e' = s.odAbsent idx sub e := by
  have hindex : t.odAbsent idx sub ⟨0, .ro, .num 0⟩ = s.odAbsent idx sub ⟨0, .ro, .num 0⟩ := by
    unfold State.odAbsent
    simp only [State.nPorts, State.nAxes, State.nLamps, State.nCan, h]
    <;> rfl
  rw [t.odAbsent_eq, s.odAbsent_eq, hindex, hregs, State.absentReg_congr h]

/-- A save of the area takes the entry. -/
def State.saves (s : State) (area idx sub : Nat) : Bool :=
  (s.odEnt idx sub).any fun e => e.acc == .rw && inArea area idx && !neverSaved idx && !s.odAbsent idx sub e

theorem State.saves_congr {s t : State} (hmember : t.member = s.member) (hroute : t.route = s.route) (area idx sub : Nat) :
    t.saves area idx sub = s.saves area idx sub := by
  have hkind := State.odEnt_kind s t hroute idx sub
  unfold State.saves
  cases ht : t.odEnt idx sub <;> cases hs : s.odEnt idx sub <;> rw [ht, hs] at hkind
  · rfl
  · cases hkind
  · cases hkind
  · next e' e =>
    obtain ⟨hacc, hsrc⟩ := Prod.mk.inj (Option.some.inj hkind)
    simp only [Option.any_some, hacc, State.odAbsent_congr hmember idx sub hsrc]

theorem State.snapshot_keys (s : State) (area : Nat) : (s.snapshot area).map (·.1) = savedIndices.flatMap fun idx =>
    (List.range 33).filterMap fun sub => if s.saves area idx sub then some (idx * 256 + sub) else none := by
  unfold State.snapshot
  rw [List.map_flatMap]
  congr 1
  funext idx
  rw [List.map_filterMap]
  congr 1
  funext sub
  unfold State.saves
  cases s.odEnt idx sub with
  | none => rfl
  | some e =>
    simp only [Option.any_some]
    split <;> rfl

theorem State.snapshot_keys_congr {s t : State} (hmember : t.member = s.member) (hroute : t.route = s.route) (area : Nat) :
    (t.snapshot area).map (·.1) = (s.snapshot area).map (·.1) := by
  rw [t.snapshot_keys, s.snapshot_keys]
  simp only [State.saves_congr hmember hroute]

theorem mem_keys_sparseIns {α : Type} (j k : Nat) (v : α) (l : List (Nat × α)) :
    j ∈ (sparseIns k v l).map (·.1) ↔ j = k ∨ j ∈ l.map (·.1) := by
  induction l with
  | nil => simp [sparseIns]
  | cons e t ih =>
    obtain ⟨i, x⟩ := e
    unfold sparseIns
    split
    · simp
    · simp only [List.map_cons, List.mem_cons, ih]
      exact or_left_comm

theorem mem_keys_sparseDrop {α : Type} {j k : Nat} (h : j ≠ k) (l : List (Nat × α)) :
    j ∈ (sparseDrop k l).map (·.1) ↔ j ∈ l.map (·.1) := by
  induction l with
  | nil => rfl
  | cons e t ih =>
    obtain ⟨i, x⟩ := e
    unfold sparseDrop
    split
    · next e => simp only [List.map_cons, List.mem_cons, e, h, false_or, ih]
    · simp only [List.map_cons, List.mem_cons, ih]

/-- The values that a save has written into the file `l`. -/
def savedInto (l new : List (Nat × Nat)) : List (Nat × Nat) := new.foldl (fun l e => sparseIns e.1 e.2 (sparseDrop e.1 l)) l

theorem mem_keys_savedInto (j : Nat) (new l : List (Nat × Nat)) :
    j ∈ (savedInto l new).map (·.1) ↔ j ∈ new.map (·.1) ∨ j ∈ l.map (·.1) := by
  induction new generalizing l with
  | nil => simp [savedInto]
  | cons e t ih =>
    have hstep : savedInto l (e :: t) = savedInto (sparseIns e.1 e.2 (sparseDrop e.1 l)) t := rfl
    rw [hstep, ih, mem_keys_sparseIns, List.map_cons, List.mem_cons]
    by_cases h : j = e.1
    · simp [h]
    · simp [h, mem_keys_sparseDrop h]

/-! ### The commit (R508, R549) -/

theorem leNat_leBytes (n v : Nat) : leNat (leBytes n v) = v % 256 ^ n := by
  induction n generalizing v with
  | zero => simp [leBytes, leNat, Nat.mod_one]
  | succ n ih =>
    rw [leBytes, leNat, ih, BitVec.toNat_ofNat, pow_succ' 256 n]
    exact Nat.mod_mul.symm

theorem length_leBytes (n v : Nat) : (leBytes n v).length = n := by
  induction n generalizing v with
  | zero => rfl
  | succ n ih => rw [leBytes, List.length_cons, ih]

/-- A value of 32 bits as the server takes it from the bytes of a request. -/
theorem leNat_word (v : Word) : leNat (leBytes 4 v.toNat) = v.toNat := by
  rw [leNat_leBytes]
  exact Nat.mod_eq_of_lt v.isLt

/-- A byte of memory is found in the memory, the option bytes and the store. -/
theorem State.memByte_congr {s t : State} (hmem : t.mem = s.mem) (hsys : t.sys = s.sys) (hstore : t.store = s.store) (a : Nat) :
    t.memByte a = s.memByte a := by
  unfold State.memByte State.sectorHeader
  rw [hmem, hsys, hstore]

theorem State.memBytes_congr {s t : State} (hmem : t.mem = s.mem) (hsys : t.sys = s.sys) (hstore : t.store = s.store) (a n : Nat) :
    t.memBytes a n = s.memBytes a n := by
  unfold State.memBytes
  simp only [State.memByte_congr hmem hsys hstore]

/-- What the server asks of the store and the banks stands on a received request. -/
theorem State.requested_mem (s : State) (ch : Fin 2) : (s.requested ch).mem = s.mem := (s.requested_ev ch).same .mem (by decide)
theorem State.requested_store (s : State) (ch : Fin 2) : (s.requested ch).store = s.store := (s.requested_ev ch).same .store (by decide)
theorem State.requested_sys (s : State) (ch : Fin 2) : (s.requested ch).sys = s.sys := (s.requested_ev ch).same .sys (by decide)
theorem State.requested_block0 (s : State) (ch : Fin 2) (f : Fld) (hf : f.addr / 65536 % 32 = 0) : (s.requested ch).get f = s.get f :=
  congrArg (fieldOf · f.hi f.lo) ((s.requested_ev ch).reg 0 hf (by decide))

theorem State.requested_parked (s : State) (ch : Fin 2) : (s.requested ch).parked = s.parked := by
  unfold State.parked
  rw [s.requested_block0 ch _ (by decide)]

theorem State.requested_confirmed (s : State) (ch : Fin 2) : (s.requested ch).confirmed = s.confirmed := by
  have hbank : (s.requested ch).runBank = s.runBank := s.requested_block0 ch _ (by decide)
  unfold State.confirmed State.marker State.bankWord
  simp only [hbank, State.memBytes_congr (s.requested_mem ch) (s.requested_sys ch) (s.requested_store ch)]

/-- The server's file after a commit, which the store counts. -/
def State.fileCommitted (s : State) (new : Srv → List (Nat × Nat)) : State :=
  (s.modSrv fun x => { x with saved := new x }).modStore fun x => { x with commits := x.commits + 1 }

theorem State.fileCommitted_ev (s : State) (new : Srv → List (Nat × Nat)) : Ev 0x4004000 s (s.fileCommitted new) :=
  .modStore (.modSrv (.refl _ _))

theorem State.fileCommitted_commits (s : State) (new : Srv → List (Nat × Nat)) : (s.fileCommitted new).store.commits = s.store.commits + 1 := rfl

theorem State.fileCommitted_saved (s : State) (new : Srv → List (Nat × Nat)) : (s.fileCommitted new).srv.saved = new s.srv := rfl

theorem State.sameLink.fileCommitted {s t : State} {ch : Fin 2} (h : s.sameLink t ch) (new : Srv → List (Nat × Nat)) :
    s.sameLink (t.fileCommitted new) ch :=
  (h.modSrv (f := fun x => { x with saved := new x }) fun _ => rfl).ev (Ev.modStore (m := 0x4000000) (.refl _ _))

/-- The store takes a commit of the server, and the flash does not fail. -/
theorem State.srvCommit_of_free {s : State} (hparked : s.parked = false) (hcmd : s.store.cmd = none) (hready : s.store.ready = true)
    (hholder : s.store.notHolder 2 = false) (hconfirmed : s.confirmed = true) (new : Srv → List (Nat × Nat)) :
    s.srvCommit true (fun x => { x with saved := new x }) = (0, s.fileCommitted new) := by
  unfold State.srvCommit
  rw [hparked, hcmd, hready, hholder, hconfirmed]
  rfl

/-- A write of 0x1010 or 0x1011, one of the sub-indices of an area. -/
theorem State.areaWrite {s : State} {idx sub : Nat} (hidx : idx = 0x1010 ∨ idx = 0x1011) (hlo : 1 ≤ sub) (hhi : sub ≤ 3) (ch : Fin 2) (v : Word)
    (ok : Bool) : s.sdoWrite ch idx sub (leBytes 4 v.toNat) ok =
      sdoDone ch idx sub (if idx = 0x1010 then s.saveObjects sub v.toNat ok else s.restoreObjects sub v.toNat ok) := by
  have hent : s.odEnt idx sub = some ⟨4, .rw, .num 1⟩ := by
    obtain rfl | rfl := hidx <;> obtain rfl | rfl | rfl : sub = 1 ∨ sub = 2 ∨ sub = 3 := by omega
    all_goals rfl
  have hcheck : s.odCheck idx sub true = 0 := by
    unfold State.odCheck
    rw [hent]
    obtain rfl | rfl := hidx <;> rfl
  have hlen : s.odLen idx sub (leBytes 4 v.toNat).length = true := by
    unfold State.odLen
    rw [hent, length_leBytes]
    obtain rfl | rfl := hidx <;> rfl
  rw [State.sdoWrite_eq hcheck (by omega)]
  obtain rfl | rfl := hidx
  · rw [State.odWrite_eq hlen rfl rfl (by decide), leNat_word]
    rfl
  · rw [State.odWrite_eq hlen rfl rfl (by decide), leNat_word]
    rfl

/-- A commit of the server for a request: answered, counted, and only the server's file changes with it. -/
theorem State.committed {s : State} {ch : Fin 2} (hserves : s.serves ch) (hparked : s.parked = false) (hcmd : s.store.cmd = none)
    (hready : s.store.ready = true) (hholder : s.store.notHolder 2 = false) (hconfirmed : s.confirmed = true) (idx sub : Nat)
    (new : Srv → List (Nat × Nat)) {t : State}
    (ht : t = sdoDone ch idx sub ((s.requested ch).srvCommit true fun x => { x with saved := new x })) :
    s.answered t ch (sdoHead 0x60 idx sub ++ leBytes 4 0) ∧ t.store.commits = s.store.commits + 1 ∧ t.srv.saved = new s.srv ∧
      s.onlyChanges t [.wire, .srv, .store, .regs 3, .regs 21] := by
  have hcommit := State.srvCommit_of_free ((s.requested_parked ch).trans hparked) ((congrArg Store.cmd (s.requested_store ch)).trans hcmd)
    ((congrArg Store.ready (s.requested_store ch)).trans hready) ((congrArg (Store.notHolder · 2) (s.requested_store ch)).trans hholder)
    ((s.requested_confirmed ch).trans hconfirmed) new
  rw [hcommit] at ht
  have hev := (s.requested ch).fileCommitted_ev new
  have hdone : Ev 0x20000800000004 ((s.requested ch).fileCommitted new) t := ht ▸ sdoDone_ev (.refl _ _)
  have hanswered := ((s.requested_sameLink ch).fileCommitted new).answered (r := (0, (s.requested ch).fileCommitted new)) hserves.canTx idx sub
  rw [← ht] at hanswered
  refine ⟨hanswered, ?_, ?_, ?_⟩
  · rw [show t.store = _ from hdone.same .store (by decide), State.fileCommitted_commits, s.requested_store ch]
  · rw [show t.srv = _ from hdone.same .srv (by decide), State.fileCommitted_saved, s.requested_srv ch]
  · exact Ev.onlyChanges ((((s.requested_ev ch).mono (by decide)).comp hev (by decide)).comp hdone (by decide))

end Sys2Proof.Machine
end

section
/-! PROOFS. The error history and the commands of the parameter areas, as requests (R500, R508, R549). -/

set_option Elab.async false

namespace Sys2Proof.Machine

/-! ### The error history (R500) -/

theorem State.history_cleared {s : State} {ch : Fin 2} (h : s.serves ch) : ∃ t, exec (.errorHistoryClear ch 0) s = .next t ∧
    s.answered t ch (sdoHead 0x60 0x1003 0 ++ leBytes 4 0) ∧ t.srv.hist = [] ∧ s.onlyChanges t [.wire, .srv, .regs 3, .regs 21] := by
  let u : State := (s.requested ch).modSrv fun x => { x with hist := [] }
  have hexec : exec (.errorHistoryClear ch 0) s = .next (sdoDone ch 0x1003 0 (0, u)) :=
    congrArg Host.Outcome.next ((State.sdoServe_eq h _ _ _ _).trans (State.historyWrite _ ch 0))
  have hev : Ev 0x20000800004000 s u := Ev.modSrv (f := fun x => { x with hist := [] })
    ((s.requested_ev ch).mono (by decide)) (by with_unfolding_all exact fun x => ⟨x.objs, x.emcy, Nat.zero_le 16, x.rx⟩)
  have hdone : Ev 0x20000800000004 u (sdoDone ch 0x1003 0 (0, u)) := sdoDone_ev (.refl _ _)
  have hlink : s.sameLink u ch := (s.requested_sameLink ch).modSrv (f := fun x => { x with hist := [] }) fun _ => rfl
  exact ⟨_, hexec, hlink.answered (r := (0, u)) h.canTx _ _, congrArg Srv.hist (hdone.same .srv (by decide)),
    Ev.onlyChanges ((hev.mono (by decide)).comp hdone (by decide))⟩

/-- A request that the server refuses is answered, and nothing else of the unit changes. -/
theorem State.refused {s t : State} {ch : Fin 2} (h : s.serves ch) {idx sub code : Nat} (hcode : code ≠ 0)
    (ht : t = sdoDone ch idx sub (code, s.requested ch)) : s.answered t ch (sdoHead 0x80 idx sub ++ leBytes 4 code) ∧ t.srv = s.srv ∧
      s.onlyChanges t [.wire, .srv, .regs 3, .regs 21] := by
  subst ht
  have hev : Ev 0x20000800000004 s (sdoDone ch idx sub (code, s.requested ch)) := sdoDone_ev ((s.requested_ev ch).mono (by decide))
  have hanswered := (s.requested_sameLink ch).answered (r := (code, s.requested ch)) h.canTx idx sub
  unfold doneBytes at hanswered
  rw [if_neg hcode] at hanswered
  exact ⟨hanswered, hev.same .srv (by decide), (hev.mono (by decide)).onlyChanges⟩

theorem State.history_kept {s : State} {ch : Fin 2} (h : s.serves ch) {v : BitVec 8} (hv : v ≠ 0) :
    ∃ t, exec (.errorHistoryClear ch v) s = .next t ∧ s.answered t ch (sdoHead 0x80 0x1003 0 ++ leBytes 4 0x06090030) ∧
      t.srv.hist = s.srv.hist ∧ s.onlyChanges t [.wire, .srv, .regs 3, .regs 21] := by
  have hwrite := State.historyWrite (s.requested ch) ch v
  rw [if_neg hv] at hwrite
  obtain ⟨hanswered, hsrv, hframe⟩ := State.refused h (by decide) hwrite
  exact ⟨_, congrArg Host.Outcome.next (State.sdoServe_eq h _ _ _ _), hanswered, congrArg Srv.hist hsrv, hframe⟩

/-! ### Saving and restoring (R508, R549) -/

theorem State.storeParameters_eq {s : State} {ch : Fin 2} (h : s.serves ch) {sub : BitVec 8} (hlo : 1 ≤ sub.toNat) (hhi : sub.toNat ≤ 3)
    (v : Word) (ok : Bool) : exec (.storeParameters ch sub v ok) s =
      .next (sdoDone ch 0x1010 sub.toNat ((s.requested ch).saveObjects sub.toNat v.toNat ok)) := by
  show Host.Outcome.next (s.sdoServe ch 0x1010 sub.toNat (leBytes 4 v.toNat) ok) = _
  rw [State.sdoServe_eq h, State.areaWrite (.inl rfl) hlo hhi, if_pos rfl]

theorem State.restoreDefaults_eq {s : State} {ch : Fin 2} (h : s.serves ch) {sub : BitVec 8} (hlo : 1 ≤ sub.toNat) (hhi : sub.toNat ≤ 3)
    (v : Word) (ok : Bool) : exec (.restoreDefaults ch sub v ok) s =
      .next (sdoDone ch 0x1011 sub.toNat ((s.requested ch).restoreObjects sub.toNat v.toNat ok)) := by
  show Host.Outcome.next (s.sdoServe ch 0x1011 sub.toNat (leBytes 4 v.toNat) ok) = _
  rw [State.sdoServe_eq h, State.areaWrite (.inr rfl) hlo hhi, if_neg (by decide)]

theorem State.saved {s : State} {ch : Fin 2} (h : s.serves ch) {sub : BitVec 8} (hlo : 1 ≤ sub.toNat) (hhi : sub.toNat ≤ 3)
    (hparked : s.parked = false) (hcmd : s.store.cmd = none) (hready : s.store.ready = true) (hholder : s.store.notHolder 2 = false)
    (hconfirmed : s.confirmed = true) : ∃ t, exec (.storeParameters ch sub 0x65766173 true) s = .next t ∧
      s.answered t ch (sdoHead 0x60 0x1010 sub.toNat ++ leBytes 4 0) ∧ t.store.commits = s.store.commits + 1 ∧
      (∀ e ∈ s.snapshot sub.toNat, e.1 ∈ t.srv.saved.map (·.1)) ∧ s.onlyChanges t [.wire, .srv, .store, .regs 3, .regs 21] := by
  obtain ⟨hanswered, hcommits, hsaved, hframe⟩ := State.committed h hparked hcmd hready hholder hconfirmed 0x1010 sub.toNat
    (fun x => savedInto x.saved ((s.requested ch).snapshot sub.toNat)) rfl
  have hwrite : (s.requested ch).saveObjects sub.toNat (0x65766173 : Word).toNat true = (s.requested ch).srvCommit true
      fun x => { x with saved := savedInto x.saved ((s.requested ch).snapshot sub.toNat) } := by
    rw [State.saveObjects, if_neg (by decide)]
    rfl
  refine ⟨_, (State.storeParameters_eq h hlo hhi _ true).trans (congrArg (fun x => Host.Outcome.next (sdoDone ch 0x1010 sub.toNat x)) hwrite),
    hanswered, hcommits, fun e he => ?_, hframe⟩
  have hkeys := State.snapshot_keys_congr (s.requested_ev ch).member ((s.requested_ev ch).same .route (by decide)) sub.toNat
  refine (congrArg (fun l => e.1 ∈ l.map (·.1)) hsaved).mpr ((mem_keys_savedInto _ _ _).mpr (.inl ?_))
  rw [hkeys]
  exact List.mem_map_of_mem he

theorem State.notSaved {s : State} {ch : Fin 2} (h : s.serves ch) {sub : BitVec 8} (hlo : 1 ≤ sub.toNat) (hhi : sub.toNat ≤ 3) {v : Word}
    (hv : v ≠ 0x65766173) (ok : Bool) : ∃ t, exec (.storeParameters ch sub v ok) s = .next t ∧
      s.answered t ch (sdoHead 0x80 0x1010 sub.toNat ++ leBytes 4 0x08000020) ∧ t.srv.saved = s.srv.saved ∧
      s.onlyChanges t [.wire, .srv, .regs 3, .regs 21] := by
  have hsign : v.toNat ≠ 0x65766173 := fun e => hv (BitVec.eq_of_toNat_eq e)
  obtain ⟨hanswered, hsrv, hframe⟩ := State.refused h (idx := 0x1010) (sub := sub.toNat) (code := 0x08000020) (by decide) rfl
  refine ⟨_, ?_, hanswered, congrArg Srv.saved hsrv, hframe⟩
  rw [State.storeParameters_eq h hlo hhi, State.saveObjects, if_pos hsign]

theorem State.restored {s : State} {ch : Fin 2} (h : s.serves ch) {sub : BitVec 8} (hlo : 1 ≤ sub.toNat) (hhi : sub.toNat ≤ 3)
    (hparked : s.parked = false) (hcmd : s.store.cmd = none) (hready : s.store.ready = true) (hholder : s.store.notHolder 2 = false)
    (hconfirmed : s.confirmed = true) : ∃ t, exec (.restoreDefaults ch sub 0x64616F6C true) s = .next t ∧
      s.answered t ch (sdoHead 0x60 0x1011 sub.toNat ++ leBytes 4 0) ∧ t.store.commits = s.store.commits + 1 ∧
      (t.srv.saved = s.srv.saved.filter fun e => !inArea sub.toNat (e.1 / 256)) ∧
      s.onlyChanges t [.wire, .srv, .store, .regs 3, .regs 21] := by
  have hwrite : (s.requested ch).restoreObjects sub.toNat (0x64616F6C : Word).toNat true = (s.requested ch).srvCommit true
      fun x => { x with saved := x.saved.filter fun e => !inArea sub.toNat (e.1 / 256) } := by
    rw [State.restoreObjects, if_neg (by decide)]
  exact ⟨_, (State.restoreDefaults_eq h hlo hhi _ true).trans
    (congrArg (fun x => Host.Outcome.next (sdoDone ch 0x1011 sub.toNat x)) hwrite),
    State.committed h hparked hcmd hready hholder hconfirmed 0x1011 sub.toNat
      (fun x => x.saved.filter fun e => !inArea sub.toNat (e.1 / 256)) rfl⟩

/-- An EMCY joins its queue; the channels and the file of the server stay. -/
theorem State.emcy_can (s : State) (code : Nat) (bytes : List Nat) : (s.emcy code bytes).srv.can = s.srv.can := by
  unfold State.emcy
  split <;> rfl

theorem State.emcy_saved (s : State) (code : Nat) (bytes : List Nat) : (s.emcy code bytes).srv.saved = s.srv.saved := by
  unfold State.emcy
  split <;> rfl

theorem State.sameLink.emcy {s t : State} {ch : Fin 2} (h : s.sameLink t ch) (code : Nat) (bytes : List Nat) :
    s.sameLink (t.emcy code bytes) ch := by
  obtain ⟨hwire, hnode, hcfg, hcan⟩ := h
  exact ⟨(t.emcy_wire code bytes).trans hwire, (t.reg_emcy code bytes _).trans hnode, (t.reg_emcy code bytes _).trans hcfg,
    (t.emcy_can code bytes).trans hcan⟩

theorem State.notRestored {s : State} {ch : Fin 2} (h : s.serves ch) {sub : BitVec 8} (hlo : 1 ≤ sub.toNat) (hhi : sub.toNat ≤ 3)
    (hparked : s.parked = true) (ok : Bool) : ∃ t, exec (.restoreDefaults ch sub 0x64616F6C ok) s = .next t ∧
      s.answered t ch (sdoHead 0x80 0x1011 sub.toNat ++ leBytes 4 0x08000020) ∧ s.queued t 0xFF64 [] ∧ t.srv.saved = s.srv.saved ∧
      s.onlyChanges t [.wire, .srv, .regs 3, .regs 21] := by
  let u : State := (s.requested ch).emcy 0xFF64 []
  have hwrite : (s.requested ch).restoreObjects sub.toNat (0x64616F6C : Word).toNat ok = (0x08000020, u) := by
    rw [State.restoreObjects, if_neg (by decide), State.srvCommit, s.requested_parked ch, hparked, if_pos rfl]
  have hev : Ev 0x20000800004000 s u := .emcy ((s.requested_ev ch).mono (by decide))
  have hdone : Ev 0x20000800000004 u (sdoDone ch 0x1011 sub.toNat (0x08000020, u)) := sdoDone_ev (.refl _ _)
  have hsrv : (sdoDone ch 0x1011 sub.toNat (0x08000020, u)).srv = u.srv := hdone.same .srv (by decide)
  have hqueued : s.queued u 0xFF64 [] := State.queued_emcy (s.requested_srv ch)
  have hsaved : u.srv.saved = s.srv.saved := (State.emcy_saved _ _ _).trans (congrArg Srv.saved (s.requested_srv ch))
  have hanswered := ((s.requested_sameLink ch).emcy 0xFF64 []).answered (r := (0x08000020, u)) h.canTx 0x1011 sub.toNat
  refine ⟨_, (State.restoreDefaults_eq h hlo hhi _ ok).trans (congrArg (fun x => Host.Outcome.next (sdoDone ch 0x1011 sub.toNat x)) hwrite),
    hanswered, ?_, (congrArg Srv.saved hsrv).trans hsaved, Ev.onlyChanges ((hev.mono (by decide)).comp hdone (by decide))⟩
  unfold State.queued at hqueued ⊢
  rwa [hsrv]

end Sys2Proof.Machine
end

section
/-! PROOFS. The bytes of a code bank, and the store commands that the server gives for an image (R516, R532 to R534). -/

set_option Elab.async false

namespace Sys2Proof.Machine

/-! ### Bytes of a code bank -/

/-- A byte of a code bank is found in the memory alone. -/
theorem State.memByte_bank {a : Nat} (ha : isBank a = true) (s : State) : s.memByte a = sparseGet 0xFF a s.mem := by
  have hin : 0x10000000 ≤ a ∧ a < 0x11000000 := by
    simpa [isBank, inRange] using ha
  have hoption : isOption a = false := by
    simp [isOption, inRange]; omega
  have hstore : isStore a = false := by
    simp [isStore, inRange]; omega
  unfold State.memByte memDefault
  rw [hoption, hstore, ha]
  rfl

theorem State.get_setBytes (l : List Byte) (a b : Nat) (s : State) : sparseGet (memDefault b) b (State.setBytes a l s).mem =
    if inRange b a l.length then l.getD (b - a) 0 else sparseGet (memDefault b) b s.mem := by
  induction l generalizing a s with
  | nil =>
    have hout : inRange b a 0 = false := by
      simp [inRange]
    rw [State.setBytes, List.length_nil, hout]
    rfl
  | cons x t ih =>
    rw [State.setBytes, ih, State.setByte_mem]
    obtain rfl | hne := eq_or_ne b a
    · simp [inRange, sparseGet_set_same]
    · rw [sparseGet_set_ne _ _ hne]
      have hin : inRange b (a + 1) t.length = inRange b a (x :: t).length := by
        rw [Bool.eq_iff_iff]
        simp only [inRange, List.length_cons, Bool.and_eq_true, decide_eq_true_eq]; omega
      rw [hin]
      split
      · next h =>
        have hlt : a < b := by
          simp only [inRange, Bool.and_eq_true, decide_eq_true_eq] at h; omega
        rw [show b - a = (b - (a + 1)) + 1 by omega, List.getD_cons_succ]
      · rfl

theorem State.memByte_setBytes {b : Nat} (hb : isBank b = true) (l : List Byte) (a : Nat) (s : State) :
    (State.setBytes a l s).memByte b = if inRange b a l.length then l.getD (b - a) 0 else s.memByte b := by
  have hget := State.get_setBytes l a b s
  have hdef : memDefault b = 0xFF := by
    unfold memDefault; rw [hb]; rfl
  rw [hdef] at hget
  rw [State.memByte_bank hb, State.memByte_bank hb, hget]

theorem State.memByte_dropBytes {b : Nat} (hb : isBank b = true) (a n : Nat) (s : State) :
    (s.dropBytes a n).memByte b = if inRange b a n then 0xFF else s.memByte b := by
  rw [State.memByte_bank hb, State.memByte_bank hb]
  unfold State.dropBytes
  rw [sparseGet_filter (fun k => !inRange k a n)]
  cases inRange b a n <;> rfl

/-! ### The bank that does not run -/

theorem State.otherBank_le (s : State) : s.otherBank ≤ 1 := Nat.sub_le _ _

theorem isBank_bankBase {b i : Nat} (hb : b ≤ 1) (hi : i < 0x800000) : isBank (bankBase b + i) = true := by
  unfold bankBase isBank inRange
  rw [Bool.and_eq_true, decide_eq_true_eq, decide_eq_true_eq]
  omega

/-- A stored word of the control block leaves the bytes of the image. -/
theorem State.memByte_setBankWord (s : State) {b c i : Nat} (hb : b ≤ 1) (hi : i < 0x7F0000) (slot v : Nat) (hslot : slot < 16) :
    (s.setBankWord c slot v).memByte (bankBase b + i) = s.memByte (bankBase b + i) := by
  unfold State.setBankWord
  rw [State.memByte_setBytes (isBank_bankBase hb (by omega)), if_neg]
  unfold bankBase inRange
  rw [length_leBytes, Bool.and_eq_true, decide_eq_true_eq, decide_eq_true_eq]
  omega

theorem State.memByte_verifyBank (s : State) {i : Nat} (hi : i < 0x7F0000) :
    s.verifyBank.memByte (bankBase s.otherBank + i) = s.memByte (bankBase s.otherBank + i) := by
  have hb := s.otherBank_le
  have hclear (t : State) : t.clearBankwr.memByte (bankBase s.otherBank + i) = t.memByte (bankBase s.otherBank + i) := by
    have hbank := isBank_bankBase hb (show i < 0x800000 by omega)
    have hmem : t.clearBankwr.mem = t.mem := (State.clearBankwr_ev (m := 0x4000000) (.refl _ t)).same .mem (by decide)
    rw [State.memByte_bank hbank, State.memByte_bank hbank, hmem]
  unfold State.verifyBank
  dsimp only
  split
  · split
    · exact hclear _
    · rw [hclear, State.setMarker, State.memByte_setBankWord _ hb hi _ _ (by decide), State.memByte_setBankWord _ hb hi _ _ (by decide)]
  · have hbank := isBank_bankBase hb (show i < 0x800000 by omega)
    rw [hclear, State.memByte_bank hbank, State.memByte_bank hbank, State.put_mem, State.put_mem]

/-! ### The store commands of an image (R516, R533) -/

/-- The store takes a command for a bank: none is in progress, and the unit is not parked. -/
def State.bankFree (s : State) : Prop := s.parked = false ∧ s.store.cmd = none

theorem State.bankFree.refusal {s : State} (h : s.bankFree) {op : Nat} (hop : op = 8 ∨ op = 0xA ∨ op = 0xB) : s.storeRefusal 2 op = 0 := by
  obtain ⟨hparked, hcmd⟩ := h
  unfold State.storeRefusal
  rw [hparked, hcmd]
  obtain rfl | rfl | rfl := hop <;> cases s.store.ready <;> rfl

/-- The command `op` of the server in progress. -/
def State.srvCmd (s : State) (op : Nat) : StoreCmd :=
  ⟨op, (s.reg (STORE_ARG 0)).toNat, (s.reg (STORE_ARG 1)).toNat, (s.reg (STORE_ARG 2)).toNat, 2⟩

def State.storeTaken (s : State) (op : Nat) : State :=
  (s.put STORE_STAT_LASTERR 0).modStore fun x => { x with cmd := some (s.srvCmd op) }

/-- The erase of the bank that does not run has begun. -/
def State.eraseTaken (s : State) : State :=
  (s.storeTaken 8).modStore fun x => { x with bankwr := true, dropWr := false, prog := true, eraseAt := some 0 }

theorem State.storeCmd_erase {s : State} (h : s.storeRefusal 2 8 = 0) : s.storeCmd 2 8 = s.eraseTaken := by
  unfold State.storeCmd
  rw [h]
  exact if_neg (by decide)

theorem State.storeCmd_taken {s : State} {op : Nat} (h : s.storeRefusal 2 op = 0) (hop : op = 0xA ∨ op = 0xB) :
    s.storeCmd 2 op = s.storeTaken op := by
  unfold State.storeCmd
  rw [h]
  obtain rfl | rfl := hop
  · exact if_neg (by decide)
  · exact if_neg (by decide)

/-- The command completes on the flash. -/
def State.storeFinished (s : State) (c : StoreCmd) : State :=
  ((s.modStore fun x => { x with cmd := none }).storeDo c).raise ⟨STORE_EVT, 1, 0⟩ 0 122

theorem State.srvStore_accepted {s t : State} {op : Nat} (h : s.storeRefusal 2 op = 0) (ht : s.storeCmd 2 op = t)
    {c : StoreCmd} (hc : t.store.cmd = some c) :
    s.srvStore op = ((t.storeFinished c).get STORE_STAT_LASTERR, t.storeFinished c) := by
  unfold State.srvStore
  dsimp only
  rw [h, ht, hc]
  rfl

/-! ### The erase for an image (R532, R533) -/

theorem State.storeTaken_otherBank (s : State) (op : Nat) : (s.storeTaken op).otherBank = s.otherBank :=
  congrArg (1 - ·) (s.get_put_ne 0 (by decide))

theorem State.eraseTo_from (s : State) {j k : Nat} (hj : s.store.eraseAt = some j) : s.eraseTo k =
    if j < k then (s.dropBytes (bankBase s.otherBank + 65536 * j) (65536 * (k - j))).modStore fun x => { x with eraseAt := some k } else s := by
  unfold State.eraseTo
  rw [hj]

/-- The first sector of the bank that does not run is erased. -/
def State.bankErased (s : State) : State :=
  ((s.eraseTaken.modStore fun x => { x with cmd := none }).dropBytes (bankBase s.otherBank) 65536).modStore fun x =>
    { x with eraseAt := some 1 }

theorem State.storeDo_erase (s t : State) : t.storeDo (s.srvCmd 8) = t.eraseTo 1 := rfl

theorem State.storeFinished_erase (s : State) : s.eraseTaken.storeFinished (s.srvCmd 8) = s.bankErased.raise ⟨STORE_EVT, 1, 0⟩ 0 122 := by
  have hbank : (s.eraseTaken.modStore fun x => { x with cmd := none }).otherBank = s.otherBank := s.storeTaken_otherBank 8
  unfold State.storeFinished State.bankErased
  rw [State.storeDo_erase, State.eraseTo_from _ (j := 0) rfl, if_pos (by decide), hbank, Nat.mul_zero, Nat.add_zero, Nat.sub_zero, Nat.mul_one]

theorem State.bankErased_ev (s : State) : Ev 0x4000040 (s.put STORE_STAT_LASTERR 0) s.bankErased := by
  unfold State.bankErased State.eraseTaken State.storeTaken
  exact .modStore (State.dropBytes_ev (.modStore (.modStore (.modStore (.refl _ _)))))

theorem State.imageStart_eq {s : State} (h : s.bankFree) : s.imageStart =
    (0, (s.bankErased.raise ⟨STORE_EVT, 1, 0⟩ 0 122).modStore fun x => { x with image := some [] }) := by
  have hrefusal := h.refusal (.inl rfl)
  have hcode : (s.bankErased.raise ⟨STORE_EVT, 1, 0⟩ 0 122).get STORE_STAT_LASTERR = 0 := by
    rw [State.get_raise_ne _ (by decide) (by decide), State.get, s.bankErased_ev.reg_of_small _ (by decide)]
    exact s.get_put_fits STORE_STAT_LASTERR (by decide) (by decide) (by decide)
  unfold State.imageStart
  rw [State.srvStore_accepted hrefusal (State.storeCmd_erase hrefusal) (c := s.srvCmd 8) rfl, State.storeFinished_erase, hcode]
  rfl

end Sys2Proof.Machine
end

section
/-! PROOFS. A whole image goes into the bank that does not run and is verified (R533). -/

set_option Elab.async false

namespace Sys2Proof.Machine

/-! ### An image on its way (R533) -/

/-- The server has taken `got` of an image into the bank that does not run, in its first sector. -/
structure State.loads (s t : State) (got : List Byte) : Prop where
  ev : Ev 0x200000804000040 s t
  image : t.store.image = some got
  cmd : t.store.cmd = none
  prog : t.store.prog = true
  erased : t.store.eraseAt = some 1

theorem State.loads.otherBank {s t : State} {got : List Byte} (h : s.loads t got) : t.otherBank = s.otherBank :=
  congrArg (fun w => 1 - fieldOf w 1 1) (h.ev.reg 0 (a := BOOT_CTRL) (by decide) (by decide))

theorem State.loads.parked {s t : State} {got : List Byte} (h : s.loads t got) : t.parked = s.parked := by
  have hstat : t.get BEAR_STAT_PARK = s.get BEAR_STAT_PARK := congrArg (fieldOf · 26 24) (h.ev.reg 0 (a := BEAR_STAT) (by decide) (by decide))
  unfold State.parked
  rw [hstat]

theorem State.loads.bankFree {s t : State} {got : List Byte} (h : s.loads t got) (hparked : s.parked = false) : t.bankFree :=
  ⟨h.parked.trans hparked, h.cmd⟩

theorem State.bankErased_store (s : State) : s.bankErased.store.cmd = none ∧ s.bankErased.store.prog = true ∧
    s.bankErased.store.eraseAt = some 1 := ⟨rfl, rfl, rfl⟩

theorem State.bankErased_memByte (s : State) {i : Nat} (hi : i < 65536) : s.bankErased.memByte (bankBase s.otherBank + i) = 0xFF := by
  have hbank := isBank_bankBase s.otherBank_le (show i < 0x800000 by omega)
  have hdrop := State.memByte_dropBytes hbank (bankBase s.otherBank) 65536 (s.eraseTaken.modStore fun x => { x with cmd := none })
  have hin : inRange (bankBase s.otherBank + i) (bankBase s.otherBank) 65536 = true := by
    unfold inRange
    rw [Bool.and_eq_true, decide_eq_true_eq, decide_eq_true_eq]
    omega
  rw [hin, if_pos rfl, State.memByte_bank hbank] at hdrop
  rw [State.memByte_bank hbank]
  exact hdrop

/-- The erase has begun, and the first sector holds no byte of the old image. -/
theorem State.imageStart_loads {s : State} (h : s.bankFree) : ∃ t, s.imageStart = (0, t) ∧ s.loads t [] ∧
    ∀ i < 65536, t.memByte (bankBase s.otherBank + i) = 0xFF := by
  have hput : Ev 0x200000000000000 s (s.put STORE_STAT_LASTERR 0) := .put (.refl _ _) 25 (by decide)
  have hraise : Ev 0x200000804000040 s (s.bankErased.raise ⟨STORE_EVT, 1, 0⟩ 0 122) :=
    .raise ((hput.mono (by decide)).comp s.bankErased_ev (by decide)) 25 (by decide)
  have hstore := State.raise_store s.bankErased ⟨STORE_EVT, 1, 0⟩ 0 122
  obtain ⟨hcmd, hprog, herase⟩ := s.bankErased_store
  refine ⟨_, State.imageStart_eq h, ⟨.modStore hraise, rfl, ?_, ?_, ?_⟩, fun i hi => ?_⟩
  · exact (congrArg Store.cmd hstore).trans hcmd
  · exact (congrArg Store.prog hstore).trans hprog
  · exact (congrArg Store.eraseAt hstore).trans herase
  · have hbank := isBank_bankBase s.otherBank_le (show i < 0x800000 by omega)
    have hmem := State.raise_mem s.bankErased ⟨STORE_EVT, 1, 0⟩ 0 122
    rw [← s.bankErased_memByte hi, State.memByte_bank hbank, State.memByte_bank hbank]
    exact congrArg (sparseGet 0xFF _) hmem

theorem zip_and_ones (l : List Byte) {m : List Byte} (hlen : l.length ≤ m.length) (hm : ∀ b ∈ m, b = 0xFF) :
    (l.zip m).map (fun p => p.1 &&& p.2) = l := by
  induction l generalizing m with
  | nil => rfl
  | cons x t ih =>
    obtain _ | ⟨y, m⟩ := m
    · cases hlen
    · rw [List.zip_cons_cons, List.map_cons, ih (Nat.le_of_succ_le_succ hlen) fun b hb => hm b (List.mem_cons_of_mem _ hb),
        hm y List.mem_cons_self]
      exact congrArg (· :: t) BitVec.and_allOnes

/-- The first piece of an image is programmed into erased flash. -/
theorem State.progBank_erased {s : State} {data : List Byte} (herased : s.store.eraseAt = some 1) (hlen : data.length ≤ 65536)
    (hones : ∀ i < 65536, s.memByte (bankBase s.otherBank + i) = 0xFF) :
    s.progBank (bankBase s.otherBank) data = State.setBytes (bankBase s.otherBank) data s := by
  have hdone : s.eraseTo ((bankBase s.otherBank - bankBase s.otherBank) / 65536 + 1) = s := by
    rw [State.eraseTo_from s herased, Nat.sub_self]
    exact if_neg (by decide)
  unfold State.progBank
  dsimp only
  rw [hdone, zip_and_ones data]
  · simp [State.memBytes]
  · intro b hb
    obtain ⟨i, hi, rfl⟩ := List.mem_map.mp hb
    exact hones i (by have := List.mem_range.mp hi; omega)

theorem State.memBytes_setBytes (s : State) {b : Nat} (hb : b ≤ 1) {data : List Byte} (hlen : data.length ≤ 0x800000) :
    (State.setBytes (bankBase b) data s).memBytes (bankBase b) data.length = data := by
  refine List.ext_getElem (by simp [State.memBytes]) fun i hi hi' => ?_
  have hin : inRange (bankBase b + i) (bankBase b) data.length = true := by
    unfold inRange
    rw [Bool.and_eq_true, decide_eq_true_eq, decide_eq_true_eq]
    omega
  simp only [State.memBytes, List.getElem_map, List.getElem_range]
  rw [State.memByte_setBytes (isBank_bankBase hb (by omega)), hin, if_pos rfl, Nat.add_sub_cancel_left]
  exact List.getD_eq_getElem _ _ hi'

theorem imageProg_one {data : List Byte} (hlen : data.length = 256) (s : State) :
    imageProg 2 0 data s = s.progBank (bankBase s.otherBank) data := by
  unfold imageProg
  rw [if_neg (by omega)]
  unfold imageProg
  rw [if_pos (by omega), Nat.mul_zero, Nat.add_zero, List.drop_zero, List.take_of_length_le (by omega)]

/-- A whole image of one piece that names the bank is programmed. -/
theorem State.loads.imageData {s t : State} (h : s.loads t []) (hones : ∀ i < 65536, t.memByte (bankBase s.otherBank + i) = 0xFF)
    {image : List Byte} (hlen : image.length = 256) (hlink : (image.getD 6 0).toNat = s.otherBank) :
    ∃ u, t.imageData image = (0, u) ∧ s.loads u image ∧ u.memBytes (bankBase s.otherBank) 256 = image := by
  let v : State := t.modStore fun x => { x with image := some image }
  have hbank : v.otherBank = s.otherBank := h.otherBank
  have hprog : v.progBank (bankBase v.otherBank) image = State.setBytes (bankBase v.otherBank) image v :=
    State.progBank_erased h.erased (by omega) fun i hi => by
      have hb := isBank_bankBase v.otherBank_le (show i < 0x800000 by omega)
      rw [State.memByte_bank hb]
      rw [hbank] at hb ⊢
      exact (State.memByte_bank hb t).symm.trans (hones i hi)
  have hset : Ev 0x40 v (State.setBytes (bankBase v.otherBank) image v) := State.setBytes_ev (.refl _ _)
  have hstore : (State.setBytes (bankBase v.otherBank) image v).store = v.store := hset.same .store (by decide)
  have hbytes := State.memBytes_setBytes v v.otherBank_le (data := image) (by omega)
  refine ⟨State.setBytes (bankBase v.otherBank) image v, ?_, ⟨State.setBytes_ev (.modStore h.ev), ?_, ?_, ?_, ?_⟩, ?_⟩
  · unfold State.imageData
    rw [h.image]
    dsimp only
    rw [List.nil_append, if_neg, if_neg (by omega), hlen, ← hprog]
    · exact congrArg (Prod.mk 0) (imageProg_one hlen v)
    · rw [h.otherBank, hlink]; simp
  · exact congrArg Store.image hstore
  · exact (congrArg Store.cmd hstore).trans h.cmd
  · exact (congrArg Store.prog hstore).trans h.prog
  · exact (congrArg Store.eraseAt hstore).trans h.erased
  · rw [hlen] at hbytes
    rw [← hbank]
    exact hbytes

/-! ### The end of the transfer (R533, R534) -/

theorem State.clearBankwr_store (s : State) : s.clearBankwr.store.cmd = s.store.cmd ∧ s.clearBankwr.store.prog = s.store.prog := by
  unfold State.clearBankwr
  split <;> exact ⟨rfl, rfl⟩

theorem State.verifyBank_store (s : State) : s.verifyBank.store.cmd = s.store.cmd ∧ s.verifyBank.store.prog = s.store.prog := by
  have hclear {u : State} (h : Ev 0x200000000000040 s u) :
      u.clearBankwr.store.cmd = s.store.cmd ∧ u.clearBankwr.store.prog = s.store.prog := by
    rw [u.clearBankwr_store.1, u.clearBankwr_store.2, h.same .store (by decide)]
    exact ⟨rfl, rfl⟩
  rw [State.verifyBank]
  split
  · split
    · exact hclear (.refl _ _)
    · exact hclear (State.setMarker_ev (State.setBankWord_ev (.refl _ _)))
  · exact hclear (.put (.put (.refl _ _) 25 (by decide)) 25 (by decide))

theorem State.storeDo_verify (s t : State) : t.storeDo (s.srvCmd 0xA) = t.verifyBank := by
  simp only [State.storeDo, State.srvCmd]

theorem State.storeDo_abandon (s t : State) : t.storeDo (s.srvCmd 0xB) = t.clearBankwr := by
  simp only [State.storeDo, State.srvCmd]

/-- The store with a command of the server taken off again. -/
def State.storeBusy (s : State) (op : Nat) : State := (s.storeTaken op).modStore fun x => { x with cmd := none }

theorem State.storeBusy_ev (s : State) (op : Nat) : Ev 0x4000000 (s.put STORE_STAT_LASTERR 0) (s.storeBusy op) :=
  .modStore (.modStore (.refl _ _))

theorem State.bankFree.srvStore_verify {s : State} (h : s.bankFree) :
    (s.srvStore 0xA).2 = (s.storeBusy 0xA).verifyBank.raise ⟨STORE_EVT, 1, 0⟩ 0 122 := by
  have hrefusal := h.refusal (.inr (.inl rfl))
  rw [State.srvStore_accepted hrefusal (State.storeCmd_taken hrefusal (.inl rfl)) (c := s.srvCmd 0xA) rfl, State.storeFinished,
    State.storeDo_verify, State.storeBusy]

theorem State.bankFree.srvStore_abandon {s : State} (h : s.bankFree) :
    (s.srvStore 0xB).2 = (s.storeBusy 0xB).clearBankwr.raise ⟨STORE_EVT, 1, 0⟩ 0 122 := by
  have hrefusal := h.refusal (.inr (.inr rfl))
  rw [State.srvStore_accepted hrefusal (State.storeCmd_taken hrefusal (.inr rfl)) (c := s.srvCmd 0xB) rfl, State.storeFinished,
    State.storeDo_abandon, State.storeBusy]

/-- The last piece has been programmed: the bank is verified, and the download ends. -/
theorem State.loads.imageEnd {s t : State} {image : List Byte} (h : s.loads t image) (hparked : s.parked = false)
    (hlen : image.length = 256) : ∃ u, (t.imageEnd = (0, u) ∨ t.imageEnd = (0x08000020, u)) ∧ Ev 0x200000804000040 s u ∧
      u.store.image = none ∧ u.store.cmd = none ∧ u.store.prog = true ∧
      u.memBytes (bankBase s.otherBank) 256 = t.memBytes (bankBase s.otherBank) 256 := by
  have hverify := (h.bankFree hparked).srvStore_verify
  have hev : Ev 0x200000804000040 s (t.srvStore 0xA).2 := State.srvStore_ev h.ev
  obtain ⟨hcmd, hprog⟩ := (t.storeBusy 0xA).verifyBank_store
  have hbytes {i : Nat} (hi : i < 256) : (t.srvStore 0xA).2.memByte (bankBase s.otherBank + i) = t.memByte (bankBase s.otherBank + i) := by
    have hb := isBank_bankBase s.otherBank_le (show i < 0x800000 by omega)
    have hbusy := (t.storeBusy 0xA).memByte_verifyBank (show i < 0x7F0000 by omega)
    rw [show (t.storeBusy 0xA).otherBank = s.otherBank from (t.storeTaken_otherBank 0xA).trans h.otherBank, State.memByte_bank hb,
      State.memByte_bank hb] at hbusy
    rw [hverify, State.memByte_bank hb, State.memByte_bank hb, State.raise_mem, hbusy, (t.storeBusy_ev 0xA).same .mem (by decide)]
    rfl
  refine ⟨(t.srvStore 0xA).2.modStore fun x => { x with image := none }, ?_, .modStore hev, rfl, ?_, ?_, ?_⟩
  · unfold State.imageEnd
    rw [h.image]
    dsimp only
    rw [if_pos (show image.length % 256 = 0 by rw [hlen])]
    split
    · exact .inl rfl
    · exact .inr rfl
  · show (t.srvStore 0xA).2.store.cmd = none
    rw [hverify, State.raise_store, hcmd]
    rfl
  · show (t.srvStore 0xA).2.store.prog = true
    rw [hverify, State.raise_store, hprog]
    exact h.prog
  · refine List.map_congr_left fun i hi => ?_
    rw [← hbytes (List.mem_range.mp hi)]
    have hb := isBank_bankBase s.otherBank_le (show i < 0x800000 by have := List.mem_range.mp hi; omega)
    rw [State.memByte_bank hb, State.memByte_bank hb]
    rfl

/-! ### An image that is refused (R533) -/

theorem leNat_lt (l : List Byte) : leNat l < 256 ^ l.length := by
  induction l with
  | nil => exact Nat.one_pos
  | cons b t ih =>
    have hb := b.isLt
    rw [leNat, List.length_cons, pow_succ]
    omega

/-- An image for another bank: its version is recorded, and the download ends. -/
theorem State.loads.imageRefused {s t : State} (h : s.loads t []) (hparked : s.parked = false) {image : List Byte} (hlen : 12 ≤ image.length)
    (hlink : (image.getD 6 0).toNat ≠ s.otherBank) : ∃ u, t.imageData image = (0x08000020, u) ∧ Ev 0x200000804000040 s u ∧
      u.store.image = none ∧ u.get STORE_VERREF_V = leNat ((image.drop 8).take 4) := by
  let v : State := (t.modStore fun x => { x with image := some image }).put STORE_VERREF_V (leNat ((image.drop 8).take 4))
  have hv : Ev 0x200000804000040 s v := .put (.modStore h.ev) 25 (by decide)
  have hparked' : v.parked = false := by
    have hstat : v.get BEAR_STAT_PARK = t.get BEAR_STAT_PARK := State.get_put_ne _ _ (by decide)
    have ht := h.parked.trans hparked
    unfold State.parked at ht ⊢
    rwa [hstat]
  have hdrop := State.bankFree.srvStore_abandon (s := v) ⟨hparked', h.cmd⟩
  have hver : v.get STORE_VERREF_V = leNat ((image.drop 8).take 4) := by
    refine State.get_put_fits _ STORE_VERREF_V ?_ (by decide) (by decide)
    have hlt := leNat_lt ((image.drop 8).take 4)
    rwa [show ((image.drop 8).take 4).length = 4 by rw [List.length_take, List.length_drop]; omega] at hlt
  refine ⟨(v.srvStore 0xB).2.modStore fun x => { x with image := none }, ?_, .modStore (State.srvStore_ev hv), rfl, ?_⟩
  · unfold State.imageData
    rw [h.image]
    dsimp only
    rw [List.nil_append, if_pos]
    · unfold State.imageRefuse State.imageDrop
      rw [if_pos hlen]
      exact congrArg (Prod.mk 0x08000020) (if_pos rfl)
    · have hne : ((image.getD 6 0).toNat != t.otherBank) = true := bne_iff_ne.mpr (h.otherBank ▸ hlink)
      rw [hne, Bool.and_true, Bool.and_eq_true, decide_eq_true_eq, decide_eq_true_eq]
      exact ⟨by decide, by omega⟩
  · show (v.srvStore 0xB).2.get STORE_VERREF_V = _
    have hclear : Ev 0x4000000 (v.put STORE_STAT_LASTERR 0) (v.storeBusy 0xB).clearBankwr := State.clearBankwr_ev (v.storeBusy_ev 0xB)
    rw [hdrop, State.get_raise_ne _ (by decide) (by decide), State.get, hclear.reg_of_small _ (by decide), ← hver]
    exact v.get_put_ne 0 (by decide)

/-! ### The whole download (R533) -/

theorem State.loadEnd_eq {s t : State} {image : List Byte} (hopt : isOptReq image = false) (himage : s.store.image = none)
    (hstart : s.imageStart = (0, t)) :
    s.loadEnd image = if (t.imageData image).1 ≠ 0 then t.imageData image else (t.imageData image).2.imageEnd := by
  unfold State.loadEnd
  rw [hopt, himage, hstart]
  rfl

theorem State.loadEnd_whole {s : State} (hfree : s.bankFree) (himage : s.store.image = none) {image : List Byte}
    (hopt : isOptReq image = false) (hlen : image.length = 256) (hlink : (image.getD 6 0).toNat = s.otherBank) :
    ∃ u, (s.loadEnd image = (0, u) ∨ s.loadEnd image = (0x08000020, u)) ∧ Ev 0x200000804000040 s u ∧ u.store.image = none ∧
      u.store.cmd = none ∧ u.store.prog = true ∧ u.memBytes (bankBase s.otherBank) 256 = image := by
  obtain ⟨t, hstart, hloads, hones⟩ := State.imageStart_loads hfree
  obtain ⟨v, hdata, hloads', hbytes⟩ := hloads.imageData hones hlen hlink
  obtain ⟨u, hend, hev, hnone, hcmd, hprog, hkept⟩ := hloads'.imageEnd hfree.1 hlen
  rw [State.loadEnd_eq hopt himage hstart, hdata]
  exact ⟨u, hend, hev, hnone, hcmd, hprog, hkept.trans hbytes⟩

theorem State.loadEnd_otherBank {s : State} (hfree : s.bankFree) (himage : s.store.image = none) {image : List Byte}
    (hopt : isOptReq image = false) (hlen : 12 ≤ image.length) (hlink : (image.getD 6 0).toNat ≠ s.otherBank) :
    ∃ u, s.loadEnd image = (0x08000020, u) ∧ Ev 0x200000804000040 s u ∧ u.store.image = none ∧
      u.get STORE_VERREF_V = leNat ((image.drop 8).take 4) := by
  obtain ⟨t, hstart, hloads, -⟩ := State.imageStart_loads hfree
  obtain ⟨u, hdata, hev, hnone, hver⟩ := hloads.imageRefused hfree.1 hlen hlink
  refine ⟨u, ?_, hev, hnone, hver⟩
  rw [State.loadEnd_eq hopt himage hstart, hdata]
  exact if_pos (show (0x08000020 : Nat) ≠ 0 by decide)

end Sys2Proof.Machine
end

section
/-! PROOFS. The download of an image as a request of the server or of the boot ROM's image-load service (R119, R533). -/

set_option Elab.async false

namespace Sys2Proof.Machine

theorem State.allSafe_congr {s t : State} (h : t.axes = s.axes) (m : Nat) : t.allSafe m = s.allSafe m := by
  unfold State.allSafe
  simp only [State.isSafe_congr h]

/-- A write of 0x2C02 in a state whose axes are all in SAFE. -/
theorem State.imageWrite {s : State} (hsafe : s.allSafe 255 = true) (ch : Fin 2) (data : List Byte) :
    s.sdoWrite ch 0x2C02 0 data true = sdoDone ch 0x2C02 0 (s.loadEnd data) := by
  have hcheck : s.odCheck 0x2C02 0 true = 0 := rfl
  have hgate : s.odGate 0x2C02 0 0 = true := hsafe
  unfold State.sdoWrite
  rw [hcheck, hgate]
  rfl

theorem State.requested_allSafe (s : State) (ch : Fin 2) (m : Nat) : (s.requested ch).allSafe m = s.allSafe m :=
  State.allSafe_congr ((s.requested_ev ch).same .axes (by decide)) m

/-- The frame of an image download has been received, by the server or by the boot ROM. -/
theorem State.imageDownload_eq {s : State} {ch : Fin 2} (h : s.serves ch) (hsafe : s.allSafe 255 = true) :
    ∃ v, Ev 0x20000800000000 s v ∧ s.sameLink v ch ∧
      ∀ image, exec (.imageDownload ch image) s = .next (sdoDone ch 0x2C02 0 (v.loadEnd image)) := by
  cases hboot : s.sys.boot == .service
  · refine ⟨s.requested ch, s.requested_ev ch, s.requested_sameLink ch, fun image => ?_⟩
    have hserve : s.sdoServe ch 0x2C02 0 image true = sdoDone ch 0x2C02 0 ((s.requested ch).loadEnd image) := by
      rw [State.sdoServe_eq h, State.imageWrite ((s.requested_allSafe ch 255).trans hsafe)]
    show Host.Outcome.next (if s.sys.boot == .service then _ else s.sdoServe ch 0x2C02 0 image true) = _
    rw [hboot, hserve]
    rfl
  · refine ⟨s.received ch, s.received_ev ch, s.received_sameLink ch, fun image => ?_⟩
    obtain ⟨hup, hon, htx, -⟩ := h
    have hid : (s.received ch).hasId = true := (s.received_id ch).1.trans (State.canTx_hasId htx)
    show Host.Outcome.next (if s.sys.boot == .service then s.canRx ch fun s => if s.hasId then sdoDone ch 0x2C02 0 (s.loadEnd image) else s
      else _) = _
    rw [hboot, if_pos rfl, State.canRx_of_on hup hon, hid, if_pos rfl]

/-- What the unit needs for a bank stands as the frame is received. -/
theorem State.bankFree.received {s v : State} (h : s.bankFree) (hev : Ev 0x20000800000000 s v) : v.bankFree := by
  have hstat : v.get BEAR_STAT_PARK = s.get BEAR_STAT_PARK := congrArg (fieldOf · 26 24) (hev.reg 0 (a := BEAR_STAT) (by decide) (by decide))
  obtain ⟨hparked, hcmd⟩ := h
  refine ⟨?_, (congrArg Store.cmd (hev.same .store (by decide))).trans hcmd⟩
  unfold State.parked at hparked ⊢
  rwa [hstat]

theorem State.otherBank_received {s v : State} (hev : Ev 0x20000800000000 s v) : v.otherBank = s.otherBank :=
  congrArg (fun w => 1 - fieldOf w 1 1) (hev.reg 0 (a := BOOT_CTRL) (by decide) (by decide))

/-- An image download is answered, and only the memory, the store and its registers change with it. -/
theorem State.imageAnswered {s v u : State} {ch : Fin 2} (h : s.serves ch) (hlink : s.sameLink v ch) (hv : Ev 0x20000800000000 s v)
    (hu : Ev 0x200000804000040 v u) (code : Nat) : s.answered (sdoDone ch 0x2C02 0 (code, u)) ch (doneBytes 0x2C02 0 code) ∧
      Ev 0x20000800000004 u (sdoDone ch 0x2C02 0 (code, u)) ∧
      s.onlyChanges (sdoDone ch 0x2C02 0 (code, u)) [.wire, .mem, .srv, .store, .regs 3, .regs 21, .regs 25] := by
  have hdone : Ev 0x20000800000004 u (sdoDone ch 0x2C02 0 (code, u)) := sdoDone_ev (.refl _ _)
  exact ⟨(hlink.ev hu).answered (r := (code, u)) h.canTx _ _, hdone,
    Ev.onlyChanges (((hv.mono (by decide)).comp hu (by decide)).comp hdone (by decide))⟩

theorem State.imageDownloaded {s : State} {ch : Fin 2} (h : s.serves ch) (hsafe : s.allSafe 255 = true) (hfree : s.bankFree)
    (himage : s.store.image = none) {image : List Byte} (hopt : isOptReq image = false) (hlen : image.length = 256)
    (hlink : (image.getD 6 0).toNat = s.otherBank) : ∃ t, exec (.imageDownload ch image) s = .next t ∧
      t.memBytes (bankBase s.otherBank) 256 = image ∧ t.store.image = none ∧ t.store.cmd = none ∧ t.store.prog = true ∧
      (s.answered t ch (sdoHead 0x60 0x2C02 0 ++ leBytes 4 0) ∨ s.answered t ch (sdoHead 0x80 0x2C02 0 ++ leBytes 4 0x08000020)) ∧
      s.onlyChanges t [.wire, .mem, .srv, .store, .regs 3, .regs 21, .regs 25] := by
  obtain ⟨v, hv, hsame, hexec⟩ := State.imageDownload_eq h hsafe
  have hbank := State.otherBank_received hv
  obtain ⟨u, hcode, hu, hnone, hcmd, hprog, hbytes⟩ := State.loadEnd_whole (hfree.received hv)
    ((congrArg Store.image (hv.same .store (by decide))).trans himage) hopt hlen (hlink.trans hbank.symm)
  rw [hbank] at hbytes
  have hshown (code : Nat) := State.imageAnswered h hsame hv hu code
  have hkept {t : State} (hdone : Ev 0x20000800000004 u t) : t.memBytes (bankBase s.otherBank) 256 = image ∧ t.store.image = none ∧
      t.store.cmd = none ∧ t.store.prog = true := by
    have hstore : t.store = u.store := hdone.same .store (by decide)
    rw [State.memBytes_congr (hdone.same .mem (by decide)) (hdone.same .sys (by decide)) hstore, hstore]
    exact ⟨hbytes, hnone, hcmd, hprog⟩
  rw [hexec]
  obtain hcode | hcode := hcode
  · obtain ⟨hanswered, hdone, hframe⟩ := hshown 0
    obtain ⟨hm, hi, hc, hp⟩ := hkept hdone
    exact ⟨_, congrArg (fun r => Host.Outcome.next (sdoDone ch 0x2C02 0 r)) hcode, hm, hi, hc, hp, .inl hanswered, hframe⟩
  · obtain ⟨hanswered, hdone, hframe⟩ := hshown 0x08000020
    obtain ⟨hm, hi, hc, hp⟩ := hkept hdone
    exact ⟨_, congrArg (fun r => Host.Outcome.next (sdoDone ch 0x2C02 0 r)) hcode, hm, hi, hc, hp, .inr hanswered, hframe⟩

theorem State.imageNotTaken {s : State} {ch : Fin 2} (h : s.serves ch) (hsafe : s.allSafe 255 = true) (hfree : s.bankFree)
    (himage : s.store.image = none) {image : List Byte} (hopt : isOptReq image = false) (hlen : 12 ≤ image.length)
    (hlink : (image.getD 6 0).toNat ≠ s.otherBank) : ∃ t, exec (.imageDownload ch image) s = .next t ∧
      s.answered t ch (sdoHead 0x80 0x2C02 0 ++ leBytes 4 0x08000020) ∧ t.get STORE_VERREF_V = leNat ((image.drop 8).take 4) ∧
      t.store.image = none ∧ s.onlyChanges t [.wire, .mem, .srv, .store, .regs 3, .regs 21, .regs 25] := by
  obtain ⟨v, hv, hsame, hexec⟩ := State.imageDownload_eq h hsafe
  obtain ⟨u, hcode, hu, hnone, hver⟩ := State.loadEnd_otherBank (hfree.received hv)
    ((congrArg Store.image (hv.same .store (by decide))).trans himage) hopt hlen fun e => hlink (e.trans (State.otherBank_received hv))
  obtain ⟨hanswered, hdone, hframe⟩ := State.imageAnswered h hsame hv hu 0x08000020
  rw [hexec]
  refine ⟨_, congrArg (fun r => Host.Outcome.next (sdoDone ch 0x2C02 0 r)) hcode, hanswered, ?_, ?_, hframe⟩
  · exact (congrArg (fieldOf · 31 0) (hdone.reg 25 (a := STORE_VERREF) (by decide) (by decide))).trans hver
  · exact (congrArg Store.image (hdone.same .store (by decide))).trans hnone

end Sys2Proof.Machine
end

section
/-! PROOFS. An option request goes into the mailbox of the tag (R540, R541, R545). -/

set_option Elab.async false

namespace Sys2Proof.Machine

/-! ### Words of a request (R5) -/

theorem leBytes_leNat (l : List Byte) : leBytes l.length (leNat l) = l := by
  induction l with
  | nil => rfl
  | cons b t ih =>
    have hb := b.isLt
    have hbyte : BitVec.ofNat 8 (b.toNat + 256 * leNat t) = b := BitVec.eq_of_toNat_eq (by rw [BitVec.toNat_ofNat]; omega)
    rw [List.length_cons, leNat, leBytes, hbyte, show (b.toNat + 256 * leNat t) / 256 = leNat t by omega, ih]

theorem wordBytes_leWords {l : List Byte} (h : l.length % 4 = 0) : wordBytes (leWords l) = l := by
  induction l using leWords.induct with
  | case1 => rfl
  | case2 => cases h
  | case3 => cases h
  | case4 => cases h
  | case5 a b c d t ih =>
    have hword : (BitVec.ofNat 32 (leNat [a, b, c, d])).toNat = leNat [a, b, c, d] := by
      have hlt := leNat_lt [a, b, c, d]
      rw [BitVec.toNat_ofNat]
      exact Nat.mod_eq_of_lt (by simpa using hlt)
    have hbytes : leBytes 4 (leNat [a, b, c, d]) = [a, b, c, d] := leBytes_leNat [a, b, c, d]
    simp only [List.length_cons] at h
    have hrest : wordBytes (leWords t) = t := ih (by omega)
    rw [leWords, wordBytes, List.flatMap_cons, hword, hbytes]
    exact congrArg ([a, b, c, d] ++ ·) hrest

theorem length_leWords {l : List Byte} (h : l.length % 4 = 0) : (leWords l).length = l.length / 4 := by
  induction l using leWords.induct with
  | case1 => rfl
  | case2 => cases h
  | case3 => cases h
  | case4 => cases h
  | case5 a b c d t ih =>
    simp only [List.length_cons] at h ⊢
    rw [leWords, List.length_cons, ih (by omega)]
    omega

/-! ### Writes of the tag (R545) -/

/-- No session is open at the tag, and no access is held. -/
def State.tagFree (s : State) : Prop := s.tag.sess < 2 ∧ s.tag.wired = none

theorem State.tagFree.srvTag {s : State} (h : s.tagFree) {k : Nat} (hk : 1024 ≤ k ∧ k ≤ 3890) (w : Word) :
    s.srvTag k (some w) = (0, (s.setTagBlock k w).put TAG_STAT_RESULT 0) := by
  obtain ⟨hsess, hwired⟩ := h
  have haccess : s.tagAccess k (some w) = (s.setTagBlock k w).put TAG_STAT_RESULT 0 := by
    unfold State.tagAccess wiredWritable
    rw [decide_eq_true hk, if_neg (by simp), if_neg, if_neg (by omega)]
    · rfl
    · rw [hwired]
      rintro (h | h)
      · omega
      · exact absurd h (by decide)
  have hresult : ((s.setTagBlock k w).put TAG_STAT_RESULT 0).get TAG_STAT_RESULT = 0 :=
    State.get_put_fits _ _ (by decide) (by decide) (by decide)
  unfold State.srvTag
  rw [haccess]
  dsimp only
  rw [hresult]
  rfl

theorem State.tagBlock_set (s : State) (j k : Nat) (w : Word) :
    ((s.setTagBlock k w).put TAG_STAT_RESULT 0).tagBlock j = if j = k then w else s.tagBlock j := by
  show sparseGet 0 j (sparseSet 0 k w s.tag.blocks) = _
  split
  · next h => rw [h, sparseGet_set_same]
  · next h => exact sparseGet_set_ne _ _ h _ _

/-- Words that the tag takes stand in its blocks, the others as before. -/
theorem State.tagFree.srvTagPut {s : State} (h : s.tagFree) {k : Nat} {ws : List Word} (hk : 1024 ≤ k) (hlen : k + ws.length ≤ 3891) :
    ∃ t, srvTagPut k ws s = (true, t) ∧ t.tagFree ∧
      ∀ j, t.tagBlock j = if k ≤ j ∧ j < k + ws.length then ws.getD (j - k) 0 else s.tagBlock j := by
  induction ws generalizing s k with
  | nil =>
    refine ⟨s, rfl, h, fun j => (if_neg ?_).symm⟩
    rw [List.length_nil]
    omega
  | cons w ws ih =>
    rw [List.length_cons] at hlen
    have hfree : ((s.setTagBlock k w).put TAG_STAT_RESULT 0).tagFree := h
    obtain ⟨t, hput, ht, hblocks⟩ := ih hfree (k := k + 1) (by omega) (by omega)
    refine ⟨t, ?_, ht, fun j => ?_⟩
    · rw [Machine.srvTagPut, h.srvTag ⟨hk, by omega⟩]
      exact hput
    · rw [hblocks, State.tagBlock_set, List.length_cons]
      obtain hlt | rfl | hgt := Nat.lt_trichotomy j k
      · rw [if_neg (by omega), if_neg (by omega), if_neg (by omega)]
      · rw [if_neg (by omega), if_pos rfl, if_pos (by omega), Nat.sub_self]
        rfl
      · by_cases hin : j < k + 1 + ws.length
        · rw [if_pos (by omega), if_pos (by omega), show j - k = j - (k + 1) + 1 by omega, List.getD_cons_succ]
        · rw [if_neg (by omega), if_neg (by omega), if_neg (by omega)]

/-! ### The request (R540, R541) -/

theorem State.tagFree.optionPut {s : State} (h : s.tagFree) {data : List Byte} (hlen : data.length = 200) :
    ∃ t, s.optionPut data = (0, t) ∧ t.tagBlock 3840 = 0x4F505251 ∧ t.tagBytes 3841 50 = data ∧
      ∀ k : Fin 3840, t.tagBlock k = s.tagBlock k := by
  have hwords : (leWords data).length = 50 := by rw [length_leWords (by omega), hlen]
  obtain ⟨u, hbody, hu, hblocks⟩ := h.srvTagPut (k := 3841) (ws := leWords data) (by decide) (by omega)
  obtain ⟨t, hmark, -, hblocks'⟩ := hu.srvTagPut (k := 3840) (ws := [0x4F505251]) (by decide) (by decide)
  rw [hwords] at hblocks
  refine ⟨t, ?_, hblocks' 3840, ?_, fun k => ?_⟩
  · unfold State.optionPut
    rw [if_neg (by omega), hbody]
    dsimp only
    rw [hmark]
    rfl
  · have hread : (List.range 50).map (fun i => t.tagBlock (3841 + i)) = leWords data := by
      refine List.ext_getElem (by rw [List.length_map, List.length_range, hwords]) fun i hi hi' => ?_
      rw [List.getElem_map, List.getElem_range, hblocks', List.length_singleton, if_neg (by omega), hblocks, if_pos (by omega),
        Nat.add_sub_cancel_left, List.getD_eq_getElem _ _ hi']
    unfold State.tagBytes
    rw [hread, wordBytes_leWords (by omega)]
  · have hk := k.2
    rw [hblocks', List.length_singleton, if_neg (by omega), hblocks, if_neg (by omega)]

theorem State.optionTaken {s : State} {ch : Fin 2} (h : s.serves ch) (hsafe : s.allSafe 255 = true) {data : List Byte}
    (hopt : isOptReq data = true) (hlen : data.length = 200) (hfree : s.tagFree) :
    ∃ t, exec (.optionRequestDownload ch data) s = .next t ∧ s.answered t ch (sdoHead 0x60 0x2C02 0 ++ leBytes 4 0) ∧
      t.tagBlock 3840 = 0x4F505251 ∧ t.tagBytes 3841 50 = data ∧ (∀ k : Fin 3840, t.tagBlock k = s.tagBlock k) ∧
      s.onlyChanges t [.wire, .srv, .tag, .regs 3, .regs 21, .regs 23] := by
  have htag : (s.requested ch).tag = s.tag := (s.requested_ev ch).same .tag (by decide)
  have hfree' : (s.requested ch).tagFree := by
    unfold State.tagFree
    rwa [htag]
  obtain ⟨u, hput, hmark, hbytes, hrest⟩ := hfree'.optionPut hlen
  have hev : Ev 0x80000808000000 (s.requested ch) u := by
    have hsnd := State.optionPut_ev (m := 0x80000808000000) (data := data) (.refl _ (s.requested ch))
    rwa [hput] at hsnd
  have hdone : Ev 0x20000800000004 u (sdoDone ch 0x2C02 0 (0, u)) := sdoDone_ev (.refl _ _)
  have hexec : s.sdoServe ch 0x2C02 0 data true = sdoDone ch 0x2C02 0 (0, u) := by
    rw [State.sdoServe_eq h, State.imageWrite ((s.requested_allSafe ch 255).trans hsafe), State.loadEnd, if_pos hopt, hput]
  have hblock (k : Nat) : (sdoDone ch 0x2C02 0 (0, u)).tagBlock k = u.tagBlock k :=
    congrArg (fun x : Tag => sparseGet 0 k x.blocks) (hdone.same .tag (by decide))
  refine ⟨_, congrArg Host.Outcome.next hexec, ((s.requested_sameLink ch).ev hev).answered (r := (0, u)) h.canTx _ _, (hblock _).trans hmark,
    ?_, fun k => ?_, Ev.onlyChanges ((((s.requested_ev ch).mono (by decide)).comp hev (by decide)).comp hdone (by decide))⟩
  · unfold State.tagBytes at hbytes ⊢
    simp only [hblock]
    exact hbytes
  · exact (hblock k).trans ((hrest k).trans (congrArg (fun x : Tag => sparseGet 0 k.1 x.blocks) htag))

end Sys2Proof.Machine
end

section
/-! PROOFS. After BOOT_DONE no write of the server takes the unit out of its running program: the boot state stays (R120). -/

set_option Elab.async false

namespace Sys2Proof.Machine

/-! ### The boot state after BOOT_DONE -/

/-- The boot has ended with BOOT_DONE. -/
def State.booted (s : State) : Prop := s.sys.boot = .done

theorem State.booted.of_sys {s t : State} (h : s.booted) (hsys : t.sys = s.sys) : t.booted := (congrArg SysSt.boot hsys).trans h

/-- An operation on any part but the system state. -/
theorem State.booted.ev {s t : State} (h : s.booted) (hev : Ev 0xfffffffffffffeff s t) : t.booted := h.of_sys (hev.same .sys (by decide))

theorem State.booted.modSys {s : State} {f : SysSt → SysSt} (h : s.booted) (hf : ∀ y, (f y).boot = y.boot) : (s.modSys f).booted :=
  (hf s.sys).trans h

theorem State.booted.ite {s t : State} {c : Prop} [Decidable c] (hs : s.booted) (ht : t.booted) : (if c then s else t).booted := by
  split
  · exact hs
  · exact ht

/-! ### The supervisor (R37, R55 to R57, R381) -/

theorem State.booted.cut {s : State} (h : s.booted) : s.cut.booted := (congrArg SysSt.boot s.cut_sys).trans h

theorem State.booted.lockout {s : State} (h : s.booted) (c i : Nat) : (s.lockout c i).booted := by
  unfold State.lockout
  dsimp only
  split
  · exact h
  · split
    · exact ((h.cut.of_sys (State.modBg_sys _ _)).of_sys (State.claimRelease_sys _)).of_sys
        ((State.bgEmcy_sys _ _ _).trans (State.bgEvent_sys _ _))
    · exact (h.cut.of_sys (State.modBg_sys _ _)).of_sys (State.claimRelease_sys _)

theorem State.booted.put {s : State} (h : s.booted) (f : Fld) (v : Nat) : (s.put f v).booted := h
theorem State.booted.modRing {s : State} (h : s.booted) (f : Ring → Ring) : (s.modRing f).booted := h
theorem State.booted.modBg {s : State} (h : s.booted) (f : Badger → Badger) : (s.modBg f).booted := h

theorem State.booted.scsLoaded {s : State} (h : s.booted) (w : List Word) : (s.scsLoaded w).booted := by
  have hdrop : s.dropCand.booted := h.ev (State.dropCand_ev (.refl _ s))
  have hloaded := ((hdrop.modBg fun b => { b with loaded := some w }).put BG_SCS_STAT_LASTERR 0).put BG_SCS_STAT_LOADED 1
  unfold State.scsLoaded
  dsimp only
  refine .ite (hdrop.put _ _) (.ite ?_ (.ite ?_ ?_))
  · exact (hloaded.ev (State.putInForce_ev (.refl _ _))).put _ _
  · exact ((hloaded.modBg _).put _ _).put _ _
  · exact (hloaded.put _ _).lockout 11 0

theorem State.booted.scsComplete {s : State} (h : s.booted) : s.scsComplete.booted := by
  have hended := (h.put BG_SCS_STAT_BUSY 0).modBg fun b => { b with scsLoad := false, scsCommit := false }
  unfold State.scsComplete
  exact .ite h (.ite hended (.ite (hended.scsLoaded _) (.ite (hended.ev (State.scsCommitted_ev (.refl _ _))) hended)))

theorem State.booted.judgeLamps {s : State} (h : s.booted) : s.judgeLamps.booted := by
  unfold State.judgeLamps
  exact .ite (forN_induction h fun n t ht => .ite (ht.lockout 10 n) ht) h

theorem State.booted.resetSignal {s : State} (h : s.booted) : s.resetSignal.booted := by
  unfold State.resetSignal
  exact .ite h (h.cut.modBg _)

/-! ### Ports (R99, R209, R217, R464, R465) -/

theorem State.booted.cutFlight {s : State} (h : s.booted) (p : Fin 6) (bits : List Bool) : (s.cutFlight p bits).booted :=
  h.of_sys ((s.cutFlight_parts p bits).same .sys (by decide))

theorem State.booted.portCut {s : State} (h : s.booted) (p : Fin 6) : ((s.cutFlight p []).portOff p).booted :=
  (h.cutFlight p []).ev (State.portOff_ev (.refl _ _))

theorem State.booted.parkPort {s : State} (h : s.booted) (p : Fin 6) : (s.parkPort p).booted := by
  unfold State.parkPort
  exact .ite h (.ite h (h.portCut p))

theorem State.booted.parkRequest {s : State} (h : s.booted) : s.parkRequest.2.booted :=
  forFin_induction (h.ev (State.parkJudge_ev (.refl _ _))) fun p _ ht => ht.parkPort p

theorem State.booted.writeBearPark {s : State} (h : s.booted) (v : Nat) : (s.writeBearPark v).booted := by
  have hunpark : (if bitOf v 1 then s.unpark else s).booted := .ite (h.ev (State.unpark_ev (.refl _ _))) h
  exact .ite hunpark.parkRequest hunpark

theorem State.booted.portDisable {s : State} (h : s.booted) (p : Fin 6) : (s.portDisable p).booted := by
  unfold State.portDisable
  exact .ite h (.ite (h.ev (State.ctlRef_ev (.refl _ _))) (h.portCut p))

theorem State.booted.writeSpCtrl {s : State} (h : s.booted) (p : Fin 6) (v : Nat) : (s.writeSpCtrl p v).booted := by
  have hclear : (if bitOf v 4 then s.clrReent p else s).booted := .ite (h.ev (State.clrReent_ev (.refl _ _))) h
  have hhalt := State.booted.ite (c := bitOf v 3 = true) (hclear.ev (State.haltPort_ev (p := p) (cause := 4) (by_ := 0) (.refl _ _))) hclear
  have hresume := State.booted.ite (c := bitOf v 2 = true) (hhalt.ev (State.portResume_ev (p := p) (.refl _ _))) hhalt
  have hdisable := State.booted.ite (c := bitOf v 1 = true) (hresume.portDisable p) hresume
  exact .ite (hdisable.ev (State.portEnable_ev (.refl _ _))) hdisable

theorem State.booted.portWrite {s : State} (h : s.booted) (ten : Nat) (p : Fin 6) (a : Nat) (v : Word) : (s.portWrite ten p a v).booted := by
  have hplain (no : Word) : (s.plainWrite ten a v no).booted := h.ev (State.plainWrite_ev (.refl _ _))
  have href : (s.ctlRef p).booted := h.ev (State.ctlRef_ev (.refl _ _))
  unfold State.portWrite
  dsimp only
  split
  · exact h.ev (State.writeSpCfg_ev (.refl _ _))
  · exact .ite href (hplain 0)
  · exact .ite href (hplain 0)
  · exact .ite (hplain 15) (hplain 0)
  · exact h.writeSpCtrl p _
  · exact State.booted.ev (.ite (h.put _ _) h) (State.plainWrite_ev (.refl _ _))
  · exact h.ev (State.pushTq_ev (.refl _ _))
  · exact hplain 0

/-! ### Tenants and requests of system scope (R94, R97 to R99, R120) -/

theorem State.booted.dropSelects {s : State} (h : s.booted) (t : Nat) (got : List (List Bool)) : (s.dropSelects t got).booted := by
  refine forFin_induction h fun p u hu => .ite hu ?_
  refine State.booted.of_sys ?_ (State.modPort_sys _ _ _)
  split
  · exact .ite (hu.cutFlight p _) hu
  · exact hu

theorem State.booted.tenantReset {s : State} (h : s.booted) (t : Fin 8) (got : List (List Bool)) (restart : Bool) :
    (s.tenantReset t got restart).booted := by
  have hstart : ((((s.mark (.tenReset t)).dropEntries t).dmaAbandonOf t.1).dropSelects t.1 got).booted :=
    (h.ev (State.dmaAbandonOf_ev (State.dropEntries_ev (.mark (.refl _ _))))).dropSelects t.1 got
  have hdrop := hstart.ev (State.psetDrop_ev (t' := t.1) (State.dropRequests_ev (t' := t.1) (State.dropPending_ev (t' := t) (.refl _ _))))
  unfold State.tenantReset
  dsimp only
  refine State.booted.ev ?_ (State.settle_ev (State.modBank_ev (.setWaiting (.put (.refl _ _) 2 (by decide)))))
  split
  · exact .ite (hdrop.ev (State.txAbort_ev (.refl _ _))) hdrop
  · exact hdrop

theorem State.booted.writeTenRst {s : State} (h : s.booted) (v : Word) (got : List (List Bool)) : (s.writeTenRst v got).booted := by
  unfold State.writeTenRst
  exact .ite h (forFin_induction h fun t u hu => .ite (hu.tenantReset t got true) hu)

theorem State.booted.preStart {s : State} (h : s.booted) : s.preStart.booted := by
  have hhalt := forFin_induction (f := fun p t => t.haltPort p 6 0) h fun p t ht => ht.ev (State.haltPort_ev (.refl _ t))
  have hclaim := hhalt.resetSignal.of_sys (State.claimRelease_sys _)
  have hcores := forFin_induction (n := 4) (f := fun c t => t.modCore c fun x => { x with run := none }) hclaim
    fun c t ht => ht.ev (State.modCore_ev (.refl _ t))
  exact forFin_induction hcores fun a t ht => ht.ev (State.preDisable_ev (.refl _ t))

theorem State.booted.holdAnswer {s : State} {f : State → State} (h : (f s).booted) : (s.holdAnswer f).booted := h

theorem State.booted.preAnswer {s : State} (h : s.booted) : s.preAnswer.booted := by
  have hdrop : (((s.dropSdoReplies 0).dropSdoReplies 1).dropRingReplies).booted :=
    h.ev (State.dropRingReplies_ev (State.dropSdoReplies_ev (State.dropSdoReplies_ev (.refl _ _))))
  unfold State.preAnswer
  dsimp only
  refine State.booted.modRing (List.foldlRecOn (motive := State.booted) _ _ (forFin_induction hdrop fun ch t ht => ?_)
    fun t ht q _ => State.booted.holdAnswer (ht.ev (State.sysAnswer_ev (.refl _ t)))) _
  have hheld (i j : Nat) := State.booted.holdAnswer (s := t) (f := fun u => u.sdoAbort ch i j 0x08000020) (ht.ev (State.sdoAbort_ev (.refl _ t)))
  split
  · exact (hheld _ _).ev (State.sdoClear_ev (.refl _ _))
  · exact ht

theorem State.booted.sysRequest {s : State} (h : s.booted) (src : RstSource) (first : List (Bool × List Msg)) :
    (s.sysRequest src first).booted := by
  have hflag : (s.rstFlag src).booted := h.ev (State.rstFlag_ev (.refl _ s))
  unfold State.sysRequest
  split
  · have hdma := forFin_induction (f := fun c t => if t.get (DMA_STAT_STATE c) = 1 then t.dmaAbandon c else t) hflag.preStart
      fun c t ht => .ite (ht.ev (State.dmaAbandon_ev (.refl _ t))) ht
    exact State.booted.modSys (State.booted.preAnswer (hdma.modSys fun _ => rfl)) fun _ => rfl
  · exact hflag.modSys fun _ => rfl
  · exact h

theorem State.booted.writeSysRst {s : State} (h : s.booted) (v : Word) : (s.writeSysRst v).booted :=
  .ite (h.sysRequest .software []) h

theorem State.booted.writeWdtKick {s : State} (h : s.booted) (v : Word) : (s.writeWdtKick v).booted := by
  unfold State.writeWdtKick
  exact .ite h (.ite (h.modSys fun _ => rfl) (h.sysRequest .watchdog []))

/-- The write that sets BOOT_DONE ends the boot (R120). -/
theorem State.bootDoneSet_booted {s : State} (hdone : s.bootDone = false) (hstopped : bitOf (s.get TWU_KILL_STOPPED) 0 = false) :
    s.bootDoneSet.booted := by
  unfold State.bootDoneSet
  rw [hdone, hstopped, if_neg (by decide)]
  refine forFin_induction (P := State.booted) (forFin_induction (P := State.booted) rfl fun t u hu => .ite ?_ hu) fun c u hu => ?_
  · exact hu.ev (State.modBank_ev (.refl _ u))
  · exact hu.ev (State.settle_ev (State.modCore_ev (.refl _ u)))

theorem State.booted.bootDoneSet {s : State} (h : s.booted) : s.bootDoneSet.booted := by
  cases hdone : s.bootDone
  · cases hstopped : bitOf (s.get TWU_KILL_STOPPED) 0
    · exact State.bootDoneSet_booted hdone hstopped
    · unfold State.bootDoneSet
      rwa [hstopped, Bool.or_true, if_pos rfl]
  · unfold State.bootDoneSet
    rwa [hdone, Bool.true_or, if_pos rfl]

/-! ### Writes of registers (R6) -/

theorem State.booted.sysWrite {s : State} (h : s.booted) (ten a : Nat) (v : Word) : (s.sysWrite ten a v).booted := by
  unfold State.sysWrite
  exact .ite (.ite h.bootDoneSet h) (.ite (h.writeWdtKick v) (.ite (h.writeSysRst v) (.ite (h.writeTenRst v [])
    (.ite (h.ev (State.writePortRst_ev (.refl _ _))) (.ite (h.writeBearPark _) (.ite (.ite (h.ev (State.lampTest_ev (.refl _ _))) h)
      (h.ev (State.plainWrite_ev (.refl _ _)))))))))

theorem State.booted.lampSettle {s : State} (h : s.booted) (n : Fin 8) : (s.lampSettle n).booted := by
  have hrest : ((s.put (LAMP_STAT_DARK n) 0).modLamp n fun l => { l with low := 0, good := 0 }).booted := h
  exact State.booted.judgeLamps ((State.booted.ite h hrest).ev (State.inhibits_ev (.refl _ _)))

theorem State.booted.lampWrite {s : State} (h : s.booted) (ten : Nat) (n : Fin 8) (a : Nat) (v : Word) : (s.lampWrite ten n a v).booted := by
  have hplain : (s.plainWrite ten a v 0).booted := h.ev (State.plainWrite_ev (.refl _ _))
  have href : s.lioRef.booted := h.ev (State.lioRef_ev (.refl _ _))
  unfold State.lampWrite
  split
  · exact (h.ev (State.lampLit_ev (State.lioSafe_ev (.refl _ _)))).lampSettle n
  · exact .ite href (hplain.ev (State.lampLit_ev (.refl _ _)))
  · exact .ite hplain href
  · have hclear : (if bitOf v.toNat 0 then s.lampClrCnt n else s).booted := .ite (h.ev (State.lampClrCnt_ev (.refl _ _))) h
    exact .ite (hclear.ev (State.lampRetry_ev (.refl _ _))) hclear
  · exact hplain

end Sys2Proof.Machine
end

section
/-! PROOFS. After BOOT_DONE no write of the register bus and no write of an entry takes the unit out of its running program (R120, R506). -/

set_option Elab.async false

namespace Sys2Proof.Machine

/-! ### The bus (R6) -/

theorem State.booted.lioWrite {s : State} (h : s.booted) (ten a : Nat) (v : Word) : (s.lioWrite ten a v).booted := by
  have hplain : (s.plainWrite ten a v 0).booted := h.ev (State.plainWrite_ev (.refl _ _))
  have hsafe (l : List Nat) (fits : Bool) : (s.lioSafe ten a v l fits).booted := h.ev (State.lioSafe_ev (.refl _ _))
  unfold State.lioWrite
  dsimp only
  split
  · exact h.lampWrite ten _ a v
  · split
    · split
      · exact (hsafe _ _).of_sys (State.brakes_sys _)
      · exact hsafe _ _
      · exact hplain
    · split
      · exact h.ev (State.winchWrite_ev (.refl _ _))
      · exact .ite (hsafe _ _) (.ite (.ite (hsafe _ _) (hsafe _ _)) (.ite (h.ev (State.writeGpo_ev (.refl _ _)))
          (.ite (.ite (h.ev (State.lioRef_ev (.refl _ _))) hplain) hplain)))

theorem State.booted.blockWrite {s : State} (h : s.booted) (ten port a : Nat) (v : Word) : (s.blockWrite ten port a v).booted := by
  unfold State.blockWrite
  dsimp only
  split
  · exact h.sysWrite ten a v
  · exact h.ev (State.safeWrite_ev (.refl _ _))
  · exact h.ev (State.evtWrite_ev (.refl _ _))
  · split
    · exact .ite h (.ite (h.ev (State.dmaWrite_ev (.refl _ _))) (h.ev (State.dmaForeign_ev (.refl _ _))))
    · exact h
  · split
    · exact h.portWrite ten _ a v
    · exact h
  · split
    · exact h.ev (State.axisWrite_ev (.refl _ _))
    · exact h
  · exact h.ev (State.modWrite_ev (.refl _ _))
  · exact h.ev (State.fbWrite_ev (.refl _ _))
  · exact .ite (h.ev (State.low64Write_ev (.refl _ _))) (.ite (h.ev (State.high64Write_ev (.refl _ _))) (h.ev (State.ringWrite_ev (.refl _ _))))
  · split
    · exact h.ev (State.canWrite_ev (.refl _ _))
    · exact h
  · exact h.ev (State.pdoWrite_ev (.refl _ _))
  · exact h.ev (State.tagWrite_ev (.refl _ _))
  · exact h.lioWrite ten a v
  · exact h.ev (State.storeWrite_ev (.refl _ _))
  · exact h.ev (State.cpWrite_ev (.refl _ _))
  · exact h

theorem State.booted.regWrite {s : State} (h : s.booted) (ten port a : Nat) (v : Word) : (s.regWrite ten port a v).booted := by
  unfold State.regWrite
  exact .ite h (.ite (h.ev (State.twuWrite_ev (.refl _ _)))
    (.ite (State.booted.blockWrite (h.ev (State.protCount_ev (.refl _ _))) ten port a v) (h.blockWrite ten port a v)))

/-! ### Entries (R506) -/

theorem State.booted.odField {s : State} (h : s.booted) (a sh n v : Nat) : (s.odField a sh n v).2.booted := h.regWrite _ _ _ _

theorem State.booted.odHalf {s : State} (h : s.booted) (base : Nat) (high : Bool) (v : Nat) : (s.odHalf base high v).2.booted :=
  (h.regWrite _ _ _ _).regWrite _ _ _ _

theorem State.booted.odWords {s : State} (h : s.booted) (l : List Nat) (v : Nat) : (s.odWords l v).2.booted :=
  List.foldlRecOn (motive := State.booted) _ _ h fun _ ht _ _ => ht.regWrite _ _ _ _

theorem State.booted.odComPut {s : State} (h : s.booted) (tx : Bool) (n : Fin 16) (sub v : Nat) : (s.odComPut tx n sub v).2.booted := by
  unfold State.odComPut
  dsimp only
  split
  · exact h.ev (State.pdoCobWrite_ev (.refl _ _))
  · exact h.odField _ _ _ _
  · exact h.odField _ _ _ _
  · exact h.odField _ _ _ _

theorem State.booted.odCiaPut {s : State} (h : s.booted) (a : Fin 8) (o v : Nat) : (s.odCiaPut a o v).2.booted := by
  have hfresh : (s.modAxis a fun x => { x with refusedNow := false }).booted := h
  unfold State.odCiaPut
  dsimp only
  split
  · exact hfresh.regWrite _ _ _ _
  · exact hfresh.regWrite _ _ _ _
  · exact h.odField _ _ _ _
  · exact h.odField _ _ _ _
  · exact h
  · exact h
  · exact h.odField _ _ _ _
  · exact h.odField _ _ _ _
  · exact h.odField _ _ _ _
  · exact h.odField _ _ _ _
  · exact h.odField _ _ _ _
  · exact h.odField _ _ _ _
  · exact h.odField _ _ _ _
  · exact h.odField _ _ _ _
  · exact h.odField _ _ _ _
  · exact h.ev (State.setObj_ev (.refl _ _))

theorem State.booted.odVendorPut {s : State} (h : s.booted) (idx sub v : Nat) : (s.odVendorPut idx sub v).2.booted := by
  unfold State.odVendorPut
  dsimp only
  split
  · exact h.regWrite _ _ _ _
  · split
    · exact h.ev (State.scsCommand_ev (.refl _ _))
    · exact State.booted.scsComplete (h.ev (State.scsCommand_ev (.refl _ _)))
  · split
    · exact h.odField _ _ _ _
    · exact h.odHalf _ _ _
    · exact h.odHalf _ _ _
    · exact h.odHalf _ _ _
    · exact h.odHalf _ _ _
  · exact h.ev (State.handoverAsk_ev (.refl _ _))
  · split
    · exact h.parkRequest
    · exact h.ev (State.unpark_ev (.refl _ _))
  · exact h.ev (State.setObj_ev (.refl _ _))
  · split
    · exact h
    · exact h.odField _ _ _ _
  · exact h

theorem State.booted.odPut {s : State} (h : s.booted) (idx sub v : Nat) (ok : Bool) : (s.odPut idx sub v ok).2.booted := by
  unfold State.odPut
  split
  · exact h.odCiaPut _ _ _
  · split
    · exact h.odComPut _ _ _ _
    · exact h.ev (State.odMap_ev (.refl _ _))
    · split
      · exact h.ev (State.odTension_ev (.refl _ _))
      · split
        · exact h
        · exact h.odField _ _ _ _
        · exact h.ev (State.saveObjects_ev (.refl _ _))
        · exact h.ev (State.restoreObjects_ev (.refl _ _))
        · exact h.ev (State.setObj_ev (.refl _ _))
        · exact h.ev (State.setObj_ev (.refl _ _))
        · exact State.booted.ev (t := s.putComm 0x1016 sub v) h (State.putComm_ev (.refl _ _))
        · exact h.odField _ _ _ _
        · exact h.ev (State.setObj_ev (.refl _ _))
        · split
          · exact h.odVendorPut _ _ _
          · split
            · exact h.odField _ _ _ _
            · exact h.odWords _ _
            · exact h

end Sys2Proof.Machine
end

section
/-! PROOFS. BOOT_DONE by tenant 0: the tenants start, and the server comes up (R120, R135, R145, R482, R580). -/

set_option Elab.async false

namespace Sys2Proof.Machine

/-! ### The write of BOOT_DONE (R120, R145) -/

/-- The node ID stays as DMA channels stop and events are discarded. -/
theorem State.dmaAbandon_node (s : State) (c : Fin 32) : (s.dmaAbandon c).reg NODE = s.reg NODE := by
  have hblock : DMA_STAT c / 65536 % 32 = 4 ∧ DMA_FAULT_INFO c / 65536 % 32 = 4 ∧ DMA_FLAGS c / 65536 % 32 = 4 := by
    revert c; decide
  obtain ⟨hstat, hinfo, hflags⟩ := hblock
  have hcounted {t : State} (ht : Ev 0x1001000000 s t) : t.abandoned.reg NODE = s.reg NODE :=
    (State.reg_put_ne _ _ (by decide)).trans (ht.reg 0 (by decide) (by decide))
  unfold State.dmaAbandon
  extract_lets s1 u
  have hu : Ev 0x1001000000 s u := Ev.ite (fun _ => .put (.mark (.refl _ s)) 4 hstat) fun _ => .mark (.refl _ s)
  split
  · exact hu.reg 0 (by decide) (by decide)
  · exact hcounted (State.dmaStop_ev hu)
  · split
    · exact hu.reg 0 (by decide) (by decide)
    · exact hcounted (.modPr (.put (.put (.put hu 4 hinfo) 4 hstat) 4 hflags))

theorem State.dmaAbandonOf_node (s : State) (t : Nat) : (s.dmaAbandonOf t).reg NODE = s.reg NODE := by
  refine forFin_induction (P := fun u => u.reg NODE = s.reg NODE) rfl fun c u hu => ?_
  split
  · exact (u.dmaAbandon_node c).trans hu
  · exact hu

theorem State.dropPending_node (s : State) (t : Fin 8) : (s.dropPending t).reg NODE = s.reg NODE := by
  refine List.foldlRecOn (motive := fun u : State => u.reg NODE = s.reg NODE) _ _ rfl fun u hu e _ => ?_
  have hput : (u.put (EVT_CTL_PEND e) 0).reg NODE = u.reg NODE :=
    State.reg_put_ne _ _ (by simp only [NODE, EVT_CTL_PEND, EVT_CTL]; omega)
  exact ((State.reg_put_ne _ _ (by decide)).trans hput).trans hu

theorem State.dropEntries_node (s : State) (t : Fin 8) : (s.dropEntries t).reg NODE = s.reg NODE := by
  refine forFin_induction (P := fun u => u.reg NODE = s.reg NODE) rfl fun c u hu => ?_
  refine List.foldlRecOn (motive := fun w : State => w.reg NODE = s.reg NODE) _ _ hu fun w hw e _ => ?_
  exact (State.reg_put_ne _ _ (by simp only [NODE, EVT_CTL_ACTIVE, EVT_CTL]; omega)).trans hw

/-- The unit with BOOT_DONE set, before the tenants start. -/
def State.bootEnded (s : State) : State :=
  ((((((s.dmaAbandonOf 0).dropPending 0).dropEntries 0).put BOOT_CTRL_BOOT_DONE 1).modSys fun y =>
    { y with boot := .done, wdtFrom := s.clk })).setWaiting 0

/-- The enabled tenants start afresh, and every core takes one of them. -/
def State.tenantsStart (s : State) (clk : Nat) : State :=
  forFin 4 (fun c u => (u.modCore c fun x => { x with run := none, back := none, stack := [], instret := if c = 0 then x.instret else 0
                                                      issued := if c = 0 then x.issued else false
                                                      from_ := if c = 0 then x.from_ else clk }).settle c)
    (forFin 8 (fun t u => if t != 0 && u.get (TEN_CORE_EN t) == 1 then u.modBank t fun _ => s.freshBank t else u) s)

theorem State.bootDoneSet_eq {s : State} (hdone : s.bootDone = false) (hstopped : bitOf (s.get TWU_KILL_STOPPED) 0 = false) :
    s.bootDoneSet = s.bootEnded.tenantsStart s.clk := by
  unfold State.bootDoneSet
  rw [hdone, hstopped]
  rfl

theorem State.bootEnded_of_put (s : State) :
    Ev 0x2100 ((((s.dmaAbandonOf 0).dropPending 0).dropEntries 0).put BOOT_CTRL_BOOT_DONE 1) s.bootEnded := by
  unfold State.bootEnded
  exact .setWaiting (.modSys (.refl _ _))

theorem State.bootEnded_ev (s : State) : Ev 0xffffffff01002100 s s.bootEnded := by
  have hput : Ev 0xffffffff01000000 s ((((s.dmaAbandonOf 0).dropPending 0).dropEntries 0).put BOOT_CTRL_BOOT_DONE 1) :=
    .put (State.dropEntries_ev (State.dropPending_ev (State.dmaAbandonOf_ev (.refl _ s)))) 0 (by decide)
  exact (hput.mono (by decide)).comp s.bootEnded_of_put (by decide)

theorem State.bootEnded_node (s : State) : s.bootEnded.reg NODE = s.reg NODE :=
  (s.bootEnded_of_put.reg_of_small NODE (by decide)).trans ((State.reg_put_ne _ _ (by decide)).trans
    (((State.dropEntries_node _ _).trans (State.dropPending_node _ _)).trans (s.dmaAbandonOf_node 0)))

theorem State.bootEnded_done (s : State) : s.bootEnded.get BOOT_CTRL_BOOT_DONE = 1 := by
  unfold State.get
  rw [s.bootEnded_of_put.reg_of_small _ (by decide)]
  exact State.get_put_fits _ BOOT_CTRL_BOOT_DONE (by decide) (by decide) (by decide)

theorem State.tenantsStart_ev (s : State) (clk : Nat) : Ev 0x1000000 s (s.tenantsStart clk) :=
  .forFin (.forFin (.refl _ s) fun t u => .ite (fun _ => State.modBank_ev (.refl _ u)) fun _ => .refl _ u)
    fun c u => State.settle_ev (State.modCore_ev (.refl _ u))

/-! ### The level stacks (R134, R135) -/

theorem CoreSt.activate_stack (x : CoreSt) (t : Fin 8) : (x.activate t).stack = x.stack := rfl

theorem State.modCore_stack (s : State) (c d : Fin 4) (f : CoreSt → CoreSt) :
    (s.modCore c f).pr.cores[d].stack = if c = d then (f s.pr.cores[c]).stack else s.pr.cores[d].stack := by
  show (upd s.pr.cores c f)[d].stack = _
  rw [upd_get]
  split <;> rfl

/-- What a core takes leaves the stacks. -/
theorem State.settle_stack (s : State) (c d : Fin 4) : (s.settle c).pr.cores[d].stack = s.pr.cores[d].stack := by
  unfold State.settle
  rw [State.modCore_stack]
  split
  next h =>
    subst h
    split
    · exact CoreSt.activate_stack _ _
    · split
      · split
        · exact CoreSt.activate_stack _ _
        · split <;> rfl
      · split <;> rfl
  next => rfl

theorem State.tenantsStart_stack (s : State) (clk : Nat) (c : Fin 4) : (s.tenantsStart clk).pr.cores[c].stack = [] := by
  refine forFin_reaches (P := fun _ => True) (Q := fun t => t.pr.cores[c].stack = []) c trivial (fun _ _ _ => trivial) (fun t _ => ?_)
    fun j t _ ht => ?_
  · rw [State.settle_stack, State.modCore_stack, if_pos rfl]
  · rw [State.settle_stack, State.modCore_stack]
    split
    · rfl
    · exact ht

/-! ### The server starts (R482, R505) -/

/-- A tension group that is committed writes its control register and strobes its event. -/
theorem State.psetCommit_tension_ev (s : State) (a : Fin 8) (ten : Nat) : Ev 0x1000008000e0000 s (s.psetCommit .tension a ten) := by
  have hblock : PGroup.tension.ctl a / 65536 % 32 = 24 := by
    revert a; decide
  unfold State.psetCommit
  refine .ite (fun _ => .refl _ s) fun _ => .ite (fun _ => ?_) fun _ => ?_
  · exact .strobe (.put (.refl _ s) 24 hblock)
  · exact .strobe (.put (.put (State.setPset_ev (.refl _ s)) 24 hblock) 24 hblock)

/-- The tension groups that the server has staged are committed. -/
def State.tensionsCommitted (s : State) : State :=
  forFin 8 (fun a t => if t.flag (psDirty (PGroup.tension.ctl a)) then t.psetCommit .tension a 2 else t) s

theorem State.tensionsCommitted_ev (s : State) : Ev 0x1000008000e0000 s s.tensionsCommitted :=
  .forFin (.refl _ s) fun a t => .ite (fun _ => t.psetCommit_tension_ev a 2) fun _ => .refl _ t

/-- The server writes its saved entries. -/
def State.entriesLoaded (s : State) : State :=
  (s.srv.saved.filter fun e => !commObj (e.1 / 256)).foldl (fun t e => (t.odPut (e.1 / 256) (e.1 % 256) e.2 true).2) s

theorem State.serverStart_eq (s : State) : s.serverStart = s.entriesLoaded.tensionsCommitted.loadComm.bootUp := rfl

theorem State.comesUp_ev (s : State) : Ev 0x1600008000e4006 s s.tensionsCommitted.loadComm.bootUp :=
  State.bootUp_ev (((s.tensionsCommitted_ev.mono (by decide)).comp (State.loadComm_loads _).ev (by decide)))

theorem State.booted.serverStart {s : State} (h : s.booted) : s.serverStart.booted := by
  have hloaded : s.entriesLoaded.booted := List.foldlRecOn (motive := State.booted) _ _ h fun _ ht _ _ => ht.odPut _ _ _ _
  rw [s.serverStart_eq]
  exact hloaded.ev (s.entriesLoaded.comesUp_ev.mono (by decide))

/-! ### The command (R120, R482, R580) -/

theorem execBootDoneSet_eq {s : State} (hup : s.up = true) (hdone : s.bootDone = false) (hboot : s.sys.boot = .rom) :
    exec .bootDoneSet s = .next (if bitOf (s.get TWU_KILL_STOPPED) 0 then s else s.bootDoneSet.serverStart) := by
  show Host.Outcome.next (s.whenUp _) = _
  rw [State.whenUp_of_up hup, hdone, hboot]
  rfl

/-- Parts that BOOT_DONE and the start of the server may change. -/
def bootParts : List Part := Part.withRegs [.freeCtr, .wire, .pend64, .sys, .bg, .axes, .ports, .waiting, .srv, .cp, .eng, .gain, .route,
  .tension, .lio, .fb, .ring, .pr, .bear, .store, .tag]

theorem State.bootDone_started {s : State} (hup : s.up = true) (hdone : s.bootDone = false) (hboot : s.sys.boot = .rom)
    (hstopped : bitOf (s.get TWU_KILL_STOPPED) 0 = false) : exec .bootDoneSet s = .next s.bootDoneSet.serverStart ∧
      s.bootDoneSet.serverStart.sys.boot = .done ∧ s.onlyChanges s.bootDoneSet.serverStart bootParts := by
  have hexec := execBootDoneSet_eq hup hdone hboot
  rw [hstopped, if_neg Bool.false_ne_true] at hexec
  exact ⟨hexec, (State.bootDoneSet_booted hdone hstopped).serverStart, onlyChanges_of_keeps (execBootDoneSet_keeps s) hexec (by decide)⟩

/-- With nothing saved the server comes up at once. -/
theorem State.bootDone_bare {s : State} (hdone : s.bootDone = false) (hstopped : bitOf (s.get TWU_KILL_STOPPED) 0 = false)
    (hsaved : s.srv.saved = []) {t : State} (ht : t = s.bootDoneSet.serverStart) : t.bootDone = true ∧ (s.hasId = true → t.nmt = 1 ∨ t.nmt = 2) ∧
      t.waiting = 0 ∧ ∀ c : Fin 4, t.pr.cores[c].stack = [] := by
  have hboot : Ev 0x1000000 s.bootEnded s.bootDoneSet := State.bootDoneSet_eq hdone hstopped ▸ State.tenantsStart_ev _ _
  have hfile : s.bootEnded.srv.saved = s.srv.saved := congrArg Srv.saved (s.bootEnded_ev.same .srv (by decide))
  have hnone : s.bootDoneSet.entriesLoaded = s.bootDoneSet := by
    unfold State.entriesLoaded
    rw [hboot.same .srv (by decide), hfile, hsaved]
    rfl
  have hup := s.bootDoneSet.comesUp_ev
  rw [State.serverStart_eq, hnone] at ht
  subst ht
  refine ⟨?_, fun hid => ?_, ?_, fun c => ?_⟩
  · have hkept : (s.bootDoneSet.tensionsCommitted.loadComm.bootUp).reg BOOT_CTRL = s.bootEnded.reg BOOT_CTRL :=
      (hup.reg 0 (by decide) (by decide)).trans (hboot.reg 0 (by decide) (by decide))
    exact State.flag_eq_true ((congrArg (fieldOf · 0 0) hkept).trans s.bootEnded_done)
  · have hloads := (State.loadComm_loads s.bootDoneSet.tensionsCommitted).ev
    refine State.bootUp_nmt ((State.hasId_congr ?_).trans hid)
    exact (hloads.reg 0 (by decide) (by decide)).trans ((s.bootDoneSet.tensionsCommitted_ev.reg 0 (by decide) (by decide)).trans
      ((hboot.reg 0 (by decide) (by decide)).trans s.bootEnded_node))
  · exact (hup.same .waiting (by decide)).trans (hboot.same .waiting (by decide))
  · rw [show (s.bootDoneSet.tensionsCommitted.loadComm.bootUp).pr = s.bootDoneSet.pr from hup.same .pr (by decide),
      State.bootDoneSet_eq hdone hstopped]
    exact State.tenantsStart_stack _ _ c

end Sys2Proof.Machine
end

section
/-! PROOFS. The objects of the server, assembled (R120, R482, R500, R508, R533, R540, R541). -/

set_option Elab.async false

namespace Sys2Proof.Machine

/-- The answer is the last message on the lines. -/
theorem State.answered.head {s t : State} {ch : Fin 2} {b : List Byte} (h : s.answered t ch b) :
    t.wire.head? = some ⟨.can ch, [0x580 + s.nodeId, b2n (s.flag (CAN_CFG_FD ch))], b⟩ :=
  congrArg List.head? h

/-- Settles O49: a served request is one received frame, one write of the dictionary and one answer, so each clause is the write it
makes — a commit of the store, the programming of a bank, the blocks of the mailbox — in the state in which the request has been received;
BOOT_DONE ends the boot, which no entry that the server then loads undoes. -/
theorem serverObjects : Obligations.ServerObjects := by
  intro s ch
  refine ⟨?_, ?_, ?_, ?_, ?_, ?_, ?_, ?_, ?_, ?_, ?_, ?_⟩
  · rintro v hserves rfl
    exact State.history_cleared hserves
  · exact fun v hserves hv => State.history_kept hserves hv
  · rintro sub v good hserves hlo hhi hparked hcmd hready hholder hconfirmed rfl rfl
    exact State.saved hserves hlo hhi hparked hcmd hready hholder hconfirmed
  · exact fun sub v good hserves hlo hhi hv => State.notSaved hserves hlo hhi hv good
  · rintro sub v good hserves hlo hhi hparked hcmd hready hholder hconfirmed rfl rfl
    exact State.restored hserves hlo hhi hparked hcmd hready hholder hconfirmed
  · rintro sub v good hserves hlo hhi rfl hparked
    exact State.notRestored hserves hlo hhi hparked good
  · intro image hserves hsafe hparked hcmd himage hopt hlen hlink
    obtain ⟨t, hexec, hbytes, hnone, hidle, hprog, hanswered, hframe⟩ :=
      State.imageDownloaded hserves hsafe ⟨hparked, hcmd⟩ himage hopt hlen hlink
    exact ⟨t, hexec, hbytes, hnone, hidle, hprog, hanswered.imp State.answered.head State.answered.head, hframe⟩
  · exact fun image hserves hsafe hparked hcmd himage hopt hlen hlink =>
      State.imageNotTaken hserves hsafe ⟨hparked, hcmd⟩ himage hopt hlen hlink
  · exact fun data hserves hsafe hopt hlen hsess hwired _ => State.optionTaken hserves hsafe hopt hlen ⟨hsess, hwired⟩
  · exact fun hup hdone hboot hstopped => ⟨_, State.bootDone_started hup hdone hboot hstopped⟩
  · intro hup hdone hboot hstopped
    rw [execBootDoneSet_eq hup hdone hboot, hstopped, if_pos rfl]
  · intro hup hdone hboot hstopped hsaved
    obtain ⟨hexec, hend, hframe⟩ := State.bootDone_started hup hdone hboot hstopped
    obtain ⟨hset, hnmt, hwaiting, hstacks⟩ := State.bootDone_bare hdone hstopped hsaved rfl
    exact ⟨_, hexec, hset, hend, hnmt, hwaiting, hstacks, hframe⟩

end Sys2Proof.Machine
end

section
/-! PROOFS. Accesses of the running tenant of a core, and the floating-point load that is illegal while mstatus.FS is Off (R123). -/

namespace Sys2Proof.Machine

/-- A command of a core acts for the tenant that runs on it. -/
theorem State.byCore_of_runs {s : State} {c : Fin 4} {x : Fin 8} (h : s.runs c x) (f : Fin 8 → State → State) : s.byCore c f = f x s := by
  obtain ⟨hup, hcore, hrun⟩ := h
  unfold State.byCore
  rw [State.whenUp_of_up hup, if_neg (Nat.not_le.mpr hcore), hrun]

/-- R123: a floating-point load is an illegal instruction while FS is Off. -/
theorem execLoad_of_float_off {s : State} {c : Fin 4} {x : Fin 8} (h : s.runs c x) (hoff : fieldOf s.pr.banks[x].mstatus 14 13 = 0)
    (addr : Word) (size : Fin 3) (sgnd : Bool) (rd : Fin 32) : exec (.load c addr size sgnd true rd) s = .next (s.illegal c) := by
  refine congrArg Host.Outcome.next ((State.byCore_of_runs h _).trans (if_pos ?_))
  rw [hoff]
  rfl

/-- An exception that is delivered draws no free value. -/
theorem State.trap_freeCtr {s : State} {c : Fin 4} {x : Fin 8} (hrun : s.pr.cores[c].run = some x) (hexc : s.pr.banks[x].exc < 15)
    (cause tval : Word) : (s.trap c cause tval).freeCtr = s.freeCtr := by
  unfold State.trap
  rw [hrun]
  dsimp only
  rw [if_neg (Nat.not_le.mpr hexc)]
  rfl

/-- What mtval holds after an illegal instruction is drawn (log entry 4). -/
theorem State.illegal_freeCtr {s : State} {c : Fin 4} {x : Fin 8} (hrun : s.pr.cores[c].run = some x) (hexc : s.pr.banks[x].exc < 15) :
    (s.illegal c).freeCtr = s.freeCtr + 1 :=
  State.trap_freeCtr (s := (s.draw 70).2) hrun hexc _ _

/-- Tenant 0 runs on core 0 before BOOT_DONE, with the floating-point unit off. -/
def floatOff : State :=
  ((State.reset.modSys fun y => { y with phase := .run }).modCore 0 fun x => { x with run := some 0 }).modBank 0 fun b =>
    { b with mstatus := 0 }

theorem floatOff_runs : floatOff.runs 0 0 := by
  unfold State.runs
  decide +kernel

/-- Shared SRAM is open to tenant 0 there, and holds no error. -/
theorem floatOff_permits : isPeriph 0x20000000 = false ∧
    floatOff.check { tenant := (0 : Fin 8), umode := floatOff.pr.banks[(0 : Fin 8)].dataUser } .load 0x20000000 4 = none ∧
    floatOff.wordErr 0x20000000 = 0 := by
  decide +kernel

/-- Refutes O51: its clause on the floating-point load has no premise that mstatus.FS is not Off. With FS Off the load is an illegal
instruction (R123), whose exception draws a free value, and it loads nothing. -/
theorem not_coreAccesses : ¬ Obligations.CoreAccesses := by
  intro h
  obtain ⟨hperiph, hcheck, herr⟩ := floatOff_permits
  obtain ⟨-, hfloat, -⟩ := h floatOff 0 0 floatOff_runs
  obtain ⟨t, hexec, -, -, -, -, -, hsame⟩ := hfloat 0x20000000 2 false true 1 rfl hperiph hcheck (fun _ => herr) rfl
  rw [execLoad_of_float_off floatOff_runs rfl] at hexec
  cases hexec
  have hkept : (floatOff.illegal 0).freeCtr = floatOff.freeCtr := hsame .freeCtr (by decide)
  rw [State.illegal_freeCtr floatOff_runs.2.2 (by decide)] at hkept
  exact absurd hkept (Nat.succ_ne_self _)

end Sys2Proof.Machine
end

section
/-! PROOFS. Event entry on the edge of a further strobe of its source (R162, R185). -/

namespace Sys2Proof.Machine

/-- R185: an entry on the edge on which the source asserts again keeps PEND. -/
theorem State.entryClears_pend_of_strobed {s : State} {e : Nat} (hwas : s.atEdge.flag (EVT_CTL_PEND e) = true)
    (hnow : bitOf (s.setNow (EVT_CTL e)).toNat 29 = true) : (s.entryClears e).get (EVT_CTL_PEND e) = s.get (EVT_CTL_PEND e) := by
  unfold State.entryClears
  dsimp only
  rw [hwas, hnow, if_pos (by decide)]
  exact State.get_put_disj (f := EVT_CTL_COAL e) (g := EVT_CTL_PEND e) _ _ (le_refl 29) (by decide : 31 < 32) (le_refl 31)
    (.inl (by decide : 29 < 31))

/-- An entry does to PEND what it clears, and no more. -/
theorem State.takeEvent_pend (s : State) (c : Fin 4) (e : Nat) :
    (s.takeEvent c e).get (EVT_CTL_PEND e) = (s.entryClears e).get (EVT_CTL_PEND e) := by
  have hactive : ((s.entryClears e).put (EVT_CTL_ACTIVE e) 1).get (EVT_CTL_PEND e) = (s.entryClears e).get (EVT_CTL_PEND e) :=
    State.get_put_disj (f := EVT_CTL_ACTIVE e) (g := EVT_CTL_PEND e) _ _ (le_refl 30) (by decide : 31 < 32) (le_refl 31)
      (.inl (by decide : 30 < 31))
  refine Eq.trans ?_ hactive
  unfold State.takeEvent
  dsimp only
  generalize (s.entryClears e).put (EVT_CTL_ACTIVE e) 1 = t
  generalize EVT_CTL_PEND e = f
  have hentered : Ev 0x1002000 t (t.setWaiting (t.waiting &&& ~~~ BitVec.ofNat 8 (2 ^ (s.srcTenant e).1))) := .setWaiting (.refl _ t)
  have hsettled := State.settle_ev (c := c) (State.modCore_ev (c := c) (f := fun x =>
    { x with stack := ⟨s.get (EVT_ROUTE_LEVEL e), s.srcTenant e, e⟩ :: x.stack, res := none })
    (State.modBank_ev (t' := s.srcTenant e) (f := fun b => b.enter 0x8000000B b.pc true) hentered))
  exact congrArg (fieldOf · f.hi f.lo) (hsettled.reg_of_small f.addr (by decide))

/-- The entry of a core that stands suspended at the pc it holds. -/
theorem exec_eventEntry_of_best {s : State} {c : Fin 4} {x : Fin 8} {e : Nat} {pc : Word} (h : s.runs c x) (hbest : s.bestSrc c = some e)
    (hpc : s.pr.banks[x].pc = pc) :
    exec (.eventEntry c pc) s = .next (((s.unissue c).modBank x fun b => { b with pc := pc }).takeEvent c e) := by
  obtain ⟨hup, hcore, hrun⟩ := h
  show Host.Outcome.next (s.whenUp _) = _
  rw [State.whenUp_of_up hup, if_neg (Nat.not_le.mpr hcore), hbest, hrun]
  dsimp only
  rw [if_pos hpc]

/-- Tenant 0 runs on core 0 before BOOT_DONE with its interrupts on; source 1 is routed to it and has asserted on the edge before. -/
def eventPending : State :=
  let s := (State.reset.modSys fun y => { y with phase := .run, boot := .rom }).put (EVT_CTL_EN 17) 1
  (((s.modCore 0 fun x => { x with run := some 0 }).modBank 0 fun b => { b with mstatus := 0x3808, mie := 0x800 }).strobe 17).tick

/-- The same unit once the source has asserted again on the present edge. -/
def eventAgain : State := eventPending.strobe 17

theorem exec_eventStrobe_eventPending : exec (.eventStrobe 17) eventPending = .next eventAgain := rfl

theorem eventAgain_runs : eventAgain.runs 0 0 := by
  unfold State.runs
  decide +kernel

theorem eventAgain_pc : eventAgain.pr.banks[(0 : Fin 8)].pc = 0 := by
  decide +kernel

/-- The source is the best of core 0; it was pending as the edge began, and its COAL has been set on the edge. -/
theorem eventAgain_strobed : eventAgain.bestSrc 0 = some 17 ∧ eventAgain.srcTenant 17 = 0 ∧ eventAgain.get (EVT_CTL_PEND 17) = 1 ∧
    eventAgain.atEdge.flag (EVT_CTL_PEND 17) = true ∧ bitOf (eventAgain.setNow (EVT_CTL 17)).toNat 29 = true := by
  decide +kernel

/-- Refutes O52: its clause on event entry says that PEND clears in every state, without the premise that the source has not asserted
again on the edge of the entry. There the model, as R185 asks, leaves PEND set. -/
theorem not_coreFlow : ¬ Obligations.CoreFlow := by
  intro h
  obtain ⟨hbest, htenant, hpend, hwas, hnow⟩ := eventAgain_strobed
  obtain ⟨-, -, -, -, -, -, -, -, -, -, -, -, -, -, -, -, hentry, -⟩ := h eventAgain 0 0 eventAgain_runs
  obtain ⟨t, hexec, hcleared, -⟩ := hentry 0 17 0 hbest (by decide) htenant.symm
  rw [exec_eventEntry_of_best eventAgain_runs hbest eventAgain_pc] at hexec
  cases hexec
  have hkept : (((eventAgain.unissue 0).modBank 0 fun b => { b with pc := 0 }).takeEvent 0 17).get (EVT_CTL_PEND 17) = 1 :=
    (State.takeEvent_pend _ 0 17).trans ((State.entryClears_pend_of_strobed hwas hnow).trans hpend)
  exact absurd (hkept.symm.trans hcleared) (by decide)

end Sys2Proof.Machine
end

section
/-! PROOFS. Reads and writes of memory words that hold no error, and of bytes outside flash (R30, R140, R151). -/

namespace Sys2Proof.Machine

/-! ### Words and their errors (R151) -/

theorem State.wordErr_setErr (s : State) (a e : Nat) : (s.setErr a e).wordErr a = e := sparseGet_set_same _ _ _ _

/-- A word without an error reads as its bytes, and nothing changes. -/
theorem State.memRead_clean {s : State} {a : Nat} (hclean : isRam a = true → s.wordErr a = 0) (m n : Nat) :
    s.memRead m a n = (some (leNat (s.memBytes a n)), s) := by
  unfold State.memRead
  cases hram : isRam a
  · rfl
  · rw [hclean hram]
    rfl

/-- A word with a single error is corrected. -/
theorem State.wordErr_memRead_single {s : State} {a : Nat} (hram : isRam a = true) (hsingle : s.wordErr a = 1) (m n : Nat) :
    (s.memRead m a n).2.wordErr a = 0 := by
  unfold State.memRead
  rw [hram, hsingle]
  exact State.wordErr_setErr _ _ _

/-! ### Bytes outside flash (R30, R140) -/

/-- A byte outside flash is found in the memory alone. -/
theorem State.memByte_of_not_flash {a : Nat} (ha : isFlash a = false) (s : State) : s.memByte a = sparseGet (memDefault a) a s.mem := by
  unfold isFlash at ha
  obtain ⟨hbankStore, hoption⟩ := Bool.or_eq_false_iff.mp ha
  obtain ⟨-, hstore⟩ := Bool.or_eq_false_iff.mp hbankStore
  unfold State.memByte
  rw [hoption, hstore]
  rfl

theorem State.setBytes_parts (s : State) (a : Nat) (l : List Byte) : Ev 0x40 s (State.setBytes a l s) := State.setBytes_ev (.refl _ s)

/-- Bytes written are read. -/
theorem State.memBytes_setBytes_of_not_flash {a : Nat} {l : List Byte} (ha : ∀ i < l.length, isFlash (a + i) = false) (s : State) :
    (State.setBytes a l s).memBytes a l.length = l := by
  refine List.ext_getElem (by simp [State.memBytes]) fun i _ hi => ?_
  have hin : inRange (a + i) a l.length = true := by
    simp [inRange, hi]
  simp only [State.memBytes, List.getElem_map, List.getElem_range]
  rw [State.memByte_of_not_flash (ha i hi), State.get_setBytes, hin, if_pos rfl, Nat.add_sub_cancel_left]
  exact List.getD_eq_getElem _ _ hi

/-- Bytes that are not written stay. -/
theorem State.setBytes_keepsBytes (s : State) (a : Nat) (l : List Byte) : s.keepsBytes (State.setBytes a l s) a l.length := by
  intro b hb
  have hout : inRange b a l.length = false := by
    rw [inRange, Bool.and_eq_false_iff, decide_eq_false_iff_not, decide_eq_false_iff_not]; omega
  have hget : sparseGet (memDefault b) b (State.setBytes a l s).mem = sparseGet (memDefault b) b s.mem := by
    rw [State.get_setBytes, hout]
    rfl
  have hparts := s.setBytes_parts a l
  unfold State.memByte State.sectorHeader
  rw [hparts.same .sys (by decide), hparts.same .store (by decide), hget]

theorem State.keepsBytes.of_parts {s t u : State} {m a n : Nat} (h : t.keepsBytes u a n) (hev : Ev m s t)
    (k : m &&& 0x4000140 = 0 := by decide) : s.keepsBytes u a n := by
  have hbit (i : Nat) (hi : (0x4000140 : Nat).testBit i = true) : m.testBit i = false := by
    have hand := congrArg (Nat.testBit · i) k
    simpa [Nat.testBit_and, hi] using hand
  exact fun b hb => (h b hb).trans (State.memByte_congr (hev.same .mem (hbit _ (by decide))) (hev.same .sys (hbit _ (by decide)))
    (hev.same .store (hbit _ (by decide))) b)

theorem tcm_bounds {a : Nat} (h : (tcmOf a).isSome = true) : 0x08000000 ≤ a ∧ a < 0x08340000 := by
  obtain ⟨k, hk⟩ := Option.isSome_iff_exists.mp h
  have hmem := List.mem_range.mp (List.mem_of_find?_eq_some hk)
  have hin := List.find?_some hk
  simp only [inRange, Bool.and_eq_true, decide_eq_true_eq] at hin
  omega

/-- No block of the memory map ends directly below flash. -/
theorem not_flash_add_of_mapped {a j : Nat} (hmapped : mapped a = true) (hnot : isFlash a = false) (hj : j < 4) : isFlash (a + j) = false := by
  simp only [isFlash, isBank, isStore, isOption, inRange, Bool.or_eq_false_iff, Bool.and_eq_false_iff, decide_eq_false_iff_not] at hnot ⊢
  by_cases htcm : (tcmOf a).isSome = true
  · have hbounds := tcm_bounds htcm
    omega
  · simp only [mapped, isRom, isRam, isSram, isFlash, isBank, isStore, isOption, periphMapped, inRange, htcm, Bool.false_eq_true,
      false_or, Bool.or_eq_true, Bool.and_eq_true, decide_eq_true_eq] at hmapped
    omega

/-- What a store is permitted to write lies outside flash, as do the bytes that follow within a word's length. -/
theorem State.not_flash_of_check_store {s : State} {i : Issuer} {a n : Nat} (hcheck : s.check i .store a n = none) {j : Nat} (hj : j < 4) :
    isFlash (a + j) = false := by
  unfold State.check at hcheck
  have hmapped : mapped a = true := by
    by_contra h
    rw [if_pos (by simpa using h)] at hcheck
    exact nomatch hcheck
  rw [hmapped, if_neg (by decide)] at hcheck
  have hnot : isFlash a = false := by
    by_contra h
    rw [if_pos (by simp [State.fixedRule, Acc.writes, h])] at hcheck
    exact nomatch hcheck
  exact not_flash_add_of_mapped hmapped hnot hj

/-! ### Writes by a master that is no core -/

/-- What a write does before its bytes: it ends the reservations of the word, and a whole word holds no error any more (R127, R151). -/
def State.opened (s : State) (a n : Nat) : State := if n = 4 then (s.breakRes none a).setErr a 0 else s.breakRes none a

theorem State.opened_ev (s : State) (a n : Nat) : Ev 0x1000080 s (s.opened a n) :=
  .ite (fun _ => State.setErr_ev (State.breakRes_ev (.refl _ s))) fun _ => State.breakRes_ev (.refl _ s)

theorem State.opened_dma (s : State) (a n : Nat) : (s.opened a n).pr.dma = s.pr.dma ∧ (s.opened a n).pr.dmaLast = s.pr.dmaLast := by
  unfold State.opened
  split <;> exact ⟨rfl, rfl⟩

theorem State.memWrite_none {s : State} {a : Nat} (hclean : isRam a = true → s.wordErr a = 0) (m n v : Nat) :
    s.memWrite m none a n v = (true, State.setBytes a (leBytes n v) (s.opened a n)) := by
  unfold State.memWrite State.opened
  split
  · rfl
  · rw [State.memRead_clean hclean]

end Sys2Proof.Machine
end

section
/-! PROOFS. The scrubber, and the injection of memory errors (R142, R153, R154). -/

namespace Sys2Proof.Machine

/-! ### The scrubber (R153) -/

theorem State.scrub_modPr (s : State) (n : Nat) : (s.modPr fun z => { z with scrub := n }).pr.scrub = n := rfl

theorem State.wordErr_modPr (s : State) (f : Procs → Procs) (a : Nat) : (s.modPr f).wordErr a = s.wordErr a := rfl

/-- The word that the scrubber reads after the present one. -/
def State.nextScrub (s : State) : Nat := if s.pr.scrub + 1 < s.tcmWords + 1048576 then s.pr.scrub + 1 else 0

theorem exec_scrubRead {s : State} (hup : s.up = true) (hen : s.get MEMERR_SCRUB_EN = 1) :
    exec .scrubRead s = .next ((s.memRead 6 s.scrubAddr 4).2.modPr fun z => { z with scrub := s.nextScrub }) := by
  refine congrArg Host.Outcome.next ((State.whenUp_of_up hup _).trans ?_)
  rw [State.flag_eq_true hen]
  exact if_neg (by decide)

theorem State.scrubRead_shown {s : State} (hup : s.up = true) (hen : s.get MEMERR_SCRUB_EN = 1) : ∃ t, exec .scrubRead s = .next t ∧
    t.pr.scrub = s.nextScrub ∧ t.mem = s.mem ∧ (isRam s.scrubAddr = true → s.wordErr s.scrubAddr = 1 → t.wordErr s.scrubAddr = 0) ∧
    s.onlyChanges t [.freeCtr, .memErr, .pr, .regs 2, .regs 3] := by
  have hexec := exec_scrubRead hup hen
  refine ⟨_, hexec, State.scrub_modPr _ _, ?_, fun hram hsingle => ?_, onlyChanges_of_keeps (execScrubRead_keeps s) hexec (by decide)⟩
  · exact (State.modPr_mem _ _).trans ((State.memRead_ev (m := 0xc00000082) (.refl _ s)).same .mem (by decide))
  · exact (State.wordErr_modPr _ _ _).trans (State.wordErr_memRead_single hram hsingle 6 4)

/-! ### Injection (R142, R154) -/

theorem fieldOf_mode (mode : BitVec 2) : fieldOf (BitVec.ofNat 32 mode.toNat) 1 0 = mode.toNat := by
  revert mode; decide

theorem exec_memerrInject {s : State} {c : Fin 4} (hup : s.up = true) (hc : c.1 < s.nCores) (ten : Fin 8) (mode : BitVec 2) :
    exec (.memerrInject ten c mode) s = .next (s.twuWrite ten c MEMERR_INJ (BitVec.ofNat 32 mode.toNat)) :=
  congrArg Host.Outcome.next ((State.whenUp_of_up hup _).trans (if_neg (Nat.not_le.mpr hc)))

/-- The injection that core `c` arms. -/
def State.armed (s : State) (c : Fin 4) (mode : BitVec 2) : State :=
  (s.put MEMERR_INJ_MODE mode.toNat).modPr fun z => { z with injCore := some c }

theorem State.twuWrite_armed {s : State} {ten : Fin 8} {c : Fin 4} {mode : BitVec 2} (hown : bitOf (s.get (TEN_OWN_OWN ten)) 0 = true)
    (hmode : mode ≠ 3) (hservice : s.serviceNow = true) :
    s.twuWrite ten c MEMERR_INJ (BitVec.ofNat 32 mode.toNat) = s.armed c mode := by
  have hnot : ¬ (mode.toNat = 3 ∨ ¬ s.serviceNow = true) := by
    rintro (h3 | hno)
    · exact hmode (BitVec.eq_of_toNat_eq h3)
    · exact hno hservice
  unfold State.twuWrite
  rw [hown, fieldOf_mode, Bool.or_true, if_pos ⟨.inr rfl, rfl⟩, if_neg (by decide), if_neg hnot, dif_pos c.2]
  rfl

theorem State.twuWrite_foreign {s : State} {ten : Fin 8} (hown : bitOf (s.get (TEN_OWN_OWN ten)) 0 = false) (hboot : s.bootDone = true)
    (port a : Nat) (v : Word) : s.twuWrite ten port a v = s.protCount ten a := by
  unfold State.twuWrite
  rw [hown, hboot, Bool.not_true, Bool.and_false, Bool.or_false, if_neg (fun h => nomatch h.2), if_pos rfl]

/-- A counted write leaves the registers as the strobe of its event finds them (R7). -/
theorem State.get_protCount (s : State) (ten a : Nat) {f : Fld} (hf : f.addr / 65536 ≠ 0x4003) (haddr : f.addr ≠ TWU_PWADDR) :
    (s.protCount ten a).get f = ((s.bump TWU_PWCNT_COUNT).put TWU_PWCNT_LASTTEN ten).get f := by
  have hstrobed : ((((s.bump TWU_PWCNT_COUNT).put TWU_PWCNT_LASTTEN ten).setReg TWU_PWADDR (BitVec.ofNat 32 a)).strobe 11).get f =
      ((s.bump TWU_PWCNT_COUNT).put TWU_PWCNT_LASTTEN ten).get f := by
    unfold State.get
    rw [State.reg_strobe _ _ _ hf, State.reg_setReg_ne _ _ haddr]
  unfold State.protCount
  dsimp only
  split
  · exact (State.get_emcy _ _ _ _).trans hstrobed
  · exact hstrobed

theorem State.protCount_count (s : State) (ten a : Nat) :
    (s.protCount ten a).get TWU_PWCNT_COUNT = satInc 65535 (s.get TWU_PWCNT_COUNT) := by
  rw [State.get_protCount _ _ _ (by decide) (by decide), State.get_put_disj _ _ (by decide) (by decide) (by decide) (by decide)]
  exact State.get_bump_same _ _ (by decide) (by decide)

end Sys2Proof.Machine
end

section
/-! PROOFS. The registers of a DMA channel and what its commands do to them (R170, R175, R178). -/

namespace Sys2Proof.Machine

/-! ### Commands by the owner and by others (R170) -/

theorem State.whenUp_dmaBy_own {s : State} {ten : Nat} {c : Fin 32} (hup : s.up = true) (hc : c.1 < s.nDma) (hmay : s.dmaMay ten c = true)
    (f : State → State) : s.whenUp (·.dmaBy ten c f) = f s := by
  rw [State.whenUp_of_up hup]
  unfold State.dmaBy
  rw [if_neg (Nat.not_le.mpr hc), if_pos hmay]

theorem State.whenUp_dmaBy_foreign {s : State} {ten : Nat} {c : Fin 32} (hup : s.up = true) (hc : c.1 < s.nDma)
    (hmay : s.dmaMay ten c = false) (f : State → State) : s.whenUp (·.dmaBy ten c f) = s.dmaForeign c := by
  rw [State.whenUp_of_up hup]
  unfold State.dmaBy
  rw [if_neg (Nat.not_le.mpr hc), hmay, if_neg Bool.false_ne_true]

/-- What a command of the channel's owner does. -/
theorem exec_dma_of_own {s : State} {ten : Fin 8} {c : Fin 32} (hup : s.up = true) (hc : c.1 < s.nDma) (hmay : s.dmaMay ten c = true) :
    exec (.dmaStart ten c) s = .next (s.dmaStart c) ∧ exec (.dmaStop ten c) s = .next (s.dmaStopCmd c) ∧
    exec (.dmaResume ten c) s = .next (s.dmaResumeCmd c) ∧ exec (.dmaAbandon ten c) s = .next (s.dmaDiscard c) :=
  ⟨congrArg Host.Outcome.next (State.whenUp_dmaBy_own hup hc hmay (·.dmaStart c)),
    congrArg Host.Outcome.next (State.whenUp_dmaBy_own hup hc hmay (·.dmaStopCmd c)),
    congrArg Host.Outcome.next (State.whenUp_dmaBy_own hup hc hmay (·.dmaResumeCmd c)),
    congrArg Host.Outcome.next (State.whenUp_dmaBy_own hup hc hmay (·.dmaDiscard c))⟩

theorem exec_dmaStart_of_foreign {s : State} {ten : Fin 8} {c : Fin 32} (hup : s.up = true) (hc : c.1 < s.nDma)
    (hmay : s.dmaMay ten c = false) : exec (.dmaStart ten c) s = .next (s.dmaForeign c) :=
  congrArg Host.Outcome.next (State.whenUp_dmaBy_foreign hup hc hmay (·.dmaStart c))

/-- A command of another tenant is counted, with its channel. -/
theorem State.dmaForeign_shown (s : State) (c : Fin 32) : (s.dmaForeign c).get DMA_FOREIGN_LASTCH = c.1 ∧
    (s.dmaForeign c).get DMA_FOREIGN_COUNT = satInc 65535 (s.get DMA_FOREIGN_COUNT) ∧ s.keepsRegs (s.dmaForeign c) 4 [DMA_FOREIGN] := by
  have hblock {a : Nat} (ha : a / 65536 % 32 = 4) : (s.dmaForeign c).reg a = ((s.bump DMA_FOREIGN_COUNT).put DMA_FOREIGN_LASTCH c.1).reg a :=
    State.reg_strobe _ _ _ fun h => by rw [h] at ha; exact absurd ha (by decide)
  have hget {f : Fld} (hf : f.addr / 65536 % 32 = 4) :
      (s.dmaForeign c).get f = ((s.bump DMA_FOREIGN_COUNT).put DMA_FOREIGN_LASTCH c.1).get f := congrArg (fieldOf · f.hi f.lo) (hblock hf)
  refine ⟨?_, ?_, ?_⟩
  · rw [hget (by decide)]
    exact State.get_put_fits _ DMA_FOREIGN_LASTCH c.2 (by decide) (by decide)
  · rw [hget (by decide), State.get_put_disj _ _ (by decide) (by decide) (by decide) (by decide)]
    exact State.get_bump_same _ _ (by decide) (by decide)
  · exact (((State.keepsRegs.refl s 4 [DMA_FOREIGN]).put List.mem_cons_self).put List.mem_cons_self).congr fun _ ha => hblock ha

/-! ### The registers of a channel -/

theorem State.get_put_DMA_STAT_STATE (s : State) (c : Fin 32) {v : Nat} (hv : v < 4) :
    (s.put (DMA_STAT_STATE c) v).get (DMA_STAT_STATE c) = v :=
  State.get_put_fits s (DMA_STAT_STATE c) (by show v < 2 ^ 2; exact hv) (by decide : 31 < 32) (by decide : 30 ≤ 31)

theorem State.get_put_DMA_STAT_CODE (s : State) (c : Fin 32) {v : Nat} (hv : v < 16) :
    (s.put (DMA_STAT_CODE c) v).get (DMA_STAT_CODE c) = v :=
  State.get_put_fits s (DMA_STAT_CODE c) (by show v < 2 ^ 4; exact hv) (by decide : 19 < 32) (by decide : 16 ≤ 19)

theorem State.state_put_DMA_STAT_CODE (s : State) (c : Fin 32) (v : Nat) :
    (s.put (DMA_STAT_CODE c) v).get (DMA_STAT_STATE c) = s.get (DMA_STAT_STATE c) :=
  State.get_put_disj (f := DMA_STAT_CODE c) (g := DMA_STAT_STATE c) s v (by decide : 16 ≤ 19) (by decide : 31 < 32)
    (by decide : 30 ≤ 31) (.inl (by decide : 19 < 30))

theorem DMA_STAT_block (c : Fin 32) : DMA_STAT c / 65536 % 32 = 4 := by
  unfold DMA_STAT; omega

theorem DMA_FLAGS_block (c : Fin 32) : DMA_FLAGS c / 65536 % 32 = 4 := by
  unfold DMA_FLAGS; omega

theorem DMA_RES_blocks (c : Fin 32) : DMA_RES_SRC c / 65536 % 32 = 4 ∧ DMA_RES_DST c / 65536 % 32 = 4 ∧ DMA_RES_CNT c / 65536 % 32 = 4 ∧
    DMA_RES_DESC c / 65536 % 32 = 4 ∧ DMA_RES_CTRL c / 65536 % 32 = 4 := by
  unfold DMA_RES_SRC DMA_RES_DST DMA_RES_CNT DMA_RES_DESC DMA_RES_CTRL; omega

theorem DMA_FAULT_blocks (c : Fin 32) : DMA_FAULT_ADDR c / 65536 % 32 = 4 ∧ DMA_FAULT_INFO c / 65536 % 32 = 4 := by
  unfold DMA_FAULT_ADDR DMA_FAULT_INFO; omega

theorem DMA_STAT_ne_FLAGS (c : Fin 32) : DMA_STAT c ≠ DMA_FLAGS c := by
  unfold DMA_STAT DMA_FLAGS; omega

theorem DMA_FAULT_ADDR_ne_INFO (c : Fin 32) : DMA_FAULT_ADDR c ≠ DMA_FAULT_INFO c := by
  unfold DMA_FAULT_ADDR DMA_FAULT_INFO; omega

theorem DMA_RES_SRC_ne (c : Fin 32) : DMA_RES_SRC c ≠ DMA_RES_DST c ∧ DMA_RES_SRC c ≠ DMA_RES_CNT c ∧ DMA_RES_SRC c ≠ DMA_RES_DESC c ∧
    DMA_RES_SRC c ≠ DMA_RES_CTRL c ∧ DMA_RES_SRC c ≠ DMA_STAT c := by
  unfold DMA_RES_SRC DMA_RES_DST DMA_RES_CNT DMA_RES_DESC DMA_RES_CTRL DMA_STAT; omega

theorem DMA_RES_CNT_ne (c : Fin 32) : DMA_RES_CNT c ≠ DMA_RES_DESC c ∧ DMA_RES_CNT c ≠ DMA_RES_CTRL c ∧ DMA_RES_CNT c ≠ DMA_STAT c ∧
    DMA_RES_CNT c ≠ DMA_FLAGS c := by
  unfold DMA_RES_CNT DMA_RES_DESC DMA_RES_CTRL DMA_STAT DMA_FLAGS; omega

theorem State.cmdRef_shown (s : State) (c : Fin 32) : (s.cmdRef c).get (DMA_FLAGS_CMDREF c) = 1 ∧ (s.cmdRef c).pr = s.pr ∧
    s.onlyChanges (s.cmdRef c) [.regs 4] ∧ s.keepsRegs (s.cmdRef c) 4 [DMA_FLAGS c] := by
  unfold State.cmdRef
  exact ⟨State.get_put_fits s (DMA_FLAGS_CMDREF c) (by show 1 < 2 ^ 1; decide) (by decide : 2 < 32) (le_refl 2), State.put_pr _ _ _,
    (Ev.put (.refl _ s) 4 (DMA_FLAGS_block c)).onlyChanges, (State.keepsRegs.refl s 4 _).put (f := DMA_FLAGS_CMDREF c) List.mem_cons_self⟩

/-! ### The state of a channel -/

theorem State.reg_modDma (s : State) (c : Fin 32) (f : DmaCh → DmaCh) (a : Nat) : (s.modDma c f).reg a = s.reg a := rfl

theorem State.get_modDma (s : State) (c : Fin 32) (f : DmaCh → DmaCh) (x : Fld) : (s.modDma c f).get x = s.get x := rfl

theorem State.dma_modDma_same (s : State) (c : Fin 32) (f : DmaCh → DmaCh) : (s.modDma c f).pr.dma[c] = f s.pr.dma[c] :=
  upd_same s.pr.dma c f

theorem State.dma_modDma_ne (s : State) {c d : Fin 32} (h : d ≠ c) (f : DmaCh → DmaCh) : (s.modDma c f).pr.dma[d] = s.pr.dma[d] :=
  upd_ne s.pr.dma c d f h

theorem State.keepsRegs.modDma {s t : State} {block : Fin 32} {but : List Nat} (h : s.keepsRegs t block but) {c : Fin 32}
    {f : DmaCh → DmaCh} : s.keepsRegs (t.modDma c f) block but := h

/-! ### A channel that stops (R175) -/

/-- Registers that the stop of a channel writes. -/
def dmaStopRegs (c : Fin 32) : List Nat :=
  [DMA_RES_SRC c, DMA_RES_DST c, DMA_RES_CNT c, DMA_RES_DESC c, DMA_RES_CTRL c, DMA_STAT c, DMA_FLAGS c]

theorem not_mem_dmaStopRegs (c : Fin 32) : DMA_FAULT_ADDR c ∉ dmaStopRegs c ∧ DMA_FAULT_INFO c ∉ dmaStopRegs c := by
  simp only [dmaStopRegs, List.mem_cons, List.not_mem_nil, or_false, DMA_FAULT_ADDR, DMA_FAULT_INFO, DMA_RES_SRC, DMA_RES_DST,
    DMA_RES_CNT, DMA_RES_DESC, DMA_RES_CTRL, DMA_STAT, DMA_FLAGS]
  omega

theorem State.dmaResume_keepsRegs (s : State) (c : Fin 32) : s.keepsRegs (s.dmaResume c) 4 (dmaStopRegs c) := by
  unfold State.dmaResume
  dsimp only
  exact (((((State.keepsRegs.refl s 4 _).setReg (by simp [dmaStopRegs])).setReg (by simp [dmaStopRegs])).setReg
    (by simp [dmaStopRegs])).setReg (by simp [dmaStopRegs])).setReg (by simp [dmaStopRegs])

theorem State.dmaStop_keepsRegs (s : State) (c : Fin 32) (code : Nat) : s.keepsRegs (s.dmaStop c code) 4 (dmaStopRegs c) := by
  unfold State.dmaStop
  intro a ha hnot
  rw [State.reg_modPr]
  exact (((s.dmaResume_keepsRegs c).put (f := DMA_STAT_STATE c) (by simp [dmaStopRegs, DMA_STAT_STATE])).put (f := DMA_STAT_CODE c)
    (by simp [dmaStopRegs, DMA_STAT_CODE])).put (f := DMA_FLAGS_STOP c) (by simp [dmaStopRegs, DMA_FLAGS_STOP]) a ha hnot

/-- A stopped channel shows STOPPED with its code, and the flag. -/
theorem State.dmaStop_shown (s : State) (c : Fin 32) {code : Nat} (hcode : code < 16) : (s.dmaStop c code).get (DMA_STAT_STATE c) = 2 ∧
    (s.dmaStop c code).get (DMA_STAT_CODE c) = code ∧ (s.dmaStop c code).get (DMA_FLAGS_STOP c) = 1 := by
  unfold State.dmaStop
  rw [State.get_modPr, State.get_modPr, State.get_modPr]
  refine ⟨?_, ?_, ?_⟩
  · rw [State.get_put_ne (f := DMA_FLAGS_STOP c) (g := DMA_STAT_STATE c) _ _ (DMA_STAT_ne_FLAGS c), State.state_put_DMA_STAT_CODE]
    exact State.get_put_DMA_STAT_STATE _ c (by decide)
  · rw [State.get_put_ne (f := DMA_FLAGS_STOP c) (g := DMA_STAT_CODE c) _ _ (DMA_STAT_ne_FLAGS c)]
    exact State.get_put_DMA_STAT_CODE _ c hcode
  · exact State.get_put_fits _ (DMA_FLAGS_STOP c) (by show 1 < 2 ^ 1; decide) (by decide : 1 < 32) (le_refl 1)

theorem fieldOf_resumeCount (fetch : Bool) (n : Nat) : fieldOf (BitVec.ofNat 32 (b2n fetch * 2 ^ 31 + n % 65536)) 15 0 = n % 65536 := by
  have hflag : b2n fetch ≤ 1 := by
    cases fetch <;> decide
  simp only [fieldOf, bitsOf, BitVec.toNat_ofNat]
  omega

theorem State.reg_dmaResume_cnt (s : State) (c : Fin 32) :
    (s.dmaResume c).reg (DMA_RES_CNT c) = BitVec.ofNat 32 (b2n s.pr.dma[c].fetch * 2 ^ 31 + s.pr.dma[c].cnt % 65536) := by
  obtain ⟨hdesc, hctrl, -, -⟩ := DMA_RES_CNT_ne c
  unfold State.dmaResume
  dsimp only
  rw [State.reg_setReg_ne _ _ hctrl, State.reg_setReg_ne _ _ hdesc, State.reg_setReg_same]

/-- The resume registers of a stopped channel show the beats that are left. -/
theorem State.dmaStop_resumeCount (s : State) (c : Fin 32) (code : Nat) :
    (s.dmaStop c code).get (DMA_RES_CNT_CNT c) = s.pr.dma[c].cnt % 65536 := by
  obtain ⟨-, -, hstat, hflags⟩ := DMA_RES_CNT_ne c
  unfold State.dmaStop
  rw [State.get_modPr, State.get_put_ne (f := DMA_FLAGS_STOP c) (g := DMA_RES_CNT_CNT c) _ _ hflags,
    State.get_put_ne (f := DMA_STAT_CODE c) (g := DMA_RES_CNT_CNT c) _ _ hstat,
    State.get_put_ne (f := DMA_STAT_STATE c) (g := DMA_RES_CNT_CNT c) _ _ hstat]
  exact (congrArg (fieldOf · 15 0) (s.reg_dmaResume_cnt c)).trans (fieldOf_resumeCount _ _)

theorem State.dma_dueModPr (s : State) (c : Fin 32) : (s.modPr fun z => { z with dmaDue := z.dmaDue ++ [c] }).pr.dma = s.pr.dma := rfl

theorem State.dmaStop_dma (s : State) (c : Fin 32) (code : Nat) : (s.dmaStop c code).pr.dma = s.pr.dma := by
  have hresume : (s.dmaResume c).pr = s.pr := (State.dmaResume_ev (m := 0x1000000000) (.refl _ s)).same .pr (by decide)
  unfold State.dmaStop
  rw [State.dma_dueModPr, State.put_pr, State.put_pr, State.put_pr, hresume]

/-- A failing access is recorded with its reason, and the channel stops. -/
theorem State.dmaFault_shown (s : State) (c : Fin 32) {code : Nat} (hcode : code < 16) (a reason : Nat) (desc side : Bool) :
    (s.dmaFault c code a reason desc side).get (DMA_STAT_STATE c) = 2 ∧ (s.dmaFault c code a reason desc side).get (DMA_STAT_CODE c) = code ∧
    (s.dmaFault c code a reason desc side).reg (DMA_FAULT_ADDR c) = BitVec.ofNat 32 a ∧
    (s.dmaFault c code a reason desc side).get (DMA_FAULT_INFO_REASON c) = reason % 16 := by
  obtain ⟨haddrBlock, hinfoBlock⟩ := DMA_FAULT_blocks c
  obtain ⟨haddrKept, hinfoKept⟩ := not_mem_dmaStopRegs c
  have hne := DMA_FAULT_ADDR_ne_INFO c
  unfold State.dmaFault
  dsimp only
  refine ⟨(State.dmaStop_shown _ c hcode).1, (State.dmaStop_shown _ c hcode).2.1, ?_, ?_⟩
  · rw [State.dmaStop_keepsRegs _ c code _ haddrBlock haddrKept, State.reg_put_ne (f := DMA_FAULT_INFO_SIDE c) _ _ hne,
      State.reg_put_ne (f := DMA_FAULT_INFO_DESC c) _ _ hne, State.reg_put_ne (f := DMA_FAULT_INFO_REASON c) _ _ hne, State.reg_setReg_same]
  · rw [(State.dmaStop_keepsRegs _ c code).get (f := DMA_FAULT_INFO_REASON c) hinfoBlock hinfoKept,
      State.get_put_disj (f := DMA_FAULT_INFO_SIDE c) (g := DMA_FAULT_INFO_REASON c) _ _ (le_refl 4) (by decide : 3 < 32)
        (by decide : 0 ≤ 3) (.inr (by decide : 3 < 4)),
      State.get_put_disj (f := DMA_FAULT_INFO_DESC c) (g := DMA_FAULT_INFO_REASON c) _ _ (le_refl 5) (by decide : 3 < 32)
        (by decide : 0 ≤ 3) (.inr (by decide : 3 < 5))]
    exact State.get_put_same _ (DMA_FAULT_INFO_REASON c) _ (by decide : 3 < 32) (by decide : 0 ≤ 3)

/-! ### The commands (R178) -/

theorem State.dmaStart_shown {s : State} {c : Fin 32} (hidle : s.get (DMA_STAT_STATE c) = 0) :
    (s.dmaStart c).get (DMA_STAT_STATE c) = 1 ∧ (s.dmaStart c).pr.dma[c].fetch = true ∧
    (s.dmaStart c).pr.dma[c].desc = (s.reg (DMA_DESC c)).toNat / 16 * 16 ∧ (∀ d : Fin 32, d ≠ c → (s.dmaStart c).pr.dma[d] = s.pr.dma[d]) ∧
    s.onlyChanges (s.dmaStart c) [.pr, .regs 4] ∧ s.keepsRegs (s.dmaStart c) 4 [DMA_STAT c] := by
  unfold State.dmaStart
  rw [if_neg (not_not.mpr hidle)]
  refine ⟨?_, ?_, ?_, fun d hd => ?_, (State.modDma_ev (.put (.refl _ s) 4 (DMA_STAT_block c))).onlyChanges,
    ((State.keepsRegs.refl s 4 _).put (f := DMA_STAT_STATE c) List.mem_cons_self).modDma⟩
  · rw [State.get_modDma, State.get_put_DMA_STAT_STATE _ _ (by decide)]
  · rw [State.dma_modDma_same]
  · rw [State.dma_modDma_same]
  · rw [State.dma_modDma_ne _ hd, State.put_pr]

theorem State.dmaStart_refused {s : State} {c : Fin 32} (hbusy : s.get (DMA_STAT_STATE c) ≠ 0) : s.dmaStart c = s.cmdRef c := if_pos hbusy

theorem State.dmaStopCmd_running {s : State} {c : Fin 32} (hrun : s.get (DMA_STAT_STATE c) = 1) : s.dmaStopCmd c = s.dmaStop c 6 :=
  if_pos hrun

/-- A channel that resumes goes on from the resume registers. -/
theorem State.dmaResumeCmd_shown {s : State} {c : Fin 32} (hstopped : s.get (DMA_STAT_STATE c) = 2) (hleft : s.get (DMA_RES_CNT_CNT c) ≠ 0)
    (hreset : s.marked (.dmaReset c) = false) : (s.dmaResumeCmd c).get (DMA_STAT_STATE c) = 1 ∧
    (s.dmaResumeCmd c).pr.dma[c].src = (s.reg (DMA_RES_SRC c)).toNat ∧ (s.dmaResumeCmd c).pr.dma[c].dst = (s.reg (DMA_RES_DST c)).toNat ∧
    (s.dmaResumeCmd c).pr.dma[c].cnt = s.get (DMA_RES_CNT_CNT c) ∧ s.onlyChanges (s.dmaResumeCmd c) [.pr, .regs 4] ∧
    s.keepsRegs (s.dmaResumeCmd c) 4 [DMA_STAT c] := by
  have hcmd : s.dmaResumeCmd c = ((s.mark (.dmaResumed c)).put (DMA_STAT_STATE c) 1).modDma c fun x =>
      { x with src := (s.reg (DMA_RES_SRC c)).toNat, dst := (s.reg (DMA_RES_DST c)).toNat, cnt := s.get (DMA_RES_CNT_CNT c),
               desc := (s.reg (DMA_RES_DESC c)).toNat / 16 * 16, fetch := s.flag (DMA_RES_CNT_DESCPEND c) } := by
    unfold State.dmaResumeCmd
    rw [hreset, if_neg Bool.false_ne_true, if_neg (not_not.mpr hstopped)]
    refine if_pos ?_
    rw [Bool.or_eq_true, bne_iff_ne, State.dma_modDma_same]
    exact .inr hleft
  rw [hcmd]
  refine ⟨?_, ?_, ?_, ?_, (State.modDma_ev (.put (.mark (.refl _ s)) 4 (DMA_STAT_block c))).onlyChanges, ?_⟩
  · rw [State.get_modDma, State.get_put_DMA_STAT_STATE _ _ (by decide)]
  · rw [State.dma_modDma_same]
  · rw [State.dma_modDma_same]
  · rw [State.dma_modDma_same]
  · intro a _ hnot
    rw [State.reg_modDma, State.reg_put_ne (f := DMA_STAT_STATE c) _ _ fun h => hnot (List.mem_singleton.mpr h), State.reg_mark]

/-- A stopped channel that is discarded is idle with code 8, its resume registers cleared. -/
theorem State.dmaDiscard_shown {s : State} {c : Fin 32} (hstopped : s.get (DMA_STAT_STATE c) = 2) :
    (s.dmaDiscard c).get (DMA_STAT_STATE c) = 0 ∧ (s.dmaDiscard c).get (DMA_STAT_CODE c) = 8 ∧ (s.dmaDiscard c).reg (DMA_RES_SRC c) = 0 ∧
    (s.dmaDiscard c).reg (DMA_RES_CNT c) = 0 ∧ s.onlyChanges (s.dmaDiscard c) [.pr, .regs 4] := by
  obtain ⟨hsrcBlock, hdstBlock, hcntBlock, hdescBlock, hctrlBlock⟩ := DMA_RES_blocks c
  obtain ⟨hsrcDst, hsrcCnt, hsrcDesc, hsrcCtrl, hsrcStat⟩ := DMA_RES_SRC_ne c
  obtain ⟨hcntDesc, hcntCtrl, hcntStat, -⟩ := DMA_RES_CNT_ne c
  unfold State.dmaDiscard
  rw [if_neg (not_not.mpr hstopped)]
  dsimp only
  rw [State.get_modDma, State.get_modDma, State.reg_modDma, State.reg_modDma]
  refine ⟨?_, ?_, ?_, ?_, ?_⟩
  · rw [State.state_put_DMA_STAT_CODE, State.get_put_DMA_STAT_STATE _ _ (by decide)]
  · rw [State.get_put_DMA_STAT_CODE _ _ (by decide)]
  · rw [State.reg_put_ne (f := DMA_STAT_CODE c) _ _ hsrcStat, State.reg_put_ne (f := DMA_STAT_STATE c) _ _ hsrcStat,
      State.reg_setReg_ne _ _ hsrcCtrl, State.reg_setReg_ne _ _ hsrcDesc, State.reg_setReg_ne _ _ hsrcCnt, State.reg_setReg_ne _ _ hsrcDst,
      State.reg_setReg_same]
  · rw [State.reg_put_ne (f := DMA_STAT_CODE c) _ _ hcntStat, State.reg_put_ne (f := DMA_STAT_STATE c) _ _ hcntStat,
      State.reg_setReg_ne _ _ hcntCtrl, State.reg_setReg_ne _ _ hcntDesc, State.reg_setReg_same]
  · have hcleared : Ev 0x1001000000 s (((((s.setReg (DMA_RES_SRC c) 0).setReg (DMA_RES_DST c) 0).setReg (DMA_RES_CNT c) 0).setReg
        (DMA_RES_DESC c) 0).setReg (DMA_RES_CTRL c) 0) :=
      .setReg (.setReg (.setReg (.setReg (.setReg (.refl _ s) 4 hsrcBlock) 4 hdstBlock) 4 hcntBlock) 4 hdescBlock) 4 hctrlBlock
    have hidle := hcleared.put (f := DMA_STAT_STATE c) (v := 0) 4 (DMA_STAT_block c)
    have hdone := hidle.put (f := DMA_STAT_CODE c) (v := 8) 4 (DMA_STAT_block c)
    exact ((State.modDma_ev hdone).mono (by decide)).onlyChanges

end Sys2Proof.Machine
end

section
/-! PROOFS. Descriptors and beats of the DMA channels (R172 to R176, R179). -/

namespace Sys2Proof.Machine

/-! ### Descriptors (R172, R173) -/

/-- A read of memory by the DMA controller where no error is met. -/
theorem State.dmaRead_clean {s : State} {a : Nat} (hperiph : isPeriph a = false) (hclean : isRam a = true → s.wordErr a = 0)
    (c : Fin 32) (n : Nat) : s.dmaRead c a n = (some (leNat (s.memBytes a n)), s) := by
  unfold State.dmaRead
  rw [hperiph, if_neg Bool.false_ne_true, State.memRead_clean hclean]

/-- Channel `c` may fetch the word at `a`, which holds no error. -/
def State.fetchable (s : State) (c : Fin 32) (a : Nat) : Prop :=
  isPeriph a = false ∧ s.check (s.dmaBy_ c) .load a 4 = none ∧ (isRam a = true → s.wordErr a = 0)

theorem dmaWords_of_fetchable {s : State} {c : Fin 32} {n a : Nat} (h : ∀ k < n, s.fetchable c (a + 4 * k)) :
    dmaWords n a c s = (.inl ((List.range n).map fun k => leNat (s.memBytes (a + 4 * k) 4)), s) := by
  induction n generalizing a with
  | zero => rfl
  | succ n ih =>
    obtain ⟨hperiph, hcheck, hclean⟩ := h 0 n.succ_pos
    have hrest : ∀ k < n, s.fetchable c (a + 4 + 4 * k) := fun k hk => by
      have hnext := h (k + 1) (Nat.succ_lt_succ hk)
      rwa [show a + 4 * (k + 1) = a + 4 + 4 * k by ring] at hnext
    rw [Nat.mul_zero, Nat.add_zero] at hperiph hcheck hclean
    unfold dmaWords
    rw [hcheck]
    dsimp only
    rw [State.dmaRead_clean hperiph hclean]
    dsimp only
    rw [ih hrest, List.range_succ_eq_map, List.map_cons, List.map_map]
    refine congrArg (fun l => (Sum.inl (_ :: l), s)) (List.map_congr_left fun k _ => ?_)
    rw [Function.comp_apply, show a + 4 * k.succ = a + 4 + 4 * k by rw [Nat.succ_eq_add_one]; ring]

/-- Word `k` of the descriptor that channel `c` fetches. -/
def State.descWord (s : State) (c : Fin 32) (k : Nat) : Nat := leNat (s.memBytes (s.pr.dma[c].desc + 4 * k) 4)

/-- A fetched descriptor sets the channel up where it is valid, else it stops the channel. -/
theorem exec_dmaDescriptorFetch {s : State} {c : Fin 32} (hup : s.up = true) (hrun : s.get (DMA_STAT_STATE c) = 1)
    (hfetch : s.pr.dma[c].fetch = true) (h : ∀ k : Fin 4, s.fetchable c (s.pr.dma[c].desc + 4 * k)) :
    exec (.dmaDescriptorFetch c) s = .next
      (if descOk (s.descWord c 0) (s.descWord c 1) (s.descWord c 2) (s.descWord c 3) then
        s.modDma c fun x => { x with src := s.descWord c 0, dst := s.descWord c 1, cnt := s.descWord c 2 % 65536, ctrl := s.descWord c 2,
                                     next := s.descWord c 3, fetch := false }
      else (s.modDma c fun x => { x with ctrl := s.descWord c 2 }).dmaStop c 9) := by
  have hwords : dmaWords 4 s.pr.dma[c].desc c s = (.inl [s.descWord c 0, s.descWord c 1, s.descWord c 2, s.descWord c 3], s) :=
    dmaWords_of_fetchable fun k hk => h ⟨k, hk⟩
  show Host.Outcome.next (s.whenUp _) = _
  rw [State.whenUp_of_up hup, if_neg (by rw [hrun, hfetch]; decide), hwords]

/-! ### Beats (R174, R176, R179) -/

/-- A channel that is granted a beat runs. -/
theorem State.running_of_dmaGrant {s : State} {k : Fin 4} {c : Fin 32} (h : s.dmaGrant = some (k, c)) : s.get (DMA_STAT_STATE c) = 1 := by
  unfold State.dmaGrant at h
  obtain ⟨j, -, hj⟩ := List.exists_of_findSome?_eq_some h
  obtain ⟨d, hd, hkd⟩ := Option.map_eq_some_iff.mp hj
  obtain rfl : d = c := congrArg Prod.snd hkd
  have hmem : d ∈ (List.finRange 32).filter fun c => s.dmaReady c && s.get (DMA_CFG_CLASS c) == j.1 := by
    unfold State.dmaRobin at hd
    dsimp only at hd
    split at hd
    · next hfound =>
      obtain rfl := Option.some.inj hd
      exact List.mem_of_find?_eq_some hfound
    · exact List.mem_of_mem_head? hd
  have hready := (Bool.and_eq_true_iff.mp (List.mem_filter.mp hmem).2).1
  unfold State.dmaReady at hready
  simp only [Bool.and_eq_true, beq_iff_eq] at hready
  obtain ⟨⟨⟨⟨-, hrun⟩, -⟩, -⟩, -⟩ := hready
  exact hrun

/-- The grant of a beat is remembered. -/
def State.granted (s : State) (k : Fin 4) (c : Fin 32) : State := s.modPr fun z => { z with dmaLast := s.pr.dmaLast.set k c.1 }

theorem exec_dmaBeat_granted {s : State} {k : Fin 4} {c : Fin 32} (hup : s.up = true) (h : s.dmaGrant = some (k, c)) :
    exec .dmaBeat s = .next ((s.granted k c).dmaBeat c) := by
  show Host.Outcome.next (s.whenUp _) = _
  rw [State.whenUp_of_up hup, h]
  rfl

theorem exec_dmaBeat_idle {s : State} (hup : s.up = true) (h : s.dmaGrant = none) : exec .dmaBeat s = .next s := by
  show Host.Outcome.next (s.whenUp _) = _
  rw [State.whenUp_of_up hup, h]

/-- Bytes of one beat of a channel. -/
def DmaCh.unit (d : DmaCh) : Nat := 2 ^ bitsOf d.ctrl 17 16

/-- A channel after a beat (R174). -/
def DmaCh.advanced (d : DmaCh) : DmaCh :=
  { d with src := if bitOf d.ctrl 18 then d.src else (d.src + d.unit) % 2 ^ 32
           dst := if bitOf d.ctrl 19 then d.dst else (d.dst + d.unit) % 2 ^ 32
           cnt := d.cnt - 1 }

theorem DmaCh.unit_le {d : DmaCh} (h : bitsOf d.ctrl 17 16 ≤ 2) : d.unit ≤ 4 := Nat.pow_le_pow_right (by decide) h

/-- A beat that is not the last of its descriptor moves the channel on and nothing else. -/
theorem State.dmaAdvance_of_more {s : State} {c : Fin 32} (h : 1 < s.pr.dma[c].cnt) :
    s.dmaAdvance c s.pr.dma[c].unit = s.modDma c fun _ => s.pr.dma[c].advanced := by
  unfold State.dmaAdvance
  refine (if_neg ?_).trans ?_
  · rw [show (State.modDma s c _).pr.dma[c].cnt = s.pr.dma[c].cnt - 1 from congrArg DmaCh.cnt (upd_same _ _ _)]
    omega
  · rfl

/-- Both sides of the next beat of channel `c` are memory that it may access, without an error, and a further beat follows. -/
structure State.beatPermitted (s : State) (c : Fin 32) : Prop where
  srcMem : isPeriph s.pr.dma[c].src = false
  dstMem : isPeriph s.pr.dma[c].dst = false
  load : s.check (s.dmaBy_ c) .load s.pr.dma[c].src s.pr.dma[c].unit = none
  store : s.check (s.dmaBy_ c) .store s.pr.dma[c].dst s.pr.dma[c].unit = none
  srcClean : isRam s.pr.dma[c].src = true → s.wordErr s.pr.dma[c].src = 0
  dstClean : isRam s.pr.dma[c].dst = true → s.wordErr s.pr.dma[c].dst = 0
  more : 1 < s.pr.dma[c].cnt

theorem State.beatPermitted.granted {s : State} {c : Fin 32} (h : s.beatPermitted c) (k : Fin 4) : (s.granted k c).beatPermitted c :=
  ⟨h.srcMem, h.dstMem, h.load, h.store, h.srcClean, h.dstClean, h.more⟩

/-- The unit of a beat of channel `c` written at its destination. -/
def State.beatWritten (s : State) (c : Fin 32) : State :=
  State.setBytes s.pr.dma[c].dst (leBytes s.pr.dma[c].unit (leNat (s.memBytes s.pr.dma[c].src s.pr.dma[c].unit)))
    (s.opened s.pr.dma[c].dst s.pr.dma[c].unit)

theorem State.beatWritten_ev (s : State) (c : Fin 32) : Ev 0x10000c0 s (s.beatWritten c) :=
  State.setBytes_ev ((s.opened_ev _ _).mono (by decide))

theorem State.beatWritten_dma (s : State) (c : Fin 32) :
    (s.beatWritten c).pr.dma = s.pr.dma ∧ (s.beatWritten c).pr.dmaLast = s.pr.dmaLast := by
  unfold State.beatWritten
  rw [(State.setBytes_parts _ _ _).same .pr (by decide)]
  exact s.opened_dma _ _

theorem State.beatPermitted.dmaBeat {s : State} {c : Fin 32} (h : s.beatPermitted c) :
    s.dmaBeat c = (s.beatWritten c).modDma c fun _ => s.pr.dma[c].advanced := by
  have hwrite : s.dmaBeat c = (s.beatWritten c).dmaAdvance c s.pr.dma[c].unit := by
    have hload : s.check (s.dmaBy_ c) .load s.pr.dma[c].src (2 ^ bitsOf s.pr.dma[c].ctrl 17 16) = none := h.load
    have hstore : s.check (s.dmaBy_ c) .store s.pr.dma[c].dst (2 ^ bitsOf s.pr.dma[c].ctrl 17 16) = none := h.store
    unfold State.dmaBeat
    dsimp only
    rw [hload, hstore]
    dsimp only
    rw [State.dmaRead_clean h.srcMem h.srcClean]
    dsimp only
    rw [h.dstMem, if_neg Bool.false_ne_true, State.memWrite_none h.dstClean]
    rfl
  obtain ⟨hdma, -⟩ := s.beatWritten_dma c
  have hmore := State.dmaAdvance_of_more (s := s.beatWritten c) (c := c) (by rw [hdma]; exact h.more)
  rw [hdma] at hmore
  rw [hwrite, hmore]

theorem State.beatPermitted.beat_shown {s : State} {k : Fin 4} {c : Fin 32} (h : s.beatPermitted c) (hup : s.up = true)
    (hgrant : s.dmaGrant = some (k, c)) (hunit : s.pr.dma[c].unit ≤ 4) : ∃ t, exec .dmaBeat s = .next t ∧
    t.memBytes s.pr.dma[c].dst s.pr.dma[c].unit = leBytes s.pr.dma[c].unit (leNat (s.memBytes s.pr.dma[c].src s.pr.dma[c].unit)) ∧
    s.keepsBytes t s.pr.dma[c].dst s.pr.dma[c].unit ∧ t.pr.dma[c] = s.pr.dma[c].advanced ∧ t.pr.dmaLast[k] = c.1 ∧
    t.get (DMA_STAT_STATE c) = 1 ∧ s.onlyChanges t [.mem, .memErr, .pr] := by
  have hlen := length_leBytes s.pr.dma[c].unit (leNat (s.memBytes s.pr.dma[c].src s.pr.dma[c].unit))
  have hexec := (exec_dmaBeat_granted hup hgrant).trans (congrArg Host.Outcome.next (h.granted k).dmaBeat)
  have hgranted : Ev 0x1000000 s (s.granted k c) := .modPr (.refl _ s)
  have hwritten : Ev 0x10000c0 s ((s.granted k c).beatWritten c) := (hgranted.mono (by decide)).trans ((s.granted k c).beatWritten_ev c)
  obtain ⟨-, hlast⟩ := (s.granted k c).beatWritten_dma c
  refine ⟨_, hexec, ?_, ?_, upd_same _ _ _, ?_, ?_, ((State.modDma_ev hwritten).mono (by decide)).onlyChanges⟩
  · have hread := State.memBytes_setBytes_of_not_flash (a := s.pr.dma[c].dst)
      (l := leBytes s.pr.dma[c].unit (leNat (s.memBytes s.pr.dma[c].src s.pr.dma[c].unit)))
      (fun i hi => State.not_flash_of_check_store h.store (by omega)) ((s.granted k c).opened s.pr.dma[c].dst s.pr.dma[c].unit)
    rwa [hlen] at hread
  · have hkept := State.setBytes_keepsBytes ((s.granted k c).opened s.pr.dma[c].dst s.pr.dma[c].unit) s.pr.dma[c].dst
      (leBytes s.pr.dma[c].unit (leNat (s.memBytes s.pr.dma[c].src s.pr.dma[c].unit)))
    rw [hlen] at hkept
    exact hkept.of_parts ((hgranted.mono (by decide)).trans ((s.granted k c).opened_ev _ _))
  · show ((s.granted k c).beatWritten c).pr.dmaLast[k] = c.1
    rw [hlast]
    exact Vector.getElem_set_self _
  · exact (congrArg (fieldOf · 31 30) (hwritten.reg_of_small (DMA_STAT c) (by decide))).trans (State.running_of_dmaGrant hgrant)

/-- A beat whose source may not be read stops the channel (R175). -/
theorem State.dmaBeat_refused {s : State} {c : Fin 32} {reason win : Nat}
    (h : s.check (s.dmaBy_ c) .load s.pr.dma[c].src (2 ^ bitsOf s.pr.dma[c].ctrl 17 16) = some (reason, win)) :
    s.dmaBeat c = s.dmaFault c 2 s.pr.dma[c].src reason false false := by
  unfold State.dmaBeat
  dsimp only
  rw [h]

end Sys2Proof.Machine
end

section
/-! PROOFS. Memory errors and the DMA channels, assembled (R142, R153, R154, R170 to R179). -/

namespace Sys2Proof.Machine

/-- Settles O53: each clause is what one operation of the scrubber, of the injection or of a channel does. -/
theorem memoryAndDma : Obligations.MemoryAndDma := by
  intro s hup
  refine ⟨?_, ?_, ?_, ?_, ?_, ?_, ?_, ?_, ?_, ?_, ?_, ?_, ?_, ?_⟩
  · exact fun hen _ => State.scrubRead_shown hup hen
  · intro ten c mode hc hown hboot hmode hservice
    refine ⟨s.armed c mode, (exec_memerrInject hup hc ten mode).trans (congrArg _ (State.twuWrite_armed hown hmode hservice)), ?_, rfl, ?_⟩
    · exact State.get_put_fits _ MEMERR_INJ_MODE mode.isLt (by decide) (by decide)
    · exact (Ev.modPr (.put (.refl _ s) 2 (by decide))).onlyChanges
  · intro ten c mode hc hown hboot
    refine ⟨s.protCount ten MEMERR_INJ, (exec_memerrInject hup hc ten mode).trans
      (congrArg _ (State.twuWrite_foreign hown hboot _ _ _)), ?_, s.protCount_count _ _, (State.protCount_ev (.refl _ s)).onlyChanges⟩
    rw [State.get_protCount _ _ _ (by decide) (by decide), State.get_put_ne _ _ (by decide)]
    exact State.get_bump_ne _ (by decide)
  · intro ten c hc hmay hidle
    obtain ⟨hexec, -, -, -⟩ := exec_dma_of_own hup hc hmay
    exact ⟨_, hexec, State.dmaStart_shown hidle⟩
  · intro ten c hc hmay hbusy
    obtain ⟨hexec, -, -, -⟩ := exec_dma_of_own hup hc hmay
    rw [State.dmaStart_refused hbusy] at hexec
    exact ⟨_, hexec, s.cmdRef_shown c⟩
  · intro ten c hc hmay
    obtain ⟨hchannel, hcount, hkept⟩ := s.dmaForeign_shown c
    have hforeign : Ev 0x1800000000 s (s.dmaForeign c) := State.dmaForeign_ev (.refl _ s)
    exact ⟨_, exec_dmaStart_of_foreign hup hc hmay, hchannel, hcount, hforeign.same .pr (by decide),
      (hforeign.mono (by decide)).onlyChanges, hkept⟩
  · intro ten c hc hmay hrun
    obtain ⟨-, hexec, -, -⟩ := exec_dma_of_own hup hc hmay
    rw [State.dmaStopCmd_running hrun] at hexec
    obtain ⟨hstate, hcode, hflag⟩ := s.dmaStop_shown c (code := 6) (by decide)
    exact ⟨_, hexec, hstate, hcode, hflag, s.dmaStop_resumeCount c 6, (State.dmaStop_ev (.refl _ s)).onlyChanges⟩
  · intro ten c hc hmay hstopped hleft hreset
    obtain ⟨-, -, hexec, -⟩ := exec_dma_of_own hup hc hmay
    exact ⟨_, hexec, State.dmaResumeCmd_shown hstopped hleft hreset⟩
  · intro ten c hc hmay hstopped
    obtain ⟨-, -, -, hexec⟩ := exec_dma_of_own hup hc hmay
    exact ⟨_, hexec, State.dmaDiscard_shown hstopped⟩
  · intro c hrun hfetch _ _ hwords hvalid
    have hexec := exec_dmaDescriptorFetch hup hrun hfetch hwords
    rw [if_pos (show descOk (s.descWord c 0) (s.descWord c 1) (s.descWord c 2) (s.descWord c 3) = true from hvalid)] at hexec
    have hchannel := s.dma_modDma_same c fun x => { x with
      src := s.descWord c 0, dst := s.descWord c 1, cnt := s.descWord c 2 % 65536, ctrl := s.descWord c 2, next := s.descWord c 3,
      fetch := false }
    exact ⟨_, hexec, congrArg DmaCh.fetch hchannel, congrArg DmaCh.src hchannel, congrArg DmaCh.dst hchannel, congrArg DmaCh.cnt hchannel,
      congrArg DmaCh.next hchannel, (s.get_modDma c _ _).trans hrun, (State.modDma_ev (.refl _ s)).onlyChanges⟩
  · intro c hrun hfetch _ _ hwords hinvalid
    have hexec := exec_dmaDescriptorFetch hup hrun hfetch hwords
    rw [if_neg (show ¬ descOk (s.descWord c 0) (s.descWord c 1) (s.descWord c 2) (s.descWord c 3) = true from
      ne_true_of_eq_false hinvalid)] at hexec
    obtain ⟨hstate, hcode, hflag⟩ := (s.modDma c fun x => { x with ctrl := s.descWord c 2 }).dmaStop_shown c (code := 9) (by decide)
    refine ⟨_, hexec, hstate, hcode, hflag, ?_, (State.dmaStop_ev (State.modDma_ev (.refl _ s))).onlyChanges⟩
    rw [State.dmaStop_dma, State.dma_modDma_same]
    exact hfetch
  · intro k c hgrant hsrcMem hdstMem hload hstore hsrcClean hdstClean hmore hunit
    obtain ⟨t, hexec, hread, hkept, hchannel, hlast, hrun, hframe⟩ := State.beatPermitted.beat_shown
      ⟨hsrcMem, hdstMem, hload, hstore, hsrcClean, hdstClean, hmore⟩ hup hgrant (DmaCh.unit_le hunit)
    exact ⟨t, hexec, hread, hkept, congrArg DmaCh.cnt hchannel, congrArg DmaCh.src hchannel, congrArg DmaCh.dst hchannel, hlast, hrun, hframe⟩
  · intro k c reason win hgrant hrefused
    have hexec := (exec_dmaBeat_granted hup hgrant).trans (congrArg _ (State.dmaBeat_refused (s := s.granted k c) hrefused))
    obtain ⟨hstate, hcode, haddr, hreason⟩ := (s.granted k c).dmaFault_shown c (code := 2) (by decide) s.pr.dma[c].src reason false false
    have hfault : Ev 0x1001000000 s ((s.granted k c).dmaFault c 2 s.pr.dma[c].src reason false false) :=
      State.dmaFault_ev (.modPr (.refl _ s))
    exact ⟨_, hexec, hstate, hcode, haddr, hreason, hfault.same .mem (by decide), (hfault.mono (by decide)).onlyChanges⟩
  · exact fun hnone => ⟨s, exec_dmaBeat_idle hup hnone, rfl⟩

end Sys2Proof.Machine
end

section
/-! PROOFS. Event strobes, event controls and doorbells (R156, R157, R159, R160, R169). -/

namespace Sys2Proof.Machine

/-! ### A control register of the event controller -/

theorem EVT_CTL_block {e : Nat} (he : e < 1024) : EVT_CTL e / 65536 % 32 = 3 := by
  unfold EVT_CTL; omega

/-- The control registers stand apart from the status registers. -/
theorem EVT_CTL_ne {e a : Nat} (he : e < 1024) (ha : a / 4096 = 0x40032) : EVT_CTL e ≠ a := by
  unfold EVT_CTL; omega

theorem State.get_put_EVT_CTL_PEND (s : State) (e : Nat) : (s.put (EVT_CTL_PEND e) 1).get (EVT_CTL_PEND e) = 1 :=
  State.get_put_flag s (EVT_CTL_PEND e) 1 (by decide : 31 < 32) rfl

theorem State.get_put_EVT_CTL_COAL (s : State) (e : Nat) {v : Nat} (hv : v < 2) :
    (s.put (EVT_CTL_COAL e) v).get (EVT_CTL_COAL e) = v :=
  (State.get_put_flag s (EVT_CTL_COAL e) v (by decide : 29 < 32) rfl).trans (Nat.mod_eq_of_lt hv)

theorem State.pend_put_EVT_CTL_COAL (s : State) (e v : Nat) :
    (s.put (EVT_CTL_COAL e) v).get (EVT_CTL_PEND e) = s.get (EVT_CTL_PEND e) :=
  State.get_put_disj (f := EVT_CTL_COAL e) (g := EVT_CTL_PEND e) s v (le_refl 29) (by decide : 31 < 32) (le_refl 31)
    (.inl (by decide : 29 < 31))

theorem State.coal_put_EVT_CTL_PEND (s : State) (e v : Nat) :
    (s.put (EVT_CTL_PEND e) v).get (EVT_CTL_COAL e) = s.get (EVT_CTL_COAL e) :=
  State.get_put_disj (f := EVT_CTL_PEND e) (g := EVT_CTL_COAL e) s v (le_refl 31) (by decide : 29 < 32) (le_refl 29)
    (.inr (by decide : 29 < 31))

/-! ### Strobes (R156, R157, R160) -/

theorem State.strobeRaw_of_pend {s : State} {e : Nat} (h : s.get (EVT_CTL_PEND e) = 1) : s.strobeRaw e = s.put (EVT_CTL_COAL e) 1 :=
  if_pos (State.flag_eq_true h)

theorem State.strobeRaw_of_clear {s : State} {e : Nat} (h : s.get (EVT_CTL_PEND e) = 0) : s.strobeRaw e = s.put (EVT_CTL_PEND e) 1 :=
  if_neg (ne_true_of_eq_false (State.flag_eq_false h))

theorem State.pend_cases (s : State) (e : Nat) : s.get (EVT_CTL_PEND e) = 0 ∨ s.get (EVT_CTL_PEND e) = 1 :=
  Nat.le_one_iff_eq_zero_or_eq_one.mp (Nat.le_of_lt_succ (s.get_lt (EVT_CTL_PEND e)))

theorem State.strobeRaw_pend (s : State) (e : Nat) : (s.strobeRaw e).get (EVT_CTL_PEND e) = 1 := by
  rcases s.pend_cases e with hclear | hpend
  · rw [State.strobeRaw_of_clear hclear, State.get_put_EVT_CTL_PEND]
  · rw [State.strobeRaw_of_pend hpend, State.pend_put_EVT_CTL_COAL, hpend]

theorem State.strobeRaw_coal_of_pend {s : State} {e : Nat} (h : s.get (EVT_CTL_PEND e) = 1) :
    (s.strobeRaw e).get (EVT_CTL_COAL e) = 1 := by
  rw [State.strobeRaw_of_pend h, State.get_put_EVT_CTL_COAL _ _ (by decide)]

theorem State.strobeRaw_coal_of_clear {s : State} {e : Nat} (h : s.get (EVT_CTL_PEND e) = 0) :
    (s.strobeRaw e).get (EVT_CTL_COAL e) = s.get (EVT_CTL_COAL e) := by
  rw [State.strobeRaw_of_clear h, State.coal_put_EVT_CTL_PEND]

theorem State.strobeRaw_keepsRegs (s : State) (e : Nat) : s.keepsRegs (s.strobeRaw e) 3 [EVT_CTL e] := by
  unfold State.strobeRaw
  split
  · exact (State.keepsRegs.refl s 3 _).put (f := EVT_CTL_COAL e) List.mem_cons_self
  · exact (State.keepsRegs.refl s 3 _).put (f := EVT_CTL_PEND e) List.mem_cons_self

/-- The source is one of the member's, and its strobe is not discarded with its tenant (R26, R156, R185). -/
structure State.asserts (s : State) (e : Nat) : Prop where
  up : s.up = true
  present : e < s.nEvents
  named : evReserved e = false
  kept : s.marked (.tenReset (s.srcTenant e)) = false

theorem State.strobe_of_asserts {s : State} {e : Nat} (h : s.asserts e) : s.strobe e =
    if s.orphan e then
      if e = 13 then s.bump EVT_STAT_ORPHAN
      else if ((s.bump EVT_STAT_ORPHAN).put EVT_LAST_ORPH e).orphan 13 then
        ((s.bump EVT_STAT_ORPHAN).put EVT_LAST_ORPH e).bump EVT_STAT_ORPHAN
      else ((s.bump EVT_STAT_ORPHAN).put EVT_LAST_ORPH e).strobeRaw 13
    else s.strobeRaw e := by
  unfold State.strobe
  rw [h.up, h.named, h.kept, decide_eq_false (Nat.not_le.mpr h.present)]
  rfl

theorem State.strobe_of_live {s : State} {e : Nat} (h : s.asserts e) (hlive : s.orphan e = false) : s.strobe e = s.strobeRaw e := by
  rw [State.strobe_of_asserts h, hlive, if_neg Bool.false_ne_true]

theorem State.strobe_of_live_shown {s : State} {e : Nat} (h : s.asserts e) (hlive : s.orphan e = false) :
    (s.strobe e).get (EVT_CTL_PEND e) = 1 ∧ (s.get (EVT_CTL_PEND e) = 1 → (s.strobe e).get (EVT_CTL_COAL e) = 1) ∧
      (s.get (EVT_CTL_PEND e) = 0 → (s.strobe e).get (EVT_CTL_COAL e) = s.get (EVT_CTL_COAL e)) ∧
      s.onlyChanges (s.strobe e) [.regs 3] ∧ s.keepsRegs (s.strobe e) 3 [EVT_CTL e] := by
  have hframe : s.onlyChanges (s.strobe e) [.regs 3] := (Ev.strobe (.refl _ s)).onlyChanges
  rw [State.strobe_of_live h hlive] at hframe ⊢
  exact ⟨s.strobeRaw_pend e, State.strobeRaw_coal_of_pend, State.strobeRaw_coal_of_clear, hframe, s.strobeRaw_keepsRegs e⟩

theorem State.strobe_of_absent {s : State} {e : Nat} (h : s.nEvents ≤ e ∨ evReserved e = true) : s.strobe e = s := by
  refine if_pos ?_
  rcases h with habsent | hreserved
  · rw [decide_eq_true habsent, Bool.or_true, Bool.true_or, Bool.true_or]
  · rw [hreserved, Bool.or_true, Bool.true_or]

/-- What makes a source an orphan stands outside the status registers of the event controller. -/
theorem State.orphan_put (s : State) {e : Nat} (he : e < 1024) {f : Fld} (hf : f.addr / 4096 = 0x40032) (v : Nat) :
    (s.put f v).orphan e = s.orphan e := by
  have hget {g : Fld} (hg : g.addr / 4096 ≠ 0x40032) : (s.put f v).get g = s.get g := s.get_put_ne v fun h => hg (h ▸ hf)
  have htenant : (s.put f v).srcTenant e = s.srcTenant e :=
    Fin.ext (congrArg (· % 8) (hget (by show EVT_ROUTE e / 4096 ≠ _; unfold EVT_ROUTE; omega)))
  have hboot : (s.put f v).bootDone = s.bootDone := congrArg (· != 0) (hget (g := BOOT_CTRL_BOOT_DONE) (by decide))
  have hstate (x : Fin 8) : (s.put f v).tenantState x = s.tenantState x := by
    unfold State.tenantState
    rw [hboot, hget (g := TWU_KILL_STOPPED) (by decide), hget (g := TEN_CORE_EN x) (by show TEN_CORE x / 4096 ≠ _; unfold TEN_CORE; omega)]
    rfl
  unfold State.orphan
  dsimp only
  rw [hboot, htenant, hstate]

/-- An orphan, whose event E013 is an orphan too, is counted twice (R160). -/
theorem State.strobe_of_orphan {s : State} {e : Nat} (h : s.asserts e) (hne : e ≠ 13) (horphan : s.orphan e = true)
    (hevent : s.orphan 13 = true) : s.strobe e = ((s.bump EVT_STAT_ORPHAN).put EVT_LAST_ORPH e).bump EVT_STAT_ORPHAN := by
  have hstill : ((s.bump EVT_STAT_ORPHAN).put EVT_LAST_ORPH e).orphan 13 = true := by
    rw [State.orphan_put _ (by decide) (by decide)]
    exact (State.orphan_put s (by decide) (by decide) _).trans hevent
  rw [State.strobe_of_asserts h, horphan, if_pos rfl, if_neg hne, if_pos hstill]

theorem satInc_satInc {top v : Nat} (hv : v ≤ top) : satInc top (satInc top v) = min top (v + 2) := by
  unfold satInc
  split <;> split <;> omega

theorem State.strobe_of_orphan_shown {s : State} {e : Nat} (h : s.asserts e) (hne : e ≠ 13) (horphan : s.orphan e = true)
    (hevent : s.orphan 13 = true) : (s.strobe e).get EVT_STAT_ORPHAN = min 65535 (s.get EVT_STAT_ORPHAN + 2) ∧
      (s.strobe e).get EVT_LAST_ORPH = e ∧ (s.strobe e).get (EVT_CTL_PEND e) = s.get (EVT_CTL_PEND e) := by
  have he : e < 1024 := lt_of_lt_of_le h.present (s.nEvents_le.trans (by decide))
  have hctl {a : Nat} (ha : a / 4096 = 0x40032) : (EVT_CTL_PEND e).addr ≠ a := EVT_CTL_ne he ha
  rw [State.strobe_of_orphan h hne horphan hevent]
  refine ⟨?_, ?_, ?_⟩
  · rw [State.get_bump_same _ _ (by decide) (by decide), State.get_put_ne _ _ (by decide),
      State.get_bump_same _ _ (by decide) (by decide)]
    exact satInc_satInc (Nat.le_of_lt_succ (s.get_lt EVT_STAT_ORPHAN))
  · rw [State.get_bump_ne _ (by decide)]
    exact State.get_put_fits _ EVT_LAST_ORPH he (by decide) (by decide)
  · rw [State.get_bump_ne _ (hctl (by decide)), State.get_put_ne _ _ (hctl (by decide)), State.get_bump_ne _ (hctl (by decide))]

/-- A strobe writes no bit below bit 16 of a register. -/
theorem State.get_strobe_low (s : State) (e : Nat) {f : Fld} (hhi : f.hi < 16) (hlo : f.lo ≤ f.hi) : (s.strobe e).get f = s.get f := by
  have hput (t : State) {g : Fld} (v : Nat) (hg : 16 ≤ g.lo ∧ g.lo ≤ g.hi) : (t.put g v).get f = t.get f :=
    t.get_put_disj v hg.2 (by omega) hlo (.inr (by omega))
  have hraw (t : State) (i : Nat) : (t.strobeRaw i).get f = t.get f := by
    unfold State.strobeRaw
    split
    · exact hput t (g := EVT_CTL_COAL i) 1 (by decide : 16 ≤ 29 ∧ 29 ≤ 29)
    · exact hput t (g := EVT_CTL_PEND i) 1 (by decide : 16 ≤ 31 ∧ 31 ≤ 31)
  have hcount (t : State) : (t.bump EVT_STAT_ORPHAN).get f = t.get f := hput t _ (by decide)
  have hlast : ((s.bump EVT_STAT_ORPHAN).put EVT_LAST_ORPH e).get f = s.get f := (hput _ _ (by decide)).trans (hcount s)
  unfold State.strobe
  split
  · rfl
  · split
    · dsimp only
      split
      · exact hcount s
      · split
        · exact (hcount _).trans hlast
        · exact (hraw _ 13).trans hlast
    · exact hraw s e

/-! ### Writes counted as foreign (R159, R169) -/

theorem State.evtForeign_shown (s : State) {e : Nat} (he : e < 1024) :
    (s.evtForeign e).get EVT_STAT_FOREIGN = satInc 65535 (s.get EVT_STAT_FOREIGN) ∧ (s.evtForeign e).get EVT_LAST_FOREIGN = e ∧
      s.onlyChanges (s.evtForeign e) [.regs 3] := by
  refine ⟨?_, ?_, (State.evtForeign_ev (.refl _ s)).onlyChanges⟩
  · unfold State.evtForeign
    rw [State.get_strobe_low _ _ (by decide) (by decide), State.get_put_ne _ _ (by decide)]
    exact State.get_bump_same _ _ (by decide) (by decide)
  · unfold State.evtForeign
    rw [State.get_strobe_low _ _ (by decide) (by decide)]
    exact State.get_put_fits _ EVT_LAST_FOREIGN he (by decide) (by decide)

theorem State.evtForeign_en (s : State) {e : Nat} (he : e < 1024) : (s.evtForeign e).get (EVT_CTL_EN e) = s.get (EVT_CTL_EN e) := by
  have hctl {a : Nat} (ha : a / 4096 = 0x40032) : (EVT_CTL_EN e).addr ≠ a := EVT_CTL_ne he ha
  unfold State.evtForeign
  rw [State.get_strobe_low _ _ (by decide : 0 < 16) (le_refl 0), State.get_put_ne _ _ (hctl (by decide)),
    State.get_bump_ne _ (hctl (by decide))]

/-! ### Writes of EVT_CTL by the tenant of the source (R12, R159) -/

/-- The write clears COAL: its bit is written 1, and has not been set on the same edge. -/
def State.coalCleared (s : State) (e : Nat) (v : Word) : Bool := bitOf v.toNat 29 && !bitOf (s.setNow (EVT_CTL e)).toNat 29

theorem State.coalCleared_iff {s : State} {e : Nat} {v : Word} : s.coalCleared e v = true ↔
    v.getLsbD 29 = true ∧ bitOf (s.setNow (EVT_CTL e)).toNat 29 = false := by
  unfold State.coalCleared
  rw [bitOf_eq_testBit v.toNat, Bool.and_eq_true, Bool.not_eq_true']
  rfl

/-- What a write of EVT_CTL does to COAL. -/
def State.coalWritten (s : State) (e : Nat) (v : Word) : State := if s.coalCleared e v then s.put (EVT_CTL_COAL e) 0 else s

theorem State.coalWritten_coal (s : State) (e : Nat) (v : Word) : (s.coalWritten e v).get (EVT_CTL_COAL e) =
    if s.coalCleared e v then 0 else s.get (EVT_CTL_COAL e) := by
  unfold State.coalWritten
  split
  · exact State.get_put_EVT_CTL_COAL s e (by decide)
  · rfl

theorem State.coalWritten_pend (s : State) (e : Nat) (v : Word) :
    (s.coalWritten e v).get (EVT_CTL_PEND e) = s.get (EVT_CTL_PEND e) := by
  unfold State.coalWritten
  split
  · exact State.pend_put_EVT_CTL_COAL s e 0
  · rfl

theorem State.coalWritten_keepsRegs (s : State) (e : Nat) (v : Word) : s.keepsRegs (s.coalWritten e v) 3 [EVT_CTL e] := by
  unfold State.coalWritten
  split
  · exact (State.keepsRegs.refl s 3 _).put (f := EVT_CTL_COAL e) List.mem_cons_self
  · exact .refl s 3 _

theorem State.evtCtlWrite_own {s : State} {ten e : Nat} (he : e < s.nEvents) (hown : s.get (EVT_ROUTE_TENANT e) = ten) (v : Word) :
    s.evtCtlWrite ten e v = (s.coalWritten e v).put (EVT_CTL_EN e) v.toNat := by
  unfold State.evtCtlWrite
  rw [if_neg (Nat.not_le.mpr he), if_pos (.inl hown)]
  rfl

theorem State.evtCtlWrite_foreign {s : State} {ten e : Nat} (he : e < s.nEvents) (hother : s.get (EVT_ROUTE_TENANT e) ≠ ten)
    (hboot : s.bootDone = true) (v : Word) : s.evtCtlWrite ten e v = s.evtForeign e := by
  have hnot : ¬ (s.get (EVT_ROUTE_TENANT e) = ten ∨ (ten = 0 ∧ ¬ s.bootDone)) := by
    rintro (hown | ⟨-, hbooting⟩)
    · exact hother hown
    · exact hbooting hboot
  unfold State.evtCtlWrite
  rw [if_neg (Nat.not_le.mpr he), if_neg hnot]

theorem State.evtCtlWrite_own_shown {s : State} {ten e : Nat} (he : e < s.nEvents) (hown : s.get (EVT_ROUTE_TENANT e) = ten)
    (v : Word) : (s.evtCtlWrite ten e v).get (EVT_CTL_EN e) = v.toNat % 2 ∧
      (s.evtCtlWrite ten e v).get (EVT_CTL_COAL e) = (if s.coalCleared e v then 0 else s.get (EVT_CTL_COAL e)) ∧
      (s.evtCtlWrite ten e v).get (EVT_CTL_PEND e) = s.get (EVT_CTL_PEND e) ∧ s.onlyChanges (s.evtCtlWrite ten e v) [.regs 3] ∧
      s.keepsRegs (s.evtCtlWrite ten e v) 3 [EVT_CTL e] := by
  have hblock : EVT_CTL e / 65536 % 32 = 3 := EVT_CTL_block (lt_of_lt_of_le he (s.nEvents_le.trans (by decide)))
  have hev : Ev 0x800000000 s (s.coalWritten e v) := .ite (fun _ => .put (.refl _ s) 3 hblock) fun _ => .refl _ s
  have hhigh {i : Nat} (hi : 0 < i ∧ i < 32) :
      ((s.coalWritten e v).put (EVT_CTL_EN e) v.toNat).get ⟨EVT_CTL e, i, i⟩ = (s.coalWritten e v).get ⟨EVT_CTL e, i, i⟩ :=
    State.get_put_disj (f := EVT_CTL_EN e) _ _ (le_refl 0) hi.2 (le_refl i) (.inl hi.1)
  rw [State.evtCtlWrite_own he hown]
  exact ⟨State.get_put_flag _ (EVT_CTL_EN e) _ (by decide : 0 < 32) rfl, (hhigh (by decide)).trans (s.coalWritten_coal e v),
    (hhigh (by decide)).trans (s.coalWritten_pend e v),
    (Ev.put (f := EVT_CTL_EN e) (v := v.toNat) hev 3 hblock).onlyChanges (ps := [.regs 3]),
    (s.coalWritten_keepsRegs e v).put (f := EVT_CTL_EN e) List.mem_cons_self⟩

/-! ### Doorbells (R156, R169) -/

theorem evReserved_of_doorbell {n : Nat} (h : isDoorbell n = true) : evReserved n = false := by
  have hlow : ∀ i < 8, evReserved (16 + i) = false := by decide
  have hhigh : ∀ i < 8, evReserved (194 + i) = false := by decide
  unfold isDoorbell at h
  simp only [Bool.or_eq_true, decide_eq_true_eq] at h
  rcases h with h | h
  · exact Nat.add_sub_cancel' h.1 ▸ hlow (n - 16) (by omega)
  · exact Nat.add_sub_cancel' h.1 ▸ hhigh (n - 194) (by omega)

theorem State.doorbell_of_number {s : State} {n : Nat} (hbell : isDoorbell n = true) (hn : n < s.nEvents) : s.doorbell n = s.strobe n := by
  unfold State.doorbell
  rw [hbell, if_neg (by decide), if_neg (Nat.not_le.mpr hn)]

theorem State.doorbell_of_other {s : State} {n : Nat} (hother : isDoorbell n = false) : s.doorbell n = s.evtForeign n := by
  unfold State.doorbell
  rw [hother, if_pos (by decide)]

/-! ### Commands to a unit that runs -/

theorem exec_eventStrobe (s : State) (e : BitVec 10) : exec (.eventStrobe e) s = .next (s.strobe e.toNat) := rfl

theorem exec_evtCtlWrite {s : State} (hup : s.up = true) (ten : Fin 8) (e : BitVec 10) (v : Word) :
    exec (.evtCtlWrite ten e v) s = .next (s.evtCtlWrite ten e.toNat v) :=
  congrArg Host.Outcome.next (State.whenUp_of_up hup _)

theorem exec_doorbell {s : State} (hup : s.up = true) (n : BitVec 10) : exec (.doorbell n) s = .next (s.doorbell n.toNat) :=
  congrArg Host.Outcome.next (State.whenUp_of_up hup _)

end Sys2Proof.Machine
end

section
/-! PROOFS. The assignment of tenants to cores (R7, R130, R142). -/

namespace Sys2Proof.Machine

theorem TEN_CORE_block (x : Fin 8) : TEN_CORE x / 65536 % 32 = 2 := by
  unfold TEN_CORE; omega

theorem TEN_CORE_ne (x : Fin 8) : TEN_CORE x ≠ TWU_STAT ∧ TEN_CORE x ≠ TWU_PWCNT ∧ TEN_CORE x ≠ TWU_PWADDR := by
  unfold TEN_CORE TWU_STAT TWU_PWCNT TWU_PWADDR; omega

/-- The bit EN of a word written to TEN_CORE. -/
theorem bitOf_four_eq_true {n : Nat} : bitOf n 4 = true ↔ n / 16 % 2 = 1 := by
  unfold bitOf; simp

theorem b2n_bitOf_four (n : Nat) : b2n (bitOf n 4) = n / 16 % 2 := by
  have hbit := bitOf_four_eq_true (n := n)
  unfold b2n
  split <;> rename_i h
  · exact (hbit.mp h).symm
  · have hne : ¬ n / 16 % 2 = 1 := fun h1 => h (hbit.mpr h1)
    omega

/-- A tenant assigned to its core. -/
def State.assigned (s : State) (x : Fin 8) (v : Word) : State :=
  (s.put (TEN_CORE_EN x) (v.toNat / 16 % 2)).put (TEN_CORE_CORE x) (v.toNat % 4)

theorem State.tenCoreWrite_eq (s : State) {x : Fin 8} (hx : x ≠ 0) (v : Word) : s.tenCoreWrite x v =
    if bitOf v.toNat 4 && (decide (s.nCores ≤ v.toNat % 4) || decide (4 ≤ s.coreLoad (v.toNat % 4) x)) then s.put TWU_STAT_CFGERR 1
    else s.assigned x v := by
  unfold State.tenCoreWrite State.assigned
  dsimp only
  rw [if_neg fun h : x.1 = 0 => hx (Fin.ext h), b2n_bitOf_four]

theorem State.tenCoreWrite_refused {s : State} {x : Fin 8} {v : Word} (hx : x ≠ 0) (hen : v.toNat / 16 % 2 = 1)
    (hlimit : s.nCores ≤ v.toNat % 4 ∨ 4 ≤ s.coreLoad (v.toNat % 4) x) : s.tenCoreWrite x v = s.put TWU_STAT_CFGERR 1 := by
  rw [State.tenCoreWrite_eq s hx, if_pos]
  rw [bitOf_four_eq_true.mpr hen, Bool.true_and, Bool.or_eq_true, decide_eq_true_eq, decide_eq_true_eq]
  exact hlimit

theorem State.tenCoreWrite_assigned {s : State} {x : Fin 8} {v : Word} (hx : x ≠ 0)
    (hfits : v.toNat / 16 % 2 = 1 → v.toNat % 4 < s.nCores ∧ s.coreLoad (v.toNat % 4) x < 4) : s.tenCoreWrite x v = s.assigned x v := by
  rw [State.tenCoreWrite_eq s hx, if_neg]
  rw [Bool.and_eq_true, Bool.or_eq_true, decide_eq_true_eq, decide_eq_true_eq, bitOf_four_eq_true]
  rintro ⟨hen, habsent | hfull⟩
  · exact Nat.not_le.mpr (hfits hen).1 habsent
  · exact Nat.not_le.mpr (hfits hen).2 hfull

theorem State.assigned_shown (s : State) (x : Fin 8) (v : Word) : (s.assigned x v).get (TEN_CORE_EN x) = v.toNat / 16 % 2 ∧
    (s.assigned x v).get (TEN_CORE_CORE x) = v.toNat % 4 ∧ s.onlyChanges (s.assigned x v) [.regs 2] ∧
    s.keepsRegs (s.assigned x v) 2 [TEN_CORE x] := by
  refine ⟨?_, ?_, ?_, ?_⟩
  · refine (State.get_put_disj (f := TEN_CORE_CORE x) (g := TEN_CORE_EN x) _ _ (by decide : 0 ≤ 1) (by decide : 4 < 32) (le_refl 4)
      (.inl (by decide : 1 < 4))).trans ?_
    exact State.get_put_fits s (TEN_CORE_EN x) (Nat.mod_lt _ (by decide)) (by decide : 4 < 32) (le_refl 4)
  · exact State.get_put_fits _ (TEN_CORE_CORE x) (Nat.mod_lt _ (by decide)) (by decide : 1 < 32) (by decide : 0 ≤ 1)
  · exact (Ev.put (f := TEN_CORE_CORE x) (.put (f := TEN_CORE_EN x) (.refl _ s) 2 (TEN_CORE_block x)) 2 (TEN_CORE_block x)).onlyChanges
      (ps := [.regs 2])
  · exact ((State.keepsRegs.refl s 2 _).put (f := TEN_CORE_EN x) List.mem_cons_self).put (f := TEN_CORE_CORE x) List.mem_cons_self

/-- A counted write names the tenant and the address (R7). -/
theorem State.protCount_last (s : State) (ten : Fin 8) (a : Nat) : (s.protCount ten a).get TWU_PWCNT_LASTTEN = ten.1 := by
  rw [State.get_protCount _ _ _ (by decide) (by decide)]
  exact State.get_put_fits _ TWU_PWCNT_LASTTEN ten.2 (by decide) (by decide)

theorem State.reg_protCount (s : State) (ten a : Nat) {b : Nat} (hb : b / 65536 ≠ 0x4003) : (s.protCount ten a).reg b =
    (((s.bump TWU_PWCNT_COUNT).put TWU_PWCNT_LASTTEN ten).setReg TWU_PWADDR (BitVec.ofNat 32 a)).reg b := by
  have hstrobed := State.reg_strobe (((s.bump TWU_PWCNT_COUNT).put TWU_PWCNT_LASTTEN ten).setReg TWU_PWADDR (BitVec.ofNat 32 a)) 11 b hb
  unfold State.protCount
  dsimp only
  split
  · exact (State.reg_emcy _ _ _ _).trans hstrobed
  · exact hstrobed

theorem State.protCount_addr (s : State) (ten : Nat) {a : Nat} (ha : a < 2 ^ 32) : ((s.protCount ten a).reg TWU_PWADDR).toNat = a := by
  rw [State.reg_protCount _ _ _ (by decide), State.reg_setReg_same]
  exact Nat.mod_eq_of_lt ha

theorem State.protCount_other (s : State) (ten a : Nat) {b : Nat} (hb : b / 65536 ≠ 0x4003) (hcount : b ≠ TWU_PWCNT)
    (haddr : b ≠ TWU_PWADDR) : (s.protCount ten a).reg b = s.reg b := by
  rw [State.reg_protCount _ _ _ hb, State.reg_setReg_ne _ _ haddr, State.reg_put_ne _ _ hcount]
  exact State.reg_put_ne _ _ hcount

/-- After BOOT_DONE a write is counted; before it tenant 0 assigns (R130, R142). -/
theorem exec_tenCoreWrite {s : State} {x : Fin 8} (hup : s.up = true) (hx : x.1 < s.nTenants) (ten : Fin 8) (v : Word) :
    exec (.tenCoreWrite ten x v) s = .next (if s.bootDone then s.protCount ten (TEN_CORE x)
      else if ten = 0 then s.tenCoreWrite x v else s) :=
  congrArg Host.Outcome.next ((State.whenUp_of_up hup _).trans (if_neg (Nat.not_le.mpr hx)))

theorem exec_tenCoreWrite_booting {s : State} {x : Fin 8} (hup : s.up = true) (hx : x.1 < s.nTenants) (hboot : s.bootDone = false)
    (v : Word) : exec (.tenCoreWrite 0 x v) s = .next (s.tenCoreWrite x v) := by
  rw [exec_tenCoreWrite hup hx, hboot, if_neg Bool.false_ne_true, if_pos rfl]

theorem exec_tenCoreWrite_booted {s : State} {x : Fin 8} (hup : s.up = true) (hx : x.1 < s.nTenants) (hboot : s.bootDone = true)
    (ten : Fin 8) (v : Word) : exec (.tenCoreWrite ten x v) s = .next (s.protCount ten (TEN_CORE x)) := by
  rw [exec_tenCoreWrite hup hx, hboot, if_pos rfl]

end Sys2Proof.Machine
end

section
/-! PROOFS. Event controls, assembled (R7, R130, R142, R156 to R160, R169). -/

namespace Sys2Proof.Machine

/-- Settles O45: a strobe, a write of EVT_CTL, a doorbell and a write of TEN_CORE, each by what its command becomes in its case. -/
theorem eventControls : Obligations.EventControls := by
  unfold Obligations.EventControls
  intro s hup
  refine ⟨?_, ?_, ?_, ?_, ?_, ?_, ?_, ?_, ?_, ?_⟩
  · intro e he hnamed hkept hlive
    exact ⟨_, exec_eventStrobe s e, State.strobe_of_live_shown ⟨hup, he, hnamed, hkept⟩ hlive⟩
  · intro e habsent
    rw [exec_eventStrobe, State.strobe_of_absent habsent]
  · intro e he hne hnamed hkept horphan hevent
    obtain ⟨hcount, hlast, hpend⟩ := State.strobe_of_orphan_shown ⟨hup, he, hnamed, hkept⟩ hne horphan hevent
    exact ⟨_, exec_eventStrobe s e, hcount, hlast, hpend, (Ev.strobe (.refl _ s)).onlyChanges⟩
  · intro ten e v he hown
    obtain ⟨hen, hcoal, hpend, hframe, hregs⟩ := State.evtCtlWrite_own_shown he hown v
    refine ⟨_, exec_evtCtlWrite hup ten e v, hen, fun hone hnot => ?_, fun hzero => ?_, hpend, hframe, hregs⟩
    · rw [hcoal, if_pos (State.coalCleared_iff.mpr ⟨hone, hnot⟩)]
    · rw [hcoal, if_neg fun h => Bool.false_ne_true (hzero.symm.trans (State.coalCleared_iff.mp h).1)]
  · intro ten e v he hother hboot
    have hexec := exec_evtCtlWrite hup ten e v
    rw [State.evtCtlWrite_foreign he hother hboot] at hexec
    obtain ⟨hcount, hlast, hframe⟩ := s.evtForeign_shown e.isLt
    exact ⟨_, hexec, s.evtForeign_en e.isLt, hlast, hcount, hframe⟩
  · intro n hbell hn hkept hlive
    have hexec := exec_doorbell hup n
    rw [State.doorbell_of_number hbell hn] at hexec
    obtain ⟨hpend, -, -, hframe, hregs⟩ := State.strobe_of_live_shown ⟨hup, hn, evReserved_of_doorbell hbell, hkept⟩ hlive
    exact ⟨_, hexec, hpend, hframe, hregs⟩
  · intro n hother
    have hexec := exec_doorbell hup n
    rw [State.doorbell_of_other hother] at hexec
    obtain ⟨hcount, hlast, hframe⟩ := s.evtForeign_shown n.isLt
    exact ⟨_, hexec, hcount, hlast, hframe⟩
  · rintro ten x v hboot rfl hx hpresent hfits
    have hexec := exec_tenCoreWrite_booting hup hpresent hboot v
    rw [State.tenCoreWrite_assigned hx hfits] at hexec
    exact ⟨_, hexec, s.assigned_shown x v⟩
  · rintro ten x v hboot rfl hx hpresent hen hlimit
    have hexec := exec_tenCoreWrite_booting hup hpresent hboot v
    rw [State.tenCoreWrite_refused hx hen hlimit] at hexec
    obtain ⟨hstat, -, -⟩ := TEN_CORE_ne x
    exact ⟨_, hexec, State.get_put_fits s TWU_STAT_CFGERR (by decide) (by decide) (by decide), State.get_put_ne s (g := TEN_CORE_EN x) _ hstat,
      (Ev.put (.refl _ s) 2 (by decide)).onlyChanges⟩
  · intro ten x v hboot hpresent
    obtain ⟨-, hcount, haddr⟩ := TEN_CORE_ne x
    have hblock := TEN_CORE_block x
    exact ⟨_, exec_tenCoreWrite_booted hup hpresent hboot ten v, s.protCount_count _ _, s.protCount_last ten _,
      s.protCount_addr _ (by unfold TEN_CORE; omega), s.protCount_other _ _ (by omega) hcount haddr,
      (State.protCount_ev (.refl _ s)).onlyChanges⟩

end Sys2Proof.Machine
end

section
/-! PROOFS. Shadow writes, commits and discards of the parameter groups of an axis (R181 to R184, R317). -/

namespace Sys2Proof.Machine

/-! ### A group and its control register -/

theorem PGroup.ctl_page (g : PGroup) (a : Fin 8) : g.ctl a / 65536 = 0x4011 ∨ g.ctl a / 65536 = 0x4018 := by
  revert a
  cases g <;> decide

/-- A field of a control register stands in block 17 or 24. -/
theorem Ev.putCtl {m : Nat} {s t : State} {f : Fld} {v : Nat} (h : Ev m s t) (g : PGroup) (a : Fin 8) (hf : f.addr = g.ctl a)
    (h17 : m.testBit 49 = true := by decide) (h24 : m.testBit 56 = true := by decide) : Ev m s (t.put f v) := by
  rcases g.ctl_page a with hpage | hpage
  · exact h.put 17 (by rw [hf, hpage]) h17
  · exact h.put 24 (by rw [hf, hpage]) h24

theorem Ev.get_ctl {m : Nat} {s t : State} {f : Fld} (h : Ev m s t) (g : PGroup) (a : Fin 8) (hf : f.addr = g.ctl a)
    (h17 : m.testBit 49 = false := by decide) (h24 : m.testBit 56 = false := by decide) : t.get f = s.get f := by
  refine congrArg (fieldOf · f.hi f.lo) ?_
  rcases g.ctl_page a with hpage | hpage
  · exact h.reg 17 (by rw [hf, hpage]; rfl) h17
  · exact h.reg 24 (by rw [hf, hpage]; rfl) h24

theorem Ev.pset {m : Nat} {s t : State} (h : Ev m s t) (g : PGroup) (a : Fin 8) (hgain : m.testBit 17 = false := by decide)
    (hroute : m.testBit 18 = false := by decide) (htension : m.testBit 19 = false := by decide) : t.pset g a = s.pset g a := by
  cases g
  · exact congrArg (fun v : Vector Pset 8 => v[a]) (h.same .gain hgain)
  · exact congrArg (fun v : Vector Pset 8 => v[a]) (h.same .route hroute)
  · exact congrArg (fun v : Vector Pset 8 => v[a]) (h.same .tension htension)

theorem State.pset_setPset_same (s : State) (g : PGroup) (a : Fin 8) (p : Pset) : (s.setPset g a p).pset g a = p := by
  cases g <;> exact Vector.getElem_set_self a.2

/-- The group holds `p`; its control register shows whether it is dirty, and the holder. -/
def State.psetTaken (s : State) (g : PGroup) (a : Fin 8) (p : Pset) (dirty holder : Nat) : State :=
  ((s.setPset g a p).put (psDirty (g.ctl a)) dirty).put (psHolder (g.ctl a)) holder

theorem State.psetTaken_pset (s : State) (g : PGroup) (a : Fin 8) (p : Pset) (dirty holder : Nat) :
    (s.psetTaken g a p dirty holder).pset g a = p := by
  have hctl : Ev 0x102000000000000 (s.setPset g a p) (s.psetTaken g a p dirty holder) :=
    .putCtl (.putCtl (.refl _ _) g a rfl) g a rfl
  exact (hctl.pset g a).trans (s.pset_setPset_same g a p)

theorem State.psetTaken_dirty (s : State) (g : PGroup) (a : Fin 8) (p : Pset) {dirty : Nat} (hdirty : dirty < 2) (holder : Nat) :
    (s.psetTaken g a p dirty holder).get (psDirty (g.ctl a)) = dirty :=
  (State.get_put_disj (f := psHolder (g.ctl a)) (g := psDirty (g.ctl a)) _ _ (by decide : 24 ≤ 26) (by decide : 31 < 32) (le_refl 31)
    (.inl (by decide : 26 < 31))).trans (State.get_put_fits _ (psDirty (g.ctl a)) hdirty (by decide : 31 < 32) (le_refl 31))

theorem State.psetTaken_holder (s : State) (g : PGroup) (a : Fin 8) (p : Pset) (dirty : Nat) {holder : Nat} (hholder : holder < 8) :
    (s.psetTaken g a p dirty holder).get (psHolder (g.ctl a)) = holder :=
  State.get_put_fits _ (psHolder (g.ctl a)) hholder (by decide : 26 < 32) (by decide : 24 ≤ 26)

theorem State.psetTaken_ev (s : State) (g : PGroup) (a : Fin 8) (p : Pset) (dirty holder : Nat) :
    Ev 0x1020000000e0000 s (s.psetTaken g a p dirty holder) := .putCtl (.putCtl (State.setPset_ev (.refl _ s)) g a rfl) g a rfl

/-! ### The holder (R182) -/

theorem State.psetHeld_of_holder {s : State} {g : PGroup} {a : Fin 8} {ten : Nat} (h : s.get (psHolder (g.ctl a)) = ten) :
    s.psetHeld g a ten = false := by
  unfold State.psetHeld
  rw [h, bne_self_eq_false, Bool.and_false]

theorem State.psetHeld_of_other {s : State} {g : PGroup} {a : Fin 8} {ten : Nat} (hdirty : s.get (psDirty (g.ctl a)) = 1)
    (hother : s.get (psHolder (g.ctl a)) ≠ ten) : s.psetHeld g a ten = true := by
  unfold State.psetHeld
  rw [State.flag_eq_true hdirty, Bool.true_and]
  exact bne_iff_ne.mpr hother

theorem State.psetRefuse_shown (s : State) (g : PGroup) (a : Fin 8) : (s.psetRefuse g a).get (psRefused (g.ctl a)) = 1 ∧
    (s.psetRefuse g a).pset g a = s.pset g a ∧ s.onlyChanges (s.psetRefuse g a) [.regs 3, .regs 17, .regs 24] := by
  have hput : Ev 0x102000800000000 s (s.put (psRefused (g.ctl a)) 1) := .putCtl (.refl _ s) g a rfl
  have hstrobe : Ev 0x800000000 (s.put (psRefused (g.ctl a)) 1) (s.psetRefuse g a) := .strobe (.refl _ _)
  have hev := hput.comp hstrobe (by decide)
  refine ⟨(hstrobe.get_ctl g a rfl).trans ?_, hev.pset g a, hev.onlyChanges (ps := [.regs 3, .regs 17, .regs 24])⟩
  exact State.get_put_flag s (psRefused (g.ctl a)) 1 (by decide : 30 < 32) rfl

/-! ### Shadow writes (R181, R182) -/

/-- The group with word `i` of its shadow written. -/
def PGroup.shadowed (g : PGroup) (p : Pset) (i : Nat) (v : Word) : Pset :=
  { p with shadow := p.shadow.set i (v &&& BitVec.ofNat 32 (g.masks.getD i 0)) }

theorem State.psetWrite_held {s : State} {g : PGroup} {a : Fin 8} {ten : Nat} (h : s.psetHeld g a ten = true) (i : Nat) (v : Word) :
    s.psetWrite g a i ten v = s.psetRefuse g a := if_pos h

theorem State.psetWrite_fits {s : State} {g : PGroup} {a : Fin 8} {i ten : Nat} {v : Word} (hfree : s.psetHeld g a ten = false)
    (hfits : g.fits i v = true) : s.psetWrite g a i ten v = s.psetTaken g a (g.shadowed (s.pset g a) i v) 1 ten := by
  unfold State.psetWrite
  rw [hfree, hfits, if_neg Bool.false_ne_true, if_neg (by decide)]
  rfl

theorem State.psetWrite_unfit {s : State} {g : PGroup} {a : Fin 8} {i ten : Nat} {v : Word} (hfree : s.psetHeld g a ten = false)
    (hunfit : g.fits i v = false) : s.psetWrite g a i ten v =
      if g = .tension then s.put LIO_STAT_CFGREF 1 else s.put (ENG_STAT_CFGREF a) 1 := by
  unfold State.psetWrite
  rw [hfree, hunfit, if_neg Bool.false_ne_true, if_pos (by decide)]

/-- The registers that show a discarded write are no control registers of groups. -/
theorem PGroup.ctl_ne_stat (g : PGroup) (a : Fin 8) : g.ctl a ≠ LIO_STAT ∧ g.ctl a ≠ ENG_STAT a := by
  revert a
  cases g <;> decide

theorem ENG_STAT_block (a : Fin 8) : ENG_STAT a / 65536 % 32 = 17 := by
  unfold ENG_STAT; omega

theorem State.psetWrite_unfit_shown {s : State} {g : PGroup} {a : Fin 8} {i ten : Nat} {v : Word} (hfree : s.psetHeld g a ten = false)
    (hunfit : g.fits i v = false) : (s.psetWrite g a i ten v).pset g a = s.pset g a ∧
      (s.psetWrite g a i ten v).get (psDirty (g.ctl a)) = s.get (psDirty (g.ctl a)) ∧
      s.onlyChanges (s.psetWrite g a i ten v) [.regs 17, .regs 24] := by
  obtain ⟨hlio, heng⟩ := g.ctl_ne_stat a
  have hev : Ev 0x102000000000000 s (s.psetWrite g a i ten v) := by
    rw [State.psetWrite_unfit hfree hunfit]
    exact .ite (fun _ => .put (.refl _ s) 24 (by decide)) fun _ => .put (.refl _ s) 17 (ENG_STAT_block a)
  refine ⟨hev.pset g a, ?_, hev.onlyChanges (ps := [.regs 17, .regs 24])⟩
  rw [State.psetWrite_unfit hfree hunfit]
  split
  · exact State.get_put_ne s (g := psDirty (g.ctl a)) 1 hlio
  · exact State.get_put_ne s (f := ENG_STAT_CFGREF a) (g := psDirty (g.ctl a)) 1 heng

/-! ### Commit and discard (R183, R317) -/

theorem State.psetCommit_clean {s : State} {g : PGroup} {a : Fin 8} (h : s.get (psDirty (g.ctl a)) = 0) (ten : Nat) :
    s.psetCommit g a ten = s := by
  unfold State.psetCommit
  rw [State.flag_eq_false h]
  rfl

theorem State.psetCommit_held {s : State} {g : PGroup} {a : Fin 8} {ten : Nat} (hdirty : s.get (psDirty (g.ctl a)) = 1)
    (hother : s.get (psHolder (g.ctl a)) ≠ ten) : s.psetCommit g a ten = s.psetRefuse g a := by
  unfold State.psetCommit
  rw [State.flag_eq_true hdirty, State.psetHeld_of_other hdirty hother]
  rfl

/-- The group with its shadow made live. -/
def Pset.committed (p : Pset) : Pset := { p with live := p.shadow }

theorem State.psetCommit_own {s : State} {g : PGroup} {a : Fin 8} {ten : Nat} (hdirty : s.get (psDirty (g.ctl a)) = 1)
    (hholder : s.get (psHolder (g.ctl a)) = ten) (hroute : g = .route → (s.route[a].shadow.headD 0).toNat % 4 < 2) :
    s.psetCommit g a ten = if g = .route then ((s.psetTaken g a (s.pset g a).committed 0 0).strobe (evAxis a + 7)).routeRamp a (s.routeOf a)
      else (s.psetTaken g a (s.pset g a).committed 0 0).strobe (evAxis a + 7) := by
  unfold State.psetCommit
  rw [State.flag_eq_true hdirty, State.psetHeld_of_holder hholder, if_neg (by decide), if_neg Bool.false_ne_true]
  refine if_neg ?_
  rintro ⟨rfl, hrefused⟩
  have hlow : ((s.pset .route a).shadow.headD 0).toNat % 4 < 2 := hroute rfl
  omega

theorem State.routeRamp_otherAxes {s t : State} {a : Fin 8} (h : s.keepsOtherAxes t a) (old : Nat) :
    s.keepsOtherAxes (t.routeRamp a old) a := by
  unfold State.routeRamp
  dsimp only
  split
  · exact h
  · split
    · exact h.modAxis
    · split
      · exact h.modAxis
      · exact h

/-- A commit takes the group; the rest of it strobes an event and, with a changed route, begins the ramp of the axis. -/
theorem State.psetCommit_own_ev {s : State} {g : PGroup} {a : Fin 8} {ten : Nat} (hdirty : s.get (psDirty (g.ctl a)) = 1)
    (hholder : s.get (psHolder (g.ctl a)) = ten) (hroute : g = .route → (s.route[a].shadow.headD 0).toNat % 4 < 2) :
    Ev 0x800000400 (s.psetTaken g a (s.pset g a).committed 0 0) (s.psetCommit g a ten) ∧ s.keepsOtherAxes (s.psetCommit g a ten) a := by
  have hstrobe : Ev 0x800000400 (s.psetTaken g a (s.pset g a).committed 0 0)
      ((s.psetTaken g a (s.pset g a).committed 0 0).strobe (evAxis a + 7)) := .strobe (.refl _ _)
  have haxes : s.keepsOtherAxes ((s.psetTaken g a (s.pset g a).committed 0 0).strobe (evAxis a + 7)) a :=
    (State.keepsOtherAxes.refl s a).congr ((State.strobe_axes _ _).trans ((s.psetTaken_ev g a _ 0 0).same .axes (by decide)))
  rw [State.psetCommit_own hdirty hholder hroute]
  split
  · exact ⟨State.routeRamp_ev hstrobe, State.routeRamp_otherAxes haxes _⟩
  · exact ⟨hstrobe, haxes⟩

theorem State.psetDiscard_held {s : State} {g : PGroup} {a : Fin 8} {ten : Nat} (hdirty : s.get (psDirty (g.ctl a)) = 1)
    (hother : s.get (psHolder (g.ctl a)) ≠ ten) : s.psetDiscard g a ten = s.psetRefuse g a := by
  unfold State.psetDiscard
  rw [State.flag_eq_true hdirty, State.psetHeld_of_other hdirty hother]
  rfl

/-- The group with its shadow reloaded. -/
def Pset.reloaded (p : Pset) : Pset := { p with shadow := p.live }

theorem State.psetDiscard_own {s : State} {g : PGroup} {a : Fin 8} {ten : Nat} (hdirty : s.get (psDirty (g.ctl a)) = 1)
    (hholder : s.get (psHolder (g.ctl a)) = ten) : s.psetDiscard g a ten = s.psetTaken g a (s.pset g a).reloaded 0 0 := by
  unfold State.psetDiscard
  rw [State.flag_eq_true hdirty, State.psetHeld_of_holder hholder]
  rfl

/-! ### Commands to a unit that runs -/

theorem exec_psetShadowWrite {s : State} {g : Fin 3} {a : Fin 8} {k : Fin 10} (hup : s.up = true) (ha : a.1 < s.nAxes)
    (hk : k.1 < (groupOf g).masks.length) (ten : Fin 8) (v : Word) :
    exec (.psetShadowWrite g a k ten v) s = .next (s.psetWrite (groupOf g) a k ten v) :=
  congrArg Host.Outcome.next ((State.whenUp_of_up hup _).trans (if_pos ⟨ha, hk⟩))

theorem exec_psetCommit {s : State} {a : Fin 8} (hup : s.up = true) (ha : a.1 < s.nAxes) (g : Fin 3) (ten : Fin 8) :
    exec (.psetCommit g a ten) s = .next (s.psetCommit (groupOf g) a ten) :=
  congrArg Host.Outcome.next ((State.whenUp_of_up hup _).trans (if_pos ha))

theorem exec_psetDiscard {s : State} {a : Fin 8} (hup : s.up = true) (ha : a.1 < s.nAxes) (g : Fin 3) (ten : Fin 8) :
    exec (.psetDiscard g a ten) s = .next (s.psetDiscard (groupOf g) a ten) :=
  congrArg Host.Outcome.next ((State.whenUp_of_up hup _).trans (if_pos ha))

/-- Settles O46: a write, a commit and a discard either take the group, or are refused, or leave it as it is. A word out of range is
discarded after log entry 29. -/
theorem parameterGroups : Obligations.ParameterGroups := by
  unfold Obligations.ParameterGroups
  intro s g a ten hup ha
  have hcommit := exec_psetCommit hup ha g ten
  have hdiscard := exec_psetDiscard hup ha g ten
  refine ⟨?_, ?_, ?_, ?_, ?_, ?_, ?_, ?_⟩
  · intro k v hk hfree hfits
    have hwrite := exec_psetShadowWrite hup ha hk ten v
    rw [State.psetWrite_fits hfree hfits] at hwrite
    exact ⟨_, hwrite, s.psetTaken_pset _ _ _ _ _, s.psetTaken_dirty _ _ _ (by decide) _, s.psetTaken_holder _ _ _ _ ten.2,
      (s.psetTaken_ev _ _ _ _ _).onlyChanges (ps := [.gain, .route, .tension, .regs 17, .regs 24])⟩
  · intro k v hk hheld
    have hwrite := exec_psetShadowWrite hup ha hk ten v
    rw [State.psetWrite_held hheld] at hwrite
    exact ⟨_, hwrite, s.psetRefuse_shown _ _⟩
  · intro k v hk hfree hunfit
    exact ⟨_, exec_psetShadowWrite hup ha hk ten v, State.psetWrite_unfit_shown hfree hunfit⟩
  · intro hdirty hholder hroute
    obtain ⟨hrest, haxes⟩ := State.psetCommit_own_ev hdirty hholder hroute
    have htaken := s.psetTaken_ev (groupOf g) a (s.pset (groupOf g) a).committed 0 0
    refine ⟨_, hcommit, (hrest.pset _ a).trans (s.psetTaken_pset _ _ _ _ _), (hrest.get_ctl (groupOf g) a rfl).trans ?_,
      (hrest.get_ctl (groupOf g) a rfl).trans ?_, haxes, ?_⟩
    · exact s.psetTaken_dirty _ _ _ (by decide) _
    · exact s.psetTaken_holder _ _ _ _ (by decide)
    · exact ((htaken.mono (m := 0x1020008000e0400) (by decide)).comp hrest (by decide)).onlyChanges
        (ps := [.axes, .gain, .route, .tension, .regs 3, .regs 17, .regs 24])
  · intro hdirty hother
    rw [State.psetCommit_held hdirty hother] at hcommit
    exact ⟨_, hcommit, s.psetRefuse_shown _ _⟩
  · intro hclean
    rw [State.psetCommit_clean hclean] at hcommit
    exact ⟨_, hcommit, rfl⟩
  · intro hdirty hholder
    rw [State.psetDiscard_own hdirty hholder] at hdiscard
    exact ⟨_, hdiscard, s.psetTaken_pset _ _ _ _ _, s.psetTaken_dirty _ _ _ (by decide) _, s.psetTaken_holder _ _ _ _ (by decide),
      (s.psetTaken_ev _ _ _ _ _).onlyChanges (ps := [.gain, .route, .tension, .regs 17, .regs 24])⟩
  · intro hdirty hother
    rw [State.psetDiscard_held hdirty hother] at hdiscard
    exact ⟨_, hdiscard, s.psetRefuse_shown _ _⟩

end Sys2Proof.Machine
end

section
/-! PROOFS. Satellites: what a command changes of one satellite and of the lines (R192 to R198, R223, R231). -/

set_option Elab.async false

namespace Sys2Proof.Machine

/-! ### One satellite of 48 -/

theorem satIdx_ne {p q : Fin 6} {k j : Fin 8} (h : q ≠ p ∨ j ≠ k) : satIdx q j ≠ satIdx p k := by
  intro heq
  have hval : 8 * q.1 + j.1 = 8 * p.1 + k.1 := congrArg Fin.val heq
  rcases h with h | h
  · exact h (Fin.ext (by omega))
  · exact h (Fin.ext (by omega))

theorem State.sat_modSat (s : State) (p : Fin 6) (k : Fin 8) (f : Sat → Sat) : (s.modSat p k f).sat p k = f (s.sat p k) := upd_same _ _ _

theorem State.modSat_congr {s : State} {p : Fin 6} {k : Fin 8} {f g : Sat → Sat} (h : f (s.sat p k) = g (s.sat p k)) :
    s.modSat p k f = s.modSat p k g :=
  congrArg (fun x => { s with sats := s.sats.set (satIdx p k).1 x (satIdx p k).2 }) h

theorem State.keepsOtherSats.refl (s : State) (p : Fin 6) (k : Fin 8) : s.keepsOtherSats s p k := fun _ _ _ => rfl

theorem State.keepsOtherSats.modSat {s t : State} {p : Fin 6} {k : Fin 8} (h : s.keepsOtherSats t p k) (f : Sat → Sat) :
    s.keepsOtherSats (t.modSat p k f) p k := fun q j hne => (upd_ne _ _ _ _ (satIdx_ne hne)).trans (h q j hne)

/-- A change of one satellite, and of nothing else. -/
theorem State.modSat_frame (s : State) (p : Fin 6) (k : Fin 8) (f : Sat → Sat) :
    s.keepsOtherSats (s.modSat p k f) p k ∧ s.onlyChanges (s.modSat p k f) [.sats] :=
  ⟨(State.keepsOtherSats.refl s p k).modSat f, (State.modSat_ev (.refl _ s)).onlyChanges⟩

/-! ### Measurements on record (R258, R259) -/

/-- What a measurement may change of a gate: the record in progress, the codes and the switching time. -/
def Gate.measured (g g' : Gate) : Prop := g' = { g with meas := g'.meas, con := g'.con, coff := g'.coff, tsw := g'.tsw }

/-- What measurements may change of a satellite. -/
structure Sat.measured (x y : Sat) : Prop where
  rest : y = { x with high := y.high, low := y.low, tsw := y.tsw }
  high : x.high.measured y.high
  low : x.low.measured y.low

theorem Gate.measured.trans {g g' g'' : Gate} (h : g.measured g') (h' : g'.measured g'') : g.measured g'' := by
  unfold Gate.measured at *
  rw [h', h]

theorem Sat.measured.refl (x : Sat) : x.measured x := ⟨rfl, rfl, rfl⟩

theorem Sat.measured.trans {x y z : Sat} (h : x.measured y) (h' : y.measured z) : x.measured z := by
  refine ⟨?_, h.high.trans h'.high, h.low.trans h'.low⟩
  rw [h'.rest, h.rest]

theorem Sat.measured.modGate {x : Sat} {hi : Bool} {f : Gate → Gate} (hf : ∀ g : Gate, g.measured (f g)) :
    x.measured (x.modGate hi f) := by
  cases hi
  · exact ⟨rfl, rfl, hf _⟩
  · exact ⟨rfl, hf _, rfl⟩

theorem Sat.measure_measured (x : Sat) (hi on : Bool) (tsw : Nat) : x.measured (x.measure hi on tsw) := by
  unfold Sat.measure
  extract_lets v
  refine Sat.measured.trans (Sat.measured.modGate fun g => ?_) ⟨rfl, rfl, rfl⟩
  cases bitOf x.profMode 0 <;> cases on <;> rfl

theorem Sat.settle_measured (x : Sat) (now : Nat) : x.measured (x.settle now) := by
  unfold Sat.settle
  extract_lets one
  have hone (hi : Bool) (y : Sat) : y.measured (one hi y) := by
    simp only [one]
    split
    · split
      · exact Sat.measured.trans (.modGate (f := fun g => { g with meas := none }) fun _ => rfl) (Sat.measure_measured _ _ _ _)
      · exact .refl y
    · exact .refl y
  split
  · split
    · exact (hone _ x).trans (hone _ _)
    · exact (hone _ x).trans (hone _ _)
  · exact (hone _ x).trans (hone _ _)

/-- A frame that is taken leaves the parts that measurements do not concern. -/
theorem Sat.framed_keeps {α : Type} (part : Sat → α) (x : Sat) (t : Nat)
    (hpart : ∀ y h l n fr, part { y with high := h, low := l, tsw := n, frame := fr } = part y := by exact fun _ _ _ _ _ => rfl) :
    part (x.framed t) = part x := by
  unfold Sat.framed
  rw [(x.settle_measured (t + 81)).rest]
  exact hpart x _ _ _ _

/-- It leaves the parts of a gate that measurements do not concern. -/
theorem Sat.framed_gate {α : Type} (part : Gate → α) (x : Sat) (t : Nat)
    (hpart : ∀ g m c d n, part { g with meas := m, con := c, coff := d, tsw := n } = part g := by exact fun _ _ _ _ _ => rfl) :
    part (x.framed t).high = part x.high ∧ part (x.framed t).low = part x.low := by
  have hmeasured := x.settle_measured (t + 81)
  have hhigh := hmeasured.high
  have hlow := hmeasured.low
  constructor
  · show part (x.settle (t + 81)).high = _
    rw [hhigh]
    exact hpart _ _ _ _ _
  · show part (x.settle (t + 81)).low = _
    rw [hlow]
    exact hpart _ _ _ _ _

/-! ### Frames (R223) -/

/-- The unit with the frame of reference point `t` taken by the satellite. -/
def State.frameTaken (s : State) (p : Fin 6) (k : Fin 8) (t : Nat) : State := s.modSat p k (·.framed t)

theorem State.frameTaken_sat (s : State) (p : Fin 6) (k : Fin 8) (t : Nat) : (s.frameTaken p k t).sat p k = (s.sat p k).framed t :=
  s.sat_modSat p k _

theorem State.satWhen_of_running {s : State} {p : Fin 6} {k : Fin 8} (h : (s.sat p k).inReset = false) (f : State → State) :
    s.satWhen p k f = f s := if_neg (by rw [h]; decide)

/-- A frame reaches a satellite that listens. -/
theorem State.satFrame_of_listens {s : State} {p : Fin 6} {k : Fin 8} (h : s.listens p k) (t : Nat) (f : State → State) :
    s.satFrame p k t f = f (s.frameTaken p k t) :=
  (State.satWhen_of_running h.1 _).trans (if_pos h.2)

/-- No further frame is taken before the select is released. -/
theorem State.satFrame_of_taken {s : State} {p : Fin 6} {k : Fin 8} (h : (s.sat p k).frame = .taken) (t : Nat) (f : State → State) :
    s.satFrame p k t f = s := by
  unfold State.satFrame State.satWhen
  dsimp only
  rw [h, if_neg (by decide : ¬SatFrame.taken = .idle), ite_self]

/-! ### Replies (R192, R233) -/

/-- The satellite becomes `y` and drives the reply word `w`; nothing else changes. -/
structure State.answers (s t : State) (p : Fin 6) (k : Fin 8) (y : Sat) (w : Nat) : Prop where
  sat : t.sat p k = { y with driving := true }
  reply : s.replied t p k w
  others : s.keepsOtherSats t p k
  frame : s.onlyChanges t [.wire, .sats]

/-- Once a frame is taken, the satellite is changed and drives a word. -/
theorem State.frameTaken_reply (s : State) (p : Fin 6) (k : Fin 8) (t : Nat) (f : Sat → Sat) (w : Nat) :
    s.answers (((s.frameTaken p k t).modSat p k f).satReply p k w) p k (f ((s.sat p k).framed t)) w := by
  refine ⟨?_, rfl, ?_, Ev.onlyChanges (State.satReply_ev (State.modSat_ev (State.modSat_ev (.refl _ s))))⟩
  · show ((((s.frameTaken p k t).modSat p k f).modSat p k _).sat p k) = _
    rw [State.sat_modSat, State.sat_modSat, State.frameTaken_sat]
  · exact (((State.keepsOtherSats.refl s p k).modSat _).modSat _).modSat _

/-- A command that is carried out. -/
theorem State.satDo_answers (s : State) (p : Fin 6) (k : Fin 8) (f : CmdFrame) (pay : Sat → Nat) (g : Sat → Sat) :
    s.answers ((s.frameTaken p k f.t).satDo p k f.alive pay g) p k (g (s.heard p k f))
      (frameWord f.alive (s.heard p k f).status (pay (s.heard p k f))) := by
  have h := s.frameTaken_reply p k f.t (fun y => g (y.accept f.alive)) (frameWord f.alive (s.heard p k f).status (pay (s.heard p k f)))
  unfold State.satDo State.answer
  rw [State.frameTaken_sat]
  exact h

/-- A command that is refused (R231). -/
theorem State.satRefuse_answers (s : State) (p : Fin 6) (k : Fin 8) (t alive : Nat) :
    s.answers ((s.frameTaken p k t).satRefuse p k alive) p k (((s.sat p k).framed t).refuse alive)
      (frameWord alive (((s.sat p k).framed t).refuse alive).status ((((s.sat p k).framed t).refuse alive).statePayload true)) := by
  have h := s.frameTaken_reply p k t (·.refuse alive)
    (frameWord alive (((s.sat p k).framed t).refuse alive).status ((((s.sat p k).framed t).refuse alive).statePayload true))
  unfold State.satRefuse State.answer
  rw [State.frameTaken_sat]
  exact h

/-- A WRITE that takes effect (R235). -/
theorem State.satWriteReg_answers {s : State} {p : Fin 6} {k : Fin 8} {t a v : Nat} {cmp : Bool} {y : Sat}
    (h : ((s.sat p k).framed t).writeReg a v (t + 81) cmp = some y) (alive : Nat) :
    s.answers ((s.frameTaken p k t).satWriteReg p k t alive a v cmp false) p k (y.accept alive)
      (frameWord alive (y.accept alive).status (regPayload false a (((y.accept alive).readReg a).getD 0))) := by
  have hreply := s.frameTaken_reply p k t (fun _ => y.accept alive)
    (frameWord alive (y.accept alive).status (regPayload false a (((y.accept alive).readReg a).getD 0)))
  unfold State.satWriteReg State.answer
  rw [State.frameTaken_sat]
  dsimp only
  rw [if_neg Bool.false_ne_true, h]
  exact hreply

end Sys2Proof.Machine
end

section
/-! PROOFS. Reads of a satellite: STATUS, READ, TLM_READ and DIAG_READ (R229, R234, R235, R249, R278, R284). -/

set_option Elab.async false

namespace Sys2Proof.Machine

theorem exec_satStatus {s : State} {p : Fin 6} {k : Fin 8} (h : s.listens p k) (f : CmdFrame) :
    exec (.satStatus p k f 0) s = .next ((s.frameTaken p k f.t).satDo p k f.alive (·.statePayload false) id) :=
  congrArg Host.Outcome.next ((State.satFrame_of_listens h f.t _).trans (if_pos rfl))

theorem exec_satStatus_of_taken {s : State} {p : Fin 6} {k : Fin 8} (h : (s.sat p k).frame = .taken) (f : CmdFrame) (payload : BitVec 24) :
    exec (.satStatus p k f payload) s = .next s :=
  congrArg Host.Outcome.next (State.satFrame_of_taken h f.t _)

/-- Which addresses are mapped does not depend on the satellite (R254, R283). -/
theorem Sat.readReg_isSome (x y : Sat) (a : Nat) : (x.readReg a).isSome = (y.readReg a).isSome := by
  unfold Sat.readReg
  split
  -- the telemetry registers and the unmapped addresses
  case h_23 => split <;> rfl
  all_goals simp only [Option.isSome_some]

/-- A READ in form, of a mapped address (R235). -/
theorem exec_satRead {s : State} {p : Fin 6} {k : Fin 8} (h : s.listens p k) {f : CmdFrame} {payload : BitVec 24} {v : Nat}
    (hres : payload.toNat / 2 ^ 22 = 0) (hdata : payload.toNat % 2 ^ 16 = 0)
    (hread : (s.heard p k f).readReg (payload.toNat / 65536) = some v) :
    exec (.satRead p k f payload) s = .next (((s.frameTaken p k f.t).modSat p k fun _ => s.heard p k f).satReply p k
      (frameWord f.alive (s.heard p k f).status (regPayload false (payload.toNat / 65536) v))) := by
  have haddr : bitsOf payload.toNat 21 16 = payload.toNat / 65536 := by unfold bitsOf; omega
  have hform : (bitsOf payload.toNat 23 22 != 0 || bitsOf payload.toNat 15 0 != 0) = false := by
    have htop : bitsOf payload.toNat 23 22 = 0 := by unfold bitsOf; omega
    have hlow : bitsOf payload.toNat 15 0 = 0 := by unfold bitsOf; omega
    rw [htop, hlow]
    rfl
  obtain ⟨w, hmapped⟩ : ∃ w, ((s.sat p k).framed f.t).readReg (payload.toNat / 65536) = some w :=
    Option.isSome_iff_exists.mp ((Sat.readReg_isSome _ _ _).trans (congrArg Option.isSome hread))
  refine congrArg Host.Outcome.next ((State.satFrame_of_listens h f.t _).trans ?_)
  dsimp only
  rw [State.frameTaken_sat, haddr, hmapped, hform]
  dsimp only
  rw [if_neg Bool.false_ne_true]
  show ((s.frameTaken p k f.t).modSat p k fun _ => s.heard p k f).answer p k (s.heard p k f)
    (regPayload false (payload.toNat / 65536) (((s.heard p k f).readReg (payload.toNat / 65536)).getD 0)) = _
  rw [hread]
  rfl

/-- The payload of TLM_READ for channel `i` (R249). -/
def Sat.tlmPayload (i : Fin 7) (x : Sat) : Nat := i.1 * 2 ^ 20 + bitsOf x.tlm[i] 15 14 * 2 ^ 18 + x.seq * 2 ^ 12 + x.tlm[i] % 4096

theorem exec_satTlmRead {s : State} {p : Fin 6} {k : Fin 8} (h : s.listens p k) (f : CmdFrame) (i : Fin 7) :
    exec (.satTlmRead p k f (BitVec.ofNat 24 (i.1 * 2 ^ 20))) s =
      .next ((s.frameTaken p k f.t).satDo p k f.alive (Sat.tlmPayload i) id) := by
  have hpayload : (BitVec.ofNat 24 (i.1 * 2 ^ 20)).toNat = i.1 * 2 ^ 20 := (BitVec.toNat_ofNat _ _).trans (Nat.mod_eq_of_lt (by omega))
  have hdiv : i.1 * 2 ^ 20 / 2 ^ 20 = i.1 := Nat.mul_div_cancel _ (by decide)
  refine congrArg Host.Outcome.next ((State.satFrame_of_listens h f.t _).trans ?_)
  dsimp only
  simp only [hpayload, hdiv, Nat.mul_mod_left, ne_eq, not_true_eq_false, if_false, i.2, dite_true]
  rfl

/-- The payload of DIAG_READ (R284). -/
def Sat.diagPayload (x : Sat) : Nat := x.diagClass * 2 ^ 21 + x.diagVA * 2 ^ 15 + x.diagVB * 2 ^ 9 + x.diagTB

theorem exec_satDiagRead {s : State} {p : Fin 6} {k : Fin 8} (h : s.listens p k) (f : CmdFrame) :
    exec (.satDiagRead p k f 0) s =
      .next ((s.frameTaken p k f.t).satDo p k f.alive Sat.diagPayload fun x => { x with diagReady := false }) :=
  congrArg Host.Outcome.next ((State.satFrame_of_listens h f.t _).trans (if_neg fun hne => hne rfl))

/-- What a frame leaves of the satellite is what the payload shows. -/
theorem State.heard_keeps {α : Type} (part : Sat → α) (s : State) (p : Fin 6) (k : Fin 8) (f : CmdFrame)
    (hframed : ∀ y h l n fr, part { y with high := h, low := l, tsw := n, frame := fr } = part y := by exact fun _ _ _ _ _ => rfl)
    (haccept : ∀ y n, part (Sat.accept y n) = part y := by exact fun _ _ => rfl) : part (s.heard p k f) = part (s.sat p k) :=
  (haccept _ _).trans ((s.sat p k).framed_keeps part f.t hframed)

/-- Settles O1: each of the four commands is one frame taken and one word driven, which `State.answers` says. -/
theorem satelliteAnswersReads : Obligations.SatelliteAnswersReads := by
  unfold Obligations.SatelliteAnswersReads
  intro s p k f hlistens
  refine ⟨?_, ?_, ?_, ?_⟩
  · obtain ⟨hsat, hreply, hothers, hframe⟩ := s.satDo_answers p k f (·.statePayload false) id
    exact ⟨_, exec_satStatus hlistens f, hsat, hreply, hothers, hframe, exec_satStatus_of_taken (by rw [hsat]; rfl) f⟩
  · intro payload v hres hdata hread
    obtain ⟨hsat, hreply, hothers, hframe⟩ := s.frameTaken_reply p k f.t (fun _ => s.heard p k f)
      (frameWord f.alive (s.heard p k f).status (regPayload false (payload.toNat / 65536) v))
    exact ⟨_, exec_satRead hlistens hres hdata hread, hsat, hreply, hothers, hframe⟩
  · intro i
    obtain ⟨hsat, hreply, hothers, hframe⟩ := s.satDo_answers p k f (Sat.tlmPayload i) id
    rw [s.heard_keeps (Sat.tlmPayload i) p k f] at hreply
    exact ⟨_, exec_satTlmRead hlistens f i, hsat, hreply, hothers, hframe⟩
  · obtain ⟨hsat, hreply, hothers, hframe⟩ := s.satDo_answers p k f Sat.diagPayload fun x => { x with diagReady := false }
    rw [s.heard_keeps Sat.diagPayload p k f] at hreply
    exact ⟨_, exec_satDiagRead hlistens f, hsat, hreply, hothers, hframe⟩

end Sys2Proof.Machine
end

section
/-! PROOFS. Writes of a satellite's registers, and the select release (R197, R223, R235, R245, R254, R262, R270, R283). -/

set_option Elab.async false

namespace Sys2Proof.Machine

/-! ### The registers that a WRITE changes (R245, R254, R283) -/

/-- The addresses of the configuration set (R245). -/
def satConfigSet : List Nat := [0x08, 0x09, 0x10, 0x11, 0x12, 0x13, 0x14, 0x18, 0x19, 0x1A]

theorem mem_satConfigSet_of_satSetBit {a b : Nat} (h : satSetBit a = some b) : a ∈ satConfigSet := by
  unfold satSetBit at h
  split at h
  all_goals first | decide | cases h

theorem satConfigSet_plain : ∀ a ∈ satConfigSet, a < 64 ∧ a ≠ 1 ∧ a ≠ 2 ∧ a ≠ 5 := by decide

/-- A configuration-set register is read back as it was stored, before CONFIG_DONE. -/
theorem Sat.readReg_store {x : Sat} {a : Nat} (ha : a ∈ satConfigSet) (hdone : x.done = false) (v w alive : Nat) :
    ({ (({ x.store a v with written := w } : Sat).accept alive) with driving := true } : Sat).readReg a = some v := by
  simp only [satConfigSet, List.mem_cons, List.not_mem_nil, or_false] at ha
  rcases ha with rfl | rfl | rfl | rfl | rfl | rfl | rfl | rfl | rfl | rfl
  all_goals simp [Sat.store, Sat.accept, Sat.readReg, hdone]

/-- A WRITE of a configuration-set register before CONFIG_DONE (R245). -/
theorem Sat.writeReg_config {x : Sat} {a v b m now : Nat} {cmp : Bool} (hset : satSetBit a = some b) (hwritable : satWritable a = some m)
    (hres : v &&& (0xFFFF ^^^ m) = 0) (hrange : satInRange a v = true) (hdone : x.done = false) :
    x.writeReg a v now cmp = some { x.store a v with written := x.written ||| 2 ^ b } := by
  obtain ⟨-, hctrl, hflags, hcount⟩ := satConfigSet_plain a (mem_satConfigSet_of_satSetBit hset)
  unfold Sat.writeReg
  rw [hwritable]
  dsimp only
  rw [if_neg (not_not.mpr hres), if_neg hctrl, if_neg hflags, if_neg hcount, hrange, if_neg (by decide), hset]
  dsimp only
  rw [hdone, if_neg (by simp)]

/-- DONE with WRITTEN complete (R245). -/
theorem Sat.writeReg_done {x : Sat} (hwritten : x.written = 0x3FF) (hdone : x.done = false) (now : Nat) (cmp : Bool) :
    x.writeReg 1 1 now cmp = some ({ x with done := true, boot := false } : Sat).loadCodes := by
  show x.configDone = _
  unfold Sat.configDone
  rw [if_neg (not_not.mpr hwritten), hdone, if_neg Bool.false_ne_true]

theorem bitOf_bitVec {w : Nat} (b : BitVec w) (i : Nat) : bitOf b.toNat i = b.getLsbD i := bitOf_eq_testBit _ _

/-- A write of FLAGS that no standing cause refuses clears the flags written 1 (R262, R270). -/
theorem Sat.writeReg_flags {x : Sat} {bits : BitVec 16} {cmp : Bool} (hres : bits.toNat &&& (0xFFFF ^^^ 0x81F7) = 0)
    (hshort : (bits.getLsbD 7 && cmp) = false) (hsupply : (bits.getLsbD 6 && (x.low.posUv || x.low.negUv)) = false) (now : Nat) :
    ∃ y, x.writeReg 2 bits.toNat now cmp = some y ∧ y.intlk = (x.intlk && !bits.getLsbD 8) ∧ y.sc = (x.sc && !bits.getLsbD 7) ∧
      y.uv = (x.uv && !bits.getLsbD 6) ∧ y.ca = (x.ca && !bits.getLsbD 5) ∧ y.haltSeen = (x.haltSeen && !bits.getLsbD 4) := by
  have hwrite : x.writeReg 2 bits.toNat now cmp = x.clearFlags bits.toNat cmp := if_neg (not_not.mpr hres)
  rw [hwrite]
  unfold Sat.clearFlags
  simp only [bitOf_bitVec]
  rw [hshort, hsupply, if_neg (by decide)]
  exact ⟨_, rfl, rfl, rfl, rfl, rfl, rfl⟩

/-- Any write of ERRCNT clears both counts (R254). -/
theorem Sat.writeReg_errcnt (x : Sat) (v now : Nat) (cmp : Bool) : x.writeReg 5 v now cmp = some { x with badCnt := 0, cmdCnt := 0 } :=
  if_neg (not_not.mpr (Nat.and_zero v))

/-! ### The commands -/

theorem exec_satWrite {s : State} {p : Fin 6} {k : Fin 8} (h : s.listens p k) {payload : BitVec 24} {a v : Nat}
    (hpayload : payload.toNat = a * 65536 + v) (hv : v < 65536) (ha : a < 64) (now : Nat) (alive : Fin 16) (cmp : Bool) :
    exec (.satWrite p k now alive payload cmp) s = .next ((s.frameTaken p k now).satWriteReg p k now alive a v cmp false) := by
  have haddr : bitsOf payload.toNat 21 16 = a := by unfold bitsOf; omega
  have hdata : bitsOf payload.toNat 15 0 = v := by unfold bitsOf; omega
  have hform : bitsOf payload.toNat 23 22 = 0 := by unfold bitsOf; omega
  refine congrArg Host.Outcome.next ((State.satFrame_of_listens h now _).trans ?_)
  rw [haddr, hdata, hform]
  rfl

theorem exec_satConfigDone {s : State} {p : Fin 6} {k : Fin 8} (h : s.listens p k) (now : Nat) (alive : Fin 16) :
    exec (.satConfigDone p k now alive) s = .next ((s.frameTaken p k now).satWriteReg p k now alive 1 1 false false) :=
  congrArg Host.Outcome.next (State.satFrame_of_listens h now _)

theorem exec_satFlagsClear {s : State} {p : Fin 6} {k : Fin 8} (h : s.listens p k) (now : Nat) (alive : Fin 16) (bits : BitVec 16)
    (cmp : Bool) : exec (.satFlagsClear p k now alive bits cmp) s =
      .next ((s.frameTaken p k now).satWriteReg p k now alive 2 bits.toNat cmp false) :=
  congrArg Host.Outcome.next (State.satFrame_of_listens h now _)

theorem exec_satErrcntClear {s : State} {p : Fin 6} {k : Fin 8} (h : s.listens p k) (now : Nat) (alive : Fin 16) (data : BitVec 16) :
    exec (.satErrcntClear p k now alive data) s = .next ((s.frameTaken p k now).satWriteReg p k now alive 5 data.toNat false false) :=
  congrArg Host.Outcome.next (State.satFrame_of_listens h now _)

/-! ### The select release (R197, R223) -/

/-- The satellite after a select release that runs no reset. -/
def Sat.released (x : Sat) : Sat := { (if x.frame = .opened then x.badCommand else x) with driving := false, frame := .idle }

theorem exec_satSelectRelease {s : State} {p : Fin 6} {k : Fin 8} (hrun : (s.sat p k).inReset = false)
    (hdue : (s.sat p k).srstDue = false) :
    exec (.satSelectRelease p k) s = .next (s.modSat p k Sat.released) :=
  congrArg Host.Outcome.next ((State.satWhen_of_running hrun _).trans (State.modSat_congr (if_neg (by rw [hdue]; decide))))

/-! ### The statement -/

/-- Settles O2: a WRITE is one frame whose register write succeeds, so the satellite becomes what `Sat.writeReg` answers; the release
ends the frame. -/
theorem satelliteWritesTakeEffect : Obligations.SatelliteWritesTakeEffect := by
  unfold Obligations.SatelliteWritesTakeEffect
  intro s p k now alive hrun
  have hdoneKept := (s.sat p k).framed_keeps (·.done) now
  have hwrittenKept := (s.sat p k).framed_keeps (·.written) now
  refine ⟨?_, ?_, ?_, ?_, ?_, ?_⟩
  · intro hidle payload cmp a b v m hpayload hv hset hwritable hres hrange hdone
    have ha := mem_satConfigSet_of_satSetBit hset
    obtain ⟨hsat, -, hothers, hframe⟩ := State.satWriteReg_answers (s := s) (p := p) (k := k) (cmp := cmp)
      (Sat.writeReg_config (now := now + 81) hset hwritable hres hrange (hdoneKept.trans hdone)) alive
    refine ⟨_, exec_satWrite ⟨hrun, hidle⟩ hpayload hv (satConfigSet_plain a ha).1 now alive cmp, ?_⟩
    rw [hsat]
    exact ⟨Sat.readReg_store ha (hdoneKept.trans hdone) v _ _, congrArg (· ||| 2 ^ b) hwrittenKept, rfl, rfl, hothers, hframe⟩
  · intro hidle hwritten hdone
    obtain ⟨hsat, -, hothers, hframe⟩ := State.satWriteReg_answers (s := s) (p := p) (k := k)
      (Sat.writeReg_done (hwrittenKept.trans hwritten) (hdoneKept.trans hdone) (now + 81) false) alive
    refine ⟨_, exec_satConfigDone ⟨hrun, hidle⟩ now alive, ?_⟩
    rw [hsat]
    exact ⟨rfl, rfl, rfl, hothers, hframe⟩
  · intro hidle bits cmp hres hshort hsupply
    have hposKept := ((s.sat p k).framed_gate (·.posUv) now).2
    have hnegKept := ((s.sat p k).framed_gate (·.negUv) now).2
    rw [← hposKept, ← hnegKept] at hsupply
    obtain ⟨y, hwrite, hintlk, hsc, huv, hca, hhalt⟩ := Sat.writeReg_flags hres hshort hsupply (now + 81)
    obtain ⟨hsat, -, hothers, hframe⟩ := State.satWriteReg_answers (s := s) (p := p) (k := k) hwrite alive
    refine ⟨_, exec_satFlagsClear ⟨hrun, hidle⟩ now alive bits cmp, ?_⟩
    rw [hsat]
    exact ⟨hintlk.trans (congrArg (· && !bits.getLsbD 8) ((s.sat p k).framed_keeps (·.intlk) now)),
      hsc.trans (congrArg (· && !bits.getLsbD 7) ((s.sat p k).framed_keeps (·.sc) now)),
      huv.trans (congrArg (· && !bits.getLsbD 6) ((s.sat p k).framed_keeps (·.uv) now)),
      hca.trans (congrArg (· && !bits.getLsbD 5) ((s.sat p k).framed_keeps (·.ca) now)),
      hhalt.trans (congrArg (· && !bits.getLsbD 4) ((s.sat p k).framed_keeps (·.haltSeen) now)), hothers, hframe⟩
  · intro hidle data
    obtain ⟨hsat, -, hothers, hframe⟩ := State.satWriteReg_answers (s := s) (p := p) (k := k)
      (Sat.writeReg_errcnt ((s.sat p k).framed now) data.toNat (now + 81) false) alive
    refine ⟨_, exec_satErrcntClear ⟨hrun, hidle⟩ now alive data, ?_⟩
    rw [hsat]
    exact ⟨rfl, rfl, rfl, hothers, hframe⟩
  · intro hdue hframe
    refine ⟨_, exec_satSelectRelease hrun hdue, ?_, s.modSat_frame p k _⟩
    rw [State.sat_modSat]
    unfold Sat.released
    rw [if_neg hframe]
  · intro hdue hframe
    refine ⟨_, exec_satSelectRelease hrun hdue, ?_⟩
    rw [State.sat_modSat]
    unfold Sat.released
    rw [if_pos hframe]
    exact ⟨rfl, rfl, rfl, s.modSat_frame p k _⟩

end Sys2Proof.Machine
end

section
/-! PROOFS. Conversions and diagnostic runs of a satellite; refused and bad commands (R197, R226 to R232, R249 to R251, R275 to R277). -/

set_option Elab.async false

namespace Sys2Proof.Machine

/-! ### Starts (R251, R275) -/

theorem exec_satTlmStart {s : State} {p : Fin 6} {k : Fin 8} (h : s.listens p k) (hauto : bitOf (s.sat p k).tlmcfg 15 = false)
    (hconv : (s.sat p k).conv = none) (hdiag : (s.sat p k).diag = none) (f : CmdFrame) (i : Fin 7) :
    exec (.satTlmStart p k f (BitVec.ofNat 24 (i.1 * 2 ^ 20))) s =
      .next ((s.frameTaken p k f.t).satDo p k f.alive (·.statePayload false) fun y => { y with conv := some i }) := by
  have hpayload : (BitVec.ofNat 24 (i.1 * 2 ^ 20)).toNat = i.1 * 2 ^ 20 := (BitVec.toNat_ofNat _ _).trans (Nat.mod_eq_of_lt (by omega))
  have hdiv : i.1 * 2 ^ 20 / 2 ^ 20 = i.1 := Nat.mul_div_cancel _ (by decide)
  have hcfg := (s.sat p k).framed_keeps (·.tlmcfg) f.t
  have hfree := ((s.sat p k).framed_keeps (·.conv) f.t).trans hconv
  have hquiet := ((s.sat p k).framed_keeps (·.diag) f.t).trans hdiag
  refine congrArg Host.Outcome.next ((State.satFrame_of_listens h f.t _).trans ?_)
  dsimp only at hcfg hfree hquiet ⊢
  rw [State.frameTaken_sat, hcfg, hauto, hfree, hquiet, if_neg (by decide), hpayload, if_neg (by simp)]
  simp only [hdiv, i.2, dite_true]

/-- What measurements change is not what a run waits for (R246, R275). -/
theorem Sat.framed_still (x : Sat) (t now : Nat) : (x.framed t).still now = x.still now := by
  obtain ⟨hhigh, hlow⟩ := x.framed_gate (·.on) t
  obtain ⟨hhighEnd, hlowEnd⟩ := x.framed_gate (·.profEnd) t
  have hevents := x.framed_keeps (·.events) t
  unfold Sat.still
  rw [hhigh, hlow, hhighEnd, hlowEnd, hevents]

theorem exec_satDiagStart {s : State} {p : Fin 6} {k : Fin 8} (h : s.listens p k) (hdiag : (s.sat p k).diag = none) {t : Nat}
    (hstill : (s.sat p k).still (t + 81) = true) (alive : Fin 16) (isel : Fin 3) :
    exec (.satDiagStart p k t alive (BitVec.ofNat 24 (isel.1 * 2 ^ 22))) s =
      .next ((s.frameTaken p k t).satDo p k alive (·.statePayload false) fun y => { y with diag := some isel.1 }) := by
  have hpayload : (BitVec.ofNat 24 (isel.1 * 2 ^ 22)).toNat = isel.1 * 2 ^ 22 :=
    (BitVec.toNat_ofNat _ _).trans (Nat.mod_eq_of_lt (by omega))
  have hdiv : isel.1 * 2 ^ 22 / 2 ^ 22 = isel.1 := Nat.mul_div_cancel _ (by decide)
  have hmod : isel.1 * 2 ^ 22 % 2 ^ 22 = 0 := Nat.mul_mod_left _ _
  have hquiet := ((s.sat p k).framed_keeps (·.diag) t).trans hdiag
  refine congrArg Host.Outcome.next ((State.satFrame_of_listens h t _).trans ?_)
  dsimp only at hquiet ⊢
  rw [State.frameTaken_sat, hquiet, Sat.framed_still, hstill, if_neg (by decide), hpayload, hdiv, hmod]
  exact if_neg (by simp [Nat.ne_of_lt isel.2])

/-! ### Completions (R249, R251, R276, R277) -/

/-- The result `v` of channel `c` is stored. -/
def Sat.converted (x : Sat) (c : Fin 7) (v : Nat) : Sat :=
  { x with
    tlm := x.tlm.set c.1 (2 ^ 15 + b2n (v = 4095) * 2 ^ 14 + v) c.2
    seq := (x.seq + 1) % 64
    conv := if bitOf x.tlmcfg 15 && x.diag.isNone then nextChannel (x.tlmcfg % 128) c.1 else none }

theorem exec_satTlmConversionDone {s : State} {p : Fin 6} {k : Fin 8} (hrun : (s.sat p k).inReset = false) {c : Fin 7}
    (hconv : (s.sat p k).conv = some c) (result : BitVec 12) (ovr : Bool) :
    exec (.satTlmConversionDone p k result ovr) s = .next (s.modSat p k (·.converted c (if ovr then 4095 else result.toNat))) := by
  refine congrArg Host.Outcome.next ((State.satWhen_of_running hrun _).trans (State.modSat_congr ?_))
  rw [hconv]
  rfl

/-- The run ends with its class and the values of DIAG_READ, and AUTO goes on. -/
def Sat.diagDone (x : Sat) (va vb : BitVec 12) (tb : Nat) : Sat :=
  ({ x with
    diag := none, diagReady := true
    diagClass := diagClassOf va.toNat vb.toNat tb x.diagcfg
    diagVA := min 63 (va.toNat / 64), diagVB := min 63 (vb.toNat / 64)
    diagTB := if 65408 ≤ tb then 511 else tb / 128 } : Sat).convAuto

theorem exec_satDiagRunDone {s : State} {p : Fin 6} {k : Fin 8} (hrun : (s.sat p k).inReset = false)
    (hdiag : (s.sat p k).diag.isSome = true) (hconv : (s.sat p k).conv = none) (va vb : BitVec 12) (tb : Nat) :
    exec (.satDiagRunDone p k va vb tb) s = .next (s.modSat p k (·.diagDone va vb tb)) := by
  refine congrArg Host.Outcome.next ((State.satWhen_of_running hrun _).trans (State.modSat_congr (if_neg ?_)))
  rw [hconv, Option.isNone_eq_false_iff.mpr hdiag]
  decide

theorem Sat.diagDone_shown {x : Sat} (hconv : x.conv = none) (va vb : BitVec 12) (tb : Nat) :
    (x.diagDone va vb tb).diag = none ∧ (x.diagDone va vb tb).diagReady = true ∧
      (x.diagDone va vb tb).diagClass = diagClassOf va.toNat vb.toNat tb x.diagcfg ∧
      (x.diagDone va vb tb).conv = if bitOf x.tlmcfg 15 then firstChannel (x.tlmcfg % 128) else none := by
  unfold Sat.diagDone Sat.convAuto
  dsimp only
  rw [hconv, Option.isNone_none, Bool.and_true, Option.isNone_none, Bool.and_true]
  cases bitOf x.tlmcfg 15 <;> exact ⟨rfl, rfl, rfl, rfl⟩

/-! ### Refused and bad commands (R197, R226, R231) -/

theorem exec_satReservedOpcode {s : State} {p : Fin 6} {k : Fin 8} (h : s.listens p k) {f : OpFrame} (hres : satReserved f.opcode = true) :
    exec (.satReservedOpcode p k f) s = .next ((s.frameTaken p k f.t).satRefuse p k f.alive) :=
  congrArg Host.Outcome.next ((if_pos hres).trans (State.satFrame_of_listens h f.t _))

/-- The satellite after a bad command. -/
def Sat.badFrame (f : BadFrame) (x : Sat) : Sat :=
  let y := { (x.settle (f.t + 81)).badCommand with frame := if f.early then .idle else .taken }
  if f.startLow then y.cancelOns else y

theorem Sat.badFrame_shown (f : BadFrame) (x : Sat) : (x.badFrame f).lastBad = true ∧ (x.badFrame f).badCnt = satInc 255 x.badCnt ∧
    (x.badFrame f).lastGood = x.lastGood ∧
    ((x.badFrame f).events = if f.startLow then x.events.filter fun e => !e.on else x.events) ∧
    ((x.badFrame f).frame = if f.early then .idle else .taken) := by
  unfold Sat.badFrame
  rw [(x.settle_measured (f.t + 81)).rest]
  cases f.startLow <;> exact ⟨rfl, rfl, rfl, rfl, rfl⟩

/-- A bad command whose select was released before bit 0: no reply (R223). -/
theorem exec_satBadCommand_early {s : State} {p : Fin 6} {k : Fin 8} {f : BadFrame} (hrun : (s.sat p k).inReset = false)
    (hframe : (s.sat p k).frame ≠ .taken) (hearly : f.early = true) :
    exec (.satBadCommand p k f) s = .next (s.modSat p k (Sat.badFrame f)) :=
  congrArg Host.Outcome.next ((State.satWhen_of_running hrun _).trans ((if_neg hframe).trans (if_pos hearly)))

/-- A bad command that is answered: the payload is a free value (log entry 4). -/
def State.badAnswered (s : State) (p : Fin 6) (k : Fin 8) (f : BadFrame) : State :=
  let r := (s.modSat p k (Sat.badFrame f)).draw 20
  r.2.answer p k (r.2.sat p k) (r.1 % 2 ^ 24)

theorem exec_satBadCommand_answered {s : State} {p : Fin 6} {k : Fin 8} {f : BadFrame} (hrun : (s.sat p k).inReset = false)
    (hframe : (s.sat p k).frame ≠ .taken) (hearly : f.early = false) :
    exec (.satBadCommand p k f) s = .next (s.badAnswered p k f) :=
  congrArg Host.Outcome.next ((State.satWhen_of_running hrun _).trans ((if_neg hframe).trans (if_neg (by rw [hearly]; decide))))

theorem State.badAnswered_shown (s : State) (p : Fin 6) (k : Fin 8) (f : BadFrame) :
    (s.badAnswered p k f).sat p k = { (s.sat p k).badFrame f with driving := true } ∧ s.keepsOtherSats (s.badAnswered p k f) p k ∧
      s.onlyChanges (s.badAnswered p k f) [.freeCtr, .wire, .sats] := by
  refine ⟨?_, ?_, Ev.onlyChanges (State.answer_ev (Ev.draw (State.modSat_ev (.refl _ s))))⟩
  · show ((s.modSat p k (Sat.badFrame f)).modSat p k _).sat p k = _
    rw [State.sat_modSat, State.sat_modSat]
  · exact ((State.keepsOtherSats.refl s p k).modSat (Sat.badFrame f)).modSat _

/-- A bad command is counted, keeps the last good counter, and ends or holds the frame. -/
theorem satBadCommand_counted {s : State} {p : Fin 6} {k : Fin 8} (hrun : (s.sat p k).inReset = false)
    (hframe : (s.sat p k).frame ≠ .taken) (f : BadFrame) : ∃ t, exec (.satBadCommand p k f) s = .next t ∧ (t.sat p k).lastBad = true ∧
      (t.sat p k).badCnt = satInc 255 (s.sat p k).badCnt ∧ (t.sat p k).lastGood = (s.sat p k).lastGood ∧
      ((t.sat p k).events = (if f.startLow then (s.sat p k).events.filter fun e => !e.on else (s.sat p k).events)) ∧
      ((t.sat p k).frame = if f.early then .idle else .taken) ∧ (f.early = true → t.wire = s.wire) ∧
      s.keepsOtherSats t p k ∧ s.onlyChanges t [.freeCtr, .wire, .sats] := by
  obtain ⟨hbad, hcount, hgood, hevents, hended⟩ := (s.sat p k).badFrame_shown f
  cases hearly : f.early with
  | true =>
    rw [hearly] at hended
    refine ⟨_, exec_satBadCommand_early hrun hframe hearly, ?_⟩
    rw [State.sat_modSat]
    exact ⟨hbad, hcount, hgood, hevents, hended, fun _ => rfl, (s.modSat_frame p k _).1,
      Ev.onlyChanges (State.modSat_ev (.refl _ s))⟩
  | false =>
    rw [hearly] at hended
    obtain ⟨hsat, hothers, hchanges⟩ := s.badAnswered_shown p k f
    refine ⟨_, exec_satBadCommand_answered hrun hframe hearly, ?_⟩
    rw [hsat]
    exact ⟨hbad, hcount, hgood, hevents, hended, nofun, hothers, hchanges⟩

/-! ### The statement -/

/-- Settles O3: a start is a frame carried out, a completion a change of the satellite alone, a reserved opcode a frame refused. -/
theorem satelliteRunsAndRefusals : Obligations.SatelliteRunsAndRefusals := by
  unfold Obligations.SatelliteRunsAndRefusals
  intro s p k hrun
  refine ⟨?_, ?_, ?_, ?_, ?_, satBadCommand_counted hrun⟩
  · intro hidle f i hauto hconv hdiag
    obtain ⟨hsat, -, hothers, hframe⟩ := s.satDo_answers p k f (·.statePayload false) fun y => { y with conv := some i }
    exact ⟨_, exec_satTlmStart ⟨hrun, hidle⟩ hauto hconv hdiag f i, hsat, hothers, hframe⟩
  · intro result ovr c v hconv hv
    refine ⟨_, exec_satTlmConversionDone hrun hconv result ovr, ?_⟩
    rw [State.sat_modSat, ← hv]
    exact ⟨Vector.getElem_set_self _, rfl, rfl, fun i hi => Vector.getElem_set_ne c.2 i.2 fun heq => hi (Fin.ext heq.symm),
      s.modSat_frame p k _⟩
  · intro hidle f isel hdiag hstill
    obtain ⟨hsat, -, hothers, hframe⟩ := s.satDo_answers p k f (·.statePayload false) fun y => { y with diag := some isel.1 }
    exact ⟨_, exec_satDiagStart ⟨hrun, hidle⟩ hdiag hstill f.alive isel, hsat, hothers, hframe⟩
  · intro va vb tb hdiag hconv
    obtain ⟨hended, hready, hclass, hnext⟩ := Sat.diagDone_shown hconv va vb tb
    refine ⟨_, exec_satDiagRunDone hrun hdiag hconv va vb tb, ?_⟩
    rw [State.sat_modSat]
    exact ⟨hended, hready, hclass, hnext, s.modSat_frame p k _⟩
  · intro hidle f hres
    obtain ⟨hsat, hreply, hothers, hframe⟩ := s.satRefuse_answers p k f.t f.alive
    have hcount := (s.sat p k).framed_keeps (·.cmdCnt) f.t
    refine ⟨_, exec_satReservedOpcode ⟨hrun, hidle⟩ hres, ?_⟩
    rw [hsat]
    exact ⟨rfl, congrArg (satInc 255) hcount, rfl, rfl, hreply, hothers, hframe⟩

end Sys2Proof.Machine
end

section
/-! PROOFS. Slots of a port: which entry is sent in a slot, and what sending it does (R190, R192, R196, R203 to R207, R301). -/

set_option Elab.async false

namespace Sys2Proof.Machine

/-! ### A frame goes out (R192, R196) -/

/-- One frame for select `c` goes out on the port, which the slot finds as `q`, and is in flight; the alive counter advances, and a gate
opcode sets LIVE (R215). -/
structure State.sends (s t : State) (p : Fin 6) (q : Port) (c op pl : Nat) (fl : Flight) : Prop where
  wire : t.wire = ⟨.port p, [0, 2 ^ c, frameWord (s.get (SP_ACNT_ACNT p)) op pl],
    leBytes 5 (frameWord (s.get (SP_ACNT_ACNT p)) op pl)⟩ :: s.wire
  count : t.get (SP_ACNT_ACNT p) = s.get (SP_ACNT_ACNT p) % 15 + 1
  port : ∃ cmds, t.ports[p] = { q with live := q.live || gateOp op, cmds := cmds, flight := some fl }
  others : s.keepsOtherPorts t p

/-- What precedes the sending on the port alone. -/
theorem State.sends.since {s₀ s t : State} {p : Fin 6} {q : Port} {c op pl : Nat} {fl : Flight} (h : s.sends t p q c op pl fl)
    (hwire : s.wire = s₀.wire) (hcount : s.get (SP_ACNT_ACNT p) = s₀.get (SP_ACNT_ACNT p)) (hothers : s₀.keepsOtherPorts s p) :
    s₀.sends t p q c op pl fl :=
  ⟨by rw [h.wire, hwire, hcount], by rw [h.count, hcount], h.port, fun r hr => (h.others r hr).trans (hothers r hr)⟩

/-- A unicast frame to a fitted select. -/
theorem State.jalzil_sends {s : State} {p : Fin 6} {c : Nat} (hfitted : c ∈ s.fitted p) (src : FrameSrc) (axis : Fin 8)
    (hdr op pl : Nat) : s.sends (s.jalzil p src axis hdr [c] false op pl) p s.ports[p] c op pl
      ⟨src, axis, hdr, c, false, op, pl, s.get (SP_ACNT_ACNT p), 0, s.pattern p c⟩ := by
  have hcodes : (if s.dmode p && false then (if s.bcast7 p then [7] else []) else [c].filter fun c => c ∈ s.fitted p) = [c] := by
    rw [Bool.and_false, if_neg Bool.false_ne_true]
    exact List.filter_eq_self.mpr fun d hd => by rw [List.mem_singleton.mp hd]; exact decide_eq_true hfitted
  unfold State.jalzil
  dsimp only
  rw [hcodes, List.isEmpty_cons, if_neg Bool.false_ne_true]
  refine ⟨?_, ?_, ⟨_, State.modPort_port _ p _⟩, (State.keepsOtherPorts.refl s p).modPort⟩
  · rw [List.foldl_cons, List.foldl_nil, Nat.zero_or]
    rfl
  · have hput := s.get_put_same (SP_ACNT_ACNT p) (s.get (SP_ACNT_ACNT p) % 15 + 1) (by decide : 3 < 32) (Nat.zero_le 3)
    have hwidth : (SP_ACNT_ACNT p).width = 4 := rfl
    rw [hwidth] at hput
    exact hput.trans (Nat.mod_eq_of_lt (by omega))

/-! ### A slot that nothing holds (R190, R203) -/

/-- Nothing runs on the streaming port into its next slot, and nothing but its queues decides what is sent in it. -/
structure State.slotOpen (s : State) (p : Fin 6) : Prop where
  clocked : s.clocked = true
  stream : s.ports[p].st = .stream
  raw : s.ports[p].rawBusy = 0
  flight : s.ports[p].flight = none
  alloff : s.ports[p].alloff = none
  take : s.cp.take = none
  unparked : s.parked = false

/-- The next slot has begun. -/
def State.slotBegun (s : State) (p : Fin 6) : State := s.modPort p fun q => { q with slot := s.ports[p].slot + 1 }

theorem State.slotBegun_port (s : State) (p : Fin 6) : (s.slotBegun p).ports[p] = { s.ports[p] with slot := s.ports[p].slot + 1 } :=
  s.modPort_port p _

theorem State.takeCheck_of_none {s : State} (h : s.cp.take = none) : s.takeCheck = s := by
  unfold State.takeCheck
  rw [h]

theorem State.closeFlight_of_none {s : State} {p : Fin 6} (h : s.ports[p].flight = none) : s.closeFlight p = s := by
  unfold State.closeFlight
  rw [h]

theorem execSlotBoundary_raw {s : State} {p : Fin 6} (hclk : s.clocked = true) (hst : s.ports[p].st = .stream)
    (hraw : 0 < s.ports[p].rawBusy) : execSlotBoundary p s =
      .next (s.modPort p fun q => { q with slot := s.ports[p].slot + 1, rawBusy := q.rawBusy - 1 }) := by
  unfold execSlotBoundary
  rw [hclk, hst, if_neg (by decide)]
  exact congrArg Host.Outcome.next (if_pos hraw)

theorem execSlotBoundary_free {s : State} {p : Fin 6} (h : s.slotOpen p) :
    execSlotBoundary p s = .next ((s.slotBegun p).slotTake p s.ports[p].slot) := by
  have hfold : (s.modPort p fun q => { q with slot := s.ports[p].slot + 1 }) = s.slotBegun p := rfl
  have hport := s.slotBegun_port p
  have halloff : (s.slotBegun p).ports[p].alloff = none := (congrArg Port.alloff hport).trans h.alloff
  have hst : (s.slotBegun p).ports[p].st = .stream := (congrArg Port.st hport).trans h.stream
  have hcheck : (s.slotBegun p).takeCheck = s.slotBegun p := State.takeCheck_of_none h.take
  have hpark : (s.slotBegun p).parkPort p = s.slotBegun p := State.parkPort_of_unparked (s := s.slotBegun p) h.unparked p
  unfold execSlotBoundary
  dsimp only
  rw [h.clocked, h.stream, if_neg (by decide), h.raw, if_neg (by decide), State.closeFlight_of_none h.flight]
  rw [hfold, hcheck, halloff]
  dsimp only
  rw [Option.isSome_none, if_neg Bool.false_ne_true, hpark, hst, if_neg (by decide)]

/-! ### The engine queue (R301) -/

theorem State.takeStatus_of_none {s : State} (h : s.cp.take = none) (p : Fin 6) : s.takeStatus p = none := by
  unfold State.takeStatus
  rw [h]

theorem State.dropOverdue_empty {s : State} {p : Fin 6} (h : s.ports[p].engQ = []) (n fuel : Nat) :
    State.dropOverdue p n (fuel + 1) s = s := by
  unfold State.dropOverdue
  rw [h]

/-- An entry for this slot is not overdue. -/
theorem State.dropOverdue_current {s : State} {p : Fin 6} {e : EngEntry} {rest : List EngEntry} {n : Nat} (h : s.ports[p].engQ = e :: rest)
    (hslot : e.rslot = n % 1024) (fuel : Nat) : State.dropOverdue p n (fuel + 1) s = s := by
  unfold State.dropOverdue
  rw [h]
  exact if_pos (by omega)

theorem State.slotTake_tenant {s : State} {p : Fin 6} (htake : s.cp.take = none) (h : s.ports[p].engQ = []) (n : Nat) :
    s.slotTake p n = s.tenantSlot p n := by
  have hdrop := State.dropOverdue_empty h n 31
  unfold State.slotTake
  dsimp only
  rw [hdrop, State.takeStatus_of_none htake, h]

theorem State.slotTake_engine {s : State} {p : Fin 6} {e : EngEntry} {rest : List EngEntry} {n : Nat} (htake : s.cp.take = none)
    (h : s.ports[p].engQ = e :: rest) (hslot : e.rslot = n % 1024) : s.slotTake p n =
      (s.modPort p fun q => { q with engQ := rest }).jalzil p .engine e.axis 0 (s.selCodes p e.sel e.bcast).1
        (s.selCodes p e.sel e.bcast).2 e.opcode e.payload := by
  have hdrop := State.dropOverdue_current h hslot 31
  unfold State.slotTake
  dsimp only
  rw [hdrop, State.takeStatus_of_none htake, h]
  exact if_pos hslot

/-- In D mode a select below 8 that is no broadcast names one code (R187). -/
theorem State.selCodes_unicast {s : State} {p : Fin 6} {c : Nat} (hd : s.dmode p = true) (hc : c < 8) :
    s.selCodes p c false = ([c], false) := by
  have hbit : bitOf c 3 = false := by
    rw [bitOf_eq_testBit]
    exact Nat.testBit_lt_two_pow hc
  unfold State.selCodes
  rw [hd, if_pos rfl, hbit, Bool.false_or, if_neg Bool.false_ne_true, Nat.mod_eq_of_lt hc]

/-- The engine's frame goes out, before the tenant queue is looked at (R203). -/
theorem State.slotTake_engine_sends {s : State} {p : Fin 6} {e : EngEntry} {rest : List EngEntry} {n c : Nat} (htake : s.cp.take = none)
    (hqueue : s.ports[p].engQ = e :: rest) (hslot : e.rslot = n % 1024) (hunicast : e.bcast = false) (hd : s.dmode p = true)
    (hsel : e.sel = c) (hc : c < 8) (hfitted : c ∈ s.fitted p) :
    s.sends (s.slotTake p n) p { s.ports[p] with engQ := rest } c e.opcode e.payload
      ⟨.engine, e.axis, 0, c, false, e.opcode, e.payload, s.get (SP_ACNT_ACNT p), 0, s.pattern p c⟩ := by
  have hsends := State.jalzil_sends (s := s.modPort p fun q => { q with engQ := rest }) (p := p) hfitted .engine e.axis 0 e.opcode
    e.payload
  rw [State.modPort_port] at hsends
  rw [State.slotTake_engine htake hqueue hslot, hunicast, hsel, State.selCodes_unicast hd hc]
  exact hsends.since rfl rfl (State.keepsOtherPorts.refl s p).modPort

/-! ### The tenant queue (R203, R207) -/

/-- A Jalzil entry that is not invalid: its opcode fits, its select is fitted and busy with PATTERN (R206, R207). -/
theorem State.valid_of_entryInvalid {s : State} {p : Fin 6} {hdr c : Nat} {d : Word} (hd : s.dmode p = true)
    (hkind : bitsOf hdr 31 30 = 0) (hsel : bitsOf hdr 15 12 = c) (hc : c < 8) (h : s.entryInvalid p hdr [d] = false) :
    bitsOf d.toNat 31 28 = 0 ∧ c ∈ s.fitted p ∧ s.pattern p c = true := by
  unfold State.entryInvalid at h
  rw [hkind, hsel, State.selCodes_unicast hd hc, hd] at h
  simp only [List.headD_cons, Bool.or_eq_false_iff, Bool.and_false, Bool.not_false, Bool.true_and, List.any_cons, List.any_nil,
    Bool.or_false, beq_self_eq_true, Bool.false_eq_true, if_false, bne_eq_false_iff_eq, Bool.not_eq_false', List.contains_iff_mem] at h
  tauto

/-- The head entry of `n` words is taken out of the tenant queue, with the event of a queue that has run low (R203). -/
def State.entryTaken (s : State) (p : Fin 6) (n : Nat) : State :=
  let s1 := s.modPort p fun q => { q with tenQ := q.tenQ.drop n }
  if s.get (SP_CFG2_TQLOW p) ≤ s.ports[p].tenQ.length ∧ s.ports[p].tenQ.length - n < s.get (SP_CFG2_TQLOW p) then s1.portEvt p 6 else s1

/-- An event of a port concerns the event registers alone. -/
theorem State.get_portEvt_ne (s : State) {p : Fin 6} {b : Nat} {g : Fld} (hne : g.addr ≠ SP_EVT p) (hlow : g.addr / 65536 ≠ 0x4003) :
    (s.portEvt p b).get g = s.get g := s.get_raise_ne hne hlow

theorem State.entryTaken_cases (s : State) (p : Fin 6) (n : Nat) :
    s.entryTaken p n = (s.modPort p fun q => { q with tenQ := q.tenQ.drop n }) ∨
      s.entryTaken p n = (s.modPort p fun q => { q with tenQ := q.tenQ.drop n }).portEvt p 6 := by
  unfold State.entryTaken
  extract_lets s1
  split
  · exact .inr rfl
  · exact .inl rfl

theorem State.entryTaken_get (s : State) {p : Fin 6} {n : Nat} {g : Fld} (hne : g.addr ≠ SP_EVT p) (hlow : g.addr / 65536 ≠ 0x4003) :
    (s.entryTaken p n).get g = s.get g := by
  rcases s.entryTaken_cases p n with h | h
  · rw [h]
    rfl
  · rw [h, State.get_portEvt_ne _ hne hlow]
    rfl

theorem State.entryTaken_ev (s : State) (p : Fin 6) (n : Nat) : Ev 0x1000800000800 s (s.entryTaken p n) := by
  have htaken : Ev 0x1000800000800 s (s.modPort p fun q => { q with tenQ := q.tenQ.drop n }) :=
    Ev.modPort (.refl _ s) fun _ h => ⟨h.rx, by simpa using Nat.le_add_right_of_le h.ten⟩
  rcases s.entryTaken_cases p n with h | h
  · rw [h]
    exact htaken
  · rw [h]
    exact State.portEvt_ev htaken

theorem State.entryTaken_ports (s : State) (p : Fin 6) (n : Nat) :
    (s.entryTaken p n).ports = (s.modPort p fun q => { q with tenQ := q.tenQ.drop n }).ports := by
  rcases s.entryTaken_cases p n with h | h
  · rw [h]
  · rw [h]
    exact (State.portEvt_ev (m := 0x1000800000000) (.refl _ _)).same .ports (by decide)

theorem SP_CFG_addr (p : Fin 6) : SP_CFG p ≠ SP_EVT p ∧ SP_CFG p / 65536 ≠ 0x4003 := by revert p; decide
theorem SP_BUSY_addr (p : Fin 6) : SP_BUSY p ≠ SP_EVT p ∧ SP_BUSY p / 65536 ≠ 0x4003 := by revert p; decide
theorem SP_ACNT_addr (p : Fin 6) : SP_ACNT p ≠ SP_EVT p ∧ SP_ACNT p / 65536 ≠ 0x4003 := by revert p; decide

theorem State.entryTaken_fitted (s : State) (p : Fin 6) (n : Nat) : (s.entryTaken p n).fitted p = s.fitted p := by
  obtain ⟨hne, hlow⟩ := SP_CFG_addr p
  have hmode := s.entryTaken_get (n := n) (g := SP_CFG_DMODE p) hne hlow
  have hbcast := s.entryTaken_get (n := n) (g := SP_CFG_BCAST p) hne hlow
  have hmap := s.entryTaken_get (n := n) (g := SP_CFG_SELMAP p) hne hlow
  unfold State.fitted State.bcast7 State.dmode State.flag
  rw [hmode, hbcast, hmap]

theorem State.entryTaken_pattern (s : State) (p : Fin 6) (n c : Nat) : (s.entryTaken p n).pattern p c = s.pattern p c := by
  obtain ⟨hne, hlow⟩ := SP_BUSY_addr p
  unfold State.pattern
  rw [s.entryTaken_get (g := SP_BUSY_STYLE p) hne hlow]

theorem State.pushedNow_eq_zero {s : State} {p : Fin 6} (h : s.marked (.pushed p) = false) : s.pushedNow p = 0 :=
  List.count_eq_zero.mpr fun hmem => by
    unfold State.marked at h
    rw [List.contains_iff_mem.mpr hmem] at h
    cases h

/-- A whole Jalzil entry of two words that is not invalid is taken and sent. -/
theorem State.tenantTake_jalzil {s : State} {p : Fin 6} {h d : Word} (hqueue : s.ports[p].tenQ = [h, d])
    (hpushed : s.marked (.pushed p) = false) (hkind : bitsOf h.toNat 31 30 = 0) (hvalid : s.entryInvalid p h.toNat [d] = false)
    (fuel : Nat) : State.tenantTake p (fuel + 1) s = (true, (s.entryTaken p 2).jalzil p .tenant 0 h.toNat
      (s.selCodes p (bitsOf h.toNat 15 12) false).1 (s.selCodes p (bitsOf h.toNat 15 12) false).2 (bitsOf d.toNat 27 24)
      (bitsOf d.toNat 23 0)) := by
  have hwords : entryWords h.toNat = 2 := by
    unfold entryWords
    rw [hkind]
    rfl
  unfold State.tenantTake State.entryTaken
  dsimp only
  rw [hqueue]
  dsimp only
  rw [hwords, State.pushedNow_eq_zero hpushed, if_neg (by simp)]
  simp only [List.take_succ_cons, List.drop_succ_cons, List.drop_zero, List.take_nil]
  rw [hvalid, if_neg Bool.false_ne_true, hkind, if_neg (not_not.mpr rfl)]
  rfl

/-- The tenant's frame goes out. -/
theorem State.tenantSlot_sends {s : State} {p : Fin 6} {h d : Word} {c op pl : Nat} (hqueue : s.ports[p].tenQ = [h, d])
    (hpushed : s.marked (.pushed p) = false) (hd : s.dmode p = true) (hkind : bitsOf h.toNat 31 30 = 0)
    (hsel : bitsOf h.toNat 15 12 = c) (hc : c < 8) (hword : d.toNat = op * 2 ^ 24 + pl) (hpl : pl < 2 ^ 24)
    (hvalid : s.entryInvalid p h.toNat [d] = false) (n : Nat) :
    s.sends (s.tenantSlot p n) p { s.ports[p] with tenQ := [] } c op pl
      ⟨.tenant, 0, h.toNat, c, false, op, pl, s.get (SP_ACNT_ACNT p), 0, true⟩ := by
  obtain ⟨hop, hfitted, hpattern⟩ := State.valid_of_entryInvalid hd hkind hsel hc hvalid
  have hopcode : bitsOf d.toNat 27 24 = op := by unfold bitsOf at hop ⊢; omega
  have hpayload : bitsOf d.toNat 23 0 = pl := by unfold bitsOf; omega
  have hslot : s.tenantSlot p n = (s.entryTaken p 2).jalzil p .tenant 0 h.toNat [c] false op pl := by
    have htake := State.tenantTake_jalzil hqueue hpushed hkind hvalid 256
    rw [hsel, State.selCodes_unicast hd hc, hopcode, hpayload] at htake
    unfold State.tenantSlot
    dsimp only
    rw [htake]
    exact if_pos rfl
  have hports := s.entryTaken_ports p 2
  have hport : (s.entryTaken p 2).ports[p] = { s.ports[p] with tenQ := [] } := by
    rw [State.ports_congr hports p, State.modPort_port, hqueue]
    rfl
  have hcount := s.entryTaken_get (n := 2) (g := SP_ACNT_ACNT p) (SP_ACNT_addr p).1 (SP_ACNT_addr p).2
  have hsends := State.jalzil_sends (s := s.entryTaken p 2) (p := p) (c := c) (by rw [State.entryTaken_fitted]; exact hfitted)
    .tenant 0 h.toNat op pl
  rw [hport, hcount, State.entryTaken_pattern, hpattern] at hsends
  rw [hslot]
  exact hsends.since ((s.entryTaken_ev p 2).same .wire (by decide)) hcount ((State.keepsOtherPorts.refl s p).modPort.congr hports)

/-! ### The slot that sends -/

/-- A frame sent in the slot that has begun, for the state before the slot. -/
theorem State.sends.ofSlot {s t : State} {p : Fin 6} {q : Port} {c op pl : Nat} {fl : Flight}
    (h : (s.slotBegun p).sends t p q c op pl fl) : s.sends t p q c op pl fl :=
  h.since rfl rfl (State.keepsOtherPorts.refl s p).modPort

end Sys2Proof.Machine
end

section
/-! PROOFS. Replies to a tenant's frame, and the statement on slots and replies (R190 to R208, R301; log entry 12). -/

set_option Elab.async false

namespace Sys2Proof.Machine

/-! ### A good reply (R200, R201, R208) -/

/-- A GOOD reply ends the count of bad ones of its select (R201). -/
def State.goodNoted (s : State) (p : Fin 6) (sel : Nat) : State :=
  s.modPort p fun q => { q with bad := if h : sel < 8 then q.bad.set sel 0 h else q.bad }

/-- The events that the status nibble `st` of a reply raises. -/
def State.statusEvts (s : State) (p : Fin 6) (st : Nat) : State :=
  let s1 := if bitOf st 2 then s.portEvt p 1 else s
  if bitOf st 1 then s1.portEvt p 8 else s1

theorem State.statusEvts_ev (s : State) (p : Fin 6) (st : Nat) : Ev 0x1000800000000 s (s.statusEvts p st) := by
  unfold State.statusEvts
  extract_lets s1
  have hfirst : Ev 0x1000800000000 s s1 := by
    simp only [s1]
    split
    · exact State.portEvt_ev (.refl _ s)
    · exact .refl _ s
  split
  · exact State.portEvt_ev hfirst
  · exact hfirst

/-- A record that fits is appended (R208). -/
theorem State.record_room {s : State} {p : Fin 6} {ws : List Word} (h : s.ports[p].rxQ.length + ws.length ≤ 128) :
    s.record p ws = s.modPort p fun q => { q with rxQ := q.rxQ ++ ws } := if_neg (Nat.not_lt.mpr h)

/-- A good reply to a tenant entry with RECORD set. -/
theorem State.classify_good {s : State} {p : Fin 6} {fl : Flight} {bits : List Bool} (hsrc : fl.src = .tenant)
    (hrecord : bitOf fl.hdr 27 = true) (hlength : bits.length = 41) (hclass : replyClass fl.alive bits = 6) :
    s.classify p fl bits = ((s.goodNoted p fl.sel).statusEvts p (bitsOf (bitsNat (bits.drop 1)) 35 32)).record p
      [infoWord 0 fl.sel 0 fl.hdr 40, BitVec.ofNat 32 (bitsNat (bits.drop 1) / 256)] := by
  unfold State.classify
  extract_lets c w st reset counted alerted shown m data kept
  have hst : st = bitsOf w 35 32 := if_neg (by simp [hlength])
  have hcounted : counted = s.goodNoted p fl.sel := (if_neg (by simp [c, hclass])).trans (if_neg (by simp [c, hclass]))
  have hshown : shown = (s.goodNoted p fl.sel).statusEvts p (bitsOf w 35 32) := by
    rw [← hst, ← hcounted]
    exact (if_neg (by simp [c, hclass])).trans (if_neg (by simp [c, hclass]))
  have hkept : kept = shown.record p [infoWord 0 fl.sel 0 fl.hdr 40, BitVec.ofNat 32 (w / 256)] := by
    have hwords : data = w / 256 := if_neg (by simp [hlength])
    have hbits : m = 40 := by simp [m, hlength]
    have hbit : classBit c = 0 := by rw [show c = 6 from hclass]; rfl
    simp only [kept]
    rw [if_pos ⟨hsrc, hrecord⟩, hwords, hbits, hbit]
    rfl
  rw [if_neg (by simp [hsrc]), if_neg (by simp [hsrc]), hkept, hshown]

/-- The record of a good reply, and the port's counts of bad ones. -/
theorem State.classify_good_port {s : State} {p : Fin 6} {fl : Flight} {bits : List Bool} (hsrc : fl.src = .tenant)
    (hrecord : bitOf fl.hdr 27 = true) (hlength : bits.length = 41) (hclass : replyClass fl.alive bits = 6)
    (hroom : s.ports[p].rxQ.length ≤ 126) :
    (s.classify p fl bits).ports[p] = { s.ports[p] with
      bad := if h : fl.sel < 8 then s.ports[p].bad.set fl.sel 0 h else s.ports[p].bad
      rxQ := s.ports[p].rxQ ++ [infoWord 0 fl.sel 0 fl.hdr 40, BitVec.ofNat 32 (bitsNat (bits.drop 1) / 256)] } ∧
    s.keepsOtherPorts (s.classify p fl bits) p ∧ (s.classify p fl bits).cp = s.cp := by
  have hevents := (s.goodNoted p fl.sel).statusEvts_ev p (bitsOf (bitsNat (bits.drop 1)) 35 32)
  have hports := hevents.same .ports (by decide)
  have hport := (hevents.port (by decide) p).trans (s.modPort_port p _)
  have hothers : s.keepsOtherPorts ((s.goodNoted p fl.sel).statusEvts p (bitsOf (bitsNat (bits.drop 1)) 35 32)) p :=
    (State.keepsOtherPorts.refl s p).modPort.congr hports
  rw [State.classify_good hsrc hrecord hlength hclass, State.record_room (by rw [hport]; simpa using hroom)]
  refine ⟨?_, hothers.modPort, hevents.same .cp (by decide)⟩
  rw [State.modPort_port, hport]

/-! ### A reply with a bad CRC (R200, R201) -/

/-- Registers of the ports' block beside the events and the second count. -/
theorem State.get_record_ne (s : State) {p : Fin 6} {ws : List Word} {g : Fld} (hcount : g.addr ≠ SP_CNT2 p) (hevt : g.addr ≠ SP_EVT p)
    (hlow : g.addr / 65536 ≠ 0x4003) : (s.record p ws).get g = s.get g := by
  unfold State.record
  split
  · rw [State.get_portEvt_ne _ hevt hlow]
    exact s.get_bump_ne hcount
  · rfl

/-- What a bad reply of class `c`, other than LAST_BAD, writes of the port's registers. -/
def State.badNoted (s : State) (p : Fin 6) (sel c : Nat) : State :=
  (((s.bump (SP_CNT_BAD p)).portEvt p 3).put (SP_ERR_LASTSEL p) sel).put (SP_ERR_LASTCLASS p) c

/-- The faults that a bad reply may lead to leave the port's registers alone. -/
theorem State.badReply_get {s : State} {p : Fin 6} {sel c : Nat} (hc : c ≠ 7) {g : Fld} (hblock : g.addr / 65536 % 32 = 16) :
    (s.badReply p sel c).get g = (s.badNoted p sel c).get g := by
  unfold State.badReply
  rw [if_neg hc]
  extract_lets noted read
  have hread : read = s.badNoted p sel c := rfl
  split
  · extract_lets k counted
    have hcounted : counted.get g = (s.badNoted p sel c).get g := State.get_modPort _ _ _ g
    split
    · have hfault : Ev 0x102000800114c00 counted (counted.portFault p 5) := State.portFault_ev (.refl _ _)
      rw [← hcounted]
      exact congrArg (fieldOf · g.hi g.lo) (hfault.reg 16 hblock (by decide))
    · exact hcounted
  · rw [hread]

theorem SP_CNT_addr (p : Fin 6) : SP_CNT p ≠ SP_CNT2 p ∧ SP_CNT p ≠ SP_EVT p ∧ SP_CNT p ≠ SP_ERR p ∧ SP_CNT p / 65536 = 0x4010 := by
  revert p; decide

theorem SP_ERR_addr (p : Fin 6) : SP_ERR p ≠ SP_CNT2 p ∧ SP_ERR p ≠ SP_EVT p ∧ SP_ERR p / 65536 = 0x4010 := by revert p; decide

theorem State.badNoted_shown (s : State) (p : Fin 6) (sel : Nat) {c : Nat} (hc : c < 16) :
    (s.badNoted p sel c).get (SP_ERR_LASTCLASS p) = c ∧ (s.badNoted p sel c).get (SP_ERR_LASTSEL p) = sel % 16 ∧
      (s.badNoted p sel c).get (SP_CNT_BAD p) = satInc 65535 (s.get (SP_CNT_BAD p)) := by
  obtain ⟨-, hevt, herr, hblock⟩ := SP_CNT_addr p
  unfold State.badNoted
  refine ⟨?_, ?_, ?_⟩
  · exact (State.get_put_same _ (SP_ERR_LASTCLASS p) c (by decide : 19 < 32) (by decide : 16 ≤ 19)).trans (Nat.mod_eq_of_lt hc)
  · rw [State.get_put_disj _ _ (by decide : 16 ≤ 19) (by decide : 23 < 32) (by decide : 20 ≤ 23) (.inl (by decide : 19 < 20))]
    exact State.get_put_same _ (SP_ERR_LASTSEL p) sel (by decide : 23 < 32) (by decide : 20 ≤ 23)
  · rw [State.get_put_ne (f := SP_ERR_LASTCLASS p) _ _ herr, State.get_put_ne (f := SP_ERR_LASTSEL p) _ _ herr,
      State.get_portEvt_ne (g := SP_CNT_BAD p) _ hevt (ne_of_eq_of_ne hblock (by decide))]
    exact s.get_bump_same (SP_CNT_BAD p) (by decide : 31 < 32) (by decide : 16 ≤ 31)

/-- A reply with a bad CRC is counted, and recorded where the entry asks for it. -/
theorem State.classify_crc {s : State} {p : Fin 6} {fl : Flight} {bits : List Bool} (hsrc : fl.src = .tenant)
    (hclass : replyClass fl.alive bits = 3) :
    s.classify p fl bits = s.badReply p fl.sel 3 ∨ ∃ ws, s.classify p fl bits = (s.badReply p fl.sel 3).record p ws := by
  unfold State.classify
  extract_lets c w st reset counted alerted shown m data kept
  have hshown : shown = s.badReply p fl.sel 3 := by
    simp only [shown]
    rw [show c = 3 from hclass, if_neg (by decide), if_pos (by decide)]
  rw [if_neg (by simp [hsrc]), if_neg (by simp [hsrc])]
  simp only [kept]
  rw [hshown]
  split
  · exact .inr ⟨_, rfl⟩
  · exact .inl rfl

theorem State.classify_crc_get {s : State} {p : Fin 6} {fl : Flight} {bits : List Bool} (hsrc : fl.src = .tenant)
    (hclass : replyClass fl.alive bits = 3) {g : Fld} (hcount : g.addr ≠ SP_CNT2 p) (hevt : g.addr ≠ SP_EVT p)
    (hblock : g.addr / 65536 = 0x4010) : (s.classify p fl bits).get g = (s.badNoted p fl.sel 3).get g := by
  have hbad := State.badReply_get (s := s) (p := p) (sel := fl.sel) (by decide : 3 ≠ 7) (g := g) (by rw [hblock])
  rcases State.classify_crc (s := s) (p := p) hsrc hclass with h | ⟨ws, h⟩
  · rw [h]
    exact hbad
  · rw [h, State.get_record_ne _ hcount hevt (ne_of_eq_of_ne hblock (by decide))]
    exact hbad

theorem State.classify_crc_cp {s : State} {p : Fin 6} {fl : Flight} {bits : List Bool} (hsrc : fl.src = .tenant)
    (hclass : replyClass fl.alive bits = 3) : (s.classify p fl bits).cp = s.cp := by
  have hbad : Ev 0x103000800114c00 s (s.badReply p fl.sel 3) := State.badReply_ev (.refl _ s)
  rcases State.classify_crc (s := s) (p := p) hsrc hclass with h | ⟨ws, h⟩
  · rw [h]
    exact hbad.same .cp (by decide)
  · rw [h]
    exact (State.record_ev hbad).same .cp (by decide)

/-! ### The commands -/

/-- The frame in flight has its reply. -/
def State.replyRead (s : State) (p : Fin 6) (fl : Flight) (bits : List Bool) : State :=
  (s.classify p fl bits).modPort p fun q => { q with flight := some { fl with await := false } }

theorem execSatelliteReply_await {s : State} {p : Fin 6} {fl : Flight} {bits : List Bool} (hup : s.up = true)
    (hflight : s.ports[p].flight = some fl) (hawait : fl.await = true) (htake : (s.classify p fl bits).cp.take = none) :
    execSatelliteReply p bits s = .next (s.replyRead p fl bits) := by
  have hcheck : (s.replyRead p fl bits).takeCheck = s.replyRead p fl bits := State.takeCheck_of_none htake
  unfold execSatelliteReply
  rw [State.whenUp_of_up hup, hflight]
  dsimp only
  rw [if_pos hawait]
  exact congrArg Host.Outcome.next hcheck

theorem State.replyRead_frame (s : State) (p : Fin 6) (fl : Flight) (bits : List Bool) : s.onlyChanges (s.replyRead p fl bits)
    [.axes, .ports, .srv, .cp, .eng, .lio, .regs 3, .regs 16, .regs 17, .regs 24, .regs 26] :=
  Ev.onlyChanges (Ev.modPort (State.classify_ev (.refl _ s)))

/-! ### The statement -/

/-- Settles O16: a slot passes, or sends the entry that `State.sends` describes; a reply is read by `State.classify`. -/
theorem slotsAndReplies : Obligations.SlotsAndReplies := by
  unfold Obligations.SlotsAndReplies
  intro s p hclk
  refine ⟨?_, ?_, ?_, ?_, ?_⟩
  · intro hst hraw
    exact ⟨_, execSlotBoundary_raw hclk hst hraw, s.modPort_port p _, (State.keepsOtherPorts.refl s p).modPort,
      Ev.onlyChanges (Ev.modPort (.refl _ s))⟩
  · intro h d c op pl hst hraw hflight halloff htake hpark heng hqueue hpushed hd hkind hsel hc hword hpl hvalid
    have hbegun := s.slotBegun_port p
    have hexec := execSlotBoundary_free ⟨hclk, hst, hraw, hflight, halloff, htake, hpark⟩
    rw [State.slotTake_tenant (s := s.slotBegun p) htake ((congrArg Port.engQ hbegun).trans heng)] at hexec
    obtain ⟨hwire, hcount, ⟨cmds, hport⟩, hothers⟩ := (State.tenantSlot_sends (s := s.slotBegun p)
      ((congrArg Port.tenQ hbegun).trans hqueue) hpushed hd hkind hsel hc hword hpl hvalid s.ports[p].slot).ofSlot
    refine ⟨_, hexec, hwire, hcount, ?_, ?_, ?_, hothers, Ev.onlyChanges (State.tenantSlot_ev (Ev.modPort (.refl _ s)))⟩
    · rw [hport]
    · rw [hport, hbegun]
    · rw [hport]
      rfl
  · intro e c op pl hst hraw hflight halloff htake hpark heng hslot hop hpl hunicast hd hsel hc hfitted
    have hbegun := s.slotBegun_port p
    obtain ⟨hwire, hcount, ⟨cmds, hport⟩, hothers⟩ := (State.slotTake_engine_sends (s := s.slotBegun p) htake
      ((congrArg Port.engQ hbegun).trans heng) hslot hunicast hd hsel hc hfitted).ofSlot
    rw [hop, hpl] at hwire
    rw [hop] at hport
    refine ⟨_, execSlotBoundary_free ⟨hclk, hst, hraw, hflight, halloff, htake, hpark⟩, hwire, hcount, ?_, ?_, ?_, hothers,
      Ev.onlyChanges (State.slotTake_ev (Ev.modPort (.refl _ s)))⟩
    · rw [hport]
    · rw [hport, hbegun]
    · rw [hport, hbegun]
  · intro bits fl hup hflight hawait hsrc hrecord hlength hclass hroom htake
    obtain ⟨hport, hothers, hcp⟩ := State.classify_good_port (s := s) (p := p) hsrc hrecord hlength hclass hroom
    refine ⟨_, execSatelliteReply_await hup hflight hawait ((congrArg Cp.take hcp).trans htake), ?_, ?_, ?_, hothers.modPort,
      s.replyRead_frame p fl bits⟩
    · exact (congrArg Port.rxQ (State.modPort_port _ p _)).trans (congrArg Port.rxQ hport)
    · exact congrArg Port.flight (State.modPort_port _ p _)
    · intro i hi
      have hread : (s.replyRead p fl bits).ports[p] = { (s.classify p fl bits).ports[p] with flight := some { fl with await := false } } :=
        State.modPort_port _ p _
      rw [hread, hport]
      dsimp only
      simp only [← hi, i.2, dite_true]
      exact Vector.getElem_set_self _
  · intro bits fl hup hflight hawait hsrc hclass htake
    obtain ⟨hclassShown, hselShown, hcount⟩ := s.badNoted_shown p fl.sel (by decide : 3 < 16)
    obtain ⟨herr2, herrEvt, herrBlock⟩ := SP_ERR_addr p
    obtain ⟨hcnt2, hcntEvt, -, hcntBlock⟩ := SP_CNT_addr p
    refine ⟨_, execSatelliteReply_await hup hflight hawait ((congrArg Cp.take (State.classify_crc_cp hsrc hclass)).trans htake),
      ?_, ?_, ?_, congrArg Port.flight (State.modPort_port _ p _), s.replyRead_frame p fl bits⟩
    · exact (State.classify_crc_get (g := SP_ERR_LASTCLASS p) hsrc hclass herr2 herrEvt herrBlock).trans hclassShown
    · exact (State.classify_crc_get (g := SP_ERR_LASTSEL p) hsrc hclass herr2 herrEvt herrBlock).trans hselShown
    · exact (State.classify_crc_get (g := SP_CNT_BAD p) hsrc hclass hcnt2 hcntEvt hcntBlock).trans hcount

end Sys2Proof.Machine
end

section
/-! PROOFS. SRESET and its key (R231, R243, R248). -/

set_option Elab.async false

namespace Sys2Proof.Machine

theorem exec_satSreset_key {s : State} {p : Fin 6} {k : Fin 8} (h : s.listens p k) (f : CmdFrame) :
    exec (.satSreset p k f 0xA55A00) s =
      .next ((s.frameTaken p k f.t).satDo p k f.alive (·.statePayload false) fun x => { x with srstDue := true }) :=
  congrArg Host.Outcome.next ((State.satFrame_of_listens h f.t _).trans (if_pos rfl))

theorem exec_satSreset_noKey {s : State} {p : Fin 6} {k : Fin 8} (h : s.listens p k) (f : CmdFrame) {payload : BitVec 24}
    (hkey : payload ≠ 0xA55A00) : exec (.satSreset p k f payload) s = .next ((s.frameTaken p k f.t).satRefuse p k f.alive) :=
  congrArg Host.Outcome.next ((State.satFrame_of_listens h f.t _).trans (if_neg hkey))

/-- The select release runs the reset that is due. -/
theorem exec_satSelectRelease_due {s : State} {p : Fin 6} {k : Fin 8} (hrun : (s.sat p k).inReset = false)
    (hdue : (s.sat p k).srstDue = true) : exec (.satSelectRelease p k) s = .next (s.modSat p k (·.reset true)) :=
  congrArg Host.Outcome.next ((State.satWhen_of_running hrun _).trans (State.modSat_congr (if_pos hdue)))

/-- Settles O54: the key is a frame carried out, any other payload a frame refused, and the release that finds the reset due is
`Sat.reset`. -/
theorem sresetKey : Obligations.SresetKey := by
  unfold Obligations.SresetKey
  intro s p k f hrun
  refine ⟨?_, ?_, ?_⟩
  · intro hidle
    obtain ⟨hsat, hreply, hothers, hframe⟩ := s.satDo_answers p k f (·.statePayload false) fun x => { x with srstDue := true }
    exact ⟨_, exec_satSreset_key ⟨hrun, hidle⟩ f, hsat, hreply, hothers, hframe⟩
  · intro hidle payload hkey
    obtain ⟨hsat, -, hothers, hframe⟩ := s.satRefuse_answers p k f.t f.alive
    have hcount := (s.sat p k).framed_keeps (·.cmdCnt) f.t
    have hdue := (s.sat p k).framed_keeps (·.srstDue) f.t
    refine ⟨_, exec_satSreset_noKey ⟨hrun, hidle⟩ f hkey, ?_⟩
    rw [hsat]
    exact ⟨rfl, congrArg (satInc 255) hcount, hdue, hothers, hframe⟩
  · intro hdue
    refine ⟨_, exec_satSelectRelease_due hrun hdue, ?_⟩
    rw [State.sat_modSat]
    exact ⟨rfl, rfl, rfl, rfl, rfl, rfl, rfl, rfl, rfl, rfl, rfl, s.modSat_frame p k _⟩

end Sys2Proof.Machine
end

section
/-! PROOFS. Writes of the configuration set while CONFIG_DONE is set (R235, R246). -/

set_option Elab.async false

namespace Sys2Proof.Machine

/-- A WRITE of a configuration-set register in form: refused only by CONFIG_DONE on a satellite that is not still (R245, R246). -/
theorem Sat.writeReg_configSet (x : Sat) {a v b m : Nat} (now : Nat) (cmp : Bool) (hset : satSetBit a = some b)
    (hwritable : satWritable a = some m) (hres : v &&& (0xFFFF ^^^ m) = 0) (hrange : satInRange a v = true) :
    x.writeReg a v now cmp = if x.done && !x.still now then none else some { x.store a v with written := x.written ||| 2 ^ b } := by
  obtain ⟨-, hctrl, hflags, hcount⟩ := satConfigSet_plain a (mem_satConfigSet_of_satSetBit hset)
  unfold Sat.writeReg
  rw [hwritable]
  dsimp only
  rw [if_neg (not_not.mpr hres), if_neg hctrl, if_neg hflags, if_neg hcount, hrange, if_neg (by decide), hset]

theorem Sat.still_iff (x : Sat) (now : Nat) : x.still now = true ↔
    x.high.on = false ∧ x.low.on = false ∧ x.events = [] ∧ x.high.profEnd ≤ now ∧ x.low.profEnd ≤ now := by
  simp [Sat.still, and_assoc]

/-- A configuration-set register is read back as it was stored, after CONFIG_DONE: codes loaded or clamped with it are no part of the
set (R259). -/
theorem Sat.readReg_store_done {x : Sat} {a : Nat} (ha : a ∈ satConfigSet) (hdone : x.done = true) (v w alive : Nat) :
    ({ (({ x.store a v with written := w } : Sat).accept alive) with driving := true } : Sat).readReg a = some v := by
  simp only [satConfigSet, List.mem_cons, List.not_mem_nil, or_false] at ha
  rcases ha with rfl | rfl | rfl | rfl | rfl | rfl | rfl | rfl | rfl | rfl
  all_goals simp [Sat.store, Sat.accept, Sat.readReg, Sat.loadCodes, Sat.clampCodes, hdone]

/-- The configuration-set registers in address order. -/
def Sat.configSet (x : Sat) : List Nat :=
  [x.group, x.dtmin, x.profMode, x.profOn, x.profOff, x.profHard, x.adapt, x.sccfg, x.blank, x.hssup]

theorem Sat.readReg_of_configSet {x y : Sat} (h : x.configSet = y.configSet) {a : Nat} (ha : a ∈ satConfigSet) :
    x.readReg a = y.readReg a := by
  simp only [Sat.configSet, List.cons.injEq] at h
  simp only [satConfigSet, List.mem_cons, List.not_mem_nil, or_false] at ha
  rcases ha with rfl | rfl | rfl | rfl | rfl | rfl | rfl | rfl | rfl | rfl
  all_goals simp only [Sat.readReg, h]

/-- A WRITE that is refused (R235). -/
theorem State.satWriteReg_refused {s : State} {p : Fin 6} {k : Fin 8} {t a v : Nat} {cmp : Bool}
    (h : ((s.sat p k).framed t).writeReg a v (t + 81) cmp = none) (alive : Nat) :
    s.answers ((s.frameTaken p k t).satWriteReg p k t alive a v cmp false) p k (((s.sat p k).framed t).refuse alive)
      (frameWord alive (((s.sat p k).framed t).refuse alive).status
        (regPayload true a (if (satWritable a).isNone then 0 else ((((s.sat p k).framed t).refuse alive).readReg a).getD 0))) := by
  have hreply := s.frameTaken_reply p k t (fun _ => ((s.sat p k).framed t).refuse alive)
    (frameWord alive (((s.sat p k).framed t).refuse alive).status
      (regPayload true a (if (satWritable a).isNone then 0 else ((((s.sat p k).framed t).refuse alive).readReg a).getD 0)))
  unfold State.satWriteReg State.answer
  rw [State.frameTaken_sat]
  dsimp only
  rw [if_neg Bool.false_ne_true, h]
  exact hreply

/-- Settles O55: the guard of `Sat.writeReg` is `Sat.still` at hsck 81, which a frame that is taken does not change. -/
theorem configurationSetGuard : Obligations.ConfigurationSetGuard := by
  unfold Obligations.ConfigurationSetGuard
  intro s p k f payload cmp a b v m hlistens hdone hpayload hv hset hwritable hres hrange
  have ha := mem_satConfigSet_of_satSetBit hset
  have hexec := exec_satWrite hlistens hpayload hv (satConfigSet_plain a ha).1 f.t f.alive cmp
  have hdoneKept := ((s.sat p k).framed_keeps (·.done) f.t).trans hdone
  have hwrite := ((s.sat p k).framed f.t).writeReg_configSet (f.t + 81) cmp hset hwritable hres hrange
  rw [hdoneKept, Bool.true_and, Sat.framed_still] at hwrite
  constructor
  · intro hhigh hlow hevents hhighEnd hlowEnd
    have hstill := ((s.sat p k).still_iff (f.t + 81)).mpr ⟨hhigh, hlow, hevents, hhighEnd, hlowEnd⟩
    rw [hstill, if_neg (by decide)] at hwrite
    obtain ⟨hsat, -, hothers, hframe⟩ := State.satWriteReg_answers hwrite f.alive
    refine ⟨_, hexec, ?_⟩
    rw [hsat]
    exact ⟨Sat.readReg_store_done ha hdoneKept v _ _, rfl, rfl, hothers, hframe⟩
  · intro hbusy
    have hstill := Bool.eq_false_iff.mpr (mt ((s.sat p k).still_iff (f.t + 81)).mp hbusy)
    rw [hstill, if_pos (by decide)] at hwrite
    obtain ⟨hsat, -, hothers, hframe⟩ := State.satWriteReg_refused hwrite f.alive
    have hcount := (s.sat p k).framed_keeps (·.cmdCnt) f.t
    refine ⟨_, hexec, ?_⟩
    rw [hsat]
    refine ⟨rfl, congrArg (satInc 255) hcount, fun x hx => ?_, hothers, hframe⟩
    obtain ⟨i, hi⟩ := Option.isSome_iff_exists.mp hx
    refine Sat.readReg_of_configSet ?_ (mem_satConfigSet_of_satSetBit hi)
    exact (s.sat p k).framed_keeps Sat.configSet f.t

end Sys2Proof.Machine
end

section
/-! PROOFS. The gates of a satellite: what switching a gate changes, and what it leaves (R239, R251, R257 to R262, R278). -/

set_option Elab.async false

namespace Sys2Proof.Machine

/-! ### One gate of two -/

@[simp] theorem Sat.gate_modGate_same (x : Sat) (hi : Bool) (f : Gate → Gate) : (x.modGate hi f).gate hi = f (x.gate hi) := by
  cases hi <;> rfl

@[simp] theorem Sat.gate_modGate_other (x : Sat) (hi : Bool) (f : Gate → Gate) : (x.modGate hi f).gate (!hi) = x.gate (!hi) := by
  cases hi <;> rfl

/-- Measurements that come due leave the parts of a gate that they do not concern. -/
theorem Sat.settle_gate {α : Type} (part : Gate → α) (x : Sat) (now : Nat) (hi : Bool)
    (hpart : ∀ g m c d n, part { g with meas := m, con := c, coff := d, tsw := n } = part g := by exact fun _ _ _ _ _ => rfl) :
    part ((x.settle now).gate hi) = part (x.gate hi) := by
  obtain ⟨-, hhigh, hlow⟩ := x.settle_measured now
  cases hi
  · exact (congrArg part hlow).trans (hpart _ _ _ _ _)
  · exact (congrArg part hhigh).trans (hpart _ _ _ _ _)

/-! ### Turned off -/

theorem Sat.turnOff_gate_off (x : Sat) (hi : Bool) (now tsw exit : Nat) : ((x.turnOff hi now tsw exit).gate hi).on = false := by
  unfold Sat.turnOff
  split
  next hoff => simpa using hoff
  next => rw [Sat.gate_modGate_same]; rfl

theorem Sat.turnOff_gate_other (x : Sat) (hi : Bool) (now tsw exit : Nat) :
    (x.turnOff hi now tsw exit).gate (!hi) = x.gate (!hi) := by
  unfold Sat.turnOff
  split
  · rfl
  · exact Sat.gate_modGate_other x hi _

theorem Gate.hardOff_off (g : Gate) (profHard now : Nat) : (g.hardOff profHard now).on = false := by
  unfold Gate.hardOff
  dsimp only
  split
  next => rfl
  next hoff =>
    have hoff := Bool.eq_false_iff.mpr hoff
    split <;> exact hoff

theorem Gate.analogOff_off (g : Gate) (off : Option Nat) : (g.analogOff off).on = false := by
  unfold Gate.analogOff
  split
  next => rfl
  next hoff => exact Bool.eq_false_iff.mpr hoff

/-- The analog turn-off leaves the supplies. -/
theorem Gate.analogOff_keeps {α : Type} (part : Gate → α) (g : Gate) (off : Option Nat)
    (hpart : ∀ g o a e p q m, part { g with on := o, offAt := a, offEdge := e, ph1End := p, profEnd := q, meas := m } = part g := by
      exact fun _ _ _ _ _ _ _ => rfl) : part (g.analogOff off) = part g := by
  unfold Gate.analogOff
  split
  · exact hpart _ _ _ _ _ _ _
  · exact hpart _ _ _ _ _ _ _

/-! ### The converter and the diagnostic run (R251, R276, R278) -/

theorem Sat.convAuto_keeps {α : Type} (part : Sat → α) (x : Sat)
    (hpart : ∀ y c, part { y with conv := c } = part y := by exact fun _ _ => rfl) : part x.convAuto = part x := by
  unfold Sat.convAuto
  split
  · exact hpart _ _
  · rfl

theorem Sat.diagAbandon_keeps {α : Type} (part : Sat → α) (x : Sat)
    (hconv : ∀ y c, part { y with conv := c } = part y := by exact fun _ _ => rfl)
    (hdiag : ∀ y d n r, part { y with diag := d, diagClass := n, diagReady := r } = part y := by exact fun _ _ _ _ => rfl) :
    part x.diagAbandon = part x := by
  unfold Sat.diagAbandon
  split
  · exact (Sat.convAuto_keeps part _ hconv).trans (hdiag _ _ _ _)
  · rfl

theorem Sat.convAbandon_keeps {α : Type} (part : Sat → α) (x : Sat)
    (hpart : ∀ y c l, part { y with conv := c, tlm := l } = part y := by exact fun _ _ _ => rfl) : part x.convAbandon = part x := by
  unfold Sat.convAbandon
  split
  · exact hpart _ _ _
  · rfl

theorem Sat.convAbandon_conv (x : Sat) : x.convAbandon.conv = none := by
  unfold Sat.convAbandon
  cases hconv : x.conv with
  | none => exact hconv
  | some c => rfl

theorem Sat.diagAbandon_diag (x : Sat) : x.diagAbandon.diag = none := by
  unfold Sat.diagAbandon
  cases hdiag : x.diag with
  | none => exact hdiag
  | some isel => exact Sat.convAuto_keeps (·.diag) _

theorem Sat.diagAbandon_of_none {x : Sat} (h : x.diag = none) : x.diagAbandon = x := by
  unfold Sat.diagAbandon
  rw [h]
  rfl

/-! ### What gate events may change -/

/-- `y` differs from `x` only in what the switching of gates concerns: the gates and their switching time, the flags INTLK and UV, and
the diagnostic run that a turn-on abandons. -/
def Sat.switched (x y : Sat) : Prop :=
  y = { x with
    high := y.high, low := y.low, tsw := y.tsw, intlk := y.intlk, uv := y.uv, uvH := y.uvH, uvL := y.uvL
    diag := y.diag, diagClass := y.diagClass, diagReady := y.diagReady, conv := y.conv }

theorem Sat.switched.refl (x : Sat) : x.switched x := rfl

theorem Sat.switched.trans {x y z : Sat} (h : x.switched y) (h' : y.switched z) : x.switched z := by
  unfold Sat.switched at *
  rw [h', h]

/-- The parts that switching does not concern stay. -/
theorem Sat.switched.keeps {α : Type} (part : Sat → α) {x y : Sat} (h : x.switched y)
    (hpart : ∀ z h l n i u uh ul d c r v, part { z with
      high := h, low := l, tsw := n, intlk := i, uv := u, uvH := uh, uvL := ul, diag := d, diagClass := c, diagReady := r, conv := v } =
        part z := by exact fun _ _ _ _ _ _ _ _ _ _ _ _ => rfl) : part y = part x :=
  (congrArg part h).trans (hpart _ _ _ _ _ _ _ _ _ _ _ _)

theorem Sat.switched_of_measured {x y : Sat} (h : x.measured y) : x.switched y := by
  unfold Sat.switched
  rw [h.rest]

theorem Sat.switched_modGate (x : Sat) (hi : Bool) (f : Gate → Gate) : x.switched (x.modGate hi f) := by
  cases hi <;> rfl

theorem Sat.turnOff_switched (x : Sat) (hi : Bool) (now tsw exit : Nat) : x.switched (x.turnOff hi now tsw exit) := by
  unfold Sat.turnOff
  split
  · exact .refl x
  · exact x.switched_modGate hi _

theorem Sat.convAuto_switched (x : Sat) : x.switched x.convAuto := by
  unfold Sat.convAuto
  split <;> rfl

theorem Sat.diagAbandon_switched (x : Sat) : x.switched x.diagAbandon := by
  unfold Sat.diagAbandon
  split
  · exact Sat.switched.trans (y := { x with diag := none, diagClass := 6, diagReady := true }) rfl (Sat.convAuto_switched _)
  · exact .refl x

theorem Sat.turnOn_switched (x : Sat) (hi : Bool) (now tsw exit : Nat) : x.switched (x.turnOn hi now tsw exit) := by
  refine (x.diagAbandon_switched).trans ?_
  unfold Sat.turnOn
  dsimp only
  split_ifs
  case pos | pos | neg | pos => rfl
  case neg => exact Sat.switched_modGate _ hi _

theorem Sat.switched.foldl {α : Type} {f : Sat → α → Sat} (hf : ∀ (x : Sat) (a : α), x.switched (f x a)) (l : List α) (x : Sat) :
    x.switched (l.foldl f x) := by
  induction l generalizing x with
  | nil => exact .refl x
  | cons a l ih => exact (hf x a).trans (ih _)

/-- The events of one edge: what is due leaves the list, and gates are switched (R239). -/
theorem Sat.runEdge_switched (x : Sat) (now : Nat) (swH swL : Switching) :
    ({ x with events := x.events.filter fun e => e.due != now } : Sat).switched (x.runEdge now swH swL) := by
  have hsettled := Sat.switched_of_measured (x.settle_measured now)
  have hevents : ({ x with events := x.events.filter fun e => e.due != now } : Sat).switched
      { x.settle now with events := x.events.filter fun e => e.due != now } := by
    unfold Sat.switched at *
    rw [hsettled]
  exact (hevents.trans (.foldl (fun y (e : SatEvent) => y.turnOff_switched e.high now _ _) _ _)).trans
    (.foldl (fun y (e : SatEvent) => y.turnOn_switched e.high now _ _) _ _)

/-- An event alone on its edge: its gate is turned off, or on. -/
theorem Sat.runEdge_single {x : Sat} {e : SatEvent} (h : x.events = [e]) (swH swL : Switching) :
    x.runEdge e.due swH swL =
      let sw := if e.high then swH else swL
      let y : Sat := { x.settle e.due with events := [] }
      if e.on then y.turnOn e.high e.due sw.tsw sw.exit else y.turnOff e.high e.due sw.tsw sw.exit := by
  unfold Sat.runEdge
  cases hon : e.on <;> simp [h, hon]

/-- A turn-on that no supply and no interlock stops (R239, R262). -/
theorem Sat.turnOn_gate_on {x : Sat} {hi : Bool} (hdiag : x.diag = none) (hpos : (x.gate hi).posUv = false)
    (hneg : (x.gate hi).negUv = false) (hother : (x.gate (!hi)).on = false) (hlong : (x.gate (!hi)).offAt = none) (now tsw exit : Nat) :
    ((x.turnOn hi now tsw exit).gate hi).on = true := by
  unfold Sat.turnOn
  rw [Sat.diagAbandon_of_none hdiag]
  dsimp only
  split
  next hon => exact hon
  next =>
    simp only [hpos, hneg, hother, hlong, Bool.or_self, Bool.false_eq_true, if_false, Sat.gate_modGate_same]
    rfl

end Sys2Proof.Machine
end

section
/-! PROOFS. Frames on several selects, and the gate commands (R223, R236 to R242, R244, R252). -/

set_option Elab.async false

namespace Sys2Proof.Machine

/-! ### A frame on several selects (R223) -/

/-- A step per select, each changing its own satellite by what that satellite is, gives every satellite its change once. -/
theorem forFin_sats {p : Fin 6} {F : Fin 8 → State → State} {g : Fin 8 → Sat → Sat} (hown : ∀ k u, (F k u).sat p k = g k (u.sat p k))
    (hothers : ∀ (k : Fin 8) (u : State), u.keepsOtherSats (F k u) p k) (s : State) (k : Fin 8) :
    (forFin 8 F s).sat p k = g k (s.sat p k) := by
  have hmissed (l : List (Fin 8)) (u : State) (hk : k ∉ l) : (l.foldl (fun t i => F i t) u).sat p k = u.sat p k :=
    List.foldlRecOn (motive := fun t => t.sat p k = u.sat p k) l _ rfl fun t ht i hi =>
      (hothers i t p k (.inr fun heq => hk (heq ▸ hi))).trans ht
  obtain ⟨l, r, hsplit⟩ := List.append_of_mem (List.mem_finRange k)
  have hnodup := List.nodup_finRange 8
  rw [hsplit, List.nodup_append, List.nodup_cons] at hnodup
  obtain ⟨-, ⟨hright, -⟩, hdisjoint⟩ := hnodup
  have hleft : k ∉ l := fun hmem => hdisjoint k hmem k List.mem_cons_self rfl
  unfold forFin
  rw [hsplit, List.foldl_append, List.foldl_cons, hmissed r _ hright, hown, hmissed l _ hleft]

theorem State.satFrame_of_deaf {s : State} {p : Fin 6} {k : Fin 8} (h : ¬ s.listens p k) (t : Nat) (f : State → State) :
    s.satFrame p k t f = s := by
  unfold State.satFrame State.satWhen
  cases hrun : (s.sat p k).inReset with
  | true => rfl
  | false => exact if_neg fun hidle => h ⟨hrun, hidle⟩

/-- Satellite `k` takes the frame of reference point `t`, when it is selected and listens, and becomes `g` of itself. -/
def State.takeOn (p : Fin 6) (sels : BitVec 8) (t : Nat) (g : Sat → Sat) (k : Fin 8) (u : State) : State :=
  if !sels.getLsbD k.1 then u else u.satFrame p k t fun v => v.modSat p k g

/-- What that makes of the satellite. -/
def Sat.takeOn (sel : Bool) (t : Nat) (g : Sat → Sat) (x : Sat) : Sat :=
  if sel = true ∧ x.inReset = false ∧ x.frame = .idle then g (x.framed t) else x

theorem State.takeOn_sat (p : Fin 6) (sels : BitVec 8) (t : Nat) (g : Sat → Sat) (k : Fin 8) (u : State) :
    (State.takeOn p sels t g k u).sat p k = (u.sat p k).takeOn (sels.getLsbD k) t g := by
  unfold State.takeOn Sat.takeOn
  cases hsel : sels.getLsbD k.1 with
  | false => rfl
  | true =>
    by_cases hlistens : u.listens p k
    · rw [if_neg (by decide), State.satFrame_of_listens hlistens, State.sat_modSat, State.frameTaken_sat, if_pos ⟨rfl, hlistens⟩]
    · rw [if_neg (by decide), State.satFrame_of_deaf hlistens, if_neg fun h => hlistens h.2]

theorem State.takeOn_others (p : Fin 6) (sels : BitVec 8) (t : Nat) (g : Sat → Sat) (k : Fin 8) (u : State) :
    u.keepsOtherSats (State.takeOn p sels t g k u) p k := by
  have hnone := State.keepsOtherSats.refl u p k
  unfold State.takeOn
  split
  · exact hnone
  · by_cases hlistens : u.listens p k
    · rw [State.satFrame_of_listens hlistens]
      exact (hnone.modSat _).modSat _
    · rwa [State.satFrame_of_deaf hlistens]

/-- One frame for every selected satellite of a port. -/
def State.toSelected (s : State) (p : Fin 6) (sels : BitVec 8) (t : Nat) (g : Sat → Sat) : State :=
  forFin 8 (State.takeOn p sels t g) s

theorem State.toSelected_heard {s : State} {p : Fin 6} {sels : BitVec 8} {k : Fin 8} (hsel : sels.getLsbD k = true)
    (h : s.listens p k) (t : Nat) (g : Sat → Sat) : (s.toSelected p sels t g).sat p k = g ((s.sat p k).framed t) :=
  (forFin_sats (State.takeOn_sat p sels t g) (State.takeOn_others p sels t g) s k).trans (if_pos ⟨hsel, h⟩)

theorem State.toSelected_unheard {s : State} {p : Fin 6} {sels : BitVec 8} {k : Fin 8}
    (h : sels.getLsbD k = false ∨ ¬ s.listens p k) (t : Nat) (g : Sat → Sat) : (s.toSelected p sels t g).sat p k = s.sat p k :=
  (forFin_sats (State.takeOn_sat p sels t g) (State.takeOn_others p sels t g) s k).trans
    (if_neg fun ⟨hsel, hlistens⟩ => h.elim (fun hno => Bool.false_ne_true (hno.symm.trans hsel)) (· hlistens))

theorem State.toSelected_otherPort (s : State) {p q : Fin 6} (hq : q ≠ p) (sels : BitVec 8) (t : Nat) (g : Sat → Sat) (k : Fin 8) :
    (s.toSelected p sels t g).sat q k = s.sat q k :=
  forFin_induction (P := fun u => u.sat q k = s.sat q k) rfl fun j u hu =>
    (State.takeOn_others p sels t g j u q k (.inl hq)).trans hu

theorem State.toSelected_onlyChanges (s : State) (p : Fin 6) (sels : BitVec 8) (t : Nat) (g : Sat → Sat) :
    s.onlyChanges (s.toSelected p sels t g) [.sats] := by
  refine Ev.onlyChanges (Ev.forFin (.refl _ s) fun k u => ?_)
  unfold State.takeOn
  split
  · exact .refl _ u
  · exact State.satFrame_ev (.refl _ u) fun v => State.modSat_ev (.refl _ v)

/-! ### EDGE and EDGE_S (R236 to R238, R242, R244) -/

/-- Whether an EDGE is refused turns on the events pending alone (R238). -/
theorem Sat.framed_edgeBad (x : Sat) (now t payload : Nat) : (x.framed now).edgeBad t payload = x.edgeBad t payload := by
  have hevents := x.framed_keeps (·.events) now
  unfold Sat.edgeBad
  rw [hevents]

theorem exec_satEdge {s : State} {p : Fin 6} {k : Fin 8} (h : s.listens p k) {now : Nat} {payload : BitVec 24}
    (hres : bitsOf payload.toNat 21 20 = 0) (hgood : (s.sat p k).edgeBad now payload.toNat = false) (hboot : (s.sat p k).boot = false)
    (alive : Fin 16) : exec (.satEdge p k now alive payload) s =
      .next ((s.frameTaken p k now).satDo p k alive (·.statePayload false) fun y => y.enter now payload.toNat) := by
  have hbootKept := ((s.sat p k).framed_keeps (·.boot) now).trans hboot
  refine congrArg Host.Outcome.next ((State.satFrame_of_listens h now _).trans ?_)
  dsimp only
  rw [State.frameTaken_sat, Sat.framed_edgeBad, hgood, hbootKept, hres, if_neg (by decide), if_neg (by decide)]

theorem exec_satEdgeS (s : State) (p : Fin 6) (sels : BitVec 8) (now : Nat) (alive : Fin 16) (payload : BitVec 24) :
    exec (.satEdgeS p sels now alive payload) s = .next (s.toSelected p sels now (·.edgeS now alive payload.toNat)) := rfl

/-- An EDGE_S for the satellite's GROUP that R238 does not refuse enters its events. -/
theorem State.edgeS_enters {s : State} {p : Fin 6} {k : Fin 8} {now payload : Nat} (hboot : (s.sat p k).boot = false)
    (hgroup : bitsOf payload 21 20 = (s.sat p k).group) (hgood : (s.sat p k).edgeBad now payload = false) (alive : Fin 16) :
    ((s.sat p k).framed now).edgeS now alive payload = (s.heard p k ⟨now, alive⟩).enter now payload := by
  have hbootKept := ((s.sat p k).framed_keeps (·.boot) now).trans hboot
  have hgroupKept := (s.sat p k).framed_keeps (·.group) now
  unfold Sat.edgeS
  rw [hbootKept, hgroupKept, Sat.framed_edgeBad, hgood, if_neg (by decide), if_neg (not_not.mpr hgroup), if_neg (by decide)]
  rfl

/-- While BOOT is 1 an EDGE_S is ignored (R244). -/
theorem Sat.edgeS_of_boot {x : Sat} (hboot : x.boot = true) (now alive payload : Nat) :
    (x.framed now).edgeS now alive payload = x.framed now :=
  if_pos ((x.framed_keeps (·.boot) now).trans hboot)

/-! ### Events that come due (R239) -/

theorem exec_satEdgeEvent {s : State} {p : Fin 6} {k : Fin 8} {due : Nat} (hrun : (s.sat p k).inReset = false)
    (hdue : (s.sat p k).nextDue = some due) (swH swL : Switching) :
    exec (.satEdgeEvent p k swH swL) s = .next (s.modSat p k (·.runEdge due swH swL)) := by
  refine congrArg Host.Outcome.next ((State.satWhen_of_running hrun _).trans ?_)
  rw [hdue]

/-- A single event that nothing stops switches its gate, and no event is left. -/
theorem Sat.runEdge_single_switches {x : Sat} {e : SatEvent} (hevents : x.events = [e]) (hdiag : x.diag = none)
    (hpos : (x.gate e.high).posUv = false) (hneg : (x.gate e.high).negUv = false) (hother : (x.gate (!e.high)).on = false)
    (hlong : (x.gate (!e.high)).offAt = none) (swH swL : Switching) :
    ((x.runEdge e.due swH swL).gate e.high).on = e.on ∧ (x.runEdge e.due swH swL).events = [] := by
  have hleft : (x.runEdge e.due swH swL).events = x.events.filter fun a => a.due != e.due :=
    (x.runEdge_switched e.due swH swL).keeps (·.events)
  refine ⟨?_, hleft.trans (by simp [hevents])⟩
  rw [Sat.runEdge_single hevents]
  cases hon : e.on with
  | false => exact Sat.turnOff_gate_off _ _ _ _ _
  | true =>
    rw [if_pos rfl]
    have hquiet : (x.settle e.due).diag = none := by
      rw [(x.settle_measured e.due).rest]
      exact hdiag
    exact Sat.turnOn_gate_on (x := { x.settle e.due with events := [] }) hquiet ((x.settle_gate (·.posUv) e.due e.high).trans hpos)
      ((x.settle_gate (·.negUv) e.due e.high).trans hneg) ((x.settle_gate (·.on) e.due (!e.high)).trans hother)
      ((x.settle_gate (·.offAt) e.due (!e.high)).trans hlong) _ _ _

/-! ### ALLOFF (R241, R252) -/

/-- The normal turn-off of both gates. -/
def Sat.turnOffBoth (x : Sat) (now : Nat) (swH swL : Switching) : Sat :=
  (x.turnOff true now swH.tsw swH.exit).turnOff false now swL.tsw swL.exit

theorem Sat.turnOffBoth_off (x : Sat) (now : Nat) (swH swL : Switching) :
    (x.turnOffBoth now swH swL).high.on = false ∧ (x.turnOffBoth now swH swL).low.on = false := by
  have hhighKept := (x.turnOff true now swH.tsw swH.exit).turnOff_gate_other false now swL.tsw swL.exit
  exact ⟨(congrArg Gate.on hhighKept).trans (x.turnOff_gate_off true _ _ _), Sat.turnOff_gate_off _ false _ _ _⟩

theorem Sat.turnOffBoth_switched (x : Sat) (now : Nat) (swH swL : Switching) : x.switched (x.turnOffBoth now swH swL) :=
  (x.turnOff_switched true _ _ _).trans (Sat.turnOff_switched _ false _ _ _)

/-- What ALLOFF makes of a satellite that has taken its frame: the events of hsck 82, then both gates off and nothing pending. -/
def Sat.allOff (t alive : Nat) (swH swL : Switching) (x : Sat) : Sat :=
  { ((x.accept alive).runEdge (t + 82) swH swL).turnOffBoth (t + 82) swH swL with events := [] }

theorem exec_satAlloff (s : State) (p : Fin 6) (sels : BitVec 8) (now : Nat) (alive : Fin 16) (swH swL : Switching) :
    exec (.satAlloff p sels now alive swH swL) s = .next (s.toSelected p sels now (Sat.allOff now alive swH swL)) := rfl

theorem Sat.allOff_shown (t alive : Nat) (swH swL : Switching) (x : Sat) :
    (x.allOff t alive swH swL).high.on = false ∧ (x.allOff t alive swH swL).low.on = false ∧ (x.allOff t alive swH swL).events = [] ∧
      (x.allOff t alive swH swL).lastGood = alive := by
  obtain ⟨hhigh, hlow⟩ := ((x.accept alive).runEdge (t + 82) swH swL).turnOffBoth_off (t + 82) swH swL
  have hswitched := ((x.accept alive).runEdge_switched (t + 82) swH swL).trans (Sat.turnOffBoth_switched _ (t + 82) swH swL)
  exact ⟨hhigh, hlow, rfl, hswitched.keeps (·.lastGood)⟩

/-! ### The statement -/

/-- Settles O4: an EDGE is a frame carried out, an EDGE_S and an ALLOFF a frame for each selected satellite, and an event that comes due
is `Sat.runEdge`. -/
theorem satelliteGateCommands : Obligations.SatelliteGateCommands := by
  unfold Obligations.SatelliteGateCommands
  intro s p now alive
  refine ⟨?_, ?_, ?_, ?_, ?_⟩
  · intro k payload hlistens hres hgood hboot
    obtain ⟨hsat, -, hothers, hframe⟩ := s.satDo_answers p k ⟨now, alive⟩ (·.statePayload false) fun y => y.enter now payload.toNat
    have hevents := s.heard_keeps (·.events) p k ⟨now, alive⟩
    refine ⟨_, exec_satEdge hlistens hres hgood hboot alive, ?_⟩
    rw [hsat]
    exact ⟨congrArg (· ++ _) hevents, rfl, rfl, hothers, hframe⟩
  · intro sels payload
    refine ⟨_, exec_satEdgeS s p sels now alive payload, ?_, ?_, fun k hk => State.toSelected_unheard hk now _,
      fun q k hq => s.toSelected_otherPort hq sels now _ k, s.toSelected_onlyChanges p sels now _⟩
    · intro k hsel hlistens hboot hgroup hgood
      exact (State.toSelected_heard hsel hlistens now _).trans (State.edgeS_enters hboot hgroup hgood alive)
    · intro k hsel hlistens hboot
      exact (State.toSelected_heard hsel hlistens now _).trans (Sat.edgeS_of_boot hboot now alive _)
  · intro k swH swL due hrun hdue
    refine ⟨_, exec_satEdgeEvent hrun hdue swH swL, ?_, s.modSat_frame p k _⟩
    rw [State.sat_modSat]
    exact ((s.sat p k).runEdge_switched due swH swL).keeps (·.events)
  · intro k swH swL e hrun hevents hdiag hpos hneg hother hlong
    have hdue : (s.sat p k).nextDue = some e.due := by
      unfold Sat.nextDue
      rw [hevents]
      rfl
    obtain ⟨hgate, hleft⟩ := Sat.runEdge_single_switches hevents hdiag hpos hneg hother hlong swH swL
    refine ⟨_, exec_satEdgeEvent hrun hdue swH swL, ?_⟩
    rw [State.sat_modSat]
    exact ⟨hgate, hleft, (s.modSat_frame p k _).2⟩
  · intro sels swH swL
    refine ⟨_, exec_satAlloff s p sels now alive swH swL, ?_, fun k hk => State.toSelected_unheard hk now _,
      fun q k hq => s.toSelected_otherPort hq sels now _ k, s.toSelected_onlyChanges p sels now _⟩
    intro k hsel hlistens
    rw [State.toSelected_heard hsel hlistens]
    exact Sat.allOff_shown now alive swH swL _

end Sys2Proof.Machine
end

section
/-! PROOFS. The protection of a satellite: profiles, halts, clock absence, reset, gate supplies and the short-circuit comparator
(R226, R228, R243, R251, R257, R260 to R263, R268 to R270; log entry 42). -/

set_option Elab.async false

namespace Sys2Proof.Machine

/-! ### Profiles (R257, R260) -/

/-- The profile's code stands in phase 2 alone. -/
theorem Gate.profile_strength (g : Gate) (prof code now tsw exit n : Nat) (adaptive on : Bool) :
    (g.profile prof code now adaptive on tsw exit).strength (now + n) =
      if bitsOf prof 14 10 ≤ n ∧ n < bitsOf prof 14 10 + bitsOf prof 5 0 then (if adaptive then code else bitsOf prof 9 6) else 15 := by
  have hphase : (now + bitsOf prof 14 10 ≤ now + n ∧ now + n < now + bitsOf prof 14 10 + bitsOf prof 5 0) ↔
      bitsOf prof 14 10 ≤ n ∧ n < bitsOf prof 14 10 + bitsOf prof 5 0 := by omega
  exact if_congr hphase rfl rfl

/-! ### AUTO (R251) -/

/-- The channel with which AUTO begins. -/
def Sat.autoChannel (x : Sat) : Option (Fin 7) := if bitOf x.tlmcfg 15 then firstChannel (x.tlmcfg % 128) else none

/-- With the converter free, or AUTO just begun on it, and no run, AUTO stands at its first channel. -/
theorem Sat.convAuto_conv {x : Sat} (hdiag : x.diag = none) (hconv : x.conv = none ∨ x.conv = x.autoChannel) :
    x.convAuto.conv = x.autoChannel := by
  unfold Sat.convAuto
  split
  next hauto =>
    rw [Bool.and_eq_true, Bool.and_eq_true] at hauto
    exact (if_pos hauto.1.1).symm
  next hauto =>
    rcases hconv with hfree | hbegun
    · rw [hfree, hdiag, Option.isNone_none, Option.isNone_none, Bool.and_true, Bool.and_true] at hauto
      exact hfree.trans (if_neg hauto).symm
    · exact hbegun

/-- A run that is abandoned on a free converter leaves it free or lets AUTO begin. -/
theorem Sat.diagAbandon_conv {x : Sat} (hconv : x.conv = none) : x.diagAbandon.conv = none ∨ x.diagAbandon.conv = x.autoChannel := by
  unfold Sat.diagAbandon
  split
  · exact .inr (Sat.convAuto_conv (x := { x with diag := none, diagClass := 6, diagReady := true }) rfl (.inl hconv))
  · exact .inl hconv

/-! ### Halts (R226, R260) -/

theorem exec_satHaltRecognition_opening {s : State} {p : Fin 6} {k : Fin 8} (hrun : (s.sat p k).inReset = false)
    (hframe : (s.sat p k).frame ≠ .taken) (now : Nat) :
    exec (.satHaltRecognition p k ⟨now, true⟩) s = .next (s.modSat p k fun x => { x.cancelOns with frame := .opened }) :=
  congrArg Host.Outcome.next ((State.satWhen_of_running hrun _).trans (State.modSat_congr (if_neg hframe)))

/-- What a satellite has abandoned at hsck `now`: the conversion and the diagnostic run, with every measurement due on record. -/
def Sat.abandoned (x : Sat) (now : Nat) : Sat := (x.settle now).convAbandon.diagAbandon

/-- The satellite after hsck 9 of a halt frame. -/
def Sat.halted (t : Nat) (x : Sat) : Sat :=
  ({ x.abandoned (t + 9) with
    high := (x.abandoned (t + 9)).high.hardOff x.profHard (t + 9), low := (x.abandoned (t + 9)).low.hardOff x.profHard (t + 9)
    events := [], haltSeen := true, driving := false, frame := .taken } : Sat).convAuto

theorem exec_satHaltRecognition_judged {s : State} {p : Fin 6} {k : Fin 8} (hrun : (s.sat p k).inReset = false)
    (hframe : (s.sat p k).frame ≠ .taken) (now : Nat) :
    exec (.satHaltRecognition p k ⟨now, false⟩) s = .next (s.modSat p k (Sat.halted now)) :=
  congrArg Host.Outcome.next ((State.satWhen_of_running hrun _).trans (State.modSat_congr (if_neg hframe)))

theorem Sat.halted_shown (t : Nat) (x : Sat) : (x.halted t).high.on = false ∧ (x.halted t).low.on = false ∧ (x.halted t).events = [] ∧
    (x.halted t).haltSeen = true ∧ (x.halted t).driving = false ∧ (x.halted t).diag = none ∧ (x.halted t).frame = .taken := by
  unfold Sat.halted
  exact ⟨(Sat.convAuto_keeps (·.high.on) _).trans (Gate.hardOff_off _ _ _),
    (Sat.convAuto_keeps (·.low.on) _).trans (Gate.hardOff_off _ _ _),
    Sat.convAuto_keeps (·.events) _, Sat.convAuto_keeps (·.haltSeen) _, Sat.convAuto_keeps (·.driving) _,
    (Sat.convAuto_keeps (·.diag) _).trans (Sat.diagAbandon_diag _), Sat.convAuto_keeps (·.frame) _⟩

/-! ### Clock absence (R228, R251) -/

/-- The satellite after t_CA without an edge of SCLK, the last having been hsck `now`. -/
def Sat.clockLost (now : Nat) (x : Sat) : Sat :=
  ({ x.abandoned now with
    high := (x.abandoned now).high.analogOff none, low := (x.abandoned now).low.analogOff none, events := [], driving := false, ca := true
    frame := if x.frame = .idle then .idle else .taken } : Sat).convAuto

theorem exec_satClockAbsence {s : State} {p : Fin 6} {k : Fin 8} (hrun : (s.sat p k).inReset = false) (now : Nat) :
    exec (.satClockAbsence p ⟨k, now⟩) s = .next (s.modSat p k (Sat.clockLost now)) :=
  congrArg Host.Outcome.next (State.satWhen_of_running hrun _)

theorem Sat.clockLost_shown (now : Nat) (x : Sat) : (x.clockLost now).high.on = false ∧ (x.clockLost now).low.on = false ∧
    (x.clockLost now).events = [] ∧ (x.clockLost now).ca = true ∧ (x.clockLost now).driving = false ∧ (x.clockLost now).diag = none := by
  unfold Sat.clockLost
  exact ⟨(Sat.convAuto_keeps (·.high.on) _).trans (Gate.analogOff_off _ _),
    (Sat.convAuto_keeps (·.low.on) _).trans (Gate.analogOff_off _ _),
    Sat.convAuto_keeps (·.events) _, Sat.convAuto_keeps (·.ca) _, Sat.convAuto_keeps (·.driving) _,
    (Sat.convAuto_keeps (·.diag) _).trans (Sat.diagAbandon_diag _)⟩

/-- AUTO begins again at its lowest channel. -/
theorem Sat.clockLost_conv (now : Nat) (x : Sat) : (x.clockLost now).conv = x.autoChannel := by
  have htlmcfg : (x.abandoned now).autoChannel = x.autoChannel := by
    unfold Sat.abandoned
    rw [Sat.diagAbandon_keeps Sat.autoChannel, Sat.convAbandon_keeps Sat.autoChannel, (x.settle_measured now).rest]
    rfl
  have hconv := Sat.diagAbandon_conv (x.settle now).convAbandon_conv
  rw [← Sat.diagAbandon_keeps Sat.autoChannel] at hconv
  unfold Sat.clockLost
  refine (Sat.convAuto_conv ?_ ?_).trans htlmcfg
  · exact Sat.diagAbandon_diag _
  · exact hconv

/-! ### Gate supplies (R261 to R263) -/

/-- A supply of a gate die is in UV: VPOS, or VNEG. -/
def Gate.inUv (neg : Bool) (g : Gate) : Bool := if neg then g.negUv else g.posUv

/-- The die notes that a supply is in UV. -/
def Gate.noteUv (neg : Bool) (g : Gate) : Gate := if neg then { g with negUv := true } else { g with posUv := true }

theorem Gate.noteUv_inUv (neg : Bool) (g : Gate) : (g.noteUv neg).inUv neg = true := by
  cases neg <;> rfl

theorem Gate.analogOff_inUv (neg : Bool) (g : Gate) (off : Option Nat) : (g.analogOff off).inUv neg = g.inUv neg :=
  g.analogOff_keeps (Gate.inUv neg) off

/-- The die turns its gate off and UV latches; a turn-off on the same edge has no further effect (R282). -/
def Sat.uvLatched (x : Sat) (hi : Bool) (now : Nat) : Sat :=
  let z := { x.modGate hi fun g => ({ g with on := g.on || g.offEdge == some now } : Gate).analogOff (some now) with uv := true }
  if hi then { z with uvH := true } else { z with uvL := true }

theorem Sat.uvLatched_gate (x : Sat) (hi : Bool) (now : Nat) : (x.uvLatched hi now).gate hi =
    ({ x.gate hi with on := (x.gate hi).on || (x.gate hi).offEdge == some now } : Gate).analogOff (some now) := by
  cases hi <;> rfl

theorem Sat.uvLatched_uv (x : Sat) (hi : Bool) (now : Nat) : (x.uvLatched hi now).uv = true := by
  cases hi <;> rfl

/-- An entry into UV is one for the gate when the gate is on or is turned off on the same edge, or when the low side stands by with
CONFIG_DONE set (R262). -/
def Sat.uvMatters (x : Sat) (hi : Bool) (now : Nat) : Prop :=
  ((x.gate hi).on || (x.gate hi).offEdge == some now || (!hi && x.done)) = true

theorem Sat.uvEnter_standing {x : Sat} {hi neg : Bool} (hstands : (x.gate hi).inUv neg = true) (now : Nat) :
    x.uvEnter hi neg now = x := if_pos hstands

theorem Sat.uvEnter_latches {x : Sat} {hi neg : Bool} {now : Nat} (hwell : (x.gate hi).inUv neg = false) (h : x.uvMatters hi now) :
    x.uvEnter hi neg now = ((x.settle now).modGate hi (Gate.noteUv neg)).uvLatched hi now :=
  (if_neg (Bool.eq_false_iff.mp hwell)).trans (if_pos h)

theorem Sat.uvEnter_notes {x : Sat} {hi neg : Bool} {now : Nat} (hwell : (x.gate hi).inUv neg = false) (h : ¬ x.uvMatters hi now) :
    x.uvEnter hi neg now = (x.settle now).modGate hi (Gate.noteUv neg) :=
  (if_neg (Bool.eq_false_iff.mp hwell)).trans (if_neg h)

/-- A supply of a gate that is on enters UV. -/
theorem Sat.uvEnter_of_on {x : Sat} {hi neg : Bool} (hon : (x.gate hi).on = true) (hwell : (x.gate hi).inUv neg = false) (now : Nat) :
    x.uvEnter hi neg now = ((x.settle now).modGate hi (Gate.noteUv neg)).uvLatched hi now := by
  refine Sat.uvEnter_latches hwell ?_
  unfold Sat.uvMatters
  rw [hon, Bool.true_or, Bool.true_or]

theorem Sat.uvEnter_inUv (x : Sat) (hi neg : Bool) (now : Nat) : ((x.uvEnter hi neg now).gate hi).inUv neg = true := by
  have hnoted : (((x.settle now).modGate hi (Gate.noteUv neg)).gate hi).inUv neg = true := by
    rw [Sat.gate_modGate_same, Gate.noteUv_inUv]
  cases hwell : (x.gate hi).inUv neg with
  | true => rwa [Sat.uvEnter_standing hwell]
  | false =>
    by_cases hmatters : x.uvMatters hi now
    · rw [Sat.uvEnter_latches hwell hmatters, Sat.uvLatched_gate, Gate.analogOff_inUv]
      exact hnoted
    · rwa [Sat.uvEnter_notes hwell hmatters]

/-- The satellite whose gate die has its VPOS below 6 V. -/
def Sat.collapse (hi : Bool) (now : Nat) (x : Sat) : Sat :=
  (x.uvEnter hi false now).modGate hi fun g => { g.analogOff (some now) with collapsed := true }

theorem exec_satGateSupplyCollapse (s : State) (p : Fin 6) (k : Fin 8) (high : Bool) (now : Nat) :
    exec (.satGateSupplyCollapse p k high now) s = .next (s.modSat p k (Sat.collapse high now)) := rfl

theorem Sat.collapse_shown (hi : Bool) (now : Nat) (x : Sat) : ((x.collapse hi now).gate hi).on = false ∧
    ((x.collapse hi now).gate hi).collapsed = true ∧ ((x.collapse hi now).gate hi).posUv = true := by
  have huv := x.uvEnter_inUv hi false now
  rw [← Gate.analogOff_inUv false _ (some now)] at huv
  unfold Sat.collapse
  rw [Sat.gate_modGate_same]
  exact ⟨Gate.analogOff_off _ _, rfl, huv⟩

/-! ### Short circuit (R268 to R270) -/

/-- SC latched for a gate. -/
def Sat.shorted (hi : Bool) (x : Sat) : Sat := if hi then { x with sc := true, scH := true } else { x with sc := true, scL := true }

theorem Sat.shorted_shown (hi : Bool) (x : Sat) : (x.shorted hi).sc = true ∧
    ((if hi then (x.shorted hi).scH else (x.shorted hi).scL) = true) ∧ (x.shorted hi).gate hi = x.gate hi := by
  cases hi <;> exact ⟨rfl, rfl, rfl⟩

/-- The last FILT samples above V_TH, on an enabled gate that has been on for BLANK, latch SC. -/
theorem exec_satScLatch {s : State} {p : Fin 6} {k : Fin 8} {high : Bool} {now : Nat} {mv : List Nat} (hrun : (s.sat p k).inReset = false)
    (hon : ((s.sat p k).gate high).on = true) (henabled : bitOf (s.sat p k).sccfg (if high then 3 else 2) = true)
    (hblank : ((s.sat p k).gate high).onAt + (s.sat p k).blank + bitsOf (s.sat p k).sccfg 7 4 ≤ now + 1)
    (hfilt : bitsOf (s.sat p k).sccfg 7 4 ≤ mv.length) (habove : ∀ v ∈ mv, scThreshold (s.sat p k).sccfg < v) :
    exec (.satScLatch p k ⟨high, now, mv⟩) s = .next (s.modSat p k (Sat.shorted high)) := by
  have hsamples : ((mv.reverse.take (bitsOf (s.sat p k).sccfg 7 4)).all fun v => decide (scThreshold (s.sat p k).sccfg < v)) = true :=
    List.all_eq_true.mpr fun v hv => decide_eq_true (habove v (List.mem_reverse.mp (List.mem_of_mem_take hv)))
  refine congrArg Host.Outcome.next ((State.satWhen_of_running hrun _).trans (State.modSat_congr (if_pos ?_)))
  dsimp only
  rw [henabled, hon, decide_eq_true hblank, decide_eq_true hfilt, hsamples, Bool.true_or]
  rfl

/-! ### The statement -/

/-- Settles O5: each command is a change of the satellite alone, which its own lemma gives. -/
theorem satelliteProtection : Obligations.SatelliteProtection := by
  unfold Obligations.SatelliteProtection
  intro s p k
  refine ⟨Gate.profile_strength, ?_, ?_, ?_, ?_, ?_, ?_, ?_, ?_, ?_, ?_⟩
  · intro now hrun hframe
    refine ⟨_, exec_satHaltRecognition_opening hrun hframe now, ?_⟩
    rw [State.sat_modSat]
    exact ⟨rfl, rfl, rfl, rfl, s.modSat_frame p k _⟩
  · intro now hrun hframe
    obtain ⟨hhigh, hlow, hevents, hseen, hdriving, hdiag, htaken⟩ := (s.sat p k).halted_shown now
    refine ⟨_, exec_satHaltRecognition_judged hrun hframe now, ?_⟩
    rw [State.sat_modSat]
    exact ⟨hhigh, hlow, hevents, hseen, hdriving, hdiag, htaken, s.modSat_frame p k _⟩
  · intro now hrun
    obtain ⟨hhigh, hlow, hevents, hca, hdriving, hdiag⟩ := (s.sat p k).clockLost_shown now
    refine ⟨_, exec_satClockAbsence hrun now, ?_⟩
    rw [State.sat_modSat]
    exact ⟨hhigh, hlow, hevents, hca, hdriving, (s.sat p k).clockLost_conv now, hdiag, s.modSat_frame p k _⟩
  · refine ⟨s.modSat p k fun x => { x.reset false with inReset := true }, rfl, ?_⟩
    rw [State.sat_modSat]
    exact ⟨rfl, rfl, rfl, rfl, rfl, rfl, rfl, s.modSat_frame p k _⟩
  · exact ⟨s.modSat p k fun x => { x with inReset := false }, rfl, s.sat_modSat p k _, s.modSat_frame p k _⟩
  · intro high neg now hon hwell
    have hinUv := (s.sat p k).uvEnter_inUv high neg now
    refine ⟨s.modSat p k (·.uvEnter high neg now), rfl, ?_⟩
    rw [State.sat_modSat]
    refine ⟨?_, hinUv, ?_, s.modSat_frame p k _⟩
    · rw [Sat.uvEnter_of_on hon hwell, Sat.uvLatched_gate]
      exact Gate.analogOff_off _ _
    · rw [Sat.uvEnter_of_on hon hwell]
      exact Sat.uvLatched_uv _ _ _
  · intro high neg
    refine ⟨s.modSat p k fun x => x.modGate high fun g =>
      if neg then { g with negUv := false } else { g with posUv := false, collapsed := false }, rfl, ?_⟩
    rw [State.sat_modSat, Sat.gate_modGate_same]
    cases neg <;> exact ⟨rfl, rfl, s.modSat_frame p k _⟩
  · intro high now
    obtain ⟨hoff, hcollapsed, huv⟩ := (s.sat p k).collapse_shown high now
    refine ⟨_, exec_satGateSupplyCollapse s p k high now, ?_⟩
    rw [State.sat_modSat]
    exact ⟨hoff, hcollapsed, huv, s.modSat_frame p k _⟩
  · intro high hcollapsed
    refine ⟨s.modSat p k fun x => x.modGate high fun g => if g.collapsed then { g with on := false, collapsed := false } else g, rfl, ?_⟩
    rw [State.sat_modSat, Sat.gate_modGate_same, hcollapsed]
    exact ⟨rfl, rfl, rfl, s.modSat_frame p k _⟩
  · intro high now mv hrun hon henabled hblank hfilt habove
    obtain ⟨hsc, hside, hgate⟩ := (s.sat p k).shorted_shown high
    refine ⟨_, exec_satScLatch hrun hon henabled hblank hfilt habove, ?_⟩
    rw [State.sat_modSat]
    exact ⟨hsc, hside, hgate, s.modSat_frame p k _⟩

end Sys2Proof.Machine
end

section
/-! PROOFS. The sample of a control cycle on an axis whose record of an OVERCURRENT has outlived Fault (R291, R304, R312). -/

namespace Sys2Proof.Machine

/-! ### A cause that its record holds already (R312) -/

/-- A field written with what it holds. -/
theorem withField_fieldOf (w : Word) (hi lo : Nat) : withField w hi lo (fieldOf w hi lo) = w := by
  apply BitVec.eq_of_getLsbD_eq
  intro j hj
  rw [testBit_withField _ _ _ _ _ hj]
  split
  next hin => rw [fieldOf_testBit, decide_eq_true (by omega), Bool.true_and, Nat.add_sub_cancel' hin.1]
  · rfl

theorem or_two_pow_of_bitOf {v c : Nat} (h : bitOf v c = true) : v ||| 2 ^ c = v := by
  apply Nat.eq_of_testBit_eq
  intro i
  rw [Nat.testBit_or, Nat.testBit_two_pow]
  by_cases hi : c = i
  · subst hi
    rw [← bitOf_eq_testBit, h, Bool.true_or]
  · rw [decide_eq_false hi, Bool.or_false]

theorem State.reg_putOr_of_set {s : State} {f : Fld} {c : Nat} (hset : bitOf (s.get f) c = true) (x : Nat) :
    (s.putOr f (2 ^ c)).reg x = s.reg x := by
  by_cases hx : x = f.addr
  · subst hx
    unfold State.putOr
    rw [or_two_pow_of_bitOf hset, State.reg_noteSet, State.reg_setReg_same]
    exact withField_fieldOf _ _ _
  · exact s.reg_putOr_ne _ hx

/-- The bits of ENG_FAULT by the codes of R312. -/
abbrev engCauses (a : Fin 8) : Fld := ⟨ENG_FAULT a, 13, 0⟩

/-- A cause is recorded in ENG_FAULT, and as the first one if none was. -/
def State.engineNoted (s : State) (a : Fin 8) (c : Nat) : State :=
  if s.get (ENG_FAULT_FIRST a) = 0 then (s.putOr (engCauses a) (2 ^ c)).put (ENG_FAULT_FIRST a) c else s.putOr (engCauses a) (2 ^ c)

/-- A cause that counts in SAFE too, on an axis that is in no fault state or has not recorded it. -/
theorem State.engineFault_eq {s : State} {a : Fin 8} {c : Nat} (hcause : ¬(c = 4 ∨ c = 12))
    (hnew : ¬(s.inFault a = true ∧ bitOf (s.get (engCauses a)) c = true)) :
    s.engineFault a c = (s.engineNoted a c).takeFault a c (engineError c) := by
  unfold State.engineFault
  rw [if_neg fun h => hcause h.1, if_neg hnew]
  rfl

theorem State.engineNoted_axes (s : State) (a : Fin 8) (c : Nat) : (s.engineNoted a c).axes = s.axes := by
  unfold State.engineNoted
  split <;> simp only [State.put_axes, State.putOr_axes]

theorem State.engineNoted_eng (s : State) (a : Fin 8) (c : Nat) : (s.engineNoted a c).eng = s.eng := by
  unfold State.engineNoted
  split <;> rfl

theorem State.inFault_congr {s t : State} (h : t.axes = s.axes) (a : Fin 8) : t.inFault a = s.inFault a := by
  unfold State.inFault
  rw [h]

/-- A cause whose bit is set already, with another first one or the same, leaves every register as it is. -/
theorem State.reg_engineNoted_of_set {s : State} {a : Fin 8} {c : Nat} (hset : bitOf (s.get (engCauses a)) c = true)
    (hfirst : s.get (ENG_FAULT_FIRST a) ≠ 0) (x : Nat) : (s.engineNoted a c).reg x = s.reg x := by
  unfold State.engineNoted
  rw [if_neg hfirst]
  exact State.reg_putOr_of_set hset x

/-! ### What a drive fault leaves of the engine and of the axis (R78, R89) -/

theorem State.fastHalt_eng (s : State) (a : Fin 8) : (s.fastHalt a).eng = (s.levelsOff a).eng := by
  have hbrake : ((((s.haltAxisPorts a).stopEngine a).levelsOff a).brakeCmd a false).eng =
      (((s.haltAxisPorts a).stopEngine a).levelsOff a).eng :=
    (State.brakeCmd_ev (m := 0x100000000100000) (.refl _ _)).same .eng (by decide)
  have hstop : ((s.haltAxisPorts a).stopEngine a).eng = s.eng :=
    ((State.stopEngine_ev (m := 0x2000000000c00) (State.haltAxisPorts_ev (.refl _ s)))).same .eng (by decide)
  unfold State.fastHalt State.haltAxis
  rw [hbrake]
  unfold State.levelsOff
  rw [State.modEng_eng, State.modEng_eng, hstop]

theorem State.faultNoted_eng (s : State) (a : Fin 8) (axerr : Nat) : (s.faultNoted a axerr).eng = s.eng := by
  have hblock : AX_ERR a / 65536 % 32 = 17 ∧ AX_EVT a / 65536 % 32 = 17 := by revert a; decide
  exact (Ev.raise (m := 0x2000800000000) (f := axEvt a) (Ev.put (f := AX_ERR_ERRCODE a) (Ev.mark (.refl _ s)) 17 hblock.1) 17
    hblock.2).same .eng (by decide)

/-- An axis in a fault state that takes another drive fault. -/
theorem State.takeFault_again {s : State} {a : Fin 8} (h : s.inFault a = true) (cause axerr : Nat) :
    s.takeFault a cause axerr = (s.faultNoted a axerr).fastHalt a := by
  unfold State.inFault at h
  rw [Bool.or_eq_true, beq_iff_eq, beq_iff_eq] at h
  unfold State.takeFault
  exact if_pos h

theorem State.faultEntered_eng (s : State) (a : Fin 8) (cause axerr : Nat) (x : Axis) :
    (s.faultEntered a cause axerr x).eng = s.eng := by
  have hblock : AX_EVT a / 65536 % 32 = 17 := by revert a; decide
  have hto : Ev 0x2000800104400 s ((s.axisTo a .faultReact x.mode).axisTo a .fault x.mode) := State.axisTo_ev (State.axisTo_ev (.refl _ s))
  refine Ev.same (m := 0x2000800104400) ?_ .eng (by decide)
  unfold State.faultEntered
  exact Ev.emcy (Ev.ite (fun _ => Ev.raise hto 17 hblock) fun _ => hto)

/-- Of the engine a drive fault changes the levels alone. -/
theorem State.takeFault_eng (s : State) (a : Fin 8) (cause axerr : Nat) : (s.takeFault a cause axerr).eng = (s.levelsOff a).eng := by
  have hhalt : ((s.faultNoted a axerr).fastHalt a).eng = (s.levelsOff a).eng := by
    rw [State.fastHalt_eng]
    unfold State.levelsOff
    rw [State.modEng_eng, State.modEng_eng, State.faultNoted_eng]
  cases h : s.inFault a with
  | true => rw [State.takeFault_again h, hhalt]
  | false => rw [State.takeFault_eq h, State.faultEntered_eng, hhalt]

theorem State.modEng_engine (s : State) (a : Fin 8) (f : Eng → Eng) : (s.modEng a f).eng[a] = f s.eng[a] := upd_same _ _ _

theorem State.engine_congr {s t : State} (h : t.eng = s.eng) (a : Fin 8) : t.eng[a] = s.eng[a] :=
  congrArg (fun v : Vector Eng 8 => v[a]) h

theorem State.engineFault_found (s : State) (a : Fin 8) (c : Nat) : (s.engineFault a c).eng[a].found = s.eng[a].found := by
  have hnoted : ((s.engineNoted a c).takeFault a c (engineError c)).eng[a].found = s.eng[a].found := by
    rw [State.engine_congr (State.takeFault_eng _ _ _ _) a]
    unfold State.levelsOff
    rw [State.modEng_engine, State.engine_congr (s.engineNoted_eng a c) a]
  unfold State.engineFault
  split
  · rfl
  · split
    · rfl
    · exact hnoted

/-- An axis whose engine a drive fault has stopped: in Fault, no ramp, no EMERGENCY pending, no edges published, no gate known to be on. -/
structure State.stoppedInFault (s : State) (a : Fin 8) : Prop where
  fault : s.axes[a].st = .fault
  ramp : s.axes[a].ramp = .none
  pend : s.axes[a].pendEmg = false
  edges : s.get (ENG_STAT_EDGES a) = 0
  levels : s.eng[a].lv = Vector.replicate 3 none

theorem State.stoppedInFault.inFault {s : State} {a : Fin 8} (h : s.stoppedInFault a) : s.inFault a = true := by
  unfold State.inFault
  rw [h.fault]
  rfl

theorem State.takeFault_stopped {s : State} {a : Fin 8} {cause axerr : Nat} (h : s.inFault a = false) (herr : axerr < 2 ^ 16) :
    (s.takeFault a cause axerr).stoppedInFault a := by
  obtain ⟨hst, -, hedges, -⟩ := State.takeFault_faulted (cause := cause) h herr
  have hstopped : ∀ {α : Type} (part : Axis → α), (∀ (x : Axis) (c : Cia) (m : Int) (w : List Nat), part (x.taken c m w) = part x) →
      part (s.takeFault a cause axerr).axes[a] = part s.axes[a].stopped := by
    intro α part hpart
    rw [State.takeFault_eq h, State.axis_congr (State.faultEntered_axes _ _ _ _ _) a, State.axisTo_keeps part _ _ _ _ hpart,
      State.axisTo_keeps part _ _ _ _ hpart, State.fastHalt_axis, State.axis_congr (s.faultNoted_axes a axerr) a]
  refine ⟨hst, hstopped Axis.ramp fun _ _ _ _ => rfl, hstopped Axis.pendEmg fun _ _ _ _ => rfl, hedges, ?_⟩
  rw [State.engine_congr (s.takeFault_eng a cause axerr) a]
  exact congrArg Eng.lv (s.modEng_engine a _)

/-- In Fault already, an axis takes the error code of its next drive fault (R312). -/
theorem State.takeFault_again_code {s : State} {a : Fin 8} {cause axerr : Nat} (h : s.inFault a = true) (herr : axerr < 2 ^ 16) :
    (s.takeFault a cause axerr).get (AX_ERR_ERRCODE a) = axerr := by
  obtain ⟨hblock, hnot⟩ : AX_ERR a / 65536 % 32 = 17 ∧ AX_ERR a ∉ haltRegs a := by
    clear h; revert a; decide
  have hnoted := (State.keepsRegs.refl ((s.markAct 3 a).put (AX_ERR_ERRCODE a) axerr) 17 (haltRegs a)).raise (f := axEvt a) (i := 2)
    (j := evAxis a) List.mem_cons_self (by decide)
  rw [State.takeFault_again h]
  exact ((State.fastHalt_keepsRegs hnoted).get (f := AX_ERR_ERRCODE a) hblock hnot).trans
    (State.get_put_fits _ _ herr (by decide : 15 < 32) (Nat.zero_le _))

/-! ### The cycle of an axis that a drive fault has stopped (R304) -/

/-- An axis without a ramp waits for no standstill: its speed alone is judged (R79). -/
theorem State.stillEdge_of_no_ramp {s : State} {a : Fin 8} (h : s.axes[a].ramp = .none) : ∃ f : Axis → Axis,
    s.stillEdge a = s.modAxis a f ∧ ∀ x, (f x).st = x.st ∧ (f x).ramp = x.ramp ∧ (f x).pendEmg = x.pendEmg := by
  have hwaits : s.axes[a].waitsStill = false := by
    unfold Axis.waitsStill
    rw [h]
  unfold State.stillEdge
  dsimp only
  rw [hwaits, Bool.not_false, Bool.or_true, if_pos rfl]
  refine ⟨_, rfl, fun x => ?_⟩
  split <;> exact ⟨rfl, rfl, rfl⟩

theorem State.pendEdge_of_none {s : State} {a : Fin 8} (h : s.axes[a].pendEmg = false) : s.pendEdge a = s := by
  unfold State.pendEdge
  rw [h, Bool.false_and, if_neg Bool.false_ne_true]

theorem State.newFault_congr {s t : State} {a : Fin 8} (heng : t.reg (ENG_FAULT a) = s.reg (ENG_FAULT a))
    (hwinch : t.reg (WN_FAULT a) = s.reg (WN_FAULT a)) : t.newFault s a = false := by
  unfold State.newFault
  rw [heng, hwinch, bne_self_eq_false, bne_self_eq_false]
  rfl

/-- A cycle without edges has no torque demand. -/
def State.undemanded (s : State) (a : Fin 8) : State := (s.put (ENG_TDEM_T a) 0).modEng a fun e => { e with tDem := 0, tLast := 0 }

theorem State.undemanded_engine (s : State) (a : Fin 8) : (s.undemanded a).eng[a] = { s.eng[a] with tDem := 0, tLast := 0 } :=
  State.modEng_engine _ a _

/-- A cycle that publishes no edges and latches no drive fault, from the state in which its standstill and its pending EMERGENCY have been
judged. -/
theorem State.cycleWork_of_no_edges {s u : State} {a : Fin 8}
    (hjudged : ((s.modAxis a fun x => { x with clampActs := false }).stillEdge a).pendEdge a = u)
    (hedges : u.get (ENG_STAT_EDGES a) = 0) (hfault : u.newFault s a = false) :
    s.cycleWork a = (u.undemanded a).publish a ((u.undemanded a).planCycle a false fun _ => 0) := by
  unfold State.cycleWork
  rw [hjudged]
  simp only [State.flag_eq_false hedges, Bool.false_eq_true, if_false, hfault]
  rfl

/-- No clamp of R82 has acted on the axis in this cycle yet. -/
def Axis.unclamped (x : Axis) : Axis := { x with clampActs := false }

/-- A stopped axis publishes the plan without edges. -/
theorem State.cycleWork_of_stopped {s : State} {a : Fin 8} (h : s.stoppedInFault a) : ∃ f : Axis → Axis, (∀ x, (f x).st = x.st) ∧
    s.cycleWork a = ((s.modAxis a f).undemanded a).publish a (((s.modAxis a f).undemanded a).planCycle a false fun _ => 0) := by
  have hramp : (s.modAxis a Axis.unclamped).axes[a].ramp = .none := (congrArg Axis.ramp (s.modAxis_axis a _)).trans h.ramp
  obtain ⟨f, hstill, hf⟩ := State.stillEdge_of_no_ramp hramp
  have hjoin : (s.modAxis a Axis.unclamped).modAxis a f = s.modAxis a fun x => f x.unclamped := by
    unfold State.modAxis upd
    simp
  have hpend : (s.modAxis a fun x => f x.unclamped).axes[a].pendEmg = false := by
    rw [State.modAxis_axis, (hf _).2.2]
    exact h.pend
  have hjudged : ((s.modAxis a Axis.unclamped).stillEdge a).pendEdge a = s.modAxis a fun x => f x.unclamped := by
    rw [hstill, hjoin, State.pendEdge_of_none hpend]
  exact ⟨fun x => f x.unclamped, fun x => (hf _).1, State.cycleWork_of_no_edges hjudged h.edges (State.newFault_congr rfl rfl)⟩

/-- With no level known and no edges asked for, the plan turns nothing off. -/
theorem State.planCycle_of_off {s : State} {a : Fin 8} (h : s.eng[a].lv = Vector.replicate 3 none) (d : Nat → Nat) :
    (s.planCycle a false d).comms = [] := by
  unfold State.planCycle
  dsimp only [Bool.false_eq_true, if_false]
  rw [h]
  rfl

/-- A publish of no commands counts no delay. -/
def State.slipsShown (s : State) (a : Fin 8) : State :=
  (s.bumpBy (ENG_SCHED_SLIPS a) 0).put (ENG_SCHED_MAXSLIP a) (max (s.get (ENG_SCHED_MAXSLIP a)) 0)

theorem State.phasePort_mem_axisPorts (s : State) (a : Fin 8) : s.phasePort a 0 ∈ s.axisPorts a := by
  unfold State.axisPorts
  rw [List.mem_filter, Bool.or_eq_true]
  exact ⟨List.mem_finRange _, .inr (List.any_eq_true.mpr ⟨0, List.mem_finRange 0, beq_self_eq_true _⟩)⟩

/-- Every port streams with more entries in its engine queue than a publish may leave there (R304). -/
def State.overfull (s : State) : Prop := ∀ p : Fin 6, s.ports[p].st = .stream ∧ 32 < s.ports[p].engQ.length

/-- A publish to overfull queues is SCHEDULE_OVERFLOW, also where it has no command to add. -/
theorem State.publish_of_overfull {s : State} {a : Fin 8} {pl : Plan} (hnone : pl.comms = []) (h : s.overfull) :
    s.publish a pl = (s.slipsShown a).engineFault a 10 := by
  have hstream : ¬((s.axisPorts a).any fun p => s.ports[p].st != .stream) = true := by
    rw [List.any_eq_true]
    rintro ⟨p, -, hp⟩
    rw [(h p).1] at hp
    exact absurd hp (by decide)
  have hover : ((s.axisPorts a).any fun p => decide (32 < s.ports[p].engQ.length)) = true :=
    List.any_eq_true.mpr ⟨_, s.phasePort_mem_axisPorts a, decide_eq_true (h _).2⟩
  unfold State.publish
  rw [hnone]
  dsimp only
  refine (if_neg hstream).trans (if_pos ?_)
  exact hover

/-- On a stopped axis whose ports are overfull the cycle after a sample is SCHEDULE_OVERFLOW: its error code replaces the one before. -/
theorem State.cycleWork_overflows {s : State} {a : Fin 8} (h : s.stoppedInFault a) (hfull : s.overfull)
    (hnew : bitOf (s.get (engCauses a)) 10 = false) :
    (s.cycleWork a).get (AX_ERR_ERRCODE a) = 0xFF56 ∧ (s.cycleWork a).eng[a].found = s.eng[a].found := by
  obtain ⟨f, hf, hcycle⟩ := State.cycleWork_of_stopped h
  have hlevels : ((s.modAxis a f).undemanded a).eng[a].lv = Vector.replicate 3 none :=
    (congrArg Eng.lv ((s.modAxis a f).undemanded_engine a)).trans h.levels
  have hpublish := State.publish_of_overfull (s := (s.modAxis a f).undemanded a) (a := a) (State.planCycle_of_off hlevels fun _ => 0) hfull
  have hfault : (((s.modAxis a f).undemanded a).slipsShown a).inFault a = true := by
    have hst : (s.modAxis a f).axes[a].st = .fault := ((congrArg Axis.st (s.modAxis_axis a f)).trans (hf _)).trans h.fault
    have haxes : (((s.modAxis a f).undemanded a).slipsShown a).axes = (s.modAxis a f).axes := rfl
    rw [State.inFault_congr haxes]
    unfold State.inFault
    rw [hst]
    rfl
  have hcauses : (((s.modAxis a f).undemanded a).slipsShown a).get (engCauses a) = s.get (engCauses a) := by
    obtain ⟨hsched, htdem⟩ : ENG_FAULT a ≠ ENG_SCHED a ∧ ENG_FAULT a ≠ ENG_TDEM a := by
      clear * - a; revert a; decide
    exact (State.get_put_ne _ _ hsched).trans ((State.get_put_ne _ _ hsched).trans (State.get_put_ne (s.modAxis a f) _ htdem))
  rw [hcycle, hpublish]
  refine ⟨?_, ?_⟩
  · rw [State.engineFault_eq (by decide) fun e => Bool.false_ne_true ((hnew.symm.trans (congrArg (bitOf · 10) hcauses.symm)).trans e.2)]
    exact State.takeFault_again_code ((State.inFault_congr (State.engineNoted_axes _ a 10) a).trans hfault) (by decide)
  · have heng : (((s.modAxis a f).undemanded a).slipsShown a).eng = ((s.modAxis a f).undemanded a).eng := rfl
    rw [State.engineFault_found, State.engine_congr heng, State.undemanded_engine]
    rfl

/-! ### The registers of a sample (R292, R314) -/

theorem State.reg_putFree_ne (s : State) {f : Fld} {x : Nat} (v lo hi : Int) (h : x ≠ f.addr) : (s.putFree f v lo hi).reg x = s.reg x := by
  unfold State.putFree
  split
  · exact s.reg_put_ne _ h
  · exact State.reg_put_ne (s.drawInt 42).2 _ h

/-- The registers in which the engine shows what it has measured. -/
def measuredRegs (a : Fin 8) : List Nat := [ENG_SPD a, ENG_UDC a, ENG_IDQ a, ENG_TDEM a]

theorem State.reg_sampleRegs (s : State) {a : Fin 8} {x : Nat} (h : x ∉ measuredRegs a) : (s.sampleRegs a).reg x = s.reg x := by
  simp only [measuredRegs, List.mem_cons, List.not_mem_nil, or_false, not_or] at h
  obtain ⟨hspd, hudc, hidq, htdem⟩ := h
  unfold State.sampleRegs
  dsimp only
  rw [State.reg_modEng, State.reg_putFree_ne _ _ _ _ htdem, State.reg_putFree_ne _ _ _ _ hidq, State.reg_putFree_ne _ _ _ _ hidq,
    State.reg_putFree_ne _ _ _ _ hudc, State.reg_putFree_ne _ _ _ _ hspd]

theorem State.get_sampleRegs (s : State) {a : Fin 8} {f : Fld} (h : f.addr ∉ measuredRegs a) : (s.sampleRegs a).get f = s.get f := by
  unfold State.get
  rw [s.reg_sampleRegs h]

/-- A sample of one channel of phase A beyond OCLIM, and nothing else of R312: no overrange, no DC-link channel with UDCMIN at 0, and a
limit of speed that no measured speed reaches. -/
theorem State.sampleCauses_overcurrent {s : State} {a : Fin 8} {c : Nat} (hchannels : s.axisChannels a = [c])
    (hrole : s.get (MOD_CFG_ROLE c) = 0)
    (hover : s.get (ENG_PROT_OCLIM a) * 32767 < (s.sget (MOD_VAL_VAL c)).natAbs * s.get (ENG_SCALE_IFS a))
    (hmin : s.get (ENG_UDCLIM_UDCMIN a) = 0) (hspeed : s.get (ENG_PROT_OSLIM a) = 65535) : s.sampleCauses a [] = [1] := by
  have hsum : s.roleSum a 0 = s.sget (MOD_VAL_VAL c) ∧ s.roleSum a 1 = 0 ∧ s.roleSum a 3 = 0 := by
    simp [State.roleSum, hchannels, hrole]
  obtain ⟨hphase, hother, hlink⟩ := hsum
  have hcurrents : s.phaseCurrents a = (s.sget (MOD_VAL_VAL c), 0, -s.sget (MOD_VAL_VAL c)) := by
    simp [State.phaseCurrents, State.hasRole, hphase, hother, hchannels, hrole]
  have hslow : ¬ 65535 * 65536 < (s.sget (ENG_SPD_V a)).natAbs := by
    have hword : s.get (ENG_SPD_V a) < 2 ^ 32 := s.get_lt (ENG_SPD_V a)
    have hcode : s.sget (ENG_SPD_V a) = sgn 32 (s.get (ENG_SPD_V a)) := rfl
    rw [hcode]
    unfold sgn
    split <;> omega
  unfold State.sampleCauses
  rw [hcurrents]
  simp [hover, hlink, hmin, hspeed, hslow]

theorem MOD_CFG_not_measured (a : Fin 8) (c : Nat) : MOD_CFG c ∉ measuredRegs a := by
  simp only [measuredRegs, MOD_CFG, ENG_SPD, ENG_UDC, ENG_IDQ, ENG_TDEM, List.mem_cons, List.not_mem_nil, or_false, not_or]
  omega

theorem MOD_VAL_not_measured (a : Fin 8) (c : Nat) : MOD_VAL c ∉ measuredRegs a := by
  simp only [measuredRegs, MOD_VAL, ENG_SPD, ENG_UDC, ENG_IDQ, ENG_TDEM, List.mem_cons, List.not_mem_nil, or_false, not_or]
  omega

theorem State.axisChannels_sampleRegs (s : State) (a : Fin 8) : (s.sampleRegs a).axisChannels a = s.axisChannels a := by
  have hmember : (s.sampleRegs a).member = s.member := (State.sampleRegs_ev (m := 0xffffffff00010002) (.refl _ s)).member
  have hcfg : ∀ (c hi lo : Nat), (s.sampleRegs a).get ⟨MOD_CFG c, hi, lo⟩ = s.get ⟨MOD_CFG c, hi, lo⟩ :=
    fun c _ _ => s.get_sampleRegs (MOD_CFG_not_measured a c)
  unfold State.axisChannels State.nMod State.flag MOD_CFG_EN MOD_CFG_AXIS
  simp only [hmember, hcfg]

theorem engineSettings_not_measured (a : Fin 8) : ENG_PROT a ∉ measuredRegs a ∧ ENG_SCALE a ∉ measuredRegs a ∧
    ENG_UDCLIM a ∉ measuredRegs a := by
  revert a; decide

/-- What the engine measures with the sample bears on none of what an OVERCURRENT alone is judged by. -/
theorem State.sampleRegs_overcurrent {s : State} {a : Fin 8} {c : Nat} (hchannels : s.axisChannels a = [c])
    (hrole : s.get (MOD_CFG_ROLE c) = 0)
    (hover : s.get (ENG_PROT_OCLIM a) * 32767 < (s.sget (MOD_VAL_VAL c)).natAbs * s.get (ENG_SCALE_IFS a))
    (hmin : s.get (ENG_UDCLIM_UDCMIN a) = 0) (hspeed : s.get (ENG_PROT_OSLIM a) = 65535) : (s.sampleRegs a).sampleCauses a [] = [1] := by
  obtain ⟨hprot, hscale, hlimit⟩ := engineSettings_not_measured a
  have hvalue : (s.sampleRegs a).sget (MOD_VAL_VAL c) = s.sget (MOD_VAL_VAL c) :=
    congrArg (sgn 16) (s.get_sampleRegs (MOD_VAL_not_measured a c))
  refine State.sampleCauses_overcurrent ((s.axisChannels_sampleRegs a).trans hchannels)
    ((s.get_sampleRegs (MOD_CFG_not_measured a c)).trans hrole) ?_ ((s.get_sampleRegs hlimit).trans hmin)
    ((s.get_sampleRegs hprot).trans hspeed)
  rw [hvalue, s.get_sampleRegs (f := ENG_PROT_OCLIM a) hprot, s.get_sampleRegs (f := ENG_SCALE_IFS a) hscale]
  exact hover

/-! ### The sample of a cycle (R291, R313) -/

/-- The filter outputs of a cycle stand in the registers of their channels. -/
def State.sampleTaken (s : State) (a : Fin 8) (raw : List Int) : State :=
  (((s.axisChannels a).zip raw).foldl (fun u p => u.modSample p.1 p.2) (s.strobe (evAxis a + 6))).modEng a fun e => { e with sampled := true }

/-- The channels whose filter output is beyond 15/16 of full scale. -/
def State.overranged (s : State) (a : Fin 8) (raw : List Int) : List Nat :=
  (((s.axisChannels a).zip raw).filter fun p => decide (15 * 32767 < 16 * p.2.natAbs)).map (·.1)

/-- The last sample of the axis has found these causes. -/
def State.causesFound (s : State) (a : Fin 8) (causes : List Nat) : State :=
  s.modEng a fun e => { e with found := causes.foldl (fun m c => m ||| 2 ^ c) 0 }

/-- The engine after its sample has found these causes: the cycle goes on where no drive fault is new. -/
def State.causesTaken (s : State) (a : Fin 8) (causes : List Nat) : State :=
  let t := causes.foldl (fun u c => u.engineFault a c) (s.causesFound a causes)
  if t.newFault (s.causesFound a causes) a then t.stillEdge a else t.cycleWork a

/-- A sample that is due is taken, measured and judged. -/
theorem exec_filterOutputReady_of_due {s : State} {a : Fin 8} (hup : s.up = true) (hinit : s.get (AX_CTRL_INIT a) = 1)
    (hclaim : s.mclkOff a = false) (hawaits : s.eng[a].sampled = false) (hen : s.get (MOD_AX_EN a) = 1)
    (hready : s.readyClk a < s.get (ENG_CFG_CYC a) * 43 * s.portN (s.lead a)) (raw : List Int) :
    exec (.filterOutputReady a raw) s = .next (((s.sampleTaken a raw).sampleRegs a).causesTaken a
      (((s.sampleTaken a raw).sampleRegs a).sampleCauses a (s.overranged a raw))) := by
  refine congrArg Host.Outcome.next ((State.whenUp_of_up hup _).trans (if_neg ?_))
  rw [hinit, hclaim, hawaits, State.flag_eq_true hen, decide_eq_false (Nat.not_le.mpr hready)]
  decide

/-- An OVERCURRENT that ENG_FAULT records already, on an axis that is in no fault state, is no new drive fault; where the ports of the axis
are overfull the axis ends in SCHEDULE_OVERFLOW. -/
theorem State.causesTaken_overflows {s : State} {a : Fin 8} (hno : s.inFault a = false) (hset : bitOf (s.get (engCauses a)) 1 = true)
    (hfirst : s.get (ENG_FAULT_FIRST a) ≠ 0) (hnew : bitOf (s.get (engCauses a)) 10 = false) (hfull : s.overfull) :
    (s.causesTaken a [1]).get (AX_ERR_ERRCODE a) = 0xFF56 ∧ (s.causesTaken a [1]).eng[a].found = 2 := by
  obtain ⟨⟨heng17, hengNot⟩, hwn24, hwnNot⟩ : (ENG_FAULT a / 65536 % 32 = 17 ∧ ENG_FAULT a ∉ axisRegs a) ∧
      WN_FAULT a / 65536 % 32 = 24 ∧ WN_FAULT a ∉ AX_EVT a :: brakeStats := by
    clear * - a; revert a; decide
  have hnoted : ((s.causesFound a [1]).engineNoted a 1).inFault a = false :=
    (State.inFault_congr (State.engineNoted_axes _ a 1) a).trans hno
  have hregs : ∀ x, ((s.causesFound a [1]).engineNoted a 1).reg x = s.reg x :=
    State.reg_engineNoted_of_set (s := s.causesFound a [1]) hset hfirst
  have htaken : (s.causesFound a [1]).engineFault a 1 = ((s.causesFound a [1]).engineNoted a 1).takeFault a 1 0x2310 :=
    State.engineFault_eq (by decide) fun e => Bool.false_ne_true (hno.symm.trans e.1)
  have heng : ((s.causesFound a [1]).engineFault a 1).reg (ENG_FAULT a) = s.reg (ENG_FAULT a) := by
    rw [htaken]
    exact ((State.actsOn.refl _ a).takeFault.regs _ heng17 hengNot).trans (hregs _)
  have hwinch : ((s.causesFound a [1]).engineFault a 1).reg (WN_FAULT a) = s.reg (WN_FAULT a) := by
    rw [htaken]
    exact ((State.keepsRegs.refl _ 24 _).takeFault hnoted List.mem_cons_self (fun b => List.mem_cons_of_mem _ (mem_brakeStats b)) _ hwn24
      hwnNot).trans (hregs _)
  have hstopped : ((s.causesFound a [1]).engineFault a 1).stoppedInFault a := by
    rw [htaken]
    exact State.takeFault_stopped hnoted (by decide)
  have hstays : ((s.causesFound a [1]).engineFault a 1).overfull := by
    intro p
    rcases (s.causesFound a [1]).engineFault_asks a 1 p with hport | ⟨-, due, who, at_, hport⟩ <;> rw [hport]
    · exact hfull p
    · exact hfull p
  have hcauses : ((s.causesFound a [1]).engineFault a 1).get (engCauses a) = s.get (engCauses a) :=
    congrArg (fieldOf · 13 0) heng
  obtain ⟨hcode, hfound⟩ := State.cycleWork_overflows hstopped hstays (by rw [hcauses]; exact hnew)
  have hcycle : s.causesTaken a [1] = ((s.causesFound a [1]).engineFault a 1).cycleWork a := by
    refine if_neg ?_
    exact ne_true_of_eq_false (State.newFault_congr heng hwinch)
  rw [hcycle]
  refine ⟨hcode, hfound.trans ?_⟩
  rw [State.engineFault_found]
  exact congrArg Eng.found (s.modEng_engine a _)

/-! ### The statement -/

/-- A started unit whose axis 1 is initialised, in no fault state, and has channel 3 as its modulator of phase A, with full scale 100 A and
OCLIM 50 A. ENG_FAULT still records an OVERCURRENT, as it does when INIT is cleared in Fault and set again (R90), and every port streams with
33 entries in its engine queue, one more than a publish may leave there (R304). -/
def overfullUnit : State :=
  let unit := (State.reset.modSys fun y => { y with phase := .run }).put (AX_CTRL_INIT 1) 1
  let channel := ((unit.put (MOD_CFG_EN 3) 1).put (MOD_CFG_AXIS 3) 1).put (MOD_AX_EN 1) 1
  let limited := ((channel.put (ENG_SCALE_IFS 1) 100).put (ENG_PROT_OCLIM 1) 50).put (ENG_PROT_OSLIM 1) 65535
  let recorded := (limited.put (ENG_FAULT_FIRST 1) 1).put (ENG_FAULT_MAP 1) 1
  { recorded.modEng 1 fun e => { e with sampled := false } with
    ports := Vector.replicate 6 { st := .stream, engQ := List.replicate 33 ⟨0, false, 1, 0, 1, 0⟩ } }

/-- The same unit with a filter output of 20,000 in the register of its channel. -/
def overfullSampled : State := overfullUnit.sampleTaken 1 [20000]

/-- The unit stands as the clause of O24 on OVERCURRENT asks. -/
theorem overfullUnit_awaits_sample : overfullUnit.up = true ∧ overfullUnit.get (AX_CTRL_INIT 1) = 1 ∧ overfullUnit.mclkOff 1 = false ∧
    overfullUnit.eng[(1 : Fin 8)].sampled = false ∧ overfullUnit.get (MOD_AX_EN 1) = 1 ∧
    overfullUnit.readyClk 1 < overfullUnit.get (ENG_CFG_CYC 1) * 43 * overfullUnit.portN (overfullUnit.lead 1) ∧
    overfullUnit.hasAxis 1 = true ∧ overfullUnit.axisChannels 1 = [3] := by
  decide +kernel

theorem overfullUnit_measures : overfullUnit.get (MOD_CFG_ROLE 3) = 0 ∧ overfullUnit.sget (MOD_CAL_GAIN 3) = 16384 ∧
    overfullUnit.sget (MOD_CAL_OFFSET 3) = 0 ∧
    overfullUnit.get (ENG_PROT_OCLIM 1) * 32767 < 20000 * overfullUnit.get (ENG_SCALE_IFS 1) ∧
    overfullUnit.axes[(1 : Fin 8)].st ≠ .fault ∧ overfullUnit.axes[(1 : Fin 8)].st ≠ .faultReact ∧
    overfullUnit.overranged 1 [20000] = [] := by
  decide +kernel

theorem overfullSampled_overcurrent : overfullSampled.axisChannels 1 = [3] ∧ overfullSampled.get (MOD_CFG_ROLE 3) = 0 ∧
    overfullSampled.get (ENG_PROT_OCLIM 1) * 32767 <
      (overfullSampled.sget (MOD_VAL_VAL 3)).natAbs * overfullSampled.get (ENG_SCALE_IFS 1) ∧
    overfullSampled.get (ENG_UDCLIM_UDCMIN 1) = 0 ∧ overfullSampled.get (ENG_PROT_OSLIM 1) = 65535 := by
  decide +kernel

theorem overfullSampled_recorded : overfullSampled.inFault 1 = false ∧ bitOf (overfullSampled.get (engCauses 1)) 1 = true ∧
    overfullSampled.get (ENG_FAULT_FIRST 1) ≠ 0 ∧ bitOf (overfullSampled.get (engCauses 1)) 10 = false := by
  decide +kernel

theorem overfullSampled_overfull : overfullSampled.overfull := by
  unfold State.overfull
  decide +kernel

theorem overfullSampled_causes : (overfullSampled.sampleRegs 1).sampleCauses 1 [] = [1] := by
  obtain ⟨hchannels, hrole, hover, hmin, hspeed⟩ := overfullSampled_overcurrent
  exact State.sampleRegs_overcurrent hchannels hrole hover hmin hspeed

/-- The sample ends in the error code of SCHEDULE_OVERFLOW, with OVERCURRENT as the one cause found. -/
theorem exec_filterOutputReady_overfullUnit : ∃ t, exec (.filterOutputReady 1 [20000]) overfullUnit = .next t ∧
    t.get (AX_ERR_ERRCODE 1) = 0xFF56 ∧ t.eng[(1 : Fin 8)].found = 2 := by
  obtain ⟨hup, hinit, hclaim, hawaits, hen, hready, -⟩ := overfullUnit_awaits_sample
  obtain ⟨-, -, -, -, -, -, hranged⟩ := overfullUnit_measures
  obtain ⟨hno, hset, hfirst, hnew⟩ := overfullSampled_recorded
  have hsampled : Ev 0xffffffff00010002 overfullSampled (overfullSampled.sampleRegs 1) := State.sampleRegs_ev (.refl _ _)
  have hcauses : (overfullSampled.sampleRegs 1).get (engCauses 1) = overfullSampled.get (engCauses 1) := State.get_sampleRegs _ (by decide)
  have hfull : (overfullSampled.sampleRegs 1).overfull := fun p => by
    rw [hsampled.port (by decide) p]
    exact overfullSampled_overfull p
  refine ⟨_, exec_filterOutputReady_of_due hup hinit hclaim hawaits hen hready _, ?_⟩
  rw [hranged]
  change ((overfullSampled.sampleRegs 1).causesTaken 1 ((overfullSampled.sampleRegs 1).sampleCauses 1 [])).get (AX_ERR_ERRCODE 1) = 0xFF56 ∧
    ((overfullSampled.sampleRegs 1).causesTaken 1 ((overfullSampled.sampleRegs 1).sampleCauses 1 [])).eng[(1 : Fin 8)].found = 2
  rw [overfullSampled_causes]
  exact State.causesTaken_overflows ((State.inFault_congr (hsampled.same .axes (by decide)) 1).trans hno)
    ((congrArg (bitOf · 1) hcauses).trans hset) (fun e => hfirst ((State.get_sampleRegs _ (by decide)).symm.trans e))
    ((congrArg (bitOf · 10) hcauses).trans hnew) hfull

/-- Refutes O24: its clause on OVERCURRENT asks for AX_ERR 0x2310 whenever the sample shows no other cause, without the premises that
ENG_FAULT does not record an OVERCURRENT already and that no engine queue of the axis holds more than the 32 entries of R304. No publish
fills a queue so far, but the clause speaks of every state, and in this one the error code is that of SCHEDULE_OVERFLOW. -/
theorem not_engineCycle : ¬ Obligations.EngineCycle := by
  intro h
  obtain ⟨hup, hinit, hclaim, hawaits, hen, hready, haxis, hchannels⟩ := overfullUnit_awaits_sample
  obtain ⟨hrole, hgain, hoffset, hover, hfault, hreact, -⟩ := overfullUnit_measures
  obtain ⟨-, -, -, hovercurrent, -⟩ := h overfullUnit 1 hup
  obtain ⟨t, hexec, -, -, -, -, hcode, -⟩ := hovercurrent 3 20000 hinit hclaim hawaits hen hready haxis hchannels hrole hgain hoffset
    (by decide) (by decide) hover hfault hreact
  obtain ⟨u, hnext, hoverflow, hfound⟩ := exec_filterOutputReady_overfullUnit
  obtain rfl : t = u := Host.Outcome.next.inj (hexec.symm.trans hnext)
  exact absurd (hoverflow.symm.trans (hcode hfound)) (by decide)

end Sys2Proof.Machine
end
